-- ==== Sys2Proof/Word.lean ====
section
/-! DEFINITION. Word.lean: the word types of the model. -/

namespace Sys2Proof

/-- A byte of memory or of a frame. -/
abbrev Byte := BitVec 8

/-- A 32-bit word: a Weram general register (R272), a context word (R106), a register word (R38). -/
abbrev Word := BitVec 32

/-- A 64-bit long value (R272). -/
abbrev DWord := BitVec 64

/-- A Weram accumulator: 8 guard bits above a 64-bit body (R12). -/
abbrev Acc72 := BitVec 72

end Sys2Proof
end

