-- ==== Sys2Proof/Syntax.lean ====
section
/-! DEFINITION. Syntax.lean: the commands of the block, one constructor for each row of the table of operations and
events. An operand that numbers a unit is a natural number; WellFormed says its range. What a receiver of a cell link takes is its blocks after
the descrambler, each its sync header and its 64 payload bits (R171): of a frame its SOF block, its data blocks and its EOF block, and
`more` what follows. -/

namespace Sys2Proof

/-- What an instruction of a WERAM-40 pair carries besides its operand fields: the pair that issues it and its prefix bytes
in order (R290 to R292). The command holds what the instruction port delivered. -/
structure WOp where
  pair : Nat
  pfx : List Nat
deriving DecidableEq, Repr

/-- The reference of a cluster as its window comparator sees it (R79, R80): the cluster, and the level in nV. -/
structure RefAt where
  cluster : Nat
  nv : Nat
deriving DecidableEq, Repr

/-- What a converter converts (R496): the input voltage, and how far the device's transition levels lie from the ideal ones. -/
structure AdcIn where
  vin : Int
  dev : Int
deriving DecidableEq, Repr

/-- A trip source of a cluster and the level at its input (R96, R160). -/
structure SrcAt where
  src : Nat
  level : Int
deriving DecidableEq, Repr

/-- What a STATUS frame of the group link tells (R436): GROUP_ID, COMPAT, VERSION, STATE, EPOCH, time and HELD flags, and the
RELEASE and TRACK_OK masks. Its owner view decides nothing (R454). -/
structure GStat where
  gid : Nat
  compat : Nat
  version : Nat
  state : Nat
  epoch : Nat
  healthy : Bool
  diverged : Bool
  held : Bool
  release : Nat
  track : Nat
deriving DecidableEq, Repr

/-- A word of a context as a MIRROR frame carries it (R448): logical tile, local context, byte offset in the context, size and
data, and the period number of its boundary. -/
structure MirW where
  lt : Nat
  ctx : Nat
  off : Nat
  size : Nat
  data : Nat
  period : Nat
deriving DecidableEq, Repr

/-- The commands of the block (spec/opcode_table.json). -/
inductive Instr where
  /-- REGISTER_WRITE: A register write to any register that has no row of its own takes effect in its page, or enters boundary staging, and answers non-posted (R40). -/
  | registerWrite (req : Nat) (addr : Nat) (size : Nat) (data : Nat)
  /-- BLK_RST: A write of BLK_RST while the lock is open returns the block registers of the page to their reset values, except where a chapter states otherwise (R42). -/
  | blkRst (req : Nat) (addr : Nat)
  /-- BLK_EN_WRITE: Clearing BLK_EN in a PWMG, EDGE or PKEEP page disarms generators or holds pins in the dust sheet, and setting it again re-arms nothing (R43). -/
  | blkEnWrite (req : Nat) (addr : Nat) (en : Bool)
  /-- LOCK_KEY_WRITE: A write of LOCK_KEY advances, restarts or abandons the lock sequence, opens the 256-cycle window, or closes it (R45). -/
  | lockKeyWrite (req : Nat) (addr : Nat) (key : Nat)
  /-- LOCK_WINDOW_EXPIRE: The lock window closes at cycle W + 257 (R45). -/
  | lockWindowExpire (addr : Nat)
  /-- COUNTER_LO_READ: A read of the low half of a 64-bit counter returns bits [31:0] and loads the reader's high-half latch (R57). -/
  | counterLoRead (req : Nat) (addr : Nat)
  /-- COUNTER_HI_READ: A read of a high half returns the reader's latch, or the live high half with LATCH_MISMATCH when the latch records another counter (R58). -/
  | counterHiRead (req : Nat) (addr : Nat)
  /-- CONTEXT_WRITE: A core write to a context is staged for the next boundary of an armed generator, or is applied on arrival, after the checks of R107 (R27). -/
  | contextWrite (req : Nat) (addr : Nat) (size : Nat) (data : Nat)
  /-- STAGED_WRITE_RELEASE: A core write that waited for a full core stage enters it when an entry is freed at a boundary (R33). -/
  | stagedWriteRelease (tile : Nat)
  /-- ALIAS_ACCESS_RELEASE: An alias-window access held while MOVING = 1 is released to the new physical tile (R24). -/
  | aliasAccessRelease (lt : Nat)
  /-- SLEW_WRITE: A write of TBAS_SLEW starts a slew that replaces any remainder (R59). -/
  | slewWrite (req : Nat) (data : Nat)
  /-- SLEW_COMPLETE: The remaining slew reaches zero and the extra rate offset ends (R59). -/
  | slewComplete
  /-- TIME_STEP: A write of TBAS_STEP adds its value to the tick count, or is refused while a generator is armed or a ring sends edge commands (R60). -/
  | timeStep (req : Nat) (data : Nat)
  /-- TIME_MEASUREMENT: A measurement from the selected time source updates OFFSET and LOCKED and ends holdover (R61). -/
  | timeMeasurement (ofs : Nat)
  /-- HOLDOVER_TIMEOUT: After 2 s with no measurement the root enters holdover (R61). -/
  | holdoverTimeout
  /-- PPS_IN_EDGE: A rising edge of PPS_IN is timestamped to tick and fraction and SEQ is incremented (R62). -/
  | ppsInEdge (frac : Nat)
  /-- PPS_OUT_PULSE: PPS_OUT rises at each whole TAI second and stays high for WIDTH us (R62). -/
  | ppsOutPulse
  /-- TIMER_MATCH: A timer advance reaches or passes CMP and raises one event, one IRQ pulse and one MATCH_CNT increment (R64). -/
  | timerMatch (tile : Nat) (n : Nat)
  /-- TIMER_OVERFLOW: A FREE or ONESHOT timer wraps from 2^64 - 1 to 0 and sets OVF (R63). -/
  | timerOverflow (tile : Nat) (n : Nat)
  /-- TIMER_CMP_WRITE: A write of TMR_CMP_HI, or an 8-byte write, makes the compare take effect with its held low half (R65). -/
  | timerCmpWrite (req : Nat) (tile : Nat) (n : Nat) (hi : Bool) (size : Nat) (data : Nat)
  /-- TIMER_CNT_WRITE: A write of the timer count while EN = 0 sets it and restarts the prescaler phase; while EN = 1 it is refused (R66). -/
  | timerCntWrite (req : Nat) (tile : Nat) (n : Nat) (hi : Bool) (size : Nat) (data : Nat)
  /-- TIMER_START_EVENT: An event on a timer's start input sets EN, or counts as an overrun (R66). -/
  | timerStartEvent (tile : Nat) (n : Nat)
  /-- WATCHDOG_SERVICE: A write of WDOG_SVC is a valid service that resets ELAPSED, or a violation that enters stage one (R71). -/
  | watchdogService (req : Nat) (tile : Nat) (data : Nat)
  /-- WATCHDOG_TIMEOUT: ELAPSED reaches TIMEOUT and the watchdog enters stage one (R72). -/
  | watchdogTimeout (tile : Nat)
  /-- WDOG_TIMEOUT_WRITE: A write of TIMEOUT at or below ELAPSED enters stage one in the cycle of the write (R72). -/
  | wdogTimeoutWrite (req : Nat) (tile : Nat) (data : Nat)
  /-- WDOG_STAGE2_WRITE: A write of STAGE2 at or below ELAPSED in stage one enters stage two at once (R72). -/
  | wdogStage2Write (req : Nat) (tile : Nat) (data : Nat)
  /-- WDOG_EN_WRITE: A write of WDOG_CTRL.EN enables the watchdog; once enabled, a write of 0 is refused (R74). -/
  | wdogEnWrite (req : Nat) (tile : Nat) (en : Bool)
  /-- WATCHDOG_STAGE2: In stage one ELAPSED reaches STAGE2, and the keeper hands the logical tile to a saggar tile or resets the core pairs (R73). -/
  | watchdogStage2 (tile : Nat)
  /-- KEEPER_WDOG_STAGE2: Stage two of the keeper watchdog restarts the keeper's three cores alone (R77). -/
  | keeperWdogStage2
  /-- REF_SEL_WRITE: A write of AFE_REF_CTRL.SEL changes the reference and starts settling, or is refused while a converter is enabled (R81). -/
  | refSelWrite (req : Nat) (cluster : Nat) (data : Nat)
  /-- REF_SETTLED: The reference has settled inside its window and REF_READY rises (R80). -/
  | refSettled (cluster : Nat) (nv : Nat)
  /-- REF_FAULT: The reference leaves its +-2 % window, clearing REF_READY and setting REF_FAULT (R80). -/
  | refFault (ref : RefAt)
  /-- ADC_CTRL_WRITE: A write of ADC_CTRL enables or disables a converter, or is refused for fields that may not change while EN = 1 (R87). -/
  | adcCtrlWrite (req : Nat) (conv : Nat) (data : Nat)
  /-- ADC_POWERED: The converter's 2 us power-up ends and POWERED is set (R88). -/
  | adcPowered (conv : Nat)
  /-- ADC_START_WRITE: A write of ADC_START takes effect and, in TIME mode with EN = 1, restarts the series and skips past instants (R85). -/
  | adcStartWrite (req : Nat) (conv : Nat) (hi : Bool) (size : Nat) (data : Nat)
  /-- ADC_START_EVENT: A start event at a converter's lath input runs a sequence, or is counted as an overrun, an idle trigger or refused for the reference (R88). -/
  | adcStartEvent (conv : Nat)
  /-- ADC_TIME_INSTANT: A TIME-mode sample instant comes due and starts a sequence, or is accounted under R88 (R85). -/
  | adcTimeInstant (conv : Nat)
  /-- CONVERSION_DONE: A conversion completes, its code is corrected and its 16-byte record goes to the sample bus, the result registers and the kiln log (R91). -/
  | conversionDone (conv : Nat) (x : AdcIn)
  /-- SAMPLE_DELIVERY: A sample record reaches the loop/edge islands of every tile of the cluster and triggers bound contexts (R92). -/
  | sampleDelivery (cluster : Nat)
  /-- ADC_RESULT_READ: A read of ADC_RESn returns word 0 of the last record and loads the reader's tick latch with its TICK (R94). -/
  | adcResultRead (req : Nat) (conv : Nat) (ch : Nat)
  /-- CMP_EN_WRITE: A write of a comparator's EN powers it up, or is refused while a bound generator is armed (R99). -/
  | cmpEnWrite (req : Nat) (cmp : Nat) (data : Nat)
  /-- COMPARATOR_READY: One microsecond after EN, the comparator's paths become active and READY is set (R99). -/
  | comparatorReady (cmp : Nat)
  /-- THRESHOLD_WRITE: A write of THR_SH copies it to THR_ACT at once, or holds it for the next load event, counting a lost load (R98). -/
  | thresholdWrite (req : Nat) (cmp : Nat) (data : Nat)
  /-- THRESHOLD_LOAD_EVENT: A threshold-load event with LOAD = 1 copies a waiting THR_SH to THR_ACT (R98). -/
  | thresholdLoadEvent (cmp : Nat)
  /-- COMPARATOR_ACTIVATION: The filtered event path accepts an activation and raises a lath event, an IRQ pulse and ACT_CNT (R100). -/
  | comparatorActivation (cmp : Nat)
  /-- TRIP_ACTIVATION: A TRIP input's filtered event path accepts an activation and raises a lath event and ACT_CNT (R160). -/
  | tripActivation (trip : Nat)
  /-- CAPTURE: An accepted CAPIN edge is stamped to its pad tick and stored in the two-entry FIFO, or overwrites the newest entry (R101). -/
  | capture (capin : Nat) (level : Bool)
  /-- CAPTURE_FIFO_READ: A read of CAP_DATA removes and returns the head entry, latching the high half for a 4-byte read (R103). -/
  | captureFifoRead (req : Nat) (capin : Nat) (size : Nat)
  /-- SOFTWARE_TRIGGER: A write of LENG_SWTRIG triggers the named context (R108). -/
  | softwareTrigger (req : Nat) (tile : Nat) (ctx : Nat)
  /-- DISPATCH: The scheduler assigns a pending trigger to a free slice and loads the voted context into its lanes in 8 ticks (R117). -/
  | dispatch (tile : Nat) (badWord : Nat)
  /-- RUN_COMMIT: After its last pair a run is voted and commits its compares, shared values, wake-ups, events and state write-back in one tick (R119). -/
  | runCommit (tile : Nat) (slice : Nat) (lanes : Nat) (nomaj : Bool)
  /-- SHARED_VALUE_WRITE: A core write of LENG_SHVn sends a shared value on the cluster's shared-value path (R122). -/
  | sharedValueWrite (req : Nat) (tile : Nat) (idx : Nat) (data : Nat)
  /-- SHARED_VALUE_APPLY: Six ticks after a commit or write, the shared value takes effect in every copy of the cluster (R122). -/
  | sharedValueApply (cluster : Nat)
  /-- CONTEXT_SCRUB: The scrubber reads, votes and repairs a context-store word, clearing EN where no majority exists (R126). -/
  | contextScrub (tile : Nat) (ctx : Nat) (word : Nat) (copies : Nat)
  /-- PROGRAM_SCRUB: The scrubber corrects single-bit errors in the loop-program store and records double-bit errors (R127). -/
  | programScrub (tile : Nat) (stepAddr : Nat) (bad : Nat)
  /-- PROGRAM_STEP_WRITE: A step write reaches the loop-program store, is refused under R113, or is held while a run has the step in its window (R132). -/
  | programStepWrite (req : Nat) (addr : Nat) (size : Nat) (data : Nat)
  /-- HELD_STEP_WRITE_APPLY: A held step write applies once the runs that hold the step have ended, and dispatch resumes (R132). -/
  | heldStepWriteApply (tile : Nat)
  /-- LSTEP_NOP: Loop step NOP does nothing (R113). -/
  | lstepNop (tile : Nat) (slice : Nat)
  /-- LSTEP_END: Loop step END ends the run (R113). -/
  | lstepEnd (tile : Nat) (slice : Nat)
  /-- LSTEP_BR: Loop step BR jumps forward if its condition holds, or faults TARGET (R111). -/
  | lstepBr (tile : Nat) (slice : Nat)
  /-- LSTEP_JMP: Loop step JMP jumps forward within the window, or faults TARGET (R111). -/
  | lstepJmp (tile : Nat) (slice : Nat)
  /-- LSTEP_LDC: Loop step LDC loads a word of the working copy of the context (R113). -/
  | lstepLdc (tile : Nat) (slice : Nat)
  /-- LSTEP_LDI: Loop step LDI loads its immediate (R113). -/
  | lstepLdi (tile : Nat) (slice : Nat)
  /-- LSTEP_LDW: Loop step LDW loads a shared value of the cluster (R113). -/
  | lstepLdw (tile : Nat) (slice : Nat)
  /-- LSTEP_LDG: Loop step LDG loads a generator's PER, period number or counter as at dispatch (R113). -/
  | lstepLdg (tile : Nat) (slice : Nat)
  /-- LSTEP_LDP: Loop step LDP loads PLAN_VAL when its tag matches the period, or the fallback with STALE set (R113). -/
  | lstepLdp (tile : Nat) (slice : Nat)
  /-- LSTEP_ADD: Loop step ADD adds two registers with saturation (R114). -/
  | lstepAdd (tile : Nat) (slice : Nat)
  /-- LSTEP_SUB: Loop step SUB subtracts two registers with saturation (R114). -/
  | lstepSub (tile : Nat) (slice : Nat)
  /-- LSTEP_MUL: Loop step MUL multiplies and rounds a Q31 product (R114). -/
  | lstepMul (tile : Nat) (slice : Nat)
  /-- LSTEP_MAC: Loop step MAC adds a product into an accumulator (R114). -/
  | lstepMac (tile : Nat) (slice : Nat)
  /-- LSTEP_MSU: Loop step MSU subtracts a product from an accumulator (R114). -/
  | lstepMsu (tile : Nat) (slice : Nat)
  /-- LSTEP_LDY: Loop step LDY loads an accumulator from a register (R114). -/
  | lstepLdy (tile : Nat) (slice : Nat)
  /-- LSTEP_MOVY: Loop step MOVY rounds an accumulator into a register (R114). -/
  | lstepMovy (tile : Nat) (slice : Nat)
  /-- LSTEP_ABS: Loop step ABS gives the saturated absolute value (R114). -/
  | lstepAbs (tile : Nat) (slice : Nat)
  /-- LSTEP_NEG: Loop step NEG gives the saturated negation (R114). -/
  | lstepNeg (tile : Nat) (slice : Nat)
  /-- LSTEP_SHR: Loop step SHR shifts right toward minus infinity (R114). -/
  | lstepShr (tile : Nat) (slice : Nat)
  /-- LSTEP_SHL: Loop step SHL shifts left with saturation (R114). -/
  | lstepShl (tile : Nat) (slice : Nat)
  /-- LSTEP_MIN: Loop step MIN gives the smaller of two registers (R113). -/
  | lstepMin (tile : Nat) (slice : Nat)
  /-- LSTEP_MAX: Loop step MAX gives the larger of two registers (R113). -/
  | lstepMax (tile : Nat) (slice : Nat)
  /-- LSTEP_LIM: Loop step LIM clamps between two registers and sets LIMF (R114). -/
  | lstepLim (tile : Nat) (slice : Nat)
  /-- LSTEP_LIMI: Loop step LIMI clamps between immediate Q15 limits (R113). -/
  | lstepLimi (tile : Nat) (slice : Nat)
  /-- LSTEP_PI: Loop step PI computes a clamped proportional-integral term and updates its state (R115). -/
  | lstepPi (tile : Nat) (slice : Nat)
  /-- LSTEP_FIL1: Loop step FIL1 computes a first-order filter and updates its state (R115). -/
  | lstepFil1 (tile : Nat) (slice : Nat)
  /-- LSTEP_RES: Loop step RES computes a resonant term and shifts its two states (R115). -/
  | lstepRes (tile : Nat) (slice : Nat)
  /-- LSTEP_DUTY: Loop step DUTY converts a duty into a compare value in ticks x 32 (R115). -/
  | lstepDuty (tile : Nat) (slice : Nat)
  /-- LSTEP_CMPW: Loop step CMPW stages a compare for a generator's shadow (R120). -/
  | lstepCmpw (tile : Nat) (slice : Nat)
  /-- LSTEP_STS: Loop step STS writes a state word of the working copy (R113). -/
  | lstepSts (tile : Nat) (slice : Nat)
  /-- LSTEP_STW: Loop step STW stages a shared value (R122). -/
  | lstepStw (tile : Nat) (slice : Nat)
  /-- LSTEP_WAKE: Loop step WAKE stages a trigger of another context (R108). -/
  | lstepWake (tile : Nat) (slice : Nat)
  /-- LSTEP_EVT: Loop step EVT stages an event of a LENG producer (R113). -/
  | lstepEvt (tile : Nat) (slice : Nat)
  /-- GENERATOR_RUN: A write of RUN = 1 schedules the first reload from START and PER, or is refused for a shadow PER below 64 (R134). -/
  | generatorRun (req : Nat) (tile : Nat) (gen : Nat)
  /-- GENERATOR_STOP: A write of RUN = 0 stops the counter, puts both outputs into the dust sheet and clears ARM (R134). -/
  | generatorStop (req : Nat) (tile : Nat) (gen : Nat)
  /-- GENERATOR_ARM: A write of ARM = 1 enters ARMING, or is refused for binding none or CFG_ERR (R158). -/
  | generatorArm (req : Nat) (tile : Nat) (gen : Nat)
  /-- GENERATOR_DISARM: A write of ARM = 0 disarms in any state, clears a trip latch and sends the dust sheet or a block command at once (R159). -/
  | generatorDisarm (req : Nat) (tile : Nat) (gen : Nat)
  /-- TRIP_CLEAR_REQUEST: A write of CLR_REQ = 1 requests a trip clear at the first reload with no bound source active (R163). -/
  | tripClearRequest (req : Nat) (tile : Nat) (gen : Nat)
  /-- GENERATOR_RELOAD: The counter reloads to 0, the shadow is copied into force, ZERO fires, the period number advances and the period's edges and sets are formed (R139). -/
  | generatorReload (tile : Nat) (gen : Nat) (nomaj : Bool) (ledErr : Int)
  /-- PEND_EVENT: The counter reaches PER - 1 and the PEND event occurs (R146). -/
  | pendEvent (tile : Nat) (gen : Nat)
  /-- COMPARE_MATCH: The counter enters a compare's tick part, moving M and its outputs and raising ON, OFF, EVA or EVB (R135). -/
  | compareMatch (tile : Nat) (gen : Nat) (which : Nat) (upset : Nat)
  /-- DEAD_TIME_EXPIRY: DT after M moves, the delayed rise of H or L takes place (R150). -/
  | deadTimeExpiry (tile : Nat) (gen : Nat) (isH : Bool) (upset : Nat)
  /-- LANE_RELEASE: Five ticks after a claim, the three edge lanes return to the pool (R164). -/
  | laneRelease (tile : Nat)
  /-- DELAYED_EDGE_PLACE: An edge that found fewer than three free lanes is placed in the first tick that has three (R165). -/
  | delayedEdgePlace (tile : Nat) (upset : Nat)
  /-- SHADOW_WRITE: A core write of PER, a compare or PHASE enters the shadow, sets LATE if late, and enters in force for an immediate event compare (R139). -/
  | shadowWrite (req : Nat) (tile : Nat) (gen : Nat) (reg : Nat) (data : Nat)
  /-- SHADOW_COMMIT_ENTRY: A CMPW commit enters the generator shadow 2 ticks after its commit tick (R139). -/
  | shadowCommitEntry (tile : Nat) (gen : Nat)
  /-- PHASE_LOAD: A SYNC event loads the counter with PHASE and applies catch-up to a passed off edge (R143). -/
  | phaseLoad (tile : Nat) (page : Nat) (which : Nat)
  /-- BIND_WRITE: A write of PWMG_BIND sets the outputs, or is refused for a taken pin or node (R154). -/
  | bindWrite (req : Nat) (tile : Nat) (gen : Nat) (data : Nat)
  /-- TRIP_SOURCE_ACTIVE: A bound comparator or TRIP pin turns active outside blanking and trips the generator into the dust sheet (R162). -/
  | tripSourceActive (cluster : Nat) (x : SrcAt)
  /-- BLANKING_CLOSE: A blanking window closes while a source is active, and the generator trips (R161). -/
  | blankingClose (tile : Nat) (gen : Nat)
  /-- LANE_LOCK_LOSS: A lane loses block lock, discarding frames partly received and abandoning a frame partly sent (R195). -/
  | laneLockLoss (kind : Nat) (group : Nat) (lane : Nat)
  /-- LANE_RESET: A write of SERD_LCTRLn.RST resets the lane (R195). -/
  | laneReset (req : Nat) (lane : Nat)
  /-- MEAS_RECEIVE: A MEAS frame that passes its CRC and is newer goes to the frame bus and the kiln log and keeps its position alive (R182). -/
  | measReceive (ring : Nat) (dir : Nat) (sof : Nat × Nat) (blocks : List (Nat × Nat)) (eof : Nat × Nat) (more : List (Nat × Nat))
  /-- MRSP_RECEIVE: The first MRSP copy matching an outstanding request queues a response and returns the credit (R184). -/
  | mrspReceive (ring : Nat) (dir : Nat) (sof : Nat × Nat) (blocks : List (Nat × Nat)) (eof : Nat × Nat) (more : List (Nat × Nat))
  /-- ECHOR_RECEIVE: An ECHOR is stamped on arrival and the delay to its position is computed (R187). -/
  | echorReceive (ring : Nat) (dir : Nat) (sof : Nat × Nat) (blocks : List (Nat × Nat)) (eof : Nat × Nat) (more : List (Nat × Nat)) (frac : Nat)
  /-- ENUM_RETURN: The returning CW ENUM frame records FOUND (R188). -/
  | enumReturn (ring : Nat) (dir : Nat) (sof : Nat × Nat) (blocks : List (Nat × Nat)) (eof : Nat × Nat) (more : List (Nat × Nat))
  /-- BRK_STATUS_RECEIVE: A STATUS block with BRK = 1 updates RING_BRK and WHOLE (R191). -/
  | brkStatusReceive (ring : Nat) (dir : Nat) (line : List (Nat × Nat))
  /-- BRK_REPORT_TIMEOUT: No BRK status has arrived for 10 us, clearing the VALID bit of that direction (R191). -/
  | brkReportTimeout (ring : Nat) (dir : Nat)
  /-- FRAME_TRANSMIT: The ring transmitter starts the next queued frame in its order of service (R180). -/
  | frameTransmit (ring : Nat) (dir : Nat)
  /-- BLOCK_COMMAND_REPEAT: A block command is sent again at 2 us and at 4 us (R180). -/
  | blockCommandRepeat (ring : Nat)
  /-- MREQ_ENQUEUE: A write of RING_MREQ_HI, or an 8-byte write, enqueues a management request, or records FULL (R184). -/
  | mreqEnqueue (req : Nat) (ring : Nat) (hi : Bool) (size : Nat) (data : Nat)
  /-- MREQ_ISSUE: The head request is issued once its node has a credit and the response queue has room (R184). -/
  | mreqIssue (ring : Nat)
  /-- MREQ_TIMEOUT: No MRSP arrives within MGMT_TMO, and a TIMEOUT response is queued with the credit reclaimed (R184). -/
  | mreqTimeout (ring : Nat)
  /-- MRSP_READ: A read of RING_MRSP removes the head response (R184). -/
  | mrspRead (req : Nat) (ring : Nat)
  /-- TIME_FRAME_SEND: Every TIME_PER us a TIME frame is sent in both directions (R185). -/
  | timeFrameSend (ring : Nat)
  /-- CALIBRATION: A write of CAL = 1 starts delay calibration of every position that is not LOST (R187). -/
  | calibration (req : Nat) (ring : Nat)
  /-- CALIBRATION_DONE: Calibration finishes and raises IRQ_RAW bit 4 (R187). -/
  | calibrationDone (ring : Nat)
  /-- ENUMERATION: A write of ENUM = 1 sends an ENUM frame on CW, and on CCW when CW is broken (R188). -/
  | enumeration (req : Nat) (ring : Nat) (force : Bool)
  /-- POSITION_LOST: No valid up frame from an UP position for LOSS_TMO makes it LOST (R193). -/
  | positionLost (ring : Nat) (pos : Nat)
  /-- AUTO_JOIN_ENUM: Every 1 ms with AUTO_JOIN, a non-forced ENUM is sent while a position is not UP (R194). -/
  | autoJoinEnum (ring : Nat)
  /-- JOIN_COMPLETE: After reading caps, setting credits and calibrating, the position becomes UP (R194). -/
  | joinComplete (ring : Nat) (pos : Nat)
  /-- NODE_FORWARD: A node forwards a frame within 50 ticks, or holds it behind one of its own frames (R196). -/
  | nodeForward (ring : Nat) (place : Nat) (dir : Nat) (sof : Nat × Nat) (blocks : List (Nat × Nat)) (eof : Nat × Nat) (held : Nat)
  /-- NODE_EDGE_SET_RECEIVE: A node takes a newer edge set and discards it, makes it current or makes it pending, by its BASE (R197). -/
  | nodeEdgeSetReceive (ring : Nat) (place : Nat) (sof : Nat × Nat) (blocks : List (Nat × Nat)) (eof : Nat × Nat)
  /-- NODE_ENTRY_APPLY: At an entry's instant the node changes the output, holding a rise under the interlock (R197). -/
  | nodeEntryApply (ring : Nat) (place : Nat) (leg : Nat)
  /-- NODE_PERIOD_END: A leg's period ends, a pending set becomes current or the current set repeats, and the leg self-blocks at the repeat limit (R198). -/
  | nodePeriodEnd (ring : Nat) (place : Nat) (leg : Nat)
  /-- NODE_BLOCK_COMMAND: A newer block command turns the leg off and drops its sets (R199). -/
  | nodeBlockCommand (ring : Nat) (place : Nat) (sof : Nat × Nat) (blocks : List (Nat × Nat)) (eof : Nat × Nat)
  /-- NODE_LOSS_OF_LINK: LOL_TMO without block lock on both ports self-blocks every leg (R199). -/
  | nodeLossOfLink (ring : Nat) (place : Nat)
  /-- NODE_TIME_FRAME: A node sets its time from a TIME frame at the SOF arrival (R185). -/
  | nodeTimeFrame (ring : Nat) (place : Nat) (dir : Nat) (sof : Nat × Nat) (blocks : List (Nat × Nat)) (eof : Nat × Nat) (frac : Nat)
  /-- NODE_TIME_OK_TIMEOUT: After 1 ms without a valid TIME frame, TIME_OK becomes 0 (R196). -/
  | nodeTimeOkTimeout (ring : Nat) (place : Nat)
  /-- NODE_ECHO: The addressed node answers an ECHO with an ECHOR from the arrival port (R187). -/
  | nodeEcho (ring : Nat) (place : Nat) (dir : Nat) (sof : Nat × Nat) (blocks : List (Nat × Nat)) (eof : Nat × Nat) (turn : Nat)
  /-- NODE_ENUM: A node takes or keeps its position from an ENUM frame and forwards it with NEXT updated (R188). -/
  | nodeEnum (ring : Nat) (place : Nat) (dir : Nat) (sof : Nat × Nat) (blocks : List (Nat × Nat)) (eof : Nat × Nat)
  /-- NODE_MREQ: A node answers a newer MREQ within 10 us with OK, NOREG or REFUSED (R200). -/
  | nodeMreq (ring : Nat) (place : Nat) (sof : Nat × Nat) (blocks : List (Nat × Nat)) (eof : Nat × Nat)
  /-- NODE_MEAS_SAMPLE: At each measurement instant the node samples and sends a MEAS frame with NEW = 1 (R200). -/
  | nodeMeasSample (ring : Nat) (place : Nat) (words : List Nat)
  /-- NODE_HEARTBEAT: After 50 us with no MEAS frame the node sends one with NEW = 0 (R200). -/
  | nodeHeartbeat (ring : Nat) (place : Nat) (words : List Nat)
  /-- FORECAST_LAUNCH: A launch point falls OFS ticks after a reload or on a lath event, predicting T and p, or is skipped (R209). -/
  | forecastLaunch (cluster : Nat) (job : Nat)
  /-- LAUNCH_START: The engine starts a waiting launch, in order of launch tick and job number (R210). -/
  | launchStart (cluster : Nat)
  /-- GATHER_DONE: The gather of the cells' states ends (R204). -/
  | gatherDone (cluster : Nat) (bad : Bool)
  /-- FETCH_DONE: The fetch of the model bank from HBM ends, or faults for MODEL or HBM (R208). -/
  | fetchDone (cluster : Nat) (ue : Bool)
  /-- RANK_DONE: The ranking of the gathered states ends (R205). -/
  | rankDone (cluster : Nat)
  /-- EVALUATE_DONE: The cost of every candidate has been evaluated (R206). -/
  | evaluateDone (cluster : Nat)
  /-- SELECT_DONE: The winner is selected and A decides between on time, retargeted and late (R213). -/
  | selectDone (cluster : Nat)
  /-- PLAN_COMMIT_ARRIVAL: A plan write reaches the boundary staging of every tile that holds or mirrors the context (R211). -/
  | planCommitArrival (cluster : Nat)
  /-- LAUNCH_END: The commit of a launch completes and the launch ends with its outcome counted (R214). -/
  | launchEnd (cluster : Nat)
  /-- JOB_ENABLE: A write of JOB_CTRL.EN = 1 enables a job, or is refused for bad runs, bases or overlap (R215). -/
  | jobEnable (req : Nat) (cluster : Nat) (job : Nat)
  /-- KLOG_WRITE: The recorder writes a buffered record to HBM, and FILL mode ends at CAP (R217). -/
  | klogWrite (cluster : Nat)
  /-- KLOG_STOP_EVENT: A stop event in RUNNING sets STOPSEQ and enters STOPPING (R221). -/
  | klogStopEvent (cluster : Nat)
  /-- KLOG_POST_DONE: POST records after the stop event have been produced and production ends (R221). -/
  | klogPostDone (cluster : Nat)
  /-- KLOG_DRAINED: The buffer empties after production ended, and STATE becomes STOPPED or OFF (R221). -/
  | klogDrained (cluster : Nat)
  /-- KLOG_CLEAR: A write of CLEAR in OFF or STOPPED resets WPTR, PROD, DROP and STOPSEQ (R221). -/
  | klogClear (req : Nat) (cluster : Nat)
  /-- LATH_TAKE: A lath takes a production and delivers one arrival to every consumer input whose row has its bit (R229). -/
  | lathTake (lath : Nat) (prod : Nat)
  /-- CONSUMER_TAKE: A consumer input takes an arrival, runs it or counts an overrun, by its kind (R225). -/
  | consumerTake (lath : Nat) (input : Nat)
  /-- ROUTE_COMMIT: A write of LATH_COMMIT.COMMIT replaces the row in force of CSEL with the staging row in one cycle (R230). -/
  | routeCommit (req : Nat) (lath : Nat)
  /-- ROUTE_LOAD: A write of LATH_COMMIT.LOAD copies the row in force of CSEL into the staging row (R230). -/
  | routeLoad (req : Nat) (lath : Nat)
  /-- LATH_SELECT: A write of LATH_SEL copies the counts of CSEL and PSEL into the requester's snapshot (R231). -/
  | lathSelect (req : Nat) (lath : Nat) (data : Nat)
  /-- SOFTWARE_EVENT: A write of LATH_SWEV fires the named software producer (R232). -/
  | softwareEvent (req : Nat) (lath : Nat) (n : Nat)
  /-- GPIO_EDGE: A filtered GPIO edge fires its producer, counts and pulses its IRQ bit (R238). -/
  | gpioEdge (pin : Nat) (level : Bool)
  /-- GPIO_LATCHED_EDGE: While the cluster lath island is stopped, an edge is counted in the asynchronous latch and requests a wake (R238). -/
  | gpioLatchedEdge (pin : Nat) (level : Bool)
  /-- GPIO_OUTPUT_ACTION: A run of a GPIO action input toggles, sets or clears its GPIO_OUT bit (R239). -/
  | gpioOutputAction (pin : Nat)
  /-- DOORBELL: A doorbell write adds an arrival to a source count, enters the wake buffer, or is refused (R241). -/
  | doorbell (req : Nat) (tile : Nat) (data : Nat)
  /-- INTERRUPT_ACCEPT: A pair accepts the presented level and the INTC records INTC_TAKEN, zeroes the count and starts the hold-off (R282). -/
  | interruptAccept (pair : Nat)
  /-- HOLDOFF_EXPIRY: The hold-off of a group ends and its sources may be presented again (R246). -/
  | holdoffExpiry (group : Nat)
  /-- INTC_EN_WRITE: A write that clears EN or changes PAIR withdraws a source's presentation (R247). -/
  | intcEnWrite (req : Nat) (tile : Nat) (isPair : Bool) (w : Nat) (data : Nat)
  /-- DINTC_CLAIM: A read of DINTC_CLAIM by a core pair claims the lowest eligible device source and starts its group's hold-off (R250). -/
  | dintcClaim (req : Nat)
  /-- LOCKSTEP_MISMATCH: The checker finds the two copies of a pair different, and the pair rolls back to its checkpoint (R253). -/
  | lockstepMismatch (pair : Nat) (whr : Nat)
  /-- ROLLBACK_COMPLETE: The checkpoint is restored and the pair enters the machine-check vector with cause LOCKSTEP (R253). -/
  | rollbackComplete (pair : Nat)
  /-- CHECKPOINT: The pair takes a checkpoint at the first suitable boundary after a period boundary, and empties its release log (R254). -/
  | checkpoint (pair : Nat)
  /-- LONG_UNIT_RESULT: A long unit writes its result into its L register (R267). -/
  | longUnitResult (pair : Nat)
  /-- STORE_DRAIN: A buffered store drains from the store buffer to memory (R268). -/
  | storeDrain (pair : Nat)
  /-- DATA_RESPONSE: The response of an unbuffered access returns and ends the freeze, with a precise bus-error machine check (R268). -/
  | dataResponse (pair : Nat)
  /-- LOCK_BROKEN_ENTRY: After a lock it owned is broken, the pair enters vector 0x0A0 at the first boundary with EXL = 0 (R281). -/
  | lockBrokenEntry (pair : Nat)
  /-- CORE_HOLD: A write of CORE_CTRL.HOLD holds the pair at reset, or releases it to run from vector 0x000 (R285). -/
  | coreHold (req : Nat) (pair : Nat) (hold : Bool)
  /-- CORE_PAIR_RESET: A write of CORE_CTRL.RST, or another trigger, resets a pair after draining it (R402). -/
  | corePairReset (req : Nat) (pair : Nat)
  /-- UNDEFINED_OPCODE: An unlisted opcode, escape or breach of the prefix rules raises the illegal-instruction exception (R303). -/
  | undefinedOpcode (w : WOp) (esc : Nat) (op : Nat)
  /-- NOP: NOP does nothing (R303). -/
  | iNop (w : WOp)
  /-- MOV: MOV copies a G register (R303). -/
  | iMov (w : WOp) (x : Nat)
  /-- MOVI: MOVI loads an immediate (R303). -/
  | iMovi (w : WOp) (x : Nat) (imm : Nat)
  /-- MOVL: MOVL copies an L register into a G register (R303). -/
  | iMovl (w : WOp) (x : Nat)
  /-- MTL: MTL writes an L register from a G register (R303). -/
  | iMtl (w : WOp) (x : Nat)
  /-- MVFL: MVFL copies the flags into a G register (R303). -/
  | iMvfl (w : WOp) (x : Nat)
  /-- MTFL: MTFL writes the flags from a G register (R303). -/
  | iMtfl (w : WOp) (x : Nat)
  /-- CLRSAT: CLRSAT clears SAT (R303). -/
  | iClrsat (w : WOp)
  /-- SEL: SEL selects one of two registers by a condition (R303). -/
  | iSel (w : WOp) (x : Nat) (y : Nat) (c : Nat)
  /-- RDFEAT: RDFEAT reads a feature register (R311). -/
  | iRdfeat (w : WOp) (x : Nat) (k : Nat)
  /-- LOOP: LOOP sets LS, LE and LC0 from a register (R306). -/
  | iLoop (w : WOp) (x : Nat) (disp : Nat)
  /-- LOOPI: LOOPI sets LS, LE and LC0 from an immediate count (R306). -/
  | iLoopi (w : WOp) (k : Nat) (disp : Nat)
  /-- MTLC: MTLC writes LC0 or LC1 (R303). -/
  | iMtlc (w : WOp) (x : Nat) (k : Nat)
  /-- MFLC: MFLC reads LC0 or LC1 (R303). -/
  | iMflc (w : WOp) (x : Nat) (k : Nat)
  /-- ADD: ADD adds two registers, wrapping or saturating (R303). -/
  | iAdd (w : WOp) (x : Nat) (y : Nat)
  /-- SUB: SUB subtracts two registers (R303). -/
  | iSub (w : WOp) (x : Nat) (y : Nat)
  /-- ADC: ADC adds with carry (R303). -/
  | iAdc (w : WOp) (x : Nat) (y : Nat)
  /-- SBC: SBC subtracts with borrow (R303). -/
  | iSbc (w : WOp) (x : Nat) (y : Nat)
  /-- AND: AND computes a bitwise and (R303). -/
  | iAnd (w : WOp) (x : Nat) (y : Nat)
  /-- OR: OR computes a bitwise or (R303). -/
  | iOr (w : WOp) (x : Nat) (y : Nat)
  /-- XOR: XOR computes a bitwise exclusive or (R303). -/
  | iXor (w : WOp) (x : Nat) (y : Nat)
  /-- ANDN: ANDN computes Ga and not Gb (R303). -/
  | iAndn (w : WOp) (x : Nat) (y : Nat)
  /-- MIN: MIN gives the signed minimum (R303). -/
  | iMin (w : WOp) (x : Nat) (y : Nat)
  /-- MAX: MAX gives the signed maximum (R303). -/
  | iMax (w : WOp) (x : Nat) (y : Nat)
  /-- MINU: MINU gives the unsigned minimum (R303). -/
  | iMinu (w : WOp) (x : Nat) (y : Nat)
  /-- MAXU: MAXU gives the unsigned maximum (R303). -/
  | iMaxu (w : WOp) (x : Nat) (y : Nat)
  /-- CMP: CMP sets the flags of a subtraction (R303). -/
  | iCmp (w : WOp) (x : Nat) (y : Nat)
  /-- TST: TST sets the flags of a bitwise and (R303). -/
  | iTst (w : WOp) (x : Nat) (y : Nat)
  /-- ADDI: ADDI adds an immediate (R303). -/
  | iAddi (w : WOp) (x : Nat) (imm : Nat)
  /-- ANDI: ANDI ands with an immediate (R303). -/
  | iAndi (w : WOp) (x : Nat) (imm : Nat)
  /-- ORI: ORI ors with an immediate (R303). -/
  | iOri (w : WOp) (x : Nat) (imm : Nat)
  /-- XORI: XORI exclusive-ors with an immediate (R303). -/
  | iXori (w : WOp) (x : Nat) (imm : Nat)
  /-- CMPI: CMPI compares with an immediate (R303). -/
  | iCmpi (w : WOp) (x : Nat) (imm : Nat)
  /-- NEG: NEG negates a register (R303). -/
  | iNeg (w : WOp) (x : Nat)
  /-- ABS: ABS gives the absolute value (R303). -/
  | iAbs (w : WOp) (x : Nat)
  /-- NOT: NOT complements a register (R303). -/
  | iNot (w : WOp) (x : Nat)
  /-- CLZ: CLZ counts leading zeros (R303). -/
  | iClz (w : WOp) (x : Nat)
  /-- CLS: CLS counts redundant sign bits (R303). -/
  | iCls (w : WOp) (x : Nat)
  /-- SEXTH: SEXTH sign-extends bits [15:0] (R303). -/
  | iSexth (w : WOp) (x : Nat)
  /-- ZEXTH: ZEXTH zero-extends bits [15:0] (R303). -/
  | iZexth (w : WOp) (x : Nat)
  /-- SEXTB: SEXTB sign-extends bits [7:0] (R303). -/
  | iSextb (w : WOp) (x : Nat)
  /-- ZEXTB: ZEXTB zero-extends bits [7:0] (R303). -/
  | iZextb (w : WOp) (x : Nat)
  /-- SHL: SHL shifts left by a register count (R303). -/
  | iShl (w : WOp) (x : Nat) (y : Nat)
  /-- SHR: SHR shifts right logically by a register count (R303). -/
  | iShr (w : WOp) (x : Nat) (y : Nat)
  /-- ASR: ASR shifts right arithmetically with rounding (R303). -/
  | iAsr (w : WOp) (x : Nat) (y : Nat)
  /-- ROR: ROR rotates right (R303). -/
  | iRor (w : WOp) (x : Nat) (y : Nat)
  /-- SHLI: SHLI shifts left by an immediate count (R303). -/
  | iShli (w : WOp) (x : Nat) (k : Nat)
  /-- SHRI: SHRI shifts right logically by an immediate count (R303). -/
  | iShri (w : WOp) (x : Nat) (k : Nat)
  /-- ASRI: ASRI shifts right arithmetically by an immediate count (R303). -/
  | iAsri (w : WOp) (x : Nat) (k : Nat)
  /-- RORI: RORI rotates right by an immediate count (R303). -/
  | iRori (w : WOp) (x : Nat) (k : Nat)
  /-- MUL: MUL gives the low 32 bits of a product (R303). -/
  | iMul (w : WOp) (x : Nat) (y : Nat)
  /-- MULHS: MULHS gives the high 32 bits of a signed product (R303). -/
  | iMulhs (w : WOp) (x : Nat) (y : Nat)
  /-- MULHU: MULHU gives the high 32 bits of an unsigned product (R303). -/
  | iMulhu (w : WOp) (x : Nat) (y : Nat)
  /-- MULQ: MULQ multiplies Q31 or Q15 values with rounding and saturation (R303). -/
  | iMulq (w : WOp) (x : Nat) (y : Nat)
  /-- MAC: MAC adds a product into an accumulator (R299). -/
  | iMac (w : WOp) (x : Nat) (y : Nat)
  /-- MSU: MSU subtracts a product from an accumulator (R299). -/
  | iMsu (w : WOp) (x : Nat) (y : Nat)
  /-- MPY: MPY writes a product into an accumulator (R299). -/
  | iMpy (w : WOp) (x : Nat) (y : Nat)
  /-- MOVR: MOVR rounds an accumulator into a G register (R303). -/
  | iMovr (w : WOp) (x : Nat)
  /-- MOVA: MOVA copies an accumulator (R303). -/
  | iMova (w : WOp) (x : Nat)
  /-- CLRA: CLRA clears an accumulator (R303). -/
  | iClra (w : WOp) (x : Nat)
  /-- MTA: MTA loads an accumulator from a G register (R303). -/
  | iMta (w : WOp) (x : Nat)
  /-- MFAG: MFAG reads an accumulator's guard bits (R303). -/
  | iMfag (w : WOp) (x : Nat)
  /-- MTAG: MTAG writes an accumulator's guard bits (R303). -/
  | iMtag (w : WOp) (x : Nat)
  /-- NORM: NORM counts an accumulator's redundant sign bits (R303). -/
  | iNorm (w : WOp) (x : Nat)
  /-- LD_W: LD.W loads 4 bytes (R295). -/
  | iLdW (w : WOp) (x : Nat) (m : Nat) (disp : Nat)
  /-- LD_H: LD.H loads 2 bytes, sign-extended (R295). -/
  | iLdH (w : WOp) (x : Nat) (m : Nat) (disp : Nat)
  /-- LD_HU: LD.HU loads 2 bytes, zero-extended (R295). -/
  | iLdHu (w : WOp) (x : Nat) (m : Nat) (disp : Nat)
  /-- LD_B: LD.B loads 1 byte, sign-extended (R295). -/
  | iLdB (w : WOp) (x : Nat) (m : Nat) (disp : Nat)
  /-- LD_BU: LD.BU loads 1 byte, zero-extended (R295). -/
  | iLdBu (w : WOp) (x : Nat) (m : Nat) (disp : Nat)
  /-- LD_D: LD.D loads 8 bytes into a register pair (R295). -/
  | iLdD (w : WOp) (x : Nat) (m : Nat) (disp : Nat)
  /-- LDA: LDA loads 8 bytes into an accumulator body (R303). -/
  | iLda (w : WOp) (x : Nat) (m : Nat) (disp : Nat)
  /-- LEA: LEA writes the effective address (R303). -/
  | iLea (w : WOp) (x : Nat) (m : Nat) (disp : Nat)
  /-- ST_W: ST.W stores 4 bytes (R268). -/
  | iStW (w : WOp) (x : Nat) (m : Nat) (disp : Nat)
  /-- ST_H: ST.H stores 2 bytes (R268). -/
  | iStH (w : WOp) (x : Nat) (m : Nat) (disp : Nat)
  /-- ST_B: ST.B stores 1 byte (R268). -/
  | iStB (w : WOp) (x : Nat) (m : Nat) (disp : Nat)
  /-- ST_D: ST.D stores 8 bytes of a register pair (R268). -/
  | iStD (w : WOp) (x : Nat) (m : Nat) (disp : Nat)
  /-- STA: STA stores an accumulator body (R303). -/
  | iSta (w : WOp) (x : Nat) (m : Nat) (disp : Nat)
  /-- BCC: Bcc branches if its condition holds (R264). -/
  | iBcc (w : WOp) (cc : Nat) (disp : Nat)
  /-- BRA: BRA branches (R264). -/
  | iBra (w : WOp) (disp : Nat)
  /-- CALL: CALL saves the return address in G14 and branches (R305). -/
  | iCall (w : WOp) (disp : Nat)
  /-- JR: JR jumps to a register (R305). -/
  | iJr (w : WOp) (x : Nat)
  /-- CALLR: CALLR jumps to a register and saves the return address (R305). -/
  | iCallr (w : WOp) (x : Nat)
  /-- JMPF: JMPF jumps to a 48-bit address in a register pair (R305). -/
  | iJmpf (w : WOp) (x : Nat)
  /-- BLC1: BLC1 decrements LC1 and branches while it is non-zero (R303). -/
  | iBlc1 (w : WOp) (disp : Nat)
  /-- XCHG: XCHG exchanges a register with memory atomically (R307). -/
  | iXchg (w : WOp) (wide : Bool) (x : Nat) (m : Nat) (disp : Nat)
  /-- CAS: CAS compares and swaps atomically (R307). -/
  | iCas (w : WOp) (wide : Bool) (x : Nat) (m : Nat) (disp : Nat) (y : Nat)
  /-- FADD: FADD fetches and adds atomically (R307). -/
  | iFadd (w : WOp) (wide : Bool) (x : Nat) (m : Nat) (disp : Nat)
  /-- FAND: FAND fetches and ands atomically (R307). -/
  | iFand (w : WOp) (wide : Bool) (x : Nat) (m : Nat) (disp : Nat)
  /-- FOR: FOR fetches and ors atomically (R307). -/
  | iFor (w : WOp) (wide : Bool) (x : Nat) (m : Nat) (disp : Nat)
  /-- DIV: DIV starts a signed division (R308). -/
  | iDiv (w : WOp) (x : Nat) (y : Nat)
  /-- DIVU: DIVU starts an unsigned division (R308). -/
  | iDivu (w : WOp) (x : Nat) (y : Nat)
  /-- DIVQ: DIVQ starts a Q31 division (R308). -/
  | iDivq (w : WOp) (x : Nat) (y : Nat)
  /-- SQRT: SQRT starts a Q31 square root (R308). -/
  | iSqrt (w : WOp) (x : Nat)
  /-- RECIP: RECIP starts a reciprocal (R308). -/
  | iRecip (w : WOp) (x : Nat)
  /-- SINCOS: SINCOS starts a sine and cosine (R308). -/
  | iSincos (w : WOp) (x : Nat)
  /-- MV3: MV3 starts a 3 x 3 matrix-vector product (R308). -/
  | iMv3 (w : WOp) (x : Nat) (y : Nat)
  /-- BMOV: BMOV copies words, resumable (R309). -/
  | iBmov (w : WOp) (x : Nat) (n : Nat)
  /-- BFILL: BFILL fills words, resumable (R309). -/
  | iBfill (w : WOp) (x : Nat) (n : Nat)
  /-- TSRCH: TSRCH searches a table, resumable (R309). -/
  | iTsrch (w : WOp) (x : Nat) (n : Nat)
  /-- MVM: MVM applies a matrix to vectors, resumable (R309). -/
  | iMvm (w : WOp) (x : Nat) (n : Nat)
  /-- SORTK: SORTK sorts records by key in merge passes, resumable (R309). -/
  | iSortk (w : WOp) (x : Nat) (n : Nat)
  /-- TRAP: TRAP enters vector 0x400 + 16 x n (R310). -/
  | iTrap (w : WOp) (k : Nat)
  /-- RETT: RETT returns from MCPC or EPC and starts replay after a rollback (R278). -/
  | iRett (w : WOp)
  /-- WAIT: WAIT stops issue until a level below IPL is presented (R283). -/
  | iWait (w : WOp)
  /-- MFS: MFS reads a system register (R273). -/
  | iMfs (w : WOp) (x : Nat) (k : Nat)
  /-- MTS: MTS writes a system register, including TLBI, after earlier writes complete (R273). -/
  | iMts (w : WOp) (x : Nat) (k : Nat)
  /-- DI: DI clears IE from the next group (R310). -/
  | iDi (w : WOp)
  /-- EI: EI sets IE from the next group (R310). -/
  | iEi (w : WOp)
  /-- FENCE: FENCE waits for the store buffer to drain (R310). -/
  | iFence (w : WOp)
  /-- BRK: BRK enters the debug vector while SWBP is armed, and is otherwise illegal (R310). -/
  | iBrk (w : WOp)
  /-- ILL: ILL raises the illegal-instruction exception (R310). -/
  | iIll (w : WOp)
  /-- MEMORY_SCRUB: A scrubber pass corrects, writes back and counts memory errors in SRAM or HBM (R313). -/
  | memoryScrub (addr : Nat) (kind : Nat)
  /-- HBM_SPARE: A write of HBM_SPARE_CMD.GO starts copying a pseudo-channel into the spare (R317). -/
  | hbmSpare (req : Nat) (cluster : Nat) (pc : Nat)
  /-- SPARE_COPY_DONE: The sparing copy ends and the spare serves the pseudo-channel (R317). -/
  | spareCopyDone (cluster : Nat)
  /-- ARBITER_GRANT: An arbiter grants a waiting request by priority and rotation, or revokes for its emergency requester (R319). -/
  | arbiterGrant (kind : Nat) (unit : Nat) (ofs : Nat) (reqs : Nat) (emergency : Bool)
  /-- IOMMU_TLBI: A write of IOMMU_TLBI invalidates IOTLB entries, leaving pinned entries in place (R328). -/
  | iommuTlbi (req : Nat) (tile : Nat) (data : Nat)
  /-- DMA_START: CH_CMD START, or a lath start, runs a chain or the next ring descriptor, or is refused (R331). -/
  | dmaStart (req : Nat) (tile : Nat) (ch : Nat)
  /-- DMA_RESUME: CH_CMD RESUME retranslates and continues a FAULTED channel (R335). -/
  | dmaResume (req : Nat) (tile : Nat) (ch : Nat)
  /-- DMA_ABORT: CH_CMD ABORT ends the descriptor ABORTED, or moves an ERROR channel back (R331). -/
  | dmaAbort (req : Nat) (tile : Nat) (ch : Nat)
  /-- DMA_ARM: CH_CMD ARM copies and pins a real-time ring, or fails with its cause (R337). -/
  | dmaArm (req : Nat) (tile : Nat) (ch : Nat)
  /-- DMA_DISARM: CH_CMD DISARM unpins the channel and returns it to IDLE (R331). -/
  | dmaDisarm (req : Nat) (tile : Nat) (ch : Nat)
  /-- DESCRIPTOR_START: A descriptor is read, checked and started once its credits are held, or the channel enters ERROR (R332). -/
  | descriptorStart (tile : Nat) (ch : Nat)
  /-- BURST_ISSUE: The mover picks a RUNNING channel and translates, reads and writes one burst (R333). -/
  | burstIssue (tile : Nat)
  /-- BURST_COMPLETE: A burst's write completes, updating BYTES and RESID and ending the descriptor when done or on an error (R334). -/
  | burstComplete (tile : Nat) (ch : Nat)
  /-- QUEUE_CONFIG: A write of QM_CFG enables or configures a queue, or is refused (R342). -/
  | queueConfig (req : Nat) (tile : Nat) (data : Nat)
  /-- QUEUE_SELECT: A write of QM_SEL copies the queue's counts into the requester's snapshot (R342). -/
  | queueSelect (req : Nat) (tile : Nat) (data : Nat)
  /-- QUEUE_PUSH: A write of QM_PUSH commits the staged entry at the tail, or is refused FULL or REFUSED (R343). -/
  | queuePush (req : Nat) (tile : Nat) (data : Nat)
  /-- QUEUE_POP: A read of QM_POP removes the head entry into the requester's POP words (R344). -/
  | queuePop (req : Nat) (tile : Nat)
  /-- LOCK_ACQUIRE: A read of HLCK_ACQn acquires or renews a lock, or reports the owner (R347). -/
  | lockAcquire (req : Nat) (tile : Nat) (lock : Nat)
  /-- LOCK_RELEASE: A write of 1 to HLCK_ACQn by the owner frees the lock (R348). -/
  | lockRelease (req : Nat) (tile : Nat) (lock : Nat) (data : Nat)
  /-- LOCK_BREAK: A write of HLCK_BRKn by the monitor or keeper breaks the lock (R349). -/
  | lockBreak (req : Nat) (tile : Nat) (lock : Nat)
  /-- LEASE_EXPIRY: A lock's lease expires and the lock is broken with cause LEASE (R349). -/
  | leaseExpiry (tile : Nat) (lock : Nat)
  /-- TAKEOVER_TRIGGER: A watchdog stage two, a divergence, or too few slices or lanes triggers a takeover and closes the mirror gate (R355). -/
  | takeoverTrigger (tile : Nat) (trig : Nat)
  /-- TAKEOVER_COMMAND: A write of DROLE_TKO_CMD.GO starts a takeover to the named or chosen saggar tile, or is refused (R357). -/
  | takeoverCommand (req : Nat) (data : Nat)
  /-- MOVE_START: The keeper picks a saggar tile and sets MOVING and EPOCH (R358). -/
  | moveStart (cluster : Nat)
  /-- TILE_READY: The new tile has loaded the mirror, applies the gap rules, enables dispatch and clears MOVING (R359). -/
  | tileReady (cluster : Nat)
  /-- TILE_CORE_RELEASE: The new tile's core pairs are released at the reset vector with the logical tile's image (R358). -/
  | tileCoreRelease (lt : Nat)
  /-- PIN_REPEAT_PERIOD: The pin keeper completes or repeats a period from its record, and enters the dust sheet at REPEAT_MAX (R364). -/
  | pinRepeatPeriod (tile : Nat) (gen : Nat)
  /-- RETURN_TO_SERVICE: A write of DROLE_SVC.GO resets and tests a tile and sets ROLE 0b10, or sets FAIL (R362). -/
  | returnToService (req : Nat) (data : Nat) (ok : Bool)
  /-- MIRROR_IN_STEP: A saggar tile's mirror comes into step and its ROLE becomes 0b01 (R362). -/
  | mirrorInStep (tile : Nat)
  /-- REFIRING_STAGE: CMD STAGE moves a saggar tile out of the mirror and verifies the image, or is refused (R367). -/
  | refiringStage (req : Nat)
  /-- REFIRING_VERIFIED: The image is verified and measured, and the staged tile enters SHADOW (R368). -/
  | refiringVerified
  /-- REFIRING_SWITCH: CMD SWITCH with RF_PNUM sets the switch period, or reports LATE (R369). -/
  | refiringSwitch (req : Nat)
  /-- REFIRING_DONE: At T + 16, MOVING clears, the new pairs start, the old pairs reset and STATE becomes DONE (R369). -/
  | refiringDone
  /-- REFIRING_ABORT: CMD ABORT ends a refiring in STAGING or SHADOW (R371). -/
  | refiringAbort (req : Nat)
  /-- FEED_CROSSING: A feed leaves its window, and the keel switches to the other feed or sets BOTH_BAD (R381). -/
  | feedCrossing (feed : Nat) (ovr : Bool)
  /-- FEED_IN_REGULATION: A feed has stayed inside its window for 1 ms and its OK bit rises (R380). -/
  | feedInRegulation (feed : Nat)
  /-- FEED_RETURN: After RET_DLY of FEED_A in regulation, the keel returns to FEED_A make-before-break (R384). -/
  | feedReturn
  /-- FEED_COMMAND: A write of KEEL_FEED_CMD.GO makes the named feed active, or is refused (R383). -/
  | feedCommand (req : Nat) (data : Nat)
  /-- BROWN_OUT: The internal node falls below 1.50 V, the pads float and every domain switches off (R385). -/
  | brownOut
  /-- PHASE_FAIL: A regulator phase fails and the spare phase takes its share (R386). -/
  | phaseFail
  /-- AUX_FEED_LOSS: One feed of a VANA or VIO supply is lost (R387). -/
  | auxFeedLoss (k : Nat)
  /-- POWER_DOMAIN_COMMAND: A write of PWRD_CMD.GO switches a domain on or off, or is refused (R389). -/
  | powerDomainCommand (req : Nat) (data : Nat)
  /-- DOMAIN_READY: A domain switched on reaches its reset values and READY rises in its pages (R389). -/
  | domainReady
  /-- REFCLK_LOSS: The selected reference becomes invalid and the selector moves to the other, or holdover begins (R395). -/
  | refclkLoss
  /-- REFCLK_RECOVER: A reference becomes valid again after holdover and the PLLs lock to it (R396). -/
  | refclkRecover (ref : Nat)
  /-- REFCLK_COMMAND: A write of CLKG_REF_CMD.GO moves to the named valid reference, or is refused (R397). -/
  | refclkCommand (req : Nat) (data : Nat)
  /-- REFCLK_REVERT: With REVERT, the selector returns to PREF after 10 s of validity (R397). -/
  | refclkRevert
  /-- PLL_FAILURE: A PLL fails, the root moves to its secondary or the spare PLL starts locking (R398). -/
  | pllFailure (pll : Nat)
  /-- SPARE_PLL_LOCKED: The spare PLL locks and the stopped islands restart (R398). -/
  | sparePllLocked
  /-- CORE_ISLAND_SLEEP: The core island stops its clock once every sleep condition holds (R399). -/
  | coreIslandSleep (tile : Nat)
  /-- CORE_ISLAND_WAKE: A wake request restarts the island, applies timer make-up and the wake buffer, and releases held accesses (R399). -/
  | coreIslandWake (tile : Nat)
  /-- RESET_COMMAND: A write of RSTC_CMD.GO resets the keeper, the debug domain or a tile, or is refused (R401). -/
  | resetCommand (req : Nat) (data : Nat)
  /-- RESET_N_ASSERT: RESET_N is held low, the pads float and a power-on reset begins (R404). -/
  | resetNAssert (ns : Nat)
  /-- RESET_N_RELEASE: RESET_N rises, and the keel switches on the first domains and locks the PLLs (R403). -/
  | resetNRelease
  /-- POWER_ON_RESET: Ten ms after a feed returns to regulation after a brown-out, a power-on reset is performed (R385). -/
  | powerOnReset
  /-- BISQUE_FIRING: The keeper ROM reads, checks and measures the boot header and loader, falling back to FLASH_B (R405). -/
  | bisqueFiring
  /-- GLAZE_FIRING: The loader replays the journal, brings up the clusters, loads the images, makes the alias key and releases the cores (R407). -/
  | glazeFiring (started : Nat)
  /-- BOOT_RETRY: In BOOT_FAIL the ROM retries FLASH_A and then FLASH_B once every second (R409). -/
  | bootRetry
  /-- JOURNAL_WRITE: KEEP command JOURNAL_WRITE appends a DELTA to both flashes and applies its REG items (R420). -/
  | journalWrite (req : Nat)
  /-- FLASH_WRITE: KEEP command FLASH_WRITE programs a range of a flash (R434). -/
  | flashWrite (req : Nat)
  /-- MIN_VERSION: KEEP command MIN_VERSION raises the OTP minimum version (R434). -/
  | minVersion (req : Nat)
  /-- LIFECYCLE: KEEP command LIFECYCLE moves the lifecycle state at the next power-on (R433). -/
  | lifecycle (req : Nat)
  /-- REVOKE: KEEP command REVOKE revokes an owner key slot (R434). -/
  | revoke (req : Nat)
  /-- LOG_READ: KEEP command LOG_READ copies measurement-log records to a destination (R434). -/
  | logRead (req : Nat)
  /-- KEEP_COMMAND_DONE: A running KEEP command ends and RESULT is set (R434). -/
  | keepCommandDone (err : Bool)
  /-- MEASUREMENT_EXTEND: A write of MEAS_EXT.GO extends MREG15 with the staged digest, or records LOG_FULL (R422). -/
  | measurementExtend (req : Nat)
  /-- SPDM_FRAGMENT: An SPDM datagram fragment is reassembled into its connection's request, or discarded (R429). Port 2 is the group link: the
  fragment comes in a MGMT frame, `addr` is the member and `udp` the frame's SEQ (R430). -/
  | spdmFragment (port : Nat) (addr : Nat) (udp : Nat) (payload : List Byte)
  /-- SPDM_REASSEMBLY_TIMEOUT: A request not complete within 100 ms of its first fragment is discarded (R429). -/
  | spdmReassemblyTimeout (port : Nat) (addr : Nat) (udp : Nat)
  /-- SPDM_CONNECTION_IDLE: A connection idle for 60 s is closed (R429). -/
  | spdmConnectionIdle (port : Nat) (addr : Nat) (udp : Nat)
  /-- GET_VERSION: SPDM GET_VERSION is answered (R426). -/
  | getVersion (port : Nat) (addr : Nat) (udp : Nat)
  /-- GET_CAPABILITIES: SPDM GET_CAPABILITIES is answered (R426). -/
  | getCapabilities (port : Nat) (addr : Nat) (udp : Nat)
  /-- NEGOTIATE_ALGORITHMS: SPDM NEGOTIATE_ALGORITHMS is answered (R426). -/
  | negotiateAlgorithms (port : Nat) (addr : Nat) (udp : Nat)
  /-- GET_DIGESTS: SPDM GET_DIGESTS is answered (R426). -/
  | getDigests (port : Nat) (addr : Nat) (udp : Nat)
  /-- GET_CERTIFICATE: SPDM GET_CERTIFICATE returns the chain of slot 0 (R425). -/
  | getCertificate (port : Nat) (addr : Nat) (udp : Nat)
  /-- CHALLENGE: SPDM CHALLENGE is answered, signed with the alias key (R426). -/
  | challenge (port : Nat) (addr : Nat) (udp : Nat)
  /-- GET_MEASUREMENTS: SPDM GET_MEASUREMENTS reports the MREGs and raw values in one step (R427). -/
  | getMeasurements (port : Nat) (addr : Nat) (udp : Nat)
  /-- SPDM_UNSUPPORTED: Any other SPDM request receives ERROR UnsupportedRequest (R426). -/
  | spdmUnsupported (port : Nat) (addr : Nat) (udp : Nat)
  /-- GROUP_STATUS_SEND: Every 20,000 ticks a STATUS frame is sent on every group lane (R436). -/
  | groupStatusSend
  /-- GROUP_STATUS_RECEIVE: A STATUS frame from a peer is taken and updates its view (R436). -/
  | groupStatusReceive (lane : Nat) (src : Nat) (seq : Nat) (st : GStat)
  /-- MEMBER_LOST: No STATUS from a peer for LOSS_TMO makes it lost (R437). -/
  | memberLost (peer : Nat)
  /-- GROUP_EVENT_RECEIVE: A received EVENT frame fires device lath producer 40 + n once (R437). -/
  | groupEventReceive (lane : Nat) (seq : Nat) (n : Nat)
  /-- PEER_ADMISSION: A peer is admitted from JOINING to MEMBER, or refused with a cause (R438). -/
  | peerAdmission (peer : Nat) (auth : Bool)
  /-- ADMISSION_RETRY: A refused admission is retried every 100 ms (R438). -/
  | admissionRetry
  /-- CONFIG_TRANSFER: An XFER of the agreed set is applied at the next group boundary (R439). -/
  | configTransfer (lane : Nat) (seq : Nat) (epoch : Nat) (words : List Nat)
  /-- MIRROR_RECEIVE: MIRROR frames from an owner are applied as staged core writes and update TRACK_OK (R448). -/
  | mirrorReceive (lane : Nat) (seq : Nat) (part : Nat) (period : Nat) (writes : List MirW)
  /-- OWNERSHIP_FRAME_START: The time master starts a GRP_OWN frame at each multiple of 100,000 ticks (R441). -/
  | ownershipFrameStart
  /-- OWNERSHIP_FRAME_END: At the end of bit 33 an accepted frame sets every token, or a discarded frame counts toward BUS_FAULT (R443). -/
  | ownershipFrameEnd (line0 : Nat) (line1 : Nat)
  /-- GROUP_CLAIM: A write of GRP_CLAIM.GO claims a partition in the next frame, or is refused (R444). -/
  | groupClaim (req : Nat) (data : Nat)
  /-- CONFIG_DIGEST_CHECK: Each group period the digest of the active set is checked, and HELD is set, cleared or restores the set (R449). -/
  | configDigestCheck
  /-- COMMIT_PROPOSE: A write of GRP_CCMD.PROPOSE sends PREPARE for period P (R450). -/
  | commitPropose (req : Nat) (data : Nat)
  /-- PREPARE_RECEIVE: A member answers PREPARE with PREPARED or REFUSE (R450). -/
  | prepareReceive (lane : Nat) (seq : Nat) (epoch : Nat) (digest : List Byte) (p : Nat)
  /-- DECIDE_RECEIVE: A DECIDE COMMIT or ABORT is taken, and the commit applies at the boundary of P (R450). -/
  | decideReceive (lane : Nat) (seq : Nat) (commit : Bool)
  /-- COMMIT_DEADLINE: At the boundary of P - 1 the proposer decides, and by P + 8 an undecided member aborts (R450). -/
  | commitDeadline
  /-- TIME_EXCHANGE: A TIME exchange measures the offset to the master and sets or clears TIME_DIVERGED (R453). -/
  | timeExchange (ofs : Int)
  /-- MGMT_FRAME_RECEIVE: A management-port frame is answered, delivered to Derevo or SPDM, or dropped (R456). -/
  | mgmtFrameReceive (port : Nat) (frame : List Byte)
  /-- SESSION_HELLO: A HELLO datagram is answered with HELLO_ACK, or REJECT (R457). -/
  | sessionHello (port : Nat) (addr : Nat) (udp : Nat) (datagram : List Byte)
  /-- SESSION_PROVE: A PROVE datagram opens the session with OPEN, or is rejected (R457). -/
  | sessionProve (port : Nat) (addr : Nat) (udp : Nat) (datagram : List Byte)
  /-- HANDSHAKE_TIMEOUT: A handshake not complete within 1 s is abandoned (R457). -/
  | handshakeTimeout (sess : Nat)
  /-- SEALED_RECEIVE: A SEALED datagram is authenticated and its inner message executed, or discarded (R459). -/
  | sealedReceive (port : Nat) (addr : Nat) (udp : Nat) (datagram : List Byte)
  /-- SESSION_TIMEOUT: A session idle for 10 s closes, releasing units if it was the controller (R460). -/
  | sessionTimeout (sess : Nat)
  /-- DEREVO_PING: Derevo PING returns the tick count (R465). -/
  | derevoPing (sess : Nat) (tag : Nat) (body : List Byte)
  /-- DEREVO_CLOSE: Derevo CLOSE closes the session after its response (R465). -/
  | derevoClose (sess : Nat) (tag : Nat) (body : List Byte)
  /-- DEREVO_STATUS: Derevo STATUS returns a unit's CORE_STAT, DCAUSE, DPC and DADDR (R465). -/
  | derevoStatus (sess : Nat) (tag : Nat) (body : List Byte)
  /-- DEREVO_HALT: Derevo HALT halts the units of its mask within 1 ms (R465). -/
  | derevoHalt (sess : Nat) (tag : Nat) (body : List Byte)
  /-- DEREVO_RESUME: Derevo RESUME resumes the units of its mask (R465). -/
  | derevoResume (sess : Nat) (tag : Nat) (body : List Byte)
  /-- DEREVO_STEP: Derevo STEP makes a halted pair issue exactly one instruction (R469). -/
  | derevoStep (sess : Nat) (tag : Nat) (body : List Byte)
  /-- DEREVO_READ: Derevo READ reads physical memory through the quiet view, or a halted unit's virtual memory (R466). -/
  | derevoRead (sess : Nat) (tag : Nat) (body : List Byte)
  /-- DEREVO_WRITE: Derevo WRITE writes memory in ascending 4-byte accesses (R466). -/
  | derevoWrite (sess : Nat) (tag : Nat) (body : List Byte)
  /-- DEREVO_REGRD: Derevo REGRD reads a halted pair's register by index (R471). -/
  | derevoRegrd (sess : Nat) (tag : Nat) (body : List Byte)
  /-- DEREVO_REGWR: Derevo REGWR writes a halted pair's register by index (R471). -/
  | derevoRegwr (sess : Nat) (tag : Nat) (body : List Byte)
  /-- DEREVO_BPSET: Derevo BPSET sets a breakpoint or watchpoint slot (R470). -/
  | derevoBpset (sess : Nat) (tag : Nat) (body : List Byte)
  /-- DEREVO_SWBP: Derevo SWBP arms or disarms BRK for a unit (R465). -/
  | derevoSwbp (sess : Nat) (tag : Nat) (body : List Byte)
  /-- HALT_REQUEST: A write of CORE_DCTL.HALT_REQ requests a debug entry (R467). -/
  | haltRequest (req : Nat) (pair : Nat)
  /-- DEBUG_RESUME: A write of CORE_DCTL.RESUME continues a halted pair at DPC and ends freezes (R467). -/
  | debugResume (req : Nat) (pair : Nat)
  /-- DEBUG_STEP: A write of CORE_DCTL.STEP issues one instruction of a halted pair (R469). -/
  | debugStep (req : Nat) (pair : Nat)
  /-- DEBUG_ENTRY: A pair enters debug at a boundary, writes DPC and DCAUSE, takes a checkpoint and halts (R467). -/
  | debugEntry (pair : Nat)
  /-- FREEZE_BEGIN: A page whose freeze owner has halted freezes in one tick in its FRZ_MODE (R474). -/
  | freezeBegin (page : Nat)
  /-- FREEZE_END: A frozen page unfreezes in one tick after the last owner pair is released (R474). -/
  | freezeEnd (page : Nat)
  /-- TAP_BYPASS: TAP instruction BYPASS selects the bypass register (R476). -/
  | tapBypass
  /-- TAP_IDCODE: TAP instruction IDCODE selects the identification register (R476). -/
  | tapIdcode
  /-- TAP_SAMPLE_PRELOAD: TAP instruction SAMPLE/PRELOAD samples and preloads the boundary register (R476). -/
  | tapSamplePreload (pads : Nat) (preload : Nat)
  /-- TAP_EXTEST: TAP instruction EXTEST drives the pads while RESET_N is low (R476). -/
  | tapExtest (preload : Nat)
  /-- TAP_CLAMP: TAP instruction CLAMP holds the pads while RESET_N is low (R476). -/
  | tapClamp
  /-- TAP_HIGHZ: TAP instruction HIGHZ floats the pads while RESET_N is low (R476). -/
  | tapHighz
  /-- REF_WINDOW_RETURN: The analog reference returns within +-2 % of its nominal value and settling starts again (R80). -/
  | refWindowReturn (ref : RefAt)
  /-- FEED_WINDOW_ENTRY: A feed's voltage enters the window between UV_MV and OV_MV and its 1 ms count towards regulation begins (R380). -/
  | feedWindowEntry (feed : Nat)
  /-- REFCLK_VALIDITY_CHANGE: A reference that is not selected becomes invalid or valid again, changing A_VALID or B_VALID, counting REF_LOSS and starting the 10 s REVERT count (R394). -/
  | refclkValidityChange (ref : Nat) (valid : Bool)
  /-- BLOCK_LOCK_GAIN: A ring, group-link or management lane gains block lock, setting RX_CW, RX_CCW or LINK, changing WHOLE and starting group admission timing (R171). -/
  | blockLockGain (kind : Nat) (lane : Nat)
  /-- NODE_BLOCK_LOCK_CHANGE: A cell node's port loses or regains block lock, so the node starts or stops sending BRK status blocks and starts or stops its LOL_TMO count (R191). -/
  | nodeBlockLockChange (ring : Nat) (place : Nat) (port : Nat) (lock : Bool)
  /-- NODE_PROTECTION: The node's own overcurrent, overvoltage or other protection acts and self-blocks every leg with cause 3 (R199). -/
  | nodeProtection (ring : Nat) (place : Nat) (acts : Bool)
  /-- AUX_FEED_RETURN: A lost feed of a VANA or VIO supply returns to its window and its KEEL_AUX bit rises again (R387). -/
  | auxFeedReturn (k : Nat)
  /-- CLUSTER_ISLAND_SLEEP: The cluster lath, analog-front or forecast island stops its clock once its sleep bit is set and its domain is not in use (R392). -/
  | clusterIslandSleep (cluster : Nat) (k : Nat)
  /-- CLUSTER_ISLAND_WAKE: A sleeping cluster island restarts on a wake request, fires a GPIO producer for each latched edge and releases held accesses (R238). -/
  | clusterIslandWake (cluster : Nat) (k : Nat)
  /-- EVENT_PATH_DEACTIVATION: A comparator or TRIP input's filtered event path accepts the inactive level, and OUT or LEVEL falls (R100). -/
  | eventPathDeactivation (cluster : Nat) (src : Nat)
  /-- PIN_KEEPER_EDGE: At each transition instant of a repeated period record, the pin keeper changes the pin, holding a rise under DT (R364). -/
  | pinKeeperEdge (tile : Nat) (gen : Nat)
  /-- FETCH_RESPONSE: The instruction port's response to a missed fetch returns, ending the freeze or raising a BUS_FETCH or UE_FETCH machine check (R268). -/
  | fetchResponse (pair : Nat) (err : Nat)
  /-- QUEUE_STATE_SCRUB: The queue manager's state is voted and scrubbed every 2,000,000 ticks, and a word without majority clears the queue's EN and records QSTATE (R376). -/
  | queueStateScrub (tile : Nat) (queue : Nat) (bad : Bool)
  /-- PRP_SUPERVISION_FRAME: With PRP = 1, a PRP supervision frame is sent through both management ports every 2 s (R456). -/
  | prpSupervisionFrame
  /-- DEREVO_HALT_TIMEOUT: A HALT whose units have not all halted within 1 ms sends its response with STATUS TIMEOUT (R465). -/
  | derevoHaltTimeout (sess : Nat)
  /-- TAP_RESET: TRST_N low, or a TAP reset, resets the test access port and selects IDCODE (R476). -/
  | tapReset
  /-- TJ_UPDATE: Every 1 ms TJ_NOW and TJ_PEAK take the hottest sensor, and every 1 s TJ_AVG is updated (R491). -/
  | tjUpdate (temps : List Int)
  /-- PREPARED_RECEIVE: The proposer receives a member's PREPARED or REFUSE answer and counts it in CSTAT.PREP (R450). -/
  | preparedReceive (lane : Nat) (seq : Nat) (ok : Bool)
  /-- GROUP_CONFIG_RECEIVE: A peer's CONFIG frame is taken, and a digest that differs from the agreed one sets HELD or shows a commit at EPOCH + 1 (R449). -/
  | groupConfigReceive (lane : Nat) (seq : Nat) (epoch : Nat) (digest : List Byte)
deriving DecidableEq, Repr

end Sys2Proof
end

