-- ==== Sys2Proof/Decode.lean ====
section
/-! DEFINITION. Decode.lean: commands by their bits. The block takes commands, not words: no row of spec/opcode_table.json gives
an encoding, so no word spells a command. -/

namespace Sys2Proof

/-- The command that a word spells by the table's bits; the table gives no row any. -/
def decodeTableWord (_nbits _w : Nat) : Option Instr := none

end Sys2Proof
end

