-- ==== Sys2Proof/Config.lean ====
section
/-! DEFINITION. Config.lean: what the spec leaves open. Each constant has no body, so that no proof can see its value. -/

namespace Sys2Proof

/-- The phase of the cycle edges of an island that is not clocked with aligned edges (R233: not specified). -/
opaque Config.islandPhase : Nat → Nat

/-- A free value of `w` bits: one for each count of the model's own counter. The spec states no value there. -/
opaque Config.freeValue : (w : Nat) → Nat → Nat

/-- The SHA-384 digest of a byte string (R421 names the standard; the spec does not restate it). -/
opaque Config.sha384 : List Byte → List Byte

/-- HMAC-SHA-384 of a key and a message (R457). -/
opaque Config.hmac384 : List Byte → List Byte → List Byte

/-- HKDF-SHA-384: key material from a secret, a label and a length (R458). -/
opaque Config.hkdf384 : List Byte → List Byte → Nat → List Byte

/-- ECDSA P-384: whether a signature of a digest holds under a public key (R412, R432). -/
opaque Config.ecdsaVerify : List Byte → List Byte → List Byte → Bool

/-- ECDSA P-384: the signature of a digest with a private key (R424, R427). -/
opaque Config.ecdsaSign : List Byte → List Byte → List Byte

/-- The public key of a private key, and the key a seed derives (R424). -/
opaque Config.derivePublic : List Byte → List Byte
opaque Config.derivePrivate : List Byte → List Byte → List Byte

/-- ECDH P-384: the shared secret of a private and a public key (R458). -/
opaque Config.ecdh : List Byte → List Byte → List Byte

/-- AES-256-GCM: sealing a message, and opening one (none where the tag does not hold) (R459). -/
opaque Config.gcmSeal : List Byte → List Byte → List Byte → List Byte → List Byte
opaque Config.gcmOpen : List Byte → List Byte → List Byte → List Byte → Option (List Byte)

/-- Implementer parameters of the cell node at a place (R181, R201): NODE_ID, legs, RES, MDEPTH, hardware minimum of
NODE_DT, and for an implementer address what is there (0 nothing, 1 read only, 2 read and write) and its first value. -/
opaque Config.nodeId : Nat → Nat
opaque Config.nodeLegs : Nat → Nat
opaque Config.nodeRes : Nat → Nat
opaque Config.nodeDepth : Nat → Nat
opaque Config.nodeMinDt : Nat → Nat
opaque Config.nodeReg : Nat → Nat → Nat
opaque Config.nodeImpl : Nat → Nat → Nat

/-- What the device carries from manufacture (R405, R424, R425, R431, R432): ROM digest, manufacturing key hash, unique secret,
grade, serial number, the certificates in OTP. -/
opaque Config.romDigest : List Byte
opaque Config.mfgKeyHash : List Byte
opaque Config.uniqueSecret : List Byte
opaque Config.grade : Nat
opaque Config.serial : Nat
opaque Config.certChain : List Byte

/-- The signed part of the alias certificate, of the alias public key and MREG0 to MREG2, and the certificate of it and its signature
(R424): the form is not stated. -/
opaque Config.aliasBody : List Byte → List Byte → List Byte
opaque Config.aliasCert : List Byte → List Byte → List Byte

/-- What a peer's certificate chain shows where it reaches Maroskua's root certificate: the alias public key, and the lifecycle class of
its identity (R425, R432, R438). None where it does not reach it. -/
opaque Config.chainCheck : List Byte → Option (List Byte × Nat)

/-- The data blocks of a group frame of a TYPE with a content: the layout is not stated (R436). -/
opaque Config.grpBlocks : Nat → List Nat → List Nat

/-- The lifecycle record that extends MREG14, of the lifecycle state, MIN_VERSION and key-slot status (R405): its encoding is
not stated. -/
opaque Config.lifeDigest : Nat → Nat → Nat → List Byte

/-- The DRAM bank, within its pseudo-channel, and the DRAM row that hold an HBM address (R313, R318: the spec does not say which). -/
opaque Config.hbmBank : Nat → Nat
opaque Config.hbmRow : Nat → Nat

/-- Which of the values within one unit of the last place SINCOS gives, by rounding mode, result and angle (R308). -/
opaque Config.sinPick : Nat → Nat → Nat → Nat

/-- What an erased byte of flash reads as. -/
opaque Config.erased : Byte

/-- A random byte string of the device's own source. -/
opaque Config.random : Nat → Nat → List Byte

end Sys2Proof
end

