-- ==== Sys2Proof/Machine/Bits.lean ====
section
/-! DEFINITION. Machine/Bits.lean: bit fields, signed readings and saturation of words held as natural numbers. -/

namespace Sys2Proof.Machine

/-- Bits [lo + w - 1 : lo] of `x`. -/
def bits (x lo w : Nat) : Nat := x / 2 ^ lo % 2 ^ w

/-- Bit `i` of `x`. -/
def bit (x i : Nat) : Bool := x / 2 ^ i % 2 == 1

/-- `x` with bits [lo + w - 1 : lo] replaced by the low `w` bits of `v`. -/
def setBits (x lo w v : Nat) : Nat := x - 2 ^ lo * bits x lo w + 2 ^ lo * (v % 2 ^ w)

/-- The bits of `mask` in `old` replaced by those of `v`. -/
def maskIn (old v mask : Nat) : Nat := (old - (old &&& mask)) + (v &&& mask)

/-- `x` with bit `i` set to `b`. -/
def setBit (x i : Nat) (b : Bool) : Nat := setBits x i 1 b.toNat

/-- The two's-complement reading of the low `w` bits of `x`. -/
def sgn (w x : Nat) : Int :=
  let y := x % 2 ^ w
  if y < 2 ^ (w - 1) then (y : Int) else (y : Int) - (2 ^ w : Nat)

/-- The `w`-bit two's-complement code of `i`. -/
def wrap (w : Nat) (i : Int) : Nat := (i % ((2 ^ w : Nat) : Int)).toNat

/-- The largest and the smallest signed value of `w` bits. -/
def maxS (w : Nat) : Int := (2 ^ (w - 1) : Nat) - 1
def minS (w : Nat) : Int := -((2 ^ (w - 1) : Nat) : Int)

/-- `i` held to the signed range of `w` bits. -/
def satS (w : Nat) (i : Int) : Int :=
  if i > maxS w then maxS w else if i < minS w then minS w else i

/-- Whether `i` lies outside the signed range of `w` bits. -/
def ovfS (w : Nat) (i : Int) : Bool := decide (i > maxS w) || decide (i < minS w)

/-- Division by 2^n toward minus infinity. -/
def asr (i : Int) (n : Nat) : Int := i / ((2 ^ n : Nat) : Int)

/-- A counter of `w` bits that stops at its largest value. -/
def satInc (w x n : Nat) : Nat := min (2 ^ w - 1) (x + n)

/-- The number of ones among the low `n` bits of `x`. -/
def popCount (x : Nat) : Nat → Nat
  | 0 => 0
  | n + 1 => (bit x n).toNat + popCount x n

/-- The bytes of the low `n` bytes of `x`, lowest first (R11). -/
def toBytes (x : Nat) : Nat → List Byte
  | 0 => []
  | n + 1 => BitVec.ofNat 8 x :: toBytes (x / 256) n

/-- The number whose bytes, lowest first, are the list (R11). -/
def ofBytes : List Byte → Nat
  | [] => 0
  | b :: bs => b.toNat + 256 * ofBytes bs

end Sys2Proof.Machine
end

