-- ==== Sys2Proof/Machine/Alu.lean ====
section
/-! DEFINITION. Machine/Alu.lean: the arithmetic of the WERAM-40 instruction set (R297 to R302, R303, R308). -/

namespace Sys2Proof.Machine

/-! ### Rounding (R297) -/

/-- A rational n / d, d > 0, taken to an integer: 0 nearest with ties up, 1 convergent, 2 toward zero, 3 truncate. -/
def rndQ (mode : Nat) (n : Int) (d : Nat) : Int :=
  let q := n / (d : Int)
  let rest := 2 * (n - q * d)
  match mode with
  | 0 => if rest ≥ d then q + 1 else q
  | 1 => if rest > d then q + 1 else if rest < d then q else if q % 2 = 0 then q else q + 1
  | 2 => if n ≥ 0 then q else -((-n) / (d : Int))
  | _ => q

/-- The `k` low bits dropped. -/
def rndK (mode k : Nat) (x : Int) : Int := rndQ mode x (2 ^ k)

/-! ### Results with flags (R298, R301) -/

/-- A result: its value, N Z C V (none where no flag is written), and whether it saturated. -/
structure Alu where
  val : Nat
  nzcv : Option Nat := none
  sat : Bool := false
deriving DecidableEq, Repr

/-- N, Z, C and V as bits 0 to 3, from a result of `w` bits. -/
def flagsOf (w r : Nat) (c v : Bool) : Nat := (bit r (w - 1)).toNat + 2 * (r % 2 ^ w == 0).toNat + 4 * c.toNat + 8 * v.toNat

/-- A `w`-bit result as a 32-bit register holds it: sign-extended under the 16-bit width (R300). -/
def toReg (w r : Nat) : Nat := if w = 16 then wrap 32 (sgn 16 r) else r

/-- An exact value taken to `w` bits: held to `lim` bits of range where it saturates, else wrapped (R298). -/
def fitS (w : Nat) (lim : Option Nat) (x : Int) : Nat × Bool :=
  match lim with
  | some l => (wrap w (satS l x), ovfS l x)
  | none => (wrap w x, false)

/-- A sum or difference: `x` exact, `c` its carry (R301). V is signed overflow, or saturation in a saturating form. -/
def sumAlu (w : Nat) (lim : Option Nat) (x : Int) (c : Bool) : Alu :=
  let r := fitS w lim x
  ⟨toReg w r.1, some (flagsOf w r.1 c (if lim.isSome then r.2 else ovfS w x)), r.2⟩

/-- a + b + carry. -/
def addAlu (w : Nat) (lim : Option Nat) (a b cin : Nat) : Alu :=
  sumAlu w lim (sgn w a + sgn w b + cin) (decide (2 ^ w ≤ a % 2 ^ w + b % 2 ^ w + cin))

/-- a - b - borrow. -/
def subAlu (w : Nat) (lim : Option Nat) (a b bin : Nat) : Alu :=
  sumAlu w lim (sgn w a - sgn w b - bin) (decide (b % 2 ^ w + bin ≤ a % 2 ^ w))

/-- A bitwise result. -/
def bitAlu (r : Nat) : Alu := ⟨r % 2 ^ 32, some (flagsOf 32 r false false), false⟩

/-- A result without flags. -/
def plain (w r : Nat) : Alu := ⟨toReg w (r % 2 ^ w), none, false⟩

/-- abs a (R303): the most negative value stays and sets V, unless saturated. -/
def absAlu (w : Nat) (lim : Option Nat) (a : Nat) : Alu := sumAlu w lim (sgn w a).natAbs false

/-! ### Shifts (R303) -/

def shlAlu (w : Nat) (lim : Option Nat) (a n : Nat) : Alu :=
  let r := fitS w lim (sgn w a * (2 ^ n : Nat))
  ⟨toReg w r.1, some (flagsOf w r.1 (n ≠ 0 && decide (n ≤ w) && bit a (w - n)) r.2), r.2⟩

def shrAlu (w a n : Nat) : Alu :=
  let x := a % 2 ^ w
  let r := x / 2 ^ n
  ⟨toReg w r, some (flagsOf w r (n ≠ 0 && bit x (n - 1)) false), false⟩

def asrAlu (w mode a n : Nat) : Alu :=
  let r := wrap w (rndK mode n (sgn w a))
  ⟨toReg w r, some (flagsOf w r (n ≠ 0 && bit (wrap 128 (sgn w a)) (n - 1)) false), false⟩

def rorAlu (a n : Nat) : Alu :=
  let r := (a / 2 ^ n + a * 2 ^ (32 - n)) % 2 ^ 32
  ⟨r, some (flagsOf 32 r (n ≠ 0 && bit r 31) false), false⟩

/-! ### Counts -/

/-- Bits from `i - 1` down that equal `b`, before the first that does not. -/
def leading (a : Nat) (b : Bool) : Nat → Nat
  | 0 => 0
  | i + 1 => if bit a i = b then leading a b i + 1 else 0

def clz (a : Nat) : Nat := leading a false 32
def cls (a : Nat) : Nat := leading a (bit a 31) 32 - 1

/-- NORM (R303): redundant sign bits in 72 bits, minus 8, as a 32-bit value. -/
def norm (a : Nat) : Nat :=
  if a = 0 then 63 else wrap 32 ((leading a (bit a 71) 72 : Nat) - 1 - 8)

/-! ### Products (R299, R303) -/

/-- The product that enters an accumulator. -/
def prodA (half : Bool) (a b : Nat) : Int := if half then sgn 16 a * sgn 16 b * 2 ^ 33 else sgn 32 a * sgn 32 b * 2

/-- MULQ. -/
def mulq (half nosat : Bool) (mode a b : Nat) : Alu :=
  let w := if half then 16 else 32
  let x := rndK mode (w - 1) (sgn w a * sgn w b)
  let r := fitS w (if nosat then none else some w) x
  ⟨toReg w r.1, some (flagsOf w r.1 false r.2), r.2⟩

/-- MOVR. -/
def movr (half nosat : Bool) (mode a : Nat) : Alu :=
  let w := if half then 16 else 32
  let x := rndK mode (if half then 48 else 32) (sgn 72 a)
  let r := fitS w (if nosat then none else some w) x
  ⟨toReg w r.1, some (flagsOf w r.1 false r.2), r.2⟩

/-! ### Conditions (R302) -/

/-- Whether condition `cc` holds under a PSW. -/
def holds (psw cc : Nat) : Bool :=
  let n := bit psw 16
  let z := bit psw 17
  let c := bit psw 18
  let v := bit psw 19
  let even := match cc / 2 with
    | 0 => z | 1 => n | 2 => v | 3 => c | 4 => n != v | 5 => z || n != v | _ => !c || z
  if cc % 2 = 0 then even else !even

/-! ### Long units (R308) -/

/-- The quotient of a division by zero: the limit of Ga's sign. -/
def byZero (a : Nat) : Nat := if sgn 32 a ≥ 0 then 0x7FFFFFFF else 0x80000000

def divS (a b : Nat) : Nat := if b % 2 ^ 32 = 0 then byZero a else wrap 32 (satS 32 (Int.tdiv (sgn 32 a) (sgn 32 b)))
def divU (a b : Nat) : Nat := if b = 0 then 0xFFFFFFFF else a / b
def divQ (mode a b : Nat) : Nat :=
  let d := sgn 32 b
  if d = 0 then byZero a
  else wrap 32 (satS 32 (rndQ mode (sgn 32 a * 2 ^ 31 * (if d < 0 then -1 else 1)) d.natAbs))

/-- The integer square root by bits from `k` down. -/
def isqrt (n : Nat) : Nat → Nat → Nat
  | 0, r => r
  | k + 1, r => isqrt n k (if (r + 2 ^ k) * (r + 2 ^ k) ≤ n then r + 2 ^ k else r)

def sqrtQ (mode a : Nat) : Nat :=
  if sgn 32 a ≤ 0 then 0
  else
    let n := a * 2 ^ 31
    let f := isqrt n 32 0
    if mode ≤ 1 ∧ f * f + f < n then f + 1 else f

def recip (a : Nat) : Nat := if a ≤ 1 then 0xFFFFFFFF else 2 ^ 32 / a

/-- pi * 2^96. -/
def pi96 : Int := 248902613312231085230521944622

/-- x * y with 96 fraction bits. -/
def mul96 (x y : Int) : Int := x * y / 2 ^ 96

/-- A series whose term `k` follows from the one before by x^2 / ((2k + a)(2k + a + 1)), alternating: 2^96 times its sum. -/
def series (x2 : Int) (a : Nat) : Nat → Nat → Int → Int
  | 0, _, _ => 0
  | fuel + 1, k, t => t + series x2 a fuel (k + 1) (-(mul96 t x2) / ((2 * k + a) * (2 * k + a + 1) : Nat))

/-- 2^96 sin and 2^96 cos of x / 2^96, for x in a quarter turn. -/
def sin96 (x : Int) : Int := series (mul96 x x) 2 30 0 x
def cos96 (x : Int) : Int := series (mul96 x x) 1 30 0 (2 ^ 96)

/-- 2^96 sin of 2 pi a / 2^32. -/
def sinTurn (a : Nat) : Int :=
  let q := a % 2 ^ 32 / 2 ^ 30
  let x := ((a % 2 ^ 30 : Nat) : Int) * pi96 / 2 ^ 31
  match q with
  | 0 => sin96 x | 1 => cos96 x | 2 => -(sin96 x) | _ => -(cos96 x)

/-- SINCOS of an angle: within one unit of the last place of the exact value. Which of the values there it is, the spec does not
say: the constant `Config.sinPick` chooses, the same for the same operands (R308). -/
def sinQ (mode which a : Nat) : Nat :=
  let b := a + (if which = 0 then 0 else 2 ^ 30)
  let pick : Int := Config.sinPick mode which a % 3
  let x := if b % 2 ^ 30 = 0 then sinTurn b / 2 ^ 65 + pick - 1 else sinTurn b / 2 ^ 65 + pick % 2
  wrap 32 (satS 32 x)

/-- A row of a 3 by 3 product: exact in Q62, rounded by 31 bits and saturated. -/
def rowQ (mode : Nat) (m v : List Nat) : Nat :=
  wrap 32 (satS 32 (rndK mode 31 ((m.zip v).foldl (fun acc e => acc + sgn 32 e.1 * sgn 32 e.2) (0 : Int))))

end Sys2Proof.Machine
end

