-- ==== Sys2Proof/Machine/Fields.lean ====
section
/-! DEFINITION. Machine/Fields.lean: every register field of the block pages (R36 to R50 and the register tables of the
chapters), by the spec's own names: offset of its register in the page, lowest bit, width, access code (R13) and reset
value (R16). A field of a register that the spec repeats takes the number of its instance. A 64-bit value that the spec
lays over a LO and a HI register is one field of 64 bits at the offset of its LO half. -/

namespace Sys2Proof.Machine

/-- The access codes of R13; wol is a write-only field that needs an open lock. -/
inductive Acc where
  | rw | ro | wo | w1c | w1s | rc | rs | rwl | wol
deriving DecidableEq, Repr

/-- A register field: offset of its register in the page, lowest bit, width, access, reset value, and whether the
settings journal gives its value (an "L" field of R16). -/
structure Fld where
  off : Nat
  lo : Nat
  w : Nat
  acc : Acc
  reset : Nat
  journal : Bool
deriving DecidableEq, Repr

/-- The same field in the instance that lies `d` bytes further on. -/
def Fld.shift (f : Fld) (d : Nat) : Fld := { f with off := f.off + d }

/-! ### Page DROLE -/

def F.ROLE_MAP_PHYS (n : Nat := 0) : Fld := ⟨0x40 + 0x4 * n, 0, 6, .ro, 0x0, true⟩
def F.ROLE_MAP_EPOCH (n : Nat := 0) : Fld := ⟨0x40 + 0x4 * n, 8, 8, .ro, 0x0, false⟩
def F.ROLE_MAP_CAUSE (n : Nat := 0) : Fld := ⟨0x40 + 0x4 * n, 16, 2, .ro, 0x0, false⟩
def F.ROLE_MAP_MOVING (n : Nat := 0) : Fld := ⟨0x40 + 0x4 * n, 31, 1, .ro, 0x0, false⟩
def F.ROLE_PHYS_ROLE (n : Nat := 0) : Fld := ⟨0xc0 + 0x4 * n, 0, 2, .ro, 0x0, true⟩
def F.ROLE_PHYS_LOGICAL (n : Nat := 0) : Fld := ⟨0xc0 + 0x4 * n, 2, 5, .ro, 0x0, true⟩
def F.TKO_CFG_SMIN : Fld := ⟨0x200, 0, 5, .rwl, 0xc, true⟩
def F.TKO_CFG_EMIN : Fld := ⟨0x200, 8, 7, .rwl, 0x18, true⟩
def F.TKO_CMD_LT : Fld := ⟨0x204, 0, 5, .rwl, 0x0, false⟩
def F.TKO_CMD_PHYS : Fld := ⟨0x204, 8, 6, .rwl, 0x0, false⟩
def F.TKO_CMD_GO : Fld := ⟨0x204, 31, 1, .rwl, 0x0, false⟩
def F.TKO_LAST_LT : Fld := ⟨0x208, 0, 5, .ro, 0x0, false⟩
def F.TKO_LAST_FROM : Fld := ⟨0x208, 5, 6, .ro, 0x0, false⟩
def F.TKO_LAST_TO : Fld := ⟨0x208, 11, 6, .ro, 0x0, false⟩
def F.TKO_LAST_TRIG : Fld := ⟨0x208, 17, 3, .ro, 0x0, false⟩
def F.TKO_LAST_NO_SAGGAR : Fld := ⟨0x208, 20, 1, .w1c, 0x0, false⟩
def F.TKO_TIME_DUR : Fld := ⟨0x20c, 0, 16, .ro, 0x0, false⟩
def F.TKO_TIME_COUNT : Fld := ⟨0x20c, 16, 8, .rc, 0x0, false⟩
def F.DROLE_SVC_PHYS : Fld := ⟨0x210, 0, 6, .rwl, 0x0, false⟩
def F.DROLE_SVC_FAIL : Fld := ⟨0x210, 30, 1, .w1c, 0x0, false⟩
def F.DROLE_SVC_GO : Fld := ⟨0x210, 31, 1, .rwl, 0x0, false⟩
def F.RF_CTRL_LT : Fld := ⟨0x240, 0, 5, .rwl, 0x0, false⟩
def F.RF_CTRL_PHYS : Fld := ⟨0x240, 8, 6, .rwl, 0x0, false⟩
def F.RF_CTRL_POLICY : Fld := ⟨0x240, 15, 1, .rwl, 0x0, false⟩
def F.RF_CTRL_REFGEN : Fld := ⟨0x240, 16, 8, .rwl, 0x0, false⟩
def F.RF_CTRL_CMD : Fld := ⟨0x240, 24, 3, .wo, 0x0, false⟩
def F.RF_IMG_IMG : Fld := ⟨0x248, 0, 48, .rwl, 0x0, false⟩
def F.RF_PNUM_P : Fld := ⟨0x250, 0, 64, .rwl, 0x0, false⟩
def F.RF_STAT_STATE : Fld := ⟨0x258, 0, 3, .ro, 0x0, false⟩
def F.RF_STAT_CAUSE : Fld := ⟨0x258, 4, 3, .ro, 0x0, false⟩
def F.RF_STAT_SHADOW_PER : Fld := ⟨0x258, 8, 16, .ro, 0x0, false⟩
def F.RF_DIFF_DIFF : Fld := ⟨0x25c, 0, 32, .rc, 0x0, false⟩
def F.LARM_CFG_EN (n : Nat := 0) : Fld := ⟨0x400 + 0x20 * n, 0, 1, .rwl, 0x0, true⟩
def F.LARM_CFG_SRCK (n : Nat := 0) : Fld := ⟨0x400 + 0x20 * n, 1, 1, .rwl, 0x0, true⟩
def F.LARM_CFG_SRC (n : Nat := 0) : Fld := ⟨0x400 + 0x20 * n, 2, 8, .rwl, 0x0, true⟩
def F.LARM_CFG_REF_LT (n : Nat := 0) : Fld := ⟨0x400 + 0x20 * n, 10, 3, .rwl, 0x0, true⟩
def F.LARM_CFG_REF_GEN (n : Nat := 0) : Fld := ⟨0x400 + 0x20 * n, 13, 8, .rwl, 0x0, true⟩
def F.LARM_SCALE_LSCALE (n : Nat := 0) : Fld := ⟨0x404 + 0x20 * n, 0, 32, .rwl, 0x0, true⟩
def F.LARM_IQ_IQ (n : Nat := 0) : Fld := ⟨0x408 + 0x20 * n, 0, 32, .ro, 0x0, false⟩
def F.LARM_STAT_FAILS (n : Nat := 0) : Fld := ⟨0x40c + 0x20 * n, 0, 16, .rc, 0x0, false⟩
def F.LARM_STAT_FAIL (n : Nat := 0) : Fld := ⟨0x40c + 0x20 * n, 16, 1, .w1c, 0x0, false⟩
def F.LARM_STAT_SAT (n : Nat := 0) : Fld := ⟨0x40c + 0x20 * n, 17, 1, .w1c, 0x0, false⟩
def F.LARM_STAT_WRAP (n : Nat := 0) : Fld := ⟨0x40c + 0x20 * n, 18, 1, .w1c, 0x0, false⟩
def F.LARM_Q_Q (n : Nat := 0) : Fld := ⟨0x410 + 0x20 * n, 0, 64, .rwl, 0x0, false⟩
def F.LARM_FRAC_FRAC (n : Nat := 0) : Fld := ⟨0x418 + 0x20 * n, 0, 16, .rwl, 0x0, false⟩
def F.LARM_DIFF_DIFF (n : Nat := 0) : Fld := ⟨0x41c + 0x20 * n, 0, 32, .ro, 0x0, false⟩

/-! ### Page CSTO -/

def F.CSTO_BND_STAT_CORE_FILL : Fld := ⟨0x40, 0, 9, .ro, 0x0, false⟩
def F.CSTO_BND_STAT_PRESET_LOST : Fld := ⟨0x40, 16, 8, .rc, 0x0, false⟩
def F.CSTO_BND_STAT_STALLS : Fld := ⟨0x40, 24, 8, .rc, 0x0, false⟩
def F.CSTO_LOST_LAST_LOCAL : Fld := ⟨0x44, 0, 11, .ro, 0x0, false⟩
def F.CSTO_LOST_LAST_VALID : Fld := ⟨0x44, 31, 1, .rc, 0x0, false⟩
def F.CSTO_SCRUB_CORRECTED : Fld := ⟨0x48, 0, 16, .rc, 0x0, false⟩
def F.CSTO_SCRUB_UNCORR : Fld := ⟨0x48, 16, 8, .rc, 0x0, false⟩
def F.CSTO_SCRUB_PASSES : Fld := ⟨0x48, 24, 8, .ro, 0x0, false⟩
def F.CSTO_SCRUB_LAST_LOCAL : Fld := ⟨0x4c, 0, 11, .ro, 0x0, false⟩
def F.CSTO_SCRUB_LAST_WORD : Fld := ⟨0x4c, 11, 4, .ro, 0x0, false⟩
def F.CSTO_SCRUB_LAST_COPY : Fld := ⟨0x4c, 15, 2, .ro, 0x0, false⟩
def F.CSTO_SCRUB_LAST_VALID : Fld := ⟨0x4c, 31, 1, .rc, 0x0, false⟩

/-! ### Page TBAS -/

def F.TBAS_CTRL_SRC : Fld := ⟨0x40, 0, 3, .rwl, 0x0, true⟩
def F.TBAS_CTRL_SERVO : Fld := ⟨0x40, 3, 1, .rwl, 0x1, true⟩
def F.TBAS_CTRL_LOCK_THR : Fld := ⟨0x40, 8, 8, .rw, 0x8, true⟩
def F.TBAS_STAT_LOCKED : Fld := ⟨0x44, 0, 1, .ro, 0x0, false⟩
def F.TBAS_STAT_HOLDOVER : Fld := ⟨0x44, 1, 1, .ro, 0x0, false⟩
def F.TBAS_STAT_SLEWING : Fld := ⟨0x44, 2, 1, .ro, 0x0, false⟩
def F.TBAS_STAT_STEP_REFUSED : Fld := ⟨0x44, 3, 1, .w1c, 0x0, false⟩
def F.TBAS_COUNT_COUNT : Fld := ⟨0x48, 0, 64, .rs, 0x0, false⟩
def F.TBAS_TAI_TAI : Fld := ⟨0x50, 0, 64, .rw, 0x0, true⟩
def F.TBAS_RATE_RATE : Fld := ⟨0x58, 0, 28, .rw, 0x0, true⟩
def F.TBAS_SLEW_SLEW : Fld := ⟨0x5c, 0, 24, .rw, 0x0, false⟩
def F.TBAS_SLEW_SLEW_PPM : Fld := ⟨0x5c, 24, 4, .rw, 0x5, true⟩
def F.TBAS_OFFSET_OFFSET : Fld := ⟨0x60, 0, 24, .ro, 0x0, false⟩
def F.TBAS_PPS_PPS_TICK : Fld := ⟨0x64, 0, 64, .ro, 0x0, false⟩
def F.TBAS_PPS_FRAC_FRAC : Fld := ⟨0x6c, 0, 5, .ro, 0x0, false⟩
def F.TBAS_PPS_FRAC_SEQ : Fld := ⟨0x6c, 8, 8, .ro, 0x0, false⟩
def F.TBAS_PPSOUT_EN : Fld := ⟨0x70, 0, 1, .rw, 0x0, true⟩
def F.TBAS_PPSOUT_WIDTH : Fld := ⟨0x70, 8, 16, .rw, 0x64, true⟩
def F.TBAS_STEP_STEP : Fld := ⟨0x74, 0, 32, .wo, 0x0, false⟩

/-! ### Page TIMR -/

def F.TMR_CTRL_EN (n : Nat := 0) : Fld := ⟨0x40 + 0x20 * n, 0, 1, .rw, 0x0, false⟩
def F.TMR_CTRL_MODE (n : Nat := 0) : Fld := ⟨0x40 + 0x20 * n, 1, 2, .rw, 0x0, false⟩
def F.TMR_CTRL_START_EVT (n : Nat := 0) : Fld := ⟨0x40 + 0x20 * n, 3, 1, .rw, 0x0, false⟩
def F.TMR_CTRL_PRE (n : Nat := 0) : Fld := ⟨0x40 + 0x20 * n, 16, 16, .rw, 0x0, false⟩
def F.TMR_STAT_RUN (n : Nat := 0) : Fld := ⟨0x44 + 0x20 * n, 0, 1, .ro, 0x0, false⟩
def F.TMR_STAT_OVF (n : Nat := 0) : Fld := ⟨0x44 + 0x20 * n, 1, 1, .w1c, 0x0, false⟩
def F.TMR_STAT_MAKEUP_DONE (n : Nat := 0) : Fld := ⟨0x44 + 0x20 * n, 2, 1, .w1c, 0x0, false⟩
def F.TMR_STAT_CATCHUP (n : Nat := 0) : Fld := ⟨0x44 + 0x20 * n, 3, 1, .w1c, 0x0, false⟩
def F.TMR_STAT_SLEPT (n : Nat := 0) : Fld := ⟨0x44 + 0x20 * n, 8, 8, .rc, 0x0, false⟩
def F.TMR_CNT_CNT (n : Nat := 0) : Fld := ⟨0x48 + 0x20 * n, 0, 64, .rs, 0x0, false⟩
def F.TMR_CMP_CMP (n : Nat := 0) : Fld := ⟨0x50 + 0x20 * n, 0, 64, .rw, 0xffffffffffffffff, false⟩
def F.TMR_MATCH_MATCH_CNT (n : Nat := 0) : Fld := ⟨0x58 + 0x20 * n, 0, 32, .ro, 0x0, false⟩

/-! ### Page WDOG -/

def F.WDOG_CTRL_EN : Fld := ⟨0x40, 0, 1, .rwl, 0x0, true⟩
def F.WDOG_TIMEOUT_TIMEOUT : Fld := ⟨0x44, 0, 24, .rwl, 0x7d0, true⟩
def F.WDOG_WINDOW_WINDOW : Fld := ⟨0x48, 0, 24, .rwl, 0x0, true⟩
def F.WDOG_STAGE2_STAGE2 : Fld := ⟨0x4c, 0, 24, .rwl, 0x3e8, true⟩
def F.WDOG_SVC_KEY : Fld := ⟨0x50, 0, 16, .wo, 0x0, false⟩
def F.WDOG_STAT_STAGE : Fld := ⟨0x54, 0, 2, .ro, 0x0, false⟩
def F.WDOG_STAT_NEXT_KEY : Fld := ⟨0x54, 2, 1, .ro, 0x0, false⟩
def F.WDOG_STAT_DBG_RELOAD : Fld := ⟨0x54, 3, 1, .w1c, 0x0, false⟩
def F.WDOG_STAT_SLP_RELOAD : Fld := ⟨0x54, 4, 1, .w1c, 0x0, false⟩
def F.WDOG_STAT_MOVE_RELOAD : Fld := ⟨0x54, 5, 1, .w1c, 0x0, false⟩
def F.WDOG_STAT_NO_SAGGAR : Fld := ⟨0x54, 6, 1, .w1c, 0x0, false⟩
def F.WDOG_STAT_FROZEN : Fld := ⟨0x54, 7, 1, .ro, 0x0, false⟩
def F.WDOG_STAT_VIOL : Fld := ⟨0x54, 8, 8, .rc, 0x0, false⟩
def F.WDOG_ELAPSED_ELAPSED : Fld := ⟨0x58, 0, 24, .ro, 0x0, false⟩

/-! ### Page KEEP -/

def F.KWDOG_CTRL_EN : Fld := ⟨0x80, 0, 1, .rwl, 0x0, true⟩
def F.KWDOG_TIMEOUT_TIMEOUT : Fld := ⟨0x84, 0, 24, .rwl, 0x7d0, true⟩
def F.KWDOG_WINDOW_WINDOW : Fld := ⟨0x88, 0, 24, .rwl, 0x0, true⟩
def F.KWDOG_STAGE2_STAGE2 : Fld := ⟨0x8c, 0, 24, .rwl, 0x3e8, true⟩
def F.KWDOG_SVC_KEY : Fld := ⟨0x90, 0, 16, .wo, 0x0, false⟩
def F.KWDOG_STAT_STAGE : Fld := ⟨0x94, 0, 2, .ro, 0x0, false⟩
def F.KWDOG_STAT_NEXT_KEY : Fld := ⟨0x94, 2, 1, .ro, 0x0, false⟩
def F.KWDOG_STAT_DBG_RELOAD : Fld := ⟨0x94, 3, 1, .w1c, 0x0, false⟩
def F.KWDOG_STAT_SLP_RELOAD : Fld := ⟨0x94, 4, 1, .w1c, 0x0, false⟩
def F.KWDOG_STAT_MOVE_RELOAD : Fld := ⟨0x94, 5, 1, .w1c, 0x0, false⟩
def F.KWDOG_STAT_NO_SAGGAR : Fld := ⟨0x94, 6, 1, .w1c, 0x0, false⟩
def F.KWDOG_STAT_FROZEN : Fld := ⟨0x94, 7, 1, .ro, 0x0, false⟩
def F.KWDOG_STAT_VIOL : Fld := ⟨0x94, 8, 8, .rc, 0x0, false⟩
def F.KWDOG_ELAPSED_ELAPSED : Fld := ⟨0x98, 0, 24, .ro, 0x0, false⟩
def F.KEEP_CMD_CMD : Fld := ⟨0x40, 0, 8, .rwl, 0x0, false⟩
def F.KEEP_ARG_ARG (n : Nat := 0) : Fld := ⟨0x44 + 0x4 * n, 0, 32, .rw, 0x0, false⟩
def F.KEEP_STAT_BUSY : Fld := ⟨0x54, 0, 1, .ro, 0x0, false⟩
def F.KEEP_STAT_RESULT : Fld := ⟨0x54, 1, 2, .ro, 0x0, false⟩
def F.KEEP_STAT_REQ : Fld := ⟨0x54, 15, 12, .ro, 0x0, false⟩

/-! ### Page AFE -/

def F.AFE_REF_CTRL_SEL : Fld := ⟨0x40, 0, 2, .rwl, 0x0, true⟩
def F.AFE_REF_STAT_REF_READY : Fld := ⟨0x44, 0, 1, .ro, 0x0, false⟩
def F.AFE_REF_STAT_REF_FAULT : Fld := ⟨0x44, 1, 1, .w1c, 0x0, false⟩
def F.AFE_REF_STAT_FAULTS : Fld := ⟨0x44, 24, 8, .rc, 0x0, false⟩
def F.AFE_REF_NOM_NOM_MV : Fld := ⟨0x48, 0, 12, .rwl, 0x9c4, true⟩
def F.AFE_SBUS_CNT_RECORDS : Fld := ⟨0x4c, 0, 32, .ro, 0x0, false⟩

/-! ### Page ADC -/

def F.ADC_CTRL_EN : Fld := ⟨0x40, 0, 1, .rw, 0x0, false⟩
def F.ADC_CTRL_LP : Fld := ⟨0x40, 1, 1, .rw, 0x0, false⟩
def F.ADC_CTRL_TRIG_MODE : Fld := ⟨0x40, 2, 2, .rw, 0x0, false⟩
def F.ADC_CTRL_LEN : Fld := ⟨0x40, 4, 5, .rw, 0x0, false⟩
def F.ADC_STAT_BUSY : Fld := ⟨0x44, 0, 1, .ro, 0x0, false⟩
def F.ADC_STAT_POWERED : Fld := ⟨0x44, 1, 1, .ro, 0x0, false⟩
def F.ADC_STAT_TRIG_OVR : Fld := ⟨0x44, 8, 8, .rc, 0x0, false⟩
def F.ADC_STAT_IDLE_TRIG : Fld := ⟨0x44, 16, 8, .rc, 0x0, false⟩
def F.ADC_STAT_REFLESS : Fld := ⟨0x44, 24, 8, .rc, 0x0, false⟩
def F.ADC_START_START : Fld := ⟨0x48, 0, 64, .rw, 0x0, false⟩
def F.ADC_REPEAT_REPEAT : Fld := ⟨0x50, 0, 32, .rw, 0x0, false⟩
def F.ADC_SEQ_CHAN : Fld := ⟨0x54, 0, 16, .rw, 0x0, false⟩
def F.ADC_SKIP_SKIPPED : Fld := ⟨0x58, 0, 8, .rc, 0x0, false⟩
def F.ADC_SKIP_SATS : Fld := ⟨0x58, 8, 8, .rc, 0x0, false⟩
def F.ADC_CNT : Fld := ⟨0x5c, 0, 32, .ro, 0x0, false⟩
def F.ADC_CORR_OFS (n : Nat := 0) : Fld := ⟨0x60 + 0x4 * n, 0, 16, .rw, 0x2000, true⟩
def F.ADC_CORR_GAIN (n : Nat := 0) : Fld := ⟨0x60 + 0x4 * n, 16, 16, .rw, 0x4000, true⟩
def F.ADC_RES_RESULT (n : Nat := 0) : Fld := ⟨0x68 + 0x4 * n, 0, 32, .rs, 0x0, false⟩
def F.ADC_RTICK_TICK : Fld := ⟨0x70, 0, 64, .ro, 0x0, false⟩

/-! ### Page CMPR -/

def F.CMP_CTRL_EN (n : Nat := 0) : Fld := ⟨0x40 + 0x10 * n, 0, 1, .rwl, 0x0, true⟩
def F.CMP_CTRL_POL (n : Nat := 0) : Fld := ⟨0x40 + 0x10 * n, 1, 1, .rwl, 0x0, true⟩
def F.CMP_CTRL_HYST (n : Nat := 0) : Fld := ⟨0x40 + 0x10 * n, 2, 2, .rwl, 0x1, true⟩
def F.CMP_CTRL_LOAD (n : Nat := 0) : Fld := ⟨0x40 + 0x10 * n, 4, 1, .rw, 0x0, false⟩
def F.CMP_CTRL_FILT (n : Nat := 0) : Fld := ⟨0x40 + 0x10 * n, 8, 8, .rw, 0x3, false⟩
def F.CMP_THR_THR_SH (n : Nat := 0) : Fld := ⟨0x44 + 0x10 * n, 0, 10, .rw, 0x3ff, true⟩
def F.CMP_THR_THR_ACT (n : Nat := 0) : Fld := ⟨0x44 + 0x10 * n, 16, 10, .ro, 0x3ff, true⟩
def F.CMP_STAT_OUT (n : Nat := 0) : Fld := ⟨0x48 + 0x10 * n, 0, 1, .ro, 0x0, false⟩
def F.CMP_STAT_READY (n : Nat := 0) : Fld := ⟨0x48 + 0x10 * n, 1, 1, .ro, 0x0, false⟩
def F.CMP_STAT_LOADS_LOST (n : Nat := 0) : Fld := ⟨0x48 + 0x10 * n, 8, 8, .rc, 0x0, false⟩
def F.CMP_STAT_ACT_CNT (n : Nat := 0) : Fld := ⟨0x48 + 0x10 * n, 16, 16, .rc, 0x0, false⟩

/-! ### Page CAPT -/

def F.CAP_CTRL_EN (n : Nat := 0) : Fld := ⟨0x40 + 0x10 * n, 0, 1, .rw, 0x0, false⟩
def F.CAP_CTRL_EDGE (n : Nat := 0) : Fld := ⟨0x40 + 0x10 * n, 1, 2, .rw, 0x0, false⟩
def F.CAP_CTRL_FILT (n : Nat := 0) : Fld := ⟨0x40 + 0x10 * n, 8, 8, .rw, 0x0, false⟩
def F.CAP_STAT_LEVEL (n : Nat := 0) : Fld := ⟨0x44 + 0x10 * n, 0, 2, .ro, 0x0, false⟩
def F.CAP_STAT_CAP_OVR (n : Nat := 0) : Fld := ⟨0x44 + 0x10 * n, 2, 1, .w1c, 0x0, false⟩
def F.CAP_STAT_LOST (n : Nat := 0) : Fld := ⟨0x44 + 0x10 * n, 8, 16, .rc, 0x0, false⟩
def F.CAP_DATA_DATA (n : Nat := 0) : Fld := ⟨0x48 + 0x10 * n, 0, 64, .rs, 0x0, false⟩
def F.CAP_COUNT (n : Nat := 0) : Fld := ⟨0x140 + 0x4 * n, 0, 32, .ro, 0x0, false⟩

/-! ### Page LENG -/

def F.LENG_CTRL_DISP_EN : Fld := ⟨0x40, 0, 1, .rwl, 0x1, true⟩
def F.LENG_CTRL_ABANDON : Fld := ⟨0x40, 1, 1, .rwl, 0x1, true⟩
def F.LENG_STAT_IN_SERVICE : Fld := ⟨0x44, 0, 5, .ro, 0x10, false⟩
def F.LENG_STAT_BUSY : Fld := ⟨0x44, 8, 5, .ro, 0x0, false⟩
def F.LENG_STAT_PEND0 : Fld := ⟨0x44, 16, 12, .ro, 0x0, false⟩
def F.LENG_PEND_PEND1 : Fld := ⟨0x48, 0, 12, .ro, 0x0, false⟩
def F.LENG_PEND_PEND23 : Fld := ⟨0x48, 16, 12, .ro, 0x0, false⟩
def F.LENG_SWTRIG_LOCAL : Fld := ⟨0x4c, 0, 11, .wo, 0x0, false⟩
def F.LENG_RUNS_RUNS : Fld := ⟨0x50, 0, 64, .rs, 0x0, false⟩
def F.LENG_CNT0_DISAGREE : Fld := ⟨0x58, 0, 16, .rc, 0x0, false⟩
def F.LENG_CNT0_NOMAJ : Fld := ⟨0x58, 16, 8, .rc, 0x0, false⟩
def F.LENG_CNT0_SWAPS : Fld := ⟨0x58, 24, 8, .rc, 0x0, false⟩
def F.LENG_CNT1_MISSES : Fld := ⟨0x5c, 0, 16, .rc, 0x0, false⟩
def F.LENG_CNT1_MERGED : Fld := ⟨0x5c, 16, 16, .rc, 0x0, false⟩
def F.LENG_CNT2_ABANDON : Fld := ⟨0x60, 0, 16, .rc, 0x0, false⟩
def F.LENG_CNT2_FAULTS : Fld := ⟨0x60, 16, 8, .rc, 0x0, false⟩
def F.LENG_CNT2_OVERLAP : Fld := ⟨0x60, 24, 8, .rc, 0x0, false⟩
def F.LENG_CNT3_IDLE_TRIG : Fld := ⟨0x64, 0, 16, .rc, 0x0, false⟩
def F.LENG_WAIT_WAITMAX (n : Nat := 0) : Fld := ⟨0x68 + 0x4 * n, 0, 16, .rc, 0x0, false⟩
def F.LENG_FAULT_LOCAL : Fld := ⟨0x78, 0, 11, .ro, 0x0, false⟩
def F.LENG_FAULT_CAUSE : Fld := ⟨0x78, 11, 4, .ro, 0x0, false⟩
def F.LENG_FAULT_STEP : Fld := ⟨0x78, 16, 12, .ro, 0x0, false⟩
def F.LENG_FAULT_VALID : Fld := ⟨0x78, 31, 1, .rc, 0x0, false⟩
def F.LENG_MISS_LAST_LOCAL : Fld := ⟨0x7c, 0, 11, .ro, 0x0, false⟩
def F.LENG_MISS_LAST_GEN : Fld := ⟨0x7c, 12, 8, .ro, 0x0, false⟩
def F.LENG_MISS_LAST_VALID : Fld := ⟨0x7c, 31, 1, .rc, 0x0, false⟩
def F.LENG_SLICE_STATE (n : Nat := 0) : Fld := ⟨0x80 + 0x4 * n, 0, 2, .ro, 0x0, false⟩
def F.LENG_SLICE_LANE_OUT (n : Nat := 0) : Fld := ⟨0x80 + 0x4 * n, 2, 2, .ro, 0x0, false⟩
def F.LENG_SLICE_DISAG (n : Nat := 0) : Fld := ⟨0x80 + 0x4 * n, 8, 8, .rc, 0x0, false⟩
def F.LENG_SHV_VALUE (n : Nat := 0) : Fld := ⟨0x400 + 0x4 * n, 0, 32, .rw, 0x0, false⟩

/-! ### Page LPRG -/

def F.LPRG_STAT_CORRECTED : Fld := ⟨0x40, 0, 16, .rc, 0x0, false⟩
def F.LPRG_STAT_UNCORR : Fld := ⟨0x40, 16, 8, .rc, 0x0, false⟩
def F.LPRG_STAT_PASSES : Fld := ⟨0x40, 24, 8, .ro, 0x0, false⟩
def F.LPRG_ERR_LAST_STEP : Fld := ⟨0x44, 0, 12, .ro, 0x0, false⟩
def F.LPRG_ERR_LAST_VALID : Fld := ⟨0x44, 31, 1, .rc, 0x0, false⟩
def F.LPRG_HELD_HELD : Fld := ⟨0x48, 0, 16, .rc, 0x0, false⟩

/-! ### Page TRIP -/

def F.TRIP_CTRL_EN (n : Nat := 0) : Fld := ⟨0x40 + 0x4 * n, 0, 1, .rwl, 0x0, true⟩
def F.TRIP_CTRL_POL (n : Nat := 0) : Fld := ⟨0x40 + 0x4 * n, 1, 1, .rwl, 0x0, true⟩
def F.TRIP_CTRL_FILT (n : Nat := 0) : Fld := ⟨0x40 + 0x4 * n, 8, 8, .rw, 0x3, false⟩
def F.TRIP_STAT_LEVEL (n : Nat := 0) : Fld := ⟨0x80 + 0x4 * n, 0, 1, .ro, 0x0, false⟩
def F.TRIP_STAT_ACT_CNT (n : Nat := 0) : Fld := ⟨0x80 + 0x4 * n, 16, 16, .rc, 0x0, false⟩

/-! ### Page PWMG -/

def F.PWMG_PSTAT_ARMED : Fld := ⟨0x40, 0, 16, .ro, 0x0, false⟩
def F.PWMG_PSTAT_TRIPPED : Fld := ⟨0x40, 16, 16, .ro, 0x0, false⟩
def F.PWMG_SYNCCNT_SYNC0 : Fld := ⟨0x44, 0, 16, .rc, 0x0, false⟩
def F.PWMG_SYNCCNT_SYNC1 : Fld := ⟨0x44, 16, 16, .rc, 0x0, false⟩
def F.PWMG_CTRL_RUN (n : Nat := 0) : Fld := ⟨0x80 + 0x60 * n, 0, 1, .rw, 0x0, false⟩
def F.PWMG_CTRL_ARM (n : Nat := 0) : Fld := ⟨0x80 + 0x60 * n, 1, 1, .rwl, 0x0, false⟩
def F.PWMG_CTRL_CLR_REQ (n : Nat := 0) : Fld := ⟨0x80 + 0x60 * n, 2, 1, .rwl, 0x0, false⟩
def F.PWMG_CTRL_SH_HOLD (n : Nat := 0) : Fld := ⟨0x80 + 0x60 * n, 3, 1, .rw, 0x0, false⟩
def F.PWMG_CFG_MINPW_POLICY (n : Nat := 0) : Fld := ⟨0x84 + 0x60 * n, 0, 2, .rwl, 0x0, true⟩
def F.PWMG_CFG_CATCHUP (n : Nat := 0) : Fld := ⟨0x84 + 0x60 * n, 2, 1, .rwl, 0x1, true⟩
def F.PWMG_CFG_EVA_IMM (n : Nat := 0) : Fld := ⟨0x84 + 0x60 * n, 3, 1, .rw, 0x0, false⟩
def F.PWMG_CFG_EVB_IMM (n : Nat := 0) : Fld := ⟨0x84 + 0x60 * n, 4, 1, .rw, 0x0, false⟩
def F.PWMG_CFG_SYNC_SEL (n : Nat := 0) : Fld := ⟨0x84 + 0x60 * n, 5, 2, .rwl, 0x0, true⟩
def F.PWMG_CFG_PRESC (n : Nat := 0) : Fld := ⟨0x84 + 0x60 * n, 8, 8, .rw, 0x0, false⟩
def F.PWMG_CFG_EVPH (n : Nat := 0) : Fld := ⟨0x84 + 0x60 * n, 16, 8, .rw, 0x0, false⟩
def F.PWMG_CFG_LATE_WIN (n : Nat := 0) : Fld := ⟨0x84 + 0x60 * n, 24, 8, .rw, 0x0, false⟩
def F.PWMG_PER_PER (n : Nat := 0) : Fld := ⟨0x88 + 0x60 * n, 0, 27, .rw, 0x0, false⟩
def F.PWMG_PHASE_PHASE (n : Nat := 0) : Fld := ⟨0x8c + 0x60 * n, 0, 27, .rw, 0x0, false⟩
def F.PWMG_CMP_ON_TICK (n : Nat := 0) : Fld := ⟨0x90 + 0x60 * n, 5, 27, .rw, 0x7ffffff, false⟩
def F.PWMG_CMP_ON_FRAC (n : Nat := 0) : Fld := ⟨0x90 + 0x60 * n, 0, 5, .rw, 0x0, false⟩
def F.PWMG_CMP_OFF_TICK (n : Nat := 0) : Fld := ⟨0x94 + 0x60 * n, 5, 27, .rw, 0x7ffffff, false⟩
def F.PWMG_CMP_OFF_FRAC (n : Nat := 0) : Fld := ⟨0x94 + 0x60 * n, 0, 5, .rw, 0x0, false⟩
def F.PWMG_CMP_EVA_TICK (n : Nat := 0) : Fld := ⟨0x98 + 0x60 * n, 5, 27, .rw, 0x7ffffff, false⟩
def F.PWMG_CMP_EVA_FRAC (n : Nat := 0) : Fld := ⟨0x98 + 0x60 * n, 0, 5, .rw, 0x0, false⟩
def F.PWMG_CMP_EVB_TICK (n : Nat := 0) : Fld := ⟨0x9c + 0x60 * n, 5, 27, .rw, 0x7ffffff, false⟩
def F.PWMG_CMP_EVB_FRAC (n : Nat := 0) : Fld := ⟨0x9c + 0x60 * n, 0, 5, .rw, 0x0, false⟩
def F.PWMG_DT_DT (n : Nat := 0) : Fld := ⟨0xa0 + 0x60 * n, 0, 20, .rwl, 0x0, true⟩
def F.PWMG_MINPW_MINPW (n : Nat := 0) : Fld := ⟨0xa4 + 0x60 * n, 0, 20, .rwl, 0x0, true⟩
def F.PWMG_BLANK_BLANK (n : Nat := 0) : Fld := ⟨0xa8 + 0x60 * n, 0, 16, .rwl, 0x0, true⟩
def F.PWMG_BIND_MODE (n : Nat := 0) : Fld := ⟨0xac + 0x60 * n, 0, 2, .rwl, 0x0, true⟩
def F.PWMG_BIND_L_EN (n : Nat := 0) : Fld := ⟨0xac + 0x60 * n, 2, 1, .rwl, 0x1, true⟩
def F.PWMG_BIND_H_PIN (n : Nat := 0) : Fld := ⟨0xac + 0x60 * n, 4, 6, .rwl, 0x0, true⟩
def F.PWMG_BIND_L_PIN (n : Nat := 0) : Fld := ⟨0xac + 0x60 * n, 10, 6, .rwl, 0x0, true⟩
def F.PWMG_BIND_NODE (n : Nat := 0) : Fld := ⟨0xac + 0x60 * n, 16, 10, .rwl, 0x0, true⟩
def F.PWMG_BIND_LEG (n : Nat := 0) : Fld := ⟨0xac + 0x60 * n, 26, 2, .rwl, 0x0, true⟩
def F.PWMG_TRIPSEL_CMP (n : Nat := 0) : Fld := ⟨0xb0 + 0x60 * n, 0, 16, .rwl, 0x0, true⟩
def F.PWMG_TRIPSEL_PIN (n : Nat := 0) : Fld := ⟨0xb0 + 0x60 * n, 16, 16, .rwl, 0x0, true⟩
def F.PWMG_STAT_STATE (n : Nat := 0) : Fld := ⟨0xb4 + 0x60 * n, 0, 3, .ro, 0x0, false⟩
def F.PWMG_STAT_LATE (n : Nat := 0) : Fld := ⟨0xb4 + 0x60 * n, 3, 1, .w1c, 0x0, false⟩
def F.PWMG_STAT_CFG_ERR (n : Nat := 0) : Fld := ⟨0xb4 + 0x60 * n, 4, 1, .w1c, 0x0, false⟩
def F.PWMG_STAT_CATCHUP (n : Nat := 0) : Fld := ⟨0xb4 + 0x60 * n, 5, 1, .w1c, 0x0, false⟩
def F.PWMG_STAT_SYNC_LD (n : Nat := 0) : Fld := ⟨0xb4 + 0x60 * n, 6, 1, .w1c, 0x0, false⟩
def F.PWMG_STAT_H (n : Nat := 0) : Fld := ⟨0xb4 + 0x60 * n, 8, 1, .ro, 0x0, false⟩
def F.PWMG_STAT_L (n : Nat := 0) : Fld := ⟨0xb4 + 0x60 * n, 9, 1, .ro, 0x0, false⟩
def F.PWMG_STAT_DS (n : Nat := 0) : Fld := ⟨0xb4 + 0x60 * n, 10, 1, .ro, 0x1, false⟩
def F.PWMG_STAT_LATE_CNT (n : Nat := 0) : Fld := ⟨0xb4 + 0x60 * n, 16, 16, .rc, 0x0, false⟩
def F.PWMG_CNT_COUNT (n : Nat := 0) : Fld := ⟨0xb8 + 0x60 * n, 0, 27, .ro, 0x0, false⟩
def F.PWMG_DROPS_DROPS (n : Nat := 0) : Fld := ⟨0xbc + 0x60 * n, 0, 16, .rc, 0x0, false⟩
def F.PWMG_DROPS_STRETCH (n : Nat := 0) : Fld := ⟨0xbc + 0x60 * n, 16, 16, .rc, 0x0, false⟩
def F.PWMG_CSUPP_CSUPP (n : Nat := 0) : Fld := ⟨0xc0 + 0x60 * n, 0, 16, .rc, 0x0, false⟩
def F.PWMG_CSUPP_CSHORT (n : Nat := 0) : Fld := ⟨0xc0 + 0x60 * n, 16, 16, .rc, 0x0, false⟩
def F.PWMG_TRIPREC_TRIPS (n : Nat := 0) : Fld := ⟨0xc4 + 0x60 * n, 0, 8, .rc, 0x0, false⟩
def F.PWMG_TRIPREC_SRC (n : Nat := 0) : Fld := ⟨0xc4 + 0x60 * n, 8, 5, .ro, 0x0, false⟩
def F.PWMG_TRIPREC_SRC_VALID (n : Nat := 0) : Fld := ⟨0xc4 + 0x60 * n, 13, 1, .ro, 0x0, false⟩
def F.PWMG_START_START (n : Nat := 0) : Fld := ⟨0xc8 + 0x60 * n, 0, 64, .rw, 0x0, false⟩
def F.PWMG_PNUM_PNUM (n : Nat := 0) : Fld := ⟨0xd0 + 0x60 * n, 0, 64, .rs, 0x0, false⟩
def F.PWMG_TRIP_TICK_TICK (n : Nat := 0) : Fld := ⟨0xd8 + 0x60 * n, 0, 32, .ro, 0x0, false⟩
def F.PWMG_EVSEL_PA_SEL (n : Nat := 0) : Fld := ⟨0xdc + 0x60 * n, 0, 6, .rw, 0x0, false⟩
def F.PWMG_EVSEL_PB_SEL (n : Nat := 0) : Fld := ⟨0xdc + 0x60 * n, 8, 6, .rw, 0x0, false⟩
def F.LEDG_CFG_ARM (n : Nat := 0) : Fld := ⟨0x680 + 0x18 * n, 0, 4, .rwl, 0x0, true⟩
def F.LEDG_CFG_EN (n : Nat := 0) : Fld := ⟨0x680 + 0x18 * n, 4, 1, .rwl, 0x0, true⟩
def F.LEDG_CFG_SIGN (n : Nat := 0) : Fld := ⟨0x680 + 0x18 * n, 5, 1, .rwl, 0x0, true⟩
def F.LEDG_CFG_RMAX (n : Nat := 0) : Fld := ⟨0x680 + 0x18 * n, 6, 4, .rwl, 0x8, true⟩
def F.LEDG_FRAC_FRAC (n : Nat := 0) : Fld := ⟨0x684 + 0x18 * n, 0, 16, .rwl, 0x0, false⟩
def F.LEDG_Q_Q (n : Nat := 0) : Fld := ⟨0x688 + 0x18 * n, 0, 64, .rwl, 0x0, false⟩
def F.LEDG_PERQ_PERQ (n : Nat := 0) : Fld := ⟨0x690 + 0x18 * n, 0, 32, .ro, 0x0, false⟩

/-! ### Page EDGE -/

def F.EDGE_STAT_FREE : Fld := ⟨0x40, 0, 7, .ro, 0x40, false⟩
def F.EDGE_STAT_IN_SERVICE : Fld := ⟨0x40, 8, 7, .ro, 0x40, false⟩
def F.EDGE_CNT_DELAYED : Fld := ⟨0x44, 0, 16, .rc, 0x0, false⟩
def F.EDGE_CNT_DISAG : Fld := ⟨0x44, 16, 8, .rc, 0x0, false⟩
def F.EDGE_CNT_NOMAJ : Fld := ⟨0x44, 24, 8, .rc, 0x0, false⟩
def F.EDGE_WAIT_LWAIT_MAX : Fld := ⟨0x48, 0, 16, .rc, 0x0, false⟩
def F.EDGE_WAIT_RWAIT_MAX : Fld := ⟨0x48, 16, 16, .rc, 0x0, false⟩
def F.EDGE_LAST_GEN : Fld := ⟨0x4c, 0, 8, .ro, 0x0, false⟩
def F.EDGE_LAST_VALID : Fld := ⟨0x4c, 31, 1, .rc, 0x0, false⟩

/-! ### Page PKEEP -/

def F.PK_BANK_PD_EN : Fld := ⟨0x40, 0, 1, .rwl, 0x1, false⟩
def F.PK_PIN_CTRL_INV (n : Nat := 0) : Fld := ⟨0x80 + 0x8 * n, 0, 1, .rwl, 0x0, true⟩
def F.PK_PIN_CTRL_REPEAT_MAX (n : Nat := 0) : Fld := ⟨0x80 + 0x8 * n, 1, 4, .rwl, 0x8, true⟩
def F.PK_PIN_STAT_STATE (n : Nat := 0) : Fld := ⟨0x84 + 0x8 * n, 0, 2, .ro, 0x0, false⟩
def F.PK_PIN_STAT_LEVEL (n : Nat := 0) : Fld := ⟨0x84 + 0x8 * n, 2, 1, .ro, 0x0, false⟩
def F.PK_PIN_STAT_LT (n : Nat := 0) : Fld := ⟨0x84 + 0x8 * n, 3, 3, .ro, 0x0, false⟩
def F.PK_PIN_STAT_GEN (n : Nat := 0) : Fld := ⟨0x84 + 0x8 * n, 6, 8, .ro, 0x0, false⟩
def F.PK_PIN_STAT_BOUND (n : Nat := 0) : Fld := ⟨0x84 + 0x8 * n, 14, 1, .ro, 0x0, false⟩
def F.PK_PIN_STAT_VOTE_DIS (n : Nat := 0) : Fld := ⟨0x84 + 0x8 * n, 16, 8, .rc, 0x0, false⟩
def F.PK_PIN_STAT_REPEATS (n : Nat := 0) : Fld := ⟨0x84 + 0x8 * n, 24, 4, .ro, 0x0, false⟩

/-! ### Page RING -/

def F.RING_CTRL_EN : Fld := ⟨0x40, 0, 1, .rwl, 0x0, true⟩
def F.RING_CTRL_EDGE_EN : Fld := ⟨0x40, 1, 1, .rwl, 0x0, true⟩
def F.RING_CTRL_TIME_EN : Fld := ⟨0x40, 2, 1, .rw, 0x1, true⟩
def F.RING_CTRL_AUTO_JOIN : Fld := ⟨0x40, 3, 1, .rw, 0x1, true⟩
def F.RING_CTRL_CAL : Fld := ⟨0x40, 4, 1, .w1s, 0x0, false⟩
def F.RING_CTRL_ENUM : Fld := ⟨0x40, 5, 1, .w1s, 0x0, false⟩
def F.RING_CTRL_FORCE : Fld := ⟨0x40, 6, 1, .rw, 0x0, false⟩
def F.RING_CTRL_NODES : Fld := ⟨0x40, 8, 6, .rwl, 0x0, true⟩
def F.RING_STAT_RX_CW : Fld := ⟨0x44, 0, 1, .ro, 0x0, false⟩
def F.RING_STAT_RX_CCW : Fld := ⟨0x44, 1, 1, .ro, 0x0, false⟩
def F.RING_STAT_WHOLE : Fld := ⟨0x44, 2, 1, .ro, 0x0, false⟩
def F.RING_STAT_FOUND : Fld := ⟨0x44, 8, 6, .ro, 0x0, false⟩
def F.RING_BRK_CW_POS : Fld := ⟨0x48, 0, 5, .ro, 0x0, false⟩
def F.RING_BRK_CW_VALID : Fld := ⟨0x48, 5, 1, .ro, 0x0, false⟩
def F.RING_BRK_CCW_POS : Fld := ⟨0x48, 8, 5, .ro, 0x0, false⟩
def F.RING_BRK_CCW_VALID : Fld := ⟨0x48, 13, 1, .ro, 0x0, false⟩
def F.RING_UP_UP : Fld := ⟨0x4c, 0, 32, .ro, 0x0, false⟩
def F.RING_LOST_LOST : Fld := ⟨0x50, 0, 32, .w1c, 0x0, false⟩
def F.RING_JOIN_JOIN : Fld := ⟨0x54, 0, 32, .ro, 0x0, false⟩
def F.RING_LEAD_LEAD : Fld := ⟨0x58, 0, 24, .rw, 0x0, true⟩
def F.RING_TMO_LOSS_TMO : Fld := ⟨0x5c, 0, 16, .rw, 0xc8, true⟩
def F.RING_TMO_MGMT_TMO : Fld := ⟨0x5c, 16, 16, .rw, 0x64, true⟩
def F.RING_TPER_TIME_PER : Fld := ⟨0x60, 0, 16, .rw, 0xa, true⟩
def F.RING_CNT0_CRC_CW : Fld := ⟨0x64, 0, 16, .rc, 0x0, false⟩
def F.RING_CNT0_CRC_CCW : Fld := ⟨0x64, 16, 16, .rc, 0x0, false⟩
def F.RING_CNT1_DUP : Fld := ⟨0x68, 0, 16, .rc, 0x0, false⟩
def F.RING_CNT1_SHORT_LEAD : Fld := ⟨0x68, 16, 16, .rc, 0x0, false⟩
def F.RING_CNT2_LATE_EDGE : Fld := ⟨0x6c, 0, 16, .rc, 0x0, false⟩
def F.RING_CNT2_TX_OVF : Fld := ⟨0x6c, 16, 8, .rc, 0x0, false⟩
def F.RING_CNT2_PURGED : Fld := ⟨0x6c, 24, 8, .rc, 0x0, false⟩
def F.RING_CNT3_RECLAIM : Fld := ⟨0x70, 0, 16, .rc, 0x0, false⟩
def F.RING_CNT3_LATE_RSP : Fld := ⟨0x70, 16, 16, .rc, 0x0, false⟩
def F.RING_CNT4_REPEATS : Fld := ⟨0x74, 0, 16, .rc, 0x0, false⟩
def F.RING_CNT4_FRAMING : Fld := ⟨0x74, 16, 16, .rc, 0x0, false⟩
def F.RING_MREQ_LO_ADDR : Fld := ⟨0x78, 0, 12, .wo, 0x0, false⟩
def F.RING_MREQ_LO_POS : Fld := ⟨0x78, 12, 5, .wo, 0x0, false⟩
def F.RING_MREQ_LO_WR : Fld := ⟨0x78, 17, 1, .wo, 0x0, false⟩
def F.RING_MREQ_LO_TAG : Fld := ⟨0x78, 24, 8, .wo, 0x0, false⟩
def F.RING_MREQ_HI_DATA : Fld := ⟨0x7c, 0, 32, .wo, 0x0, false⟩
def F.RING_MRSP_DATA : Fld := ⟨0x80, 0, 64, .rs, 0x0, false⟩
def F.RING_MSTAT_REQ_LEVEL : Fld := ⟨0x88, 0, 5, .ro, 0x0, false⟩
def F.RING_MSTAT_RSP_LEVEL : Fld := ⟨0x88, 8, 5, .ro, 0x0, false⟩
def F.RING_DLY_CW_DLY (n : Nat := 0) : Fld := ⟨0x100 + 0x8 * n, 0, 24, .ro, 0x0, false⟩
def F.RING_DLY_CCW_DLY (n : Nat := 0) : Fld := ⟨0x104 + 0x8 * n, 0, 24, .ro, 0x0, false⟩
def F.RING_CRED_DEPTH (n : Nat := 0) : Fld := ⟨0x200 + 0x4 * n, 0, 4, .ro, 0x0, false⟩
def F.RING_CRED_AVAIL (n : Nat := 0) : Fld := ⟨0x200 + 0x4 * n, 4, 4, .ro, 0x0, false⟩
def F.RING_CRED_INFLIGHT (n : Nat := 0) : Fld := ⟨0x200 + 0x4 * n, 8, 4, .ro, 0x0, false⟩

/-! ### Page SERD -/

def F.SERD_GSTAT_PLL_LOCK : Fld := ⟨0x40, 0, 1, .ro, 0x0, false⟩
def F.SERD_LCTRL_RST (n : Nat := 0) : Fld := ⟨0x80 + 0x8 * n, 0, 1, .rw, 0x0, false⟩
def F.SERD_LCTRL_TX_INV (n : Nat := 0) : Fld := ⟨0x80 + 0x8 * n, 1, 1, .rwl, 0x0, true⟩
def F.SERD_LCTRL_RX_INV (n : Nat := 0) : Fld := ⟨0x80 + 0x8 * n, 2, 1, .rwl, 0x0, true⟩
def F.SERD_LCTRL_PRE (n : Nat := 0) : Fld := ⟨0x80 + 0x8 * n, 8, 4, .rwl, 0x0, true⟩
def F.SERD_LCTRL_POST (n : Nat := 0) : Fld := ⟨0x80 + 0x8 * n, 12, 4, .rwl, 0x4, true⟩
def F.SERD_LCTRL_SWING (n : Nat := 0) : Fld := ⟨0x80 + 0x8 * n, 16, 4, .rwl, 0x8, true⟩
def F.SERD_LSTAT_LOCK (n : Nat := 0) : Fld := ⟨0x84 + 0x8 * n, 0, 1, .ro, 0x0, false⟩
def F.SERD_LSTAT_HI_BER (n : Nat := 0) : Fld := ⟨0x84 + 0x8 * n, 1, 1, .ro, 0x0, false⟩
def F.SERD_LSTAT_LOCK_LOSS (n : Nat := 0) : Fld := ⟨0x84 + 0x8 * n, 8, 8, .rc, 0x0, false⟩
def F.SERD_LSTAT_SH_ERR (n : Nat := 0) : Fld := ⟨0x84 + 0x8 * n, 16, 16, .rc, 0x0, false⟩

/-! ### Page FCST0 -/

def F.FCST_CTRL_EN : Fld := ⟨0x40, 0, 1, .rwl, 0x0, true⟩
def F.FCST_STAT_BUSY : Fld := ⟨0x44, 0, 1, .ro, 0x0, false⟩
def F.FCST_STAT_STAGE : Fld := ⟨0x44, 1, 3, .ro, 0x0, false⟩
def F.FCST_STAT_JOB : Fld := ⟨0x44, 4, 4, .ro, 0x0, false⟩
def F.FCST_STAT_QUEUED : Fld := ⟨0x44, 8, 5, .ro, 0x0, false⟩
def F.FCST_CNT_REPLACED : Fld := ⟨0x48, 0, 16, .rc, 0x0, false⟩
def F.FCST_MACS_MACS : Fld := ⟨0x4c, 0, 64, .rs, 0x0, false⟩

/-! ### Page FCSTJ -/

def F.JOB_CTRL_EN : Fld := ⟨0x40, 0, 1, .rw, 0x0, false⟩
def F.JOB_CTRL_LATE_POL : Fld := ⟨0x40, 1, 1, .rw, 0x0, false⟩
def F.JOB_CTRL_BANK : Fld := ⟨0x40, 2, 1, .rw, 0x0, false⟩
def F.JOB_CTRL_REF_SRC : Fld := ⟨0x40, 3, 1, .rw, 0x0, false⟩
def F.JOB_CTRL_LAUNCH_SRC : Fld := ⟨0x40, 4, 1, .rw, 0x0, false⟩
def F.JOB_CTRL_REF_SHV : Fld := ⟨0x40, 8, 8, .rw, 0x0, false⟩
def F.JOB_DIM_HM1 : Fld := ⟨0x44, 0, 5, .rw, 0x0, false⟩
def F.JOB_DIM_JM1 : Fld := ⟨0x44, 5, 6, .rw, 0x0, false⟩
def F.JOB_DIM_GWORD : Fld := ⟨0x44, 12, 4, .rw, 0x0, false⟩
def F.JOB_REFGEN_LT : Fld := ⟨0x48, 0, 3, .rw, 0x0, false⟩
def F.JOB_REFGEN_GEN : Fld := ⟨0x48, 3, 8, .rw, 0x0, false⟩
def F.JOB_OFS_OFS : Fld := ⟨0x4c, 0, 27, .rw, 0x0, false⟩
def F.JOB_REF_REF : Fld := ⟨0x50, 0, 16, .rw, 0x0, false⟩
def F.JOB_RUN_LT (n : Nat := 0) : Fld := ⟨0x54 + 0x4 * n, 0, 3, .rw, 0x0, false⟩
def F.JOB_RUN_FIRST (n : Nat := 0) : Fld := ⟨0x54 + 0x4 * n, 5, 11, .rw, 0x0, false⟩
def F.JOB_RUN_COUNT (n : Nat := 0) : Fld := ⟨0x54 + 0x4 * n, 16, 10, .rw, 0x0, false⟩
def F.JOB_BASE_BASE (n : Nat := 0) : Fld := ⟨0x64 + 0x8 * n, 0, 48, .rw, 0x0, false⟩
def F.JOB_LIB_COUNT : Fld := ⟨0x74, 0, 16, .rw, 0x1, false⟩
def F.JOB_LIB_STRIDE : Fld := ⟨0x74, 16, 16, .rw, 0x0, false⟩
def F.JOB_STAT_STATE : Fld := ⟨0x78, 0, 3, .ro, 0x0, false⟩
def F.JOB_STAT_WIN : Fld := ⟨0x78, 4, 6, .ro, 0x0, false⟩
def F.JOB_STAT_LAST_OUT : Fld := ⟨0x78, 12, 3, .ro, 0x0, false⟩
def F.JOB_STAT_CAUSE : Fld := ⟨0x78, 16, 4, .ro, 0x0, false⟩
def F.JOB_CNT0_PLANS : Fld := ⟨0x7c, 0, 16, .rc, 0x0, false⟩
def F.JOB_CNT0_RETARGETED : Fld := ⟨0x7c, 16, 8, .rc, 0x0, false⟩
def F.JOB_CNT0_LATE : Fld := ⟨0x7c, 24, 8, .rc, 0x0, false⟩
def F.JOB_CNT1_FAULTS : Fld := ⟨0x80, 0, 8, .rc, 0x0, false⟩
def F.JOB_CNT1_ABORTED : Fld := ⟨0x80, 8, 8, .rc, 0x0, false⟩
def F.JOB_CNT1_SKIPPED : Fld := ⟨0x80, 16, 8, .rc, 0x0, false⟩
def F.JOB_COST_COST : Fld := ⟨0x84, 0, 48, .rs, 0x0, false⟩
def F.JOB_TIME_DUR : Fld := ⟨0x8c, 0, 16, .ro, 0x0, false⟩
def F.JOB_TIME_MARGIN : Fld := ⟨0x8c, 16, 16, .ro, 0x0, false⟩
def F.JOB_TARGET_TARGET : Fld := ⟨0x90, 0, 32, .ro, 0x0, false⟩

/-! ### Page KLOG -/

def F.KLOG_CTRL_EN : Fld := ⟨0x40, 0, 1, .rwl, 0x0, true⟩
def F.KLOG_CTRL_MODE : Fld := ⟨0x40, 1, 1, .rwl, 0x0, true⟩
def F.KLOG_CTRL_STOP_EN : Fld := ⟨0x40, 2, 1, .rw, 0x0, false⟩
def F.KLOG_CTRL_CLEAR : Fld := ⟨0x40, 3, 1, .w1s, 0x0, false⟩
def F.KLOG_CTRL_TYPES : Fld := ⟨0x40, 8, 8, .rw, 0xff, true⟩
def F.KLOG_BASE_BASE : Fld := ⟨0x44, 0, 48, .rwl, 0x0, true⟩
def F.KLOG_SIZE_LOG2 : Fld := ⟨0x4c, 0, 6, .rwl, 0x1e, true⟩
def F.KLOG_POST_POST : Fld := ⟨0x50, 0, 32, .rw, 0x0, false⟩
def F.KLOG_STAT_STATE : Fld := ⟨0x54, 0, 2, .ro, 0x0, false⟩
def F.KLOG_STAT_WRAPPED : Fld := ⟨0x54, 2, 1, .ro, 0x0, false⟩
def F.KLOG_STAT_LEVEL : Fld := ⟨0x54, 4, 12, .ro, 0x0, false⟩
def F.KLOG_WPTR_WPTR : Fld := ⟨0x58, 0, 64, .rs, 0x0, false⟩
def F.KLOG_PROD_PROD : Fld := ⟨0x60, 0, 64, .rs, 0x0, false⟩
def F.KLOG_DROP_DROP : Fld := ⟨0x68, 0, 64, .rs, 0x0, false⟩
def F.KLOG_STOPSEQ_STOPSEQ : Fld := ⟨0x70, 0, 64, .rs, 0x0, false⟩
def F.KLOG_EVSEL_PRODUCER (n : Nat := 0) : Fld := ⟨0x80 + 0x4 * n, 0, 8, .rw, 0x0, false⟩
def F.KLOG_EVSEL_EN (n : Nat := 0) : Fld := ⟨0x80 + 0x4 * n, 8, 1, .rw, 0x0, false⟩

/-! ### Page LATH0 -/

def F.LATH_STAT_LOOP : Fld := ⟨0x40, 0, 1, .w1c, 0x0, false⟩
def F.LATH_LOOPDROP_LOOPDROP : Fld := ⟨0x44, 0, 32, .ro, 0x0, false⟩
def F.LATH_LOOP_LAST_PROD : Fld := ⟨0x48, 0, 10, .ro, 0x0, false⟩
def F.LATH_LOOP_LAST_LEVEL : Fld := ⟨0x48, 10, 2, .ro, 0x0, false⟩
def F.LATH_LOOP_LAST_INST : Fld := ⟨0x48, 12, 6, .ro, 0x0, false⟩
def F.LATH_LOOP_LAST_HOPS : Fld := ⟨0x48, 18, 3, .ro, 0x0, false⟩
def F.LATH_LOOP_LAST_VALID : Fld := ⟨0x48, 31, 1, .rc, 0x0, false⟩
def F.LATH_SWEV_N : Fld := ⟨0x4c, 0, 6, .wo, 0x0, false⟩
def F.LATH_SEL_PSEL : Fld := ⟨0x50, 0, 10, .rw, 0x0, false⟩
def F.LATH_SEL_CSEL : Fld := ⟨0x50, 16, 8, .rw, 0x0, false⟩
def F.LATH_COMMIT_COMMIT : Fld := ⟨0x54, 0, 1, .rwl, 0x0, false⟩
def F.LATH_COMMIT_LOAD : Fld := ⟨0x54, 1, 1, .wo, 0x0, false⟩
def F.LATH_CIN_PEND : Fld := ⟨0x58, 0, 4, .ro, 0x0, false⟩
def F.LATH_CIN_KIND : Fld := ⟨0x58, 4, 2, .ro, 0x0, false⟩
def F.LATH_CIN_ARRIV_ARRIV : Fld := ⟨0x60, 0, 64, .ro, 0x0, false⟩
def F.LATH_CIN_TAKEN_TAKEN : Fld := ⟨0x68, 0, 64, .ro, 0x0, false⟩
def F.LATH_CIN_OVR_OVR : Fld := ⟨0x70, 0, 64, .ro, 0x0, false⟩
def F.LATH_PROD_PROD : Fld := ⟨0x78, 0, 64, .ro, 0x0, false⟩
def F.LATH_PFLAG_FIRED (n : Nat := 0) : Fld := ⟨0x100 + 0x4 * n, 0, 32, .w1c, 0x0, false⟩
def F.LATH_OFLAG_OVR (n : Nat := 0) : Fld := ⟨0x180 + 0x4 * n, 0, 32, .w1c, 0x0, false⟩

/-! ### Page LATH1 -/

def F.LATH_ROUTE_STG_STG (n : Nat := 0) : Fld := ⟨0x40 + 0x4 * n, 0, 32, .rw, 0x0, false⟩
def F.LATH_ROUTE_CUR_CUR (n : Nat := 0) : Fld := ⟨0xc0 + 0x4 * n, 0, 32, .ro, 0x0, true⟩

/-! ### Page GPIO -/

def F.GPIO_CTRL_OE (n : Nat := 0) : Fld := ⟨0x40 + 0x4 * n, 0, 1, .rwl, 0x0, true⟩
def F.GPIO_CTRL_EDGE (n : Nat := 0) : Fld := ⟨0x40 + 0x4 * n, 1, 2, .rw, 0x3, false⟩
def F.GPIO_CTRL_POL (n : Nat := 0) : Fld := ⟨0x40 + 0x4 * n, 3, 1, .rw, 0x0, false⟩
def F.GPIO_CTRL_ACT (n : Nat := 0) : Fld := ⟨0x40 + 0x4 * n, 4, 2, .rw, 0x0, false⟩
def F.GPIO_CTRL_FILT (n : Nat := 0) : Fld := ⟨0x40 + 0x4 * n, 8, 8, .rw, 0x3, false⟩
def F.GPIO_OUT_OUT : Fld := ⟨0x80, 0, 16, .rw, 0x0, false⟩
def F.GPIO_SET_SET : Fld := ⟨0x84, 0, 16, .w1s, 0x0, false⟩
def F.GPIO_CLR_CLR : Fld := ⟨0x88, 0, 16, .w1c, 0x0, false⟩
def F.GPIO_IN_IN : Fld := ⟨0x8c, 0, 16, .ro, 0x0, false⟩
def F.GPIO_ALAT_ALAT_OVF : Fld := ⟨0x90, 0, 16, .w1c, 0x0, false⟩
def F.GPIO_CNT_EDGES (n : Nat := 0) : Fld := ⟨0xc0 + 0x4 * n, 0, 32, .ro, 0x0, false⟩

/-! ### Page INTC -/

def F.INTC_DOORBELL_SRC : Fld := ⟨0x40, 0, 15, .wo, 0x0, false⟩
def F.INTC_DOORBELL_LOCAL : Fld := ⟨0x40, 15, 1, .wo, 0x0, false⟩
def F.INTC_STAT_SRC_A : Fld := ⟨0x44, 0, 9, .ro, 0x0, false⟩
def F.INTC_STAT_LVL_A : Fld := ⟨0x44, 9, 4, .ro, 0x0, false⟩
def F.INTC_STAT_PRES_A : Fld := ⟨0x44, 13, 1, .ro, 0x0, false⟩
def F.INTC_STAT_SRC_B : Fld := ⟨0x44, 16, 9, .ro, 0x0, false⟩
def F.INTC_STAT_LVL_B : Fld := ⟨0x44, 25, 4, .ro, 0x0, false⟩
def F.INTC_STAT_PRES_B : Fld := ⟨0x44, 29, 1, .ro, 0x0, false⟩
def F.INTC_TAKEN_SRC (n : Nat := 0) : Fld := ⟨0x48 + 0x4 * n, 0, 9, .ro, 0x0, false⟩
def F.INTC_TAKEN_LEVEL (n : Nat := 0) : Fld := ⟨0x48 + 0x4 * n, 9, 4, .ro, 0x0, false⟩
def F.INTC_TAKEN_SAT (n : Nat := 0) : Fld := ⟨0x48 + 0x4 * n, 13, 1, .ro, 0x0, false⟩
def F.INTC_TAKEN_COUNT (n : Nat := 0) : Fld := ⟨0x48 + 0x4 * n, 16, 8, .ro, 0x0, false⟩
def F.INTC_ARRIV_ARRIV : Fld := ⟨0x50, 0, 64, .ro, 0x0, false⟩
def F.INTC_TAKESUM_TAKESUM : Fld := ⟨0x58, 0, 64, .ro, 0x0, false⟩
def F.INTC_SATLOST_SATLOST : Fld := ⟨0x60, 0, 32, .ro, 0x0, false⟩
def F.INTC_WAKE_LEVEL : Fld := ⟨0x64, 0, 5, .ro, 0x0, false⟩
def F.INTC_WAKE_WAITS : Fld := ⟨0x64, 16, 16, .rc, 0x0, false⟩
def F.INTC_HSTAT_HOLDING : Fld := ⟨0x68, 0, 8, .ro, 0x0, false⟩
def F.INTC_HOLD_HOLD_E (n : Nat := 0) : Fld := ⟨0x70 + 0x4 * n, 0, 16, .rw, 0x0, true⟩
def F.INTC_HOLD_HOLD_O (n : Nat := 0) : Fld := ⟨0x70 + 0x4 * n, 16, 16, .rw, 0x0, true⟩
def F.INTC_EN_EN (n : Nat := 0) : Fld := ⟨0x80 + 0x4 * n, 0, 32, .rw, 0x0, true⟩
def F.INTC_PAIR_PAIR (n : Nat := 0) : Fld := ⟨0xc0 + 0x4 * n, 0, 32, .rw, 0x0, true⟩
def F.INTC_PEND_PEND (n : Nat := 0) : Fld := ⟨0x100 + 0x4 * n, 0, 32, .ro, 0x0, false⟩
def F.INTC_SAT_SAT (n : Nat := 0) : Fld := ⟨0x140 + 0x4 * n, 0, 32, .w1c, 0x0, false⟩
def F.INTC_LEVEL_LEVEL0 (n : Nat := 0) : Fld := ⟨0x200 + 0x4 * n, 0, 4, .rw, 0xf, true⟩
def F.INTC_LEVEL_LEVEL1 (n : Nat := 0) : Fld := ⟨0x200 + 0x4 * n, 4, 4, .rw, 0xf, true⟩
def F.INTC_LEVEL_LEVEL2 (n : Nat := 0) : Fld := ⟨0x200 + 0x4 * n, 8, 4, .rw, 0xf, true⟩
def F.INTC_LEVEL_LEVEL3 (n : Nat := 0) : Fld := ⟨0x200 + 0x4 * n, 12, 4, .rw, 0xf, true⟩
def F.INTC_LEVEL_LEVEL4 (n : Nat := 0) : Fld := ⟨0x200 + 0x4 * n, 16, 4, .rw, 0xf, true⟩
def F.INTC_LEVEL_LEVEL5 (n : Nat := 0) : Fld := ⟨0x200 + 0x4 * n, 20, 4, .rw, 0xf, true⟩
def F.INTC_LEVEL_LEVEL6 (n : Nat := 0) : Fld := ⟨0x200 + 0x4 * n, 24, 4, .rw, 0xf, true⟩
def F.INTC_LEVEL_LEVEL7 (n : Nat := 0) : Fld := ⟨0x200 + 0x4 * n, 28, 4, .rw, 0xf, true⟩
def F.INTC_CNT_COUNT0 (n : Nat := 0) : Fld := ⟨0x400 + 0x4 * n, 0, 8, .ro, 0x0, false⟩
def F.INTC_CNT_COUNT1 (n : Nat := 0) : Fld := ⟨0x400 + 0x4 * n, 8, 8, .ro, 0x0, false⟩
def F.INTC_CNT_COUNT2 (n : Nat := 0) : Fld := ⟨0x400 + 0x4 * n, 16, 8, .ro, 0x0, false⟩
def F.INTC_CNT_COUNT3 (n : Nat := 0) : Fld := ⟨0x400 + 0x4 * n, 24, 8, .ro, 0x0, false⟩

/-! ### Page DINTC -/

def F.DINTC_DOORBELL_SRC : Fld := ⟨0x40, 0, 15, .wo, 0x0, false⟩
def F.DINTC_CLAIM_SRC : Fld := ⟨0x44, 0, 15, .rs, 0x0, false⟩
def F.DINTC_CLAIM_COUNT : Fld := ⟨0x44, 16, 8, .rs, 0x0, false⟩
def F.DINTC_CLAIM_SAT : Fld := ⟨0x44, 24, 1, .rs, 0x0, false⟩
def F.DINTC_CLAIM_VALID : Fld := ⟨0x44, 31, 1, .rs, 0x0, false⟩
def F.DINTC_ARRIV_ARRIV : Fld := ⟨0x48, 0, 64, .ro, 0x0, false⟩
def F.DINTC_TAKESUM_TAKESUM : Fld := ⟨0x50, 0, 64, .ro, 0x0, false⟩
def F.DINTC_SATLOST_SATLOST : Fld := ⟨0x58, 0, 32, .ro, 0x0, false⟩
def F.DINTC_ROUTE_LT0 (n : Nat := 0) : Fld := ⟨0x60 + 0x4 * n, 0, 5, .rw, 0x0, true⟩
def F.DINTC_ROUTE_PAIR0 (n : Nat := 0) : Fld := ⟨0x60 + 0x4 * n, 5, 1, .rw, 0x0, true⟩
def F.DINTC_ROUTE_EN0 (n : Nat := 0) : Fld := ⟨0x60 + 0x4 * n, 6, 1, .rw, 0x0, true⟩
def F.DINTC_ROUTE_LT1 (n : Nat := 0) : Fld := ⟨0x60 + 0x4 * n, 8, 5, .rw, 0x0, true⟩
def F.DINTC_ROUTE_PAIR1 (n : Nat := 0) : Fld := ⟨0x60 + 0x4 * n, 13, 1, .rw, 0x0, true⟩
def F.DINTC_ROUTE_EN1 (n : Nat := 0) : Fld := ⟨0x60 + 0x4 * n, 14, 1, .rw, 0x0, true⟩
def F.DINTC_ROUTE_LT2 (n : Nat := 0) : Fld := ⟨0x60 + 0x4 * n, 16, 5, .rw, 0x0, true⟩
def F.DINTC_ROUTE_PAIR2 (n : Nat := 0) : Fld := ⟨0x60 + 0x4 * n, 21, 1, .rw, 0x0, true⟩
def F.DINTC_ROUTE_EN2 (n : Nat := 0) : Fld := ⟨0x60 + 0x4 * n, 22, 1, .rw, 0x0, true⟩
def F.DINTC_ROUTE_LT3 (n : Nat := 0) : Fld := ⟨0x60 + 0x4 * n, 24, 5, .rw, 0x0, true⟩
def F.DINTC_ROUTE_PAIR3 (n : Nat := 0) : Fld := ⟨0x60 + 0x4 * n, 29, 1, .rw, 0x0, true⟩
def F.DINTC_ROUTE_EN3 (n : Nat := 0) : Fld := ⟨0x60 + 0x4 * n, 30, 1, .rw, 0x0, true⟩
def F.DINTC_HOLD_HOLD_E (n : Nat := 0) : Fld := ⟨0x80 + 0x4 * n, 0, 16, .rw, 0x0, true⟩
def F.DINTC_HOLD_HOLD_O (n : Nat := 0) : Fld := ⟨0x80 + 0x4 * n, 16, 16, .rw, 0x0, true⟩
def F.DINTC_HSTAT_HOLDING : Fld := ⟨0xa0, 0, 16, .ro, 0x0, false⟩
def F.DINTC_EN_EN (n : Nat := 0) : Fld := ⟨0x100 + 0x4 * n, 0, 32, .rw, 0x0, true⟩
def F.DINTC_PEND_PEND (n : Nat := 0) : Fld := ⟨0x180 + 0x4 * n, 0, 32, .ro, 0x0, false⟩
def F.DINTC_SAT_SAT (n : Nat := 0) : Fld := ⟨0x200 + 0x4 * n, 0, 32, .w1c, 0x0, false⟩
def F.DINTC_CNT_COUNT0 (n : Nat := 0) : Fld := ⟨0x400 + 0x4 * n, 0, 8, .ro, 0x0, false⟩
def F.DINTC_CNT_COUNT1 (n : Nat := 0) : Fld := ⟨0x400 + 0x4 * n, 8, 8, .ro, 0x0, false⟩
def F.DINTC_CNT_COUNT2 (n : Nat := 0) : Fld := ⟨0x400 + 0x4 * n, 16, 8, .ro, 0x0, false⟩
def F.DINTC_CNT_COUNT3 (n : Nat := 0) : Fld := ⟨0x400 + 0x4 * n, 24, 8, .ro, 0x0, false⟩

/-! ### Page CORE -/

def F.CORE_CTRL_HOLD : Fld := ⟨0x40, 0, 1, .rwl, 0x1, false⟩
def F.CORE_CTRL_RST : Fld := ⟨0x40, 1, 1, .rwl, 0x0, false⟩
def F.CORE_STAT_MODE : Fld := ⟨0x44, 0, 2, .ro, 0x1, false⟩
def F.CORE_STAT_IE : Fld := ⟨0x44, 2, 1, .ro, 0x0, false⟩
def F.CORE_STAT_EXL : Fld := ⟨0x44, 3, 1, .ro, 0x0, false⟩
def F.CORE_STAT_MCL : Fld := ⟨0x44, 4, 1, .ro, 0x0, false⟩
def F.CORE_STAT_IPL : Fld := ⟨0x44, 5, 5, .ro, 0x10, false⟩
def F.CORE_STAT_HALTED : Fld := ⟨0x44, 10, 1, .ro, 0x0, false⟩
def F.CORE_STAT_HELD : Fld := ⟨0x44, 11, 1, .ro, 0x1, false⟩
def F.CORE_STAT_STOPPED : Fld := ⟨0x44, 12, 1, .ro, 0x0, false⟩
def F.CORE_STAT_WAITING : Fld := ⟨0x44, 13, 1, .ro, 0x0, false⟩
def F.CORE_PC_PC : Fld := ⟨0x48, 0, 48, .ro, 0x0, false⟩
def F.CORE_CKPT_GEN : Fld := ⟨0x50, 0, 8, .rwl, 0x0, true⟩
def F.CORE_CKPT_GVALID : Fld := ⟨0x50, 8, 1, .rwl, 0x0, true⟩
def F.CORE_CKPT_TICK_TICK : Fld := ⟨0x54, 0, 64, .rs, 0x0, false⟩
def F.CORE_LSTEP_MISMATCH : Fld := ⟨0x5c, 0, 8, .rc, 0x0, false⟩
def F.CORE_LSTEP_ROLLBACK : Fld := ⟨0x5c, 8, 8, .rc, 0x0, false⟩
def F.CORE_LSTEP_WHERE : Fld := ⟨0x5c, 16, 4, .ro, 0x0, false⟩
def F.CORE_MCHK_MCC : Fld := ⟨0x60, 0, 8, .ro, 0x0, false⟩
def F.CORE_MCHK_COUNT : Fld := ⟨0x60, 8, 8, .rc, 0x0, false⟩
def F.CORE_PERF0_LSTALL : Fld := ⟨0x64, 0, 16, .rc, 0x0, false⟩
def F.CORE_PERF0_MEMWAIT : Fld := ⟨0x64, 16, 16, .rc, 0x0, false⟩
def F.CORE_ISSUE_GROUPS : Fld := ⟨0x68, 0, 64, .rs, 0x0, false⟩
def F.CORE_RLOG_LEVEL : Fld := ⟨0x70, 0, 11, .ro, 0x0, false⟩
def F.CORE_RLOG_REPLAY : Fld := ⟨0x70, 11, 1, .ro, 0x0, false⟩
def F.CORE_RLOG_FORCED : Fld := ⟨0x70, 16, 8, .rc, 0x0, false⟩
def F.CORE_RLOG_DIVERGE : Fld := ⟨0x70, 24, 8, .rc, 0x0, false⟩
def F.CORE_DCTL_HALT_REQ : Fld := ⟨0x80, 0, 1, .w1s, 0x0, false⟩
def F.CORE_DCTL_RESUME : Fld := ⟨0x80, 1, 1, .wo, 0x0, false⟩
def F.CORE_DCTL_STEP : Fld := ⟨0x80, 2, 1, .wo, 0x0, false⟩
def F.CORE_DCTL_MASK_IRQ : Fld := ⟨0x80, 3, 1, .rw, 0x0, false⟩
def F.CORE_DCTL_SWBP : Fld := ⟨0x80, 4, 1, .rw, 0x0, false⟩
def F.CORE_DSEL_INDEX : Fld := ⟨0x84, 0, 10, .rw, 0x0, false⟩
def F.CORE_DDATA_VALUE : Fld := ⟨0x88, 0, 64, .rw, 0x0, false⟩
def F.CORE_DDATA_X_VALUE : Fld := ⟨0x90, 0, 8, .rw, 0x0, false⟩
def F.CORE_BPCTL_EN (n : Nat := 0) : Fld := ⟨0xa0 + 0x10 * n, 0, 1, .rw, 0x0, false⟩
def F.CORE_BPCTL_ASID_EN (n : Nat := 0) : Fld := ⟨0xa0 + 0x10 * n, 1, 1, .rw, 0x0, false⟩
def F.CORE_BPCTL_R (n : Nat := 0) : Fld := ⟨0xa0 + 0x10 * n, 2, 1, .rw, 0x0, false⟩
def F.CORE_BPCTL_W (n : Nat := 0) : Fld := ⟨0xa0 + 0x10 * n, 3, 1, .rw, 0x0, false⟩
def F.CORE_BPCTL_ASID (n : Nat := 0) : Fld := ⟨0xa0 + 0x10 * n, 16, 12, .rw, 0x0, false⟩
def F.CORE_BPADDR_ADDR (n : Nat := 0) : Fld := ⟨0xa4 + 0x10 * n, 0, 48, .rw, 0x0, false⟩
def F.CORE_BPLEN_LEN (n : Nat := 0) : Fld := ⟨0xac + 0x10 * n, 0, 32, .rw, 0x1, false⟩

/-! ### Page TSRAM -/

def F.TSRAM_ECC_CORRECTED : Fld := ⟨0x40, 0, 16, .rc, 0x0, false⟩
def F.TSRAM_ECC_UNCORR : Fld := ⟨0x40, 16, 8, .rc, 0x0, false⟩
def F.TSRAM_ECC_PWLOST : Fld := ⟨0x40, 24, 8, .rc, 0x0, false⟩
def F.TSRAM_UE_ADDR_WORD : Fld := ⟨0x44, 3, 18, .ro, 0x0, false⟩
def F.TSRAM_UE_ADDR_VALID : Fld := ⟨0x44, 31, 1, .rc, 0x0, false⟩
def F.TSRAM_SCRUB_PASSES : Fld := ⟨0x48, 0, 8, .ro, 0x0, false⟩
def F.TSRAM_ARB_PRI0_PRI0 : Fld := ⟨0x100, 0, 3, .rw, 0x4, true⟩
def F.TSRAM_ARB_PRI0_PRI1 : Fld := ⟨0x100, 4, 3, .rw, 0x4, true⟩
def F.TSRAM_ARB_PRI0_PRI2 : Fld := ⟨0x100, 8, 3, .rw, 0x4, true⟩
def F.TSRAM_ARB_PRI0_PRI3 : Fld := ⟨0x100, 12, 3, .rw, 0x4, true⟩
def F.TSRAM_ARB_PRI0_PRI4 : Fld := ⟨0x100, 16, 3, .rw, 0x3, true⟩
def F.TSRAM_ARB_PRI0_PRI5 : Fld := ⟨0x100, 20, 3, .rw, 0x2, true⟩
def F.TSRAM_ARB_PRI0_PRI6 : Fld := ⟨0x100, 24, 3, .rw, 0x5, true⟩
def F.TSRAM_ARB_FRZ_FREEZE : Fld := ⟨0x108, 0, 1, .rwl, 0x0, false⟩
def F.TSRAM_ARB_STAT_DRAINED : Fld := ⟨0x10c, 0, 1, .ro, 0x0, false⟩
def F.TSRAM_ARB_STAT_REVOKES : Fld := ⟨0x10c, 16, 16, .rc, 0x0, false⟩

/-! ### Page CSRAM -/

def F.CSRAM_ECC_CORRECTED : Fld := ⟨0x40, 0, 16, .rc, 0x0, false⟩
def F.CSRAM_ECC_UNCORR : Fld := ⟨0x40, 16, 8, .rc, 0x0, false⟩
def F.CSRAM_ECC_PWLOST : Fld := ⟨0x40, 24, 8, .rc, 0x0, false⟩
def F.CSRAM_UE_ADDR_WORD : Fld := ⟨0x44, 3, 20, .ro, 0x0, false⟩
def F.CSRAM_UE_ADDR_VALID : Fld := ⟨0x44, 31, 1, .rc, 0x0, false⟩
def F.CSRAM_SCRUB_PASSES : Fld := ⟨0x48, 0, 8, .ro, 0x0, false⟩
def F.CSRAM_ARB_PRI0_PRI0 : Fld := ⟨0x100, 0, 3, .rw, 0x3, true⟩
def F.CSRAM_ARB_PRI0_PRI1 : Fld := ⟨0x100, 4, 3, .rw, 0x3, true⟩
def F.CSRAM_ARB_PRI0_PRI2 : Fld := ⟨0x100, 8, 3, .rw, 0x3, true⟩
def F.CSRAM_ARB_PRI0_PRI3 : Fld := ⟨0x100, 12, 3, .rw, 0x3, true⟩
def F.CSRAM_ARB_PRI0_PRI4 : Fld := ⟨0x100, 16, 3, .rw, 0x3, true⟩
def F.CSRAM_ARB_PRI0_PRI5 : Fld := ⟨0x100, 20, 3, .rw, 0x3, true⟩
def F.CSRAM_ARB_PRI0_PRI6 : Fld := ⟨0x100, 24, 3, .rw, 0x3, true⟩
def F.CSRAM_ARB_PRI0_PRI7 : Fld := ⟨0x100, 28, 3, .rw, 0x3, true⟩
def F.CSRAM_ARB_PRI1_PRI8 : Fld := ⟨0x104, 0, 3, .rw, 0x3, true⟩
def F.CSRAM_ARB_PRI1_PRI9 : Fld := ⟨0x104, 4, 3, .rw, 0x3, true⟩
def F.CSRAM_ARB_PRI1_PRI10 : Fld := ⟨0x104, 8, 3, .rw, 0x3, true⟩
def F.CSRAM_ARB_PRI1_PRI11 : Fld := ⟨0x104, 12, 3, .rw, 0x2, true⟩
def F.CSRAM_ARB_PRI1_PRI12 : Fld := ⟨0x104, 16, 3, .rw, 0x2, true⟩
def F.CSRAM_ARB_FRZ_FREEZE : Fld := ⟨0x108, 0, 1, .rwl, 0x0, false⟩
def F.CSRAM_ARB_STAT_DRAINED : Fld := ⟨0x10c, 0, 1, .ro, 0x0, false⟩
def F.CSRAM_ARB_STAT_REVOKES : Fld := ⟨0x10c, 16, 16, .rc, 0x0, false⟩

/-! ### Page HBMC0 -/

def F.HBM_ECC_CORRECTED : Fld := ⟨0x40, 0, 16, .rc, 0x0, false⟩
def F.HBM_ECC_UNCORR : Fld := ⟨0x40, 16, 8, .rc, 0x0, false⟩
def F.HBM_ECC_PWLOST : Fld := ⟨0x40, 24, 8, .rc, 0x0, false⟩
def F.HBM_SPARE_PC : Fld := ⟨0x44, 0, 5, .ro, 0x0, false⟩
def F.HBM_SPARE_VALID : Fld := ⟨0x44, 5, 1, .ro, 0x0, false⟩
def F.HBM_SPARE_COPYING : Fld := ⟨0x44, 6, 1, .ro, 0x0, false⟩
def F.HBM_SPARE_CMD_PC : Fld := ⟨0x48, 0, 5, .wol, 0x0, false⟩
def F.HBM_SPARE_CMD_GO : Fld := ⟨0x48, 31, 1, .wol, 0x0, false⟩
def F.HBM_RETIRE_RETIRED : Fld := ⟨0x4c, 0, 16, .ro, 0x0, false⟩
def F.HBM_RETIRE_RET_FAIL : Fld := ⟨0x4c, 16, 8, .rc, 0x0, false⟩
def F.HBM_RETIRE_RET_THR : Fld := ⟨0x4c, 24, 8, .rwl, 0x4, true⟩
def F.HBM_UE_ADDR_LINE : Fld := ⟨0x50, 6, 30, .ro, 0x0, false⟩
def F.HBM_UE_ADDR_VALID : Fld := ⟨0x50, 63, 1, .rc, 0x0, false⟩
def F.HBM_SCRUB_PASSES : Fld := ⟨0x58, 0, 8, .ro, 0x0, false⟩
def F.HBM_SPARE_THR_SPARE_THR : Fld := ⟨0x5c, 0, 16, .rwl, 0x1000, true⟩
def F.HBM_ARB_PRI0_PRI0 : Fld := ⟨0x100, 0, 3, .rw, 0x3, true⟩
def F.HBM_ARB_PRI0_PRI1 : Fld := ⟨0x100, 4, 3, .rw, 0x3, true⟩
def F.HBM_ARB_PRI0_PRI2 : Fld := ⟨0x100, 8, 3, .rw, 0x3, true⟩
def F.HBM_ARB_PRI0_PRI3 : Fld := ⟨0x100, 12, 3, .rw, 0x3, true⟩
def F.HBM_ARB_PRI0_PRI4 : Fld := ⟨0x100, 16, 3, .rw, 0x3, true⟩
def F.HBM_ARB_PRI0_PRI5 : Fld := ⟨0x100, 20, 3, .rw, 0x3, true⟩
def F.HBM_ARB_PRI0_PRI6 : Fld := ⟨0x100, 24, 3, .rw, 0x3, true⟩
def F.HBM_ARB_PRI0_PRI7 : Fld := ⟨0x100, 28, 3, .rw, 0x3, true⟩
def F.HBM_ARB_PRI1_PRI8 : Fld := ⟨0x104, 0, 3, .rw, 0x3, true⟩
def F.HBM_ARB_PRI1_PRI9 : Fld := ⟨0x104, 4, 3, .rw, 0x3, true⟩
def F.HBM_ARB_PRI1_PRI10 : Fld := ⟨0x104, 8, 3, .rw, 0x4, true⟩
def F.HBM_ARB_PRI1_PRI11 : Fld := ⟨0x104, 12, 3, .rw, 0x4, true⟩
def F.HBM_ARB_PRI1_PRI12 : Fld := ⟨0x104, 16, 3, .rw, 0x2, true⟩
def F.HBM_ARB_PRI1_PRI13 : Fld := ⟨0x104, 20, 3, .rw, 0x2, true⟩
def F.HBM_ARB_FRZ_FREEZE : Fld := ⟨0x108, 0, 1, .rwl, 0x0, false⟩
def F.HBM_ARB_STAT_DRAINED : Fld := ⟨0x10c, 0, 1, .ro, 0x0, false⟩
def F.HBM_ARB_STAT_REVOKES : Fld := ⟨0x10c, 16, 16, .rc, 0x0, false⟩

/-! ### Page HBMC1 -/

def F.HBM_PC_CE (n : Nat := 0) : Fld := ⟨0x40 + 0x4 * n, 0, 16, .rc, 0x0, false⟩
def F.HBM_PC_UE (n : Nat := 0) : Fld := ⟨0x40 + 0x4 * n, 16, 8, .rc, 0x0, false⟩
def F.HBM_PC_RETIRED (n : Nat := 0) : Fld := ⟨0x40 + 0x4 * n, 24, 8, .ro, 0x0, false⟩

/-! ### Page CNOC -/

def F.CNOC_CNT_HELD : Fld := ⟨0x40, 0, 16, .rc, 0x0, false⟩
def F.CNOC_CNT_NOLOCK : Fld := ⟨0x40, 16, 16, .rc, 0x0, false⟩

/-! ### Page MMU -/

def F.MMU_STAT_WALKS (n : Nat := 0) : Fld := ⟨0x40 + 0x4 * n, 0, 16, .rc, 0x0, false⟩
def F.MMU_STAT_FAULTS (n : Nat := 0) : Fld := ⟨0x40 + 0x4 * n, 16, 16, .rc, 0x0, false⟩

/-! ### Page IOMMU -/

def F.IOCTX_CTL_EN (n : Nat := 0) : Fld := ⟨0x40 + 0x10 * n, 0, 1, .rwl, 0x0, false⟩
def F.IOCTX_CTL_USER (n : Nat := 0) : Fld := ⟨0x40 + 0x10 * n, 1, 1, .rwl, 0x0, false⟩
def F.IOCTX_CTL_ASID (n : Nat := 0) : Fld := ⟨0x40 + 0x10 * n, 16, 12, .rwl, 0x0, false⟩
def F.IOCTX_ROOT_ROOT (n : Nat := 0) : Fld := ⟨0x44 + 0x10 * n, 12, 36, .rwl, 0x0, false⟩
def F.IOMMU_TLBI_SCOPE : Fld := ⟨0x140, 0, 2, .wo, 0x0, false⟩
def F.IOMMU_TLBI_ASID : Fld := ⟨0x140, 16, 12, .wo, 0x0, false⟩
def F.IOMMU_TLBI_VA_VA : Fld := ⟨0x144, 12, 36, .wo, 0x0, false⟩
def F.IOMMU_PIN_USED : Fld := ⟨0x14c, 0, 7, .ro, 0x0, false⟩
def F.IOMMU_PIN_PIN_HIT : Fld := ⟨0x14c, 8, 8, .rc, 0x0, false⟩
def F.IOMMU_PIN_PIN_FULL : Fld := ⟨0x14c, 16, 8, .rc, 0x0, false⟩

/-! ### Page DMAC0 -/

def F.DMAC_CQ_QUEUE : Fld := ⟨0x40, 0, 11, .rwl, 0x0, false⟩
def F.DMAC_CQ_EN : Fld := ⟨0x40, 15, 1, .rwl, 0x0, false⟩
def F.DMAC_FQ_QUEUE : Fld := ⟨0x44, 0, 11, .rwl, 0x0, false⟩
def F.DMAC_FQ_EN : Fld := ⟨0x44, 15, 1, .rwl, 0x0, false⟩

/-! ### Page DMAC -/

def F.CH_CTRL_PRI (n : Nat := 0) : Fld := ⟨0x100 + 0x80 * n, 0, 2, .rw, 0x0, false⟩
def F.CH_CTRL_RT (n : Nat := 0) : Fld := ⟨0x100 + 0x80 * n, 2, 1, .rwl, 0x0, false⟩
def F.CH_CTRL_CTX (n : Nat := 0) : Fld := ⟨0x100 + 0x80 * n, 8, 4, .rw, 0x0, false⟩
def F.CH_CTRL_RT_COUNT (n : Nat := 0) : Fld := ⟨0x100 + 0x80 * n, 16, 4, .rw, 0x0, false⟩
def F.CH_CMD_CMD (n : Nat := 0) : Fld := ⟨0x104 + 0x80 * n, 0, 3, .wo, 0x0, false⟩
def F.CH_STAT_STATE (n : Nat := 0) : Fld := ⟨0x108 + 0x80 * n, 0, 3, .ro, 0x0, false⟩
def F.CH_STAT_LAST_KIND (n : Nat := 0) : Fld := ⟨0x108 + 0x80 * n, 4, 4, .ro, 0x0, false⟩
def F.CH_STAT_CAUSE (n : Nat := 0) : Fld := ⟨0x108 + 0x80 * n, 8, 8, .ro, 0x0, false⟩
def F.CH_STAT_RT_NEXT (n : Nat := 0) : Fld := ⟨0x108 + 0x80 * n, 16, 4, .ro, 0x0, false⟩
def F.CH_RESID_RESID (n : Nat := 0) : Fld := ⟨0x10c + 0x80 * n, 0, 32, .ro, 0x0, false⟩
def F.CH_DESC_DESC (n : Nat := 0) : Fld := ⟨0x110 + 0x80 * n, 0, 48, .rw, 0x0, false⟩
def F.CH_SRC_SRC (n : Nat := 0) : Fld := ⟨0x118 + 0x80 * n, 0, 48, .ro, 0x0, false⟩
def F.CH_DST_DST (n : Nat := 0) : Fld := ⟨0x120 + 0x80 * n, 0, 48, .ro, 0x0, false⟩
def F.CH_REQ_REQ (n : Nat := 0) : Fld := ⟨0x128 + 0x80 * n, 0, 64, .ro, 0x0, false⟩
def F.CH_BYTES_BYTES (n : Nat := 0) : Fld := ⟨0x130 + 0x80 * n, 0, 64, .ro, 0x0, false⟩
def F.CH_RESLEFT_RESLEFT (n : Nat := 0) : Fld := ⟨0x138 + 0x80 * n, 0, 64, .ro, 0x0, false⟩
def F.CH_CNT_DONE (n : Nat := 0) : Fld := ⟨0x140 + 0x80 * n, 0, 16, .rc, 0x0, false⟩
def F.CH_CNT_FAULTS (n : Nat := 0) : Fld := ⟨0x140 + 0x80 * n, 16, 8, .rc, 0x0, false⟩
def F.CH_CNT_ERRORS (n : Nat := 0) : Fld := ⟨0x140 + 0x80 * n, 24, 8, .rc, 0x0, false⟩

/-! ### Page QMGR0 -/

def F.QM_SEL_QUEUE : Fld := ⟨0x40, 0, 11, .rw, 0x0, false⟩
def F.QM_CFG_EN : Fld := ⟨0x44, 0, 1, .rw, 0x0, true⟩
def F.QM_CFG_LOG2N : Fld := ⟨0x44, 1, 5, .rw, 0x0, true⟩
def F.QM_CFG_ESIZE : Fld := ⟨0x44, 6, 2, .rw, 0x0, true⟩
def F.QM_BASE_BASE : Fld := ⟨0x48, 0, 48, .rw, 0x0, true⟩
def F.QM_LEVEL_V : Fld := ⟨0x50, 0, 21, .ro, 0x0, false⟩
def F.QM_FREE_V : Fld := ⟨0x54, 0, 21, .ro, 0x0, false⟩
def F.QM_RSVD_V : Fld := ⟨0x58, 0, 21, .ro, 0x0, false⟩
def F.QM_PUSHED_V : Fld := ⟨0x60, 0, 64, .ro, 0x0, false⟩
def F.QM_POPPED_V : Fld := ⟨0x68, 0, 64, .ro, 0x0, false⟩
def F.QM_REFUSED_V : Fld := ⟨0x70, 0, 64, .ro, 0x0, false⟩

/-! ### Page QMGR1 -/

def F.QM_PUSH_QUEUE : Fld := ⟨0x40, 0, 11, .wo, 0x0, false⟩
def F.QM_PSTAT_RESULT : Fld := ⟨0x44, 0, 2, .ro, 0x0, false⟩
def F.QM_POPSEL_QUEUE : Fld := ⟨0x48, 0, 11, .rw, 0x0, false⟩
def F.QM_POP_VALID : Fld := ⟨0x4c, 0, 1, .rs, 0x0, false⟩
def F.QM_POP_UE : Fld := ⟨0x4c, 1, 1, .rs, 0x0, false⟩
def F.QM_POP_LEVEL : Fld := ⟨0x4c, 16, 16, .rs, 0x0, false⟩
def F.QM_PUSH_D_V (n : Nat := 0) : Fld := ⟨0x80 + 0x4 * n, 0, 32, .rw, 0x0, false⟩
def F.QM_POP_D_V (n : Nat := 0) : Fld := ⟨0xc0 + 0x4 * n, 0, 32, .ro, 0x0, false⟩

/-! ### Page QMGR2 -/

def F.QM_WATCH_QUEUE (n : Nat := 0) : Fld := ⟨0x40 + 0x4 * n, 0, 11, .rw, 0x0, false⟩
def F.QM_WATCH_COND (n : Nat := 0) : Fld := ⟨0x40 + 0x4 * n, 12, 2, .rw, 0x0, false⟩
def F.QM_WATCH_THR (n : Nat := 0) : Fld := ⟨0x40 + 0x4 * n, 16, 16, .rw, 0x0, false⟩
def F.QM_NEMPTY_V (n : Nat := 0) : Fld := ⟨0x100 + 0x4 * n, 0, 32, .ro, 0x0, false⟩

/-! ### Page HLCK -/

def F.HLCK_LEASE_LEASE : Fld := ⟨0x40, 0, 24, .rwl, 0x0, true⟩
def F.HLCK_BRK_LOCK (n : Nat := 0) : Fld := ⟨0x44 + 0x4 * n, 0, 6, .ro, 0x0, false⟩
def F.HLCK_BRK_TILE (n : Nat := 0) : Fld := ⟨0x44 + 0x4 * n, 6, 6, .ro, 0x0, false⟩
def F.HLCK_BRK_CAUSE (n : Nat := 0) : Fld := ⟨0x44 + 0x4 * n, 12, 3, .ro, 0x0, false⟩
def F.HLCK_BRK_MULTI (n : Nat := 0) : Fld := ⟨0x44 + 0x4 * n, 30, 1, .ro, 0x0, false⟩
def F.HLCK_BRK_VALID (n : Nat := 0) : Fld := ⟨0x44 + 0x4 * n, 31, 1, .rc, 0x0, false⟩
def F.HLCK_BRKMAP_BROKEN : Fld := ⟨0x50, 0, 64, .w1c, 0x0, false⟩
def F.HLCK_HELD_HELD : Fld := ⟨0x58, 0, 64, .ro, 0x0, false⟩
def F.HLCK_ACQ_GRANTED (n : Nat := 0) : Fld := ⟨0x100 + 0x4 * n, 0, 1, .rs, 0x0, false⟩
def F.HLCK_ACQ_RENEWED (n : Nat := 0) : Fld := ⟨0x100 + 0x4 * n, 1, 1, .rs, 0x0, false⟩
def F.HLCK_ACQ_OWNER (n : Nat := 0) : Fld := ⟨0x100 + 0x4 * n, 12, 12, .rs, 0x0, false⟩
def F.HLCK_ACQ_HELD (n : Nat := 0) : Fld := ⟨0x100 + 0x4 * n, 31, 1, .rs, 0x0, false⟩
def F.HLCK_BRKW_BREAK (n : Nat := 0) : Fld := ⟨0x300 + 0x4 * n, 0, 1, .wo, 0x0, false⟩

/-! ### Page KEEL -/

def F.FEED_STAT_ACTIVE : Fld := ⟨0x40, 0, 1, .ro, 0x0, false⟩
def F.FEED_STAT_A_OK : Fld := ⟨0x40, 1, 1, .ro, 0x0, false⟩
def F.FEED_STAT_B_OK : Fld := ⟨0x40, 2, 1, .ro, 0x0, false⟩
def F.FEED_STAT_BOTH_BAD : Fld := ⟨0x40, 3, 1, .w1c, 0x0, false⟩
def F.FEED_STAT_A_UV : Fld := ⟨0x40, 4, 1, .w1c, 0x0, false⟩
def F.FEED_STAT_B_UV : Fld := ⟨0x40, 5, 1, .w1c, 0x0, false⟩
def F.FEED_STAT_A_OV : Fld := ⟨0x40, 6, 1, .w1c, 0x0, false⟩
def F.FEED_STAT_B_OV : Fld := ⟨0x40, 7, 1, .w1c, 0x0, false⟩
def F.FEED_STAT_SWITCHES : Fld := ⟨0x40, 8, 8, .rc, 0x0, false⟩
def F.FEED_STAT_REFUSED : Fld := ⟨0x40, 16, 8, .rc, 0x0, false⟩
def F.FEED_CTRL_AUTO_RET : Fld := ⟨0x44, 0, 1, .rwl, 0x1, true⟩
def F.FEED_CTRL_RET_DLY : Fld := ⟨0x44, 16, 16, .rwl, 0x3e8, true⟩
def F.FEED_CMD_TARGET : Fld := ⟨0x48, 0, 1, .wo, 0x0, false⟩
def F.FEED_CMD_GO : Fld := ⟨0x48, 31, 1, .wo, 0x0, false⟩
def F.FEED_THR_UV_MV : Fld := ⟨0x4c, 0, 11, .rwl, 0x654, true⟩
def F.FEED_THR_OV_MV : Fld := ⟨0x4c, 16, 12, .rwl, 0x7bc, true⟩
def F.SW_TICK_TICK : Fld := ⟨0x50, 0, 64, .rs, 0x0, false⟩
def F.KEEL_PWR_P_IN : Fld := ⟨0x58, 0, 16, .ro, 0x0, false⟩
def F.KEEL_PWR_P_PEAK : Fld := ⟨0x58, 16, 16, .rc, 0x0, false⟩
def F.KEEL_AUX_VANA_A_OK : Fld := ⟨0x5c, 0, 1, .ro, 0x0, false⟩
def F.KEEL_AUX_VANA_B_OK : Fld := ⟨0x5c, 1, 1, .ro, 0x0, false⟩
def F.KEEL_AUX_VIO_A_OK : Fld := ⟨0x5c, 2, 1, .ro, 0x0, false⟩
def F.KEEL_AUX_VIO_B_OK : Fld := ⟨0x5c, 3, 1, .ro, 0x0, false⟩
def F.KEEL_AUX_LOSSES : Fld := ⟨0x5c, 16, 8, .rc, 0x0, false⟩
def F.KEEL_REG_PHASE_FAIL : Fld := ⟨0x60, 0, 8, .rc, 0x0, false⟩
def F.KEEL_REG_PHASES_OUT : Fld := ⟨0x60, 8, 8, .ro, 0x0, false⟩
def F.KEEL_TJ_TJ_NOW : Fld := ⟨0x64, 0, 16, .ro, 0x0, false⟩
def F.KEEL_TJ_TJ_PEAK : Fld := ⟨0x64, 16, 16, .rc, 0x0, false⟩
def F.KEEL_TJ_AVG_AVG : Fld := ⟨0x68, 0, 16, .ro, 0x0, false⟩

/-! ### Page CLKG -/

def F.REF_STAT_SEL : Fld := ⟨0x40, 0, 1, .ro, 0x0, false⟩
def F.REF_STAT_A_VALID : Fld := ⟨0x40, 1, 1, .ro, 0x0, false⟩
def F.REF_STAT_B_VALID : Fld := ⟨0x40, 2, 1, .ro, 0x0, false⟩
def F.REF_STAT_HOLDOVER : Fld := ⟨0x40, 3, 1, .ro, 0x0, false⟩
def F.REF_STAT_TB_SEC : Fld := ⟨0x40, 4, 1, .ro, 0x0, false⟩
def F.REF_STAT_SWITCHES : Fld := ⟨0x40, 8, 8, .rc, 0x0, false⟩
def F.REF_STAT_REF_LOSS : Fld := ⟨0x40, 16, 8, .rc, 0x0, false⟩
def F.REF_CTRL_PREF : Fld := ⟨0x44, 0, 1, .rwl, 0x0, true⟩
def F.REF_CTRL_REVERT : Fld := ⟨0x44, 1, 1, .rwl, 0x0, true⟩
def F.REF_CMD_TARGET : Fld := ⟨0x48, 0, 1, .wo, 0x0, false⟩
def F.REF_CMD_GO : Fld := ⟨0x48, 31, 1, .wo, 0x0, false⟩
def F.PLL_STAT_P16 : Fld := ⟨0x4c, 0, 4, .ro, 0x0, false⟩
def F.PLL_STAT_P12 : Fld := ⟨0x4c, 4, 4, .ro, 0x0, false⟩
def F.PLL_STAT_PD : Fld := ⟨0x4c, 8, 1, .ro, 0x0, false⟩
def F.PLL_STAT_TB1 : Fld := ⟨0x4c, 9, 1, .ro, 0x0, false⟩
def F.PLL_STAT_TB2 : Fld := ⟨0x4c, 10, 1, .ro, 0x0, false⟩
def F.PLL_STAT_SPARE : Fld := ⟨0x4c, 11, 1, .ro, 0x0, false⟩
def F.PLL_STAT_SPARE_FOR : Fld := ⟨0x4c, 12, 4, .ro, 0x0, false⟩
def F.PLL_STAT_SUBS : Fld := ⟨0x4c, 16, 8, .rc, 0x0, false⟩
def F.ISL_STOP_STOP (n : Nat := 0) : Fld := ⟨0x50 + 0x4 * n, 0, 32, .ro, 0x0, false⟩

/-! ### Page PWRD -/

def F.PWRD_CMD_DOMAIN : Fld := ⟨0x40, 0, 7, .wo, 0x0, false⟩
def F.PWRD_CMD_ON : Fld := ⟨0x40, 8, 1, .wo, 0x0, false⟩
def F.PWRD_CMD_GO : Fld := ⟨0x40, 31, 1, .wo, 0x0, false⟩
def F.PWRD_STAT_BUSY : Fld := ⟨0x44, 0, 1, .ro, 0x0, false⟩
def F.PWRD_STAT_LAST : Fld := ⟨0x44, 8, 7, .ro, 0x0, false⟩
def F.PWRD_STAT_LAST_ON : Fld := ⟨0x44, 15, 1, .ro, 0x0, false⟩
def F.PWRD_STAT_REFUSED : Fld := ⟨0x44, 16, 8, .rc, 0x0, false⟩
def F.PWRD_ON_ON (n : Nat := 0) : Fld := ⟨0x48 + 0x4 * n, 0, 32, .ro, 0x0, false⟩

/-! ### Page RSTC -/

def F.RSTC_CMD_SCOPE : Fld := ⟨0x40, 0, 2, .wo, 0x0, false⟩
def F.RSTC_CMD_PHYS : Fld := ⟨0x40, 8, 6, .wo, 0x0, false⟩
def F.RSTC_CMD_GO : Fld := ⟨0x40, 31, 1, .wo, 0x0, false⟩
def F.RSTC_CAUSE_LAST : Fld := ⟨0x44, 0, 2, .ro, 0x0, false⟩
def F.RSTC_CAUSE_PORS : Fld := ⟨0x44, 8, 8, .ro, 0x0, false⟩
def F.RSTC_CNT_KEEPER : Fld := ⟨0x48, 0, 8, .rc, 0x0, false⟩
def F.RSTC_CNT_DEBUG : Fld := ⟨0x48, 8, 8, .rc, 0x0, false⟩
def F.RSTC_CNT_TILE : Fld := ⟨0x48, 16, 8, .rc, 0x0, false⟩
def F.RSTC_CNT_PAIR : Fld := ⟨0x48, 24, 8, .rc, 0x0, false⟩

/-! ### Page TILE -/

def F.TILE_PWR_SLP_EN : Fld := ⟨0x40, 0, 1, .rwl, 0x1, true⟩
def F.TILE_PWR_SLEEPING : Fld := ⟨0x40, 8, 1, .ro, 0x0, false⟩
def F.TILE_PWR_PAIRA_PWR : Fld := ⟨0x40, 9, 1, .ro, 0x0, false⟩
def F.TILE_PWR_PAIRB_PWR : Fld := ⟨0x40, 10, 1, .ro, 0x0, false⟩
def F.TILE_PWR_WAKES : Fld := ⟨0x40, 16, 16, .rc, 0x0, false⟩

/-! ### Page CLU -/

def F.CLU_PWR_LATH_SLP : Fld := ⟨0x40, 0, 1, .rwl, 0x1, true⟩
def F.CLU_PWR_AFE_SLP : Fld := ⟨0x40, 1, 1, .rwl, 0x1, true⟩
def F.CLU_PWR_FCST_SLP : Fld := ⟨0x40, 2, 1, .rwl, 0x1, true⟩
def F.CLU_PWR_SLEEPING : Fld := ⟨0x40, 8, 3, .ro, 0x0, false⟩

/-! ### Page DEV -/

def F.DEV_ID_PART : Fld := ⟨0x40, 0, 16, .ro, 0x4096, false⟩
def F.DEV_ID_STEPPING : Fld := ⟨0x40, 16, 8, .ro, 0xa2, false⟩
def F.DEV_ID_GRADE : Fld := ⟨0x40, 24, 1, .ro, 0x0, false⟩
def F.DEV_LIFE_STATE : Fld := ⟨0x44, 0, 2, .ro, 0x0, false⟩
def F.DEV_LIFE_PENDING : Fld := ⟨0x44, 2, 1, .ro, 0x0, false⟩
def F.DEV_BOOT_FLASH : Fld := ⟨0x48, 0, 1, .ro, 0x0, false⟩
def F.DEV_BOOT_A_CAUSE : Fld := ⟨0x48, 1, 3, .ro, 0x0, false⟩
def F.DEV_BOOT_B_CAUSE : Fld := ⟨0x48, 4, 3, .ro, 0x0, false⟩
def F.DEV_BOOT_BOOT_FAIL : Fld := ⟨0x48, 7, 1, .ro, 0x0, false⟩
def F.DEV_BOOT_CLU_FAIL : Fld := ⟨0x48, 8, 4, .ro, 0x0, false⟩
def F.DEV_BOOT_SPDM_DROP : Fld := ⟨0x48, 16, 16, .rc, 0x0, false⟩
def F.DEV_FW_VERSION : Fld := ⟨0x4c, 0, 8, .ro, 0x0, false⟩
def F.DEV_FW_MIN_VERSION : Fld := ⟨0x4c, 8, 8, .ro, 0x0, false⟩
def F.DEV_FW_COMPAT : Fld := ⟨0x4c, 16, 16, .ro, 0x0, false⟩
def F.DEV_SERIAL_SERIAL : Fld := ⟨0x50, 0, 64, .ro, 0x0, false⟩

/-! ### Page XSPI -/

def F.XSPI_STAT_OCTAL : Fld := ⟨0x40, 0, 1, .ro, 0x0, false⟩
def F.XSPI_STAT_BUSY : Fld := ⟨0x40, 1, 1, .ro, 0x0, false⟩
def F.XSPI_STAT_ERRORS : Fld := ⟨0x40, 16, 16, .rc, 0x0, false⟩

/-! ### Page MEAS -/

def F.MREG_WORD (n k : Nat := 0) : Fld := ⟨0x40 + 0x30 * n + 0x4 * k, 0, 32, .ro, 0x0, false⟩
def F.MEAS_EXTD_D (n : Nat := 0) : Fld := ⟨0x400 + 0x4 * n, 0, 32, .rw, 0x0, false⟩
def F.MEAS_EXT_GO : Fld := ⟨0x440, 0, 1, .wo, 0x0, false⟩
def F.MEAS_CNT_RECORDS : Fld := ⟨0x444, 0, 17, .ro, 0x0, false⟩

/-! ### Page OTP -/

def F.OTP_KEYSTAT_PROGRAMMED : Fld := ⟨0x40, 0, 4, .ro, 0x0, false⟩
def F.OTP_KEYSTAT_REVOKED : Fld := ⟨0x40, 4, 4, .ro, 0x0, false⟩

/-! ### Page GRPL -/

def F.GRP_CTRL_EN : Fld := ⟨0x40, 0, 1, .rwl, 0x0, true⟩
def F.GRP_CTRL_ID : Fld := ⟨0x40, 1, 3, .rwl, 0x0, true⟩
def F.GRP_CTRL_EXPECT : Fld := ⟨0x40, 8, 8, .rwl, 0x0, true⟩
def F.GRP_CTRL_LOSS_TMO : Fld := ⟨0x40, 16, 8, .rwl, 0x1e, true⟩
def F.GRP_CTRL_GROUP_ID : Fld := ⟨0x40, 24, 8, .rwl, 0x0, true⟩
def F.GRP_STAT_STATE : Fld := ⟨0x44, 0, 3, .ro, 0x0, false⟩
def F.GRP_STAT_HELD : Fld := ⟨0x44, 3, 1, .ro, 0x0, false⟩
def F.GRP_STAT_PRESENT : Fld := ⟨0x44, 4, 8, .ro, 0x0, false⟩
def F.GRP_STAT_CAUSE : Fld := ⟨0x44, 12, 4, .ro, 0x0, false⟩
def F.GRP_STAT_LOST : Fld := ⟨0x44, 16, 8, .rc, 0x0, false⟩
def F.GRP_TIME_ELIG : Fld := ⟨0x48, 0, 1, .rwl, 0x1, true⟩
def F.GRP_TIME_OWN_SRC : Fld := ⟨0x48, 1, 2, .rwl, 0x0, true⟩
def F.GRP_TIME_HEALTHY : Fld := ⟨0x48, 3, 1, .ro, 0x0, false⟩
def F.GRP_TIME_DIVERGED : Fld := ⟨0x48, 4, 1, .ro, 0x0, false⟩
def F.GRP_TIME_MASTER : Fld := ⟨0x48, 5, 3, .ro, 0x0, false⟩
def F.GRP_TIME_NO_HEALTHY : Fld := ⟨0x48, 8, 1, .ro, 0x0, false⟩
def F.GRP_TIME_OFFSET : Fld := ⟨0x48, 16, 16, .ro, 0x0, false⟩
def F.GRP_OWN_OWNER0 : Fld := ⟨0x4c, 0, 3, .ro, 0x0, true⟩
def F.GRP_OWN_DRIVE0 : Fld := ⟨0x4c, 3, 1, .ro, 0x0, false⟩
def F.GRP_OWN_OWNER1 : Fld := ⟨0x4c, 4, 3, .ro, 0x0, true⟩
def F.GRP_OWN_DRIVE1 : Fld := ⟨0x4c, 7, 1, .ro, 0x0, false⟩
def F.GRP_OWN_OWNER2 : Fld := ⟨0x4c, 8, 3, .ro, 0x0, true⟩
def F.GRP_OWN_DRIVE2 : Fld := ⟨0x4c, 11, 1, .ro, 0x0, false⟩
def F.GRP_OWN_OWNER3 : Fld := ⟨0x4c, 12, 3, .ro, 0x0, true⟩
def F.GRP_OWN_DRIVE3 : Fld := ⟨0x4c, 15, 1, .ro, 0x0, false⟩
def F.GRP_OWN_OWNER4 : Fld := ⟨0x4c, 16, 3, .ro, 0x0, true⟩
def F.GRP_OWN_DRIVE4 : Fld := ⟨0x4c, 19, 1, .ro, 0x0, false⟩
def F.GRP_OWN_OWNER5 : Fld := ⟨0x4c, 20, 3, .ro, 0x0, true⟩
def F.GRP_OWN_DRIVE5 : Fld := ⟨0x4c, 23, 1, .ro, 0x0, false⟩
def F.GRP_OWN_OWNER6 : Fld := ⟨0x4c, 24, 3, .ro, 0x0, true⟩
def F.GRP_OWN_DRIVE6 : Fld := ⟨0x4c, 27, 1, .ro, 0x0, false⟩
def F.GRP_OWN_OWNER7 : Fld := ⟨0x4c, 28, 3, .ro, 0x0, true⟩
def F.GRP_OWN_DRIVE7 : Fld := ⟨0x4c, 31, 1, .ro, 0x0, false⟩
def F.GRP_OWNSTAT_BUS_FAULT : Fld := ⟨0x50, 0, 1, .ro, 0x0, false⟩
def F.GRP_OWNSTAT_DISCARDS : Fld := ⟨0x50, 8, 8, .rc, 0x0, false⟩
def F.GRP_OWNSTAT_CHANGES : Fld := ⟨0x50, 16, 8, .rc, 0x0, false⟩
def F.GRP_CLAIM_PART : Fld := ⟨0x54, 0, 3, .rwl, 0x0, false⟩
def F.GRP_CLAIM_GO : Fld := ⟨0x54, 31, 1, .rwl, 0x0, false⟩
def F.GRP_REL_RELEASE : Fld := ⟨0x58, 0, 8, .rw, 0x0, false⟩
def F.GRP_CCMD_PROPOSE : Fld := ⟨0x5c, 0, 1, .wo, 0x0, false⟩
def F.GRP_CPNUM_P : Fld := ⟨0x60, 0, 64, .rw, 0x0, false⟩
def F.GRP_CSTAT_PHASE : Fld := ⟨0x68, 0, 3, .ro, 0x0, false⟩
def F.GRP_CSTAT_CAUSE : Fld := ⟨0x68, 4, 4, .ro, 0x0, false⟩
def F.GRP_CSTAT_PREP : Fld := ⟨0x68, 8, 8, .ro, 0x0, false⟩
def F.GRP_EPOCH_EPOCH : Fld := ⟨0x70, 0, 64, .ro, 0x0, true⟩
def F.GRP_TRACK_TRACK_OK : Fld := ⟨0x78, 0, 8, .ro, 0x0, false⟩
def F.GRP_DIGEST_V (n : Nat := 0) : Fld := ⟨0x80 + 0x4 * n, 0, 32, .ro, 0x0, false⟩
def F.GRP_PEER_COMPAT (n : Nat := 0) : Fld := ⟨0xc0 + 0x4 * n, 0, 16, .ro, 0x0, false⟩
def F.GRP_PEER_VERSION (n : Nat := 0) : Fld := ⟨0xc0 + 0x4 * n, 16, 8, .ro, 0x0, false⟩
def F.GRP_PEER_STATE (n : Nat := 0) : Fld := ⟨0xc0 + 0x4 * n, 24, 3, .ro, 0x0, false⟩
def F.GRP_PEER_DIVERGED (n : Nat := 0) : Fld := ⟨0xc0 + 0x4 * n, 27, 1, .ro, 0x0, false⟩
def F.GRP_DUAL_V (n : Nat := 0) : Fld := ⟨0x100 + 0x4 * n, 0, 32, .rwl, 0x0, true⟩
def F.GRP_PART_CFG_MEMBERS (n : Nat := 0) : Fld := ⟨0x200 + 0x8 * n, 0, 8, .ro, 0x0, true⟩
def F.GRP_PART_CFG_PRIMARY (n : Nat := 0) : Fld := ⟨0x200 + 0x8 * n, 8, 3, .ro, 0x0, true⟩
def F.GRP_PART_CFG_REF_LT (n : Nat := 0) : Fld := ⟨0x200 + 0x8 * n, 11, 5, .ro, 0x0, true⟩
def F.GRP_PART_CFG_REF_GEN (n : Nat := 0) : Fld := ⟨0x200 + 0x8 * n, 16, 8, .ro, 0x0, true⟩
def F.GRP_PART_CFG_MROT (n : Nat := 0) : Fld := ⟨0x200 + 0x8 * n, 24, 4, .ro, 0x0, true⟩
def F.GRP_PART_TILES_V (n : Nat := 0) : Fld := ⟨0x204 + 0x8 * n, 0, 32, .ro, 0x0, true⟩
def F.GRP_SPART_CFG_MEMBERS (n : Nat := 0) : Fld := ⟨0x280 + 0x8 * n, 0, 8, .rw, 0x0, false⟩
def F.GRP_SPART_CFG_PRIMARY (n : Nat := 0) : Fld := ⟨0x280 + 0x8 * n, 8, 3, .rw, 0x0, false⟩
def F.GRP_SPART_CFG_REF_LT (n : Nat := 0) : Fld := ⟨0x280 + 0x8 * n, 11, 5, .rw, 0x0, false⟩
def F.GRP_SPART_CFG_REF_GEN (n : Nat := 0) : Fld := ⟨0x280 + 0x8 * n, 16, 8, .rw, 0x0, false⟩
def F.GRP_SPART_CFG_MROT (n : Nat := 0) : Fld := ⟨0x280 + 0x8 * n, 24, 4, .rw, 0x0, false⟩
def F.GRP_SPART_TILES_V (n : Nat := 0) : Fld := ⟨0x284 + 0x8 * n, 0, 32, .rw, 0x0, false⟩
def F.GRP_APP_V (n : Nat := 0) : Fld := ⟨0x400 + 0x4 * n, 0, 32, .ro, 0x0, true⟩
def F.GRP_SAPP_V (n : Nat := 0) : Fld := ⟨0x600 + 0x4 * n, 0, 32, .rw, 0x0, false⟩

/-! ### Page DBG -/

def F.DBG_CTRL_EN : Fld := ⟨0x40, 0, 1, .rwl, 0x1, true⟩
def F.DBG_CTRL_REL_LOSS : Fld := ⟨0x40, 1, 1, .rwl, 0x1, true⟩
def F.DBG_CTRL_PORTS : Fld := ⟨0x40, 2, 2, .rwl, 0x3, true⟩
def F.DBG_STAT_SESSIONS : Fld := ⟨0x44, 0, 3, .ro, 0x0, false⟩
def F.DBG_STAT_CONTROL : Fld := ⟨0x44, 3, 1, .ro, 0x0, false⟩
def F.DBG_CNT_AUTHFAIL : Fld := ⟨0x48, 0, 8, .rc, 0x0, false⟩
def F.DBG_CNT_REPLAY : Fld := ⟨0x48, 8, 8, .rc, 0x0, false⟩
def F.DBG_CNT_BADTAG : Fld := ⟨0x48, 16, 8, .rc, 0x0, false⟩
def F.DBG_CNT_REJECTED : Fld := ⟨0x48, 24, 8, .rc, 0x0, false⟩
def F.DBG_CFOWN_LT (n : Nat := 0) : Fld := ⟨0x50 + 0x4 * n, 0, 3, .rwl, 0x0, true⟩
def F.DBG_CFOWN_VALID (n : Nat := 0) : Fld := ⟨0x50 + 0x4 * n, 3, 1, .rwl, 0x0, true⟩
def F.DBG_KEYHASH_WORD (n k : Nat := 0) : Fld := ⟨0x100 + 0x30 * n + 0x4 * k, 0, 32, .ro, 0x0, true⟩

/-! ### Page MGMT -/

def F.MGMT_CTRL_EN : Fld := ⟨0x40, 0, 1, .rwl, 0x0, true⟩
def F.MGMT_CTRL_PRP : Fld := ⟨0x40, 1, 1, .rwl, 0x0, true⟩
def F.MGMT_CTRL_VLAN_EN : Fld := ⟨0x40, 2, 1, .rwl, 0x0, true⟩
def F.MGMT_CTRL_AS_EN : Fld := ⟨0x40, 3, 1, .rwl, 0x0, true⟩
def F.MGMT_CTRL_VID : Fld := ⟨0x40, 16, 12, .rwl, 0x0, true⟩
def F.MGMT_MAC_LO_V : Fld := ⟨0x44, 0, 32, .rwl, 0x0, true⟩
def F.MGMT_MAC_HI_V : Fld := ⟨0x48, 0, 16, .rwl, 0x0, true⟩
def F.MGMT_IP_V : Fld := ⟨0x4c, 0, 32, .rwl, 0x0, true⟩
def F.MGMT_MASK_V : Fld := ⟨0x50, 0, 32, .rwl, 0x0, true⟩
def F.MGMT_GW_V : Fld := ⟨0x54, 0, 32, .rwl, 0x0, true⟩
def F.MGMT_UDP_DRV_PORT : Fld := ⟨0x58, 0, 16, .rwl, 0xb7f9, true⟩
def F.MGMT_UDP_SPDM_PORT : Fld := ⟨0x58, 16, 16, .ro, 0xb7f8, false⟩
def F.MGMT_STAT_LINK : Fld := ⟨0x5c, 0, 1, .ro, 0x0, false⟩
def F.MGMT_STAT_AS_SYNC : Fld := ⟨0x5c, 1, 1, .ro, 0x0, false⟩
def F.MGMT_STAT_DROPS : Fld := ⟨0x5c, 16, 16, .rc, 0x0, false⟩

end Sys2Proof.Machine
end

