-- ==== Sys2Proof/Machine/RegTable.lean ====
section
/-! DEFINITION. Machine/RegTable.lean: the registers of each kind of page, as the chapters list them, so that an access
by address finds the fields it reads or writes (R38, R39). -/

namespace Sys2Proof.Machine

/-- A register of a page: its name, its offset, whether it spans a LO and a HI word, the strides and counts of its
instances, and its fields in the first instance. -/
structure RegDef where
  name : String
  off : Nat
  wide : Bool
  dims : List (Nat × Nat)
  fields : List Fld
deriving DecidableEq, Repr

/-- Registers of the DROLE page. -/
def regsDROLE : List RegDef := [
  ⟨"ROLE_MAP", 0x40, false, [(0x4, 32)], [F.ROLE_MAP_PHYS, F.ROLE_MAP_EPOCH, F.ROLE_MAP_CAUSE, F.ROLE_MAP_MOVING]⟩,
  ⟨"ROLE_PHYS", 0xc0, false, [(0x4, 40)], [F.ROLE_PHYS_ROLE, F.ROLE_PHYS_LOGICAL]⟩,
  ⟨"TKO_CFG", 0x200, false, [], [F.TKO_CFG_SMIN, F.TKO_CFG_EMIN]⟩,
  ⟨"TKO_CMD", 0x204, false, [], [F.TKO_CMD_LT, F.TKO_CMD_PHYS, F.TKO_CMD_GO]⟩,
  ⟨"TKO_LAST", 0x208, false, [], [F.TKO_LAST_LT, F.TKO_LAST_FROM, F.TKO_LAST_TO, F.TKO_LAST_TRIG, F.TKO_LAST_NO_SAGGAR]⟩,
  ⟨"TKO_TIME", 0x20c, false, [], [F.TKO_TIME_DUR, F.TKO_TIME_COUNT]⟩,
  ⟨"DROLE_SVC", 0x210, false, [], [F.DROLE_SVC_PHYS, F.DROLE_SVC_FAIL, F.DROLE_SVC_GO]⟩,
  ⟨"RF_CTRL", 0x240, false, [], [F.RF_CTRL_LT, F.RF_CTRL_PHYS, F.RF_CTRL_POLICY, F.RF_CTRL_REFGEN, F.RF_CTRL_CMD]⟩,
  ⟨"RF_IMG", 0x248, true, [], [F.RF_IMG_IMG]⟩,
  ⟨"RF_PNUM", 0x250, true, [], [F.RF_PNUM_P]⟩,
  ⟨"RF_STAT", 0x258, false, [], [F.RF_STAT_STATE, F.RF_STAT_CAUSE, F.RF_STAT_SHADOW_PER]⟩,
  ⟨"RF_DIFF", 0x25c, false, [], [F.RF_DIFF_DIFF]⟩,
  ⟨"LARM_CFG", 0x400, false, [(0x20, 32)], [F.LARM_CFG_EN, F.LARM_CFG_SRCK, F.LARM_CFG_SRC, F.LARM_CFG_REF_LT, F.LARM_CFG_REF_GEN]⟩,
  ⟨"LARM_SCALE", 0x404, false, [(0x20, 32)], [F.LARM_SCALE_LSCALE]⟩,
  ⟨"LARM_IQ", 0x408, false, [(0x20, 32)], [F.LARM_IQ_IQ]⟩,
  ⟨"LARM_STAT", 0x40c, false, [(0x20, 32)], [F.LARM_STAT_FAILS, F.LARM_STAT_FAIL, F.LARM_STAT_SAT, F.LARM_STAT_WRAP]⟩,
  ⟨"LARM_Q", 0x410, true, [(0x20, 32)], [F.LARM_Q_Q]⟩,
  ⟨"LARM_FRAC", 0x418, false, [(0x20, 32)], [F.LARM_FRAC_FRAC]⟩,
  ⟨"LARM_DIFF", 0x41c, false, [(0x20, 32)], [F.LARM_DIFF_DIFF]⟩]

/-- Registers of the CSTO page. -/
def regsCSTO : List RegDef := [
  ⟨"CSTO_BND_STAT", 0x40, false, [], [F.CSTO_BND_STAT_CORE_FILL, F.CSTO_BND_STAT_PRESET_LOST, F.CSTO_BND_STAT_STALLS]⟩,
  ⟨"CSTO_LOST_LAST", 0x44, false, [], [F.CSTO_LOST_LAST_LOCAL, F.CSTO_LOST_LAST_VALID]⟩,
  ⟨"CSTO_SCRUB", 0x48, false, [], [F.CSTO_SCRUB_CORRECTED, F.CSTO_SCRUB_UNCORR, F.CSTO_SCRUB_PASSES]⟩,
  ⟨"CSTO_SCRUB_LAST", 0x4c, false, [], [F.CSTO_SCRUB_LAST_LOCAL, F.CSTO_SCRUB_LAST_WORD, F.CSTO_SCRUB_LAST_COPY, F.CSTO_SCRUB_LAST_VALID]⟩]

/-- Registers of the TBAS page. -/
def regsTBAS : List RegDef := [
  ⟨"TBAS_CTRL", 0x40, false, [], [F.TBAS_CTRL_SRC, F.TBAS_CTRL_SERVO, F.TBAS_CTRL_LOCK_THR]⟩,
  ⟨"TBAS_STAT", 0x44, false, [], [F.TBAS_STAT_LOCKED, F.TBAS_STAT_HOLDOVER, F.TBAS_STAT_SLEWING, F.TBAS_STAT_STEP_REFUSED]⟩,
  ⟨"TBAS_COUNT", 0x48, true, [], [F.TBAS_COUNT_COUNT]⟩,
  ⟨"TBAS_TAI", 0x50, true, [], [F.TBAS_TAI_TAI]⟩,
  ⟨"TBAS_RATE", 0x58, false, [], [F.TBAS_RATE_RATE]⟩,
  ⟨"TBAS_SLEW", 0x5c, false, [], [F.TBAS_SLEW_SLEW, F.TBAS_SLEW_SLEW_PPM]⟩,
  ⟨"TBAS_OFFSET", 0x60, false, [], [F.TBAS_OFFSET_OFFSET]⟩,
  ⟨"TBAS_PPS", 0x64, true, [], [F.TBAS_PPS_PPS_TICK]⟩,
  ⟨"TBAS_PPS_FRAC", 0x6c, false, [], [F.TBAS_PPS_FRAC_FRAC, F.TBAS_PPS_FRAC_SEQ]⟩,
  ⟨"TBAS_PPSOUT", 0x70, false, [], [F.TBAS_PPSOUT_EN, F.TBAS_PPSOUT_WIDTH]⟩,
  ⟨"TBAS_STEP", 0x74, false, [], [F.TBAS_STEP_STEP]⟩]

/-- Registers of the TIMR page. -/
def regsTIMR : List RegDef := [
  ⟨"TMR_CTRL", 0x40, false, [(0x20, 16)], [F.TMR_CTRL_EN, F.TMR_CTRL_MODE, F.TMR_CTRL_START_EVT, F.TMR_CTRL_PRE]⟩,
  ⟨"TMR_STAT", 0x44, false, [(0x20, 16)], [F.TMR_STAT_RUN, F.TMR_STAT_OVF, F.TMR_STAT_MAKEUP_DONE, F.TMR_STAT_CATCHUP, F.TMR_STAT_SLEPT]⟩,
  ⟨"TMR_CNT", 0x48, true, [(0x20, 16)], [F.TMR_CNT_CNT]⟩,
  ⟨"TMR_CMP", 0x50, true, [(0x20, 16)], [F.TMR_CMP_CMP]⟩,
  ⟨"TMR_MATCH", 0x58, false, [(0x20, 16)], [F.TMR_MATCH_MATCH_CNT]⟩]

/-- Registers of the WDOG page. -/
def regsWDOG : List RegDef := [
  ⟨"WDOG_CTRL", 0x40, false, [], [F.WDOG_CTRL_EN]⟩,
  ⟨"WDOG_TIMEOUT", 0x44, false, [], [F.WDOG_TIMEOUT_TIMEOUT]⟩,
  ⟨"WDOG_WINDOW", 0x48, false, [], [F.WDOG_WINDOW_WINDOW]⟩,
  ⟨"WDOG_STAGE2", 0x4c, false, [], [F.WDOG_STAGE2_STAGE2]⟩,
  ⟨"WDOG_SVC", 0x50, false, [], [F.WDOG_SVC_KEY]⟩,
  ⟨"WDOG_STAT", 0x54, false, [], [F.WDOG_STAT_STAGE, F.WDOG_STAT_NEXT_KEY, F.WDOG_STAT_DBG_RELOAD, F.WDOG_STAT_SLP_RELOAD, F.WDOG_STAT_MOVE_RELOAD, F.WDOG_STAT_NO_SAGGAR, F.WDOG_STAT_FROZEN, F.WDOG_STAT_VIOL]⟩,
  ⟨"WDOG_ELAPSED", 0x58, false, [], [F.WDOG_ELAPSED_ELAPSED]⟩]

/-- Registers of the KEEP page. -/
def regsKEEP : List RegDef := [
  ⟨"KWDOG_CTRL", 0x80, false, [], [F.KWDOG_CTRL_EN]⟩,
  ⟨"KWDOG_TIMEOUT", 0x84, false, [], [F.KWDOG_TIMEOUT_TIMEOUT]⟩,
  ⟨"KWDOG_WINDOW", 0x88, false, [], [F.KWDOG_WINDOW_WINDOW]⟩,
  ⟨"KWDOG_STAGE2", 0x8c, false, [], [F.KWDOG_STAGE2_STAGE2]⟩,
  ⟨"KWDOG_SVC", 0x90, false, [], [F.KWDOG_SVC_KEY]⟩,
  ⟨"KWDOG_STAT", 0x94, false, [], [F.KWDOG_STAT_STAGE, F.KWDOG_STAT_NEXT_KEY, F.KWDOG_STAT_DBG_RELOAD, F.KWDOG_STAT_SLP_RELOAD, F.KWDOG_STAT_MOVE_RELOAD, F.KWDOG_STAT_NO_SAGGAR, F.KWDOG_STAT_FROZEN, F.KWDOG_STAT_VIOL]⟩,
  ⟨"KWDOG_ELAPSED", 0x98, false, [], [F.KWDOG_ELAPSED_ELAPSED]⟩,
  ⟨"KEEP_CMD", 0x40, false, [], [F.KEEP_CMD_CMD]⟩,
  ⟨"KEEP_ARG", 0x44, false, [(0x4, 4)], [F.KEEP_ARG_ARG]⟩,
  ⟨"KEEP_STAT", 0x54, false, [], [F.KEEP_STAT_BUSY, F.KEEP_STAT_RESULT, F.KEEP_STAT_REQ]⟩]

/-- Registers of the AFE page. -/
def regsAFE : List RegDef := [
  ⟨"AFE_REF_CTRL", 0x40, false, [], [F.AFE_REF_CTRL_SEL]⟩,
  ⟨"AFE_REF_STAT", 0x44, false, [], [F.AFE_REF_STAT_REF_READY, F.AFE_REF_STAT_REF_FAULT, F.AFE_REF_STAT_FAULTS]⟩,
  ⟨"AFE_REF_NOM", 0x48, false, [], [F.AFE_REF_NOM_NOM_MV]⟩,
  ⟨"AFE_SBUS_CNT", 0x4c, false, [], [F.AFE_SBUS_CNT_RECORDS]⟩]

/-- Registers of the ADC page. -/
def regsADC : List RegDef := [
  ⟨"ADC_CTRL", 0x40, false, [], [F.ADC_CTRL_EN, F.ADC_CTRL_LP, F.ADC_CTRL_TRIG_MODE, F.ADC_CTRL_LEN]⟩,
  ⟨"ADC_STAT", 0x44, false, [], [F.ADC_STAT_BUSY, F.ADC_STAT_POWERED, F.ADC_STAT_TRIG_OVR, F.ADC_STAT_IDLE_TRIG, F.ADC_STAT_REFLESS]⟩,
  ⟨"ADC_START", 0x48, true, [], [F.ADC_START_START]⟩,
  ⟨"ADC_REPEAT", 0x50, false, [], [F.ADC_REPEAT_REPEAT]⟩,
  ⟨"ADC_SEQ", 0x54, false, [], [F.ADC_SEQ_CHAN]⟩,
  ⟨"ADC_SKIP", 0x58, false, [], [F.ADC_SKIP_SKIPPED, F.ADC_SKIP_SATS]⟩,
  ⟨"ADC_CNT", 0x5c, false, [], [F.ADC_CNT]⟩,
  ⟨"ADC_CORR", 0x60, false, [(0x4, 2)], [F.ADC_CORR_OFS, F.ADC_CORR_GAIN]⟩,
  ⟨"ADC_RES", 0x68, false, [(0x4, 2)], [F.ADC_RES_RESULT]⟩,
  ⟨"ADC_RTICK", 0x70, true, [], [F.ADC_RTICK_TICK]⟩]

/-- Registers of the CMPR page. -/
def regsCMPR : List RegDef := [
  ⟨"CMP_CTRL", 0x40, false, [(0x10, 4)], [F.CMP_CTRL_EN, F.CMP_CTRL_POL, F.CMP_CTRL_HYST, F.CMP_CTRL_LOAD, F.CMP_CTRL_FILT]⟩,
  ⟨"CMP_THR", 0x44, false, [(0x10, 4)], [F.CMP_THR_THR_SH, F.CMP_THR_THR_ACT]⟩,
  ⟨"CMP_STAT", 0x48, false, [(0x10, 4)], [F.CMP_STAT_OUT, F.CMP_STAT_READY, F.CMP_STAT_LOADS_LOST, F.CMP_STAT_ACT_CNT]⟩]

/-- Registers of the CAPT page. -/
def regsCAPT : List RegDef := [
  ⟨"CAP_CTRL", 0x40, false, [(0x10, 16)], [F.CAP_CTRL_EN, F.CAP_CTRL_EDGE, F.CAP_CTRL_FILT]⟩,
  ⟨"CAP_STAT", 0x44, false, [(0x10, 16)], [F.CAP_STAT_LEVEL, F.CAP_STAT_CAP_OVR, F.CAP_STAT_LOST]⟩,
  ⟨"CAP_DATA", 0x48, true, [(0x10, 16)], [F.CAP_DATA_DATA]⟩,
  ⟨"CAP_COUNT", 0x140, false, [(0x4, 16)], [F.CAP_COUNT]⟩]

/-- Registers of the LENG page. -/
def regsLENG : List RegDef := [
  ⟨"LENG_CTRL", 0x40, false, [], [F.LENG_CTRL_DISP_EN, F.LENG_CTRL_ABANDON]⟩,
  ⟨"LENG_STAT", 0x44, false, [], [F.LENG_STAT_IN_SERVICE, F.LENG_STAT_BUSY, F.LENG_STAT_PEND0]⟩,
  ⟨"LENG_PEND", 0x48, false, [], [F.LENG_PEND_PEND1, F.LENG_PEND_PEND23]⟩,
  ⟨"LENG_SWTRIG", 0x4c, false, [], [F.LENG_SWTRIG_LOCAL]⟩,
  ⟨"LENG_RUNS", 0x50, true, [], [F.LENG_RUNS_RUNS]⟩,
  ⟨"LENG_CNT0", 0x58, false, [], [F.LENG_CNT0_DISAGREE, F.LENG_CNT0_NOMAJ, F.LENG_CNT0_SWAPS]⟩,
  ⟨"LENG_CNT1", 0x5c, false, [], [F.LENG_CNT1_MISSES, F.LENG_CNT1_MERGED]⟩,
  ⟨"LENG_CNT2", 0x60, false, [], [F.LENG_CNT2_ABANDON, F.LENG_CNT2_FAULTS, F.LENG_CNT2_OVERLAP]⟩,
  ⟨"LENG_CNT3", 0x64, false, [], [F.LENG_CNT3_IDLE_TRIG]⟩,
  ⟨"LENG_WAIT", 0x68, false, [(0x4, 4)], [F.LENG_WAIT_WAITMAX]⟩,
  ⟨"LENG_FAULT", 0x78, false, [], [F.LENG_FAULT_LOCAL, F.LENG_FAULT_CAUSE, F.LENG_FAULT_STEP, F.LENG_FAULT_VALID]⟩,
  ⟨"LENG_MISS_LAST", 0x7c, false, [], [F.LENG_MISS_LAST_LOCAL, F.LENG_MISS_LAST_GEN, F.LENG_MISS_LAST_VALID]⟩,
  ⟨"LENG_SLICE", 0x80, false, [(0x4, 16)], [F.LENG_SLICE_STATE, F.LENG_SLICE_LANE_OUT, F.LENG_SLICE_DISAG]⟩,
  ⟨"LENG_SHV", 0x400, false, [(0x4, 256)], [F.LENG_SHV_VALUE]⟩]

/-- Registers of the LPRG page. -/
def regsLPRG : List RegDef := [
  ⟨"LPRG_STAT", 0x40, false, [], [F.LPRG_STAT_CORRECTED, F.LPRG_STAT_UNCORR, F.LPRG_STAT_PASSES]⟩,
  ⟨"LPRG_ERR_LAST", 0x44, false, [], [F.LPRG_ERR_LAST_STEP, F.LPRG_ERR_LAST_VALID]⟩,
  ⟨"LPRG_HELD", 0x48, false, [], [F.LPRG_HELD_HELD]⟩]

/-- Registers of the TRIP page. -/
def regsTRIP : List RegDef := [
  ⟨"TRIP_CTRL", 0x40, false, [(0x4, 16)], [F.TRIP_CTRL_EN, F.TRIP_CTRL_POL, F.TRIP_CTRL_FILT]⟩,
  ⟨"TRIP_STAT", 0x80, false, [(0x4, 16)], [F.TRIP_STAT_LEVEL, F.TRIP_STAT_ACT_CNT]⟩]

/-- Registers of the PWMG page, part 1. -/
def regsPWMGPart1 : List RegDef := [
  ⟨"PWMG_PSTAT", 0x40, false, [], [F.PWMG_PSTAT_ARMED, F.PWMG_PSTAT_TRIPPED]⟩,
  ⟨"PWMG_SYNCCNT", 0x44, false, [], [F.PWMG_SYNCCNT_SYNC0, F.PWMG_SYNCCNT_SYNC1]⟩,
  ⟨"PWMG_CTRL", 0x80, false, [(0x60, 16)], [F.PWMG_CTRL_RUN, F.PWMG_CTRL_ARM, F.PWMG_CTRL_CLR_REQ, F.PWMG_CTRL_SH_HOLD]⟩,
  ⟨"PWMG_CFG", 0x84, false, [(0x60, 16)], [F.PWMG_CFG_MINPW_POLICY, F.PWMG_CFG_CATCHUP, F.PWMG_CFG_EVA_IMM, F.PWMG_CFG_EVB_IMM, F.PWMG_CFG_SYNC_SEL, F.PWMG_CFG_PRESC, F.PWMG_CFG_EVPH, F.PWMG_CFG_LATE_WIN]⟩,
  ⟨"PWMG_PER", 0x88, false, [(0x60, 16)], [F.PWMG_PER_PER]⟩,
  ⟨"PWMG_PHASE", 0x8c, false, [(0x60, 16)], [F.PWMG_PHASE_PHASE]⟩,
  ⟨"PWMG_CMP_ON", 0x90, false, [(0x60, 16)], [F.PWMG_CMP_ON_TICK, F.PWMG_CMP_ON_FRAC]⟩,
  ⟨"PWMG_CMP_OFF", 0x94, false, [(0x60, 16)], [F.PWMG_CMP_OFF_TICK, F.PWMG_CMP_OFF_FRAC]⟩,
  ⟨"PWMG_CMP_EVA", 0x98, false, [(0x60, 16)], [F.PWMG_CMP_EVA_TICK, F.PWMG_CMP_EVA_FRAC]⟩,
  ⟨"PWMG_CMP_EVB", 0x9c, false, [(0x60, 16)], [F.PWMG_CMP_EVB_TICK, F.PWMG_CMP_EVB_FRAC]⟩,
  ⟨"PWMG_DT", 0xa0, false, [(0x60, 16)], [F.PWMG_DT_DT]⟩,
  ⟨"PWMG_MINPW", 0xa4, false, [(0x60, 16)], [F.PWMG_MINPW_MINPW]⟩,
  ⟨"PWMG_BLANK", 0xa8, false, [(0x60, 16)], [F.PWMG_BLANK_BLANK]⟩,
  ⟨"PWMG_BIND", 0xac, false, [(0x60, 16)], [F.PWMG_BIND_MODE, F.PWMG_BIND_L_EN, F.PWMG_BIND_H_PIN, F.PWMG_BIND_L_PIN, F.PWMG_BIND_NODE, F.PWMG_BIND_LEG]⟩,
  ⟨"PWMG_TRIPSEL", 0xb0, false, [(0x60, 16)], [F.PWMG_TRIPSEL_CMP, F.PWMG_TRIPSEL_PIN]⟩,
  ⟨"PWMG_STAT", 0xb4, false, [(0x60, 16)], [F.PWMG_STAT_STATE, F.PWMG_STAT_LATE, F.PWMG_STAT_CFG_ERR, F.PWMG_STAT_CATCHUP, F.PWMG_STAT_SYNC_LD, F.PWMG_STAT_H, F.PWMG_STAT_L, F.PWMG_STAT_DS, F.PWMG_STAT_LATE_CNT]⟩,
  ⟨"PWMG_CNT", 0xb8, false, [(0x60, 16)], [F.PWMG_CNT_COUNT]⟩,
  ⟨"PWMG_DROPS", 0xbc, false, [(0x60, 16)], [F.PWMG_DROPS_DROPS, F.PWMG_DROPS_STRETCH]⟩,
  ⟨"PWMG_CSUPP", 0xc0, false, [(0x60, 16)], [F.PWMG_CSUPP_CSUPP, F.PWMG_CSUPP_CSHORT]⟩,
  ⟨"PWMG_TRIPREC", 0xc4, false, [(0x60, 16)], [F.PWMG_TRIPREC_TRIPS, F.PWMG_TRIPREC_SRC, F.PWMG_TRIPREC_SRC_VALID]⟩,
  ⟨"PWMG_START", 0xc8, true, [(0x60, 16)], [F.PWMG_START_START]⟩,
  ⟨"PWMG_PNUM", 0xd0, true, [(0x60, 16)], [F.PWMG_PNUM_PNUM]⟩,
  ⟨"PWMG_TRIP_TICK", 0xd8, false, [(0x60, 16)], [F.PWMG_TRIP_TICK_TICK]⟩,
  ⟨"PWMG_EVSEL", 0xdc, false, [(0x60, 16)], [F.PWMG_EVSEL_PA_SEL, F.PWMG_EVSEL_PB_SEL]⟩]

/-- Registers of the PWMG page, part 2. -/
def regsPWMGPart2 : List RegDef := [
  ⟨"LEDG_CFG", 0x680, false, [(0x18, 16)], [F.LEDG_CFG_ARM, F.LEDG_CFG_EN, F.LEDG_CFG_SIGN, F.LEDG_CFG_RMAX]⟩,
  ⟨"LEDG_FRAC", 0x684, false, [(0x18, 16)], [F.LEDG_FRAC_FRAC]⟩,
  ⟨"LEDG_Q", 0x688, true, [(0x18, 16)], [F.LEDG_Q_Q]⟩,
  ⟨"LEDG_PERQ", 0x690, false, [(0x18, 16)], [F.LEDG_PERQ_PERQ]⟩]

/-- Registers of the PWMG page. -/
def regsPWMG : List RegDef := regsPWMGPart1 ++ regsPWMGPart2

/-- Registers of the EDGE page. -/
def regsEDGE : List RegDef := [
  ⟨"EDGE_STAT", 0x40, false, [], [F.EDGE_STAT_FREE, F.EDGE_STAT_IN_SERVICE]⟩,
  ⟨"EDGE_CNT", 0x44, false, [], [F.EDGE_CNT_DELAYED, F.EDGE_CNT_DISAG, F.EDGE_CNT_NOMAJ]⟩,
  ⟨"EDGE_WAIT", 0x48, false, [], [F.EDGE_WAIT_LWAIT_MAX, F.EDGE_WAIT_RWAIT_MAX]⟩,
  ⟨"EDGE_LAST", 0x4c, false, [], [F.EDGE_LAST_GEN, F.EDGE_LAST_VALID]⟩]

/-- Registers of the PKEEP page. -/
def regsPKEEP : List RegDef := [
  ⟨"PK_BANK", 0x40, false, [], [F.PK_BANK_PD_EN]⟩,
  ⟨"PK_PIN_CTRL", 0x80, false, [(0x8, 16)], [F.PK_PIN_CTRL_INV, F.PK_PIN_CTRL_REPEAT_MAX]⟩,
  ⟨"PK_PIN_STAT", 0x84, false, [(0x8, 16)], [F.PK_PIN_STAT_STATE, F.PK_PIN_STAT_LEVEL, F.PK_PIN_STAT_LT, F.PK_PIN_STAT_GEN, F.PK_PIN_STAT_BOUND, F.PK_PIN_STAT_VOTE_DIS, F.PK_PIN_STAT_REPEATS]⟩]

/-- Registers of the RING page. -/
def regsRING : List RegDef := [
  ⟨"RING_CTRL", 0x40, false, [], [F.RING_CTRL_EN, F.RING_CTRL_EDGE_EN, F.RING_CTRL_TIME_EN, F.RING_CTRL_AUTO_JOIN, F.RING_CTRL_CAL, F.RING_CTRL_ENUM, F.RING_CTRL_FORCE, F.RING_CTRL_NODES]⟩,
  ⟨"RING_STAT", 0x44, false, [], [F.RING_STAT_RX_CW, F.RING_STAT_RX_CCW, F.RING_STAT_WHOLE, F.RING_STAT_FOUND]⟩,
  ⟨"RING_BRK", 0x48, false, [], [F.RING_BRK_CW_POS, F.RING_BRK_CW_VALID, F.RING_BRK_CCW_POS, F.RING_BRK_CCW_VALID]⟩,
  ⟨"RING_UP", 0x4c, false, [], [F.RING_UP_UP]⟩,
  ⟨"RING_LOST", 0x50, false, [], [F.RING_LOST_LOST]⟩,
  ⟨"RING_JOIN", 0x54, false, [], [F.RING_JOIN_JOIN]⟩,
  ⟨"RING_LEAD", 0x58, false, [], [F.RING_LEAD_LEAD]⟩,
  ⟨"RING_TMO", 0x5c, false, [], [F.RING_TMO_LOSS_TMO, F.RING_TMO_MGMT_TMO]⟩,
  ⟨"RING_TPER", 0x60, false, [], [F.RING_TPER_TIME_PER]⟩,
  ⟨"RING_CNT0", 0x64, false, [], [F.RING_CNT0_CRC_CW, F.RING_CNT0_CRC_CCW]⟩,
  ⟨"RING_CNT1", 0x68, false, [], [F.RING_CNT1_DUP, F.RING_CNT1_SHORT_LEAD]⟩,
  ⟨"RING_CNT2", 0x6c, false, [], [F.RING_CNT2_LATE_EDGE, F.RING_CNT2_TX_OVF, F.RING_CNT2_PURGED]⟩,
  ⟨"RING_CNT3", 0x70, false, [], [F.RING_CNT3_RECLAIM, F.RING_CNT3_LATE_RSP]⟩,
  ⟨"RING_CNT4", 0x74, false, [], [F.RING_CNT4_REPEATS, F.RING_CNT4_FRAMING]⟩,
  ⟨"RING_MREQ_LO", 0x78, false, [], [F.RING_MREQ_LO_ADDR, F.RING_MREQ_LO_POS, F.RING_MREQ_LO_WR, F.RING_MREQ_LO_TAG]⟩,
  ⟨"RING_MREQ_HI", 0x7c, false, [], [F.RING_MREQ_HI_DATA]⟩,
  ⟨"RING_MRSP", 0x80, true, [], [F.RING_MRSP_DATA]⟩,
  ⟨"RING_MSTAT", 0x88, false, [], [F.RING_MSTAT_REQ_LEVEL, F.RING_MSTAT_RSP_LEVEL]⟩,
  ⟨"RING_DLY_CW", 0x100, false, [(0x8, 32)], [F.RING_DLY_CW_DLY]⟩,
  ⟨"RING_DLY_CCW", 0x104, false, [(0x8, 32)], [F.RING_DLY_CCW_DLY]⟩,
  ⟨"RING_CRED", 0x200, false, [(0x4, 32)], [F.RING_CRED_DEPTH, F.RING_CRED_AVAIL, F.RING_CRED_INFLIGHT]⟩]

/-- Registers of the SERD page. -/
def regsSERD : List RegDef := [
  ⟨"SERD_GSTAT", 0x40, false, [], [F.SERD_GSTAT_PLL_LOCK]⟩,
  ⟨"SERD_LCTRL", 0x80, false, [(0x8, 32)], [F.SERD_LCTRL_RST, F.SERD_LCTRL_TX_INV, F.SERD_LCTRL_RX_INV, F.SERD_LCTRL_PRE, F.SERD_LCTRL_POST, F.SERD_LCTRL_SWING]⟩,
  ⟨"SERD_LSTAT", 0x84, false, [(0x8, 32)], [F.SERD_LSTAT_LOCK, F.SERD_LSTAT_HI_BER, F.SERD_LSTAT_LOCK_LOSS, F.SERD_LSTAT_SH_ERR]⟩]

/-- Registers of the FCST0 page. -/
def regsFCST0 : List RegDef := [
  ⟨"FCST_CTRL", 0x40, false, [], [F.FCST_CTRL_EN]⟩,
  ⟨"FCST_STAT", 0x44, false, [], [F.FCST_STAT_BUSY, F.FCST_STAT_STAGE, F.FCST_STAT_JOB, F.FCST_STAT_QUEUED]⟩,
  ⟨"FCST_CNT", 0x48, false, [], [F.FCST_CNT_REPLACED]⟩,
  ⟨"FCST_MACS", 0x4c, true, [], [F.FCST_MACS_MACS]⟩]

/-- Registers of the FCSTJ page. -/
def regsFCSTJ : List RegDef := [
  ⟨"JOB_CTRL", 0x40, false, [], [F.JOB_CTRL_EN, F.JOB_CTRL_LATE_POL, F.JOB_CTRL_BANK, F.JOB_CTRL_REF_SRC, F.JOB_CTRL_LAUNCH_SRC, F.JOB_CTRL_REF_SHV]⟩,
  ⟨"JOB_DIM", 0x44, false, [], [F.JOB_DIM_HM1, F.JOB_DIM_JM1, F.JOB_DIM_GWORD]⟩,
  ⟨"JOB_REFGEN", 0x48, false, [], [F.JOB_REFGEN_LT, F.JOB_REFGEN_GEN]⟩,
  ⟨"JOB_OFS", 0x4c, false, [], [F.JOB_OFS_OFS]⟩,
  ⟨"JOB_REF", 0x50, false, [], [F.JOB_REF_REF]⟩,
  ⟨"JOB_RUN", 0x54, false, [(0x4, 4)], [F.JOB_RUN_LT, F.JOB_RUN_FIRST, F.JOB_RUN_COUNT]⟩,
  ⟨"JOB_BASE", 0x64, true, [(0x8, 2)], [F.JOB_BASE_BASE]⟩,
  ⟨"JOB_LIB", 0x74, false, [], [F.JOB_LIB_COUNT, F.JOB_LIB_STRIDE]⟩,
  ⟨"JOB_STAT", 0x78, false, [], [F.JOB_STAT_STATE, F.JOB_STAT_WIN, F.JOB_STAT_LAST_OUT, F.JOB_STAT_CAUSE]⟩,
  ⟨"JOB_CNT0", 0x7c, false, [], [F.JOB_CNT0_PLANS, F.JOB_CNT0_RETARGETED, F.JOB_CNT0_LATE]⟩,
  ⟨"JOB_CNT1", 0x80, false, [], [F.JOB_CNT1_FAULTS, F.JOB_CNT1_ABORTED, F.JOB_CNT1_SKIPPED]⟩,
  ⟨"JOB_COST", 0x84, true, [], [F.JOB_COST_COST]⟩,
  ⟨"JOB_TIME", 0x8c, false, [], [F.JOB_TIME_DUR, F.JOB_TIME_MARGIN]⟩,
  ⟨"JOB_TARGET", 0x90, false, [], [F.JOB_TARGET_TARGET]⟩]

/-- Registers of the KLOG page. -/
def regsKLOG : List RegDef := [
  ⟨"KLOG_CTRL", 0x40, false, [], [F.KLOG_CTRL_EN, F.KLOG_CTRL_MODE, F.KLOG_CTRL_STOP_EN, F.KLOG_CTRL_CLEAR, F.KLOG_CTRL_TYPES]⟩,
  ⟨"KLOG_BASE", 0x44, true, [], [F.KLOG_BASE_BASE]⟩,
  ⟨"KLOG_SIZE", 0x4c, false, [], [F.KLOG_SIZE_LOG2]⟩,
  ⟨"KLOG_POST", 0x50, false, [], [F.KLOG_POST_POST]⟩,
  ⟨"KLOG_STAT", 0x54, false, [], [F.KLOG_STAT_STATE, F.KLOG_STAT_WRAPPED, F.KLOG_STAT_LEVEL]⟩,
  ⟨"KLOG_WPTR", 0x58, true, [], [F.KLOG_WPTR_WPTR]⟩,
  ⟨"KLOG_PROD", 0x60, true, [], [F.KLOG_PROD_PROD]⟩,
  ⟨"KLOG_DROP", 0x68, true, [], [F.KLOG_DROP_DROP]⟩,
  ⟨"KLOG_STOPSEQ", 0x70, true, [], [F.KLOG_STOPSEQ_STOPSEQ]⟩,
  ⟨"KLOG_EVSEL", 0x80, false, [(0x4, 8)], [F.KLOG_EVSEL_PRODUCER, F.KLOG_EVSEL_EN]⟩]

/-- Registers of the LATH0 page of a lath of 32 · p producers and 32 · c consumer inputs. -/
def regsLATH0 (p c : Nat) : List RegDef := [
  ⟨"LATH_STAT", 0x40, false, [], [F.LATH_STAT_LOOP]⟩,
  ⟨"LATH_LOOPDROP", 0x44, false, [], [F.LATH_LOOPDROP_LOOPDROP]⟩,
  ⟨"LATH_LOOP_LAST", 0x48, false, [], [F.LATH_LOOP_LAST_PROD, F.LATH_LOOP_LAST_LEVEL, F.LATH_LOOP_LAST_INST, F.LATH_LOOP_LAST_HOPS, F.LATH_LOOP_LAST_VALID]⟩,
  ⟨"LATH_SWEV", 0x4c, false, [], [F.LATH_SWEV_N]⟩,
  ⟨"LATH_SEL", 0x50, false, [], [F.LATH_SEL_PSEL, F.LATH_SEL_CSEL]⟩,
  ⟨"LATH_COMMIT", 0x54, false, [], [F.LATH_COMMIT_COMMIT, F.LATH_COMMIT_LOAD]⟩,
  ⟨"LATH_CIN", 0x58, false, [], [F.LATH_CIN_PEND, F.LATH_CIN_KIND]⟩,
  ⟨"LATH_CIN_ARRIV", 0x60, true, [], [F.LATH_CIN_ARRIV_ARRIV]⟩,
  ⟨"LATH_CIN_TAKEN", 0x68, true, [], [F.LATH_CIN_TAKEN_TAKEN]⟩,
  ⟨"LATH_CIN_OVR", 0x70, true, [], [F.LATH_CIN_OVR_OVR]⟩,
  ⟨"LATH_PROD", 0x78, true, [], [F.LATH_PROD_PROD]⟩,
  ⟨"LATH_PFLAG", 0x100, false, [(0x4, p)], [F.LATH_PFLAG_FIRED]⟩,
  ⟨"LATH_OFLAG", 0x180, false, [(0x4, c)], [F.LATH_OFLAG_OVR]⟩]

/-- Registers of the LATH1 page of a lath of 32 · p producers. -/
def regsLATH1 (p : Nat) : List RegDef := [
  ⟨"LATH_ROUTE_STG", 0x40, false, [(0x4, p)], [F.LATH_ROUTE_STG_STG]⟩,
  ⟨"LATH_ROUTE_CUR", 0xc0, false, [(0x4, p)], [F.LATH_ROUTE_CUR_CUR]⟩]

/-- Registers of the GPIO page. -/
def regsGPIO : List RegDef := [
  ⟨"GPIO_CTRL", 0x40, false, [(0x4, 16)], [F.GPIO_CTRL_OE, F.GPIO_CTRL_EDGE, F.GPIO_CTRL_POL, F.GPIO_CTRL_ACT, F.GPIO_CTRL_FILT]⟩,
  ⟨"GPIO_OUT", 0x80, false, [], [F.GPIO_OUT_OUT]⟩,
  ⟨"GPIO_SET", 0x84, false, [], [F.GPIO_SET_SET]⟩,
  ⟨"GPIO_CLR", 0x88, false, [], [F.GPIO_CLR_CLR]⟩,
  ⟨"GPIO_IN", 0x8c, false, [], [F.GPIO_IN_IN]⟩,
  ⟨"GPIO_ALAT", 0x90, false, [], [F.GPIO_ALAT_ALAT_OVF]⟩,
  ⟨"GPIO_CNT", 0xc0, false, [(0x4, 16)], [F.GPIO_CNT_EDGES]⟩]

/-- Registers of the INTC page. -/
def regsINTC : List RegDef := [
  ⟨"INTC_DOORBELL", 0x40, false, [], [F.INTC_DOORBELL_SRC, F.INTC_DOORBELL_LOCAL]⟩,
  ⟨"INTC_STAT", 0x44, false, [], [F.INTC_STAT_SRC_A, F.INTC_STAT_LVL_A, F.INTC_STAT_PRES_A, F.INTC_STAT_SRC_B, F.INTC_STAT_LVL_B, F.INTC_STAT_PRES_B]⟩,
  ⟨"INTC_TAKEN", 0x48, false, [(0x4, 2)], [F.INTC_TAKEN_SRC, F.INTC_TAKEN_LEVEL, F.INTC_TAKEN_SAT, F.INTC_TAKEN_COUNT]⟩,
  ⟨"INTC_ARRIV", 0x50, true, [], [F.INTC_ARRIV_ARRIV]⟩,
  ⟨"INTC_TAKESUM", 0x58, true, [], [F.INTC_TAKESUM_TAKESUM]⟩,
  ⟨"INTC_SATLOST", 0x60, false, [], [F.INTC_SATLOST_SATLOST]⟩,
  ⟨"INTC_WAKE", 0x64, false, [], [F.INTC_WAKE_LEVEL, F.INTC_WAKE_WAITS]⟩,
  ⟨"INTC_HSTAT", 0x68, false, [], [F.INTC_HSTAT_HOLDING]⟩,
  ⟨"INTC_HOLD", 0x70, false, [(0x4, 4)], [F.INTC_HOLD_HOLD_E, F.INTC_HOLD_HOLD_O]⟩,
  ⟨"INTC_EN", 0x80, false, [(0x4, 16)], [F.INTC_EN_EN]⟩,
  ⟨"INTC_PAIR", 0xc0, false, [(0x4, 16)], [F.INTC_PAIR_PAIR]⟩,
  ⟨"INTC_PEND", 0x100, false, [(0x4, 16)], [F.INTC_PEND_PEND]⟩,
  ⟨"INTC_SAT", 0x140, false, [(0x4, 16)], [F.INTC_SAT_SAT]⟩,
  ⟨"INTC_LEVEL", 0x200, false, [(0x4, 64)], [F.INTC_LEVEL_LEVEL0, F.INTC_LEVEL_LEVEL1, F.INTC_LEVEL_LEVEL2, F.INTC_LEVEL_LEVEL3, F.INTC_LEVEL_LEVEL4, F.INTC_LEVEL_LEVEL5, F.INTC_LEVEL_LEVEL6, F.INTC_LEVEL_LEVEL7]⟩,
  ⟨"INTC_CNT", 0x400, false, [(0x4, 128)], [F.INTC_CNT_COUNT0, F.INTC_CNT_COUNT1, F.INTC_CNT_COUNT2, F.INTC_CNT_COUNT3]⟩]

/-- Registers of the DINTC page. -/
def regsDINTC : List RegDef := [
  ⟨"DINTC_DOORBELL", 0x40, false, [], [F.DINTC_DOORBELL_SRC]⟩,
  ⟨"DINTC_CLAIM", 0x44, false, [], [F.DINTC_CLAIM_SRC, F.DINTC_CLAIM_COUNT, F.DINTC_CLAIM_SAT, F.DINTC_CLAIM_VALID]⟩,
  ⟨"DINTC_ARRIV", 0x48, true, [], [F.DINTC_ARRIV_ARRIV]⟩,
  ⟨"DINTC_TAKESUM", 0x50, true, [], [F.DINTC_TAKESUM_TAKESUM]⟩,
  ⟨"DINTC_SATLOST", 0x58, false, [], [F.DINTC_SATLOST_SATLOST]⟩,
  ⟨"DINTC_ROUTE", 0x60, false, [(0x4, 4)], [F.DINTC_ROUTE_LT0, F.DINTC_ROUTE_PAIR0, F.DINTC_ROUTE_EN0, F.DINTC_ROUTE_LT1, F.DINTC_ROUTE_PAIR1, F.DINTC_ROUTE_EN1, F.DINTC_ROUTE_LT2, F.DINTC_ROUTE_PAIR2, F.DINTC_ROUTE_EN2, F.DINTC_ROUTE_LT3, F.DINTC_ROUTE_PAIR3, F.DINTC_ROUTE_EN3]⟩,
  ⟨"DINTC_HOLD", 0x80, false, [(0x4, 8)], [F.DINTC_HOLD_HOLD_E, F.DINTC_HOLD_HOLD_O]⟩,
  ⟨"DINTC_HSTAT", 0xa0, false, [], [F.DINTC_HSTAT_HOLDING]⟩,
  ⟨"DINTC_EN", 0x100, false, [(0x4, 32)], [F.DINTC_EN_EN]⟩,
  ⟨"DINTC_PEND", 0x180, false, [(0x4, 32)], [F.DINTC_PEND_PEND]⟩,
  ⟨"DINTC_SAT", 0x200, false, [(0x4, 32)], [F.DINTC_SAT_SAT]⟩,
  ⟨"DINTC_CNT", 0x400, false, [(0x4, 256)], [F.DINTC_CNT_COUNT0, F.DINTC_CNT_COUNT1, F.DINTC_CNT_COUNT2, F.DINTC_CNT_COUNT3]⟩]

/-- Registers of the CORE page. -/
def regsCORE : List RegDef := [
  ⟨"CORE_CTRL", 0x40, false, [], [F.CORE_CTRL_HOLD, F.CORE_CTRL_RST]⟩,
  ⟨"CORE_STAT", 0x44, false, [], [F.CORE_STAT_MODE, F.CORE_STAT_IE, F.CORE_STAT_EXL, F.CORE_STAT_MCL, F.CORE_STAT_IPL, F.CORE_STAT_HALTED, F.CORE_STAT_HELD, F.CORE_STAT_STOPPED, F.CORE_STAT_WAITING]⟩,
  ⟨"CORE_PC", 0x48, true, [], [F.CORE_PC_PC]⟩,
  ⟨"CORE_CKPT", 0x50, false, [], [F.CORE_CKPT_GEN, F.CORE_CKPT_GVALID]⟩,
  ⟨"CORE_CKPT_TICK", 0x54, true, [], [F.CORE_CKPT_TICK_TICK]⟩,
  ⟨"CORE_LSTEP", 0x5c, false, [], [F.CORE_LSTEP_MISMATCH, F.CORE_LSTEP_ROLLBACK, F.CORE_LSTEP_WHERE]⟩,
  ⟨"CORE_MCHK", 0x60, false, [], [F.CORE_MCHK_MCC, F.CORE_MCHK_COUNT]⟩,
  ⟨"CORE_PERF0", 0x64, false, [], [F.CORE_PERF0_LSTALL, F.CORE_PERF0_MEMWAIT]⟩,
  ⟨"CORE_ISSUE", 0x68, true, [], [F.CORE_ISSUE_GROUPS]⟩,
  ⟨"CORE_RLOG", 0x70, false, [], [F.CORE_RLOG_LEVEL, F.CORE_RLOG_REPLAY, F.CORE_RLOG_FORCED, F.CORE_RLOG_DIVERGE]⟩,
  ⟨"CORE_DCTL", 0x80, false, [], [F.CORE_DCTL_HALT_REQ, F.CORE_DCTL_RESUME, F.CORE_DCTL_STEP, F.CORE_DCTL_MASK_IRQ, F.CORE_DCTL_SWBP]⟩,
  ⟨"CORE_DSEL", 0x84, false, [], [F.CORE_DSEL_INDEX]⟩,
  ⟨"CORE_DDATA", 0x88, true, [], [F.CORE_DDATA_VALUE]⟩,
  ⟨"CORE_DDATA_X", 0x90, false, [], [F.CORE_DDATA_X_VALUE]⟩,
  ⟨"CORE_BPCTL", 0xa0, false, [(0x10, 6)], [F.CORE_BPCTL_EN, F.CORE_BPCTL_ASID_EN, F.CORE_BPCTL_R, F.CORE_BPCTL_W, F.CORE_BPCTL_ASID]⟩,
  ⟨"CORE_BPADDR", 0xa4, true, [(0x10, 6)], [F.CORE_BPADDR_ADDR]⟩,
  ⟨"CORE_BPLEN", 0xac, false, [(0x10, 6)], [F.CORE_BPLEN_LEN]⟩]

/-- Registers of the TSRAM page. -/
def regsTSRAM : List RegDef := [
  ⟨"TSRAM_ECC", 0x40, false, [], [F.TSRAM_ECC_CORRECTED, F.TSRAM_ECC_UNCORR, F.TSRAM_ECC_PWLOST]⟩,
  ⟨"TSRAM_UE_ADDR", 0x44, false, [], [F.TSRAM_UE_ADDR_WORD, F.TSRAM_UE_ADDR_VALID]⟩,
  ⟨"TSRAM_SCRUB", 0x48, false, [], [F.TSRAM_SCRUB_PASSES]⟩,
  ⟨"TSRAM_ARB_PRI0", 0x100, false, [], [F.TSRAM_ARB_PRI0_PRI0, F.TSRAM_ARB_PRI0_PRI1, F.TSRAM_ARB_PRI0_PRI2, F.TSRAM_ARB_PRI0_PRI3, F.TSRAM_ARB_PRI0_PRI4, F.TSRAM_ARB_PRI0_PRI5, F.TSRAM_ARB_PRI0_PRI6]⟩,
  ⟨"TSRAM_ARB_PRI1", 0x104, false, [], []⟩,
  ⟨"TSRAM_ARB_FRZ", 0x108, false, [], [F.TSRAM_ARB_FRZ_FREEZE]⟩,
  ⟨"TSRAM_ARB_STAT", 0x10c, false, [], [F.TSRAM_ARB_STAT_DRAINED, F.TSRAM_ARB_STAT_REVOKES]⟩]

/-- Registers of the CSRAM page. -/
def regsCSRAM : List RegDef := [
  ⟨"CSRAM_ECC", 0x40, false, [], [F.CSRAM_ECC_CORRECTED, F.CSRAM_ECC_UNCORR, F.CSRAM_ECC_PWLOST]⟩,
  ⟨"CSRAM_UE_ADDR", 0x44, false, [], [F.CSRAM_UE_ADDR_WORD, F.CSRAM_UE_ADDR_VALID]⟩,
  ⟨"CSRAM_SCRUB", 0x48, false, [], [F.CSRAM_SCRUB_PASSES]⟩,
  ⟨"CSRAM_ARB_PRI0", 0x100, false, [], [F.CSRAM_ARB_PRI0_PRI0, F.CSRAM_ARB_PRI0_PRI1, F.CSRAM_ARB_PRI0_PRI2, F.CSRAM_ARB_PRI0_PRI3, F.CSRAM_ARB_PRI0_PRI4, F.CSRAM_ARB_PRI0_PRI5, F.CSRAM_ARB_PRI0_PRI6, F.CSRAM_ARB_PRI0_PRI7]⟩,
  ⟨"CSRAM_ARB_PRI1", 0x104, false, [], [F.CSRAM_ARB_PRI1_PRI8, F.CSRAM_ARB_PRI1_PRI9, F.CSRAM_ARB_PRI1_PRI10, F.CSRAM_ARB_PRI1_PRI11, F.CSRAM_ARB_PRI1_PRI12]⟩,
  ⟨"CSRAM_ARB_FRZ", 0x108, false, [], [F.CSRAM_ARB_FRZ_FREEZE]⟩,
  ⟨"CSRAM_ARB_STAT", 0x10c, false, [], [F.CSRAM_ARB_STAT_DRAINED, F.CSRAM_ARB_STAT_REVOKES]⟩]

/-- Registers of the HBMC0 page. -/
def regsHBMC0 : List RegDef := [
  ⟨"HBM_ECC", 0x40, false, [], [F.HBM_ECC_CORRECTED, F.HBM_ECC_UNCORR, F.HBM_ECC_PWLOST]⟩,
  ⟨"HBM_SPARE", 0x44, false, [], [F.HBM_SPARE_PC, F.HBM_SPARE_VALID, F.HBM_SPARE_COPYING]⟩,
  ⟨"HBM_SPARE_CMD", 0x48, false, [], [F.HBM_SPARE_CMD_PC, F.HBM_SPARE_CMD_GO]⟩,
  ⟨"HBM_RETIRE", 0x4c, false, [], [F.HBM_RETIRE_RETIRED, F.HBM_RETIRE_RET_FAIL, F.HBM_RETIRE_RET_THR]⟩,
  ⟨"HBM_UE_ADDR", 0x50, true, [], [F.HBM_UE_ADDR_LINE, F.HBM_UE_ADDR_VALID]⟩,
  ⟨"HBM_SCRUB", 0x58, false, [], [F.HBM_SCRUB_PASSES]⟩,
  ⟨"HBM_SPARE_THR", 0x5c, false, [], [F.HBM_SPARE_THR_SPARE_THR]⟩,
  ⟨"HBM_ARB_PRI0", 0x100, false, [], [F.HBM_ARB_PRI0_PRI0, F.HBM_ARB_PRI0_PRI1, F.HBM_ARB_PRI0_PRI2, F.HBM_ARB_PRI0_PRI3, F.HBM_ARB_PRI0_PRI4, F.HBM_ARB_PRI0_PRI5, F.HBM_ARB_PRI0_PRI6, F.HBM_ARB_PRI0_PRI7]⟩,
  ⟨"HBM_ARB_PRI1", 0x104, false, [], [F.HBM_ARB_PRI1_PRI8, F.HBM_ARB_PRI1_PRI9, F.HBM_ARB_PRI1_PRI10, F.HBM_ARB_PRI1_PRI11, F.HBM_ARB_PRI1_PRI12, F.HBM_ARB_PRI1_PRI13]⟩,
  ⟨"HBM_ARB_FRZ", 0x108, false, [], [F.HBM_ARB_FRZ_FREEZE]⟩,
  ⟨"HBM_ARB_STAT", 0x10c, false, [], [F.HBM_ARB_STAT_DRAINED, F.HBM_ARB_STAT_REVOKES]⟩]

/-- Registers of the HBMC1 page. -/
def regsHBMC1 : List RegDef := [
  ⟨"HBM_PC", 0x40, false, [(0x4, 33)], [F.HBM_PC_CE, F.HBM_PC_UE, F.HBM_PC_RETIRED]⟩]

/-- Registers of the CNOC page. -/
def regsCNOC : List RegDef := [
  ⟨"CNOC_CNT", 0x40, false, [], [F.CNOC_CNT_HELD, F.CNOC_CNT_NOLOCK]⟩]

/-- Registers of the MMU page. -/
def regsMMU : List RegDef := [
  ⟨"MMU_STAT", 0x40, false, [(0x4, 2)], [F.MMU_STAT_WALKS, F.MMU_STAT_FAULTS]⟩]

/-- Registers of the IOMMU page. -/
def regsIOMMU : List RegDef := [
  ⟨"IOCTX_CTL", 0x40, false, [(0x10, 16)], [F.IOCTX_CTL_EN, F.IOCTX_CTL_USER, F.IOCTX_CTL_ASID]⟩,
  ⟨"IOCTX_ROOT", 0x44, true, [(0x10, 16)], [F.IOCTX_ROOT_ROOT]⟩,
  ⟨"IOMMU_TLBI", 0x140, false, [], [F.IOMMU_TLBI_SCOPE, F.IOMMU_TLBI_ASID]⟩,
  ⟨"IOMMU_TLBI_VA", 0x144, true, [], [F.IOMMU_TLBI_VA_VA]⟩,
  ⟨"IOMMU_PIN", 0x14c, false, [], [F.IOMMU_PIN_USED, F.IOMMU_PIN_PIN_HIT, F.IOMMU_PIN_PIN_FULL]⟩]

/-- Registers of the DMAC0 page. -/
def regsDMAC0 : List RegDef := [
  ⟨"DMAC_CQ", 0x40, false, [], [F.DMAC_CQ_QUEUE, F.DMAC_CQ_EN]⟩,
  ⟨"DMAC_FQ", 0x44, false, [], [F.DMAC_FQ_QUEUE, F.DMAC_FQ_EN]⟩]

/-- Registers of the DMAC page. -/
def regsDMAC : List RegDef := [
  ⟨"CH_CTRL", 0x100, false, [(0x80, 8)], [F.CH_CTRL_PRI, F.CH_CTRL_RT, F.CH_CTRL_CTX, F.CH_CTRL_RT_COUNT]⟩,
  ⟨"CH_CMD", 0x104, false, [(0x80, 8)], [F.CH_CMD_CMD]⟩,
  ⟨"CH_STAT", 0x108, false, [(0x80, 8)], [F.CH_STAT_STATE, F.CH_STAT_LAST_KIND, F.CH_STAT_CAUSE, F.CH_STAT_RT_NEXT]⟩,
  ⟨"CH_RESID", 0x10c, false, [(0x80, 8)], [F.CH_RESID_RESID]⟩,
  ⟨"CH_DESC", 0x110, true, [(0x80, 8)], [F.CH_DESC_DESC]⟩,
  ⟨"CH_SRC", 0x118, true, [(0x80, 8)], [F.CH_SRC_SRC]⟩,
  ⟨"CH_DST", 0x120, true, [(0x80, 8)], [F.CH_DST_DST]⟩,
  ⟨"CH_REQ", 0x128, true, [(0x80, 8)], [F.CH_REQ_REQ]⟩,
  ⟨"CH_BYTES", 0x130, true, [(0x80, 8)], [F.CH_BYTES_BYTES]⟩,
  ⟨"CH_RESLEFT", 0x138, true, [(0x80, 8)], [F.CH_RESLEFT_RESLEFT]⟩,
  ⟨"CH_CNT", 0x140, false, [(0x80, 8)], [F.CH_CNT_DONE, F.CH_CNT_FAULTS, F.CH_CNT_ERRORS]⟩]

/-- Registers of the QMGR0 page. -/
def regsQMGR0 : List RegDef := [
  ⟨"QM_SEL", 0x40, false, [], [F.QM_SEL_QUEUE]⟩,
  ⟨"QM_CFG", 0x44, false, [], [F.QM_CFG_EN, F.QM_CFG_LOG2N, F.QM_CFG_ESIZE]⟩,
  ⟨"QM_BASE", 0x48, true, [], [F.QM_BASE_BASE]⟩,
  ⟨"QM_LEVEL", 0x50, false, [], [F.QM_LEVEL_V]⟩,
  ⟨"QM_FREE", 0x54, false, [], [F.QM_FREE_V]⟩,
  ⟨"QM_RSVD", 0x58, false, [], [F.QM_RSVD_V]⟩,
  ⟨"QM_PUSHED", 0x60, true, [], [F.QM_PUSHED_V]⟩,
  ⟨"QM_POPPED", 0x68, true, [], [F.QM_POPPED_V]⟩,
  ⟨"QM_REFUSED", 0x70, true, [], [F.QM_REFUSED_V]⟩]

/-- Registers of the QMGR1 page. -/
def regsQMGR1 : List RegDef := [
  ⟨"QM_PUSH", 0x40, false, [], [F.QM_PUSH_QUEUE]⟩,
  ⟨"QM_PSTAT", 0x44, false, [], [F.QM_PSTAT_RESULT]⟩,
  ⟨"QM_POPSEL", 0x48, false, [], [F.QM_POPSEL_QUEUE]⟩,
  ⟨"QM_POP", 0x4c, false, [], [F.QM_POP_VALID, F.QM_POP_UE, F.QM_POP_LEVEL]⟩,
  ⟨"QM_PUSH_D", 0x80, false, [(0x4, 16)], [F.QM_PUSH_D_V]⟩,
  ⟨"QM_POP_D", 0xc0, false, [(0x4, 16)], [F.QM_POP_D_V]⟩]

/-- Registers of the QMGR2 page. -/
def regsQMGR2 : List RegDef := [
  ⟨"QM_WATCH", 0x40, false, [(0x4, 32)], [F.QM_WATCH_QUEUE, F.QM_WATCH_COND, F.QM_WATCH_THR]⟩,
  ⟨"QM_NEMPTY", 0x100, false, [(0x4, 64)], [F.QM_NEMPTY_V]⟩]

/-- Registers of the HLCK page. -/
def regsHLCK : List RegDef := [
  ⟨"HLCK_LEASE", 0x40, false, [], [F.HLCK_LEASE_LEASE]⟩,
  ⟨"HLCK_BRK", 0x44, false, [(0x4, 2)], [F.HLCK_BRK_LOCK, F.HLCK_BRK_TILE, F.HLCK_BRK_CAUSE, F.HLCK_BRK_MULTI, F.HLCK_BRK_VALID]⟩,
  ⟨"HLCK_BRKMAP", 0x50, true, [], [F.HLCK_BRKMAP_BROKEN]⟩,
  ⟨"HLCK_HELD", 0x58, true, [], [F.HLCK_HELD_HELD]⟩,
  ⟨"HLCK_ACQ", 0x100, false, [(0x4, 64)], [F.HLCK_ACQ_GRANTED, F.HLCK_ACQ_RENEWED, F.HLCK_ACQ_OWNER, F.HLCK_ACQ_HELD]⟩,
  ⟨"HLCK_BRKW", 0x300, false, [(0x4, 64)], [F.HLCK_BRKW_BREAK]⟩]

/-- Registers of the KEEL page. -/
def regsKEEL : List RegDef := [
  ⟨"FEED_STAT", 0x40, false, [], [F.FEED_STAT_ACTIVE, F.FEED_STAT_A_OK, F.FEED_STAT_B_OK, F.FEED_STAT_BOTH_BAD, F.FEED_STAT_A_UV, F.FEED_STAT_B_UV, F.FEED_STAT_A_OV, F.FEED_STAT_B_OV, F.FEED_STAT_SWITCHES, F.FEED_STAT_REFUSED]⟩,
  ⟨"FEED_CTRL", 0x44, false, [], [F.FEED_CTRL_AUTO_RET, F.FEED_CTRL_RET_DLY]⟩,
  ⟨"FEED_CMD", 0x48, false, [], [F.FEED_CMD_TARGET, F.FEED_CMD_GO]⟩,
  ⟨"FEED_THR", 0x4c, false, [], [F.FEED_THR_UV_MV, F.FEED_THR_OV_MV]⟩,
  ⟨"SW_TICK", 0x50, true, [], [F.SW_TICK_TICK]⟩,
  ⟨"KEEL_PWR", 0x58, false, [], [F.KEEL_PWR_P_IN, F.KEEL_PWR_P_PEAK]⟩,
  ⟨"KEEL_AUX", 0x5c, false, [], [F.KEEL_AUX_VANA_A_OK, F.KEEL_AUX_VANA_B_OK, F.KEEL_AUX_VIO_A_OK, F.KEEL_AUX_VIO_B_OK, F.KEEL_AUX_LOSSES]⟩,
  ⟨"KEEL_REG", 0x60, false, [], [F.KEEL_REG_PHASE_FAIL, F.KEEL_REG_PHASES_OUT]⟩,
  ⟨"KEEL_TJ", 0x64, false, [], [F.KEEL_TJ_TJ_NOW, F.KEEL_TJ_TJ_PEAK]⟩,
  ⟨"KEEL_TJ_AVG", 0x68, false, [], [F.KEEL_TJ_AVG_AVG]⟩]

/-- Registers of the CLKG page. -/
def regsCLKG : List RegDef := [
  ⟨"REF_STAT", 0x40, false, [], [F.REF_STAT_SEL, F.REF_STAT_A_VALID, F.REF_STAT_B_VALID, F.REF_STAT_HOLDOVER, F.REF_STAT_TB_SEC, F.REF_STAT_SWITCHES, F.REF_STAT_REF_LOSS]⟩,
  ⟨"REF_CTRL", 0x44, false, [], [F.REF_CTRL_PREF, F.REF_CTRL_REVERT]⟩,
  ⟨"REF_CMD", 0x48, false, [], [F.REF_CMD_TARGET, F.REF_CMD_GO]⟩,
  ⟨"PLL_STAT", 0x4c, false, [], [F.PLL_STAT_P16, F.PLL_STAT_P12, F.PLL_STAT_PD, F.PLL_STAT_TB1, F.PLL_STAT_TB2, F.PLL_STAT_SPARE, F.PLL_STAT_SPARE_FOR, F.PLL_STAT_SUBS]⟩,
  ⟨"ISL_STOP", 0x50, false, [(0x4, 4)], [F.ISL_STOP_STOP]⟩]

/-- Registers of the PWRD page. -/
def regsPWRD : List RegDef := [
  ⟨"PWRD_CMD", 0x40, false, [], [F.PWRD_CMD_DOMAIN, F.PWRD_CMD_ON, F.PWRD_CMD_GO]⟩,
  ⟨"PWRD_STAT", 0x44, false, [], [F.PWRD_STAT_BUSY, F.PWRD_STAT_LAST, F.PWRD_STAT_LAST_ON, F.PWRD_STAT_REFUSED]⟩,
  ⟨"PWRD_ON", 0x48, false, [(0x4, 4)], [F.PWRD_ON_ON]⟩]

/-- Registers of the RSTC page. -/
def regsRSTC : List RegDef := [
  ⟨"RSTC_CMD", 0x40, false, [], [F.RSTC_CMD_SCOPE, F.RSTC_CMD_PHYS, F.RSTC_CMD_GO]⟩,
  ⟨"RSTC_CAUSE", 0x44, false, [], [F.RSTC_CAUSE_LAST, F.RSTC_CAUSE_PORS]⟩,
  ⟨"RSTC_CNT", 0x48, false, [], [F.RSTC_CNT_KEEPER, F.RSTC_CNT_DEBUG, F.RSTC_CNT_TILE, F.RSTC_CNT_PAIR]⟩]

/-- Registers of the TILE page. -/
def regsTILE : List RegDef := [
  ⟨"TILE_PWR", 0x40, false, [], [F.TILE_PWR_SLP_EN, F.TILE_PWR_SLEEPING, F.TILE_PWR_PAIRA_PWR, F.TILE_PWR_PAIRB_PWR, F.TILE_PWR_WAKES]⟩]

/-- Registers of the CLU page. -/
def regsCLU : List RegDef := [
  ⟨"CLU_PWR", 0x40, false, [], [F.CLU_PWR_LATH_SLP, F.CLU_PWR_AFE_SLP, F.CLU_PWR_FCST_SLP, F.CLU_PWR_SLEEPING]⟩]

/-- Registers of the DEV page. -/
def regsDEV : List RegDef := [
  ⟨"DEV_ID", 0x40, false, [], [F.DEV_ID_PART, F.DEV_ID_STEPPING, F.DEV_ID_GRADE]⟩,
  ⟨"DEV_LIFE", 0x44, false, [], [F.DEV_LIFE_STATE, F.DEV_LIFE_PENDING]⟩,
  ⟨"DEV_BOOT", 0x48, false, [], [F.DEV_BOOT_FLASH, F.DEV_BOOT_A_CAUSE, F.DEV_BOOT_B_CAUSE, F.DEV_BOOT_BOOT_FAIL, F.DEV_BOOT_CLU_FAIL, F.DEV_BOOT_SPDM_DROP]⟩,
  ⟨"DEV_FW", 0x4c, false, [], [F.DEV_FW_VERSION, F.DEV_FW_MIN_VERSION, F.DEV_FW_COMPAT]⟩,
  ⟨"DEV_SERIAL", 0x50, true, [], [F.DEV_SERIAL_SERIAL]⟩]

/-- Registers of the XSPI page. -/
def regsXSPI : List RegDef := [
  ⟨"XSPI_STAT", 0x40, false, [], [F.XSPI_STAT_OCTAL, F.XSPI_STAT_BUSY, F.XSPI_STAT_ERRORS]⟩]

/-- Registers of the MEAS page. -/
def regsMEAS : List RegDef := [
  ⟨"MREG", 0x40, false, [(0x30, 16), (0x4, 12)], [F.MREG_WORD]⟩,
  ⟨"MEAS_EXTD", 0x400, false, [(0x4, 12)], [F.MEAS_EXTD_D]⟩,
  ⟨"MEAS_EXT", 0x440, false, [], [F.MEAS_EXT_GO]⟩,
  ⟨"MEAS_CNT", 0x444, false, [], [F.MEAS_CNT_RECORDS]⟩]

/-- Registers of the OTP page. -/
def regsOTP : List RegDef := [
  ⟨"OTP_KEYSTAT", 0x40, false, [], [F.OTP_KEYSTAT_PROGRAMMED, F.OTP_KEYSTAT_REVOKED]⟩]

/-- Registers of the GRPL page. -/
def regsGRPL : List RegDef := [
  ⟨"GRP_CTRL", 0x40, false, [], [F.GRP_CTRL_EN, F.GRP_CTRL_ID, F.GRP_CTRL_EXPECT, F.GRP_CTRL_LOSS_TMO, F.GRP_CTRL_GROUP_ID]⟩,
  ⟨"GRP_STAT", 0x44, false, [], [F.GRP_STAT_STATE, F.GRP_STAT_HELD, F.GRP_STAT_PRESENT, F.GRP_STAT_CAUSE, F.GRP_STAT_LOST]⟩,
  ⟨"GRP_TIME", 0x48, false, [], [F.GRP_TIME_ELIG, F.GRP_TIME_OWN_SRC, F.GRP_TIME_HEALTHY, F.GRP_TIME_DIVERGED, F.GRP_TIME_MASTER, F.GRP_TIME_NO_HEALTHY, F.GRP_TIME_OFFSET]⟩,
  ⟨"GRP_OWN", 0x4c, false, [], [F.GRP_OWN_OWNER0, F.GRP_OWN_DRIVE0, F.GRP_OWN_OWNER1, F.GRP_OWN_DRIVE1, F.GRP_OWN_OWNER2, F.GRP_OWN_DRIVE2, F.GRP_OWN_OWNER3, F.GRP_OWN_DRIVE3, F.GRP_OWN_OWNER4, F.GRP_OWN_DRIVE4, F.GRP_OWN_OWNER5, F.GRP_OWN_DRIVE5, F.GRP_OWN_OWNER6, F.GRP_OWN_DRIVE6, F.GRP_OWN_OWNER7, F.GRP_OWN_DRIVE7]⟩,
  ⟨"GRP_OWNSTAT", 0x50, false, [], [F.GRP_OWNSTAT_BUS_FAULT, F.GRP_OWNSTAT_DISCARDS, F.GRP_OWNSTAT_CHANGES]⟩,
  ⟨"GRP_CLAIM", 0x54, false, [], [F.GRP_CLAIM_PART, F.GRP_CLAIM_GO]⟩,
  ⟨"GRP_REL", 0x58, false, [], [F.GRP_REL_RELEASE]⟩,
  ⟨"GRP_CCMD", 0x5c, false, [], [F.GRP_CCMD_PROPOSE]⟩,
  ⟨"GRP_CPNUM", 0x60, true, [], [F.GRP_CPNUM_P]⟩,
  ⟨"GRP_CSTAT", 0x68, false, [], [F.GRP_CSTAT_PHASE, F.GRP_CSTAT_CAUSE, F.GRP_CSTAT_PREP]⟩,
  ⟨"GRP_EPOCH", 0x70, true, [], [F.GRP_EPOCH_EPOCH]⟩,
  ⟨"GRP_TRACK", 0x78, false, [], [F.GRP_TRACK_TRACK_OK]⟩,
  ⟨"GRP_DIGEST", 0x80, false, [(0x4, 12)], [F.GRP_DIGEST_V]⟩,
  ⟨"GRP_PEER", 0xc0, false, [(0x4, 8)], [F.GRP_PEER_COMPAT, F.GRP_PEER_VERSION, F.GRP_PEER_STATE, F.GRP_PEER_DIVERGED]⟩,
  ⟨"GRP_DUAL", 0x100, false, [(0x4, 8)], [F.GRP_DUAL_V]⟩,
  ⟨"GRP_PART_CFG", 0x200, false, [(0x8, 8)], [F.GRP_PART_CFG_MEMBERS, F.GRP_PART_CFG_PRIMARY, F.GRP_PART_CFG_REF_LT, F.GRP_PART_CFG_REF_GEN, F.GRP_PART_CFG_MROT]⟩,
  ⟨"GRP_PART_TILES", 0x204, false, [(0x8, 8)], [F.GRP_PART_TILES_V]⟩,
  ⟨"GRP_SPART_CFG", 0x280, false, [(0x8, 8)], [F.GRP_SPART_CFG_MEMBERS, F.GRP_SPART_CFG_PRIMARY, F.GRP_SPART_CFG_REF_LT, F.GRP_SPART_CFG_REF_GEN, F.GRP_SPART_CFG_MROT]⟩,
  ⟨"GRP_SPART_TILES", 0x284, false, [(0x8, 8)], [F.GRP_SPART_TILES_V]⟩,
  ⟨"GRP_APP", 0x400, false, [(0x4, 128)], [F.GRP_APP_V]⟩,
  ⟨"GRP_SAPP", 0x600, false, [(0x4, 128)], [F.GRP_SAPP_V]⟩]

/-- Registers of the DBG page. -/
def regsDBG : List RegDef := [
  ⟨"DBG_CTRL", 0x40, false, [], [F.DBG_CTRL_EN, F.DBG_CTRL_REL_LOSS, F.DBG_CTRL_PORTS]⟩,
  ⟨"DBG_STAT", 0x44, false, [], [F.DBG_STAT_SESSIONS, F.DBG_STAT_CONTROL]⟩,
  ⟨"DBG_CNT", 0x48, false, [], [F.DBG_CNT_AUTHFAIL, F.DBG_CNT_REPLAY, F.DBG_CNT_BADTAG, F.DBG_CNT_REJECTED]⟩,
  ⟨"DBG_CFOWN", 0x50, false, [(0x4, 4)], [F.DBG_CFOWN_LT, F.DBG_CFOWN_VALID]⟩,
  ⟨"DBG_KEYHASH", 0x100, false, [(0x30, 4), (0x4, 12)], [F.DBG_KEYHASH_WORD]⟩]

/-- Registers of the MGMT page. -/
def regsMGMT : List RegDef := [
  ⟨"MGMT_CTRL", 0x40, false, [], [F.MGMT_CTRL_EN, F.MGMT_CTRL_PRP, F.MGMT_CTRL_VLAN_EN, F.MGMT_CTRL_AS_EN, F.MGMT_CTRL_VID]⟩,
  ⟨"MGMT_MAC_LO", 0x44, false, [], [F.MGMT_MAC_LO_V]⟩,
  ⟨"MGMT_MAC_HI", 0x48, false, [], [F.MGMT_MAC_HI_V]⟩,
  ⟨"MGMT_IP", 0x4c, false, [], [F.MGMT_IP_V]⟩,
  ⟨"MGMT_MASK", 0x50, false, [], [F.MGMT_MASK_V]⟩,
  ⟨"MGMT_GW", 0x54, false, [], [F.MGMT_GW_V]⟩,
  ⟨"MGMT_UDP", 0x58, false, [], [F.MGMT_UDP_DRV_PORT, F.MGMT_UDP_SPDM_PORT]⟩,
  ⟨"MGMT_STAT", 0x5c, false, [], [F.MGMT_STAT_LINK, F.MGMT_STAT_AS_SYNC, F.MGMT_STAT_DROPS]⟩]

end Sys2Proof.Machine
end

