-- ==== Sys2Proof/Machine/Pages.lean ====
section
/-! DEFINITION. Machine/Pages.lean: the physical address map and the page index (R36, R50), the clock island of each page
(R494), and where an address leads. -/

namespace Sys2Proof.Machine

/-- The kinds of register page (R50). -/
inductive PageT where
  | dev | drole | keep | tbas | keel | clkg | pwrd | rstc | dlath | dintc | mgmt | grpl | xspi | otp | meas | dbg | dnoc
  | clu | cnoc | csram | fcst | klog | afe | adc | cmpr | capt | trip | gpio | hbmc | ring | serd | pkeep | clath
  | tile | intc | tlath | csto | leng | lprg | timr | wdog | pwmg | edge | dmac | qmgr | mmu | iommu | hlck | core | tsram
deriving DecidableEq, Repr

/-- A register page: its kind, its physical base address, the number of the page within its owner, and its owner (tile,
cluster, or 0). -/
structure Page where
  ty : PageT
  base : Nat
  inst : Nat
  owner : Nat
deriving DecidableEq, Repr

/-- The type code of a page kind (R50). -/
def PageT.code : PageT → Nat
  | .dev => 0x01 | .drole => 0x02 | .keep => 0x03 | .tbas => 0x04 | .keel => 0x05 | .clkg => 0x06 | .pwrd => 0x07
  | .rstc => 0x08 | .dlath => 0x09 | .dintc => 0x0A | .mgmt => 0x0B | .grpl => 0x0C | .xspi => 0x0D | .otp => 0x0E
  | .meas => 0x0F | .dbg => 0x10 | .dnoc => 0x11
  | .clu => 0x20 | .cnoc => 0x21 | .csram => 0x22 | .fcst => 0x23 | .klog => 0x24 | .afe => 0x25 | .adc => 0x26
  | .cmpr => 0x27 | .capt => 0x28 | .trip => 0x29 | .gpio => 0x2A | .hbmc => 0x2B | .ring => 0x2C | .serd => 0x2D
  | .pkeep => 0x2E | .clath => 0x2F
  | .tile => 0x40 | .intc => 0x41 | .tlath => 0x42 | .csto => 0x43 | .leng => 0x44 | .lprg => 0x45 | .timr => 0x46
  | .wdog => 0x47 | .pwmg => 0x48 | .edge => 0x49 | .dmac => 0x4A | .qmgr => 0x4B | .mmu => 0x4C | .iommu => 0x4D
  | .hlck => 0x4E | .core => 0x4F | .tsram => 0x50

/-- The level of a page kind as PAGE_ID.LEVEL has it: 0 device, 1 cluster, 2 tile (R42). -/
def PageT.level (t : PageT) : Nat := if t.code < 0x20 then 0 else if t.code < 0x40 then 1 else 2

/-- Base addresses of slots (R36). -/
def devBase (slot : Nat) : Nat := 0x1000 * slot
def cluBase (c slot : Nat) : Nat := 0x01000000 + 0x01000000 * c + 0x1000 * slot
def tileBase (t slot : Nat) : Nat := 0x08000000 + 0x00100000 * t + 0x1000 * slot

/-- The kind and the instance of a device page slot (R50). -/
def devSlot (i : Nat) : Option (PageT × Nat) :=
  if i = 0x000 then some (.dev, 0) else if i = 0x001 then some (.drole, 0) else if i = 0x002 then some (.keep, 0)
  else if i = 0x010 then some (.tbas, 0) else if i = 0x020 then some (.keel, 0) else if i = 0x021 then some (.clkg, 0)
  else if i = 0x022 then some (.pwrd, 0) else if i = 0x023 then some (.rstc, 0)
  else if i = 0x030 then some (.dlath, 0) else if i = 0x031 then some (.dlath, 1) else if i = 0x032 then some (.dintc, 0)
  else if i = 0x040 then some (.mgmt, 0) else if i = 0x041 then some (.mgmt, 1) else if i = 0x050 then some (.grpl, 0)
  else if i = 0x060 then some (.xspi, 0) else if i = 0x061 then some (.xspi, 1) else if i = 0x070 then some (.otp, 0)
  else if i = 0x071 then some (.meas, 0) else if i = 0x080 then some (.dbg, 0) else if i = 0x090 then some (.dnoc, 0)
  else none

/-- The kind and the instance of a cluster page slot (R50). -/
def cluSlot (i : Nat) : Option (PageT × Nat) :=
  if i = 0x000 then some (.clu, 0) else if i = 0x001 then some (.cnoc, 0) else if i = 0x002 then some (.csram, 0)
  else if 0x010 ≤ i ∧ i ≤ 0x01F then some (.fcst, i - 0x010) else if i = 0x020 then some (.klog, 0)
  else if i = 0x040 then some (.afe, 0) else if 0x041 ≤ i ∧ i ≤ 0x050 then some (.adc, i - 0x041)
  else if 0x058 ≤ i ∧ i ≤ 0x05B then some (.cmpr, i - 0x058) else if i = 0x060 then some (.capt, 0)
  else if i = 0x061 then some (.trip, 0) else if i = 0x062 then some (.gpio, 0)
  else if 0x080 ≤ i ∧ i ≤ 0x083 then some (.hbmc, i - 0x080) else if 0x100 ≤ i ∧ i ≤ 0x11F then some (.ring, i - 0x100)
  else if 0x120 ≤ i ∧ i ≤ 0x121 then some (.serd, i - 0x120) else if 0x140 ≤ i ∧ i ≤ 0x143 then some (.pkeep, i - 0x140)
  else if 0x180 ≤ i ∧ i ≤ 0x181 then some (.clath, i - 0x180) else none

/-- The kind and the instance of a tile page slot (R50). -/
def tileSlot (i : Nat) : Option (PageT × Nat) :=
  if i = 0x00 then some (.tile, 0) else if i = 0x01 then some (.intc, 0)
  else if i = 0x02 then some (.tlath, 0) else if i = 0x03 then some (.tlath, 1)
  else if i = 0x04 then some (.csto, 0) else if i = 0x05 then some (.leng, 0) else if i = 0x06 then some (.lprg, 0)
  else if i = 0x10 then some (.timr, 0) else if i = 0x11 then some (.wdog, 0)
  else if 0x20 ≤ i ∧ i ≤ 0x2F then some (.pwmg, i - 0x20) else if i = 0x30 then some (.edge, 0)
  else if 0x40 ≤ i ∧ i ≤ 0x43 then some (.dmac, i - 0x40) else if 0x50 ≤ i ∧ i ≤ 0x57 then some (.qmgr, i - 0x50)
  else if i = 0x60 then some (.mmu, 0) else if i = 0x61 then some (.iommu, 0) else if i = 0x68 then some (.hlck, 0)
  else if i = 0x70 then some (.core, 0) else if i = 0x71 then some (.core, 1) else if i = 0x78 then some (.tsram, 0)
  else none

/-- Page bases by block. -/
def pgDEV : Nat := devBase 0x000
def pgDROLE : Nat := devBase 0x001
def pgKEEP : Nat := devBase 0x002
def pgTBAS : Nat := devBase 0x010
def pgKEEL : Nat := devBase 0x020
def pgCLKG : Nat := devBase 0x021
def pgPWRD : Nat := devBase 0x022
def pgRSTC : Nat := devBase 0x023
def pgDLATH (k : Nat) : Nat := devBase (0x030 + k)
def pgDINTC : Nat := devBase 0x032
def pgMGMT (p : Nat) : Nat := devBase (0x040 + p)
def pgGRPL : Nat := devBase 0x050
def pgXSPI (p : Nat) : Nat := devBase (0x060 + p)
def pgOTP : Nat := devBase 0x070
def pgMEAS : Nat := devBase 0x071
def pgDBG : Nat := devBase 0x080
def pgDNOC : Nat := devBase 0x090
def pgCLU (c : Nat) : Nat := cluBase c 0x000
def pgCNOC (c : Nat) : Nat := cluBase c 0x001
def pgCSRAM (c : Nat) : Nat := cluBase c 0x002
def pgFCST (c j : Nat) : Nat := cluBase c (0x010 + j)
def pgKLOG (c : Nat) : Nat := cluBase c 0x020
def pgAFE (c : Nat) : Nat := cluBase c 0x040
/-- Page of converter `n` of the device (R50). -/
def pgADC (n : Nat) : Nat := cluBase (n / 16) (0x041 + n % 16)
/-- Page of comparator `n` of the device (R50). -/
def pgCMPR (n : Nat) : Nat := cluBase (n / 16) (0x058 + n % 16 / 4)
def pgCAPT (c : Nat) : Nat := cluBase c 0x060
def pgTRIP (c : Nat) : Nat := cluBase c 0x061
def pgGPIO (c : Nat) : Nat := cluBase c 0x062
def pgHBMC (c k : Nat) : Nat := cluBase c (0x080 + k)
/-- Page of ring `r` of the device (R50). -/
def pgRING (r : Nat) : Nat := cluBase (r / 32) (0x100 + r % 32)
/-- SerDes page of lane `l` of the device: 32 lanes to a group, two groups to a cluster (R50). -/
def pgSERD (l : Nat) : Nat := cluBase (l / 64) (0x120 + l % 64 / 32)
/-- Pin-keeper page of local pin `p` of the device (R50). -/
def pgPKEEP (p : Nat) : Nat := cluBase (p / 64) (0x140 + p % 64 / 16)
def pgCLATH (c k : Nat) : Nat := cluBase c (0x180 + k)
def pgTILE (t : Nat) : Nat := tileBase t 0x00
def pgINTC (t : Nat) : Nat := tileBase t 0x01
def pgTLATH (t k : Nat) : Nat := tileBase t (0x02 + k)
def pgCSTO (t : Nat) : Nat := tileBase t 0x04
def pgLENG (t : Nat) : Nat := tileBase t 0x05
def pgLPRG (t : Nat) : Nat := tileBase t 0x06
def pgTIMR (t : Nat) : Nat := tileBase t 0x10
def pgWDOG (t : Nat) : Nat := tileBase t 0x11
/-- Page of local generator `g` of physical tile `t` (R50). -/
def pgPWMG (t g : Nat) : Nat := tileBase t (0x20 + g / 16)
def pgEDGE (t : Nat) : Nat := tileBase t 0x30
/-- Page of DMA channel `n` of physical tile `t` (R50). -/
def pgDMAC (t n : Nat) : Nat := tileBase t (0x40 + n / 8)
def pgQMGR (t k : Nat) : Nat := tileBase t (0x50 + k)
def pgMMU (t : Nat) : Nat := tileBase t 0x60
def pgIOMMU (t : Nat) : Nat := tileBase t 0x61
def pgHLCK (t : Nat) : Nat := tileBase t 0x68
/-- Page of core pair `p` of the device (R26, R50). -/
def pgCORE (p : Nat) : Nat := tileBase (p / 2) (0x70 + p % 2)
def pgTSRAM (t : Nat) : Nat := tileBase t 0x78

/-- The registers of a page, the header apart (R50). -/
def Page.table (p : Page) : List RegDef :=
  match p.ty with
  | .dev => regsDEV | .drole => regsDROLE | .keep => regsKEEP | .tbas => regsTBAS | .keel => regsKEEL
  | .clkg => regsCLKG | .pwrd => regsPWRD | .rstc => regsRSTC | .dintc => regsDINTC | .mgmt => regsMGMT
  | .grpl => regsGRPL | .xspi => regsXSPI | .otp => regsOTP | .meas => regsMEAS | .dbg => regsDBG | .dnoc => []
  | .clu => regsCLU | .cnoc => regsCNOC | .csram => regsCSRAM | .klog => regsKLOG | .afe => regsAFE | .adc => regsADC
  | .cmpr => regsCMPR | .capt => regsCAPT | .trip => regsTRIP | .gpio => regsGPIO | .ring => regsRING | .serd => regsSERD
  | .pkeep => regsPKEEP | .tile => regsTILE | .intc => regsINTC | .csto => regsCSTO | .leng => regsLENG
  | .lprg => regsLPRG | .timr => regsTIMR | .wdog => regsWDOG | .pwmg => regsPWMG | .edge => regsEDGE
  | .mmu => regsMMU | .iommu => regsIOMMU | .hlck => regsHLCK | .core => regsCORE | .tsram => regsTSRAM
  | .dlath => if p.inst = 0 then regsLATH0 2 2 else regsLATH1 2
  | .clath => if p.inst = 0 then regsLATH0 8 8 else regsLATH1 8
  | .tlath => if p.inst = 0 then regsLATH0 32 8 else regsLATH1 32
  | .fcst => if p.inst = 0 then regsFCST0 else regsFCSTJ
  | .hbmc => if p.inst = 0 then regsHBMC0 else if p.inst = 1 then regsHBMC1 else []
  | .dmac => if p.inst = 0 then regsDMAC0 ++ regsDMAC else regsDMAC
  | .qmgr => if p.inst = 0 then regsQMGR0 else if p.inst = 1 then regsQMGR1 else if p.inst = 2 then regsQMGR2 else []

/-- The clock island of a page (R494). -/
def Page.island (p : Page) : Nat :=
  match p.ty with
  | .tbas => 112
  | .dlath => 117
  | .dev | .drole | .keep | .keel | .clkg | .pwrd | .rstc | .dintc | .mgmt | .grpl | .xspi | .otp | .meas | .dbg
  | .dnoc => 116
  | .clu | .cnoc => 80 + 8 * p.owner
  | .csram => 81 + 8 * p.owner
  | .fcst | .klog => 82 + 8 * p.owner
  | .afe | .adc | .cmpr => 83 + 8 * p.owner
  | .hbmc => 84 + 8 * p.owner
  | .ring => 85 + 8 * p.owner + p.inst / 16
  | .serd => 85 + 8 * p.owner + p.inst
  | .capt | .trip | .gpio | .pkeep | .clath => 87 + 8 * p.owner
  | .tile | .intc | .timr | .wdog | .dmac | .qmgr | .mmu | .iommu | .hlck | .core | .tsram => 2 * p.owner
  | .tlath | .csto | .leng | .lprg | .pwmg | .edge => 2 * p.owner + 1

/-- Cycles per tick of an island, as a fraction (R10, R392, R494). -/
def islandRate (i : Nat) : Nat × Nat :=
  if i < 80 then (if i % 2 = 0 then (4, 5) else (1, 1))
  else if i < 112 then
    (match (i - 80) % 8 with
     | 0 => (3, 5) | 1 => (3, 5) | 2 => (3, 5) | 3 => (1, 2) | 4 => (3, 5) | 5 => (1, 1) | 6 => (1, 1) | _ => (1, 2))
  else match i with
    | 112 => (1, 1)
    | 115 | 118 => (1, 4)
    | 119 | 120 => (5, 64)
    | 121 => (825, 4096)
    | 122 | 123 => (1, 10)
    | 113 | 124 | 126 => (1, 80)
    | 125 => (1, 20)
    | 127 => (1, 40)
    | _ => (1, 2)

/-- Islands whose clock edges are aligned with tick boundaries (R226, R233). -/
def islandAligned (i : Nat) : Bool :=
  if i < 80 then i % 2 = 1
  else if i < 112 then (i - 80) % 8 == 3 || (i - 80) % 8 == 5 || (i - 80) % 8 == 6 || (i - 80) % 8 == 7
  else i == 112 || i == 117

/-- The requester ids of R53. -/
def reqKeeper : Nat := 0x1F0
def reqMonitor : Nat := 0x1F1
def reqGroup : Nat := 0x1F2
def reqPair (p : Nat) : Nat := p
def reqDma (t : Nat) : Nat := 0x100 + t
def reqFcst (c : Nat) : Nat := 0x180 + c

/-- Where the decoder finds an address (R36). -/
inductive Target where
  /-- A register page and the offset in it. -/
  | page (p : Page) (off : Nat)
  /-- The context window of a physical tile, by byte offset (R49). -/
  | ctx (tile off : Nat)
  /-- The loop-program window of a physical tile, by byte offset (R49). -/
  | prog (tile off : Nat)
  /-- Tile SRAM of a physical tile. -/
  | tsram (tile : Nat)
  /-- Cluster SRAM. -/
  | csram (c : Nat)
  /-- The flash window of port A or B. -/
  | flash (port : Nat)
  /-- HBM of a stack. -/
  | hbm (stack : Nat)
  /-- A page slot that nothing populates (R37). -/
  | noPage
  /-- A reserved range (R37). -/
  | unmapped
deriving DecidableEq, Repr

/-- Where an offset in the window of physical tile `t` leads. -/
def tileTarget (t o : Nat) : Target :=
  if 0xC0 ≤ o / 0x1000 ∧ o / 0x1000 ≤ 0xDF then .ctx t (o - 0xC0000)
  else if 0xE0 ≤ o / 0x1000 ∧ o / 0x1000 ≤ 0xE7 then .prog t (o - 0xE0000)
  else match tileSlot (o / 0x1000) with
    | some (ty, k) => .page ⟨ty, tileBase t (o / 0x1000), k, t⟩ (o % 0x1000)
    | none => .noPage

/-- Where a physical address leads (R36); `phys` names the physical tile of a logical tile (R23). -/
def target (phys : Nat → Nat) (a : Nat) : Target :=
  if a < 0x01000000 then
    match devSlot (a / 0x1000) with
    | some (ty, k) => .page ⟨ty, devBase (a / 0x1000), k, 0⟩ (a % 0x1000)
    | none => .noPage
  else if a < 0x05000000 then
    let c := (a - 0x01000000) / 0x01000000
    match cluSlot (a % 0x01000000 / 0x1000) with
    | some (ty, k) => .page ⟨ty, cluBase c (a % 0x01000000 / 0x1000), k, c⟩ (a % 0x1000)
    | none => .noPage
  else if a < 0x08000000 then .unmapped
  else if a < 0x0A800000 then tileTarget ((a - 0x08000000) / 0x00100000) (a % 0x00100000)
  else if a < 0x0C000000 then .unmapped
  else if a < 0x0E000000 then tileTarget (phys ((a - 0x0C000000) / 0x00100000)) (a % 0x00100000)
  else if a < 0x10000000 then .unmapped
  else if a < 0x15000000 then .tsram ((a - 0x10000000) / 0x00200000)
  else if a < 0x18000000 then .unmapped
  else if a < 0x1A000000 then .csram ((a - 0x18000000) / 0x00800000)
  else if a < 0x40000000 then .unmapped
  else if a < 0x60000000 then .flash 0
  else if a < 0x80000000 then .flash 1
  else if a < 0x1000000000 then .unmapped
  else if a < 0x3400000000 then .hbm ((a - 0x1000000000) / 0x900000000)
  else .unmapped

/-- The logical tile whose alias window holds the address (R23). -/
def aliasOf (a : Nat) : Option Nat :=
  if 0x0C000000 ≤ a ∧ a < 0x0E000000 then some ((a - 0x0C000000) / 0x00100000) else none

/-- The physical tile whose own register window holds the address (R25). -/
def physWindowOf (a : Nat) : Option Nat :=
  if 0x08000000 ≤ a ∧ a < 0x0A800000 then some ((a - 0x08000000) / 0x00100000) else none

end Sys2Proof.Machine
end

