-- ==== Sys2Proof/Machine/Map.lean ====
section
/-! DEFINITION. Machine/Map.lean: sparse data by key. A map is a list of keys and values with rising keys; memory is such a
list of addresses and bytes that lists no zero byte (an unlisted byte reads zero, R495), so that equal maps and equal
memories are equal data. -/

namespace Sys2Proof.Machine

/-- A map from natural numbers, by rising keys. -/
abbrev SMap (α : Type) := List (Nat × α)

/-- The value at a key. -/
def SMap.get? {α : Type} : SMap α → Nat → Option α
  | [], _ => none
  | (k, v) :: m, a => if k = a then some v else SMap.get? m a

/-- The value at a key, or `d` where the map lists none. -/
def SMap.getD {α : Type} (m : SMap α) (a : Nat) (d : α) : α := (SMap.get? m a).getD d

/-- The map with `v` at key `a`. -/
def SMap.put {α : Type} : SMap α → Nat → α → SMap α
  | [], a, v => [(a, v)]
  | (k, w) :: m, a, v =>
    if a < k then (a, v) :: (k, w) :: m
    else if k = a then (a, v) :: m
    else (k, w) :: SMap.put m a v

/-- The map without key `a`. -/
def SMap.erase {α : Type} : SMap α → Nat → SMap α
  | [], _ => []
  | (k, w) :: m, a => if k = a then SMap.erase m a else (k, w) :: SMap.erase m a

/-- The map with the value at `a` (or `d`) replaced by its image. -/
def SMap.upd {α : Type} (m : SMap α) (a : Nat) (d : α) (f : α → α) : SMap α :=
  SMap.put m a (f (SMap.getD m a d))

/-- The map without the keys `k` with k / w = b. -/
def SMap.eraseBlock {α : Type} (m : SMap α) (w b : Nat) : SMap α := m.filter fun kv => kv.1 / w != b

/-- The map with its keys of block `a` (k / w = a) copied over those of block `b`. -/
def SMap.copyBlock {α : Type} (m : SMap α) (w a b : Nat) : SMap α :=
  (m.filter fun kv => kv.1 / w == a).foldl (fun m kv => SMap.put m (w * b + kv.1 % w) kv.2) (SMap.eraseBlock m w b)

/-- Whether a map lists key `a`. -/
def SMap.has {α : Type} (m : SMap α) (a : Nat) : Bool := (SMap.get? m a).isSome

/-- Rising keys: the form of every map. -/
def SMap.wf {α : Type} : SMap α → Bool
  | [] => true
  | [_] => true
  | (k, _) :: (k', v) :: m => decide (k < k') && SMap.wf ((k', v) :: m)

/-- Memory: the bytes that are not zero, by rising address (R11, R495). -/
abbrev Memory := List Host.Cell

/-- The byte an unlisted address reads as (R495). -/
def Memory.unlisted : Byte := 0

/-- One byte of memory. -/
def Memory.read (m : Memory) (a : Nat) : Byte := SMap.getD m a Memory.unlisted

/-- Memory with byte `b` at address `a`, in canonical form. -/
def Memory.write (m : Memory) (a : Nat) (b : Byte) : Memory :=
  if b = Memory.unlisted then SMap.erase m a else SMap.put m a b

/-- No listed byte equals what an unlisted one reads as. -/
def Memory.noZero (m : Memory) : Bool := m.all fun c => c.2 != Memory.unlisted

/-- The canonical form of memory. -/
def Memory.wf (m : Memory) : Bool := SMap.wf m && Memory.noZero m

/-- `n` bytes from address `a`, lowest first. -/
def Memory.readN (m : Memory) (a : Nat) : Nat → List Byte
  | 0 => []
  | n + 1 => Memory.read m a :: Memory.readN m (a + 1) n

/-- Memory with the bytes of the list from address `a` on. -/
def Memory.writeN (m : Memory) (a : Nat) : List Byte → Memory
  | [] => m
  | b :: bs => Memory.writeN (Memory.write m a b) (a + 1) bs

/-- A little-endian number of `n` bytes at address `a` (R11). -/
def Memory.readLE (m : Memory) (a n : Nat) : Nat := ofBytes (Memory.readN m a n)

/-- Memory with the little-endian number `x` of `n` bytes at address `a` (R11). -/
def Memory.writeLE (m : Memory) (a n x : Nat) : Memory := Memory.writeN m a (toBytes x n)

end Sys2Proof.Machine
end

