-- ==== Sys2Proof/Machine/TypesBus.lean ====
section
/-! DEFINITION. Machine/TypesBus.lean: hidden state of the register pages, the time base, the laths and the interrupt
controllers (chapters 02, 03, 09), and of supply, clocks and reset (chapter 14). -/

namespace Sys2Proof.Machine

/-- A bus access as its requester issued it (R38). `size` is in bytes; `data` is the value written. -/
structure Access where
  req : Nat
  addr : Nat
  size : Nat
  write : Bool
  data : Nat
deriving DecidableEq, Repr

/-- The last response a requester received: a bus error or not, and the data of a read (R37, R40). -/
structure BusResp where
  err : Bool
  data : Nat
deriving DecidableEq, Repr

/-- The lock of a page: the sequence in progress with its requester and cycle F, the open window with its opener and cycle W,
and the window that was open when W came, which still counts in cycle W (R45). -/
structure LockSt where
  seq : Option (Nat × Nat) := none
  win : Option (Nat × Nat) := none
  was : Option (Nat × Nat) := none
deriving DecidableEq, Repr

/-- A requester's high-half latch: the counter it records and the half held (R57). -/
structure HiLatch where
  counter : Nat
  hi : Nat
deriving DecidableEq, Repr

/-- The errors of one cycle of a page's island (R52): the cycle, the error of the lowest requester id in it with its cause, and
whether the page's record was filled in it. -/
structure ErrSt where
  cycle : Nat
  cause : Nat
  acc : Access
  fills : Bool
deriving DecidableEq, Repr

/-- What hardware and software did to registers in the island cycle in progress (R41, R44): by field key, the cycle with the W1C
bits that hardware set in it, the cycle with the value of an RC count before its increments and their sum, and the cycle with
the highest requester that wrote the part of a register. -/
structure HwSt where
  sets : SMap (Nat × Nat) := []
  incs : SMap (Nat × Nat × Nat) := []
  soft : SMap (Nat × Nat) := []
deriving DecidableEq, Repr

/-- The register buses. -/
structure BusSt where
  resp : SMap BusResp := []
  locks : SMap LockSt := []
  /-- By page base * 1024 + requester. -/
  latches : SMap HiLatch := []
  /-- By page base * 32 + IRQ_RAW bit: the tick of the bit's last pulse (R44). -/
  pulses : SMap Nat := []
  /-- Accesses held while a logical tile moves or an island sleeps, in order of issue (R24, R400). -/
  held : List Access := []
  /-- Pages a debug halt freezes, with the mode it began with: 0 continue, 1 hold, 2 dust sheet (R474, R475). -/
  frozen : SMap Nat := []
  /-- Held low halves of registers written by halves (R65), by field key. -/
  lows : SMap Nat := []
  /-- By page base: the last cycle with an error (R52). -/
  errs : SMap ErrSt := []
deriving DecidableEq, Repr

/-- A timer: at tick `at` its count was `val` with prescaler phase `ph`; `zeroNext` means that the next advance gives 0
(R63); `catchup` that the next advance is a match (R64); `cmpLo` and `cntLo` are held low halves (R65). -/
structure Timer where
  val : Nat := 0
  at_ : Nat := 0
  ph : Nat := 0
  zeroNext : Bool := false
  catchup : Bool := false
  /-- In ABS the time base has passed CMP: its match has been taken, or it passed while the timer did not count. -/
  done : Bool := false
  cmpLo : Option Nat := none
  cntLo : Option Nat := none
deriving DecidableEq, Repr

/-- A watchdog: ticks elapsed at tick `at_`, and whether it advances. -/
structure Wdog where
  acc : Nat := 0
  at_ : Nat := 0
  stopped : Bool := true
deriving DecidableEq, Repr

/-- The time base, the timers by tile * 16 + number, and the watchdogs by tile (40 is the keeper's). -/
structure TimeSt where
  /-- The time-base PLL has locked since power-on: the count runs (R54, R404). -/
  runs : Bool := false
  /-- The count less the model's tick (R54, R60), modulo 2^64. -/
  ofs : Nat := 0
  /-- Remaining slew at tick `slewAt`, signed, in fractions (R59); not applied in holdover. -/
  slew : Int := 0
  slewAt : Nat := 0
  /-- Successive measurements below LOCK_THR (R61). -/
  good : Nat := 0
  lastMeas : Nat := 0
  /-- Tick at which PPS_OUT last rose (R62). -/
  ppsRise : Option Nat := none
  timers : SMap Timer := []
  wdogs : SMap Wdog := []
deriving DecidableEq, Repr

/-- An event token: its origin, its hop count, the mark of an event that crossed the group link, and the first tick in
which its next stage may take it (R233 to R235). -/
structure Tok where
  level : Nat
  inst : Nat
  prod : Nat
  hops : Nat
  mark : Bool
  ready : Nat
deriving DecidableEq, Repr

/-- A consumer input: the arrivals on their way to its consumer, its counts, and the lath cycle of its last arrival that was kept
(R225, R237). -/
structure CIn where
  toks : List Tok := []
  cyc : Option Nat := none
  arriv : Nat := 0
  taken : Nat := 0
  ovr : Nat := 0
deriving DecidableEq, Repr

/-- A requester's LATH_SEL and snapshot (R231). -/
structure LathSnap where
  psel : Nat := 0
  csel : Nat := 0
  pend : Nat := 0
  arriv : Nat := 0
  taken : Nat := 0
  ovr : Nat := 0
  prod : Nat := 0
deriving DecidableEq, Repr

/-- A lath: production counts, last firings, productions it has not taken, consumer inputs, rows in force,
and snapshots by requester (R224 to R237). -/
structure Lath where
  prod : SMap Nat := []
  lastFire : SMap Nat := []
  waiting : List (Nat × Tok) := []
  cin : SMap CIn := []
  routes : SMap Nat := []
  snaps : SMap LathSnap := []
  /-- Tick of the last software firing (R232). -/
  swAt : Option Nat := none
  /-- Tick at which each input last took an arrival. -/
  tookAt : SMap Nat := []
  /-- By input: the lath cycle of the last COMMIT and the row in force before that cycle (R230). -/
  was : SMap (Nat × Nat) := []
deriving DecidableEq, Repr

/-- The arrivals of one source in one cycle (R245): the cycle, the source's count and SAT bit before them, their number, and those
that were lost with SATLOST. -/
structure Fresh where
  cyc : Nat
  cnt : Nat
  sat : Bool
  n : Nat
  lost : Nat
deriving DecidableEq, Repr

/-- Doorbells and hold-offs of the interrupt controllers (R243, R246, R251). Keys: tile for the buffers, tile * 8 + group for
hold-offs, 320 + group for DINTC. -/
structure IntSt where
  wakeBuf : SMap (List Nat) := []
  wakeWait : SMap (List Nat) := []
  moveHeld : SMap (List Nat) := []
  holdEnd : SMap Nat := []
  /-- By source: its last arrivals (R245). -/
  fresh : SMap Fresh := []
deriving DecidableEq, Repr

/-- The samples of a filtered level (R100, R160, R238): the tick at which the level last changed, and of the samples before that
change the last level and the cycle in which its run began. -/
structure PathSt where
  at_ : Nat := 0
  lv : Bool := false
  since : Nat := 0
deriving DecidableEq, Repr

/-- GPIO pins (R238): the edges in the asynchronous latch that have not fired, the level of the pin, and its samples after POL. The
accepted level stands in GPIO_IN. -/
structure GpioSt where
  alat : SMap Nat := []
  raw : SMap Bool := []
  paths : SMap PathSt := []
deriving DecidableEq, Repr

/-- The laths by number (tile 0 to 39, cluster 64 + c, device 72), interrupts and GPIO. -/
structure LathSt where
  laths : SMap Lath := []
  int : IntSt := {}
  gpio : GpioSt := {}
deriving DecidableEq, Repr

/-- A supply feed as the keel's window comparators see it (R380): inside its window, and the tick since when. -/
structure Feed where
  inWin : Bool := false
  since : Nat := 0
  /-- Tick at which it last came into regulation (R384). -/
  okAt : Nat := 0
deriving DecidableEq, Repr

/-- A reference clock: the tick since when it has been valid (R394). -/
structure RefClk where
  since : Nat := 0
deriving DecidableEq, Repr

/-- Supply, domains, islands, references and reset pins. Domains on stand in PWRD_ON, PLL locks in PLL_STAT. -/
structure PwrSt where
  feedA : Feed := {}
  feedB : Feed := {}
  /-- A command or a return has turned on the switch of the active feed at this tick; the other switch conducts until it conducts
  fully (R384, R385). -/
  switching : Option Nat := none
  /-- The regulators that run on their spare phase (R386). -/
  onSpare : List Nat := []
  /-- The internal node is below 1.50 V (R385). -/
  brown : Bool := false
  /-- The domain switching on, its direction and the tick of its command (R389). -/
  busy : Option (Nat × Bool × Nat) := none
  /-- Domains whose blocks have reached their reset values (R389). -/
  ready : List Nat := []
  /-- Islands that sleep (R399), and those whose PLL does not run, whether or not their domain is on (R398). -/
  asleep : List Nat := []
  stopped : List Nat := []
  /-- Islands for which a wake has been requested (R243, R399). -/
  wakeReq : List Nat := []
  /-- Tick at which an island went to sleep or stopped. -/
  sleptAt : SMap Nat := []
  refA : RefClk := {}
  refB : RefClk := {}
  /-- A PLL that failed while the spare was in use leaves its islands stopped (R398): codes of SPARE_FOR. -/
  failed : List Nat := []
  /-- The spare is locking for this PLL since this tick (R398). -/
  spareLocking : Option (Nat × Nat) := none
  /-- RESET_N is high, and the tick of its last change (R404). -/
  resetN : Bool := false
  resetAt : Nat := 0
  /-- The keeper's ROM has been started (R403). -/
  romStarted : Bool := false
  /-- Sum and number of the values TJ_NOW has had, in the unit of KEEL_TJ, and the tick of the last TJ_AVG (R491). -/
  tjSum : Int := 0
  tjN : Nat := 0
  tjAt : Nat := 0
deriving DecidableEq, Repr

end Sys2Proof.Machine
end

