-- ==== Sys2Proof/Machine/TypesFcst.lean ====
section
/-! DEFINITION. Machine/TypesFcst.lean: hidden state of the forecast engines (chapter 08). -/

namespace Sys2Proof.Machine

/-- A launch (R209): job, launch tick, target boundary as a tick, PER and target period, and what it latched. -/
structure Launch where
  job : Nat
  at_ : Nat
  target : Nat
  per : Nat
  period : Nat
  bank : Nat
  retarget : Bool
  ref : Nat
deriving DecidableEq, Repr

/-- The launch that runs: the states gathered (Q15 words), the bank fetched, ranks by cell, costs by candidate, the winner, and
the outcome it commits under (0 while none). -/
structure FRun where
  launch : Launch
  x0 : Option (List Nat) := none
  bank : Option (List Byte) := none
  ranks : Option (List Nat) := none
  costs : Option (List Int) := none
  win : Nat := 0
  outcome : Nat := 0
  dur : Nat := 0
  margin : Nat := 0
deriving DecidableEq, Repr

/-- An engine: launches that wait, the one that runs, plan writes on the plan path (logical tile, context, value, tag), and the launches
set at reloads, each with its job and the tick of its launch point (R209). -/
structure FcstSt where
  queue : List Launch := []
  run : Option FRun := none
  plans : List (Nat × Nat × Nat × Nat) := []
  due : List (Nat × Nat) := []
deriving DecidableEq, Repr

end Sys2Proof.Machine
end

