-- ==== Sys2Proof/Machine/TypesKlog.lean ====
section
/-! DEFINITION. Machine/TypesKlog.lean: the kiln log recorder's hidden state (R217 to R221). -/

namespace Sys2Proof.Machine

/-- A kiln log record (R217, R218): its fields and its four payload words, and the forecast cycle of its production (R219). -/
structure KRec where
  ty : Nat
  flags : Nat
  src : Nat
  seq : Nat
  tick : Nat
  payload : List Nat
  cyc : Nat
deriving DecidableEq, Repr

/-- The recorder of a cluster: its buffer, oldest first, the records still to produce after a stop event, whether production has
ended (R221), and the last forecast cycle in which a drop raised IRQ_RAW bit 0 (R223). -/
structure Klog where
  buf : List KRec := []
  post : Nat := 0
  ended : Bool := false
  dropCyc : Option Nat := none
deriving DecidableEq, Repr

end Sys2Proof.Machine
end

