-- ==== Sys2Proof/Machine/TypesLoop.lean ====
section
/-! DEFINITION. Machine/TypesLoop.lean: hidden state of the context stores, the loop engines, the generators, the edge
lanes and the pin keepers (chapters 01, 05, 06, 13). -/

namespace Sys2Proof.Machine

/-- A core write to a context, held in boundary staging (R27, R33): requester, local context, byte offset in the context,
size, data, and the address it was issued with. -/
structure CoreWrite where
  req : Nat
  ctx : Nat
  off : Nat
  size : Nat
  data : Nat
  addr : Nat
deriving DecidableEq, Repr

/-- A step write that is held with its response (R132): tile, offset in the program window, size, data, requester, and the
address it was issued with. -/
structure HeldStep where
  tile : Nat
  off : Nat
  size : Nat
  data : Nat
  req : Nat
  addr : Nat
deriving DecidableEq, Repr

/-- A forecast plan commit held in boundary staging (R27): local context, PLAN_VAL, PLAN_TAG. -/
structure PlanCommit where
  ctx : Nat
  val : Nat
  tag : Nat
  /-- The tick of its arrival. -/
  at_ : Nat
deriving DecidableEq, Repr

/-- Boundary staging of a physical tile: plan commits, the core stage (at most 256), and core writes that wait for an entry
(R33). `presets` lists the core writes of past boundaries: context, boundary tick, mask of bytes (R31). -/
structure TileStage where
  plans : List PlanCommit := []
  core : List CoreWrite := []
  waiting : List CoreWrite := []
  presets : List (Nat × Nat × Nat) := []
deriving DecidableEq, Repr

/-- A pending trigger: trigger values V0 to V4, arrival tick, and whether it was returned to the head of its class (R109,
R118). -/
structure Trig where
  vals : List Nat
  arr : Nat
  head : Bool
deriving DecidableEq, Repr

/-- A loop run on a slice (R110 to R119). -/
structure Run where
  ctx : Nat
  cls : Nat
  trig : Trig
  /-- Tick of the selection (R117). -/
  start : Nat
  /-- The tick of its next pair less the pairs executed: 8 ticks after the selection, and later where the run before it in the slice, or a
  pair of its own, comes later (R110, R117). -/
  enter : Nat
  pc : Nat
  /-- First step and length of the step window. -/
  prog : Nat
  nstep : Nat
  v : List Nat
  y0 : Int
  y1 : Int
  z : Bool
  n : Bool
  limf : Bool
  stale : Bool
  sat : Bool
  /-- LIMF was set in the run (CTX_STAT.LIMR). -/
  lim : Bool
  /-- Working copy of the 16 words, and a mask of the words the run wrote. -/
  w : List Nat
  wrote : Nat
  /-- Staged compares (generator, field, value), shared values, wake-ups and events, in order. -/
  cmpw : List (Nat × Nat × Nat)
  stw : List (Nat × Nat)
  wake : List (Nat × Nat)
  evt : List Nat
  /-- PER in force, period number and counter of each generator of the tile at dispatch (LDG, LDP). -/
  gens : List (Nat × Nat × Nat × Nat)
  pairs : Nat
  ended : Bool
  /-- 0 none, 1 TARGET, 2 LIMIT, 3 PROG (R116). -/
  fault : Nat
  faultStep : Nat
deriving DecidableEq, Repr

/-- The loop engines: context words (tile * 32768 + context * 16 + word), program steps (tile * 4096 + step), steps in
error (1 uncorrectable and found, 2 a single bit, 3 uncorrectable and not found yet), pending triggers (tile * 2048 + context), runs in and behind their program stage (tile * 16 + slice), shared values
in flight (cluster, index, value, tick of effect, order), held step writes, and the boundary staging by tile. -/
structure LoopSt where
  ctx : SMap Nat := []
  prog : SMap Nat := []
  progBad : SMap Nat := []
  pend : SMap Trig := []
  /-- The run in its program stage and the one its slice loads (R117). -/
  runs : SMap (List Run) := []
  /-- Runs in their commit stage, oldest first (R119). -/
  commits : SMap (List Run) := []
  /-- tile * 64 + slice * 4 + lane: tick of its last outvoted run (R124). -/
  outvote : SMap Nat := []
  /-- tile * 16 + slice: the lanes to replace at the next dispatch (R124). -/
  swapNext : SMap (List Nat) := []
  shv : List (Nat × Nat × Nat × Nat × Nat) := []
  /-- Step writes held, in order of arrival (R132). -/
  heldSteps : List HeldStep := []
  /-- tile * 2048 + context: the tick of the last write-back (R109). -/
  wroteAt : SMap Nat := []
  /-- tile * 2048 + context: the tick of the last WAKE and the context that sent it (R121). -/
  woke : SMap (Nat × Nat) := []
  /-- The context words written in a tick, and the tick (R126). -/
  ctxNow : Nat × List Nat := (0, [])
  stage : SMap TileStage := []
deriving DecidableEq, Repr

/-- A transition of a generator's output: H or L, rise or fall, and its instant in fractions of the model's tick. -/
structure Trans where
  isH : Bool
  rise : Bool
  at_ : Nat
deriving DecidableEq, Repr

/-- A generator's state behind its registers (R133 to R163). Instants of outputs are in fractions of the model's tick. -/
structure Gen where
  /-- The tick of the last reload, which a phase load does not move (R120, R141, R143). -/
  origin : Nat := 0
  /-- A phase load since that reload: the tick of the last one, and the count it loaded (R143). -/
  load : Option (Nat × Nat) := none
  /-- The tick in which a pulse whose off edge a load passed ends by catch-up (R144). -/
  catchAt : Option Nat := none
  /-- The first reload is still to come, at this tick (R134). -/
  first : Option Nat := none
  /-- The tick of the first reload since RUN was set, which ends no period (R120, R134). -/
  begun : Nat := 0
  per : Nat := 0
  on_ : Nat := 0
  off_ : Nat := 0
  eva : Nat := 0
  evb : Nat := 0
  /-- The pulse of the period: commanded, its on and its effective off in fractions (R136, R149). -/
  pulse : Bool := false
  pOn : Nat := 0
  pOff : Nat := 0
  m : Bool := false
  /-- Compares that have matched in this period: bit 0 ON, 1 OFF, 2 EVA, 3 EVB; bit 4 the PEND event (R135, R146). -/
  matched : Nat := 0
  presc : Nat := 0
  armAt : Nat := 0
  /-- The outputs, their delayed rises (R150), and the gap of M that has been suppressed (R151). For a remote generator:
  the outputs and M at the end of the period whose set it has formed. -/
  om : Bool := false
  h : Bool := false
  l : Bool := false
  hRise : Option Nat := none
  lRise : Option Nat := none
  lSupp : Bool := false
  mFall : Nat := 0
  lRose : Nat := 0
  /-- A remote generator's set of the period, and its outputs when the period began (R153). -/
  plan : List Trans := []
  h0 : Bool := false
  l0 : Bool := false
  /-- The blanking windows of placed edges, from and to an instant (R161). -/
  blanks : List (Nat × Nat) := []
  /-- Loop commits on their way to the shadow: tick, field, value, local context (R121, R139). -/
  shPend : List (Nat × Nat × Nat × Nat) := []
  /-- The fields that loop commits have entered last, with the tick: a core write of that tick comes before them (R140). -/
  entered : List (Nat × Nat) := []
  /-- A phase load that waits for the tick after a reload (R143). -/
  loadNext : Bool := false
  /-- In the new tile of a move: the outputs are driven from the first reload at or after this tick (R360). -/
  quiet : Nat := 0
  /-- Instant of the generator's last placed edge as prescribed and as placed (R165). -/
  lastWant : Nat := 0
  lastPlaced : Nat := 0
  /-- The charge ledger (R372): instant up to which it is integrated, H at that instant, transitions of H to come, the set
  a remote cell repeats with its BASE and PER, and the periods repeated. -/
  ledAt : Nat := 0
  ledH : Bool := false
  ledTodo : List (Nat × Bool) := []
  ledEnts : List (Nat × Bool) := []
  ledBase : Nat := 0
  ledPer : Nat := 0
  ledReps : Nat := 0
  /-- Growth in the period (PERQ), and since the last reload of the arm's reference generator (R374). -/
  ledPerQ : Int := 0
  /-- LEDG_CFG as it was before its last change, which counts up to the end of the tick of that change (R374). -/
  ledOld : Option (Nat × Nat) := none
  /-- The last reload of the mirrored schedule at which the ledgers were closed, while the tile's gate is shut (R375). -/
  ledGap : Nat := 0
deriving DecidableEq, Repr

/-- A local edge that waits for lanes (R165): generator, output, direction, wanted instant in fractions. -/
structure WaitEdge where
  gen : Nat
  isH : Bool
  rise : Bool
  want : Nat
deriving DecidableEq, Repr

/-- The lane pool of a tile: lanes busy until a tick, retired lanes, last outvotes, and delayed edges (R164 to R166). -/
structure Lanes where
  busy : List (Nat × Nat) := []
  retired : List Nat := []
  outvote : SMap Nat := []
  delayed : List WaitEdge := []
  /-- Remote sets that wait for lanes: generator, the tick of their reload, and whether a field of the set will find no majority
  (R167). -/
  sets : List (Nat × Nat × Bool) := []
deriving DecidableEq, Repr

/-- A period record of a local generator held by the pin keeper (R363): reload tick, PER, DT in fractions, and the
transitions of the period. While the pins repeat: the transitions still to come, the last falls, rises held by DT, and the
periods repeated (R364). -/
structure PeriodRec where
  reload : Nat := 0
  per : Nat := 0
  dt : Nat := 0
  trans : List Trans := []
  todo : List Trans := []
  hFall : Nat := 0
  lFall : Nat := 0
  reps : Nat := 0
  repeating : Bool := false
  /-- The pins ended in the dust sheet at the repeat limit, or by a trip of a source at a count of the time base (R364, R365). -/
  dust : Bool := false
  tripped : Option (Nat × Nat) := none
deriving DecidableEq, Repr

/-- A closed mirror gate: it passes what takes effect up to the end of tick `d` (R356). The triggers that merge behind it are counted
in the new tile (R366). -/
structure Gate where
  d : Nat
  merged : Nat := 0
deriving DecidableEq, Repr

/-- A local pin: the level driven before INV, or high impedance (R156). -/
structure Pin where
  driven : Bool := false
  level : Bool := false
  /-- Instant of the last change, in fractions. -/
  at_ : Nat := 0
deriving DecidableEq, Repr

/-- Generators (tile * 256 + generator), lane pools by tile, pins by number, period records (logical tile * 256 + generator),
the trip sources active in each cluster (cluster * 32 + source, R160), and the growth of the cell ledgers and of the arm
integral since the last closure, by cluster * 8 + arm (R374). -/
structure EdgeSt where
  gens : SMap Gen := []
  lanes : SMap Lanes := []
  pins : SMap Pin := []
  recs : SMap PeriodRec := []
  active : List Nat := []
  arms : SMap (Int × Int) := []
  /-- LARM_CFG of an arm as it was before its last change, which counts up to the end of the tick of that change (R374). -/
  armOld : SMap (Nat × Nat) := []
  /-- Closed mirror gates by physical tile (R356). -/
  gates : SMap Gate := []
deriving DecidableEq, Repr

end Sys2Proof.Machine
end

