-- ==== Sys2Proof/Machine/TypesCore.lean ====
section
/-! DEFINITION. Machine/TypesCore.lean: hidden state of the Weram core pairs (chapters 10, 11, 13 and 17). -/

namespace Sys2Proof.Machine

/-- Registers that a checkpoint holds (R254, R272). Accumulators are kept as the accumulating instructions see them (`am`) and
as every other reader does (`a`, R260); LC0 as MFLC and as the loop end see it (`lc0e`, R304). `sys` holds the system
registers by number (R273), the monitor's among them (R471). -/
structure Regs where
  g : List Nat := List.replicate 16 0
  a : List Nat := List.replicate 4 0
  am : List Nat := List.replicate 4 0
  l : List Nat := List.replicate 8 0
  pc : Nat := 0
  /-- Reset: supervisor, IPL 16 (R285). -/
  psw : Nat := 0x201
  lc0 : Nat := 0
  lc0e : Nat := 0
  lc1 : Nat := 0
  ls : Nat := 0
  le : Nat := 0
  prog : Nat := 0
  /-- SORTK: the PC and PROG at which the step that is next finds this many records of its block's left run placed (R309). -/
  lr : Nat × Nat × Nat := (0, 0, 0)
  sys : SMap Nat := []
deriving DecidableEq, Repr

/-- A write that completes at a distance (R258): the pipe cycle, what it writes, the value. Targets: 0 to 15 G, 16 to 19 A,
20 to 23 A for accumulating instructions, 24 N Z C V, 25 SAT ORed, 26 SAT, 27 LC0, 28 LC0 at the loop end, 29 LC1. -/
structure PWrite where
  due : Nat
  target : Nat
  value : Nat
deriving DecidableEq, Repr

/-- The first instruction of a group that a second may join (R255): its fetch block, use of the data port, start of a long
unit, G and A registers written (16 + k for Ak), flags written. -/
structure Grp where
  block : Nat
  port : Bool
  long : Bool
  dests : List Nat
  flags : Bool
deriving DecidableEq, Repr

/-- A buffered store (R268). -/
structure SbE where
  addr : Nat
  size : Nat
  data : Nat
deriving DecidableEq, Repr

/-- An unbuffered access that freezes the pair (R268): the instruction's length and next address, the access in flight, what a load
writes (destination, signed, pair), and the base register's update. Of an access in two halves (R270) it is the one in flight. -/
structure Unb where
  next : Nat
  len : Nat
  slot : Bool
  addr : Nat
  va : Nat
  size : Nat
  write : Bool
  data : Nat
  /-- Destination of a load: 16 + k for an accumulator; 255 for none. -/
  dest : Nat
  signed : Bool
  /-- Kind of a locked access: 0 none. -/
  lock : Nat
  cmp : Nat
  base : Option (Nat × Nat)
  /-- The machine check that a bus error raises. -/
  mcc : Nat := 3
  /-- The response, once it has been given. -/
  resp : Option BusResp := none
  /-- The whole access: address and size; and the data of a store. -/
  whole : Nat × Nat := (va, size)
  word : Nat := data
  /-- What the lower half has returned, and its bytes. -/
  low : Nat × Nat := (0, 0)
  /-- The upper half that follows: physical address and size. -/
  more : Option (Nat × Nat) := none
deriving DecidableEq, Repr

/-- An operation of a long unit (R267): its unit, results by L register, the core cycle in which they are ready, and whether the
last checkpoint found it pending, so that its results enter that too (R254). -/
structure LongOp where
  unit : Nat
  results : List (Nat × Nat)
  ready : Nat
  inCk : Bool := false
deriving DecidableEq, Repr

/-- A TLB entry (R326): ASID, global, virtual page and size in bits, leaf word, level. -/
structure TlbE where
  asid : Nat
  glob : Bool
  vpn : Nat
  bits : Nat
  leaf : Nat
  lvl : Nat
deriving DecidableEq, Repr

/-- A release-log entry (R351): 0 load, 1 store, 2 locked, 3 acceptance (addr: group count; data: level * 512 + source). -/
structure LogE where
  kind : Nat
  addr : Nat
  size : Nat
  data : Nat
  ret : Nat
  err : Bool
deriving DecidableEq, Repr

/-- The log entry of an access with its response. -/
def LogE.answer (e : LogE) (q : BusResp) : LogE := { e with ret := if q.err then 3 else q.data, err := q.err }

/-- A long resumable instruction whose access is held (R268, R284): the elements left to its next 16-element point; what the
accesses of the element in progress have returned, and how many of these have been used again; the next where it has been sent; the
lower half of a split one; and the matrix of MVM. -/
structure LrSt where
  left : Nat := 0
  got : List Nat := []
  cur : Nat := 0
  sent : Option LogE := none
  part : Option Nat := none
  mat : List Nat := []
deriving DecidableEq, Repr

/-- A core pair. -/
structure PairSt where
  r : Regs := {}
  pw : List PWrite := []
  /-- Pipe cycle of the last group, and the earliest one of the next. -/
  dist : Nat := 0
  nextAt : Nat := 1
  /-- Pipe cycle in which the loop's present iteration began (R265). -/
  loopAt : Nat := 0
  grp : Option Grp := none
  sb : List SbE := []
  unb : Option Unb := none
  longs : List LongOp := []
  tlb : List TlbE := []
  ck : Regs := {}
  ckAt : Nat := 0
  log : List LogE := []
  /-- The log is frozen while the LOCKSTEP handler runs (R352). -/
  logFrozen : Bool := false
  replay : List LogE := []
  /-- Issue groups since the checkpoint (R351). -/
  groups : Nat := 0
  /-- A rollback in progress since this tick, and the tick of the last mismatch (R253, R354). -/
  rolling : Option Nat := none
  lastMis : Option Nat := none
  /-- It issues nothing further, after R354. -/
  dead : Bool := false
  /-- One instruction is to be stepped (R469). -/
  stepping : Bool := false
  /-- A watched access has been made: its EA, the slot, and WRITE (R467, R470). -/
  dbgDue : Option (Nat × Nat × Bool) := none
  /-- A broken-lock notice waits for vector 0x0A0 (R281). -/
  brkDue : Bool := false
  /-- A long resumable instruction has been left, at one of its 16-element points (R284) or at an access that is held. -/
  inLr : Bool := false
  lrs : LrSt := {}
  /-- A checkpoint is due at the end of the group in progress (R254). -/
  ckWait : Bool := false
deriving DecidableEq, Repr

/-- The core pairs by number. -/
structure CoreSt where
  pairs : SMap PairSt := []
deriving DecidableEq, Repr

end Sys2Proof.Machine
end

