-- ==== Sys2Proof/Machine/TypesMem.lean ====
section
/-! DEFINITION. Machine/TypesMem.lean: hidden state of memories, IOMMUs, DMA channels, queues and hardware locks
(chapter 12), and of takeover and refiring (chapter 13). -/

namespace Sys2Proof.Machine

/-- A hardware queue (R342 to R345): configuration, entries and reservations, the index of the head, and counts. -/
structure Queue where
  en : Bool := false
  log2n : Nat := 0
  esize : Nat := 0
  base : Nat := 0
  level : Nat := 0
  rsvd : Nat := 0
  head : Nat := 0
  pushed : Nat := 0
  popped : Nat := 0
  refused : Nat := 0
deriving DecidableEq, Repr

/-- What a queue manager keeps for a requester (R342 to R344): selection, snapshot, staging words, POP words. -/
structure QReq where
  sel : Nat := 0
  level : Nat := 0
  free : Nat := 0
  rsvd : Nat := 0
  pushed : Nat := 0
  popped : Nat := 0
  refused : Nat := 0
  push : SMap Nat := []
  result : Nat := 0
  popsel : Nat := 0
  pop : SMap Nat := []
deriving DecidableEq, Repr

/-- A DMA descriptor (R332). -/
structure Desc where
  op : Nat
  srcFix : Bool
  dstFix : Bool
  evt : Bool
  irq : Bool
  crec : Bool
  last : Bool
  tag : Nat
  len : Nat
  src : Nat
  dst : Nat
  next : Nat
deriving DecidableEq, Repr

/-- A burst in flight (R333): physical destination, length, the bytes read, and an error found (0 none). -/
structure Burst where
  dst : Nat
  n : Nat
  data : List Byte
  err : Nat
deriving DecidableEq, Repr

/-- A translation that a channel keeps (R333): virtual page, bits of its size, physical page. -/
structure PageTr where
  vpn : Nat
  bits : Nat
  ppn : Nat
deriving DecidableEq, Repr

/-- A DMA channel: its descriptor, the address of the one to start, a burst, the bytes read and not yet written of a transfer with a FIX
side, the pages it keeps, the queues in which it holds a fault and a completion credit, its real-time ring, a pending abort and an ARM
that waits for a frozen memory. -/
structure DmaCh where
  desc : Option Desc := none
  toStart : Option Nat := none
  burst : Option Burst := none
  carry : List Byte := []
  srcPg : Option PageTr := none
  dstPg : Option PageTr := none
  fq : Option Nat := none
  cq : Option Nat := none
  ring : List Desc := []
  abort : Bool := false
  arming : Bool := false
deriving DecidableEq, Repr

/-- A pinned leaf and the channels that use it, with repeats (R329). -/
structure PinLeaf where
  leaf : TlbE
  users : List Nat
deriving DecidableEq, Repr

/-- The IOMMU of a tile and the channel its mover picked last (R328, R329, R333). -/
structure IoSt where
  tlb : List TlbE := []
  pins : List PinLeaf := []
  lastPick : Nat := 31
deriving DecidableEq, Repr

/-- A held lock: its owner, and the ticks of its lease gone by at tick `at_`, while it does not stand still (R347, R349). -/
structure LockOwn where
  owner : Nat
  acc : Nat
  at_ : Nat
  still : Bool
deriving DecidableEq, Repr

/-- Chapter 12. Queues by tile * 2048 + queue, requesters by tile * 1024 + id, channels by tile * 32 + n, locks by
tile * 64 + n. `ue` lists the addresses of uncorrectable words; `passCe` and `rowCe` the corrected errors of the present
pass by cluster * 64 + pseudo-channel and by row; `bankUsed` the spare rows used by bank, `retired` the rows retired and
`rowsDue` those the keeper has yet to record in the journal; `arbLast` the requester last
granted, `arbHead` those revoked and `arbEmer` the tick of the emergency requester's last grant, by arbiter. -/
structure MemSt where
  queues : SMap Queue := []
  /-- What the settings journal gave a queue (R16), under the same keys. -/
  queueL : SMap Queue := []
  qreqs : SMap QReq := []
  chans : SMap DmaCh := []
  io : SMap IoSt := []
  locks : SMap LockOwn := []
  ue : List Nat := []
  passCe : SMap Nat := []
  rowCe : SMap Nat := []
  bankUsed : SMap Nat := []
  retired : List Nat := []
  rowsDue : List Nat := []
  arbLast : SMap Nat := []
  arbHead : SMap (List Nat) := []
  arbEmer : SMap Nat := []
deriving DecidableEq, Repr

/-- A move in progress in a cluster (R357 to R360): logical tile, old tile, new tile once chosen, trigger, tick D, and
whether MOVING is set. -/
structure Move where
  lt : Nat
  from_ : Nat
  to_ : Nat
  trig : Nat
  d : Nat
  moving : Bool
deriving DecidableEq, Repr

/-- A refiring in STAGING, SHADOW or SWITCHING (R367 to R371): logical tile, staged tile, policy SHADOW, reference
generator and bundle; whether it is in SHADOW; the period P of an accepted switch; the old tile and the tick T of a switch
made. -/
structure Refire where
  lt : Nat
  phys : Nat
  policy : Bool
  refGen : Nat
  img : Nat
  shadow : Bool := false
  switch : Option Nat := none
  done : Option (Nat × Nat) := none
deriving DecidableEq, Repr

/-- Chapter 13. Moves by cluster, triggers that wait (logical tile, physical tile, trigger, tick D, saggar wanted), the
refiring of each cluster, tiles of ROLE 0b10 that refill their mirrors, the logical tile of a move whose core pairs are still to be released
with its physical tile, and the keeper's image store: images by logical tile (R416). -/
structure DepSt where
  moves : SMap Move := []
  waiting : List (Nat × Nat × Nat × Nat × Nat) := []
  refires : SMap Refire := []
  refill : List Nat := []
  release : SMap Nat := []
  images : SMap (List Byte) := []
deriving DecidableEq, Repr

end Sys2Proof.Machine
end

