-- ==== Sys2Proof/Machine/TypesRing.lean ====
section
/-! DEFINITION. Machine/TypesRing.lean: hidden state of the ring transmitters and receivers and of the cell nodes
(chapter 07). -/

namespace Sys2Proof.Machine

/-- A frame: the header fields of R174 without the direction, and its data blocks. -/
structure Frame where
  ty : Nat
  bcast : Bool := false
  pos : Nat := 0
  leg : Nat := 0
  seq : Nat := 0
  flags : Nat := 0
  blocks : List Nat := []
deriving DecidableEq, Repr

/-- A queued frame: its class of service (R180: 0 block command, 1 set, 2 TIME, 3 request, ECHO or ENUM), the tick of its
handover, and whether its short leads have been counted (R190). -/
structure QItem where
  cls : Nat
  at_ : Nat
  frame : Frame
  counted : Bool := false
deriving DecidableEq, Repr

/-- What stands on a transmit pin: the last frame sent, its direction, the tick of its SOF, and whether the frame was
abandoned (R195). -/
structure Sent where
  frame : Frame
  dirn : Nat
  at_ : Nat
  cut : Bool := false
  /-- The CRC-32 of its EOF: a node sends on the one it received, or the complement of the one it recomputed where the frame had
  come with a wrong one (R176). -/
  crc : Nat
  /-- Bits [63:8] of its SOF (R174). -/
  sof : Nat
  /-- The 58 line bits before its SOF (R171). Of the device's transmitters a free value at each frame; a node's are not kept. -/
  prev : Nat := 0
deriving DecidableEq, Repr

/-- A management request (R183): node register, position, write, tag, data; `kind` tells the device's own requests from
software's: 0 software, 1 caps read at a join, 2 and 3 the delay writes. -/
structure Mreq where
  addr : Nat
  pos : Nat
  wr : Bool
  tag : Nat
  data : Nat
  kind : Nat := 0
deriving DecidableEq, Repr

/-- An issued request: its SEQ and the tick of its issue. -/
structure MOut where
  seq : Nat
  req : Mreq
  at_ : Nat
deriving DecidableEq, Repr

/-- What the device keeps for a position: the last MEAS SEQ with its LATE and REPEATS counts, the tick of its last valid up
frame, and the join in progress: caps read, directions still to calibrate, delay writes still to come. -/
structure PosSt where
  seq : Option Nat := none
  /-- A MEAS frame of the position has been accepted, before a rejoin perhaps: LATE and REPEATS below are its counts (R182). -/
  seen : Bool := false
  late : Nat := 0
  reps : Nat := 0
  upAt : Nat := 0
  caps : Bool := false
  cal : List Nat := []
  writes : Nat := 0
  /-- Requests that ended, by SEQ, and whether they ended by TIMEOUT (R184). -/
  ended : List (Nat × Bool) := []
deriving DecidableEq, Repr

/-- A ring of the device. Directions: 0 CW, 1 CCW. -/
structure RingSt where
  cw : List QItem := []
  ccw : List QItem := []
  /-- SEQ counters of the sender: position * 4 + leg for EDGE, 128 + position for MREQ. -/
  seqs : SMap Nat := []
  /-- End of the frame on each transmitter, in fifths of a tick (R171). -/
  busyCw : Nat := 0
  busyCcw : Nat := 0
  lastCw : Option Sent := none
  lastCcw : Option Sent := none
  /-- Block commands to send again: due tick, frame (R180). -/
  again : List (Nat × Frame) := []
  reqs : List Mreq := []
  own : List Mreq := []
  out : List MOut := []
  rsp : List (Nat × Nat) := []
  held : Option Nat := none
  pos : SMap PosSt := []
  brkCw : Nat := 0
  brkCcw : Nat := 0
  /-- The frame partly received at each receiver: its header and its data blocks so far (R173, R195). -/
  rxCw : Option (Nat × List Nat) := none
  rxCcw : Option (Nat × List Nat) := none
  /-- The tick, modulo 132, in which a block boundary of the transmitters falls on a tick boundary (R171). The model's own field: the
  spec gives no phase, and nothing writes it. -/
  grid : Nat := 0
  /-- Tick of the last TIME frame, of the last automatic ENUM, and of the start of a calibration. -/
  timeAt : Option Nat := none
  autoAt : Option Nat := none
  calAt : Nat := 0
deriving DecidableEq, Repr

/-- A set in a node: BASE, PER and its entries (R179). -/
structure NSet where
  base : Nat
  per : Nat
  ents : List (Nat × Nat × Bool)
deriving DecidableEq, Repr

/-- A leg of a node: sequence stream, current and pending set, entries of the current set still to come, levels and last
falls of H and L in fractions, rises held by the interlock, repeated periods in a row, and its block (0 none, 1 commanded,
2 self-block) (R197 to R199). -/
structure NLeg where
  seq : Option Nat := none
  cur : Option NSet := none
  pend : Option NSet := none
  todo : List (Nat × Nat × Bool) := []
  hOn : Bool := false
  lOn : Bool := false
  hFall : Option Nat := none
  lFall : Option Nat := none
  hWant : Bool := false
  lWant : Bool := false
  reps : Nat := 0
  /-- Transitions made, latest first: instant in fractions of node time, output (0 H, 1 L), level. -/
  hist : List (Nat × Nat × Bool) := []
  /-- No set has become current since this period began. -/
  repeating : Bool := false
  block : Nat := 2
deriving DecidableEq, Repr

/-- A port of a node as a transmitter: the last frame it sent, its own frames that wait with the tick of their making, in the order
ECHOR, MRSP, MEAS, the end in fifths of a tick of the frame on the line, and the last STATUS block with its tick (R191, R196). -/
structure NPort where
  out : Option Sent := none
  own : List (Nat × Frame) := []
  busy : Nat := 0
  stat : Option (Nat × Nat) := none
deriving DecidableEq, Repr

/-- A cell node, by ring * 32 + place on the ring (R196 to R201). `ofs` is its time less the model's tick, in fractions. -/
structure NodeSt where
  pos : Nat := 0
  assigned : Bool := false
  /-- Tick at which it took its position (R188). -/
  took : Option Nat := none
  ctrl : Nat := 0x80
  dlyCw : Nat := 0
  dlyCcw : Nat := 0
  dt : Option Nat := none
  mper : Nat := 0
  mphase : Nat := 0
  lol : Nat := 10
  impl : SMap Nat := []
  ofs : Int := 0
  timeOk : Bool := false
  timeAt : Nat := 0
  /-- SEQ of the TIME frame whose CW copy last set the time (R185). -/
  cwSeq : Option Nat := none
  lockP : Bool := false
  lockQ : Bool := false
  /-- Tick since when both ports have had no lock (R199). -/
  darkAt : Option Nat := some 0
  cause : Nat := 0
  /-- The cause of a self-block still holds (R199). -/
  causeHolds : Bool := false
  legs : SMap NLeg := []
  mseq : Option Nat := none
  late : Nat := 0
  reps : Nat := 0
  intlk : Nat := 0
  crcerr : Nat := 0
  /-- SEQ of its MEAS stream and the tick of its last MEAS frame. -/
  meas : Nat := 0
  measAt : Nat := 0
  /-- The last measurement instant sampled, in node ticks (R200). -/
  sampled : Option Nat := none
  /-- Its two ports as transmitters: P sends CCW, Q sends CW (R196). -/
  portP : NPort := {}
  portQ : NPort := {}
deriving DecidableEq, Repr

/-- A receiving lane under Clause 49 (R171): the tick of its block lock, the window of 64 blocks that held the last invalid sync
header with their number, and the same for the 125 us of the bit-error-rate monitor, with the last period that reached 16. -/
structure LaneSt where
  lockAt : Nat := 0
  win : Nat := 0
  winBad : Nat := 0
  ber : Nat := 0
  berBad : Nat := 0
  hi : Option Nat := none
  /-- The tick since when its sync headers have been valid without a break: 64 blocks of them give the block lock. -/
  goodAt : Nat := 0
deriving DecidableEq, Repr

/-- The rings by number, the receiving lanes and the cell nodes. -/
structure LinkSt where
  rings : SMap RingSt := []
  lanes : SMap LaneSt := []
  nodes : SMap NodeSt := []
deriving DecidableEq, Repr

end Sys2Proof.Machine
end

