-- ==== Sys2Proof/Machine/TypesSamp.lean ====
section
/-! DEFINITION. Machine/TypesSamp.lean: hidden state of the analog fronts, converters, comparators and capture inputs
(chapter 04). -/

namespace Sys2Proof.Machine

/-- The reference of a cluster: the tick at which settling ends (R80), and its voltage in nanovolts (R79). -/
structure RefSt where
  settle : Option Nat := none
  nv : Nat := 2500000000
deriving DecidableEq, Repr

/-- A running sequence: its first sample instant as a time-base tick, entries, conversions done, mode, channels; the entry at
which it stops, and that REF_READY fell (R83, R93, R499). -/
structure SeqSt where
  s0 : Nat
  len : Nat
  done : Nat
  lp : Bool
  chan : Nat
  stopAt : Nat
  refBad : Bool
deriving DecidableEq, Repr

/-- A sample record on its way to the tiles (R91, R92). -/
structure SRec where
  ain : Nat
  value : Nat
  refBad : Bool
  stamp : Nat
deriving DecidableEq, Repr

/-- A converter: the tick of its power-up, its sequences in order, the next TIME instant, the held low half of START, the
ticks of the records in its result registers, and the readers' tick latches (R85, R88, R94). -/
structure AdcSt where
  powerAt : Option Nat := none
  seqs : List SeqSt := []
  next : Option Nat := none
  startLo : Option Nat := none
  /-- The cycle in which an event start was last taken. -/
  evAt : Option Nat := none
  tick0 : Nat := 0
  tick1 : Nat := 0
  latch : SMap Nat := []
  /-- EN has been cleared: the converter powers down, and with a block reset its registers return to their reset values, once
  what still converts has ended (R499). -/
  off : Bool := false
  rst : Bool := false
deriving DecidableEq, Repr

/-- A comparator: the tick of EN, and a threshold that waits (R98, R99). -/
structure CmpSt where
  enAt : Option Nat := none
  waits : Bool := false
deriving DecidableEq, Repr

/-- A capture FIFO: its entries, and those captured in cycle `cyc` of its island, which a read of that cycle does not find (R104). -/
structure CapSt where
  q : List Nat := []
  new : List Nat := []
  cyc : Nat := 0
deriving DecidableEq, Repr

/-- Sampling: references by cluster, converters, comparators and capture FIFOs by number, records on the sample buses by
cluster, oldest first; of the trip sources by 32 * cluster + number, the input (nanovolts at CMPIN, 1 or 0 at a TRIP pin) and
the event path (R96, R100, R160); of the CAPIN inputs the level last accepted and its tick (R101). -/
structure SampSt where
  refs : SMap RefSt := []
  adcs : SMap AdcSt := []
  cmps : SMap CmpSt := []
  caps : SMap CapSt := []
  capIn : SMap (Bool × Nat) := []
  bus : SMap (List SRec) := []
  inp : SMap Int := []
  paths : SMap PathSt := []
deriving DecidableEq, Repr

end Sys2Proof.Machine
end

