-- ==== Sys2Proof/Machine/TypesSys.lean ====
section
/-! DEFINITION. Machine/TypesSys.lean: hidden state of firing, measurement and attestation (chapter 15), of device groups
(chapter 16), and of the Derevo monitor and the test access port (chapter 17). -/

namespace Sys2Proof.Machine

/-! ### Firing (R405 to R434) -/

/-- One-time-programmable memory (R431): key hashes by slot, revoked slots, MIN_VERSION, the lifecycle state (0 MANUFACTURE,
1 DEPLOYED, 2 RETURNED) and the one that takes effect at the next power-on. -/
structure Otp where
  keys : SMap (List Byte) := []
  revoked : Nat := 0
  minVersion : Nat := 0
  life : Nat := 0
  lifeNext : Option Nat := none
deriving DecidableEq, Repr

/-- A record of the measurement log (R423). -/
structure MRec where
  ix : Nat
  source : Nat
  unit : Nat
  version : Nat
  tick : Nat
  d : List Byte
deriving DecidableEq, Repr

/-- A journal item (R418): kind (1 REG, 2 RETIRE, 3 DOMAIN), address, value, mask. -/
structure JItem where
  kind : Nat
  addr : Nat
  value : Nat
  mask : Nat
deriving DecidableEq, Repr

/-- A KEEP command that runs (R434): command, arguments, and whether it is refused. -/
structure KeepCmd where
  cmd : Nat
  args : List Nat
deriving DecidableEq, Repr

/-- An SPDM connection (R429): port (2 for the group link), source address and UDP port; the tick of its last use; the
request in assembly (MSG_ID, TOTAL, tick of its first fragment, bytes by offset); the complete request that waits, with its
MSG_ID; the last one completed with its response; the algorithms are negotiated; and the transcripts of the standard. -/
structure Conn where
  port : Nat
  addr : Nat
  udp : Nat
  last : Nat
  asm : Option (Nat × Nat × Nat) := none
  got : SMap Byte := []
  req : Option (Nat × List Byte) := none
  done : Option Nat := none
  resp : List Byte := []
  vca : List Byte := []
  algs : Bool := false
  l1 : List Byte := []
  mb : List Byte := []
deriving DecidableEq, Repr

/-- Firing and the keeper: phase (0 not started, 1 ROM, 2 loader, 3 complete, 4 BOOT_FAIL), the flash tried, the tick of the
next retry; the header in force (VERSION, COMPAT, KEYIDX and where its regions lie); the log; staging words of MEAS_EXTD by
requester * 16 + word; the alias key and certificate; the last SEQ of the journal, the half in use and the item list applied;
a running KEEP command; connections. -/
structure FireSt where
  phase : Nat := 0
  /-- The ROM has made its own first extensions since it started (R405 step 1). -/
  started : Bool := false
  flash : Nat := 0
  retryAt : Nat := 0
  version : Nat := 0
  compat : Nat := 0
  keyIdx : Nat := 0
  otp : Otp := {}
  log : List MRec := []
  ext : SMap Nat := []
  aliasKey : List Byte := []
  aliasCert : List Byte := []
  jseq : Nat := 0
  jhalf : Nat := 0
  jend : Nat := 0
  items : List JItem := []
  /-- Domains that firing switched on. -/
  doms : List Nat := []
  keep : Option KeepCmd := none
  conns : List Conn := []
  /-- The SPDM responder runs (R407). -/
  spdm : Bool := false
deriving DecidableEq, Repr

/-! ### Device groups (R435 to R454) -/

/-- A frame of the group link (R435, R436): TYPE, source member, SEQ, its content as words, and the frame as it stands on its lane. -/
structure GFrame where
  ty : Nat
  src : Nat
  seq : Nat
  words : List Nat
  line : Sent
deriving DecidableEq, Repr

/-- This member's SPDM exchange with a peer (R438): its step, the number of requests so far, the MSG_ID that awaits a response, the request
sent and its tick, what has been exchanged, the certificate chain so far, and the result: the peer's lifecycle class, none where a check failed. -/
structure Ask where
  step : Nat := 0
  n : Nat := 0
  out : Option Nat := none
  sent : List Byte := []
  at_ : Nat := 0
  log : List Byte := []
  chain : List Byte := []
  result : Option (Option Nat) := none
deriving DecidableEq, Repr

/-- A peer as its frames show it (R436 to R438): tick of its last STATUS, its fields, whether it is lost, this member's exchange with it and whether
its own CHALLENGE has been answered, its last SEQ by type, and the tick since when its lane has block lock. -/
structure Peer where
  id : Nat := 8
  seen : Option Nat := none
  lock : Option Nat := none
  gid : Nat := 0
  compat : Nat := 0
  version : Nat := 0
  state : Nat := 0
  epoch : Nat := 0
  release : Nat := 0
  track : Nat := 0
  diverged : Bool := false
  healthy : Bool := false
  held : Bool := false
  digest : List Byte := []
  lost : Bool := false
  ask : Ask := {}
  answered : Bool := false
  seqs : SMap Nat := []
deriving DecidableEq, Repr

/-- A frame of GRP_OWN in progress, as this member drives it (R441, R442): its tick, whether this member is the time master, the partitions
it claims, its id, whether it has accepted two frames, and its tokens. -/
structure OwnFrame where
  at_ : Nat
  master : Bool
  claims : Nat
  me : Nat
  steady : Bool
  ids : List Nat
deriving DecidableEq, Repr

/-- A commit in progress (R450): whether this member proposed, period P, the digest and EPOCH proposed, the members prepared,
a decision, and whether this member answered REFUSE. -/
structure Commit where
  mine : Bool
  p : Nat
  digest : List Byte
  epoch : Nat
  prepared : Nat
  decide_ : Option Bool := none
  refused : Bool := false
deriving DecidableEq, Repr

/-- The group: peers by id, SEQ and the frames of the last message sent by lane * 16 + type, ticks at which EN was set and of the last STATUS sent; GRP_OWN frames accepted since this member joined and not accepted in a row, the frame in progress, the levels of the last on
both lines, software claims, by partition whose owner is lost one more than the whole frames since the loss; handovers due by partition (tick from which the reload counts, gained); partitions driven whose local pins
follow at a tick; the agreed set as words with its EPOCH; a set to apply; a commit; periods in which every digest agreed;
offsets in a row below the limit; mirror progress by owner * 8 + partition; SEQ advances of partitions gained. -/
structure GrpSt where
  /-- A digest that differs from the agreed one has come since the last check (R449). -/
  calmBad : Bool := false
  /-- Mirrored writes whose boundary is still to come (R448). -/
  mir : List MirW := []
  /-- Core writes that the staging of a partition owned here has taken since the last MIRROR frames (R448). -/
  mout : List MirW := []
  peers : SMap Peer := []
  sent : SMap (List GFrame) := []
  txSeq : SMap Nat := []
  onAt : Nat := 0
  statusAt : Nat := 0
  accepted : Nat := 0
  badRow : Nat := 0
  frame : Option OwnFrame := none
  lines : Option (Nat × Nat) := none
  claims : Nat := 0
  lostSeen : SMap Nat := []
  hand : SMap (Nat × Bool) := []
  localAt : SMap Nat := []
  agreed : List Nat := []
  agreedEpoch : Nat := 0
  xfer : Option (List Nat × Nat) := none
  commit : Option Commit := none
  calm : Nat := 0
  small : Nat := 0
  mirror : SMap Nat := []
  retryAt : Nat := 0
deriving DecidableEq, Repr

/-! ### The monitor (R455 to R472) -/

/-- A HALT or STEP whose response waits (R465): TAG, units, the tick of the request, and whether it is a STEP. -/
structure HaltReq where
  tag : Nat
  units : List Nat
  at_ : Nat
  step : Bool
deriving DecidableEq, Repr

/-- An open session (R457 to R460, R464): id, port, source, controller; keys with their salts, client to device and back; the
last SEQ accepted and sent; tick of the last accepted datagram; CSTAT and whether MREG15 was extended for it; TAG and response
of the last completed request; a HALT that waits: tag, mask, tick. -/
structure Session where
  id : Nat
  port : Nat
  addr : Nat
  udp : Nat
  control : Bool
  kIn : List Byte
  kOut : List Byte
  seqIn : Nat := 0
  seqOut : Nat := 0
  last : Nat
  cstat : List Byte
  altered : Bool := false
  tag : Option Nat := none
  resp : List Byte := []
  halt : Option HaltReq := none
deriving DecidableEq, Repr

/-- A handshake in progress (R457): tick of its HELLO, what it carried, the device's ephemeral private key and DNONCE, H1 and
H2. -/
structure Hand where
  id : Nat
  port : Nat
  addr : Nat
  udp : Nat
  at_ : Nat
  want : Bool
  cnonce : List Byte
  ceph : List Byte
  cstat : List Byte
  dnonce : List Byte
  dprv : List Byte
  h2 : List Byte
deriving DecidableEq, Repr

/-- The monitor: sessions, handshakes, the next SESSION value, the datagrams of the last message sent to each source, and the last frame of each
management port; PRP duplicates seen (source address and sequence number), the PRP sequence number, and the tick of the last
supervision frame. -/
structure MonSt where
  sessions : List Session := []
  hands : List Hand := []
  next : Nat := 1
  sent : SMap (List (List Byte)) := []
  frames : SMap (List Byte) := []
  prpSeen : List (List Byte × Nat) := []
  prpSeq : Nat := 0
  prpAt : Nat := 0
  /-- The keeper is halted (R464). -/
  keeper : Bool := false
deriving DecidableEq, Repr

/-- The test access port (R476): instruction register, boundary register, and the outputs it drives. -/
structure TapSt where
  ir : Nat := 0x01
  boundary : Nat := 0
  sample : Nat := 0
  driving : Nat := 0
deriving DecidableEq, Repr

end Sys2Proof.Machine
end

