-- ==== Sys2Proof/Machine/State.lean ====
section
/-! DEFINITION. Machine/State.lean: the state of the block, and what it is right after a power-on reset. -/

namespace Sys2Proof.Machine

/-- The block. -/
structure State where
  /-- Commands that wait, first in, first out. -/
  pending : List Instr := []
  /-- Ticks of 0.5 ns since power-on (R6). -/
  tick : Nat := 0
  /-- Draws free values (Config.freeValue): the model's own field. -/
  free : Nat := 0
  /-- Register fields that differ from their reset value, by (page base + offset) * 64 + lowest bit. -/
  regs : SMap Nat := []
  /-- Values the settings journal gave to L fields, under the same keys (R16). -/
  journal : SMap Nat := []
  mem : Memory := []
  bus : BusSt := {}
  time : TimeSt := {}
  lath : LathSt := {}
  loop : LoopSt := {}
  edge : EdgeSt := {}
  link : LinkSt := {}
  samp : SampSt := {}
  pwr : PwrSt := {}
  /-- Forecast engines by cluster. -/
  fcst : SMap FcstSt := []
  /-- Kiln log recorders by cluster. -/
  klog : SMap Klog := []
  core : CoreSt := {}
  mm : MemSt := {}
  dep : DepSt := {}
  fire : FireSt := {}
  grp : GrpSt := {}
  mon : MonSt := {}
  tap : TapSt := {}
  hw : HwSt := {}
deriving DecidableEq, Repr

/-- Why the block stops. No command of the table stops it: the spec gives every one an effect, a refusal it records, or an
exception it takes. -/
inductive Fault where
  /-- Raised by nothing; safe. -/
  | never
deriving DecidableEq, Repr

/-- Why a command has no meaning. -/
inductive Refusal where
  /-- A command that the model has not reached, by its mnemonic; safe. -/
  | notModelled (mnemonic : String)
deriving DecidableEq, Repr

/-- What a command answers. -/
abbrev Out := Host.Outcome State Fault Refusal

/-- The role table at power-on: ROLE_MAP and ROLE_PHYS hold their defaults, the placement of R22. -/
def resetRoles : SMap Nat :=
  (List.range 32).map (fun n => (64 * (pgDROLE + 0x40 + 4 * n), 10 * (n / 8) + n % 8)) ++
  (List.range 40).flatMap (fun m =>
    [(64 * (pgDROLE + 0xC0 + 4 * m), if m % 10 < 8 then 0 else 1),
     (64 * (pgDROLE + 0xC0 + 4 * m) + 2, if m % 10 < 8 then 8 * (m / 10) + m % 10 else 0)])

/-- The block right after a power-on reset, with RESET_N still low (R16, R54, R401, R403): every register at its reset
value, every domain off, the tick count at 0, no command waiting. -/
def State.reset : State := { regs := resetRoles }

end Sys2Proof.Machine
end

