-- ==== Sys2Proof/Machine/Ops.lean ====
section
/-! DEFINITION. Machine/Ops.lean: the named operations every chapter uses: time and island cycles, register fields, the role
table, power domains, error records, interrupt conditions and arrivals, event productions, kiln log records, and bus
responses. -/

namespace Sys2Proof.Machine

/-- The phase of an island's cycle edges, in parts of its cycle as `islandRate` counts them: 0 where they are aligned, else not
specified (R233). -/
def islandShift (i : Nat) : Nat := if islandAligned i then 0 else Config.islandPhase i

/-- The cycle of an island in which a taking of tick `tick` falls: the last one whose start lies in the tick or before it (R233). -/
def takeCycle (i tick : Nat) : Nat := (tick * (islandRate i).1 + (islandRate i).1 - 1 + islandShift i) / (islandRate i).2

namespace State

/-- The 64-bit tick count of the time-base root: 0 until the time-base PLL first locks (R54, R60, R404). -/
def count (s : State) : Nat := if s.time.runs then (s.tick + s.time.ofs) % 2 ^ 64 else 0

/-- The number of the island cycle in progress (R10). The phase of an island without aligned edges is not specified (R233). -/
def cycle (s : State) (i : Nat) : Nat := (s.tick * (islandRate i).1 + islandShift i) / (islandRate i).2

end State

/-- Key of a field in the register map. -/
def fkey (base : Nat) (f : Fld) : Nat := 64 * (base + f.off) + f.lo

/-- The value a field returns to at a reset of its page (R16): the journal's for an L field, else its reset value. -/
def State.resetOf (s : State) (base : Nat) (f : Fld) : Nat :=
  if f.journal then SMap.getD s.journal (fkey base f) f.reset else f.reset

/-- A register field. -/
def State.getF (s : State) (base : Nat) (f : Fld) : Nat :=
  SMap.getD s.regs (fkey base f) (s.resetOf base f) % 2 ^ f.w

/-- The state with a register field set to the low bits of `v`. -/
def State.setF (s : State) (base : Nat) (f : Fld) (v : Nat) : State :=
  { s with regs := SMap.put s.regs (fkey base f) (v % 2 ^ f.w) }

/-- The present cycle of the island of the page at `base` (R494). -/
def State.pageCycle (s : State) (base : Nat) : Nat :=
  match target id base with
  | .page p _ => s.cycle p.island
  | _ => s.tick

/-- The bits of a W1C field that hardware set in the present cycle (R41). -/
def State.hwBits (s : State) (base : Nat) (f : Fld) : Nat :=
  match SMap.get? s.hw.sets (fkey base f) with
  | some (c, m) => if c = s.pageCycle base then m else 0
  | none => 0

/-- Hardware set the bits `m` of a field in the present cycle (R41). -/
def State.noteSet (s : State) (base : Nat) (f : Fld) (m : Nat) : State :=
  { s with hw.sets :=
      if f.acc == .w1c && m != 0 then SMap.put s.hw.sets (fkey base f) (s.pageCycle base, s.hwBits base f ||| m) else s.hw.sets }

/-- The value of an RC count before the increments of the present cycle, and their sum (R41). -/
def State.hwInc (s : State) (base : Nat) (f : Fld) : Nat × Nat :=
  match SMap.get? s.hw.incs (fkey base f) with
  | some (c, v, n) => if c = s.pageCycle base then (v, n) else (s.getF base f, 0)
  | none => (s.getF base f, 0)

/-- Hardware is about to add `n` to a field in the present cycle (R41). -/
def State.noteInc (s : State) (base : Nat) (f : Fld) (n : Nat) : State :=
  let r := s.hwInc base f
  { s with hw.incs :=
      if f.acc == .rc && n != 0 then SMap.put s.hw.incs (fkey base f) (s.pageCycle base, r.1, r.2 + n) else s.hw.incs }

/-- Key of the part of a field that starts at bit `part`. -/
def partKey (base : Nat) (f : Fld) (part : Nat) : Nat := 64 * (base + f.off + part / 8) + f.lo

/-- The highest requester that wrote a part of a register in the present cycle (R41). -/
def State.softBy (s : State) (base : Nat) (f : Fld) (part : Nat := 0) : Option Nat :=
  match SMap.get? s.hw.soft (partKey base f part) with
  | some (c, r) => if c = s.pageCycle base then some r else none
  | none => none

/-- Whether a write of a requester goes under a higher requester's of the same cycle (R41). -/
def State.softUnder (s : State) (base : Nat) (f : Fld) (part req : Nat) : Bool :=
  match s.softBy base f part with
  | some r => decide (req < r)
  | none => false

/-- A requester writes a part of a register (R41). -/
def State.noteSoft (s : State) (base : Nat) (f : Fld) (part req : Nat) : State :=
  { s with hw.soft := SMap.put s.hw.soft (partKey base f part) (s.pageCycle base, req) }

/-- A one-bit field as a truth value. -/
def State.flag (s : State) (base : Nat) (f : Fld) : Bool := s.getF base f == 1

/-- A one-bit field set or cleared. -/
def State.setFlag (s : State) (base : Nat) (f : Fld) (b : Bool) : State := (s.noteSet base f b.toNat).setF base f b.toNat

/-- A field advanced modulo its width. -/
def State.incF (s : State) (base : Nat) (f : Fld) (n : Nat := 1) : State :=
  (s.noteInc base f n).setF base f (s.getF base f + n)

/-- A counter field advanced, stopping at its largest value. -/
def State.satF (s : State) (base : Nat) (f : Fld) (n : Nat := 1) : State :=
  (s.noteInc base f n).setF base f (satInc f.w (s.getF base f) n)

/-- Bit `i` of a field. -/
def State.fbit (s : State) (base : Nat) (f : Fld) (i : Nat) : Bool := bit (s.getF base f) i

/-- A field with bit `i` set to `b`. -/
def State.setFbit (s : State) (base : Nat) (f : Fld) (i : Nat) (b : Bool) : State :=
  (s.noteSet base f (if b then 2 ^ i else 0)).setF base f (setBit (s.getF base f) i b)

/-- A field raised to at least `v`: a longest wait, a peak. -/
def State.maxF (s : State) (base : Nat) (f : Fld) (v : Nat) : State :=
  if s.getF base f < v then s.setF base f (min v (2 ^ f.w - 1)) else s

/-- Whether a debug halt freezes the page at `base` in hold or in dust sheet (R475). -/
def State.pageHeld (s : State) (base : Nat) : Bool := SMap.getD s.bus.frozen base 0 != 0

/-! ### The common header (R42) -/

def F.HDR_BLK_EN : Fld := ⟨0x00C, 0, 1, .rwl, 1, true⟩
def F.HDR_IRQ_EN : Fld := ⟨0x018, 0, 32, .rw, 0, false⟩
def F.HDR_IRQ_PEND : Fld := ⟨0x01C, 0, 32, .w1c, 0, false⟩
def F.HDR_ERR_VALID : Fld := ⟨0x028, 0, 1, .w1c, 0, false⟩
def F.HDR_ERR_OVF : Fld := ⟨0x028, 1, 1, .w1c, 0, false⟩
def F.HDR_ERR_CAUSE : Fld := ⟨0x028, 2, 6, .ro, 0, false⟩
def F.HDR_ERR_WRITE : Fld := ⟨0x028, 8, 1, .ro, 0, false⟩
def F.HDR_ERR_HIGH : Fld := ⟨0x028, 9, 1, .ro, 0, false⟩
def F.HDR_ERR_SIZE : Fld := ⟨0x028, 10, 2, .ro, 0, false⟩
def F.HDR_ERR_REQ : Fld := ⟨0x028, 12, 12, .ro, 0, false⟩
def F.HDR_ERR_ADDR_HI : Fld := ⟨0x028, 24, 8, .ro, 0, false⟩
def F.HDR_ERR_ADDR : Fld := ⟨0x02C, 0, 32, .ro, 0, false⟩

/-! ### Roles (R20 to R25) -/

/-- The physical tile that holds a logical tile. -/
def State.phys (s : State) (lt : Nat) : Nat := s.getF pgDROLE (F.ROLE_MAP_PHYS lt)

/-- Whether a logical tile is moving (R24). -/
def State.moving (s : State) (lt : Nat) : Bool := s.flag pgDROLE (F.ROLE_MAP_MOVING lt)

/-- The role of a physical tile: 0 active, 1 saggar in step, 2 saggar not in step, 3 out of service. -/
def State.role (s : State) (t : Nat) : Nat := s.getF pgDROLE (F.ROLE_PHYS_ROLE t)

/-- The logical tile a physical tile holds, while it is active. -/
def State.ltOf (s : State) (t : Nat) : Option Nat :=
  if s.role t = 0 then some (s.getF pgDROLE (F.ROLE_PHYS_LOGICAL t)) else none

/-- The refiring in progress in a cluster. -/
def State.refireOf (s : State) (c : Nat) : Option Refire := SMap.get? s.dep.refires c

def State.putRefire (s : State) (c : Nat) (r : Refire) : State := { s with dep.refires := SMap.put s.dep.refires c r }

def State.dropRefire (s : State) (c : Nat) : State := { s with dep.refires := SMap.erase s.dep.refires c }

/-- Whether a tile is the staged tile of a refiring in SHADOW (R368). -/
def State.shadowTile (s : State) (t : Nat) : Bool :=
  match s.refireOf (t / 10) with
  | some r => r.shadow && r.phys == t && r.done.isNone
  | none => false

/-- Token and DRIVE bit of a partition (R440). -/
def F.grpOwner (q : Nat) : Fld := ⟨0x4C, 4 * q, 3, .ro, 0, true⟩
def F.grpDrive (q : Nat) : Fld := ⟨0x4C, 4 * q + 3, 1, .ro, 0, false⟩

/-- The partitions that hold a logical tile (R440). -/
def State.partsOf (s : State) (lt : Nat) : List Nat := (List.range 8).filter fun q => s.fbit pgGRPL (F.GRP_PART_TILES_V q) lt

/-- Whether the outputs of a tile's generators leave the device: it is active, and its partition is driven here (R446). -/
def State.drives (s : State) (t : Nat) : Bool :=
  match s.ltOf t with
  | some lt => !s.flag pgGRPL F.GRP_CTRL_EN || (s.partsOf lt).all fun q => s.flag pgGRPL (F.grpDrive q)
  | none => false

/-- The same for local pins, which follow 100 ticks after a handover (R445). -/
def State.drivesPins (s : State) (t : Nat) : Bool :=
  s.drives t && match s.ltOf t with
  | some lt => (s.partsOf lt).all fun q => !SMap.has s.grp.localAt q
  | none => false

/-! ### Power domains and islands (R388, R392) -/

/-- Whether a domain is on. -/
def State.domOn (s : State) (d : Nat) : Bool := s.fbit pgPWRD (F.PWRD_ON_ON (d / 32)) (d % 32)

/-- The power domain of a page, none for the keel's pages and the time-base root, which are always on (R388). -/
def Page.domain (p : Page) : Option Nat :=
  match p.ty with
  | .keel | .clkg | .pwrd | .rstc | .tbas => none
  | .grpl => some 120
  | .mgmt => some (121 + p.inst)
  | .xspi => some 123
  | .dbg => some 124
  | .otp => some 125
  | .dev | .drole | .keep | .dlath | .dintc | .meas | .dnoc => some 126
  | .clu | .cnoc => some (80 + 10 * p.owner)
  | .clath => some (81 + 10 * p.owner)
  | .csram => some (82 + 10 * p.owner)
  | .fcst | .klog => some (83 + 10 * p.owner)
  | .afe | .adc | .cmpr => some (84 + 10 * p.owner)
  | .hbmc => some (85 + 10 * p.owner)
  | .ring => some (86 + 10 * p.owner + p.inst / 16)
  | .serd => some (86 + 10 * p.owner + p.inst)
  | .pkeep => some (88 + 10 * p.owner)
  | .capt | .trip | .gpio => some (89 + 10 * p.owner)
  | .core => some (2 * p.owner + p.inst)
  | _ => some (2 * p.owner)

/-- Whether a page's domain is on (R389). -/
def State.pageOn (s : State) (p : Page) : Bool :=
  match p.domain with
  | none => true
  | some d => s.domOn d

/-- PAGE_STAT.READY: the page's block has left reset (R42, R389). -/
def State.pageReady (s : State) (p : Page) : Bool :=
  match p.domain with
  | none => true
  | some d => s.domOn d && s.pwr.ready.contains d

/-- The domain that holds an island, none for those of the keel, the time-base root, the references and the boundary scan, which are always
on (R388, R392). -/
def islandDomain (i : Nat) : Option Nat :=
  if i < 80 then some (i / 2 * 2)
  else if i < 112 then
    let c := (i - 80) / 8
    (match (i - 80) % 8 with
     | 0 => some (80 + 10 * c) | 1 => some (82 + 10 * c) | 2 => some (83 + 10 * c) | 3 => some (84 + 10 * c)
     | 4 => some (85 + 10 * c) | 5 => some (86 + 10 * c) | 6 => some (87 + 10 * c) | _ => some (81 + 10 * c))
  else match i with
    | 114 | 115 | 116 | 117 => some 126
    | 118 => some 124
    | 119 => some 121
    | 120 => some 122
    | 121 => some 120
    | 122 | 123 => some 123
    | 124 => some 125
    | _ => none

/-- Whether an island's domain is on: in one that is off it has no clock, and it counts as neither asleep nor stopped (R392). -/
def State.islandOn (s : State) (i : Nat) : Bool :=
  match islandDomain i with
  | some d => s.domOn d
  | none => true

/-- Whether an island of a domain that is on has no clock because it sleeps or is stopped (R392, R398, R399). -/
def State.isleStopped (s : State) (i : Nat) : Bool := s.islandOn i && (s.pwr.asleep.contains i || s.pwr.stopped.contains i)

/-- A wake of an island is requested (R243, R399). -/
def State.requestWake (s : State) (i : Nat) : State :=
  if s.isleStopped i && !s.pwr.wakeReq.contains i then { s with pwr.wakeReq := i :: s.pwr.wakeReq } else s

/-- Whether the mirror gate of a tile is shut (R356): it closes at the end of tick D, and nothing that the tile does after is visible. -/
def State.gateShut (s : State) (t : Nat) : Bool :=
  match SMap.get? s.edge.gates t with
  | some g => decide (g.d < s.tick)
  | none => false

/-! ### Interrupt arrivals (R240 to R243) -/

/-- The count of a local source of a tile, its SAT and EN bits, its level and its pair. -/
def F.intcCount (l : Nat) : Fld := ⟨0x400 + 4 * (l / 4), 8 * (l % 4), 8, .ro, 0, false⟩
def F.intcLevel (l : Nat) : Fld := ⟨0x200 + 4 * (l / 8), 4 * (l % 8), 4, .rw, 15, true⟩

/-- The same for a device source less 20,480. -/
def F.dintcCount (k : Nat) : Fld := ⟨0x400 + 4 * (k / 4), 8 * (k % 4), 8, .ro, 0, false⟩

/-- Whether a group is in hold-off; keys tile * 8 + group, and 320 + group for DINTC (R246). -/
def State.holding (s : State) (key : Nat) : Bool :=
  match SMap.get? s.lath.int.holdEnd key with
  | some e => decide (s.tick < e)
  | none => false

/-- The route of a device group: logical tile, pair, enable (R249). -/
def F.dintcRouteLT (g : Nat) : Fld := ⟨0x60 + 4 * (g / 4), 8 * (g % 4), 5, .rw, 0, true⟩
def F.dintcRoutePAIR (g : Nat) : Fld := ⟨0x60 + 4 * (g / 4), 8 * (g % 4) + 5, 1, .rw, 0, true⟩
def F.dintcRouteEN (g : Nat) : Fld := ⟨0x60 + 4 * (g / 4), 8 * (g % 4) + 6, 1, .rw, 0, true⟩

/-- The lowest device source of a group that is enabled and counted (R250). -/
def State.dintcLowest (s : State) (g : Nat) : Option Nat :=
  ((List.range 64).map (64 * g + ·)).find? fun k =>
    s.fbit pgDINTC (F.DINTC_EN_EN (k / 32)) (k % 32) && s.getF pgDINTC (F.dintcCount k) != 0

/-- Whether the cascade of device group `g` is pending at physical tile `t` (R249). -/
def State.cascade (s : State) (t g : Nat) : Bool :=
  s.flag pgDINTC (F.dintcRouteEN g) && s.ltOf t == some (s.getF pgDINTC (F.dintcRouteLT g)) &&
    !s.holding (320 + g) && (s.dintcLowest g).isSome

/-- A cascade that has become pending since `was` requests a wake of its tile's core island (R243). -/
def State.cascadeWake (s was : State) : State :=
  (List.range 16).foldl (fun s g =>
    let t := s.phys (s.getF pgDINTC (F.dintcRouteLT g))
    if s.cascade t g && !was.cascade t g then s.requestWake (2 * t) else s) s

/-- The arrivals of a tile's source in the present cycle (R245). -/
def State.freshOf (s : State) (t l : Nat) : Fresh :=
  let none_ : Fresh :=
    ⟨s.pageCycle (pgINTC t), s.getF (pgINTC t) (F.intcCount l), s.fbit (pgINTC t) (F.INTC_SAT_SAT (l / 32)) (l % 32), 0, 0⟩
  match SMap.get? s.lath.int.fresh (512 * t + l) with
  | some f => if f.cyc = s.pageCycle (pgINTC t) then f else none_
  | none => none_

/-- The count of a tile's source before the arrivals of the present cycle, which no acceptance of that cycle takes (R245). -/
def State.settledCount (s : State) (t l : Nat) : Nat := (s.freshOf t l).cnt

/-- `n` arrivals of a tile's source come in the present cycle (R245). -/
def State.noteFresh (s : State) (t l n : Nat) : State :=
  let f := s.freshOf t l
  let lost := f.lost + (s.getF (pgINTC t) (F.intcCount l) + n - 255)
  { s with lath.int.fresh := SMap.put s.lath.int.fresh (512 * t + l) ⟨f.cyc, f.cnt, f.sat, f.n + n, lost⟩ }

/-- `n` arrivals added to a count; the second part is 1 where that sets the source's SAT bit, which was 0 (R242). -/
def State.countArrivals (s : State) (base : Nat) (arriv satlost cnt satw : Fld) (b n : Nat) : State × Nat :=
  let c := s.getF base cnt
  let lost := c + n - 255
  let s := (s.incF base arriv n).setF base cnt (min 255 (c + n))
  if lost = 0 then (s, 0)
  else ((s.setFbit base satw b true).incF base satlost lost, if s.fbit base satw b then 0 else 1)

/-- The slot numbers of cluster pages in the order of the source table of R240. -/
def cluSummary (slot : Nat) : Nat :=
  if slot ≤ 0x002 then slot
  else if slot ≤ 0x01F then slot - 0x010 + 3
  else if slot = 0x020 then 19 else if slot = 0x040 then 20
  else if slot ≤ 0x050 then slot - 0x041 + 21
  else if slot ≤ 0x05B then slot - 0x058 + 37
  else if slot ≤ 0x062 then slot - 0x060 + 41
  else if slot ≤ 0x083 then slot - 0x080 + 44
  else if slot ≤ 0x11F then slot - 0x100 + 48
  else if slot ≤ 0x121 then slot - 0x120 + 80
  else if slot ≤ 0x143 then slot - 0x140 + 82
  else slot - 0x180 + 86

/-- The summary source of the page at a base address (R240). -/
def summarySrc (base : Nat) : Nat :=
  if base < 0x01000000 then 20992 + base / 0x1000
  else if base < 0x05000000 then
    20480 + 128 * ((base - 0x01000000) / 0x01000000) + cluSummary (base % 0x01000000 / 0x1000)
  else 512 * ((base - 0x08000000) / 0x00100000) + base % 0x00100000 / 0x1000

/-- An arrival at the INTC of a tile: counted, or put in the wake buffer while the core island is stopped (R242, R243). The
second part is 1 where a SAT bit was set. -/
def State.enterIntc (s : State) (t l n : Nat) : State × Nat :=
  let base := pgINTC t
  if s.isleStopped (2 * t) then
    let buf := SMap.getD s.lath.int.wakeBuf t []
    let room := 16 - buf.length
    let s := { s with
      lath.int.wakeBuf := SMap.put s.lath.int.wakeBuf t (buf ++ List.replicate (min n room) l)
      lath.int.wakeWait := if n ≤ room then s.lath.int.wakeWait
        else SMap.upd s.lath.int.wakeWait t [] (· ++ List.replicate (n - room) l) }
    let s := s.setF base F.INTC_WAKE_LEVEL (min 16 (buf.length + n))
    let s := if n ≤ room then s else s.satF base F.INTC_WAKE_WAITS (n - room)
    (if s.fbit base (F.INTC_EN_EN (l / 32)) (l % 32) then s.requestWake (2 * t) else s, 0)
  else
    (s.noteFresh t l n).countArrivals base F.INTC_ARRIV_ARRIV F.INTC_SATLOST_SATLOST (F.intcCount l) (F.INTC_SAT_SAT (l / 32)) (l % 32) n

/-- `n` arrivals at the controller that holds a source, held while a logical tile moves (R251): the state, the page of the
controller, and 1 where a SAT bit was set. A cascade is a level and counts no arrivals (R248, R249). -/
def State.arriveOnce (s : State) (src n : Nat) : State × Nat × Nat :=
  if src < 20480 then
    let t := src / 512
    let l := src % 512
    if 448 ≤ l ∧ l < 464 then (s, 0, 0)
    else match s.ltOf t with
    | some lt =>
      if s.moving lt then
        ({ s with lath.int.moveHeld := SMap.upd s.lath.int.moveHeld lt [] (· ++ List.replicate n l) }, 0, 0)
      else let r := s.enterIntc t l n; (r.1, pgINTC t, r.2)
    | none => let r := s.enterIntc t l n; (r.1, pgINTC t, r.2)
  else
    let k := src - 20480
    let r := s.countArrivals pgDINTC F.DINTC_ARRIV_ARRIV F.DINTC_SATLOST_SATLOST (F.dintcCount k)
      (F.DINTC_SAT_SAT (k / 32)) (k % 32) n
    (r.1.cascadeWake s, pgDINTC, r.2)

/-- `n` arrivals for a source (R241 to R243, R251). A SAT bit newly set pulses IRQ_RAW bit 0 of the controller's page, whose
summary is an arrival at that controller in turn: its source's SAT bit may be set newly too, and the arrival after that finds it
set, so `fuel` 3 follows the chain to its end. -/
def State.arriveF : Nat → State → Nat → Nat → State
  | 0, s, _, _ => s
  | fuel + 1, s, src, n =>
    if n = 0 then s
    else
      let r := s.arriveOnce src n
      let base := r.2.1
      if r.2.2 = 0 then r.1
      else
        let s := { r.1 with bus.pulses := SMap.put r.1.bus.pulses (32 * base) r.1.tick }
        if s.fbit base F.HDR_IRQ_EN 0 then
          State.arriveF fuel (s.setFbit base F.HDR_IRQ_PEND 0 true) (summarySrc base) 1
        else s

/-- `n` arrivals for a source. -/
def State.arrive (s : State) (src : Nat) (n : Nat := 1) : State := State.arriveF 3 s src n

/-! ### Interrupt conditions and error records (R44, R51, R52) -/

/-- `n` occurrences of IRQ_RAW bit `b` of the page at `base` (R44). -/
def State.occur (s : State) (base b : Nat) (n : Nat := 1) : State :=
  if n = 0 then s
  else if s.fbit base F.HDR_IRQ_EN b then (s.setFbit base F.HDR_IRQ_PEND b true).arrive (summarySrc base) n
  else s

/-- A pulse of IRQ_RAW bit `b` (R44). -/
def State.pulse (s : State) (base b : Nat) (n : Nat := 1) : State :=
  if n = 0 then s
  else ({ s with bus.pulses := SMap.put s.bus.pulses (32 * base + b) s.tick }).occur base b n

/-- Whether an IRQ_RAW bit that an event raises reads 1 in this cycle or in the one before. -/
def State.irqUp (s : State) (base b : Nat) : Bool :=
  match SMap.get? s.bus.pulses (32 * base + b) with
  | some t => decide (s.pageCycle base ≤ { s with tick := t }.pageCycle base + 1)
  | none => false

/-- An event raises IRQ_RAW bit `b`, a level bit: it reads 1 in the cycle of the event, and occurs where it read 0 before (R44; that
the level lasts for the event's cycle is the model's choice, DESIGN CHOICE, log 66). -/
def State.raiseIrq (s : State) (base b : Nat) : State :=
  ({ s with bus.pulses := SMap.put s.bus.pulses (32 * base + b) s.tick }).occur base b (!s.irqUp base b).toNat

/-- The SIZE code of an error record. -/
def sizeCode (n : Nat) : Nat := if n = 4 then 0 else if n = 8 then 1 else 2

/-- The errors of a page in the present cycle of its island. -/
def State.errNow (s : State) (base : Nat) : Option ErrSt :=
  match SMap.get? s.bus.errs base with
  | some e => if e.cycle = s.pageCycle base then some e else none
  | none => none

/-- The words of an error record filled (R51). -/
def State.fillErr (s : State) (base cause : Nat) (a : Access) : State :=
  ((((((s.setF base F.HDR_ERR_CAUSE cause).setFlag base F.HDR_ERR_WRITE a.write).setFlag base F.HDR_ERR_HIGH
    (a.addr / 2 ^ 40 != 0)).setF base F.HDR_ERR_SIZE (sizeCode a.size)).setF base F.HDR_ERR_REQ a.req).setF base
    F.HDR_ERR_ADDR_HI (a.addr / 2 ^ 32)).setF base F.HDR_ERR_ADDR a.addr

/-- The errors of the present cycle with a further one: that of the lowest requester id stands (R52). -/
def State.errWith (s : State) (base cause : Nat) (a : Access) : ErrSt :=
  match s.errNow base with
  | some e => if a.req < e.acc.req then { e with cause := cause, acc := a } else e
  | none => ⟨s.pageCycle base, cause, a, !s.flag base F.HDR_ERR_VALID⟩

/-- An error recorded in the page at `base` (R51, R52): the first is kept, and of those of one cycle that of the lowest
requester id; a further one sets OVF. IRQ_RAW bit 31 copies VALID. -/
def State.recordErr (s : State) (base cause : Nat) (a : Access) : State :=
  let e := s.errWith base cause a
  let t := { s with bus.errs := SMap.put s.bus.errs base e }
  if s.flag base F.HDR_ERR_VALID then
    let u := t.setFlag base F.HDR_ERR_OVF true
    if e.fills then u.fillErr base e.cause e.acc else u
  else
    (((t.setFlag base F.HDR_ERR_VALID true).setFlag base F.HDR_ERR_OVF false).fillErr base cause a).occur base 31

/-- A W1C of VALID: the record is empty, or holds the error of the present cycle (R52). -/
def State.clearErr (s : State) (base : Nat) : State :=
  match s.errNow base with
  | some e => ({ s with bus.errs := SMap.put s.bus.errs base { e with fills := true } }.setFlag base F.HDR_ERR_OVF false).fillErr
      base e.cause e.acc
  | none => (s.setFlag base F.HDR_ERR_VALID false).setFlag base F.HDR_ERR_OVF false

/-- The cause codes of R51. -/
def causeUNMAPPED : Nat := 0x01
def causeNO_PAGE : Nat := 0x02
def causeHOLE : Nat := 0x03
def causeSIZE : Nat := 0x04
def causeQUIET_WRITE : Nat := 0x05
def causeLOCKED : Nat := 0x06
def causeKEY_SEQ : Nat := 0x07
def causeROLE : Nat := 0x08
def causeMOVED : Nat := 0x09
def causeBINDING : Nat := 0x0A
def causePRIV : Nat := 0x0B
def causeBAD_VALUE : Nat := 0x0C
def causeLATCH_MISMATCH : Nat := 0x0D

/-- The place of a cause in the order of R498. -/
def causeRank (c : Nat) : Nat :=
  if c = causeHOLE then 1 else if c = causeLOCKED then 2 else if c = causeKEY_SEQ then 3
  else if c = causeBAD_VALUE then 4 else if c = causeBINDING then 5 else if c = causeLATCH_MISMATCH then 6 else 7

/-- The cause that an access records of two it breaks (0: none) (R498). -/
def firstCause (c d : Nat) : Nat :=
  if c = 0 then d else if d = 0 then c else if causeRank d < causeRank c then d else c

/-- The response of an access to its requester. -/
def State.respond (s : State) (req : Nat) (err : Bool) (data : Nat) : State :=
  { s with bus.resp := SMap.put s.bus.resp req ⟨err, data⟩ }

/-! ### Event productions (R224, R233) -/

/-- The number of a lath. -/
def lathTile (t : Nat) : Nat := t
def lathClu (c : Nat) : Nat := 64 + c
def lathDev : Nat := 72

/-- The page of a lath, instance `k`. -/
def lathPage (l k : Nat) : Nat := if l < 64 then pgTLATH l k else if l < 72 then pgCLATH (l - 64) k else pgDLATH k

/-- The level and the instance of a lath as an event's origin has them (R234). -/
def lathLevel (l : Nat) : Nat := if l < 64 then 2 else if l < 72 then 1 else 0
def lathInst (l : Nat) : Nat := if l < 64 then l else if l < 72 then l - 64 else 0

/-- Ticks in a cycle of the lath's island (R226). -/
def lathPeriod (l : Nat) : Nat := if l < 64 then 1 else 2

/-- The island of a lath (R226). -/
def lathIsle (l : Nat) : Nat := if l < 64 then 2 * l + 1 else if l < 72 then 87 + 8 * (l - 64) else 117

/-- The tick in which a stage that enters island `isle` may be taken, the tick that holds the start of its first cycle at or after
`fin`, the end of the source cycle, or of the next one where the source island is not aligned (R233). -/
def stageTick (aligned : Bool) (isle fin : Nat) : Nat :=
  let r := islandRate isle
  let c := (fin * r.1 + islandShift isle + r.2 - 1) / r.2 + (if aligned then 0 else 1)
  (c * r.2 - islandShift isle) / r.1

/-- The end of the cycle in progress of an aligned island of period `per`. -/
def State.cycleEnd (s : State) (per : Nat) : Nat := s.tick / per * per + per

/-- The lath with number `l`. -/
def State.lathOf (s : State) (l : Nat) : Lath := SMap.getD s.lath.laths l {}

/-- A lath replaced by its image. -/
def State.updLath (s : State) (l : Nat) (f : Lath → Lath) : State :=
  { s with lath.laths := SMap.upd s.lath.laths l {} f }

/-- The forecast cycle of a tick: three cycles in five ticks (08_forecast.md, line 5). -/
def fcstCycle (tick : Nat) : Nat := 3 * tick / 5

/-- The place of a record among those of its forecast cycle: by TYPE, then by SRC (R219). -/
def klogInsert (r : KRec) : List KRec → List KRec
  | [] => [r]
  | q :: qs => if r.ty < q.ty ∨ (r.ty = q.ty ∧ r.src < q.src) then r :: q :: qs else q :: klogInsert r qs

/-- A record enters the buffer behind every earlier cycle's, with the production numbers of its own cycle in order (R219). -/
def klogPlace (r : KRec) (buf : List KRec) : List KRec :=
  let now := buf.filter fun q => q.cyc == r.cyc
  let base := match now with
    | q :: _ => q.seq
    | [] => r.seq
  (buf.filter fun q => q.cyc != r.cyc) ++ (klogInsert r now).zipIdx.map fun e => { e.1 with seq := (base + e.2) % 2 ^ 32 }

/-- A kiln log record is produced in cluster `c` while its type is enabled (R218 to R221). Where the buffer is full, the last record
of the cycle in the order of R219 is dropped; the first drop of a forecast cycle raises IRQ_RAW bit 0 (R223). -/
def State.klogRecord (s : State) (c ty flags src tick : Nat) (payload : List Nat) : State :=
  let base := pgKLOG c
  let k := SMap.getD s.klog c {}
  let st := s.getF base F.KLOG_STAT_STATE
  if !(st == 1 || (st == 2 && k.post != 0)) || k.ended || !s.fbit base F.KLOG_CTRL_TYPES (ty - 1) then s
  else
    let cyc := fcstCycle s.tick
    let buf := klogPlace ⟨ty, flags, src, s.getF base F.KLOG_PROD_PROD % 2 ^ 32, tick, payload, cyc⟩ k.buf
    let s := (s.incF base F.KLOG_PROD_PROD).setF base F.KLOG_STAT_LEVEL (min 2048 buf.length)
    let full := decide (2048 < buf.length)
    let first := full && k.dropCyc != some cyc
    let s := { s with klog := SMap.put s.klog c { k with
      buf := buf.take 2048
      post := if st == 2 then k.post - 1 else k.post
      dropCyc := if full then some cyc else k.dropCyc } }
    let s := if full then s.incF base F.KLOG_DROP_DROP else s
    if first then s.pulse base 0 else s

/-- The kiln log's EVENT records of a production in the lath of cluster `c` (R218, TYPE 0x07). -/
def State.klogEvents (s : State) (c prod : Nat) : State :=
  (List.range 8).foldl (fun s k =>
    if s.flag (pgKLOG c) (F.KLOG_EVSEL_EN k) && s.getF (pgKLOG c) (F.KLOG_EVSEL_PRODUCER k) == prod then
      s.klogRecord c 7 0 prod s.count [k, 0, 0, 0]
    else s) s

/-- Producer `prod` of lath `l` fires (R224): once in a tick; the token waits for the lath. `aligned` tells the kind of the
producer's island and `fin` the end of its cycle (R233); `mark` an event that crossed the group link (R235). A tile whose mirror
gate is shut changes no count (R356). -/
def State.produceTok (s : State) (l prod : Nat) (tok : Tok) (first : Bool) : State :=
  let L := s.lathOf l
  if (first && SMap.get? L.lastFire prod == some s.tick) || (decide (l < 64) && s.gateShut l) then s
  else
    let s := s.updLath l fun L =>
      { L with prod := SMap.upd L.prod prod 0 (· + 1), lastFire := SMap.put L.lastFire prod s.tick,
               waiting := L.waiting ++ [(prod, tok)] }
    let s := s.setFbit (lathPage l 0) (F.LATH_PFLAG_FIRED (prod / 32)) (prod % 32) true
    if 64 ≤ l && l < 72 then s.klogEvents (l - 64) prod else s

def State.produce (s : State) (l prod : Nat) (aligned : Bool := true) (srcPer : Nat := 1) (mark : Bool := false) : State :=
  s.produceTok l prod ⟨lathLevel l, lathInst l, prod, 0, mark, stageTick aligned (lathIsle l) (s.cycleEnd srcPer)⟩ true

/-! ### Free values -/

/-- A free value of `w` bits: the spec states none there. -/
def State.draw (s : State) (w : Nat) : Nat × State :=
  (Config.freeValue w s.free % 2 ^ w, { s with free := s.free + 1 })

/-! ### Memory at a physical address (R11, R36) -/

/-- Whether any word of [a, a + n) is uncorrectable. -/
def State.ueIn (s : State) (a n : Nat) : Bool := s.mm.ue.any fun w => decide (w < a + n) && decide (a < w + 8)

/-- `n` bytes of memory as a little-endian number. -/
def State.memRead (s : State) (a n : Nat) : Nat := Memory.readLE s.mem a n

/-- The state with `n` bytes of memory written. -/
def State.memWrite (s : State) (a n x : Nat) : State := { s with mem := Memory.writeLE s.mem a n x }

/-- The state with a list of bytes written to memory. -/
def State.memBytes (s : State) (a : Nat) (bs : List Byte) : State := { s with mem := Memory.writeN s.mem a bs }

end Sys2Proof.Machine
end

