-- ==== Sys2Proof/Machine/BankOps.lean ====
section
/-! DEFINITION. Machine/BankOps.lean: tile SRAM, cluster SRAM and HBM as their requesters meet them: the page and the bank of an
address, uncorrectable words, spares, retired rows, and a frozen arbiter (R313 to R318, R321, R416). -/

namespace Sys2Proof.Machine

/-- Whether an address lies in tile SRAM, cluster SRAM or HBM. -/
def isMemory (a : Nat) : Bool :=
  (decide (0x10000000 ≤ a) && decide (a < 0x15000000)) || (decide (0x18000000 ≤ a) && decide (a < 0x1A000000)) ||
    (decide (0x1000000000 ≤ a) && decide (a < 0x3400000000))

/-- Whether a physical address lies in the keeper's image store, the top 256 MiB of each stack (R416). -/
def imageStore (a : Nat) : Bool :=
  decide (0x1000000000 ≤ a) && decide (a < 0x3400000000) && decide (0x900000000 - 0x10000000 ≤ (a - 0x1000000000) % 0x900000000)

/-- The page that counts the errors of the memory at an address and holds the settings of its arbiters. -/
def eccPage (a : Nat) : Nat :=
  if a < 0x15000000 then pgTSRAM ((a - 0x10000000) / 0x200000)
  else if a < 0x1A000000 then pgCSRAM ((a - 0x18000000) / 0x800000)
  else pgHBMC ((a - 0x1000000000) / 0x900000000) 0

/-- The bank of an offset in a tile SRAM (kind 0), a cluster SRAM (1), or its pseudo-channel in an HBM stack (R313). -/
def bankOf (kind ofs : Nat) : Nat := if kind = 0 then bits ofs 3 4 else if kind = 1 then bits ofs 3 5 else bits ofs 8 5

/-- The stack and the pseudo-channel of an HBM address. -/
def hbmStack (a : Nat) : Nat := (a - 0x1000000000) / 0x900000000
def hbmPc (a : Nat) : Nat := bankOf 2 ((a - 0x1000000000) % 0x900000000)

/-- The power domain of a memory is on: an access to memory that is off is a bus error (R389). -/
def State.memOn (s : State) (a : Nat) : Bool :=
  if a < 0x15000000 then s.domOn (2 * ((a - 0x10000000) / 0x200000))
  else if a < 0x1A000000 then s.domOn (82 + 10 * ((a - 0x18000000) / 0x800000))
  else s.domOn (85 + 10 * hbmStack a)

/-- Whether the arbiters of the memory at an address are frozen: requests wait (R321). -/
def State.memFrozen (s : State) (a : Nat) : Bool := isMemory a && s.flag (eccPage a) F.TSRAM_ARB_FRZ_FREEZE

/-! ### Spares and retired rows (R317, R318) -/

/-- What serves an HBM address: its pseudo-channel, or 32, the spare, once it holds the copy (R317). -/
def State.servedPc (s : State) (a : Nat) : Nat :=
  let b := pgHBMC (hbmStack a) 0
  if s.flag b F.HBM_SPARE_VALID && s.getF b F.HBM_SPARE_PC == hbmPc a then 32 else hbmPc a

/-- The DRAM bank and the DRAM row that serve an HBM address, by what serves it and the stack. -/
def State.hbmBankKey (s : State) (a : Nat) : Nat := (64 * Config.hbmBank a + s.servedPc a) * 4 + hbmStack a
def State.hbmRowKey (s : State) (a : Nat) : Nat := (64 * Config.hbmRow a + s.servedPc a) * 4 + hbmStack a

/-- The DRAM row at `a` is retired into a spare row of its bank, or the lack of one is counted (R318). -/
def State.retireRow (s : State) (a : Nat) : State :=
  let c := hbmStack a
  if s.mm.retired.contains (s.hbmRowKey a) then s
  else if SMap.getD s.mm.bankUsed (s.hbmBankKey a) 0 < 4 then
    (({ s with mm.bankUsed := SMap.upd s.mm.bankUsed (s.hbmBankKey a) 0 (· + 1), mm.retired := s.hbmRowKey a :: s.mm.retired }).satF
      (pgHBMC c 0) F.HBM_RETIRE_RETIRED).satF (pgHBMC c 1) (F.HBM_PC_RETIRED (s.servedPc a))
  else s.satF (pgHBMC c 0) F.HBM_RETIRE_RET_FAIL

/-- A row is retired while the device runs, and the keeper has it to record in the settings journal (R318). -/
def State.retireDue (s : State) (a : Nat) : State :=
  let n := s.mm.retired.length
  let s := s.retireRow a
  if s.mm.retired.length = n then s else { s with mm.rowsDue := s.mm.rowsDue ++ [a / 8 * 8] }

/-! ### Uncorrectable words (R314) -/

/-- UE_ADDR of a memory's page names the word at `a`. -/
def State.ueAddr (s : State) (a : Nat) : State :=
  let b := eccPage a
  if a < 0x15000000 then
    (s.setF b F.TSRAM_UE_ADDR_WORD ((a - 0x10000000) % 0x200000 / 8)).setFlag b F.TSRAM_UE_ADDR_VALID true
  else if a < 0x1A000000 then
    (s.setF b F.CSRAM_UE_ADDR_WORD ((a - 0x18000000) % 0x800000 / 8)).setFlag b F.CSRAM_UE_ADDR_VALID true
  else (s.setF b F.HBM_UE_ADDR_LINE ((a - 0x1000000000) % 0x900000000 / 64)).setFlag b F.HBM_UE_ADDR_VALID true

/-- An uncorrectable read of the word at `a` is counted, with its address; an HBM row that returns it is retired (R314, R318). -/
def State.countUE (s : State) (a : Nat) : State :=
  let s := (s.satF (eccPage a) F.TSRAM_ECC_UNCORR).ueAddr a
  if a < 0x1A000000 then s else (s.satF (pgHBMC (hbmStack a) 1) (F.HBM_PC_UE (s.servedPc a))).retireDue a

/-- A partial write of an uncorrectable word is counted, with its address (R314). -/
def State.countPW (s : State) (a : Nat) : State := (s.satF (eccPage a) F.TSRAM_ECC_PWLOST).ueAddr a

/-- The lowest uncorrectable word of [a, a + n): where the read of that range ends. -/
def State.ueWord (s : State) (a n : Nat) : Nat :=
  (s.mm.ue.filter fun w => decide (w < a + n) && decide (a < w + 8)).foldl min (a + n)

/-- An uncorrectable read of [a, a + n) is counted at its word. -/
def State.countIn (s : State) (a n : Nat) : State := s.countUE (s.ueWord a n)

/-- A read of memory: the value, whether it is uncorrectable, and the state (R314). -/
def State.readMem (s : State) (a n : Nat) : Nat × Bool × State :=
  if s.ueIn a n then (0, true, s.countIn a n) else (s.memRead a n, false, s)

/-- The uncorrectable words of which a write of [a, a + n) covers a part. -/
def State.ueParts (s : State) (a n : Nat) : List Nat :=
  s.mm.ue.filter fun w => decide (w < a + n) && decide (a < w + 8) && !(decide (a ≤ w) && decide (w + 8 ≤ a + n))

/-- Bytes written to memory: a whole protected word clears its error; part of an uncorrectable one is lost (R314). -/
def State.writeMem (s : State) (a : Nat) (bs : List Byte) : State :=
  let n := bs.length
  let part := s.ueParts a n
  let s := { s with mm.ue := s.mm.ue.filter fun w => !(decide (w < a + n) && decide (a < w + 8)) || part.contains w }
  if part.isEmpty then s.memBytes a bs
  else
    let t := bs.zipIdx.foldl (fun s b =>
      if part.any fun w => decide (w ≤ a + b.2) && decide (a + b.2 < w + 8) then s else s.memWrite (a + b.2) 1 b.1.toNat) s
    part.foldl (fun s w => s.countPW w) t

/-- A burst written to memory, whole or not at all (R314, R334): whether it was. -/
def State.writeWhole (s : State) (a : Nat) (bs : List Byte) : State × Bool :=
  let part := s.ueParts a bs.length
  if part.isEmpty then (s.writeMem a bs, true) else (part.foldl (fun s w => s.countPW w) s, false)

end Sys2Proof.Machine
end

