-- ==== Sys2Proof/Machine/LineOps.lean ====
section
/-! DEFINITION. Machine/LineOps.lean: the line code of the cell links: check sums, headers, blocks, the
scrambler, the frame as its blocks, and the receiver that takes a line block by block (R171 to R176). -/

namespace Sys2Proof.Machine

/-! ### Check sums and headers (R174, R175) -/

/-- One byte taken into a reflected check sum with polynomial `poly`. -/
def crcBits (poly : Nat) : Nat → Nat → Nat
  | 0, c => c
  | n + 1, c => crcBits poly n (if c % 2 = 1 then (c / 2) ^^^ poly else c / 2)

def crc8 (bs : List Nat) : Nat := bs.foldl (fun c b => crcBits 0xe0 8 (c ^^^ b)) 0xff

def crc32 (bs : List Nat) : Nat := bs.foldl (fun c b => crcBits 0xedb88320 8 (c ^^^ b)) 0xffffffff ^^^ 0xffffffff

/-- The low `n` bytes of a number, lowest first, as numbers. -/
def natBytes (x : Nat) : Nat → List Nat
  | 0 => []
  | n + 1 => x % 256 :: natBytes (x / 256) n

/-- Header bits [47:0] of a frame that travels in direction `d` (R174). -/
def Frame.head (f : Frame) (d : Nat) : Nat :=
  f.ty + 2 ^ 4 * d + 2 ^ 5 * f.bcast.toNat + 2 ^ 6 * f.pos + 2 ^ 11 * f.leg + 2 ^ 16 * f.seq + 2 ^ 32 * f.blocks.length +
    2 ^ 40 * f.flags

/-- The 56 bits of SOF bytes 1 to 7, with HCRC. -/
def Frame.sof (f : Frame) (d : Nat) : Nat := f.head d + 2 ^ 48 * crc8 (natBytes (f.head d) 6)

/-- The CRC-32 of a frame from its SOF bytes 1 to 7 and its data blocks. -/
def frameCrc (sof : Nat) (blocks : List Nat) : Nat := crc32 (natBytes sof 7 ++ blocks.flatMap fun b => natBytes b 8)

/-- The frame that a header and data blocks give. -/
def Frame.ofHead (h : Nat) (blocks : List Nat) : Frame :=
  ⟨bits h 0 4, bit h 5, bits h 6 5, bits h 11 2, bits h 16 16, bits h 40 8, blocks⟩

/-! ### Blocks (R171, R172) -/

/-- A block: its sync header (bit 0 is the first bit) and its payload bits (R171). Before the scrambler and behind the descrambler the
payload has 64 bits. On the line it stands with the 58 payload bits that went before it on the same line, the earliest in bit 0, and
its own 64 bits above them. -/
abbrev LineBlock := Nat × Nat

/-- The descrambler of x^58 + x^39 + 1: a received block's payload, each line bit less the ones 39 and 58 before it (R171). -/
def plainBlock (b : LineBlock) : LineBlock := (b.1, ((b.2 / 2 ^ 58) ^^^ (b.2 / 2 ^ 19) ^^^ b.2) % 2 ^ 64)

/-- The first `n` payload bits of `x` behind the 58 line bits `prev`: the scrambler adds to each the line bits 39 and 58 before it. -/
def scramble (prev x : Nat) : Nat → Nat
  | 0 => prev
  | n + 1 =>
    let z := scramble prev x n
    z + 2 ^ (58 + n) * ((bit x n != bit z (19 + n)) != bit z n).toNat

/-- A block as the scrambler sends it behind the 58 line bits `prev`. -/
def onLine (prev : Nat) (b : LineBlock) : LineBlock := (b.1, scramble prev b.2 64)

/-- Blocks sent one after the other behind `prev`. -/
def onLines : Nat → List LineBlock → List LineBlock
  | _, [] => []
  | prev, b :: bs => let z := onLine prev b; z :: onLines (z.2 / 2 ^ 64) bs

/-- A line of inverted polarity (SERD_LCTRL). -/
def inverted (b : LineBlock) : LineBlock := (b.1 ^^^ 3, b.2 ^^^ (2 ^ 122 - 1))

/-- The blocks of a frame in the order of the line, and what follows it. -/
def lineOf (sof : LineBlock) (blocks : List LineBlock) (eof : LineBlock) (more : List LineBlock := []) : List LineBlock :=
  sof :: (blocks ++ eof :: more)

/-- What a block says (R172); `err` is a block error: an invalid sync header, an unknown type, non-zero padding, or a STATUS block
that fails its CRC-8. -/
inductive Blk where
  | idle
  | sof (head : Nat)
  | eof (crc : Nat)
  | status (payload : Nat)
  | data (payload : Nat)
  | err
deriving DecidableEq, Repr

/-- A control block's bytes 1 to 7 (R172). -/
def ctrlBlk (ty rest : Nat) : Blk :=
  if ty = 0x1E then (if rest = 0 then .idle else .err)
  else if ty = 0x78 then .sof rest
  else if ty = 0xCC then (if rest < 2 ^ 32 then .eof rest else .err)
  else if ty = 0x4B then
    if bits rest 6 42 = 0 ∧ crc8 (natBytes rest 6) = bits rest 48 8 then .status (ty + 256 * rest) else .err
  else .err

def blkOf (b : LineBlock) : Blk :=
  if b.1 = 1 then .data b.2 else if b.1 = 2 then ctrlBlk (b.2 % 256) (b.2 / 256) else .err

/-- Whether a sync header is valid (R171). -/
def syncOk (b : LineBlock) : Bool := b.1 == 1 || b.1 == 2

def idleLine : LineBlock := (2, 0x1E)

/-- A STATUS block that reports a break at `pos` (R172, R191). -/
def statusOf (pos : Nat) : Nat :=
  let r := pos + 2 ^ 5
  0x4B + 256 * (r + 2 ^ 48 * crc8 (natBytes r 6))

/-- The blocks of a frame on the line: its SOF block, a data block, and its EOF block (R172). -/
def sofLine (sof : Nat) : LineBlock := (2, 0x78 + 256 * sof)
def dataLine (b : Nat) : LineBlock := (1, b)
def eofLine (crc : Nat) : LineBlock := (2, 0xCC + 256 * crc)

/-- A frame on the line (R172). -/
def frameLine (sof : Nat) (blocks : List Nat) (crc : Nat) : List LineBlock :=
  lineOf (sofLine sof) (blocks.map dataLine) (eofLine crc)

/-- A frame as it is sent: with the CRC-32 of its SOF and data. -/
def Frame.sent (f : Frame) (d now : Nat) (prev : Nat := 0) : Sent := ⟨f, d, now, false, frameCrc (f.sof d) f.blocks, f.sof d, prev⟩

/-- The block that a sent frame puts on the line `n` blocks after its SOF: IDLE after its end, and where it was cut (R172, R195). -/
def Sent.block (x : Sent) (n : Nat) : LineBlock :=
  if x.cut then idleLine else (frameLine x.sof x.frame.blocks x.crc).getD n idleLine

/-- The same block as it stands on the line (R171). -/
def Sent.lineBlock (x : Sent) (n : Nat) : LineBlock :=
  (onLines x.prev ((List.range (n + 1)).map x.block)).getLastD idleLine

/-! ### The receiver (R173, R176) -/

/-- What a receiver makes of the blocks: a SOF whose HCRC fails, a frame broken off with what of it had come, a whole frame, a
STATUS block. -/
inductive RxEv where
  | head (sof : Nat)
  | broken (sof : Nat) (blocks : List Nat)
  | frame (sof : Nat) (blocks : List Nat) (crc : Nat)
  | status (payload : Nat)
deriving DecidableEq, Repr

/-- One block: the frame partly received after it, and what is complete. A data block or an EOF outside a frame is a block error
and nothing else; within a frame, every block but the one called for breaks it (R173). -/
def rxBlock (p : Option (Nat × List Nat)) (b : Blk) : Option (Nat × List Nat) × List RxEv :=
  match p, b with
  | none, .sof h => if crc8 (natBytes h 6) = bits h 48 8 then (some (h, []), []) else (none, [.head h])
  | none, .status x => (none, [.status x])
  | none, _ => (none, [])
  | some (h, ds), .data x =>
    if ds.length < bits h 32 4 then (some (h, ds ++ [x]), []) else (none, [.broken h ds])
  | some (h, ds), .eof c =>
    if ds.length = bits h 32 4 then (none, [.frame h ds c]) else (none, [.broken h ds])
  | some (h, ds), _ => (none, [.broken h ds])

/-- A run of blocks. -/
def rxRun (p : Option (Nat × List Nat)) : List LineBlock → Option (Nat × List Nat) × List RxEv
  | [] => (p, [])
  | b :: bs =>
    let q := rxBlock p (blkOf b)
    let r := rxRun q.1 bs
    (r.1, q.2 ++ r.2)

end Sys2Proof.Machine
end

