-- ==== Sys2Proof/Machine/TimeOps.lean ====
section
/-! DEFINITION. Machine/TimeOps.lean: what the time base, the timers and the watchdogs do (chapter 03). -/

namespace Sys2Proof.Machine

/-! ### Discipline (R59 to R61) -/

/-- Whether the root's servo owns RATE and SLEW (R59, the table of sources). -/
def State.servoOwns (s : State) : Bool :=
  s.flag pgTBAS F.TBAS_CTRL_SERVO && (s.getF pgTBAS F.TBAS_CTRL_SRC == 1 || s.getF pgTBAS F.TBAS_CTRL_SRC == 4)

/-- The slew that remains: SLEW_PPM millionths of a tick, 32 fractions each, go in every tick, but none in holdover (R59,
R61). -/
def State.slewLeft (s : State) : Int :=
  if s.flag pgTBAS F.TBAS_STAT_HOLDOVER then s.time.slew
  else
    let gone : Nat := 32 * ((s.tick - s.time.slewAt) * s.getF pgTBAS F.TBAS_SLEW_SLEW_PPM) / 1000000
    if s.time.slew ≥ 0 then max 0 (s.time.slew - gone) else min 0 (s.time.slew + gone)

/-- The remainder taken at the present tick. -/
def State.slewSync (s : State) : State := { s with time.slew := s.slewLeft, time.slewAt := s.tick }

/-- A slew of `v` fractions starts and replaces any remainder (R59). -/
def State.slewStart (s : State) (v : Int) : State :=
  ({ s with time.slew := v, time.slewAt := s.tick }).setFlag pgTBAS F.TBAS_STAT_SLEWING (v != 0)

/-- A measurement of the phase error, in fractions, from the selected source (R61). The law by which the root's servo sets RATE
and SLEW is not stated: they become free values while it owns them. -/
def State.timeMeasure (s : State) (ofs : Int) : State :=
  let s := s.slewSync
  let thr : Int := ((32 * s.getF pgTBAS F.TBAS_CTRL_LOCK_THR : Nat) : Int)
  let mag : Int := if ofs < 0 then -ofs else ofs
  let s := (s.setF pgTBAS F.TBAS_OFFSET_OFFSET (wrap 24 (satS 24 ofs))).setFlag pgTBAS F.TBAS_STAT_HOLDOVER false
  let good := if mag < thr then s.time.good + 1 else 0
  let s := { s with time.good := good, time.lastMeas := s.tick }
  let s := if good ≥ 8 then s.setFlag pgTBAS F.TBAS_STAT_LOCKED true
    else if mag > thr then s.setFlag pgTBAS F.TBAS_STAT_LOCKED false else s
  if s.servoOwns then
    let r := s.draw 28
    let v := r.2.draw 24
    (v.2.setF pgTBAS F.TBAS_RATE_RATE r.1).slewStart (sgn 24 v.1)
  else s

/-- Two seconds without a measurement from the selected source (R61). FREE delivers no measurement at all; that the root never
enters holdover in it is the model's choice (DESIGN CHOICE, log 60). -/
def State.timeHoldover (s : State) : State :=
  if s.getF pgTBAS F.TBAS_CTRL_SRC = 0 ∨ s.flag pgTBAS F.TBAS_STAT_HOLDOVER ∨ s.tick < s.time.lastMeas + 4000000000 then s
  else
    let s := { s.slewSync with time.good := 0 }
    (s.setFlag pgTBAS F.TBAS_STAT_HOLDOVER true).setFlag pgTBAS F.TBAS_STAT_LOCKED false

/-- Whether PPS_OUT is high: for WIDTH microseconds from its rise (R62). -/
def State.ppsOut (s : State) : Bool :=
  match s.time.ppsRise with
  | some r => decide (s.tick < r + 2000 * s.getF pgTBAS F.TBAS_PPSOUT_WIDTH)
  | none => false

/-! ### Timers (R63 to R68) -/

def State.timer (s : State) (t n : Nat) : Timer := SMap.getD s.time.timers (16 * t + n) {}

def State.setTimer (s : State) (t n : Nat) (tm : Timer) : State :=
  { s with time.timers := SMap.put s.time.timers (16 * t + n) tm }

/-- Whether a timer counts: enabled, not held by a freeze, its island clocked (R63, R67, R69). -/
def State.timerRuns (s : State) (t n : Nat) : Bool :=
  s.flag (pgTIMR t) (F.TMR_CTRL_EN n) && !s.pageHeld (pgTIMR t) && !s.isleStopped (2 * t)

/-- The prescaler phase under a PRE: a phase at or above PRE + 1 makes the next tick an advance (R63). -/
def Timer.phase (tm : Timer) (pre : Nat) : Nat := min tm.ph pre

/-- Advances of a timer since its base tick (R63). -/
def timerAdv (tm : Timer) (pre now : Nat) : Nat := (tm.phase pre + (now - tm.at_)) / (pre + 1)

/-- The count of a timer that ran from its base tick to `now`, before any wrap (R63). -/
def timerVal (tm : Timer) (pre now : Nat) : Nat :=
  let a := timerAdv tm pre now
  if a = 0 then tm.val else if tm.zeroNext then a - 1 else tm.val + a

/-- The count of a timer, before any wrap; ABS shows the time base (R63). -/
def State.timerRaw (s : State) (t n : Nat) : Nat :=
  if s.getF (pgTIMR t) (F.TMR_CTRL_MODE n) = 3 then s.count
  else if s.timerRuns t n then timerVal (s.timer t n) (s.getF (pgTIMR t) (F.TMR_CTRL_PRE n)) s.tick
  else (s.timer t n).val

/-- A count as its timer holds it: a PERIODIC one wraps at 2^64, the others once the wrap has set OVF (R63). -/
def State.timerCount (s : State) (t n v : Nat) : Nat := if s.getF (pgTIMR t) (F.TMR_CTRL_MODE n) = 2 then v % 2 ^ 64 else v

/-- The timer taken at the present tick: count and prescaler phase made explicit. -/
def State.timerSync (s : State) (t n : Nat) : Timer :=
  let tm := s.timer t n
  if s.timerRuns t n && s.getF (pgTIMR t) (F.TMR_CTRL_MODE n) != 3 then
    let pre := s.getF (pgTIMR t) (F.TMR_CTRL_PRE n)
    let a := timerAdv tm pre s.tick
    if s.tick = tm.at_ then tm
    else { tm with val := s.timerCount t n (timerVal tm pre s.tick), ph := (tm.phase pre + (s.tick - tm.at_)) % (pre + 1), at_ := s.tick,
                   zeroNext := tm.zeroNext && a == 0 }
  else { tm with at_ := s.tick }

/-- Counting starts: the phase is kept; a PERIODIC count above CMP is a catch-up; an ABS timer whose CMP the time base has
already passed matches no more (R63, R64). -/
def State.timerEnable (s : State) (t n : Nat) : State :=
  let tm := s.timerSync t n
  let mode := s.getF (pgTIMR t) (F.TMR_CTRL_MODE n)
  let cmp := s.getF (pgTIMR t) (F.TMR_CMP_CMP n)
  let s := s.setFlag (pgTIMR t) (F.TMR_CTRL_EN n) true |>.setFlag (pgTIMR t) (F.TMR_STAT_RUN n) true
  s.setTimer t n { tm with
    catchup := tm.catchup || (mode == 2 && decide (tm.val > cmp))
    done := tm.done || (mode == 3 && !tm.catchup && decide (cmp ≤ s.count)) }

/-- Counting stops and keeps the phase (R63). -/
def State.timerDisable (s : State) (t n : Nat) : State :=
  let tm := s.timerSync t n
  (s.setFlag (pgTIMR t) (F.TMR_CTRL_EN n) false |>.setFlag (pgTIMR t) (F.TMR_STAT_RUN n) false).setTimer t n tm

/-- A new compare takes effect; a count at or above it is a catch-up at the next advance (R64, R65). -/
def State.timerSetCmp (s : State) (t n v : Nat) : State :=
  let now := s.timerRaw t n % 2 ^ 64
  let tm := s.timerSync t n
  (s.setF (pgTIMR t) (F.TMR_CMP_CMP n) v).setTimer t n
    { tm with cmpLo := none, done := false, catchup := decide (now ≥ v) }

/-- A new count takes effect and restarts the prescaler phase (R63, R66). The timer is disabled; a PERIODIC count above CMP is a
catch-up once it is enabled (R64). -/
def State.timerSetCnt (s : State) (t n v : Nat) : State :=
  let tm := s.timerSync t n
  s.setTimer t n { tm with
    val := v, ph := 0, at_ := s.tick, zeroNext := false, done := false, cntLo := none, catchup := false }

/-- A write of a half or of both halves of CMP (R65). -/
def State.timerCmpWrite (s : State) (t n : Nat) (hi : Bool) (size v : Nat) : State :=
  if size = 8 then s.timerSetCmp t n (v % 2 ^ 64)
  else if hi then
    let lo := (s.timer t n).cmpLo.getD (s.getF (pgTIMR t) (F.TMR_CMP_CMP n) % 2 ^ 32)
    s.timerSetCmp t n (2 ^ 32 * (v % 2 ^ 32) + lo)
  else s.setTimer t n { s.timer t n with cmpLo := some (v % 2 ^ 32) }

/-- A write of a half or of both halves of the count; the cause it records (R65, R66). -/
def State.timerCntWrite (s : State) (t n : Nat) (hi : Bool) (size v : Nat) : State × Nat :=
  if s.flag (pgTIMR t) (F.TMR_CTRL_EN n) then (s, 0x20)
  else if size = 8 then (s.timerSetCnt t n (v % 2 ^ 64), 0)
  else if hi then
    let lo := (s.timer t n).cntLo.getD ((s.timer t n).val % 2 ^ 32)
    (s.timerSetCnt t n (2 ^ 32 * (v % 2 ^ 32) + lo), 0)
  else (s.setTimer t n { s.timer t n with cntLo := some (v % 2 ^ 32) }, 0)

/-- A write of TMR_CTRL; the cause it records (R63). The EN that it writes stands against a match of the same cycle (R41). -/
def State.timerCtrlWrite (s : State) (t n req v : Nat) : State × Nat :=
  let b := pgTIMR t
  let en := s.flag b (F.TMR_CTRL_EN n)
  if en && bits v 1 2 != s.getF b (F.TMR_CTRL_MODE n) then (s, 0x20)
  else if s.softUnder b (F.TMR_CTRL_EN n) 0 req then (s, 0)
  else
    let s := s.noteSoft b (F.TMR_CTRL_EN n) 0 req
    let tm := s.timerSync t n
    let pre := bits v 16 16
    let s := s.setTimer t n { tm with zeroNext := tm.zeroNext && bits v 1 2 == 2 }
    let s := (s.setF b (F.TMR_CTRL_MODE n) (bits v 1 2)).setF b (F.TMR_CTRL_START_EVT n) (bits v 3 1)
      |>.setF b (F.TMR_CTRL_PRE n) pre
    if bit v 0 then (if en then (s, 0) else (s.timerEnable t n, 0)) else (if en then (s.timerDisable t n, 0) else (s, 0))

/-- Advances from the base count to the next match (R63, R64): one for a catch-up; after a match in PERIODIC the next advance
gives 0. A count at or above CMP comes to it through the wrap: in PERIODIC here, in the other modes once the wrap has set OVF. -/
def timerUp (tm : Timer) (mode cmp : Nat) : Option Nat :=
  if tm.catchup then some 1
  else if tm.zeroNext then some (cmp + 1)
  else if tm.val < cmp then some (cmp - tm.val)
  else if mode = 2 then some (2 ^ 64 - tm.val + cmp)
  else none

/-- Whether a match of a timer is due (R64): an advance has carried the count to CMP or beyond, or a catch-up advance has
come. A tile whose mirror gate is shut takes none: its logical tile's timers go on in the new tile from the mirror (R70). -/
def State.timerDue (s : State) (t n : Nat) : Bool :=
  let b := pgTIMR t
  let tm := s.timer t n
  let cmp := s.getF b (F.TMR_CMP_CMP n)
  s.timerRuns t n && !s.gateShut t &&
    (if s.getF b (F.TMR_CTRL_MODE n) = 3 then
      !tm.done && decide (s.count ≥ cmp) && (!tm.catchup || decide (s.tick > tm.at_))
    else match timerUp tm (s.getF b (F.TMR_CTRL_MODE n)) cmp with
      | some u => decide (u ≤ timerAdv tm (s.getF b (F.TMR_CTRL_PRE n)) s.tick)
      | none => false)

/-- One match event and one IRQ pulse of a timer (R64, R228). -/
def State.timerEvent (s : State) (t n : Nat) : State :=
  (s.produce (lathTile t) (512 + n) false).pulse (pgTIMR t) n

/-- Whether software wrote a timer's EN in the present cycle: hardware leaves it as written (R41). -/
def State.timerHeldEn (s : State) (t n : Nat) : Bool := (s.softBy (pgTIMR t) (F.TMR_CTRL_EN n)).isSome

/-- A ONESHOT match clears EN (R63). -/
def State.timerStops (s : State) (t n : Nat) : State :=
  if s.timerHeldEn t n then s
  else (s.setFlag (pgTIMR t) (F.TMR_CTRL_EN n) false).setFlag (pgTIMR t) (F.TMR_STAT_RUN n) false

/-- A match of a timer (R63, R64). With PRE = 0 the matching advance of a ONESHOT timer may be one of 2, which its core island
counts at once: the count it keeps is then one higher, a free value. -/
def State.timerMatch (s : State) (t n : Nat) : State :=
  let b := pgTIMR t
  let tm := s.timer t n
  let mode := s.getF b (F.TMR_CTRL_MODE n)
  let pre := s.getF b (F.TMR_CTRL_PRE n)
  let cmp := s.getF b (F.TMR_CMP_CMP n)
  let up := (timerUp tm mode cmp).getD 1
  let at_ := tm.at_ + (up * (pre + 1) - tm.phase pre)
  let val := if tm.catchup then (if tm.zeroNext then 0 else tm.val + 1) else cmp
  let ovr := if mode = 1 ∧ pre = 0 then s.draw 1 else (0, s)
  let s := if tm.catchup then ovr.2.setFlag b (F.TMR_STAT_CATCHUP n) true else ovr.2
  let s := s.incF b (F.TMR_MATCH_MATCH_CNT n)
  let s :=
    if mode = 3 then s.setTimer t n { tm with done := true, catchup := false, at_ := s.tick }
    else if mode = 1 then
      (s.setTimer t n { tm with val := val + ovr.1, ph := 0, at_ := s.tick, zeroNext := false, catchup := false }).timerStops t n
    else s.setTimer t n { tm with val := val, ph := 0, at_ := at_, zeroNext := mode == 2, catchup := false }
  s.timerEvent t n

/-- How often a count that rises to `x`, wraps included, has come from below `cmp` to it (R64). -/
def passed (x cmp : Nat) : Nat := if x < cmp ∨ cmp = 0 then 0 else (x - cmp) / 2 ^ 64 + 1

/-- A PERIODIC timer after `n` more advances, the first of which gives 0; `val` is its count where there is none (R63). -/
def Timer.period (tm : Timer) (cmp val n : Nat) : Timer :=
  { tm with val := if n = 0 then val else (n - 1) % (cmp + 1), zeroNext := n % (cmp + 1) == 0, catchup := false }

/-- A timer that runs on for `d` ticks from its base: the timer after, the matches passed, and the wraps (R63, R64, R67, R68).
A ONESHOT timer ends at its first match. -/
def timerAdvance (tm : Timer) (mode pre cmp d : Nat) : Timer × Nat × Nat :=
  let adv := (tm.phase pre + d) / (pre + 1)
  let run := if d = 0 then tm else { tm with ph := (tm.phase pre + d) % (pre + 1) }
  if adv = 0 then (run, 0, 0)
  else if mode = 2 then
    if tm.catchup then
      (run.period cmp (if tm.zeroNext then 0 else tm.val + 1) (adv - 1), 1 + (adv - 1) / (cmp + 1), 0)
    else if tm.zeroNext then (run.period cmp 0 adv, adv / (cmp + 1), 0)
    else
      let up := if tm.val < cmp then cmp - tm.val else 2 ^ 64 - 1 - tm.val
      if adv < up then ({ run with val := tm.val + adv }, 0, 0)
      else
        let n := adv - up
        let hit := (decide (tm.val < cmp)).toNat
        (run.period cmp (tm.val + up) n, hit + n / (cmp + 1), 0)
  else
    let v := tm.val + adv
    let n := passed v cmp - passed tm.val cmp
    if mode = 1 ∧ (tm.catchup ∨ 0 < n) then
      let v := if tm.catchup then tm.val + 1 else if tm.val < cmp then cmp else cmp + 2 ^ 64
      ({ tm with val := v % 2 ^ 64, ph := 0, catchup := false, zeroNext := false }, 1, v / 2 ^ 64)
    else ({ run with val := v % 2 ^ 64, catchup := false, zeroNext := false }, tm.catchup.toNat + n, v / 2 ^ 64)

/-- A timer advanced over a gap of `d` ticks in which its island or its tile did not count it (R67, R68, R70): SLEPT and
MATCH_CNT grow by the matches passed, and one event is raised if there was any. A timer that a freeze of its page holds makes
nothing up (R69). -/
def State.timerGap (s : State) (t n d : Nat) (makeup : Bool) : State :=
  let b := pgTIMR t
  let mode := s.getF b (F.TMR_CTRL_MODE n)
  let tm := s.timer t n
  let held := s.pageHeld b
  if !s.flag b (F.TMR_CTRL_EN n) then s
  else
    let r := if mode = 3 then
        (if !held ∧ !tm.done ∧ s.count ≥ s.getF b (F.TMR_CMP_CMP n) then ({ tm with done := true, catchup := false }, 1, 0)
         else (tm, 0, 0))
      else timerAdvance tm mode (s.getF b (F.TMR_CTRL_PRE n)) (s.getF b (F.TMR_CMP_CMP n)) (if held then 0 else d)
    let s := s.setTimer t n { r.1 with at_ := s.tick }
    let s := if makeup && mode != 3 then s.setFlag b (F.TMR_STAT_MAKEUP_DONE n) true else s
    let s := if tm.catchup && decide (0 < r.2.1) then s.setFlag b (F.TMR_STAT_CATCHUP n) true else s
    let s := if mode < 2 ∧ 0 < r.2.2 then (s.setFlag b (F.TMR_STAT_OVF n) true).pulse b 16 r.2.2 else s
    let s := if mode = 1 ∧ r.2.1 > 0 then
        (s.setFlag b (F.TMR_CTRL_EN n) false).setFlag b (F.TMR_STAT_RUN n) false else s
    let s := s.setF b (F.TMR_STAT_SLEPT n) (min 255 r.2.1)
    if r.2.1 = 0 then s else (s.incF b (F.TMR_MATCH_MATCH_CNT n) r.2.1).timerEvent t n

/-- The time base has stepped: an ABS timer whose CMP lies ahead again takes its match when the count passes CMP (R60, R64). -/
def State.timersStepped (s : State) : State :=
  { s with time.timers := s.time.timers.map fun kv =>
      if s.getF (pgTIMR (kv.1 / 16)) (F.TMR_CTRL_MODE (kv.1 % 16)) = 3 ∧
          s.count < s.getF (pgTIMR (kv.1 / 16)) (F.TMR_CMP_CMP (kv.1 % 16)) then
        (kv.1, { kv.2 with done := false, catchup := false })
      else kv }

/-- The start input of a timer (R66); a write of EN in the same cycle stands (R41). -/
def State.timerStart (s : State) (t n : Nat) : State :=
  if s.flag (pgTIMR t) (F.TMR_CTRL_START_EVT n) && !s.timerHeldEn t n then s.timerEnable t n else s

/-- Every timer of a tile taken at the present tick, before its island stops. -/
def State.timersSync (s : State) (t : Nat) : State :=
  (List.range 16).foldl (fun s n => if SMap.has s.time.timers (16 * t + n) then s.setTimer t n (s.timerSync t n) else s) s

/-! ### Watchdogs (R71 to R77) -/

/-- The base of a watchdog's registers: those of the keeper's (number 40) lie 0x40 further on in the KEEP page (R77). -/
def wdBase (t : Nat) : Nat := if t < 40 then pgWDOG t else pgKEEP + 0x40

/-- The page of a watchdog, and its IRQ_RAW bits of stage one and of a violation. -/
def wdPage (t : Nat) : Nat := if t < 40 then pgWDOG t else pgKEEP
def wdBit (t b : Nat) : Nat := if t < 40 then b else b + 1

def State.wdog (s : State) (t : Nat) : Wdog := SMap.getD s.time.wdogs t {}

def State.setWdog (s : State) (t : Nat) (w : Wdog) : State := { s with time.wdogs := SMap.put s.time.wdogs t w }

/-- Ticks a watchdog has counted since its last service or the start of stage one. -/
def State.wdTicks (s : State) (t : Nat) : Nat :=
  let w := s.wdog t
  if w.stopped then w.acc else w.acc + (s.tick - w.at_)

/-- ELAPSED, in whole microseconds of 2,000 ticks. -/
def State.wdElapsed (s : State) (t : Nat) : Nat := s.wdTicks t / 2000

/-- ELAPSED := 0. -/
def State.wdZero (s : State) (t : Nat) : State := s.setWdog t { s.wdog t with acc := 0, at_ := s.tick }

/-- The watchdog stops or goes on counting. -/
def State.wdHold (s : State) (t : Nat) (stop : Bool) : State :=
  s.setWdog t { acc := s.wdTicks t, at_ := s.tick, stopped := stop }

/-- Whether a watchdog stands still: EN = 0, a debug halt, or the sleep of its tile's core island (R75 to R77). -/
def State.wdStands (s : State) (t : Nat) : Bool :=
  !s.flag (wdBase t) F.WDOG_CTRL_EN || s.flag (wdBase t) F.WDOG_STAT_FROZEN || (decide (t < 40) && s.isleStopped (2 * t))

/-- The IRQ_RAW bit of stage one: a level bit of a tile's WDOG page, a pulse bit of the KEEP page (R44, R72). -/
def State.wdRaise (s : State) (t : Nat) : State :=
  if t < 40 then s.occur (wdPage t) (wdBit t 0) else s.pulse (wdPage t) (wdBit t 0)

/-- Stage one is entered (R72). -/
def State.wdStage1 (s : State) (t : Nat) : State :=
  let s := ((s.wdZero t).setF (wdBase t) F.WDOG_STAT_STAGE 1).wdRaise t
  if t < 40 then s.produce (lathTile t) 624 false else s

/-- A violation (R72). -/
def State.wdViolation (s : State) (t : Nat) : State :=
  let s := (s.satF (wdBase t) F.WDOG_STAT_VIOL).pulse (wdPage t) (wdBit t 1)
  let s := if t < 40 then s.produce (lathTile t) 625 false else s
  if s.getF (wdBase t) F.WDOG_STAT_STAGE = 1 then s else s.wdStage1 t

/-- Whether ELAPSED has reached TIMEOUT outside stage one (R72). -/
def State.wdLate (s : State) (t : Nat) : Bool :=
  s.flag (wdBase t) F.WDOG_CTRL_EN && s.getF (wdBase t) F.WDOG_STAT_STAGE != 1 &&
    decide (s.getF (wdBase t) F.WDOG_TIMEOUT_TIMEOUT ≤ s.wdElapsed t)

/-- The value the next service must carry (R71). -/
def State.wdKey (s : State) (t : Nat) : Nat := if s.flag (wdBase t) F.WDOG_STAT_NEXT_KEY then 0xA82F else 0x57D0

/-- A write of WDOG_SVC (R71, R72). One that finds ELAPSED at TIMEOUT falls in the stage one that begins there. -/
def State.wdService (s : State) (t v : Nat) : State :=
  let b := wdBase t
  if !s.flag b F.WDOG_CTRL_EN then s
  else
    let s := if s.wdLate t then s.wdStage1 t else s
    if v % 2 ^ 16 ≠ s.wdKey t then s.wdViolation t
    else if s.getF b F.WDOG_STAT_STAGE ≠ 1 ∧ s.wdElapsed t < s.getF b F.WDOG_WINDOW_WINDOW then s.wdViolation t
    else
      let s := (s.wdZero t).setFlag b F.WDOG_STAT_NEXT_KEY (!s.flag b F.WDOG_STAT_NEXT_KEY)
      if s.getF b F.WDOG_STAT_STAGE = 1 then s.setF b F.WDOG_STAT_STAGE 0 else s

/-- A write of TIMEOUT accepted by the lock; the cause it records (R72). -/
def State.wdSetTimeout (s : State) (t v : Nat) : State × Nat :=
  let b := wdBase t
  let v := v % 2 ^ 24
  if v = 0 ∨ v ≤ s.getF b F.WDOG_WINDOW_WINDOW then (s, causeBAD_VALUE)
  else
    let s := s.setF b F.WDOG_TIMEOUT_TIMEOUT v
    (if s.wdLate t then s.wdStage1 t else s, 0)

/-- EN is set: the first service expects 0x57D0 (R71), and the watchdog starts outside the stages: what it left of them at a reset
of the pairs ends here (DESIGN CHOICE, log 15). -/
def State.wdEnable (s : State) (t : Nat) : State :=
  let b := wdBase t
  if s.flag b F.WDOG_CTRL_EN then s
  else
    let s := ((s.setFlag b F.WDOG_CTRL_EN true).setFlag b F.WDOG_STAT_NEXT_KEY false).setF b F.WDOG_STAT_STAGE 0
    s.setWdog t { acc := 0, at_ := s.tick, stopped := s.wdStands t }

/-- EN returns to 0 with the reset of the tile's core pairs, and nothing else of the page does (R73, R74). ELAPSED then reads 0, which the spec
does not say (DESIGN CHOICE, log 15). -/
def State.wdDisable (s : State) (t : Nat) : State :=
  (s.setFlag (wdBase t) F.WDOG_CTRL_EN false).setWdog t { acc := 0, at_ := s.tick, stopped := true }

/-- A reload to a full timeout, with the flag that names its reason (R75, R76). It counts again unless something holds it. -/
def State.wdReload (s : State) (t : Nat) (f : Fld) : State :=
  let s := (s.setFlag (wdBase t) f true).setF (wdBase t) F.WDOG_STAT_STAGE 0
  s.setWdog t { acc := 0, at_ := s.tick, stopped := s.wdStands t }

/-- A watchdog whose registers have returned to their reset values counts from 0 where the journal gives it EN = 1 (R16). -/
def State.wdRestart (s : State) (t : Nat) : State := s.setWdog t { acc := 0, at_ := s.tick, stopped := s.wdStands t }

/-- A debug halt of a watchdog's owner: it stands still (R75, R77). -/
def State.wdFreeze (s : State) (t : Nat) : State :=
  let s := s.setFlag (wdBase t) F.WDOG_STAT_FROZEN true
  if s.flag (wdBase t) F.WDOG_CTRL_EN then s.wdHold t true else s

/-- The last halt of a watchdog's owner has ended: it runs again from a full timeout (R75, R77). -/
def State.wdThaw (s : State) (t : Nat) : State :=
  if s.flag (wdBase t) F.WDOG_STAT_FROZEN then
    (s.setFlag (wdBase t) F.WDOG_STAT_FROZEN false).wdReload t F.WDOG_STAT_DBG_RELOAD
  else s

end Sys2Proof.Machine
end

