-- ==== Sys2Proof/Machine/LathOps.lean ====
section
/-! DEFINITION. Machine/LathOps.lean: laths, links, routes, GPIO and the interrupt controllers (chapter 09). -/

namespace Sys2Proof.Machine

/-- Producers and consumer inputs of a lath (R226). -/
def lathP (l : Nat) : Nat := if l < 64 then 1024 else if l < 72 then 256 else 64
def lathC (l : Nat) : Nat := if l < 72 then 256 else 64

/-- The kind of a consumer input: 0 QUEUED, 1 SINGLE, 2 ACCEPT, 3 reserved (R225, R228, R500). -/
def cinKind (l i : Nat) : Nat :=
  if l < 64 then
    if i < 64 then 2 else if i < 112 then 1 else if i < 160 then 0 else if i < 176 then 3 else if i < 192 then 0 else 3
  else if l < 72 then
    if i < 128 then 0 else if i < 144 then 1 else if i < 176 then 2 else if i < 216 then 0 else 3
  else if i < 48 then 0 else 3

/-- The producer that a link input drives: lath and producer (R227). None for an input that is no link, and for the uplinks
of a tile that is not active. -/
def State.linkTarget (s : State) (l i : Nat) : Option (Nat × Nat) :=
  if l < 64 then
    if 144 ≤ i ∧ i < 160 then (s.ltOf l).map fun lt => (lathClu (lt / 8), 16 * (lt % 8) + (i - 144)) else none
  else if l < 72 then
    if i < 128 then some (lathTile (s.phys (8 * (l - 64) + i / 16)), 640 + i % 16)
    else if 192 ≤ i ∧ i < 200 then some (lathDev, 8 * (l - 64) + (i - 192)) else none
  else if i < 32 then some (lathClu (i / 8), 224 + i % 8) else none

/-- Whether an input is a link input (R227). -/
def isLink (l i : Nat) : Bool :=
  if l < 64 then decide (144 ≤ i) && decide (i < 160)
  else if l < 72 then decide (i < 128) || (decide (192 ≤ i) && decide (i < 200)) else decide (i < 32)

/-- The island behind a consumer input (R228, R233, R494): the next lath's for a link; of a tile lath, the loop/edge island for
triggers and SYNC, the core island for timers, DMA channels and interrupts; of a cluster lath, the analog front, the forecast
engine, the cluster lath itself for GPIO; the device decoder for the group link and for the sources of DINTC. -/
def State.cinIsle (s : State) (l i : Nat) : Nat :=
  match (if isLink l i then s.linkTarget l i else none) with
  | some t => lathIsle t.1
  | none =>
    if l < 64 then
      (if i < 64 ∨ (80 ≤ i ∧ i < 112) then 2 * l + 1 else if isLink l i then lathIsle (lathClu (l / 10)) else 2 * l)
    else if l < 72 then
      (let c := l - 64
       if i < 160 then 83 + 8 * c else if i < 176 then 82 + 8 * c else if i < 192 then 87 + 8 * c else 116)
    else 116

def Lath.input (L : Lath) (i : Nat) : CIn := SMap.getD L.cin i {}

def State.setCin (s : State) (l i : Nat) (c : CIn) : State :=
  s.updLath l fun L => { L with cin := SMap.put L.cin i c }

/-- An overrun of an input (R225). -/
def State.overrun (s : State) (l i : Nat) : State :=
  (s.setFbit (lathPage l 0) (F.LATH_OFLAG_OVR (i / 32)) (i % 32) true).pulse (lathPage l 0) 1

/-- One arrival at a consumer input (R225, R500). An ACCEPT input takes it at once; a QUEUED and a SINGLE one keep it pending
until it reaches its consumer, at most 15 of them, and of several in one cycle a SINGLE input keeps the first: so
ARRIV = TAKEN + PEND + OVR holds at every instant (R237). The stage into the consumer's island, or into the next lath, counts
from the end of this lath's cycle (R233). -/
def State.deliver (s : State) (l i : Nat) (tok : Tok) : State :=
  let c := (s.lathOf l).input i
  let k := cinKind l i
  let now := some (s.tick / lathPeriod l)
  if k = 3 then s.setCin l i { c with arriv := c.arriv + 1, taken := c.taken + 1 }
  else if k ≠ 2 ∧ (c.toks.length ≥ 15 ∨ (k = 1 ∧ c.cyc = now)) then
    (s.setCin l i { c with arriv := c.arriv + 1, ovr := c.ovr + 1 }).overrun l i
  else
    let tok := { tok with ready := stageTick true (s.cinIsle l i) (s.cycleEnd (lathPeriod l)) }
    s.setCin l i { c with
      arriv := c.arriv + 1, taken := if k = 2 then c.taken + 1 else c.taken, toks := c.toks ++ [tok], cyc := now }

/-- PEND of an input: what an ACCEPT input has taken and not yet passed to its block does not count (R225, R237). -/
def State.pendOf (s : State) (l i : Nat) : Nat := if cinKind l i = 2 then 0 else ((s.lathOf l).input i).toks.length

/-- The first production of `prod` that the lath may take now, and the others. -/
def takeFirst (prod tick : Nat) : List (Nat × Tok) → Option (Tok × List (Nat × Tok))
  | [] => none
  | (p, t) :: rest =>
    if p = prod ∧ t.ready ≤ tick then some (t, rest)
    else (takeFirst prod tick rest).map fun r => (r.1, (p, t) :: r.2)

/-- The row of an input that the lath uses in the present cycle: `row`, or the one before a COMMIT of this cycle (R230). -/
def State.rowNow (s : State) (l i row : Nat) : Nat :=
  match SMap.get? (s.lathOf l).was i with
  | some (c, old) => if c = s.tick / lathPeriod l then old else row
  | none => row

/-- Whether a lath stands still: its island has no clock, or its tile's mirror gate is shut (R237, R356). -/
def State.lathStill (s : State) (l : Nat) : Bool :=
  if l < 64 then s.isleStopped (2 * l + 1) || s.gateShut l
  else if l < 72 then s.isleStopped (87 + 8 * (l - 64)) else s.isleStopped 117

/-- The lath takes a production: it reaches every input whose row has the producer's bit, each once (R229). -/
def State.lathTake (s : State) (l prod : Nat) : State :=
  let L := s.lathOf l
  match (if s.lathStill l then none else takeFirst prod s.tick L.waiting) with
  | none => s
  | some (tok, rest) =>
    L.routes.foldl (fun s r => if bit (s.rowNow l r.1 r.2) prod then s.deliver l r.1 tok else s)
      (s.updLath l fun L => { L with waiting := rest })

/-- The head arrival of an input, if it may be taken now. -/
def State.headTok (s : State) (l i : Nat) : Option Tok :=
  match ((s.lathOf l).input i).toks with
  | tok :: _ => if tok.ready ≤ s.tick then some tok else none
  | [] => none

/-- The head arrival leaves an input for its consumer: it is taken now, or was at its arrival at an ACCEPT input (R225). -/
def State.tookOne (s : State) (l i : Nat) : State :=
  let c := (s.lathOf l).input i
  (s.setCin l i { c with toks := c.toks.drop 1, taken := if cinKind l i = 2 then c.taken else c.taken + 1 }).updLath l fun L =>
    { L with tookAt := SMap.put L.tookAt i s.tick }

/-- The head arrival of a SINGLE input finds its consumer busy: an overrun (R225). -/
def State.overranOne (s : State) (l i : Nat) : State :=
  let c := (s.lathOf l).input i
  (s.setCin l i { c with toks := c.toks.drop 1, ovr := c.ovr + 1 }).overrun l i

/-- The lath that holds a link or send input drops an event there (R234). -/
def State.dropEvent (s : State) (l : Nat) (tok : Tok) : State :=
  let b := lathPage l 0
  (((((((s.incF b F.LATH_LOOPDROP_LOOPDROP).setFlag b F.LATH_STAT_LOOP true).setF b F.LATH_LOOP_LAST_PROD tok.prod).setF
    b F.LATH_LOOP_LAST_LEVEL tok.level).setF b F.LATH_LOOP_LAST_INST tok.inst).setF b F.LATH_LOOP_LAST_HOPS
    tok.hops).setFlag b F.LATH_LOOP_LAST_VALID true).pulse b 0

/-- A link passes an event on, or drops it where its hop count would exceed 4 or where it would return to its origin
(R234). The arrival has waited out the stage into the next lath, which may take it in this cycle (R233). -/
def State.passLink (s : State) (l i : Nat) (tok : Tok) : State :=
  match s.linkTarget l i with
  | none => s
  | some (l', p) =>
    if tok.hops ≥ 4 ∨ (tok.level = lathLevel l' ∧ tok.inst = lathInst l' ∧ tok.prod = p) then
      s.dropEvent l tok
    else s.produceTok l' p { tok with hops := tok.hops + 1, ready := s.tick } false

/-- Whether a link's next lath has not yet taken the previous event (R228); a lath whose tile's gate is shut takes none (R356). -/
def State.linkBusy (s : State) (l i : Nat) : Bool :=
  match s.linkTarget l i with
  | some (l', p) => ((s.lathOf l').waiting.any fun w => w.1 == p) || s.lathStill l'
  | none => false

/-- Whether an input has taken an arrival in the present cycle of its consumer's island (R225). -/
def State.tookNow (s : State) (l i : Nat) : Bool :=
  match SMap.get? (s.lathOf l).tookAt i with
  | some t => takeCycle (s.cinIsle l i) t == takeCycle (s.cinIsle l i) s.tick
  | none => false

/-! ### Routes (R230, R231) -/

/-- The row in force of an input. -/
def State.route (s : State) (l i : Nat) : Nat := SMap.getD (s.lathOf l).routes i 0

/-- The staging row, from its words. -/
def State.stagingRow (s : State) (l : Nat) : Nat :=
  (List.range (lathP l / 32)).foldl (fun m w => m + 2 ^ (32 * w) * s.getF (lathPage l 1) (F.LATH_ROUTE_STG_STG w)) 0

/-- The input that a requester's LATH_SEL names. -/
def State.lathSel (s : State) (l req : Nat) : LathSnap := SMap.getD (s.lathOf l).snaps req {}

/-- The staging row comes into force for the requester's CSEL (R230). -/
def State.routeCommit (s : State) (l req : Nat) : State :=
  let row := s.stagingRow l
  let i := (s.lathSel l req).csel
  let was := (s.tick / lathPeriod l, s.rowNow l i (s.route l i))
  s.updLath l fun L => { L with routes := SMap.put L.routes i row, was := SMap.put L.was i was }

/-- The row in force of the requester's CSEL is copied to the staging row (R230). -/
def State.routeLoad (s : State) (l req : Nat) : State :=
  let row := s.route l (s.lathSel l req).csel
  (List.range (lathP l / 32)).foldl
    (fun s w => s.setF (lathPage l 1) (F.LATH_ROUTE_STG_STG w) (bits row (32 * w) 32)) s

/-- A write of LATH_SEL: the snapshot, and the cause it records (R231). -/
def State.lathSelect (s : State) (l req v : Nat) : State × Nat :=
  let p := bits v 0 10
  let c := bits v 16 8
  if p ≥ lathP l ∨ c ≥ lathC l then (s, causeBAD_VALUE)
  else
    let L := s.lathOf l
    let ci := L.input c
    let snap : LathSnap :=
      ⟨p, c, s.pendOf l c, ci.arriv % 2 ^ 64, ci.taken % 2 ^ 64, ci.ovr % 2 ^ 64, SMap.getD L.prod p 0 % 2 ^ 64⟩
    (s.updLath l fun L => { L with snaps := SMap.put L.snaps req snap }, 0)

/-- Software producers of a lath: how many, and the number of the first (R228, R232). -/
def swCount (l : Nat) : Nat := if l < 64 then 64 else if l < 72 then 16 else 8
def swBase (l : Nat) : Nat := if l < 64 then 704 else if l < 72 then 232 else 48

/-- A write of LATH_SWEV: the firing, and the cause it records (R232). -/
def State.softEvent (s : State) (l n : Nat) : State × Nat :=
  if n ≥ swCount l then (s, causeBAD_VALUE)
  else
    let fin := s.tick / lathPeriod l * lathPeriod l + lathPeriod l
    ((s.produceTok l (swBase l + n) ⟨lathLevel l, lathInst l, swBase l + n, 0, false, stageTick true (lathIsle l) fin⟩
      false).updLath l fun L => { L with swAt := some s.tick }, 0)

/-! ### GPIO (R238, R239) -/

/-! A filter's samples (R100, R238): one in each `per` ticks, of a level that changes in between. -/

/-- The level `lv`'s samples before cycle `n`: the last one, and the cycle in which its run of equal samples began. -/
def PathSt.upTo (x : PathSt) (per : Nat) (lv : Bool) (n : Nat) : Bool × Nat :=
  let first := (x.at_ + per - 1) / per
  if n ≤ first ∨ x.lv = lv then (x.lv, x.since) else (lv, first)

/-- The level that has been `lv` changes at `tick`: a sample of that tick is the first of the new level. -/
def PathSt.mark (x : PathSt) (per : Nat) (lv : Bool) (tick : Nat) : PathSt :=
  let r := x.upTo per lv ((tick + per - 1) / per)
  ⟨tick, r.1, r.2⟩

/-- Whether the last `filt` + 1 samples, that of the cycle in progress at `tick` among them, have the level `lv`; the present level
is `now`. -/
def PathSt.settled (x : PathSt) (per filt : Nat) (now lv : Bool) (tick : Nat) : Bool :=
  let r := x.upTo per now (tick / per + 1)
  r.1 == lv && decide (filt + 1 + r.2 ≤ tick / per + 1)

/-- An accepted edge is produced: producer, count, pulse (R238). -/
def State.gpioProduce (s : State) (pin : Nat) : State :=
  let c := pin / 16
  let k := pin % 16
  ((s.produce (lathClu c) (208 + k) true 2).incF (pgGPIO c) (F.GPIO_CNT_EDGES k)).pulse (pgGPIO c) k

/-- Whether EDGE selects a change to `level`, after POL (R238). -/
def State.gpioSelects (s : State) (pin : Nat) (level : Bool) : Bool :=
  match s.getF (pgGPIO (pin / 16)) (F.GPIO_CTRL_EDGE (pin % 16)) with
  | 0 => level
  | 1 => !level
  | 2 => true
  | _ => false

/-- The level of a pin (R238). -/
def State.gpioRaw (s : State) (pin : Nat) : Bool := SMap.getD s.lath.gpio.raw pin false

/-- The level of a pin after POL (R238). -/
def State.gpioLevel (s : State) (pin : Nat) : Bool := s.gpioRaw pin ^^ s.flag (pgGPIO (pin / 16)) (F.GPIO_CTRL_POL (pin % 16))

/-- The level of a pin after POL is about to change: it has been the present one up to this tick (R238). -/
def State.gpioMark (s : State) (pin : Nat) : State :=
  { s with lath.gpio.paths :=
      SMap.put s.lath.gpio.paths pin ((SMap.getD s.lath.gpio.paths pin {}).mark 2 (s.gpioLevel pin) s.tick) }

/-- A pin is at `level` (R238). -/
def State.gpioAt (s : State) (pin : Nat) (level : Bool) : State :=
  if s.gpioRaw pin = level then s
  else { s.gpioMark pin with lath.gpio.raw := SMap.put s.lath.gpio.raw pin level }

/-- A pin's samples begin with the present cycle, or with the next one where it has begun (R238). -/
def State.gpioResume (s : State) (pin : Nat) : State :=
  { s with lath.gpio.paths := SMap.put s.lath.gpio.paths pin ⟨s.tick, s.gpioLevel pin, (s.tick + 1) / 2⟩ }

/-- Whether the cluster lath has sampled a pin at its level FILT + 1 times in a row, once in each of its cycles; it samples none
before its latched edges have fired (R238). -/
def State.gpioSettled (s : State) (pin : Nat) : Bool :=
  SMap.getD s.lath.gpio.alat pin 0 == 0 &&
    (SMap.getD s.lath.gpio.paths pin {}).settled 2 (s.getF (pgGPIO (pin / 16)) (F.GPIO_CTRL_FILT (pin % 16)))
      (s.gpioLevel pin) (s.gpioLevel pin) s.tick

/-- Whether the cluster lath samples a pin: its island has a clock, and the pads have their power (R238, R389). -/
def State.gpioRuns (s : State) (pin : Nat) : Bool :=
  s.domOn (89 + 10 * (pin / 16)) && s.islandOn (87 + 8 * (pin / 16)) && !s.isleStopped (87 + 8 * (pin / 16))

/-- The filter of a pin accepts its level where that is new and settled (R238). -/
def State.gpioSample (s : State) (pin : Nat) : State :=
  let b := pgGPIO (pin / 16)
  let k := pin % 16
  let level := s.gpioLevel pin
  if !s.gpioRuns pin || s.fbit b F.GPIO_IN_IN k == level || !s.gpioSettled pin then s
  else
    let s := s.setFbit b F.GPIO_IN_IN k level
    if s.gpioSelects pin level then s.gpioProduce pin else s

/-- An edge that a pin's latch counted fires its producer, and behind the last one the pin is sampled again (R238). -/
def State.gpioFire (s : State) (pin : Nat) : State :=
  let n := SMap.getD s.lath.gpio.alat pin 0
  let s := ({ s with lath.gpio.alat := if n ≤ 1 then SMap.erase s.lath.gpio.alat pin else SMap.put s.lath.gpio.alat pin (n - 1) }).gpioProduce pin
  if n ≤ 1 then { s with lath.gpio.paths := SMap.put s.lath.gpio.paths pin ⟨s.cycleEnd 2, s.gpioLevel pin, s.cycleEnd 2 / 2⟩ } else s

/-- The cluster lath runs again: a pin fires the first edge that its latch counted, or is sampled again at once (R238). -/
def State.gpioReplay (s : State) (pin : Nat) : State :=
  if SMap.getD s.lath.gpio.alat pin 0 = 0 then s.gpioResume pin else s.gpioFire pin

/-- A cycle of the cluster laths begins: each pin with latched edges left, whose island runs, fires one (R238). -/
def State.gpioTick (s : State) : State :=
  if s.tick % 2 ≠ 0 then s
  else s.lath.gpio.alat.foldl (fun s e => if s.gpioRuns e.1 then s.gpioFire e.1 else s) s

/-- One run of a pin's action input (R239). -/
def State.gpioAction (s : State) (pin : Nat) : State :=
  let b := pgGPIO (pin / 16)
  let k := pin % 16
  let out := s.fbit b F.GPIO_OUT_OUT k
  let v := match s.getF b (F.GPIO_CTRL_ACT k) with
    | 0 => !out
    | 1 => true
    | 2 => false
    | _ => out
  s.setFbit b F.GPIO_OUT_OUT k v

/-- Actions of the present cycle come after a software write of it: those of the pins in `m` run on what was written (R239). -/
def State.gpioRerun (s : State) (c m : Nat) : State :=
  (List.range 16).foldl (fun s k =>
    if bit m k && s.tookNow (lathClu c) (176 + k) then s.gpioAction (16 * c + k) else s) s

/-! ### Interrupt controllers (R244 to R250) -/

/-- HOLD of a tile group and of a device group, in units of 10 ns. -/
def State.holdOf (s : State) (t h : Nat) : Nat :=
  if h % 2 = 0 then s.getF (pgINTC t) (F.INTC_HOLD_HOLD_E (h / 2)) else s.getF (pgINTC t) (F.INTC_HOLD_HOLD_O (h / 2))
def State.dholdOf (s : State) (g : Nat) : Nat :=
  if g % 2 = 0 then s.getF pgDINTC (F.DINTC_HOLD_HOLD_E (g / 2)) else s.getF pgDINTC (F.DINTC_HOLD_HOLD_O (g / 2))

/-- A hold-off starts (R246); HSTAT shows it. -/
def State.startHold (s : State) (key units base : Nat) (f : Fld) (b : Nat) : State :=
  if units = 0 then s
  else ({ s with lath.int.holdEnd := SMap.put s.lath.int.holdEnd key (s.tick + 20 * units) }).setFbit base f b true

/-- A hold-off ends (R246). -/
def State.endHold (s : State) (key base : Nat) (f : Fld) (b : Nat) : State :=
  ({ s with lath.int.holdEnd := SMap.erase s.lath.int.holdEnd key }).setFbit base f b false

/-- Whether a local source of a tile can be presented to its pair `x` (R244). -/
def State.presentable (s : State) (t x l : Nat) : Bool :=
  let b := pgINTC t
  s.fbit b (F.INTC_EN_EN (l / 32)) (l % 32) && !s.holding (t * 8 + l / 64) &&
    (if 448 ≤ l ∧ l < 464 then s.cascade t (l - 448) && s.getF pgDINTC (F.dintcRoutePAIR (l - 448)) == x
     else s.settledCount t l != 0 && (s.fbit b (F.INTC_PAIR_PAIR (l / 32)) (l % 32)).toNat == x)

/-- The source presented to a pair: the lowest level, then the lowest number (R244): (level, local source). -/
def State.presented (s : State) (t x : Nat) : Option (Nat × Nat) :=
  (List.range 512).foldl (fun best l =>
    if s.presentable t x l then
      let lv := s.getF (pgINTC t) (F.intcLevel l)
      match best with
      | some (v, m) => if lv < v then some (lv, l) else some (v, m)
      | none => some (lv, l)
    else best) none

/-- The INTC's part of an acceptance by pair `x` of tile `t` (R245, R249): the count taken is that before the arrivals of its own
cycle, which are then counted as from 0. -/
def State.intcAccept (s : State) (t x lv l : Nat) : State :=
  let b := pgINTC t
  let casc := decide (448 ≤ l) && decide (l < 464)
  let f := s.freshOf t l
  let c := if casc then 0 else f.cnt
  let past := f.n - 255
  let s := ((((s.setF b (F.INTC_TAKEN_SRC x) l).setF b (F.INTC_TAKEN_LEVEL x) lv).setFlag b (F.INTC_TAKEN_SAT x) f.sat).setF b
    (F.INTC_TAKEN_COUNT x) c).incF b F.INTC_TAKESUM_TAKESUM c
  let s := if casc then s else { s with lath.int.fresh := SMap.erase s.lath.int.fresh (512 * t + l) }.setF b (F.intcCount l) (min 255 f.n)
  let s := if f.lost = past then s
    else (s.setF b F.INTC_SATLOST_SATLOST (s.getF b F.INTC_SATLOST_SATLOST + past + 2 ^ 32 - f.lost)).setFbit b
      (F.INTC_SAT_SAT (l / 32)) (l % 32) (f.sat || decide (past ≠ 0))
  s.startHold (t * 8 + l / 64) (s.holdOf t (l / 64)) b F.INTC_HSTAT_HOLDING (l / 64)

/-- A claim by core pair `p` (R250): the source less 20,480, or none. -/
def State.dintcCandidate (s : State) (p : Nat) : Option Nat :=
  (List.range 16).foldl (fun r g =>
    match r with
    | some k => some k
    | none =>
      if s.flag pgDINTC (F.dintcRouteEN g) && s.ltOf (p / 2) == some (s.getF pgDINTC (F.dintcRouteLT g)) &&
          s.getF pgDINTC (F.dintcRoutePAIR g) == p % 2 && !s.holding (320 + g) then s.dintcLowest g else none) none

/-- The word a read of DINTC_CLAIM returns, and the state after it (R250). -/
def State.dintcClaim (s : State) (req : Nat) : Nat × State :=
  match (if req < 80 then s.dintcCandidate req else none) with
  | none => (0, s)
  | some k =>
    let c := s.getF pgDINTC (F.dintcCount k)
    let sat := s.fbit pgDINTC (F.DINTC_SAT_SAT (k / 32)) (k % 32)
    (20480 + k + 2 ^ 16 * c + 2 ^ 24 * sat.toNat + 2 ^ 31,
      ((s.setF pgDINTC (F.dintcCount k) 0).incF pgDINTC F.DINTC_TAKESUM_TAKESUM c).startHold (320 + k / 64)
        (s.dholdOf (k / 64)) pgDINTC F.DINTC_HSTAT_HOLDING (k / 64))

/-- Whether a number is no source: reserved numbers never arrive (R240). -/
def reservedSrc (src : Nat) : Bool :=
  if src < 20480 then
    let l := src % 512
    (decide (400 ≤ l) && decide (l < 448)) || decide (464 ≤ l)
  else if src < 20992 then decide (104 ≤ (src - 20480) % 128)
  else decide (21256 ≤ src) && decide (src < 21376)

/-- The source that a doorbell write names, if its requester may name it there (R241); page 40 is DINTC. -/
def doorbellSrc (req t v : Nat) : Option Nat :=
  let free := req = reqKeeper ∨ req = reqMonitor
  let src := if t < 40 ∧ bit v 15 then 512 * t + bits v 0 9 else bits v 0 15
  let here := if t < 40 then decide (src / 512 = t) else decide (20480 ≤ src) && decide (src ≤ 21503)
  let soft := if t < 40 then decide (256 ≤ src % 512) && decide (src % 512 < 384) else decide (21376 ≤ src)
  if !here || reservedSrc src then none
  else if free ∨ (req < 0x180 ∧ soft) then some src else none

/-- Whether a source's last doorbell has not been entered: it waits beside the full wake buffer, or for a move to end
(R228, R243, R251). -/
def State.doorbellWaits (s : State) (src : Nat) : Bool :=
  decide (src < 20480) &&
    ((SMap.getD s.lath.int.wakeWait (src / 512) []).contains (src % 512) ||
      match s.ltOf (src / 512) with
      | some lt => (SMap.getD s.lath.int.moveHeld lt []).contains (src % 512)
      | none => false)

/-- A doorbell write: the state and the cause it records (R241). -/
def State.doorbell (s : State) (req t v : Nat) : State × Nat :=
  match doorbellSrc req t v with
  | some src => (s.arrive src, 0)
  | none => (s, causeBAD_VALUE)

/-- Entries of the wake buffer applied in order of arrival, then the doorbells that waited (R243). -/
def State.applyWake (s : State) (t : Nat) : State :=
  let ls := SMap.getD s.lath.int.wakeBuf t [] ++ SMap.getD s.lath.int.wakeWait t []
  let s := { s with
    lath.int.wakeBuf := SMap.erase s.lath.int.wakeBuf t
    lath.int.wakeWait := SMap.erase s.lath.int.wakeWait t }
  ls.foldl (fun s l => s.arrive (512 * t + l)) (s.setF (pgINTC t) F.INTC_WAKE_LEVEL 0)

end Sys2Proof.Machine
end

