-- ==== Sys2Proof/Machine/LoopOps.lean ====
section
/-! DEFINITION. Machine/LoopOps.lean: contexts, boundary staging, triggers, dispatch, loop steps and commits (chapters 01
and 05). -/

namespace Sys2Proof.Machine

/-! ### A generator's view (R8, R133, R157) -/

def State.gen (s : State) (t g : Nat) : Gen := SMap.getD s.edge.gens (256 * t + g) {}

def State.setGen (s : State) (t g : Nat) (x : Gen) : State :=
  { s with edge.gens := SMap.put s.edge.gens (256 * t + g) x }

/-- STATE of a generator (R157). -/
def State.genState (s : State) (t g : Nat) : Nat := s.getF (pgPWMG t g) (F.PWMG_STAT_STATE (g % 16))

/-- Armed in the sense of R27: ARMING, ARMED or TRIPPED. -/
def State.genArmed (s : State) (t g : Nat) : Bool :=
  s.genState t g == 2 || s.genState t g == 3 || s.genState t g == 4

/-- Whether the counter runs: RUN = 1 and the first reload has come (R133, R134). -/
def State.genRuns (s : State) (t g : Nat) : Bool :=
  s.flag (pgPWMG t g) (F.PWMG_CTRL_RUN (g % 16)) && (s.gen t g).first.isNone

/-- The counter (R133). -/
def State.genCount (s : State) (t g : Nat) : Nat :=
  if s.genRuns t g then
    match (s.gen t g).load with
    | some (l, c) => c + (s.tick - l)
    | none => s.tick - (s.gen t g).origin
  else 0

/-- The tick in which the counter enters count `v` of the running period (R135, R144). -/
def Gen.enters (x : Gen) (v : Nat) : Nat :=
  match x.load with
  | some (l, c) => l + (v - c)
  | none => x.origin + v

/-- The tick of the next reload of a running generator (R133). -/
def State.nextReload (s : State) (t g : Nat) : Nat :=
  match (s.gen t g).first with
  | some r => r
  | none => (s.gen t g).enters (s.gen t g).per

/-! ### The context store (R106, R107) -/

def ctxKey (t n w : Nat) : Nat := 32768 * t + 16 * n + w

/-- A word of a context; CTX_CTL resets with CLASS 0b11. -/
def State.ctxWord (s : State) (t n w : Nat) : Nat := SMap.getD s.loop.ctx (ctxKey t n w) (if w = 0 then 6 else 0)

def State.ctxEN (s : State) (t n : Nat) : Bool := bit (s.ctxWord t n 0) 0
def State.ctxClass (s : State) (t n : Nat) : Nat := bits (s.ctxWord t n 0) 1 2

/-- The local generator to which a context is bound. -/
def State.ctxGen (s : State) (t n : Nat) : Option Nat :=
  if bit (s.ctxWord t n 1) 8 then some (bits (s.ctxWord t n 1) 0 8) else none

/-- Whether a context's bound generator is armed (R27). -/
def State.ctxArmed (s : State) (t n : Nat) : Bool :=
  match s.ctxGen t n with
  | some g => s.genArmed t g
  | none => false

/-- The bits of a context word that are not reserved (R106, R107). -/
def ctxBits (w : Nat) : Nat :=
  match w with
  | 0 => 0x007FFFF7
  | 1 => 0x003FFFFF
  | 3 => 0x8000FFFF
  | 15 => 0xFF0FFFFF
  | _ => 0xFFFFFFFF

/-- A word of a context written in all its copies, its reserved bits 0 (R15); clearing EN discards a pending trigger (R109,
R126). -/
def State.setCtxWord (s : State) (t n w v : Nat) : State :=
  let s := { s with
    loop.ctx := SMap.put s.loop.ctx (ctxKey t n w) (v &&& ctxBits w)
    loop.ctxNow := (s.tick, ctxKey t n w :: if s.loop.ctxNow.1 = s.tick then s.loop.ctxNow.2 else []) }
  if w = 0 ∧ !bit v 0 ∧ SMap.has s.loop.pend (2048 * t + n) then
    ({ s with loop.pend := SMap.erase s.loop.pend (2048 * t + n) }).satF (pgLENG t) F.LENG_CNT3_IDLE_TRIG
  else s

/-- Whether the store accepts a word (R107). -/
def ctxWordOk (w v : Nat) : Bool :=
  if w = 0 then
    let prog := bits v 4 12
    let n := bits v 16 7
    prog % 2 == 0 && decide (1 ≤ n) && decide (n ≤ 64) && decide (prog + n ≤ 4096)
  else if w = 1 then
    let src := bits v 9 3
    let sel := bits v 12 10
    match src with
    | 0 => sel == 0
    | 1 => decide (sel < 32)
    | 2 => true
    | 3 => decide (sel < 64)
    | _ => false
  else true

/-- Whether the store accepts a core write as a whole (R107). -/
def CoreWrite.ok (c : CoreWrite) : Bool :=
  ctxWordOk (c.off / 4) (c.data % 2 ^ 32) && (c.size == 4 || ctxWordOk (c.off / 4 + 1) (c.data / 2 ^ 32 % 2 ^ 32))

/-- A core write takes effect in the store. -/
def State.applyCore (s : State) (t : Nat) (c : CoreWrite) : State :=
  let s := s.setCtxWord t c.ctx (c.off / 4) (c.data % 2 ^ 32)
  if c.size = 8 then s.setCtxWord t c.ctx (c.off / 4 + 1) (c.data / 2 ^ 32 % 2 ^ 32) else s

/-- A plan commit takes effect in the store (R106). -/
def State.applyPlan (s : State) (t : Nat) (p : PlanCommit) : State :=
  (s.setCtxWord t p.ctx 2 p.val).setCtxWord t p.ctx 3 p.tag

/-! ### Boundary staging (R27 to R33) -/

def State.stageOf (s : State) (t : Nat) : TileStage := SMap.getD s.loop.stage t {}

def State.setStage (s : State) (t : Nat) (x : TileStage) : State :=
  ({ s with loop.stage := SMap.put s.loop.stage t x }).setF (pgCSTO t) F.CSTO_BND_STAT_CORE_FILL x.core.length

/-- The bytes of its context that a core write writes. -/
def CoreWrite.mask (c : CoreWrite) : Nat := 2 ^ c.off * (2 ^ c.size - 1)

/-- What a write does to the store of a tile, and, by the mirror, to the tile that is in SHADOW for it (R211, R368). -/
def State.bothTiles (s : State) (t : Nat) (f : State → Nat → State) : State :=
  let z := f s t
  match s.refireOf (t / 10) with
  | some r => if s.shadowTile r.phys && s.phys r.lt == t then f z r.phys else z
  | none => z

/-- A core write that the staging takes is noted for the MIRROR frames where the context's partition is owned here, with the period number
of its boundary (R448). -/
def State.noteMirror (s : State) (t : Nat) (c : CoreWrite) : State :=
  match s.ltOf t, s.ctxGen t c.ctx with
  | some lt, some g =>
    if s.getF pgGRPL F.GRP_STAT_STATE = 2 ∧ (s.partsOf lt).any fun q => s.getF pgGRPL (F.grpOwner q) == s.getF pgGRPL F.GRP_CTRL_ID then
      { s with grp.mout := s.grp.mout ++ [⟨lt, c.ctx, c.off, c.size, c.data, s.getF (pgPWMG t g) (F.PWMG_PNUM_PNUM (g % 16)) + 1⟩] }
    else s
  | _, _ => s

/-- A core write into a tile's staging, or into its store where no boundary is awaited (R27, R32). -/
def State.putCore (s : State) (t : Nat) (c : CoreWrite) : State :=
  if s.ctxArmed t c.ctx then
    (s.setStage t { s.stageOf t with core := (s.stageOf t).core ++ [c] }).noteMirror t c
  else s.applyCore t c

/-- A core write that the store has accepted: staged, held for a full stage, or applied on arrival (R27, R32, R33). The
second part tells whether its response is held. A write that the store takes also reaches the tile in SHADOW, by the mirror
(R368). -/
def State.takeCore (s : State) (t : Nat) (c : CoreWrite) : State × Bool :=
  let st := s.stageOf t
  if s.ctxArmed t c.ctx ∧ 256 ≤ st.core.length then
    ((s.setStage t { st with waiting := st.waiting ++ [c] }).satF (pgCSTO t) F.CSTO_BND_STAT_STALLS, true)
  else (s.bothTiles t fun s t => s.putCore t c, false)

/-- A plan commit that reaches a tile: it takes the one plan slot of its context in the staging, where a boundary is awaited (R27, R32,
R211). -/
def State.takePlan (s : State) (t : Nat) (p : PlanCommit) : State :=
  if s.ctxArmed t p.ctx then
    let st := s.stageOf t
    s.setStage t { st with plans := (st.plans.filter fun q => q.ctx != p.ctx) ++ [p] }
  else s.applyPlan t p

/-- Whether a run of a context that was dispatched before tick `b` has not written back (R28 step 3). -/
def State.straddled (s : State) (t n b : Nat) : Bool :=
  (s.loop.runs ++ s.loop.commits).any fun e => e.1 / 16 == t && e.2.any fun r => r.ctx == n && decide (r.start < b)

/-- Steps 1 and 2 of a period boundary of generator `g` (R28 to R30, R32): the plan commits of its contexts and then their
core writes, in order of arrival. Plan commits that arrived after `last` wait for the next boundary (R359). -/
def State.boundaryTo (s : State) (t g last : Nat) : State :=
  let st := s.stageOf t
  let due := fun (p : PlanCommit) => s.ctxGen t p.ctx == some g && decide (p.at_ ≤ last)
  let mineP := st.plans.filter due
  let mineC := st.core.filter fun c => s.ctxGen t c.ctx == some g
  let others : TileStage := {
    plans := st.plans.filter fun p => !due p
    core := st.core.filter fun c => !(s.ctxGen t c.ctx == some g)
    waiting := st.waiting
    presets := st.presets.filter (fun x => s.straddled t x.1 x.2.1) ++ mineC.map fun c => (c.ctx, s.tick, c.mask) }
  let s := s.setStage t others
  let s := mineP.foldl (fun s p => s.applyPlan t p) s
  mineC.foldl (fun s c => s.applyCore t c) s

/-- A period boundary in the present tick. -/
def State.boundary (s : State) (t g : Nat) : State := s.boundaryTo t g s.tick

/-- A core write that waited enters the stage when an entry is free (R33). -/
def State.stageRelease (s : State) (t : Nat) : State :=
  let st := s.stageOf t
  match st.waiting with
  | [] => s
  | c :: rest =>
    if st.core.length < 256 then
      let s := s.setStage t { st with waiting := rest }
      (s.takeCore t c).1.respond c.req false 0
    else s

/-! ### Triggers (R108, R109) -/

/-- A merge is counted (R109): behind a shut gate for the new tile (R366). -/
def State.countMerged (s : State) (t : Nat) : State :=
  match SMap.get? s.edge.gates t with
  | some g =>
    if g.d < s.tick then { s with edge.gates := SMap.put s.edge.gates t { g with merged := g.merged + 1 } }
    else s.satF (pgLENG t) F.LENG_CNT1_MERGED
  | none => s.satF (pgLENG t) F.LENG_CNT1_MERGED

/-- A trigger of a context (R109). -/
def State.trigger (s : State) (t n : Nat) (vals : List Nat) (arr : Nat) : State :=
  if !s.ctxEN t n then s.satF (pgLENG t) F.LENG_CNT3_IDLE_TRIG
  else
    let s := if SMap.has s.loop.pend (2048 * t + n) then s.countMerged t else s
    { s with loop.pend := SMap.put s.loop.pend (2048 * t + n) ⟨vals, arr, false⟩ }

/-- A WAKE of a committed run of context `m` (R108): of those of one tick to one context the highest waking context's value is
kept (R121). -/
def State.wake (s : State) (t m n val : Nat) : State :=
  let key := 2048 * t + n
  let later := match SMap.get? s.loop.woke key with
    | some (tk, k) => tk == s.tick && decide (m < k)
    | none => false
  if later && s.ctxEN t n && SMap.has s.loop.pend key then s.countMerged t
  else ({ s with loop.woke := SMap.put s.loop.woke key (s.tick, m) }).trigger t n [val] (s.tick + 1)

/-- A trigger that reaches a tile by its own lath or registers, and with it the tile in SHADOW (R368). -/
def State.triggerBoth (s : State) (t n : Nat) (vals : List Nat) (arr : Nat) : State :=
  s.bothTiles t fun s t => s.trigger t n vals arr

/-- The contexts of a tile bound to a trigger source (R108). -/
def State.ctxBound (s : State) (t src sel : Nat) : List Nat :=
  s.loop.ctx.filterMap fun kv =>
    if kv.1 / 32768 = t ∧ kv.1 % 16 = 1 ∧ bits kv.2 9 3 = src ∧ bits kv.2 12 10 = sel then some (kv.1 % 32768 / 16) else none

/-- A trigger event for every context of a tile bound to it; a tile that is neither active nor in SHADOW runs none (R108, R368). -/
def State.triggerAll (s : State) (t src sel : Nat) (vals : List Nat) (arr : Nat) : State :=
  if s.role t ≠ 0 ∧ !s.shadowTile t then s else (s.ctxBound t src sel).foldl (fun s n => s.trigger t n vals arr) s

/-! ### The program store (R112, R113, R132) -/

def State.stepAt (s : State) (t k : Nat) : Nat := SMap.getD s.loop.prog (4096 * t + k) 0

/-- The step codes of R113. -/
def stepOps : List Nat :=
  [0x00, 0x01, 0x02, 0x03, 0x08, 0x09, 0x0A, 0x0B, 0x0C, 0x10, 0x11, 0x12, 0x13, 0x14, 0x15, 0x16, 0x17, 0x18, 0x19,
   0x1A, 0x1B, 0x1C, 0x20, 0x21, 0x28, 0x29, 0x2A, 0x30, 0x38, 0x39, 0x3A, 0x3B, 0x3C]

/-- Whether the program store accepts a step (R113). -/
def stepOk (w : Nat) : Bool :=
  let op := bits w 0 8
  let b := bits w 14 3
  let st := bits w 32 3
  stepOps.contains op && bits w 24 8 == 0 &&
    !((op == 0x20 || op == 0x28 || op == 0x2A) && b == 7) &&
    !((op == 0x39 || op == 0x28 || op == 0x29) && decide (st > 4)) &&
    !(op == 0x2A && decide (st > 3)) &&
    !(op == 0x21 && decide (sgn 16 (bits w 32 16) > sgn 16 (bits w 48 16)))

/-- Whether a run has a step inside its window. -/
def Run.holds (r : Run) (k : Nat) : Bool := decide (r.prog ≤ k) && decide (k < r.prog + r.nstep)

/-- Whether a dispatch or run of a tile has a step inside its window (R132). A run in its commit stage reads no step and
holds none back: only so do 8 ticks of dispatch and at most 32 pairs keep the 40 ticks of R132 (DEDUCED). -/
def State.stepInUse (s : State) (t k : Nat) : Bool :=
  s.loop.runs.any fun e => e.1 / 16 == t && e.2.any (·.holds k)

/-- A step takes its new value; the store corrects itself with the write (R127). -/
def State.setStep (s : State) (t k v : Nat) : State :=
  { s with
    loop.prog := SMap.put s.loop.prog (4096 * t + k) v
    loop.progBad := SMap.erase s.loop.progBad (4096 * t + k) }

/-- The step that a held write writes. -/
def HeldStep.step (h : HeldStep) : Nat := h.off / 8

/-- A step with a write of 8 bytes or of one of its halves. -/
def HeldStep.merge (h : HeldStep) (old : Nat) : Nat :=
  if h.size = 8 then h.data % 2 ^ 64 else if h.off % 8 = 0 then setBits old 0 32 h.data else setBits old 32 32 h.data

/-- A step as it will stand after the writes that are held for it. -/
def State.stepDue (s : State) (t k : Nat) : Nat :=
  (s.loop.heldSteps.filter fun h => h.tile == t && h.step == k).foldl (fun v h => h.merge v) (s.stepAt t k)

/-- A write to the loop-program window: the cause it records, and whether it is held with its response (R113, R132). It is held
behind earlier writes of its step too. -/
def State.stepWrite (s : State) (h : HeldStep) : State × Nat × Bool :=
  let v := h.merge (s.stepDue h.tile h.step)
  if !stepOk v then (s, 0x20, false)
  else if s.stepInUse h.tile h.step || s.loop.heldSteps.any (fun e => e.tile == h.tile && e.step == h.step) then
    ({ s with loop.heldSteps := s.loop.heldSteps ++ [h] }, 0, true)
  else (s.setStep h.tile h.step v, 0, false)

/-- The first held step write of a tile that no run keeps waiting applies (R132). -/
def State.heldStepApply (s : State) (t : Nat) : State :=
  match s.loop.heldSteps.find? fun h => h.tile == t && !s.stepInUse t h.step with
  | none => s
  | some h =>
    (({ s with loop.heldSteps := s.loop.heldSteps.erase h }).setStep t h.step (h.merge (s.stepAt t h.step))).satF (pgLPRG t)
      F.LPRG_HELD_HELD |>.respond h.req false 0

/-! ### Dispatch (R117, R118, R124) -/

/-- Slices of a tile: STATE 2 is retired. -/
def State.sliceState (s : State) (t k : Nat) : Nat := s.getF (pgLENG t) (F.LENG_SLICE_STATE k)

def State.runsAt (s : State) (t k : Nat) : List Run := SMap.getD s.loop.runs (16 * t + k) []

/-- Whether a slice takes a trigger now: its program stage is free, or will be when the dispatch completes (R117). A run's
stage counts as taken for its whole step window, also where an END comes earlier (DESIGN CHOICE, log 59). -/
def State.sliceFree (s : State) (t k : Nat) : Bool :=
  s.sliceState t k != 2 &&
    (match s.runsAt t k with
     | [] => true
     | [r] => decide (r.enter + (r.nstep + 1) / 2 ≤ s.tick + 8)
     | _ => false)

/-- The slice a trigger takes: an idle one first, by number (R117 leaves the choice to the hardware). -/
def State.pickSlice (s : State) (t : Nat) : Option Nat :=
  match (List.range 16).find? fun k => s.sliceState t k != 2 && (s.runsAt t k).isEmpty with
  | some k => some k
  | none => (List.range 16).find? (s.sliceFree t)

/-- Whether a context has a run that has not committed. -/
def State.ctxBusy (s : State) (t n : Nat) : Bool :=
  (s.loop.runs.any fun e => e.1 / 16 == t && e.2.any fun r => r.ctx == n) ||
    (s.loop.commits.any fun e => e.1 / 16 == t && e.2.any fun r => r.ctx == n)

/-- Whether a held step write keeps a context from dispatch (R132). -/
def State.stepHeldFor (s : State) (t n : Nat) : Bool :=
  let c := s.ctxWord t n 0
  s.loop.heldSteps.any fun h =>
    h.tile == t && decide (bits c 4 12 ≤ h.step) && decide (h.step < bits c 4 12 + bits c 16 7)

/-- The order of pending triggers: class, a returned trigger first, arrival tick, context (R117, R118). -/
def trigBefore (ca : Nat) (a : Trig) (na cb : Nat) (b : Trig) (nb : Nat) : Bool :=
  if ca ≠ cb then ca < cb
  else if a.head ≠ b.head then a.head
  else if a.arr ≠ b.arr then a.arr < b.arr else na < nb

/-- Whether the last run of a context has written back in this tick: it dispatches from the next one on (R109). -/
def State.wroteNow (s : State) (t n : Nat) : Bool := SMap.get? s.loop.wroteAt (2048 * t + n) == some s.tick

/-- The pending trigger the scheduler takes next. -/
def State.nextTrig (s : State) (t : Nat) : Option (Nat × Trig) :=
  s.loop.pend.foldl (fun best kv =>
    let n := kv.1 % 2048
    if kv.1 / 2048 ≠ t ∨ s.tick < kv.2.arr + 1 ∨ s.ctxBusy t n ∨ s.wroteNow t n ∨ s.stepHeldFor t n then best
    else match best with
      | none => some (n, kv.2)
      | some (m, b) => if trigBefore (s.ctxClass t n) kv.2 n (s.ctxClass t m) b m then some (n, kv.2) else best) none

/-- A lane due for replacement is replaced by the slice's spare, which starts with no outvote of its own; where the spare is in use, the slice
retires (R124). -/
def State.laneSpare (s : State) (t k lane : Nat) : State :=
  let b := pgLENG t
  if s.sliceState t k = 0 then
    let s := { s with loop.outvote := SMap.erase s.loop.outvote (64 * t + k * 4 + lane) }
    (((s.setF b (F.LENG_SLICE_STATE k) 1).setF b (F.LENG_SLICE_LANE_OUT k) lane).satF b F.LENG_CNT0_SWAPS).pulse b 1
  else if s.sliceState t k = 1 then
    ((s.setF b (F.LENG_SLICE_STATE k) 2).setF b F.LENG_STAT_IN_SERVICE (s.getF b F.LENG_STAT_IN_SERVICE - 1)).pulse b 2
  else s

/-- Lanes replaced and slices retired before the next dispatch of a slice (R124); the second part tells whether the slice may take the
dispatch. -/
def State.sliceSpare (s : State) (t k : Nat) : State × Bool :=
  let due := SMap.getD s.loop.swapNext (16 * t + k) []
  let s := due.foldl (fun s lane => s.laneSpare t k lane) { s with loop.swapNext := SMap.erase s.loop.swapNext (16 * t + k) }
  (s, s.sliceState t k != 2)

/-- The run that a class-0 trigger abandons: in its program stage, of the lowest class, started last (R118), whether or not the
slice's load buffer holds a next run. -/
def State.victim (s : State) (t : Nat) : Option (Nat × Run) :=
  (List.range 16).foldl (fun best k =>
    match s.runsAt t k with
    | r :: _ =>
      if s.sliceState t k = 2 ∨ r.cls = 0 ∨ r.ended ∨ s.tick < r.start + 8 then best
      else match best with
        | none => some (k, r)
        | some (_, b) => if b.cls < r.cls ∨ (b.cls = r.cls ∧ b.start ≤ r.start) then some (k, r) else best
    | _ => best) none

/-- A run is abandoned and its trigger returns to the head of its class; a newer trigger of its context is kept (R109, R118).
The trigger returns also where EN was cleared during the run: R109 discards a trigger that is pending when EN is cleared, and
of a trigger that a run holds then the spec says nothing (DESIGN CHOICE, log 59). -/
def State.abandon (s : State) (t k : Nat) (r : Run) : State :=
  let s := { s with loop.runs := SMap.put s.loop.runs (16 * t + k) ((s.runsAt t k).drop 1) }
  let s := (s.satF (pgLENG t) F.LENG_CNT2_ABANDON).pulse (pgLENG t) 6
  if SMap.has s.loop.pend (2048 * t + r.ctx) then s.countMerged t
  else { s with loop.pend := SMap.put s.loop.pend (2048 * t + r.ctx) { r.trig with head := true } }

/-- PER in force, period number and counter of each generator of a tile (R113, LDG and LDP). -/
def State.genSnap (s : State) (t : Nat) : List (Nat × Nat × Nat × Nat) :=
  s.edge.gens.filterMap fun kv =>
    if kv.1 / 256 = t then
      some (kv.1 % 256, kv.2.per, s.getF (pgPWMG t (kv.1 % 256)) (F.PWMG_PNUM_PNUM (kv.1 % 16)), s.genCount t (kv.1 % 256))
    else none

/-- The run a slice starts with a context's words as they stand (R108, R117). -/
def State.newRun (s : State) (t n : Nat) (tr : Trig) : Run :=
  let c := s.ctxWord t n 0
  { ctx := n, cls := bits c 1 2, trig := tr, start := s.tick, enter := s.tick + 8, pc := bits c 4 12, prog := bits c 4 12, nstep := bits c 16 7,
    v := (tr.vals ++ List.replicate 8 0).take 8, y0 := 0, y1 := 0, z := false, n := false, limf := false, stale := false,
    sat := false, lim := false, w := (List.range 16).map (s.ctxWord t n), wrote := 0, cmpw := [], stw := [], wake := [],
    evt := [], gens := s.genSnap t, pairs := 0, ended := false, fault := 0, faultStep := 0 }

/-- Whether the scheduler of a tile dispatches: enabled, active with its gate open, or in SHADOW, not held by a freeze (R131, R356, R368). -/
def State.dispatches (s : State) (t : Nat) : Bool :=
  s.flag (pgLENG t) F.LENG_CTRL_DISP_EN && (s.role t == 0 || s.shadowTile t) && !s.pageHeld (pgLENG t) && !s.gateShut t

/-- The slice for the next trigger after retirements, by at most `fuel` attempts. -/
def State.readySlice : Nat → State → Nat → State × Option Nat
  | 0, s, _ => (s, none)
  | fuel + 1, s, t =>
    match s.pickSlice t with
    | none => (s, none)
    | some k =>
      let r := s.sliceSpare t k
      if r.2 then (r.1, some k) else State.readySlice fuel r.1 t

/-- The run that a class-0 trigger abandons, after the replacements and retirements that are due at the next dispatch of its
slice (R118, R124), by at most `fuel` attempts. -/
def State.readyVictim : Nat → State → Nat → State × Option (Nat × Run)
  | 0, s, _ => (s, none)
  | fuel + 1, s, t =>
    match s.victim t with
    | none => (s, none)
    | some (k, r) =>
      let u := s.sliceSpare t k
      if u.2 then (u.1, some (k, r)) else State.readyVictim fuel u.1 t

/-- A trigger is dispatched to a slice (R117): its wait is recorded. -/
def State.place (s : State) (t n : Nat) (tr : Trig) (k : Nat) : State :=
  let s := { s with
    loop.pend := SMap.erase s.loop.pend (2048 * t + n)
    loop.runs := SMap.put s.loop.runs (16 * t + k) (s.runsAt t k ++ [s.newRun t n tr]) }
  s.maxF (pgLENG t) (F.LENG_WAIT_WAITMAX (s.ctxClass t n)) (s.tick - (tr.arr + 1))

/-- Whether a word of a context has been written in this tick (R126). -/
def State.ctxWrittenNow (s : State) (t n w : Nat) : Bool := s.loop.ctxNow.1 == s.tick && s.loop.ctxNow.2.contains (ctxKey t n w)

/-- A word of a context has no majority: EN is cleared in all copies (R126). -/
def State.ctxUncorr (s : State) (t n : Nat) : State :=
  (s.setCtxWord t n 0 (setBit (s.ctxWord t n 0) 0 false)).satF (pgCSTO t) F.CSTO_SCRUB_UNCORR

/-- One selection of the scheduler (R117, R118); `badWord` below 16 names a word that the voted read finds without majority
(R126). -/
def State.dispatch (s : State) (t badWord : Nat) : State :=
  if !s.dispatches t then s
  else match s.nextTrig t with
    | none => s
    | some (n, tr) =>
      if badWord < 16 then s.ctxUncorr t n
      else
        match State.readySlice 17 s t with
        | (s, some k) => s.place t n tr k
        | (s, none) =>
          if s.ctxClass t n = 0 ∧ s.flag (pgLENG t) F.LENG_CTRL_ABANDON then
            match State.readyVictim 17 s t with
            | (s, some (k, r)) => (s.abandon t k r).place t n tr k
            | (s, none) => s
          else s

/-! ### Loop steps (R110 to R115) -/

/-- Fields of a step (R112). -/
def stD (w : Nat) : Nat := bits w 8 3
def stA (w : Nat) : Nat := bits w 11 3
def stB (w : Nat) : Nat := bits w 14 3
def stRND (w : Nat) : Nat := bits w 17 2
def stNOSAT (w : Nat) : Bool := bit w 19
def stSH (w : Nat) : Nat := bits w 20 4
def stIMM (w : Nat) : Nat := bits w 32 32

/-- A V register, as a word and as a signed Q31 value. -/
def Run.reg (r : Run) (i : Nat) : Nat := r.v.getD i 0
def Run.sreg (r : Run) (i : Nat) : Int := sgn 32 (r.reg i)

/-- STATE k of the working copy. -/
def Run.st (r : Run) (k : Nat) : Int := sgn 32 (r.w.getD (10 + k) 0)

/-- A result written to a V register: Z and N follow it. -/
def Run.setV (r : Run) (d x : Nat) : Run :=
  { r with v := r.v.set d x, z := x == 0, n := bit x 31 }

/-- A state word of the working copy written. -/
def Run.setSt (r : Run) (k : Nat) (x : Int) : Run :=
  { r with w := r.w.set (10 + k) (wrap 32 x), wrote := setBit r.wrote (10 + k) true }

/-- The SAT flag raised where a result saturated. -/
def Run.orSat (r : Run) (b : Bool) : Run := { r with sat := r.sat || b }

/-- A Q62 value divided by 2^31 by a rounding mode: nearest with ties up, convergent, floor, toward zero (R112). -/
def rnd31 (mode : Nat) (x : Int) : Int :=
  match mode with
  | 0 => asr (x + 2 ^ 30) 31
  | 1 =>
    let q := asr x 31
    let rest := x - 2 ^ 31 * q
    if rest > 2 ^ 30 then q + 1 else if rest < 2 ^ 30 then q else if q % 2 = 0 then q else q + 1
  | 2 => asr x 31
  | _ => if x ≥ 0 then asr x 31 else -(asr (-x) 31)

/-- A sum or a rounded product taken to 32 bits: saturated, or wrapped with NOSAT (R114). -/
def q31 (nosat : Bool) (x : Int) : Int × Bool :=
  if nosat then (sgn 32 (wrap 32 x), false) else (satS 32 x, ovfS 32 x)

/-- rnd() of a step. -/
def stRnd (w : Nat) (x : Int) : Int × Bool := q31 (stNOSAT w) (rnd31 (stRND w) x)

/-- A signed result written with its saturation. -/
def Run.put (r : Run) (d : Nat) (x : Int × Bool) : Run := (r.setV d (wrap 32 x.1)).orSat x.2

/-- The accumulator with number `k`. -/
def Run.acc (r : Run) (k : Nat) : Int := if k = 0 then r.y0 else r.y1
def Run.setAcc (r : Run) (k : Nat) (x : Int) : Run :=
  (if k = 0 then { r with y0 := satS 72 x } else { r with y1 := satS 72 x }).orSat (ovfS 72 x)

/-- The run after a fault (R116). -/
def Run.fail (r : Run) (cause : Nat) : Run := { r with ended := true, fault := cause, faultStep := r.pc, pairs := r.pairs + 1 }

/-- The run after a step that does not jump: the second step of a pair ends the pair; the window may end the run (R110). -/
def Run.next (r : Run) : Run :=
  if r.ended then r
  else
    let last := r.pc + 1 ≥ r.prog + r.nstep
    let odd := r.pc % 2 = 1
    { r with pc := r.pc + 1, pairs := if odd ∨ last then r.pairs + 1 else r.pairs, ended := decide last }

/-- A taken jump: only forward, to an even address above its own pair and inside the window (R111). -/
def Run.jump (r : Run) (target : Nat) : Run :=
  if target % 2 = 0 ∧ r.pc / 2 * 2 < target ∧ r.holds target then { r with pc := target, pairs := r.pairs + 1 }
  else r.fail 1

/-- Clamping steps: LIMF follows them (R114). -/
def Run.limit (r : Run) (d : Nat) (x : Int) (lim : Bool) : Run :=
  let r := r.setV d (wrap 32 x)
  { r with limf := lim, lim := r.lim || lim }

/-- A staging step beyond its bound ends the run in fault LIMIT (R116). -/
def Run.stage (r : Run) (room : Bool) (r' : Run) : Run := if room then r'.next else r.fail 2

/-- A step with a double-bit error is found: LPRG_ERR_LAST records it, and it is counted where it had not been found (R127). -/
def State.stepUncorr (s : State) (t k : Nat) : State :=
  let b := pgLPRG t
  let s := if SMap.getD s.loop.progBad (4096 * t + k) 0 = 1 then s else s.satF b F.LPRG_STAT_UNCORR
  ({ s with loop.progBad := SMap.put s.loop.progBad (4096 * t + k) 1 }.setF b F.LPRG_ERR_LAST_STEP k).setFlag b
    F.LPRG_ERR_LAST_VALID true

/-- A step with a single-bit error is corrected, repaired and counted (R127). -/
def State.stepRepair (s : State) (t k : Nat) : State :=
  ({ s with loop.progBad := SMap.erase s.loop.progBad (4096 * t + k) }).satF (pgLPRG t) F.LPRG_STAT_CORRECTED

/-- The store's read of a step for a run: the second part tells that it is uncorrectable (R127). -/
def State.stepRead (s : State) (t k : Nat) : State × Bool :=
  match SMap.get? s.loop.progBad (4096 * t + k) with
  | none => (s, false)
  | some e => if e = 2 then (s.stepRepair t k, false) else (s.stepUncorr t k, true)

/-- The run `r` of a slice has become `r'` by a step: a pair that is complete takes a cycle, and a run that has ended goes to the commit stage and
leaves the program stage to the next (R110, R117, R119). -/
def State.stepDone (s : State) (t k : Nat) (r : Run) (rest : List Run) (r' : Run) : State :=
  let r' := if r'.pairs = r.pairs then r' else { r' with enter := s.tick + 1 - r'.pairs }
  if r'.ended then
    let rest := match rest with
      | x :: xs => { x with enter := max x.enter (s.tick + 1) } :: xs
      | [] => []
    { s with
      loop.runs := SMap.put s.loop.runs (16 * t + k) rest
      loop.commits := SMap.put s.loop.commits (16 * t + k) (SMap.getD s.loop.commits (16 * t + k) [] ++ [r']) }
  else { s with loop.runs := SMap.put s.loop.runs (16 * t + k) (r' :: rest) }

/-- The run of a slice at a step, if the slice may execute it now: the step, its run and the state with the run replaced. A
step of an uncorrectable word faults (R116, R127). -/
def State.runStep (s : State) (t k op : Nat) (f : Run → Nat → Run) : State :=
  match s.runsAt t k with
  | [] => s
  | r :: rest =>
    if s.tick < r.enter + r.pairs ∨ bits (s.stepAt t r.pc) 0 8 ≠ op then s
    else
      let e := s.stepRead t r.pc
      e.1.stepDone t k r rest (if e.2 then r.fail 3 else f r (e.1.stepAt t r.pc))

/-! ### Commit (R119 to R125) -/

/-- The first fault of a tile's runs is recorded (LENG_FAULT). -/
def State.lengFault (s : State) (t n cause step : Nat) : State :=
  let b := pgLENG t
  let s := s.satF b F.LENG_CNT2_FAULTS
  if s.flag b F.LENG_FAULT_VALID then s
  else
    (((s.setF b F.LENG_FAULT_LOCAL n).setF b F.LENG_FAULT_CAUSE cause).setF b F.LENG_FAULT_STEP step).setFlag b
      F.LENG_FAULT_VALID true

/-- Lanes outvoted on an item of a run (R123, R124). -/
def State.outvoted (s : State) (t k lane : Nat) : State :=
  let b := pgLENG t
  let s := ((s.satF b F.LENG_CNT0_DISAGREE).satF b (F.LENG_SLICE_DISAG k)).pulse b 0
  let key := 64 * t + k * 4 + lane
  let s := match SMap.get? s.loop.outvote key with
    | some t0 =>
      let due := SMap.getD s.loop.swapNext (16 * t + k) []
      if s.tick - t0 ≤ 2000000 ∧ !due.contains lane then
        { s with loop.swapNext := SMap.put s.loop.swapNext (16 * t + k) (due ++ [lane]) }
      else s
    | none => s
  { s with loop.outvote := SMap.put s.loop.outvote key s.tick }

/-- Whether a commit now has missed the cut-off of the reload of generator `g` that ends the period in which its run was dispatched, at `start`
(R120): that reload has come since, or it is at most 2 ticks away. Before the first reload there is no period (R134). -/
def State.missed (s : State) (t g start : Nat) : Bool :=
  s.genRuns t g && decide ((s.gen t g).begun ≤ start) &&
    (decide (start < (s.gen t g).origin) || decide (s.nextReload t g ≤ s.tick + 2))

/-- A staged compare on its way to the shadow, where it arrives 2 ticks on; a commit of a lower context in the same tick
loses (R121, R139). Of two compares of one run to one field the later step's is kept, and the earlier counts as overwritten: R121 speaks of
several commits (DESIGN CHOICE, log 17). -/
def State.commitCmp (s : State) (t n : Nat) (c : Nat × Nat × Nat) : State :=
  let g := c.1
  let x := s.gen t g
  match x.shPend.find? fun e => e.1 == s.tick + 2 && e.2.1 == c.2.1 with
  | some e =>
    let s := s.satF (pgLENG t) F.LENG_CNT2_OVERLAP
    if e.2.2.2 ≤ n then
      let rest := x.shPend.filter fun e' => !(e'.1 == s.tick + 2 && e'.2.1 == c.2.1)
      s.setGen t g { x with shPend := rest ++ [(s.tick + 2, c.2.1, c.2.2, n)] }
    else s
  | none => s.setGen t g { x with shPend := x.shPend ++ [(s.tick + 2, c.2.1, c.2.2, n)] }

/-- A shared value goes on its path: it takes effect in every copy 6 ticks later (R122). The path applies writes in order
of tick, core writes before commits, and commits by logical tile and context (`ord`). -/
def shvInsert (e : Nat × Nat × Nat × Nat × Nat) :
    List (Nat × Nat × Nat × Nat × Nat) → List (Nat × Nat × Nat × Nat × Nat)
  | [] => [e]
  | x :: xs =>
    if e.2.2.2.1 < x.2.2.2.1 ∨ (e.2.2.2.1 = x.2.2.2.1 ∧ e.2.2.2.2 < x.2.2.2.2) then e :: x :: xs else x :: shvInsert e xs

def State.sendShared (s : State) (c idx val ord : Nat) : State :=
  { s with loop.shv := shvInsert (c, idx, val % 2 ^ 32, s.tick + 6, ord) s.loop.shv }

/-- Shared values of a cluster that are due take effect in all ten tiles (R122). -/
def State.applyShared (s : State) (c : Nat) : State :=
  let due := s.loop.shv.filter fun e => e.1 == c && decide (e.2.2.2.1 ≤ s.tick)
  let s := { s with loop.shv := s.loop.shv.filter fun e => !(e.1 == c && decide (e.2.2.2.1 ≤ s.tick)) }
  due.foldl (fun s e => (List.range 10).foldl (fun s j => s.setF (pgLENG (10 * c + j)) (F.LENG_SHV_VALUE e.2.1) e.2.2.1) s) s

/-- Bytes of the words a run writes back. -/
def wordsMask (wrote : Nat) : Nat :=
  (List.range 16).foldl (fun m w => if bit wrote w then m + 15 * 2 ^ (4 * w) else m) 0

/-- Staged presets of this run's boundary that its write-back overwrites (R28 step 3, R31). -/
def State.presetLost (s : State) (t : Nat) (r : Run) (wrote : Nat) : State :=
  let st := s.stageOf t
  let hit := fun (x : Nat × Nat × Nat) => x.1 == r.ctx && decide (r.start < x.2.1) && x.2.2 &&& wordsMask wrote != 0
  let lost := (st.presets.filter hit).length
  if lost = 0 then s
  else
    ((((s.setStage t { st with presets := st.presets.filter fun x => !hit x }).satF (pgCSTO t) F.CSTO_BND_STAT_PRESET_LOST
      lost).setF (pgCSTO t) F.CSTO_LOST_LAST_LOCAL r.ctx).setFlag (pgCSTO t) F.CSTO_LOST_LAST_VALID true)

/-- CTX_STAT after a run (R106). -/
def ctxStat (old : Nat) (miss sat lim fault : Bool) : Nat :=
  (bits old 0 16 + 1) % 2 ^ 16 + 2 ^ 16 * miss.toNat + 2 ^ 17 * sat.toNat + 2 ^ 18 * lim.toNat + 2 ^ 19 * fault.toNat +
    2 ^ 24 * min 255 (bits old 24 8 + miss.toNat)

/-- The commit of a run that every item carried with a majority and that did not fault (R119 to R122). Where it misses the cut-off of several
generators, LENG_MISS_LAST names that of the compare staged first (DESIGN CHOICE, log 17). -/
def State.commitRun (s : State) (t : Nat) (r : Run) : State :=
  let b := pgLENG t
  let lt := s.getF pgDROLE (F.ROLE_PHYS_LOGICAL t)
  let missGen := (r.cmpw.find? fun c => s.missed t c.1 r.start).map (·.1)
  let s := r.cmpw.foldl (fun s c => s.commitCmp t r.ctx c) s
  let out := s.role t == 0
  let s := if out then r.stw.foldl (fun s x => s.sendShared (t / 10) x.1 x.2 (1 + 2048 * lt + r.ctx)) s else s
  let s := r.wake.foldl (fun s x => s.wake t r.ctx x.1 x.2) s
  let s := if out then r.evt.foldl (fun s n => s.produce (lathTile t) (528 + n)) s else s
  let s := match missGen with
    | some g =>
      ((((s.satF b F.LENG_CNT1_MISSES).setF b F.LENG_MISS_LAST_LOCAL r.ctx).setF b F.LENG_MISS_LAST_GEN g).setFlag b
        F.LENG_MISS_LAST_VALID true).pulse b 4
    | none => s
  let s := s.presetLost t r (setBit r.wrote 15 true)
  let s := (List.range 5).foldl
    (fun s k => if bit r.wrote (10 + k) then s.setCtxWord t r.ctx (10 + k) (r.w.getD (10 + k) 0) else s) s
  s.setCtxWord t r.ctx 15 (ctxStat (s.ctxWord t r.ctx 15) missGen.isSome r.sat r.lim false)

/-- The vote and the commit of the oldest run in a slice's commit stage, at or after its commit tick (R119, R123 to R125).
`lanes` names the lanes outvoted on an item; `nomaj` tells that an item has no majority. -/
def State.runCommit (s : State) (t k lanes : Nat) (nomaj : Bool) : State :=
  match SMap.getD s.loop.commits (16 * t + k) [] with
  | [] => s
  | r :: rest =>
    if s.tick < r.enter + r.pairs + 7 then s
    else
      let b := pgLENG t
      let s := ({ s with
        loop.commits := SMap.put s.loop.commits (16 * t + k) rest
        loop.wroteAt := SMap.put s.loop.wroteAt (2048 * t + r.ctx) s.tick }).incF b F.LENG_RUNS_RUNS
      let s := (List.range 3).foldl (fun s l => if bit lanes l then s.outvoted t k l else s) s
      if nomaj then ((s.satF b F.LENG_CNT0_NOMAJ).lengFault t r.ctx 4 0).pulse b 3
      else if r.fault ≠ 0 then
        let s := (s.lengFault t r.ctx r.fault r.faultStep).pulse b 5
        let s := s.presetLost t r (2 ^ 15)
        s.setCtxWord t r.ctx 15 (ctxStat (s.ctxWord t r.ctx 15) false r.sat r.lim true)
      else s.commitRun t r

end Sys2Proof.Machine
end

