-- ==== Sys2Proof/Machine/RingOps.lean ====
section
/-! DEFINITION. Machine/RingOps.lean: the device's end of the cell links: the ring transmitters and
receivers, management requests, calibration, enumeration, loss and join (chapter 07). -/

namespace Sys2Proof.Machine

/-- Whether a frame is newer than the last one of its stream (R177). -/
def newer (last : Option Nat) (seq : Nat) : Bool :=
  match last with
  | none => true
  | some l => decide (1 ≤ (seq + 65536 - l) % 65536) && decide ((seq + 65536 - l) % 65536 ≤ 32767)

/-! ### Rings -/

def State.ring (s : State) (r : Nat) : RingSt := SMap.getD s.link.rings r {}

def State.setRing (s : State) (r : Nat) (x : RingSt) : State := { s with link.rings := SMap.put s.link.rings r x }

def RingSt.queue (x : RingSt) (d : Nat) : List QItem := if d = 0 then x.cw else x.ccw

def RingSt.setQueue (x : RingSt) (d : Nat) (q : List QItem) : RingSt :=
  if d = 0 then { x with cw := q } else { x with ccw := q }

/-- The frame partly received at the receiver of direction `d`. -/
def RingSt.rx (x : RingSt) (d : Nat) : Option (Nat × List Nat) := if d = 0 then x.rxCw else x.rxCcw

def RingSt.setRx (x : RingSt) (d : Nat) (p : Option (Nat × List Nat)) : RingSt :=
  if d = 0 then { x with rxCw := p } else { x with rxCcw := p }

def RingSt.place (x : RingSt) (p : Nat) : PosSt := SMap.getD x.pos p {}

def RingSt.setPlace (x : RingSt) (p : Nat) (v : PosSt) : RingSt := { x with pos := SMap.put x.pos p v }

/-- The next SEQ of one of the sender's streams (R177). DESIGN CHOICE (log entry 63): the first SEQ of a stream, after reset or a
BLK_RST, is 0. -/
def State.nextSeq (s : State) (r key : Nat) : Nat × State :=
  let x := s.ring r
  let q := SMap.getD x.seqs key 0
  (q, s.setRing r { x with seqs := SMap.put x.seqs key ((q + 1) % 65536) })

/-- The place of a frame in its queue: behind every frame that is served before it (R180). -/
def qInsert (i : QItem) : List QItem → List QItem
  | [] => [i]
  | j :: q =>
    let key := fun (k : QItem) => if k.cls = 1 then 1024 * k.at_ + k.frame.pos * 4 + k.frame.leg else 0
    if i.cls < j.cls ∨ (i.cls = j.cls ∧ key i < key j) then i :: j :: q else j :: qInsert i q

/-- The code of a ring in GRP_DUAL while the group operates (R447): 0 not dual-homed, 1 CW is this member's, 2 CCW. -/
def State.dualCode (s : State) (r : Nat) : Nat :=
  if s.flag pgGRPL F.GRP_CTRL_EN then bits (s.getF pgGRPL (F.GRP_DUAL_V (r / 16))) (2 * (r % 16)) 2 else 0

/-- Whether this member drives a ring: it drives a partition with a logical tile of the ring's cluster (R447). -/
def State.drivesRing (s : State) (r : Nat) : Bool :=
  (List.range 32).any fun lt => s.phys lt / 10 == r / 32 &&
    (s.partsOf lt).any fun q => s.flag pgGRPL (F.grpDrive q)

/-- Whether a dual-homed ring keeps a frame from leaving in a direction (R447). -/
def State.dualHolds (s : State) (r d ty : Nat) : Bool :=
  let c := s.dualCode r
  (c == 1 && d == 1) || (c == 2 && d == 0) ||
    (c != 0 && (ty == 1 || ty == 3 || ty == 8) && !s.drivesRing r)

/-- A frame handed to the transmitter of direction `d`. A set that finds its queue full is not sent (R180). A frame of another class is
queued all the same, behind or before the 128 (DESIGN CHOICE, log entry 21). -/
def State.enqueueFrame (s : State) (r d : Nat) (i : QItem) : State :=
  let x := s.ring r
  if s.dualHolds r d i.frame.ty then s
  else if i.cls = 1 ∧ (x.queue d).length ≥ 128 then
    (s.satF (pgRING r) F.RING_CNT2_TX_OVF).pulse (pgRING r) 7
  else s.setRing r (x.setQueue d (qInsert i (x.queue d)))

def State.enqueueBoth (s : State) (r : Nat) (i : QItem) : State := (s.enqueueFrame r 0 i).enqueueFrame r 1 i

/-- The sets of a leg still queued are removed and counted, a set that waits in both directions once (R180). -/
def State.purge (s : State) (r pos leg : Nat) : State :=
  let gone := fun (i : QItem) => i.cls == 1 && i.frame.pos == pos && i.frame.leg == leg
  let x := s.ring r
  let a := x.cw.filter gone
  let n := a.length + ((x.ccw.filter gone).filter fun i => !(a.any fun j => j.frame.seq == i.frame.seq)).length
  (s.setRing r { x with cw := x.cw.filter fun i => !gone i, ccw := x.ccw.filter fun i => !gone i }).satF (pgRING r)
    F.RING_CNT2_PURGED n

/-- Node id of a position as the kiln log and the bindings number it (R26). -/
def nodeId (r pos : Nat) : Nat := 32 * r + pos

/-- A block command for a leg: queued in both directions ahead of every set, sent again at 2 us and at 4 us with the same
SEQ (R180). `gen` is the device's number of the generator. -/
def State.blockCommand (s : State) (r pos leg gen : Nat) : State :=
  let s := s.purge r pos leg
  let q := s.nextSeq r (pos * 4 + leg)
  let f : Frame := { ty := 1, pos := pos, leg := leg, seq := q.1, flags := 1 }
  let s := q.2.enqueueBoth r ⟨0, s.tick, f, false⟩
  let s := s.setRing r { s.ring r with again := (s.ring r).again ++ [(s.tick + 4000, f), (s.tick + 8000, f)] }
  s.klogRecord (r / 32) 5 0 (nodeId r pos) s.count [2 ^ 8 * leg, 0, gen, 0]

/-- A block command that is due is queued again (R180). -/
def State.blockAgain (s : State) (r : Nat) : State :=
  let x := s.ring r
  match x.again.find? fun e => e.1 ≤ s.tick with
  | none => s
  | some e => (s.setRing r { x with again := x.again.erase e }).enqueueBoth r ⟨0, s.tick, e.2, false⟩

/-- The data blocks of a set (R179). Entries are (offset in fractions, output, level). -/
def setBlocks (base per pnum : Nat) (ents : List (Nat × Nat × Bool)) : List Nat :=
  base % 2 ^ 64 :: (per % 2 ^ 27 + 2 ^ 32 * (pnum % 2 ^ 32)) ::
    ents.map fun e => e.1 % 2 ^ 32 + 2 ^ 32 * e.2.1 + 2 ^ 33 * e.2.2.toNat

/-- An edge set handed to a ring transmitter: an EDGE frame holds at most 8 entries (R178); the log records each entry. -/
def State.handSet (s : State) (r pos leg gen base per pnum : Nat) (ents : List (Nat × Nat × Bool)) : State :=
  let ents := ents.take 8
  let s := ents.foldl (fun s e =>
    s.klogRecord (r / 32) 4 0 (nodeId r pos) (base + e.1 / 32)
      [e.1 % 32 + 2 ^ 5 * e.2.2.toNat + 2 ^ 6 * e.2.1 + 2 ^ 8 * leg, pnum % 2 ^ 32, gen, 0]) s
  if !s.flag (pgRING r) F.RING_CTRL_EDGE_EN then s
  else
    let q := s.nextSeq r (pos * 4 + leg)
    q.2.enqueueBoth r ⟨1, s.tick, { ty := 1, pos := pos, leg := leg, seq := q.1, blocks := setBlocks base per pnum ents },
      false⟩

/-- Fifths of a tick that a frame takes on the line (R171, R173). -/
def frameFifths (f : Frame) : Nat := 132 * (f.blocks.length + 2)

/-- Block 0 of a timed frame carries the tick of its SOF (R185, R187). -/
def stampFrame (f : Frame) (now : Nat) : Frame :=
  if f.ty = 5 ∨ f.ty = 6 then { f with blocks := now % 2 ^ 64 :: f.blocks.drop 1 } else f

/-- Entries of a set whose lead is below LEAD (R190). -/
def shortLeads (f : Frame) (lead : Nat) : Nat :=
  ((f.blocks.drop 2).filter fun b => decide (b % 2 ^ 32 / 32 < lead)).length

/-- The lane that transmits direction `d` of a ring is lane 2k + d (R168). -/
def txLane (r d : Nat) : Nat := 2 * r + d
/-- The lane that receives direction `d` (R168). -/
def rxLane (r d : Nat) : Nat := 2 * r + (1 - d)

/-- Whether a lane is held in reset (R195). -/
def State.laneReset (s : State) (l : Nat) : Bool := s.flag (pgSERD l) (F.SERD_LCTRL_RST (l % 32))

/-- Fifths of a tick from the start of a tick to the first block boundary at or after it: a block lasts 132 fifths, and every fifth
boundary, one tick in 132, falls on a tick boundary (R171). -/
def RingSt.toBoundary (x : RingSt) (tick : Nat) : Nat := (5 * (x.grid % 132) + 660 - 5 * (tick % 132)) % 132

/-- A frame may start in a tick at the block boundary that falls in it; a TIME or an ECHO frame only where that boundary is the tick's
own (R171, R185, R187). -/
def RingSt.mayStart (x : RingSt) (tick ty : Nat) : Bool :=
  if ty = 5 ∨ ty = 6 then x.toBoundary tick == 0 else decide (x.toBoundary tick < 5)

/-- Blocks that the transmitter of direction `d` has begun since the SOF of its last frame, with that frame (R171). -/
def State.pinSent (s : State) (r d : Nat) : Option (Sent × Nat) :=
  let x := s.ring r
  match (if d = 0 then x.lastCw else x.lastCcw) with
  | some f => if 5 * s.tick < 5 * f.at_ + x.toBoundary f.at_ then none
    else some (f, (5 * s.tick - (5 * f.at_ + x.toBoundary f.at_)) / 132)
  | none => none

/-- The block that the transmitter of direction `d` sends at the start of this tick: IDLE where there is nothing else to send (R172). -/
def State.pinBlock (s : State) (r d : Nat) : LineBlock :=
  match s.pinSent r d with
  | some (f, n) => f.block n
  | none => idleLine

/-- The same block on the transmit pin: scrambled behind the line bits before it, and inverted where TX_INV says so (R171). Before the
first frame those bits are what `prev` says, for no rule gives them. -/
def State.pinLine (s : State) (r d prev : Nat) : LineBlock :=
  let b := match s.pinSent r d with
    | some (f, n) => f.lineBlock n
    | none => onLine prev idleLine
  let l := txLane r d
  if s.flag (pgSERD l) (F.SERD_LCTRL_TX_INV (l % 32)) then inverted b else b

/-- A block of the line as the receiver of lane `l` makes it out: by its polarity, and descrambled (R171). -/
def State.linePlain (s : State) (l : Nat) (b : LineBlock) : LineBlock :=
  plainBlock (if s.flag (pgSERD l) (F.SERD_LCTRL_RX_INV (l % 32)) then inverted b else b)

/-- The transmitter of direction `d` starts its next frame at a block boundary (R171, R180); while EDGE_EN is 0 no EDGE frame is sent.
A TIME or ECHO frame at the head waits for its boundary (DEDUCED, log entry 64). -/
def State.transmit (s : State) (r d : Nat) : State :=
  let x := s.ring r
  let busy := if d = 0 then x.busyCw else x.busyCcw
  let edge := s.flag (pgRING r) F.RING_CTRL_EDGE_EN
  if !s.flag (pgRING r) F.RING_CTRL_EN ∨ s.laneReset (txLane r d) ∨ 5 * s.tick + x.toBoundary s.tick < busy then s
  else match (x.queue d).find? fun i => edge || i.frame.ty != 1 with
    | none => s
    | some i =>
      if !x.mayStart s.tick i.frame.ty then s else
      let f := stampFrame i.frame s.count
      let fin := 5 * s.tick + x.toBoundary s.tick + frameFifths f
      let x := x.setQueue d ((x.queue d).erase i)
      -- the copy in the other queue has its short leads counted with this one
      let x := x.setQueue (1 - d) ((x.queue (1 - d)).map fun j =>
        if j.frame = i.frame ∧ j.cls = i.cls then { j with counted := true } else j)
      let q := s.draw 58
      let x := if d = 0 then { x with busyCw := fin, lastCw := some (f.sent 0 s.tick q.1) }
        else { x with busyCcw := fin, lastCcw := some (f.sent 1 s.tick q.1) }
      let s := q.2.setRing r x
      let lead := s.getF (pgRING r) F.RING_LEAD_LEAD
      let n := if i.cls = 1 ∧ lead ≠ 0 ∧ !i.counted then shortLeads f lead else 0
      if n = 0 then s else (s.satF (pgRING r) F.RING_CNT1_SHORT_LEAD n).raiseIrq (pgRING r) 6

/-! ### Management requests (R183, R184) -/

def State.ringLevels (s : State) (r : Nat) : State :=
  let x := s.ring r
  (s.setF (pgRING r) F.RING_MSTAT_REQ_LEVEL x.reqs.length).setF (pgRING r) F.RING_MSTAT_RSP_LEVEL x.rsp.length

/-- A response enters the response queue (R184). -/
def State.queueRsp (s : State) (r : Nat) (q : Mreq) (status data : Nat) : State :=
  let lo := q.addr + 2 ^ 12 * q.pos + 2 ^ 17 * q.wr.toNat + 2 ^ 18 * status + 2 ^ 23 + 2 ^ 24 * q.tag
  ((s.setRing r { s.ring r with rsp := (s.ring r).rsp ++ [(lo, data % 2 ^ 32)] }).ringLevels r).pulse (pgRING r) 3

/-- A request enters the request queue; the cause it records (R184). -/
def State.enqueueReq (s : State) (r lo hi : Nat) : State × Nat :=
  let x := s.ring r
  if x.reqs.length ≥ 16 then (s, 0x21)
  else ((s.setRing r { x with
    held := none
    reqs := x.reqs ++ [⟨bits lo 0 12, bits lo 12 5, bit lo 17, bits lo 24 8, hi % 2 ^ 32, 0⟩] }).ringLevels r, 0)

def State.mreqWrite (s : State) (r off size v : Nat) : State × Nat :=
  if size = 8 then s.enqueueReq r (v % 2 ^ 32) (v / 2 ^ 32)
  else if off = 0x78 then (s.setRing r { s.ring r with held := some v }, 0)
  else s.enqueueReq r ((s.ring r).held.getD 0) v

/-- The head response leaves its queue: its two words, 0 where the queue is empty (R184). -/
def State.popRsp (s : State) (r : Nat) : Nat × Nat × State :=
  let x := s.ring r
  match x.rsp with
  | [] => (0, 0, s)
  | (lo, hi) :: rest => (lo, hi, (s.setRing r { x with rsp := rest }).ringLevels r)

/-- Whether a position is LOST: its bit stands, and it has not begun to join again (R193, R194). -/
def State.lost (s : State) (r p : Nat) : Bool :=
  s.fbit (pgRING r) F.RING_LOST_LOST p && !s.fbit (pgRING r) F.RING_UP_UP p && !s.fbit (pgRING r) F.RING_JOIN_JOIN p

/-- DEPTH of a position, as its NODE_CAPS gives it: what is not in flight is available (R184, R194). -/
def State.setDepth (s : State) (r p n : Nat) : State :=
  let b := pgRING r
  (s.setF b (F.RING_CRED_DEPTH p) n).setF b (F.RING_CRED_AVAIL p) (n - s.getF b (F.RING_CRED_INFLIGHT p))

/-- A credit moves between AVAIL and INFLIGHT; a position that declares no depth yet uses none (R184, R194). -/
def State.credit (s : State) (r p : Nat) (take : Bool) : State :=
  let b := pgRING r
  let av := s.getF b (F.RING_CRED_AVAIL p)
  let fl := s.getF b (F.RING_CRED_INFLIGHT p)
  if s.getF b (F.RING_CRED_DEPTH p) = 0 then s
  else if take then (s.setF b (F.RING_CRED_AVAIL p) (av - 1)).setF b (F.RING_CRED_INFLIGHT p) (fl + 1)
  else if fl = 0 then s
  else (s.setF b (F.RING_CRED_INFLIGHT p) (fl - 1)).setF b (F.RING_CRED_AVAIL p) (s.getF b (F.RING_CRED_DEPTH p) - (fl - 1))

def State.hasCredit (s : State) (r : Nat) (q : Mreq) : Bool :=
  s.getF (pgRING r) (F.RING_CRED_DEPTH q.pos) == 0 && q.addr == 4 || s.getF (pgRING r) (F.RING_CRED_AVAIL q.pos) != 0

/-- A request is issued as an MREQ frame in both directions (R183). -/
def State.issueReq (s : State) (r : Nat) (q : Mreq) : State :=
  let n := s.nextSeq r (128 + q.pos)
  let w := q.addr + 2 ^ 12 * q.wr.toNat + 2 ^ 16 * q.tag + 2 ^ 32 * q.data
  let f : Frame := { ty := 3, pos := q.pos, seq := n.1, blocks := [w] }
  let s := n.2.credit r q.pos true
  let s := s.setRing r { s.ring r with out := (s.ring r).out ++ [⟨n.1, q, s.tick⟩] }
  s.enqueueBoth r ⟨3, s.tick, f, false⟩

/-- The next request is issued, or the head ends as LOST (R184). The device's own requests (R187, R194) go first. -/
def State.mreqIssue (s : State) (r : Nat) : State :=
  let x := s.ring r
  match x.own.find? (s.hasCredit r) with
  | some q => (s.setRing r { x with own := x.own.erase q }).issueReq r q
  | none =>
    match x.reqs with
    | [] => s
    | q :: rest =>
      let soft := (x.out.filter fun o => o.req.kind == 0).length
      if s.lost r q.pos ∨ q.pos ≥ s.getF (pgRING r) F.RING_CTRL_NODES then
        if x.rsp.length + soft ≥ 16 then s else (s.setRing r { x with reqs := rest }).queueRsp r q 4 0
      else if s.hasCredit r q ∧ x.rsp.length + soft + 1 ≤ 16 then
        ((s.setRing r { x with reqs := rest }).ringLevels r).issueReq r q
      else s

/-- An issued request ends: it leaves the list of outstanding ones and is remembered, and its credit returns. -/
def State.endReq (s : State) (r : Nat) (o : MOut) (timeout : Bool) : State :=
  let x := s.ring r
  let p := x.place o.req.pos
  let x := { x with out := x.out.erase o }.setPlace o.req.pos { p with ended := ((o.seq, timeout) :: p.ended).take 32 }
  (s.setRing r x).credit r o.req.pos false

/-- An outstanding request to a position ends without an answer: STATUS 3 TIMEOUT or 4 LOST, with its credit reclaimed. -/
def State.reclaim (s : State) (r : Nat) (o : MOut) (status : Nat) : State :=
  let s := (s.endReq r o (status == 3)).satF (pgRING r) F.RING_CNT3_RECLAIM
  if o.req.kind = 0 then s.queueRsp r o.req status 0 else s

/-- The oldest request that has waited MGMT_TMO ends with TIMEOUT (R184). -/
def State.mreqTimeout (s : State) (r : Nat) : State :=
  match (s.ring r).out.find? fun o => o.at_ + 2000 * s.getF (pgRING r) F.RING_TMO_MGMT_TMO ≤ s.tick with
  | none => s
  | some o => s.reclaim r o 3

/-! ### Calibration, enumeration and join (R187, R188, R194) -/

/-- ECHO frames to a position in both directions, each sent in one (R170, R187). The SEQ of a frame without a duplicate check
is a free value (R177). -/
def State.echo (s : State) (r p d : Nat) : State :=
  let q := s.draw 16
  q.2.enqueueFrame r d ⟨3, s.tick, { ty := 6, pos := p, seq := q.1, blocks := [0, 0] }, false⟩

/-- The directions in which this member sends: both, or its own on a dual-homed ring (R447). -/
def State.dirsOf (s : State) (r : Nat) : List Nat :=
  match s.dualCode r with
  | 1 => [0]
  | 2 => [1]
  | _ => [0, 1]

/-- A position is measured in every direction in which this member sends, and its delays are written (R187, R447). -/
def State.calibratePos (s : State) (r p : Nat) : State :=
  let x := s.ring r
  let ds := s.dirsOf r
  ds.foldl (fun s d => s.echo r p d) (s.setRing r (x.setPlace p { x.place p with cal := ds, writes := ds.length }))

/-- Calibration of every position that is not LOST (R187). -/
def State.calibrate (s : State) (r : Nat) : State :=
  let s := (s.setRing r { s.ring r with calAt := s.tick }).setFlag (pgRING r) F.RING_CTRL_CAL true
  (List.range (s.getF (pgRING r) F.RING_CTRL_NODES)).foldl
    (fun s p => if s.lost r p then s else s.calibratePos r p) s

/-- Calibration is done: nothing is outstanding, or 1 ms has passed (R187). -/
def State.calDone (s : State) (r : Nat) : State :=
  let x := s.ring r
  let n := s.getF (pgRING r) F.RING_CTRL_NODES
  let waits := (List.range n).any fun p => !(s.lost r p) && ((x.place p).cal != [] || (x.place p).writes != 0)
  if s.flag (pgRING r) F.RING_CTRL_CAL ∧ (!waits ∨ x.calAt + 2000000 ≤ s.tick) then
    (s.setFlag (pgRING r) F.RING_CTRL_CAL false).raiseIrq (pgRING r) 4
  else s

/-- ENUM frames: on CW, and on CCW when the CW path is broken (R188) or where CCW alone is this member's (R447). -/
def State.sendEnum (s : State) (r : Nat) (force : Bool) : State :=
  let b := pgRING r
  let n := s.getF b F.RING_CTRL_NODES
  let ds := s.dirsOf r
  let q := s.draw 16
  let s := q.2.enqueueFrame r 0 ⟨3, s.tick, { ty := 8, bcast := true, seq := q.1, flags := force.toNat, blocks := [0] }, false⟩
  if !ds.contains 0 || s.flag b F.RING_BRK_CW_VALID || !s.flag b F.RING_STAT_RX_CW then
    let q := s.draw 16
    q.2.enqueueFrame r 1 ⟨3, s.tick,
      { ty := 8, bcast := true, seq := q.1, flags := force.toNat + 2, blocks := [(n + 63) % 64] }, false⟩
  else s

/-- The 1 ms enumeration while a position is not UP (R194). -/
def State.autoEnum (s : State) (r : Nat) : State :=
  let b := pgRING r
  let n := s.getF b F.RING_CTRL_NODES
  let due := match (s.ring r).autoAt with
    | none => true
    | some t => decide (t + 2000000 ≤ s.tick)
  if s.flag b F.RING_CTRL_EN && s.flag b F.RING_CTRL_AUTO_JOIN && due &&
      (List.range n).any fun p => !s.fbit b F.RING_UP_UP p then
    (s.setRing r { s.ring r with autoAt := some s.tick }).sendEnum r false
  else s

/-- A position that is not UP has sent an up frame: it becomes JOINING, with its caps, both delays and both delay writes to come; with
AUTO_JOIN its caps are read, else software does so, and the rest through CAL (R194). -/
def State.startJoin (s : State) (r p : Nat) : State :=
  let b := pgRING r
  if s.fbit b F.RING_UP_UP p || s.fbit b F.RING_JOIN_JOIN p then s
  else
    let x := s.ring r
    let ds := s.dirsOf r
    let s := (s.setRing r (x.setPlace p { x.place p with seq := none, caps := false, cal := ds, writes := ds.length })).setFbit b
      F.RING_JOIN_JOIN p true
    if s.flag b F.RING_CTRL_AUTO_JOIN then
      s.setRing r { s.ring r with own := (s.ring r).own ++ [⟨4, p, false, 0, 0, 1⟩] }
    else s

/-- A joining position with its caps read, both delays measured and written becomes UP (R194). -/
def State.joinDone (s : State) (r p : Nat) : State :=
  let b := pgRING r
  let q := (s.ring r).place p
  if s.fbit b F.RING_JOIN_JOIN p ∧ q.caps ∧ q.cal = [] ∧ q.writes = 0 then
    ((s.setFbit b F.RING_JOIN_JOIN p false).setFbit b F.RING_UP_UP p true).raiseIrq b 2
  else s

/-- A position from which no up frame has come for LOSS_TMO is LOST (R193). -/
def State.posLost (s : State) (r p : Nat) : State :=
  let b := pgRING r
  let x := s.ring r
  if s.fbit b F.RING_UP_UP p ∧ (x.place p).upAt + 2000 * s.getF b F.RING_TMO_LOSS_TMO ≤ s.tick then
    let s := ((s.setFbit b F.RING_UP_UP p false).setFbit b F.RING_LOST_LOST p true).raiseIrq b 1
    (x.out.filter fun o => o.req.pos == p).foldl (fun s o => s.reclaim r o 4) s
  else s

/-! ### Reception (R173 to R178, R182, R184, R187) -/

/-- Whether a frame type calls for a number of data blocks (R178). -/
def typeBlocks (ty n : Nat) : Bool :=
  match ty with
  | 1 => n == 0 || (3 ≤ n && n ≤ 10)
  | 2 => n == 4
  | 5 | 6 | 7 => n == 2
  | _ => n == 1

/-- A whole frame at a device receiver, its HCRC good: the state, and the frame where its checks pass (R173, R178, R193). -/
def State.receive (s : State) (r d sof : Nat) (blocks : List Nat) (crc : Nat) : State × Option Frame :=
  let b := pgRING r
  let cnt := if d = 0 then F.RING_CNT0_CRC_CW else F.RING_CNT0_CRC_CCW
  let f := Frame.ofHead sof blocks
  if frameCrc sof blocks ≠ crc then ((s.satF b cnt).pulse b 8, none)
  else if f.ty = 0 ∨ f.ty > 8 ∨ !typeBlocks f.ty blocks.length then (s.satF b F.RING_CNT4_FRAMING, none)
  else if f.ty = 2 ∨ f.ty = 4 ∨ f.ty = 7 then
    if f.pos ≥ s.getF b F.RING_CTRL_NODES then (s.satF b F.RING_CNT4_FRAMING, none)
    else
      let x := s.ring r
      ((s.setRing r (x.setPlace f.pos { x.place f.pos with upAt := s.tick })).startJoin r f.pos, some f)
  else (s, some f)

/-- A MEAS frame (R182). -/
def State.takeMeas (s : State) (r : Nat) (f : Frame) : State :=
  let b := pgRING r
  let x := s.ring r
  let p := x.place f.pos
  if !newer p.seq f.seq then s.satF b F.RING_CNT1_DUP
  else
    let w := fun i => bits (f.blocks.getD (i / 2) 0) (32 * (i % 2)) 32
    let c := f.blocks.getD 3 0
    let dl := (bits c 0 16 + 65536 - p.late) % 65536
    let dr := (bits c 16 8 + 256 - p.reps) % 256
    let s := s.setRing r (x.setPlace f.pos { p with seq := some f.seq, seen := true, late := bits c 0 16, reps := bits c 16 8 })
    let s := if !p.seen then s else (s.satF b F.RING_CNT2_LATE_EDGE dl).satF b F.RING_CNT4_REPEATS dr
    let s := s.klogRecord (r / 32) 2 (f.flags % 2) (nodeId r f.pos) s.count [w 0, w 1, w 2, w 3]
    if f.flags % 2 = 1 then
      (List.range 10).foldl (fun s j =>
        s.triggerAll (10 * (r / 32) + j) 2 (32 * (r % 32) + f.pos) [w 0, w 1, w 2, w 3, s.count % 2 ^ 32] s.tick) s
    else s

/-- An MRSP frame (R184). -/
def State.takeMrsp (s : State) (r : Nat) (f : Frame) : State :=
  let b := pgRING r
  let x := s.ring r
  let w := f.blocks.getD 0 0
  match x.out.find? fun o => o.req.pos == f.pos && o.seq == f.seq with
  | some o =>
    let s := s.endReq r o false
    let status := bits w 13 3
    let data := bits w 32 32
    let p := (s.ring r).place f.pos
    match o.req.kind with
    | 0 =>
      let s := s.queueRsp r o.req status data
      if o.req.addr = 4 ∧ !o.req.wr ∧ status = 0 ∧ s.fbit b F.RING_JOIN_JOIN f.pos then
        (s.setDepth r f.pos (bits data 5 4)).setRing r ((s.ring r).setPlace f.pos { p with caps := true })
      else s
    | 1 =>
      let s := s.setDepth r f.pos (bits data 5 4)
      (s.setRing r ((s.ring r).setPlace f.pos { p with caps := true })).calibratePos r f.pos
    | _ => s.setRing r ((s.ring r).setPlace f.pos { p with writes := p.writes - 1 })
  | none =>
    match ((x.place f.pos).ended.find? fun e => e.1 == f.seq) with
    | some (_, true) => s.satF b F.RING_CNT3_LATE_RSP
    | _ => s.satF b F.RING_CNT1_DUP

/-- An ECHOR frame at direction `d`'s receiver of the ECHO; `frac` is the fraction of its SOF's arrival (R187). An ECHO sent on
CW returns on the receiver of lane 2k. -/
def State.takeEchor (s : State) (r d frac : Nat) (f : Frame) : State :=
  let x := s.ring r
  let p := x.place f.pos
  let dep := f.blocks.getD 0 0
  let corr := bits (f.blocks.getD 1 0) 0 32
  let turn := bits (f.blocks.getD 1 0) 32 32
  let rtt : Int := ((32 * s.count + frac : Nat) : Int) - ((32 * dep : Nat) : Int)
  let dly := wrap 24 ((rtt - turn - corr) / 2)
  if !p.cal.contains d then s
  else
    let s := s.setF (pgRING r) (if d = 0 then F.RING_DLY_CW_DLY f.pos else F.RING_DLY_CCW_DLY f.pos) dly
    s.setRing r { s.ring r with
      pos := SMap.put (s.ring r).pos f.pos { p with cal := p.cal.erase d }
      own := (s.ring r).own ++ [⟨0x10 + 4 * d, f.pos, true, 0, dly, 2 + d⟩] }

/-- An ENUM frame that returns on CW (R188). -/
def State.takeEnum (s : State) (r : Nat) (f : Frame) : State :=
  if bit f.flags 1 then s
  else ((s.setF (pgRING r) F.RING_STAT_FOUND (f.blocks.getD 0 0)).setFlag (pgRING r) F.RING_CTRL_ENUM false).raiseIrq (pgRING r) 5

/-! ### Locks, breaks (R191, R195) -/

/-- WHOLE follows the receivers and the break reports; a change of WHOLE or RING_BRK raises IRQ_RAW bit 0 (R191). -/
def State.ringWhole (s : State) (r : Nat) (brkChanged : Bool) : State :=
  let b := pgRING r
  let w := s.flag b F.RING_STAT_RX_CW && s.flag b F.RING_STAT_RX_CCW && !s.flag b F.RING_BRK_CW_VALID &&
    !s.flag b F.RING_BRK_CCW_VALID
  if w != s.flag b F.RING_STAT_WHOLE then (s.setFlag b F.RING_STAT_WHOLE w).raiseIrq b 0
  else if brkChanged then s.raiseIrq b 0 else s

/-- A STATUS block at the receiver of direction `d`: its 64 payload bits (R191). -/
def State.takeStatus (s : State) (r d blk : Nat) : State :=
  let b := pgRING r
  if !bit blk 13 then s
  else
    let pos := bits blk 8 5
    let fp := if d = 0 then F.RING_BRK_CW_POS else F.RING_BRK_CCW_POS
    let fv := if d = 0 then F.RING_BRK_CW_VALID else F.RING_BRK_CCW_VALID
    let changed := !s.flag b fv || s.getF b fp != pos
    let x := s.ring r
    let s := s.setRing r (if d = 0 then { x with brkCw := s.tick } else { x with brkCcw := s.tick })
    ((s.setF b fp pos).setFlag b fv true).ringWhole r changed

/-- No break status of direction `d` for 10 us (R191). -/
def State.brkTimeout (s : State) (r d : Nat) : State :=
  let b := pgRING r
  let x := s.ring r
  let fv := if d = 0 then F.RING_BRK_CW_VALID else F.RING_BRK_CCW_VALID
  if s.flag b fv ∧ (if d = 0 then x.brkCw else x.brkCcw) + 20000 ≤ s.tick then (s.setFlag b fv false).ringWhole r true
  else s

/-- A lane reset: the frame partly sent is abandoned, and one partly received is discarded and counted (R195). -/
def State.laneDrop (s : State) (l : Nat) : State :=
  let r := l / 2
  let d := 1 - l % 2
  let x := s.ring r
  let cut := fun (o : Option Sent) (busy : Nat) => o.map fun f => if 5 * s.tick < busy then { f with cut := true } else f
  let y := if l % 2 = 0 then { x with lastCw := cut x.lastCw x.busyCw, busyCw := min x.busyCw (5 * s.tick) }
    else { x with lastCcw := cut x.lastCcw x.busyCcw, busyCcw := min x.busyCcw (5 * s.tick) }
  let s := s.setRing r (y.setRx d none)
  if (x.rx d).isSome then s.satF (pgRING r) F.RING_CNT4_FRAMING else s

/-- The block lock of a ring lane changes (R171, R191). -/
def State.laneLock (s : State) (l : Nat) (lock : Bool) : State :=
  let r := l / 2
  let f := if l % 2 = 1 then F.RING_STAT_RX_CW else F.RING_STAT_RX_CCW
  let x : LaneSt := SMap.getD s.link.lanes l {}
  let s := { s with link.lanes := SMap.put s.link.lanes l { lockAt := s.tick, goodAt := if lock then x.goodAt else s.tick } }
  (((s.setFlag (pgSERD l) (F.SERD_LSTAT_LOCK (l % 32)) lock).setFlag (pgRING r) f lock)).ringWhole r false

/-- A lane gains its block lock: 64 blocks of 132 fifths of a tick with valid sync headers have come (R171; PRESUMED, log entry 20), and
it is not held in reset. -/
def State.laneGain (s : State) (l : Nat) : State :=
  if s.laneReset l || s.flag (pgSERD l) (F.SERD_LSTAT_LOCK (l % 32)) ||
      decide (5 * s.tick < 5 * (SMap.getD s.link.lanes l {}).goodAt + 64 * 132) then s
  else s.laneLock l true

/-- Loss of block lock of a ring lane (R195). -/
def State.laneLoss (s : State) (l : Nat) : State :=
  if !s.flag (pgSERD l) (F.SERD_LSTAT_LOCK (l % 32)) then s
  else
    (((s.laneDrop l).satF (pgSERD l) (F.SERD_LSTAT_LOCK_LOSS (l % 32))).pulse (pgSERD l) (l % 32 / 2)).laneLock l false

/-! ### The receiving lane under Clause 49, and what its blocks bring (R171 to R173) -/

/-- The current window of 64 blocks of a lane, counted from its lock, and the current 125 us of its error monitor. -/
def LaneSt.window (x : LaneSt) (tick : Nat) : Nat := 5 * (tick - x.lockAt) / 8448
def LaneSt.berPeriod (x : LaneSt) (tick : Nat) : Nat := (tick - x.lockAt) / 250000

/-- `n` invalid sync headers in a tick. PRESUMED (log entry 20): the machines of Clause 49: 16 in a window of 64 blocks lose the lock,
16 in a period of 125 us set HI_BER. -/
def LaneSt.errors (x : LaneSt) (tick n : Nat) : LaneSt :=
  let w := x.window tick
  let p := x.berPeriod tick
  let bad := n + if x.win = w then x.winBad else 0
  let ber := n + if x.ber = p then x.berBad else 0
  { x with win := w, winBad := bad, ber := p, berBad := ber, hi := if 16 ≤ ber then some p else x.hi, goodAt := tick }

/-- HI_BER: it holds until a period of the monitor has ended with fewer than 16 (PRESUMED, log entry 20). -/
def State.hiBer (s : State) (l : Nat) : Bool :=
  let x := SMap.getD s.link.lanes l {}
  s.flag (pgSERD l) (F.SERD_LSTAT_LOCK (l % 32)) && (match x.hi with
    | some p => decide (x.berPeriod s.tick ≤ p + 1)
    | none => false)

/-- Invalid sync headers on a lane are counted in SH_ERR, and may cost it its lock (R171). -/
def State.syncErrors (s : State) (l n : Nat) : State :=
  if n = 0 then s
  else
    let x := (SMap.getD s.link.lanes l {}).errors s.tick n
    let s := { s with link.lanes := SMap.put s.link.lanes l x }.satF (pgSERD l) (F.SERD_LSTAT_SH_ERR (l % 32)) n
    if 16 ≤ x.winBad then s.laneLoss l else s

/-- Whether the receiver of direction `d` takes blocks: the ring enabled, the lane locked and not held in reset (R171, R195). -/
def State.rxOpen (s : State) (r d : Nat) : Bool :=
  s.flag (pgRING r) F.RING_CTRL_EN && s.flag (pgRING r) (if d = 0 then F.RING_STAT_RX_CW else F.RING_STAT_RX_CCW) &&
    !s.laneReset (rxLane r d)

/-- What a receiver's blocks bring; a frame is acted on where it is of type `ty` (R173, R176, R178, R191). -/
def State.rxEvent (s : State) (r d ty : Nat) (f : State → Frame → State) (e : RxEv) : State :=
  match e with
  | .head _ => (s.satF (pgRING r) (if d = 0 then F.RING_CNT0_CRC_CW else F.RING_CNT0_CRC_CCW)).pulse (pgRING r) 8
  | .broken _ _ => s.satF (pgRING r) F.RING_CNT4_FRAMING
  | .status blk => s.takeStatus r d blk
  | .frame sof blocks crc =>
    let q := s.receive r d sof blocks crc
    match q.2 with
    | some fr => if fr.ty = ty then f q.1 fr else q.1
    | none => q.1

/-- Blocks at the receiver of direction `d`. -/
def State.receiveAs (s : State) (r d : Nat) (line : List LineBlock) (ty : Nat) (f : State → Frame → State) : State :=
  if !s.rxOpen r d then s
  else
    let line := line.map (s.linePlain (rxLane r d))
    let s := s.syncErrors (rxLane r d) (line.countP fun b => !syncOk b)
    if !s.rxOpen r d then s
    else
      let x := s.ring r
      let q := rxRun (x.rx d) line
      let s := if q.1 = x.rx d then s else s.setRing r (x.setRx d q.1)
      q.2.foldl (fun s e => s.rxEvent r d ty f e) s

/-- A TIME frame in both directions every TIME_PER us (R185). -/
def State.sendTime (s : State) (r : Nat) : State :=
  let b := pgRING r
  let due := match (s.ring r).timeAt with
    | none => true
    | some t => decide (t + 2000 * s.getF b F.RING_TPER_TIME_PER ≤ s.tick)
  if s.flag b F.RING_CTRL_EN && s.flag b F.RING_CTRL_TIME_EN && due then
    let q := s.draw 16
    (q.2.setRing r { q.2.ring r with timeAt := some s.tick }).enqueueBoth r
      ⟨2, s.tick, { ty := 5, bcast := true, seq := q.1, blocks := [0, 0] }, false⟩
  else s

end Sys2Proof.Machine
end

