-- ==== Sys2Proof/Machine/EdgeOps.lean ====
section
/-! DEFINITION. Machine/EdgeOps.lean: generators, dead time, arming, trips, edge lanes, pins, edge sets, period records and
the charge ledger (chapters 06 and 13). -/

namespace Sys2Proof.Machine

/-- The device's number of a generator of a physical tile: logical tile * 256 + local generator. -/
def State.genNo (s : State) (t g : Nat) : Nat := 256 * s.getF pgDROLE (F.ROLE_PHYS_LOGICAL t) + g

/-- Dead time, minimum pulse and use of L (R149 to R151). -/
structure Dead where
  dt : Nat
  minpw : Nat
  lEn : Bool

def State.dead (s : State) (t g : Nat) : Dead :=
  let b := pgPWMG t g
  let m := g % 16
  ⟨s.getF b (F.PWMG_DT_DT m), s.getF b (F.PWMG_MINPW_MINPW m), s.flag b (F.PWMG_BIND_L_EN m)⟩

/-- A shadow compare as one number (R135). -/
def State.shadowCmp (s : State) (t g k : Nat) : Nat :=
  let b := pgPWMG t g
  let m := g % 16
  match k with
  | 0 => 32 * s.getF b (F.PWMG_CMP_ON_TICK m) + s.getF b (F.PWMG_CMP_ON_FRAC m)
  | 1 => 32 * s.getF b (F.PWMG_CMP_OFF_TICK m) + s.getF b (F.PWMG_CMP_OFF_FRAC m)
  | 2 => 32 * s.getF b (F.PWMG_CMP_EVA_TICK m) + s.getF b (F.PWMG_CMP_EVA_FRAC m)
  | _ => 32 * s.getF b (F.PWMG_CMP_EVB_TICK m) + s.getF b (F.PWMG_CMP_EVB_FRAC m)

def State.setShadowCmp (s : State) (t g k v : Nat) : State :=
  let b := pgPWMG t g
  let m := g % 16
  match k with
  | 0 => (s.setF b (F.PWMG_CMP_ON_TICK m) (v / 32)).setF b (F.PWMG_CMP_ON_FRAC m) v
  | 1 => (s.setF b (F.PWMG_CMP_OFF_TICK m) (v / 32)).setF b (F.PWMG_CMP_OFF_FRAC m) v
  | 2 => (s.setF b (F.PWMG_CMP_EVA_TICK m) (v / 32)).setF b (F.PWMG_CMP_EVA_FRAC m) v
  | _ => (s.setF b (F.PWMG_CMP_EVB_TICK m) (v / 32)).setF b (F.PWMG_CMP_EVB_FRAC m) v

def State.shadowPer (s : State) (t g : Nat) : Nat := s.getF (pgPWMG t g) (F.PWMG_PER_PER (g % 16))

/-! ### Outputs as functions of M (R150 to R152) -/

/-- The delayed rises that come before instant `y`. -/
def Gen.flush (x : Gen) (y : Nat) : Gen × List Trans :=
  let hs := match x.hRise with
    | some r => if r < y then [(⟨true, true, r⟩ : Trans)] else []
    | none => []
  let ls := match x.lRise with
    | some r => if r < y then [(⟨false, true, r⟩ : Trans)] else []
    | none => []
  let x := if hs.isEmpty then x else { x with h := true, hRise := none }
  let x := if ls.isEmpty then x else { x with l := true, lRose := (x.lRise.getD 0), lRise := none }
  (x, hs ++ ls)

/-- L's pulse in the gap of M, decided at instant `dec` with the next rise of M at `next` (R151); the second part tells that
the gap has been suppressed for the first time. -/
def Gen.decideL (x : Gen) (p : Dead) (next dec : Nat) : Gen × Bool :=
  if !p.lEn then (x, false)
  else
    let start := max (x.mFall + p.dt) dec
    if next < x.mFall + p.dt ∨ next < start + p.minpw then ({ x with lRise := none, lSupp := true }, !x.lSupp)
    else ({ x with lRise := some start, lSupp := false }, false)

/-- M rises at `y` (R150, R152): the transitions made, and whether an L pulse ends too short. -/
def Gen.mUp (x : Gen) (p : Dead) (y : Nat) : Gen × List Trans × Bool :=
  ({ x with l := false, lRise := none, lSupp := false, hRise := some (y + p.dt) },
    if x.l then [⟨false, false, y⟩] else [], x.l && decide (y < x.lRose + p.minpw))

/-- M falls at `y` (R150, R151). -/
def Gen.mDown (x : Gen) (p : Dead) (y next dec : Nat) : Gen × List Trans × Bool :=
  let q := ({ x with h := false, hRise := none, mFall := y, lSupp := false } : Gen).decideL p next dec
  (q.1, if x.h then [⟨true, false, y⟩] else [], q.2)

/-- The transitions of a period, with the counts of CSUPP and CSHORT. -/
structure Formed where
  gen : Gen
  trans : List Trans := []
  supp : Nat := 0
  short : Nat := 0

def Formed.flush (f : Formed) (y : Nat) : Formed :=
  let q := f.gen.flush y
  { f with gen := q.1, trans := f.trans ++ q.2 }

def Formed.up (f : Formed) (p : Dead) (y : Nat) : Formed :=
  let q := f.gen.mUp p y
  { f with gen := q.1, trans := f.trans ++ q.2.1, short := f.short + q.2.2.toNat }

def Formed.down (f : Formed) (p : Dead) (y next dec : Nat) : Formed :=
  let q := f.gen.mDown p y next dec
  { f with gen := q.1, trans := f.trans ++ q.2.1, supp := f.supp + q.2.2.toNat }

/-- The start of a period at reload: M falls there unless its pulse is carried, or a suppressed gap is decided again
(R137, R151); `fresh` at arming and at a trip clear (R152). -/
def Formed.start (f : Formed) (p : Dead) (m fresh : Bool) (after : Nat) : Formed :=
  let x := f.gen
  let r := 32 * x.origin
  let next := if x.pulse then r + x.pOn else after
  if fresh then
    let q := ({ x with mFall := r, lSupp := false } : Gen).decideL p next r
    { f with gen := q.1, supp := f.supp + q.2.toNat }
  else if m then
    if x.pulse && x.pOn == 0 then f else (f.flush r).down p r next r
  else if x.lSupp then
    let q := x.decideL p next r
    { f with gen := q.1, supp := f.supp + q.2.toNat }
  else f

/-- Every H and L transition of the period in force (R153); `after` is the next rise of M behind this period. -/
def Gen.form (x : Gen) (p : Dead) (m fresh : Bool) (after : Nat) : Formed :=
  let r := 32 * x.origin
  let fin := r + 32 * x.per
  let carried := m && x.pulse && x.pOn == 0
  let f := ({ gen := x } : Formed).start p m fresh after
  let f := if x.pulse && !carried then (f.flush (r + x.pOn)).up p (r + x.pOn) else f
  let f := if x.pulse && decide (x.pOff < 32 * x.per) then (f.flush (r + x.pOff)).down p (r + x.pOff) after r else f
  let f := f.flush fin
  { f with gen := { f.gen with om := x.pulse && decide (x.pOff ≥ 32 * x.per) } }

/-- Time order; at equal instants falls precede rises (R179). -/
def transInsert (t : Trans) : List Trans → List Trans
  | [] => [t]
  | u :: us =>
    if t.at_ < u.at_ ∨ (t.at_ = u.at_ ∧ u.rise ∧ !t.rise) then t :: u :: us else u :: transInsert t us

def transSort (ts : List Trans) : List Trans := ts.foldr transInsert []

/-- The next rise of M behind the present period, from the next reload and the shadow (R151). -/
def State.riseAfter (s : State) (t g : Nat) : Nat :=
  let nr := 32 * s.nextReload t g
  let on := s.shadowCmp t g 0
  let per := s.shadowPer t g
  if s.shadowCmp t g 1 > on ∧ on / 32 < per then nr + on else nr + 32 * per

/-- The main pulse of the period in force with the minimum-pulse rule (R136, R149): the generator, and what is counted: 0
nothing, 1 DROPS, 2 STRETCH. `carriedIn` tells that M is on when the period starts. -/
def Gen.mainPulse (x : Gen) (p : Dead) (policy : Nat) (mOn : Bool) : Gen × Nat :=
  let fin := 32 * x.per
  let off := min x.off_ fin
  if !(decide (x.off_ > x.on_) && decide (x.on_ / 32 < x.per)) then ({ x with pulse := false }, 0)
  else if mOn && x.on_ == 0 then ({ x with pulse := true, pOn := 0, pOff := off }, 0)
  else if off - x.on_ < p.dt + p.minpw then
    if policy = 1 ∧ x.on_ + p.dt + p.minpw ≤ fin then
      ({ x with pulse := true, pOn := x.on_, pOff := x.on_ + p.dt + p.minpw }, 2)
    else ({ x with pulse := false }, 1)
  else ({ x with pulse := true, pOn := x.on_, pOff := off }, 0)

/-! ### The charge ledger (R372 to R375) -/

/-- Fractions of [a, b) in which H is on, from its level at `a` and its transitions; the level and the transitions left. -/
def onFracs (a b : Nat) (lev : Bool) : List (Nat × Bool) → Nat × Bool × List (Nat × Bool)
  | [] => (if lev then b - a else 0, lev, [])
  | (i, v) :: rest =>
    if i ≥ b then (if lev then b - a else 0, lev, (i, v) :: rest)
    else
      let q := onFracs (max a i) b v rest
      ((if lev then i - a else 0) + q.1, q.2.1, q.2.2)

/-- H of a remote generator over [a, b), with repeats of its last set in a gap (R372): fractions on, and the generator
after. -/
def Gen.ledRun : Nat → Gen → Nat → Nat → Nat × Gen
  | 0, x, b, _ => let q := onFracs x.ledAt b x.ledH x.ledTodo
    (q.1, { x with ledAt := b, ledH := q.2.1, ledTodo := q.2.2 })
  | fuel + 1, x, b, rmax =>
    let fin := 32 * (x.ledBase + x.ledPer)
    if x.ledPer = 0 ∨ b ≤ fin ∨ fin < x.ledAt then
      let q := onFracs x.ledAt b x.ledH x.ledTodo
      (q.1, { x with ledAt := b, ledH := q.2.1, ledTodo := q.2.2 })
    else
      let q := onFracs x.ledAt fin x.ledH x.ledTodo
      let y := { x with ledAt := fin, ledH := q.2.1, ledTodo := q.2.2 }
      let y := if y.ledReps < rmax then
          { y with
            ledBase := y.ledBase + y.ledPer
            ledReps := y.ledReps + 1
            ledTodo := y.ledEnts.map fun e => (e.1 + 32 * (y.ledBase + y.ledPer), e.2) }
        else { y with ledH := false, ledTodo := [], ledPer := 0 }
      let r := Gen.ledRun fuel y b rmax
      (q.1 + r.1, r.2)

/-- An 80-bit ledger value of two fields: charge and its fraction. -/
def State.led80 (s : State) (b : Nat) (q f : Fld) : Int := sgn 80 (65536 * s.getF b q + s.getF b f)

def State.setLed80 (s : State) (b : Nat) (q f : Fld) (v : Int) : State :=
  (s.setF b q (wrap 80 v / 65536)).setF b f (wrap 80 v % 65536)

/-- Index of ledger arm `a` of cluster `c` in the DROLE page. -/
def armIx (c a : Nat) : Nat := c * 8 + a

/-- LEDG_CFG of a generator as it counts in tick `k`: a change applies from the tick after (R374). -/
def State.ledCfg (s : State) (t g k : Nat) : Nat :=
  let b := pgPWMG t g
  let m := g % 16
  let now := s.getF b (F.LEDG_CFG_ARM m) + 2 ^ 4 * s.getF b (F.LEDG_CFG_EN m) + 2 ^ 5 * s.getF b (F.LEDG_CFG_SIGN m) +
    2 ^ 6 * s.getF b (F.LEDG_CFG_RMAX m)
  match (s.gen t g).ledOld with
  | some (c, w) => if k ≤ c then w else now
  | none => now

/-- LARM_CFG of a ledger arm as it counts in tick `k` (R374). -/
def State.larmCfg (s : State) (ix k : Nat) : Nat :=
  let now := s.getF pgDROLE (F.LARM_CFG_EN ix) + 2 * s.getF pgDROLE (F.LARM_CFG_SRCK ix) + 2 ^ 2 * s.getF pgDROLE (F.LARM_CFG_SRC ix) +
    2 ^ 10 * s.getF pgDROLE (F.LARM_CFG_REF_LT ix) + 2 ^ 13 * s.getF pgDROLE (F.LARM_CFG_REF_GEN ix)
  match SMap.get? s.edge.armOld ix with
  | some (c, w) => if k ≤ c then w else now
  | none => now

/-- The ledger of a generator and the integral of its arm taken to the start of tick `k`, with the settings that count in the tick before
(R372, R374). A ledger grows while its own EN is set; the integral of its arm, and what closure compares, while the arm's is. -/
def State.ledUpto (s : State) (t g k : Nat) : State :=
  let b := pgPWMG t g
  let m := g % 16
  let x := s.gen t g
  let cfg := s.ledCfg t g (k - 1)
  let q := Gen.ledRun 10 x (32 * k) (bits cfg 6 4)
  let ix := armIx (t / 10) (bits cfg 0 4)
  let iq := sgn 32 (s.getF pgDROLE (F.LARM_IQ_IQ ix))
  let d : Int := (if bit cfg 5 then -1 else 1) * iq * (q.1 : Int)
  if 32 * k ≤ x.ledAt then s
  else if !bit cfg 4 || s.role t != 0 || d == 0 then s.setGen t g q.2
  else
    let s := s.setGen t g { q.2 with ledPerQ := q.2.ledPerQ + d }
    let s := s.setLed80 b (F.LEDG_Q_Q m) (F.LEDG_FRAC_FRAC m) (s.led80 b (F.LEDG_Q_Q m) (F.LEDG_FRAC_FRAC m) + d)
    if !bit (s.larmCfg ix (k - 1)) 0 then s
    else
      let a := s.led80 pgDROLE (F.LARM_Q_Q ix) (F.LARM_FRAC_FRAC ix)
      let s := s.setLed80 pgDROLE (F.LARM_Q_Q ix) (F.LARM_FRAC_FRAC ix) (a + d)
      let s := if ovfS 80 (a + d) then s.setFlag pgDROLE (F.LARM_STAT_WRAP ix) true else s
      { s with edge.arms := SMap.upd s.edge.arms ix (0, 0) fun v => (v.1 + d, v.2 + d) }

/-- Ticks in rising order. -/
def tickInsert (k : Nat) : List Nat → List Nat
  | [] => [k]
  | n :: ns => if k ≤ n then k :: n :: ns else n :: tickInsert k ns

/-- The ticks at which the settings of a generator's ledger and of its arm changed last: their ends part the integration (R374). -/
def State.ledCuts (s : State) (t g : Nat) : List Nat :=
  let own := ((s.gen t g).ledOld.map Prod.fst).toList
  let arm := (List.range 8).filterMap fun a => (SMap.get? s.edge.armOld (armIx (t / 10) a)).map Prod.fst
  (((own ++ arm).map (· + 1)).filter fun k => decide ((s.gen t g).ledAt < 32 * k) && decide (k < s.tick)).foldr tickInsert []

/-- The ledger of a generator and the integral of its arm taken to the present tick (R372, R374). -/
def State.ledSync (s : State) (t g : Nat) : State :=
  ((s.ledCuts t g).foldl (fun s k => s.ledUpto t g k) s).ledUpto t g s.tick

/-- Every ledger of a cluster taken to the present tick. -/
def State.ledSyncArm (s : State) (c : Nat) : State :=
  s.edge.gens.foldl (fun s kv => if kv.1 / 2560 = c then s.ledSync (kv.1 / 256) (kv.1 % 256) else s) s

/-- LEDG_CFG of a generator is about to change: up to the end of this tick the present value counts (R374). -/
def State.ledHold (s : State) (t g : Nat) : State :=
  let w := s.ledCfg t g s.tick
  let s := s.ledSync t g
  s.setGen t g { s.gen t g with ledOld := some (s.tick, w) }

/-- LARM_CFG of an arm of a cluster is about to change: up to the end of this tick the present value counts (R374). -/
def State.larmHold (s : State) (c a : Nat) : State :=
  let w := s.larmCfg (armIx c a) s.tick
  let s := s.ledSyncArm c
  { s with edge.armOld := SMap.put s.edge.armOld (armIx c a) (s.tick, w) }

/-- IQ of the arms of a cluster bound to a source takes a new value (R373). -/
def State.setIQ (s : State) (c : Nat) (sample : Bool) (src : Nat) (x : Int) : State :=
  let arms := (List.range 8).filter fun a =>
    let cfg := s.larmCfg (armIx c a) s.tick
    bit cfg 1 == sample && bits cfg 2 8 == src
  if arms.isEmpty then s
  else
    arms.foldl (fun s a =>
      let ix := armIx c a
      let v := x * sgn 32 (s.getF pgDROLE (F.LARM_SCALE_LSCALE ix)) / (2 ^ 31 : Int)
      let s := if ovfS 32 v then s.setFlag pgDROLE (F.LARM_STAT_SAT ix) true else s
      s.setF pgDROLE (F.LARM_IQ_IQ ix) (wrap 32 (satS 32 v))) (s.ledSyncArm c)

/-- H of a generator changes at an instant (R372). -/
def State.ledH (s : State) (t g at_ : Nat) (lev : Bool) : State :=
  let s := s.ledSync t g
  let x := s.gen t g
  s.setGen t g { x with ledTodo := x.ledTodo ++ [(at_, lev)] }

/-- H is 0 from now on: the dust sheet, a block command (R372). -/
def State.ledOff (s : State) (t g : Nat) : State :=
  let s := s.ledSync t g
  s.setGen t g { s.gen t g with ledH := false, ledTodo := [], ledEnts := [], ledPer := 0, ledReps := 0 }

/-- The entries of a set handed over (R372); they replace what is left of a set repeated in a gap. -/
def State.ledSet (s : State) (t g base per : Nat) (ents : List (Nat × Bool)) : State :=
  let s := s.ledSync t g
  let x := s.gen t g
  let left := if x.ledReps = 0 then x.ledTodo else x.ledTodo.filter fun e => decide (e.1 < 32 * base)
  s.setGen t g { x with
    ledTodo := left ++ ents.map fun e => (e.1 + 32 * base, e.2)
    ledEnts := ents
    ledBase := base
    ledPer := per
    ledReps := 0 }

/-- Closure at a reload of an arm's reference generator (R374); `err` is the difference that a hardware failure leaves. -/
def State.closure (s : State) (t g : Nat) (err : Int) : State :=
  match s.ltOf t with
  | none => s
  | some lt =>
    let c := t / 10
    (List.range 8).foldl (fun s a =>
      let ix := armIx c a
      let cfg := s.larmCfg ix s.tick
      if bit cfg 0 && bits cfg 10 3 == lt % 8 && bits cfg 13 8 == g then
        let s := s.ledSyncArm c
        let v := SMap.getD s.edge.arms ix (0, 0)
        let d := v.1 + err - v.2
        let s := { s with edge.arms := SMap.put s.edge.arms ix (0, 0) }
        if d = 0 then s
        else (((s.satF pgDROLE (F.LARM_STAT_FAILS ix)).setFlag pgDROLE (F.LARM_STAT_FAIL ix) true).setF pgDROLE
          (F.LARM_DIFF_DIFF ix) (wrap 32 (satS 32 d))).pulse pgDROLE (4 + c)
      else s) s

/-- PERQ at a generator's own reload: the growth of Q in its last period. -/
def State.ledPeriod (s : State) (t g : Nat) : State :=
  let s := s.ledSync t g
  let x := s.gen t g
  (s.setF (pgPWMG t g) (F.LEDG_PERQ_PERQ (g % 16)) (wrap 32 (satS 32 (asr x.ledPerQ 16)))).setGen t g { x with ledPerQ := 0 }

/-! ### States, pins and lanes (R156 to R166) -/

/-- STATE of a generator, with the bits of PWMG_PSTAT (R157). -/
def State.setGenState (s : State) (t g st : Nat) : State :=
  let b := pgPWMG t g
  let m := g % 16
  let was := s.genState t g
  let s := ((s.setF b (F.PWMG_STAT_STATE m) st).setFbit b F.PWMG_PSTAT_ARMED m (st == 3)).setFbit b F.PWMG_PSTAT_TRIPPED m
    (st == 4)
  if st = 3 ∧ was ≠ 3 then s.pulse b 18 else s

/-- The binding of a generator: 0 none, 1 local, 2 remote; its pins, its node and leg (R153). -/
def State.bindMode (s : State) (t g : Nat) : Nat := s.getF (pgPWMG t g) (F.PWMG_BIND_MODE (g % 16))
def State.bindPin (s : State) (t g : Nat) (isH : Bool) : Nat :=
  64 * (t / 10) + s.getF (pgPWMG t g) (if isH then F.PWMG_BIND_H_PIN (g % 16) else F.PWMG_BIND_L_PIN (g % 16))
def State.bindRing (s : State) (t g : Nat) : Nat := 32 * (t / 10) + s.getF (pgPWMG t g) (F.PWMG_BIND_NODE (g % 16)) / 32
def State.bindPos (s : State) (t g : Nat) : Nat := s.getF (pgPWMG t g) (F.PWMG_BIND_NODE (g % 16)) % 32
def State.bindLeg (s : State) (t g : Nat) : Nat := s.getF (pgPWMG t g) (F.PWMG_BIND_LEG (g % 16))

/-- Whether the pin keeper's bank of a pin is enabled (R43). -/
def State.bankOn (s : State) (p : Nat) : Bool :=
  s.flag (pgPKEEP p) F.HDR_BLK_EN && SMap.get? s.bus.frozen (pgPKEEP p) != some 2

/-- A pin driven to a level before INV, at an instant (R156). -/
def State.pinDrive (s : State) (p : Nat) (level : Bool) (at_ st : Nat) : State :=
  let b := pgPKEEP p
  let i := p % 16
  if !s.bankOn p then s
  else
    let s := { s with edge.pins := SMap.put s.edge.pins p ⟨true, level, at_⟩ }
    (s.setF b (F.PK_PIN_STAT_STATE i) st).setFlag b (F.PK_PIN_STAT_LEVEL i) (level != s.flag b (F.PK_PIN_CTRL_INV i))

/-- PK_PIN_STAT shows the level that a driven pin has after INV. -/
def State.pinShow (s : State) (p : Nat) : State :=
  let x := SMap.getD s.edge.pins p {}
  if x.driven then s.setFlag (pgPKEEP p) (F.PK_PIN_STAT_LEVEL (p % 16)) (x.level != s.flag (pgPKEEP p) (F.PK_PIN_CTRL_INV (p % 16)))
  else s

/-- The local generator that is bound to a pin, with its tile. -/
def State.pinGen (s : State) (p : Nat) : Option (Nat × Nat) :=
  (s.edge.gens.find? fun kv =>
    let t := kv.1 / 256
    let g := kv.1 % 256
    s.bindMode t g == 1 && s.role t == 0 && (s.bindPin t g true == p ||
      (s.flag (pgPWMG t g) (F.PWMG_BIND_L_EN (g % 16)) && s.bindPin t g false == p))).map fun kv => (kv.1 / 256, kv.1 % 256)

/-- The LOCAL_EDGE record of a transition of a PWM_OUT pin, in its cluster (R218). -/
def State.pinLogged (s : State) (p gen : Nat) (level : Bool) (at_ : Nat) (delayed : Bool) : State :=
  s.klogRecord (p / 64) 3 0 p ((at_ / 32 + s.time.ofs) % 2 ^ 64)
    [at_ % 32 + 2 ^ 5 * level.toNat + 2 ^ 6 * delayed.toNat, gen, 0, 0]

/-- A pin in the dust sheet: high impedance (R156), where the pull-down takes a high level from it (R218). -/
def State.pinDust (s : State) (p : Nat) : State :=
  let b := pgPKEEP p
  let i := p % 16
  let x := SMap.getD s.edge.pins p {}
  let s := if x.driven && x.level then
      s.pinLogged p ((s.pinGen p).elim 0 fun k => s.genNo k.1 k.2) false (32 * s.tick) false
    else s
  let s := { s with edge.pins := SMap.put s.edge.pins p ⟨false, false, 32 * s.tick⟩ }
  (s.setF b (F.PK_PIN_STAT_STATE i) 0).setFlag b (F.PK_PIN_STAT_LEVEL i) false

def State.lanesOf (s : State) (t : Nat) : Lanes := SMap.getD s.edge.lanes t {}

def State.setLanes (s : State) (t : Nat) (x : Lanes) : State := { s with edge.lanes := SMap.put s.edge.lanes t x }

/-- The free lanes of a tile's pool, lowest first (R164, R166). -/
def State.freeLanes (s : State) (t : Nat) : List Nat :=
  let x := s.lanesOf t
  (List.range 64).filter fun k => !x.retired.contains k && !x.busy.any fun e => e.1 == k && decide (s.tick < e.2)

/-- Three lanes claimed for 5 ticks (R164). -/
def State.claim (s : State) (t : Nat) : State × List Nat :=
  let three := (s.freeLanes t).take 3
  let x := s.lanesOf t
  (s.setLanes t { x with busy := (x.busy.filter fun e => s.tick < e.2) ++ three.map fun k => (k, s.tick + 5) }, three)

/-- A lane outvoted at a pin's voter, retired at the second time within 2,000,000 ticks (R166). -/
def State.laneOutvoted (s : State) (t lane p : Nat) : State :=
  let b := pgEDGE t
  let s := ((s.satF b F.EDGE_CNT_DISAG).satF (pgPKEEP p) (F.PK_PIN_STAT_VOTE_DIS (p % 16))).pulse (pgPKEEP p) (p % 16)
  let x := s.lanesOf t
  let again := match SMap.get? x.outvote lane with
    | some t0 => decide (s.tick - t0 ≤ 2000000)
    | none => false
  let x := { x with outvote := SMap.put x.outvote lane s.tick }
  if again && !x.retired.contains lane then
    ((s.setLanes t { x with retired := lane :: x.retired }).setF b F.EDGE_STAT_IN_SERVICE
      (s.getF b F.EDGE_STAT_IN_SERVICE - 1)).pulse b 1
  else s.setLanes t x

/-- A blanking window of the generator's BLANK from an instant on (R161), beside those that are not over. -/
def State.openBlank (s : State) (t g at_ : Nat) : State :=
  let x := s.gen t g
  let w := 32 * s.getF (pgPWMG t g) (F.PWMG_BLANK_BLANK (g % 16))
  s.setGen t g { x with blanks := (x.blanks.filter fun e => 32 * s.tick < e.2) ++ (if w = 0 then [] else [(at_, at_ + w)]) }

/-- A transition of a PWM_OUT pin at an instant, with its LOCAL_EDGE record (R156, R218); `st` is what PK_PIN_STAT.STATE reads then. -/
def State.pinEdge (s : State) (t g p : Nat) (level : Bool) (at_ st : Nat) (delayed : Bool) : State :=
  if !s.bankOn p then s
  else
    (s.pinDrive p level at_ st).pinLogged p (s.genNo t g) level at_ delayed

/-- A pin that takes a level in this tick; where it has it, it is driven to it without a transition. -/
def State.pinTo (s : State) (t g p : Nat) (level : Bool) : State :=
  if (SMap.getD s.edge.pins p {}).level = level then s.pinDrive p level (32 * s.tick) 1
  else s.pinEdge t g p level (32 * s.tick) 1 false

/-- A transition of a local pin at its placed instant (R161, R164): pin, log, ledger and blanking window. `upset` 1 to 3 names
the one of the three lanes that disagrees. -/
def State.driveEdge (s : State) (t g : Nat) (isH rise : Bool) (at_ : Nat) (delayed : Bool) (lanes : List Nat) (upset : Nat) :
    State :=
  let b := pgPWMG t g
  let m := g % 16
  let p := s.bindPin t g isH
  let s := s.setFlag b (if isH then F.PWMG_STAT_H m else F.PWMG_STAT_L m) rise
  let s := s.openBlank t g at_
  let s := if s.bankOn p ∧ s.drivesPins t ∧ !(SMap.getD s.edge.recs (s.genNo t g) {}).repeating then
      let s := s.pinEdge t g p rise at_ 1 delayed
      if isH then s.ledH t g at_ rise else s
    else s
  if 1 ≤ upset ∧ upset ≤ 3 then s.laneOutvoted t (lanes.getD (upset - 1) 0) p else s

/-- The instant at which an edge is placed: as wanted, or with the prescribed interval behind a delayed one (R165). -/
def Gen.placeAt (x : Gen) (want : Nat) : Nat :=
  if x.lastPlaced > x.lastWant ∧ x.lastWant ≤ want then max want (x.lastPlaced + (want - x.lastWant)) else want

/-- One edge of a local pin claims its lanes, or waits (R164, R165). While EDGE's BLK_EN is 0 the pool places none (R43). -/
def State.placeEdge (s : State) (t g : Nat) (tr : Trans) (upset : Nat) : State :=
  let b := pgEDGE t
  if !s.flag b F.HDR_BLK_EN then s
  else
    let x := s.gen t g
    let l := s.lanesOf t
    if (s.freeLanes t).length ≥ 3 ∧ !(l.delayed.any fun e => e.gen == g) then
      let at_ := x.placeAt tr.at_
      let q := s.claim t
      ((q.1.setGen t g { x with lastWant := tr.at_, lastPlaced := at_ }).driveEdge t g tr.isH tr.rise at_ (at_ != tr.at_) q.2
        upset).maxF b F.EDGE_WAIT_LWAIT_MAX (at_ / 32 - tr.at_ / 32)
    else
      (((s.setLanes t { l with delayed := l.delayed ++ [⟨g, tr.isH, tr.rise, tr.at_⟩] }).satF b F.EDGE_CNT_DELAYED).setF b
        F.EDGE_LAST_GEN g |>.setFlag b F.EDGE_LAST_VALID true).pulse b 0

/-- The order in which local edges claim lanes: by match tick, then H before L (R165). -/
def claimInsert (t : Trans) : List Trans → List Trans
  | [] => [t]
  | u :: us =>
    if t.at_ / 32 < u.at_ / 32 ∨ (t.at_ / 32 = u.at_ / 32 ∧ ((t.isH ∧ !u.isH) ∨ (t.isH = u.isH ∧ t.at_ < u.at_))) then t :: u :: us
    else u :: claimInsert t us

def claimSort (ts : List Trans) : List Trans := ts.foldr claimInsert []

/-- Transitions of a generator's outputs: edges of local pins; with no binding only the levels move (R153). -/
def State.outputs (s : State) (t g : Nat) (ts : List Trans) (upset : Nat) : State :=
  (claimSort ts).foldl (fun s tr =>
    if s.bindMode t g = 1 then (if tr.isH ∨ s.flag (pgPWMG t g) (F.PWMG_BIND_L_EN (g % 16)) then s.placeEdge t g tr upset else s)
    else s.setFlag (pgPWMG t g) (if tr.isH then F.PWMG_STAT_H (g % 16) else F.PWMG_STAT_L (g % 16)) tr.rise) s

/-- The outputs of a generator enter the dust sheet in this tick; a remote one sends its block command (R134, R156, R159,
R162). -/
def State.dust (s : State) (t g : Nat) : State :=
  let b := pgPWMG t g
  let m := g % 16
  let was := s.flag b (F.PWMG_STAT_DS m)
  let s := s.ledOff t g
  let s := ((s.setFlag b (F.PWMG_STAT_H m) false).setFlag b (F.PWMG_STAT_L m) false).setFlag b (F.PWMG_STAT_DS m) true
  let x := s.gen t g
  let s := s.setGen t g { x with
    m := false, om := false, h := false, l := false, hRise := none, lRise := none, lSupp := false, plan := [], pulse := false
    catchAt := none }
  let l := s.lanesOf t
  let s := s.setLanes t { l with
    delayed := l.delayed.filter fun e => e.gen != g
    sets := l.sets.filter fun e => e.1 != g }
  if s.role t ≠ 0 then s
  else match s.bindMode t g with
    | 1 => let s := s.pinDust (s.bindPin t g true)
      if s.flag b (F.PWMG_BIND_L_EN m) then s.pinDust (s.bindPin t g false) else s
    | 2 => if was || !s.drives t then s else s.blockCommand (s.bindRing t g) (s.bindPos t g) (s.bindLeg t g) (s.genNo t g)
    | _ => s

/-- The outputs leave the dust sheet: both pins are driven low (R158, R163). -/
def State.undust (s : State) (t g : Nat) : State :=
  let b := pgPWMG t g
  let m := g % 16
  let s := s.setFlag b (F.PWMG_STAT_DS m) false
  if s.bindMode t g = 1 ∧ s.drivesPins t then
    let p := s.bindPin t g true
    let q := s.bindPin t g false
    let s := if s.bankOn p then s.pinDrive p false (32 * s.tick) 1 else s
    if s.flag b (F.PWMG_BIND_L_EN m) && s.bankOn q then s.pinDrive q false (32 * s.tick) 1 else s
  else s

/-! ### Run, stop, arm, disarm (R134, R138, R158, R159, R163) -/

/-- A generator leaves ARMING, ARMED and TRIPPED: the staged writes of its contexts apply (R32). -/
def State.leaveArmed (s : State) (t g st : Nat) : State :=
  let armed := s.genArmed t g
  let s := s.setGenState t g st
  if armed then s.boundary t g else s

/-- RUN is set: the first reload is scheduled (R134). -/
def State.genRun (s : State) (t g : Nat) : State :=
  let b := pgPWMG t g
  let m := g % 16
  let start := s.getF b (F.PWMG_START_START m)
  let per := s.shadowPer t g
  let c := s.count + 4
  let at_ := if start ≥ c then start else start + (c - start + per - 1) / per * per
  let s := if s.genState t g = 5 then s.setGenState t g 0 else s
  (s.setFlag b (F.PWMG_CTRL_RUN m) true).setGen t g { s.gen t g with
    first := some (s.tick + (at_ - s.count)), matched := 0, presc := 0, loadNext := false }

/-- RUN is cleared: the counter stops, the outputs enter the dust sheet and ARM is cleared (R134). -/
def State.genStop (s : State) (t g : Nat) : State :=
  let b := pgPWMG t g
  let m := g % 16
  let s := ((s.setFlag b (F.PWMG_CTRL_RUN m) false).setFlag b (F.PWMG_CTRL_ARM m) false).setFlag b (F.PWMG_CTRL_CLR_REQ m) false
  let s := s.dust t g
  (s.setGen t g { s.gen t g with first := none, loadNext := false }).leaveArmed t g (if s.genState t g = 5 then 5 else 0)

/-- Whether arming is refused (R43, R158). -/
def State.armRefused (s : State) (t g : Nat) : Bool :=
  s.bindMode t g == 0 || s.genState t g == 5 || !s.flag (pgPWMG t g) F.HDR_BLK_EN || !s.flag (pgEDGE t) F.HDR_BLK_EN

/-- ARM is written 0, in any state (R159). Before the first reload after RUN, where R134 has STATE read STOPPED and R159
DISARMED, the model gives DISARMED from ARMING and leaves STOPPED as it is (DESIGN CHOICE, log 62). A pending CLR_REQ ends with it
(DESIGN CHOICE, log 10). -/
def State.genDisarm (s : State) (t g : Nat) : State :=
  let b := pgPWMG t g
  let m := g % 16
  let s := (s.setFlag b (F.PWMG_CTRL_ARM m) false).setFlag b (F.PWMG_CTRL_CLR_REQ m) false
  let s := s.dust t g
  s.leaveArmed t g (if s.flag b (F.PWMG_CTRL_RUN m) then 1 else 0)

/-- A write of ARM = 0 in STOPPED or DISARMED changes nothing (for STOPPED with RUN = 1: DESIGN CHOICE, log 62). -/
def State.leavesArm (s : State) (t g : Nat) : State :=
  if s.genState t g < 2 && !s.flag (pgPWMG t g) (F.PWMG_CTRL_ARM (g % 16)) then s else s.genDisarm t g

/-- RUN is written (R134). -/
def State.ctrlRun (s : State) (t g : Nat) (on : Bool) : State :=
  if on = s.flag (pgPWMG t g) (F.PWMG_CTRL_RUN (g % 16)) then s else if on then s.genRun t g else s.genStop t g

/-- A PER below 64 in force (R138). -/
def State.genCfgErr (s : State) (t g : Nat) : State :=
  let b := pgPWMG t g
  let m := g % 16
  let s := ((s.setFlag b (F.PWMG_CTRL_RUN m) false).setFlag b (F.PWMG_CTRL_ARM m) false).setFlag b (F.PWMG_CTRL_CLR_REQ m) false
  let s := s.dust t g
  ((s.setGen t g { s.gen t g with first := none, loadNext := false }).leaveArmed t g 5).setFlag b (F.PWMG_STAT_CFG_ERR m) true
    |>.pulse b 16

/-! ### Trips (R160 to R163) -/

/-- The sources bound to a generator: bits 0 to 15 comparators, 16 to 31 TRIP inputs. -/
def State.tripSel (s : State) (t g : Nat) : Nat :=
  s.getF (pgPWMG t g) (F.PWMG_TRIPSEL_CMP (g % 16)) + 2 ^ 16 * s.getF (pgPWMG t g) (F.PWMG_TRIPSEL_PIN (g % 16))

/-- The lowest bound source that is active. -/
def State.tripSource (s : State) (t g : Nat) : Option Nat :=
  (List.range 32).find? fun k => bit (s.tripSel t g) k && s.edge.active.contains (32 * (t / 10) + k)

/-- Whether some part of the present tick lies in a window. -/
def State.inWindow (s : State) (e : Nat × Nat) : Bool := decide (e.1 ≤ 32 * s.tick + 31) && decide (32 * s.tick < e.2)

/-- Whether a generator is inside one of its blanking windows (R161). A remote transition's window opens at its commanded
instant. -/
def State.blanked (s : State) (t g : Nat) : Bool :=
  let x := s.gen t g
  let w := 32 * s.getF (pgPWMG t g) (F.PWMG_BLANK_BLANK (g % 16))
  x.blanks.any s.inWindow || (w != 0 && x.plan.any fun tr => s.inWindow (tr.at_, tr.at_ + w))

/-- The TRIP record of a generator (R218). A staged tile's gate releases none (R368). -/
def State.tripLogged (s : State) (t g src : Nat) : State :=
  if s.role t ≠ 0 then s else s.klogRecord (t / 10) 6 0 (s.genNo t g) s.count [src, 0, 0, 0]

/-- A generator is TRIPPED by a source at a count of the time base (R162). -/
def State.tripNoted (s : State) (t g src at_ : Nat) : State :=
  let b := pgPWMG t g
  let m := g % 16
  let s := (s.dust t g).setGenState t g 4
  (((s.satF b (F.PWMG_TRIPREC_TRIPS m)).setF b (F.PWMG_TRIPREC_SRC m) src).setFlag b (F.PWMG_TRIPREC_SRC_VALID m)
    true).setF b (F.PWMG_TRIP_TICK_TICK m) at_

/-- A trip (R162). -/
def State.trip (s : State) (t g src : Nat) : State :=
  ((s.tripNoted t g src s.count).tripLogged t g src).pulse (pgPWMG t g) (g % 16)

/-- A generator meets its active sources (R161, R162). -/
def State.tripCheck (s : State) (t g : Nat) : State :=
  let st := s.genState t g
  if (st = 2 ∨ st = 3) ∧ !s.blanked t g then
    match s.tripSource t g with
    | some src => s.trip t g src
    | none => s
  else s

/-- ARM is written 1 in STOPPED or DISARMED (R158); a source that is active trips the generator at once (R162). -/
def State.genArm (s : State) (t g : Nat) : State :=
  let b := pgPWMG t g
  let m := g % 16
  if s.genState t g < 2 then
    (((s.setFlag b (F.PWMG_CTRL_ARM m) true).setGenState t g 2).setGen t g { s.gen t g with armAt := s.tick }).tripCheck t g
  else s

/-- Pins of a generator that the pin keeper repeats, by STATE 0b10 (R364). -/
def State.keeperPins (s : State) (t g : Nat) : List Nat :=
  ((if s.flag (pgPWMG t g) (F.PWMG_BIND_L_EN (g % 16)) then [s.bindPin t g true, s.bindPin t g false] else
    [s.bindPin t g true])).filter fun p => s.getF (pgPKEEP p) (F.PK_PIN_STAT_STATE (p % 16)) == 2

/-- The period record that the pin keeper has of a generator of an active tile (R363). -/
def State.rec_ (s : State) (t g : Nat) : PeriodRec := if s.role t = 0 then SMap.getD s.edge.recs (s.genNo t g) {} else {}

def State.setRec (s : State) (t g : Nat) (r : PeriodRec) : State :=
  { s with edge.recs := SMap.put s.edge.recs (s.genNo t g) r }

/-- Pins of a generator end in the dust sheet while the pin keeper repeats it, at the limit or by a trip of a source (R364, R365). -/
def State.keeperEnd (s : State) (t g : Nat) (ps : List Nat) (src : Option Nat) : State :=
  let r := s.rec_ t g
  let s := ps.foldl (fun s p => s.pinDust p) s
  let s := if ps.contains (s.bindPin t g true) then s.ledOff t g else s
  match src with
  | none => s.setRec t g { r with dust := true }
  | some k => (s.setRec t g { r with tripped := some (r.tripped.getD (k, s.count)) }).tripLogged t g k

/-- A generator whose pins the keeper ended comes up TRIPPED or DISARMED (R364, R365). -/
def State.keeperFate (s : State) (t g : Nat) : State :=
  let r := s.rec_ t g
  if !r.repeating ∨ (!r.dust ∧ r.tripped.isNone) then s
  else
    let s := s.setRec t g { r with repeating := false, todo := [] }
    match r.tripped with
    | some (src, at_) => ((s.tripNoted t g src at_).pulse (pgPWMG t g) (g % 16)).boundary t g
    | none => (((s.dust t g).setGenState t g 1).setFlag (pgPWMG t g) (F.PWMG_CTRL_ARM (g % 16)) false).boundary t g

/-- A pin pair that the pin keeper repeats meets an active source (R364). -/
def State.keeperTrip (s : State) (t g : Nat) : State :=
  if (s.rec_ t g).repeating ∧ (s.rec_ t g).tripped.isNone ∧ !s.blanked t g then
    match s.tripSource t g with
    | some k => s.keeperEnd t g (s.keeperPins t g) (some k)
    | none => s
  else s

/-- The pin keeper takes over the pins of one armed local generator at the start of tick D + 1 (R364, R365): it completes the period in
progress with the transitions that fall after D. -/
def State.keeperTakeGen (s : State) (t g : Nat) : State :=
  if s.genState t g ≠ 3 ∨ s.bindMode t g ≠ 1 ∨ !SMap.has s.edge.recs (s.genNo t g) then s
  else
    let r := s.rec_ t g
    let x := s.gen t g
    let pins := if s.flag (pgPWMG t g) (F.PWMG_BIND_L_EN (g % 16)) then [s.bindPin t g true, s.bindPin t g false]
      else [s.bindPin t g true]
    let s := pins.foldl (fun s p =>
      if s.getF (pgPKEEP p) (F.PK_PIN_STAT_STATE (p % 16)) = 1 then
        (s.setF (pgPKEEP p) (F.PK_PIN_STAT_STATE (p % 16)) 2).setF (pgPKEEP p) (F.PK_PIN_STAT_REPEATS (p % 16)) 0
      else s) s
    let s := s.setRec t g { r with
      todo := r.trans.filter fun tr => decide (32 * s.tick ≤ tr.at_)
      hFall := if x.h then 0 else x.lastPlaced
      lFall := if x.l then 0 else x.lastPlaced
      reps := 0, repeating := true, dust := false, tripped := none }
    let zero := pins.filter fun p => s.getF (pgPKEEP p) (F.PK_PIN_CTRL_REPEAT_MAX (p % 16)) == 0
    if zero.isEmpty then s else s.keeperEnd t g zero none

/-- The pin keeper takes over the pins of a tile's armed local generators (R364). -/
def State.keeperTake (s : State) (t : Nat) : State :=
  (s.edge.gens.filter fun kv => kv.1 / 256 == t).foldl (fun s kv => s.keeperTakeGen t (kv.1 % 256)) s

/-- A generator takes its pins back from the pin keeper (R360). -/
def State.keeperBack (s : State) (t g : Nat) : State :=
  let r := s.rec_ t g
  if !r.repeating then s
  else
    let x := s.gen t g
    let s := (s.keeperPins t g).foldl (fun s p =>
      let isH := p == s.bindPin t g true
      let v := if isH then x.h else x.l
      let s := s.setF (pgPKEEP p) (F.PK_PIN_STAT_STATE (p % 16)) 1
      if (SMap.getD s.edge.pins p {}).level = v then s
      else
        let s := s.pinEdge t g p v (32 * s.tick) 1 false
        if isH then s.ledH t g (32 * s.tick) v else s) s
    s.setRec t g { r with repeating := false, todo := [] }

/-- The next transition of a repeated record changes its pin, with a rise held DT behind the other output's fall (R364). -/
def State.keeperEdge (s : State) (t g : Nat) : State :=
  let r := s.rec_ t g
  match r.todo with
  | [] => s
  | tr :: rest =>
    if !r.repeating ∨ s.tick < tr.at_ / 32 then s
    else
      let p := s.bindPin t g tr.isH
      let pin := SMap.getD s.edge.pins p {}
      let other := if tr.isH then r.lFall else r.hFall
      if !(s.keeperPins t g).contains p ∨ pin.level = tr.rise then s.setRec t g { r with todo := rest }
      else if tr.rise ∧ tr.at_ < other + r.dt then
        s.setRec t g { r with todo := transSort ({ tr with at_ := other + r.dt } :: rest) }
      else
        let r := { r with
          todo := rest
          hFall := if tr.isH && !tr.rise then tr.at_ else r.hFall
          lFall := if !tr.isH && !tr.rise then tr.at_ else r.lFall }
        let s := (s.setRec t g r).openBlank t g tr.at_
        let s := s.pinEdge t g p tr.rise tr.at_ 2 false
        if tr.isH then s.ledH t g tr.at_ tr.rise else s

/-- The end of a repeated record's period: it is repeated with BASE + PER, or the pins at their limit end in the dust sheet
(R364, R365). Where the new tile is ready by then its generator is disarmed at once. -/
def State.keeperPeriod (s : State) (t g : Nat) : State :=
  let r := s.rec_ t g
  let n := r.reps + 1
  if !r.repeating ∨ r.per = 0 ∨ s.tick < r.reload + n * r.per then s
  else
    let pins := s.keeperPins t g
    let full := pins.filter fun p =>
      decide (s.getF (pgPKEEP p) (F.PK_PIN_STAT_REPEATS (p % 16)) ≥ s.getF (pgPKEEP p) (F.PK_PIN_CTRL_REPEAT_MAX (p % 16)))
    let s := if full.isEmpty then s else s.keeperEnd t g full none
    let s := (pins.filter fun p => !full.contains p).foldl (fun s p => s.satF (pgPKEEP p) (F.PK_PIN_STAT_REPEATS (p % 16))) s
    let s := s.setRec t g { s.rec_ t g with
      reps := n
      todo := transSort (r.todo ++ r.trans.map fun tr => { tr with at_ := tr.at_ + 32 * (n * r.per) }) }
    if s.gateShut t then s else s.keeperFate t g

/-- The trip-path level of source `k` of cluster `c` turns active: every generator bound to it meets it. -/
def State.tripLevel (s : State) (c k : Nat) (on : Bool) : State :=
  let key := 32 * c + k
  if !on then { s with edge.active := s.edge.active.filter (· ≠ key) }
  else
    let s := if s.edge.active.contains key then s else { s with edge.active := key :: s.edge.active }
    s.edge.gens.foldl (fun s kv =>
      if kv.1 / 2560 = c ∧ bit (s.tripSel (kv.1 / 256) (kv.1 % 256)) k then
        (if s.gateShut (kv.1 / 256) then s.keeperTrip (kv.1 / 256) (kv.1 % 256) else s.tripCheck (kv.1 / 256) (kv.1 % 256))
      else s) s

/-! ### Events (R146 to R148) -/

/-- Event `e` of a generator: 0 ZERO, 1 PEND, 2 ON, 3 OFF, 4 EVA, 5 EVB. -/
def State.genEvent (s : State) (t g e : Nat) : State :=
  let b := pgPWMG t g
  let m := g % 16
  if (s.gen t g).presc ≠ s.getF b (F.PWMG_CFG_EVPH m) ∨ s.gateShut t ∨ s.role t ≠ 0 then s
  else
    let s := if bit (s.getF b (F.PWMG_EVSEL_PA_SEL m)) e then s.produce (lathTile t) (2 * g) else s
    if bit (s.getF b (F.PWMG_EVSEL_PB_SEL m)) e then s.produce (lathTile t) (2 * g + 1) else s

/-! ### Reload (R134 to R139, R149, R153) -/

/-- Counts of a formed period (R149 to R152). -/
def State.countFormed (s : State) (t g supp short : Nat) : State :=
  let b := pgPWMG t g
  let m := g % 16
  ((s.satF b (F.PWMG_CSUPP_CSUPP m) supp).satF b (F.PWMG_CSUPP_CSHORT m) short).pulse b 19 (supp + short)

/-- An event compare written in immediate mode enters in force together with the shadow (R142). -/
def State.immediate (s : State) (t g k : Nat) : State :=
  let x := s.gen t g
  let v := s.shadowCmp t g k
  let c := s.genCount t g
  let m := setBit x.matched k (decide (v / 32 ≤ c))
  s.setGen t g (if k = 2 then { x with eva := v, matched := m } else { x with evb := v, matched := m })

/-- The same where the immediate mode of compare `k` is selected. -/
def State.immediateIf (s : State) (t g k : Nat) : State :=
  let b := pgPWMG t g
  if (k = 2 ∧ s.flag b (F.PWMG_CFG_EVA_IMM (g % 16))) ∨ (k = 3 ∧ s.flag b (F.PWMG_CFG_EVB_IMM (g % 16))) then s.immediate t g k
  else s

/-- The loop commits that have reached the shadow enter it, in the order of R121 (R139, R140, R142). -/
def State.shadowEntry (s : State) (t g : Nat) (before : Nat) : State :=
  let x := s.gen t g
  let due := x.shPend.filter fun e => e.1 ≤ before
  let now := (due.filter fun e => e.1 == s.tick).map fun e => (e.1, e.2.1)
  due.foldl (fun s e =>
      if e.2.1 = 4 then s.setF (pgPWMG t g) (F.PWMG_PER_PER (g % 16)) e.2.2.1
      else (s.setShadowCmp t g e.2.1 e.2.2.1).immediateIf t g e.2.1)
    (s.setGen t g { x with
      shPend := x.shPend.filter fun e => !(decide (e.1 ≤ before))
      entered := (x.entered.filter fun e => e.1 == s.tick) ++ now })

/-- The shadow fields that a loop commit has entered in the present tick: a core write of this tick comes before it (R140). -/
def State.loopEntered (s : State) (t g : Nat) : List Fld :=
  let m := g % 16
  ((s.gen t g).entered.filter fun e => e.1 == s.tick).flatMap fun e =>
    match e.2 with
    | 0 => [F.PWMG_CMP_ON_TICK m, F.PWMG_CMP_ON_FRAC m]
    | 1 => [F.PWMG_CMP_OFF_TICK m, F.PWMG_CMP_OFF_FRAC m]
    | 2 => [F.PWMG_CMP_EVA_TICK m, F.PWMG_CMP_EVA_FRAC m]
    | 3 => [F.PWMG_CMP_EVB_TICK m, F.PWMG_CMP_EVB_FRAC m]
    | _ => [F.PWMG_PER_PER m]

/-- Offsets of transitions in a period, as entries of a set or a record. -/
def transEnts (base : Nat) (ts : List Trans) : List (Nat × Nat × Bool) :=
  ts.map fun tr => (tr.at_ - 32 * base, if tr.isH then 0 else 1, tr.rise)

/-- The set of the period is handed to the ring transmitter (R153, R179); a period with no transition restates H, DESIGN CHOICE
(log 63): in an entry with OFFSET 0. -/
def State.handover (s : State) (t g : Nat) : State :=
  let x := s.gen t g
  let ents := transEnts x.origin x.plan
  let ents := if ents.isEmpty then [(0, 0, x.h)] else ents
  let base := (x.origin + s.time.ofs) % 2 ^ 64
  let s := s.handSet (s.bindRing t g) (s.bindPos t g) (s.bindLeg t g) (s.genNo t g) base x.per
    (s.getF (pgPWMG t g) (F.PWMG_PNUM_PNUM (g % 16))) ents
  s.ledSet t g x.origin x.per ((ents.filter fun e => e.2.1 == 0).map fun e => (e.1, e.2.2))

/-- A remote set has its three lanes; at the ring transmitter its copies are voted, and a set without a majority is not sent
(R164, R167). -/
def State.voteSet (s : State) (t g : Nat) (nomaj : Bool) : State :=
  let s := (s.claim t).1
  if nomaj then (s.satF (pgEDGE t) F.EDGE_CNT_NOMAJ).pulse (pgEDGE t) 2 else s.handover t g

/-- A remote set claims its lanes in its reload tick, or waits; it never takes the last 24 (R164, R165). -/
def State.claimSet (s : State) (t g : Nat) (nomaj : Bool) : State :=
  if (s.freeLanes t).length ≥ 27 then s.voteSet t g nomaj
  else s.setLanes t { s.lanesOf t with sets := (s.lanesOf t).sets ++ [(g, s.tick, nomaj)] }

/-- The period record of a local generator goes to the pin keeper (R363). -/
def State.sendRecord (s : State) (t g : Nat) (ts : List Trans) : State :=
  if s.role t ≠ 0 then s
  else
    let x := s.gen t g
    let rec_ : PeriodRec := { reload := x.origin, per := x.per, dt := (s.dead t g).dt, trans := transSort ts }
    { s with edge.recs := SMap.put s.edge.recs (s.genNo t g) rec_ }

/-- A set or block command of a partition that is not driven here is discarded, and its SEQ with it: the stream keeps pace with the owner's
(R445, R446). -/
def State.skipSeq (s : State) (t g : Nat) : State :=
  if s.role t = 0 ∧ s.flag (pgRING (s.bindRing t g)) F.RING_CTRL_EDGE_EN then
    (s.nextSeq (s.bindRing t g) (s.bindPos t g * 4 + s.bindLeg t g)).2
  else s

/-- The outputs of a period that starts at this reload in ARMED: `m` tells whether M is on, `fresh` that the generator has
just left the dust sheet. -/
def State.startPeriod (s : State) (t g : Nat) (m fresh nomaj : Bool) : State :=
  let b := pgPWMG t g
  let k := g % 16
  let p := s.dead t g
  let q := (s.gen t g).mainPulse p (s.getF b (F.PWMG_CFG_MINPW_POLICY k)) m
  let s := s.setGen t g q.1
  let s := match q.2 with
    | 1 => (s.satF b (F.PWMG_DROPS_DROPS k)).pulse b 19
    | 2 => (s.satF b (F.PWMG_DROPS_STRETCH k)).pulse b 19
    | _ => s
  let x := s.gen t g
  let after := s.riseAfter t g
  if s.bindMode t g = 2 then
    let s := x.plan.foldl (fun s tr => s.openBlank t g tr.at_) s
    let x := s.gen t g
    let f := x.form p (x.om && !fresh) fresh after
    let on := m && !(x.pulse && x.pOn == 0)
    let y : Gen := { f.gen with
      m := m && !on
      plan := transSort f.trans
      h0 := x.h
      l0 := x.l }
    let s : State := (s.setGen t g y).countFormed t g f.supp f.short
    let s : State := if on then s.genEvent t g 3 else s
    if !s.drives t then s.skipSeq t g
    else if (f.gen : Gen).quiet ≤ (f.gen : Gen).origin then s.claimSet t g nomaj else s
  else
    let rec_ := (x.form p m fresh after).trans
    let f := ({ gen := x } : Formed).start p m fresh after
    let falls := m && !(x.pulse && x.pOn == 0)
    let s := (s.setGen t g { f.gen with m := m && !falls }).countFormed t g f.supp 0
    let s := s.outputs t g f.trans 0
    let s := if falls then s.genEvent t g 3 else s
    if s.bindMode t g = 1 ∧ x.quiet ≤ x.origin then s.sendRecord t g rec_ else s

/-- M of a local generator rises at an instant: L falls, and what is delayed to a later part of the same tick rises with it
(R150, R165). -/
def State.mRise (s : State) (t g at_ upset : Nat) : State :=
  let q := ({ s.gen t g with m := true } : Gen).mUp (s.dead t g) at_
  let f := q.1.flush (32 * (at_ / 32 + 1))
  ((s.setGen t g f.1).countFormed t g 0 q.2.2.toNat).outputs t g (q.2.1 ++ f.2) upset

/-- M of a local generator falls at an instant (R150, R151). -/
def State.mFalls (s : State) (t g at_ upset : Nat) : State :=
  let q := ({ s.gen t g with m := false } : Gen).mDown (s.dead t g) at_ (s.riseAfter t g) (32 * (at_ / 32))
  let f := q.1.flush (32 * (at_ / 32 + 1))
  ((s.setGen t g f.1).countFormed t g q.2.2.toNat 0).outputs t g (q.2.1 ++ f.2) upset

/-- M turns off by catch-up, in the tick after the load (R144, R146). -/
def State.catchUp (s : State) (t g : Nat) : State :=
  match (s.gen t g).catchAt with
  | none => s
  | some c =>
    if s.tick < c then s
    else
      let s := s.setGen t g { s.gen t g with catchAt := none }
      if s.genState t g = 3 ∧ (s.gen t g).m then
        ((s.setFlag (pgPWMG t g) (F.PWMG_STAT_CATCHUP (g % 16)) true).mFalls t g (32 * c) 0).genEvent t g 3
      else s

/-- What comes before a reload at tick `r`: a catch-up that is due (R144), commits that have reached the shadow (R139), and the pins back
from the keeper (R364). -/
def State.reloadBegin (s : State) (t g r : Nat) : State :=
  let s := (s.catchUp t g).shadowEntry t g (r - 1)
  if (s.gen t g).quiet ≤ r then s.keeperBack t g else s

/-- A generator at its reload: a new period, and the shadow in force unless it is held (R133, R140, R147, R475). -/
def State.reloaded (s : State) (t g r : Nat) : Gen :=
  let b := pgPWMG t g
  let k := g % 16
  let n := s.getF b (F.PWMG_CFG_PRESC k) + 1
  let x := s.gen t g
  let x := { x with
    origin := r, load := none, first := none, begun := if x.first.isSome then r else x.begun, matched := 0, presc := if x.first.isSome then 0 else (x.presc + 1) % n }
  if s.flag b (F.PWMG_CTRL_SH_HOLD k) ∨ SMap.get? s.bus.frozen b = some 1 then x
  else { x with
    per := s.shadowPer t g
    on_ := s.shadowCmp t g 0
    off_ := s.shadowCmp t g 1
    eva := s.shadowCmp t g 2
    evb := s.shadowCmp t g 3 }

/-- The period number at a reload, from STATE `st` (R158): 0 where the generator arms. -/
def State.reloadNumber (s : State) (t g st : Nat) (arming : Bool) : State :=
  let f := F.PWMG_PNUM_PNUM (g % 16)
  if arming then s.setF (pgPWMG t g) f 0 else if st = 3 ∨ st = 4 then s.incF (pgPWMG t g) f else s

/-- STATE at a reload, from STATE `st` (R134, R159, R163): it arms or is cleared, or it first runs. -/
def State.reloadState (s : State) (t g st : Nat) (arms : Bool) : State :=
  if arms then (((s.setGenState t g 3).setFlag (pgPWMG t g) (F.PWMG_CTRL_CLR_REQ (g % 16)) false).undust t g)
  else if st = 0 then s.setGenState t g 1 else s

/-- A reload of a running generator (R133, R134, R139). The reload tick is that of the schedule. -/
def State.genReload (s : State) (t g : Nat) (nomaj : Bool) (ledErr : Int) : State :=
  let b := pgPWMG t g
  let k := g % 16
  let r := s.nextReload t g
  if !s.flag b (F.PWMG_CTRL_RUN k) ∨ s.tick < r then s
  else
    let s := s.reloadBegin t g r
    let m := (s.gen t g).m
    let x := s.reloaded t g r
    let s := s.setGen t g x
    if x.per < 64 then s.genCfgErr t g
    else
      let st := s.genState t g
      let arming := st == 2 && decide (x.armAt + 4 ≤ r)
      let arms := arming || (st == 4 && s.flag b (F.PWMG_CTRL_CLR_REQ k) && (s.tripSource t g).isNone)
      let s := (s.reloadNumber t g st arming).reloadState t g st arms
      let s := if s.genState t g = 3 then s.startPeriod t g m arms nomaj else s
      (((s.genEvent t g 0).boundary t g).ledPeriod t g).closure t g ledErr

/-! ### Compare matches, dead time, phase loads (R135, R142 to R152) -/

/-- The instant at which compare `k` of the period matches, in fractions after the reload. -/
def Gen.cmpAt (x : Gen) (armed : Bool) (k : Nat) : Nat :=
  match k with
  | 0 => x.on_
  | 1 => if armed ∧ x.pulse then x.pOff else x.off_
  | 2 => x.eva
  | _ => x.evb

/-- Compare `k` (0 ON, 1 OFF, 2 EVA, 3 EVB) matches (R135, R146); a catch-up that is due stands for OFF (R144). -/
def State.compareMatch (s : State) (t g k upset : Nat) : State :=
  let s := if k = 1 then s.catchUp t g else s
  let x := s.gen t g
  let armed := s.genState t g == 3
  let v := x.cmpAt armed k
  if !s.genRuns t g ∨ bit x.matched k ∨ x.per ≤ v / 32 ∨ s.genCount t g < v / 32 then s
  else
    let at_ := 32 * x.enters (v / 32) + v % 32
    let x := { x with matched := setBit x.matched k true }
    let s := s.setGen t g x
    let remote := s.bindMode t g == 2
    match k with
    | 0 =>
      if !armed ∨ !x.pulse ∨ x.m then s
      else (if remote then s.setGen t g { x with m := true } else s.mRise t g at_ upset).genEvent t g 2
    | 1 =>
      if !armed ∨ !x.m then s
      else (if remote then s.setGen t g { x with m := false } else s.mFalls t g at_ upset).genEvent t g 3
    | 2 => s.genEvent t g 4
    | _ => s.genEvent t g 5

/-- The counter holds PER - 1 (R146). -/
def State.pendEvent (s : State) (t g : Nat) : State :=
  let x := s.gen t g
  if s.genRuns t g ∧ s.genCount t g + 1 ≥ x.per ∧ !bit x.matched 4 then
    (s.setGen t g { x with matched := setBit x.matched 4 true }).genEvent t g 1
  else s

/-- The delayed rise of an output takes place (R150). -/
def State.deadTime (s : State) (t g : Nat) (isH : Bool) (upset : Nat) : State :=
  let x := s.gen t g
  match (if isH then x.hRise else x.lRise) with
  | none => s
  | some r =>
    if s.tick < r / 32 ∨ s.bindMode t g = 2 then s
    else
      let x := if isH then { x with h := true, hRise := none } else { x with l := true, lRise := none, lRose := r }
      (s.setGen t g x).outputs t g [⟨isH, true, r⟩] upset

/-- The counter of one generator is loaded with PHASE (R143). With CATCHUP = 1, an M that is on and whose CMP_OFF has not
matched and now lies at the count or below it turns off in the next tick (R144). -/
def State.loadPhase (s : State) (t g : Nat) : State :=
  let b := pgPWMG t g
  let m := g % 16
  let x := s.gen t g
  let c := min (s.getF b (F.PWMG_PHASE_PHASE m)) (x.per - 1)
  if !s.genRuns t g then s
  else
    let armed := s.genState t g == 3
    let passed := (List.range 4).foldl (fun n k => if x.cmpAt armed k / 32 ≤ c then setBit n k true else n) x.matched
    let catches := armed && s.flag b (F.PWMG_CFG_CATCHUP m) && x.m && !bit x.matched 1 &&
      decide (s.genCount t g ≤ x.off_ / 32) && decide (x.off_ / 32 ≤ c)
    (s.setGen t g { x with
      load := some (s.tick, c), matched := passed, loadNext := false
      catchAt := if catches then some (s.tick + 1) else x.catchAt }).setFlag b (F.PWMG_STAT_SYNC_LD m) true

/-- An event on SYNC input `w` of PWMG page `j`: it is counted, and every generator of the page that selects it is loaded, or
will be in the tick after a reload (R143). -/
def State.syncEvent (s : State) (t j w : Nat) : State :=
  let b := pgPWMG t (16 * j)
  let s := s.satF b (if w = 0 then F.PWMG_SYNCCNT_SYNC0 else F.PWMG_SYNCCNT_SYNC1)
  (List.range 16).foldl (fun s m =>
    let g := 16 * j + m
    if s.getF b (F.PWMG_CFG_SYNC_SEL m) = w + 1 then
      if s.genRuns t g ∧ ((s.gen t g).origin = s.tick ∨ s.nextReload t g ≤ s.tick) then
        s.setGen t g { s.gen t g with loadNext := true }
      else s.loadPhase t g
    else s) s

/-- Loads that waited for the tick after a reload happen once that reload has been taken (R143). -/
def State.lateLoads (s : State) (t j : Nat) : State :=
  (List.range 16).foldl (fun s m =>
    let g := 16 * j + m
    if (s.gen t g).loadNext ∧ (s.gen t g).origin < s.tick ∧ s.tick < s.nextReload t g then s.loadPhase t g else s) s

/-- Whether this tick is one of a load of the page's counters, in which its SYNC inputs are busy (R143, R228). -/
def State.syncBusy (s : State) (t j : Nat) : Bool :=
  (List.range 16).any fun m => ((s.gen t (16 * j + m)).load.map Prod.fst) == some s.tick

/-! ### Lanes again (R164, R165) -/

/-- Lanes whose claim has ended return to the pool. -/
def State.releaseLanes (s : State) (t : Nat) : State :=
  let x := s.lanesOf t
  s.setLanes t { x with busy := x.busy.filter fun e => s.tick < e.2 }

/-- The first edge that waits, and then the first set, is placed when lanes are free (R165). -/
def State.placeDelayed (s : State) (t upset : Nat) : State :=
  let x := s.lanesOf t
  match x.delayed with
  | e :: rest =>
    if (s.freeLanes t).length < 3 then s
    else
      let gx := s.gen t e.gen
      let at_ := max (32 * s.tick + e.want % 32) (gx.placeAt e.want)
      let s := s.setLanes t { x with delayed := rest }
      let q := s.claim t
      ((q.1.setGen t e.gen { gx with lastWant := e.want, lastPlaced := at_ }).driveEdge t e.gen e.isH e.rise at_ true q.2
        upset).maxF (pgEDGE t) F.EDGE_WAIT_LWAIT_MAX (at_ / 32 - e.want / 32)
  | [] =>
    match x.sets with
    | (g, r, nomaj) :: rest =>
      if (s.freeLanes t).length < 27 then s
      else ((s.setLanes t { x with sets := rest }).voteSet t g nomaj).maxF (pgEDGE t) F.EDGE_WAIT_RWAIT_MAX (s.tick - r)
    | [] => s

/-! ### Writes of generator registers (R138 to R145, R154, R155) -/

/-- A core write has entered the shadow: LATE in a reload tick or within LATE_WIN ticks after (R141). -/
def State.lateWrite (s : State) (t g : Nat) : State :=
  let b := pgPWMG t g
  let m := g % 16
  if s.genRuns t g ∧ s.tick ≤ (s.gen t g).origin + s.getF b (F.PWMG_CFG_LATE_WIN m) then
    ((s.setFlag b (F.PWMG_STAT_LATE m) true).satF b (F.PWMG_STAT_LATE_CNT m)).pulse b 17
  else s

/-- The other generators of a cluster that hold a pin or a node and leg (R154). -/
def State.pinTaken (s : State) (t g pin : Nat) : Bool :=
  let b := pgPKEEP (64 * (t / 10) + pin)
  let i := pin % 16
  s.flag b (F.PK_PIN_STAT_BOUND i) &&
    !(s.getF b (F.PK_PIN_STAT_GEN i) == g && s.getF b (F.PK_PIN_STAT_LT i) == s.getF pgDROLE (F.ROLE_PHYS_LOGICAL t) % 8)

/-- The generator whose BIND register holds a field with this key, if it is one. -/
def bindKey (k : Nat) : Option (Nat × Nat) :=
  let a := k / 64
  let o := a % 0x1000
  let slot := a % 0x100000 / 0x1000
  if 0x08000000 ≤ a ∧ a < 0x0A800000 ∧ 0x20 ≤ slot ∧ slot < 0x30 ∧ 0xAC ≤ o ∧ (o - 0xAC) % 0x60 = 0 ∧ (o - 0xAC) / 0x60 < 16 then
    some ((a - 0x08000000) / 0x100000, 16 * (slot - 0x20) + (o - 0xAC) / 0x60)
  else none

def State.nodeTaken (s : State) (t g node leg : Nat) : Bool :=
  (s.journal ++ s.regs).any fun kv =>
    match bindKey kv.1 with
    | some (u, h) =>
      u / 10 == t / 10 && s.role u == 0 && !(u == t && h == g) && s.bindMode u h == 2 &&
        s.getF (pgPWMG u h) (F.PWMG_BIND_NODE (h % 16)) == node && s.bindLeg u h == leg
    | none => false

/-- The cause a BIND word breaks (R154): BAD_VALUE, PIN_TAKEN or NODE_TAKEN. -/
def State.bindCause (s : State) (t g v : Nat) : Nat :=
  let mode := bits v 0 2
  let lEn := bit v 2
  let hp := bits v 4 6
  let lp := bits v 10 6
  if mode = 3 ∨ (lEn ∧ hp = lp) then causeBAD_VALUE
  else if mode = 1 then
    if s.pinTaken t g hp ∨ (lEn ∧ s.pinTaken t g lp) then 0x21 else 0
  else if mode = 2 then
    if s.getF (pgPWMG t g) (F.PWMG_CFG_SYNC_SEL (g % 16)) ≠ 0 then causeBAD_VALUE
    else if s.nodeTaken t g (bits v 16 10) (bits v 26 2) then 0x22 else 0
  else 0

/-- The pin keeper shows a binding, or drops it (R154). -/
def State.showBind (s : State) (t g : Nat) (on : Bool) : State :=
  if s.bindMode t g ≠ 1 then s
  else
    let put := fun (s : State) (p : Nat) =>
      let b := pgPKEEP p
      let i := p % 16
      ((s.setFlag b (F.PK_PIN_STAT_BOUND i) on).setF b (F.PK_PIN_STAT_GEN i) (if on then g else 0)).setF b
        (F.PK_PIN_STAT_LT i) (if on then s.getF pgDROLE (F.ROLE_PHYS_LOGICAL t) else 0)
    let s := put s (s.bindPin t g true)
    if s.flag (pgPWMG t g) (F.PWMG_BIND_L_EN (g % 16)) then put s (s.bindPin t g false) else s

/-- Levels of a remote generator's outputs now, from its plan. -/
def State.planLevel (s : State) (t g : Nat) (isH : Bool) : Bool :=
  let x := s.gen t g
  x.plan.foldl (fun v tr => if tr.isH == isH && decide (tr.at_ ≤ 32 * s.tick + 31) then tr.rise else v) (if isH then x.h0 else x.l0)

end Sys2Proof.Machine
end

