-- ==== Sys2Proof/Machine/Words.lean ====
section
/-! DEFINITION. Machine/Words.lean: which fields a 32-bit word of a page holds (R36, R50), what a block reset does to them
(R16, R42, R43), and what a settings item means to them (R16, R410). -/

namespace Sys2Proof.Machine

/-- A field, or the half of a 64-bit field, as a word of a page shows it: bits [part + w - 1 : part] of the field stand at bit
`pos` of the word. -/
structure Slot where
  fld : Fld
  pos : Nat
  w : Nat
  part : Nat
deriving DecidableEq, Repr

/-- Where a distance from the first instance of a register leads: the distance of the instance, and whether it is the upper
half of a 64-bit register. -/
def dimsAt (wide : Bool) : List (Nat × Nat) → Nat → Nat → Option (Nat × Bool)
  | [], d, base => if d = 0 then some (base, false) else if wide && d == 4 then some (base, true) else none
  | (st, n) :: ds, d, base =>
    let i := min (d / st) (n - 1)
    dimsAt wide ds (d - i * st) (base + i * st)

/-- The fields that a register shows in the word at offset `off`. -/
def RegDef.slots (r : RegDef) (off : Nat) : Option (List Slot) :=
  if off < r.off then none
  else match dimsAt r.wide r.dims (off - r.off) 0 with
    | none => none
    | some (d, hi) =>
      some (r.fields.filterMap fun f =>
        let g := f.shift d
        if g.w ≤ 32 then (if g.off == off then some ⟨g, g.lo, g.w, 0⟩ else none)
        else if hi then some ⟨g, 0, g.w - 32, 32⟩ else some ⟨g, 0, 32, 0⟩)

/-- The fields that a list of registers shows in a word; none where it is a hole. -/
def slotsIn : List RegDef → Nat → Option (List Slot)
  | [], _ => none
  | r :: rs, off => match r.slots off with
    | some x => some x
    | none => slotsIn rs off

/-- The fields of the block registers of a page in the word at `off`. -/
def Page.slots (p : Page) (off : Nat) : Option (List Slot) := slotsIn p.table off

/-- A field with the part that a slot shows replaced by `v`. -/
def State.setSlot (s : State) (base : Nat) (x : Slot) (v : Nat) : State :=
  s.setF base x.fld (setBits (s.getF base x.fld) x.part x.w v)

/-- A requester's write of a slot: a write of the same cycle by a higher requester comes after it (R41). -/
def State.softSlot (s : State) (base : Nat) (x : Slot) (req v : Nat) : State :=
  if s.softUnder base x.fld x.part req then s else (s.noteSoft base x.fld x.part req).setSlot base x v

/-- What a slot shows. -/
def State.getSlot (s : State) (base : Nat) (x : Slot) : Nat := bits (s.getF base x.fld) x.part x.w

/-- Whether FREEZE_CTL has an effect in a page (R42, R475). -/
def PageT.freezable (t : PageT) : Bool :=
  t == .timr || t == .leng || t == .adc || t == .fcst || t == .dmac || t == .pwmg || t == .pkeep

/-- FREEZE_CTL of a page with its defaults (R475). -/
def F.hdrFrzEn (t : PageT) : Fld := ⟨0x020, 0, 1, .rwl, t.freezable.toNat, true⟩
def F.hdrFrzMode (t : PageT) : Fld := ⟨0x020, 1, 2, .rwl, (t == .timr).toNat, true⟩

/-- The L fields of a word of the header (R42). -/
def hdrSlots (t : PageT) (off : Nat) : List Slot :=
  if off = 0x00C then [⟨F.HDR_BLK_EN, 0, 1, 0⟩]
  else if off = 0x020 then [⟨F.hdrFrzEn t, 0, 1, 0⟩, ⟨F.hdrFrzMode t, 1, 2, 0⟩]
  else []

/-! ### Block resets of registers (R16, R42, R43) -/

/-- RO fields that show a condition which stands outside the page's registers and which a block reset does not end: the
levels of feeds, references, links and pins, what is on, in use or retired, what a command is busy with, the device's
identity and keys, the measurements (R421) and the group's tokens. They go on showing it (DEDUCED, log 58); every other
field, and every record of a past event, returns to its reset value. -/
def showsLive (p : Page) (f : Fld) : Bool :=
  match p.ty with
  | .wdog => f.off == 0x54 && f.lo == 7
  | .keep => (f.off == 0x94 && f.lo == 7) || (f.off == 0x54 && f.lo == 0)
  | .keel => f.off == 0x40 || f.off == 0x5C || f.off == 0x60 || (f.off == 0x64 && f.lo == 0)
  | .clkg => true
  | .pwrd => f.off != 0x44 || f.lo == 0
  | .rstc => f.off == 0x44
  | .dev => f.off != 0x48 || f.lo == 0 || 7 ≤ f.lo
  | .grpl => (!f.journal || f.off == 0x4C) && !(f.off == 0x44 && f.lo == 12) && f.off != 0x68 && !(f.off == 0x48 && f.lo == 16) &&
      !(decide (0xC0 ≤ f.off) && decide (f.off < 0xE0))
  | .pkeep => !(decide (0x80 ≤ f.off) && f.lo == 24)
  | .dbg => f.off == 0x44
  | .hbmc => f.off != 0x50 && f.off != 0x58
  | .core => f.off == 0x44 || f.off == 0x48 || f.off == 0x70
  | .edge => f.off == 0x40
  | .leng => f.off == 0x44 || f.off == 0x48 || 0x80 ≤ f.off
  | .meas | .otp | .xspi | .mgmt | .serd | .trip | .clu | .tile => true
  | _ => false

/-- Whether a block reset returns a field to its reset value (R42, R43). -/
def resets (p : Page) (f : Fld) : Bool :=
  !(f.acc == .ro && showsLive p f) && !(p.ty == .drole && (decide (f.off < 0x200) || f.off == 0x250 || f.off == 0x258)) &&
    !((p.ty == .clath || p.ty == .tlath || p.ty == .dlath) && p.inst == 1 && decide (0xC0 ≤ f.off)) &&
    !(p.ty == .core && f == F.CORE_CTRL_HOLD) &&
    !(p.ty == .ring && (f == F.RING_STAT_RX_CW || f == F.RING_STAT_RX_CCW))

/-- The fields of a page that its table lists at an offset. -/
def Page.fieldsAt (p : Page) (off : Nat) : List Fld := ((p.slots off).getD []).map fun x => x.fld

/-- The block registers of a page return to their reset values (R16). -/
def State.resetRegs (s : State) (p : Page) : State :=
  { s with
    regs := s.regs.filter fun kv =>
      !(kv.1 / 64 / 0x1000 == p.base / 0x1000 && decide (0x40 ≤ kv.1 / 64 % 0x1000) &&
        (p.fieldsAt (kv.1 / 64 % 0x1000)).any fun f => f.off == kv.1 / 64 % 0x1000 && f.lo == kv.1 % 64 && resets p f)
    bus.lows := s.bus.lows.filter fun kv => kv.1 / 64 / 0x1000 != p.base / 0x1000
    bus.latches := s.bus.latches.filter fun kv => kv.1 / 1024 != p.base }

/-- A REG item gives the L fields it covers the values that their page returns to at a reset (R16); bits outside its mask are
as the field has them (R418). What a page that is on holds stays. A tile page is named by the alias of its logical tile. -/
def State.journalReg (s : State) (addr value mask : Nat) : State :=
  match target s.phys addr with
  | .page p off =>
    (if off < 0x40 then hdrSlots p.ty off else (p.slots off).getD []).foldl (fun s x =>
      if x.fld.journal && bits mask x.pos x.w != 0 then
        let now := if s.pageOn p then s.getF p.base x.fld else s.resetOf p.base x.fld
        let v := setBits now x.part x.w (maskIn (bits now x.part x.w) (bits value x.pos x.w) (bits mask x.pos x.w))
        let s := if s.pageOn p then s.setF p.base x.fld (s.getF p.base x.fld) else s
        { s with journal := SMap.put s.journal (fkey p.base x.fld) v }
      else s) s
  | _ => s

end Sys2Proof.Machine
end

