-- ==== Sys2Proof/Machine/SampOps.lean ====
section
/-! DEFINITION. Machine/SampOps.lean: the analog reference, the converters, the comparators and the capture inputs
(chapter 04), and the TRIP inputs' event path (R160). -/

namespace Sys2Proof.Machine

/-! ### The reference (R79 to R81) -/

/-- The voltage of a cluster's reference, in nanovolts, to which codes and thresholds are ratiometric (R79). -/
def State.refNv (s : State) (c : Nat) : Nat := (SMap.getD s.samp.refs c {}).nv

/-! ### What trips (R79, R96, R160) -/

def State.cmp (s : State) (k : Nat) : CmpSt := SMap.getD s.samp.cmps k {}
def State.setCmp (s : State) (k : Nat) (x : CmpSt) : State := { s with samp.cmps := SMap.put s.samp.cmps k x }

/-- Whether a trip source can be active: comparator ready, TRIP input enabled (R99, R160). -/
def State.sourceOn (s : State) (c k : Nat) : Bool :=
  if k < 16 then s.flag (pgCMPR (16 * c + k)) (F.CMP_STAT_READY (k % 4)) && s.flag (pgCMPR (16 * c + k)) (F.CMP_CTRL_EN (k % 4))
  else s.flag (pgTRIP c) (F.TRIP_CTRL_EN (k - 16))

/-- The hysteresis that HYST selects, in nanovolts. -/
def hystNv (h : Nat) : Nat := if h = 0 then 0 else 5000000 * 2 ^ h

/-- The output of a comparator whose output was `was` (R96): `v` at CMPIN against THR / 1,024 of the reference, in nanovolts. -/
def cmpOut (pol was : Bool) (v : Int) (thr ref hyst : Nat) : Bool :=
  let x := 1024 * v
  let t : Int := ((thr * ref : Nat) : Int)
  let h : Int := ((1024 * hyst : Nat) : Int)
  if !pol then (if t < x then true else if x < t - h then false else was)
  else if x < t then true else if t + h < x then false else was

/-- What stands at the input of a trip source: nanovolts at a CMPIN, with the comparator's offset (R488), or the level of a TRIP
pin. Until the environment gives a level it is 0 (DESIGN CHOICE, log 61). -/
def State.inputOf (s : State) (c k : Nat) : Int := SMap.getD s.samp.inp (32 * c + k) 0

/-- Whether the trip path of a source is active: a comparator's by R96, a TRIP pin's by its level after POL; none while the
source is off (R99, R160). -/
def State.sourceActive (s : State) (c k : Nat) : Bool :=
  let v := s.inputOf c k
  s.sourceOn c k &&
    (if k < 16 then
      let b := pgCMPR (16 * c + k)
      let m := k % 4
      cmpOut (s.flag b (F.CMP_CTRL_POL m)) (s.edge.active.contains (32 * c + k)) v (s.getF b (F.CMP_THR_THR_ACT m)) (s.refNv c)
        (hystNv (s.getF b (F.CMP_CTRL_HYST m)))
    else decide (0 < v) != s.flag (pgTRIP c) (F.TRIP_CTRL_POL (k - 16)))

/-- Ticks between two samples of a source's event path: an analog-front cycle for a comparator, a tick for a TRIP pin (R100, R160). -/
def pathPer (k : Nat) : Nat := if k < 16 then 2 else 1

def State.path (s : State) (c k : Nat) : PathSt := SMap.getD s.samp.paths (32 * c + k) {}



/-- The level of a source's trip path changes in the present tick: a sample of this tick is the first of the new level. -/
def State.pathMark (s : State) (c k : Nat) : State :=
  { s with samp.paths :=
      SMap.put s.samp.paths (32 * c + k) ((s.path c k).mark (pathPer k) (s.edge.active.contains (32 * c + k)) s.tick) }

/-- The trip path of a source takes the level that its input and its registers give it (R96, R160, R162). -/
def State.sourceLook (s : State) (c k : Nat) : State :=
  let on := s.sourceActive c k
  if on = s.edge.active.contains (32 * c + k) then s else (s.pathMark c k).tripLevel c k on

/-- The input of a source has a new level. -/
def State.sourceInput (s : State) (c k : Nat) (v : Int) : State :=
  ({ s with samp.inp := SMap.put s.samp.inp (32 * c + k) v }).sourceLook c k

/-- The reference of a cluster takes a voltage, and the comparators' thresholds with it (R79, R96). -/
def State.refTo (s : State) (c : Nat) (x : RefSt) : State :=
  (List.range 16).foldl (fun s k => s.sourceLook c k) { s with samp.refs := SMap.put s.samp.refs c x }

/-! ### Settling and the window (R80, R81) -/

/-- The nominal voltage of the reference that SEL selects, in nanovolts (R80). -/
def State.refNominal (s : State) (c : Nat) : Nat :=
  match s.getF (pgAFE c) F.AFE_REF_CTRL_SEL with
  | 0 => 2500000000
  | 1 => 1000000 * s.getF (pgAFE c) F.AFE_REF_NOM_NOM_MV
  | _ => 1800000000

/-- Whether a voltage lies within 2 % of the reference's nominal value (R80). -/
def State.refInside (s : State) (c nv : Nat) : Bool :=
  decide (98 * s.refNominal c ≤ 100 * nv) && decide (100 * nv ≤ 102 * s.refNominal c)

/-- Whether any converter of a cluster has EN = 1 (R81). -/
def State.anyAdcOn (s : State) (c : Nat) : Bool :=
  (List.range 16).any fun i => s.flag (pgADC (16 * c + i)) F.ADC_CTRL_EN

/-! ### Sequences (R82 to R88, R93, R499) -/

/-- Ticks of an acquisition, of a conversion and of an entry (R82). -/
def acqTicks (lp : Bool) : Nat := if lp then 400 else 80
def convTicks (lp : Bool) : Nat := if lp then 1600 else 320
def entryTicks (lp : Bool) : Nat := if lp then 2000 else 400

def State.adc (s : State) (n : Nat) : AdcSt := SMap.getD s.samp.adcs n {}

def State.setAdc (s : State) (n : Nat) (x : AdcSt) : State :=
  ({ s with samp.adcs := SMap.put s.samp.adcs n x }).setFlag (pgADC n) F.ADC_STAT_BUSY (!x.seqs.isEmpty)

/-- The sample instant of an entry (R83). -/
def SeqSt.inst (q : SeqSt) (i : Nat) : Nat := q.s0 + i * entryTicks q.lp

/-- A sequence starts with first sample instant `s0`. -/
def State.startSeq (s : State) (n s0 : Nat) : State :=
  let b := pgADC n
  let len := s.getF b F.ADC_CTRL_LEN
  let x := s.adc n
  s.setAdc n { x with seqs := x.seqs ++ [⟨s0, len, 0, s.flag b F.ADC_CTRL_LP, s.getF b F.ADC_SEQ_CHAN, len, false⟩] }

/-- Whether a start at a converter converts nothing (R88): 0 it runs, 1 IDLE_TRIG, 2 REFLESS. Where two rows of R88 apply at
once, the spec names none as the first: the model counts SKIPPED before both and IDLE_TRIG before REFLESS (DESIGN CHOICE,
log 61). -/
def State.startBar (s : State) (n : Nat) : Nat :=
  let b := pgADC n
  if !s.flag b F.ADC_CTRL_EN || !s.flag b F.ADC_STAT_POWERED || (s.adc n).off || s.getF b F.ADC_CTRL_LEN == 0 then 1
  else if !s.flag (pgAFE (n / 16)) F.AFE_REF_STAT_REF_READY then 2 else 0

/-- Whether a halt's hold or dust sheet is on the converter's page (R95). -/
def State.adcHeld (s : State) (n : Nat) : Bool := s.pageHeld (pgADC n)

/-- An event start at a converter (R84, R88). The second of two events in one analog-front cycle overruns the SINGLE input
(R225), and counts in the page while a sequence runs. In a halt no sequence starts; a start that only the halt bars counts as
idle (R95). -/
def State.adcEvent (s : State) (n : Nat) : State :=
  let b := pgADC n
  let l := lathClu (n / 16)
  let i := 128 + n % 16
  let x := s.adc n
  match s.headTok l i with
  | none => s
  | some _ =>
    let cyc := s.tick / 2
    let timed := s.getF b F.ADC_CTRL_TRIG_MODE == 1
    if !timed && !x.seqs.isEmpty then ((s.overranOne l i).satF b F.ADC_STAT_TRIG_OVR).pulse b 1
    else if x.evAt = some cyc then s.overranOne l i
    else
      let s := (s.tookOne l i).setAdc n { x with evAt := some cyc }
      if timed then s.satF b F.ADC_STAT_IDLE_TRIG
      else match s.startBar n with
        | 0 =>
          if s.adcHeld n then s.satF b F.ADC_STAT_IDLE_TRIG
          else s.startSeq n ((s.count / 2 + 1) * 2 + acqTicks (s.flag b F.ADC_CTRL_LP))
        | 1 => s.satF b F.ADC_STAT_IDLE_TRIG
        | _ => s.satF b F.ADC_STAT_REFLESS

/-- The TIME series checked against the present moment (R85): instants skipped are counted, and the next one is set. -/
def State.timeSeries (s : State) (n : Nat) : State :=
  let b := pgADC n
  let a := s.getF b F.ADC_START_START
  let rep := s.getF b F.ADC_REPEAT_REPEAT
  let from_ := s.count + acqTicks (s.flag b F.ADC_CTRL_LP)
  if a ≥ from_ then s.setAdc n { s.adc n with next := some a }
  else if rep = 0 then (s.setAdc n { s.adc n with next := none }).satF b F.ADC_SKIP_SKIPPED
  else
    let k := (from_ - a + rep - 1) / rep
    (s.setAdc n { s.adc n with next := some (a + k * rep) }).satF b F.ADC_SKIP_SKIPPED k

/-- A TIME instant comes due: its acquisition begins (R85, R88). Where a write of ADC_START lets one come due while an earlier
entry of a running sequence still converts, a case in no row of R88, its sequence follows the running one, and both convert
whole (DESIGN CHOICE, log 61). -/
def State.timeInstant (s : State) (n : Nat) : State :=
  let b := pgADC n
  let x := s.adc n
  match x.next with
  | none => s
  | some i =>
    if s.count + acqTicks (s.flag b F.ADC_CTRL_LP) < i then s
    else
      let rep := s.getF b F.ADC_REPEAT_REPEAT
      let s := s.setAdc n { x with next := if rep = 0 then none else some (i + rep) }
      if s.adcHeld n then s.satF b F.ADC_SKIP_SKIPPED
      else match s.startBar n with
        | 0 => s.startSeq n i
        | 1 => s.satF b F.ADC_STAT_IDLE_TRIG
        | _ => s.satF b F.ADC_STAT_REFLESS

/-- SEQ_DONE at the end of a sequence (R93). -/
def State.seqDone (s : State) (n : Nat) : State :=
  (s.produce (lathClu (n / 16)) (128 + n % 16) true 2).pulse (pgADC n) 0

/-- The page that a base address names, returned to its reset values (R16). -/
def State.resetPageAt (s : State) (base : Nat) : State :=
  match target id base with
  | .page p _ => s.resetRegs p
  | _ => s

/-- A converter whose EN has been cleared powers down once nothing converts, and then a block reset takes effect (R499). -/
def State.adcDown (s : State) (n : Nat) : State :=
  let x := s.adc n
  if !x.off || !x.seqs.isEmpty then s
  else
    let s := (s.setFlag (pgADC n) F.ADC_STAT_POWERED false).setAdc n { x with off := false, rst := false }
    if x.rst then
      (s.resetPageAt (pgADC n)).setAdc n { x with off := false, rst := false, startLo := none, tick0 := 0, tick1 := 0, latch := [] }
    else s

/-- Sequences none of whose entries are still to convert end now (R93, R499). -/
def State.endSeqs (s : State) (n : Nat) : State :=
  let x := s.adc n
  let ovr := x.seqs.filter fun q => q.done ≥ q.stopAt
  (ovr.foldl (fun s _ => s.seqDone n) (s.setAdc n { x with seqs := x.seqs.filter fun q => q.done < q.stopAt })).adcDown n

/-- REF_READY falls while sequences run: the conversion whose acquisition has begun completes with REF_BAD, and the rest is
not converted (R93). -/
def State.refFell (s : State) (c : Nat) : State :=
  (List.range 16).foldl (fun s i =>
    let n := 16 * c + i
    let x := s.adc n
    let mark := fun (q : SeqSt) =>
      let begun := ((List.range q.len).filter fun k => q.inst k ≤ s.count + acqTicks q.lp).length
      { q with stopAt := min q.stopAt (max q.done begun), refBad := true }
    (s.setAdc n { x with seqs := x.seqs.map mark }).endSeqs n) s

/-- REF_READY falls, if it was set (R80, R93). -/
def State.refDown (s : State) (c : Nat) : State :=
  if s.flag (pgAFE c) F.AFE_REF_STAT_REF_READY then (s.setFlag (pgAFE c) F.AFE_REF_STAT_REF_READY false).refFell c else s

/-- Settling starts from a voltage: 20 us for the internal reference, 5 us for the others; REF_READY is 0 (R80). -/
def State.refSettleAt (s : State) (c nv : Nat) : State :=
  let us := if s.getF (pgAFE c) F.AFE_REF_CTRL_SEL = 0 then 20 else 5
  (s.refTo c ⟨some (s.tick + 2000 * us), nv⟩).refDown c

/-- The same after a change of SEL or a power-up. Until settling has ended the reference counts as at its nominal value
(DESIGN CHOICE, log 61). -/
def State.refSettle (s : State) (c : Nat) : State := s.refSettleAt c (s.refNominal c)

/-- A departure of the reference from its window, to a voltage (R80). -/
def State.refDeparture (s : State) (c nv : Nat) : State :=
  (((s.refTo c ⟨none, nv⟩).refDown c).setFlag (pgAFE c) F.AFE_REF_STAT_REF_FAULT true
    |>.satF (pgAFE c) F.AFE_REF_STAT_FAULTS).pulse (pgAFE c) 1

/-- EN is cleared, by a write or by a block reset (`rst`): conversions past their sample instant complete, the rest is
abandoned, the TIME series ends and the converter then powers down (R499). -/
def State.adcDisable (s : State) (n : Nat) (rst : Bool := false) : State :=
  let x := s.adc n
  let cut := fun (q : SeqSt) =>
    let held := ((List.range q.len).filter fun k => q.inst k ≤ s.count).length
    { q with stopAt := min q.stopAt (max q.done held) }
  ((s.setFlag (pgADC n) F.ADC_CTRL_EN false).setAdc n
    { x with seqs := x.seqs.map cut, next := none, powerAt := none, off := true, rst := rst }).endSeqs n

/-- EN is set: the converter powers up for 2 us; a TIME series is checked (R85, R88). -/
def State.adcEnable (s : State) (n : Nat) : State :=
  let b := pgADC n
  let s := (s.setFlag b F.ADC_CTRL_EN true).setAdc n { s.adc n with powerAt := some (s.tick + 4000) }
  if s.getF b F.ADC_CTRL_TRIG_MODE = 1 then s.timeSeries n else s

/-! ### Correction and the record (R89 to R91) -/

/-- VALUE as a signed number, and SAT (R89). -/
def correct (code : Nat) (ofs : Int) (gain : Nat) : Int × Bool :=
  let y := asr (((code : Int) - ofs) * gain + 2048) 12
  if y > 32767 then (32767, true) else if y < -32768 then (-32768, true) else (y, false)

/-- The code of a voltage `vin` against a reference, in nanovolts (R496): one LSB is the reference divided by 16,384, code k
lies from (k - 0.5) to (k + 0.5) LSB, and the ends clamp. `dev` is the converter's departure from that transfer (R487), in
thousandths of an LSB. -/
def adcCode (vin : Int) (ref : Nat) (dev : Int) : Nat :=
  (max 0 (min 16383 ((32768000 * vin + (2 * dev + 1000) * ref) / (2000 * ref)))).toNat

/-- The conversion in progress completes (R89 to R93, R496): `vin` is the voltage held at its sample instant, against the
cluster's reference. The spec does not say whether a sequence that runs when a hold begins converts its further entries; here
it does (R95; DESIGN CHOICE, log 61). -/
def State.convDone (s : State) (n : Nat) (vin dev : Int) : State :=
  let code := adcCode vin (s.refNv (n / 16)) dev
  let b := pgADC n
  let c := n / 16
  let x := s.adc n
  match x.seqs with
  | [] => s
  | q :: rest =>
    let inst := q.inst q.done
    if s.count < inst + convTicks q.lp ∨ q.done ≥ q.stopAt then s
    else
      let ch := (bit q.chan q.done).toNat
      let ain := 2 * (n % 16) + ch
      let y := correct code (sgn 16 (s.getF b (F.ADC_CORR_OFS ch))) (s.getF b (F.ADC_CORR_GAIN ch))
      let bad := q.refBad
      let w0 := wrap 16 y.1 + 2 ^ 16 * code + 2 ^ 30 * y.2.toNat + 2 ^ 31 * bad.toNat
      let clip := code = 0 ∨ code = 16383
      let w1 := ain + 2 ^ 7 * n + 2 ^ 13 * q.done + 2 ^ 17 * q.lp.toNat + (if clip then 2 ^ 18 else 0)
      let s := s.setAdc n { x with
        seqs := { q with done := q.done + 1 } :: rest
        tick0 := if ch = 0 then inst else x.tick0
        tick1 := if ch = 0 then x.tick1 else inst }
      let s := ((s.setF b (F.ADC_RES_RESULT ch) w0).incF b F.ADC_CNT).incF (pgAFE c) F.AFE_SBUS_CNT_RECORDS
      let s := if y.2 then s.satF b F.ADC_SKIP_SATS else s
      let rec_ : SRec := ⟨ain, wrap 16 y.1, bad, inst⟩
      let s := { s with samp.bus := SMap.upd s.samp.bus c [] (· ++ [rec_]) }
      let s := s.klogRecord c 1 0 n inst [w0, w1, 0, 0]
      let s := s.produce (lathClu c) (144 + n % 16) true 2
      let s := if bad then s.pulse b 2 else s
      s.endSeqs n

/-- The oldest record of a cluster's sample bus reaches every tile: bound contexts are triggered (R92, R108), and the ledger
arms that use the input take their IQ (R373). -/
def State.sampleDelivery (s : State) (c : Nat) : State :=
  match SMap.getD s.samp.bus c [] with
  | [] => s
  | r :: rest =>
    let s := { s with samp.bus := SMap.put s.samp.bus c rest }
    if r.refBad then s
    else
      let s := s.setIQ c true r.ain (65536 * sgn 16 r.value)
      (List.range 10).foldl (fun s j =>
        s.triggerAll (10 * c + j) 1 r.ain [65536 * r.value, r.stamp % 2 ^ 32] s.tick) s

/-- A read of RESn: the tick latch of the reader takes the record's TICK (R94). -/
def State.readRes (s : State) (n ch req : Nat) : State :=
  let x := s.adc n
  s.setAdc n { x with latch := SMap.put x.latch req (if ch = 0 then x.tick0 else x.tick1) }

/-- A write of ADC_START or of its halves; the cause it records (R65, R87). -/
def State.adcStartWrite (s : State) (n off size v : Nat) : State × Nat :=
  let b := pgADC n
  let x := s.adc n
  if size = 4 ∧ off = 0x48 then (s.setAdc n { x with startLo := some v }, 0)
  else
    let full := if size = 8 then v else 2 ^ 32 * v + x.startLo.getD (s.getF b F.ADC_START_START % 2 ^ 32)
    let s := s.setAdc n { x with startLo := none }
    if full % 2 = 1 then (s, causeBAD_VALUE)
    else
      let s := s.setF b F.ADC_START_START full
      if s.flag b F.ADC_CTRL_EN ∧ s.getF b F.ADC_CTRL_TRIG_MODE = 1 then (s.timeSeries n, 0) else (s, 0)

/-- Whether a REPEAT is too short for LEN entries (R87). -/
def repeatShort (rep len : Nat) (lp : Bool) : Bool := rep != 0 && decide (rep < len * entryTicks lp)

/-- The cause that refuses a write of ADC_CTRL, ADC_REPEAT or ADC_SEQ (R87). -/
def State.adcCause (s : State) (n off v : Nat) : Nat :=
  let b := pgADC n
  let en := s.flag b F.ADC_CTRL_EN
  let lp := s.flag b F.ADC_CTRL_LP
  let len := s.getF b F.ADC_CTRL_LEN
  let rep := s.getF b F.ADC_REPEAT_REPEAT
  if off = 0x40 then
    let mode := bits v 2 2
    let l := bits v 4 5
    let newMode := if mode < 2 then mode else s.getF b F.ADC_CTRL_TRIG_MODE
    let newLen := if l ≤ 16 then l else len
    if repeatShort rep newLen (bit v 1) ∧ (newLen ≠ len ∨ bit v 1 ≠ lp) then causeBAD_VALUE
    else if en ∧ (bit v 1 ≠ lp ∨ newMode ≠ s.getF b F.ADC_CTRL_TRIG_MODE ∨ newLen ≠ len) then 0x20 else 0
  else if off = 0x50 then
    if v % 2 = 1 ∨ repeatShort v len lp then causeBAD_VALUE else if en ∧ v ≠ rep then 0x20 else 0
  else if off = 0x54 then (if en ∧ v % 2 ^ 16 ≠ s.getF b F.ADC_SEQ_CHAN then 0x20 else 0)
  else 0

/-! ### Comparators and TRIP inputs (R96 to R100, R160) -/

/-- Whether a generator of the cluster bound to trip source `k` is in ARMING, ARMED or TRIPPED. -/
def State.sourceArmed (s : State) (c k : Nat) : Bool :=
  s.edge.gens.any fun kv => kv.1 / 2560 == c && bit (s.tripSel (kv.1 / 256) (kv.1 % 256)) k && s.genArmed (kv.1 / 256) (kv.1 % 256)

/-- A threshold comes into use; the DAC is taken to reach it at once (R98). -/
def State.thrTo (s : State) (k v : Nat) (x : CmpSt) : State :=
  ((s.setF (pgCMPR k) (F.CMP_THR_THR_ACT (k % 4)) v).setCmp k { x with waits := false }).sourceLook (k / 16) (k % 16)

/-- A write of THR_SH (R98). -/
def State.thrWrite (s : State) (k v : Nat) : State :=
  let b := pgCMPR k
  let m := k % 4
  let x := s.cmp k
  let s := if x.waits then s.satF b (F.CMP_STAT_LOADS_LOST m) else s
  let s := s.setF b (F.CMP_THR_THR_SH m) v
  if s.flag b (F.CMP_CTRL_LOAD m) then s.setCmp k { x with waits := true }
  else s.thrTo k v x

/-- A threshold-load event (R98). -/
def State.thrLoad (s : State) (k : Nat) : State :=
  let b := pgCMPR k
  let m := k % 4
  let x := s.cmp k
  if s.flag b (F.CMP_CTRL_LOAD m) ∧ x.waits then s.thrTo k (s.getF b (F.CMP_THR_THR_SH m)) x else s

/-- The event path's level of a source. -/
def State.pathLevel (s : State) (c k : Nat) : Bool :=
  if k < 16 then s.flag (pgCMPR (16 * c + k)) (F.CMP_STAT_OUT (k % 4)) else s.flag (pgTRIP c) (F.TRIP_STAT_LEVEL (k - 16))

def State.setPathLevel (s : State) (c k : Nat) (v : Bool) : State :=
  if k < 16 then s.setFlag (pgCMPR (16 * c + k)) (F.CMP_STAT_OUT (k % 4)) v
  else s.setFlag (pgTRIP c) (F.TRIP_STAT_LEVEL (k - 16)) v

/-- Both paths of a source turn inactive with its EN (R99, R160). -/
def State.sourceOff (s : State) (c k : Nat) : State :=
  let s := if s.edge.active.contains (32 * c + k) then s.pathMark c k else s
  (s.setPathLevel c k false).tripLevel c k false

/-- FILT of a source. -/
def State.pathFilt (s : State) (c k : Nat) : Nat :=
  if k < 16 then s.getF (pgCMPR (16 * c + k)) (F.CMP_CTRL_FILT (k % 4)) else s.getF (pgTRIP c) (F.TRIP_CTRL_FILT (k - 16))

/-- Whether the last FILT + 1 samples of a source's event path have the level `lv`: one sample in each analog-front cycle for a
comparator, one in each tick for a TRIP pin (R100, R160). -/
def State.pathSettled (s : State) (c k : Nat) (lv : Bool) : Bool :=
  (s.path c k).settled (pathPer k) (s.pathFilt c k) (s.edge.active.contains (32 * c + k)) lv s.tick

/-- The filtered event path of source `k` of cluster `c` accepts the active level (R100, R160). -/
def State.pathActive (s : State) (c k : Nat) : State :=
  if s.pathLevel c k || !s.pathSettled c k true then s
  else
    let s := s.setPathLevel c k true
    if k < 16 then
      ((s.produce (lathClu c) (160 + k) true 2).satF (pgCMPR (16 * c + k)) (F.CMP_STAT_ACT_CNT (k % 4))).pulse (pgCMPR (16 * c + k))
        (k % 4)
    else ((s.produce (lathClu c) (160 + k) true 2).satF (pgTRIP c) (F.TRIP_STAT_ACT_CNT (k - 16))).pulse (pgTRIP c) (k - 16)

/-- The event path accepts the inactive level (R100). -/
def State.pathInactive (s : State) (c k : Nat) : State :=
  if s.pathSettled c k false then s.setPathLevel c k false else s

/-- EN of a comparator changes (R99): with EN = 0 the source is inactive (R160). -/
def State.cmpEnable (s : State) (k : Nat) (en : Bool) : State :=
  if en then s.setCmp k { s.cmp k with enAt := some s.tick }
  else ((s.setCmp k { s.cmp k with enAt := none }).setFlag (pgCMPR k) (F.CMP_STAT_READY (k % 4)) false).sourceOff (k / 16) (k % 16)

/-- The comparators of a cluster that the journal enables power up after a reset (R16, R99). -/
def State.cmpsStart (s : State) (c : Nat) : State :=
  (List.range 16).foldl (fun s k =>
    if s.flag (pgCMPR (16 * c + k)) (F.CMP_CTRL_EN (k % 4)) then s.cmpEnable (16 * c + k) true else s) s

/-- One microsecond after EN the paths act (R99). -/
def State.cmpReady (s : State) (k : Nat) : State :=
  match (s.cmp k).enAt with
  | some t =>
    if t + 2000 ≤ s.tick then (s.setFlag (pgCMPR k) (F.CMP_STAT_READY (k % 4)) true).sourceLook (k / 16) (k % 16) else s
  | none => s

/-! ### Capture (R101 to R105) -/

def State.cap (s : State) (k : Nat) : CapSt := SMap.getD s.samp.caps k {}

def State.setCap (s : State) (k : Nat) (x : CapSt) : State := { s with samp.caps := SMap.put s.samp.caps k x }

/-- The entries that a read finds. -/
def State.capFifo (s : State) (k : Nat) : List Nat := (s.cap k).q

/-- An entry enters a FIFO; it overwrites the newest where two are held (R104). -/
def State.capPush (s : State) (k e : Nat) : State :=
  let b := pgCAPT (k / 16)
  let x := s.cap k
  match x.q with
  | [a, _] => ((s.setCap k { x with q := [a, e] }).setFlag b (F.CAP_STAT_CAP_OVR (k % 16)) true).satF b (F.CAP_STAT_LOST (k % 16))
  | _ => s.setCap k { x with q := x.q ++ [e] }

/-- What was captured in a cycle that has ended enters the FIFO: a read of that cycle has gone before it (R104). -/
def State.capSettle (s : State) (k : Nat) : State :=
  let x := s.cap k
  if x.new = [] ∨ x.cyc = s.pageCycle (pgCAPT (k / 16)) then s
  else x.new.foldl (fun s e => s.capPush k e) (s.setCap k { x with new := [] })

/-- A new level on CAPIN `k`, which has held for FILT ticks: it differs from the level accepted before, and the pad showed that one
until after it was accepted (R101, the last row of R104). -/
def State.capAccepts (s : State) (k : Nat) (level : Bool) : Bool :=
  match SMap.get? s.samp.capIn k with
  | some (lv, t) => level != lv && decide (t + 1 + s.getF (pgCAPT (k / 16)) (F.CAP_CTRL_FILT (k % 16)) ≤ s.tick)
  | none => level && decide (s.getF (pgCAPT (k / 16)) (F.CAP_CTRL_FILT (k % 16)) ≤ s.tick)

/-- An accepted level change on CAPIN `k`, stamped FILT ticks back (R101 to R104). -/
def State.capture (s : State) (k : Nat) (level : Bool) : State :=
  let b := pgCAPT (k / 16)
  let m := k % 16
  if !s.capAccepts k level then s
  else
    let edge := s.getF b (F.CAP_CTRL_EDGE m)
    let takes := s.flag b (F.CAP_CTRL_EN m) && (edge == 2 || (level && edge == 0) || (!level && edge == 1))
    let s := { s with samp.capIn := SMap.put s.samp.capIn k (level, s.tick) }
    if !takes then s
    else
      let e := (s.count - s.getF b (F.CAP_CTRL_FILT m)) % 2 ^ 62 + 2 ^ 62 * level.toNat + 2 ^ 63
      let s := s.capSettle k
      let s := s.setCap k { s.cap k with new := (s.cap k).new ++ [e], cyc := s.pageCycle b }
      ((s.incF b (F.CAP_COUNT m)).pulse b m).produce (lathClu (k / 16)) (192 + m) true 2

/-- The head entry is removed: its value, 0 from an empty FIFO (R103). What the present cycle captures comes behind (R104). -/
def State.capPop (s : State) (k : Nat) : Nat × State :=
  let s := s.capSettle k
  match s.capFifo k with
  | [] => (0, s)
  | e :: q => (e, s.setCap k { s.cap k with q := q })

/-- Clearing EN empties the FIFO; the entries add to LOST. -/
def State.capClear (s : State) (k : Nat) : State :=
  let s := s.capSettle k
  let x := s.cap k
  (s.satF (pgCAPT (k / 16)) (F.CAP_STAT_LOST (k % 16)) (x.q.length + x.new.length)).setCap k {}

end Sys2Proof.Machine
end

