-- ==== Sys2Proof/Machine/FcstOps.lean ====
section
/-! DEFINITION. Machine/FcstOps.lean: the forecast engine and the kiln log recorder (chapter 08). -/

namespace Sys2Proof.Machine

def State.fc (s : State) (c : Nat) : FcstSt := SMap.getD s.fcst c {}

/-- The page of job `j` of cluster `c`. -/
def pgJOB (c j : Nat) : Nat := pgFCST c (j + 1)

/-- An engine with new hidden state; FCST_STAT.BUSY, JOB and QUEUED follow. -/
def State.setFc (s : State) (c : Nat) (x : FcstSt) : State :=
  let s := { s with fcst := SMap.put s.fcst c x }
  let s := (s.setFlag (pgFCST c 0) F.FCST_STAT_BUSY x.run.isSome).setF (pgFCST c 0) F.FCST_STAT_QUEUED x.queue.length
  match x.run with
  | some r => s.setF (pgFCST c 0) F.FCST_STAT_JOB r.launch.job
  | none => (s.setF (pgFCST c 0) F.FCST_STAT_JOB 0).setF (pgFCST c 0) F.FCST_STAT_STAGE 0

/-- The reference generator of a job: physical tile and generator. -/
def State.jobRef (s : State) (c j : Nat) : Nat × Nat :=
  (s.phys (8 * c + s.getF (pgJOB c j) F.JOB_REFGEN_LT), s.getF (pgJOB c j) F.JOB_REFGEN_GEN)

/-- The cells of a job: logical tile and local context, in order (R203). -/
def State.jobCells (s : State) (c j : Nat) : List (Nat × Nat) :=
  (List.range 4).flatMap fun r =>
    (List.range (s.getF (pgJOB c j) (F.JOB_RUN_COUNT r))).map fun k =>
      (8 * c + s.getF (pgJOB c j) (F.JOB_RUN_LT r), s.getF (pgJOB c j) (F.JOB_RUN_FIRST r) + k)

def State.jobN (s : State) (c j : Nat) : Nat :=
  (List.range 4).foldl (fun n r => n + s.getF (pgJOB c j) (F.JOB_RUN_COUNT r)) 0
def State.jobH (s : State) (c j : Nat) : Nat := s.getF (pgJOB c j) F.JOB_DIM_HM1 + 1
def State.jobJ (s : State) (c j : Nat) : Nat := s.getF (pgJOB c j) F.JOB_DIM_JM1 + 1

/-- RB, RC, CB and the bytes of a bank (R208). -/
def bankRB (n : Nat) : Nat := 64 * ((n + 31) / 32)
def bankRC (n : Nat) : Nat := 64 * ((n + 15) / 16)
def bankCB (n h : Nat) : Nat := 0xC0 + h * bankRB n
def bankSize (n h j : Nat) : Nat := bankCB n h + j * bankRC n

/-- A launch point that is not taken (R214). -/
def State.skipLaunch (s : State) (c j : Nat) : State := (s.satF (pgJOB c j) F.JOB_CNT1_SKIPPED).pulse (pgFCST c 0) 18

/-- Whether a launch of a job is outstanding (R210). -/
def FcstSt.outstanding (x : FcstSt) (j : Nat) : Bool :=
  x.queue.any (fun l => l.job == j) || (match x.run with
    | some r => r.launch.job == j
    | none => false)

/-- STATE of a job without an outstanding launch: 0 disabled, 1 idle (R202). -/
def State.jobIdle (s : State) (c j : Nat) : State :=
  if (s.fc c).outstanding j then s else s.setF (pgJOB c j) F.JOB_STAT_STATE (s.flag (pgJOB c j) F.JOB_CTRL_EN).toNat

/-- The place of a launch in the queue: by launch tick, then by job (R210). -/
def launchInsert (l : Launch) : List Launch → List Launch
  | [] => [l]
  | m :: ms => if l.at_ < m.at_ ∨ (l.at_ = m.at_ ∧ l.job < m.job) then l :: m :: ms else m :: launchInsert l ms

/-- A launch point is taken or skipped (R209, R210, R214, R216). -/
def State.launchPoint (s : State) (c j : Nat) : State :=
  let b := pgJOB c j
  let q := s.jobRef c j
  let x := s.gen q.1 q.2
  if !s.flag (pgFCST c 0) F.FCST_CTRL_EN || s.pageHeld b || s.pageHeld (pgFCST c 0) ||
      s.genState q.1 q.2 != 3 || (s.fc c).outstanding j then s.skipLaunch c j
  else
    let p := s.getF (pgPWMG q.1 q.2) (F.PWMG_PNUM_PNUM (q.2 % 16)) + 1
    let ref := if s.flag b F.JOB_CTRL_REF_SRC then
        bits (s.getF (pgLENG q.1) (F.LENG_SHV_VALUE (s.getF b F.JOB_CTRL_REF_SHV))) 16 16
      else s.getF b F.JOB_REF_REF
    let l : Launch := ⟨j, s.tick, s.tick + (x.per - s.genCount q.1 q.2), x.per, p, s.getF b F.JOB_CTRL_BANK,
      s.flag b F.JOB_CTRL_LATE_POL, ref⟩
    let s := (s.setF b F.JOB_STAT_STATE 2).setF b F.JOB_TARGET_TARGET p
    s.setFc c { s.fc c with queue := launchInsert l (s.fc c).queue }

/-- A reload of an ARMED generator sets a launch of every enabled job of its cluster that has it as its reference and launches by
reloads: OFS ticks later, or skipped where OFS is not below the PER in force (R209). -/
def State.launchesSet (s : State) (t g : Nat) : State :=
  let c := t / 10
  if s.genState t g ≠ 3 then s
  else
    (List.range 15).foldl (fun s j =>
      let b := pgJOB c j
      if !s.flag b F.JOB_CTRL_EN || s.flag b F.JOB_CTRL_LAUNCH_SRC || s.jobRef c j != (t, g) then s
      else
        let ofs := s.getF b F.JOB_OFS_OFS
        if (s.gen t g).per ≤ ofs then s.skipLaunch c j
        else { s with fcst := SMap.put s.fcst c { s.fc c with due := (s.fc c).due ++ [(j, (s.gen t g).origin + ofs)] } }) s

/-- A launch point comes due: OFS ticks after the reload that set it, or an event at the job's launch input (R209). -/
def State.forecastLaunch (s : State) (c j : Nat) : State :=
  let b := pgJOB c j
  if s.flag b F.JOB_CTRL_LAUNCH_SRC then
    match s.headTok (lathClu c) (160 + j) with
    | none => s
    | some _ =>
      let s := s.tookOne (lathClu c) (160 + j)
      if s.flag b F.JOB_CTRL_EN then s.launchPoint c j else s
  else
    match (s.fc c).due.find? fun e => e.1 == j && decide (e.2 ≤ s.tick) with
    | none => s
    | some e =>
      let s := { s with fcst := SMap.put s.fcst c { s.fc c with due := (s.fc c).due.erase e } }
      if s.flag b F.JOB_CTRL_EN then s.launchPoint c j else s

/-- The engine takes the next launch (R210). -/
def State.launchStart (s : State) (c : Nat) : State :=
  let x := s.fc c
  match x.run, x.queue with
  | none, l :: rest =>
    ((s.setFc c { x with queue := rest, run := some { launch := l } }).setF (pgFCST c 0) F.FCST_STAT_STAGE 1).setF
      (pgJOB c l.job) F.JOB_STAT_STATE 3
  | _, _ => s

/-- The end of a launch: outcome, interrupt, log record with the target period of R209 (R214, R218). `out` is LAST_OUT, `cause` a fault's cause. -/
def State.endLaunch (s : State) (c : Nat) (l : Launch) (out cause win : Nat) (cost : Int) (period : Nat) : State :=
  let b := pgJOB c l.job
  let f := pgFCST c 0
  let s := ((s.setF b F.JOB_STAT_LAST_OUT out).setF b F.JOB_STAT_CAUSE cause).setF b F.JOB_STAT_STATE
    (if s.flag b F.JOB_CTRL_EN then 1 else 0)
  let s := match out with
    | 1 => s.satF b F.JOB_CNT0_PLANS
    | 2 => (s.satF b F.JOB_CNT0_RETARGETED).pulse f 16
    | 3 => (s.satF b F.JOB_CNT0_LATE).pulse f 16
    | 4 => (s.satF b F.JOB_CNT1_FAULTS).pulse f 17
    | _ => (s.satF b F.JOB_CNT1_ABORTED).pulse f 19
  let s := s.klogRecord c 8 0 l.job s.count [win + 2 ^ 8 * out, period % 2 ^ 32, wrap 48 cost % 2 ^ 32, wrap 48 cost / 2 ^ 32]
  s.pulse f l.job

/-- The running launch ends. -/
def State.endRun (s : State) (c : Nat) (r : FRun) (out cause : Nat) (period : Nat) : State :=
  let cost := (r.costs.getD []).getD r.win 0
  (s.setFc c { s.fc c with run := none }).endLaunch c r.launch out cause r.win cost period

/-- Launches whose reference generator has left ARMED, or whose job is disabled, before their commit starts (R214). -/
def State.fcstAbort (s : State) (c : Nat) : State :=
  let gone := fun (l : Launch) =>
    let q := s.jobRef c l.job
    s.genState q.1 q.2 != 3 || !s.flag (pgJOB c l.job) F.JOB_CTRL_EN
  let x := s.fc c
  let out := x.queue.filter gone
  let s := if out.isEmpty then s else s.setFc c { x with queue := x.queue.filter fun l => !gone l }
  let s := out.foldl (fun s l => s.endLaunch c l 5 0 0 0 l.period) s
  match (s.fc c).run with
  | some r => if r.outcome = 0 ∧ gone r.launch then s.endRun c r 5 0 r.launch.period else s
  | none => s

/-- The gather ends, once no logical tile of the job moves; `bad` tells of a word without majority (R204, R126). -/
def State.gatherDone (s : State) (c : Nat) (bad : Bool) : State :=
  match (s.fc c).run with
  | none => s
  | some r =>
    let j := r.launch.job
    let cells := s.jobCells c j
    if r.x0.isSome ∨ r.outcome ≠ 0 ∨ (cells.any fun n => s.moving n.1) then s
    else if bad then s.endRun c r 4 3 r.launch.period
    else
      let w := s.getF (pgJOB c j) F.JOB_DIM_GWORD
      (s.setFc c { s.fc c with
        run := some { r with x0 := some (cells.map fun n => bits (s.ctxWord (s.phys n.1) n.2 w) 16 16) } }).setF (pgFCST c 0)
          F.FCST_STAT_STAGE 2

/-- Where the bank of a launch lies (R208). -/
def State.bankAddr (s : State) (c : Nat) (l : Launch) : Nat :=
  let b := pgJOB c l.job
  s.getF b (F.JOB_BASE_BASE l.bank) + 64 * (l.period % s.getF b F.JOB_LIB_COUNT * s.getF b F.JOB_LIB_STRIDE)

/-- A little-endian number in a list of bytes. -/
def bytesLE (bs : List Byte) (off n : Nat) : Nat := ofBytes ((bs.drop off).take n)

/-- The fetch ends; an uncorrectable word of the bank, which the stack's controller counts (R314), or an error that `ue` tells of, ends the
launch (R208, R214). It waits while the stack's arbiters are frozen (R321). -/
def State.fetchDone (s : State) (c : Nat) (ue : Bool) : State :=
  match (s.fc c).run with
  | none => s
  | some r =>
    let j := r.launch.job
    let n := s.jobN c j
    let size := bankSize n (s.jobH c j) (s.jobJ c j)
    let bank := Memory.readN s.mem (s.bankAddr c r.launch) size
    let w := bytesLE bank 4 4
    let a := s.bankAddr c r.launch
    if r.bank.isSome ∨ r.outcome ≠ 0 ∨ s.memFrozen a then s
    else if s.ueIn a size then (s.countIn a size).endRun c r 4 2 r.launch.period
    else if ue then s.endRun c r 4 2 r.launch.period
    else if bytesLE bank 0 2 ≠ 1 ∨ bits w 0 10 ≠ n ∨ bits w 16 5 ≠ s.jobH c j ∨ bits w 24 7 ≠ s.jobJ c j then
      s.endRun c r 4 1 r.launch.period
    else s.setFc c { s.fc c with run := some { r with bank := some bank } }

/-- rank(n) of each cell (R205). -/
def rankOf (xs : List Nat) : List Nat :=
  let ys := (xs.map (sgn 16)).zipIdx
  ys.map fun a => (ys.filter fun b => b.1 < a.1 ∨ (b.1 = a.1 ∧ b.2 < a.2)).length

def State.rankDone (s : State) (c : Nat) : State :=
  match (s.fc c).run with
  | some r =>
    match r.x0, r.ranks with
    | some xs, none =>
      (s.setFc c { s.fc c with run := some { r with ranks := some (rankOf xs) } }).setF (pgFCST c 0) F.FCST_STAT_STAGE 3
    | _, _ => s
  | none => s

/-- rnd15 and q15 of R206. -/
def rnd15 (p : Int) : Int := satS 16 (asr (p + 2 ^ 14) 15)
def q15 (c : Int) : Int := asr (c + 2 ^ 15) 16

/-- One step of the evaluation of a cell: its state and the cost (R206). -/
def evalStep (bank : List Byte) (rb n : Nat) (d qd ref : Int) (esh : Nat) (a : Int × Int) (k : Nat) : Int × Int :=
  let e0 := 0x40 + 8 * k
  let m := sgn 16 (bytesLE bank e0 2)
  let wv := sgn 16 (bytesLE bank (e0 + 2) 2)
  let wd := sgn 16 (bytesLE bank (e0 + 4) 2)
  let b := sgn 16 (bytesLE bank (0xC0 + k * rb + 2 * n) 2)
  let u := satS 16 (m + d)
  let x := satS 16 (a.1 + rnd15 (b * u))
  let e := satS 16 (2 ^ esh * (x - ref))
  let qe := rnd15 (e * e)
  (x, satS 48 (satS 48 (a.2 + wv * qe) + wd * qd))

/-- cost[j] (R206). -/
def evalCost (bank : List Byte) (n h j : Nat) (xs ranks : List Nat) (ref : Int) : Int :=
  let esh := bits (bytesLE bank 8 1) 0 4
  let dsh := bits (bytesLE bank 8 1) 4 4
  let cb := bankCB n h
  ((xs.zip ranks).zipIdx).foldl (fun cost c =>
    let d := q15 (sgn 32 (bytesLE bank (cb + j * bankRC n + 4 * c.1.2) 4))
    let q := satS 16 (2 ^ dsh * d)
    let qd := rnd15 (q * q)
    ((List.range h).foldl (evalStep bank (bankRB n) c.2 d qd ref esh) (sgn 16 c.1.1, cost)).2) 0

/-- The cost of every candidate (R206); the MACs are counted. -/
def State.evaluateDone (s : State) (c : Nat) : State :=
  match (s.fc c).run with
  | some r =>
    match r.x0, r.ranks, r.bank, r.costs with
    | some xs, some ranks, some bank, none =>
      let j := r.launch.job
      let n := xs.length
      let h := s.jobH c j
      let costs := (List.range (s.jobJ c j)).map fun k => evalCost bank n h k xs ranks (sgn 16 r.launch.ref)
      ((s.setFc c { s.fc c with run := some { r with costs := some costs } }).incF (pgFCST c 0) F.FCST_MACS_MACS
        (4 * s.jobJ c j * n * h)).setF (pgFCST c 0) F.FCST_STAT_STAGE 4
    | _, _, _, _ => s
  | none => s

/-- The lowest cost; equal costs go to the lower candidate (R207). -/
def winner (costs : List Int) : Nat :=
  (costs.zipIdx.foldl (fun best c => match best with
    | none => some c
    | some b => if c.1 < b.1 then some c else some b) none).elim 0 (·.2)

/-- Selection, and the decision between on time, retargeted and late (R207, R213), where the reference generator is still ARMED and the job
enabled (R214). -/
def State.selectDone (s : State) (c : Nat) : State :=
  let s := s.fcstAbort c
  match (s.fc c).run with
  | some r =>
    match r.ranks, r.bank, r.costs with
    | some ranks, some bank, some costs =>
      if r.outcome ≠ 0 then s
      else
        let l := r.launch
        let j := l.job
        let n := ranks.length
        let win := winner costs
        let a := s.tick + ((n + 16) * 5 + 2) / 3 + 40
        let out := if a < l.target then 1 else if l.retarget ∧ a < l.target + l.per then 2 else 3
        let period := if out = 2 then l.period + 1 else l.period
        let b := pgJOB c j
        let s := (s.setF b F.JOB_STAT_WIN win).setF b F.JOB_COST_COST (wrap 48 (costs.getD win 0))
        let r := { r with win := win, outcome := out, dur := a - l.at_, margin := l.target - a }
        if out = 3 then s.endRun c r 3 0 l.period
        else
          let tag := 0x80000000 + period % 65536
          let val := fun rank => bytesLE bank (bankCB n (s.jobH c j) + win * bankRC n + 4 * rank) 4
          let ws := ((s.jobCells c j).zip ranks).map fun x => (x.1.1, x.1.2, val x.2, tag)
          ((s.setFc c { s.fc c with run := some r, plans := (s.fc c).plans ++ ws }).setF (pgFCST c 0) F.FCST_STAT_STAGE
            5).setF b F.JOB_STAT_STATE 4
    | _, _, _ => s
  | none => s

/-- A plan write reaches the staging of every tile that holds or mirrors the context (R211, R368): a plan still staged there is
replaced. -/
def State.planArrival (s : State) (c : Nat) : State :=
  match (s.fc c).plans with
  | [] => s
  | (lt, n, val, tag) :: rest =>
    let s := { s with fcst := SMap.put s.fcst c { s.fc c with plans := rest } }
    let t := s.phys lt
    let old := s.ctxArmed t n && (s.stageOf t).plans.any fun p => p.ctx == n
    let s := s.bothTiles t fun s t => s.takePlan t ⟨n, val, tag, s.tick⟩
    if old then s.satF (pgFCST c 0) F.FCST_CNT_REPLACED else s

/-- The commit completes: every plan write has reached its staging (R213). -/
def State.launchEnd (s : State) (c : Nat) : State :=
  match (s.fc c).run with
  | some r =>
    if (r.outcome = 1 ∨ r.outcome = 2) ∧ (s.fc c).plans = [] then
      let b := pgJOB c r.launch.job
      let s := s.setF b F.JOB_TIME_DUR (min 65535 r.dur)
      let s := if r.outcome = 1 then s.setF b F.JOB_TIME_MARGIN (min 65535 r.margin) else s
      s.endRun c r r.outcome 0 r.launch.period
    else s
  | none => s

/-! ### Enabling a job (R215) -/

/-- Whether a library lies wholly within stack `c`. -/
def inStack (c base len : Nat) : Bool :=
  decide (0x1000000000 + 0x900000000 * c ≤ base) && decide (base + len ≤ 0x1000000000 + 0x900000000 * (c + 1))

def State.libOk (s : State) (c j base : Nat) : Bool :=
  let b := pgJOB c j
  let n := s.getF b F.JOB_LIB_COUNT
  let st := 64 * s.getF b F.JOB_LIB_STRIDE
  let size := bankSize (s.jobN c j) (s.jobH c j) (s.jobJ c j)
  base % 64 == 0 && inStack c base ((n - 1) * st + size)

/-- The cause that refuses EN = 1 of a job. -/
def State.jobCause (s : State) (c j : Nat) : Nat :=
  let b := pgJOB c j
  let n := s.jobN c j
  let lib := s.getF b F.JOB_LIB_COUNT
  let size := bankSize n (s.jobH c j) (s.jobJ c j)
  let runs := (List.range 4).all fun r => s.getF b (F.JOB_RUN_FIRST r) + s.getF b (F.JOB_RUN_COUNT r) ≤ 2048
  if n = 0 ∨ n > 512 ∨ !runs ∨ lib = 0 ∨ (lib > 1 ∧ 64 * s.getF b F.JOB_LIB_STRIDE < size) ∨
      !s.libOk c j (s.getF b (F.JOB_BASE_BASE 0)) ∨ !s.libOk c j (s.getF b (F.JOB_BASE_BASE 1)) ∨ s.jobH c j > 16 then
    causeBAD_VALUE
  else
    let clash := (List.range 15).any fun k =>
      k != j && s.flag (pgJOB c k) F.JOB_CTRL_EN && (List.range 4).any fun r => (List.range 4).any fun q =>
        let f := s.getF b (F.JOB_RUN_FIRST r)
        let n := s.getF b (F.JOB_RUN_COUNT r)
        let f' := s.getF (pgJOB c k) (F.JOB_RUN_FIRST q)
        let n' := s.getF (pgJOB c k) (F.JOB_RUN_COUNT q)
        s.getF b (F.JOB_RUN_LT r) == s.getF (pgJOB c k) (F.JOB_RUN_LT q) && n != 0 && n' != 0 && decide (f < f' + n') && decide (f' < f + n)
    if clash then 0x21 else 0

/-! ### The kiln log (R217 to R223) -/

def State.kl (s : State) (c : Nat) : Klog := SMap.getD s.klog c {}

def State.setKl (s : State) (c : Nat) (k : Klog) : State :=
  ({ s with klog := SMap.put s.klog c k }).setF (pgKLOG c) F.KLOG_STAT_LEVEL k.buf.length

/-- The 32 bytes of a record (R217). -/
def KRec.bytes (r : KRec) : List Byte :=
  toBytes (r.ty + 2 ^ 8 * r.flags + 2 ^ 16 * r.src) 4 ++ toBytes r.seq 4 ++ toBytes r.tick 8 ++
    ((r.payload ++ List.replicate 4 0).take 4).flatMap fun w => toBytes w 4

def State.klogCap (s : State) (c : Nat) : Nat := 2 ^ s.getF (pgKLOG c) F.KLOG_SIZE_LOG2 / 32

/-- STATE of the recorder; IRQ_RAW bit 1 pulses when it becomes STOPPED. -/
def State.klogState (s : State) (c st : Nat) : State :=
  let b := pgKLOG c
  let was := s.getF b F.KLOG_STAT_STATE
  let s := s.setF b F.KLOG_STAT_STATE st
  if st = 3 ∧ was ≠ 3 then s.pulse b 1 else s

/-- The recorder writes its oldest buffered record, once the forecast cycle of its production has ended and its stack is not frozen (R217,
R219, R221, R321). -/
def State.klogWrite (s : State) (c : Nat) : State :=
  let b := pgKLOG c
  let k := s.kl c
  let w := s.getF b F.KLOG_WPTR_WPTR
  let cap := s.klogCap c
  let fill := s.flag b F.KLOG_CTRL_MODE
  match k.buf with
  | [] => s
  | r :: rest =>
    if (fill ∧ w ≥ cap) ∨ r.cyc = fcstCycle s.tick ∨ s.memFrozen (s.getF b F.KLOG_BASE_BASE) then s
    else
      let s := s.memBytes (s.getF b F.KLOG_BASE_BASE + 32 * (w % cap)) r.bytes
      let s := (s.setKl c { k with buf := rest }).incF b F.KLOG_WPTR_WPTR
      let s := if w + 1 ≥ cap ∧ !s.flag b F.KLOG_STAT_WRAPPED then (s.setFlag b F.KLOG_STAT_WRAPPED true).pulse b 2 else s
      if fill ∧ w + 1 ≥ cap then (s.setKl c { s.kl c with ended := true }).klogState c 3 else s

/-- A stop event (R221). -/
def State.klogStop (s : State) (c : Nat) : State :=
  let b := pgKLOG c
  match s.headTok (lathClu c) 175 with
  | none => s
  | some _ =>
    let s := s.tookOne (lathClu c) 175
    if s.flag b F.KLOG_CTRL_STOP_EN ∧ s.getF b F.KLOG_STAT_STATE = 1 ∧ !(s.kl c).ended then
      ((s.setF b F.KLOG_STOPSEQ_STOPSEQ (s.getF b F.KLOG_PROD_PROD)).setKl c
        { s.kl c with post := s.getF b F.KLOG_POST_POST }).klogState c 2
    else s

/-- POST records after a stop event have been produced (R221). -/
def State.klogPostDone (s : State) (c : Nat) : State :=
  if s.getF (pgKLOG c) F.KLOG_STAT_STATE = 2 ∧ (s.kl c).post = 0 then s.setKl c { s.kl c with ended := true } else s

/-- The buffer is empty and production has ended: OFF where EN is 0, else STOPPED (R221). -/
def State.klogDrained (s : State) (c : Nat) : State :=
  let b := pgKLOG c
  let st := s.getF b F.KLOG_STAT_STATE
  let en := s.flag b F.KLOG_CTRL_EN
  if (s.kl c).ended ∧ (s.kl c).buf = [] ∧ (st = 1 ∨ st = 2 ∨ (st = 3 ∧ !en)) then s.klogState c (if en then 3 else 0) else s

/-- EN of the recorder changes (R221). -/
def State.klogEnable (s : State) (c : Nat) (en : Bool) : State :=
  let b := pgKLOG c
  if en then
    if s.flag b F.KLOG_CTRL_MODE ∧ s.getF b F.KLOG_WPTR_WPTR ≥ s.klogCap c then s.klogState c 3
    else (s.setKl c { s.kl c with ended := false, post := 0 }).klogState c 1
  else
    let s := s.setKl c { s.kl c with ended := true }
    if s.getF b F.KLOG_STAT_STATE = 3 then s.klogDrained c else s

/-- A kiln log that the journal enables starts after a reset (R16, R221). -/
def State.klogStart (s : State) (c : Nat) : State := if s.flag (pgKLOG c) F.KLOG_CTRL_EN then s.klogEnable c true else s

/-- CLEAR: the cause it records (R221). -/
def State.klogClear (s : State) (c : Nat) : State × Nat :=
  let b := pgKLOG c
  let st := s.getF b F.KLOG_STAT_STATE
  if st = 1 ∨ st = 2 then (s, 0x20)
  else (((((((s.setF b F.KLOG_WPTR_WPTR 0).setF b F.KLOG_PROD_PROD 0).setF b F.KLOG_DROP_DROP 0).setF b F.KLOG_STOPSEQ_STOPSEQ
    0).setFlag b F.KLOG_STAT_WRAPPED false).setKl c { s.kl c with buf := [] }).klogDrained c, 0)

/-- Whether a buffer of 2^LOG2 bytes may lie at a base (R223). -/
def klogAreaOk (c base log2 : Nat) : Bool :=
  decide (20 ≤ log2) && decide (log2 ≤ 35) && base % 2 ^ log2 == 0 && inStack c base (2 ^ log2)

/-- The cause that setting EN records: a base or a buffer out of its bounds (R223). -/
def klogAreaCause (c base log2 : Nat) : Nat := if klogAreaOk c base log2 then 0 else causeBAD_VALUE

end Sys2Proof.Machine
end

