-- ==== Sys2Proof/Machine/MonSend.lean ====
section
/-! DEFINITION. Machine/MonSend.lean: what leaves through the management ports: UDP payloads, sealed Derevo messages and the
monitor's events (R459, R462, R463, R465). -/

namespace Sys2Proof.Machine

/-- The bytes of a number, highest first. -/
def beBytes (x n : Nat) : List Byte := (toBytes x n).reverse

/-- The datagrams of a message leave towards a source: kept by port * 2^48 + address * 2^16 + UDP port. -/
def State.sendAll (s : State) (port addr udp : Nat) (ds : List (List Byte)) : State :=
  { s with mon.sent := SMap.put s.mon.sent (2 ^ 48 * port + 2 ^ 16 * addr + udp) ds }

/-- A response of one datagram leaves towards a source. -/
def State.sendTo (s : State) (port addr udp : Nat) (b : List Byte) : State := s.sendAll port addr udp [b]

/-- The outer header of a Derevo datagram (R462). -/
def drvHeader (kind session seq : Nat) : List Byte := beBytes 0x4456 2 ++ [1] ++ beBytes kind 1 ++ beBytes session 4 ++ beBytes seq 8

/-- An inner message (R463). -/
def drvInner (op tag status : Nat) (body : List Byte) : List Byte :=
  beBytes op 1 ++ [0] ++ beBytes tag 2 ++ beBytes body.length 2 ++ beBytes status 2 ++ body

/-- The initialisation vector of a direction: its salt, then SEQ (R459). Keys hold the AES key and the salt. -/
def drvIv (k : List Byte) (seq : Nat) : List Byte := k.drop 32 ++ beBytes seq 8

/-- The open session with an id. -/
def State.session (s : State) (id : Nat) : Option Session := s.mon.sessions.find? fun x => x.id == id

/-- A session replaced. -/
def State.setSession (s : State) (x : Session) : State :=
  { s with mon.sessions := s.mon.sessions.map fun y => if y.id = x.id then x else y }

/-- A sealed message leaves in a session (R459). -/
def State.drvSend (s : State) (id : Nat) (inner : List Byte) : State :=
  match s.session id with
  | none => s
  | some x =>
    let seq := x.seqOut + 1
    let h := drvHeader 0x10 id seq
    (s.setSession { x with seqOut := seq }).sendTo x.port x.addr x.udp
      (h ++ Config.gcmSeal (x.kOut.take 32) (drvIv x.kOut seq) h inner)

/-- EVENT to every session (R465): 1 HALTED, 2 TILE_MOVED, 3 RESET. -/
def State.monEvent (s : State) (kind unit dcause dpc : Nat) : State :=
  let body := beBytes kind 1 ++ beBytes unit 1 ++ [0, 0] ++ beBytes dcause 4 ++ beBytes dpc 8 ++ beBytes s.count 8
  s.mon.sessions.foldl (fun s x => s.drvSend x.id (drvInner 0xD0 0 0 body)) s

end Sys2Proof.Machine
end

