-- ==== Sys2Proof/Machine/NodeOps.lean ====
section
/-! DEFINITION. Machine/NodeOps.lean: the duties of a cell node (R176, R185 to R188, R196 to R201). A node is named by
ring * 32 + its place on the ring, counted from the CW transmitter. -/

namespace Sys2Proof.Machine

/-- Implementer parameters within the ranges of R201. -/
def nodeLegs (k : Nat) : Nat := Config.nodeLegs k % 4 + 1
def nodeRes (k : Nat) : Nat := Config.nodeRes k % 6
def nodeMinDt (k : Nat) : Nat := Config.nodeMinDt k % 2 ^ 20
def nodeCaps (k : Nat) : Nat := (nodeLegs k - 1) + 2 ^ 2 * nodeRes k + 2 ^ 5 * (Config.nodeDepth k % 8 + 1)

def State.node (s : State) (k : Nat) : NodeSt := SMap.getD s.link.nodes k {}

def State.setNode (s : State) (k : Nat) (x : NodeSt) : State := { s with link.nodes := SMap.put s.link.nodes k x }

def NodeSt.leg (x : NodeSt) (l : Nat) : NLeg := SMap.getD x.legs l {}

def NodeSt.setLeg (x : NodeSt) (l : Nat) (g : NLeg) : NodeSt := { x with legs := SMap.put x.legs l g }

/-- Node time in fractions (R196). -/
def State.nodeNow (s : State) (k : Nat) : Nat := (((32 * s.tick : Nat) : Int) + (s.node k).ofs).toNat

/-- NODE_DT (R201). -/
def State.nodeDt (s : State) (k : Nat) : Nat := (s.node k).dt.getD (nodeMinDt k)

/-- The port that sends direction `d`: Q for CW, P for CCW (R196). -/
def NodeSt.port (x : NodeSt) (d : Nat) : NPort := if d = 0 then x.portQ else x.portP
def NodeSt.setPort (x : NodeSt) (d : Nat) (p : NPort) : NodeSt := if d = 0 then { x with portQ := p } else { x with portP := p }

/-- A frame on the port: it begins when the one on the line has ended. -/
def NPort.send (p : NPort) (f : Sent) (now : Nat) : NPort :=
  { p with out := some f, busy := max p.busy (5 * now) + frameFifths f.frame }

/-- The order of a node's own frames: ECHOR, MRSP, MEAS (R196). -/
def ownRank (f : Frame) : Nat := if f.ty = 7 then 0 else if f.ty = 4 then 1 else 2

/-- An own frame into its port's queue, behind every one that goes before it. -/
def ownInsert (now : Nat) (f : Frame) : List (Nat × Frame) → List (Nat × Frame)
  | [] => [(now, f)]
  | e :: q => if ownRank f < ownRank e.2 then (now, f) :: e :: q else e :: ownInsert now f q

/-- The waiting own frames whose turn has come by tick `now`: one begins where nothing else is on the line (R196). -/
def NPort.drain (d now : Nat) : List (Nat × Frame) → NPort → NPort
  | [], p => { p with own := [] }
  | (t, f) :: q, p =>
    if p.busy ≤ 5 * now then NPort.drain d now q (p.send (f.sent d (max t ((p.busy + 4) / 5))) t)
    else { p with own := (t, f) :: q }

/-- Whether the node reports a break on its output for direction `d`: its receiver for that direction has no block lock (R191). An
unassigned node has no position to report (R188). -/
def NodeSt.breaks (x : NodeSt) (d : Nat) : Bool := x.assigned && !(if d = 0 then x.lockP else x.lockQ)

/-- Both ports brought up to this tick: waiting own frames begin, and a break is reported between them (R191, R196). -/
def State.nodeServe (s : State) (k : Nat) : State :=
  let x := s.node k
  let one := fun (x : NodeSt) (d : Nat) =>
    let p := NPort.drain d s.tick (x.port d).own (x.port d)
    x.setPort d (if x.breaks d then { p with stat := some (statusOf x.pos, s.tick) } else p)
  s.setNode k (one (one x 0) 1)

/-- A frame of the node's own for direction `d` waits for its port, and begins at once where the port is free. -/
def State.nodeOwn (s : State) (k d : Nat) (f : Frame) : State :=
  let s := s.nodeServe k
  let x := s.node k
  let p := x.port d
  (s.setNode k (x.setPort d { p with own := ownInsert s.tick f p.own })).nodeServe k

/-- An up frame of the node's own leaves both ports (R170); an unassigned node sends none (R188). -/
def State.nodeUp (s : State) (k : Nat) (f : Frame) : State :=
  if (s.node k).assigned then (s.nodeOwn k 0 f).nodeOwn k 1 f else s

/-! ### Reception and forwarding (R170, R176, R186) -/

/-- A frame failing a check is counted (R181). -/
def State.nodeCrc (s : State) (k : Nat) : State := s.setNode k { s.node k with crcerr := ((s.node k).crcerr + 1) % 65536 }

/-- The first thing that a line brings, descrambled (R171): a node takes one frame or STATUS block at a time. What of a frame has come when the line
stops is broken off. -/
def lineEvent (line : List LineBlock) : Option RxEv :=
  match rxRun none (line.map plainBlock) with
  | (_, e :: _) => some e
  | (some (h, ds), []) => some (.broken h ds)
  | (none, []) => none

/-- A frame that the node consumes: checks passed, of type `ty`, and, unless a broadcast, addressed to the node's position.
A unicast frame that fails a check is counted here; the count of one that is forwarded is made there. -/
def State.nodeTake (s : State) (k : Nat) (line : List LineBlock) (ty : Nat) (f : State → Frame → State) : State :=
  let x := s.node k
  match lineEvent line with
  | some (.head sof) => if bit sof 5 then s else s.nodeCrc k
  | some (.frame sof blocks crc) =>
    let fr := Frame.ofHead sof blocks
    if fr.ty ≠ ty ∨ (!fr.bcast ∧ (!x.assigned ∨ fr.pos ≠ x.pos)) then s
    else if frameCrc sof blocks ≠ crc then (if fr.bcast then s else s.nodeCrc k)
    else f s fr
  | _ => s

/-- A timed frame held for `held` fractions behind an own frame has the excess added to CORR (R186). -/
def Frame.delayed (f : Frame) (held : Nat) : Frame :=
  let c := f.blocks.getD 1 0
  { f with blocks := f.blocks.set 1 (setBits c 0 32 (bits c 0 32 + held)) }

/-- The CRC-32 of a forwarded frame that came with `crc`: as it was received, or, where the node has changed a data block, recomputed,
and complemented if the received one had failed (R176). -/
def forwardCrc (sof : Nat) (old new : List Nat) (crc : Nat) : Nat :=
  if new = old then crc
  else if frameCrc sof old = crc then frameCrc sof new
  else 2 ^ 32 - 1 - frameCrc sof new

/-- A frame sent on in direction `d`, with its data blocks as they came or as the node has changed them. -/
def State.nodeSendOn (s : State) (k d sof : Nat) (old new : List Nat) (crc : Nat) (cut : Bool) : State :=
  let s := s.nodeServe k
  let x := s.node k
  s.setNode k (x.setPort d ((x.port d).send
    ⟨Frame.ofHead sof new, d, max s.tick (((x.port d).busy + 4) / 5), cut, forwardCrc sof old new crc, sof, 0⟩ s.tick))

/-- The fractions for which a frame that arrives now is held behind what is on the line of direction `d`: at most `held`, the excess
that the node measured, and at most the rest of that frame (R186, R196). -/
def State.nodeHeld (s : State) (k d held : Nat) : Nat :=
  min held ((32 * ((((s.nodeServe k).node k).port d).busy - 5 * s.tick) + 4) / 5)

/-- A frame that is not for this node alone leaves on its way (R170, R176, R186); ENUM is forwarded as R188 says. A frame that breaks
off is sent on as far as it came, for the node does not wait for its end (R196), and a STATUS block is sent on as it is (R191). -/
def State.nodeForward (s : State) (k d : Nat) (line : List LineBlock) (held : Nat) : State :=
  let x := s.node k
  let mine := fun (f : Frame) => ((f.ty == 1 || f.ty == 3 || f.ty == 6) && !f.bcast && x.assigned && f.pos == x.pos) || f.ty == 8
  match lineEvent line with
  | none => s
  | some (.head _) => s.nodeCrc k
  | some (.status blk) => s.setNode k (x.setPort d { x.port d with stat := some (blk, s.tick) })
  | some (.broken sof blocks) =>
    if mine (Frame.ofHead sof blocks) then s else s.nodeSendOn k d sof blocks blocks 0 true
  | some (.frame sof blocks crc) =>
    let f := Frame.ofHead sof blocks
    if mine f then s
    else
      let s := if frameCrc sof blocks = crc then s else s.nodeCrc k
      let timed := f.ty == 5 || f.ty == 6 || f.ty == 7
      let new := if timed && s.nodeHeld k d held != 0 then (f.delayed (s.nodeHeld k d held)).blocks else blocks
      s.nodeSendOn k d sof blocks new crc false

/-! ### Time, delay and enumeration (R185, R187, R188) -/

/-- A TIME frame sets the node's time at the arrival of its SOF, `frac` fractions into the tick (R185). -/
def State.nodeTime (s : State) (k d frac : Nat) (f : Frame) : State :=
  let x := s.node k
  if d = 1 ∧ x.cwSeq = some f.seq then s
  else
    let t := 32 * f.blocks.getD 0 0 + bits (f.blocks.getD 1 0) 0 32 + (if d = 0 then x.dlyCw else x.dlyCcw)
    s.setNode k { x with
      ofs := (t : Int) - ((32 * s.tick + frac : Nat) : Int)
      timeOk := true
      timeAt := s.tick
      cwSeq := if d = 0 then some f.seq else x.cwSeq }

/-- One millisecond without a valid TIME frame (R196). -/
def State.nodeTimeOut (s : State) (k : Nat) : State :=
  let x := s.node k
  if x.timeOk ∧ x.timeAt + 2000000 ≤ s.tick then s.setNode k { x with timeOk := false } else s

/-- The answer to an ECHO, from the port at which it arrived, `turn` fractions after it (R187). -/
def State.nodeEcho (s : State) (k d turn : Nat) (f : Frame) : State :=
  let q := s.draw 16
  q.2.nodeOwn k (1 - d) { ty := 7, pos := (s.node k).pos, seq := q.1,
                          blocks := [f.blocks.getD 0 0, 2 ^ 32 * ((turn + bits (f.blocks.getD 1 0) 0 32) % 2 ^ 32)] }

/-- Whether an ENUM frame gives the node a position: forced, or the node unassigned, and not within 1 ms of the last one (R188). -/
def State.enumTakes (s : State) (k : Nat) (f : Frame) : Bool :=
  let x := s.node k
  (match x.took with
    | some t => !decide (s.tick < t + 2000000)
    | none => true) && (bit f.flags 0 || !x.assigned)

/-- NEXT of the ENUM frame as the node sends it on (R188). -/
def State.enumNext (s : State) (k : Nat) (f : Frame) : Nat :=
  let next := bits (f.blocks.getD 0 0) 0 6
  let step := fun (p : Nat) => if bit f.flags 1 then (p + 63) % 64 else (p + 1) % 64
  if s.enumTakes k f then (if next ≤ 31 then step next else next) else step (s.node k).pos

/-- The position that an ENUM frame gives the node (R177, R188). -/
def State.enumTake (s : State) (k next : Nat) : State :=
  let x := s.node k
  s.setNode k { x with
    pos := next
    assigned := true
    took := some s.tick
    mseq := none
    legs := x.legs.map fun e => (e.1, { e.2 with seq := none }) }

/-- An ENUM frame (R188): sent on with its NEXT, and acted on where its CRC-32 passes (R176). -/
def State.nodeEnum (s : State) (k d : Nat) (line : List LineBlock) : State :=
  match lineEvent line with
  | some (.head _) => s.nodeCrc k
  | some (.frame sof blocks crc) =>
    let f := Frame.ofHead sof blocks
    let next := bits (blocks.getD 0 0) 0 6
    if f.ty ≠ 8 ∨ blocks.length ≠ 1 then s
    else
      let t := s.nodeSendOn k d sof blocks [s.enumNext k f] crc false
      if frameCrc sof blocks ≠ crc then t.nodeCrc k
      else if s.enumTakes k f ∧ next ≤ 31 then t.enumTake k next
      else t
  | _ => s

/-! ### Outputs (R197 to R199) -/

/-- A transition of an output of a leg at instant `n` of node time. -/
def NLeg.move (g : NLeg) (out : Nat) (lev : Bool) (n : Nat) : NLeg :=
  let g := { g with hist := ((n, out, lev) :: g.hist).take 64 }
  if out = 0 then { g with hOn := lev, hWant := false, hFall := if lev then g.hFall else some n }
  else { g with lOn := lev, lWant := false, lFall := if lev then g.lFall else some n }

def NLeg.on (g : NLeg) (out : Nat) : Bool := if out = 0 then g.hOn else g.lOn
def NLeg.wants (g : NLeg) (out : Nat) : Bool := if out = 0 then g.hWant else g.lWant

/-- The earliest instant at which the interlock lets an output rise, none while the other is on. -/
def NLeg.freeAt (g : NLeg) (out dt : Nat) : Option Nat :=
  if g.on (1 - out) then none
  else match (if out = 0 then g.lFall else g.hFall) with
    | some f => some (f + dt)
    | none => some 0

/-- Rises that the interlock held are made as soon as they may be, up to instant `n`. -/
def NLeg.release (g : NLeg) (dt n : Nat) : NLeg :=
  [0, 1].foldl (fun g out =>
    if g.wants out then
      match g.freeAt out dt with
      | some f => if f ≤ n then g.move out true f else g
      | none => g
    else g) g

/-- An output is called to a level at instant `n`: the leg, and whether the interlock delays a rise (R197). -/
def NLeg.call (g : NLeg) (out : Nat) (lev : Bool) (dt n : Nat) : NLeg × Bool :=
  if !lev then
    if g.on out then (g.move out false n, false)
    else (if out = 0 then { g with hWant := false } else { g with lWant := false }, false)
  else if g.on out || g.wants out then (g, false)
  else match g.freeAt out dt with
    | some f => if f ≤ n then (g.move out true n, false) else (if out = 0 then { g with hWant := true } else { g with lWant := true }, true)
    | none => (if out = 0 then { g with hWant := true } else { g with lWant := true }, true)

/-- Both outputs of a leg go off. -/
def NLeg.off (g : NLeg) (n : Nat) : NLeg :=
  let g := if g.hOn then g.move 0 false n else g
  let g := if g.lOn then g.move 1 false n else g
  { g with hWant := false, lWant := false, todo := [] }

/-- The instant of an entry, its fraction truncated to RES bits (R197). -/
def entryAt (base res off : Nat) : Nat := 32 * base + 2 ^ (5 - res) * (off / 2 ^ (5 - res))

/-- The level an output held at an instant (R197). -/
def NLeg.levelAt (g : NLeg) (out n : Nat) : Bool :=
  match g.hist.find? fun e => e.2.1 == out && decide (e.1 < n) with
  | some e => e.2.2
  | none => false

/-- The set of an EDGE frame's data blocks (R179). -/
def setOf (blocks : List Nat) : NSet :=
  ⟨blocks.getD 0 0, bits (blocks.getD 1 0) 0 27,
    (blocks.drop 2).map fun b => (bits b 0 32, bits b 32 1, bit b 33)⟩

/-- A set becomes current: its entries after instant `n` are still to come. -/
def NLeg.makeCurrent (g : NLeg) (res : Nat) (st : NSet) (n : Nat) (fresh : Bool) : NLeg :=
  { g with
    cur := some st
    todo := st.ents.filter fun e => decide (n < entryAt st.base res e.1)
    repeating := !fresh
    reps := if fresh then 0 else g.reps }

/-- A leg replaced, with the node's counts of late entries and of delayed rises. -/
def NodeSt.put (x : NodeSt) (l : Nat) (g : NLeg) (late held : Nat) : NodeSt :=
  { x with late := (x.late + late) % 65536, intlk := (x.intlk + held) % 65536 }.setLeg l g

/-- Whether an entry of the set with an instant up to `n` changes the level that an output held at BASE, or that the entries before
it gave it: such an entry is applied late (R197). -/
def NLeg.lateMoves (g : NLeg) (res n : Nat) (st : NSet) (out : Nat) : Bool :=
  ((st.ents.filter fun e => e.2.1 == out && decide (entryAt st.base res e.1 ≤ n)).foldl
    (fun (a : Bool × Bool) e => (e.2.2, a.2 || a.1 != e.2.2)) (g.levelAt out (32 * st.base), false)).2

/-- A set that starts in the past: each output goes to the level it held at BASE followed by the entries up to now, falls
first. LATE counts an output that a late entry moves, and none that goes back to its level at BASE (R197). -/
def NLeg.catchUp (g : NLeg) (res dt n : Nat) (st : NSet) : NLeg × Nat × Nat :=
  let target := fun (out : Nat) =>
    (st.ents.filter fun e => e.2.1 == out && decide (entryAt st.base res e.1 ≤ n)).foldl (fun _ e => e.2.2)
      (g.levelAt out (32 * st.base))
  let late := [0, 1].filter fun o => g.lateMoves res n st o && target o != (g.on o || g.wants o)
  let falls := [0, 1].filter fun o => !target o && g.on o
  let rises := [0, 1].filter fun o => target o && !g.on o && !g.wants o
  let drop := [0, 1].filter fun o => !target o && g.wants o
  let g := (falls ++ drop).foldl (fun g o => (g.call o false dt n).1) g
  let r := rises.foldl (fun (r : NLeg × Nat) o => let q := r.1.call o true dt n; (q.1, r.2 + q.2.toNat)) (g, 0)
  (r.1, late.length, r.2)

/-- A newer edge set (R197, R199). -/
def State.nodeSet (s : State) (k : Nat) (f : Frame) : State :=
  let x := s.node k
  let g := x.leg f.leg
  if bit f.flags 0 || f.blocks.length < 3 || f.leg ≥ nodeLegs k || !newer g.seq f.seq then s
  else
    let n := s.nodeNow k
    let st := setOf f.blocks
    let g := { g with seq := some f.seq, block := if g.block = 1 then 0 else g.block }
    if 32 * (st.base + st.per) ≤ n then s.setNode k (x.setLeg f.leg g)
    else if 32 * st.base ≤ n then
      let g := g.makeCurrent (nodeRes k) st n true
      if g.block ≠ 0 then s.setNode k (x.setLeg f.leg g)
      else
        let q := g.catchUp (nodeRes k) (s.nodeDt k) n st
        s.setNode k (x.put f.leg q.1 q.2.1 q.2.2)
    else s.setNode k (x.setLeg f.leg { g with pend := some st })

/-- The next entry of a leg whose instant has come, and rises that the interlock held (R197). -/
def State.nodeEntry (s : State) (k l : Nat) : State :=
  let x := s.node k
  let dt := s.nodeDt k
  let n := s.nodeNow k + 31
  let g := x.leg l
  match g.cur, g.todo with
  | some st, e :: rest =>
    let i := entryAt st.base (nodeRes k) e.1
    if n < i then s.setNode k (x.setLeg l (g.release dt n))
    else if g.block ≠ 0 then s.setNode k (x.setLeg l { g with todo := rest })
    else
      let q := (g.release dt i).call e.2.1 e.2.2 dt i
      s.setNode k (x.put l { q.1 with todo := rest } 0 q.2.toNat)
  | _, _ => s.setNode k (x.setLeg l (g.release dt n))

/-- A self-block of a leg: its outputs go off at once (R199). -/
def NLeg.selfBlock (g : NLeg) (n : Nat) : NLeg := { g.off n with block := 2, cur := none, pend := none, reps := 0, repeating := false }

/-- Every leg self-blocks. -/
def State.nodeBlockAll (s : State) (k cause : Nat) : State :=
  let n := s.nodeNow k
  let x := s.node k
  let x := (List.range (nodeLegs k)).foldl (fun x l => x.setLeg l ((x.leg l).selfBlock n)) x
  s.setNode k { x with cause := cause }

/-- A repeated period counts at its end, in the node and in the leg's row (R198). -/
def NodeSt.repeated (x : NodeSt) (l : Nat) : NodeSt :=
  let g := x.leg l
  if g.repeating then { x with reps := (x.reps + 1) % 256 }.setLeg l { g with reps := g.reps + 1 } else x

/-- A period of a leg ends: at the BASE of a pending set, or after PER (R197, R198). A repeated period that comes to its own end
counts, also where a pending set takes over there; one that a set cuts short does not. At the limit the leg blocks itself. -/
def State.nodePeriodEnd (s : State) (k l : Nat) : State :=
  let x := s.node k
  let g := x.leg l
  let res := nodeRes k
  let now := s.nodeNow k + 31
  let ended := match g.cur with
    | some c => decide (32 * (c.base + c.per) ≤ now)
    | none => false
  let first := match g.cur, g.pend with
    | some c, some p => decide (p.base < c.base + c.per)
    | _, _ => false
  let ready := match g.pend with
    | some p => decide (32 * p.base ≤ now)
    | none => false
  let start := fun (g : NLeg) (st : NSet) (fresh : Bool) =>
    { g.makeCurrent res st 0 fresh with todo := st.ents }
  let y := if ended && !first then x.repeated l else x
  let h := y.leg l
  if ended && !first && h.repeating && g.block == 0 && decide (h.reps ≥ max 1 (bits x.ctrl 4 4)) then
    s.setNode k { y.setLeg l (h.selfBlock (s.nodeNow k)) with cause := 1 }
  else match g.pend, g.cur with
    | some p, _ =>
      if ready then s.setNode k (y.setLeg l (start { h with pend := none } p true))
      else if ended then s.setNode k (y.setLeg l { h with repeating := false })
      else s
    | none, some c =>
      if !ended then s
      else if g.block ≠ 0 then s.setNode k (y.setLeg l { h with cur := none, repeating := false })
      else s.setNode k (y.setLeg l (start h { c with base := c.base + c.per } false))
    | none, none => s

/-- A newer block command (R199). -/
def State.nodeBlock (s : State) (k : Nat) (f : Frame) : State :=
  let x := s.node k
  let g := x.leg f.leg
  if !bit f.flags 0 || f.leg ≥ nodeLegs k || !newer g.seq f.seq then s
  else
    s.setNode k (x.setLeg f.leg { g.off (s.nodeNow k) with
      seq := some f.seq
      cur := none
      pend := none
      reps := 0
      repeating := false
      block := if g.block = 2 then 2 else 1 })

/-! ### Locks and protection (R191, R199) -/

/-- A port's block lock changes; the time without lock on both ports starts or stops, and the node begins to report the break on its
output for that direction (R191). -/
def State.nodeLock (s : State) (k port : Nat) (lock : Bool) : State :=
  let x := s.node k
  let x := if port = 0 then { x with lockP := lock } else { x with lockQ := lock }
  let dark := !x.lockP && !x.lockQ
  (s.setNode k { x with darkAt := if dark then some (x.darkAt.getD s.tick) else none }).nodeServe k

/-- LOL_TMO without block lock on both ports (R199). -/
def State.nodeLossOfLink (s : State) (k : Nat) : State :=
  let x := s.node k
  match x.darkAt with
  | some t => if t + 2000 * x.lol ≤ s.tick then s.nodeBlockAll k 2 else s
  | none => s

/-- The node's own protection acts, or its cause has cleared (R199). -/
def State.nodeProtect (s : State) (k : Nat) (acts : Bool) : State :=
  let s := if acts then s.nodeBlockAll k 3 else s
  s.setNode k { s.node k with causeHolds := acts }

/-- Whether a cause of a self-block still holds. -/
def State.nodeCauseHolds (s : State) (k : Nat) : Bool :=
  let x := s.node k
  x.causeHolds || (match x.darkAt with
    | some t => decide (t + 2000 * x.lol ≤ s.tick)
    | none => false)

/-! ### Registers and measurement (R183, R200, R201) -/

def State.nodeBlocked (s : State) (k : Nat) : Nat :=
  (List.range (nodeLegs k)).foldl (fun m l => m + 2 ^ l * (((s.node k).leg l).block != 0).toNat) 0
def State.nodeSelf (s : State) (k : Nat) : Bool := (List.range (nodeLegs k)).any fun l => ((s.node k).leg l).block == 2

/-- The value of a node register, none where there is none to read. -/
def State.nodeRead (s : State) (k a : Nat) : Option Nat :=
  let x := s.node k
  if a = 0 then some (Config.nodeId k % 2 ^ 32)
  else if a = 4 then some (nodeCaps k)
  else if a = 8 then some (x.pos + 2 ^ 31 * x.assigned.toNat)
  else if a = 0xC then some x.ctrl
  else if a = 0x10 then some x.dlyCw
  else if a = 0x14 then some x.dlyCcw
  else if a = 0x18 then some (s.nodeDt k)
  else if a = 0x1C then some x.mper
  else if a = 0x20 then some x.mphase
  else if a = 0x24 then
    some (s.nodeBlocked k + 2 ^ 4 * (s.nodeSelf k).toNat + 2 ^ 5 * x.timeOk.toNat + 2 ^ 6 * x.lockP.toNat +
      2 ^ 7 * x.lockQ.toNat + 2 ^ 8 * x.cause)
  else if a = 0x28 then some x.lol
  else if 0x100 ≤ a ∧ Config.nodeReg k a ≠ 0 then some (SMap.getD x.impl a (Config.nodeImpl k a % 2 ^ 32))
  else none

/-- UNBLOCK ends every self-block; the legs wait for a newer set (R199). -/
def NodeSt.unblock (x : NodeSt) : NodeSt :=
  { x with legs := x.legs.map fun e => (e.1, if e.2.block = 2 then { e.2 with block := 0, cur := none, pend := none, todo := [] } else e.2) }

/-- A write to a node register: its STATUS and the node (R201). -/
def State.nodeWrite (s : State) (k a v : Nat) : Nat × NodeSt :=
  let x := s.node k
  if a = 0xC then
    if bits v 4 4 > 8 ∨ (bit v 0 ∧ s.nodeSelf k ∧ s.nodeCauseHolds k) then (2, x)
    else
      let legs := (List.range (nodeLegs k)).foldl (fun m l => SMap.upd m l {} id) x.legs
      let y := if bit v 0 then { x with legs := legs }.unblock else x
      (0, { y with ctrl := bits v 1 1 * 2 + 16 * bits v 4 4 })
  else if a = 0x10 then (0, { x with dlyCw := v % 2 ^ 24 })
  else if a = 0x14 then (0, { x with dlyCcw := v % 2 ^ 24 })
  else if a = 0x18 then (0, { x with dt := some (max (nodeMinDt k) (v % 2 ^ 20)) })
  else if a = 0x1C then (0, { x with mper := v })
  else if a = 0x20 then (0, { x with mphase := v })
  else if a = 0x28 then (if 1 ≤ v % 2 ^ 16 ∧ v % 2 ^ 16 ≤ 1000 then (0, { x with lol := v % 2 ^ 16 }) else (2, x))
  else if a < 0x100 then (2, x)
  else if Config.nodeReg k a = 0 then (1, x)
  else if Config.nodeReg k a = 1 then (2, x)
  else (0, { x with impl := SMap.put x.impl a v })

/-- A newer MREQ is answered once, from both ports (R183, R200). The DATA of a refused read is a free value. -/
def State.nodeMreq (s : State) (k : Nat) (f : Frame) : State :=
  let x := s.node k
  if !newer x.mseq f.seq then s
  else
    let w := f.blocks.getD 0 0
    let a := bits w 0 12 / 4 * 4
    let s := s.setNode k { x with mseq := some f.seq }
    let answer := fun (s : State) (status data : Nat) =>
      s.nodeUp k { ty := 4, pos := x.pos, seq := f.seq,
                   blocks := [bits w 0 13 + 2 ^ 13 * status + 2 ^ 16 * bits w 16 8 + 2 ^ 32 * (data % 2 ^ 32)] }
    if bit w 12 then
      let q := s.nodeWrite k a (bits w 32 32)
      answer (s.setNode k q.2) q.1 (bits w 32 32)
    else match s.nodeRead k a with
      | some v => answer s 0 v
      | none =>
        let q := s.draw 32
        answer q.2 (if a < 0x100 then 2 else 1) q.1

/-- A MEAS frame with four measurement words (R181). -/
def State.nodeMeas (s : State) (k : Nat) (words : List Nat) (sample : Nat) (new : Bool) : State :=
  let x := s.node k
  let w := fun i => words.getD i 0 % 2 ^ 32
  let c := x.late + 2 ^ 16 * x.reps + 2 ^ 24 * s.nodeBlocked k + 2 ^ 28 * (s.nodeSelf k).toNat + 2 ^ 29 * x.timeOk.toNat +
    2 ^ 32 * x.intlk + 2 ^ 48 * x.crcerr
  let f : Frame := { ty := 2, pos := x.pos, seq := x.meas, flags := new.toNat,
                     blocks := [w 0 + 2 ^ 32 * w 1, w 2 + 2 ^ 32 * w 3, sample, c] }
  if !x.assigned then s
  else (s.setNode k { x with meas := (x.meas + 1) % 65536, measAt := s.tick }).nodeUp k f

/-- A measurement instant has come (R200). -/
def State.nodeSample (s : State) (k : Nat) (words : List Nat) : State :=
  let x := s.node k
  let n := s.nodeNow k / 32
  let t := n - (n + x.mper - x.mphase % x.mper) % x.mper
  if !bit x.ctrl 1 ∨ x.mper = 0 ∨ x.sampled = some t then s
  else (s.setNode k { x with sampled := some t }).nodeMeas k words t true

/-- 50 us without a MEAS frame (R200). -/
def State.nodeHeartbeat (s : State) (k : Nat) (words : List Nat) : State :=
  if (s.node k).measAt + 100000 ≤ s.tick then s.nodeMeas k words (s.nodeNow k / 32 % 2 ^ 64) false else s

end Sys2Proof.Machine
end

