-- ==== Sys2Proof/Machine/CoreOps.lean ====
section
/-! DEFINITION. Machine/CoreOps.lean: the core pairs: delayed writes, exceptions, machine checks, interrupt acceptance, debug
entry, checkpoints, rollback, pair reset, translation, and the hardware locks (chapters 10, 12, 13 and 17). -/

namespace Sys2Proof.Machine

def State.pair (s : State) (p : Nat) : PairSt := SMap.getD s.core.pairs p {}

def State.setPair (s : State) (p : Nat) (x : PairSt) : State := { s with core.pairs := SMap.put s.core.pairs p x }

def State.setRegs (s : State) (p : Nat) (r : Regs) : State := s.setPair p { s.pair p with r := r }

/-! ### PSW and system registers (R272, R273) -/

def Regs.mode (r : Regs) : Nat := bits r.psw 0 2
def Regs.ie (r : Regs) : Bool := bit r.psw 2
def Regs.exl (r : Regs) : Bool := bit r.psw 3
def Regs.mcl (r : Regs) : Bool := bit r.psw 4
def Regs.ipl (r : Regs) : Nat := bits r.psw 5 5

/-- A PSW with reserved bits 0 and an IPL of at most 16. -/
def pswFix (x : Nat) : Nat :=
  let y := setBits (setBits x 10 6 0) 21 11 0
  if bits y 5 5 > 16 then setBits y 5 5 16 else y

def Regs.sysr (r : Regs) (n : Nat) : Nat := SMap.getD r.sys n 0
def Regs.setSys (r : Regs) (n v : Nat) : Regs := { r with sys := SMap.put r.sys n (v % 2 ^ 32) }

/-- A 48-bit value over a LO and a HI register. -/
def Regs.sys48 (r : Regs) (n : Nat) : Nat := r.sysr n + 2 ^ 32 * bits (r.sysr (n + 1)) 0 16
def Regs.setSys48 (r : Regs) (n v : Nat) : Regs := (r.setSys n v).setSys (n + 1) (bits v 32 16)

/-! ### Delayed writes (R258 to R262) -/

/-- A completed write. -/
def Regs.write (r : Regs) (t v : Nat) : Regs :=
  if t < 16 then { r with g := r.g.set t (v % 2 ^ 32) }
  else if t < 20 then { r with a := r.a.set (t - 16) (v % 2 ^ 72) }
  else if t < 24 then { r with am := r.am.set (t - 20) (v % 2 ^ 72) }
  else if t = 24 then { r with psw := setBits r.psw 16 4 v }
  else if t = 25 then { r with psw := setBit r.psw 20 (bit r.psw 20 || v != 0) }
  else if t = 26 then { r with psw := setBit r.psw 20 (v != 0) }
  else if t = 27 then { r with lc0 := v % 2 ^ 32 }
  else if t = 28 then { r with lc0e := v % 2 ^ 32 }
  else { r with lc1 := v % 2 ^ 32 }

/-- Writes by pipe cycle of completion, and within one by program order (R258). -/
def pwInsert (w : PWrite) : List PWrite → List PWrite
  | [] => [w]
  | x :: xs => if w.due < x.due then w :: x :: xs else x :: pwInsert w xs

/-- Every write due by pipe cycle `d` completes. -/
def PairSt.complete (x : PairSt) (d : Nat) : PairSt :=
  { x with
    r := (x.pw.filter fun w => w.due ≤ d).foldl (fun r w => r.write w.target w.value) x.r
    pw := x.pw.filter fun w => !(decide (w.due ≤ d)) }

/-- Every write of an earlier group completes (R262); the next instruction starts a group. -/
def PairSt.drain (x : PairSt) : PairSt :=
  { x with
    r := x.pw.foldl (fun r w => r.write w.target w.value) x.r
    pw := []
    grp := none
    nextAt := max x.nextAt (x.dist + 1) }

/-! ### Hardware locks (R347 to R349) -/

def lockKey (t n : Nat) : Nat := 64 * t + n

def State.lockOf (s : State) (t n : Nat) : Option LockOwn := SMap.get? s.mm.locks (lockKey t n)

/-- The ticks of a lease gone by. -/
def LockOwn.ticks (o : LockOwn) (now : Nat) : Nat := if o.still then o.acc else o.acc + (now - o.at_)

def State.setLock (s : State) (t n : Nat) (o : Option LockOwn) : State :=
  let s := match o with
    | some x => { s with mm.locks := SMap.put s.mm.locks (lockKey t n) x }
    | none => { s with mm.locks := SMap.erase s.mm.locks (lockKey t n) }
  s.setFbit (pgHLCK t) F.HLCK_HELD_HELD n o.isSome

/-- A lock is broken with a cause (R349); an owning pair's notice stands in its own tile's HLCK page. -/
def State.breakLock (s : State) (t n cause : Nat) : State :=
  match s.lockOf t n with
  | none => s
  | some o =>
    let s := ((s.setLock t n none).setFbit (pgHLCK t) F.HLCK_BRKMAP_BROKEN n true).pulse (pgHLCK t) 0
    if o.owner < 80 ∧ (2 ≤ cause ∧ cause ≤ 4) then
      let b := pgHLCK (o.owner / 2)
      let x := o.owner % 2
      let s := s.setPair o.owner { s.pair o.owner with brkDue := true }
      if s.flag b (F.HLCK_BRK_VALID x) then s.setFlag b (F.HLCK_BRK_MULTI x) true
      else
        ((((s.setF b (F.HLCK_BRK_LOCK x) n).setF b (F.HLCK_BRK_TILE x) t).setF b (F.HLCK_BRK_CAUSE x) cause).setFlag b
          (F.HLCK_BRK_MULTI x) false).setFlag b (F.HLCK_BRK_VALID x) true
    else s

/-- Every lock that a requester owns is broken. -/
def State.breakOwned (s : State) (owner cause : Nat) : State :=
  (s.mm.locks.filter fun kv => kv.2.owner == owner).foldl (fun s kv => s.breakLock (kv.1 / 64) (kv.1 % 64) cause) s

/-- The lease of a halted owner does not run (R349, R472). -/
def State.holdLeases (s : State) (owner : Nat) (still : Bool) : State :=
  { s with mm.locks := s.mm.locks.map fun kv =>
      if kv.2.owner = owner then (kv.1, { kv.2 with acc := kv.2.ticks s.tick, at_ := s.tick, still := still }) else kv }

/-- A read of HLCK_ACQn by a requester that may own a lock (R347): the word returned, and the state. -/
def State.acquire (s : State) (req t n : Nat) : Nat × State :=
  let held := match s.lockOf t n with
    | some o => 2 ^ 12 * o.owner + 2 ^ 31
    | none => 0
  match s.lockOf t n with
  | none => (1 + 2 ^ 12 * req + 2 ^ 31, s.setLock t n (some ⟨req, 0, s.tick, false⟩))
  | some o => if o.owner = req then (3 + held, s.setLock t n (some ⟨req, 0, s.tick, false⟩)) else (held, s)

/-- A write of HLCK_ACQn; the cause recorded (R348). -/
def State.release (s : State) (req t n v : Nat) : State × Nat :=
  match s.lockOf t n with
  | some o => if o.owner = req then (if bit v 0 then (s.setLock t n none, 0) else (s, 0)) else (s, 0x20)
  | none => (s, 0x20)

/-- The lease of a lock has expired (R349). -/
def State.leaseExpiry (s : State) (t n : Nat) : State :=
  let l := s.getF (pgHLCK t) F.HLCK_LEASE_LEASE
  match s.lockOf t n with
  | some o => if l ≠ 0 ∧ o.ticks s.tick ≥ 2000 * l then s.breakLock t n 3 else s
  | none => s

/-! ### Takeover requests (R355, R356) -/

/-- The mirror gate of a tile closes at the end of this tick (R356). -/
def State.closeGate (s : State) (t : Nat) : State :=
  if SMap.has s.edge.gates t then s else { s with edge.gates := SMap.put s.edge.gates t { d := s.tick } }

/-- The merges counted behind the gate of tile `a` count in tile `b` (R366). -/
def State.carryMerged (s : State) (a b : Nat) : State :=
  match SMap.get? s.edge.gates a with
  | some g => { s with edge.gates := SMap.put s.edge.gates a { g with merged := 0 } }.satF (pgLENG b) F.LENG_CNT1_MERGED g.merged
  | none => s

/-- The mirror gate opens again. -/
def State.openGate (s : State) (t : Nat) : State :=
  let s := s.carryMerged t t
  { s with edge.gates := SMap.erase s.edge.gates t }

/-- What a tile holds in its blocks is gone: the registers of its window and everything behind them; tile SRAM and its
requesters' responses stay (R389, R401). Core pair B stays where `keepB` says so: it has a domain of its own (R388). -/
def State.clearBlocks (s : State) (t : Nat) (keepB : Bool) : State :=
  let page := fun (k : Nat) => decide (0x08000000 + 0x100000 * t ≤ k) && decide (k < 0x08000000 + 0x100000 * (t + 1)) &&
    !(keepB && k == pgCORE (2 * t + 1))
  { s with
    regs := s.regs.filter fun kv => !page (kv.1 / 64)
    bus := { s.bus with
      locks := s.bus.locks.filter fun kv => !page kv.1
      latches := s.bus.latches.filter fun kv => !page (kv.1 / 1024)
      pulses := s.bus.pulses.filter fun kv => !page (kv.1 / 32)
      frozen := s.bus.frozen.filter fun kv => !page kv.1
      errs := s.bus.errs.filter fun kv => !page kv.1
      lows := s.bus.lows.filter fun kv => !page (kv.1 / 64) }
    loop := { s.loop with
      ctx := SMap.eraseBlock s.loop.ctx 32768 t
      prog := SMap.eraseBlock s.loop.prog 4096 t
      progBad := SMap.eraseBlock s.loop.progBad 4096 t
      pend := SMap.eraseBlock s.loop.pend 2048 t
      runs := SMap.eraseBlock s.loop.runs 16 t
      commits := SMap.eraseBlock s.loop.commits 16 t
      outvote := SMap.eraseBlock s.loop.outvote 64 t
      swapNext := SMap.eraseBlock s.loop.swapNext 16 t
      heldSteps := s.loop.heldSteps.filter fun e => e.tile != t
      wroteAt := SMap.eraseBlock s.loop.wroteAt 2048 t
      woke := SMap.eraseBlock s.loop.woke 2048 t
      stage := SMap.erase s.loop.stage t }
    edge := { s.edge with gens := SMap.eraseBlock s.edge.gens 256 t, lanes := SMap.erase s.edge.lanes t }
    time := { s.time with timers := SMap.eraseBlock s.time.timers 16 t, wdogs := SMap.erase s.time.wdogs t }
    lath := { s.lath with
      laths := SMap.erase s.lath.laths t
      int := { s.lath.int with
        wakeBuf := SMap.erase s.lath.int.wakeBuf t
        wakeWait := SMap.erase s.lath.int.wakeWait t
        fresh := SMap.eraseBlock s.lath.int.fresh 512 t
        holdEnd := SMap.eraseBlock s.lath.int.holdEnd 8 t } }
    mm := { s.mm with
      queues := SMap.eraseBlock s.mm.queues 2048 t
      qreqs := SMap.eraseBlock s.mm.qreqs 1024 t
      chans := SMap.eraseBlock s.mm.chans 32 t
      io := SMap.erase s.mm.io t
      locks := SMap.eraseBlock s.mm.locks 64 t }
    core := { s.core with pairs := s.core.pairs.filter fun kv => !(kv.1 == 2 * t || (kv.1 == 2 * t + 1 && !keepB)) } }

/-- Every block of a tile, both core pairs among them, loses its state (R401). -/
def State.clearTile (s : State) (t : Nat) : State := s.clearBlocks t false

/-- A refiring in STAGING or SHADOW ends: its staged tile discards the image and refills its mirror (R371). -/
def State.refireEnd (s : State) (c cause : Nat) : State :=
  match s.refireOf c with
  | some r =>
    let s := ((s.clearTile r.phys).setF pgDROLE F.RF_STAT_STATE 5).setF pgDROLE F.RF_STAT_CAUSE cause
    ({ s.dropRefire c with dep.refill := r.phys :: s.dep.refill.filter (· ≠ r.phys) }).pulse pgDROLE 2
  | none => s

/-- It ends where `f` holds of it and its switch is not made. -/
def State.refireEndIf (s : State) (c cause : Nat) (f : Refire → Bool) : State :=
  match s.refireOf c with
  | some r => if f r && r.done.isNone then s.refireEnd c cause else s
  | none => s

/-- The physical tiles of a cluster with ROLE 0b01. -/
def State.saggars (s : State) (c : Nat) : List Nat := ((List.range 10).map (10 * c + ·)).filter fun t => s.role t == 1

/-- A tile in the saggar role fails: it goes out of service, and a load in progress in it starts again on the other saggar
tile, which MOVE_START picks (R73, R366). -/
def State.saggarFault (s : State) (t : Nat) : State :=
  let s := s.setF pgDROLE (F.ROLE_PHYS_ROLE t) 3
  match SMap.get? s.dep.moves (t / 10) with
  | some m =>
    if m.moving ∧ m.to_ = t then
      match s.saggars (t / 10) with
      | u :: _ => let m : Move := { m with to_ := u }; { s with dep.moves := SMap.put s.dep.moves (t / 10) m }
      | [] =>
        let s := (s.openGate m.from_).setFlag pgDROLE (F.ROLE_MAP_MOVING m.lt) false
        ({ s with dep.moves := SMap.erase s.dep.moves (t / 10) }).setFlag pgDROLE F.TKO_LAST_NO_SAGGAR true |>.pulse pgDROLE 8
    else s
  | none => s

/-- A trigger of a takeover (R355): the gate closes with this tick, the pin keeper takes the pins in the next, and the trigger waits for
the keeper (R356, R357, R364). It ends a refiring of the logical tile (R371). -/
def State.wantTakeover (s : State) (t trig want : Nat) : State :=
  match s.ltOf t with
  | none => if (s.role t = 1 ∨ s.role t = 2) ∧ trig ≤ 2 then s.saggarFault t else s
  | some lt =>
    if s.dep.waiting.any (fun w => w.2.1 == t) || s.dep.moves.any (fun m => m.2.from_ == t) then s
    else
      let s := (s.refireEndIf (t / 10) 3 fun r => r.lt == lt).closeGate t
      let s := if (s.saggars (t / 10)).isEmpty then s else s.pulse pgDROLE 0
      { s with dep.waiting := s.dep.waiting ++ [(lt, t, trig, s.tick, want)] }

/-! ### Exceptions, machine checks, stops (R275 to R281, R286) -/

/-- A word as ECAUSE and MCCAUSE hold it (R273). -/
structure Cause where
  vec : Nat
  slot : Bool := false
  half2 : Bool := false
  write : Bool := false
  len : Nat := 0
  tcause : Nat := 0
  addr : Option Nat := none

def Cause.word (c : Cause) : Nat :=
  c.vec / 16 + 2 ^ 9 * c.slot.toNat + 2 ^ 10 * c.half2.toNat + 2 ^ 11 * c.write.toNat + 2 ^ 12 * c.len + 2 ^ 16 * c.tcause

/-- A local source of a pair (R286). -/
def State.pairSource (s : State) (p k : Nat) : State := s.arrive (512 * (p / 2) + 240 + 8 * (p % 2) + k)

/-- The pair stops (R280, R288): its locks are broken (R349). -/
def State.stopPair (s : State) (p : Nat) : State :=
  (((s.setFlag (pgCORE p) F.CORE_STAT_STOPPED true).pulse (pgCORE p) 3).pairSource p 2).breakOwned p 2

/-- A machine check (R278, R280) at address `pc`, with MCC `mcc`; while MCL = 1 the pair stops. -/
def State.machineCheck (s : State) (p mcc : Nat) (c : Cause) (pc : Nat) : State :=
  let x := (s.pair p).drain
  if x.r.mcl then (s.setPair p x).stopPair p
  else
    let r := ((x.r.setSys48 0x08 pc).setSys 0x0A x.r.psw).setSys 0x0B ({ c with vec := 0x010 }.word + 2 ^ 24 * mcc)
    let r := match c.addr with
      | some a => r.setSys48 0x0C a
      | none => r
    let r := { r with psw := setBit (setBit (setBits r.psw 0 2 1) 3 true) 4 true, pc := 0x010 }
    let b := pgCORE p
    let s := (s.setPair p { x with r := r, unb := none, inLr := false }).setFlag b F.CORE_STAT_WAITING false
    let s := (((s.setF b F.CORE_MCHK_MCC mcc).satF b F.CORE_MCHK_COUNT).pulse b 2).pairSource p 3
    if mcc = 1 then s else s.breakOwned p 2

/-- Entry to a vector other than machine check and debug (R278): a synchronous exception while EXL = 1 is a machine check
DOUBLE (R280). -/
def State.exception (s : State) (p : Nat) (c : Cause) (pc : Nat) : State :=
  let x := (s.pair p).drain
  if x.r.exl then s.machineCheck p 6 c pc
  else
    let r := ((x.r.setSys48 0x00 pc).setSys 0x02 x.r.psw).setSys 0x03 c.word
    let r := match c.addr with
      | some a => r.setSys48 0x04 a
      | none => r
    s.setPair p { x with r := { r with psw := setBit (setBits r.psw 0 2 1) 3 true, pc := c.vec }, unb := none, inLr := false }

/-- RETT (R278): the PC and PSW restored. A MODE of 0b11, which is never used, becomes a free one of the others. -/
def State.retPsw (s : State) (w : Nat) : Nat × State :=
  let v := pswFix w
  if bits v 0 2 = 3 then let q := s.draw 2; (setBits v 0 2 (q.1 % 3), q.2) else (v, s)

/-! ### Whether a pair issues -/

def State.halted (s : State) (p : Nat) : Bool := s.flag (pgCORE p) F.CORE_STAT_HALTED
def State.pairStopped (s : State) (p : Nat) : Bool := s.flag (pgCORE p) F.CORE_STAT_STOPPED

/-- Whether a pair is powered, released from HOLD, not stopped, not handed over and not rolling back. -/
def State.pairAlive (s : State) (p : Nat) : Bool :=
  let t := p / 2
  s.pageReady ⟨.core, pgCORE p, p % 2, t⟩ && !s.flag (pgCORE p) F.CORE_CTRL_HOLD && !s.pairStopped p &&
    !(s.pair p).dead && (s.pair p).rolling.isNone && !s.isleStopped (2 * t) && !s.gateShut t

/-- Whether the pair issues instructions. -/
def State.pairRuns (s : State) (p : Nat) : Bool :=
  s.pairAlive p && (!s.halted p || (s.pair p).stepping) && !s.flag (pgCORE p) F.CORE_STAT_WAITING

/-! ### Checkpoints and rollback (R253, R254, R351 to R354) -/

def State.setLog (s : State) (p : Nat) (x : PairSt) : State :=
  ((s.setPair p x).setF (pgCORE p) F.CORE_RLOG_LEVEL x.log.length).setFlag (pgCORE p) F.CORE_RLOG_REPLAY (!x.replay.isEmpty)

/-- The pair takes a checkpoint: the registers as they will stand, and an empty log (R254, R262, R351). -/
def State.takeCheckpoint (s : State) (p : Nat) : State :=
  let x := s.pair p
  (s.setLog p { x with
    ck := x.drain.r, ckAt := s.tick, log := [], groups := 0, ckWait := false
    longs := x.longs.map fun o => { o with inCk := true } }).setF (pgCORE p) F.CORE_CKPT_TICK_TICK s.count

/-- Whether the pair is where an entry or a checkpoint may fall: no access of its own is in flight (R270), and a long resumable
instruction stands at one of its 16-element points (R284). -/
def State.atBoundary (s : State) (p : Nat) : Bool :=
  let x := s.pair p
  x.unb.isNone && !(x.inLr && x.lrs.left != 0)

/-- Whether a period boundary, or 100,000 ticks, have passed since the last checkpoint (R254). -/
def State.ckptDue (s : State) (p : Nat) : Bool :=
  let b := pgCORE p
  let x := s.pair p
  let g := s.getF b F.CORE_CKPT_GEN
  if s.flag b F.CORE_CKPT_GVALID then s.genRuns (p / 2) g && decide (x.ckAt < (s.gen (p / 2) g).origin)
  else decide (x.ckAt + 100000 ≤ s.tick)

/-- Whether the pair takes a checkpoint at its next boundary: one is due, or a long log forces it (R254, R353). -/
def State.ckptWanted (s : State) (p : Nat) : Bool :=
  let x := s.pair p
  s.pairAlive p && !x.r.mcl && s.atBoundary p && x.replay.isEmpty && (s.ckptDue p || decide (x.log.length ≥ 1008))

/-- A checkpoint at a group boundary (R254, R353). -/
def State.checkpointNow (s : State) (p : Nat) : State :=
  let x := s.pair p
  if !s.ckptWanted p then s.setPair p { x with ckWait := false }
  else if s.ckptDue p then s.takeCheckpoint p
  else ((s.setPair p x.drain).takeCheckpoint p).satF (pgCORE p) F.CORE_RLOG_FORCED

/-- A checkpoint that is due or forced: at once, or behind the group that a further instruction may still join (R254). -/
def State.checkpoint (s : State) (p : Nat) : State :=
  if !s.ckptWanted p then s
  else if (s.pair p).grp.isSome then s.setPair p { s.pair p with ckWait := true }
  else s.checkpointNow p

/-- An access or acceptance enters the release log, while the log is not frozen and has room: it holds 1,024 entries (R351 to R353). -/
def State.logAccess (s : State) (p : Nat) (e : LogE) : State :=
  let x := s.pair p
  if x.logFrozen ∨ !x.replay.isEmpty ∨ 1024 ≤ x.log.length then s else s.setLog p { x with log := x.log ++ [e] }

/-- The access of a pair that is sent and whose response the pair has not taken yet, as its log entry. -/
def PairSt.inFlight (x : PairSt) : Option LogE :=
  match x.unb with
  | some u => if u.resp.isNone then some ⟨u.write.toNat, u.addr, u.size, u.data, 0, false⟩ else none
  | none => x.lrs.sent

/-- An access that was held and has been made meanwhile enters the log, although the pair never takes its response (R24, R351). -/
def State.logMade (s : State) (p : Nat) : State :=
  match (s.pair p).inFlight, SMap.get? s.bus.resp p with
  | some e, some q => s.logAccess p (e.answer q)
  | _, _ => s

/-- R354: the pair issues nothing further and its logical tile is handed over. -/
def State.handOver (s : State) (p : Nat) : State := (s.setPair p { s.pair p with dead := true }).wantTakeover (p / 2) 2 63

/-- An access in replay that differs from its log entry (R354). -/
def State.diverge (s : State) (p : Nat) : State := (s.satF (pgCORE p) F.CORE_RLOG_DIVERGE).handOver p

/-- The checker finds the copies of pair `p` different at `whr` (R253, R354). -/
def State.lockstepMismatch (s : State) (p whr : Nat) : State :=
  if !s.pairAlive p then s
  else
    let b := pgCORE p
    let x := s.pair p
    let s := (((s.satF b F.CORE_LSTEP_MISMATCH).setF b F.CORE_LSTEP_WHERE whr).pulse b 0).pairSource p 0
    let again : Bool := match x.lastMis with
      | some t => decide (s.tick ≤ t + 20000000)
      | none => false
    let s := s.logMade p
    let s := s.setPair p { s.pair p with lastMis := some s.tick }
    if again ∨ !x.replay.isEmpty then s.handOver p
    else
      let s := { s with bus.held := s.bus.held.filter fun a => a.req != reqPair p }
      s.setPair p { s.pair p with rolling := some s.tick, unb := none, inLr := false, lrs := {} }

/-- The checkpoint is restored, and the machine check LOCKSTEP is entered (R253, R352). Long operations that were pending at the
checkpoint go on; later ones have not been issued (R254). -/
def State.rollbackComplete (s : State) (p : Nat) : State :=
  let x := s.pair p
  match x.rolling with
  | none => s
  | some _ =>
    let b := pgCORE p
    let y := { x with
      r := x.ck, pw := [], grp := none, rolling := none, unb := none, logFrozen := true
      longs := x.longs.filter fun o => o.inCk }
    let s := (((s.setPair p y).satF b F.CORE_LSTEP_ROLLBACK).pulse b 1).pairSource p 1
    s.machineCheck p 1 { vec := 0x010 } x.ck.pc

/-- RETT to MCPC after a rollback starts the replay of the log (R352). -/
def State.startReplay (s : State) (p : Nat) : State :=
  let x := s.pair p
  if x.logFrozen then s.setLog p { x with logFrozen := false, replay := x.log, log := if x.log.isEmpty then [] else x.log, groups := 0 }
  else s

/-- The next log entry is consumed; after the last the pair runs normally with a new log (R352). -/
def State.consumeLog (s : State) (p : Nat) : State :=
  let x := s.pair p
  let rest := x.replay.drop 1
  s.setLog p { x with replay := rest, log := if rest.isEmpty then [] else x.log }

/-! ### Interrupts and broken locks (R281 to R283) -/

/-- The vector of level `lv` is entered (R278, R282). -/
def State.enterLevel (s : State) (p lv : Nat) : State :=
  let x := (s.pair p).drain
  let r := ((x.r.setSys48 0x00 x.r.pc).setSys 0x02 x.r.psw).setSys 0x03 { vec := 0x100 + 16 * lv : Cause }.word
  let psw := setBits (setBit (setBits r.psw 0 2 1) 3 true) 5 5 lv
  (s.setPair p { x with r := { r with psw := psw, pc := 0x100 + 16 * lv }, inLr := false }).setFlag (pgCORE p) F.CORE_STAT_WAITING
    false

/-- An acceptance by pair `p` of the level presented (R245, R282, R283, R352), or the end of a WAIT. In
replay a WAIT that can accept nothing ends at once: how it ended is not in the log. -/
def State.acceptInterrupt (s : State) (p : Nat) : State :=
  let x := s.pair p
  let t := p / 2
  let waiting := s.flag (pgCORE p) F.CORE_STAT_WAITING
  let ok := x.r.ie && !x.r.exl && !x.r.mcl && s.pairAlive p && s.atBoundary p && (!s.halted p || (x.stepping && !s.flag (pgCORE p) F.CORE_DCTL_MASK_IRQ)) && !x.brkDue &&
    !s.flag (pgCORE p) F.CORE_DCTL_HALT_REQ && x.dbgDue.isNone
  match x.replay with
  | e :: _ =>
    if waiting && !(x.r.ie && !x.r.exl && !x.r.mcl) then s.setFlag (pgCORE p) F.CORE_STAT_WAITING false
    else if ok ∧ e.kind = 3 ∧ e.addr = x.groups then
      let b := pgINTC t
      let s := (s.consumeLog p).enterLevel p (e.data / 512)
      (((s.setF b (F.INTC_TAKEN_SRC (p % 2)) (e.data % 512)).setF b (F.INTC_TAKEN_LEVEL (p % 2)) (e.data / 512)).setF b
        (F.INTC_TAKEN_COUNT (p % 2)) (e.ret % 256)).setFlag b (F.INTC_TAKEN_SAT (p % 2)) (bit e.ret 8)
    else s
  | [] =>
    match s.presented t (p % 2) with
    | none => s
    | some (lv, l) =>
      if lv ≥ x.r.ipl then s
      else if ok then
        let s := s.intcAccept t (p % 2) lv l
        let b := pgINTC t
        let ret := s.getF b (F.INTC_TAKEN_COUNT (p % 2)) + 256 * s.getF b (F.INTC_TAKEN_SAT (p % 2))
        let s := s.logAccess p ⟨3, x.groups, 0, 512 * lv + l, ret, false⟩
        s.enterLevel p lv
      else if waiting then s.setFlag (pgCORE p) F.CORE_STAT_WAITING false else s

/-- Vector 0x0A0 at the first boundary with EXL = 0 (R281). -/
def State.lockBrokenEntry (s : State) (p : Nat) : State :=
  let x := s.pair p
  if x.brkDue && !x.r.exl && s.pairAlive p && s.atBoundary p && (!s.halted p || x.stepping) then
    ((s.setPair p { x with brkDue := false }).exception p { vec := 0x0A0 } x.r.pc).setFlag (pgCORE p) F.CORE_STAT_WAITING false
  else s

/-! ### Debug (R467 to R472) -/

/-- A debug halt stops and releases what follows the pair: leases, watchdog, freezes are the callers'. -/
def State.closeLocks (s : State) (req : Nat) : State :=
  { s with bus.locks := s.bus.locks.map fun kv =>
      match kv.2.win with
      | some (r, _) => if r = req then (kv.1, { kv.2 with win := none }) else kv
      | none => kv }

/-- The debug entry of a pair (R467): `reason` as DCAUSE has it. -/
def State.debugEntry (s : State) (p reason : Nat) (daddr : Option Nat) (slot : Nat) (write : Bool) : State :=
  let x := (s.pair p).drain
  let r := ((x.r.setSys48 0x40 x.r.pc).setSys 0x42 x.r.psw).setSys 0x43 (reason + 2 ^ 4 * slot + 2 ^ 7 * write.toNat)
  let r := match daddr with
    | some a => r.setSys48 0x44 a
    | none => r
  let r := { r with psw := setBits r.psw 0 2 2, pc := 0x090 }
  let s := s.setPair p { x with r := r, stepping := false, dbgDue := none }
  let s := ((s.takeCheckpoint p).closeLocks (reqPair p)).holdLeases (reqPair p) true
  let s := ((s.setFlag (pgCORE p) F.CORE_STAT_HALTED true).setFlag (pgCORE p) F.CORE_DCTL_HALT_REQ false).setFlag (pgCORE p)
    F.CORE_STAT_WAITING false
  let s := s.monEvent 1 p (r.sysr 0x43) (r.sys48 0x40)
  s.wdFreeze (p / 2)

/-- The last halted pair of a tile is released: its watchdog runs again from a full timeout (R75). -/
def State.wdRelease (s : State) (t : Nat) : State :=
  if s.halted (2 * t) || s.halted (2 * t + 1) then s else s.wdThaw t

/-- The breakpoints and the BRK arming of a pair are cleared (R468). -/
def State.clearBreaks (s : State) (p : Nat) : State :=
  (List.range 6).foldl (fun s k => s.setFlag (pgCORE p) (F.CORE_BPCTL_EN k) false)
    (s.setFlag (pgCORE p) F.CORE_DCTL_SWBP false)

/-- The halts of a tile's pairs end because its logical tile moves (R468). -/
def State.endHalts (s : State) (t : Nat) : State :=
  let s := [2 * t, 2 * t + 1].foldl (fun s p =>
    if s.halted p then
      (((s.monEvent 2 p 0 0).setFlag (pgCORE p) F.CORE_STAT_HALTED false).clearBreaks p).holdLeases (reqPair p) false
    else s) s
  s.wdRelease t

/-- A pair continues at DPC in the mode of DPSW (R467). -/
def State.debugResume (s : State) (p : Nat) : State :=
  if !s.halted p then s
  else
    let x := s.pair p
    let r := { x.r with pc := x.r.sys48 0x40, psw := pswFix (x.r.sysr 0x42) }
    let s := ((s.setPair p { x with r := r, stepping := false }).setFlag (pgCORE p) F.CORE_STAT_HALTED false).holdLeases
      (reqPair p) false
    s.wdRelease (p / 2)

/-- STEP (R469): one instruction is issued from DPC, with the halt in force. -/
def State.debugStep (s : State) (p : Nat) : State :=
  if !s.halted p || (s.pair p).stepping then s
  else
    let x := s.pair p
    s.setPair p { x with stepping := true, r := { x.r with pc := x.r.sys48 0x40, psw := pswFix (x.r.sysr 0x42) } }

/-- Whether instruction slot `k` matches the instruction at `pc` (R470). -/
def State.ibpHit (s : State) (p pc : Nat) : Option Nat :=
  let b := pgCORE p
  (List.range 4).find? fun k =>
    s.flag b (F.CORE_BPCTL_EN k) && s.getF b (F.CORE_BPADDR_ADDR k) == pc &&
      (!s.flag b (F.CORE_BPCTL_ASID_EN k) || s.getF b (F.CORE_BPCTL_ASID k) == bits ((s.pair p).r.sysr 0x21) 0 12)

/-- The data slot that an access of `size` bytes at `a` meets (R470). -/
def State.watchHit (s : State) (p a size : Nat) (rd wr : Bool) : Option Nat :=
  let b := pgCORE p
  [4, 5].find? fun k =>
    s.flag b (F.CORE_BPCTL_EN k) && ((rd && s.flag b (F.CORE_BPCTL_R k)) || (wr && s.flag b (F.CORE_BPCTL_W k))) &&
      decide (a < s.getF b (F.CORE_BPADDR_ADDR k) + s.getF b (F.CORE_BPLEN_LEN k)) &&
      decide (s.getF b (F.CORE_BPADDR_ADDR k) < a + size) &&
      (!s.flag b (F.CORE_BPCTL_ASID_EN k) || s.getF b (F.CORE_BPCTL_ASID k) == bits ((s.pair p).r.sysr 0x21) 0 12)

/-! ### Translation (R323 to R328) -/

/-- A walk's end: a leaf, a fault of a kind at a level and the entry it met, or a wait for a memory whose arbiters are frozen (R321). -/
inductive Walk where
  | leaf (e : TlbE)
  | fault (kind lvl at_ : Nat)
  | waits

/-- What the read of a table entry returns: the entry, WALK_BUS outside the memories and in the keeper's image store, WALK_UE where it is
uncorrectable (R324, R416), or 15 while the memory is frozen. -/
def State.tableEntry (s : State) (a : Nat) : Nat ⊕ Nat :=
  if !isMemory a || imageStore a || !s.memOn a then .inl 3
  else if s.memFrozen a then .inl 15
  else if s.ueIn a 8 then .inl 4
  else .inr (s.memRead a 8)

def pteRsv (e : Nat) : Bool := bits e 8 4 != 0 || bits e 48 16 != 0

/-- The end of a walk at an entry that is not there to read. -/
def Walk.missed (kind lvl a : Nat) : Walk := if kind = 15 then .waits else .fault kind lvl a

/-- The walk from a table of level `lvl` (R324). -/
def State.walk (s : State) (asid va : Nat) : Nat → Nat → Nat → Walk
  | 0, lvl, table => .fault 2 lvl table
  | fuel + 1, lvl, table =>
    let idx := bits va (39 - 9 * lvl) 9
    let a := table + 8 * idx
    match s.tableEntry a with
    | .inl k => .missed k lvl a
    | .inr e =>
      if !bit e 0 then .fault 1 lvl a
      else if pteRsv e then .fault 2 lvl a
      else if bit e 1 then
        if lvl < 2 then .fault 2 lvl a
        else if lvl = 2 then
          if bit e 7 ∨ bits e 12 9 ≠ 0 then .fault 2 lvl a else .leaf ⟨asid, bit e 6, va / 2 ^ 21, 21, e, lvl⟩
        else if !bit e 7 then .leaf ⟨asid, bit e 6, va / 2 ^ 12, 12, e, lvl⟩
        else
          let g := table + 8 * (16 * (idx / 16))
          match s.tableEntry g with
          | .inl k => .missed k lvl g
          | .inr f =>
            if bit f 0 && bit f 1 && bit f 7 && bits f 12 4 == 0 && !pteRsv f then .leaf ⟨asid, bit f 6, va / 2 ^ 16, 16, f, lvl⟩
            else .fault 2 lvl g
      else if lvl = 3 then .fault 2 lvl a
      else State.walk s asid va fuel (lvl + 1) (2 ^ 12 * bits e 12 36)

/-- What a walk of cluster `c` leaves behind: an uncorrectable entry is counted (R314), and the decoder records an entry in the image
store or in a memory that is off (R389, R416). -/
def State.walked (s : State) (req c : Nat) : Walk → State
  | .fault 4 _ a => s.countUE a
  | .fault 3 _ a =>
    if imageStore a then s.recordErr (pgCNOC c) causePRIV ⟨req, a, 8, false, 0⟩
    else if isMemory a then s.recordErr (pgCNOC c) causeNO_PAGE ⟨req, a, 8, false, 0⟩
    else s
  | _ => s

/-- The permission failure of an access, 0 for none (R325): `kind` 0 fetch, 1 load, 2 store, 3 locked. -/
def permFault (leaf kind : Nat) (user needU : Bool) : Nat :=
  if (kind = 1 ∨ kind = 3) ∧ !bit leaf 2 then 5
  else if (kind = 2 ∨ kind = 3) ∧ !bit leaf 3 then 6
  else if kind = 0 ∧ !bit leaf 4 then 7
  else if needU ∧ !bit leaf 5 then 8
  else if kind = 0 ∧ !user ∧ bit leaf 5 then 9
  else 0

/-- The physical address under a leaf. -/
def TlbE.phys (e : TlbE) (va : Nat) : Nat :=
  2 ^ e.bits * (2 ^ 12 * Sys2Proof.Machine.bits e.leaf 12 36 / 2 ^ e.bits) + va % 2 ^ e.bits

/-- The TLB entry of a page (R326). -/
def tlbFind (tlb : List TlbE) (asid va : Nat) : Option TlbE :=
  tlb.find? fun e => va / 2 ^ e.bits == e.vpn && (e.glob || e.asid == asid)

/-- An entry used last, of `n` at most, the least recently used given up (R326). -/
def tlbUse (tlb : List TlbE) (e : TlbE) (n : Nat) : List TlbE := (e :: tlb.filter (· ≠ e)).take n

/-- Entries that an invalidation reaches (R327). -/
def tlbHit (scope asid va : Nat) (e : TlbE) : Bool :=
  match scope with
  | 0 => true
  | 1 => e.asid == asid && !e.glob
  | 2 => (e.asid == asid || e.glob) && va / 2 ^ e.bits == e.vpn
  | _ => va / 2 ^ e.bits == e.vpn

/-- The root of a pair's tables (R324). -/
def Regs.root (r : Regs) : Nat := 2 ^ 12 * bits (r.sys48 0x22) 12 36

/-- A walk, counted; its leaf enters the TLB (R324, R326). -/
def State.tlbMiss (s : State) (p va asid : Nat) : State × (Nat ⊕ TlbE) :=
  let w := s.walk asid va 4 0 (s.pair p).r.root
  match w with
  | .leaf e => (s.setPair p { s.pair p with tlb := tlbUse (s.pair p).tlb e 64 }, .inr e)
  | .fault k l _ => (s.walked p (p / 20) w, .inl (k + 16 * l))
  | .waits => (s, .inl 0)

/-- The TLB entry of an address, from the TLB or by a walk (R326). -/
def State.tlbLook (s : State) (p va asid : Nat) : State × (Nat ⊕ TlbE) :=
  match tlbFind (s.pair p).tlb asid va with
  | some e => (s.setPair p { s.pair p with tlb := tlbUse (s.pair p).tlb e 64 }, .inr e)
  | none => (s.satF (pgMMU (p / 2)) (F.MMU_STAT_WALKS (p % 2))).tlbMiss p va asid

/-- Translation while it is on (R325). -/
def State.translateOn (s : State) (p va kind : Nat) (user : Bool) : State × (Nat ⊕ Nat) :=
  match s.tlbLook p va (bits ((s.pair p).r.sysr 0x21) 0 12) with
  | (s, .inl c) => (s.satF (pgMMU (p / 2)) (F.MMU_STAT_FAULTS (p % 2)), .inl c)
  | (s, .inr e) =>
    if permFault e.leaf kind user user = 0 then (s, .inr (e.phys va))
    else (s.satF (pgMMU (p / 2)) (F.MMU_STAT_FAULTS (p % 2)), .inl (permFault e.leaf kind user user + 48))

/-- Translation while it is off (R277): the pair's own MiB. The TCAUSE of the fault elsewhere is not stated: a free value. -/
def State.translateOff (s : State) (p va : Nat) : State × (Nat ⊕ Nat) :=
  if va < 0x100000 then (s, .inr (0x10000000 + 0x200000 * (p / 2) + 0x100000 * (p % 2) + va))
  else ((s.draw 6).2.satF (pgMMU (p / 2)) (F.MMU_STAT_FAULTS (p % 2)), .inl ((s.draw 6).1 % 4 + 1 + 16 * ((s.draw 6).1 / 16)))

/-- Translation by a pair's MMU (R277, R325, R326): the state, and the physical address or a TCAUSE. -/
def State.translate (s : State) (p va kind : Nat) (user : Bool) : State × (Nat ⊕ Nat) :=
  if bit ((s.pair p).r.sysr 0x20) 0 then s.translateOn p va kind user else s.translateOff p va

/-- Whether the translation of an address waits: a table that its walk reads lies in a frozen memory (R321). -/
def State.walkWaits (s : State) (p va : Nat) : Bool :=
  let asid := bits ((s.pair p).r.sysr 0x21) 0 12
  bit ((s.pair p).r.sysr 0x20) 0 && (tlbFind (s.pair p).tlb asid va).isNone &&
    (match s.walk asid va 4 0 (s.pair p).r.root with
      | .waits => true
      | _ => false)

/-- Whether a fetch waits for a frozen memory, its tables' or its own (R321). -/
def State.fetchWaits (s : State) (p va : Nat) (user : Bool) : Bool :=
  s.walkWaits p va ||
    (match (s.translate p va 0 user).2 with
      | .inr pa => s.memFrozen pa
      | .inl _ => false)

/-- The invalidation of a TLB by TLBI (R326, R327). -/
def State.tlbi (s : State) (p v : Nat) : State :=
  let x := s.pair p
  let va := x.r.sys48 0x25
  s.setPair p { x with tlb := x.tlb.filter fun e => !tlbHit (bits v 0 2) (bits v 16 12) va e }

/-! ### Pair reset and hold (R285, R401, R402) -/

/-- The oldest buffered store goes to memory (R268, R315, R416). -/
def State.drainStore (s : State) (p : Nat) : State :=
  let x := s.pair p
  match x.sb with
  | [] => s
  | e :: rest =>
    let s := s.setPair p { x with sb := rest }
    let t := (e.addr - 0x10000000) / 0x200000
    if !s.memOn e.addr then s
    else if e.addr < 0x15000000 ∧ s.role t ≠ 0 then
      s.recordErr (pgCNOC (p / 20)) causeROLE ⟨reqPair p, e.addr, e.size, true, e.data⟩
    else if imageStore e.addr then
      s.recordErr (pgCNOC (p / 20)) causePRIV ⟨reqPair p, e.addr, e.size, true, e.data⟩
    else s.writeMem e.addr (toBytes e.data e.size)

/-- The store buffer drains by one, unless the memory of its oldest store is frozen (R268, R321) or its tile's mirror gate is shut
(R356). -/
def State.drainOne (s : State) (p : Nat) : State :=
  match (s.pair p).sb with
  | [] => s
  | e :: _ => if s.memFrozen e.addr || s.gateShut (p / 2) then s else s.drainStore p

/-- The store buffer drains; it holds at most eight entries. -/
def State.drainAll (s : State) (p : Nat) : State := (List.range 8).foldl (fun s _ => s.drainOne p) s

/-- The store buffer drains to its end before a reset, which is shown as it ends (R402). -/
def State.drainOut (s : State) (p : Nat) : State := (List.range 8).foldl (fun s _ => s.drainStore p) s

/-- A pair reset but for its tile's watchdog (R402). -/
def State.clearCore (s : State) (p : Nat) : State :=
  let b := pgCORE p
  let s := if s.halted p then s.monEvent 3 p 0 0 else s
  let s := (s.drainOut p).breakOwned (reqPair p) 1
  let s := s.setPair p {}
  let s := ((((s.setFlag b F.CORE_STAT_HALTED false).setFlag b F.CORE_STAT_STOPPED false).setFlag b F.CORE_STAT_WAITING
    false).setF b F.CORE_RLOG_LEVEL 0).setFlag b F.CORE_RLOG_REPLAY false
  let s := ((s.setFlag b F.CORE_DCTL_HALT_REQ false).clearBreaks p).wdRelease (p / 2)
  s.closeLocks (reqPair p)

/-- A pair reset (R402). -/
def State.resetPair (s : State) (p : Nat) : State := (s.clearCore p).wdDisable (p / 2)

/-- HOLD of a pair changes (R285): holding it resets it. -/
def State.holdPair (s : State) (p : Nat) (hold : Bool) : State :=
  let b := pgCORE p
  let s := if hold then s.resetPair p else s
  (s.setFlag b F.CORE_CTRL_HOLD hold).setFlag b F.CORE_STAT_HELD hold

end Sys2Proof.Machine
end

