-- ==== Sys2Proof/Machine/DbgRegs.lean ====
section
/-! DEFINITION. Machine/DbgRegs.lean: the system registers of a core pair by number (R273, R326, R471) and the registers that
a debugger reaches by index (R471). -/

namespace Sys2Proof.Machine

/-- Whether a number names a system register (R273, R326, R471). -/
def sysListed (n : Nat) : Bool :=
  n < 6 || (8 ≤ n && n < 0x0E) || (0x10 ≤ n && n < 0x15) || (0x20 ≤ n && n < 0x27) || (0x40 ≤ n && n < 0x46)

/-- The writable bits of a system register. -/
def sysMask (n : Nat) : Nat :=
  if n = 0x01 ∨ n = 0x05 ∨ n = 0x09 ∨ n = 0x0D ∨ n = 0x11 ∨ n = 0x13 ∨ n = 0x23 ∨ n = 0x26 ∨ n = 0x41 ∨ n = 0x45 then 0xFFFF
  else if n = 0x02 ∨ n = 0x0A ∨ n = 0x42 then 0x001F03FF
  else if n = 0x03 then 0x00FFFFFF
  else if n = 0x14 ∨ n = 0x24 then 0
  else if n = 0x20 then 1
  else if n = 0x21 then 0xFFF
  else if n = 0x22 ∨ n = 0x25 then 0xFFFFF000
  else if n = 0x43 then 0xFF
  else 0xFFFFFFFF

/-- What a read of system register `n` of pair `p` returns. -/
def Regs.sysRead (r : Regs) (p n : Nat) : Nat :=
  if n = 0x14 then p + 2 ^ 7 * (p % 2) + 2 ^ 8 * (p / 2) else if n = 0x24 then 0 else r.sysr n

/-- A write of system register `n`; reserved bits keep 0. -/
def Regs.sysWrite (r : Regs) (n v : Nat) : Regs := r.setSys n (v &&& sysMask n)

/-- Whether a debug index names a register (R471). -/
def dbgListed (i : Nat) : Bool :=
  i < 0x14 || (0x18 ≤ i && i < 0x27) || (0x100 ≤ i && sysListed (i - 0x100))

/-- The value at a debug index (R471). -/
def Regs.dbgRead (r : Regs) (p i : Nat) : Nat :=
  if i < 0x10 then r.g.getD i 0
  else if i < 0x14 then r.a.getD (i - 0x10) 0
  else if i < 0x20 then r.l.getD (i - 0x18) 0
  else if i = 0x20 then r.sys48 0x40
  else if i = 0x21 then r.sysr 0x42
  else if i = 0x22 then r.lc0
  else if i = 0x23 then r.lc1
  else if i = 0x24 then r.ls
  else if i = 0x25 then r.le
  else if i = 0x26 then r.prog
  else r.sysRead p (i - 0x100)

/-- The register at a debug index written (R471). -/
def Regs.dbgWrite (r : Regs) (i v : Nat) : Regs :=
  if i < 0x10 then { r with g := r.g.set i (v % 2 ^ 32) }
  else if i < 0x14 then { r with a := r.a.set (i - 0x10) (v % 2 ^ 72), am := r.am.set (i - 0x10) (v % 2 ^ 72) }
  else if i < 0x20 then { r with l := r.l.set (i - 0x18) (v % 2 ^ 32) }
  else if i = 0x20 then r.setSys48 0x40 (v % 2 ^ 48)
  else if i = 0x21 then r.sysWrite 0x42 v
  else if i = 0x22 then { r with lc0 := v % 2 ^ 32, lc0e := v % 2 ^ 32 }
  else if i = 0x23 then { r with lc1 := v % 2 ^ 32 }
  else if i = 0x24 then { r with ls := v % 2 ^ 48 }
  else if i = 0x25 then { r with le := v % 2 ^ 48 }
  else if i = 0x26 then { r with prog := v % 2 ^ 32 }
  else r.sysWrite (i - 0x100) v

/-- The results of a pair's long operations reach L (R267, R471: a read waits until the register is ready), and the checkpoint's L
where it found the operation pending (R254). -/
def PairSt.settleLongs (x : PairSt) : PairSt :=
  let put := fun (os : List LongOp) (l : List Nat) => os.foldl (fun l op => op.results.foldl (fun l e => l.set e.1 (e.2 % 2 ^ 32)) l) l
  { x with
    r := { x.r with l := put x.longs x.r.l }
    ck := { x.ck with l := put (x.longs.filter fun o => o.inCk) x.ck.l }
    longs := [] }

/-- The register that CORE_DSEL names, as CORE_DDATA shows it while the pair is halted (R471). -/
def State.dbgValue (s : State) (p : Nat) : Nat :=
  if s.halted p then (s.pair p).settleLongs.r.dbgRead p (s.getF (pgCORE p) F.CORE_DSEL_INDEX) else 0

/-- A register of a halted pair written by index: the cause it records, 0 for none (R471). -/
def State.dbgSet (s : State) (p i v : Nat) : State × Nat :=
  if !s.halted p then (s, 0x20)
  else if (i = 0x21 ∨ i = 0x142) ∧ 2 ≤ v % 4 then (s, causeBAD_VALUE)
  else
    let x := (s.pair p).settleLongs
    (s.setPair p { x with r := x.r.dbgWrite i v }, 0)

end Sys2Proof.Machine
end

