-- ==== Sys2Proof/Machine/GrpLink.lean ====
section
/-! DEFINITION. Machine/GrpLink.lean: the lanes of the group link: which one carries a frame, what leaves on it, and the SEQ streams
(R435, R436). -/

namespace Sys2Proof.Machine

def State.ownId (s : State) : Nat := s.getF pgGRPL F.GRP_CTRL_ID
def State.grpOn (s : State) : Bool := s.flag pgGRPL F.GRP_CTRL_EN
def State.grpState (s : State) : Nat := s.getF pgGRPL F.GRP_STAT_STATE
def State.peer (s : State) (k : Nat) : Peer := SMap.getD s.grp.peers k {}
def State.setPeer (s : State) (k : Nat) (p : Peer) : State := { s with grp.peers := SMap.put s.grp.peers k p }
def State.present (s : State) (k : Nat) : Bool := s.fbit pgGRPL F.GRP_STAT_PRESENT k

/-- Whether lane `k` can carry a frame to or from a peer (R435). -/
def State.laneUsed (s : State) (k : Nat) : Bool := s.grpOn && k != s.ownId

/-- Whether a frame of a lane's stream of its type is newer; its SEQ is taken then (R177, R436). The second part tells whether
SEQ numbers were skipped. -/
def State.grpTake (s : State) (k ty seq : Nat) : Option (State × Bool) :=
  if !s.laneUsed k then none
  else
    let p := s.peer k
    let last := SMap.get? p.seqs ty
    if newer last seq then
      let gap := match last with | some l => (l + 1) % 65536 != seq | none => false
      some (s.setPeer k { p with seqs := SMap.put p.seqs ty seq }, gap)
    else none

/-- The next frame of a stream with its content (R435): the SOF header of R174 names the source member in POS and leaves LEG, BCAST and
DIRN 0; HCRC, CRC-32 and the blocks are those of R172 to R175. How the content fills the data blocks is not stated. -/
def State.grpFrame (s : State) (k ty : Nat) (words : List Nat) : GFrame × State :=
  let key := 16 * k + ty
  let q := SMap.getD s.grp.txSeq key 0
  let d := s.draw 58
  let f : Frame := { ty := ty, pos := s.ownId, seq := q, blocks := (Config.grpBlocks ty words).take 15 }
  (⟨ty, s.ownId, q, words, f.sent 0 s.tick d.1⟩, { d.2 with grp.txSeq := SMap.put s.grp.txSeq key ((q + 1) % 65536) })

/-- Frames of one type leave on lane `k`, one for each content (R435, R436). -/
def State.grpSendList (s : State) (k ty : Nat) (contents : List (List Nat)) : State :=
  if !s.laneUsed k then s
  else
    let r := contents.foldl (fun (r : List GFrame × State) ws =>
      let x := r.2.grpFrame k ty ws
      (r.1 ++ [x.1], x.2)) ([], s)
    { r.2 with grp.sent := SMap.put r.2.grp.sent (16 * k + ty) r.1 }

/-- A frame leaves on lane `k`. -/
def State.grpSend (s : State) (k ty : Nat) (words : List Nat) : State := s.grpSendList k ty [words]

/-- A frame leaves on every lane. -/
def State.grpSendAll (s : State) (ty : Nat) (words : List Nat) : State := (List.range 8).foldl (fun s k => s.grpSend k ty words) s

end Sys2Proof.Machine
end

