-- ==== Sys2Proof/Machine/MemOps.lean ====
section
/-! DEFINITION. Machine/MemOps.lean: queues, the IOMMU, the commands and records of DMA channels, arbiters, scrubbing and
sparing (chapter 12). -/

namespace Sys2Proof.Machine

/-! ### Queues (R342 to R346) -/

/-- A queue as a reset of its page leaves it: CFG and BASE at the values the journal gave them (R16). -/
def State.queueL (s : State) (t q : Nat) : Queue := SMap.getD s.mm.queueL (2048 * t + q) {}

def State.queueOf (s : State) (t q : Nat) : Queue := SMap.getD s.mm.queues (2048 * t + q) (s.queueL t q)
def State.qreq (s : State) (t req : Nat) : QReq := SMap.getD s.mm.qreqs (1024 * t + req) {}
def State.setQreq (s : State) (t req : Nat) (x : QReq) : State := { s with mm.qreqs := SMap.put s.mm.qreqs (1024 * t + req) x }

def Queue.cap (q : Queue) : Nat := 2 ^ q.log2n
def Queue.free (q : Queue) : Nat := q.cap - q.level - q.rsvd
/-- Bytes of an entry (R342). -/
def Queue.ebytes (q : Queue) : Nat := 16 * 2 ^ q.esize

/-- Watches of a queue whose condition occurs (R346): code 1 NONEMPTY, 2 THRESH, 3 SPACE. -/
def State.watches (s : State) (t k : Nat) (old new : Queue) : State :=
  (List.range 32).foldl (fun s n =>
    let b := pgQMGR t 2
    let hit :=
      s.getF b (F.QM_WATCH_QUEUE n) == k &&
        (match s.getF b (F.QM_WATCH_COND n) with
         | 1 => old.level == 0 && new.level != 0
         | 2 => decide (old.level < s.getF b (F.QM_WATCH_THR n)) && decide (new.level ≥ s.getF b (F.QM_WATCH_THR n))
         | 3 => old.free == 0 && new.free != 0
         | _ => false)
    if hit then (s.produce (lathTile t) (656 + n) false).arrive (512 * t + 160 + n) else s) s

/-- A queue with new state; QM_NEMPTY and the watches follow. -/
def State.setQueue (s : State) (t k : Nat) (q : Queue) : State :=
  let old := s.queueOf t k
  let s := { s with mm.queues := SMap.put s.mm.queues (2048 * t + k) q }
  (s.setFbit (pgQMGR t 2) (F.QM_NEMPTY_V (k / 32)) (k % 32) (q.level != 0)).watches t k old q

/-- An entry is written at the tail, and the tail advances (R343). -/
def State.pushEntry (s : State) (t k : Nat) (bs : List Byte) (q : Queue) : State :=
  let at_ := q.base + (q.head + q.level) % q.cap * q.ebytes
  (s.writeMem at_ (bs.take q.ebytes)).setQueue t k { q with level := q.level + 1, pushed := (q.pushed + 1) % 2 ^ 64 }

/-- A write of QM_SEL (R342). -/
def State.queueSelect (s : State) (req t v : Nat) : State :=
  let k := bits v 0 11
  let q := s.queueOf t k
  s.setQreq t req { s.qreq t req with
    sel := k, level := q.level, free := q.free, rsvd := q.rsvd
    pushed := q.pushed, popped := q.popped, refused := q.refused }

/-- A REG item gives CFG and BASE of the queue that the keeper's QM_SEL names the values a reset returns them to (R16, R418).
What a page that is on holds stays. -/
def State.journalQueue (s : State) (addr value mask : Nat) : State :=
  match target s.phys addr with
  | .page p off =>
    if p.ty == .qmgr && p.inst == 0 && (off == 0x44 || off == 0x48 || off == 0x4C) then
      let t := p.owner
      let k := (s.qreq t reqKeeper).sel
      let l := s.queueL t k
      let q := if s.pageOn p then s.queueOf t k else l
      let s := if s.pageOn p then { s with mm.queues := SMap.put s.mm.queues (2048 * t + k) q } else s
      let new : Queue :=
        if off = 0x44 then
          let w := maskIn (q.en.toNat + 2 * q.log2n + 2 ^ 6 * q.esize) value mask
          { l with en := bit w 0, log2n := bits w 1 5, esize := bits w 6 2 }
        else if off = 0x48 then { l with base := setBits q.base 0 32 (maskIn (bits q.base 0 32) value mask) }
        else { l with base := setBits q.base 32 16 (maskIn (bits q.base 32 16) value mask) }
      { s with mm.queueL := SMap.put s.mm.queueL (2048 * t + k) new }
    else s
  | _ => s

/-- Whether a ring lies wholly within the cluster SRAM or HBM of a tile's cluster, aligned to its size (R342). -/
def ringOk (c base size : Nat) : Bool :=
  base % size == 0 &&
    ((decide (0x18000000 + 0x800000 * c ≤ base) && decide (base + size ≤ 0x18000000 + 0x800000 * (c + 1))) || inStack c base size)

/-- A write of QM_CFG: the cause it records (R342). -/
def State.queueConfig (s : State) (req t v : Nat) : State × Nat :=
  let k := (s.qreq t req).sel
  let q := s.queueOf t k
  let en := bit v 0
  let n := bits v 1 5
  let e := bits v 6 2
  if (1 ≤ n ∧ n ≤ 3) ∨ n > 20 ∨ e = 3 then (s, causeBAD_VALUE)
  else if q.en then
    if n ≠ q.log2n ∨ e ≠ q.esize ∨ (!en ∧ (q.level ≠ 0 ∨ q.rsvd ≠ 0)) then (s, 0x20) else (s.setQueue t k { q with en := en }, 0)
  else if (q.level ≠ 0 ∨ q.rsvd ≠ 0) ∧ (n ≠ q.log2n ∨ e ≠ q.esize) then (s, 0x20)
  else if en ∧ n = 0 then (s.setQueue t k { q with log2n := n, esize := e }, 0x21)
  else if en ∧ !ringOk (t / 10) q.base (2 ^ n * (16 * 2 ^ e)) then (s, causeBAD_VALUE)
  else (s.setQueue t k { q with en := en, log2n := n, esize := e, head := if q.level = 0 then 0 else q.head }, 0)

/-- A write of QM_BASE or of a half of it: the cause it records (R342). -/
def State.queueBase (s : State) (req t off size v : Nat) : State × Nat :=
  let k := (s.qreq t req).sel
  let q := s.queueOf t k
  let b := if size = 8 then v % 2 ^ 48 else if off = 0x48 then setBits q.base 0 32 v else setBits q.base 32 16 v
  if q.en then (s, 0x20) else (s.setQueue t k { q with base := b }, 0)

/-- A write of QM_PUSH (R343). -/
def State.queuePush (s : State) (req t v : Nat) : State :=
  let k := bits v 0 11
  let q := s.queueOf t k
  let r := s.qreq t req
  let refuse := fun (code : Nat) =>
    (s.setQueue t k { q with refused := (q.refused + 1) % 2 ^ 64 }).setQreq t req { r with result := code }
  if !q.en then refuse 3
  else if q.free = 0 then refuse 2
  else
    let bs := (List.range 16).flatMap fun i => toBytes (SMap.getD r.push i 0) 4
    (s.pushEntry t k bs q).setQreq t req { r with result := 1 }

/-- A read of QM_POP: the word and the state (R344). -/
def State.queuePop (s : State) (req t : Nat) : Nat × State :=
  let r := s.qreq t req
  let k := r.popsel
  let q := s.queueOf t k
  if !q.en ∨ q.level = 0 then (0, s)
  else
    let at_ := q.base + q.head % q.cap * q.ebytes
    let ue := s.ueIn at_ q.ebytes
    let s := if ue then s.countIn at_ q.ebytes else s
    let q' := { q with level := q.level - 1, head := (q.head + 1) % q.cap, popped := (q.popped + 1) % 2 ^ 64 }
    let s := s.setQueue t k q'
    let word := 1 + ue.toNat * 2 + 2 ^ 16 * min 65535 q'.level
    if ue then (word, s)
    else
      let m := (List.range (q.ebytes / 4)).foldl (fun m i => SMap.put m i (s.memRead (at_ + 4 * i) 4)) r.pop
      (word, s.setQreq t req { r with pop := m })

/-- The status that a pop would return (R344, R47). -/
def State.queuePeek (s : State) (req t : Nat) : Nat :=
  let q := s.queueOf t (s.qreq t req).popsel
  if !q.en ∨ q.level = 0 then 0
  else 1 + (s.ueIn (q.base + q.head % q.cap * q.ebytes) q.ebytes).toNat * 2 + 2 ^ 16 * min 65535 (q.level - 1)

/-- A word of a queue's state without majority: EN is cleared and QSTATE recorded (R376). -/
def State.queueScrub (s : State) (t k : Nat) (bad : Bool) : State :=
  if bad then
    (s.setQueue t k { s.queueOf t k with en := false }).recordErr (pgQMGR t 0) 0x22 ⟨reqKeeper, pgQMGR t 0 + 0x44, 4, false, 0⟩
  else s

/-! ### Credits of DMA channels (R338, R345) -/

/-- A credit moves from FREE to RSVD; the second part tells whether one was free. -/
def State.reserve (s : State) (t k : Nat) : State × Bool :=
  let q := s.queueOf t k
  if q.en ∧ q.free ≠ 0 then (s.setQueue t k { q with rsvd := q.rsvd + 1 }, true) else (s, false)

/-- A reserved credit returns to FREE. -/
def State.unreserve (s : State) (t k : Nat) : State :=
  let q := s.queueOf t k
  s.setQueue t k { q with rsvd := q.rsvd - 1 }

/-- A record is posted on a reserved credit; where the queue has been disabled the credit returns and the record stays in CH_STAT alone
(R338). -/
def State.postRecord (s : State) (t k : Nat) (bs : List Byte) : State :=
  let q := s.queueOf t k
  if q.en then s.pushEntry t k bs { q with rsvd := q.rsvd - 1 } else s.unreserve t k

/-! ### The IOMMU (R328, R329) -/

def State.io (s : State) (t : Nat) : IoSt := SMap.getD s.mm.io t {}
def State.setIo (s : State) (t : Nat) (x : IoSt) : State :=
  ({ s with mm.io := SMap.put s.mm.io t x }).setF (pgIOMMU t) F.IOMMU_PIN_USED x.pins.length

/-- Translation of a channel's address through its context (R325, R328, R329): physical page data or a TCAUSE with IO set.
A real-time channel uses pinned translations only (R337). -/
def State.ioTranslate (s : State) (t ctx va kind : Nat) (rt : Bool) : State × (Nat ⊕ PageTr) :=
  let b := pgIOMMU t
  if !s.flag b (F.IOCTX_CTL_EN ctx) then (s, .inr ⟨va / 2 ^ 12, 12, va / 2 ^ 12⟩)
  else
    let asid := s.getF b (F.IOCTX_CTL_ASID ctx)
    let user := s.flag b (F.IOCTX_CTL_USER ctx)
    let x := s.io t
    let r : State × (Nat ⊕ TlbE) := match tlbFind (x.pins.map (·.leaf)) asid va with
      | some e => (s, .inr e)
      | none =>
        if rt then (s, .inl 1)
        else match tlbFind x.tlb asid va with
          | some e => (s.setIo t { x with tlb := tlbUse x.tlb e 256 }, .inr e)
          | none =>
            let w := s.walk asid va 4 0 (2 ^ 12 * s.getF b (F.IOCTX_ROOT_ROOT ctx))
            match w with
            | .leaf e => (s.setIo t { x with tlb := tlbUse x.tlb e 256 }, .inr e)
            | .fault k l _ => (s.walked (reqDma t) (t / 10) w, .inl (k + 16 * l))
            | .waits => (s, .inl 0)
    match r with
    | (s, .inl c) => (s, .inl (c + 64))
    | (s, .inr e) =>
      let k := permFault e.leaf kind user user
      if k = 0 then (s, .inr ⟨va / 2 ^ e.bits, e.bits, e.phys va / 2 ^ e.bits⟩) else (s, .inl (k + 48 + 64))

/-- Whether the translation of a channel's address waits for a frozen memory's tables (R321). -/
def State.ioWaits (s : State) (t ctx va : Nat) (rt : Bool) : Bool :=
  let b := pgIOMMU t
  let asid := s.getF b (F.IOCTX_CTL_ASID ctx)
  let x := s.io t
  s.flag b (F.IOCTX_CTL_EN ctx) && !rt && (tlbFind (x.pins.map (·.leaf)) asid va).isNone && (tlbFind x.tlb asid va).isNone &&
    (match s.walk asid va 4 0 (2 ^ 12 * s.getF b (F.IOCTX_ROOT_ROOT ctx)) with
      | .waits => true
      | _ => false)

/-- IOMMU_TLBI (R328, R329). -/
def State.ioTlbi (s : State) (t v va : Nat) : State :=
  let x := s.io t
  let hit := tlbHit (bits v 0 2) (bits v 16 12) va
  let n := (x.pins.filter fun p => hit p.leaf).length
  (s.setIo t { x with tlb := x.tlb.filter fun e => !hit e }).satF (pgIOMMU t) F.IOMMU_PIN_PIN_HIT n

/-- One use of a page is pinned for a channel (R329, R337): none when the pin store is full. -/
def pinUse (pins : List PinLeaf) (e : TlbE) (n : Nat) : Option (List PinLeaf) :=
  if pins.any fun p => p.leaf == e then some (pins.map fun p => if p.leaf = e then { p with users := n :: p.users } else p)
  else if pins.length < 64 then some (pins ++ [⟨e, [n]⟩]) else none

/-- A channel's pins are released (R329, R331). -/
def State.unpin (s : State) (t n : Nat) : State :=
  let x := s.io t
  s.setIo t { x with pins := (x.pins.map fun p => { p with users := p.users.filter (· ≠ n) }).filter fun p => !p.users.isEmpty }

/-- The pages of a range are walked and pinned (R337): the state that its walks leave, the pins, and 0, ARM_WALK or PIN_FULL; 15 where a
walk waits for a frozen memory (R321). -/
def State.pinRange (s : State) (t ctx kind n last : Nat) : Nat → Nat → List PinLeaf → State × List PinLeaf × Nat
  | 0, _, pins => (s, pins, 8)
  | fuel + 1, va, pins =>
    if va > last then (s, pins, 0)
    else
      let b := pgIOMMU t
      let asid := s.getF b (F.IOCTX_CTL_ASID ctx)
      let user := s.flag b (F.IOCTX_CTL_USER ctx)
      let w := s.walk asid va 4 0 (2 ^ 12 * s.getF b (F.IOCTX_ROOT_ROOT ctx))
      match w with
      | .waits => (s, pins, 15)
      | .fault _ _ _ => (s.walked (reqDma t) (t / 10) w, pins, 7)
      | .leaf e =>
        if permFault e.leaf kind user user ≠ 0 then (s, pins, 7)
        else match pinUse pins e n with
          | none => (s, pins, 8)
          | some pins => State.pinRange s t ctx kind n last fuel (2 ^ e.bits * (e.vpn + 1)) pins

/-! ### DMA channels (R330 to R341) -/

def State.chan (s : State) (t n : Nat) : DmaCh := SMap.getD s.mm.chans (32 * t + n) {}
def State.setChan (s : State) (t n : Nat) (x : DmaCh) : State := { s with mm.chans := SMap.put s.mm.chans (32 * t + n) x }

def State.chState (s : State) (t n : Nat) : Nat := s.getF (pgDMAC t n) (F.CH_STAT_STATE (n % 8))
def State.setChState (s : State) (t n v : Nat) : State := s.setF (pgDMAC t n) (F.CH_STAT_STATE (n % 8)) v
def State.chRT (s : State) (t n : Nat) : Bool := s.flag (pgDMAC t n) (F.CH_CTRL_RT (n % 8))

/-- The tile's completion and fault queues, while the page names them and they are enabled themselves (R338). -/
def State.dmaQ (s : State) (t : Nat) (fault : Bool) : Option Nat :=
  let b := pgDMAC t 0
  let k := s.getF b (if fault then F.DMAC_FQ_QUEUE else F.DMAC_CQ_QUEUE)
  if s.flag b (if fault then F.DMAC_FQ_EN else F.DMAC_CQ_EN) && (s.queueOf t k).en then some k else none

/-- The 32 bytes of a record (R340). -/
def dmaRecord (kind n tag len resid cause addr tick : Nat) : List Byte :=
  toBytes (kind + 2 ^ 8 * n + 2 ^ 16 * tag) 4 ++ toBytes len 4 ++ toBytes resid 4 ++ toBytes cause 4 ++ toBytes addr 8 ++
    toBytes tick 8

/-- A record goes on the fault or the completion credit, if it is held. -/
def State.chRecord (s : State) (t n : Nat) (fault : Bool) (bs : List Byte) : State :=
  let x := s.chan t n
  match if fault then x.fq else x.cq with
  | none => s
  | some k => (s.setChan t n (if fault then { x with fq := none } else { x with cq := none })).postRecord t k bs

/-- A credit that a channel holds returns. -/
def State.unreserveOf (s : State) (t : Nat) : Option Nat → State
  | some k => s.unreserve t k
  | none => s

/-- Credits that a channel still holds return. -/
def State.chReturn (s : State) (t n : Nat) : State :=
  let x := s.chan t n
  let s := (s.unreserveOf t x.fq).unreserveOf t x.cq
  s.setChan t n { s.chan t n with fq := none, cq := none }

/-- A channel's end pulse (R341 registers). -/
def State.chPulse (s : State) (t n : Nat) : State := s.pulse (pgDMAC t n) (n % 8)

/-- RESID joins RESLEFT (R334). -/
def State.chResidual (s : State) (t n : Nat) : State :=
  let b := pgDMAC t n
  let m := n % 8
  (s.incF b (F.CH_RESLEFT_RESLEFT m) (s.getF b (F.CH_RESID_RESID m))).setF b (F.CH_RESID_RESID m) 0

/-- What a channel without a descriptor records of one. -/
def Desc.blank : Desc := ⟨0, false, false, false, false, false, true, 0, 0, 0, 0, 0⟩

/-- A descriptor ends: 1 DONE, 3 ERROR with its code, 4 ABORTED (R331, R334, R336, R338, R340). Each end with EVT fires the channel's
producer, and each end with IRQ, as each error, sends its arrival (R350). -/
def State.chEnd (s : State) (t n kind cause : Nat) : State :=
  let b := pgDMAC t n
  let m := n % 8
  let x := s.chan t n
  let d := x.desc.getD .blank
  let rec_ := dmaRecord kind n d.tag d.len (s.getF b (F.CH_RESID_RESID m)) (if kind = 3 then cause else 0)
    (if kind = 3 then s.getF b (F.CH_SRC_SRC m) else 0) s.count
  let s := if kind = 3 then s.chRecord t n true rec_ else if d.crec then s.chRecord t n false rec_ else s
  let s := if kind = 1 then s else s.chResidual t n
  let s := (((s.chReturn t n).setF b (F.CH_STAT_LAST_KIND m) kind).setF b (F.CH_STAT_CAUSE m) cause).chPulse t n
  let rt := s.chRT t n
  let s := s.setChan t n { s.chan t n with
    desc := none, burst := none, carry := [], srcPg := none, dstPg := none, abort := false, toStart := none }
  let s := if d.evt then s.produce (lathTile t) (592 + n) false else s
  let s := if d.irq ∨ kind = 3 then s.arrive (512 * t + 128 + n) else s
  match kind with
  | 1 =>
    let s := s.satF b (F.CH_CNT_DONE m)
    if rt then s.setChState t n 5
    else if d.last then s.setChState t n 0
    else ((s.setF b (F.CH_DESC_DESC m) d.next).setChan t n { s.chan t n with toStart := some d.next }).setChState t n 2
  | 3 => (s.satF b (F.CH_CNT_ERRORS m)).setChState t n 4
  | _ => s.setChState t n (if rt then 5 else 0)

/-- A translation fault stops the channel (R335). -/
def State.chFault (s : State) (t n cause addr : Nat) : State :=
  let b := pgDMAC t n
  let m := n % 8
  let x := s.chan t n
  let d := x.desc.getD .blank
  let s := s.chRecord t n true (dmaRecord 2 n d.tag d.len (s.getF b (F.CH_RESID_RESID m)) cause addr s.count)
  let s := s.setChan t n { s.chan t n with carry := [], srcPg := none, dstPg := none }
  (((((s.setF b (F.CH_STAT_CAUSE m) cause).satF b (F.CH_CNT_FAULTS m)).chPulse t n).arrive (512 * t + 128 + n)).setChState t n 3)

/-- The descriptor in 32 bytes, or the error that keeps it from starting (R332). -/
def parseDesc (bs : List Byte) : Desc × Bool :=
  let w0 := bytesLE bs 0 4
  let src := bytesLE bs 8 8
  let dst := bytesLE bs 16 8
  let next := bytesLE bs 24 8
  let d : Desc := ⟨bits w0 0 2, bit w0 2, bit w0 3, bit w0 4, bit w0 5, bit w0 6, bit w0 7, bits w0 16 16, bytesLE bs 4 4,
    bits src 0 48, bits dst 0 48, bits next 0 48⟩
  (d, decide (d.op < 2) && bits w0 8 8 == 0 && src / 2 ^ 48 == 0 && dst / 2 ^ 48 == 0 && next / 2 ^ 48 == 0 &&
    (d.op == 0 || src / 2 ^ 32 == 0))

/-- Whether a descriptor may lie at an address (R332). -/
def State.descAt (s : State) (a : Nat) : Bool := a % 32 == 0 && isMemory a && decide (a < 0x1A000000) && s.memOn a

/-- A descriptor starts with its credits held (R332, R334, R339). -/
def State.chStart (s : State) (t n : Nat) (d : Desc) : State :=
  let b := pgDMAC t n
  let m := n % 8
  let s := ((((s.incF b (F.CH_REQ_REQ m) d.len).setF b (F.CH_RESID_RESID m) d.len).setF b (F.CH_SRC_SRC m) d.src).setF b
    (F.CH_DST_DST m) d.dst).setF b (F.CH_STAT_CAUSE m) 0
  let s := (s.setChan t n { s.chan t n with desc := some d, carry := [], toStart := none }).setChState t n 1
  let s := if s.chRT t n then
      s.setF b (F.CH_STAT_RT_NEXT m) ((s.getF b (F.CH_STAT_RT_NEXT m) + 1) % (s.getF b (F.CH_CTRL_RT_COUNT m) + 1))
    else s
  if d.len = 0 then s.chEnd t n 1 0 else s

/-- Whether a halt keeps a DMAC page from new starts and bursts (R341). -/
def State.dmaHeld (s : State) (t n : Nat) : Bool := s.pageHeld (pgDMAC t n)

/-- START of a channel: the cause it records (R331, R341). -/
def State.dmaStart (s : State) (t n : Nat) : State × Nat :=
  let st := s.chState t n
  let rt := s.chRT t n
  if s.dmaHeld t n ∨ !((st = 0 ∧ !rt) ∨ st = 5) then (s, 0x20)
  else
    ((s.setChan t n { s.chan t n with toStart := some (s.getF (pgDMAC t n) (F.CH_DESC_DESC (n % 8))) }).setChState t n 2, 0)

/-- ABORT (R331). -/
def State.dmaAbort (s : State) (t n : Nat) : State × Nat :=
  let x := s.chan t n
  match s.chState t n with
  | 1 => if x.burst.isSome then (s.setChan t n { x with abort := true }, 0) else (s.chEnd t n 4 0, 0)
  | 2 => if x.desc.isSome then (s.chEnd t n 4 0, 0) else
      ((s.setChan t n { x with toStart := none }).chEnd t n 4 0, 0)
  | 3 => (s.chEnd t n 4 0, 0)
  | 4 => (s.setChState t n (if s.chRT t n then 5 else 0), 0)
  | _ => (s, 0)

/-- A failed ARM (R337). -/
def State.armFail (s : State) (t n code : Nat) : State :=
  let s := if code = 8 then s.satF (pgIOMMU t) F.IOMMU_PIN_PIN_FULL else s
  ((s.setF (pgDMAC t n) (F.CH_STAT_CAUSE (n % 8)) code).chPulse t n).arrive (512 * t + 128 + n)

/-- The pages that a channel's descriptors read and write are walked and pinned through its context (R337): the state, the pin store with
them, and 0, ARM_WALK or PIN_FULL. -/
def State.armPins (s : State) (t n ctx : Nat) (ds : List Desc) : State × List PinLeaf × Nat :=
  let en := s.flag (pgIOMMU t) (F.IOCTX_CTL_EN ctx)
  let span := fun (d : Desc) (fix : Bool) => if fix then 4 else d.len
  ds.foldl (fun (r : State × List PinLeaf × Nat) d =>
    if r.2.2 ≠ 0 ∨ !en ∨ d.len = 0 then r
    else
      let r := if d.op = 0 then r.1.pinRange t ctx 1 n (d.src + span d d.srcFix - 1) 66 d.src r.2.1 else (r.1, r.2.1, 0)
      if r.2.2 ≠ 0 then r else r.1.pinRange t ctx 2 n (d.dst + span d d.dstFix - 1) 66 d.dst r.2.1) (s, (s.io t).pins, 0)

/-- An ARM that finds no frozen memory in its way (R337). -/
def State.armNow (s : State) (t n : Nat) : State :=
  let b := pgDMAC t n
  let m := n % 8
  let a := s.getF b (F.CH_DESC_DESC m)
  let k := s.getF b (F.CH_CTRL_RT_COUNT m) + 1
  let at_ := (List.range k).map fun i => a + 32 * i
  let ds := at_.map fun a => parseDesc (Memory.readN s.mem a 32)
  if !(at_.all fun a => s.descAt a) then s.armFail t n 3
  else match at_.find? fun a => s.ueIn a 32 with
    | some a => (s.countIn a 32).armFail t n 3
    | none =>
      if ds.any fun d => !d.2 then s.armFail t n 3
      else
        let go := s.armPins t n (s.getF b (F.CH_CTRL_CTX m)) (ds.map (·.1))
        if go.2.2 = 15 then s.setChan t n { s.chan t n with arming := true }
        else if go.2.2 ≠ 0 then go.1.armFail t n go.2.2
        else
          (((go.1.setIo t { go.1.io t with pins := go.2.1 }).setChan t n { go.1.chan t n with ring := ds.map (·.1) }).setF b
            (F.CH_STAT_RT_NEXT m) 0).setChState t n 5

/-- An ARM that reads its descriptors (R337), or waits for their memory (R321). -/
def State.arm (s : State) (t n : Nat) : State :=
  if s.memFrozen (s.getF (pgDMAC t n) (F.CH_DESC_DESC (n % 8))) then s.setChan t n { s.chan t n with arming := true }
  else (s.setChan t n { s.chan t n with arming := false }).armNow t n

/-- ARM (R337). -/
def State.dmaArm (s : State) (t n : Nat) : State × Nat :=
  if s.chState t n ≠ 0 ∨ !s.chRT t n then (s, 0x20) else (s.arm t n, 0)

/-- A descriptor that never starts: an error ends it, without its event (R332). -/
def State.chReject (s : State) (t n code : Nat) (d : Desc) : State :=
  (s.setChan t n { s.chan t n with desc := some { d with evt := false, irq := false } }).chEnd t n 3 code

/-- A descriptor that could not be read is rejected: its TAG and LEN are free values, since the spec does not state what the record
holds. -/
def State.chUnread (s : State) (t n code : Nat) : State :=
  let u := s.draw 16
  let v := u.2.draw 32
  v.2.chReject t n code { Desc.blank with tag := u.1, len := v.1 }

/-- The fault credit of a channel whose fault queue is enabled; the second part tells whether the channel has what it needs (R338). -/
def State.faultCredit (s : State) (t n : Nat) : State × Bool :=
  let x := s.chan t n
  match s.dmaQ t true with
  | none => (s, true)
  | some k =>
    if x.fq.isSome then (s, true)
    else
      let r := s.reserve t k
      if r.2 then (r.1.setChan t n { x with fq := some k }, true) else (s, false)

/-- A descriptor that has been read starts, once its completion credit is held (R332, R338). -/
def State.descriptorRead (s : State) (t n : Nat) (d : Desc) : State :=
  let x := s.chan t n
  match s.dmaQ t false with
  | none => s.chStart t n d
  | some k =>
    if d.crec ∧ x.cq.isNone then
      let r := s.reserve t k
      if r.2 then (r.1.setChan t n { x with cq := some k }).chStart t n d else s
    else s.chStart t n d

/-- A channel that waits reserves its credits, reads its descriptor and starts it (R332, R338); it waits for a frozen memory (R321). An
ARM that waited for one goes on. -/
def State.descriptorStart (s : State) (t n : Nat) : State :=
  if (s.chan t n).arming then s.arm t n
  else if s.chState t n ≠ 2 ∨ (s.chan t n).abort then s
  else
    let q := s.faultCredit t n
    let s := q.1
    let x := s.chan t n
    if !q.2 then s
    else match x.toStart with
      | none => s.setChState t n 1
      | some a =>
        if s.chRT t n then s.descriptorRead t n (x.ring.getD (s.getF (pgDMAC t n) (F.CH_STAT_RT_NEXT (n % 8))) .blank)
        else if !s.descAt a then s.chUnread t n 1
        else if s.memFrozen a then s
        else if s.ueIn a 32 then (s.countIn a 32).chUnread t n 2
        else
          let d := parseDesc (Memory.readN s.mem a 32)
          if d.2 then s.descriptorRead t n d.1 else s.chReject t n 3 d.1

/-- RESUME (R335). -/
def State.dmaResume (s : State) (t n : Nat) : State × Nat :=
  if s.chState t n ≠ 3 then (s, 0x20)
  else ((s.setChan t n { s.chan t n with toStart := none }).setChState t n 2).descriptorStart t n |> fun s => (s, 0)

/-- DISARM (R331). -/
def State.dmaDisarm (s : State) (t n : Nat) : State × Nat :=
  match s.chState t n with
  | 0 => (s, 0)
  | 4 => ((s.unpin t n).setChState t n 0, 0)
  | 5 => ((s.unpin t n).setChState t n 0, 0)
  | _ => (s, 0x20)

/-- A write of CH_CMD: the cause it records (R331). -/
def State.dmaCommand (s : State) (t n v : Nat) : State × Nat :=
  match bits v 0 3 with
  | 1 => s.dmaStart t n
  | 2 => s.dmaResume t n
  | 3 => s.dmaAbort t n
  | 4 => s.dmaArm t n
  | 5 => s.dmaDisarm t n
  | _ => (s, causeBAD_VALUE)

/-- At a move, channels that are busy end ABORTED with MOVED, and real-time rings are given up (R361). -/
def State.dmaMoved (s : State) (t : Nat) : State :=
  (List.range 32).foldl (fun s n =>
    match s.chState t n with
    | 0 => s
    | 5 => ((s.unpin t n).setChState t n 0).setF (pgDMAC t n) (F.CH_STAT_CAUSE (n % 8)) 9
    | _ => (((s.chEnd t n 4 9).unpin t n).setChState t n 0)) s

/-! ### Arbiters (R319 to R322) -/

/-- An arbiter: the page of its settings, its bank there, its requesters, its island, and the cycles from one grant of its emergency
requester to the next (R319). A register bus has no settings, and its requesters are those of R53. -/
structure Arb where
  base : Nat
  bank : Nat
  n : Nat
  isle : Nat
  gap : Nat
  bus : Bool := false
deriving DecidableEq, Repr

/-- The arbiter of a request: kind 0 tile SRAM, 1 cluster SRAM, 2 HBM of unit `unit`, by the offset that it asks for (R313), or 3 the
register bus of a tile (units 0 to 39), of a cluster (40 to 43) or of the device (44). Refresh, which may take 5 % of a
pseudo-channel's time, may take one cycle in 20. -/
def arbOf (kind unit ofs : Nat) : Arb :=
  let c := unit % 4
  match kind with
  | 0 => ⟨pgTSRAM unit, bankOf 0 ofs, 7, 2 * unit, 256, false⟩
  | 1 => ⟨pgCSRAM c, bankOf 1 ofs, 13, 81 + 8 * c, 256, false⟩
  | 2 => ⟨pgHBMC c 0, bankOf 2 ofs, 14, 84 + 8 * c, 20, false⟩
  | _ =>
    if unit < 40 then ⟨pgTILE unit, 0, 512, 2 * unit, 16, true⟩
    else if unit < 44 then ⟨pgCLU (unit - 40), 0, 512, 80 + 8 * (unit - 40), 16, true⟩
    else ⟨pgDEV, 0, 512, 116, 16, true⟩

/-- The number of an arbiter. -/
def Arb.key (x : Arb) : Nat := 64 * x.base + x.bank

/-- PRI of requester `k`. -/
def State.arbPri (s : State) (x : Arb) (k : Nat) : Nat :=
  if x.bus then 0
  else
    let dflt := if x.n = 7 then [4, 4, 4, 4, 3, 2, 5].getD k 0
      else if x.n = 13 then [3, 3, 3, 3, 3, 3, 3, 3, 3, 3, 3, 2, 2].getD k 0
      else [3, 3, 3, 3, 3, 3, 3, 3, 3, 3, 4, 4, 2, 2].getD k 0
    s.getF x.base ⟨0x100 + 4 * (k / 8), 4 * (k % 8), 3, .rw, dflt, true⟩

/-- The requesters whose access was revoked: it stays at the head (R320). -/
def State.arbHeads (s : State) (x : Arb) : List Nat := SMap.getD s.mm.arbHead x.key []

/-- The requesters in the order in which an arbiter prefers them at equal priority: those revoked, then in rotation from the last one
granted. -/
def State.arbOrder (s : State) (x : Arb) : List Nat :=
  let last := SMap.getD s.mm.arbLast x.key (x.n - 1)
  s.arbHeads x ++ ((List.range x.n).map fun i => (last + 1 + i) % x.n).filter fun k => !(s.arbHeads x).contains k

/-- The requester that an arbiter grants among those that ask and those revoked (R222, R319, R320). Between the forecast fetch and
the recorder of an HBM arbiter R222 decides in place of rotation. -/
def State.arbPick (s : State) (x : Arb) (reqs : Nat) : Option Nat :=
  let asks := fun (k : Nat) => bit reqs k || (s.arbHeads x).contains k
  let klogFirst := decide (1024 ≤ (s.kl ((x.base - 0x01000000) / 0x01000000)).buf.length)
  let best := (s.arbOrder x).foldl (fun (b : Option Nat) k =>
    if !asks k then b
    else match b with
      | none => some k
      | some j => if s.arbPri x k > s.arbPri x j then some k else b) none
  best.map fun k =>
    let j := if x.n = 14 ∧ (k = 10 ∨ k = 11) ∧ !(s.arbHeads x).contains k then (if klogFirst then 11 else 10) else k
    if asks j && s.arbPri x j == s.arbPri x k then j else k

/-- Whether the emergency requester may take the resource: it did not within its last cycles (R319). -/
def State.emergencyDue (s : State) (x : Arb) : Bool :=
  match SMap.get? s.mm.arbEmer x.key with
  | none => true
  | some u => decide (x.gap ≤ (s.tick - u) * (islandRate x.isle).1 / (islandRate x.isle).2)

/-- The emergency requester takes the resource; an access just granted is revoked and stays at the head (R320). -/
def State.revoke (s : State) (x : Arb) (k : Option Nat) : State :=
  let s := { s with mm.arbEmer := SMap.put s.mm.arbEmer x.key s.tick }
  match k with
  | none => s
  | some k =>
    let s := { s with mm.arbHead := SMap.put s.mm.arbHead x.key (k :: (s.arbHeads x).filter (· ≠ k)) }
    if x.bus then s else s.satF x.base F.TSRAM_ARB_STAT_REVOKES

/-- An arbiter grants a requester. -/
def State.grant (s : State) (x : Arb) (k : Nat) : State :=
  { s with
    mm.arbLast := SMap.put s.mm.arbLast x.key k
    mm.arbHead := SMap.put s.mm.arbHead x.key ((s.arbHeads x).filter (· ≠ k)) }

/-- One decision of an arbiter (R319 to R321): while it is frozen it grants its emergency requester alone. -/
def State.arbitrate (s : State) (x : Arb) (reqs : Nat) (emergency : Bool) : State :=
  let frozen := !x.bus && s.flag x.base F.TSRAM_ARB_FRZ_FREEZE
  let k := if frozen then none else s.arbPick x reqs
  if emergency && s.emergencyDue x then s.revoke x k
  else match k with
    | none => s
    | some k => s.grant x k

/-! ### Scrubbing, sparing and retirement (R313 to R318) -/

/-- Sparing of a pseudo-channel starts (R317); the second part tells whether it could. -/
def State.spareStart (s : State) (c pc : Nat) : State × Bool :=
  let b := pgHBMC c 0
  if s.flag b F.HBM_SPARE_VALID ∨ s.flag b F.HBM_SPARE_COPYING then (s, false)
  else ((s.setF b F.HBM_SPARE_PC pc).setFlag b F.HBM_SPARE_COPYING true, true)

/-- The copy ends (R317). -/
def State.spareDone (s : State) (c : Nat) : State :=
  let b := pgHBMC c 0
  if s.flag b F.HBM_SPARE_COPYING then (s.setFlag b F.HBM_SPARE_COPYING false).setFlag b F.HBM_SPARE_VALID true else s

/-- The word at `a` is uncorrectable from now on. -/
def State.spoil (s : State) (w : Nat) : State := { s with mm.ue := if s.mm.ue.contains w then s.mm.ue else w :: s.mm.ue }

/-- A corrected error of an HBM word is counted against what serves it and against its row, which may call for the spare or for the
row's retirement (R317, R318). -/
def State.hbmCorrected (s : State) (a : Nat) : State :=
  let c := hbmStack a
  let b := pgHBMC c 0
  let pc := s.servedPc a
  let n := SMap.getD s.mm.passCe (64 * c + pc) 0 + 1
  let m := SMap.getD s.mm.rowCe (s.hbmRowKey a) 0 + 1
  let s := (s.satF b F.HBM_ECC_CORRECTED).satF (pgHBMC c 1) (F.HBM_PC_CE pc)
  let s := { s with mm.passCe := SMap.put s.mm.passCe (64 * c + pc) n, mm.rowCe := SMap.put s.mm.rowCe (s.hbmRowKey a) m }
  let s := if pc < 32 ∧ n > s.getF b F.HBM_SPARE_THR_SPARE_THR then (s.spareStart c pc).1 else s
  if m = s.getF b F.HBM_RETIRE_RET_THR then s.retireDue a else s

/-- A step of a scrubber at word `a` (R313, R314, R317, R318): 0 the pass ends, 1 a single-bit error is corrected, 2 an
uncorrectable word is found. -/
def State.scrub (s : State) (a kind : Nat) : State :=
  let w := a / 8 * 8
  if !isMemory a then s
  else match kind with
    | 0 =>
      if a < 0x1A000000 then s.incF (eccPage a) F.TSRAM_SCRUB_PASSES
      else
        let c := hbmStack a
        ({ s with
          mm.passCe := s.mm.passCe.filter fun kv => kv.1 / 64 != c
          mm.rowCe := s.mm.rowCe.filter fun kv => kv.1 % 4 != c }).incF (eccPage a) F.HBM_SCRUB_PASSES
    | 1 => if a < 0x1A000000 then s.satF (eccPage a) F.TSRAM_ECC_CORRECTED else s.hbmCorrected a
    | _ => (s.spoil w).countUE w

end Sys2Proof.Machine
end

