-- ==== Sys2Proof/Machine/DepOps.lean ====
section
/-! DEFINITION. Machine/DepOps.lean: takeover, the roles of tiles, and refiring (chapter 13). -/

namespace Sys2Proof.Machine

/-! ### The mirror (R356, R359) -/

/-- Page numbers of the pages that a mirror holds whole: INTC, TLATH, CSTO, LPRG, TIMR, PWMG, DMAC and QMGR (R359, R361). -/
def mirrorSlots : List Nat :=
  [0x01, 0x02, 0x03, 0x04, 0x06, 0x10] ++ (List.range 16).map (0x20 + ·) ++ (List.range 4).map (0x40 + ·) ++
    (List.range 8).map (0x50 + ·)

/-- Registers of one page of tile `a` copied to tile `b`, with the values that the journal gave them, which it names by the
logical tile (R16, R418). -/
def State.copyPage (s : State) (a b slot : Nat) : State :=
  { s with
    regs := SMap.copyBlock s.regs (0x1000 * 64) (tileBase a slot / 0x1000) (tileBase b slot / 0x1000)
    journal := SMap.copyBlock s.journal (0x1000 * 64) (tileBase a slot / 0x1000) (tileBase b slot / 0x1000) }

/-- An access that a tile had accepted ends without effect: a bus error, and MOVED in the tile's page (R24). -/
def State.endAccess (s : State) (base req addr size data : Nat) : State :=
  (s.recordErr base causeMOVED ⟨req, addr, size, true, data⟩).respond req true 0

/-- The accesses that a physical tile accepted and has not applied end at its move: core writes that wait for the stage, and
held step writes (R24). -/
def State.endMoved (s : State) (t : Nat) : State :=
  let st := s.stageOf t
  let hs := s.loop.heldSteps.filter fun h => h.tile == t
  let s := (s.setStage t { st with waiting := [] })
  let s := { s with loop.heldSteps := s.loop.heldSteps.filter fun h => h.tile != t }
  let s := st.waiting.foldl (fun s c => s.endAccess (pgCSTO t) c.req c.addr c.size c.data) s
  hs.foldl (fun s h => s.endAccess (pgLPRG t) h.req h.addr h.size h.data) s

/-- Contexts, boundary staging and generators come from the mirror (R359, R368). -/
def State.loadControl (s : State) (a b : Nat) : State :=
  let s := (List.range 16).foldl (fun s j => s.copyPage a b (0x20 + j)) (s.copyPage a b 0x04)
  { s with
    loop := { s.loop with
      ctx := SMap.copyBlock s.loop.ctx 32768 a b
      stage := SMap.copyBlock s.loop.stage 1 a b }
    edge := { s.edge with gens := SMap.copyBlock s.edge.gens 256 a b } }

/-- A new tile takes the old tile's EN, TIMEOUT, WINDOW, STAGE2 and NEXT_KEY (R76), and the values that the journal gave the
logical tile's watchdog (R16). -/
def State.loadWdog (s : State) (a b : Nat) : State :=
  let s := [F.WDOG_CTRL_EN, F.WDOG_TIMEOUT_TIMEOUT, F.WDOG_WINDOW_WINDOW, F.WDOG_STAGE2_STAGE2, F.WDOG_STAT_NEXT_KEY].foldl
    (fun s f => s.setF (pgWDOG b) f (s.getF (pgWDOG a) f)) s
  { s with journal := SMap.copyBlock s.journal (0x1000 * 64) (pgWDOG a / 0x1000) (pgWDOG b / 0x1000) }

/-- Programs, lath, interrupt controller, timers, watchdog, queues and channels come from the mirror (R70, R76, R237, R251,
R359, R361). The values that the settings journal gave under the logical tile's alias to L fields of pages that no mirror carries, LENG's
ABANDON or BLK_EN of EDGE among them, stay with the old tile: R16 does not say (DESIGN CHOICE, log 39). -/
def State.loadRest (s : State) (a b : Nat) : State :=
  let s := (mirrorSlots.foldl (fun s k => if 0x20 ≤ k ∧ k ≤ 0x2F ∨ k = 0x04 then s else s.copyPage a b k) s).loadWdog a b
  { s with
    loop := { s.loop with
      pend := SMap.copyBlock s.loop.pend 2048 a b }
    time := { s.time with timers := SMap.copyBlock s.time.timers 16 a b }
    lath := { s.lath with
      laths := SMap.copyBlock s.lath.laths 1 a b
      int := { s.lath.int with
        wakeBuf := SMap.copyBlock s.lath.int.wakeBuf 1 a b
        wakeWait := SMap.copyBlock s.lath.int.wakeWait 1 a b
        holdEnd := SMap.copyBlock s.lath.int.holdEnd 8 a b } }
    mm := { s.mm with
      queues := SMap.copyBlock s.mm.queues 2048 a b
      queueL := SMap.copyBlock s.mm.queueL 2048 a b
      qreqs := SMap.copyBlock s.mm.qreqs 1024 a b
      chans := SMap.copyBlock s.mm.chans 32 a b } }

/-- The program store comes from the mirror. -/
def State.loadProgram (s : State) (a b : Nat) : State :=
  { s with loop := { s.loop with
      prog := SMap.copyBlock s.loop.prog 4096 a b
      progBad := SMap.copyBlock s.loop.progBad 4096 a b } }

/-- Runs in progress on a tile are lost; their triggers are pending (R359 rule 3, R369). -/
def State.dropRuns (s : State) (t : Nat) : State :=
  let rs := ((s.loop.runs ++ s.loop.commits).filter fun kv => kv.1 / 16 == t).flatMap (·.2)
  let s := { s with loop := { s.loop with
      runs := SMap.eraseBlock s.loop.runs 16 t
      commits := SMap.eraseBlock s.loop.commits 16 t } }
  rs.foldl (fun s r =>
    if SMap.has s.loop.pend (2048 * t + r.ctx) then s.countMerged t
    else { s with loop.pend := SMap.put s.loop.pend (2048 * t + r.ctx) { r.trig with head := true } }) s

/-- What the tick after D brings behind a gate that has closed: the pin keeper takes the pins, and the runs in progress are lost (R356,
R359, R364). -/
def State.gateTick (s : State) : State :=
  (s.edge.gates.filter fun kv => kv.2.d + 1 == s.tick).foldl (fun s kv => (s.keeperTake kv.1).dropRuns kv.1) s

/-- The registers of the role table that show a move (R22, R24). -/
def State.setRole (s : State) (lt old new oldRole : Nat) : State :=
  ((((s.setF pgDROLE (F.ROLE_PHYS_ROLE old) oldRole).setF pgDROLE (F.ROLE_PHYS_LOGICAL old) 0).setF pgDROLE
    (F.ROLE_PHYS_ROLE new) 0).setF pgDROLE (F.ROLE_PHYS_LOGICAL new) lt).setF pgDROLE (F.ROLE_MAP_PHYS lt) new

/-- The delayed rise of an output that a repeated record still has to make in the present period: what the generator itself will make
when its pins are back (R150, R364). -/
def PeriodRec.riseDue (r : PeriodRec) (isH : Bool) : Option Nat := (r.todo.find? fun tr => tr.isH == isH && tr.rise).map (·.at_)

/-- A generator's counter, period number and outputs advanced over the gap (R359 rules 1 and 2, R365). Staged writes apply whose boundary
fell into the gap. -/
def State.advanceGen (s : State) (t g : Nat) : State :=
  let b := pgPWMG t g
  let m := g % 16
  let x := s.gen t g
  let st := s.genState t g
  if !s.flag b (F.PWMG_CTRL_RUN m) ∨ x.first.isSome ∨ x.per = 0 then s
  else
    let n := x.enters x.per
    let k := if s.tick < n then 0 else 1 + (s.tick - n) / x.per
    let o := if k = 0 then x.origin else n + (k - 1) * x.per
    let c := if k = 0 then s.genCount t g else s.tick - o
    let armed := st == 3
    let x := { x with
      origin := o
      load := if k = 0 then x.load else none
      quiet := s.tick + 4
      ledGap := 0
      presc := (x.presc + k) % (s.getF b (F.PWMG_CFG_PRESC m) + 1)
      matched := (List.range 4).foldl (fun n j => if x.cmpAt armed j / 32 ≤ c then setBit n j true else n)
        (if k = 0 then x.matched else 0)
      m := if armed && x.pulse then decide (x.pOn ≤ 32 * c) && decide (32 * c < x.pOff) else x.m
      hRise := none
      lRise := none }
    let r := s.rec_ t g
    let x := if r.repeating then
        { x with
          h := (SMap.getD s.edge.pins (s.bindPin t g true) {}).level, l := (SMap.getD s.edge.pins (s.bindPin t g false) {}).level
          hRise := if x.m then r.riseDue true else none
          lRise := if x.m then none else r.riseDue false }
      else x
    let s := s.setGen t g x
    let s := if st = 3 ∨ st = 4 then s.incF b (F.PWMG_PNUM_PNUM m) k else s
    (if k = 0 then s else s.boundaryTo t g o).keeperFate t g

/-- A reload of the mirrored schedule falls while the tile's gate is shut: its ledger's period ends there, and the arms that it is the
reference of are closed, as everywhere (R374 to R376). -/
def State.mirrorReload (s : State) (t g : Nat) (ledErr : Int) : State :=
  let x := s.gen t g
  let n := x.enters x.per
  let r := if s.tick < n then 0 else n + (s.tick - n) / x.per * x.per
  if !s.flag (pgPWMG t g) (F.PWMG_CTRL_RUN (g % 16)) ∨ x.first.isSome ∨ x.per = 0 ∨ r ≤ x.ledGap then s
  else ((s.setGen t g { x with ledGap := r }).ledPeriod t g).closure t g ledErr

/-- Timers resume with the ticks of the gap (R70). -/
def State.advanceTimers (s : State) (t : Nat) : State :=
  (List.range 16).foldl (fun s n =>
    if s.flag (pgTIMR t) (F.TMR_CTRL_EN n) then s.timerGap t n (s.tick - (s.timer t n).at_) false else s) s

/-- Doorbells held during a move enter the controller of the new tile (R251). -/
def State.enterHeld (s : State) (lt : Nat) : State :=
  let ls := SMap.getD s.lath.int.moveHeld lt []
  ls.foldl (fun s l => s.arrive (512 * s.phys lt + l)) { s with lath.int.moveHeld := SMap.erase s.lath.int.moveHeld lt }

/-- The lock windows of a tile's pages close (R46). -/
def State.closeTile (s : State) (t : Nat) : State :=
  { s with bus.locks := s.bus.locks.filter fun kv =>
      !(decide (0x08000000 + 0x100000 * t ≤ kv.1) && decide (kv.1 < 0x08000000 + 0x100000 * (t + 1))) }

/-- The locks of a tile's page are broken by a move (R349, R361). -/
def State.breakMoved (s : State) (t : Nat) : State := (List.range 64).foldl (fun s n => s.breakLock t n 5) s

/-- A power domain switched on, or off, at once (R389); an analog front's reference settles from its power-up (R80), what
the journal enables at the reset starts (R16), and the pins of a GPIO block with its lath are sampled from now on (R238). -/
def State.setDomain (s : State) (d : Nat) (on : Bool) : State :=
  let s := s.setFbit pgPWRD (F.PWRD_ON_ON (d / 32)) (d % 32) on
  let s := { s with pwr.ready := if on then d :: s.pwr.ready.filter (· ≠ d) else s.pwr.ready.filter (· ≠ d) }
  if !on then s
  else if d < 80 ∧ d % 2 = 0 then s.wdRestart (d / 2)
  else if 80 ≤ d ∧ d < 120 ∧ d % 10 = 4 then (s.refSettle ((d - 80) / 10)).cmpsStart ((d - 80) / 10)
  else if 80 ≤ d ∧ d < 120 ∧ d % 10 = 3 then s.klogStart ((d - 80) / 10)
  else if 80 ≤ d ∧ d < 120 ∧ (d % 10 = 1 ∨ d % 10 = 9) then
    (List.range 16).foldl (fun s k => s.gpioResume (16 * ((d - 80) / 10) + k)) s
  else s

/-- A tile reset (R401, R402): every block of the tile; the contents of its SRAM stay. -/
def State.resetTile (s : State) (t : Nat) : State :=
  let s := [2 * t, 2 * t + 1].foldl (fun s p => (s.drainOut p).breakOwned (reqPair p) 1) s
  ((s.clearTile t).openGate t).wdRestart t

/-- A tile reset that the keeper applies, counted as every reset (R362, R401). -/
def State.keeperTileReset (s : State) (t : Nat) : State := ((s.resetTile t).satF pgRSTC F.RSTC_CNT_TILE).pulse pgRSTC 0

/-- The keeper's image of a logical tile goes into the tile SRAM of its physical tile (R358, R416). -/
def State.loadImage (s : State) (lt t : Nat) : State :=
  s.memBytes (0x10000000 + 0x200000 * t) (SMap.getD s.dep.images lt [])

/-- The core pairs of a tile, which were held at reset, are released at the reset vector; pair B only while its domain is on
(R358). The watchdog goes on as the takeover left it (R76). -/
def State.releasePairs (s : State) (t : Nat) : State :=
  let s := (s.clearCore (2 * t)).holdPair (2 * t) false
  if s.domOn (2 * t + 1) then (s.clearCore (2 * t + 1)).holdPair (2 * t + 1) false else s

/-! ### Takeover (R355 to R362) -/

/-- A generator goes on in its own tile after its gate has opened again (R357): its outputs take the pins back at once. -/
def State.resumeGen (s : State) (t g : Nat) : State :=
  let s := s.advanceGen t g
  (s.setGen t g { s.gen t g with quiet := 0 }).keeperBack t g

/-- The outcome of a trigger where the cluster has no saggar tile (R73, R357). -/
def State.noSaggar (s : State) (t trig : Nat) : State :=
  let s := (s.openGate t).setFlag pgDROLE F.TKO_LAST_NO_SAGGAR true |>.pulse pgDROLE 8
  let s := s.edge.gens.foldl (fun s kv => if kv.1 / 256 = t then s.resumeGen t (kv.1 % 256) else s) s
  let s := if trig = 1 then s.setFlag (pgWDOG t) F.WDOG_STAT_NO_SAGGAR true else s
  if trig ≤ 2 then ((s.resetPair (2 * t)).resetPair (2 * t + 1)).satF pgRSTC F.RSTC_CNT_PAIR 2 else s

/-- A takeover command (R357): the cause it records. -/
def State.takeoverCommand (s : State) (lt want : Nat) : State × Nat :=
  if want ≠ 63 ∧ !(s.saggars (lt / 8)).contains want then (s, 0x20) else (s.wantTakeover (s.phys lt) 5 want, 0)

/-- The keeper picks a saggar tile for the first trigger that waits in a cluster: MOVING and EPOCH (R357, R358). -/
def State.moveStart (s : State) (c : Nat) : State :=
  if SMap.has s.dep.moves c then s
  else match s.dep.waiting.find? fun w => w.1 / 8 == c with
    | none => s
    | some (lt, t, trig, d, want) =>
      let rest := s.dep.waiting.filter fun w => !(w.1 == lt && w.2.1 == t)
      let ok := s.saggars c
      if s.tick ≤ d then s
      else match (if ok.contains want then some want else ok.head?) with
      | none => if s.tick < d + 8 then s else ({ s with dep.waiting := rest }).noSaggar t trig
      | some u =>
        let m : Move := ⟨lt, t, u, trig, d, true⟩
        let s := { s with dep.waiting := rest, dep.moves := SMap.put s.dep.moves c m }
        let s := if s.domOn (2 * u + 1) then s else s.setDomain (2 * u + 1) true
        let s := ((s.setFlag pgDROLE (F.ROLE_MAP_MOVING lt) true).incF pgDROLE (F.ROLE_MAP_EPOCH lt)).setF pgDROLE
          (F.ROLE_MAP_CAUSE lt) (if trig = 5 then 3 else 1)
        ((((s.endMoved t).endHalts t).closeTile t).closeTile u).breakMoved t

/-- The new tile of the move in a cluster is ready (R359, R361, R362). -/
def State.tileReady (s : State) (c : Nat) : State :=
  match SMap.get? s.dep.moves c with
  | none => s
  | some m =>
    let a := m.from_
    let b := m.to_
    let s := (((((s.endMoved a).carryMerged a b).loadControl a b).loadRest a b).loadProgram a b).openGate b
    let s := s.setRole m.lt a b (if m.trig = 5 then 2 else 3)
    let s := s.dmaMoved b
    let s := { s with mm.chans := SMap.eraseBlock s.mm.chans 32 a, mm.io := SMap.erase s.mm.io a }
    let s := (s.edge.gens.filter fun kv => kv.1 / 256 == b).foldl (fun s kv => s.advanceGen b (kv.1 % 256)) s
    let s := { s with edge.gens := SMap.eraseBlock s.edge.gens 256 a }
    let s := (s.advanceTimers b).wdReload b F.WDOG_STAT_MOVE_RELOAD
    let s := (s.setFlag (pgLENG b) F.LENG_CTRL_DISP_EN true).setFlag (pgLENG b) F.LENG_CTRL_ABANDON
      (s.flag (pgLENG a) F.LENG_CTRL_ABANDON)
    let s := s.setFlag pgDROLE (F.ROLE_MAP_MOVING m.lt) false
    let s := (((s.setF pgDROLE F.TKO_LAST_LT m.lt).setF pgDROLE F.TKO_LAST_FROM a).setF pgDROLE F.TKO_LAST_TO b).setF pgDROLE
      F.TKO_LAST_TRIG m.trig
    let s := ((s.setF pgDROLE F.TKO_TIME_DUR (min 65535 (s.tick - m.d))).satF pgDROLE F.TKO_TIME_COUNT).pulse pgDROLE 1
    let s := if m.trig = 5 then s.keeperTileReset a else s
    let s := { s with
      dep.moves := SMap.erase s.dep.moves c
      dep.refill := if m.trig = 5 then a :: s.dep.refill else s.dep.refill
      dep.release := SMap.put s.dep.release m.lt b }
    s.enterHeld m.lt

/-- The core pairs of a moved logical tile are released with its image (R358). -/
def State.tileRelease (s : State) (lt : Nat) : State :=
  match SMap.get? s.dep.release lt with
  | none => s
  | some t => (({ s with dep.release := SMap.erase s.dep.release lt }).loadImage lt t).releasePairs t

/-- A tile out of service returns (R362, R391): the keeper switches its domains on, resets it and tests its stores. -/
def State.returnToService (s : State) (t : Nat) (ok : Bool) : State :=
  if t ≥ 40 ∨ s.role t ≠ 3 then s
  else
    let s := (if s.domOn (2 * t) then s else s.setDomain (2 * t) true).keeperTileReset t
    if ok then
      (({ s with dep.refill := t :: s.dep.refill.filter (· ≠ t) }).setF pgDROLE (F.ROLE_PHYS_ROLE t) 2).pulse pgDROLE 3
    else s.setFlag pgDROLE F.DROLE_SVC_FAIL true

/-- The mirror of a tile that refills it is in step (R362). -/
def State.mirrorInStep (s : State) (t : Nat) : State :=
  if s.role t = 2 ∧ s.dep.refill.contains t then
    (({ s with dep.refill := s.dep.refill.filter (· ≠ t) }).setF pgDROLE (F.ROLE_PHYS_ROLE t) 1).openGate t
  else s

/-! ### Refiring (R367 to R371) -/

def State.rfState (s : State) (st cause : Nat) : State :=
  let old := s.getF pgDROLE F.RF_STAT_STATE
  let s := (s.setF pgDROLE F.RF_STAT_STATE st).setF pgDROLE F.RF_STAT_CAUSE cause
  if old = st then s else s.pulse pgDROLE 2

/-- CMD STAGE (R367): refused while its own cluster moves or refires. -/
def State.refireStage (s : State) : State :=
  let lt := s.getF pgDROLE F.RF_CTRL_LT
  let u := s.getF pgDROLE F.RF_CTRL_PHYS
  let c := lt / 8
  let ok := s.saggars c
  if !ok.contains u ∨ ok.length < 2 ∨ (s.refireOf c).isSome ∨ SMap.has s.dep.moves c ∨ s.dep.waiting.any (fun w => w.1 / 8 == c) then
    s.rfState 5 2
  else
    let s := (s.setF pgDROLE (F.ROLE_PHYS_ROLE u) 2).setF pgDROLE F.RF_STAT_SHADOW_PER 0
    let r : Refire := {
      lt := lt, phys := u, policy := s.flag pgDROLE F.RF_CTRL_POLICY
      refGen := s.getF pgDROLE F.RF_CTRL_REFGEN
      img := s.getF pgDROLE F.RF_IMG_IMG }
    (s.putRefire c r).rfState 1 0

/-- The staged tile enters SHADOW with its new programs: contexts, generators and staging come from the mirror (R368). -/
def State.refireShadow (s : State) (c : Nat) (r : Refire) (prog : SMap Nat) (image : List Byte) : State :=
  let s := s.loadControl (s.phys r.lt) r.phys
  let ps : SMap Nat := prog.foldl (fun m kv => SMap.put m (4096 * r.phys + kv.1) kv.2)
    (SMap.eraseBlock s.loop.prog 4096 r.phys)
  let s := { s with
    loop.prog := ps
    dep.images := SMap.put s.dep.images (32 + r.lt) image }
  (s.putRefire c { r with shadow := true }).rfState 2 0

/-- The cluster that RF_CTRL.LT names. -/
def State.rfCluster (s : State) : Nat := s.getF pgDROLE F.RF_CTRL_LT / 8

/-- CMD SWITCH (R369): accepted in SHADOW for a period at least 2 ahead, else LATE. -/
def State.refireSwitch (s : State) : State :=
  match s.refireOf s.rfCluster with
  | none => s.setF pgDROLE F.RF_STAT_CAUSE 4
  | some r =>
    let p := s.getF pgDROLE F.RF_PNUM_P
    let n := s.getF (pgPWMG (s.phys r.lt) r.refGen) (F.PWMG_PNUM_PNUM (r.refGen % 16))
    if r.shadow ∧ r.done.isNone ∧ n + 2 ≤ p then (s.putRefire s.rfCluster { r with switch := some p }).setF pgDROLE F.RF_STAT_CAUSE 0
    else s.setF pgDROLE F.RF_STAT_CAUSE 4

/-- CMD ABORT (R371). -/
def State.refireAbort (s : State) : State := s.refireEndIf s.rfCluster 5 fun _ => true

/-- The shadow compares of the generators of page `j`, which the new tile keeps at a switch (R369). -/
def shadowFields (m : Nat) : List Fld :=
  [F.PWMG_PER_PER m, F.PWMG_CMP_ON_TICK m, F.PWMG_CMP_ON_FRAC m, F.PWMG_CMP_OFF_TICK m, F.PWMG_CMP_OFF_FRAC m,
   F.PWMG_CMP_EVA_TICK m, F.PWMG_CMP_EVA_FRAC m, F.PWMG_CMP_EVB_TICK m, F.PWMG_CMP_EVB_FRAC m]

/-- The switch at T (R369): the new tile takes the logical tile from the mirror. -/
def State.refireNow (s : State) (r : Refire) : State :=
  let a := s.phys r.lt
  let b := r.phys
  let mine := s.loop.ctx.filter fun kv => kv.1 / 32768 == b && decide (10 ≤ kv.1 % 16)
  let old := s.regs
  let mineG := s.edge.gens
  let s := { s with edge.gates := SMap.put s.edge.gates a { d := s.tick - 1 } }
  let s := (((s.endMoved a).dropRuns a).dropRuns b).carryMerged a b
  let s := ((s.loadControl a b).loadRest a b).advanceTimers b
  let s := if r.policy then
      let cs : SMap Nat := mine.foldl (fun m kv => SMap.put m kv.1 kv.2)
        (s.loop.ctx.filter fun kv => !(kv.1 / 32768 == b && decide (10 ≤ kv.1 % 16)))
      { s with loop.ctx := cs }
    else s
  let s : State := (List.range 256).foldl (fun (s : State) g =>
    (shadowFields (g % 16)).foldl (fun s f =>
      match SMap.get? old (fkey (pgPWMG b g) f) with
      | some v => { s with regs := SMap.put s.regs (fkey (pgPWMG b g) f) v }
      | none => { s with regs := SMap.erase s.regs (fkey (pgPWMG b g) f) }) s) s
  let gs : SMap Gen := s.edge.gens.map fun kv =>
    if kv.1 / 256 = b then (kv.1, { kv.2 with shPend := (SMap.getD mineG kv.1 {}).shPend }) else kv
  let s := { s with edge.gens := gs }
  let s := ((((s.setRole r.lt a b 2).endHalts a).closeTile a).closeTile b).breakMoved a
  let s := s.dmaMoved b
  let s := { s with
    mm.chans := SMap.eraseBlock s.mm.chans 32 a
    mm.io := SMap.erase s.mm.io a
    edge.gens := SMap.eraseBlock s.edge.gens 256 a
    dep.images := SMap.put s.dep.images r.lt (SMap.getD s.dep.images (32 + r.lt) []) }
  let s := s.putRefire (r.lt / 8) { r with done := some (a, s.tick) }
  let s := ((s.setFlag pgDROLE (F.ROLE_MAP_MOVING r.lt) true).incF pgDROLE (F.ROLE_MAP_EPOCH r.lt)).setF pgDROLE
    (F.ROLE_MAP_CAUSE r.lt) 2
  let s := (((s.setF pgDROLE F.TKO_LAST_LT r.lt).setF pgDROLE F.TKO_LAST_FROM a).setF pgDROLE F.TKO_LAST_TO b).setF pgDROLE
    F.TKO_LAST_TRIG 0
  (s.wdReload b F.WDOG_STAT_MOVE_RELOAD).rfState 3 0

/-- A reload of generator `g` of tile `t` is due, and with it the switch, where it starts period P of the reference
generator (R369). -/
def State.refireDue (s : State) (t g : Nat) : State :=
  match s.refireOf (t / 10) with
  | some r =>
    let a := s.phys r.lt
    if r.switch = some (s.getF (pgPWMG a g) (F.PWMG_PNUM_PNUM (g % 16)) + 1) ∧ r.done.isNone ∧ g = r.refGen ∧
        (t = a ∨ t = r.phys) ∧ s.nextReload a g ≤ s.tick then s.refireNow r else s
  | none => s

/-- Compares in force of the active and of the staged tile after both have reloaded a generator (R368). -/
def State.refireCompare (s : State) (t g : Nat) : State :=
  match s.refireOf (t / 10) with
  | some r =>
    let a := s.phys r.lt
    if !r.shadow ∨ r.done.isSome ∨ !(t = a ∨ t = r.phys) then s
    else
      let x := s.gen a g
      let y := s.gen r.phys g
      let s := if x.origin = y.origin ∧ (x.on_, x.off_, x.eva, x.evb) ≠ (y.on_, y.off_, y.eva, y.evb) then
          s.satF pgDROLE F.RF_DIFF_DIFF else s
      if t = r.phys ∧ g = r.refGen then s.satF pgDROLE F.RF_STAT_SHADOW_PER else s
  | none => s

/-- The end of a cluster's switch at T + 16 (R369, R370). -/
def State.refireDoneIn (s : State) (c : Nat) (r : Refire) : State :=
  match r.done with
  | some (a, tt) =>
    if s.tick < tt + 16 then s
    else
      let s := (s.setFlag pgDROLE (F.ROLE_MAP_MOVING r.lt) false).loadImage r.lt r.phys |>.releasePairs r.phys
      let s := (s.holdPair (2 * a) true).holdPair (2 * a + 1) true
      let s := { s.dropRefire c with dep.refill := a :: s.dep.refill.filter (· ≠ a) }
      (s.enterHeld r.lt).rfState 4 0
  | none => s

/-- The switches that have run for 16 ticks end. -/
def State.refireDone (s : State) : State := s.dep.refires.foldl (fun s kv => s.refireDoneIn kv.1 kv.2) s

end Sys2Proof.Machine
end

