-- ==== Sys2Proof/Machine/PwrOps.lean ====
section
/-! DEFINITION. Machine/PwrOps.lean: feeds, power domains, clock islands, references, PLLs, sleep and resets (chapter 14). -/

namespace Sys2Proof.Machine

/-! ### Feeds (R379 to R387) -/

def F.feedOk (f : Nat) : Fld := if f = 0 then F.FEED_STAT_A_OK else F.FEED_STAT_B_OK
def State.feed (s : State) (f : Nat) : Feed := if f = 0 then s.pwr.feedA else s.pwr.feedB
def State.setFeed (s : State) (f : Nat) (x : Feed) : State :=
  if f = 0 then { s with pwr.feedA := x } else { s with pwr.feedB := x }
def State.activeFeed (s : State) : Nat := s.getF pgKEEL F.FEED_STAT_ACTIVE

/-- Another feed becomes active (R381, R384). -/
def State.switchFeed (s : State) (f : Nat) : State :=
  ((s.setF pgKEEL F.FEED_STAT_ACTIVE f).satF pgKEEL F.FEED_STAT_SWITCHES).pulse pgKEEL 0

/-- Ticks within which a switch conducts fully: 60 ns (R381). -/
def switchTicks : Nat := 120

/-- Another feed becomes active with make before break: the old switch conducts until the new one conducts fully (R384). -/
def State.makeBefore (s : State) (f : Nat) : State := { s.switchFeed f with pwr.switching := some s.tick }

/-- Whether the switch of the other feed still conducts beside the active one's (R384, R385). -/
def State.stillConducts (s : State) : Bool :=
  match s.pwr.switching with
  | some t => decide (s.tick < t + switchTicks)
  | none => false

/-- A feed leaves its window, below it or above it (R380, R381, R383). A target that leaves it before its switch conducts fully
gives the supply back to the switch that still conducts (R385). -/
def State.feedCrossing (s : State) (f : Nat) (ovr : Bool) : State :=
  let x := s.feed f
  if !x.inWin then s
  else
    let was := s.flag pgKEEL (F.feedOk f)
    let s := (s.setFeed f { x with inWin := false }).setFlag pgKEEL (F.feedOk f) false
    let s := s.setFlag pgKEEL (if f = 0 then (if ovr then F.FEED_STAT_A_OV else F.FEED_STAT_A_UV)
      else if ovr then F.FEED_STAT_B_OV else F.FEED_STAT_B_UV) true
    if s.activeFeed = f then
      if s.flag pgKEEL (F.feedOk (1 - f)) then
        if s.stillConducts then
          ({ s with pwr.switching := none }).setF pgKEEL F.FEED_STAT_ACTIVE (1 - f) |>.setFlag pgKEEL F.FEED_STAT_BOTH_BAD true
        else (s.setF pgKEEL F.SW_TICK_TICK s.count).switchFeed (1 - f)
      else (s.setFlag pgKEEL F.FEED_STAT_BOTH_BAD true).pulse pgKEEL 2
    else if was then s.pulse pgKEEL 3 else s

/-- A feed enters its window (R380). -/
def State.feedEntry (s : State) (f : Nat) : State :=
  let x := s.feed f
  if x.inWin then s else s.setFeed f { x with inWin := true, since := s.tick }

/-- A feed has stayed inside its window for 1 ms (R380). -/
def State.feedRegulation (s : State) (f : Nat) : State :=
  let x := s.feed f
  if x.inWin ∧ x.since + 2000000 ≤ s.tick ∧ !s.flag pgKEEL (F.feedOk f) then
    (s.setFeed f { x with okAt := s.tick }).setFlag pgKEEL (F.feedOk f) true
  else s

/-- The return to FEED_A (R384). -/
def State.feedReturn (s : State) : State :=
  if s.flag pgKEEL F.FEED_CTRL_AUTO_RET ∧ s.activeFeed = 1 ∧ s.flag pgKEEL F.FEED_STAT_A_OK ∧
      s.pwr.feedA.okAt + 2000000 * s.getF pgKEEL F.FEED_CTRL_RET_DLY ≤ s.tick then s.makeBefore 0 else s

/-- A feed command (R383, R384): the cause it records. -/
def State.feedCommand (s : State) (f : Nat) : State × Nat :=
  if s.activeFeed = f then (s, 0)
  else if s.flag pgKEEL (F.feedOk f) then (s.makeBefore f, 0)
  else ((s.satF pgKEEL F.FEED_STAT_REFUSED).pulse pgKEEL 1, 0x20)

/-- A phase of a regulator fails: a regulator whose spare was free runs on it from now on (R386). The manual numbers no regulators and
the command names none: which one it is, is a free value (log 68). -/
def State.phaseFail (s : State) : State :=
  let r := s.draw 8
  let s := (r.2.satF pgKEEL F.KEEL_REG_PHASE_FAIL).pulse pgKEEL 4
  if s.pwr.onSpare.contains r.1 then s
  else ({ s with pwr.onSpare := r.1 :: s.pwr.onSpare }).satF pgKEEL F.KEEL_REG_PHASES_OUT

/-- The OK bits of KEEL_AUX: VANA_A, VANA_B, VIO_A, VIO_B (R387). -/
def F.auxOk (k : Nat) : Fld := ⟨0x5C, k, 1, .ro, 0, false⟩

/-- A feed of a VANA or VIO supply is lost (R387). -/
def State.auxLoss (s : State) (k : Nat) : State :=
  ((s.setFlag pgKEEL (F.auxOk k) false).satF pgKEEL F.KEEL_AUX_LOSSES).pulse pgKEEL 5

/-! ### Blocks that lose their state (R389, R401) -/

/-- The page at a base address. -/
def pageAt (base : Nat) : Option Page :=
  match target id base with
  | .page p _ => some p
  | _ => none

/-- Whether a register key's page satisfies a condition. -/
def inPages (q : Page → Bool) (a : Nat) : Bool :=
  match target id a with
  | .page p _ => q p
  | _ => false

/-- Registers, lock windows, latches, pulses and freezes of the pages that satisfy a condition are gone. -/
def State.clearPages (s : State) (q : Page → Bool) : State :=
  { s with
    regs := s.regs.filter fun kv => !inPages q (kv.1 / 64)
    bus := { s.bus with
      locks := s.bus.locks.filter fun kv => !inPages q kv.1
      latches := s.bus.latches.filter fun kv => !inPages q (kv.1 / 1024)
      pulses := s.bus.pulses.filter fun kv => !inPages q (kv.1 / 32)
      frozen := s.bus.frozen.filter fun kv => !inPages q kv.1
      errs := s.bus.errs.filter fun kv => !inPages q kv.1
      lows := s.bus.lows.filter fun kv => !inPages q (kv.1 / 64) } }

/-- The lock windows of the pages that satisfy a condition close (R46). A key sequence in progress there is abandoned with them, without an
error: R46 names the window alone (DESIGN CHOICE, log 44). -/
def State.closePages (s : State) (q : Page → Bool) : State :=
  { s with bus.locks := s.bus.locks.filter fun kv => !inPages q kv.1 }

/-- A range of memory loses its contents, and its errors (R495). -/
def State.eraseMem (s : State) (a n : Nat) : State :=
  { s with
    mem := s.mem.filter fun c => !(decide (a ≤ c.1) && decide (c.1 < a + n))
    mm.ue := s.mm.ue.filter fun w => !(decide (a ≤ w) && decide (w < a + n)) }

/-- Keys k with lo ≤ k < hi are dropped. -/
def SMap.eraseRange {α : Type} (m : SMap α) (lo hi : Nat) : SMap α := m.filter fun kv => !(decide (lo ≤ kv.1) && decide (kv.1 < hi))

/-- What lies behind the pages of a cluster domain `k` is gone (R389). -/
def State.clearCluster (s : State) (c k : Nat) : State :=
  match k with
  | 1 => { s with lath.laths := SMap.erase s.lath.laths (64 + c) }
  | 2 => s.eraseMem (0x18000000 + 0x800000 * c) 0x800000
  | 3 => { s with fcst := SMap.erase s.fcst c, klog := SMap.erase s.klog c }
  | 4 => { s with
      samp := { s.samp with
        refs := SMap.erase s.samp.refs c
        adcs := SMap.eraseBlock s.samp.adcs 16 c
        cmps := SMap.eraseBlock s.samp.cmps 16 c
        bus := SMap.erase s.samp.bus c }
      edge.active := s.edge.active.filter fun k => !(k / 32 == c && decide (k % 32 < 16)) }
  | 5 =>
    let s := s.eraseMem (0x1000000000 + 0x900000000 * c) 0x900000000
    { s with
      mm.passCe := s.mm.passCe.filter fun kv => kv.1 / 64 != c
      mm.rowCe := s.mm.rowCe.filter fun kv => kv.1 % 4 != c
      mm.bankUsed := s.mm.bankUsed.filter fun kv => kv.1 % 4 != c
      mm.retired := s.mm.retired.filter fun r => r % 4 != c }
  | 6 | 7 => { s with
      link.rings := SMap.eraseBlock s.link.rings 16 (2 * c + (k - 6))
      link.lanes := SMap.eraseBlock s.link.lanes 32 (2 * c + (k - 6)) }
  | 8 => { s with
      edge.pins := SMap.eraseBlock s.edge.pins 64 c
      edge.recs := SMap.eraseBlock s.edge.recs 2048 c }
  | 9 => { s with
      samp.caps := SMap.eraseBlock s.samp.caps 16 c
      edge.active := s.edge.active.filter fun k => !(k / 32 == c && decide (16 ≤ k % 32))
      lath.gpio := { s.lath.gpio with
        alat := SMap.eraseBlock s.lath.gpio.alat 16 c, paths := SMap.eraseBlock s.lath.gpio.paths 16 c } }
  | _ => s

/-- A core pair loses its state with its domain. -/
def State.clearPair (s : State) (p : Nat) : State :=
  let s := s.breakOwned (reqPair p) 1
  { s with core.pairs := SMap.erase s.core.pairs p }

/-- The islands of a domain that goes off have no clock from now on: they are not asleep, and no wake of them is asked for (R392). -/
def State.dropIslands (s : State) (d : Nat) : State :=
  let stays := fun (i : Nat) => islandDomain i != some d
  { s with
    pwr.asleep := s.pwr.asleep.filter stays, pwr.wakeReq := s.pwr.wakeReq.filter stays
    pwr.sleptAt := s.pwr.sleptAt.filter fun kv => stays kv.1 }

/-- Sessions, handshakes and connections of a management port, or the connections of the group link for port 2, are gone. -/
def State.clearPort (s : State) (port : Nat) : State :=
  { s with
    mon.sessions := s.mon.sessions.filter (·.port != port), mon.hands := s.mon.hands.filter (·.port != port)
    fire.conns := s.fire.conns.filter (·.port != port) }

/-- A domain switched off loses all of its state (R389, R391). -/
def State.domainOff (s : State) (d : Nat) : State :=
  let s := ((s.setDomain d false).dropIslands d).clearPages fun p => p.domain == some d
  if d < 80 then
    let t := d / 2
    if d % 2 = 1 then s.clearPair d
    else
      let s := ((s.breakOwned (reqPair d) 1).clearBlocks t true).eraseMem (0x10000000 + 0x200000 * t) 0x200000
      let s := { s with dep.refill := s.dep.refill.filter (· ≠ t) }
      if s.role t = 1 ∨ s.role t = 2 then
        (s.refireEndIf (t / 10) 2 fun r => r.phys == t).saggarFault t
      else s
  else if d < 120 then s.clearCluster ((d - 80) / 10) ((d - 80) % 10)
  else if d = 120 then ({ s with grp := {} }).clearPort 2
  else if d = 121 ∨ d = 122 then s.clearPort (d - 121)
  else if d = 124 then { s with mon := { s.mon with sessions := [], hands := [] } }
  else s

/-! ### Power domains (R388 to R391) -/

/-- Whether a cluster domain k = 3 is in use (R390). -/
def State.forecastInUse (s : State) (c : Nat) : Bool :=
  s.flag (pgFCST c 0) F.FCST_CTRL_EN || s.getF (pgKLOG c) F.KLOG_STAT_STATE != 0

/-- Whether a cluster domain k = 4 is in use (R390). -/
def State.analogInUse (s : State) (c : Nat) : Bool :=
  ((List.range 16).any fun j => s.flag (pgADC (16 * c + j)) F.ADC_CTRL_EN) ||
    (List.range 16).any fun j => s.flag (pgCMPR (16 * c + j)) (F.CMP_CTRL_EN (j % 4))

/-- Whether a tile of a cluster has ROLE 0b00, or 0b01 with `sag`. -/
def State.clusterActive (s : State) (c : Nat) (sag : Bool) : Bool :=
  (List.range 10).any fun j => s.role (10 * c + j) == 0 || (sag && s.role (10 * c + j) == 1)

/-- Whether a domain is in use (R390). -/
def State.inUse (s : State) (d : Nat) : Bool :=
  if d < 80 then d % 2 == 0 && s.role (d / 2) == 0
  else if d < 120 then
    let c := (d - 80) / 10
    match (d - 80) % 10 with
    | 0 | 1 | 2 => s.clusterActive c true
    | 3 => s.forecastInUse c
    | 4 => s.analogInUse c
    | 5 => s.clusterActive c true || s.forecastInUse c
    | 6 => (List.range 16).any fun j => s.flag (pgRING (32 * c + j)) F.RING_CTRL_EN
    | 7 => (List.range 16).any fun j => s.flag (pgRING (32 * c + 16 + j)) F.RING_CTRL_EN
    | 8 => (List.range 64).any fun j => s.flag (pgPKEEP (64 * c + j)) (F.PK_PIN_STAT_BOUND (j % 16))
    | _ => (List.range 16).any fun j => s.flag (pgCAPT c) (F.CAP_CTRL_EN j) || s.flag (pgTRIP c) (F.TRIP_CTRL_EN j) ||
        s.flag (pgGPIO c) (F.GPIO_CTRL_OE j)
  else match d with
    | 120 => s.getF pgGRPL F.GRP_STAT_STATE == 2
    | 121 => s.mon.sessions.any (fun x => x.port == 0) || s.getF pgTBAS F.TBAS_CTRL_SRC == 2
    | 122 => s.mon.sessions.any (fun x => x.port == 1) || s.getF pgTBAS F.TBAS_CTRL_SRC == 3
    | 123 => (s.fire.phase == 1 || s.fire.phase == 2) || s.getF pgDROLE F.RF_STAT_STATE == 1 ||
        (match s.fire.keep with | some k => k.cmd == 1 | none => false)
    | 124 => !s.mon.sessions.isEmpty
    | 126 => true
    | 127 => s.getF pgCLKG F.PLL_STAT_SPARE_FOR != 0 || s.pwr.spareLocking.isSome
    | _ => false

/-- A switch of a domain has completed. -/
def State.domainDone (s : State) (d : Nat) (on : Bool) : State :=
  (((s.setFlag pgPWRD F.PWRD_STAT_BUSY false).setF pgPWRD F.PWRD_STAT_LAST d).setFlag pgPWRD F.PWRD_STAT_LAST_ON on).pulse
    pgPWRD 0

/-- A power domain command (R389, R390): the cause it records. -/
def State.domainCommand (s : State) (d : Nat) (on : Bool) : State × Nat :=
  if s.flag pgPWRD F.PWRD_STAT_BUSY then (s, 0x21)
  else if s.pwr.brown then (s, 0)
  else
    let bad := if on then decide (80 ≤ d) && decide (d < 120) && (d - 80) % 10 != 0 && !s.domOn (80 + 10 * ((d - 80) / 10))
      else s.inUse d
    if bad then ((s.satF pgPWRD F.PWRD_STAT_REFUSED).pulse pgPWRD 1, 0x20)
    else if on ∧ !s.domOn d then
      let s := s.setFbit pgPWRD (F.PWRD_ON_ON (d / 32)) (d % 32) true
      (({ s with pwr.busy := some (d, true, s.tick) }).setFlag pgPWRD F.PWRD_STAT_BUSY true, 0)
    else if on ∨ !s.domOn d then (s.domainDone d on, 0)
    else ((s.domainOff d).domainDone d false, 0)

/-- A domain switched on has reached its reset values (R389). -/
def State.domainReady (s : State) : State :=
  match s.pwr.busy with
  | some (d, on, _) => (({ s with pwr.busy := none }).setDomain d on).domainDone d on
  | none => s

/-! ### References (R394 to R397) -/

def F.refValid (r : Nat) : Fld := if r = 0 then F.REF_STAT_A_VALID else F.REF_STAT_B_VALID
def State.selRef (s : State) : Nat := s.getF pgCLKG F.REF_STAT_SEL
def State.refSince (s : State) (r : Nat) : Nat := if r = 0 then s.pwr.refA.since else s.pwr.refB.since
def State.setValid (s : State) (r : Nat) (v : Bool) : State :=
  let s := s.setFlag pgCLKG (F.refValid r) v
  if r = 0 then { s with pwr.refA.since := s.tick } else { s with pwr.refB.since := s.tick }

/-- The selector moves to a reference (R395). -/
def State.switchRef (s : State) (r : Nat) : State :=
  ((s.setF pgCLKG F.REF_STAT_SEL r).satF pgCLKG F.REF_STAT_SWITCHES).pulse pgCLKG 0

/-- The selected reference becomes invalid (R395, R396). -/
def State.refLoss (s : State) : State :=
  let r := s.selRef
  if !s.flag pgCLKG (F.refValid r) then s
  else
    let s := (s.setValid r false).satF pgCLKG F.REF_STAT_REF_LOSS
    if s.flag pgCLKG (F.refValid (1 - r)) then s.switchRef (1 - r)
    else (s.setFlag pgCLKG F.REF_STAT_HOLDOVER true).pulse pgCLKG 2

/-- A reference becomes valid while none is (R396). -/
def State.refRecover (s : State) (r : Nat) : State :=
  if s.flag pgCLKG F.REF_STAT_A_VALID ∨ s.flag pgCLKG F.REF_STAT_B_VALID then s
  else
    let s := (s.setValid r true).setFlag pgCLKG F.REF_STAT_HOLDOVER false
    if s.selRef = r then s else s.switchRef r

/-- A reference that is not selected becomes valid or invalid (R394). -/
def State.refChange (s : State) (r : Nat) (v : Bool) : State :=
  if s.selRef = r ∨ s.flag pgCLKG (F.refValid r) = v ∨ !s.flag pgCLKG (F.refValid s.selRef) then s
  else if v then s.setValid r true else (s.setValid r false).satF pgCLKG F.REF_STAT_REF_LOSS

/-- A reference command (R397): the cause it records. -/
def State.refCommand (s : State) (r : Nat) : State × Nat :=
  if !s.flag pgCLKG (F.refValid r) then (s.pulse pgCLKG 5, 0x20)
  else if s.selRef = r then (s, 0) else (s.switchRef r, 0)

/-- The selector returns to PREF after 10 s (R397). -/
def State.refRevert (s : State) : State :=
  let r := s.getF pgCLKG F.REF_CTRL_PREF
  if s.flag pgCLKG F.REF_CTRL_REVERT ∧ s.selRef ≠ r ∧ s.flag pgCLKG (F.refValid r) ∧
      s.refSince r + 20000000000 ≤ s.tick then s.switchRef r else s

/-! ### Islands: stops, sleep and wake (R67, R76, R398 to R400) -/

/-- Before a core island's clock stops, its timers and its watchdog stand still (R67, R76). -/
def State.islandHalts (s : State) (i : Nat) : State :=
  let s := { s with pwr.sleptAt := SMap.put s.pwr.sleptAt i s.tick }
  let s := s.closePages fun p => p.island == i
  if i < 80 ∧ i % 2 = 0 then (s.timersSync (i / 2)).wdHold (i / 2) true else s

/-- An island's clock runs again: a core island's timers, watchdog and wake buffer catch up (R67, R76, R243), and a cluster lath's
pins fire what they latched (R238). The gap of the timers is
counted on the slow clock, so that it is within one of its periods, 80 ticks, of the ticks that passed. -/
def State.islandRuns (s : State) (i : Nat) : State :=
  let since := SMap.getD s.pwr.sleptAt i s.tick
  let s := { s with pwr.sleptAt := SMap.erase s.pwr.sleptAt i, pwr.wakeReq := s.pwr.wakeReq.filter (· ≠ i) }
  if i < 80 ∧ i % 2 = 0 then
    let t := i / 2
    let e := s.draw 8
    let s := (List.range 16).foldl (fun s n => s.timerGap t n (s.tick - max since (s.timer t n).at_ + e.1 % 161 - 80) true) e.2
    (s.wdReload t F.WDOG_STAT_SLP_RELOAD).applyWake t
  else if 80 ≤ i ∧ i < 112 ∧ (i - 80) % 8 = 7 then
    (List.range 16).foldl (fun s k => s.gpioReplay (16 * ((i - 80) / 8) + k)) s
  else s

/-- The islands of a PLL: 1 to 4 P16, 5 to 8 P12, 9 PD (R392). -/
def pllIslands (code : Nat) : List Nat :=
  if code = 0 then [] else if code ≤ 4 then (List.range 10).map fun j => 20 * (code - 1) + 2 * j
  else if code ≤ 8 then let c := code - 5; [80 + 8 * c, 81 + 8 * c, 82 + 8 * c, 84 + 8 * c]
  else [114, 115, 116, 118, 122, 123]

/-- An island's PLL stops: a clock that ran stands still. -/
def State.stopIsland (s : State) (i : Nat) : State :=
  let s := if s.islandOn i && !s.isleStopped i then s.islandHalts i else s
  { s with pwr.stopped := if s.pwr.stopped.contains i then s.pwr.stopped else i :: s.pwr.stopped }

/-- An island's PLL runs again: one that is on and not asleep goes on. -/
def State.startIsland (s : State) (i : Nat) : State :=
  let s := { s with pwr.stopped := s.pwr.stopped.filter (· ≠ i) }
  if s.pwr.asleep.contains i || !s.islandOn i then s else s.islandRuns i

/-- The lock bit of a PLL by its number: 0 to 3 P16, 4 to 7 P12, 8 PD, 9 and 10 the time-base PLLs, 11 the spare. -/
def F.pllLock (k : Nat) : Fld := ⟨0x4C, k, 1, .ro, 0, false⟩

/-- The spare PLL starts to lock in place of the PLL of a code of SPARE_FOR (R398). -/
def State.spareFor (s : State) (code : Nat) : State := ({ s with pwr.spareLocking := some (code, s.tick) }).setDomain 127 true

/-- A PLL that is locked fails (R398). A time-base PLL that fails while the other is locked hands over to it: the rule says so of the primary,
the secondary goes back the same way (DESIGN CHOICE, log 68). Where neither is locked the manual gives the time base no effect: the count
goes on as it is. -/
def State.pllFailure (s : State) (k : Nat) : State :=
  if !s.flag pgCLKG (F.pllLock k) then s
  else
    let s := s.setFlag pgCLKG (F.pllLock k) false
    if k = 9 ∨ k = 10 then
      let sec := decide (k = 9)
      if s.flag pgCLKG F.REF_STAT_TB_SEC = sec ∨ !s.flag pgCLKG (F.pllLock (19 - k)) then s
      else (s.setFlag pgCLKG F.REF_STAT_TB_SEC sec).pulse pgCLKG 3
    else if k = 11 then (pllIslands (s.getF pgCLKG F.PLL_STAT_SPARE_FOR)).foldl (fun s i => s.stopIsland i) s
    else
      let code := k + 1
      let s := (pllIslands code).foldl (fun s i => s.stopIsland i) s
      if s.getF pgCLKG F.PLL_STAT_SPARE_FOR = 0 ∧ s.pwr.spareLocking.isNone then s.spareFor code
      else { s with pwr.failed := s.pwr.failed ++ [code] }

/-- A tick in which a failed PLL waits for the spare (R398): the keeper may have the spare released, in a tick that the manual leaves open
(a free value, log 68). The PLL it replaced then runs again, and the spare locks in place of the first that waits. -/
def State.spareTick (s : State) : State :=
  match s.pwr.failed with
  | [] => s
  | code :: rest =>
    let r := s.draw 1
    let s := r.2
    let old := s.getF pgCLKG F.PLL_STAT_SPARE_FOR
    if r.1 = 0 ∨ old = 0 ∨ s.pwr.spareLocking.isSome then s
    else
      let s := ({ s with pwr.failed := rest }).setFlag pgCLKG (F.pllLock (old - 1)) true
      let s := if s.flag pgCLKG (F.pllLock 11) then s else (pllIslands old).foldl (fun s i => s.startIsland i) s
      ((s.setF pgCLKG F.PLL_STAT_SPARE_FOR 0).setFlag pgCLKG (F.pllLock 11) false).spareFor code

/-- The spare PLL has locked (R398). -/
def State.spareLocked (s : State) : State :=
  match s.pwr.spareLocking with
  | none => s
  | some (code, _) =>
    let s := (((({ s with pwr.spareLocking := none }).setFlag pgCLKG F.PLL_STAT_SPARE true).setF pgCLKG F.PLL_STAT_SPARE_FOR
      code).satF pgCLKG F.PLL_STAT_SUBS).pulse pgCLKG 4
    (pllIslands code).foldl (fun s i => s.startIsland i) s

/-- Whether a core island may sleep (R399). -/
def State.maySleep (s : State) (t : Nat) : Bool :=
  s.flag (pgTILE t) F.TILE_PWR_SLP_EN && s.domOn (2 * t) && !s.isleStopped (2 * t) &&
    ([2 * t, 2 * t + 1].all fun p =>
      s.flag (pgCORE p) F.CORE_STAT_WAITING || s.flag (pgCORE p) F.CORE_CTRL_HOLD || s.pairStopped p || !s.domOn p) &&
    (List.range 32).all fun n => s.chState t n != 1 && s.chState t n != 2

/-- A core island falls asleep (R399). -/
def State.coreSleep (s : State) (t : Nat) : State :=
  if !s.maySleep t then s
  else
    let s := s.islandHalts (2 * t)
    ({ s with pwr.asleep := 2 * t :: s.pwr.asleep }).setFlag (pgTILE t) F.TILE_PWR_SLEEPING true

/-- A core island wakes on a request (R399). -/
def State.coreWake (s : State) (t : Nat) : State :=
  if !s.pwr.asleep.contains (2 * t) ∨ !s.pwr.wakeReq.contains (2 * t) then s
  else
    let s := ({ s with pwr.asleep := s.pwr.asleep.filter (· ≠ 2 * t) }).setFlag (pgTILE t) F.TILE_PWR_SLEEPING false
    let s := s.satF (pgTILE t) F.TILE_PWR_WAKES
    if s.pwr.stopped.contains (2 * t) then s else s.islandRuns (2 * t)

/-- The cluster islands that may sleep: 0 lath, 1 analog front, 2 forecast (R392). -/
def cluIsland (c k : Nat) : Nat := 8 * c + (match k with | 0 => 87 | 1 => 83 | _ => 82)

/-- A cluster island falls asleep (R392). -/
def State.clusterSleep (s : State) (c k : Nat) : State :=
  let i := cluIsland c k
  let may := match k with
    | 0 => s.flag (pgCLU c) F.CLU_PWR_LATH_SLP && !s.clusterActive c true
    | 1 => s.flag (pgCLU c) F.CLU_PWR_AFE_SLP && !s.analogInUse c
    | _ => s.flag (pgCLU c) F.CLU_PWR_FCST_SLP && !s.forecastInUse c
  if !may ∨ s.isleStopped i ∨ !s.islandOn i then s
  else
    let s := s.islandHalts i
    ({ s with pwr.asleep := i :: s.pwr.asleep }).setFbit (pgCLU c) F.CLU_PWR_SLEEPING k true

/-- A cluster island wakes on a request (R392). -/
def State.clusterWake (s : State) (c k : Nat) : State :=
  let i := cluIsland c k
  if !s.pwr.asleep.contains i ∨ !s.pwr.wakeReq.contains i then s
  else
    let s := ({ s with pwr.asleep := s.pwr.asleep.filter (· ≠ i) }).setFbit (pgCLU c) F.CLU_PWR_SLEEPING k false
    if s.pwr.stopped.contains i then s else s.islandRuns i

/-! ### Resets (R385, R401 to R404) -/

/-- Every pad of PWM_OUT goes to high impedance (R385, R404). -/
def State.floatPads (s : State) : State := { s with edge.pins := [] }

/-- A power-on reset (R401): every domain, island and register but those of the keel and RSTC_CAUSE. What lies outside the
device stays: flash, the cell nodes, feeds, references and pins; so does OTP, in which a lifecycle move takes effect (R433).
The tick count restarts at 0 when the time-base PLL locks (R404). -/
def State.powerOn (s : State) (cause : Nat) : State :=
  let keel := s.regs.filter fun kv => inPages (fun p => p.ty == .keel) (kv.1 / 64)
  let pors := (s.getF pgRSTC F.RSTC_CAUSE_PORS + 1) % 256
  let a := s.flag pgCLKG F.REF_STAT_A_VALID
  let b := s.flag pgCLKG F.REF_STAT_B_VALID
  let o := s.fire.otp
  let otp : Otp := { o with life := o.lifeNext.getD o.life, lifeNext := none }
  let t : State := {
    pending := s.pending, tick := s.tick, free := s.free
    regs := resetRoles.foldl (fun m kv => SMap.put m kv.1 kv.2) keel
    mem := s.mem.filter fun c => decide (0x40000000 ≤ c.1) && decide (c.1 < 0x80000000)
    time := { lastMeas := s.tick }
    link := { nodes := s.link.nodes }
    samp := { inp := s.samp.inp, capIn := s.samp.capIn }
    lath := { gpio := { raw := s.lath.gpio.raw } }
    pwr := { feedA := s.pwr.feedA, feedB := s.pwr.feedB, switching := s.pwr.switching, onSpare := s.pwr.onSpare, refA := s.pwr.refA, refB := s.pwr.refB, brown := s.pwr.brown
             resetN := s.pwr.resetN, resetAt := s.pwr.resetAt, tjAt := s.tick }
    fire := { otp := otp }
    tap := s.tap }
  let t := ((t.setF pgRSTC F.RSTC_CAUSE_LAST cause).setF pgRSTC F.RSTC_CAUSE_PORS pors).setFlag pgCLKG F.REF_STAT_A_VALID a
    |>.setFlag pgCLKG F.REF_STAT_B_VALID b
  let t := ((t.setF pgDEV F.DEV_LIFE_STATE otp.life).setF pgDEV F.DEV_FW_MIN_VERSION otp.minVersion).setF pgOTP
    F.OTP_KEYSTAT_REVOKED otp.revoked
  t.setF pgOTP F.OTP_KEYSTAT_PROGRAMMED (otp.keys.foldl (fun n kv => setBit n kv.1 true) 0)

/-- The keel starts the device once RESET_N is high: the reference of PREF where it is valid, the first domains, the PLLs and
the keeper ROM (R394, R403). -/
def State.keelStart (s : State) : State :=
  let pref := s.getF pgCLKG F.REF_CTRL_PREF
  let sel := if s.flag pgCLKG (F.refValid pref) then pref else 1 - pref
  let s := if s.flag pgCLKG (F.refValid sel) then s.setF pgCLKG F.REF_STAT_SEL sel
    else (s.setFlag pgCLKG F.REF_STAT_HOLDOVER true).pulse pgCLKG 2
  let s := [123, 125, 126].foldl (fun s d => s.setDomain d true) s
  let s := (List.range 11).foldl (fun s k => s.setFlag pgCLKG (F.pllLock k) true) s
  { s with
    pwr.romStarted := true, fire.phase := 1, fire.started := false, fire.flash := 0
    time := { s.time with runs := true, ofs := (2 ^ 64 - s.tick % 2 ^ 64) % 2 ^ 64 } }

/-- The internal node falls below 1.50 V (R385): pads float, every domain goes off. -/
def State.brownOut (s : State) : State :=
  if s.flag pgKEEL F.FEED_STAT_A_OK ∨ s.flag pgKEEL F.FEED_STAT_B_OK then s
  else
    let s := (List.range 128).foldl (fun s d => if s.domOn d then s.domainOff d else s) s.floatPads
    let s := ({ s with pwr.busy := none }).setFlag pgPWRD F.PWRD_STAT_BUSY false
    ({ s with pwr.brown := true, pwr.romStarted := false, fire.phase := 0 }).setF pgRSTC F.RSTC_CAUSE_LAST 2

/-- The power-on reset after a brown-out, 10 ms after a feed is in regulation (R385). -/
def State.porAfterBrown (s : State) : State :=
  let ok := fun (f : Nat) => s.flag pgKEEL (F.feedOk f) && decide ((s.feed f).okAt + 20000000 ≤ s.tick)
  if s.pwr.brown ∧ (ok 0 ∨ ok 1) then
    let s := ({ s with pwr.brown := false }).powerOn 2
    if s.pwr.resetN then s.keelStart else s
  else s

/-- RESET_N is held low for a time in nanoseconds (R404). -/
def State.resetAssert (s : State) (ns : Nat) : State :=
  let r := s.draw 1
  let s := if ns < 100 ∨ 1000 ≤ ns then s else r.2
  if ns < 100 ∨ (ns < 1000 ∧ r.1 = 0) then s
  else ({ s with pwr.resetN := false, pwr.resetAt := s.tick }).powerOn 1

/-- RESET_N rises (R403); in a brown-out the device starts with the power-on reset that ends it (R385). -/
def State.resetRelease (s : State) : State :=
  if s.pwr.resetN then s
  else
    let s := { s with pwr.resetN := true, pwr.resetAt := s.tick }
    if s.pwr.brown then s else s.keelStart

/-! ### Temperature (R491) -/

/-- Sensor readings, in 1/16 °C: TJ_NOW and TJ_PEAK every 1 ms, the mean every 1 s. -/
def State.tjUpdate (s : State) (temps : List Int) : State :=
  match temps with
  | [] => s
  | x :: xs =>
    let now := xs.foldl max x
    let s := ({ s with pwr.tjSum := s.pwr.tjSum + now, pwr.tjN := s.pwr.tjN + 1 }).setF pgKEEL F.KEEL_TJ_TJ_NOW (wrap 16 now)
    let s := if now > sgn 16 (s.getF pgKEEL F.KEEL_TJ_TJ_PEAK) then s.setF pgKEEL F.KEEL_TJ_TJ_PEAK (wrap 16 now) else s
    if s.pwr.tjAt + 2000000000 ≤ s.tick then
      ({ s with pwr.tjAt := s.tick }).setF pgKEEL F.KEEL_TJ_AVG_AVG (wrap 16 (s.pwr.tjSum / (s.pwr.tjN : Nat)))
    else s

end Sys2Proof.Machine
end

