-- ==== Sys2Proof/Machine/FireOps.lean ====
section
/-! DEFINITION. Machine/FireOps.lean: boot headers, the settings journal, measurement, the keeper's commands and SPDM
(chapter 15). -/

namespace Sys2Proof.Machine

/-- The little-endian number of `n` bytes at offset `o` of a byte string. -/
def leAt (b : List Byte) (o n : Nat) : Nat := ofBytes ((b.drop o).take n)

/-- Bytes [o, o + n) of a byte string. -/
def slice (b : List Byte) (o n : Nat) : List Byte := (b.drop o).take n

/-- The number whose bytes, highest first, are the list. -/
def beAt (b : List Byte) (o n : Nat) : Nat := ofBytes (slice b o n).reverse

def allZero (b : List Byte) : Bool := b.all (· == 0)

def flashBase (f : Nat) : Nat := 0x40000000 + 0x20000000 * f

/-- `n` bytes of a flash. -/
def State.flash (s : State) (f o n : Nat) : List Byte := Memory.readN s.mem (flashBase f + o) n

/-! ### The boot header (R412 to R414, R432) -/

/-- A boot header, or a bundle's (R412, R417). -/
structure Hdr where
  keyIdx : Nat
  version : Nat
  compat : Nat
  ldrOfs : Nat
  ldrLen : Nat
  dirOfs : Nat
  dirCount : Nat
  jrnOfs : Nat
  jrnLen : Nat
  ldrHash : List Byte
  dirHash : List Byte
  raw : List Byte

def parseHdr (b : List Byte) : Hdr :=
  { keyIdx := leAt b 6 2, version := leAt b 8 4, compat := leAt b 0xC 2, ldrOfs := leAt b 0x14 4, ldrLen := leAt b 0x18 4,
    dirOfs := leAt b 0x1C 4, dirCount := leAt b 0x20 4, jrnOfs := leAt b 0x24 4, jrnLen := leAt b 0x28 4,
    ldrHash := slice b 0x30 48, dirHash := slice b 0x60 48, raw := b }

/-- Whether two ranges meet. -/
def meets (a n b m : Nat) : Bool := decide (a < b + m) && decide (b < a + n)

/-- The form of a header: MAGIC, FORMAT, reserved bytes, lengths and regions (R412 to R414, R417). -/
def hdrForm (b : List Byte) (bundle : Bool) : Bool :=
  let h := parseHdr b
  let dl := 80 * h.dirCount
  leAt b 0 4 == 0x46574850 && leAt b 4 2 == 1 && allZero (slice b 0xE 2) && allZero (slice b 0x2C 4) &&
    allZero (slice b 0x90 112) && allZero (slice b 0x1C1 63) && leAt b 0x10 4 / 2 ^ 13 == 0 &&
    (decide (h.keyIdx < 4) || h.keyIdx == 0xFF) && decide (h.version ≤ 64) && decide (1 ≤ h.dirCount) && decide (h.dirCount ≤ 256) &&
    (if bundle then h.ldrLen == 0 && h.jrnLen == 0
     else decide (1 ≤ h.ldrLen) && decide (h.ldrLen ≤ 1048576) && h.jrnLen % 131072 == 0 &&
       !meets h.ldrOfs h.ldrLen h.dirOfs dl && !meets h.ldrOfs h.ldrLen 0 512 && !meets h.ldrOfs h.ldrLen h.jrnOfs h.jrnLen &&
       !meets h.dirOfs dl h.jrnOfs h.jrnLen && decide (h.ldrOfs + h.ldrLen ≤ 2 ^ 29) && decide (h.jrnOfs + h.jrnLen ≤ 2 ^ 29)) &&
    !meets h.dirOfs dl 0 512 && decide (h.dirOfs + dl ≤ 2 ^ 29)

/-- Whether a key slot may sign a header in the lifecycle state (R414, R432). -/
def State.keyAllowed (s : State) (k : Nat) : Bool :=
  let o := s.fire.otp
  let owner := SMap.has o.keys k && !bit o.revoked k && decide (k < 4)
  match o.life with
  | 0 => k == 0xFF || owner
  | 1 => owner
  | _ => k == 0xFF

def State.keyHash (s : State) (k : Nat) : List Byte :=
  if k = 0xFF then Config.mfgKeyHash else SMap.getD s.fire.otp.keys k []

/-- Why a header is not accepted, as DEV_BOOT has it (0: accepted): header, key, signature, version (R414). -/
def State.hdrCause (s : State) (b : List Byte) (bundle : Bool) : Nat :=
  let h := parseHdr b
  let pub := slice b 0x160 97
  if !hdrForm b bundle then 1
  else if !s.keyAllowed h.keyIdx ∨ Config.sha384 pub ≠ s.keyHash h.keyIdx then 2
  else if !Config.ecdsaVerify pub (Config.sha384 (slice b 0 256)) (slice b 0x100 96) then 3
  else if h.version < s.fire.otp.minVersion then 4 else 0

/-! ### Measurement (R421 to R423) -/

/-- MREGn as 48 bytes. -/
def State.mreg (s : State) (n : Nat) : List Byte :=
  (List.range 12).flatMap fun w => toBytes (s.getF pgMEAS (F.MREG_WORD n w)) 4

/-- An extension of MREGn by a digest, with its record in the log (R421, R423). -/
def State.extend (s : State) (n : Nat) (d : List Byte) (source unit : Nat) : State :=
  let h := Config.sha384 (s.mreg n ++ d)
  let s := (List.range 12).foldl (fun s w => s.setF pgMEAS (F.MREG_WORD n w) (leAt h (4 * w) 4)) s
  let r : MRec := ⟨n, source, unit, s.fire.version, s.count, d⟩
  ({ s with fire.log := s.fire.log ++ [r] }).setF pgMEAS F.MEAS_CNT_RECORDS (s.fire.log.length + 1)

def State.logFull (s : State) : Bool := decide (65536 ≤ s.fire.log.length)

/-- The 64 bytes of a log record (R423). -/
def MRec.bytes (r : MRec) : List Byte :=
  toBytes r.ix 1 ++ toBytes r.source 1 ++ toBytes r.unit 1 ++ [0] ++ toBytes r.version 4 ++ toBytes r.tick 8 ++ r.d

/-- A write of MEAS_EXT.GO (R422): the cause it records. -/
def State.measExtend (s : State) (req : Nat) : State × Nat :=
  if s.logFull then (s, 0x20)
  else (s.extend 15 ((List.range 12).flatMap fun w => toBytes (SMap.getD s.fire.ext (16 * req + w) 0) 4) 0x86 0, 0)

/-! ### Bisque firing (R405, R406, R409) -/

/-- The loader's place in cluster SRAM 0 (R405). -/
def loaderBase : Nat := 0x18700000

/-- The domains that a firing switches on are remembered (R408, R411). -/
def State.fireDomain (s : State) (d : Nat) : State :=
  if s.domOn d then s else { s.setDomain d true with fire.doms := d :: s.fire.doms }

/-- One flash attempt (R405 steps 2 to 6): the header is read in 1S-1S-1S mode, the rest in 8D-8D-8D. The state, and the cause of a failure
(0 none). -/
def State.fireFlash (s : State) (f : Nat) : State × Nat :=
  let s := s.setFlag (pgXSPI f) F.XSPI_STAT_OCTAL false
  let b := s.flash f 0 512
  let c := s.hdrCause b false
  if c ≠ 0 then (s, c)
  else
    let h := parseHdr b
    let s := s.setFlag (pgXSPI f) F.XSPI_STAT_OCTAL true
    let ldr := s.flash f h.ldrOfs h.ldrLen
    if Config.sha384 ldr ≠ h.ldrHash then (s, 5)
    else
      let s := ((s.fireDomain 80).fireDomain 82).memBytes loaderBase ldr
      let s := { s with fire.version := h.version, fire.compat := h.compat, fire.keyIdx := h.keyIdx, fire.flash := f }
      let s := (s.extend 0 (Config.sha384 b) 0x81 0).extend 1 h.ldrHash 0x82 0
      let s := (((s.setF pgDEV F.DEV_BOOT_FLASH f).setF pgDEV F.DEV_FW_VERSION h.version).setF pgDEV F.DEV_FW_COMPAT
        h.compat).setFlag pgDEV F.DEV_BOOT_BOOT_FAIL false
      ({ s with fire.phase := 2 }, 0)

/-- A failed attempt's cause in DEV_BOOT. -/
def State.bootCause (s : State) (f c : Nat) : State :=
  s.setF pgDEV (if f = 0 then F.DEV_BOOT_A_CAUSE else F.DEV_BOOT_B_CAUSE) c

/-- No flash starts the device: the ROM tries again in a second (R409). -/
def State.bootFail (s : State) : State :=
  ({ s with fire.phase := 4, fire.retryAt := s.tick + 2000000000 }).setFlag pgDEV F.DEV_BOOT_BOOT_FAIL true

/-- Bisque firing from the flash to try first (R405, R406). A keeper that starts, makes the extensions of step 1 once; another flash, and the
retries of R409, repeat steps 2 to 6. -/
def State.bisque (s : State) : State :=
  if s.fire.phase ≠ 1 then s
  else
    let o := s.fire.otp
    let s := if !s.fire.started then
        (({ s with fire.started := true } : State).extend 14 (Config.lifeDigest o.life o.minVersion (o.keys.foldl (fun n kv => setBit n kv.1 true) 0 + 16 * o.revoked)) 0x87
          0).extend 0 Config.romDigest 0x80 0
      else s
    let first := s.fire.flash
    let r := s.fireFlash first
    if r.2 = 0 then r.1
    else
      let s := r.1.bootCause first r.2
      if first = 1 then s.bootFail
      else
        let r := s.fireFlash 1
        if r.2 = 0 then r.1 else (r.1.bootCause 1 r.2).bootFail

/-- The retry in BOOT_FAIL (R409). -/
def State.bootRetry (s : State) : State :=
  if s.fire.phase = 4 ∧ s.fire.retryAt ≤ s.tick then ({ s with fire.phase := 1, fire.flash := 0 }).bisque else s

/-- A failed glaze firing (R408): from FLASH_A it starts again from FLASH_B, from FLASH_B the device is in BOOT_FAIL. -/
def State.glazeFail (s : State) : State :=
  let s := s.fire.doms.foldl (fun s d => s.domainOff d) s
  let s := ({ s with fire.doms := [] }).bootCause s.fire.flash 6
  if s.fire.flash = 0 then { s with fire.phase := 1, fire.flash := 1 } else s.bootFail

/-! ### The directory (R415, R416) -/

/-- A directory entry. -/
structure DirEntry where
  ty : Nat
  unit : Nat
  ofs : Nat
  len : Nat
  dest : Nat
  hash : List Byte
  /-- Its reserved bytes are 0. -/
  clean : Bool

def parseEntry (b : List Byte) : DirEntry :=
  { ty := leAt b 0 1, unit := leAt b 1 1, ofs := leAt b 4 4, len := leAt b 8 4, dest := leAt b 0x10 8, hash := slice b 0x20 48,
    clean := allZero (slice b 2 2) && allZero (slice b 0xC 4) && allZero (slice b 0x18 8) }

/-- The cluster of an entry. -/
def DirEntry.cluster (e : DirEntry) : Nat := if e.ty = 4 then e.unit else e.unit / 8

/-- Whether [a, a + n) lies in cluster SRAM or HBM of cluster `c`, below the image store (R416). -/
def inCluster (c a n : Nat) : Bool :=
  (decide (0x18000000 + 0x800000 * c ≤ a) && decide (a + n ≤ 0x18000000 + 0x800000 * (c + 1))) ||
    (decide (0x1000000000 + 0x900000000 * c ≤ a) && decide (a + n ≤ 0x1000000000 + 0x900000000 * c + 0x8F0000000))

/-- Whether an entry is one R416 admits, content aside. -/
def DirEntry.ok (e : DirEntry) : Bool :=
  e.clean && (match e.ty with
    | 1 => decide (e.unit < 32) && decide (1 ≤ e.len) && decide (e.len ≤ 2097152) && e.dest == 0
    | 2 => decide (e.unit < 32) && e.len == 32768 && e.dest == 0
    | 3 => decide (e.unit < 32) && e.len == 131072 && e.dest == 0
    | 4 => decide (e.unit < 4) && decide (1 ≤ e.len) && inCluster e.unit e.dest e.len
    | _ => false)

/-- A second entry of TYPE 1 to 3 for one logical tile (R416). -/
def dupEntries : List DirEntry → Bool
  | [] => false
  | e :: es => (decide (e.ty ≤ 3) && es.any fun x => x.ty == e.ty && x.unit == e.unit) || dupEntries es

/-- The steps of a LOOP_PROG entry, by address, and whether the store accepts them all (R113). -/
def progSteps (b : List Byte) : SMap Nat × Bool :=
  (List.range 4096).foldl (fun m k =>
    let w := leAt b (8 * k) 8
    (if w = 0 then m.1 else SMap.put m.1 k w, m.2 && (w == 0 || stepOk w))) ([], true)

/-- Contexts of a CONTEXTS entry loaded into a tile, and whether the store accepts them all (R32, R107). -/
def State.loadContexts (s : State) (t : Nat) (b : List Byte) : State × Bool :=
  (List.range 32768).foldl (fun r i =>
    let w := leAt b (4 * i) 4
    if ctxWordOk (i % 16) w then (r.1.setCtxWord t (i / 16) (i % 16) w, r.2) else (r.1, false)) (s, true)

/-- One entry put where R416 says, with its digest extended; false where it fails. -/
def State.loadEntry (s : State) (src : List Byte) (e : DirEntry) : State × Bool :=
  let t := s.phys e.unit
  let c := e.cluster
  if Config.sha384 src ≠ e.hash then (s, false)
  else
    let s := s.extend (if e.ty = 1 ∨ e.ty = 4 then 4 + c else 8 + c) e.hash e.ty e.unit
    match e.ty with
    | 1 => if s.domOn (2 * t) then
        (({ s with dep.images := SMap.put s.dep.images e.unit src }).memBytes (0x10000000 + 0x200000 * t) src, true) else (s, false)
    | 2 =>
      let p := progSteps src
      if s.domOn (2 * t) ∧ p.2 then
        let m : SMap Nat := p.1.foldl (fun m kv => SMap.put m (4096 * t + kv.1) kv.2) (SMap.eraseBlock s.loop.prog 4096 t)
        ({ s with loop.prog := m }, true)
      else (s, false)
    | 3 => if s.domOn (2 * t) then s.loadContexts t src else (s, false)
    | _ => if s.memOn e.dest then (s.memBytes e.dest src, true) else (s, false)

/-! ### The settings journal (R418 to R420) -/

/-- The HMAC key of the journal, from the unique secret (R418). -/
def journalKey : List Byte := Config.hkdf384 Config.uniqueSecret [] 48

def JItem.bytes (i : JItem) : List Byte := toBytes i.addr 6 ++ toBytes i.kind 1 ++ [0] ++ toBytes i.value 4 ++ toBytes i.mask 4

def parseItem (b : List Byte) : JItem := ⟨leAt b 6 1, leAt b 0 6, leAt b 8 4, leAt b 12 4⟩

/-- The bytes of a transaction: kind 1 SNAPSHOT, 2 DELTA. -/
def txBytes (kind seq : Nat) (items : List JItem) : List Byte :=
  let op := toBytes 0x4A4C 2 ++ toBytes kind 2 ++ List.replicate 4 0 ++ toBytes seq 8 ++ toBytes items.length 4 ++
    List.replicate 44 0
  let body := op ++ items.flatMap JItem.bytes
  body ++ toBytes seq 8 ++ List.replicate 8 0 ++ Config.hmac384 journalKey body

/-- The transaction at the head of a byte string: kind, SEQ, items and length, where it is valid on its own (R419). -/
def parseTx (b : List Byte) : Option (Nat × Nat × List JItem × Nat) :=
  let kind := leAt b 2 2
  let seq := leAt b 8 8
  let n := leAt b 16 4
  let bl := 64 + 16 * n
  let commit := slice b bl 64
  if leAt b 0 2 = 0x4A4C ∧ (kind = 1 ∨ kind = 2) ∧ 1 ≤ n ∧ n ≤ 65535 ∧ bl + 64 ≤ b.length ∧ allZero (slice b 4 4) ∧
      allZero (slice b 20 44) ∧ leAt commit 0 8 = seq ∧ allZero (slice commit 8 8) ∧
      slice commit 16 48 = Config.hmac384 journalKey (b.take bl) then
    some (kind, seq, (List.range n).map (fun k => parseItem (slice b (64 + 16 * k) 16)), bl + 64)
  else none

/-- The valid transactions that follow a first one, by SEQ one above the last (R419): SEQ and bytes of each, in order. -/
def scanTx : Nat → List Byte → Nat → List (Nat × List JItem × List Byte)
  | 0, _, _ => []
  | fuel + 1, b, last =>
    match parseTx b with
    | some (2, seq, items, n) =>
      if seq = last + 1 then (seq, items, b.take n) :: scanTx fuel (b.drop n) seq else []
    | _ => []

/-- A half of a journal: its transactions where the first is a valid SNAPSHOT. -/
def scanHalf (b : List Byte) : List (Nat × List JItem × List Byte) :=
  match parseTx b with
  | some (1, seq, items, n) => (seq, items, b.take n) :: scanTx b.length (b.drop n) seq
  | _ => []

/-- The SEQ of the first and of the last transaction of a scan. -/
def firstSeq (x : List (Nat × List JItem × List Byte)) : Nat := match x with | [] => 0 | e :: _ => e.1
def lastSeq (x : List (Nat × List JItem × List Byte)) : Nat := match x.getLast? with | some e => e.1 | none => 0

/-- What the keeper finds in a flash: the half in use and its transactions (R419). -/
def State.scanFlash (s : State) (f : Nat) (h : Hdr) : Nat × List (Nat × List JItem × List Byte) :=
  let n := h.jrnLen / 2
  let a := scanHalf (s.flash f h.jrnOfs n)
  let b := scanHalf (s.flash f (h.jrnOfs + n) n)
  if firstSeq a < firstSeq b then (1, b) else (0, a)

def txLen (x : List (Nat × List JItem × List Byte)) : Nat := x.foldl (fun n e => n + e.2.2.length) 0

/-- Bytes programmed in a flash. -/
def State.flashWrite (s : State) (f o : Nat) (b : List Byte) : State := s.memBytes (flashBase f + o) b

/-- The journal scan: torn transactions are erased, the flash with the higher last SEQ is taken, and the other receives what it
lacks (R419). The items come in journal order. -/
def State.journalScan (s : State) (h : Hdr) : State :=
  if h.jrnLen = 0 ∨ s.fire.otp.life = 2 then { s with fire.items := [], fire.jseq := 0 }
  else
    let n := h.jrnLen / 2
    let trim := fun (s : State) (f : Nat) =>
      let r := s.scanFlash f h
      let used := txLen r.2
      s.flashWrite f (h.jrnOfs + r.1 * n + used) (List.replicate (n - used) Config.erased)
    let a := s.scanFlash 0 h
    let b := s.scanFlash 1 h
    let s := trim (trim s 0) 1
    let win := if lastSeq a.2 < lastSeq b.2 then 1 else 0
    let w := if win = 1 then b else a
    let l := if win = 1 then a else b
    let lacks := w.2.filter fun e => decide (lastSeq l.2 < e.1)
    let s :=
      if lacks.isEmpty then s
      else if firstSeq l.2 = firstSeq w.2 ∧ l.1 = w.1 then
        s.flashWrite (1 - win) (h.jrnOfs + l.1 * n + txLen l.2) (lacks.flatMap (·.2.2))
      else s.flashWrite (1 - win) (h.jrnOfs + w.1 * n) (w.2.flatMap (·.2.2))
    { s with
      fire.items := w.2.flatMap (·.2.1)
      fire.jseq := lastSeq w.2
      fire.jhalf := w.1
      fire.jend := txLen w.2 }

/-- The header in force, which lies in the flash it was started from. -/
def State.header (s : State) : Hdr := parseHdr (s.flash s.fire.flash 0 512)

/-- Whether an item with a MASK writes ARM or RUN of a generator, which no settings item may (R410). -/
def armOrRun (a mask : Nat) : Bool :=
  match target id a with
  | .page p off => p.ty == .pwmg && (List.range 16).any fun m =>
      [F.PWMG_CTRL_RUN m, F.PWMG_CTRL_ARM m].any fun f => f.off == off && bit mask f.lo
  | _ => false

/-- The physical address of a register that an item names by its logical alias. -/
def State.jAddr (s : State) (a : Nat) : Nat :=
  match aliasOf a with
  | some lt => 0x08000000 + 0x100000 * s.phys lt + a % 0x100000
  | none => a

/-- Whether an item is acceptable (R410, R418). -/
def State.jItemOk (s : State) (i : JItem) : Bool :=
  match i.kind with
  | 1 => (match target id (s.jAddr i.addr) with | .page _ off => decide (off < 0x800) | _ => false) && i.addr % 4 == 0 &&
      !armOrRun (s.jAddr i.addr) i.mask
  | 2 => decide (0x1000000000 ≤ i.addr) && decide (i.addr < 0x3400000000)
  | 3 => true
  | _ => false

/-- Two REG items for one register as one, the second after the first (R418, R419). -/
def JItem.over (x y : JItem) : JItem :=
  { y with value := maskIn x.value y.value y.mask, mask := x.mask ||| y.mask }

/-- Whether two items concern the same register, row or domain. -/
def JItem.same (x y : JItem) : Bool := x.kind == y.kind && (if x.kind = 3 then x.addr % 128 == y.addr % 128 else x.addr == y.addr)

/-- An item taken into a list in which each register, row and domain stands once. -/
def jAdd (y : JItem) : List JItem → List JItem
  | [] => [y]
  | x :: xs => if x.same y then (if x.kind = 1 then x.over y else y) :: xs else x :: jAdd y xs

/-- The whole state that a list of items gives, each register, row and domain once (R420). -/
def jState (items : List JItem) : List JItem := items.foldl (fun l i => jAdd i l) []

/-- Whether there is a journal to write: the header in force gives it a region, and it is not ignored (R412, R432). -/
def State.journalThere (s : State) : Bool := s.header.jrnLen != 0 && s.fire.otp.life != 2

/-- A transaction appended to both flashes (R420): a DELTA, after a SNAPSHOT of the applied state into the other half where a half is
more than 7/8 full. A journal that has none yet begins with a SNAPSHOT of the items, since a transaction has at least one (R418). -/
def State.journalAppend (s : State) (items : List JItem) : State :=
  let h := s.header
  let n := h.jrnLen / 2
  let both := fun (s : State) (o : Nat) (b : List Byte) => (s.flashWrite 0 o b).flashWrite 1 o b
  let snap := fun (s : State) (half : Nat) (l : List JItem) =>
    let t := txBytes 1 (s.fire.jseq + 1) l
    let s := both s (h.jrnOfs + half * n) t
    let s := both s (h.jrnOfs + (1 - half) * n) (List.replicate n Config.erased)
    { s with fire.jseq := s.fire.jseq + 1, fire.jhalf := half, fire.jend := t.length, fire.items := l }
  if s.fire.jseq = 0 then snap s 0 items
  else
    let s := if s.fire.jend * 8 ≤ n * 7 then s else snap s (1 - s.fire.jhalf) (jState s.fire.items)
    let t := txBytes 2 (s.fire.jseq + 1) items
    let s := both s (h.jrnOfs + s.fire.jhalf * n + s.fire.jend) t
    { s with
      fire.jseq := s.fire.jseq + 1
      fire.jend := s.fire.jend + t.length
      fire.items := s.fire.items ++ items }

/-- The keeper records retired rows in the settings journal (R318). -/
def State.journalRows (s : State) : State :=
  if s.mm.rowsDue.isEmpty ∨ s.fire.phase ≠ 3 then s
  else
    let items : List JItem := s.mm.rowsDue.map fun a => ⟨2, a, 0, 0⟩
    let s := { s with mm.rowsDue := [] }
    if s.journalThere then s.journalAppend items else s

/-! ### The alias key (R424) -/

/-- The identity secret: of the unique secret and the lifecycle class. -/
def State.identity (s : State) : List Byte := Config.derivePrivate Config.uniqueSecret [BitVec.ofNat 8 s.fire.otp.life]

/-- The alias key and its certificate for this firing, which carries MREG0 to MREG2 and is signed with the identity key (R424); the responder
starts (R407 step 5). -/
def State.makeAlias (s : State) : State :=
  let ms := s.mreg 0 ++ s.mreg 1 ++ s.mreg 2
  let k := Config.derivePrivate s.identity ms
  let body := Config.aliasBody (Config.derivePublic k) ms
  let cert := Config.aliasCert body (Config.ecdsaSign s.identity (Config.sha384 body))
  { s with fire.aliasKey := k, fire.aliasCert := cert, fire.spdm := true }

/-! ### Commands of the KEEP page (R433, R434) -/

/-- A command written to KEEP_CMD starts: the cause it records. -/
def State.keepStart (s : State) (req cmd : Nat) : State × Nat :=
  if s.flag pgKEEP F.KEEP_STAT_BUSY then (s, 0x20)
  else if cmd = 0 ∨ 6 < cmd then (s, causeBAD_VALUE)
  else
    let args := (List.range 4).map fun k => s.getF pgKEEP (F.KEEP_ARG_ARG k)
    (({ s with fire.keep := some ⟨cmd, args⟩ }).setFlag pgKEEP F.KEEP_STAT_BUSY true |>.setF pgKEEP F.KEEP_STAT_REQ req |>.setF
      pgKEEP F.KEEP_CMD_CMD cmd, 0)

def KeepCmd.arg (k : KeepCmd) (i : Nat) : Nat := k.args.getD i 0
/-- ARG0 and ARG1 as an address. -/
def KeepCmd.ptr (k : KeepCmd) : Nat := k.arg 0 + 2 ^ 32 * k.arg 1

/-- The items of a JOURNAL_WRITE. -/
def State.keepItems (s : State) (k : KeepCmd) : List JItem :=
  (List.range (k.arg 2)).map fun i => parseItem (Memory.readN s.mem (k.ptr + 16 * i) 16)

/-- The key hashes that a LIFECYCLE command programs: 48 bytes by slot, all zero for none. -/
def State.keepKeys (s : State) (k : KeepCmd) : SMap (List Byte) :=
  (List.range 4).filterMap fun i =>
    let b := Memory.readN s.mem (k.ptr + 48 * i) 48
    if allZero b then none else some (i, b)

/-- The authorisation of a return (R433): SERIAL, the text RETURN, the signature and the public key of an owner slot. -/
def State.returnOk (s : State) (k : KeepCmd) : Bool :=
  let b := Memory.readN s.mem k.ptr 207
  let msg := toBytes Config.serial 8 ++ [0x52#8, 0x45#8, 0x54#8, 0x55#8, 0x52#8, 0x4E#8]
  let pub := slice b 110 97
  slice b 0 14 == msg && Config.ecdsaVerify pub (Config.sha384 msg) (slice b 14 96) &&
    (List.range 4).any fun i => SMap.has s.fire.otp.keys i && !bit s.fire.otp.revoked i && s.keyHash i == Config.sha384 pub

/-- Slots programmed and not revoked. -/
def Otp.live (o : Otp) : List Nat := (List.range 4).filter fun k => SMap.has o.keys k && !bit o.revoked k

/-- Whether a command is refused (R434). A JOURNAL_WRITE without a journal to write is refused too (DESIGN CHOICE, log 69). -/
def State.keepRefused (s : State) (k : KeepCmd) : Bool :=
  let o := s.fire.otp
  match k.cmd with
  | 1 => k.arg 2 == 0 || decide (256 < k.arg 2) || !(decide (0x18000000 ≤ k.ptr) && decide (k.ptr + 16 * k.arg 2 ≤ 0x1A000000)) ||
      !s.journalThere || !(s.keepItems k).all s.jItemOk
  | 2 =>
    let f := bits (k.arg 2) 31 1
    let o := bits (k.arg 2) 0 29
    let h := parseHdr (s.flash f 0 512)
    let g := s.header
    s.hdrCause (s.flash (1 - f) 0 512) false != 0 || meets o (k.arg 3) h.jrnOfs h.jrnLen || meets o (k.arg 3) g.jrnOfs g.jrnLen ||
      decide (2 ^ 29 < o + k.arg 3)
  | 3 => decide (s.fire.version < k.arg 2) || decide (k.arg 2 < o.minVersion)
  | 4 =>
    match o.life, k.arg 2 with
    | 0, 1 => (s.keepKeys k).isEmpty && o.keys.isEmpty
    | 1, 2 => !s.returnOk k
    | _, _ => true
  | 5 => decide (3 < k.arg 2) || k.arg 2 == s.fire.keyIdx || o.live == [k.arg 2]
  | _ => decide (s.fire.log.length < k.arg 2 + k.arg 3)

/-- The OTP as its registers show it. -/
def State.showOtp (s : State) : State :=
  let o := s.fire.otp
  (((s.setF pgDEV F.DEV_FW_MIN_VERSION o.minVersion).setF pgOTP F.OTP_KEYSTAT_REVOKED o.revoked).setF pgOTP
    F.OTP_KEYSTAT_PROGRAMMED (o.keys.foldl (fun n kv => setBit n kv.1 true) 0)).setFlag pgDEV F.DEV_LIFE_PENDING o.lifeNext.isSome

/-- What a command does as it completes, but for REG items taking effect (R420, R434). -/
def State.keepEffect (s : State) (k : KeepCmd) : State :=
  let o := s.fire.otp
  match k.cmd with
  | 1 => s.journalAppend (s.keepItems k)
  | 2 => s.flashWrite (bits (k.arg 2) 31 1) (bits (k.arg 2) 0 29) (Memory.readN s.mem k.ptr (k.arg 3))
  | 3 => ({ s with fire.otp.minVersion := k.arg 2 }).showOtp
  | 4 =>
    let s := { s with fire.otp.lifeNext := some (k.arg 2) }
    let keys : SMap (List Byte) := (s.keepKeys k).foldl (fun m kv => SMap.put m kv.1 kv.2) o.keys
    (if o.life = 0 then { s with fire.otp.keys := keys } else s).showOtp
  | 5 => ({ s with fire.otp.revoked := setBit o.revoked (k.arg 2) true }).showOtp
  | _ => s.writeMem k.ptr ((slice' s.fire.log (k.arg 2) (k.arg 3)).flatMap MRec.bytes)
where
  slice' (l : List MRec) (a n : Nat) : List MRec := (l.drop a).take n

/-- A command ends with a result (R434). -/
def State.keepEnd (s : State) (result : Nat) : State :=
  ((({ s with fire.keep := none }).setFlag pgKEEP F.KEEP_STAT_BUSY false).setF pgKEEP F.KEEP_STAT_RESULT result).pulse pgKEEP 0

/-! ### Refiring bundles (R417) -/

/-- The entries of a bundle that passes every check, with its contents by type; none where one fails. -/
def State.bundle (s : State) (r : Refire) : Option (List (Nat × List Byte)) :=
  let b := Memory.readN s.mem r.img 512
  let h := parseHdr b
  let es := (List.range h.dirCount).map fun k => parseEntry (Memory.readN s.mem (r.img + h.dirOfs + 80 * k) 80)
  let dir := Memory.readN s.mem (r.img + h.dirOfs) (80 * h.dirCount)
  let body := fun (e : DirEntry) => Memory.readN s.mem (r.img + e.ofs) e.len
  if s.hdrCause b true = 0 ∧ h.compat = s.fire.compat ∧ Config.sha384 dir = h.dirHash ∧ es.all DirEntry.ok ∧
      es.all (fun e => e.ty ≤ 3 && e.unit == r.lt) ∧ !dupEntries es ∧ es.any (·.ty == 1) ∧ es.any (·.ty == 2) ∧
      es.all (fun e => Config.sha384 (body e) == e.hash) ∧ !s.logFull then
    some (es.map fun e => (e.ty, body e))
  else none

/-- The keeper has verified and measured the image of a cluster's refiring, or it fails (R367, R368, R417). -/
def State.refireVerify (s : State) (c : Nat) (r : Refire) : State :=
  match s.bundle r with
  | none => s.refireEnd c 1
  | some cs =>
    let find := fun (ty : Nat) => (cs.find? fun e => e.1 == ty).map (·.2)
    let p := progSteps ((find 2).getD [])
    if !p.2 then s.refireEnd c 1
    else
      let s := s.extend 12 (Config.sha384 (Memory.readN s.mem r.img 512)) 0x85 r.lt
      let s := s.refireShadow c r p.1 ((find 1).getD [])
      match find 3 with
      | some b => (s.loadContexts r.phys b).1
      | none => s

/-- The first refiring in STAGING whose bundle is readable is verified; it waits for a frozen memory (R321). -/
def State.refireVerified (s : State) : State :=
  match s.dep.refires.find? fun kv => !kv.2.shadow && kv.2.done.isNone && !s.memFrozen kv.2.img with
  | some (c, r) => s.refireVerify c r
  | none => s

/-! ### Resets of the keeper and of the debug domain (R401, R411) -/

/-- A reset of the keeper (R77, R349, R401, R411): a debug halt of it ends, its locks are broken and the lock windows that it opened close; before the
cores are released it switches off what the firing switched on and restarts bisque firing, and afterwards the restarted keeper repeats the
journal scan, which rolls a torn transaction back, and reapplies nothing. -/
def State.keeperReset (s : State) : State :=
  let s := if s.mon.keeper then s.monEvent 3 80 0 0 else s
  let s := (((s.satF pgRSTC F.RSTC_CNT_KEEPER).breakOwned reqKeeper 1).closeLocks reqKeeper).clearPages fun p => p.ty == .keep
  let s := (({ s with fire.keep := none, mon.keeper := false }).setPair 80 {}).wdDisable 40
  if s.fire.phase = 0 then s
  else if s.fire.phase = 3 then s.journalScan s.header
  else
    let s := s.fire.doms.foldl (fun s d => s.domainOff d) s
    { s with fire.phase := 1, fire.started := false, fire.flash := 0, fire.doms := [] }

/-- A reset of the debug domain (R349, R401, R455): open sessions close, and the monitor's locks are broken. -/
def State.debugReset (s : State) : State :=
  let n := s.mon.sessions.length
  let s := (((s.satF pgRSTC F.RSTC_CNT_DEBUG).breakOwned reqMonitor 1).closeLocks reqMonitor).clearPages fun p => p.ty == .dbg
  let s := { s with mon := { s.mon with sessions := [], hands := [] } }
  if n = 0 then s else s.pulse pgDBG 1 n

/-- A write of RSTC_CMD.GO (R401): the cause it records. -/
def State.resetCommand (s : State) (scope t : Nat) : State × Nat :=
  match scope with
  | 1 => (s.keeperReset, 0)
  | 2 => (s.debugReset, 0)
  | 3 =>
    if 40 ≤ t then (s, causeBAD_VALUE)
    else if s.role t ≤ 1 then (s, 0x20)
    else
      let s := (s.resetTile t).satF pgRSTC F.RSTC_CNT_TILE
      let s := if s.role t = 2 ∧ !s.dep.refill.contains t then { s with dep.refill := t :: s.dep.refill } else s
      (s.pulse pgRSTC 0, 0)
  | _ => (s, causeBAD_VALUE)

end Sys2Proof.Machine
end

