-- ==== Sys2Proof/Machine/SpdmOps.lean ====
section
/-! DEFINITION. Machine/SpdmOps.lean: attestation by SPDM: the responder of R425 to R430, and the requests that a group member makes of its
peers (R438). -/

namespace Sys2Proof.Machine

/-! ### SPDM (R425 to R430) -/

def State.conn (s : State) (port addr udp : Nat) : Option Conn :=
  s.fire.conns.find? fun c => c.port == port && c.addr == addr && c.udp == udp

/-- A connection put in place of the one with its key. -/
def State.setConn (s : State) (c : Conn) : State :=
  { s with fire.conns := c :: s.fire.conns.filter fun x => !(x.port == c.port && x.addr == c.addr && x.udp == c.udp) }

/-- The connection of a source; a seventeenth evicts the one idle longest (R429). -/
def State.openConn (s : State) (port addr udp : Nat) : State × Conn :=
  match s.conn port addr udp with
  | some c => (s, { c with last := s.tick })
  | none =>
    let old := s.fire.conns.foldl (fun m c => min m c.last) s.tick
    let rec drop1 : List Conn → List Conn
      | [] => []
      | c :: cs => if c.last = old then cs else c :: drop1 cs
    let s := if s.fire.conns.length < 16 then s else { s with fire.conns := drop1 s.fire.conns }
    (s, { port := port, addr := addr, udp := udp, last := s.tick })

/-- The 8 bytes before a fragment (R428). -/
def bindHeader (flags id ofs total : Nat) : List Byte := [1#8, BitVec.ofNat 8 flags] ++ beBytes id 2 ++ beBytes ofs 2 ++ beBytes total 2

/-- A message as its datagrams: each with its binding header and at most 1,392 bytes (R428). -/
def spdmFrags (id : Nat) (m : List Byte) : List (List Byte) :=
  let n := (m.length + 1391) / 1392
  (List.range n).map fun k =>
    bindHeader ((k == 0).toNat + 2 * (k + 1 == n).toNat) id (1392 * k) m.length ++ slice m (1392 * k) 1392

/-- An SPDM message leaves: in datagrams through a management port, in MGMT frames to a member (port 2, R430). -/
def State.spdmSend (s : State) (port addr udp id : Nat) (m : List Byte) : State :=
  if port = 2 then s.grpSendList addr 8 ((spdmFrags id m).map fun d => d.map (·.toNat)) else s.sendAll port addr udp (spdmFrags id m)

/-- What stands for the UDP port in the key of a connection: a connection of the group link is keyed by the member alone (R430). -/
def connUdp (port udp : Nat) : Nat := if port = 2 then 0 else udp

/-- The certificate chain of slot 0 in the standard's form (R425). -/
def State.chain (s : State) : List Byte :=
  let cs := Config.certChain ++ s.fire.aliasCert
  toBytes (cs.length + 52) 2 ++ [0, 0] ++ Config.sha384 Config.certChain ++ cs

def spdmError (code data : Nat) : List Byte := [0x12#8, 0x7F#8, BitVec.ofNat 8 code, BitVec.ofNat 8 data]

/-- A measurement block (R427). -/
def State.measBlock (s : State) (ix : Nat) : List Byte :=
  let ty := if ix = 4 then 3 else if ix = 15 then 5 else if ix = 16 then 4 else 1
  let v := if ix ≤ 16 then s.mreg (ix - 1)
    else if ix = 17 then toBytes s.fire.version 4 ++ toBytes s.fire.otp.minVersion 4
    else toBytes (0x4096 + 0xA2 * 2 ^ 16 + 2 ^ 24 * (Config.grade % 2)) 4 ++
      toBytes (s.fire.otp.life + s.fire.otp.lifeNext.isSome.toNat * 4) 4 ++
      toBytes (s.fire.version % 256 + 2 ^ 8 * s.fire.otp.minVersion + 2 ^ 16 * s.fire.compat) 4 ++ toBytes Config.serial 4
  toBytes ix 1 ++ [1] ++ toBytes (v.length + 3) 2 ++ toBytes (if 16 < ix then 0x80 + ty else ty) 1 ++ toBytes v.length 2 ++ v

/-- The bytes of a text. -/
def asciiBytes (t : String) : List Byte := t.toList.map fun c => BitVec.ofNat 8 c.toNat

/-- The 100 bytes that SPDM 1.2 puts before the digest that it signs (R426): the prefix four times, zeros, and the context. -/
def spdmPrefix (context : String) : List Byte :=
  let p := asciiBytes "dmtf-spdm-v1.2.*"
  let c := asciiBytes context
  p ++ p ++ p ++ p ++ List.replicate (36 - c.length) 0 ++ c

def challengeContext : String := "responder-challenge_auth signing"
def measureContext : String := "responder-measurements signing"

/-- The digest of a transcript that SPDM 1.2 signs in a context. -/
def spdmDigest (context : String) (m : List Byte) : List Byte := Config.sha384 (spdmPrefix context ++ Config.sha384 m)

/-- The signature of a transcript with the alias key (R426). -/
def State.aliasSign (s : State) (context : String) (m : List Byte) : List Byte :=
  Config.ecdsaSign s.fire.aliasKey (spdmDigest context m)

/-- The codes of the requests answered: GET_VERSION, GET_CAPABILITIES, NEGOTIATE_ALGORITHMS, GET_DIGESTS, GET_CERTIFICATE,
CHALLENGE, GET_MEASUREMENTS (R426). -/
def spdmCodes : List Nat := [0x84, 0xE1, 0xE3, 0x81, 0x82, 0x83, 0xE0]

/-- The response to a request, and the connection with its transcripts (R426, R427). The layouts are the standard's. -/
def State.spdmAnswer (s : State) (c : Conn) (m : List Byte) : List Byte × Conn :=
  let nonce := Config.random 32 s.free
  let p1 := leAt m 2 1
  let p2 := leAt m 3 1
  match leAt m 1 1 with
  | 0x84 =>
    let r : List Byte := [0x10, 0x04, 0, 0, 0, 1, 0x00, 0x12]
    (r, { c with vca := m ++ r, algs := false, l1 := [], mb := [] })
  | 0xE1 =>
    let r : List Byte := [0x12, 0x61, 0, 0, 0, 0, 0, 0] ++ toBytes 0x16 4 ++ toBytes 16384 4 ++ toBytes 16384 4
    (r, { c with vca := c.vca ++ m ++ r })
  | 0xE3 =>
    if bit (leAt m 8 4) 7 ∧ bit (leAt m 12 4) 1 then
      let r : List Byte := [0x12, 0x63, 0, 0] ++ toBytes 36 2 ++ [1, 0] ++ toBytes 4 4 ++ toBytes 0x80 4 ++ toBytes 2 4 ++
        List.replicate 16 0
      (r, { c with vca := c.vca ++ m ++ r, algs := true })
    else (spdmError 1 0, c)
  | 0x81 =>
    let r : List Byte := [0x12, 0x01, 0, 1] ++ Config.sha384 s.chain
    (r, { c with mb := c.mb ++ m ++ r })
  | 0x82 =>
    if p1 % 16 ≠ 0 ∨ s.chain.length ≤ leAt m 4 2 then (spdmError 1 0, c)
    else
      let part := slice s.chain (leAt m 4 2) (min (leAt m 6 2) 16376)
      let r : List Byte := [0x12, 0x02, 0, 0] ++ toBytes part.length 2 ++
        toBytes (s.chain.length - leAt m 4 2 - part.length) 2 ++ part
      (r, { c with mb := c.mb ++ m ++ r })
  | 0x83 =>
    if p1 ≠ 0 ∨ !c.algs ∨ (p2 ≠ 0 ∧ p2 ≠ 1 ∧ p2 ≠ 0xFF) then (spdmError 1 0, c)
    else
      let sum := if p2 = 0 then [] else Config.sha384 (((List.range 18).map (· + 1)).flatMap s.measBlock)
      let r : List Byte := [0x12, 0x03, 0, 1] ++ Config.sha384 s.chain ++ nonce ++ sum ++ [0, 0]
      (r ++ s.aliasSign challengeContext (c.vca ++ c.mb ++ m ++ r), { c with mb := [] })
  | _ =>
    if !c.algs ∨ (p2 ≠ 0 ∧ p2 ≠ 0xFF ∧ 18 < p2) then (spdmError 1 0, c)
    else
      let ixs := if p2 = 0 then [] else if p2 = 0xFF then (List.range 18).map (· + 1) else [p2]
      let rec_ := ixs.flatMap s.measBlock
      let r : List Byte := [0x12, 0x60] ++ toBytes (if p2 = 0 then 18 else 0) 1 ++ [0] ++ toBytes ixs.length 1 ++
        toBytes rec_.length 3 ++ rec_ ++ nonce ++ [0, 0]
      if bit p1 0 then (r ++ s.aliasSign measureContext (c.vca ++ c.l1 ++ m ++ r), { c with l1 := [] })
      else (r, { c with l1 := c.l1 ++ m ++ r })

/-! ### The requests of a group member (R430, R438) -/

/-- The MSG_ID of this member's `n`-th request: it holds the member's id, so that a response to it is told from a peer's request. -/
def State.askId (s : State) (n : Nat) : Nat := 4096 * s.ownId + n % 4096

/-- The request of a step of the exchange with a peer: GET_VERSION, GET_CAPABILITIES, NEGOTIATE_ALGORITHMS, GET_CERTIFICATE from the
length `got`, CHALLENGE with a nonce. -/
def askMsg (step got : Nat) (nonce : List Byte) : List Byte :=
  match step with
  | 0 => [0x10, 0x84, 0, 0]
  | 1 => [0x12, 0xE1, 0, 0] ++ List.replicate 8 0 ++ toBytes 16384 4 ++ toBytes 16384 4
  | 2 => [0x12, 0xE3, 0, 0] ++ toBytes 32 2 ++ [1, 0] ++ toBytes 0x80 4 ++ toBytes 2 4 ++ List.replicate 16 0
  | 3 => [0x12, 0x82, 0, 0] ++ toBytes got 2 ++ toBytes 16000 2
  | _ => [0x12, 0x83, 0, 0] ++ nonce

/-- The request of the present step leaves towards a peer. -/
def State.askNext (s : State) (k : Nat) : State :=
  let p := s.peer k
  let x := p.ask
  let m := askMsg x.step x.chain.length (Config.random 32 s.free)
  let s : State := { s with free := s.free + 1 }
  (s.setPeer k { p with ask := { x with out := some (s.askId (x.n + 1)), n := x.n + 1, sent := m, at_ := s.tick } }).spdmSend 2 k 0
    (s.askId (x.n + 1)) m

/-- The exchange with a peer begins, from GET_VERSION. -/
def State.askPeer (s : State) (k : Nat) : State := (s.setPeer k { s.peer k with ask := { n := (s.peer k).ask.n } }).askNext k

/-- The response code that each step awaits. -/
def askCode (step : Nat) : Nat := [0x04, 0x61, 0x63, 0x02].getD step 0x03

/-- The end of an exchange: the lifecycle class of the peer where its chain reaches the root and the signature of its CHALLENGE_AUTH
verifies (R438). -/
def askResult (x : Ask) (m : List Byte) : Option Nat :=
  match Config.chainCheck (x.chain.drop 52) with
  | some (pub, life) =>
    let n := m.length - 96
    if 96 ≤ m.length ∧ slice m 4 48 = Config.sha384 x.chain ∧
        Config.ecdsaVerify pub (spdmDigest challengeContext (x.log ++ x.sent ++ m.take n)) (m.drop n) then some life else none
  | none => none

/-- A response to this member's request to a peer: the next step follows, or the exchange has its result (R438). -/
def State.askAnswered (s : State) (k id : Nat) (m : List Byte) : State :=
  let p := s.peer k
  let x := p.ask
  if x.out ≠ some id then s
  else if leAt m 1 1 ≠ askCode x.step then s.setPeer k { p with ask := { x with out := none, result := some none } }
  else if x.step = 4 then s.setPeer k { p with ask := { x with out := none, result := some (askResult x m) } }
  else
    let chain := if x.step = 3 then x.chain ++ slice m 8 (leAt m 4 2) else x.chain
    let more := x.step = 3 ∧ leAt m 6 2 ≠ 0
    (s.setPeer k { p with ask := { x with
      step := if more then 3 else x.step + 1, log := x.log ++ x.sent ++ m, chain := chain } }).askNext k

/-! ### Datagrams and MGMT frames (R428 to R430) -/

/-- A fragment that its header admits, of a connection (R428, R429). A whole message of the group link that answers this member's own
request goes to the exchange with the peer. -/
def State.spdmTake (s : State) (port addr udp : Nat) (b : List Byte) : State :=
  let id := beAt b 2 2
  let ofs := beAt b 4 2
  let total := beAt b 6 2
  let data := b.drop 8
  let mine := decide (port = 2 ∧ id / 4096 = s.ownId)
  let kp := if mine then 3 else port
  let r := s.openConn kp addr udp
  let s := r.1
  let c := r.2
  if c.req.isSome then
    (if bit (leAt b 1 1) 0 then s.satF pgDEV F.DEV_BOOT_SPDM_DROP else s).setConn c
  else
    let c : Conn := match c.asm with
      | some (i, n, _) => if i = id ∧ n = total then c else { c with asm := some (id, total, s.tick), got := [] }
      | none => { c with asm := some (id, total, s.tick), got := [] }
    let got : SMap Byte := data.zipIdx.foldl (fun m x => if SMap.has m (ofs + x.2) then m else SMap.put m (ofs + x.2) x.1) c.got
    let c := { c with got := got }
    if got.length < total then s.setConn c
    else
      let msg := got.map (·.2)
      let c : Conn := { c with asm := none, got := [] }
      if mine then (s.setConn c).askAnswered addr id msg
      else if c.done = some id then (s.setConn c).spdmSend port addr udp id c.resp
      else s.setConn { c with req := some (id, msg) }

/-- Whether a fragment's header is one of R428 and the fragment lies within its message. -/
def fragOk (b : List Byte) : Bool :=
  let total := beAt b 6 2
  decide (9 ≤ b.length) && decide (b.length ≤ 1400) && leAt b 0 1 == 1 && decide (leAt b 1 1 < 4) && decide (1 ≤ total) &&
    decide (total ≤ 16384) && decide (beAt b 4 2 + (b.length - 8) ≤ total)

/-- A fragment comes through a management port, or, with port 2, in a MGMT frame of a member, whose SEQ stands in place of the UDP port
(R428 to R430, R436). -/
def State.spdmFragment (s : State) (port addr udp : Nat) (b : List Byte) : State :=
  if port = 2 then
    match s.grpTake addr 8 udp with
    | some (s, _) => if s.fire.spdm && fragOk b then s.spdmTake 2 addr 0 b else s
    | none => s
  else if s.fire.spdm && fragOk b then s.spdmTake port addr udp b else s

/-- A request not complete within 100 ms is discarded (R429). -/
def State.spdmExpire (s : State) (port addr udp : Nat) : State :=
  match s.conn port addr (connUdp port udp) with
  | some c =>
    match c.asm with
    | some (_, _, t0) => if t0 + 200000000 ≤ s.tick then s.setConn { c with asm := none, got := [] } else s
    | none => s
  | none => s

/-- A connection idle for 60 s is closed (R429). -/
def State.spdmIdle (s : State) (port addr udp : Nat) : State :=
  let u := connUdp port udp
  match s.conn port addr u with
  | some c => if c.last + 120000000000 ≤ s.tick then
      { s with fire.conns := s.fire.conns.filter fun x => !(x.port == port && x.addr == addr && x.udp == u) } else s
  | none => s

/-- A complete request of a connection is answered where its code is `code`; code 0 stands for any other (R426). The response leaves with
the request's MSG_ID (R428); a member whose CHALLENGE is answered is noted (R438). -/
def State.spdmRequest (s : State) (port addr udp code : Nat) : State :=
  let u := connUdp port udp
  match s.conn port addr u with
  | some c =>
    match c.req with
    | some (id, m) =>
      let k := leAt m 1 1
      if code ≠ 0 ∧ k ≠ code ∨ code = 0 ∧ spdmCodes.contains k then s
      else
        let r := if code = 0 then (spdmError 7 k, c) else s.spdmAnswer c m
        let s := ({ s with free := s.free + 1 }).setConn { r.2 with req := none, done := some id, resp := r.1, last := s.tick }
        let s := if port = 2 ∧ code = 0x83 ∧ leAt r.1 1 1 = 0x03 then s.setPeer addr { s.peer addr with answered := true } else s
        s.spdmSend port addr u id r.1
    | none => s
  | none => s

end Sys2Proof.Machine
end

