-- ==== Sys2Proof/Machine/GroupOps.lean ====
section
/-! DEFINITION. Machine/GroupOps.lean: device groups (chapter 16). -/

namespace Sys2Proof.Machine

/-- A change of STATE pulses IRQ_RAW bit 0. -/
def State.setGrpState (s : State) (st : Nat) : State :=
  if s.grpState = st then s else (s.setF pgGRPL F.GRP_STAT_STATE st).pulse pgGRPL 0

/-! ### The outputs of a tile (R440, R445, R446) -/

/-- The logical tiles of a partition. -/
def State.tilesOf (s : State) (q : Nat) : List Nat := (List.range 32).filter fun lt => s.fbit pgGRPL (F.GRP_PART_TILES_V q) lt

/-- The generators of a tile lose their outputs: bound local pins go to the dust sheet, and H counts as 0 for every ledger (R445, R446). -/
def State.tileDust (s : State) (t : Nat) : State :=
  (List.range 256).foldl (fun s g =>
    match s.bindMode t g with
    | 1 =>
      let s := s.pinDust (s.bindPin t g true)
      let s := if s.flag (pgPWMG t g) (F.PWMG_BIND_L_EN (g % 16)) then s.pinDust (s.bindPin t g false) else s
      s.ledOff t g
    | 2 => s.ledOff t g
    | _ => s) s

/-- The local pins of a tile take the levels that its generators command, and H counts again (R445, R446). -/
def State.tilePins (s : State) (t : Nat) : State :=
  (List.range 256).foldl (fun s g =>
    let b := pgPWMG t g
    let m := g % 16
    if s.bindMode t g = 1 ∧ !s.flag b (F.PWMG_STAT_DS m) ∧ s.drivesPins t then
      let h := s.flag b (F.PWMG_STAT_H m)
      let s := (s.pinTo t g (s.bindPin t g true) h).ledH t g (32 * s.tick) h
      if s.flag b (F.PWMG_BIND_L_EN m) then s.pinTo t g (s.bindPin t g false) (s.flag b (F.PWMG_STAT_L m)) else s
    else s) s

/-- What a member drives has changed by other means than a handover: the tiles that it no longer drives lose their outputs, and those that it
now drives get theirs (R440, R446). -/
def State.regroup (s old : State) : State :=
  (List.range 40).foldl (fun s t =>
    if old.drivesPins t && !s.drivesPins t then s.tileDust t
    else if !old.drivesPins t && s.drivesPins t then s.tilePins t else s) s

/-! ### The configuration set (R439) -/

/-- The sixteen PART words and the application words of a copy: active, or staging. -/
def State.grpWords (s : State) (active : Bool) : List Nat :=
  (List.range 8).flatMap (fun q =>
    let f := fun (a b : Fld) => s.getF pgGRPL (if active then a else b)
    [f (F.GRP_PART_CFG_MEMBERS q) (F.GRP_SPART_CFG_MEMBERS q) + 2 ^ 8 * f (F.GRP_PART_CFG_PRIMARY q) (F.GRP_SPART_CFG_PRIMARY q) +
       2 ^ 11 * f (F.GRP_PART_CFG_REF_LT q) (F.GRP_SPART_CFG_REF_LT q) +
       2 ^ 16 * f (F.GRP_PART_CFG_REF_GEN q) (F.GRP_SPART_CFG_REF_GEN q) +
       2 ^ 24 * f (F.GRP_PART_CFG_MROT q) (F.GRP_SPART_CFG_MROT q),
     f (F.GRP_PART_TILES_V q) (F.GRP_SPART_TILES_V q)]) ++
  (List.range 128).map fun n => s.getF pgGRPL (if active then F.GRP_APP_V n else F.GRP_SAPP_V n)

/-- The digest of a set at an EPOCH. -/
def grpDigest (epoch : Nat) (words : List Nat) : List Byte := Config.sha384 (toBytes epoch 8 ++ words.flatMap fun w => toBytes w 4)

def State.epoch (s : State) : Nat := s.getF pgGRPL F.GRP_EPOCH_EPOCH

/-- The digest of the active set. -/
def State.activeDigest (s : State) : List Byte := grpDigest s.epoch (s.grpWords true)

/-- The agreed digest. -/
def State.agreedDigest (s : State) : List Byte := grpDigest s.grp.agreedEpoch s.grp.agreed

/-- A set put in the active registers; outputs follow where it moves tiles between partitions (R440). -/
def State.setActive (s : State) (words : List Nat) (epoch : Nat) : State :=
  let old := s
  let s := (List.range 8).foldl (fun s q =>
    let c := words.getD (2 * q) 0
    (((((s.setF pgGRPL (F.GRP_PART_CFG_MEMBERS q) c).setF pgGRPL (F.GRP_PART_CFG_PRIMARY q) (bits c 8 3)).setF pgGRPL
      (F.GRP_PART_CFG_REF_LT q) (bits c 11 5)).setF pgGRPL (F.GRP_PART_CFG_REF_GEN q) (bits c 16 8)).setF pgGRPL
      (F.GRP_PART_CFG_MROT q) (bits c 24 4)).setF pgGRPL (F.GRP_PART_TILES_V q) (words.getD (2 * q + 1) 0)) s
  let s := (List.range 128).foldl (fun s n => s.setF pgGRPL (F.GRP_APP_V n) (words.getD (16 + n) 0)) s
  (s.setF pgGRPL F.GRP_EPOCH_EPOCH epoch).regroup old

/-- The active set becomes the agreed one, and GRP_DIGEST shows it. -/
def State.agree (s : State) : State :=
  let s := { s with grp.agreed := s.grpWords true, grp.agreedEpoch := s.epoch }
  let d := s.agreedDigest
  (List.range 12).foldl (fun s w => s.setF pgGRPL (F.GRP_DIGEST_V w) (leAt d (4 * w) 4)) s

/-- The set as REG items of the settings journal (R420, R439). -/
def State.grpItems (s : State) : List JItem :=
  let ws := s.grpWords true
  let reg := fun (off v : Nat) => (⟨1, pgGRPL + off, v, 0xFFFFFFFF⟩ : JItem)
  (List.range 16).map (fun i => reg (0x200 + 4 * i) (ws.getD i 0)) ++
    (List.range 128).map (fun n => reg (0x400 + 4 * n) (ws.getD (16 + n) 0)) ++
    [reg 0x70 (s.epoch % 2 ^ 32), reg 0x74 (s.epoch / 2 ^ 32)]

/-- The keeper writes a newly agreed set to the journal (R420, R439). -/
def State.grpJournal (s : State) : State :=
  let items := s.grpItems
  items.foldl (fun s i => s.journalReg i.addr i.value i.mask) (s.journalAppend items)

/-! ### Group periods (R439) -/

/-- Physical tile and generator that give a partition's period. -/
def State.refOf (s : State) (q : Nat) : Nat × Nat :=
  (s.phys (s.getF pgGRPL (F.GRP_PART_CFG_REF_LT q)), s.getF pgGRPL (F.GRP_PART_CFG_REF_GEN q))

def State.partPnum (s : State) (q : Nat) : Nat :=
  let r := s.refOf q
  s.getF (pgPWMG r.1 r.2) (F.PWMG_PNUM_PNUM (r.2 % 16))

/-- The partition whose period numbers a commit uses: the first one that this member may own. -/
def State.grpPart (s : State) : Nat :=
  ((List.range 8).find? fun q => s.fbit pgGRPL (F.GRP_PART_CFG_MEMBERS q) s.ownId).getD 0

def State.grpPnum (s : State) : Nat := s.partPnum s.grpPart

/-- Whether the generator of a partition's period runs. -/
def State.grpClocked (s : State) (q : Nat) : Bool :=
  let r := s.refOf q
  s.flag (pgPWMG r.1 r.2) (F.PWMG_CTRL_RUN (r.2 % 16))

/-! ### Time (R452, R453) -/

/-- Whether this member is healthy (R452). -/
def State.healthy (s : State) : Bool :=
  let src := s.getF pgGRPL F.GRP_TIME_OWN_SRC
  let ofs := sgn 24 (s.getF pgTBAS F.TBAS_OFFSET_OFFSET)
  let thr : Int := ((32 * s.getF pgTBAS F.TBAS_CTRL_LOCK_THR : Nat) : Int)
  s.flag pgGRPL F.GRP_TIME_ELIG && !s.flag pgCLKG F.REF_STAT_HOLDOVER &&
    (src == 0 || (decide (s.tick < s.time.lastMeas + 4000000000) && decide (ofs < thr) && decide (-ofs < thr)))

/-- The time master is chosen again (R452). -/
def State.chooseMaster (s : State) : State :=
  let me := s.ownId
  let ok := s.healthy
  let s := s.setFlag pgGRPL F.GRP_TIME_HEALTHY ok
  if s.grpState ≠ 2 then s
  else
    let inG := fun k => k == me || (s.present k && (s.peer k).state == 2)
    let hl := fun k => inG k && (if k = me then ok else (s.peer k).healthy)
    let none_ := !((List.range 8).any hl)
    let m := ((List.range 8).find? fun k => if none_ then inG k else hl k).getD me
    let s := s.setFlag pgGRPL F.GRP_TIME_NO_HEALTHY none_
    if s.getF pgGRPL F.GRP_TIME_MASTER = m then s else (s.setF pgGRPL F.GRP_TIME_MASTER m).pulse pgGRPL 6

/-- Whether this member is the time master: a member that is not in MEMBER is none (R452). -/
def State.isMaster (s : State) : Bool := s.grpState == 2 && s.getF pgGRPL F.GRP_TIME_MASTER == s.ownId

/-- The partitions whose token names member `k`. -/
def State.owned (s : State) (k : Nat) : List Nat := (List.range 8).filter fun q => s.getF pgGRPL (F.grpOwner q) == k

/-- A measured offset (R453); it is also the root's measurement where the group is its source (R452). -/
def State.offsetTaken (s : State) (ofs : Int) : State :=
  let s := if s.getF pgTBAS F.TBAS_CTRL_SRC = 4 then s.timeMeasure ofs else s
  let mag : Int := if ofs < 0 then -ofs else ofs
  let s := s.setF pgGRPL F.GRP_TIME_OFFSET (wrap 16 (satS 16 ofs))
  let div := s.flag pgGRPL F.GRP_TIME_DIVERGED
  if mag > 1600 then
    let s := { s with grp.small := 0 }
    let s := (s.owned s.ownId).foldl (fun s q => s.setFbit pgGRPL F.GRP_REL_RELEASE q true) s
    if div then s else (s.setFlag pgGRPL F.GRP_TIME_DIVERGED true).pulse pgGRPL 4
  else
    let n := if mag < 800 then s.grp.small + 1 else 0
    let s := { s with grp.small := n }
    if div ∧ n ≥ 8 then (s.setFlag pgGRPL F.GRP_TIME_DIVERGED false).pulse pgGRPL 4 else s

/-- A TIME exchange (R436, R453). A follower's frame tells the tick of its departure; the master's answer to it, whose SEQ is the next of its
stream, those of its arrival and of the answer's own departure. `ofs` is half the difference of the two one-way intervals, positive where the
count here leads the master's. -/
def State.timeExchange (s : State) (ofs : Int) : State :=
  let s := s.chooseMaster
  let m := s.getF pgGRPL F.GRP_TIME_MASTER
  if !s.grpOn ∨ s.grpState ≠ 2 then s
  else if s.isMaster then (List.range 8).foldl (fun s k => if s.present k then s.grpSend k 2 [s.count, s.count] else s) s
  else
    let s := s.grpSend m 2 [s.count]
    let p := s.peer m
    let s := s.setPeer m { p with seqs := SMap.put p.seqs 2 (match SMap.get? p.seqs 2 with | some l => (l + 1) % 65536 | none => 0) }
    s.offsetTaken ofs

/-! ### Admission (R437, R438) -/

/-- A lane has block lock, or a STATUS has come: an expected peer makes a member that is alone join (R438). -/
def State.grpJoin (s : State) (k : Nat) : State :=
  if s.laneUsed k ∧ s.grpState = 0 ∧ s.fbit pgGRPL F.GRP_CTRL_EXPECT k then s.setGrpState 1 else s

/-- The challenge of a peer that is to be admitted begins, or begins again after 100 ms without a result (R438). -/
def State.grpAsk (s : State) (k : Nat) : State :=
  let x := (s.peer k).ask
  if s.laneUsed k ∧ s.fbit pgGRPL F.GRP_CTRL_EXPECT k ∧ !s.present k ∧ s.fire.spdm ∧ x.result.isNone ∧
      (x.out.isNone ∨ x.at_ + 200000000 ≤ s.tick) then s.askPeer k
  else s

def State.grpLaneLock (s : State) (k : Nat) : State :=
  ((s.setPeer k { s.peer k with lock := some s.tick }).grpJoin k).grpAsk k

/-- HELD is set (R449). -/
def State.setHeld (s : State) : State :=
  if s.flag pgGRPL F.GRP_STAT_HELD then s
  else (({ s with grp.calm := 0 }).setFlag pgGRPL F.GRP_STAT_HELD true).pulse pgGRPL 2

/-- A digest differs from the agreed one: HELD is set, and its end waits for eight periods from now on (R449). -/
def State.digestBad (s : State) : State := { s.setHeld with grp.calm := 0, grp.calmBad := true }

/-- The partitions of an owner that is lost can be claimed: the frames from now on count, not one that runs already (R444). -/
def State.ownerGone (s : State) (k : Nat) : State :=
  (s.owned k).foldl (fun s q =>
    if SMap.has s.grp.lostSeen q then s
    else { s with grp.lostSeen := SMap.put s.grp.lostSeen q (if s.grp.frame.isSome then 0 else 1) }) s

/-- The owner of partitions is heard again: they cannot be claimed for its loss any more (R444). -/
def State.ownerBack (s : State) (k : Nat) : State :=
  (s.owned k).foldl (fun s q => { s with grp.lostSeen := SMap.erase s.grp.lostSeen q }) s

/-- A STATUS frame is taken (R436 to R438). The peer is not lost any more; with another COMPAT it is no member, and what it owns is claimed as
if it were lost (R451). HELD is set where the peer's own has come up since its last STATUS (R449). -/
def State.statusReceive (s : State) (k src seq : Nat) (st : GStat) : State :=
  match s.grpTake k 1 seq with
  | none => s
  | some (s, _) =>
    let p := s.peer k
    let s := s.setPeer k { p with
      id := src, seen := some s.tick, gid := st.gid, compat := st.compat, version := st.version, state := st.state
      epoch := st.epoch, release := st.release, track := st.track, diverged := st.diverged, healthy := st.healthy
      held := st.held, lost := false }
    let s := (((s.setF pgGRPL (F.GRP_PEER_COMPAT k) st.compat).setF pgGRPL (F.GRP_PEER_VERSION k) st.version).setF pgGRPL
      (F.GRP_PEER_STATE k) st.state).setFlag pgGRPL (F.GRP_PEER_DIVERGED k) st.diverged
    let s := if st.compat = s.fire.compat then s.ownerBack k else (s.setFbit pgGRPL F.GRP_STAT_PRESENT k false).ownerGone k
    let s := (s.grpJoin k).grpAsk k
    let s := if st.held ∧ !p.held ∧ s.present k ∧ s.grpState = 2 then s.setHeld else s
    s.chooseMaster

/-- A lane on which no STATUS has come for LOSS_TMO: its member is lost (R437). -/
def State.memberLost (s : State) (k : Nat) : State :=
  let p := s.peer k
  if !s.laneUsed k ∨ p.lost ∨ s.tick < p.seen.getD s.grp.onAt + 2000 * s.getF pgGRPL F.GRP_CTRL_LOSS_TMO then s
  else
    let s := s.setPeer k { p with lost := true, ask := { n := p.ask.n }, answered := false }
    let s := ((s.setFbit pgGRPL F.GRP_STAT_PRESENT k false).satF pgGRPL F.GRP_STAT_LOST).pulse pgGRPL 0
    (s.ownerGone k).chooseMaster

/-- Whether the challenges of both directions are through (R438): this member has its result, and the peer has been answered. -/
def Peer.challenged (p : Peer) : Bool := p.ask.result.isSome && (p.answered || p.ask.result == some none)

/-- The first condition of R438 that a peer fails, as CAUSE has it (0 none): the group and id, COMPAT, the challenges with
the chains and lifecycle states, and the configuration sets. -/
def State.admitCause (s : State) (k : Nat) (auth : Bool) : Nat :=
  let p := s.peer k
  if p.gid ≠ s.getF pgGRPL F.GRP_CTRL_GROUP_ID ∨ p.id ≠ k ∨ !s.fbit pgGRPL F.GRP_CTRL_EXPECT k then 1
  else if p.compat ≠ s.fire.compat then 2
  else if !auth ∨ (p.ask.result.isSome ∧ p.ask.result ≠ some (some s.fire.otp.life)) then 3
  else if p.epoch = s.epoch ∧ p.digest ≠ [] ∧ p.digest ≠ s.activeDigest then 4
  else 0

/-- The admission of a peer (R438, R439). A set with a lower EPOCH is first replaced by XFER; the challenges and a commit in progress are waited
for (R450). A member that has formed the group stays in it when a peer is refused (R451). -/
def State.peerAdmission (s : State) (k : Nat) (auth : Bool) : State :=
  let p := s.peer k
  if !s.laneUsed k ∨ s.grpState = 0 ∨ s.grpState = 3 ∨ p.seen.isNone ∨ s.present k ∨ s.grp.commit.isSome then s
  else match s.admitCause k auth with
    | 0 =>
      if !p.challenged then s
      else if p.epoch < s.epoch then s.grpSend k 9 (s.epoch :: s.grpWords true)
      else if s.epoch < p.epoch ∨ p.digest = [] then s
      else
        let s := s.agree
        let s := (s.setFbit pgGRPL F.GRP_STAT_PRESENT k true).setFbit pgGRPL F.GRP_STAT_PRESENT s.ownId true
        ((s.setF pgGRPL F.GRP_STAT_CAUSE 0).setGrpState 2).chooseMaster
    | c =>
      let s := s.setF pgGRPL F.GRP_STAT_CAUSE c
      if s.grpState = 2 then s else ({ s with grp.retryAt := s.tick + 200000000 }).setGrpState 3

/-- A refused member tries again, with the challenges of every peer that is not admitted (R438). -/
def State.admissionRetry (s : State) : State :=
  if s.grpOn ∧ s.grpState = 3 ∧ s.grp.retryAt ≤ s.tick then
    (List.range 8).foldl (fun s k =>
      let p := s.peer k
      if s.present k || p.ask.result.isNone then s
      else (s.setPeer k { p with ask := { n := p.ask.n } }).grpAsk k) (s.setGrpState 1)
  else s

/-- What follows a write of GRP_CTRL.EN: a member starts in ALONE (R438), and drives what its tokens name (R440, R446). -/
def State.grpEnable (s : State) (on : Bool) : State :=
  let old := s.setFlag pgGRPL F.GRP_CTRL_EN (!on)
  let q := s.grp
  let g : GrpSt := { txSeq := q.txSeq, agreed := q.agreed, agreedEpoch := q.agreedEpoch, onAt := s.tick }
  let s : State := { s with grp := g }
  let s := (s.setF pgGRPL F.GRP_STAT_PRESENT 0).setGrpState 0
  let s := (List.range 8).foldl (fun s q => s.setFlag pgGRPL (F.grpDrive q) (on && s.getF pgGRPL (F.grpOwner q) == s.ownId)) s
  s.regroup old

/-- STATUS frames leave every 20,000 ticks (R436). -/
def State.statusSend (s : State) : State :=
  if !s.grpOn ∨ s.tick < s.grp.statusAt + 20000 then s
  else
    let s := ({ s with grp.statusAt := s.tick }).chooseMaster
    s.grpSendAll 1 [s.getF pgGRPL F.GRP_CTRL_GROUP_ID, s.fire.compat, s.fire.version, s.grpState, s.epoch,
      (s.flag pgGRPL F.GRP_TIME_HEALTHY).toNat + (s.flag pgGRPL F.GRP_TIME_DIVERGED).toNat * 2 +
        (s.flag pgGRPL F.GRP_STAT_HELD).toNat * 4,
      s.getF pgGRPL F.GRP_REL_RELEASE, s.getF pgGRPL F.GRP_TRACK_TRACK_OK,
      (List.range 8).foldl (fun n q => n + s.getF pgGRPL (F.grpOwner q) * 8 ^ q) 0]

/-- An EVENT frame fires a producer of the device lath (R235, R437). -/
def State.grpEvent (s : State) (k seq n : Nat) : State :=
  match s.grpTake k 7 seq with
  | none => s
  | some (s, _) => s.produce lathDev (40 + n) true 2 true

/-! ### Ownership (R440 to R447) -/

/-- Whether this member claims a partition in the frame that starts (R444). A lost owner's partition is one of `lostSeen`: with TRACK_OK in the
next frame, without it from the second. -/
def State.claims (s : State) (q : Nat) : Bool :=
  let o := s.getF pgGRPL (F.grpOwner q)
  let lost := SMap.has s.grp.lostSeen q
  s.fbit pgGRPL (F.GRP_PART_CFG_MEMBERS q) s.ownId && s.grpState == 2 && !s.flag pgGRPL F.GRP_TIME_DIVERGED && o != s.ownId &&
    !s.flag pgGRPL F.GRP_OWNSTAT_BUS_FAULT &&
    (bit s.grp.claims q || (!lost && bit (s.peer o).release q) ||
      (lost && (s.fbit pgGRPL F.GRP_TRACK_TRACK_OK q || decide (2 ≤ SMap.getD s.grp.lostSeen q 0))))

/-- A GRP_OWN frame starts: the time master starts it on its count, another member takes it from the preamble's edge (R441). What this
member drives is settled then; it drives no slot before it has accepted two frames (R442). -/
def State.ownStart (s : State) : State :=
  if !s.grpOn ∨ s.grp.frame.isSome ∨ (s.isMaster && s.count % 100000 != 0) then s
  else
    let steady := decide (2 ≤ s.grp.accepted)
    let c := if steady then (List.range 8).foldl (fun n q => setBit n q (s.claims q)) 0 else 0
    let f : OwnFrame := ⟨s.tick, s.isMaster, c, s.ownId, steady, (List.range 8).map fun q => s.getF pgGRPL (F.grpOwner q)⟩
    { s with grp.frame := some f, grp.claims := if steady then 0 else s.grp.claims }

/-- Whether this member drives bit `n` of a frame low, where the bits below `n` read `w` (R441, R442): the preamble as the time master, the
claim bits of its claims, and a 0 bit of its own id as a claimant that has read back every bit it left high, or of its token where nobody
claims. -/
def OwnFrame.low (f : OwnFrame) (w n : Nat) : Bool :=
  let q := (n - 2) / 4
  let r := (n - 2) % 4
  if n = 0 then f.master
  else if n = 1 then false
  else if r = 0 then bit f.claims q
  else if bit w (2 + 4 * q) then f.steady && !bit (f.ids.getD q 7) (3 - r)
  else bit f.claims q && !bit f.me (3 - r) && (List.range r).all fun i => i == 0 || bit w (2 + 4 * q + i) == bit f.me (3 - i)

/-- The levels of a line over a frame, low wherever the others or this member drive it low. -/
def OwnFrame.levels (f : OwnFrame) (others : Nat) : Nat :=
  (List.range 34).foldl (fun w n => setBit w n (bit others n && !f.low w n)) 0

/-- Ticks of a frame: 34 bits of 2,000 (R441). -/
def ownTicks : Nat := 34 * 2000

/-- The owner id in the slot of partition `q` of a frame's 34 levels, most significant bit first (R441). -/
def slotId (w q : Nat) : Nat := (bit w (3 + 4 * q)).toNat * 4 + (bit w (4 + 4 * q)).toNat * 2 + (bit w (5 + 4 * q)).toNat

/-- Whether a frame is accepted (R443). -/
def ownAccepted (a b : Nat) : Bool := !bit a 0 && !bit b 0 && bit a 1 && bit b 1 && bits a 2 32 == bits b 2 32

/-- The token of a partition takes the id read in its slot (R443 to R445). -/
def State.setToken (s : State) (q id : Nat) (claimed : Bool) : State :=
  let old := s.getF pgGRPL (F.grpOwner q)
  if old = id then
    if SMap.has s.grp.lostSeen q ∧ !claimed then { s with grp.lostSeen := SMap.upd s.grp.lostSeen q 0 (· + 1) } else s
  else
    let s := (s.setF pgGRPL (F.grpOwner q) id).setFbit pgGRPL F.GRP_REL_RELEASE q false
    let s : State := { s with grp.lostSeen := SMap.erase s.grp.lostSeen q }
    let s := if (s.peer id).lost then { s with grp.lostSeen := SMap.put s.grp.lostSeen q 1 } else s
    let s := (s.satF pgGRPL F.GRP_OWNSTAT_CHANGES).pulse pgGRPL 1
    if old = s.ownId ∨ id = s.ownId then
      { s with grp.hand := SMap.put s.grp.hand q (s.tick + 20000, id == s.ownId) }
    else s

/-- The end of bit 33 of a GRP_OWN frame, with the levels that the others leave on both lines (R441 to R443). -/
def State.ownEnd (s : State) (x y : Nat) : State :=
  match s.grp.frame with
  | none => s
  | some f =>
    if !s.grpOn ∨ s.tick < f.at_ + ownTicks then s
    else
      let a := f.levels x
      let b := f.levels y
      let s := { s with grp.frame := none, grp.lines := some (a, b) }
      if ownAccepted a b then
        let s := { s with grp.accepted := s.grp.accepted + 1, grp.badRow := 0 }
        let s := s.setFlag pgGRPL F.GRP_OWNSTAT_BUS_FAULT false
        (List.range 8).foldl (fun s q => s.setToken q (slotId a q) (!bit a (2 + 4 * q))) s
      else
        let s := ({ s with grp.badRow := s.grp.badRow + 1 }).satF pgGRPL F.GRP_OWNSTAT_DISCARDS
        if s.grp.badRow ≥ 3 ∧ !s.flag pgGRPL F.GRP_OWNSTAT_BUS_FAULT then
          (s.setFlag pgGRPL F.GRP_OWNSTAT_BUS_FAULT true).pulse pgGRPL 5
        else s

/-- A write of GRP_CLAIM.GO (R444): the cause it records. -/
def State.grpClaim (s : State) (q : Nat) : State × Nat :=
  if s.fbit pgGRPL (F.GRP_PART_CFG_MEMBERS q) s.ownId then ({ s with grp.claims := setBit s.grp.claims q true }, 0) else (s, 0x20)

/-- The outputs of a partition end here (R445). -/
def State.partDust (s : State) (q : Nat) : State := (s.tilesOf q).foldl (fun s lt => s.tileDust (s.phys lt)) s

/-- The SEQ streams of the remote legs of a partition advance by 4,096 (R445). -/
def State.partSeq (s : State) (q : Nat) : State :=
  (s.tilesOf q).foldl (fun s lt => (List.range 256).foldl (fun s g =>
    let t := s.phys lt
    if s.bindMode t g = 2 then
      let r := s.bindRing t g
      let x := s.ring r
      s.setRing r { x with seqs := SMap.upd x.seqs (s.bindPos t g * 4 + s.bindLeg t g) 0 fun n => (n + 4096) % 65536 }
    else s) s) s

/-- A partition's handover tick has come (R445). -/
def State.handOverPart (s : State) (q : Nat) (gained : Bool) : State :=
  let s : State := { s with grp.hand := SMap.erase s.grp.hand q }
  if gained then
    let s := (s.setFlag pgGRPL (F.grpDrive q) true).partSeq q
    { s with grp.localAt := SMap.put s.grp.localAt q (s.tick + 100) }
  else
    let s := (s.setFlag pgGRPL (F.grpDrive q) false).partDust q
    { s with grp.localAt := SMap.erase s.grp.localAt q }

/-- The local pins of a partition gained take the levels that its generators command (R445). -/
def State.partPins (s : State) (q : Nat) : State :=
  let s : State := { s with grp.localAt := SMap.erase s.grp.localAt q }
  (s.tilesOf q).foldl (fun s lt => s.tilePins (s.phys lt)) s

/-- Local pins due at the present tick (R445). -/
def State.groupTick (s : State) : State :=
  s.grp.localAt.foldl (fun s kv => if kv.2 ≤ s.tick then s.partPins kv.1 else s) s

/-! ### Mirrors (R448) -/

/-- A MIRROR frame: its words wait for their boundary, and TRACK_OK follows (R448). -/
def State.mirrorReceive (s : State) (k seq q period : Nat) (ws : List MirW) : State :=
  match s.grpTake k 6 seq with
  | none => s
  | some (s, gap) =>
    let track := fun (s : State) (q : Nat) (b : Bool) => s.setFbit pgGRPL F.GRP_TRACK_TRACK_OK q b
    let s := if gap then
        (s.owned k).foldl (fun s q => { track s q false with grp.mirror := SMap.erase s.grp.mirror q }) s
      else s
    if s.getF pgGRPL (F.grpOwner q) ≠ k ∨ !s.fbit pgGRPL (F.GRP_PART_CFG_MEMBERS q) s.ownId then s
    else
      let first := SMap.getD s.grp.mirror q period
      let s : State := { s with grp.mirror := SMap.put s.grp.mirror q first }
      let s := if 2 * 2 ^ s.getF pgGRPL (F.GRP_PART_CFG_MROT q) ≤ (period + 1 + 2 ^ 32 - first) % 2 ^ 32 then track s q true else s
      let mine := ws.filter fun w => s.fbit pgGRPL (F.GRP_PART_TILES_V q) w.lt
      mine.foldl (fun s w =>
        let t := s.phys w.lt
        let c : CoreWrite := ⟨reqGroup, w.ctx, w.off, w.size, w.data, 0⟩
        if !c.ok then s
        else if s.ctxArmed t w.ctx then { s with grp.mir := s.grp.mir ++ [w] } else s.applyCore t c) s

/-- At a reload of generator `g` of tile `t`, the mirrored words of its contexts whose boundary this is enter its stage
(R448). -/
def State.mirrorDue (s : State) (t g : Nat) : State :=
  let p := s.getF (pgPWMG t g) (F.PWMG_PNUM_PNUM (g % 16)) + 1
  let due := fun (w : MirW) => s.phys w.lt == t && s.ctxGen t w.ctx == some g && decide (w.period ≤ p)
  let s' : State := { s with grp.mir := s.grp.mir.filter fun w => !due w }
  (s.grp.mir.filter due).foldl (fun s w => (s.takeCore t ⟨reqGroup, w.ctx, w.off, w.size, w.data, 0⟩).1) s'

/-- The owner's MIRROR frames of a group period (R448): every core write that the staging of the partition's contexts has taken since the
last, with the period number of its boundary, and STATE0 to STATE4 and CTX_STAT of the contexts whose turn it is, as words of tile,
context, offset, size, data and period. -/
def State.mirrorSend (s : State) (q : Nat) : State :=
  if s.getF pgGRPL (F.grpOwner q) ≠ s.ownId ∨ s.grpState ≠ 2 then s
  else
    let p := s.partPnum q + 1
    let rot := 2 ^ s.getF pgGRPL (F.GRP_PART_CFG_MROT q)
    let mine := fun (w : MirW) => s.fbit pgGRPL (F.GRP_PART_TILES_V q) w.lt
    let staged := (s.grp.mout.filter mine).flatMap fun w => [w.lt, w.ctx, w.off, w.size, w.data, w.period]
    let words := (s.tilesOf q).flatMap fun lt =>
      let t := s.phys lt
      ((List.range 2048).filter fun n => n % rot == p % rot).flatMap fun n =>
        [10, 11, 12, 13, 14, 15].flatMap fun w => [lt, n, 4 * w, 4, s.ctxWord t n w, p]
    ({ s with grp.mout := s.grp.mout.filter fun w => !mine w }).grpSendAll 6 (q :: p :: staged ++ words)

/-! ### Configuration and the two-phase commit (R439, R449, R450) -/

/-- The end of a commit. -/
def State.commitEnd (s : State) (phase cause : Nat) : State :=
  ((({ s with grp.commit := none }).setF pgGRPL F.GRP_CSTAT_PHASE phase).setF pgGRPL F.GRP_CSTAT_CAUSE cause).pulse pgGRPL 3

/-- A group boundary of partition `q`: a commit that is due and decided applies, an agreed set that has come is applied, and
the owner sends its mirrors (R439, R448 to R450). -/
def State.groupBoundary (s : State) (q : Nat) : State :=
  let s := match s.grp.commit with
    | some c =>
      if q = s.grpPart ∧ c.decide_ = some true ∧ c.p ≤ s.partPnum q + 1 then
        ((s.setActive (s.grpWords false) c.epoch).agree.commitEnd 4 0).grpJournal
      else s
    | none => s
  let s := match s.grp.xfer with
    | some (ws, e) => (({ s with grp.xfer := none }).setActive ws e).agree
    | none => s
  s.mirrorSend q

/-- What a reload of generator `g` of tile `t` means to the group, before the reload itself (R439, R445, R448): `r` is its
tick. -/
def State.groupReload (s : State) (t g : Nat) : State :=
  let r := s.nextReload t g
  if !s.grpOn ∨ s.tick < r then s
  else
    let s := s.grp.hand.foldl (fun s kv =>
      let ref := s.refOf kv.1
      let h := s.nextReload ref.1 ref.2
      if kv.2.1 ≤ h ∧ h ≤ r then s.handOverPart kv.1 kv.2.2 else s) s
    let s := s.mirrorDue t g
    (List.range 8).foldl (fun s q => if s.refOf q = (t, g) ∧ s.tilesOf q ≠ [] then s.groupBoundary q else s) s

/-- A set by XFER: applied at the next group boundary (R439); at once where no generator gives one. -/
def State.configTransfer (s : State) (k seq epoch : Nat) (ws : List Nat) : State :=
  match s.grpTake k 9 seq with
  | none => s
  | some (s, _) =>
    if epoch ≤ s.epoch then s
    else if (List.range 8).any fun q => s.tilesOf q != [] && s.grpClocked q then { s with grp.xfer := some (ws, epoch) }
    else (s.setActive ws epoch).agree

/-- The active set is not the agreed one though its EPOCH is: HELD, and the agreed copy comes back at the next boundary (R449). -/
def State.restoreSet (s : State) : State :=
  let t := s.digestBad
  { t with grp.xfer := some (t.grp.agreed, t.grp.agreedEpoch), grp.calmBad := false }

/-- A group period in which every digest agreed counts towards the end of HELD (R449). -/
def State.calmPeriod (s : State) : State :=
  let n := if s.grp.calmBad then 0 else s.grp.calm + 1
  let t : State := { s with grp.calm := n, grp.calmBad := false }
  if t.flag pgGRPL F.GRP_STAT_HELD && decide (n ≥ 8) then (t.setFlag pgGRPL F.GRP_STAT_HELD false).pulse pgGRPL 2 else t

/-- The words of a CONFIG frame (R436): period number, EPOCH, commit phase, and the digest of the active set. -/
def State.configWords (s : State) : List Nat :=
  s.grpPnum :: s.epoch :: s.getF pgGRPL F.GRP_CSTAT_PHASE :: s.activeDigest.map (·.toNat)

/-- The check of a group period (R436, R449): CONFIG leaves, from a joining member too, and a member compares its set with the agreed digest. -/
def State.digestCheck (s : State) : State :=
  if !s.grpOn then s
  else
    let t := s.grpSendAll 3 s.configWords
    if t.grpState != 2 then t
    else if t.epoch == t.grp.agreedEpoch && t.activeDigest != t.agreedDigest then t.restoreSet else t.calmPeriod

/-- A CONFIG frame (R449, R450). -/
def State.configReceive (s : State) (k seq epoch : Nat) (digest : List Byte) : State :=
  match s.grpTake k 3 seq with
  | none => s
  | some (s, _) =>
    let s := s.setPeer k { s.peer k with epoch := epoch, digest := digest }
    if !s.present k ∨ s.grpState ≠ 2 then s
    else if epoch = s.epoch ∧ digest ≠ s.agreedDigest then s.digestBad
    else match s.grp.commit with
      | some c =>
        if !c.mine ∧ !c.refused ∧ c.decide_.isNone ∧ epoch = c.epoch ∧ digest = c.digest ∧ c.p ≤ s.grpPnum then
          { s with grp.commit := some { c with decide_ := some true } }
        else s
      | none => s

/-- A write of GRP_CCMD.PROPOSE (R449, R450): the cause it records. -/
def State.propose (s : State) : State × Nat :=
  let p := s.getF pgGRPL F.GRP_CPNUM_P
  if s.grp.commit.isSome then (s, 0x21)
  else if s.flag pgGRPL F.GRP_STAT_HELD then (s, 0x22)
  else if p < s.grpPnum + 4 then (s, causeBAD_VALUE)
  else
    let e := (s.epoch + 1) % 2 ^ 64
    let d := grpDigest e (s.grpWords false)
    let me := 2 ^ s.ownId
    let s : State := { s with grp.commit := some ⟨true, p, d, e, me, none, false⟩ }
    let s := ((s.setF pgGRPL F.GRP_CSTAT_PHASE 1).setF pgGRPL F.GRP_CSTAT_CAUSE 0).setF pgGRPL F.GRP_CSTAT_PREP me
    (s.grpSendAll 4 (e :: p :: d.map (·.toNat)), 0)

/-- A PREPARE frame: PREPARED where the staging set has the digest, else REFUSE (R450). A member that refuses waits for the decision too. -/
def State.prepareReceive (s : State) (k seq epoch : Nat) (digest : List Byte) (p : Nat) : State :=
  match s.grpTake k 4 seq with
  | none => s
  | some (s, _) =>
    if s.grp.commit.isNone ∧ !s.flag pgGRPL F.GRP_STAT_HELD ∧ epoch = (s.epoch + 1) % 2 ^ 64 ∧
        digest = grpDigest epoch (s.grpWords false) then
      let s : State := { s with grp.commit := some ⟨false, p, digest, epoch, 0, none, false⟩ }
      ((s.setF pgGRPL F.GRP_CSTAT_PHASE 1).setF pgGRPL F.GRP_CSTAT_CAUSE 0).grpSend k 4 [1]
    else
      let s : State := if s.grp.commit.isSome then s else { s with grp.commit := some ⟨false, p, digest, epoch, 0, none, true⟩ }
      s.grpSend k 4 [0]

/-- An answer to PREPARE (R450). -/
def State.preparedReceive (s : State) (k seq : Nat) (ok : Bool) : State :=
  match s.grpTake k 4 seq with
  | none => s
  | some (s, _) =>
    match s.grp.commit with
    | some c =>
      if c.mine ∧ c.decide_.isNone ∧ ok then
        let n := setBit c.prepared k true
        ({ s with grp.commit := some { c with prepared := n } }).setF pgGRPL F.GRP_CSTAT_PREP n
      else s
    | none => s

/-- A DECIDE frame (R450). -/
def State.decideReceive (s : State) (k seq : Nat) (commit : Bool) : State :=
  match s.grpTake k 5 seq with
  | none => s
  | some (s, _) =>
    match s.grp.commit with
    | some c =>
      if c.mine ∨ c.decide_.isSome then s
      else if commit ∧ c.refused then { s with grp.commit := none }
      else if commit then ({ s with grp.commit := some { c with decide_ := some true } }).setF pgGRPL F.GRP_CSTAT_PHASE 2
      else s.commitEnd 3 1
    | none => s

/-- The boundary that starts period P - 1: the proposer decides; by P + 8 a member without a decision aborts (R450). -/
def State.commitDeadline (s : State) : State :=
  match s.grp.commit with
  | none => s
  | some c =>
    let n := s.grpPnum
    if c.decide_.isSome then s
    else if c.mine then
      if n + 1 < c.p then s
      else if s.getF pgGRPL F.GRP_STAT_PRESENT &&& c.prepared = s.getF pgGRPL F.GRP_STAT_PRESENT then
        (({ s with grp.commit := some { c with decide_ := some true } }).setF pgGRPL F.GRP_CSTAT_PHASE 2).grpSendAll 5 [1]
      else (s.grpSendAll 5 [0]).commitEnd 3 1
    else if c.p + 8 ≤ n then (if c.refused then { s with grp.commit := none } else s.commitEnd 3 2)
    else s

/-- After glaze firing the tokens are PRIMARY, and the active set and EPOCH are the agreed ones (R439, R443). -/
def State.grpFired (s : State) : State :=
  let s := (List.range 8).foldl (fun s q =>
    let p := s.getF pgGRPL (F.GRP_PART_CFG_PRIMARY q)
    (s.setF pgGRPL (F.grpOwner q) p).setFlag pgGRPL (F.grpDrive q) (s.grpOn && p == s.ownId)) s
  s.agree

end Sys2Proof.Machine
end

