-- ==== Sys2Proof/Machine/BusRead.lean ====
section
/-! DEFINITION. Machine/BusRead.lean: what a read of a page's word returns (R38 to R58), in the normal view and in the quiet
view, and the effects of a read in the normal view. -/

namespace Sys2Proof.Machine

/-! ### The header (R42, R45, R46) -/

/-- PAGE_CAPS.UNITS (R42). -/
def PageT.units (p : Page) : Nat :=
  match p.ty with
  | .timr | .pwmg | .pkeep | .capt | .trip | .gpio => 16
  | .cmpr => 4
  | .dlath => lathP 72
  | .clath => lathP 64
  | .tlath => lathP 0
  | .dmac => 8
  | .hlck => 64
  | .serd => 32
  | _ => 1

/-- PAGE_CAPS.LOCKABLE: RWL fields beyond the header. -/
def Page.lockable (p : Page) : Bool := p.table.any fun r => r.fields.any fun f => f.acc == .rwl || f.acc == .wol

/-- The lock of a page. -/
def State.lockSt (s : State) (base : Nat) : LockSt := SMap.getD s.bus.locks base {}

/-- What a window opened by `w` has left in cycle `c`, and who opened it (R45). -/
def openIn (c : Nat) (w : Option (Nat × Nat)) : Option (Nat × Nat) :=
  match w with
  | some (r, w) => if 1 ≤ c - w ∧ c - w ≤ 256 then some (r, 257 - (c - w)) else none
  | none => none

/-- The cycles left in a page's window, and who opened it: up to cycle W that of the window before it (R45). -/
def State.window (s : State) (p : Page) : Option (Nat × Nat) :=
  let l := s.lockSt p.base
  let c := s.cycle p.island
  match l.win with
  | some (_, w) => if c ≤ w then openIn c l.was else openIn c l.win
  | none => none

/-- Whether the window of a page is open for a requester. -/
def State.lockOpen (s : State) (p : Page) (req : Nat) : Bool :=
  match s.window p with
  | some (r, _) => r == req
  | none => false

/-- The cycles that REMAIN shows (R45). -/
def State.remain (s : State) (p : Page) : Nat :=
  match s.window p with
  | some (_, n) => n
  | none => 0

/-- Bits of IRQ_RAW that read 1 because their event falls in this cycle; bit 31, and bit 0 of a watchdog's page, which is the level
of stage one (R44; log 66). -/
def State.irqRaw (s : State) (p : Page) : Nat :=
  (List.range 31).foldl (fun v b =>
    match SMap.get? s.bus.pulses (32 * p.base + b) with
    | some t => if { s with tick := t }.cycle p.island = s.cycle p.island then setBit v b true else v
    | none => v) ((if s.flag p.base F.HDR_ERR_VALID then 2 ^ 31 else 0) +
      (p.ty == .wdog && s.getF p.base F.WDOG_STAT_STAGE == 1).toNat)

/-- A word of the common header (R42). -/
def State.hdrWord (s : State) (p : Page) (off : Nat) : Nat :=
  let b := p.base
  if off = 0x000 then p.ty.code + 2 ^ 8 * p.inst + 2 ^ 16 * p.owner + 2 ^ 22 * p.ty.level
  else if off = 0x004 then 0x00A20100
  else if off = 0x008 then PageT.units p + 2 ^ 16 + 2 ^ 17 * p.lockable.toNat + 2 ^ 18 * p.ty.freezable.toNat
  else if off = 0x00C then s.getF b F.HDR_BLK_EN
  else if off = 0x010 then
    (s.pageReady p).toNat + (SMap.has s.bus.frozen b).toNat * 2 + (s.window p).isSome.toNat * 4 +
      s.getF b F.HDR_ERR_VALID * 8
  else if off = 0x014 then s.irqRaw p
  else if off = 0x018 then s.getF b F.HDR_IRQ_EN
  else if off = 0x01C then s.getF b F.HDR_IRQ_PEND
  else if off = 0x020 then s.getF b (F.hdrFrzEn p.ty) + s.getF b (F.hdrFrzMode p.ty) * 2
  else if off = 0x024 then 2 ^ 16 * s.remain p
  else if off = 0x028 then
    s.getF b F.HDR_ERR_VALID + s.getF b F.HDR_ERR_OVF * 2 + s.getF b F.HDR_ERR_CAUSE * 4 + 2 ^ 8 * s.getF b F.HDR_ERR_WRITE +
      2 ^ 9 * s.getF b F.HDR_ERR_HIGH + 2 ^ 10 * s.getF b F.HDR_ERR_SIZE + 2 ^ 12 * s.getF b F.HDR_ERR_REQ +
      2 ^ 24 * s.getF b F.HDR_ERR_ADDR_HI
  else if off = 0x02C then s.getF b F.HDR_ERR_ADDR
  else 0

/-! ### Registers whose value is not held in the register map -/

/-- The lath of a lath page. -/
def Page.lath (p : Page) : Nat :=
  match p.ty with
  | .tlath => p.owner
  | .clath => 64 + p.owner
  | _ => 72

/-- The value of a field as it stands now: most stand in the register map, the rest are computed. -/
def State.liveField (s : State) (p : Page) (f : Fld) (req : Nat) : Nat :=
  let g := s.getF p.base f
  match p.ty with
  | .tbas =>
    if f.off = 0x44 ∧ f.lo = 2 then (s.slewLeft != 0).toNat
    else if f.off = 0x48 then s.count
    else if f.off = 0x5C ∧ f.lo = 0 then wrap 24 s.slewLeft
    else g
  | .timr =>
    let n := (f.off - 0x40) / 0x20
    if f.off % 0x20 = 4 ∧ f.lo = 0 then s.getF p.base (F.TMR_CTRL_EN n)
    else if f.off % 0x20 = 8 then s.timerRaw p.owner n % 2 ^ 64 else g
  | .wdog => if f.off = 0x58 then s.wdElapsed p.owner % 2 ^ 24 else g
  | .keep => if f.off = 0x98 then s.wdElapsed 40 % 2 ^ 24 else g
  | .adc => if f.off = 0x70 then SMap.getD (s.adc (16 * p.owner + p.inst)).latch req 0 else g
  | .capt =>
    if f.off < 0x140 ∧ f.off % 0x10 = 8 then (s.capFifo (16 * p.owner + (f.off - 0x40) / 0x10)).headD 0
    else if f.off < 0x140 ∧ f.off % 0x10 = 4 ∧ f.lo = 0 then (s.capFifo (16 * p.owner + (f.off - 0x40) / 0x10)).length
    else g
  | .leng =>
    let t := p.owner
    if f.off = 0x44 ∧ f.lo = 8 then ((List.range 16).filter fun k => (s.runsAt t k).any fun r => decide (r.start + 8 ≤ s.tick)).length
    else if (f.off = 0x44 ∧ f.lo = 16) ∨ f.off = 0x48 then
      ((s.loop.pend.filter fun kv => kv.1 / 2048 == t).filter fun kv =>
        let c := s.ctxClass t (kv.1 % 2048)
        if f.off = 0x44 then c == 0 else if f.lo = 0 then c == 1 else 2 ≤ c).length
    else g
  | .edge => if f.off = 0x40 ∧ f.lo = 0 then (s.freeLanes p.owner).length else g
  | .pwmg =>
    if f.off < 0x680 then
      let n := 16 * p.inst + (f.off - 0x80) / 0x60
      let r := (f.off - 0x80) % 0x60
      if r = 0x34 ∧ (f.lo = 8 ∨ f.lo = 9) ∧ s.bindMode p.owner n = 2 ∧ g = 1 then
        (s.planLevel p.owner n (f.lo == 8)).toNat
      else if r = 0x38 then s.genCount p.owner n
      else g
    else g
  | .dlath | .clath | .tlath =>
    if p.inst = 1 then g
    else
      let x := s.lathSel p.lath req
      if f.off = 0x50 then (if f.lo = 0 then x.psel else x.csel)
      else if f.off = 0x58 then (if f.lo = 0 then x.pend else cinKind p.lath x.csel)
      else if f.off = 0x60 then x.arriv
      else if f.off = 0x68 then x.taken
      else if f.off = 0x70 then x.ovr
      else if f.off = 0x78 then x.prod
      else g
  | .ring =>
    if f.off = 0x80 then
      match (s.ring (32 * p.owner + p.inst)).rsp with
      | (lo, hi) :: _ => lo + 2 ^ 32 * hi
      | [] => 0
    else g
  | .serd =>
    if 0x80 ≤ f.off ∧ f.off % 8 = 4 ∧ f.lo = 1 then (s.hiBer (64 * p.owner + 32 * p.inst + (f.off - 0x84) / 8)).toNat else g
  | .tile =>
    if f.off = 0x40 ∧ f.lo = 8 then (s.pwr.asleep.contains (2 * p.owner)).toNat
    else if f.off = 0x40 ∧ f.lo = 9 then (s.domOn (2 * p.owner)).toNat
    else if f.off = 0x40 ∧ f.lo = 10 then (s.domOn (2 * p.owner + 1)).toNat
    else g
  | .clu =>
    if f.off = 0x40 ∧ f.lo = 8 then
      (s.pwr.asleep.contains (cluIsland p.owner 0)).toNat + (s.pwr.asleep.contains (cluIsland p.owner 1)).toNat * 2 +
        (s.pwr.asleep.contains (cluIsland p.owner 2)).toNat * 4
    else g
  | .clkg =>
    if 0x50 ≤ f.off then
      (List.range 32).foldl (fun v b => if s.isleStopped (32 * ((f.off - 0x50) / 4) + b) then setBit v b true else v) 0
    else g
  | .dev => if f.off = 0x40 ∧ f.lo = 24 then Config.grade % 2 else if f.off = 0x50 then Config.serial % 2 ^ 64 else g
  | .meas => if 0x400 ≤ f.off ∧ f.off < 0x430 then SMap.getD s.fire.ext (16 * req + (f.off - 0x400) / 4) 0 else g
  | .core =>
    let q := 2 * p.owner + p.inst
    let r := (s.pair q).r
    if f.off = 0x44 then
      (if f.lo = 0 then r.mode else if f.lo = 2 then r.ie.toNat else if f.lo = 3 then r.exl.toNat
       else if f.lo = 4 then r.mcl.toNat else if f.lo = 5 then r.ipl else g)
    else if f.off = 0x48 then r.pc % 2 ^ 48
    else if f.off = 0x88 then s.dbgValue q % 2 ^ 64
    else if f.off = 0x90 then s.dbgValue q / 2 ^ 64
    else g
  | .drole => if f.off = 0x210 ∧ f.lo = 31 then 0 else g
  | .tsram | .csram | .hbmc =>
    if p.inst = 0 ∧ f.off = 0x10C ∧ f.lo = 0 then s.getF p.base ⟨0x108, 0, 1, .rwl, 0, false⟩ else g
  | .keel => if f.off = 0x58 then Config.freeValue 16 (s.free + f.lo) % 2 ^ 16 else g
  | .qmgr =>
    let t := p.owner
    let x := s.qreq t req
    let q := s.queueOf t x.sel
    match p.inst with
    | 0 =>
      if f.off = 0x40 then x.sel
      else if f.off = 0x44 then (if f.lo = 0 then q.en.toNat else if f.lo = 1 then q.log2n else q.esize)
      else if f.off = 0x48 then q.base
      else if f.off = 0x50 then x.level
      else if f.off = 0x54 then x.free
      else if f.off = 0x58 then x.rsvd
      else if f.off = 0x60 then x.pushed
      else if f.off = 0x68 then x.popped
      else x.refused
    | 1 =>
      if f.off = 0x44 then x.result
      else if f.off = 0x48 then x.popsel
      else if f.off = 0x4C then bits (s.queuePeek req t) f.lo f.w
      else if 0x80 ≤ f.off ∧ f.off < 0xC0 then SMap.getD x.push ((f.off - 0x80) / 4) 0
      else if 0xC0 ≤ f.off then SMap.getD x.pop ((f.off - 0xC0) / 4) 0
      else g
    | _ => g
  | _ => g

/-- The word a read of HLCK_ACQn would return to a requester, without the acquisition (R47, R347). -/
def State.acqPeek (s : State) (req t n : Nat) : Nat := (s.acquire req t n).1

/-- Words that are computed as a whole. -/
def State.liveWord (s : State) (p : Page) (off req : Nat) : Option Nat :=
  match p.ty with
  | .gpio => if off = 0x84 ∨ off = 0x88 then some (s.getF p.base F.GPIO_OUT_OUT) else none
  | .dlath | .clath | .tlath =>
    if p.inst = 1 ∧ 0xC0 ≤ off then
      some (bits (s.route p.lath (s.lathSel (p.lath) req).csel) (32 * ((off - 0xC0) / 4)) 32)
    else none
  | .intc =>
    let t := p.owner
    if off = 0x44 then
      let half := fun (x : Nat) => match s.presented t x with
        | some (lv, l) => l + 2 ^ 9 * lv + 2 ^ 13
        | none => 0
      some (half 0 + 2 ^ 16 * half 1)
    else if 0xC0 ≤ off ∧ off < 0x100 then
      let w := (off - 0xC0) / 4
      let v := s.getF p.base (F.INTC_PAIR_PAIR w)
      some (if w = 14 then 2 ^ 16 * (v / 2 ^ 16) + (List.range 16).foldl (fun m g => m + 2 ^ g * s.getF pgDINTC (F.dintcRoutePAIR g)) 0
        else v)
    else if 0x100 ≤ off ∧ off < 0x140 then
      some ((List.range 32).foldl (fun v b =>
        let l := 32 * ((off - 0x100) / 4) + b
        let on := if 448 ≤ l ∧ l < 464 then s.cascade t (l - 448) else s.getF p.base (F.intcCount l) != 0
        if on then v + 2 ^ b else v) 0)
    else if 0x400 + 448 ≤ off ∧ off < 0x400 + 464 then
      some ((List.range 4).foldl (fun v k => v + 2 ^ (8 * k) * (s.cascade t (4 * ((off - 0x400) / 4) + k - 448)).toNat) 0)
    else none
  | .dintc =>
    if off = 0x44 then some (if req < 80 then
        match s.dintcCandidate req with
        | some k => 20480 + k + 2 ^ 16 * s.getF pgDINTC (F.dintcCount k) +
            2 ^ 24 * (s.fbit pgDINTC (F.DINTC_SAT_SAT (k / 32)) (k % 32)).toNat + 2 ^ 31
        | none => 0
      else 0)
    else if 0x180 ≤ off ∧ off < 0x200 then
      some ((List.range 32).foldl (fun v b =>
        if s.getF pgDINTC (F.dintcCount (32 * ((off - 0x180) / 4) + b)) != 0 then v + 2 ^ b else v) 0)
    else none
  | .hlck => if 0x100 ≤ off ∧ off < 0x200 then some (s.acqPeek req p.owner ((off - 0x100) / 4)) else none
  | .qmgr =>
    if p.inst = 2 ∧ 0x100 ≤ off ∧ off < 0x200 then
      some ((List.range 32).foldl (fun v b =>
        if (s.queueOf p.owner (32 * ((off - 0x100) / 4) + b)).level != 0 then v + 2 ^ b else v) 0)
    else none
  | _ => none

/-- Registers that bring themselves up to date before they are read or written: the charge ledgers (R372, R373) and the capture FIFOs
(R104). -/
def State.pageSync (s : State) (p : Page) (off : Nat) : State :=
  match p.ty with
  | .pwmg => if 0x680 ≤ off ∧ off < 0x800 then s.ledSync p.owner (16 * p.inst + (off - 0x680) / 24) else s
  | .drole => if 0x400 ≤ off ∧ off < 0x800 then s.ledSyncArm ((off - 0x400) / 0x20 / 8) else s
  | .capt => if 0x40 ≤ off then (List.range 16).foldl (fun s m => s.capSettle (16 * p.owner + m)) s else s
  | _ => s

/-- The fields that are 64-bit counters, read through the reader's latch (R57): a word's slot names one. -/
def isCounter (p : Page) (x : Slot) : Bool :=
  32 < x.fld.w &&
    (match p.ty with
     | .capt | .ring => x.fld.acc == .rs
     | .pwmg => x.fld.acc == .rs || decide (0x680 ≤ x.fld.off)
     | .drole => decide (0x400 ≤ x.fld.off)
     | .dmac => decide (0x28 ≤ (x.fld.off - 0x100) % 0x80)
     | _ => x.fld.acc == .rs)

/-- The value that a read of a field returns: an RC count as it stood before the increments of the present cycle (R41). -/
def State.shown (s : State) (p : Page) (f : Fld) (req : Nat) : Nat :=
  if f.acc == .rc then (s.hwInc p.base f).1 else s.liveField p f req

/-- The live value of a word. -/
def State.wordNow (s : State) (p : Page) (off req : Nat) : Nat :=
  match s.liveWord p off req with
  | some v => v
  | none => ((p.slots off).getD []).foldl (fun v x =>
      if x.fld.acc == .wo || x.fld.acc == .wol then v
      else v + 2 ^ x.pos * bits (s.shown p x.fld req) x.part x.w) 0

/-- The counter that a word shows a half of. -/
def wordCounter (p : Page) (off : Nat) : Option Slot := ((p.slots off).getD []).find? (isCounter p)

/-- A word read by 4 bytes: its value, and the cause it records (R47, R57, R58). -/
def State.read32 (s : State) (p : Page) (off req : Nat) (quiet : Bool) : Nat × Nat :=
  if off < 0x40 then (s.hdrWord p off, if 0x30 ≤ off then causeHOLE else 0)
  else if !s.pageReady p then (0, causeHOLE)
  else match p.slots off with
    | none => (0, causeHOLE)
    | some _ =>
      let live := s.wordNow p off req
      match wordCounter p off with
      | some x =>
        if x.part = 0 then (live, 0)
        else match SMap.get? s.bus.latches (1024 * p.base + req) with
          | none => (if quiet then live else 0, 0)
          | some l => if l.counter = x.fld.off then (l.hi, 0) else (live, causeLATCH_MISMATCH)
      | none => (live, 0)

/-- What `size` bytes at `off` read as, and the cause recorded (R38, R39). -/
def State.readPage (s : State) (p : Page) (off size req : Nat) (quiet : Bool) : Nat × Nat :=
  let s := s.pageSync p off
  if size = 4 then s.read32 p off req quiet
  else
    let lo := s.read32 p off req quiet
    let wide := (wordCounter p off).isSome
    let hi := if wide ∧ s.pageReady p then (s.wordNow p (off + 4) req, 0) else s.read32 p (off + 4) req quiet
    (lo.1 + 2 ^ 32 * hi.1, firstCause lo.2 hi.2)

/-! ### Effects of a read in the normal view -/

/-- An RC field after its read: 0, or the increments of the present cycle alone (R13, R41). -/
def State.clearRC (s : State) (base : Nat) (f : Fld) : State :=
  let n := (s.hwInc base f).2
  let s := s.setF base f (min (2 ^ f.w - 1) n)
  if n = 0 then s else { s with hw.incs := SMap.put s.hw.incs (fkey base f) (s.pageCycle base, 0, n) }

/-- RC fields of a word are cleared by its read (R13). -/
def State.clearRead (s : State) (p : Page) (off : Nat) : State :=
  ((p.slots off).getD []).foldl (fun s x => if x.fld.acc == .rc then s.clearRC p.base x.fld else s) s

/-- The reader's latch takes the high half of a counter (R57). -/
def State.latch (s : State) (p : Page) (req : Nat) (x : Slot) (v : Nat) : State :=
  { s with bus.latches := SMap.put s.bus.latches (1024 * p.base + req) ⟨x.fld.off, v / 2 ^ 32⟩ }

/-- The effect of reading `size` bytes at `off` in the normal view: clears, latches, FIFO heads, claims and acquisitions; the
value it returns where it differs from the plain value, and the cause it records. -/
def State.readEffect (s : State) (p : Page) (off size req : Nat) : State × Option Nat × Nat :=
  let words := if size = 8 then [off, off + 4] else [off]
  let gen := words.foldl (fun s o => s.clearRead p o) (s.pageSync p off)
  let lat := match wordCounter p off with
    | some x => if size = 4 ∧ x.part = 0 then gen.latch p req x ((s.pageSync p off).liveField p x.fld req) else gen
    | none => gen
  if off < 0x40 ∨ !s.pageReady p then (s, none, 0)
  else match p.ty with
    | .adc =>
      if off = 0x68 then (s.readRes (16 * p.owner + p.inst) 0 req, none, 0)
      else if off = 0x6C then (s.readRes (16 * p.owner + p.inst) 1 req, none, 0)
      else (gen, none, 0)
    | .capt =>
      if off < 0x140 ∧ off % 0x10 = 8 then ((lat.capPop (16 * p.owner + (off - 0x40) / 0x10)).2, none, 0) else (lat, none, 0)
    | .ring => if off = 0x80 then ((lat.popRsp (32 * p.owner + p.inst)).2.2, none, 0) else (lat, none, 0)
    | .dintc =>
      if words.contains 0x44 then
        let r := s.dintcClaim req
        (r.2, some (if off = 0x44 then r.1 else s.wordNow p off req + 2 ^ 32 * r.1), 0)
      else (gen, none, 0)
    | .hlck =>
      if 0x100 ≤ off ∧ off < 0x200 then
        words.foldl (fun (r : State × Option Nat × Nat) o =>
          let a := r.1.acquire req p.owner ((o - 0x100) / 4)
          (a.2, some (r.2.1.getD 0 + a.1 * 2 ^ (8 * (o - off))), 0)) (s, some 0, 0)
      else if words.any fun o => o = 0x44 ∨ o = 0x48 then
        (words.foldl (fun s o => if o = 0x44 ∨ o = 0x48 then s.setFlag p.base (F.HLCK_BRK_MULTI ((o - 0x44) / 4)) false else s)
          gen, none, 0)
      else (gen, none, 0)
    | .qmgr =>
      if p.inst = 1 ∧ words.contains 0x4C then
        let r := s.queuePop req p.owner
        (r.2, some (if off = 0x4C then r.1 else s.wordNow p off req + 2 ^ 32 * r.1), 0)
      else (gen, none, 0)
    | .keel =>
      if words.contains 0x58 then ({ gen with free := gen.free + 17 }, none, 0)
      else if words.contains 0x64 then (gen.setF p.base F.KEEL_TJ_TJ_PEAK (gen.getF p.base F.KEEL_TJ_TJ_NOW), none, 0)
      else (lat, none, 0)
    | .core =>
      if (words.contains 0x88 ∨ words.contains 0x8C ∨ words.contains 0x90) ∧ !s.halted (2 * p.owner + p.inst) then (gen, none, 0x20)
      else (lat, none, 0)
    | _ => (lat, none, 0)

end Sys2Proof.Machine
end

