-- ==== Sys2Proof/Machine/BusWrite.lean ====
section
/-! DEFINITION. Machine/BusWrite.lean: what a write of a page's word does, page by page (R13, R38 to R46, and the register
tables of the chapters). Each function answers the state and the cause that the page records, 0 for none. -/

namespace Sys2Proof.Machine

/-- A write as a page sees it: its requester, 4 or 8 bytes, the value, and whether the page's lock is open for the
requester. -/
structure Wr where
  req : Nat
  size : Nat
  v : Nat
  opn : Bool
deriving DecidableEq, Repr

/-- The bits of a written word that stand for a field. -/
def Wr.fld (w : Wr) (f : Fld) : Nat := bits w.v f.lo f.w

/-- Two parts of one write: it records the first cause of R498. -/
def andThen (a : State × Nat) (f : State → State × Nat) : State × Nat :=
  let b := f a.1
  (b.1, firstCause a.2 b.2)

/-- An action that needs the open lock (R46). -/
def Wr.act (w : Wr) (s : State) (f : State → State × Nat) : State × Nat := if w.opn then f s else (s, causeLOCKED)

/-- The fields of one word written by their access codes (R13): those in `skip` are written elsewhere, those in `bad` have been
given a value they do not accept (R15). -/
def State.putWord (s : State) (p : Page) (w : Wr) (off v : Nat) (skip bad : List Fld) : State × Nat :=
  ((p.slots off).getD []).foldl (fun (r : State × Nat) x =>
    let new := bits v x.pos x.w
    let old := r.1.getSlot p.base x
    if skip.contains x.fld then r
    else match x.fld.acc with
      | .rw => if bad.contains x.fld then (r.1, firstCause r.2 causeBAD_VALUE) else (r.1.softSlot p.base x w.req new, r.2)
      | .rwl =>
        if new = old then r
        else if !w.opn then (r.1, firstCause r.2 causeLOCKED)
        else if bad.contains x.fld then (r.1, firstCause r.2 causeBAD_VALUE)
        else (r.1.softSlot p.base x w.req new, r.2)
      | .w1c => (r.1.setSlot p.base x (old - (old &&& (new - (new &&& bits (r.1.hwBits p.base x.fld) x.part x.w)))), r.2)
      | _ => r) (s, 0)

/-- The same for a whole write of 4 or 8 bytes. -/
def State.put (s : State) (p : Page) (w : Wr) (off : Nat) (skip : List Fld := []) (bad : List Fld := []) : State × Nat :=
  if w.size = 8 then
    andThen (s.putWord p w off (w.v % 2 ^ 32) skip bad) fun s => s.putWord p w (off + 4) (w.v / 2 ^ 32) skip bad
  else s.putWord p w off w.v skip bad

/-- Fields that a truth value marks as bad. -/
def badIf (l : List (Bool × Fld)) : List Fld := (l.filter fun e => e.1).map fun e => e.2

/-- Whether a write leaves every RWL field of its word as it is (R46). -/
def State.rwlSame (s : State) (p : Page) (off : Nat) (w : Wr) : Bool :=
  ((p.slots off).getD []).all fun x => x.fld.acc != .rwl || bits w.v x.pos x.w == s.getSlot p.base x

/-- A write by halves of a 64-bit value (R65): the value that takes effect, or none while a low half is held. -/
def State.halves (s : State) (p : Page) (w : Wr) (off : Nat) (f : Fld) : State × Option Nat :=
  let k := fkey p.base f
  if w.size = 8 then ({ s with bus.lows := SMap.erase s.bus.lows k }, some (w.v % 2 ^ f.w))
  else if off = f.off then ({ s with bus.lows := SMap.put s.bus.lows k w.v }, none)
  else ({ s with bus.lows := SMap.erase s.bus.lows k },
    some ((2 ^ 32 * w.v + SMap.getD s.bus.lows k (s.getF p.base f % 2 ^ 32)) % 2 ^ f.w))

/-- A write by halves of an RWL or RW value without further conditions. With the lock closed, what would leave the value as it
is takes effect, and nothing else (R46). -/
def State.putHalves (s : State) (p : Page) (w : Wr) (off : Nat) (f : Fld) : State × Nat :=
  let r := s.halves p w off f
  if f.acc == .rwl && !w.opn then
    let same := match r.2 with
      | some v => v == s.getF p.base f
      | none => w.v == s.getF p.base f % 2 ^ 32
    if same then (r.1, 0) else (s, causeLOCKED)
  else match r.2 with
    | some v => (if r.1.softUnder p.base f 0 w.req then r.1 else (r.1.noteSoft p.base f 0 w.req).setF p.base f v, 0)
    | none => (r.1, 0)

/-! ### Device pages -/

/-- The TBAS page (R59 to R62). The spec does not say which generators are armed for R60: the model takes ARMING, ARMED and
TRIPPED, as R27 has them. Nor does it say what a change of SRC does to the eight measurements and the 2 s of R61: here it
restarts neither. In FREE, where the table of R59 says that nobody writes RATE and SLEW, software's writes take effect and a running slew
runs on; and a write of SLEW whose SLEW_PPM is refused starts the slew that it names (all DESIGN CHOICE, log 60). -/
def State.wTBAS (s : State) (p : Page) (off : Nat) (w : Wr) : State × Nat :=
  if off = 0x40 then (if 5 ≤ w.fld F.TBAS_CTRL_SRC ∧ w.opn then (s, causeBAD_VALUE) else s.put p w off)
  else if off = 0x58 then (if s.servoOwns then (s, 0x22) else s.put p w off)
  else if off = 0x5C then
    let ppm := w.fld F.TBAS_SLEW_SLEW_PPM
    let r := s.slewSync.put p w off [F.TBAS_SLEW_SLEW] (badIf [(ppm == 0 || 10 < ppm, F.TBAS_SLEW_SLEW_PPM)])
    if s.servoOwns then (r.1, firstCause r.2 0x22) else (r.1.slewStart (sgn 24 w.v), r.2)
  else if off = 0x70 then s.put p w off [] (badIf [(w.fld F.TBAS_PPSOUT_WIDTH == 0, F.TBAS_PPSOUT_WIDTH)])
  else if off = 0x74 then
    if (s.edge.gens.any fun kv => s.genArmed (kv.1 / 256) (kv.1 % 256)) ||
        (List.range 128).any fun r => s.flag (pgRING r) F.RING_CTRL_EDGE_EN then
      (s.setFlag p.base F.TBAS_STAT_STEP_REFUSED true, 0x20)
    else (({ s with time.ofs := (s.time.ofs + wrap 64 (sgn 32 w.v)) % 2 ^ 64 }).timersStepped, 0)
  else s.put p w off

/-- Stage two of a watchdog (R73, R77). -/
def State.wdStage2 (s : State) (t : Nat) : State :=
  if t < 40 then (s.setF (wdBase t) F.WDOG_STAT_STAGE 2).wantTakeover t 1 63 else s.keeperReset

/-- The registers of a watchdog; `o` is the offset as the WDOG page has it (R71 to R74). -/
def State.wWDOG (s : State) (p : Page) (t o : Nat) (w : Wr) : State × Nat :=
  let b := wdBase t
  let q : Page := { p with ty := .wdog, base := b }
  if o = 0x40 then
    let en := s.flag b F.WDOG_CTRL_EN
    if bit w.v 0 = en then (s, 0)
    else w.act s fun s => if en then (s, causeBAD_VALUE) else (s.wdEnable t, 0)
  else if o = 0x44 then
    if w.fld F.WDOG_TIMEOUT_TIMEOUT = s.getF b F.WDOG_TIMEOUT_TIMEOUT then (s, 0) else w.act s fun s => s.wdSetTimeout t w.v
  else if o = 0x48 then
    s.put q w o [] (badIf [(decide (s.getF b F.WDOG_TIMEOUT_TIMEOUT ≤ w.fld F.WDOG_WINDOW_WINDOW), F.WDOG_WINDOW_WINDOW)])
  else if o = 0x4C then
    let v := w.fld F.WDOG_STAGE2_STAGE2
    let r := s.put q w o [] (badIf [(v == 0, F.WDOG_STAGE2_STAGE2)])
    if r.1.getF b F.WDOG_STAT_STAGE = 1 ∧ r.1.getF b F.WDOG_STAGE2_STAGE2 ≤ r.1.wdElapsed t ∧ r.2 = 0 then (r.1.wdStage2 t, 0)
    else r
  else if o = 0x50 then (s.wdService t w.v, 0)
  else s.put q w o

def State.wKEEP (s : State) (p : Page) (off : Nat) (w : Wr) : State × Nat :=
  if off = 0x40 then w.act s fun s => s.keepStart w.req (bits w.v 0 8)
  else if 0x80 ≤ off then s.wWDOG p 40 (off - 0x40) w
  else s.put p w off

def State.wDROLE (s : State) (p : Page) (off : Nat) (w : Wr) : State × Nat :=
  if off = 0x200 then
    let a := w.fld F.TKO_CFG_SMIN
    let b := w.fld F.TKO_CFG_EMIN
    s.put p w off [] (badIf [(a == 0 || 16 < a, F.TKO_CFG_SMIN), (decide (b < 3) || 64 < b, F.TKO_CFG_EMIN)])
  else if off = 0x204 then
    andThen (s.put p w off [F.TKO_CMD_GO]) fun s =>
      if bit w.v 31 then w.act s fun s => s.takeoverCommand (w.fld F.TKO_CMD_LT) (w.fld F.TKO_CMD_PHYS) else (s, 0)
  else if off = 0x210 then
    andThen (s.put p w off [F.DROLE_SVC_GO]) fun s =>
      if bit w.v 31 then w.act s fun s =>
        if 40 ≤ w.fld F.DROLE_SVC_PHYS then (s, causeBAD_VALUE) else (s.setFlag p.base F.DROLE_SVC_GO true, 0)
      else (s, 0)
  else if off = 0x240 then
    andThen (s.put p w off) fun s =>
      match w.fld F.RF_CTRL_CMD with
      | 1 => (s.refireStage, 0)
      | 2 => (s.refireSwitch, 0)
      | 3 => (s.refireAbort, 0)
      | _ => (s, causeBAD_VALUE)
  else if 0x400 ≤ off ∧ (off - 0x400) % 0x20 = 0x10 ∨ 0x400 ≤ off ∧ (off - 0x400) % 0x20 = 0x14 then
    s.putHalves p w off (F.LARM_Q_Q ((off - 0x400) / 0x20))
  else if 0x400 ≤ off ∧ (off - 0x400) % 0x20 = 0 then
    let ix := (off - 0x400) / 0x20
    (s.larmHold (ix / 8) (ix % 8)).put p w off
  else s.put p w off

def State.wKEEL (s : State) (p : Page) (off : Nat) (w : Wr) : State × Nat :=
  if off = 0x44 then s.put p w off [] (badIf [(w.fld F.FEED_CTRL_RET_DLY == 0, F.FEED_CTRL_RET_DLY)])
  else if off = 0x48 then (if bit w.v 31 then w.act s fun s => s.feedCommand (bits w.v 0 1) else (s, 0))
  else if off = 0x4C then
    let u := w.fld F.FEED_THR_UV_MV
    let o := w.fld F.FEED_THR_OV_MV
    s.put p w off [] (badIf [(decide (u < 1500) || 1750 < u, F.FEED_THR_UV_MV), (decide (o < 1850) || 2100 < o, F.FEED_THR_OV_MV)])
  else s.put p w off

def State.wCLKG (s : State) (p : Page) (off : Nat) (w : Wr) : State × Nat :=
  if off = 0x48 then (if bit w.v 31 then s.refCommand (bits w.v 0 1) else (s, 0)) else s.put p w off

def State.wPWRD (s : State) (p : Page) (off : Nat) (w : Wr) : State × Nat :=
  if off = 0x40 then
    if bit w.v 31 then w.act s fun s => s.domainCommand (bits w.v 0 7) (bit w.v 8) else (s, 0)
  else s.put p w off

def State.wRSTC (s : State) (p : Page) (off : Nat) (w : Wr) : State × Nat :=
  if off = 0x40 then (if bit w.v 31 then s.resetCommand (bits w.v 0 2) (bits w.v 8 6) else (s, 0)) else s.put p w off

def State.wMEAS (s : State) (p : Page) (off : Nat) (w : Wr) : State × Nat :=
  if 0x400 ≤ off ∧ off < 0x430 then
    ({ s with fire.ext := SMap.put s.fire.ext (16 * w.req + (off - 0x400) / 4) w.v }, 0)
  else if off = 0x440 then (if bit w.v 0 then s.measExtend w.req else (s, 0))
  else s.put p w off

def State.wGRPL (s : State) (p : Page) (off : Nat) (w : Wr) : State × Nat :=
  if off = 0x40 then
    let en := s.grpOn
    let r := s.put p w off (F.GRP_CTRL_EN :: (if en then [F.GRP_CTRL_ID] else []))
      (badIf [(w.fld F.GRP_CTRL_LOSS_TMO == 0, F.GRP_CTRL_LOSS_TMO)])
    let r := if en ∧ w.fld F.GRP_CTRL_ID ≠ s.ownId then (r.1, firstCause r.2 (if w.opn then 0x20 else causeLOCKED)) else r
    if bit w.v 0 = en then r
    else andThen r fun s => w.act s fun s => ((s.setFlag p.base F.GRP_CTRL_EN (bit w.v 0)).grpEnable (bit w.v 0), 0)
  else if off = 0x54 then
    andThen (s.put p w off [F.GRP_CLAIM_GO]) fun s =>
      if bit w.v 31 then w.act s fun s => s.grpClaim (bits w.v 0 3) else (s, 0)
  else if off = 0x5C then (if bit w.v 0 then s.propose else (s, 0))
  else s.put p w off

def State.wDBG (s : State) (p : Page) (off : Nat) (w : Wr) : State × Nat := s.put p w off

/-! ### Laths, GPIO and interrupts (chapter 09) -/

def State.wLATH (s : State) (p : Page) (off : Nat) (w : Wr) : State × Nat :=
  let l := p.lath
  if p.inst = 1 then (if off < 0xC0 then s.put p w off else (s, 0))
  else if off = 0x4C then s.softEvent l (bits w.v 0 6)
  else if off = 0x50 then s.lathSelect l w.req w.v
  else if off = 0x54 then
    let r := if bit w.v 0 then w.act s fun s => (s.routeCommit l w.req, 0) else (s, 0)
    (if bit w.v 1 then r.1.routeLoad l w.req else r.1, r.2)
  else s.put p w off

/-- A write of GPIO (R238, R239, R41): a change of POL is one of the level that the filter samples, and the action runs of the
present cycle come after the write that decides OUT. -/
def State.wGPIO (s : State) (p : Page) (off : Nat) (w : Wr) : State × Nat :=
  let o := s.getF p.base F.GPIO_OUT_OUT
  if off < 0x80 then
    let n := (off - 0x40) / 4
    let pin := 16 * p.owner + n
    let r := s.put p w off [] (badIf [(w.fld (F.GPIO_CTRL_ACT n) == 3, F.GPIO_CTRL_ACT n)])
    (if r.1.gpioLevel pin = s.gpioLevel pin then r.1
     else { r.1 with lath.gpio.paths := (s.gpioMark pin).lath.gpio.paths }, r.2)
  else if off = 0x80 then
    andThen (s.put p w off) fun z => (if s.softUnder p.base F.GPIO_OUT_OUT 0 w.req then z else z.gpioRerun p.owner 0xFFFF, 0)
  else if off = 0x84 then ((s.setF p.base F.GPIO_OUT_OUT (o ||| bits w.v 0 16)).gpioRerun p.owner w.v, 0)
  else if off = 0x88 then ((s.setF p.base F.GPIO_OUT_OUT (o - (o &&& w.v))).gpioRerun p.owner w.v, 0)
  else s.put p w off

/-- A hold-off whose length becomes 0 ends (R246). -/
def State.holdWritten (s : State) (p : Page) (key n : Nat) (f : Fld) (units : Nat → Nat) : State :=
  [2 * n, 2 * n + 1].foldl (fun s h => if units h = 0 then s.endHold (key + h) p.base f h else s) s

def State.wINTC (s : State) (p : Page) (off : Nat) (w : Wr) : State × Nat :=
  let t := p.owner
  if off = 0x40 then s.doorbell w.req t w.v
  else if 0x70 ≤ off ∧ off < 0x80 then
    let r := s.put p w off
    (r.1.holdWritten p (t * 8) ((off - 0x70) / 4) F.INTC_HSTAT_HOLDING (r.1.holdOf t), r.2)
  else if off = 0xC0 + 4 * 14 then
    let f := F.INTC_PAIR_PAIR 14
    (s.setF p.base f (setBits w.v 0 16 (s.getF p.base f)), 0)
  else s.put p w off

def State.wDINTC (s : State) (p : Page) (off : Nat) (w : Wr) : State × Nat :=
  if off = 0x40 then s.doorbell w.req 40 w.v
  else if 0x80 ≤ off ∧ off < 0xA0 then
    let r := s.put p w off
    ((r.1.holdWritten p 320 ((off - 0x80) / 4) F.DINTC_HSTAT_HOLDING r.1.dholdOf).cascadeWake s, r.2)
  else
    let r := s.put p w off
    (r.1.cascadeWake s, r.2)

/-! ### Sampling (chapter 04) -/

def State.wAFE (s : State) (p : Page) (off : Nat) (w : Wr) : State × Nat :=
  let c := p.owner
  if off = 0x40 then
    let v := w.fld F.AFE_REF_CTRL_SEL
    if v = s.getF p.base F.AFE_REF_CTRL_SEL then (s, 0)
    else w.act s fun s =>
      if v = 3 then (s, causeBAD_VALUE)
      else if s.anyAdcOn c then (s, 0x20)
      else ((s.setF p.base F.AFE_REF_CTRL_SEL v).refSettle c, 0)
  else if off = 0x48 then
    let v := w.fld F.AFE_REF_NOM_NOM_MV
    s.put p w off [] (badIf [(decide (v < 1200) || 2600 < v, F.AFE_REF_NOM_NOM_MV)])
  else s.put p w off

def State.wADC (s : State) (p : Page) (off : Nat) (w : Wr) : State × Nat :=
  let n := 16 * p.owner + p.inst
  if off = 0x40 then
    let cause := s.adcCause n off w.v
    let mode := bits w.v 2 2
    let len := bits w.v 4 5
    let bad := firstCause (if 2 ≤ mode then causeBAD_VALUE else 0) (if 16 < len then causeBAD_VALUE else 0)
    let s' := ((s.setFlag p.base F.ADC_CTRL_LP (bit w.v 1)).setF p.base F.ADC_CTRL_TRIG_MODE
        (if 2 ≤ mode then s.getF p.base F.ADC_CTRL_TRIG_MODE else mode)).setF p.base F.ADC_CTRL_LEN
        (if 16 < len then s.getF p.base F.ADC_CTRL_LEN else len)
    let en := s.flag p.base F.ADC_CTRL_EN
    if cause ≠ 0 then (s, firstCause bad cause)
    else (if bit w.v 0 = en then s' else if en then s'.adcDisable n else s'.adcEnable n, bad)
  else if off = 0x48 ∨ off = 0x4C then s.adcStartWrite n off w.size w.v
  else if off = 0x50 ∨ off = 0x54 then
    let cause := s.adcCause n off w.v
    if cause ≠ 0 then (s, cause) else s.put p w off
  else s.put p w off

def State.wCMPR (s : State) (p : Page) (off : Nat) (w : Wr) : State × Nat :=
  let m := (off - 0x40) / 0x10
  let k := 16 * p.owner + p.inst * 4 + m
  let r := off % 0x10
  if r = 0 then
    let en := s.flag p.base (F.CMP_CTRL_EN m)
    if en && !bit w.v 0 && w.opn && s.sourceArmed p.owner (k % 16) then (s, 0x20)
    else
      let a := s.put p w off [F.CMP_CTRL_EN m]
      if bit w.v 0 = en then (a.1.sourceLook p.owner (k % 16), a.2)
      else andThen a fun s => w.act s fun s => ((s.setFlag p.base (F.CMP_CTRL_EN m) (!en)).cmpEnable k (!en), 0)
  else if r = 4 then (s.thrWrite k (bits w.v 0 10), 0)
  else s.put p w off

def State.wCAPT (s : State) (p : Page) (off : Nat) (w : Wr) : State × Nat :=
  let m := (off - 0x40) / 0x10
  let k := 16 * p.owner + m
  if off < 0x140 ∧ off % 0x10 = 0 then
    let r := s.put p w off [] (badIf [(w.fld (F.CAP_CTRL_EDGE m) == 3, F.CAP_CTRL_EDGE m)])
    if s.flag p.base (F.CAP_CTRL_EN m) ∧ !bit w.v 0 then (r.1.capClear k, r.2) else r
  else s.put p w off

def State.wTRIP (s : State) (p : Page) (off : Nat) (w : Wr) : State × Nat :=
  if off < 0x80 then
    let m := (off - 0x40) / 4
    let en := s.flag p.base (F.TRIP_CTRL_EN m)
    if en && !bit w.v 0 && w.opn && s.sourceArmed p.owner (16 + m) then (s, 0x20)
    else
      let a := s.put p w off [F.TRIP_CTRL_EN m]
      if bit w.v 0 = en then (a.1.sourceLook p.owner (16 + m), a.2)
      else andThen a fun s => w.act s fun s =>
        let s := s.setFlag p.base (F.TRIP_CTRL_EN m) (!en)
        (if en then s.sourceOff p.owner (16 + m) else s.sourceLook p.owner (16 + m), 0)
  else s.put p w off

/-! ### Loop engines and edges (chapters 05 and 06) -/

def State.wLENG (s : State) (p : Page) (off : Nat) (w : Wr) : State × Nat :=
  if off = 0x4C then (s.triggerBoth p.owner (bits w.v 0 11) [0] s.tick, 0)
  else if 0x400 ≤ off then (s.sendShared (p.owner / 10) ((off - 0x400) / 4) w.v 0, 0)
  else s.put p w off

/-- A write of PWMG_CTRL (R134, R138, R158, R159, R163). A write that sets RUN with a PER below 64 in the shadow, or ARM where
arming is refused, changes nothing. -/
def State.wGenCtrl (s : State) (p : Page) (t g : Nat) (w : Wr) : State × Nat :=
  let b := p.base
  let m := g % 16
  let arms := bit w.v 1 && !s.genArmed t g && !s.flag b (F.PWMG_CTRL_ARM m)
  let runBad := bit w.v 0 && !s.flag b (F.PWMG_CTRL_RUN m) && decide (s.shadowPer t g < 64)
  let armBad := arms && w.opn && s.armRefused t g
  if runBad || armBad then (s, if runBad then causeBAD_VALUE else 0x23)
  else
    let u := (s.setFlag b (F.PWMG_CTRL_SH_HOLD m) (bit w.v 3)).ctrlRun t g (bit w.v 0)
    let r := if arms then w.act u fun s => (s.genArm t g, 0)
      else (if bit w.v 1 then u else u.leavesArm t g, 0)
    if bit w.v 2 && !s.flag b (F.PWMG_CTRL_CLR_REQ m) then
      andThen r fun s => w.act s fun s =>
        (if s.genState t g = 4 then s.setFlag b (F.PWMG_CTRL_CLR_REQ m) true else s, 0)
    else r

/-- A write of PWMG_CFG (R142, R145, R147, R149, R155). One that would leave a value which the generator does not accept changes
nothing. -/
def State.wGenCfg (s : State) (p : Page) (t g off : Nat) (w : Wr) : State × Nat :=
  let m := g % 16
  let st := s.genState t g
  let still := st = 0 ∨ st = 1 ∨ st = 5
  let rwl := [F.PWMG_CFG_MINPW_POLICY m, F.PWMG_CFG_CATCHUP m, F.PWMG_CFG_SYNC_SEL m]
  let changed := rwl.any fun f => w.fld f != s.getF p.base f
  let sel := w.fld (F.PWMG_CFG_SYNC_SEL m)
  let bad := decide (w.fld (F.PWMG_CFG_PRESC m) < w.fld (F.PWMG_CFG_EVPH m)) ||
    (w.opn && (decide (2 ≤ w.fld (F.PWMG_CFG_MINPW_POLICY m)) || sel == 3 || (sel != 0 && s.bindMode t g == 2)))
  let locked := if changed && !w.opn then causeLOCKED else 0
  if bad then (s, firstCause locked causeBAD_VALUE)
  else if still then s.put p w off
  else
    let r := s.put p w off rwl
    (r.1, firstCause r.2 (if changed then (if w.opn then 0x20 else causeLOCKED) else 0))

/-- A write of DT, MINPW, BLANK, BIND or TRIPSEL (R154, R155, R160). One with the lock open that leaves the present value records no
RUNNING in any state (DESIGN CHOICE, log entry 18). -/
def State.wGenStill (s : State) (p : Page) (t g off : Nat) (w : Wr) : State × Nat :=
  let m := g % 16
  let st := s.genState t g
  if s.rwlSame p off w then (s, 0)
  else w.act s fun s =>
    let bind := decide (off = 0xAC + 0x60 * m)
    let run := if st = 0 ∨ st = 1 ∨ st = 5 then 0 else 0x20
    let c := firstCause run (if bind then s.bindCause t g w.v else 0)
    if c ≠ 0 then (s, c)
    else if bind then
      let r := (s.showBind t g false).put p w off
      (r.1.showBind t g true, r.2)
    else s.put p w off

def State.wPWMG (s : State) (p : Page) (off : Nat) (w : Wr) : State × Nat :=
  let t := p.owner
  if off < 0x80 then s.put p w off
  else if 0x680 ≤ off then
    let n := (off - 0x680) / 24
    let r := (off - 0x680) % 24
    let s := if r = 0 then s.ledHold t (16 * p.inst + n) else s
    if r = 8 ∨ r = 12 then s.putHalves p w off (F.LEDG_Q_Q n)
    else s.put p w off [] (badIf [(r == 0 && decide (8 ≤ w.fld (F.LEDG_CFG_ARM n)), F.LEDG_CFG_ARM n)])
  else
    let m := (off - 0x80) / 0x60
    let g := 16 * p.inst + m
    let r := (off - 0x80) % 0x60
    if r = 0 then s.wGenCtrl p t g w
    else if r = 4 then s.wGenCfg p t g off w
    else if r = 8 then
      let a := s.put p w off (s.loopEntered t g)
      (a.1.lateWrite t g, a.2)
    else if 0x10 ≤ r ∧ r < 0x20 then
      let a := s.put p w off (s.loopEntered t g)
      let k := (r - 0x10) / 4
      let s := a.1.lateWrite t g
      (if w.size = 8 then (s.immediateIf t g k).immediateIf t g (k + 1) else s.immediateIf t g k, a.2)
    else if 0x20 ≤ r ∧ r < 0x34 then s.wGenStill p t g off w
    else if r = 0x48 ∨ r = 0x4C then s.putHalves p w off (F.PWMG_START_START m)
    else s.put p w off

def State.wPKEEP (s : State) (p : Page) (off : Nat) (w : Wr) : State × Nat :=
  if 0x80 ≤ off ∧ off % 8 = 0 then
    let n := (off - 0x80) / 8
    let r := s.put p w off [] (badIf [(decide (8 < w.fld (F.PK_PIN_CTRL_REPEAT_MAX n)), F.PK_PIN_CTRL_REPEAT_MAX n)])
    (r.1.pinShow (64 * p.owner + 16 * p.inst + n), r.2)
  else s.put p w off

/-! ### Links (chapter 07) -/

/-- Whether a generator bound to ring `r` is in ARMING, ARMED or TRIPPED. -/
def State.ringArmed (s : State) (r : Nat) : Bool :=
  s.edge.gens.any fun kv =>
    let t := kv.1 / 256
    let g := kv.1 % 256
    s.bindMode t g == 2 && s.bindRing t g == r && s.genArmed t g

def State.wRingCtrl (s : State) (p : Page) (r off : Nat) (w : Wr) : State × Nat :=
  let b := p.base
  let edge := s.flag b F.RING_CTRL_EDGE_EN
  let nodes := w.fld F.RING_CTRL_NODES
  let differ := nodes ≠ s.getF b F.RING_CTRL_NODES
  let enBad := s.flag b F.RING_CTRL_EN && !bit w.v 0 && edge
  let edgeBad := edge && !bit w.v 1 && s.ringArmed r
  let nodesBad := differ && edge
  let enumBad := bit w.v 5 && bit w.v 6 && edge
  let skip := [F.RING_CTRL_CAL, F.RING_CTRL_ENUM] ++ badIf [(enBad, F.RING_CTRL_EN), (edgeBad, F.RING_CTRL_EDGE_EN),
    (nodesBad, F.RING_CTRL_NODES)]
  let a := s.put p w off skip (badIf [(32 < nodes, F.RING_CTRL_NODES)])
  let c := if nodesBad && decide (32 < nodes) then causeBAD_VALUE else 0x20
  let a := if enBad || edgeBad || nodesBad then (a.1, firstCause a.2 (if w.opn then c else causeLOCKED)) else a
  let a := if enumBad then (a.1, firstCause a.2 0x20) else a
  let a := if bit w.v 4 && !s.flag b F.RING_CTRL_CAL then (a.1.calibrate r, a.2) else a
  if bit w.v 5 && !enumBad then ((a.1.setFlag b F.RING_CTRL_ENUM true).sendEnum r (bit w.v 6), a.2) else a

def State.wRING (s : State) (p : Page) (off : Nat) (w : Wr) : State × Nat :=
  let r := 32 * p.owner + p.inst
  if off = 0x40 then s.wRingCtrl p r off w
  else if off = 0x5C then
    s.put p w off [] (badIf [(w.fld F.RING_TMO_LOSS_TMO == 0, F.RING_TMO_LOSS_TMO), (w.fld F.RING_TMO_MGMT_TMO == 0, F.RING_TMO_MGMT_TMO)])
  else if off = 0x60 then s.put p w off [] (badIf [(w.fld F.RING_TPER_TIME_PER == 0, F.RING_TPER_TIME_PER)])
  else if off = 0x78 ∨ off = 0x7C then s.mreqWrite r off w.size w.v
  else s.put p w off

def State.wSERD (s : State) (p : Page) (off : Nat) (w : Wr) : State × Nat :=
  let k := (off - 0x80) / 8
  if 0x80 ≤ off ∧ off % 8 = 0 then
    let was := s.flag p.base (F.SERD_LCTRL_RST k)
    let r := s.put p w off
    let l := 64 * p.owner + 32 * p.inst + k
    if bit w.v 0 && !was then (r.1.laneDrop l, r.2)
    else if was && !bit w.v 0 then
      ({ r.1 with link.lanes := SMap.upd r.1.link.lanes l {} fun x => { x with goodAt := s.tick } }, r.2)
    else r
  else s.put p w off

/-! ### Forecast and kiln log (chapter 08) -/

def State.wFCST (s : State) (p : Page) (off : Nat) (w : Wr) : State × Nat :=
  let c := p.owner
  if p.inst = 0 then
    let r := s.put p w off
    (r.1.fcstAbort c, r.2)
  else
    let j := p.inst - 1
    let b := p.base
    let en := s.flag b F.JOB_CTRL_EN
    if off = 0x40 then
      if en then
        let src := bit w.v 4 != s.flag b F.JOB_CTRL_LAUNCH_SRC
        let r := s.put p w off [F.JOB_CTRL_EN, F.JOB_CTRL_LAUNCH_SRC]
        (if bit w.v 0 then r.1 else ((r.1.setFlag b F.JOB_CTRL_EN false).fcstAbort c).jobIdle c j, if src then 0x20 else 0)
      else
        let r := s.put p w off [F.JOB_CTRL_EN]
        if bit w.v 0 then
          let e := r.1.jobCause c j
          if e = 0 then ((r.1.setFlag b F.JOB_CTRL_EN true).jobIdle c j, r.2) else (r.1, firstCause r.2 e)
        else r
    else if 0x64 ≤ off ∧ off < 0x74 then
      let n := (off - 0x64) / 8
      if en ∧ n = s.getF b F.JOB_CTRL_BANK then (s, 0x20)
      else match s.halves p w off (F.JOB_BASE_BASE n) with
        | (s, some v) => if en ∧ !s.libOk c j v then (s, causeBAD_VALUE) else (s.setF b (F.JOB_BASE_BASE n) v, 0)
        | (s, none) => (s, 0)
    else if en ∧ off ≠ 0x50 then (s, 0x20)
    else s.put p w off

def State.wKLOG (s : State) (p : Page) (off : Nat) (w : Wr) : State × Nat :=
  let c := p.owner
  let b := p.base
  let busy := s.getF b F.KLOG_STAT_STATE ≠ 0
  if off = 0x40 then
    let modeBad := busy ∧ w.fld F.KLOG_CTRL_MODE ≠ s.getF b F.KLOG_CTRL_MODE
    let r := s.put p w off ([F.KLOG_CTRL_EN, F.KLOG_CTRL_CLEAR] ++ (if modeBad then [F.KLOG_CTRL_MODE] else []))
    let r := if modeBad then (r.1, firstCause r.2 (if w.opn then 0x20 else causeLOCKED)) else r
    let r := if bit w.v 3 then andThen r fun s => s.klogClear c else r
    let en := s.flag b F.KLOG_CTRL_EN
    if bit w.v 0 = en then r
    else andThen r fun s => w.act s fun s =>
      let e := if en then 0 else klogAreaCause c (s.getF b F.KLOG_BASE_BASE) (s.getF b F.KLOG_SIZE_LOG2)
      if e ≠ 0 then (s, e) else ((s.setFlag b F.KLOG_CTRL_EN (!en)).klogEnable c (!en), 0)
  else if off = 0x44 ∨ off = 0x48 then
    let r := s.putHalves p w off F.KLOG_BASE_BASE
    if busy then (s, firstCause r.2 0x20)
    else if (match (s.halves p w off F.KLOG_BASE_BASE).2 with
        | some v => !klogAreaOk c v (s.getF b F.KLOG_SIZE_LOG2)
        | none => false) then (s, firstCause r.2 causeBAD_VALUE)
    else r
  else if off = 0x4C then
    let v := w.fld F.KLOG_SIZE_LOG2
    if busy then
      (s, if !w.opn && v != s.getF b F.KLOG_SIZE_LOG2 then causeLOCKED else if v < 20 ∨ 35 < v then causeBAD_VALUE else 0x20)
    else s.put p w off [] (badIf [(decide (v < 20) || 35 < v, F.KLOG_SIZE_LOG2)])
  else s.put p w off

/-! ### Cores, memories, DMA, queues and locks (chapters 10, 12 and 17) -/

def State.wCORE (s : State) (p : Page) (off : Nat) (w : Wr) : State × Nat :=
  let q := 2 * p.owner + p.inst
  let b := p.base
  if off = 0x40 then
    let hold := bit w.v 0
    let r : State × Nat := if hold = s.flag b F.CORE_CTRL_HOLD then (s, 0)
      else w.act s fun s => ((s.setFlag b F.CORE_CTRL_HOLD hold).holdPair q hold, 0)
    if bit w.v 1 then andThen r fun s => w.act s fun s => ((s.resetPair q).satF pgRSTC F.RSTC_CNT_PAIR, 0) else r
  else if off = 0x80 then
    let r := s.put p w off
    let s := if bit w.v 0 && !s.halted q && !s.pairStopped q then r.1.setFlag b F.CORE_DCTL_HALT_REQ true else r.1
    let s := if bit w.v 1 then s.debugResume q else s
    (if bit w.v 2 then s.debugStep q else s, r.2)
  else if off = 0x84 then s.put p w off [] (badIf [(!dbgListed (w.fld F.CORE_DSEL_INDEX), F.CORE_DSEL_INDEX)])
  else if 0x88 ≤ off ∧ off < 0x94 then
    let i := s.getF b F.CORE_DSEL_INDEX
    let old := s.dbgValue q
    let lo := fun (n : Nat) => 2 ^ 64 * (n / 2 ^ 64)
    let v := if off = 0x90 then setBits old 64 8 w.v
      else if w.size = 8 then lo old + w.v % 2 ^ 64
      else if off = 0x88 then setBits old 0 32 w.v else setBits old 32 32 w.v
    s.dbgSet q i v
  else if 0xA0 ≤ off ∧ (off - 0xA0) % 0x10 = 0xC then
    let k := (off - 0xA0) / 0x10
    s.put p w off [] (badIf [(w.fld (F.CORE_BPLEN_LEN k) == 0, F.CORE_BPLEN_LEN k)])
  else s.put p w off

def State.wHBMC (s : State) (p : Page) (off : Nat) (w : Wr) : State × Nat :=
  if p.inst = 0 ∧ off = 0x48 then
    if bit w.v 31 then w.act s fun s =>
      let r := s.spareStart p.owner (bits w.v 0 5)
      (r.1, if r.2 then 0 else 0x21)
    else (s, 0)
  else s.put p w off

/-- Whether a queue may take completion or fault records: enabled, with 32-byte entries (R337). -/
def State.recordQ (s : State) (t k : Nat) : Bool := (s.queueOf t k).en && (s.queueOf t k).esize == 1

def State.wDMAC (s : State) (p : Page) (off : Nat) (w : Wr) : State × Nat :=
  let t := p.owner
  if p.inst = 0 ∧ (off = 0x40 ∨ off = 0x44) then
    if s.rwlSame p off w then (s, 0)
    else w.act s fun s =>
      if (List.range 32).any fun n => s.chState t n != 0 then (s, 0x20)
      else if bit w.v 15 && !s.recordQ t (bits w.v 0 11) then (s, 0x21)
      else s.put p w off
  else
    let n := p.inst * 8 + (off - 0x100) / 0x80
    let r := (off - 0x100) % 0x80
    if off < 0x100 then s.put p w off
    else if r = 4 then s.dmaCommand t n (bits w.v 0 3)
    else if r = 0 ∨ r = 0x10 ∨ r = 0x14 then
      (if s.chState t n = 0 then s.put p w off else (s, if !w.opn && !s.rwlSame p off w then causeLOCKED else 0x20))
    else s.put p w off

def State.wQMGR (s : State) (p : Page) (off : Nat) (w : Wr) : State × Nat :=
  let t := p.owner
  match p.inst with
  | 0 =>
    if off = 0x40 then (s.queueSelect w.req t w.v, 0)
    else if off = 0x44 then s.queueConfig w.req t w.v
    else if off = 0x48 ∨ off = 0x4C then s.queueBase w.req t off w.size w.v
    else (s, 0)
  | 1 =>
    let x := s.qreq t w.req
    if off = 0x40 then (s.queuePush w.req t w.v, 0)
    else if off = 0x48 then (s.setQreq t w.req { x with popsel := bits w.v 0 11 }, 0)
    else if 0x80 ≤ off ∧ off < 0xC0 then
      (s.setQreq t w.req { x with push := SMap.put x.push ((off - 0x80) / 4) (w.v % 2 ^ 32) }, 0)
    else (s, 0)
  | _ => s.put p w off

def State.wIOMMU (s : State) (p : Page) (off : Nat) (w : Wr) : State × Nat :=
  let t := p.owner
  let va := F.IOMMU_TLBI_VA_VA
  if off = 0x140 then (s.ioTlbi t w.v (2 ^ 12 * s.getF p.base va), 0)
  else if off = 0x144 then
    (s.setF p.base va (if w.size = 8 then bits w.v 12 36 else setBits (s.getF p.base va) 0 20 (bits w.v 12 20)), 0)
  else if off = 0x148 then (s.setF p.base va (setBits (s.getF p.base va) 20 16 w.v), 0)
  else s.put p w off

def State.wHLCK (s : State) (p : Page) (off : Nat) (w : Wr) : State × Nat :=
  let t := p.owner
  if 0x100 ≤ off ∧ off < 0x200 then s.release w.req t ((off - 0x100) / 4) w.v
  else if 0x300 ≤ off ∧ off < 0x400 then
    (if bit w.v 0 then s.breakLock t ((off - 0x300) / 4) 4 else s, 0)
  else s.put p w off

/-! ### A write of a page's block registers -/

/-- A write of 4 bytes, or of 8 bytes to a 64-bit value, to a register of a page. -/
def State.writeBlock (s : State) (p : Page) (off : Nat) (w : Wr) : State × Nat :=
  match p.ty with
  | .tbas => s.wTBAS p off w
  | .timr =>
    let n := (off - 0x40) / 0x20
    let r := off % 0x20
    if r = 0 then s.timerCtrlWrite p.owner n w.req w.v
    else if r = 8 ∨ r = 0xC then s.timerCntWrite p.owner n (r == 0xC) w.size w.v
    else if r = 0x10 ∨ r = 0x14 then (s.timerCmpWrite p.owner n (r == 0x14) w.size w.v, 0)
    else s.put p w off
  | .wdog => s.wWDOG p p.owner off w
  | .keep => s.wKEEP p off w
  | .drole => s.wDROLE p off w
  | .keel => s.wKEEL p off w
  | .clkg => s.wCLKG p off w
  | .pwrd => s.wPWRD p off w
  | .rstc => s.wRSTC p off w
  | .meas => s.wMEAS p off w
  | .grpl => s.wGRPL p off w
  | .dbg => s.wDBG p off w
  | .dlath | .clath | .tlath => s.wLATH p off w
  | .gpio => s.wGPIO p off w
  | .intc => s.wINTC p off w
  | .dintc => s.wDINTC p off w
  | .afe => s.wAFE p off w
  | .adc => s.wADC p off w
  | .cmpr => s.wCMPR p off w
  | .capt => s.wCAPT p off w
  | .trip => s.wTRIP p off w
  | .leng => s.wLENG p off w
  | .pwmg => s.wPWMG p off w
  | .pkeep => s.wPKEEP p off w
  | .ring => s.wRING p off w
  | .serd => s.wSERD p off w
  | .fcst => s.wFCST p off w
  | .klog => s.wKLOG p off w
  | .core => s.wCORE p off w
  | .hbmc => s.wHBMC p off w
  | .dmac => s.wDMAC p off w
  | .qmgr => s.wQMGR p off w
  | .iommu => s.wIOMMU p off w
  | .hlck => s.wHLCK p off w
  | _ => s.put p w off

end Sys2Proof.Machine
end

