-- ==== Sys2Proof/Machine/Bus.lean ====
section
/-! DEFINITION. Machine/Bus.lean: writes of the common header, block resets, and an access from its requester to its response
(R37 to R53, R498). -/

namespace Sys2Proof.Machine

/-! ### Block enable and block reset (R42, R43) -/

/-- What stands behind a page's registers returns to its reset state with them. -/
def State.resetBehind (s : State) (p : Page) : State :=
  let o := p.owner
  match p.ty with
  | .tbas => { s with time := { s.time with slew := 0, slewAt := s.tick, good := 0 } }
  | .timr => { s with time.timers := SMap.eraseBlock s.time.timers 16 o }
  | .capt => { s with samp.caps := SMap.eraseBlock s.samp.caps 16 o }
  | .cmpr => { s with samp.cmps := SMap.eraseBlock s.samp.cmps 4 (o * 4 + p.inst) }
  | .gpio =>
    (List.range 16).foldl (fun s k => s.gpioResume (16 * o + k))
      { s with lath.gpio.alat := SMap.eraseBlock s.lath.gpio.alat 16 o }
  | .dlath | .clath | .tlath => if p.inst = 0 then s.updLath p.lath fun L => { L with snaps := [] } else s
  | .dmac =>
    let s := (List.range 8).foldl (fun s i => (s.chReturn o (8 * p.inst + i)).unpin o (8 * p.inst + i)) s
    { s with mm.chans := SMap.eraseBlock s.mm.chans 8 (o * 4 + p.inst) }
  | .qmgr =>
    if p.inst = 0 then
      let s := (List.range 32).foldl (fun s n => s.setChan o n { s.chan o n with fq := none, cq := none }) s
      { s with mm.queues := SMap.eraseBlock s.mm.queues 2048 o, mm.qreqs := SMap.eraseBlock s.mm.qreqs 1024 o }
    else s
  | .hlck => { s with mm.locks := SMap.eraseBlock s.mm.locks 64 o }
  | .iommu => s.setIo o { s.io o with tlb := [], pins := [] }
  | .ring => s.setRing (32 * o + p.inst) { grid := (s.ring (32 * o + p.inst)).grid }
  | .fcst => s.fcstAbort o
  | .grpl => { s with grp.commit := none }
  | .klog => { s with klog := SMap.erase s.klog o }
  | .meas => { s with fire.ext := [] }
  | .afe => s
  | .pwmg => { s with edge.gens := SMap.eraseBlock s.edge.gens 16 (16 * o + p.inst) }
  | .core => (s.setFlag p.base F.CORE_CTRL_HOLD true).holdPair (2 * o + p.inst) true
  | _ => s

/-- The generators of a page disarm as by ARM = 0 (R43). -/
def State.disarmPage (s : State) (t lo n : Nat) : State :=
  (List.range n).foldl (fun s k => s.leavesArm t (lo + k)) s

/-- The pins of a bank enter the dust sheet. -/
def State.bankDust (s : State) (p : Page) : State :=
  (List.range 16).foldl (fun s k => s.pinDust (64 * p.owner + 16 * p.inst + k)) s

/-- What fields that a block reset gave the journal's values start at once (R16), and the status that follows what the reset
leaves (R191); `was` is the state before it. -/
def State.resetStarts (s was : State) (p : Page) : State :=
  match p.ty with
  | .cmpr => (List.range 4).foldl (fun s m =>
      if s.flag p.base (F.CMP_CTRL_EN m) then s.cmpEnable (16 * p.owner + 4 * p.inst + m) true else s) s
  | .klog => s.klogStart p.owner
  | .grpl => if s.flag p.base F.GRP_CTRL_EN = was.flag p.base F.GRP_CTRL_EN then s else s.grpEnable (s.flag p.base F.GRP_CTRL_EN)
  | .ring =>
    let b := p.base
    (s.setFlag b F.RING_STAT_WHOLE (was.flag b F.RING_STAT_WHOLE)).ringWhole (32 * p.owner + p.inst)
      (was.flag b F.RING_BRK_CW_VALID || was.flag b F.RING_BRK_CCW_VALID)
  | _ => s

/-- BLK_RST accepted by the lock: the cause it records (R42, R43, R74, R81, R99, R160, R493, R497, R499). -/
def State.blockReset (s : State) (p : Page) : State × Nat :=
  let o := p.owner
  match p.ty with
  | .wdog =>
    if s.flag p.base F.WDOG_CTRL_EN then (s, causeBAD_VALUE) else ((s.resetRegs p).wdRestart o, 0)
  | .keep =>
    if s.flag p.base F.KWDOG_CTRL_EN then (s, causeBAD_VALUE) else (((s.resetRegs p).resetBehind p).wdRestart 40, 0)
  | .afe =>
    let v := s.resetOf p.base F.AFE_REF_CTRL_SEL
    let old := s.getF p.base F.AFE_REF_CTRL_SEL
    if v ≠ old ∧ s.anyAdcOn o then (s, 0x20)
    else
      let keep := s.getF p.base F.AFE_REF_STAT_REF_READY
      let s := (s.resetRegs p).setF p.base F.AFE_REF_STAT_REF_READY keep
      (if v ≠ old then s.refSettle o else s, 0)
  | .cmpr =>
    if (List.range 4).any fun m => s.sourceArmed o (4 * p.inst + m) then (s, 0x20)
    else (((List.range 4).foldl (fun s m => s.cmpEnable (16 * o + 4 * p.inst + m) false) s).resetRegs p |>.resetBehind p
      |>.resetStarts s p, 0)
  | .trip =>
    if (List.range 16).any fun m => s.sourceArmed o (16 + m) then (s, 0x20)
    else ((List.range 16).foldl (fun s m => s.sourceLook o (16 + m))
      (((List.range 16).foldl (fun s m => s.sourceOff o (16 + m)) s).resetRegs p), 0)
  | .adc => (s.adcDisable (16 * o + p.inst) true, 0)
  | .pwmg =>
    let s := (List.range 16).foldl (fun s k => (s.genStop o (16 * p.inst + k)).showBind o (16 * p.inst + k) false) s
    ((List.range 16).foldl (fun s k => s.showBind o (16 * p.inst + k) true) ((s.resetRegs p).resetBehind p), 0)
  | .edge => ((s.disarmPage o 0 256).resetRegs p, 0)
  | .pkeep => ((s.bankDust p).resetRegs p, 0)
  | _ => (((s.resetRegs p).resetBehind p).resetStarts s p, 0)

/-- A write of PAGE_CTRL (R42, R43). -/
def State.wPageCtrl (s : State) (p : Page) (w : Wr) : State × Nat :=
  let en := s.flag p.base F.HDR_BLK_EN
  let acts := p.ty == .pwmg || p.ty == .edge || p.ty == .pkeep
  let r : State × Nat := if bit w.v 0 = en then (s, 0)
    else w.act s fun s =>
      if !acts then (s, causeBAD_VALUE)
      else
        let s := s.setFlag p.base F.HDR_BLK_EN (!en)
        if !en then (s, 0)
        else match p.ty with
          | .pwmg => (s.disarmPage p.owner (16 * p.inst) 16, 0)
          | .edge => (s.disarmPage p.owner 0 256, 0)
          | _ => (s.bankDust p, 0)
  if bit w.v 1 then andThen r fun s => w.act s fun s => s.blockReset p else r

/-! ### The lock (R45, R46) -/

/-- A write of LOCK_KEY. -/
def State.wLockKey (s : State) (p : Page) (w : Wr) : State × Nat :=
  let c := s.cycle p.island
  let k := bits w.v 0 16
  let l := s.lockSt p.base
  let other := match l.seq with
    | some (r, _) => r != w.req
    | none => false
  let mine := match l.seq with
    | some (r, f) => if r = w.req then some f else none
    | none => none
  let err := if other then causeKEY_SEQ else 0
  let set := fun (x : LockSt) => { s with bus.locks := SMap.put s.bus.locks p.base x }
  if k = 0 then (set {}, err)
  else if k = 0xA5C3 then (set { l with seq := some (w.req, c) }, err)
  else if k = 0x3C5A then
    match mine with
    | some f =>
      let at_ := max c (f + 1)
      let was := match l.win with
        | some (_, w') => if c ≤ w' then l.was else l.win
        | none => none
      if at_ ≤ f + 256 then (set { seq := none, win := some (w.req, at_), was := was }, 0) else (set { l with seq := none }, causeKEY_SEQ)
    | none => (set { l with seq := none }, causeKEY_SEQ)
  else (set { l with seq := none }, causeKEY_SEQ)

/-- A write of a word of the header (R42). -/
def State.wHeader (s : State) (p : Page) (off : Nat) (w : Wr) : State × Nat :=
  let b := p.base
  if off = 0x00C then s.wPageCtrl p w
  else if off = 0x018 then 
    (if s.softUnder b F.HDR_IRQ_EN 0 w.req then s else (s.noteSoft b F.HDR_IRQ_EN 0 w.req).setF b F.HDR_IRQ_EN w.v, 0)
  else if off = 0x01C then
    let x := s.getF b F.HDR_IRQ_PEND
    (s.setF b F.HDR_IRQ_PEND (x - (x &&& (w.v - (w.v &&& s.hwBits b F.HDR_IRQ_PEND)))), 0)
  else if off = 0x020 then
    let e := F.hdrFrzEn p.ty
    let m := F.hdrFrzMode p.ty
    if w.fld e = s.getF b e ∧ w.fld m = s.getF b m then (s, 0)
    else w.act s fun s => if w.fld m = 3 then (s, causeBAD_VALUE) else ((s.setF b e (w.fld e)).setF b m (w.fld m), 0)
  else if off = 0x024 then s.wLockKey p w
  else if off = 0x028 then
    (if bit w.v 0 then s.clearErr b
     else if bit w.v 1 then s.setFlag b F.HDR_ERR_OVF (s.hwBits b F.HDR_ERR_OVF != 0 && s.flag b F.HDR_ERR_OVF) else s, 0)
  else if 0x030 ≤ off then (s, causeHOLE)
  else (s, 0)

/-! ### One page (R38 to R48) -/

/-- A word or a 64-bit value of the page written, whatever else is written in the same cycle. -/
def State.writeAlone (s : State) (p : Page) (off : Nat) (w : Wr) : State × Nat :=
  if off < 0x40 then s.wHeader p off w
  else if !s.pageReady p ∨ (p.slots off).isNone then (s, causeHOLE)
  else (s.pageSync p off).writeBlock p off w

/-- How a word that is not written field by field takes the write of a lower requester after that of a higher one in the same cycle
(R41): 1: the value of the higher stands, and nothing else comes of the lower's write than its cause; 2: the lower's write is made, and then the
higher's again, by the value it left. 0: the word's fields keep the order themselves, or what the word starts has none. -/
def orderOf (p : Page) (off : Nat) : Nat :=
  if off = 0x00C then 2
  else if off = 0x020 then 1
  else if off < 0x40 ∨ (p.slots off).isNone then 0
  else match p.ty with
    | .tbas => if off = 0x5C then 2 else 0
    | .timr => if 8 ≤ off % 0x20 ∧ off % 0x20 < 0x18 then 1 else 0
    | .wdog => if off = 0x40 ∨ off = 0x44 then 2 else 0
    | .keep => if off = 0x80 ∨ off = 0x84 then 2 else 0
    | .grpl => if off = 0x40 then 2 else 0
    | .intc => if off = 0xC0 + 4 * 14 then 1 else 0
    | .afe => if off = 0x40 then 2 else 0
    | .adc => if off = 0x40 then 2 else if off = 0x48 ∨ off = 0x4C then 1 else 0
    | .cmpr => if off % 0x10 = 0 ∨ off % 0x10 = 4 then 2 else 0
    | .trip => if 0x40 ≤ off ∧ off < 0x80 then 2 else 0
    | .pwmg => if 0x80 ≤ off ∧ off < 0x680 ∧ (off - 0x80) % 0x60 = 0 then 2 else 0
    | .fcst => if p.inst = 0 then 0 else if off = 0x40 then 2 else if 0x64 ≤ off ∧ off < 0x74 then 1 else 0
    | .klog => if off = 0x40 then 2 else 0
    | .core => if off = 0x40 then 2 else if 0x88 ≤ off ∧ off < 0x94 then 1 else 0
    | .iommu => if off = 0x144 ∨ off = 0x148 then 1 else 0
    | _ => 0

/-- The word at an offset as a field, for the order of its writes. -/
def F.word (off : Nat) : Fld := ⟨off, 63, 1, .rw, 0, false⟩

/-- Whether a write of a requester comes after a higher requester's of the same cycle, to a word that is written as a whole (R41). -/
def State.wordUnder (s : State) (p : Page) (off size req : Nat) : Bool :=
  orderOf p off != 0 && (s.softUnder p.base (F.word off) 0 req || (size == 8 && s.softUnder p.base (F.word (off + 4)) 0 req))

/-- A requester writes a word that is written as a whole (R41). -/
def State.noteWord (s : State) (p : Page) (off size req : Nat) : State :=
  if orderOf p off = 0 then s
  else
    let s := s.noteSoft p.base (F.word off) 0 req
    if size = 8 then s.noteSoft p.base (F.word (off + 4)) 0 req else s

/-- What the RW and RWL fields of a word hold. -/
def State.heldWord (s : State) (p : Page) (off : Nat) : Nat :=
  if off = 0x00C then s.getF p.base F.HDR_BLK_EN
  else ((p.slots off).getD []).foldl (fun v x =>
    if x.fld.acc == .rw || x.fld.acc == .rwl then v + 2 ^ x.pos * bits (s.shown p x.fld 0) x.part x.w else v) 0

/-- A word or a 64-bit value of the page written; the write of a lower requester in the cycle of a higher one's comes before it
(R41). -/
def State.writeWord (s : State) (p : Page) (off : Nat) (w : Wr) : State × Nat :=
  let r := s.writeAlone p off w
  if s.wordUnder p off w.size w.req then
    if orderOf p off = 1 then (s, r.2)
    else ((r.1.writeAlone p off { w with v := s.heldWord p off, opn := true }).1, r.2)
  else (r.1.noteWord p off w.size w.req, r.2)

/-- Whether the two words at an offset are a pair of shadow registers that enter together (R141). -/
def shadowPair (p : Page) (off : Nat) : Bool :=
  let r := (off - 0x80) % 0x60
  p.ty == .pwmg && decide (0x80 ≤ off) && decide (off < 0x680) && (r == 8 || r == 0x10 || r == 0x18)

/-- Whether an 8-byte write at an offset is one write: of a 64-bit value, or of a pair of shadow registers. -/
def wideAt (p : Page) (off : Nat) : Bool :=
  0x40 ≤ off && (((p.slots off).getD []).any (fun x => 32 < x.fld.w && x.part == 0) || (p.ty == .ring && off == 0x78) ||
    shadowPair p off)

/-- A write of `size` bytes; the cause recorded. The staged tile of a refiring in SHADOW takes the writes of its logical
tile's generators too (R368). -/
def State.writePage (s : State) (p : Page) (off size : Nat) (w : Wr) : State × Nat :=
  if size = 4 then s.writeWord p off { w with size := 4, v := w.v % 2 ^ 32 }
  else if wideAt p off then s.writeWord p off { w with size := 8, v := w.v % 2 ^ 64 }
  else andThen (s.writeWord p off { w with size := 4, v := w.v % 2 ^ 32 }) fun s =>
    s.writeWord p (off + 4) { w with size := 4, v := w.v / 2 ^ 32 % 2 ^ 32 }

/-- The tile that stages the next programs of a physical tile's logical tile (R368). -/
def State.stagedFor (s : State) (t : Nat) : Option Nat :=
  match s.refireOf (t / 10) with
  | some r => if r.shadow && r.done.isNone && s.phys r.lt == t && s.role t == 0 then some r.phys else none
  | none => none

/-! ### The decoder (R37, R51, R315, R498) -/

/-- The page in which the decoder of a requester records errors (R51). -/
def decoderPage (req : Nat) : Nat :=
  if req < 80 then pgCNOC (req / 20)
  else if 0x100 ≤ req ∧ req < 0x128 then pgCNOC ((req - 0x100) / 10)
  else if 0x180 ≤ req ∧ req < 0x184 then pgCNOC (req - 0x180)
  else pgDNOC

/-- Bit `i` of the value that an access at offset `off` writes to the word at offset `o`, where it covers that byte. -/
def Access.wordBit (a : Access) (off o i : Nat) : Bool :=
  let b := o + i / 8
  decide (off ≤ b) && decide (b < off + a.size) && bit a.data (8 * (b - off) + i % 8)

/-- The number in bits [lo + w - 1 : lo] of that word. -/
def Access.wordBits (a : Access) (off o lo w : Nat) : Nat :=
  (List.range w).foldl (fun n k => n + 2 ^ k * (a.wordBit off o (lo + k)).toNat) 0

/-- Whether a requester may own a hardware lock (R347). -/
def mayOwn (req : Nat) : Bool := !((decide (0x100 ≤ req) && decide (req < 0x1F0)) || req == reqGroup)

/-- Whether a requester may switch a domain (R389). That a further one's write records PRIV, as R51 has it for what is reserved
to others, is the model's choice (DESIGN CHOICE, log 58). -/
def maySwitch (req : Nat) : Bool := decide (req < 80) || req == reqKeeper || req == reqMonitor

/-- Whether a requester may give a reset command of a scope (R401). -/
def mayReset (req scope : Nat) : Bool :=
  if scope = 1 then req == reqMonitor else if scope = 0 then true else req == reqKeeper

/-- Whether an access is reserved to requesters other than its own (R51, PRIV): a core pair's hold, reset or block reset of
itself (R287), debug registers, broken locks, acquisitions by requesters that own none (R347), switching of domains (R389) and
reset commands (R401), as far as the access performs the action. -/
def privileged (tg : Target) (a : Access) : Bool :=
  let free := a.req == reqKeeper || a.req == reqMonitor
  match tg with
  | .page p off =>
    let covers := fun (lo hi : Nat) => decide (off < hi) && decide (lo < off + max a.size 1)
    decide (off < 0x800) &&
      (match p.ty with
       | .core =>
         a.write && ((a.req == 2 * p.owner + p.inst && (a.wordBit off 0x40 0 || a.wordBit off 0x40 1 || a.wordBit off 0x0C 1)) ||
           (!free && (covers 0x80 0x94 || covers 0xA0 0x100)))
       | .hlck => if a.write then !free && covers 0x300 0x400 else !mayOwn a.req && covers 0x100 0x200
       | .pwrd => a.write && a.wordBit off 0x40 31 && !maySwitch a.req
       | .rstc => a.write && a.wordBit off 0x40 31 && !mayReset a.req (a.wordBits off 0x40 0 2)
       | _ => false)
  | .hbm _ => imageStore a.addr && a.req != reqKeeper
  | .flash _ => a.write && a.req != reqKeeper
  | _ => false

/-- Whether a write goes to a tile that is not active (R25, R315). -/
def State.roleRefuses (s : State) (tg : Target) (a : Access) : Bool :=
  a.write && a.req != reqKeeper &&
    (match tg with
     | .tsram t => s.role t != 0
     | _ => match physWindowOf a.addr with
       | some t => s.role t != 0
       | none => false)

/-- Whether what an address leads to has its power (R389). -/
def State.targetOn (s : State) (tg : Target) : Bool :=
  match tg with
  | .page p _ => s.pageOn p
  | .ctx t _ | .prog t _ | .tsram t => s.domOn (2 * t)
  | .csram c => s.domOn (82 + 10 * c)
  | .hbm c => s.domOn (85 + 10 * c)
  | .flash _ => s.domOn 123
  | _ => true

/-- The island in which an access is made. -/
def targetIsland : Target → Option Nat
  | .page p _ => some p.island
  | .ctx t _ | .prog t _ => some (2 * t + 1)
  | .tsram t => some (2 * t)
  | .csram c => some (81 + 8 * c)
  | .hbm c => some (84 + 8 * c)
  | _ => none

/-- An access that the decoder refuses: a bus error, and the cause in the decoder's page. -/
def State.refuse (s : State) (a : Access) (cause : Nat) : State × Option BusResp :=
  ((s.recordErr (decoderPage a.req) cause a).respond a.req true 0, some ⟨true, 0⟩)

/-- An access that completes; a cause other than 0 is recorded in the page at `base`. -/
def State.complete (s : State) (a : Access) (base cause : Nat) (err : Bool) (v : Nat) : State × Option BusResp :=
  let s := if cause = 0 then s else s.recordErr base cause a
  (s.respond a.req err v, some ⟨err, v⟩)

/-- An access whose response is held until its island wakes or its logical tile has moved (R24, R400). -/
def State.holdAccess (s : State) (a : Access) : State × Option BusResp :=
  ({ s with bus.held := s.bus.held ++ [a] }, none)

/-- Size and alignment that R38 allows. -/
def okSize (a : Access) : Bool := (a.size == 4 && a.addr % 4 == 0) || (a.size == 8 && a.addr % 8 == 0)

/-- After a write to a page that can take a generator out of ARMED, its own page or a trip source's, the launches that it ends end (R214). -/
def State.afterWrite (s : State) (p : Page) : State :=
  match p.ty with
  | .pwmg | .edge => s.fcstAbort (p.owner / 10)
  | .cmpr | .trip | .afe => s.fcstAbort p.owner
  | _ => s

/-- An access that reaches a register page (R38 to R48). `force` is the keeper's write of a settings item, which needs no lock
(R410). -/
def State.pageAccess (s : State) (p : Page) (off : Nat) (a : Access) (force : Bool) : State × Option BusResp :=
  let quiet := decide (0x800 ≤ off)
  if !okSize a then s.complete a p.base causeSIZE true 0
  else if quiet then
    if a.write then s.complete a p.base causeQUIET_WRITE true 0
    else s.complete a p.base 0 false (s.readPage p (off - 0x800) a.size a.req true).1
  else if a.write then
    let w : Wr := ⟨a.req, a.size, a.data, force || s.lockOpen p a.req⟩
    let r := s.writePage p off a.size w
    let s := match (if p.ty == .pwmg then s.stagedFor p.owner else none) with
      | some u => (r.1.writePage { p with base := tileBase u (0x20 + p.inst), owner := u } off a.size w).1
      | none => r.1
    (s.afterWrite p).complete a p.base r.2 false 0
  else
    let v := s.readPage p off a.size a.req false
    let e := s.readEffect p off a.size a.req
    e.1.complete a p.base (firstCause v.2 e.2.2) false (e.2.1.getD v.1)

/-- An access to the context window of a tile (R27 to R33, R49, R107). -/
def State.ctxAccess (s : State) (t off : Nat) (a : Access) : State × Option BusResp :=
  if !okSize a then s.complete a (pgCSTO t) causeSIZE true 0
  else if a.write then
    let c : CoreWrite := ⟨a.req, off / 64, off % 64, a.size, a.data % 2 ^ (8 * a.size), a.addr⟩
    if !c.ok then s.complete a (pgCSTO t) causeBAD_VALUE false 0
    else
      let r := s.takeCore t c
      if r.2 then (r.1, none) else r.1.complete a (pgCSTO t) 0 false 0
  else
    let w := s.ctxWord t (off / 64) (off % 64 / 4)
    let hi := if a.size = 8 then 2 ^ 32 * s.ctxWord t (off / 64) (off % 64 / 4 + 1) else 0
    s.complete a (pgCSTO t) 0 false (w + hi)

/-- An access to the loop-program window of a tile (R49, R113, R132). -/
def State.progAccess (s : State) (t off : Nat) (a : Access) : State × Option BusResp :=
  if !okSize a then s.complete a (pgLPRG t) causeSIZE true 0
  else if a.write then
    let r := s.stepWrite ⟨t, off, a.size, a.data, a.req, a.addr⟩
    if r.2.2 then (r.1, none) else r.1.complete a (pgLPRG t) r.2.1 false 0
  else
    let v := s.stepAt t (off / 8)
    s.complete a (pgLPRG t) 0 false (if a.size = 8 then v else if off % 8 = 0 then v % 2 ^ 32 else v / 2 ^ 32)

/-- An access to memory (R314, R315). -/
def State.memAccess (s : State) (a : Access) : State × Option BusResp :=
  if a.write then
    (((s.writeMem a.addr (toBytes a.data a.size))).respond a.req false 0, some ⟨false, 0⟩)
  else
    let r := s.readMem a.addr a.size
    (r.2.2.respond a.req r.2.1 r.1, some ⟨r.2.1, if r.2.1 then 0 else r.1⟩)

/-- Whether an access waits for a frozen memory: its own, or the ring of the queue that it pushes to or pops from (R321). -/
def State.memWaits (s : State) (tg : Target) (a : Access) : Bool :=
  match tg with
  | .page p off =>
    p.ty == .qmgr && p.inst == 1 &&
      (if a.write then decide (off = 0x40) && s.memFrozen (s.queueOf p.owner (bits a.data 0 11)).base
       else decide (off ≤ 0x4C) && decide (0x4C < off + a.size) && s.memFrozen (s.queueOf p.owner (s.qreq p.owner a.req).popsel).base)
  | _ => s.memFrozen a.addr

/-- Whether an access waits for a tile whose mirror gate is shut, until the tile's move or the gate opens again (R24, R356). -/
def State.gateHolds (s : State) (tg : Target) : Bool :=
  match tg with
  | .page p _ => p.ty.level == 2 && s.gateShut p.owner && s.role p.owner == 0
  | .ctx t _ | .prog t _ | .tsram t => s.gateShut t && s.role t == 0
  | _ => false

/-- Whether an access is a write of LATH_SWEV that waits for the tick after another's (R232). -/
def State.softHeld (s : State) (tg : Target) (a : Access) : Bool :=
  match tg with
  | .page p off =>
    a.write && (p.ty == .dlath || p.ty == .clath || p.ty == .tlath) && p.inst == 0 && decide (off ≤ 0x4C) &&
      decide (0x4C < off + a.size) && (s.lathOf p.lath).swAt == some s.tick
  | _ => false

/-- Whether two addresses lead to one page or one window of a tile. -/
def samePlace (x y : Target) : Bool :=
  match x, y with
  | .page p _, .page q _ => p.base == q.base
  | .ctx t _, .ctx u _ => t == u
  | .prog t _, .prog u _ => t == u
  | _, _ => false

/-- Whether a write of the same requester waits at a window of a tile: for a full stage, or for the runs that have its step in their
window (R33, R132). -/
def State.windowHeld (s : State) (tg : Target) (req : Nat) : Bool :=
  match tg with
  | .ctx t _ => (s.stageOf t).waiting.any fun c => c.req == req
  | .prog t _ => s.loop.heldSteps.any fun h => h.tile == t && h.req == req
  | _ => false

/-- Whether an earlier access of the same requester to the same page is held: accesses take effect in the order of issue
(R40). -/
def State.behindHeld (s : State) (tg : Target) (a : Access) : Bool :=
  s.windowHeld tg a.req || s.bus.held.any fun h => h.req == a.req && samePlace (target s.phys h.addr) tg

/-- Whether an access that reaches its target waits there. -/
def State.waitsAt (s : State) (tg : Target) (a : Access) : Bool :=
  s.softHeld tg a || s.memWaits tg a || s.gateHolds tg || s.behindHeld tg a

/-- Whether an access is a read in a page's quiet view. -/
def quietRead (tg : Target) (a : Access) : Bool :=
  match tg with
  | .page _ off => !a.write && decide (0x800 ≤ off)
  | _ => false

/-- The source that a doorbell write for a stopped core island names, where its page is that island's INTC (R243). -/
def sleepDoorbell (tg : Target) (a : Access) : Option (Nat × Option Nat) :=
  match tg with
  | .page p off =>
    if p.ty == .intc && a.write && okSize a && off == 0x40 then some (p.owner, doorbellSrc a.req p.owner (a.data % 2 ^ 32)) else none
  | _ => none

/-- Whether a doorbell write for a stopped core island waits: the wake buffer is full (R243). -/
def State.doorbellFull (s : State) (t : Nat) (src : Option Nat) : Bool :=
  src.isSome && decide (16 ≤ (SMap.getD s.lath.int.wakeBuf t []).length)

/-- A bus access from its requester to its response; none while the response is held (R37 to R53, R498). -/
def State.busAccess (s : State) (a : Access) (force : Bool := false) : State × Option BusResp :=
  let tg := target s.phys a.addr
  match tg with
  | .unmapped => s.refuse a causeUNMAPPED
  | .noPage => s.refuse a causeNO_PAGE
  | _ =>
    if !s.targetOn tg then s.refuse a causeNO_PAGE
    else if privileged tg a then s.refuse a causePRIV
    else if s.roleRefuses tg a then s.refuse a causeROLE
    else
      let moves := match aliasOf a.addr with
        | some lt => if s.moving lt then some lt else none
        | none => none
      match moves with
      | some lt => (if quietRead tg a then s else s.satF (pgCNOC (lt / 8)) F.CNOC_CNT_HELD).holdAccess a
      | none =>
        let stopped := match targetIsland tg with
          | some i => if s.isleStopped i then some i else none
          | none => none
        match stopped with
        | some i =>
          match sleepDoorbell tg a, tg with
          | some (t, src), .page p off =>
            if s.behindHeld tg a then s.holdAccess a
            else if s.doorbellFull t src then
              let l := src.getD 0 % 512
              let s := s.satF (pgINTC t) F.INTC_WAKE_WAITS
              (if s.fbit (pgINTC t) (F.INTC_EN_EN (l / 32)) (l % 32) then s.requestWake i else s).holdAccess a
            else s.pageAccess p off a force
          | _, _ => (s.requestWake i).holdAccess a
        | none =>
          if s.waitsAt tg a then s.holdAccess a
          else match tg with
          | .page p off => s.pageAccess p off a force
          | .ctx t off => s.ctxAccess t off a
          | .prog t off => s.progAccess t off a
          | _ => s.memAccess a

/-- A register written by a requester, in 4 or 8 bytes. -/
def State.busWrite (s : State) (req addr size data : Nat) : State := (s.busAccess ⟨req, addr, size, true, data⟩).1

/-- A register read by a requester. -/
def State.busRead (s : State) (req addr size : Nat) : State := (s.busAccess ⟨req, addr, size, false, 0⟩).1

/-- Whether what holds an access holds it still. -/
def State.stillHeld (s : State) (a : Access) : Bool :=
  (match aliasOf a.addr with
    | some lt => s.moving lt
    | none => false) ||
  (match targetIsland (target s.phys a.addr) with
    | some i => s.targetOn (target s.phys a.addr) && s.isleStopped i
    | none => false) || s.waitsAt (target s.phys a.addr) a

/-- The 4-byte word at an address, as the quiet view shows it. -/
def State.wordAt (s : State) (addr : Nat) : Nat :=
  match target s.phys addr with
  | .page p off => (s.readPage p off 4 reqKeeper true).1
  | _ => 0

/-- A register written with some of its bits changed: those of `mask` take `v`, the others are written as they stand. -/
def State.busWriteBits (s : State) (req addr mask v : Nat) : State :=
  let old := s.wordAt addr
  s.busWrite req addr 4 (old - (old &&& mask) + v)

/-- The accesses held go on, in order of issue; those that are held still stay (R24, R400). -/
def State.replayHeld (s : State) : State :=
  s.bus.held.foldl (fun s a =>
    if s.stillHeld a then { s with bus.held := s.bus.held ++ [a] } else (s.busAccess a).1) { s with bus.held := [] }

/-- A settings item takes effect: the L fields it covers take its values at resets, and the register is written by the keeper
(R16, R410). Items for pages without power only change the reset values. -/
def State.applyItem (s : State) (i : JItem) : State :=
  let s := (s.journalReg i.addr i.value i.mask).journalQueue i.addr i.value i.mask
  match target s.phys i.addr with
  | .page p off =>
    if s.pageOn p then
      let old := (s.readPage p off 4 reqKeeper true).1
      let v := (old - (old &&& i.mask)) + (i.value &&& i.mask)
      (s.busAccess ⟨reqKeeper, i.addr, 4, true, v⟩ true).1
    else s
  | _ => s

end Sys2Proof.Machine
end

