-- ==== Sys2Proof/Machine/MonOps.lean ====
section
/-! DEFINITION. Machine/MonOps.lean: the Derevo monitor's sessions and operations (R455 to R472), page freezes (R473 to R475) and
the test access port (R476). -/

namespace Sys2Proof.Machine

/-! ### Datagrams and sessions (R457 to R462) -/

/-- A frame or datagram that is discarded (R456, R462). -/
def State.monDrop (s : State) (port : Nat) : State := s.satF (pgMGMT port) F.MGMT_STAT_DROPS

/-- The header fields of a datagram: MAGIC, VER, KIND, SESSION, SEQ (R462). -/
def drvOk (b : List Byte) (kind size : Nat) : Bool :=
  beAt b 0 2 == 0x4456 && beAt b 2 1 == 1 && beAt b 3 1 == kind && decide (b.length = size) && decide (size ≤ 1400)

/-- Whether Derevo datagrams are accepted on a port. -/
def State.drvPort (s : State) (port : Nat) : Bool :=
  s.flag (pgMGMT port) F.MGMT_CTRL_EN && s.fbit pgDBG F.DBG_CTRL_PORTS port && s.pageReady ⟨.dbg, pgDBG, 0, 0⟩

/-- REJECT (R457): 1 no free session, 2 authentication, 3 lifecycle, 4 format. -/
def State.drvReject (s : State) (port addr udp reason : Nat) : State :=
  s.sendTo port addr udp (drvHeader 0x7F 0 0 ++ beBytes reason 1)

/-- DBG_STAT shows the open sessions. -/
def State.showSessions (s : State) : State :=
  (s.setF pgDBG F.DBG_STAT_SESSIONS s.mon.sessions.length).setFlag pgDBG F.DBG_STAT_CONTROL
    (s.mon.sessions.any fun x => x.control)

/-- A HELLO datagram (R457, R458). -/
def State.sessionHello (s : State) (port addr udp : Nat) (b : List Byte) : State :=
  if !s.drvPort port ∨ !drvOk b 1 244 ∨ beAt b 4 12 ≠ 0 then s.monDrop port
  else
    let p := b.drop 16
    let cn := slice p 0 32
    let ceph := slice p 32 97
    let cst := slice p 129 97
    let want := beAt p 226 1
    if beAt ceph 0 1 ≠ 4 ∨ beAt cst 0 1 ≠ 4 ∨ 1 < want ∨ beAt p 227 1 ≠ 0 then s.drvReject port addr udp 4
    else if !s.flag pgDBG F.DBG_CTRL_EN ∨ 4 ≤ s.mon.sessions.length + s.mon.hands.length then
      (s.satF pgDBG F.DBG_CNT_REJECTED).drvReject port addr udp 1
    else
      let id := s.mon.next
      let dn := Config.random 32 s.free
      let prv := Config.random 48 (s.free + 1)
      let s := { s with free := s.free + 2 }
      let ack := dn ++ Config.derivePublic prv
      let h1 := Config.sha384 (p ++ ack ++ beBytes id 4)
      let sig := Config.ecdsaSign s.fire.aliasKey h1
      let h : Hand := ⟨id, port, addr, udp, s.tick, want == 1, cn, ceph, cst, dn, prv, Config.sha384 (h1 ++ sig)⟩
      ({ s with mon.hands := s.mon.hands ++ [h], mon.next := if id < 0xFFFFFFFE then id + 1 else 1 }).sendTo port addr udp
        (drvHeader 2 id 0 ++ ack ++ sig)

/-- Whether a debugger's key may open a session: 0 yes, else the reason of a REJECT (R457, R432). -/
def State.drvAuth (s : State) (cstat : List Byte) : Nat :=
  let h := Config.sha384 cstat
  let slot := fun (k : Nat) => (List.range 12).flatMap fun w => toBytes (s.getF pgDBG (F.DBG_KEYHASH_WORD k w)) 4
  if (List.range 4).any fun k => !allZero (slot k) && slot k == h then 0
  else if h = Config.mfgKeyHash then (if s.fire.otp.life = 1 then 3 else 0)
  else 2

/-- A PROVE datagram (R457, R458, R460). -/
def State.sessionProve (s : State) (port addr udp : Nat) (b : List Byte) : State :=
  if !s.drvPort port ∨ !drvOk b 3 112 ∨ beAt b 8 8 ≠ 0 then s.monDrop port
  else match s.mon.hands.find? fun h => h.id == beAt b 4 4 && h.port == port && h.addr == addr && h.udp == udp with
    | none => s.monDrop port
    | some h =>
      let s := { s with mon.hands := s.mon.hands.filter fun x => x.id != h.id }
      let why := if Config.ecdsaVerify h.cstat h.h2 (b.drop 16) then s.drvAuth h.cstat else 2
      if why ≠ 0 then ((s.satF pgDBG F.DBG_CNT_AUTHFAIL).pulse pgDBG 2).drvReject port addr udp why
      else
        let prk := Config.hmac384 (h.cnonce ++ h.dnonce) (Config.ecdh h.dprv h.ceph)
        let key := fun (dir : List Byte) => Config.hkdf384 prk (dir ++ h.h2) 36
        let name := [0x64#8, 0x65#8, 0x72#8, 0x65#8, 0x76#8, 0x6F#8, 0x31#8, 0x20#8]
        let control := h.want && !s.mon.sessions.any fun x => x.control
        let x : Session := {
          id := h.id, port := port, addr := addr, udp := udp, control := control
          kIn := key (name ++ [0x63#8, 0x32#8, 0x64#8]), kOut := key (name ++ [0x64#8, 0x32#8, 0x63#8])
          last := s.tick, cstat := h.cstat }
        let s := ({ s with mon.sessions := s.mon.sessions ++ [x] }).showSessions.pulse pgDBG 0
        s.drvSend h.id (drvInner 0x80 0 0 ([BitVec.ofNat 8 control.toNat, 0] ++ beBytes 1344 2))

/-- A handshake not complete within 1 s (R457). -/
def State.handExpire (s : State) (id : Nat) : State :=
  { s with mon.hands := s.mon.hands.filter fun h => !(h.id == id && decide (h.at_ + 2000000000 ≤ s.tick)) }

/-! ### Units and run control (R464, R467) -/

def State.unitHalted (s : State) (u : Nat) : Bool := if u < 80 then s.halted u else s.mon.keeper

/-- A monitor's write of bits of CORE_DCTL. -/
def State.monDctl (s : State) (u mask v : Nat) : State := s.busWriteBits reqMonitor (pgCORE u + 0x80) mask v

/-- A unit is asked to halt, resumed, or stepped. The keeper halts and goes on at once, and its watchdog with it (R77). -/
def State.unitHalt (s : State) (u : Nat) : State :=
  if u < 80 then s.monDctl u 1 1 else (({ s with mon.keeper := true }).wdFreeze 40).holdLeases reqKeeper true
def State.unitResume (s : State) (u : Nat) : State :=
  if u < 80 then s.monDctl u 2 2 else (({ s with mon.keeper := false }).wdThaw 40).holdLeases reqKeeper false

/-- The units of a 12-byte mask, and the mask of a set of units (R464). -/
def maskUnits (b : List Byte) : List Nat := (List.range 81).filter fun u => bit (beAt b (u / 8) 1) (u % 8)
def unitsMask (us : List Nat) : List Byte :=
  (List.range 12).map fun k => BitVec.ofNat 8 ((List.range 8).foldl (fun n i => setBit n i (us.contains (8 * k + i))) 0)

/-- A session closes (R460). -/
def State.sessionClose (s : State) (id : Nat) : State :=
  match s.session id with
  | none => s
  | some x =>
    let s := ({ s with mon.sessions := s.mon.sessions.filter fun y => y.id != id }).showSessions.pulse pgDBG 1
    if x.control && s.flag pgDBG F.DBG_CTRL_REL_LOSS then
      let s := (List.range 80).foldl (fun s p => s.clearBreaks p) s
      (List.range 81).foldl (fun s u => if s.unitHalted u then s.unitResume u else s) s
    else s

/-- A session idle for 10 s (R460). -/
def State.sessionExpire (s : State) (id : Nat) : State :=
  match s.session id with
  | some x => if x.last + 20000000000 ≤ s.tick then s.sessionClose id else s
  | none => s

/-- A response, kept as the session's last (R464). -/
def State.drvAnswer (s : State) (id op tag status : Nat) (body : List Byte) : State :=
  let m := drvInner (op + 0x80) tag status body
  match s.session id with
  | none => s
  | some x =>
    if 2 ^ 64 - 1 ≤ x.seqOut then s.sessionClose id
    else (s.setSession { x with tag := some tag, resp := m, halt := none }).drvSend id m

/-- The response of a HALT or a STEP (R465, R469). -/
def State.haltAnswer (s : State) (x : Session) (h : HaltReq) (status : Nat) : State :=
  if h.step then
    let u := h.units.headD 0
    s.drvAnswer x.id 0x12 h.tag status (beBytes ((s.pair u).r.sysr 0x43) 4 ++ beBytes 0 4 ++ beBytes ((s.pair u).r.sys48 0x40) 8)
  else s.drvAnswer x.id 0x10 h.tag status (unitsMask (h.units.filter s.unitHalted))

/-- Responses of HALT and STEP requests whose units have halted leave. A stopped pair does nothing on a HALT (R468). -/
def State.haltsDone (s : State) : State :=
  s.mon.sessions.foldl (fun s x =>
    match x.halt with
    | some h =>
      if h.units.all fun u => (u < 80 && s.pairStopped u) || (s.unitHalted u && !(s.pair u).stepping) then s.haltAnswer x h 0 else s
    | none => s) s

/-- A HALT whose units have not all halted within 1 ms (R465). -/
def State.haltTimeout (s : State) (id : Nat) : State :=
  match s.session id with
  | some x => match x.halt with
    | some h => if !h.step ∧ h.at_ + 2000000 ≤ s.tick then s.haltAnswer x h 8 else s
    | none => s
  | none => s

/-- The debug entry of a pair, and what the monitor sends at it (R467). -/
def State.enterDebug (s : State) (p reason : Nat) (daddr : Option Nat := none) (slot : Nat := 0) (write : Bool := false) : State :=
  (s.debugEntry p reason daddr slot write).haltsDone

/-! ### Memory for the debugger (R466) -/

/-- The pieces of a range, cut at 4-byte boundaries. -/
def pieces : Nat → Nat → Nat → List (Nat × Nat)
  | 0, _, _ => []
  | fuel + 1, a, n => if n = 0 then [] else let k := min n (4 - a % 4); (a, k) :: pieces fuel (a + k) (n - k)

/-- The address at which the monitor reads: a register page through its quiet view (R47, R466). -/
def State.quietAddr (s : State) (a : Nat) : Nat :=
  match target s.phys a with
  | .page _ off => if off < 0x800 then a + 0x800 else a
  | _ => a

/-- A walk of a halted unit's tables, as a supervisor load or store, past its TLB (R466): a physical address or a TCAUSE. -/
def State.monWalk (s : State) (p va kind : Nat) : State × (Nat ⊕ Nat) :=
  let r := (s.pair p).r
  if !bit (r.sysr 0x20) 0 then
    if va < 0x100000 then (s, .inr (0x10000000 + 0x200000 * (p / 2) + 0x100000 * (p % 2) + va))
    else let q := s.draw 6; (q.2, .inl (q.1 % 4 + 1 + 16 * (q.1 / 16)))
  else
    let w := s.walk (bits (r.sysr 0x21) 0 12) va 4 0 (2 ^ 12 * bits (r.sys48 0x22) 12 36)
    match w with
    | .fault k l _ => (s.walked reqMonitor (p / 20) w, .inl (k + 16 * l))
    | .waits => (s, .inl 3)
    | .leaf e =>
      let k := permFault e.leaf kind false false
      if k = 0 then (s, .inr (e.phys va)) else (s, .inl (k + 48))

/-- Physical address of one piece: ASPACE 0 physical, 1 virtual in a unit. -/
def State.monAddr (s : State) (space p a kind : Nat) : State × (Nat ⊕ Nat) :=
  if space = 0 then (s, .inr a) else s.monWalk p a kind

/-- A READ's bytes, or the STATUS and body of its failure (R465, R466). -/
def State.monRead (s : State) (space p : Nat) (ps : List (Nat × Nat)) : State × (List Byte ⊕ Nat × List Byte) :=
  ps.foldl (fun (r : State × (List Byte ⊕ Nat × List Byte)) e =>
    match r.2 with
    | .inr f => (r.1, .inr f)
    | .inl bs =>
      match r.1.monAddr space p e.1 1 with
      | (s, .inl c) => (s, .inr (5, beBytes e.1 8 ++ beBytes c 1))
      | (s, .inr a) =>
        match s.busAccess ⟨reqMonitor, s.quietAddr a, e.2, false, 0⟩ with
        | (s, some q) => if q.err then (s, .inr (4, beBytes a 8)) else (s, .inl (bs ++ toBytes q.data e.2))
        | (s, none) => (s, .inr (4, beBytes a 8))) (s, .inl [])

/-- A WRITE: nothing, or the STATUS and body of its failure (R466). -/
def State.monWrite (s : State) (space p : Nat) (a0 : Nat) (data : List Byte) (ps : List (Nat × Nat)) :
    State × Option (Nat × List Byte) :=
  ps.foldl (fun (r : State × Option (Nat × List Byte)) e =>
    match r.2 with
    | some f => (r.1, some f)
    | none =>
      match r.1.monAddr space p e.1 2 with
      | (s, .inl c) => (s, some (5, beBytes e.1 8 ++ beBytes c 1))
      | (s, .inr a) =>
        match s.busAccess ⟨reqMonitor, a, e.2, true, ofBytes (slice data (e.1 - a0) e.2)⟩ with
        | (s, some q) => (s, if q.err then some (4, beBytes a 8) else none)
        | (s, none) => (s, none)) (s, none)

/-- Whether a range lies where a debugger may not reach in DEPLOYED: OTP, the xSPI windows, the image store (R461). -/
def deniedRange (a n : Nat) : Bool :=
  let meets := fun (lo len : Nat) => decide (a < lo + len) && decide (lo < a + n)
  meets pgOTP 0x1000 || meets 0x40000000 0x40000000 || (List.range 4).any fun c => meets (0x1000000000 + 0x900000000 * c + 0x8F0000000) 0x10000000

/-- Whether a range meets register space. -/
def State.inRegs (a n : Nat) : Bool := !(isMemory a && isMemory (a + n - 1)) && !(decide (0x40000000 ≤ a) && decide (a < 0x80000000))

/-- Before a session first alters the device, MREG15 is extended with its CSTAT; false where the log is full (R461). -/
def State.monAlter (s : State) (x : Session) : State × Bool :=
  if x.altered then (s, true)
  else if s.logFull then (s, false)
  else ((s.extend 15 (Config.sha384 x.cstat) 0x86 0).setSession { x with altered := true }, true)

/-! ### Operations (R465) -/

/-- DCAUSE and DPC of a unit, for STATUS. -/
def State.unitStat (s : State) (u : Nat) : List Byte :=
  let r := (s.pair u).r
  let stat := if u < 80 then s.wordAt (pgCORE u + F.CORE_STAT_HALTED.off) else s.mon.keeper.toNat * 2 ^ F.CORE_STAT_HALTED.lo
  beBytes stat 4 ++ beBytes (r.sysr 0x43) 4 ++ beBytes (r.sys48 0x40) 8 ++ beBytes (r.sys48 0x44) 8

/-- The body length that an operation's request has; none for an unknown one. A WRITE's is of its 16 bytes. -/
def drvBody (op : Nat) : Option Nat :=
  match op with
  | 0x01 | 0x02 => some 0
  | 0x03 => some 1
  | 0x10 | 0x11 => some 12
  | 0x12 => some 2
  | 0x20 | 0x21 => some 16
  | 0x22 => some 4
  | 0x23 => some 20
  | 0x30 => some 24
  | 0x31 => some 2
  | _ => none

/-- Whether an observer may send an operation. -/
def drvObserver (op : Nat) : Bool := op == 1 || op == 2 || op == 3 || op == 0x20 || op == 0x22

/-- STEP of a halted unit (R469). The keeper's instruction is not modelled: its DPC afterwards is free. -/
def State.monStep (s : State) (x : Session) (tag u : Nat) (mask : Bool) : State :=
  if u < 80 then
    let s := s.monDctl u 0xC (4 + 8 * mask.toNat)
    s.setSession { (s.session x.id).getD x with halt := some ⟨tag, [u], s.tick, true⟩ }
  else
    let q := s.draw 48
    let r := (((q.2.pair 80).r.setSys48 0x40 q.1).setSys 0x43 4)
    (q.2.setRegs 80 r).drvAnswer x.id 0x12 tag 0 (beBytes 4 4 ++ beBytes 0 4 ++ beBytes q.1 8)

/-- BPSET (R470): a breakpoint slot of a pair, through its CORE page. -/
def State.monBreak (s : State) (u k ctl asid a len : Nat) : State :=
  let b := pgCORE u + 0xA0 + 0x10 * k
  let s := (s.busWrite reqMonitor (b + 4) 4 (a % 2 ^ 32)).busWrite reqMonitor (b + 8) 4 (a / 2 ^ 32)
  let s := if 4 ≤ k then s.busWrite reqMonitor (b + 12) 4 len else s
  s.busWrite reqMonitor b 4 (ctl + 2 ^ 16 * asid)

/-- HALT, RESUME, STEP, READ, WRITE, REGRD, REGWR, BPSET and SWBP of a request that is not refused before (R465 to R471). -/
def State.drvRun (s : State) (x : Session) (op tag : Nat) (b : List Byte) : State :=
  let ans := fun (s : State) (st : Nat) (body : List Byte) => s.drvAnswer x.id op tag st body
  let deployed := s.fire.otp.life == 1
  let u := beAt b 0 1
  match op with
  | 0x01 => ans s 0 (beBytes s.count 8)
  | 0x02 => (ans s 0 []).sessionClose x.id
  | 0x03 => if 80 < u then ans s 2 [] else ans s 0 (s.unitStat u)
  | 0x10 =>
    let us := maskUnits b
    if deployed ∧ us.contains 80 then ans s 7 []
    else
      let s := us.foldl (fun s u => s.unitHalt u) s
      (s.setSession { (s.session x.id).getD x with halt := some ⟨tag, us, s.tick, false⟩ }).haltsDone
  | 0x11 =>
    let us := (maskUnits b).filter s.unitHalted
    ans (us.foldl (fun s u => s.unitResume u) s) 0 (unitsMask us)
  | 0x12 =>
    if 80 < u ∨ 1 < beAt b 1 1 then ans s 2 []
    else if deployed ∧ u = 80 then ans s 7 []
    else if !s.unitHalted u then ans s 3 []
    else s.monStep x tag u (bit (beAt b 1 1) 0)
  | 0x20 | 0x21 =>
    let space := beAt b 0 1
    let p := beAt b 1 1
    let a := beAt b 4 8
    let n := beAt b 12 2
    let size := if op = 0x21 then 16 + n else 16
    if 1 < space ∨ n = 0 ∨ 1024 < n ∨ beAt b 2 2 ≠ 0 ∨ beAt b 14 2 ≠ 0 ∨ b.length ≠ size ∨ 2 ^ 48 < a + n ∨ space = 1 ∧ 80 ≤ p ∨
        (space = 0 ∧ State.inRegs a n ∧ (a % 4 ≠ 0 ∨ n % 4 ≠ 0)) then ans s 2 []
    else if space = 1 ∧ !s.unitHalted p then ans s 3 []
    else if deployed ∧ space = 0 ∧ deniedRange a n then ans s 7 []
    else
      let ps := pieces n a n
      if op = 0x20 then
        match s.monRead space p ps with
        | (s, .inl d) => ans s 0 d
        | (s, .inr f) => ans s f.1 f.2
      else
        let m := s.monAlter x
        if !m.2 then ans m.1 7 []
        else match m.1.monWrite space p a (b.drop 16) ps with
          | (s, none) => ans s 0 []
          | (s, some f) => ans s f.1 f.2
  | 0x22 | 0x23 =>
    let i := beAt b 2 2
    let v := beAt b 4 16
    if 80 < u ∨ beAt b 1 1 ≠ 0 ∨ !dbgListed i ∨ (op = 0x23 ∧ (i = 0x21 ∨ i = 0x142) ∧ 2 ≤ v % 4) then ans s 2 []
    else if deployed ∧ op = 0x23 ∧ u = 80 then ans s 7 []
    else if !s.unitHalted u then ans s 3 []
    else if op = 0x22 then ans s 0 (beBytes ((s.pair u).settleLongs.r.dbgRead u i) 16)
    else
      let m := s.monAlter x
      if !m.2 then ans m.1 7 []
      else
        let q := (m.1.pair u).settleLongs
        ans (m.1.setPair u { q with r := q.r.dbgWrite i v }) 0 []
  | 0x30 =>
    let k := beAt b 1 1
    let ctl := beAt b 2 2
    let asid := beAt b 4 2
    let a := beAt b 8 8
    let len := beAt b 16 4
    if 80 < u ∨ 5 < k ∨ 15 < ctl ∨ 4095 < asid ∨ beAt b 6 2 ≠ 0 ∨ 2 ^ 48 ≤ a ∨ beAt b 20 4 ≠ 0 ∨ (4 ≤ k ∧ len = 0) then ans s 2 []
    else if u = 80 then ans s 7 []
    else
      let m := s.monAlter x
      if !m.2 then ans m.1 7 [] else ans (m.1.monBreak u k ctl asid a len) 0 []
  | _ =>
    if 80 < u ∨ 1 < beAt b 1 1 then ans s 2 []
    else if u = 80 then ans s 7 []
    else
      let m := s.monAlter x
      if !m.2 then ans m.1 7 [] else ans (m.1.monDctl u 0x10 (16 * beAt b 1 1)) 0 []

/-- A request of an open session (R463, R464): the cached response on the same TAG, BUSY while another runs. -/
def State.drvRequest (s : State) (id op tag : Nat) (body : List Byte) : State :=
  match s.session id with
  | none => s
  | some x =>
    if x.halt.isSome then s.drvSend id (drvInner (op + 0x80) tag 6 [])
    else if x.tag = some tag then s.drvSend id x.resp
    else match drvBody op with
      | none => s.drvAnswer id op tag 1 []
      | some n =>
        if !x.control ∧ !drvObserver op then s.drvAnswer id op tag 7 []
        else if (op = 0x21 ∧ body.length < n) ∨ (op ≠ 0x21 ∧ body.length ≠ n) then s.drvAnswer id op tag 2 []
        else s.drvRun x op tag body

/-- A SEALED datagram (R459, R460, R463). -/
def State.sealedReceive (s : State) (port addr udp : Nat) (b : List Byte) : State :=
  if !s.drvPort port ∨ !drvOk b 0x10 b.length ∨ b.length < 40 then s.monDrop port
  else match s.mon.sessions.find? fun x => x.id == beAt b 4 4 && x.port == port && x.addr == addr && x.udp == udp with
    | none => s.monDrop port
    | some x =>
      let seq := beAt b 8 8
      match Config.gcmOpen (x.kIn.take 32) (drvIv x.kIn seq) (b.take 16) (b.drop 16) with
      | none => s.satF pgDBG F.DBG_CNT_BADTAG
      | some m =>
        if seq ≤ x.seqIn then s.satF pgDBG F.DBG_CNT_REPLAY
        else
          let s := s.setSession { x with seqIn := seq, last := s.tick }
          let tag := beAt m 2 2
          let s := if m.length < 8 ∨ beAt m 1 1 ≠ 0 ∨ beAt m 4 2 ≠ m.length - 8 ∨ 1344 < m.length - 8 ∨ beAt m 6 2 ≠ 0 then
              s.drvAnswer x.id (beAt m 0 1) tag 2 []
            else s.drvRequest x.id (beAt m 0 1) tag (m.drop 8)
          if seq = 2 ^ 64 - 1 then s.sessionClose x.id else s

/-! ### The management ports (R456) -/

/-- The ones' complement sum of 16-bit big-endian words. -/
def ipSum : List Byte → Nat
  | [] => 0
  | [a] => 256 * a.toNat
  | a :: b :: rest => let n := 256 * a.toNat + b.toNat + ipSum rest; n % 65536 + n / 65536

/-- The page whose addresses a port uses: with PRP, port 0's (R456). -/
def State.addrPage (s : State) (port : Nat) : Nat := if s.flag (pgMGMT 0) F.MGMT_CTRL_PRP then pgMGMT 0 else pgMGMT port

def State.ownMac (s : State) (port : Nat) : List Byte :=
  beBytes (2 ^ 32 * s.getF (s.addrPage port) F.MGMT_MAC_HI_V + s.getF (s.addrPage port) F.MGMT_MAC_LO_V) 6

/-- The last frame that left each port. -/
def State.sendFrame (s : State) (port : Nat) (f : List Byte) : State :=
  let tag := fun (p : Nat) => if s.flag (pgMGMT p) F.MGMT_CTRL_VLAN_EN then
      [0x81#8, 0x00#8] ++ beBytes (s.getF (pgMGMT p) F.MGMT_CTRL_VID) 2 else []
  let out := fun (p : Nat) => f.take 12 ++ tag p ++ f.drop 12
  if s.flag (pgMGMT 0) F.MGMT_CTRL_PRP then
    let seq := s.mon.prpSeq % 65536
    let rct := fun (p : Nat) => beBytes seq 2 ++ beBytes (4096 * (0xA + p) + ((out p).length - 14 + 6) % 4096) 2 ++ [0x88#8, 0xFB#8]
    { s with
      mon.frames := SMap.put (SMap.put s.mon.frames 0 (out 0 ++ rct 0)) 1 (out 1 ++ rct 1)
      mon.prpSeq := (seq + 1) % 65536 }
  else { s with mon.frames := SMap.put s.mon.frames port (out port) }

/-- A PRP duplicate by its trailer, and the frames that a duplicate is known by (R456). -/
def State.prpDup (s : State) (f : List Byte) : State × Bool :=
  let n := f.length
  if s.flag (pgMGMT 0) F.MGMT_CTRL_PRP ∧ 20 ≤ n ∧ beAt f (n - 2) 2 = 0x88FB then
    let k := (slice f 6 6, beAt f (n - 6) 2)
    if s.mon.prpSeen.contains k then ({ s with mon.prpSeen := s.mon.prpSeen.filter (· ≠ k) }, true)
    else ({ s with mon.prpSeen := (k :: s.mon.prpSeen).take 256 }, false)
  else (s, false)

/-- An IPv4 packet for this port (R456): ICMP echo, Derevo, SPDM; else it is discarded. -/
def State.ipReceive (s : State) (port : Nat) (src p : List Byte) : State :=
  let ip := s.getF (s.addrPage port) F.MGMT_IP_V
  let n := beAt p 2 2
  let from_ := beAt p 12 4
  if beAt p 0 1 ≠ 0x45 ∨ p.length < n ∨ n < 20 ∨ beAt p 6 2 % 16384 ≠ 0 ∨ beAt p 16 4 ≠ ip ∨ ipSum (p.take 20) ≠ 0xFFFF then s.monDrop port
  else
    let d := slice p 20 (n - 20)
    if beAt p 9 1 = 1 ∧ beAt d 0 2 = 0x0800 ∧ 8 ≤ d.length ∧ ipSum d = 0xFFFF then
      let body := d.drop 4
      let icmp := [0#8, 0#8] ++ beBytes (0xFFFF - ipSum body) 2 ++ body
      let h := fun (sum : Nat) => [0x45#8, 0#8] ++ beBytes n 2 ++ beBytes 0 2 ++ beBytes 0 2 ++ beBytes 0x4001 2 ++ beBytes sum 2 ++
        beBytes ip 4 ++ beBytes from_ 4
      s.sendFrame port (src ++ s.ownMac port ++ [0x08#8, 0#8] ++ h (0xFFFF - ipSum (h 0)) ++ icmp)
    else if beAt p 9 1 = 17 ∧ 8 ≤ d.length ∧ beAt d 4 2 ≤ d.length then
      let udp := beAt d 0 2
      let pay := slice d 8 (beAt d 4 2 - 8)
      if beAt d 2 2 = s.getF (s.addrPage port) F.MGMT_UDP_DRV_PORT then
        match beAt pay 3 1 with
        | 1 => s.sessionHello port from_ udp pay
        | 3 => s.sessionProve port from_ udp pay
        | 0x10 => s.sealedReceive port from_ udp pay
        | _ => s.monDrop port
      else if beAt d 2 2 = s.getF (pgMGMT port) F.MGMT_UDP_SPDM_PORT then s.spdmFragment port from_ udp pay
      else s.monDrop port
    else s.monDrop port

/-- A frame at a management port (R456). -/
def State.mgmtFrame (s : State) (port : Nat) (f : List Byte) : State :=
  if !s.flag (pgMGMT port) F.MGMT_CTRL_EN then s
  else
    let r := s.prpDup f
    let s := r.1
    let tagged := beAt f 12 2 = 0x8100
    let at_ := if tagged then 16 else 12
    let ty := beAt f at_ 2
    let p := f.drop (at_ + 2)
    let src := slice f 6 6
    let own := f.take 6 == s.ownMac port
    let all := f.take 6 == List.replicate 6 0xFF#8
    let ip := s.getF (s.addrPage port) F.MGMT_IP_V
    if r.2 then s
    else if ty = 0x88F7 ∧ s.flag (pgMGMT port) F.MGMT_CTRL_AS_EN then s
    else if f.length < 14 ∨ !(own || all) then s.monDrop port
    else if ty = 0x0806 ∧ 28 ≤ p.length ∧ beAt p 0 8 = 0x0001080006040001 then
      if beAt p 24 4 = ip then
        s.sendFrame port (src ++ s.ownMac port ++ [0x08#8, 0x06#8] ++ beBytes 0x0001080006040002 8 ++ s.ownMac port ++ beBytes ip 4 ++
          slice p 8 10)
      else s
    else if ty = 0x0806 ∧ 28 ≤ p.length then s
    else if ty = 0x0800 then s.ipReceive port src p
    else s.monDrop port

/-- A PRP supervision frame every 2 s (R456). -/
def State.prpSupervise (s : State) : State :=
  if s.flag (pgMGMT 0) F.MGMT_CTRL_PRP ∧ s.mon.prpAt + 4000000000 ≤ s.tick then
    let mac := s.ownMac 0
    ({ s with mon.prpAt := s.tick }).sendFrame 0 ([0x01#8, 0x15#8, 0x4E#8, 0#8, 0x01#8, 0#8] ++ mac ++ [0x88#8, 0xFB#8] ++ beBytes 1 2 ++
      beBytes (s.mon.prpSeq % 65536) 2 ++ [0x14#8, 0x06#8] ++ mac ++ List.replicate 34 0)
  else s

/-! ### Freeze (R473 to R475) -/

/-- Whether a page's freeze owner has a halted pair (R473). -/
def State.ownerHalted (s : State) (p : Page) : Bool :=
  let tile := fun (t : Nat) => s.halted (2 * t) || s.halted (2 * t + 1)
  if 0x08000000 ≤ p.base then tile p.owner
  else
    let c := p.owner
    s.flag pgDBG (F.DBG_CFOWN_VALID c) && tile (s.phys (8 * c + s.getF pgDBG (F.DBG_CFOWN_LT c)))

/-- A page freezes in the mode of its FREEZE_CTL (R474, R475). -/
def State.freezeBegin (s : State) (base : Nat) : State :=
  match pageAt base with
  | none => s
  | some p =>
    if !p.ty.freezable || !s.flag p.base (F.hdrFrzEn p.ty) || !s.ownerHalted p || SMap.has s.bus.frozen p.base then s
    else
      let mode := s.getF p.base (F.hdrFrzMode p.ty)
      let s := if p.ty = .timr ∧ mode ≠ 0 then s.timersSync p.owner else s
      let s := { s with bus.frozen := SMap.put s.bus.frozen p.base mode }
      match p.ty, mode with
      | .pwmg, 2 => ((List.range 16).foldl (fun s m =>
          let g := 16 * p.inst + m
          if 2 ≤ s.genState p.owner g ∧ s.genState p.owner g ≤ 4 then s.genDisarm p.owner g else s) s).fcstAbort (p.owner / 10)
      | .pkeep, 2 => (List.range 16).foldl (fun s i => s.pinDust (64 * p.owner + 16 * p.inst + i)) s
      | _, _ => s

/-- A frozen page runs again once no owner pair is halted (R474). What an ABS timer matches after the halt leaves SLEPT as it is, which the
register's text does not settle (DESIGN CHOICE, log 14). -/
def State.freezeEnd (s : State) (base : Nat) : State :=
  match pageAt base with
  | none => s
  | some p =>
    if !SMap.has s.bus.frozen p.base || s.ownerHalted p then s
    else
      let mode := SMap.getD s.bus.frozen p.base 0
      let s := { s with bus.frozen := SMap.erase s.bus.frozen p.base }
      if p.ty = .timr ∧ mode ≠ 0 then
        (List.range 16).foldl (fun s n => s.setTimer p.owner n { s.timer p.owner n with at_ := s.tick }) s
      else s

/-! ### The test access port (R476) -/

/-- A TAP instruction: EXTEST, CLAMP and HIGHZ act only while RESET_N is low, and otherwise as BYPASS. `driving` tells what the
boundary register drives: 0 nothing, 1 its value, 2 high impedance. -/
def State.tapSelect (s : State) (code boundary driving : Nat) : State :=
  if s.pwr.resetN ∧ (code = 3 ∨ code = 4 ∨ code = 5) then { s with tap := { s.tap with ir := code, driving := 0 } }
  else { s with tap := { s.tap with ir := code, boundary := boundary, driving := driving } }

end Sys2Proof.Machine
end

