-- ==== Sys2Proof/Machine/CoreRun.lean ====
section
/-! DEFINITION. Machine/CoreRun.lean: how a core pair issues one instruction: the prefix rules, pairing, the fetch, the checks in
the order of R279, the loop end, delayed writes, and the data port (R254 to R271, R284, R289 to R296). -/

namespace Sys2Proof.Machine

/-! ### What a row of the instruction tables says of an instruction -/

/-- Bytes after the opcode, whether an escape byte stands before it, accepted prefixes, whether LOCK is required, whether every
field is legal, privilege, whether it issues alone (R255), whether it may stand at LE while LC0 ≥ 1 (R306), and what R255 asks of
a pair: the data port, a long unit, the registers written (0 to 15 G, 16 to 19 A, 20 to 27 L, 28 and 29 LC0 and LC1) and the
flags. -/
structure IOp where
  bytes : Nat
  esc : Bool := false
  acc : List Nat := []
  atomic : Bool := false
  ok : Bool := true
  priv : Bool := false
  mon : Bool := false
  solo : Bool := false
  atLE : Bool := true
  port : Bool := false
  long : Bool := false
  dests : List Nat := []
  flags : Bool := false
  undef : Bool := false

/-- Where the instruction stands: pair, its PC and that of the next, length, whether it is second in its group, the pipe cycle of
its group, and whether its accesses are checked as user accesses. -/
structure Ctx where
  p : Nat
  pc : Nat
  next : Nat
  len : Nat
  slot : Bool
  d : Nat
  user : Bool

/-- How an instruction ends: the next follows, or a jump; it freezes on an L register or on the data port; it has entered a
vector; an unbuffered access is in flight; or it stands at a 16-element point. -/
inductive Flow where
  | next
  | jump (pc : Nat)
  | frozen (mem : Bool)
  | entered
  | waits
  | again

/-! ### Prefixes (R290, R291) -/

def pSAT : Nat := 0xE0
def pNOSAT : Nat := 0xE1
def p16 : Nat := 0xE6
def pACC : Nat := 0xE7
def pLOCK : Nat := 0xE8
def pLONG : Nat := 0xE9
def pEA : Nat := 0xEA
def pRnd : List Nat := [0xE2, 0xE3, 0xE4, 0xE5]


/-- Whether an instruction carries a prefix. -/
def hasPfx (w : WOp) (b : Nat) : Bool := w.pfx.contains b

/-- The prefix rules of R290, but for the 15 bytes. -/
def pfxOk (o : IOp) (ps : List Nat) : Bool :=
  (ps.all fun b => o.acc.contains b) && decide ps.Nodup && !(ps.contains pSAT && ps.contains pNOSAT) &&
    decide ((ps.filter fun b => pRnd.contains b).length ≤ 1) && !(ps.contains p16 && ps.contains pACC) &&
    (!o.atomic || ps.contains pLOCK)

/-- The rounding mode (R297), and its default. -/
def rndOf (w : WOp) (dflt : Nat) : Nat :=
  if hasPfx w 0xE2 then 0 else if hasPfx w 0xE3 then 1 else if hasPfx w 0xE4 then 2 else if hasPfx w 0xE5 then 3 else dflt

/-- The width of an operation (R300), and the range it saturates to, where it does (R291, R298). -/
def widthOf (w : WOp) : Nat := if hasPfx w p16 then 16 else if hasPfx w pACC then 72 else 32
def limOf (w : WOp) (dflt : Bool) : Option Nat :=
  if hasPfx w pNOSAT then none
  else if widthOf w = 72 then some (if hasPfx w pSAT then 64 else 72)
  else if hasPfx w pSAT ∨ dflt then some (widthOf w) else none

def iLen (o : IOp) (w : WOp) : Nat := w.pfx.length + 1 + o.esc.toNat + o.bytes

/-! ### Writes of an instruction (R257 to R260, R304) -/

/-- A register or flag write that completes at a distance. -/
def State.wr (s : State) (c : Ctx) (lam target v : Nat) : State :=
  let x := s.pair c.p
  s.setPair c.p { x with pw := pwInsert ⟨c.d + lam, target, v⟩ x.pw }

/-- A write of an accumulator (R304). -/
def State.wrA (s : State) (c : Ctx) (k v : Nat) : State := (s.wr c 3 (16 + k) v).wr c 1 (20 + k) v

/-- SAT ORed where a result saturated (R298, R301). -/
def State.orSat (s : State) (c : Ctx) (lam : Nat) (sat : Bool) : State := if sat then s.wr c lam 25 1 else s

/-- A result of arithmetic to a G register, or to an accumulator under 0xE7, with its flags. -/
def State.wrAlu (s : State) (c : Ctx) (acc : Bool) (lam dest : Nat) (a : Alu) : State :=
  let l := if acc then 3 else lam
  let s := if acc then s.wrA c dest a.val else s.wr c l dest a.val
  let s := match a.nzcv with
    | some f => s.wr c l 24 f
    | none => s
  s.orSat c l a.sat

/-- Flags without a result (CMP, TST). -/
def State.wrFlags (s : State) (c : Ctx) (lam : Nat) (a : Alu) : State :=
  match a.nzcv with
  | some f => s.wr c lam 24 f
  | none => s

/-- A register changed before the next group. -/
def State.updR (s : State) (p : Nat) (f : Regs → Regs) : State := s.setPair p { s.pair p with r := f (s.pair p).r }

/-! ### Exceptions of an instruction -/

def State.raise (s : State) (c : Ctx) (q : Cause) : State × Flow :=
  (s.exception c.p { q with slot := c.slot, len := c.len } c.pc, .entered)

/-- A machine check on the data access (R268, R280). -/
def State.mchk (s : State) (c : Ctx) (mcc va : Nat) (write : Bool) (half2 : Bool := false) : State × Flow :=
  (s.machineCheck c.p mcc { vec := 0x010, slot := c.slot, half2 := half2, len := c.len, write := write, addr := some va } c.pc, .entered)

/-- The vector of a translation fault, by its TCAUSE (R325). -/
def tcVec (data : Bool) (tc : Nat) : Nat := if 5 ≤ tc % 16 then 0x060 else if data then 0x050 else 0x040

/-! ### The data port (R268 to R271, R274) -/

/-- The halves of an access at 16-byte boundaries (R270); addresses wrap at 4 GiB (R295). -/
def halvesOf (va size : Nat) : List (Nat × Nat) :=
  let k := 16 - va % 16
  if size ≤ k then [(va, size)] else [(va, k), ((va + k) % 2 ^ 32, size - k)]

/-- The physical pieces of an access, or its translation fault: TCAUSE, address, and whether only the upper half faults. -/
def State.dataPieces (s : State) (c : Ctx) (va size kind : Nat) : State × (Nat × Nat × Bool ⊕ List (Nat × Nat)) :=
  (halvesOf va size).foldl (fun (r : State × (Nat × Nat × Bool ⊕ List (Nat × Nat))) h =>
    match r.2 with
    | .inl f => (r.1, .inl f)
    | .inr ps =>
      match r.1.translate c.p h.1 kind c.user with
      | (s, .inl tc) => (s, .inl (tc, h.1, !ps.isEmpty))
      | (s, .inr pa) => (s, .inr (ps ++ [(pa, h.2)]))) (s, .inr [])

/-- An access that the pair makes, or its log repeats (R351, R352): what it returns and the machine check it raises (0 none);
none where it differs from the log. -/
def State.loggedAccess (s : State) (p kind addr size data : Nat) (act : State → State × Nat × Nat) : State × Option (Nat × Nat) :=
  match (s.pair p).replay with
  | e :: _ =>
    if e.kind = kind ∧ e.addr = addr ∧ e.size = size ∧ e.data = data then
      (s.consumeLog p, some (if e.err then (0, e.ret) else (e.ret, 0)))
    else (s.diverge p, none)
  | [] =>
    let r := act s
    let bad := r.2.2 != 0
    (r.1.logAccess p ⟨kind, addr, size, data, if bad then r.2.2 else r.2.1, bad⟩, some r.2)

/-- The buffered store that decides a load (R269): none where no store overlaps; its bytes where the youngest that overlaps
contains the load; else the load waits. -/
def sbLook (sb : List SbE) (pa size : Nat) : Option (Option Nat) :=
  match (sb.filter fun e => decide (e.addr < pa + size) && decide (pa < e.addr + e.size)).getLast? with
  | none => some none
  | some e => if e.addr ≤ pa ∧ pa + size ≤ e.addr + e.size then some (some (bits e.data (8 * (pa - e.addr)) (8 * size))) else none

/-- A read of memory by a pair: its value and the machine check it raises. -/
def State.pairRead (s : State) (p pa size : Nat) : State × Nat × Nat :=
  match sbLook (s.pair p).sb pa size with
  | some (some v) => (s, v, 0)
  | _ =>
    if imageStore pa then (s.recordErr (pgCNOC (p / 20)) causePRIV ⟨p, pa, size, false, 0⟩, 0, 3)
    else if !s.memOn pa then (s.recordErr (pgCNOC (p / 20)) causeNO_PAGE ⟨p, pa, size, false, 0⟩, 0, 3)
    else
      let r := s.readMem pa size
      (r.2.2, r.1, if r.2.1 then 5 else 0)

/-- What a data access comes to: a value, a translation fault, a machine check at an address of one of its halves, a freeze, an
unbuffered target with the pieces it is reached by, or a pair that has been handed over. -/
inductive Raw where
  | ok (v : Nat)
  | fault (tc va : Nat) (half2 : Bool)
  | mc (code va : Nat) (half2 : Bool)
  | wait
  | io (ps : List (Nat × Nat))
  | dead

/-- The address of the half of an access that begins `n` bytes in, and whether it is the upper one (R270). -/
def halfAt (va n : Nat) : Nat := (va + n) % 2 ^ 32

/-- Whether the data port waits for a frozen memory that holds the tables of an access (R321). -/
def State.portWaits (s : State) (c : Ctx) (va size : Nat) : Bool := (halvesOf va size).any fun h => s.walkWaits c.p h.1

/-- A load through translation and the store buffer. -/
def State.rawLoad (s : State) (c : Ctx) (va size : Nat) : State × Raw :=
  if s.portWaits c va size then (s, .wait)
  else match s.dataPieces c va size 1 with
  | (s, .inl (tc, a, h2)) => (s, .fault tc a h2)
  | (s, .inr ps) =>
    if !(ps.all fun e => isMemory e.1) then (s, .io ps)
    else if ps.any fun e => s.memFrozen e.1 || (sbLook (s.pair c.p).sb e.1 e.2).isNone then (s, .wait)
    else
      let r := ps.foldl (fun (r : State × Raw × Nat) e =>
        match r.2.1 with
        | .ok v =>
          (match r.1.loggedAccess c.p 0 e.1 e.2 0 fun s => s.pairRead c.p e.1 e.2 with
            | (s, some (x, 0)) => (s, .ok (v + x * 2 ^ (8 * r.2.2)), r.2.2 + e.2)
            | (s, some (_, m)) => (s, .mc m (halfAt va r.2.2) (r.2.2 != 0), r.2.2)
            | (s, none) => (s, .dead, r.2.2))
        | _ => r) (s, .ok 0, 0)
      (r.1, r.2.1)

/-- A store through translation into the store buffer. -/
def State.rawStore (s : State) (c : Ctx) (va size v : Nat) : State × Raw :=
  if s.portWaits c va size then (s, .wait)
  else match s.dataPieces c va size 2 with
  | (s, .inl (tc, a, h2)) => (s, .fault tc a h2)
  | (s, .inr ps) =>
    if !(ps.all fun e => isMemory e.1) then (s, .io ps)
    else if 8 < (s.pair c.p).sb.length + ps.length then (s, .wait)
    else
      let r := ps.foldl (fun (r : State × Raw × Nat) e =>
        match r.2.1 with
        | .ok _ =>
          let x := bits v (8 * r.2.2) (8 * e.2)
          (match r.1.loggedAccess c.p 1 e.1 e.2 x fun s =>
              (s.setPair c.p { s.pair c.p with sb := (s.pair c.p).sb ++ [⟨e.1, e.2, x⟩] }, 0, 0) with
            | (s, some _) => (s, .ok 0, r.2.2 + e.2)
            | (s, none) => (s, .dead, r.2.2))
        | _ => r) (s, .ok 0, 0)
      (r.1, r.2.1)

/-- A stack access below the limit of the mode (R274). -/
def State.belowLimit (s : State) (p base va : Nat) : Bool :=
  let r := (s.pair p).r
  let lim := if r.mode = 0 then r.sys48 0x10 else if r.mode = 1 then r.sys48 0x12 else 0
  base == 15 && lim != 0 && decide (va < lim)

/-- A watched access is remembered until the instruction completes (R470). -/
def State.noteWatch (s : State) (p va size : Nat) (rd wr : Bool) : State :=
  match s.watchHit p va size rd wr with
  | some k => s.setPair p { s.pair p with dbgDue := some (va, k, wr) }
  | none => s

/-- What a load writes: `dest` a G register (a pair for 8 bytes), 16 + k for accumulator k, or 255 for none (R303). -/
def State.loadInto (s : State) (c : Ctx) (size dest : Nat) (signed : Bool) (v : Nat) : State :=
  if dest < 16 then
    (if size = 8 then (s.wr c 3 dest (v % 2 ^ 32)).wr c 3 (dest + 1) (v / 2 ^ 32)
     else s.wr c 3 dest (if signed then wrap 32 (sgn (8 * size) v) else v))
  else if dest < 20 then s.wrA c (dest - 16) (wrap 72 (sgn 64 v))
  else s

def State.baseInto (s : State) (c : Ctx) (b : Option (Nat × Nat)) : State :=
  match b with
  | some (g, v) => s.wr c 1 g v
  | none => s

/-- The upper half of a split access, once the lower has returned `v` (R270). -/
def Unb.upper (u : Unb) (v : Nat) : Option Unb :=
  u.more.map fun e => { u with
    addr := e.1, size := e.2, va := halfAt u.va u.size, data := u.word / 2 ^ (8 * u.size) % 2 ^ (8 * e.2)
    low := (v, u.size), more := none, resp := none }

/-- The access in flight as the bus has it. -/
def Unb.access (u : Unb) (p : Nat) : Access := ⟨p, u.addr, u.size, u.write, u.data⟩

/-- Whether a log entry is that of the access in flight (R352). -/
def Unb.logged (u : Unb) (e : LogE) : Bool := e.kind == u.write.toNat && e.addr == u.addr && e.size == u.size && e.data == u.data

/-- The access in flight is sent, or taken from the log in replay (R268, R352); none where it differs from the log. -/
def State.sendUnb (s : State) (p : Nat) (u : Unb) : State × Option Unb :=
  match (s.pair p).replay with
  | e :: _ => if u.logged e then (s.consumeLog p, some { u with resp := some ⟨e.err, if e.err then 0 else e.ret⟩ }) else (s.diverge p, none)
  | [] =>
    match s.busAccess (u.access p) with
    | (s, some q) =>
      (s.logAccess p (LogE.answer ⟨u.write.toNat, u.addr, u.size, u.data, 0, false⟩ q), some { u with resp := some q })
    | (s, none) => ({ s with bus.resp := SMap.erase s.bus.resp p }, some { u with resp := none })

/-- A half that no access outside memory can make: register space takes only the accesses of R38, which none that crosses 16 bytes is,
and an xSPI window takes no store (R270). -/
def halfRefused (write : Bool) (pa : Nat) : Bool := !isMemory pa && (write || !(decide (0x40000000 ≤ pa) && decide (pa < 0x80000000)))

/-- A refused half: the bus error with its record, and nothing made. -/
def State.refuseHalf (s : State) (a : Access) : State :=
  match target s.phys a.addr with
  | .page p _ => if okSize a then (s.complete a p.base causeSIZE true 0).1 else (s.busAccess a).1
  | .ctx t _ => if okSize a then (s.complete a (pgCSTO t) causeSIZE true 0).1 else (s.busAccess a).1
  | .prog t _ => if okSize a then (s.complete a (pgLPRG t) causeSIZE true 0).1 else (s.busAccess a).1
  | _ => (s.busAccess a).1

/-- An access in two halves of which one is refused: nothing of it is committed, and the lower half's error takes precedence (R270);
none where both halves can be made. -/
def State.splitRefused (s : State) (p va : Nat) (write : Bool) (v : Nat) : List (Nat × Nat) → Option (State × Raw)
  | [(pa, n), (pb, m)] =>
    let err := fun (a : Access) (x : Raw) =>
      match s.loggedAccess p write.toNat a.addr a.size a.data fun s => (s.refuseHalf a, 0, 3) with
      | (t, some _) => some (t, x)
      | (t, none) => some (t, .dead)
    if halfRefused write pa then err ⟨p, pa, n, write, v % 2 ^ (8 * n)⟩ (.mc 3 va false)
    else if halfRefused write pb then err ⟨p, pb, m, write, v / 2 ^ (8 * n)⟩ (.mc 3 (halfAt va n) true)
    else none
  | _ => none

/-- The pieces of an unbuffered access: the lower, with the upper behind it. -/
def Unb.ofPieces (u : Unb) (ps : List (Nat × Nat)) : Unb :=
  match ps with
  | [(a, n), e] => { u with addr := a, size := n, data := u.data % 2 ^ (8 * n), more := some e }
  | (a, n) :: _ => { u with addr := a, size := n }
  | [] => u

/-- An unbuffered access of the pieces `ps` starts (R268): it is sent once the store buffer has drained, and freezes the pair. One in
two halves of which one is refused raises the machine check at once (R270). -/
def State.startUnb (s : State) (c : Ctx) (u : Unb) (ps : List (Nat × Nat)) : State × Flow :=
  if !(s.pair c.p).sb.isEmpty then (s, .frozen true)
  else match s.splitRefused c.p u.va u.write u.data ps with
    | some (t, .mc m a h2) => t.mchk c m a u.write h2
    | some (t, _) => (t, .entered)
    | none => match s.sendUnb c.p (u.ofPieces ps) with
      | (s, some u) => (s.setPair c.p { s.pair c.p with unb := some u }, .waits)
      | (s, none) => (s, .entered)

/-- A load instruction. -/
def State.doLoad (s : State) (c : Ctx) (base va size dest : Nat) (signed : Bool) (upd : Option (Nat × Nat)) : State × Flow :=
  if s.belowLimit c.p base va then s.raise c { vec := 0x080, addr := some va }
  else match s.rawLoad c va size with
    | (s, .ok v) => (((s.loadInto c size dest signed v).baseInto c upd).noteWatch c.p va size true false, .next)
    | (s, .fault tc a h2) => s.raise c { vec := tcVec true tc, half2 := h2, tcause := tc, addr := some a }
    | (s, .mc m a h2) => s.mchk c m a false h2
    | (s, .wait) => (s, .frozen true)
    | (s, .io ps) => s.startUnb c
        { next := c.next, len := c.len, slot := c.slot, addr := 0, va := va, size := size, write := false, data := 0, dest := dest,
          signed := signed, lock := 0, cmp := 0, base := upd } ps
    | (s, .dead) => (s, .entered)

/-- A store instruction. -/
def State.doStore (s : State) (c : Ctx) (base va size v : Nat) (upd : Option (Nat × Nat)) : State × Flow :=
  if s.belowLimit c.p base va then s.raise c { vec := 0x080, write := true, addr := some va }
  else match s.rawStore c va size v with
    | (s, .ok _) => ((s.baseInto c upd).noteWatch c.p va size false true, .next)
    | (s, .fault tc a h2) => s.raise c { vec := tcVec true tc, half2 := h2, write := true, tcause := tc, addr := some a }
    | (s, .mc m a h2) => s.mchk c m a true h2
    | (s, .wait) => (s, .frozen true)
    | (s, .io ps) => s.startUnb c
        { next := c.next, len := c.len, slot := c.slot, addr := 0, va := va, size := size, write := true, data := v, dest := 255,
          signed := false, lock := 0, cmp := 0, base := upd } ps
    | (s, .dead) => (s, .entered)

/-- What an atomic writes (R307): 1 XCHG, 2 CAS, 3 FADD, 4 FAND, 5 FOR; none where CAS does not store. -/
def atomicNew (kind size old v cmp : Nat) : Option Nat :=
  match kind with
  | 1 => some v
  | 2 => if old = cmp then some v else none
  | 3 => some ((old + v) % 2 ^ (8 * size))
  | 4 => some (old &&& v)
  | _ => some (old ||| v)

/-- The indivisible read-modify-write inside a bank (R316): the old value, and the machine check of a refusal. -/
def State.lockedAccess (s : State) (p pa size kind v cmp : Nat) : State × Nat × Nat :=
  let a : Access := ⟨p, pa, size, true, v⟩
  if imageStore pa then (s.recordErr (pgCNOC (p / 20)) causePRIV a, 0, 3)
  else if !isMemory pa ∨ 0x1A000000 ≤ pa then
    ((s.recordErr (pgCNOC (p / 20)) 0x20 a).satF (pgCNOC (p / 20)) F.CNOC_CNT_NOLOCK, 0, 3)
  else if !s.memOn pa then (s.recordErr (pgCNOC (p / 20)) causeNO_PAGE a, 0, 3)
  else if pa < 0x15000000 ∧ s.role ((pa - 0x10000000) / 0x200000) ≠ 0 then (s.recordErr (pgCNOC (p / 20)) causeROLE a, 0, 3)
  else
    let r := s.readMem pa size
    if r.2.1 then (r.2.2, 0, 5)
    else match atomicNew kind size r.1 v cmp with
      | some n => (r.2.2.writeMem pa (toBytes n size), r.1, 0)
      | none => (r.2.2, r.1, 0)

/-- An atomic instruction (R271, R307). -/
def State.doAtomic (s : State) (c : Ctx) (base va size kind dest v cmp : Nat) : State × Flow :=
  if va % size ≠ 0 then s.raise c { vec := 0x070, write := true, addr := some va }
  else if s.belowLimit c.p base va then s.raise c { vec := 0x080, write := true, addr := some va }
  else if s.walkWaits c.p va then (s, .frozen true)
  else match s.translate c.p va 3 c.user with
    | (s, .inl tc) => s.raise c { vec := tcVec true tc, write := true, tcause := tc, addr := some va }
    | (s, .inr pa) =>
      if !(s.pair c.p).sb.isEmpty || s.memFrozen pa then (s, .frozen true)
      else match s.loggedAccess c.p 2 pa size (v + 2 ^ 64 * cmp) fun s => s.lockedAccess c.p pa size kind v cmp with
        | (s, none) => (s, .entered)
        | (s, some (old, m)) =>
          let u : Unb := {
            next := c.next, len := c.len, slot := c.slot, addr := pa, va := va, size := size, write := true, data := v, dest := dest
            signed := false, lock := kind, cmp := cmp, base := none, mcc := if m = 0 then 3 else m, resp := some ⟨m != 0, old⟩ }
          (s.setPair c.p { s.pair c.p with unb := some u }, .waits)

/-! ### The end of an instruction (R265, R266, R467, R469) -/

/-- A stepped instruction has ended (R469). -/
def State.stepped (s : State) (p : Nat) : State := if (s.pair p).stepping then s.enterDebug p 4 else s

/-- The instruction at `pc` completes: the loop end, the next PC and its pipe cycle. -/
def State.advance (s : State) (p pc next : Nat) (jump : Option Nat) : State :=
  let x := s.pair p
  let r := x.r
  let atEnd := r.le == pc && decide (1 ≤ r.lc0e) && jump.isNone
  let back := atEnd && decide (2 ≤ r.lc0e)
  let at_ := if jump.isSome then x.dist + 3 else if atEnd then max (x.dist + 1) (x.loopAt + 3) else x.dist + 1
  let r := if atEnd then { r with lc0 := r.lc0e - 1, lc0e := r.lc0e - 1 } else r
  let r := { r with pc := (jump.getD (if back then r.ls else next)) % 2 ^ 48 }
  s.setPair p { x with r := r, nextAt := max x.nextAt at_, loopAt := if back then at_ else x.loopAt, inLr := false }

/-- A debug entry that a watched access or a step calls for (R469, R470). -/
def State.dbgAfter (s : State) (p : Nat) : State :=
  let x := s.pair p
  match x.dbgDue with
  | some (a, k, w) => if x.replay.isEmpty then s.enterDebug p 3 (some a) k w else s.stepped p
  | none => s.stepped p

def State.finishPc (s : State) (p pc next : Nat) (jump : Option Nat) : State := (s.advance p pc next jump).dbgAfter p

/-! ### Issue (R255, R279) -/

/-- Whether the instruction joins the group of the one before (R255). -/
def PairSt.joins (x : PairSt) (o : IOp) (w : WOp) : Bool :=
  match x.grp with
  | none => false
  | some g =>
    !o.solo && !hasPfx w pLOCK && x.r.pc / 32 == g.block && (x.r.pc + iLen o w - 1) / 32 == g.block && !(g.port && o.port) &&
      !(g.long && o.long) && !(o.dests.any fun r => g.dests.contains r) && !(g.flags && o.flags)

/-- What the instruction leaves for a second of its group: nothing where none may follow. -/
def grpAfter (o : IOp) (c : Ctx) (le : Nat) : Option Grp :=
  if c.slot ∨ o.solo ∨ le = c.pc ∨ c.pc / 32 ≠ (c.next - 1) / 32 then none else some ⟨c.pc / 32, o.port, o.long, o.dests, o.flags⟩

/-- The translation of an instruction's bytes (R312). -/
def State.fetchAt (s : State) (p pc len : Nat) (user : Bool) : State × Option Nat :=
  match s.translate p pc 0 user with
  | (s, .inl tc) => (s, some tc)
  | (s, .inr _) =>
    match s.translate p (pc + len - 1) 0 user with
    | (s, .inl tc) => (s, some tc)
    | (s, .inr _) => (s, none)

/-- Whether the instruction is legal where it stands (R290, R294, R306). -/
def legalAt (o : IOp) (w : WOp) (r : Regs) : Bool :=
  o.ok && pfxOk o w.pfx && decide (iLen o w ≤ 15) && (o.atLE || r.le != r.pc || r.lc0e == 0)

/-- Whether the mode forbids the instruction (R273, R290, R310). -/
def forbidden (o : IOp) (w : WOp) (mode : Nat) : Bool := ((o.priv || hasPfx w pEA) && mode == 0) || (o.mon && mode != 2)

/-- The pipe cycle in which an instruction issues (R255, R258). -/
def PairSt.groupCycle (x : PairSt) (o : IOp) (w : WOp) : Nat := if x.joins o w then x.dist else max (x.dist + 1) x.nextAt

/-- The pair as its group begins: a checkpoint that waited for the last group's end is taken, the writes due by then are complete,
and a new group is counted. -/
def State.toIssue (s : State) (w : WOp) (o : IOp) : State :=
  let fresh := !(s.pair w.pair).joins o w && !(s.pair w.pair).inLr
  let s := if fresh && (s.pair w.pair).ckWait then s.checkpointNow w.pair else s
  let x := s.pair w.pair
  let d := x.groupCycle o w
  let y := if x.inLr then x else x.complete d
  let t := s.setPair w.pair { y with dist := d, grp := none, groups := x.groups + fresh.toNat }
  if fresh then t.incF (pgCORE w.pair) F.CORE_ISSUE_GROUPS else t

/-- Where it stands. -/
def State.ctxOf (s : State) (w : WOp) (o : IOp) : Ctx :=
  let x := s.pair w.pair
  ⟨w.pair, x.r.pc, x.r.pc + iLen o w, iLen o w, x.joins o w, x.groupCycle o w,
    ((s.toIssue w o).pair w.pair).r.mode == 0 || hasPfx w pEA⟩

/-- The instruction breakpoint that the pair meets, before it issues (R470). -/
def State.bpMet (s : State) (p : Nat) : Option Nat :=
  let x := s.pair p
  if x.stepping ∨ x.inLr ∨ !x.replay.isEmpty then none else s.ibpHit p x.r.pc

/-- The pair's fetch of its bytes: the state after it, and a TCAUSE where it faults. The decoder takes at most 15 bytes (R290). -/
def State.fetched (s : State) (w : WOp) (o : IOp) : State × Option Nat :=
  let t := s.toIssue w o
  t.fetchAt w.pair (s.pair w.pair).r.pc (min 15 (iLen o w)) ((t.pair w.pair).r.mode == 0)

/-- Whether the pair's fetch of the instruction waits for a frozen memory (R321). -/
def State.issueWaits (s : State) (w : WOp) (o : IOp) : Bool :=
  let x := s.pair w.pair
  s.fetchWaits w.pair x.r.pc (x.r.mode == 0) || s.fetchWaits w.pair (x.r.pc + min 15 (iLen o w) - 1) (x.r.mode == 0)

/-- An instruction of a pair: the checks before it, its effect `run`, and its end. A pair that does not issue stays as it is. -/
def State.issue (s : State) (w : WOp) (o : IOp) (run : State → Ctx → State × Flow) : State :=
  let p := w.pair
  if !s.pairRuns p ∨ (s.pair p).unb.isSome ∨ s.issueWaits w o then s
  else match s.bpMet p with
    | some k => s.enterDebug p 2 none k
    | none =>
      let c := s.ctxOf w o
      let r := ((s.toIssue w o).pair p).r
      match s.fetched w o with
      | (t, some tc) => (t.exception p { vec := tcVec false tc, slot := c.slot, tcause := tc } c.pc).stepped p
      | (t, none) =>
        if !legalAt o w r then
          (t.exception p { vec := 0x020, slot := c.slot, len := if o.undef ∨ 15 < c.len then 0 else c.len } c.pc).stepped p
        else if forbidden o w r.mode then (t.exception p { vec := 0x030, slot := c.slot, len := c.len } c.pc).stepped p
        else match run t c with
          | (u, .next) => (u.setPair p { u.pair p with grp := grpAfter o c r.le }).finishPc p c.pc c.next none
          | (u, .jump a) => u.finishPc p c.pc c.next (some a)
          | (_, .frozen mem) => s.satF (pgCORE p) (if mem then F.CORE_PERF0_MEMWAIT else F.CORE_PERF0_LSTALL)
          | (u, .entered) => u.dbgAfter p
          | (u, .waits) => u.setPair p { u.pair p with grp := grpAfter o c r.le }
          | (u, .again) =>
            let v := u.setPair p { u.pair p with inLr := true }
            if v.atBoundary p then v.dbgAfter p else v

/-- The response of an unbuffered access reaches the pair (R268); behind a lower half the upper is made (R270). -/
def State.dataResponse (s : State) (p : Nat) : State :=
  match (s.pair p).unb with
  | none => s
  | some u =>
    match (match u.resp with
      | some q => some q
      | none => SMap.get? s.bus.resp p) with
    | none => s
    | some q =>
      let s := if u.resp.isSome then s else
        s.logAccess p (LogE.answer ⟨u.write.toNat, u.addr, u.size, u.data, 0, false⟩ q)
      let x := s.pair p
      let s := s.setPair p { x with unb := none }
      let c : Ctx := ⟨p, x.r.pc, u.next, u.len, u.slot, x.dist, false⟩
      if q.err then (s.mchk c u.mcc u.va u.write (u.low.2 != 0)).1.stepped p
      else match u.upper q.data with
        | some h => match s.sendUnb p h with
          | (s, some h) => s.setPair p { s.pair p with unb := some h }
          | (s, none) => s
        | none =>
          let v := u.low.1 + 2 ^ (8 * u.low.2) * q.data
          let s := if u.dest < 32 then s.loadInto c u.whole.2 u.dest u.signed v else s
          let s := if u.lock = 2 then s.wr c 3 24 (2 * (q.data == u.cmp).toNat) else s
          ((s.baseInto c u.base).noteWatch p u.whole.1 u.whole.2 (!u.write || u.lock != 0) u.write).finishPc p x.r.pc u.next none

/-! ### Long units and long resumable instructions (R267, R284, R309) -/

/-- Core cycles of the pair's clock (R256). -/
def State.coreCycle (s : State) (p : Nat) : Nat := cycle s (2 * (p / 2))

/-- Whether an L register waits for a long operation. -/
def State.lBusy (s : State) (p k : Nat) : Bool := (s.pair p).longs.any fun o => o.results.any fun e => e.1 == k

/-- A long operation starts (R267): units 0 divide, 1 square root, 2 reciprocal, 3 sine and cosine, 4 matrix-vector. -/
def State.startLong (s : State) (c : Ctx) (unit cycles : Nat) (results : List (Nat × Nat)) : State × Flow :=
  let x := s.pair c.p
  if (x.longs.any fun o => o.unit == unit) || results.any fun e => s.lBusy c.p e.1 then (s, .frozen false)
  else (s.setPair c.p { x with longs := x.longs ++ [⟨unit, results, s.coreCycle c.p + cycles, false⟩] }, .next)

/-- The results of long operations that are ready reach their L registers; also those of the checkpoint that found the operation
pending (R254, R267). -/
def State.longResult (s : State) (p : Nat) : State :=
  let x := s.pair p
  let now := s.coreCycle p
  let due := x.longs.filter fun o => decide (o.ready ≤ now)
  let put := fun (os : List LongOp) (l : List Nat) =>
    os.foldl (fun l o => o.results.foldl (fun l e => l.set e.1 (e.2 % 2 ^ 32)) l) l
  s.setPair p { x with
    r := { x.r with l := put due x.r.l }
    ck := { x.ck with l := put (due.filter fun o => o.inCk) x.ck.l }
    longs := x.longs.filter fun o => !(decide (o.ready ≤ now)) }

/-- The state of a long resumable instruction that waits for an access. -/
def State.setLrs (s : State) (p : Nat) (l : LrSt) : State := s.setPair p { s.pair p with lrs := l }

/-- One bus access of a long resumable instruction at `va`: sent once and awaited (R268), or taken from the log in replay. -/
def State.lrOne (s : State) (p va : Nat) (up : Bool) (a : Access) : State × Raw :=
  let y := (s.pair p).lrs
  match (s.pair p).replay with
  | e :: _ =>
    if e.kind = a.write.toNat ∧ e.addr = a.addr ∧ e.size = a.size ∧ e.data = a.data then
      (s.consumeLog p, if e.err then .mc e.ret va up else .ok e.ret)
    else (s.diverge p, .dead)
  | [] =>
    let e : LogE := ⟨a.write.toNat, a.addr, a.size, a.data, 0, false⟩
    match (if y.sent.isSome then (s, SMap.get? s.bus.resp p) else s.busAccess a) with
    | (s, none) => ({ s with bus.resp := SMap.erase s.bus.resp p }.setLrs p { y with sent := some e }, .wait)
    | (s, some q) =>
      ((s.logAccess p (e.answer q)).setLrs p { (s.pair p).lrs with sent := none }, if q.err then .mc 3 va up else .ok q.data)

/-- An access of a long resumable instruction outside memory: its pieces one after the other, or its error where one of them is refused
(R270). -/
def State.lrSend (s : State) (p va : Nat) (write : Bool) (v : Nat) (ps : List (Nat × Nat)) : State × Raw :=
  match s.splitRefused p va write v ps with
  | some r => r
  | none =>
    match ps with
    | (pa, n) :: f :: _ =>
      let lower := match (s.pair p).lrs.part with
        | some x => (s, Raw.ok x)
        | none => s.lrOne p va false ⟨p, pa, n, write, v % 2 ^ (8 * n)⟩
      match lower with
      | (s, .ok x) =>
        let s := s.setLrs p { (s.pair p).lrs with part := some x }
        match s.lrOne p (halfAt va n) true ⟨p, f.1, f.2, write, v / 2 ^ (8 * n)⟩ with
        | (s, .ok y) => (s.setLrs p { (s.pair p).lrs with part := none }, .ok (x + 2 ^ (8 * n) * y))
        | q => q
      | q => q
    | (pa, n) :: _ => s.lrOne p va false ⟨p, pa, n, write, v⟩
    | [] => (s, .ok 0)

/-- An access of a long resumable instruction: a stack fault, or the access; it waits out the store buffer where it must, reaches
register space as R268 has it, and is watched (R470). -/
def State.lrTry (s : State) (c : Ctx) (base va size : Nat) (write : Bool) (v : Nat) : State × Raw :=
  if s.belowLimit c.p base va then (s, .fault 0x80 va false)
  else
    let go := fun (s : State) => if write then s.rawStore c va size v else s.rawLoad c va size
    let r := go s
    let r := match r.2 with
      | .wait => go (s.drainAll c.p)
      | _ => r
    let q := match r.2 with
      | .io ps =>
        let t := r.1.drainAll c.p
        if (t.pair c.p).sb.isEmpty then t.lrSend c.p va write (if write then v else 0) ps else (t, .wait)
      | _ => r
    match q.2 with
    | .ok x =>
      let s := q.1.noteWatch c.p va size (!write) write
      let y := (s.pair c.p).lrs
      (s.setLrs c.p { y with got := y.got ++ [x], cur := y.cur + 1 }, .ok x)
    | _ => q

/-- The same, but an access that the element in progress made before another was held is not made again. -/
def State.lrAccess (s : State) (c : Ctx) (base va size : Nat) (write : Bool) (v : Nat) : State × Raw :=
  let y := (s.pair c.p).lrs
  if y.cur < y.got.length then (s.setLrs c.p { y with cur := y.cur + 1 }, .ok (y.got.getD y.cur 0))
  else s.lrTry c base va size write v

/-- One element of a long resumable instruction: done, done and the search with it, or not done, at an address, by a store or a
load. -/
inductive Elem where
  | more
  | stop (v : Nat)
  | bad (x : Raw) (va : Nat) (write : Bool)

/-- The element's next part, where the part before was done. -/
def Elem.load (q : State × Raw) (va : Nat) (k : State → Nat → State × Elem) : State × Elem :=
  match q with
  | (s, .ok v) => k s v
  | (s, x) => (s, .bad x va false)

def Elem.store (q : State × Raw) (va : Nat) : State × Elem :=
  match q with
  | (s, .ok _) => (s, .more)
  | (s, x) => (s, .bad x va true)

/-- Elements from `k` on, at most `fuel` of them and up to `n`: the elements done, and how the last ended. -/
def lrLoop (step : State → Nat → State × Elem) (n : Nat) : Nat → State → Nat → State × Nat × Elem
  | 0, s, k => (s, k, .more)
  | fuel + 1, s, k =>
    if n ≤ k then (s, k, .more)
    else match step s k with
      | (s, .more) => lrLoop step n fuel s (k + 1)
      | (s, e) => (s, k, e)

/-- An element begins: its accesses are made in order. -/
def State.lrBegin (s : State) (p : Nat) : State := s.setLrs p { (s.pair p).lrs with cur := 0 }

/-- An element ends; what its accesses returned is used up. -/
def State.lrEnd (s : State) (p : Nat) : State := s.setLrs p { (s.pair p).lrs with cur := 0, got := [], part := none }

/-- A step of a long resumable instruction as an element of its own. -/
def lrElem (p : Nat) (step : State → Nat → State × Elem) (s : State) (k : Nat) : State × Elem :=
  match step (s.lrBegin p) k with
  | (s, .bad x va w) => (s, .bad x va w)
  | (s, e) => (s.lrEnd p, e)

/-- The elements left to the next 16-element point (R284): all 16, but for a portion that a held access has cut. -/
def State.lrFuel (s : State) (p : Nat) : Nat :=
  let x := s.pair p
  if x.inLr ∧ x.lrs.left ≠ 0 then x.lrs.left else 16

/-- A long resumable instruction begins a portion, or goes on with one that a held access has cut. -/
def State.lrResume (s : State) (p : Nat) : State :=
  let x := s.pair p
  if x.inLr ∧ x.lrs.left ≠ 0 then s else s.setLrs p {}

/-- A long resumable instruction with `n` elements, from element `k` on; `progOf` says what PROG holds at an element. At most 16
elements are done before the next point (R284); a held access ends the command before that, and no point is reached. `fin` writes
the result as the instruction completes. -/
def State.runLr (s : State) (c : Ctx) (n k cyc : Nat) (progOf : Nat → Nat) (step : State → Nat → State × Elem)
    (fin : State → Option Nat → State) : State × Flow :=
  let fuel := s.lrFuel c.p
  let s := s.lrResume c.p
  let r := lrLoop (lrElem c.p step) n fuel s k
  let s := r.1.setPair c.p { r.1.pair c.p with dist := c.d + max 1 ((r.2.1 - k) * cyc) - 1 }
  let stay := s.updR c.p fun g => { g with prog := progOf r.2.1 }
  let point := stay.setLrs c.p {}
  let done := fun (s : State) => (s.updR c.p fun g => { g with prog := 0 }).setLrs c.p {}
  match r.2.2 with
  | .bad (.fault 0x80 va _) _ w => point.raise c { vec := 0x080, write := w, addr := some va }
  | .bad (.fault tc va h2) _ w => point.raise c { vec := tcVec true tc, half2 := h2, write := w, tcause := tc, addr := some va }
  | .bad (.mc m a h2) _ w => point.mchk c m a w h2
  | .bad .dead _ _ => (s, .entered)
  | .bad _ _ _ => (stay.setLrs c.p { (stay.pair c.p).lrs with left := fuel - (r.2.1 - k) }, .again)
  | .stop v => (done (fin s (some v)), .next)
  | .more => if r.2.1 < n then (point, .again) else (done (fin s none), .next)

/-- The G result of a long resumable instruction: complete before the next group (R309). -/
def State.lrResult (s : State) (c : Ctx) (dest v : Nat) : State := s.wr { c with d := (s.pair c.p).dist } 0 dest v

end Sys2Proof.Machine
end

