-- ==== Sys2Proof/Machine/CoreForms.lean ====
section
/-! DEFINITION. Machine/CoreForms.lean: the operand bytes of an instruction (R292 to R296, R300), and what instructions of one
shape share: results in registers, loads, stores, atomics, branches, long units and long resumable instructions. -/

namespace Sys2Proof.Machine

/-! ### Operand fields (R293, R294) -/

def fD (x : Nat) : Nat := x % 16
def fA (x : Nat) : Nat := x / 16
def fB (y : Nat) : Nat := y % 16
def fLB (y : Nat) : Bool := bit y 4

def Regs.gr (r : Regs) (k : Nat) : Nat := r.g.getD k 0
def Regs.ar (r : Regs) (k : Nat) : Nat := r.a.getD k 0
def Regs.lrg (r : Regs) (k : Nat) : Nat := r.l.getD k 0

/-- The registers as the group reads them. -/
def Ctx.regs (c : Ctx) (s : State) : Regs := (s.pair c.p).r

/-- A legal Y byte. -/
def yOk (mayL : Bool) (y : Nat) : Bool := decide (y < 32) && (!fLB y || (mayL && decide (fB y < 8)))

/-- The B operand, and whether it is an L register that waits (R267). -/
def Regs.srcB (r : Regs) (y : Nat) : Nat := if fLB y then r.lrg (fB y) else r.gr (fB y)
def State.waitB (s : State) (c : Ctx) (y : Nat) : Bool := fLB y && s.lBusy c.p (fB y)

/-- imm8 or imm32 (R296). -/
def immOf (w : WOp) (imm : Nat) : Nat := if hasPfx w pLONG then imm % 2 ^ 32 else wrap 32 (sgn 8 imm)
def immLen (w : WOp) : Nat := if hasPfx w pLONG then 4 else 1

/-- Prefix sets of R291. -/
def accSat : List Nat := [pSAT, pNOSAT]
def accArith : List Nat := [pSAT, pNOSAT, p16]

/-! ### Results in registers -/

/-- What an instruction does with its result. -/
def State.give (s : State) (c : Ctx) (acc72 writes : Bool) (lam dest : Nat) (a : Alu) : State × Flow :=
  if writes then (s.wrAlu c acc72 lam dest a, .next) else (s.wrFlags c lam a, .next)

/-- The register a result goes to, for R255: an A register under 0xE7. -/
def destOf (w : WOp) (x : Nat) : List Nat := if hasPfx w pACC then [16 + fD x] else [fD x]

/-- Form XY, with result or flags only. `isCount`: B is a shift count, a G register in every width. -/
def opXY (w : WOp) (x y : Nat) (acc : List Nat) (mayL writes flags isCount : Bool) : IOp :=
  let wide := hasPfx w pACC
  let okA := !wide || (decide (fD x < 4) && decide (fA x < 4) && (isCount || decide (fB y < 4)))
  { bytes := 2, acc := acc, ok := yOk (mayL && !wide) y && okA && (writes || fD x == 0),
    dests := if writes then destOf w x else [], flags := flags }

def State.aluXY (s : State) (w : WOp) (x y : Nat) (acc : List Nat) (mayL writes flags isCount : Bool) (lam : Nat)
    (f : Regs → Nat → Nat → Alu) : State :=
  let wide := hasPfx w pACC
  s.issue w (opXY w x y acc mayL writes flags isCount) fun s c =>
    if s.waitB c y then (s, .frozen false)
    else
      let r := c.regs s
      s.give c wide writes lam (fD x)
        (f r (if wide then r.ar (fA x) else r.gr (fA x)) (if wide && !isCount then r.ar (fB y) else r.srcB y))

/-- Form XI. -/
def opXI (w : WOp) (x : Nat) (acc : List Nat) (writes : Bool) : IOp :=
  { bytes := 1 + immLen w, acc := pLONG :: acc, ok := writes || fD x == 0, dests := if writes then [fD x] else [], flags := true }

def State.aluXI (s : State) (w : WOp) (x imm : Nat) (acc : List Nat) (writes : Bool) (lam : Nat) (f : Nat → Nat → Alu) : State :=
  s.issue w (opXI w x acc writes) fun s c => s.give c false writes lam (fD x) (f ((c.regs s).gr (fA x)) (immOf w imm))

/-- Form X: a result from one register. -/
def opX (w : WOp) (x : Nat) (acc : List Nat) (flags : Bool) : IOp :=
  { bytes := 1, acc := acc, ok := !hasPfx w pACC || (decide (fD x < 4) && decide (fA x < 4)), dests := destOf w x, flags := flags }

def State.aluX (s : State) (w : WOp) (x : Nat) (acc : List Nat) (flags : Bool) (lam : Nat) (f : Nat → Alu) : State :=
  let wide := hasPfx w pACC
  s.issue w (opX w x acc flags) fun s c => let r := c.regs s; s.give c wide true lam (fD x) (f (if wide then r.ar (fA x) else r.gr (fA x)))

/-- Form XK: a shift by a constant. -/
def opXK (w : WOp) (x k : Nat) (acc : List Nat) : IOp :=
  { bytes := 2, acc := acc, dests := destOf w x, flags := true,
    ok := if hasPfx w pACC then decide (fD x < 4) && decide (fA x < 4) && decide (k < 72) else decide (k < 32) }

def State.shiftXK (s : State) (w : WOp) (x k : Nat) (acc : List Nat) (f : Nat → Nat → Alu) : State :=
  let wide := hasPfx w pACC
  s.issue w (opXK w x k acc) fun s c => let r := c.regs s; s.give c wide true 2 (fD x) (f (if wide then r.ar (fA x) else r.gr (fA x)) k)

/-- A G result that needs no more than the registers. -/
def State.toG (s : State) (w : WOp) (o : IOp) (d lam : Nat) (f : Regs → Nat) : State :=
  s.issue w { o with dests := [d] } fun s c => (s.wr c lam d (f (c.regs s)), .next)

/-- An accumulator's new value. -/
def State.toA (s : State) (w : WOp) (o : IOp) (d : Nat) (f : Regs → Nat) : State :=
  s.issue w { o with dests := [16 + d], ok := o.ok && decide (d < 4) } fun s c => (s.wrA c d (f (c.regs s)), .next)

/-- MAC, MSU and MPY (R299): the accumulator as they read it (R260). -/
def opMac (x y : Nat) : IOp := { bytes := 2, acc := accArith, ok := yOk false y && decide (fD x < 4), dests := [16 + fD x] }

def State.accumulate (s : State) (w : WOp) (x y : Nat) (f : Int → Int → Int) : State :=
  let d := fD x
  s.issue w (opMac x y) fun s c =>
    let r := c.regs s
    let q := fitS 72 none (f (sgn 72 (r.am.getD d 0)) (prodA (hasPfx w p16) (r.gr (fA x)) (r.gr (fB y))))
    let full := f (sgn 72 (r.am.getD d 0)) (prodA (hasPfx w p16) (r.gr (fA x)) (r.gr (fB y)))
    let q := if hasPfx w pNOSAT then q
      else if hasPfx w pSAT then (wrap 72 (satS 64 full), ovfS 64 full) else fitS 72 (some 72) full
    ((s.wrA c d q.1).orSat c 3 q.2, .next)

/-! ### Memory forms (R295) -/

def fMode (m : Nat) : Nat := m % 8
def fIdx (m : Nat) : Nat := m / 16

def memLen (w : WOp) (m : Nat) : Nat := if fMode m = 0 then 2 + immLen w else 2
def memOk (m last : Nat) : Bool := !bit m 3 && decide (fMode m ≤ last) && (fMode m == 1 || fIdx m == 0)
def memAcc (m : Nat) : List Nat := if fMode m = 0 then [pEA, pLONG] else [pEA]

/-- EA, and the base register's new value. -/
def effAddr (r : Regs) (w : WOp) (x m disp size : Nat) : Nat × Option (Nat × Nat) :=
  let b := r.gr (fA x)
  match fMode m with
  | 0 => (if hasPfx w pLONG then (b + disp) % 2 ^ 32 else wrap 32 ((b : Int) + sgn 8 disp * size), none)
  | 1 => ((b + r.gr (fIdx m) * size) % 2 ^ 32, none)
  | 2 => (b, some (fA x, (b + size) % 2 ^ 32))
  | _ => let a := (b + 2 ^ 32 - size) % 2 ^ 32; (a, some (fA x, a))

def baseDest (x m : Nat) : List Nat := if 2 ≤ fMode m then [fA x] else []

/-- A load of `size` bytes; `toAcc`: into accumulator D. -/
def opLoad (w : WOp) (x m size : Nat) (toAcc : Bool) : IOp :=
  let d := fD x
  let wide := size = 8 && !toAcc
  let regs := if toAcc then [16 + d] else if wide then [d, d + 1] else [d]
  { bytes := memLen w m, acc := memAcc m, port := true, dests := regs ++ baseDest x m,
    ok := memOk m 3 && (!toAcc || decide (d < 4)) && (!wide || d % 2 == 0) && (decide (fMode m < 2) || !regs.contains (fA x)) }

def State.loadI (s : State) (w : WOp) (x m disp size : Nat) (signed toAcc : Bool) : State :=
  s.issue w (opLoad w x m size toAcc) fun s c =>
    let e := effAddr (c.regs s) w x m disp size
    s.doLoad c (fA x) e.1 size (if toAcc then 16 + fD x else fD x) signed e.2

/-- A store of `size` bytes of Gd, or of Gd and Gd + 1. -/
def opStore (w : WOp) (x m size : Nat) : IOp :=
  { bytes := memLen w m, acc := memAcc m, port := true, dests := baseDest x m, ok := memOk m 3 && (size != 8 || fD x % 2 == 0) }

def State.storeI (s : State) (w : WOp) (x m disp size : Nat) : State :=
  let d := fD x
  s.issue w (opStore w x m size) fun s c =>
    let r := c.regs s
    let e := effAddr r w x m disp size
    s.doStore c (fA x) e.1 size (if size = 8 then r.gr d + 2 ^ 32 * r.gr (d + 1) else r.gr d % 2 ^ (8 * size)) e.2

/-- STA: the body of an accumulator, saturated under SAT. -/
def opSta (w : WOp) (x m : Nat) : IOp :=
  { bytes := memLen w m, acc := accSat ++ memAcc m, port := true, dests := baseDest x m, ok := memOk m 3 && decide (fD x < 4) }

def State.storeA (s : State) (w : WOp) (x m disp : Nat) : State :=
  let d := fD x
  s.issue w (opSta w x m) fun s c =>
    let r := c.regs s
    let e := effAddr r w x m disp 8
    let q := fitS 64 (if hasPfx w pSAT then some 64 else none) (sgn 72 (r.ar d))
    match s.doStore c (fA x) e.1 8 q.1 e.2 with
    | (s, .next) => (s.orSat c 1 q.2, .next)
    | (s, .waits) => (s.orSat c 1 q.2, .waits)
    | t => t

/-- The value of an atomic's operand register or pair. -/
def Regs.opnd (r : Regs) (wide : Bool) (k : Nat) : Nat := if wide then r.gr k + 2 ^ 32 * r.gr (k + 1) else r.gr k

/-- An atomic (R307); `y` the Y byte of CAS. -/
def opAtomic (w : WOp) (wide : Bool) (x m : Nat) (y : Option Nat) : IOp :=
  let d := fD x
  let even := fun (k : Nat) => !wide || k % 2 == 0
  let yGood := match y with
    | some b => decide (b < 16) && even b
    | none => true
  { bytes := memLen w m + y.isSome.toNat, acc := pLOCK :: memAcc m, atomic := true, port := true,
    dests := if wide then [d, d + 1] else [d], flags := y.isSome, ok := memOk m 1 && even d && yGood }

def State.atomicI (s : State) (w : WOp) (wide : Bool) (x m disp kind : Nat) (y : Option Nat) : State :=
  let d := fD x
  let size := if wide then 8 else 4
  s.issue w (opAtomic w wide x m y) fun s c =>
    let r := c.regs s
    s.doAtomic c (fA x) (effAddr r w x m disp size).1 size kind d (r.opnd wide d) (r.opnd wide (y.getD 0))

/-! ### Branches and loops (R264, R296, R305, R306) -/

def dispLen (w : WOp) : Nat := if hasPfx w pLONG then 4 else 2

/-- disp16 or disp32 from the next instruction. -/
def target48 (w : WOp) (c : Ctx) (disp : Nat) : Nat :=
  wrap 48 ((c.next : Int) + (if hasPfx w pLONG then sgn 32 disp else sgn 16 disp))

/-- A branch of form D. -/
def opBrD (w : WOp) (ok : Bool) (dests : List Nat) : IOp :=
  { bytes := dispLen w, acc := [pLONG], solo := true, atLE := false, ok := ok, dests := dests }

def State.branchD (s : State) (w : WOp) (disp : Nat) (ok : Bool) (dests : List Nat) (act : State → Ctx → State)
    (taken : Regs → Bool) : State :=
  s.issue w (opBrD w ok dests) fun s c => (act s c, if taken (c.regs s) then .jump (target48 w c disp) else .next)

/-- A branch to an address in registers. -/
def opBrX (ok : Bool) (dests : List Nat) : IOp := { bytes := 1, solo := true, atLE := false, ok := ok, dests := dests }

def State.branchX (s : State) (w : WOp) (ok : Bool) (dests : List Nat) (act : State → Ctx → State) (to_ : Ctx → Regs → Nat) :
    State :=
  s.issue w (opBrX ok dests) fun s c => (act s c, .jump (to_ c (c.regs s)))

/-- LOOP and LOOPI (R265, R306): in force for the next group. An MTLC write that completes with it or before it is overwritten, a
later one overwrites it (R258, R304). -/
def State.startLoop (s : State) (w : WOp) (c : Ctx) (disp n : Nat) : State × Flow :=
  let x := s.pair c.p
  let r := { x.r with ls := c.next % 2 ^ 48, le := target48 w c disp, lc0 := n, lc0e := n }
  (s.setPair c.p { x with r := r, loopAt := c.d + 1, pw := x.pw.filter fun e => (e.target != 27 && e.target != 28) || decide (c.d + 1 < e.due) }, .next)

def loopOp (w : WOp) (ok : Bool) : IOp := { bytes := 1 + dispLen w, acc := [pLONG], solo := true, atLE := false, ok := ok }

/-! ### Long units (R308) -/

/-- A long unit with one result. -/
def opLongXY (x y : Nat) (acc : List Nat) : IOp :=
  { bytes := 2, esc := true, acc := acc, long := true, ok := decide (fD x < 8) && decide (y < 16), dests := [20 + fD x] }

def State.longXY (s : State) (w : WOp) (x y unit cycles : Nat) (acc : List Nat) (f : Nat → Nat → Nat) : State :=
  s.issue w (opLongXY x y acc) fun s c => let r := c.regs s; s.startLong c unit cycles [(fD x, f (r.gr (fA x)) (r.gr (fB y)))]

def opLongX (x unit : Nat) (acc : List Nat) (ok : Bool) : IOp :=
  { bytes := 1, esc := true, acc := acc, long := true, ok := decide (fD x < 8) && ok,
    dests := if unit = 3 then [20 + fD x, 21 + fD x] else [20 + fD x] }

def State.longX (s : State) (w : WOp) (x unit cycles : Nat) (acc : List Nat) (ok : Bool) (f : Nat → List (Nat × Nat)) : State :=
  s.issue w (opLongX x unit acc ok) fun s c => s.startLong c unit cycles (f ((c.regs s).gr (fA x)))

/-- Whether a physical word lies in a pair's own tile SRAM. -/
def ownTile (p pa : Nat) : Bool := pa / 0x200000 == 0x80 + p / 2

/-- Nine words at `va` (R308): a flow where the reads do not give them. -/
def State.matrixAt (s : State) (c : Ctx) (va : Nat) : Nat → State → List Nat → State × (Raw × Nat ⊕ List Nat)
  | 0, s, l => (s, .inr l)
  | n + 1, t, l =>
    let a := (va + 4 * l.length) % 2 ^ 32
    match t.rawLoad c a 4 with
    | (t, .ok v) => State.matrixAt s c va n t (l ++ [v])
    | (t, x) => (t, .inl (x, a))

/-- The words that MV3 may not read: not mapped, or not its own tile's (256); a translation fault before the rest (R279). -/
def State.mv3Bad (s : State) (c : Ctx) (va : Nat) : State × Option (Nat × Nat) :=
  let r := (List.range 9).foldl (fun (r : State × List (Nat × Nat)) i =>
    let a := (va + 4 * i) % 2 ^ 32
    match r.1.translate c.p a 1 c.user with
    | (s, .inl tc) => (s, r.2 ++ [(tc, a)])
    | (s, .inr pa) => (s, if va % 4 = 0 ∧ ownTile c.p pa then r.2 else r.2 ++ [(256, a)])) (s, [])
  (r.1, match r.2.find? fun e => decide (e.1 % 16 < 5) && e.1 != 256 with
    | some e => some e
    | none => r.2.head?)

/-- MV3's read of its matrix and start (R308). TCAUSE of its protection fault is not stated: a free value. -/
def State.startMv3 (s : State) (w : WOp) (c : Ctx) (x y : Nat) : State × Flow :=
  let r := c.regs s
  let va := r.gr (fA x)
  let d := fD x
  if ((s.pair c.p).longs.any fun o => o.unit == 4) || [d, d + 1, d + 2].any (s.lBusy c.p) then (s, .frozen false)
  else if s.belowLimit c.p (fA x) va then s.raise c { vec := 0x080, addr := some va }
  else match s.mv3Bad c va with
    | (s, some (256, a)) => let q := s.draw 8; q.2.raise c { vec := 0x060, tcause := q.1, addr := some a }
    | (s, some (tc, a)) => s.raise c { vec := tcVec true tc, tcause := tc, addr := some a }
    | (s, none) =>
      match s.matrixAt c va 9 s [] with
      | (s, .inr m) =>
        let v := [r.gr (fB y), r.gr (fB y + 1), r.gr (fB y + 2)]
        let row := fun i => rowQ (rndOf w 0) ((m.drop (3 * i)).take 3) v
        (s.noteWatch c.p va 36 true false).startLong c 4 12 [(d, row 0), (d + 1, row 1), (d + 2, row 2)]
      | (s, .inl (.mc k a h2, _)) => s.mchk c k a false h2
      | (s, .inl (.dead, _)) => (s, .entered)
      | (s, .inl _) => (s, .frozen true)

/-! ### Long resumable instructions (R284, R309) -/

def fN (n : Nat) : Nat := n / 16

/-- The operand description of form XW. -/
def lrOp (ok : Bool) (dests : List Nat) (acc : List Nat) : IOp :=
  { bytes := 2, esc := true, acc := acc, solo := true, atLE := false, ok := ok, dests := dests }

/-- PROG of an element that has no pass, and the element it resumes at. -/
def prog24 (k : Nat) : Nat := k % 2 ^ 24

def word32 (b k : Nat) : Nat := (b + 4 * k) % 2 ^ 32

/-- A long resumable instruction: illegal above its limit, done at once with a count of 0. -/
def State.lrStart (s : State) (c : Ctx) (n limit : Nat) (none_ : State → State) (go : State → Nat → State × Flow) : State × Flow :=
  let r := c.regs s
  if limit < n then s.raise c { vec := 0x020 }
  else if n = 0 then ((none_ s).updR c.p fun g => { g with prog := 0 }, .next)
  else go s r.prog

/-- BMOV: word `k` from `from_` to `to_`. -/
def bmovElem (c : Ctx) (d a to_ from_ : Nat) (s : State) (k : Nat) : State × Elem :=
  let p := word32 from_ k
  let q := word32 to_ k
  Elem.load (s.lrAccess c a p 4 false 0) p fun s v => Elem.store (s.lrAccess c d q 4 true v) q

def State.lrBmov (s : State) (c : Ctx) (d a n k : Nat) : State × Flow :=
  let r := c.regs s
  s.runLr c n (bits k 0 24) 1 prog24 (bmovElem c d a (r.gr d) (r.gr a)) fun s _ => s

/-- BFILL: word `k` from `to_` takes `v`. -/
def bfillElem (c : Ctx) (d to_ v : Nat) (s : State) (k : Nat) : State × Elem :=
  let q := word32 to_ k
  Elem.store (s.lrAccess c d q 4 true v) q

def State.lrBfill (s : State) (c : Ctx) (d b n k : Nat) : State × Flow :=
  let r := c.regs s
  s.runLr c n (bits k 0 24) 1 prog24 (bfillElem c d (r.gr d) (r.gr b)) fun s _ => s

/-- TSRCH: the search ends at word `k` where it is above `v`, as signed numbers. -/
def tsrchElem (c : Ctx) (a from_ v : Nat) (s : State) (k : Nat) : State × Elem :=
  let p := word32 from_ k
  Elem.load (s.lrAccess c a p 4 false 0) p fun s x => (s, if sgn 32 x > sgn 32 v then .stop k else .more)

def State.lrTsrch (s : State) (c : Ctx) (d a b n k : Nat) : State × Flow :=
  let r := c.regs s
  s.runLr c n (bits k 0 24) 1 prog24 (tsrchElem c a (r.gr a) (r.gr b)) fun s i => s.lrResult c d (i.getD n)

/-- Words at `va`, `n` of them, or the access that stopped. -/
def State.lrWords (s : State) (c : Ctx) (base va : Nat) : Nat → State → List Nat → State × (Raw × Nat ⊕ List Nat)
  | 0, s, l => (s, .inr l)
  | n + 1, t, l =>
    let a := word32 va l.length
    match t.lrAccess c base a 4 false 0 with
    | (t, .ok v) => State.lrWords s c base va n t (l ++ [v])
    | (t, x) => (t, .inl (x, a))

/-- Words stored from `va` on. -/
def State.lrStores (s : State) (c : Ctx) (base va : Nat) : Nat → List Nat → State × Elem
  | _, [] => (s, .more)
  | i, v :: vs =>
    match s.lrAccess c base (word32 va i) 4 true v with
    | (t, .ok _) => State.lrStores t c base va (i + 1) vs
    | (t, x) => (t, .bad x (word32 va i) true)

/-- The first fault among the words that a vector is stored to: a fault at an element leaves none of its words stored (R284). -/
def State.storeFault (s : State) (c : Ctx) (base va : Nat) : Nat → Nat → State × Option (Raw × Nat)
  | 0, _ => (s, none)
  | n + 1, i =>
    let a := word32 va i
    if s.belowLimit c.p base a then (s, some (.fault 0x80 a false, a))
    else match s.dataPieces c a 4 2 with
      | (s, .inl (tc, f, h2)) => (s, some (.fault tc f h2, a))
      | (s, .inr _) => State.storeFault s c base va n (i + 1)

/-- The bus access that stores a word, and none for a word that goes to memory. A word in two halves is an access that no page takes. -/
def State.storeAccess (s : State) (c : Ctx) (va v : Nat) : Option Access :=
  match (s.dataPieces c va 4 2).2 with
  | .inr [(pa, _)] => if isMemory pa then none else some ⟨c.p, pa, 4, true, v⟩
  | .inr ((pa, n) :: _) => if isMemory pa then none else some ⟨c.p, pa, n, true, v % 2 ^ (8 * n)⟩
  | _ => none

/-- The first of some accesses, by its number, that would err (`true`) or be held, were they made one after the other. -/
def State.probe (s : State) : Nat → List (Option Access) → Option (Bool × Nat)
  | _, [] => none
  | i, none :: as => State.probe s (i + 1) as
  | i, some a :: as =>
    match s.busAccess a with
    | (_, none) => some (false, i)
    | (t, some q) => if q.err then some (true, i) else State.probe t (i + 1) as

/-- The words of a vector outside memory: none is stored before all of them can be, since a fault at an element leaves none of its words
stored (R284). In replay the log names the word that errs. -/
def State.wordsProbe (s : State) (c : Ctx) (va : Nat) (vs : List Nat) : Option (Bool × Nat) :=
  let as := vs.zipIdx.map fun e => s.storeAccess c (word32 va e.2) e.1
  match (s.pair c.p).replay with
  | e :: _ => if e.kind = 1 ∧ e.err then (as.findIdx? fun a => a.map Access.addr == some e.addr).map fun j => (true, j) else none
  | [] => (s.drainAll c.p).probe 0 as

/-- A vector's words stored, all or none (R284). -/
def State.lrVector (s : State) (c : Ctx) (base va : Nat) (vs : List Nat) : State × Elem :=
  match s.wordsProbe c va vs with
  | none => s.lrStores c base va 0 vs
  | some (true, j) => Elem.store (s.lrTry c base (word32 va j) 4 true (vs.getD j 0)) (word32 va j)
  | some (false, j) => (s, .bad .wait (word32 va j) true)

/-- MVM: vector `k` from `from_`, times the matrix `m`, to `to_`. -/
def mvmElem (mode : Nat) (m : List Nat) (c : Ctx) (d a to_ from_ : Nat) (s : State) (k : Nat) : State × Elem :=
  let p := (from_ + 12 * k) % 2 ^ 32
  let q := (to_ + 12 * k) % 2 ^ 32
  match s.lrWords c a p 3 s [] with
  | (s, .inl (x, va)) => (s, .bad x va false)
  | (s, .inr v) =>
    match s.storeFault c d q 3 0 with
    | (s, some (x, va)) => (s, .bad x va true)
    | (s, none) => s.lrVector c d q ((List.range 3).map fun i => rowQ mode ((m.drop (3 * i)).take 3) v)

/-- MVM's matrix: read as a portion of the instruction begins, and kept while a held access cuts the portion. -/
def State.lrMatrix (s : State) (c : Ctx) (b va : Nat) : State × (Raw × Nat ⊕ List Nat) :=
  if (s.pair c.p).lrs.mat.isEmpty then
    match s.lrWords c b va 9 (s.lrBegin c.p) [] with
    | (t, .inr m) => ((t.lrEnd c.p).setLrs c.p { ((t.lrEnd c.p).pair c.p).lrs with mat := m }, .inr m)
    | q => q
  else (s, .inr (s.pair c.p).lrs.mat)

/-- MVM: it holds the matrix-vector unit. -/
def State.lrMvm (s : State) (w : WOp) (c : Ctx) (d a b n k : Nat) : State × Flow :=
  let r := c.regs s
  if (s.pair c.p).longs.any fun o => o.unit == 4 then (s, .frozen false)
  else s.runLr c n (bits k 0 24) 4 prog24 (fun s k =>
    match s.lrMatrix c b (r.gr b) with
    | (s, .inl (x, va)) => (s, .bad x va false)
    | (s, .inr m) => mvmElem (rndOf w 0) m c d a (r.gr d) (r.gr a) (s.lrBegin c.p) k) fun s _ => s

/-- ceil(log2 n) passes, by their number up to `fuel`. -/
def passesOf (n : Nat) : Nat → Nat → Nat
  | 0, p => p
  | fuel + 1, p => if n ≤ 2 ^ p then p else passesOf n fuel (p + 1)

/-- The key of a record, as memory holds it now. -/
def State.keyAt (s : State) (c : Ctx) (va : Nat) : Int :=
  match s.rawLoad c va 4 with
  | (_, .ok v) => sgn 32 v
  | _ => 0

/-- The records of a merge's left run among its first `j` placements. -/
def State.leftOf (s : State) (c : Ctx) (src lo mid hi : Nat) : Nat → Nat
  | 0 => 0
  | j + 1 =>
    let i := State.leftOf s c src lo mid hi j
    let l := lo + i
    let q := mid + (j - i)
    if l < mid ∧ (hi ≤ q ∨ s.keyAt c ((src + 8 * l) % 2 ^ 32) ≤ s.keyAt c ((src + 8 * q) % 2 ^ 32)) then i + 1 else i

/-- One step of SORTK: placement `k` of pass `ps` (R309). -/
def State.sortStep (s : State) (c : Ctx) (d a n passes e : Nat) : State × Elem :=
  let r := c.regs s
  let ps := e / n
  let k := e % n
  let fromA := ps % 2 == 0
  let src := if fromA then r.gr a else r.gr d
  let dst := if fromA then r.gr d else r.gr a
  let sb := if fromA then a else d
  let db := if fromA then d else a
  let put := fun (s : State) (v : Nat) => let q := (dst + 8 * k) % 2 ^ 32; Elem.store (s.lrAccess c db q 8 true v) q
  let at_ := fun (i : Nat) => (src + 8 * i) % 2 ^ 32
  if passes ≤ ps then Elem.load (s.lrAccess c sb (at_ k) 8 false 0) (at_ k) put
  else
    let lo := k / (2 * 2 ^ ps) * (2 * 2 ^ ps)
    let mid := min n (lo + 2 ^ ps)
    let hi := min n (lo + 2 * 2 ^ ps)
    let j := k - lo
    let tag := k + 2 ^ 24 * ps
    let i := if r.lr.1 = c.pc ∧ r.lr.2.1 = tag then r.lr.2.2 else s.leftOf c src lo mid hi j
    let keep := fun (q : State × Elem) (i : Nat) =>
      let next := if k + 1 = hi then 0 else i
      (q.1.updR c.p fun g => { g with lr := (c.pc, (e + 1) % n + 2 ^ 24 * ((e + 1) / n), next) }, q.2)
    let l := lo + i
    let q := mid + (j - i)
    if hi ≤ q then Elem.load (s.lrAccess c sb (at_ l) 8 false 0) (at_ l) fun s v => keep (put s v) (i + 1)
    else if mid ≤ l then Elem.load (s.lrAccess c sb (at_ q) 8 false 0) (at_ q) fun s v => keep (put s v) i
    else
      Elem.load (s.lrAccess c sb (at_ l) 8 false 0) (at_ l) fun s u =>
        Elem.load (s.lrAccess c sb (at_ q) 8 false 0) (at_ q) fun s v =>
          if sgn 32 u ≤ sgn 32 v then keep (put s u) (i + 1) else keep (put s v) i

/-- SORTK. -/
def State.lrSortk (s : State) (c : Ctx) (d a n k : Nat) : State × Flow :=
  let passes := passesOf n 17 0
  s.runLr c ((passes + passes % 2) * n) (bits k 24 8 * n + bits k 0 24) 2 (fun e => e % n + 2 ^ 24 * (e / n))
    (fun s e => s.sortStep c d a n passes e) fun s _ => s

end Sys2Proof.Machine
end

