-- ==== Sys2Proof/Machine/ExecAlu.lean ====
section
/-! DEFINITION. Machine/ExecAlu.lean: integer and Q arithmetic, and shifts (R303). -/

namespace Sys2Proof.Machine

/-- The second value of a λ pair applies under SAT (R303). -/
def lamS (w : WOp) : Nat := if hasPfx w pSAT then 2 else 1

def accAll : List Nat := [pSAT, pNOSAT, p16, pACC]

/-! ### Arithmetic -/

def execIAdd (w : WOp) (x y : Nat) (s : State) : Out :=
  .next (s.aluXY w x y accAll true true true false (lamS w) fun _ a b => addAlu (widthOf w) (limOf w false) a b 0)

def execISub (w : WOp) (x y : Nat) (s : State) : Out :=
  .next (s.aluXY w x y accAll true true true false (lamS w) fun _ a b => subAlu (widthOf w) (limOf w false) a b 0)

def execIAdc (w : WOp) (x y : Nat) (s : State) : Out :=
  .next (s.aluXY w x y accArith false true true false (lamS w) fun r a b =>
    addAlu (widthOf w) (limOf w false) a b (bit r.psw 18).toNat)

def execISbc (w : WOp) (x y : Nat) (s : State) : Out :=
  .next (s.aluXY w x y accArith false true true false (lamS w) fun r a b =>
    subAlu (widthOf w) (limOf w false) a b (!bit r.psw 18).toNat)

def execIAnd (w : WOp) (x y : Nat) (s : State) : Out :=
  .next (s.aluXY w x y [] true true true false 1 fun _ a b => bitAlu (a &&& b))

def execIOr (w : WOp) (x y : Nat) (s : State) : Out :=
  .next (s.aluXY w x y [] true true true false 1 fun _ a b => bitAlu (a ||| b))

def execIXor (w : WOp) (x y : Nat) (s : State) : Out :=
  .next (s.aluXY w x y [] true true true false 1 fun _ a b => bitAlu (a ^^^ b))

def execIAndn (w : WOp) (x y : Nat) (s : State) : Out :=
  .next (s.aluXY w x y [] true true true false 1 fun _ a b => bitAlu (a &&& (b ^^^ 0xFFFFFFFF)))

def execIMin (w : WOp) (x y : Nat) (s : State) : Out :=
  .next (s.aluXY w x y [p16] true true false false 1 fun _ a b =>
    plain (widthOf w) (if sgn (widthOf w) a ≤ sgn (widthOf w) b then a else b))

def execIMax (w : WOp) (x y : Nat) (s : State) : Out :=
  .next (s.aluXY w x y [p16] true true false false 1 fun _ a b =>
    plain (widthOf w) (if sgn (widthOf w) a ≤ sgn (widthOf w) b then b else a))

def execIMinu (w : WOp) (x y : Nat) (s : State) : Out :=
  .next (s.aluXY w x y [] false true false false 1 fun _ a b => plain 32 (min a b))

def execIMaxu (w : WOp) (x y : Nat) (s : State) : Out :=
  .next (s.aluXY w x y [] false true false false 1 fun _ a b => plain 32 (max a b))

def execICmp (w : WOp) (x y : Nat) (s : State) : Out :=
  .next (s.aluXY w x y [p16, pACC] true false true false 1 fun _ a b => subAlu (widthOf w) none a b 0)

def execITst (w : WOp) (x y : Nat) (s : State) : Out :=
  .next (s.aluXY w x y [] false false true false 1 fun _ a b => bitAlu (a &&& b))

def execIAddi (w : WOp) (x imm : Nat) (s : State) : Out :=
  .next (s.aluXI w x imm accArith true (lamS w) fun a b => addAlu (widthOf w) (limOf w false) a b 0)

def execIAndi (w : WOp) (x imm : Nat) (s : State) : Out := .next (s.aluXI w x imm [] true 1 fun a b => bitAlu (a &&& b))

def execIOri (w : WOp) (x imm : Nat) (s : State) : Out := .next (s.aluXI w x imm [] true 1 fun a b => bitAlu (a ||| b))

def execIXori (w : WOp) (x imm : Nat) (s : State) : Out := .next (s.aluXI w x imm [] true 1 fun a b => bitAlu (a ^^^ b))

def execICmpi (w : WOp) (x imm : Nat) (s : State) : Out :=
  .next (s.aluXI w x imm [p16] false 1 fun a b => subAlu (widthOf w) none a b 0)

def execINeg (w : WOp) (x : Nat) (s : State) : Out :=
  .next (s.aluX w x accAll true (lamS w) fun a => subAlu (widthOf w) (limOf w false) 0 a 0)

def execIAbs (w : WOp) (x : Nat) (s : State) : Out :=
  .next (s.aluX w x accAll true (lamS w) fun a => absAlu (widthOf w) (limOf w false) a)

def execINot (w : WOp) (x : Nat) (s : State) : Out := .next (s.aluX w x [] true 1 fun a => bitAlu (a ^^^ 0xFFFFFFFF))

def execIClz (w : WOp) (x : Nat) (s : State) : Out := .next (s.aluX w x [] false 1 fun a => plain 32 (clz a))

def execICls (w : WOp) (x : Nat) (s : State) : Out := .next (s.aluX w x [] false 1 fun a => plain 32 (cls a))

def execISexth (w : WOp) (x : Nat) (s : State) : Out := .next (s.aluX w x [] false 1 fun a => plain 32 (wrap 32 (sgn 16 a)))

def execIZexth (w : WOp) (x : Nat) (s : State) : Out := .next (s.aluX w x [] false 1 fun a => plain 32 (a % 2 ^ 16))

def execISextb (w : WOp) (x : Nat) (s : State) : Out := .next (s.aluX w x [] false 1 fun a => plain 32 (wrap 32 (sgn 8 a)))

def execIZextb (w : WOp) (x : Nat) (s : State) : Out := .next (s.aluX w x [] false 1 fun a => plain 32 (a % 2 ^ 8))

/-! ### Shifts: by B[5:0], or by B[4:0] for ROR -/

def execIShl (w : WOp) (x y : Nat) (s : State) : Out :=
  .next (s.aluXY w x y accAll false true true true 2 fun _ a b => shlAlu (widthOf w) (limOf w false) a (b % 64))

def execIShr (w : WOp) (x y : Nat) (s : State) : Out :=
  .next (s.aluXY w x y [p16] false true true true 2 fun _ a b => shrAlu (widthOf w) a (b % 64))

def execIAsr (w : WOp) (x y : Nat) (s : State) : Out :=
  .next (s.aluXY w x y (pRnd ++ [p16, pACC]) false true true true 2 fun _ a b => asrAlu (widthOf w) (rndOf w 3) a (b % 64))

def execIRor (w : WOp) (x y : Nat) (s : State) : Out :=
  .next (s.aluXY w x y [] false true true true 2 fun _ a b => rorAlu a (b % 32))

def execIShli (w : WOp) (x k : Nat) (s : State) : Out :=
  .next (s.shiftXK w x k accAll fun a n => shlAlu (widthOf w) (limOf w false) a n)

def execIShri (w : WOp) (x k : Nat) (s : State) : Out := .next (s.shiftXK w x k [p16] fun a n => shrAlu (widthOf w) a n)

def execIAsri (w : WOp) (x k : Nat) (s : State) : Out :=
  .next (s.shiftXK w x k (pRnd ++ [p16, pACC]) fun a n => asrAlu (widthOf w) (rndOf w 3) a n)

def execIRori (w : WOp) (x k : Nat) (s : State) : Out := .next (s.shiftXK w x k [] fun a n => rorAlu a n)

end Sys2Proof.Machine
end

