-- ==== Sys2Proof/Machine/ExecBranch.lean ====
section
/-! DEFINITION. Machine/ExecBranch.lean: branches (R264, R303, R305). -/

namespace Sys2Proof.Machine

/-- The return address (R305). -/
def saveRet (s : State) (c : Ctx) : State := s.wr c 1 14 (c.next % 2 ^ 32)

/-- PC[47:32] of the next instruction joined with a register. -/
def near (c : Ctx) (v : Nat) : Nat := 2 ^ 32 * (c.next % 2 ^ 48 / 2 ^ 32) + v

def execIBcc (w : WOp) (cc disp : Nat) (s : State) : Out :=
  .next (s.branchD w disp (decide (cc < 14)) [] (fun s _ => s) fun r => holds r.psw cc)

def execIBra (w : WOp) (disp : Nat) (s : State) : Out := .next (s.branchD w disp true [] (fun s _ => s) fun _ => true)

def execICall (w : WOp) (disp : Nat) (s : State) : Out := .next (s.branchD w disp true [14] saveRet fun _ => true)

def execIJr (w : WOp) (x : Nat) (s : State) : Out :=
  .next (s.branchX w (fD x == 0) [] (fun s _ => s) fun c r => near c (r.gr (fA x)))

def execICallr (w : WOp) (x : Nat) (s : State) : Out :=
  .next (s.branchX w (fD x == 0) [14] saveRet fun c r => near c (r.gr (fA x)))

def execIJmpf (w : WOp) (x : Nat) (s : State) : Out :=
  .next (s.branchX w (fD x == 0 && fA x % 2 == 0) [] (fun s _ => s) fun _ r =>
    r.gr (fA x) + 2 ^ 32 * (r.gr (fA x + 1) % 2 ^ 16))

def execIBlc1 (w : WOp) (disp : Nat) (s : State) : Out :=
  .next (s.branchD w disp true [29]
    (fun s c => let n := (c.regs s).lc1; if n = 0 then s else s.wr c 1 29 (n - 1)) fun r => decide (2 ≤ r.lc1))

end Sys2Proof.Machine
end

