-- ==== Sys2Proof/Machine/ExecBus.lean ====
section
/-! DEFINITION. Machine/ExecBus.lean: the commands of chapter 02 and of the boundary staging. -/

namespace Sys2Proof.Machine

/-- A register write (R40). -/
def execRegisterWrite (req addr size data : Nat) (s : State) : Out := .next (s.busWrite req addr size data)

/-- BLK_RST written, with BLK_EN as it stands, in the page that holds `addr` (R42). -/
def execBlkRst (req addr : Nat) (s : State) : Out :=
  let base := addr - addr % 0x1000
  .next (s.busWrite req (base + 0x00C) 4 (s.getF base F.HDR_BLK_EN + 2))

/-- BLK_EN written in the page that holds `addr` (R43). -/
def execBlkEnWrite (req addr : Nat) (en : Bool) (s : State) : Out :=
  .next (s.busWrite req (addr - addr % 0x1000 + 0x00C) 4 en.toNat)

/-- LOCK_KEY written in the page that holds `addr` (R45). -/
def execLockKeyWrite (req addr key : Nat) (s : State) : Out :=
  .next (s.busWrite req (addr - addr % 0x1000 + 0x024) 4 key)

/-- The window of the page that holds `addr` closes at cycle W + 257 (R45). -/
def execLockWindowExpire (addr : Nat) (s : State) : Out :=
  .next (match target s.phys addr with
    | .page p _ =>
      let l := s.lockSt p.base
      (match l.win with
        | some (_, w) =>
          if w + 257 ≤ s.cycle p.island then { s with bus.locks := SMap.put s.bus.locks p.base { l with win := none } } else s
        | none => s)
    | _ => s)

/-- A read of the low half of a 64-bit counter (R57). -/
def execCounterLoRead (req addr : Nat) (s : State) : Out := .next (s.busRead req addr 4)

/-- A read of the high half of a 64-bit counter (R57, R58). -/
def execCounterHiRead (req addr : Nat) (s : State) : Out := .next (s.busRead req addr 4)

/-- A core write to a context (R27, R107). -/
def execContextWrite (req addr size data : Nat) (s : State) : Out := .next (s.busWrite req addr size data)

/-- Core writes that wait enter the core stage as far as entries are free (R33). -/
def execStagedWriteRelease (tile : Nat) (s : State) : Out := .next (s.stageRelease tile)

/-- Accesses held for a logical tile go on once it has moved (R24). -/
def execAliasAccessRelease (lt : Nat) (s : State) : Out := .next (if s.moving lt then s else s.replayHeld)

end Sys2Proof.Machine
end

