-- ==== Sys2Proof/Machine/ExecCore.lean ====
section
/-! DEFINITION. Machine/ExecCore.lean: the events of the core pairs (chapter 10). -/

namespace Sys2Proof.Machine

/-- The checker finds the copies of a pair different; `whr` as LSTEP.WHERE has it (R253). -/
def execLockstepMismatch (pair whr : Nat) (s : State) : Out := .next (s.lockstepMismatch pair whr)

/-- A rollback ends: the checkpoint is restored and the machine check is entered (R253). -/
def execRollbackComplete (pair : Nat) (s : State) : Out := .next (s.rollbackComplete pair)

/-- A boundary at which a checkpoint may fall (R254). -/
def execCheckpoint (pair : Nat) (s : State) : Out := .next (s.checkpoint pair)

/-- Long units write what is ready (R267). -/
def execLongUnitResult (pair : Nat) (s : State) : Out := .next (s.longResult pair)

/-- The oldest buffered store drains (R268). -/
def execStoreDrain (pair : Nat) (s : State) : Out := .next (s.drainOne pair)

/-- The response of an unbuffered access (R268). -/
def execDataResponse (pair : Nat) (s : State) : Out := .next (s.dataResponse pair)

/-- Vector 0x0A0 after a lock was broken (R281); in a step it ends the step (R469). -/
def execLockBrokenEntry (pair : Nat) (s : State) : Out :=
  .next (let t := s.lockBrokenEntry pair
    if (s.pair pair).brkDue && !(t.pair pair).brkDue then t.stepped pair else t)

/-- CORE_CTRL.HOLD written (R285, R287). -/
def execCoreHold (req pair : Nat) (hold : Bool) (s : State) : Out :=
  .next (s.busWriteBits req (pgCORE pair + 0x40) 1 hold.toNat)

/-- CORE_CTRL.RST written (R287, R402). -/
def execCorePairReset (req pair : Nat) (s : State) : Out := .next (s.busWriteBits req (pgCORE pair + 0x40) 2 2)

/-- A fetch block reaches a pair: 0 as it should, 1 with a bus error, 2 with an uncorrectable error (R279, R280, R314). -/
def execFetchResponse (pair err : Nat) (s : State) : Out :=
  .next (if err = 0 ∨ !s.pairRuns pair ∨ (s.pair pair).unb.isSome then s
  else
    let x := s.pair pair
    if err = 1 then (s.machineCheck pair 2 { vec := 0x010 } x.r.pc).stepped pair
    else
      let s := match s.translate pair x.r.pc 0 (x.r.mode == 0) with
        | (s, .inr pa) => if isMemory pa then s.countUE pa else s
        | (s, .inl _) => s
      (s.machineCheck pair 4 { vec := 0x010 } x.r.pc).stepped pair)

end Sys2Proof.Machine
end

