-- ==== Sys2Proof/Machine/ExecDep.lean ====
section
/-! DEFINITION. Machine/ExecDep.lean: the commands of chapter 13: takeover, keeping of pins, and refiring. -/

namespace Sys2Proof.Machine

/-- Whether trigger `trig` of R355 holds in tile `t`. -/
def State.triggerHolds (s : State) (t trig : Nat) : Bool :=
  match trig with
  | 1 => s.getF (pgWDOG t) F.WDOG_STAT_STAGE == 2
  | 2 => (s.pair (2 * t)).dead || (s.pair (2 * t + 1)).dead
  | 3 => decide (s.getF (pgLENG t) F.LENG_STAT_IN_SERVICE < s.getF pgDROLE F.TKO_CFG_SMIN)
  | 4 => decide (s.getF (pgEDGE t) F.EDGE_STAT_IN_SERVICE < s.getF pgDROLE F.TKO_CFG_EMIN)
  | _ => false

/-- A takeover trigger (R355, R356). -/
def execTakeoverTrigger (tile trig : Nat) (s : State) : Out :=
  .next (if s.triggerHolds tile trig then s.wantTakeover tile trig 63 else s)

/-- DROLE_TKO_CMD written (R357). -/
def execTakeoverCommand (req data : Nat) (s : State) : Out := .next (s.busWrite req (pgDROLE + 0x204) 4 data)

/-- The keeper starts the move of a cluster (R357, R358). -/
def execMoveStart (cluster : Nat) (s : State) : Out := .next (s.moveStart cluster)

/-- The new tile is ready (R359, R361, R362). -/
def execTileReady (cluster : Nat) (s : State) : Out := .next ((s.tileReady cluster).fcstAbort cluster)

/-- The core pairs of the moved logical tile start (R358). -/
def execTileCoreRelease (lt : Nat) (s : State) : Out := .next (s.tileRelease lt)

/-- A repeated period ends at the pin keeper (R364). -/
def execPinRepeatPeriod (tile gen : Nat) (s : State) : Out := .next (s.keeperPeriod tile gen)

/-- The pin keeper places an edge of the repeated period (R364). -/
def execPinKeeperEdge (tile gen : Nat) (s : State) : Out := .next (s.keeperEdge tile gen)

/-- DROLE_SVC written, and the keeper's tests done (R362). -/
def execReturnToService (req data : Nat) (ok : Bool) (s : State) : Out :=
  let s := s.busWrite req (pgDROLE + 0x210) 4 data
  .next (if s.flag pgDROLE F.DROLE_SVC_GO then
      (s.setFlag pgDROLE F.DROLE_SVC_GO false).returnToService (s.getF pgDROLE F.DROLE_SVC_PHYS) ok
    else s)

/-- The mirror of a tile is in step (R362). -/
def execMirrorInStep (tile : Nat) (s : State) : Out := .next (s.mirrorInStep tile)

/-- DROLE_RF_CTRL.CMD written, its other fields kept (R367). -/
def State.refireCmd (s : State) (req cmd : Nat) : State :=
  s.busWriteBits req (pgDROLE + 0x240) (7 * 2 ^ F.RF_CTRL_CMD.lo) (cmd * 2 ^ F.RF_CTRL_CMD.lo)

/-- CMD STAGE (R367). -/
def execRefiringStage (req : Nat) (s : State) : Out := .next (s.refireCmd req 1)

/-- The staged bundle is verified (R367, R368). -/
def execRefiringVerified (s : State) : Out := .next s.refireVerified

/-- CMD SWITCH (R369). -/
def execRefiringSwitch (req : Nat) (s : State) : Out := .next (s.refireCmd req 2)

/-- The switch has completed (R369, R370). -/
def execRefiringDone (s : State) : Out := .next s.refireDone

/-- CMD ABORT (R371). -/
def execRefiringAbort (req : Nat) (s : State) : Out := .next (s.refireCmd req 3)

end Sys2Proof.Machine
end

