-- ==== Sys2Proof/Machine/Consume.lean ====
section
/-! DEFINITION. Machine/Consume.lean: what the consumer inputs of the laths do with an arrival (R225, R228). -/

namespace Sys2Proof.Machine

/-- An event at the start input of a timer: EN is set, or the arrival is an overrun; so is the second of one cycle (R66, R225). -/
def State.timerInput (s : State) (t n : Nat) : State :=
  if s.flag (pgTIMR t) (F.TMR_CTRL_EN n) || s.tookNow (lathTile t) (64 + n) then s.overranOne (lathTile t) (64 + n)
  else (s.tookOne (lathTile t) (64 + n)).timerStart t n

/-- An event at a SYNC input: a load, or an overrun in the tick of one (R143, R225, R228). A load that waited for the tick after a
reload comes first. -/
def State.syncInput (s : State) (t i : Nat) : State :=
  let j := (i - 80) / 2
  let s := s.lateLoads t j
  if s.syncBusy t j || s.tookNow (lathTile t) i then s.overranOne (lathTile t) i
  else (s.tookOne (lathTile t) i).syncEvent t j (i % 2)

/-- An event at a channel's start input: taken when the channel is free, in IDLE or ARMED, and is START then; else, and while a halt holds
the channel, it waits (R228, R330, R331, R341). A START that IDLE refuses a real-time channel records STATE. -/
def State.dmaInput (s : State) (t n : Nat) : State :=
  if (s.chState t n ≠ 0 ∧ s.chState t n ≠ 5) ∨ s.dmaHeld t n then s
  else
    let r := (s.tookOne (lathTile t) (112 + n)).dmaStart t n
    if r.2 = 0 then r.1
    else r.1.recordErr (pgDMAC t n) r.2 ⟨reqDma t, pgDMAC t n + (F.CH_CMD_CMD (n % 8)).off, 4, true, 1⟩

/-- An event at a link input: it goes on when the next lath has taken the previous one (R228, R234). -/
def State.linkInput (s : State) (l i : Nat) (tok : Tok) : State :=
  if s.linkBusy l i then s else (s.tookOne l i).passLink l i tok

/-- An event at a lath interrupt input: an arrival of its source, once the one before has been entered (R228, R241). -/
def State.interruptInput (s : State) (l i src : Nat) : State :=
  if s.doorbellWaits src then s else (s.tookOne l i).arrive src

/-- An event at a tile lath's input. -/
def State.consumeTile (s : State) (t i : Nat) (tok : Tok) : State :=
  let l := lathTile t
  if i < 64 then (s.tookOne l i).triggerAll t 3 i [0, s.count % 2 ^ 32] s.tick
  else if i < 80 then s.timerInput t (i - 64)
  else if i < 112 then s.syncInput t i
  else if i < 144 then s.dmaInput t (i - 112)
  else if i < 160 then s.linkInput l i tok
  else s.interruptInput l i (512 * t + 384 + (i - 176))

/-- An event at a cluster lath's input. -/
def State.consumeClu (s : State) (c i : Nat) (tok : Tok) : State :=
  let l := lathClu c
  if i < 128 then s.linkInput l i tok
  else if i < 144 then s.adcEvent (16 * c + (i - 128))
  else if i < 160 then ((s.tookOne l i).thrLoad (16 * c + (i - 144))).fcstAbort c
  else if i < 175 then
    (if s.flag (pgJOB c (i - 160)) F.JOB_CTRL_LAUNCH_SRC then s.forecastLaunch c (i - 160) else s.tookOne l i)
  else if i = 175 then s.klogStop c
  else if i < 192 then (s.tookOne l i).gpioAction (16 * c + (i - 176))
  else if i < 200 then s.linkInput l i tok
  else s.interruptInput l i (20480 + 128 * c + 88 + (i - 200))

/-- An event at an input of the device lath: a downlink, an event for the group link, which drops one that came over it
(R235), or an interrupt input. -/
def State.consumeDev (s : State) (i : Nat) (tok : Tok) : State :=
  if i < 32 then s.linkInput lathDev i tok
  else if i < 40 then
    let s := s.tookOne lathDev i
    if tok.mark then s.dropEvent lathDev tok else if s.grpOn then s.grpSendAll 7 [i - 32] else s
  else s.interruptInput lathDev i (21248 + (i - 40))

/-- The consumer behind an input takes the head arrival, once the arrival has reached it and where the consumer is free
(R225, R228, R500). A QUEUED input gives one arrival in each cycle of its consumer's island. -/
def State.consume (s : State) (l i : Nat) : State :=
  match s.headTok l i with
  | none => s
  | some tok =>
    if cinKind l i = 3 || s.lathStill l || (cinKind l i == 0 && s.tookNow l i) then s
    else if l < 64 then s.consumeTile l i tok
    else if l < 72 then s.consumeClu (l - 64) i tok
    else s.consumeDev i tok

end Sys2Proof.Machine
end

