-- ==== Sys2Proof/Machine/ExecEdge.lean ====
section
/-! DEFINITION. Machine/ExecEdge.lean: the commands of chapter 06. -/

namespace Sys2Proof.Machine

/-- Too few slices or lanes in service: a tile whose number has just fallen below its limit triggers a takeover (R355). -/
def State.strength (s old : State) (t : Nat) : State :=
  let lanes := s.getF (pgEDGE t) F.EDGE_STAT_IN_SERVICE
  let slices := s.getF (pgLENG t) F.LENG_STAT_IN_SERVICE
  if s.role t ≠ 0 then s
  else if slices < old.getF (pgLENG t) F.LENG_STAT_IN_SERVICE ∧ slices < s.getF pgDROLE F.TKO_CFG_SMIN then s.wantTakeover t 3 63
  else if lanes < old.getF (pgEDGE t) F.EDGE_STAT_IN_SERVICE ∧ lanes < s.getF pgDROLE F.TKO_CFG_EMIN then s.wantTakeover t 4 63
  else s

/-- PWMG_CTRL of a generator. -/
def genCtrl (t g : Nat) : Nat := pgPWMG t g + 0x80 + 0x60 * (g % 16)

/-- RUN written 1 (R134). -/
def execGeneratorRun (req tile gen : Nat) (s : State) : Out := .next (s.busWriteBits req (genCtrl tile gen) 1 1)

/-- RUN written 0 (R134). -/
def execGeneratorStop (req tile gen : Nat) (s : State) : Out := .next (s.busWriteBits req (genCtrl tile gen) 1 0)

/-- ARM written 1 (R158). -/
def execGeneratorArm (req tile gen : Nat) (s : State) : Out := .next (s.busWriteBits req (genCtrl tile gen) 2 2)

/-- ARM written 0 (R159). -/
def execGeneratorDisarm (req tile gen : Nat) (s : State) : Out := .next (s.busWriteBits req (genCtrl tile gen) 2 0)

/-- CLR_REQ written 1 (R163). -/
def execTripClearRequest (req tile gen : Nat) (s : State) : Out := .next (s.busWriteBits req (genCtrl tile gen) 4 4)

/-- A reload of a generator, once its tick has come (R133 to R153, R363, R374): what the reload means to a refiring and to the
group comes first, and it sets the launches of R209. Behind a shut gate the ledgers alone go on (R375). `nomaj` tells that the voters of a remote set find no majority; `ledErr` is the charge that an upset puts on
a ledger. -/
def execGeneratorReload (tile gen : Nat) (nomaj : Bool) (ledErr : Int) (s : State) : Out :=
  .next (if s.gateShut tile then s.mirrorReload tile gen ledErr
  else
    let u := (s.refireDue tile gen).groupReload tile gen
    let r := (u.genReload tile gen nomaj ledErr).refireCompare tile gen
    let r := if (r.gen tile gen).origin = (u.gen tile gen).origin then r else r.launchesSet tile gen
    (r.fcstAbort (tile / 10)).strength s tile)

/-- The counter holds PER - 1 (R146). -/
def execPendEvent (tile gen : Nat) (s : State) : Out := .next (if s.gateShut tile then s else s.pendEvent tile gen)

/-- The counter has reached the tick part of compare `which`: 0 ON, 1 OFF, 2 EVA, 3 EVB (R135). `upset` 1 to 3 names the edge
lane that disagrees. -/
def execCompareMatch (tile gen which upset : Nat) (s : State) : Out :=
  .next (if s.gateShut tile then s else (s.compareMatch tile gen which upset).strength s tile)

/-- A delayed rise takes place (R150). -/
def execDeadTimeExpiry (tile gen : Nat) (isH : Bool) (upset : Nat) (s : State) : Out :=
  .next (if s.gateShut tile then s else (s.deadTime tile gen isH upset).strength s tile)

/-- Lanes whose claim has ended return to the pool (R164). -/
def execLaneRelease (tile : Nat) (s : State) : Out := .next (s.releaseLanes tile)

/-- The first edge, or set, that waits for lanes is placed (R165). -/
def execDelayedEdgePlace (tile upset : Nat) (s : State) : Out :=
  .next (if s.gateShut tile then s else (s.placeDelayed tile upset).strength s tile)

/-- PER, PHASE, or a compare written: `reg` 0, 1, 2 to 5 (R139 to R142). -/
def execShadowWrite (req tile gen reg data : Nat) (s : State) : Out :=
  .next (s.busWrite req (genCtrl tile gen + 8 + 4 * reg) 4 data)

/-- Loop commits enter the shadow 2 ticks after their commit tick (R139). -/
def execShadowCommitEntry (tile gen : Nat) (s : State) : Out := .next (s.shadowEntry tile gen s.tick)

/-- An event at a SYNC input loads the counters of its page, and loads that waited for the tick after a reload take place
(R143). -/
def execPhaseLoad (tile page which : Nat) (s : State) : Out :=
  let i := 80 + 2 * page + which
  .next (match s.headTok (lathTile tile) i with
    | some _ => s.syncInput tile i
    | none => s.lateLoads tile page)

/-- PWMG_BIND written (R154). -/
def execBindWrite (req tile gen data : Nat) (s : State) : Out := .next (s.busWrite req (genCtrl tile gen + 0x2C) 4 data)

/-- The input of a trip source takes a level: nanovolts at a CMPIN, 1 or 0 at a TRIP pin. Where that makes its trip path
active, the generators bound to it meet it (R96, R99, R160, R162). -/
def execTripSourceActive (cluster : Nat) (x : SrcAt) (s : State) : Out :=
  .next ((s.sourceInput cluster x.src x.level).fcstAbort cluster)

/-- A blanking window closes: a source that is active trips the generator, or the pins that the keeper repeats (R161, R364). -/
def execBlankingClose (tile gen : Nat) (s : State) : Out :=
  .next (if s.gateShut tile then s.keeperTrip tile gen else (s.tripCheck tile gen).fcstAbort (tile / 10))

end Sys2Proof.Machine
end

