-- ==== Sys2Proof/Machine/ExecFcst.lean ====
section
/-! DEFINITION. Machine/ExecFcst.lean: the commands of chapter 08: the forecast engines and the kiln log. -/

namespace Sys2Proof.Machine

/-- A launch point of a job, by its reference generator or by an event (R209). -/
def execForecastLaunch (cluster job : Nat) (s : State) : Out := .next (s.forecastLaunch cluster job)

/-- The engine starts the launch that waits first (R210). -/
def execLaunchStart (cluster : Nat) (s : State) : Out := .next (s.launchStart cluster)

/-- The gather ends (R204); `bad` tells that a state word has no majority. -/
def execGatherDone (cluster : Nat) (bad : Bool) (s : State) : Out := .next (s.gatherDone cluster bad)

/-- The fetch of the model bank ends (R208). -/
def execFetchDone (cluster : Nat) (ue : Bool) (s : State) : Out := .next (s.fetchDone cluster ue)

/-- The ranking ends (R205). -/
def execRankDone (cluster : Nat) (s : State) : Out := .next (s.rankDone cluster)

/-- The evaluation ends (R206). -/
def execEvaluateDone (cluster : Nat) (s : State) : Out := .next (s.evaluateDone cluster)

/-- The selection ends (R213). -/
def execSelectDone (cluster : Nat) (s : State) : Out := .next (s.selectDone cluster)

/-- A plan write reaches the tiles that hold or mirror its context (R211). -/
def execPlanCommitArrival (cluster : Nat) (s : State) : Out := .next (s.planArrival cluster)

/-- The launch that runs ends (R214). -/
def execLaunchEnd (cluster : Nat) (s : State) : Out := .next (s.launchEnd cluster)

/-- JOB_CTRL.EN written 1 (R215). -/
def execJobEnable (req cluster job : Nat) (s : State) : Out :=
  .next (s.busWriteBits req (pgJOB cluster job + 0x40) 1 1)

/-- The recorder writes its oldest buffered record (R217). -/
def execKlogWrite (cluster : Nat) (s : State) : Out := .next (s.klogWrite cluster)

/-- A stop event (R221). -/
def execKlogStopEvent (cluster : Nat) (s : State) : Out := .next (s.klogStop cluster)

/-- POST records after the stop event have been produced (R221). -/
def execKlogPostDone (cluster : Nat) (s : State) : Out := .next (s.klogPostDone cluster)

/-- The buffer has emptied after production ended (R221). -/
def execKlogDrained (cluster : Nat) (s : State) : Out := .next (s.klogDrained cluster)

/-- KLOG_CTRL.CLEAR written 1 (R221). -/
def execKlogClear (req cluster : Nat) (s : State) : Out := .next (s.busWriteBits req (pgKLOG cluster + 0x40) 8 8)

end Sys2Proof.Machine
end

