-- ==== Sys2Proof/Machine/ExecFire.lean ====
section
/-! DEFINITION. Machine/ExecFire.lean: the commands of chapter 15: firing, the settings journal, KEEP commands, measurement and
attestation. -/

namespace Sys2Proof.Machine

/-! ### Glaze firing (R407, R408, R410) -/

/-- The entries of the directory of a header in force. -/
def dirEntries (b : List Byte) (n : Nat) : List DirEntry := (List.range n).map fun k => parseEntry (slice b (80 * k) 80)

/-- The domains that a list of items switches on: of the items for one domain the last decides (R418, R419). -/
def journalDomains (items : List JItem) : List Nat :=
  let m : SMap Bool := (items.filter (·.kind == 3)).foldl (fun m i => SMap.put m (i.addr % 128) (bit i.value 0)) []
  (m.filter (·.2)).map (·.1)

/-- The journal is replayed, measured, and its row retirements and domains are applied (R407 steps 2 and 3). -/
def State.glazeJournal (s : State) (h : Hdr) : State :=
  let s := s.journalScan h
  let s := s.extend 3 (Config.sha384 (s.fire.items.flatMap JItem.bytes)) 0x84 0
  let s := (s.fire.items.filter fun i => i.kind == 2 && decide (0x1000000000 ≤ i.addr)).foldl (fun s i => s.retireRow i.addr) s
  (journalDomains s.fire.items).foldl (fun s d => s.fireDomain d) s

/-- The roles of a cluster's tiles after its bring-up (R22), or without it (R408). A saggar tile whose core domain the journal did not
switch on gets ROLE 0b11 (DESIGN CHOICE, log entry 45). -/
def State.glazeRoles (s : State) (c : Nat) (up : Bool) : State :=
  (List.range 10).foldl (fun s k =>
    let t := 10 * c + k
    if !up then (s.setF pgDROLE (F.ROLE_PHYS_ROLE t) 3).setF pgDROLE (F.ROLE_PHYS_LOGICAL t) 0
    else if k < 8 then
      ((s.setF pgDROLE (F.ROLE_PHYS_ROLE t) 0).setF pgDROLE (F.ROLE_PHYS_LOGICAL t) (8 * c + k)).setF pgDROLE
        (F.ROLE_MAP_PHYS (8 * c + k)) t
    else (s.setF pgDROLE (F.ROLE_PHYS_ROLE t) (if s.domOn (2 * t) then 1 else 3)).setF pgDROLE (F.ROLE_PHYS_LOGICAL t) 0) s

/-- The cluster of a settings item's register, none for a device page. -/
def itemCluster (a : Nat) : Option Nat :=
  match aliasOf a with
  | some lt => some (lt / 8)
  | none =>
    match target id a with
    | .page p _ => p.domain.bind fun d => if d < 80 then some (d / 20) else if d < 120 then some ((d - 80) / 10) else none
    | _ => none

/-- A REG item of a firing: beside what the write does, a read-only field whose reset value is the journal's takes it (R16, R439). -/
def State.fireItem (s : State) (i : JItem) : State :=
  let s := s.applyItem i
  match target s.phys i.addr with
  | .page p off =>
    if s.pageOn p then
      ((p.slots off).getD []).foldl (fun s x =>
        if x.fld.journal && x.fld.acc == .ro && bits i.mask x.pos x.w != 0 then s.setF p.base x.fld (s.resetOf p.base x.fld) else s) s
    else s
  | _ => s

/-- The journal's REG items for a cluster, in journal order (R407 step 4, R410). Those for device pages go with the first cluster that is brought
up (DESIGN CHOICE, log 69). -/
def State.glazeItems (s : State) (c : Nat) (first : Bool) : State :=
  (s.fire.items.filter fun i => i.kind == 1 && !armOrRun (s.jAddr i.addr) i.mask &&
    match itemCluster i.addr with
    | some k => k == c
    | none => first).foldl (fun s i => s.fireItem i) s

/-- A cluster is brought up, or fails to start (R407 step 4, R408); the second part tells whether the firing may go on. -/
def State.glazeCluster (s : State) (es : List DirEntry) (started c : Nat) : State × Bool :=
  if !bit started c then ((s.setFbit pgDEV F.DEV_BOOT_CLU_FAIL c true).glazeRoles c false, true)
  else
    let s := ((s.fireDomain (80 + 10 * c)).fireDomain (82 + 10 * c)).fireDomain (85 + 10 * c)
    let s := s.setFbit pgDEV F.DEV_BOOT_CLU_FAIL c false
    let r := (es.filter fun e => e.cluster == c).foldl (fun (r : State × Bool) e =>
      if r.2 then r.1.loadEntry (r.1.flash r.1.fire.flash e.ofs e.len) e else r) (s, true)
    let s := r.1.glazeRoles c true
    (if r.2 then s.glazeItems c ((List.range c).all fun k => !bit started k) else s, r.2)

/-- The cores of every active tile are released (R407 step 6). -/
def State.releaseCores (s : State) : State :=
  (List.range 40).foldl (fun s t =>
    if s.role t ≠ 0 then s
    else [2 * t, 2 * t + 1].foldl (fun s p => if s.domOn p then s.holdPair p false else s) s) s

/-- Glaze firing; `started` has a bit for each cluster whose NoC section and HBM stack start (R407, R408); with none the firing fails (R423). -/
def State.glaze (s : State) (started : Nat) : State :=
  if s.fire.phase ≠ 2 then s
  else
    let h := s.header
    let f := s.fire.flash
    let db := s.flash f h.dirOfs (80 * h.dirCount)
    let es := dirEntries db h.dirCount
    if Config.sha384 db ≠ h.dirHash then s.glazeFail
    else
      let s := (s.extend 2 h.dirHash 0x83 0).glazeJournal h
      if !(es.all DirEntry.ok) ∨ dupEntries es ∨ bits started 0 4 = 0 then s.glazeFail
      else
        let r := (List.range 4).foldl (fun (r : State × Bool) c =>
          if r.2 then r.1.glazeCluster es started c else r) (s, true)
        if !r.2 then r.1.glazeFail
        else
          let s := r.1.makeAlias.releaseCores
          ({ s with fire.phase := 3, fire.doms := [] }).grpFired

/-- Bisque firing (R405, R406). -/
def execBisqueFiring (s : State) : Out := .next s.bisque

/-- Glaze firing (R407). -/
def execGlazeFiring (started : Nat) (s : State) : Out := .next (s.glaze started)

/-- The retry in BOOT_FAIL (R409). -/
def execBootRetry (s : State) : Out := .next s.bootRetry

/-! ### The KEEP page (R420, R433, R434) -/

/-- KEEP_CMD written with a command (R434). -/
def State.keepCommand (s : State) (req cmd : Nat) : State := s.busWrite req (pgKEEP + F.KEEP_CMD_CMD.off) 4 cmd

/-- KEEP command JOURNAL_WRITE (R420). -/
def execJournalWrite (req : Nat) (s : State) : Out := .next (s.keepCommand req 1)

/-- KEEP command FLASH_WRITE (R434). -/
def execFlashWrite (req : Nat) (s : State) : Out := .next (s.keepCommand req 2)

/-- KEEP command MIN_VERSION (R434). -/
def execMinVersion (req : Nat) (s : State) : Out := .next (s.keepCommand req 3)

/-- KEEP command LIFECYCLE (R433). -/
def execLifecycle (req : Nat) (s : State) : Out := .next (s.keepCommand req 4)

/-- KEEP command REVOKE (R434). -/
def execRevoke (req : Nat) (s : State) : Out := .next (s.keepCommand req 5)

/-- KEEP command LOG_READ (R434). -/
def execLogRead (req : Nat) (s : State) : Out := .next (s.keepCommand req 6)

/-- The running KEEP command ends, unless it waits for a frozen memory (R321); `err`: its flash access failed (R420, R434). -/
def execKeepCommandDone (err : Bool) (s : State) : Out :=
  .next (match s.fire.keep with
    | none => s
    | some k =>
      if s.memFrozen k.ptr then s
      else if s.keepRefused k then s.keepEnd 2
      else if err then (s.satF (pgXSPI (if k.cmd = 2 then bits (k.arg 2) 31 1 else 0)) F.XSPI_STAT_ERRORS).keepEnd 3
      else
        let items := if k.cmd = 1 then (s.keepItems k).filter fun i => i.kind == 1 else []
        (items.foldl (fun s i => s.applyItem i) (s.keepEffect k)).keepEnd 1)

/-! ### Measurement and attestation (R422, R425 to R430) -/

/-- MEAS_EXT.GO written 1 (R422). -/
def execMeasurementExtend (req : Nat) (s : State) : Out := .next (s.busWrite req (pgMEAS + F.MEAS_EXT_GO.off) 4 (2 ^ F.MEAS_EXT_GO.lo))

/-- A fragment of an SPDM request (R429). -/
def execSpdmFragment (port addr udp : Nat) (payload : List Byte) (s : State) : Out := .next (s.spdmFragment port addr udp payload)

/-- A request was not complete within 100 ms (R429). -/
def execSpdmReassemblyTimeout (port addr udp : Nat) (s : State) : Out := .next (s.spdmExpire port addr udp)

/-- A connection was idle for 60 s (R429). -/
def execSpdmConnectionIdle (port addr udp : Nat) (s : State) : Out := .next (s.spdmIdle port addr udp)

/-- GET_VERSION is answered (R426). -/
def execGetVersion (port addr udp : Nat) (s : State) : Out := .next (s.spdmRequest port addr udp 0x84)

/-- GET_CAPABILITIES is answered (R426). -/
def execGetCapabilities (port addr udp : Nat) (s : State) : Out := .next (s.spdmRequest port addr udp 0xE1)

/-- NEGOTIATE_ALGORITHMS is answered (R426). -/
def execNegotiateAlgorithms (port addr udp : Nat) (s : State) : Out := .next (s.spdmRequest port addr udp 0xE3)

/-- GET_DIGESTS is answered (R426). -/
def execGetDigests (port addr udp : Nat) (s : State) : Out := .next (s.spdmRequest port addr udp 0x81)

/-- GET_CERTIFICATE is answered (R425). -/
def execGetCertificate (port addr udp : Nat) (s : State) : Out := .next (s.spdmRequest port addr udp 0x82)

/-- CHALLENGE is answered (R426). -/
def execChallenge (port addr udp : Nat) (s : State) : Out := .next (s.spdmRequest port addr udp 0x83)

/-- GET_MEASUREMENTS is answered (R427). -/
def execGetMeasurements (port addr udp : Nat) (s : State) : Out := .next (s.spdmRequest port addr udp 0xE0)

/-- Any other request is answered with ERROR UnsupportedRequest (R426). -/
def execSpdmUnsupported (port addr udp : Nat) (s : State) : Out := .next (s.spdmRequest port addr udp 0)

end Sys2Proof.Machine
end

