-- ==== Sys2Proof/Machine/ExecGrp.lean ====
section
/-! DEFINITION. Machine/ExecGrp.lean: the commands of chapter 16: device groups. A frame of the group link arrives on a lane, with
its SEQ and content as operands. -/

namespace Sys2Proof.Machine

/-- STATUS frames are sent (R436). -/
def execGroupStatusSend (s : State) : Out := .next s.statusSend

/-- A STATUS frame of a peer (R436). -/
def execGroupStatusReceive (lane src seq : Nat) (st : GStat) (s : State) : Out := .next (s.statusReceive lane src seq st)

/-- No STATUS of a peer for LOSS_TMO (R437). -/
def execMemberLost (peer : Nat) (s : State) : Out := .next (s.memberLost peer)

/-- An EVENT frame (R437). -/
def execGroupEventReceive (lane seq n : Nat) (s : State) : Out := .next (s.grpEvent lane seq n)

/-- A peer is admitted, or refused; `auth`: its own CHALLENGE of this member has succeeded on its side (R438). -/
def execPeerAdmission (peer : Nat) (auth : Bool) (s : State) : Out := .next (s.peerAdmission peer auth)

/-- A refused admission is tried again (R438). -/
def execAdmissionRetry (s : State) : Out := .next s.admissionRetry

/-- An XFER of the agreed set (R439). -/
def execConfigTransfer (lane seq epoch : Nat) (words : List Nat) (s : State) : Out :=
  .next (s.configTransfer lane seq epoch words)

/-- A MIRROR frame of an owner (R448). -/
def execMirrorReceive (lane seq part period : Nat) (writes : List MirW) (s : State) : Out :=
  .next (s.mirrorReceive lane seq part period writes)

/-- The time master starts an ownership frame (R441). -/
def execOwnershipFrameStart (s : State) : Out := .next s.ownStart

/-- An ownership frame ends, as the two lines carried it (R442, R443). -/
def execOwnershipFrameEnd (line0 line1 : Nat) (s : State) : Out := .next (s.ownEnd line0 line1)

/-- GRP_CLAIM written (R444). -/
def execGroupClaim (req data : Nat) (s : State) : Out := .next (s.busWrite req (pgGRPL + F.GRP_CLAIM_GO.off) 4 data)

/-- The digest of the active set is checked (R449). -/
def execConfigDigestCheck (s : State) : Out := .next s.digestCheck

/-- GRP_CCMD written (R450). -/
def execCommitPropose (req data : Nat) (s : State) : Out := .next (s.busWrite req (pgGRPL + 0x5C) 4 data)

/-- A PREPARE frame (R450). -/
def execPrepareReceive (lane seq epoch : Nat) (digest : List Byte) (p : Nat) (s : State) : Out :=
  .next (s.prepareReceive lane seq epoch digest p)

/-- A DECIDE frame (R450). -/
def execDecideReceive (lane seq : Nat) (commit : Bool) (s : State) : Out := .next (s.decideReceive lane seq commit)

/-- The boundary of P - 1 for a proposer, of P + 8 for an undecided member (R450). -/
def execCommitDeadline (s : State) : Out := .next s.commitDeadline

/-- A TIME exchange with the master gives an offset (R436, R453). -/
def execTimeExchange (ofs : Int) (s : State) : Out := .next (s.timeExchange ofs)

/-- A member's answer to a PREPARE (R450). -/
def execPreparedReceive (lane seq : Nat) (ok : Bool) (s : State) : Out := .next (s.preparedReceive lane seq ok)

/-- A CONFIG frame of a peer (R449). -/
def execGroupConfigReceive (lane seq epoch : Nat) (digest : List Byte) (s : State) : Out :=
  .next (s.configReceive lane seq epoch digest)

end Sys2Proof.Machine
end

