-- ==== Sys2Proof/Machine/ExecLath.lean ====
section
/-! DEFINITION. Machine/ExecLath.lean: the commands of chapter 09: laths, GPIO and interrupts. -/

namespace Sys2Proof.Machine

/-- A lath takes the first production of a producer that is ready (R229). -/
def execLathTake (lath prod : Nat) (s : State) : Out := .next (s.lathTake lath prod)

/-- The consumer behind an input takes an arrival (R225). -/
def execConsumerTake (lath input : Nat) (s : State) : Out := .next (s.consume lath input)

/-- LATH_COMMIT.COMMIT written (R230). -/
def execRouteCommit (req lath : Nat) (s : State) : Out := .next (s.busWrite req (lathPage lath 0 + 0x54) 4 1)

/-- LATH_COMMIT.LOAD written (R230). -/
def execRouteLoad (req lath : Nat) (s : State) : Out := .next (s.busWrite req (lathPage lath 0 + 0x54) 4 2)

/-- LATH_SEL written (R231). -/
def execLathSelect (req lath data : Nat) (s : State) : Out := .next (s.busWrite req (lathPage lath 0 + 0x50) 4 data)

/-- LATH_SWEV written (R232). -/
def execSoftwareEvent (req lath n : Nat) (s : State) : Out := .next (s.busWrite req (lathPage lath 0 + 0x4C) 4 n)

/-- A pin is at a level, before POL, and its filter accepts it once it has sampled it often enough (R238). -/
def execGpioEdge (pin : Nat) (level : Bool) (s : State) : Out := .next ((s.gpioAt pin level).gpioSample pin)

/-- An edge of a pin, to a level before POL, while the cluster lath island is stopped (R238). -/
def execGpioLatchedEdge (pin : Nat) (level : Bool) (s : State) : Out :=
  let i := cluIsland (pin / 16) 0
  let s := s.gpioAt pin level
  .next (if !s.isleStopped i || !s.domOn (89 + 10 * (pin / 16)) || !s.gpioSelects pin (s.gpioLevel pin) then s
  else
    let n := SMap.getD s.lath.gpio.alat pin 0
    let s := s.requestWake i
    if n < 15 then { s with lath.gpio.alat := SMap.put s.lath.gpio.alat pin (n + 1) }
    else s.setFbit (pgGPIO (pin / 16)) F.GPIO_ALAT_ALAT_OVF (pin % 16) true)

/-- A run of a pin's action input (R239). -/
def execGpioOutputAction (pin : Nat) (s : State) : Out := .next (s.consume (lathClu (pin / 16)) (176 + pin % 16))

/-- A doorbell written: of a tile, or of the device for tile 40 (R241). -/
def execDoorbell (req tile data : Nat) (s : State) : Out :=
  .next (s.busWrite req ((if tile < 40 then pgINTC tile else pgDINTC) + 0x40) 4 data)

/-- A pair accepts the level presented to it, or ends its WAIT (R282, R283); in a step the acceptance ends the step (R469). -/
def execInterruptAccept (pair : Nat) (s : State) : Out :=
  .next (let t := s.acceptInterrupt pair
    if (t.pair pair).r.exl && !(s.pair pair).r.exl then t.stepped pair else t)

/-- The hold-off of a tile's group, or of device group `group` - 320, ends (R246, R250); a cascade that is pending then requests a
wake (R243). -/
def execHoldoffExpiry (group : Nat) (s : State) : Out :=
  .next (match SMap.get? s.lath.int.holdEnd group with
    | some t =>
      if t ≤ s.tick then
        (if group < 320 then s.endHold group (pgINTC (group / 8)) F.INTC_HSTAT_HOLDING (group % 8)
         else
           let s := s.endHold group pgDINTC F.DINTC_HSTAT_HOLDING (group - 320)
           let t := s.phys (s.getF pgDINTC (F.dintcRouteLT (group - 320)))
           if s.cascade t (group - 320) then s.requestWake (2 * t) else s)
      else s
    | none => s)

/-- A word of INTC_EN or INTC_PAIR written (R247). -/
def execIntcEnWrite (req tile : Nat) (isPair : Bool) (w data : Nat) (s : State) : Out :=
  .next (s.busWrite req (pgINTC tile + (if isPair then 0xC0 else 0x80) + 4 * w) 4 data)

/-- DINTC_CLAIM read (R250). -/
def execDintcClaim (req : Nat) (s : State) : Out := .next (s.busRead req (pgDINTC + 0x44) 4)

end Sys2Proof.Machine
end

