-- ==== Sys2Proof/Machine/ExecLdSt.lean ====
section
/-! DEFINITION. Machine/ExecLdSt.lean: loads, stores and atomics (R295, R303, R307). -/

namespace Sys2Proof.Machine

def execILdW (w : WOp) (x m disp : Nat) (s : State) : Out := .next (s.loadI w x m disp 4 false false)

def execILdH (w : WOp) (x m disp : Nat) (s : State) : Out := .next (s.loadI w x m disp 2 true false)

def execILdHu (w : WOp) (x m disp : Nat) (s : State) : Out := .next (s.loadI w x m disp 2 false false)

def execILdB (w : WOp) (x m disp : Nat) (s : State) : Out := .next (s.loadI w x m disp 1 true false)

def execILdBu (w : WOp) (x m disp : Nat) (s : State) : Out := .next (s.loadI w x m disp 1 false false)

def execILdD (w : WOp) (x m disp : Nat) (s : State) : Out := .next (s.loadI w x m disp 8 false false)

def execILda (w : WOp) (x m disp : Nat) (s : State) : Out := .next (s.loadI w x m disp 8 false true)

/-- LEA scales by 1 and accesses nothing (R295). -/
def execILea (w : WOp) (x m disp : Nat) (s : State) : Out :=
  .next (s.toG w { bytes := memLen w m, acc := if fMode m = 0 then [pLONG] else [], port := true, ok := memOk m 1 } (fD x) 1 fun r =>
    (effAddr r w x m disp 1).1)

def execIStW (w : WOp) (x m disp : Nat) (s : State) : Out := .next (s.storeI w x m disp 4)

def execIStH (w : WOp) (x m disp : Nat) (s : State) : Out := .next (s.storeI w x m disp 2)

def execIStB (w : WOp) (x m disp : Nat) (s : State) : Out := .next (s.storeI w x m disp 1)

def execIStD (w : WOp) (x m disp : Nat) (s : State) : Out := .next (s.storeI w x m disp 8)

def execISta (w : WOp) (x m disp : Nat) (s : State) : Out := .next (s.storeA w x m disp)

def execIXchg (w : WOp) (wide : Bool) (x m disp : Nat) (s : State) : Out := .next (s.atomicI w wide x m disp 1 none)

def execIFadd (w : WOp) (wide : Bool) (x m disp : Nat) (s : State) : Out := .next (s.atomicI w wide x m disp 3 none)

def execIFand (w : WOp) (wide : Bool) (x m disp : Nat) (s : State) : Out := .next (s.atomicI w wide x m disp 4 none)

def execIFor (w : WOp) (wide : Bool) (x m disp : Nat) (s : State) : Out := .next (s.atomicI w wide x m disp 5 none)

def execICas (w : WOp) (wide : Bool) (x m disp y : Nat) (s : State) : Out := .next (s.atomicI w wide x m disp 2 (some y))

end Sys2Proof.Machine
end

