-- ==== Sys2Proof/Machine/ExecLong.lean ====
section
/-! DEFINITION. Machine/ExecLong.lean: long units and long resumable instructions (R308, R309). -/

namespace Sys2Proof.Machine

def execIDiv (w : WOp) (x y : Nat) (s : State) : Out := .next (s.longXY w x y 0 20 [] fun a b => divS a b)

def execIDivu (w : WOp) (x y : Nat) (s : State) : Out := .next (s.longXY w x y 0 20 [] fun a b => divU a b)

def execIDivq (w : WOp) (x y : Nat) (s : State) : Out := .next (s.longXY w x y 0 20 pRnd fun a b => divQ (rndOf w 2) a b)

def execISqrt (w : WOp) (x : Nat) (s : State) : Out :=
  .next (s.longX w x 1 18 pRnd true fun a => [(fD x, sqrtQ (rndOf w 0) a)])

def execIRecip (w : WOp) (x : Nat) (s : State) : Out := .next (s.longX w x 2 10 [] true fun a => [(fD x, recip a)])

def execISincos (w : WOp) (x : Nat) (s : State) : Out :=
  .next (s.longX w x 3 16 pRnd (fD x % 2 == 0) fun a => [(fD x, sinQ (rndOf w 0) 0 a), (fD x + 1, sinQ (rndOf w 0) 1 a)])

def execIMv3 (w : WOp) (x y : Nat) (s : State) : Out :=
  .next (s.issue w { bytes := 2, esc := true, acc := pRnd, long := true, port := true,
                     ok := decide (fD x ≤ 5) && decide (y < 14), dests := [20 + fD x, 21 + fD x, 22 + fD x] } fun s c =>
    s.startMv3 w c x y)

def execIBmov (w : WOp) (x n : Nat) (s : State) : Out :=
  .next (s.issue w (lrOp (fB n == 0) [] []) fun s c =>
    let r := c.regs s
    s.lrStart c (r.gr (fN n)) (2 ^ 24 - 1) id fun s k => s.lrBmov c (fD x) (fA x) (r.gr (fN n)) k)

def execIBfill (w : WOp) (x n : Nat) (s : State) : Out :=
  .next (s.issue w (lrOp (fA x == 0) [] []) fun s c =>
    let r := c.regs s
    s.lrStart c (r.gr (fN n)) (2 ^ 24 - 1) id fun s k => s.lrBfill c (fD x) (fB n) (r.gr (fN n)) k)

def execITsrch (w : WOp) (x n : Nat) (s : State) : Out :=
  .next (s.issue w (lrOp true [fD x] []) fun s c =>
    let r := c.regs s
    s.lrStart c (r.gr (fN n)) (2 ^ 24 - 1) (fun s => s.lrResult c (fD x) 0) fun s k =>
      s.lrTsrch c (fD x) (fA x) (fB n) (r.gr (fN n)) k)

def execIMvm (w : WOp) (x n : Nat) (s : State) : Out :=
  .next (s.issue w (lrOp true [] pRnd) fun s c =>
    let r := c.regs s
    s.lrStart c (r.gr (fN n)) (2 ^ 24 - 1) id fun s k => s.lrMvm w c (fD x) (fA x) (fB n) (r.gr (fN n)) k)

def execISortk (w : WOp) (x n : Nat) (s : State) : Out :=
  .next (s.issue w (lrOp (fB n == 0) [] []) fun s c =>
    let r := c.regs s
    s.lrStart c (r.gr (fN n)) 65536 id fun s k => s.lrSortk c (fD x) (fA x) (r.gr (fN n)) k)

end Sys2Proof.Machine
end

