-- ==== Sys2Proof/Machine/ExecLoop.lean ====
section
/-! DEFINITION. Machine/ExecLoop.lean: the commands of chapter 05 other than the loop steps. -/

namespace Sys2Proof.Machine

/-- LENG_SWTRIG written (R108). -/
def execSoftwareTrigger (req tile ctx : Nat) (s : State) : Out := .next (s.busWrite req (pgLENG tile + 0x4C) 4 ctx)

/-- One selection of the scheduler; `badWord` below 16 names a word that its voted read finds without majority (R117, R126). -/
def execDispatch (tile badWord : Nat) (s : State) : Out := .next (s.dispatch tile badWord)

/-- The vote and commit of the oldest run in a slice's commit stage (R119, R123 to R125). -/
def execRunCommit (tile slice lanes : Nat) (nomaj : Bool) (s : State) : Out := .next (s.runCommit tile slice lanes nomaj)

/-- LENG_SHVn written (R122). -/
def execSharedValueWrite (req tile idx data : Nat) (s : State) : Out :=
  .next (s.busWrite req (pgLENG tile + (F.LENG_SHV_VALUE idx).off) 4 data)

/-- Shared values of a cluster that are due take effect in every copy, and in the IQ of the arms they feed (R122, R373). -/
def execSharedValueApply (cluster : Nat) (s : State) : Out :=
  let due := s.loop.shv.filter fun e => e.1 == cluster && decide (e.2.2.2.1 ≤ s.tick)
  .next (due.foldl (fun s e => s.setIQ cluster false e.2.1 (sgn 32 e.2.2.1)) (s.applyShared cluster))

/-- The scrubber reads a word of the context store of which the copies in `copies` have been upset: one copy is repaired; more
leave no majority (R126). A write of the word in the same tick has left the copies equal. The last word ends a pass. -/
def execContextScrub (tile ctx word copies : Nat) (s : State) : Out :=
  let b := pgCSTO tile
  let s := if popCount copies 3 ≥ 2 ∧ !s.ctxWrittenNow tile ctx word then s.ctxUncorr tile ctx
    else if copies = 0 ∨ s.ctxWrittenNow tile ctx word then s
    else
      ((((s.satF b F.CSTO_SCRUB_CORRECTED).setF b F.CSTO_SCRUB_LAST_LOCAL ctx).setF b F.CSTO_SCRUB_LAST_WORD word).setF b
        F.CSTO_SCRUB_LAST_COPY (copies / 2)).setFlag b F.CSTO_SCRUB_LAST_VALID true
  .next (if ctx = 2047 ∧ word = 15 then s.incF b F.CSTO_SCRUB_PASSES else s)

/-- The scrubber reads a step of the loop-program store (R127): `bad` 0 as it stands, 1 with a single-bit error, which it
repairs, 2 with a double-bit error. With 3 and 4 a single-bit and a double-bit upset happens behind it, which the next reader
finds; a second upset of one step leaves it with a double-bit error. The last step ends a pass. -/
def execProgramScrub (tile stepAddr bad : Nat) (s : State) : Out :=
  let key := 4096 * tile + stepAddr
  let was := SMap.get? s.loop.progBad key
  let upset := fun (e : Nat) => ({ s with loop.progBad := SMap.put s.loop.progBad key e } : State)
  if bad = 3 then .next (match was with
    | none => upset 2
    | some 2 => upset 3
    | _ => s)
  else if 4 ≤ bad then .next (if was = some 1 then s else upset 3)
  else
    let s := match bad with
      | 0 => (s.stepRead tile stepAddr).1
      | 1 => if SMap.getD s.loop.progBad key 2 = 2 then s.stepRepair tile stepAddr else s.stepUncorr tile stepAddr
      | _ => (upset 3).stepUncorr tile stepAddr
    .next (if stepAddr = 4095 then s.incF (pgLPRG tile) F.LPRG_STAT_PASSES else s)

/-- A write in the program window (R49, R113, R132). -/
def execProgramStepWrite (req addr size data : Nat) (s : State) : Out := .next (s.busWrite req addr size data)

/-- A held step write applies once no run has the step in its window (R132). -/
def execHeldStepWriteApply (tile : Nat) (s : State) : Out := .next (s.heldStepApply tile)

end Sys2Proof.Machine
end

