-- ==== Sys2Proof/Machine/ExecMac.lean ====
section
/-! DEFINITION. Machine/ExecMac.lean: multiplication and accumulators (R299, R303). -/

namespace Sys2Proof.Machine

def lamH (w : WOp) : Nat := if hasPfx w p16 then 2 else 3

/-- MUL: under 0xE6 the whole product of the signed halves (R300). -/
def execIMul (w : WOp) (x y : Nat) (s : State) : Out :=
  .next (s.aluXY w x y [p16] false true false false (lamH w) fun _ a b =>
    plain 32 (if hasPfx w p16 then wrap 32 (sgn 16 a * sgn 16 b) else a * b))

def execIMulhs (w : WOp) (x y : Nat) (s : State) : Out :=
  .next (s.aluXY w x y [] false true false false 3 fun _ a b => plain 32 (wrap 64 (sgn 32 a * sgn 32 b) / 2 ^ 32))

def execIMulhu (w : WOp) (x y : Nat) (s : State) : Out :=
  .next (s.aluXY w x y [] false true false false 3 fun _ a b => plain 32 (a * b / 2 ^ 32))

def execIMulq (w : WOp) (x y : Nat) (s : State) : Out :=
  .next (s.aluXY w x y (accArith ++ pRnd) false true true false (lamH w) fun _ a b =>
    mulq (hasPfx w p16) (hasPfx w pNOSAT) (rndOf w 0) a b)

def execIMac (w : WOp) (x y : Nat) (s : State) : Out := .next (s.accumulate w x y fun a p => a + p)

def execIMsu (w : WOp) (x y : Nat) (s : State) : Out := .next (s.accumulate w x y fun a p => a - p)

def execIMpy (w : WOp) (x y : Nat) (s : State) : Out := .next (s.accumulate w x y fun _ p => p)

def execIMovr (w : WOp) (x : Nat) (s : State) : Out :=
  .next (s.issue w { bytes := 1, acc := accArith ++ pRnd, ok := decide (fA x < 4), dests := [fD x], flags := true } fun s c =>
    s.give c false true 3 (fD x) (movr (hasPfx w p16) (hasPfx w pNOSAT) (rndOf w 0) ((c.regs s).ar (fA x))))

def execIMova (w : WOp) (x : Nat) (s : State) : Out :=
  .next (s.toA w { bytes := 1, ok := decide (fA x < 4) } (fD x) fun r => r.ar (fA x))

def execIClra (w : WOp) (x : Nat) (s : State) : Out := .next (s.toA w { bytes := 1, ok := fA x == 0 } (fD x) fun _ => 0)

def execIMta (w : WOp) (x : Nat) (s : State) : Out :=
  .next (s.toA w { bytes := 1, acc := [p16] } (fD x) fun r =>
    if hasPfx w p16 then wrap 72 (2 ^ 48 * sgn 16 (r.gr (fA x))) else wrap 72 (2 ^ 32 * sgn 32 (r.gr (fA x))))

def execIMfag (w : WOp) (x : Nat) (s : State) : Out :=
  .next (s.toG w { bytes := 1, ok := decide (fA x < 4) } (fD x) 3 fun r => wrap 32 (sgn 8 (bits (r.ar (fA x)) 64 8)))

def execIMtag (w : WOp) (x : Nat) (s : State) : Out :=
  .next (s.toA w { bytes := 1 } (fD x) fun r => setBits (r.ar (fD x)) 64 8 (r.gr (fA x)))

def execINorm (w : WOp) (x : Nat) (s : State) : Out :=
  .next (s.toG w { bytes := 1, ok := decide (fA x < 4) } (fD x) 3 fun r => norm (r.ar (fA x)))

end Sys2Proof.Machine
end

