-- ==== Sys2Proof/Machine/DmaRun.lean ====
section
/-! DEFINITION. Machine/DmaRun.lean: the data mover's bursts (R333 to R336). -/

namespace Sys2Proof.Machine

/-- A physical address under a translation. -/
def PageTr.addr (p : PageTr) (va : Nat) : Nat := 2 ^ p.bits * p.ppn + va % 2 ^ p.bits

/-- The translation of a channel's present page: kept until the transfer enters another page (R333). -/
def State.chPage (s : State) (t n va kind : Nat) (kept : Option PageTr) : State × (Nat ⊕ PageTr) :=
  let walk := s.ioTranslate t (s.getF (pgDMAC t n) (F.CH_CTRL_CTX (n % 8))) va kind (s.chRT t n)
  match kept with
  | some p => if va / 2 ^ p.bits = p.vpn then (s, .inr p) else walk
  | none => walk

/-- Bytes of the next burst (R333): at most 256, and across no 256-byte boundary of a side that advances. -/
def burstLen (d : Desc) (src dst resid : Nat) : Nat :=
  let n := min 256 resid
  let n := if d.op = 0 ∧ !d.srcFix then min n (256 - src % 256) else n
  if d.dstFix then n else min n (256 - dst % 256)

/-- The bytes that a burst reads from its source: a FIX source gives whole units of 4 bytes, of which `held` are left from the last one
(R332). -/
def readLen (d : Desc) (n held : Nat) : Nat := if d.op = 0 ∧ d.srcFix then (n - held + 3) / 4 * 4 else n

/-- The bytes that a burst writes of those it has: to a FIX destination whole units of 4 bytes (R332). -/
def writeLen (d : Desc) (n have_ : Nat) : Nat := if d.dstFix then have_ / 4 * 4 else min n have_

/-- Whether the 4-byte rule of FIX sides holds (R332). -/
def fixOk (d : Desc) (src dst : Nat) : Bool :=
  (!(d.srcFix && d.op == 0) || (src % 4 == 0 && d.len % 4 == 0)) && (!d.dstFix || (dst % 4 == 0 && d.len % 4 == 0))

/-- What a mover's access to memory meets before the bank: an error that the decoder records (R37, R315, R389). -/
def State.moverBar (s : State) (a : Access) : Option State :=
  let tg := target s.phys a.addr
  if !s.targetOn tg then some (s.refuse a causeNO_PAGE).1
  else if privileged tg a then some (s.refuse a causePRIV).1
  else if s.roleRefuses tg a then some (s.refuse a causeROLE).1
  else none

/-- A word read by the mover outside memory. -/
def State.moverWord (s : State) (req addr : Nat) : State × Option Nat :=
  match s.busAccess ⟨req, addr, 4, false, 0⟩ with
  | (s, some r) => (s, if r.err then none else some r.data)
  | (s, none) => (s, none)

/-- The source of a burst is read: its bytes, or an error code of R340. A FIX source is read in units of 4 bytes (R332). -/
def State.burstRead (s : State) (t : Nat) (d : Desc) (done a n : Nat) : State × (Nat ⊕ List Byte) :=
  let req := reqDma t
  if d.op = 1 then (s, .inr ((List.range n).map fun i => BitVec.ofNat 8 (d.src / 256 ^ ((done + i) % 4))))
  else if isMemory a then
    match s.moverBar ⟨req, a, 4, false, 0⟩ with
    | some s => (s, .inl 5)
    | none =>
      let w := if d.srcFix then 4 else n
      if s.ueIn a w then (s.countIn a w, .inl 4)
      else
        let bs := Memory.readN s.mem a w
        (s, .inr (if d.srcFix then (List.range n).map fun i => bs.getD (i % 4) 0 else bs))
  else if a % 4 ≠ 0 ∨ n % 4 ≠ 0 then (s, .inl 5)
  else
    (List.range (n / 4)).foldl (fun (r : State × (Nat ⊕ List Byte)) i =>
      match r.2 with
      | .inl c => (r.1, .inl c)
      | .inr bs =>
        let q := r.1.moverWord req (if d.srcFix then a else a + 4 * i)
        (q.1, match q.2 with
          | some v => .inr (bs ++ toBytes v 4)
          | none => .inl 5)) (s, .inr [])

/-- The channel that the mover picks (R333): a real-time one first, then by PRI, then in rotation. -/
def State.moverPick (s : State) (t : Nat) : Option Nat :=
  let last := (s.io t).lastPick
  let ready := ((List.range 32).map fun i => (last + 1 + i) % 32).filter fun n =>
    s.chState t n == 1 && (s.chan t n).burst.isNone && (s.chan t n).desc.isSome && !s.dmaHeld t n
  let rank := fun (n : Nat) => if s.chRT t n then 4 else s.getF (pgDMAC t n) (F.CH_CTRL_PRI (n % 8))
  ready.foldl (fun (b : Option Nat) n =>
    match b with
    | none => some n
    | some m => if rank n > rank m then some n else b) none

/-- The burst of a channel: translated and read (R333, R335, R336). Bytes that an earlier burst read and that no burst has written stay
with the channel, where a side is FIX. It waits for a frozen memory (R321). -/
def State.burstGo (s : State) (t n : Nat) (d : Desc) : State :=
  let b := pgDMAC t n
  let m := n % 8
  let dst := s.getF b (F.CH_DST_DST m)
  let ahead := if d.srcFix then 0 else (s.chan t n).carry.length
  let src := s.getF b (F.CH_SRC_SRC m) + ahead
  let resid := s.getF b (F.CH_RESID_RESID m)
  let ctx := s.getF b (F.CH_CTRL_CTX m)
  let s := s.setIo t { s.io t with lastPick := n }
  if !fixOk d src dst then s.chEnd t n 3 6
  else if (d.op = 0 ∧ s.ioWaits t ctx src (s.chRT t n)) ∨ s.ioWaits t ctx dst (s.chRT t n) then s
  else
    let len := burstLen d src dst (resid - ahead)
    let x := s.chan t n
    let stop := fun (s : State) (c va : Nat) => if s.chRT t n then s.chEnd t n 3 5 else s.chFault t n c va
    match (if d.op = 1 then (s, .inr ⟨0, 0, 0⟩) else s.chPage t n src 1 x.srcPg) with
    | (s, .inl c) => stop s c src
    | (s, .inr sp) =>
      match s.chPage t n dst 2 x.dstPg with
      | (s, .inl c) => stop s c dst
      | (s, .inr dp) =>
        let x := s.chan t n
        let s := s.setChan t n { x with srcPg := if d.op = 1 then none else some sp, dstPg := some dp }
        let a := sp.addr src
        if d.op = 0 ∧ s.stillHeld ⟨reqDma t, a, 4, false, 0⟩ then s
        else match s.burstRead t d (d.len - resid) a (readLen d len x.carry.length) with
          | (s, .inl c) => s.chEnd t n 3 c
          | (s, .inr bs) =>
            let all := x.carry ++ bs
            let k := writeLen d len all.length
            s.setChan t n { s.chan t n with carry := all.drop k, burst := some ⟨dp.addr dst, k, all.take k, 0⟩ }

/-- The mover issues a burst, with a free slot of its four (R333, R341). -/
def State.burstIssue (s : State) (t : Nat) : State :=
  let flying := ((List.range 32).filter fun n => (s.chan t n).burst.isSome).length
  if 4 ≤ flying ∨ s.isleStopped (2 * t) ∨ s.gateShut t then s
  else match s.moverPick t with
    | none => s
    | some n => match (s.chan t n).desc with
      | some d => s.burstGo t n d
      | none => s

/-- The destination of a burst is written: the bytes of writes that completed, and whether an error ended it. A burst to memory is stored
whole or not at all: an uncorrectable word that it covers in part keeps it out (R314, R334). -/
def State.burstWrite (s : State) (t : Nat) (fix : Bool) (u : Burst) : State × Nat × Bool :=
  let req := reqDma t
  if isMemory u.dst then
    match s.moverBar ⟨req, u.dst, 4, true, 0⟩ with
    | some s => (s, 0, true)
    | none =>
      let r := s.writeWhole u.dst (if fix then u.data.drop (u.n - 4) else u.data)
      if r.2 then (r.1, u.n, false) else (r.1, 0, true)
  else if u.dst % 4 ≠ 0 ∨ u.n % 4 ≠ 0 then (s, 0, true)
  else
    (List.range (u.n / 4)).foldl (fun (r : State × Nat × Bool) i =>
      if r.2.2 then r
      else
        let v := ofBytes ((u.data.drop (4 * i)).take 4)
        let q := r.1.busAccess ⟨req, if fix then u.dst else u.dst + 4 * i, 4, true, v⟩
        match q.2 with
        | some p => if p.err then (q.1, r.2.1, true) else (q.1, r.2.1 + 4, false)
        | none => (q.1, r.2.1 + 4, false)) (s, 0, false)

/-- A burst's write completes (R334, R336): counts, addresses, and the descriptor's end. -/
def State.burstComplete (s : State) (t n : Nat) : State :=
  match (s.chan t n).burst, (s.chan t n).desc with
  | some u, some d =>
    if s.gateShut t then s
    else if s.stillHeld ⟨reqDma t, u.dst, 4, true, 0⟩ then
      (match targetIsland (target s.phys u.dst) with
        | some i => if s.isleStopped i then s.requestWake i else s
        | none => s)
    else
      let b := pgDMAC t n
      let m := n % 8
      let r := s.burstWrite t d.dstFix u
      let k := r.2.1
      let s := (r.1.incF b (F.CH_BYTES_BYTES m) k).setF b (F.CH_RESID_RESID m) (r.1.getF b (F.CH_RESID_RESID m) - k)
      let s := if d.op = 1 ∨ d.srcFix then s else s.incF b (F.CH_SRC_SRC m) k
      let s := if d.dstFix then s else s.incF b (F.CH_DST_DST m) k
      let s := s.setChan t n { s.chan t n with burst := none }
      if r.2.2 then s.chEnd t n 3 5
      else if (s.chan t n).abort then s.chEnd t n 4 0
      else if s.getF b (F.CH_RESID_RESID m) = 0 then s.chEnd t n 1 0
      else s
  | _, _ => s

end Sys2Proof.Machine
end

