-- ==== Sys2Proof/Machine/ExecMem.lean ====
section
/-! DEFINITION. Machine/ExecMem.lean: the commands of chapter 12: memories, the IOMMU, DMA channels, queues and hardware locks.
A command on a register is that register's access by its requester. -/

namespace Sys2Proof.Machine

/-- A step of a memory's scrubber (R313, R314, R317, R318). -/
def execMemoryScrub (addr kind : Nat) (s : State) : Out := .next (s.scrub addr kind)

/-- HBM_SPARE_CMD names a pseudo-channel (R317). -/
def execHbmSpare (req cluster pc : Nat) (s : State) : Out :=
  .next (s.busWrite req (pgHBMC cluster 0 + F.HBM_SPARE_CMD_PC.off) 4 (pc + 2 ^ 31))

/-- The spare's copy ends (R317). -/
def execSpareCopyDone (cluster : Nat) (s : State) : Out := .next (s.spareDone cluster)

/-- An arbiter decides: that of the tile SRAM bank, the cluster SRAM bank or the pseudo-channel of an offset in the memory, or a
register bus (R313, R319 to R321). -/
def execArbiterGrant (kind unit ofs reqs : Nat) (emergency : Bool) (s : State) : Out :=
  .next (s.arbitrate (arbOf kind unit ofs) reqs emergency)

/-- IOMMU_TLBI written (R328). -/
def execIommuTlbi (req tile data : Nat) (s : State) : Out := .next (s.busWrite req (pgIOMMU tile + 0x140) 4 data)

/-- Address of CH_CMD of a channel (R331). -/
def chCmdAddr (tile ch : Nat) : Nat := pgDMAC tile ch + (F.CH_CMD_CMD (ch % 8)).off

/-- CH_CMD = START (R331). -/
def execDmaStart (req tile ch : Nat) (s : State) : Out := .next (s.busWrite req (chCmdAddr tile ch) 4 1)

/-- CH_CMD = RESUME (R331, R335). -/
def execDmaResume (req tile ch : Nat) (s : State) : Out := .next (s.busWrite req (chCmdAddr tile ch) 4 2)

/-- CH_CMD = ABORT (R331). -/
def execDmaAbort (req tile ch : Nat) (s : State) : Out := .next (s.busWrite req (chCmdAddr tile ch) 4 3)

/-- CH_CMD = ARM (R337). -/
def execDmaArm (req tile ch : Nat) (s : State) : Out := .next (s.busWrite req (chCmdAddr tile ch) 4 4)

/-- CH_CMD = DISARM (R331, R337). -/
def execDmaDisarm (req tile ch : Nat) (s : State) : Out := .next (s.busWrite req (chCmdAddr tile ch) 4 5)

/-- A channel starts its descriptor (R332, R338, R339). -/
def execDescriptorStart (tile ch : Nat) (s : State) : Out :=
  .next (if s.dmaHeld tile ch then s else s.descriptorStart tile ch)

/-- The mover issues a burst (R333). -/
def execBurstIssue (tile : Nat) (s : State) : Out := .next (s.burstIssue tile)

/-- A burst's write completes (R334). -/
def execBurstComplete (tile ch : Nat) (s : State) : Out := .next (s.burstComplete tile ch)

/-- QM_CFG written (R342). -/
def execQueueConfig (req tile data : Nat) (s : State) : Out := .next (s.busWrite req (pgQMGR tile 0 + 0x44) 4 data)

/-- QM_SEL written (R342). -/
def execQueueSelect (req tile data : Nat) (s : State) : Out := .next (s.busWrite req (pgQMGR tile 0 + 0x40) 4 data)

/-- QM_PUSH written (R343). -/
def execQueuePush (req tile data : Nat) (s : State) : Out := .next (s.busWrite req (pgQMGR tile 1 + 0x40) 4 data)

/-- QM_POP read (R344). -/
def execQueuePop (req tile : Nat) (s : State) : Out := .next (s.busRead req (pgQMGR tile 1 + 0x4C) 4)

/-- The queue manager scrubs a queue's state. -/
def execQueueStateScrub (tile queue : Nat) (bad : Bool) (s : State) : Out := .next (s.queueScrub tile queue bad)

/-- HLCK_ACQn read (R347). -/
def execLockAcquire (req tile lock : Nat) (s : State) : Out := .next (s.busRead req (pgHLCK tile + 0x100 + 4 * lock) 4)

/-- HLCK_ACQn written (R348). -/
def execLockRelease (req tile lock data : Nat) (s : State) : Out :=
  .next (s.busWrite req (pgHLCK tile + 0x100 + 4 * lock) 4 data)

/-- HLCK_BRKn written with BREAK = 1 (R349). -/
def execLockBreak (req tile lock : Nat) (s : State) : Out := .next (s.busWrite req (pgHLCK tile + 0x300 + 4 * lock) 4 1)

/-- A lock's lease expires (R349). -/
def execLeaseExpiry (tile lock : Nat) (s : State) : Out := .next (s.leaseExpiry tile lock)

end Sys2Proof.Machine
end

