-- ==== Sys2Proof/Machine/ExecMon.lean ====
section
/-! DEFINITION. Machine/ExecMon.lean: the commands of chapter 17: management frames, Derevo sessions and operations, run control,
page freezes and the test access port. -/

namespace Sys2Proof.Machine

/-- A frame at a management port (R456). -/
def execMgmtFrameReceive (port : Nat) (frame : List Byte) (s : State) : Out := .next (s.mgmtFrame port frame)

/-- A HELLO datagram (R457). -/
def execSessionHello (port addr udp : Nat) (datagram : List Byte) (s : State) : Out :=
  .next (s.sessionHello port addr udp datagram)

/-- A PROVE datagram (R457, R458). -/
def execSessionProve (port addr udp : Nat) (datagram : List Byte) (s : State) : Out :=
  .next (s.sessionProve port addr udp datagram)

/-- A handshake is not complete within 1 s (R457). -/
def execHandshakeTimeout (sess : Nat) (s : State) : Out := .next (s.handExpire sess)

/-- A SEALED datagram (R459). -/
def execSealedReceive (port addr udp : Nat) (datagram : List Byte) (s : State) : Out :=
  .next (s.sealedReceive port addr udp datagram)

/-- A session is idle for 10 s (R460). -/
def execSessionTimeout (sess : Nat) (s : State) : Out := .next (s.sessionExpire sess)

/-- Derevo PING, as the inner message of an accepted datagram (R465). -/
def execDerevoPing (sess tag : Nat) (body : List Byte) (s : State) : Out := .next (s.drvRequest sess 0x01 tag body)

/-- Derevo CLOSE (R460, R465). -/
def execDerevoClose (sess tag : Nat) (body : List Byte) (s : State) : Out := .next (s.drvRequest sess 0x02 tag body)

/-- Derevo STATUS (R465). -/
def execDerevoStatus (sess tag : Nat) (body : List Byte) (s : State) : Out := .next (s.drvRequest sess 0x03 tag body)

/-- Derevo HALT (R465, R467). -/
def execDerevoHalt (sess tag : Nat) (body : List Byte) (s : State) : Out := .next (s.drvRequest sess 0x10 tag body)

/-- Derevo RESUME (R465, R467). -/
def execDerevoResume (sess tag : Nat) (body : List Byte) (s : State) : Out := .next (s.drvRequest sess 0x11 tag body)

/-- Derevo STEP (R465, R469). -/
def execDerevoStep (sess tag : Nat) (body : List Byte) (s : State) : Out := .next (s.drvRequest sess 0x12 tag body)

/-- Derevo READ (R466). -/
def execDerevoRead (sess tag : Nat) (body : List Byte) (s : State) : Out := .next (s.drvRequest sess 0x20 tag body)

/-- Derevo WRITE (R461, R466). -/
def execDerevoWrite (sess tag : Nat) (body : List Byte) (s : State) : Out := .next (s.drvRequest sess 0x21 tag body)

/-- Derevo REGRD (R471). -/
def execDerevoRegrd (sess tag : Nat) (body : List Byte) (s : State) : Out := .next (s.drvRequest sess 0x22 tag body)

/-- Derevo REGWR (R461, R471). -/
def execDerevoRegwr (sess tag : Nat) (body : List Byte) (s : State) : Out := .next (s.drvRequest sess 0x23 tag body)

/-- Derevo BPSET (R461, R470). -/
def execDerevoBpset (sess tag : Nat) (body : List Byte) (s : State) : Out := .next (s.drvRequest sess 0x30 tag body)

/-- Derevo SWBP (R461, R465). -/
def execDerevoSwbp (sess tag : Nat) (body : List Byte) (s : State) : Out := .next (s.drvRequest sess 0x31 tag body)

/-- A HALT's 1 ms is over (R465). -/
def execDerevoHaltTimeout (sess : Nat) (s : State) : Out := .next (s.haltTimeout sess)

/-- CORE_DCTL.HALT_REQ written 1 (R467). -/
def execHaltRequest (req pair : Nat) (s : State) : Out := .next (s.busWriteBits req (pgCORE pair + 0x80) 1 1)

/-- CORE_DCTL.RESUME written 1 (R467). -/
def execDebugResume (req pair : Nat) (s : State) : Out := .next (s.busWriteBits req (pgCORE pair + 0x80) 2 2)

/-- CORE_DCTL.STEP written 1 (R469). -/
def execDebugStep (req pair : Nat) (s : State) : Out := .next (s.busWriteBits req (pgCORE pair + 0x80) 4 4)

/-- A pair that has been asked to halt, or met a watched access, enters debug at a boundary (R467, R468, R470). A halt during a
replay waits until it ends. -/
def execDebugEntry (pair : Nat) (s : State) : Out :=
  .next (if !s.pairAlive pair || s.halted pair || !s.atBoundary pair || !(s.pair pair).replay.isEmpty then s
    else match (s.pair pair).dbgDue with
      | some (a, k, w) => s.enterDebug pair 3 (some a) k w
      | none => if s.flag (pgCORE pair) F.CORE_DCTL_HALT_REQ then s.enterDebug pair 1 else s)

/-- A page freezes (R474). -/
def execFreezeBegin (page : Nat) (s : State) : Out := .next (s.freezeBegin page)

/-- A page's freeze ends (R474). -/
def execFreezeEnd (page : Nat) (s : State) : Out := .next (s.freezeEnd page)

/-- A PRP supervision frame (R456). -/
def execPrpSupervisionFrame (s : State) : Out := .next s.prpSupervise

/-- TAP instruction BYPASS (R476). -/
def execTapBypass (s : State) : Out := .next (s.tapSelect 0xFF s.tap.boundary 0)

/-- TAP instruction IDCODE (R476). -/
def execTapIdcode (s : State) : Out := .next (s.tapSelect 1 s.tap.boundary 0)

/-- TAP instruction SAMPLE/PRELOAD: the pads are sampled, then the boundary register is loaded (R476). -/
def execTapSamplePreload (pads preload : Nat) (s : State) : Out :=
  .next ({ s with tap.sample := pads }.tapSelect 2 preload 0)

/-- TAP instruction EXTEST (R476). -/
def execTapExtest (preload : Nat) (s : State) : Out := .next (s.tapSelect 3 preload 1)

/-- TAP instruction CLAMP (R476). -/
def execTapClamp (s : State) : Out := .next (s.tapSelect 4 s.tap.boundary 1)

/-- TAP instruction HIGHZ (R476). -/
def execTapHighz (s : State) : Out := .next (s.tapSelect 5 s.tap.boundary 2)

/-- A TAP reset (R476): IDCODE is selected. -/
def execTapReset (s : State) : Out := .next { s with tap := { s.tap with ir := 1, driving := 0 } }

end Sys2Proof.Machine
end

