-- ==== Sys2Proof/Machine/ExecMov.lean ====
section
/-! DEFINITION. Machine/ExecMov.lean: moves, flags and loop control (R303, R306, R311). -/

namespace Sys2Proof.Machine

/-- FEAT0 to FEAT7 (R311). -/
def featOf (n : Nat) : Nat :=
  match n with
  | 0 => 0x007F0100
  | 1 => 0x00382321
  | 2 => 20 + 18 * 2 ^ 8 + 10 * 2 ^ 16 + 16 * 2 ^ 24
  | 3 => 12 + 16 * 2 ^ 8
  | _ => 0

def execINop (w : WOp) (s : State) : Out := .next (s.issue w { bytes := 0 } fun s _ => (s, .next))

def execIMov (w : WOp) (x : Nat) (s : State) : Out := .next (s.toG w { bytes := 1 } (fD x) 1 fun r => r.gr (fA x))

def execIMovi (w : WOp) (x imm : Nat) (s : State) : Out :=
  .next (s.toG w { bytes := 1 + immLen w, acc := [pLONG], ok := fA x == 0 } (fD x) 1 fun _ => immOf w imm)

def execIMovl (w : WOp) (x : Nat) (s : State) : Out :=
  .next (s.issue w { bytes := 1, ok := decide (fA x < 8), dests := [fD x] } fun s c =>
    if s.lBusy c.p (fA x) then (s, .frozen false) else (s.wr c 1 (fD x) ((c.regs s).lrg (fA x)), .next))

/-- The L register is written while no long operation on it is pending (R267). -/
def execIMtl (w : WOp) (x : Nat) (s : State) : Out :=
  .next (s.issue w { bytes := 1, ok := decide (fD x < 8), dests := [20 + fD x] } fun s c =>
    if s.lBusy c.p (fD x) then (s, .frozen false)
    else (s.updR c.p fun r => { r with l := r.l.set (fD x) (r.gr (fA x)) }, .next))

def execIMvfl (w : WOp) (x : Nat) (s : State) : Out :=
  .next (s.toG w { bytes := 1, ok := fA x == 0 } (fD x) 1 fun r => bits r.psw 16 5)

def execIMtfl (w : WOp) (x : Nat) (s : State) : Out :=
  .next (s.issue w { bytes := 1, ok := fD x == 0, flags := true } fun s c =>
    let v := (c.regs s).gr (fA x)
    ((s.wr c 1 24 (bits v 0 4)).wr c 1 26 (bits v 4 1), .next))

def execIClrsat (w : WOp) (s : State) : Out := .next (s.issue w { bytes := 0 } fun s c => (s.wr c 1 26 0, .next))

def execISel (w : WOp) (x y cc : Nat) (s : State) : Out :=
  .next (s.issue w { bytes := 3, ok := yOk true y && decide (cc < 14), dests := [fD x] } fun s c =>
    if s.waitB c y then (s, .frozen false)
    else
      let r := c.regs s
      (s.wr c 1 (fD x) (if holds r.psw cc then r.gr (fA x) else r.srcB y), .next))

def execIRdfeat (w : WOp) (x k : Nat) (s : State) : Out :=
  .next (s.toG w { bytes := 2, ok := fA x == 0 && decide (k < 8) } (fD x) 1 fun _ => featOf k)

def execILoop (w : WOp) (x disp : Nat) (s : State) : Out :=
  .next (s.issue w (loopOp w (fD x == 0)) fun s c => s.startLoop w c disp ((c.regs s).gr (fA x)))

def execILoopi (w : WOp) (k disp : Nat) (s : State) : Out :=
  .next (s.issue w (loopOp w (decide (1 ≤ k) && decide (k < 256))) fun s c => s.startLoop w c disp k)

/-- For MFLC and BLC1 at distance 1, for the loop end at distance 4 (R304). -/
def execIMtlc (w : WOp) (x k : Nat) (s : State) : Out :=
  .next (s.issue w { bytes := 2, ok := fD x == 0 && decide (k < 2), dests := [28 + k] } fun s c =>
    let v := (c.regs s).gr (fA x)
    (if k = 0 then (s.wr c 1 27 v).wr c 4 28 v else s.wr c 1 29 v, .next))

def execIMflc (w : WOp) (x k : Nat) (s : State) : Out :=
  .next (s.toG w { bytes := 2, ok := fA x == 0 && decide (k < 2) } (fD x) 1 fun r => if k = 0 then r.lc0 else r.lc1)

end Sys2Proof.Machine
end

