-- ==== Sys2Proof/Machine/ExecPwr.lean ====
section
/-! DEFINITION. Machine/ExecPwr.lean: the commands of chapter 14: feeds, power domains, references, PLLs, islands and resets,
and the temperature sensors of R491. -/

namespace Sys2Proof.Machine

/-- A feed leaves its window (R381). -/
def execFeedCrossing (feed : Nat) (ovr : Bool) (s : State) : Out := .next (s.feedCrossing feed ovr)

/-- A feed has been in its window for 1 ms (R380). -/
def execFeedInRegulation (feed : Nat) (s : State) : Out := .next (s.feedRegulation feed)

/-- The return to FEED_A (R384). -/
def execFeedReturn (s : State) : Out := .next s.feedReturn

/-- KEEL_FEED_CMD written (R383). -/
def execFeedCommand (req data : Nat) (s : State) : Out := .next (s.busWrite req (pgKEEL + F.FEED_CMD_GO.off) 4 data)

/-- The internal node falls below 1.50 V (R385). -/
def execBrownOut (s : State) : Out := .next s.brownOut

/-- A regulator phase fails (R386). -/
def execPhaseFail (s : State) : Out := .next s.phaseFail

/-- A feed of a VANA or VIO supply is lost (R387). -/
def execAuxFeedLoss (k : Nat) (s : State) : Out := .next (s.auxLoss k)

/-- PWRD_CMD written (R389, R390). -/
def execPowerDomainCommand (req data : Nat) (s : State) : Out :=
  .next (s.busWrite req (pgPWRD + F.PWRD_CMD_GO.off) 4 data)

/-- A domain that was switched on is ready (R389). -/
def execDomainReady (s : State) : Out := .next s.domainReady

/-- The selected reference becomes invalid (R395, R396). -/
def execRefclkLoss (s : State) : Out := .next s.refLoss

/-- A reference becomes valid after holdover (R396). -/
def execRefclkRecover (ref : Nat) (s : State) : Out := .next (s.refRecover ref)

/-- CLKG_REF_CMD written (R397). -/
def execRefclkCommand (req data : Nat) (s : State) : Out := .next (s.busWrite req (pgCLKG + F.REF_CMD_GO.off) 4 data)

/-- The selector returns to PREF (R397). -/
def execRefclkRevert (s : State) : Out := .next s.refRevert

/-- A PLL fails (R398). -/
def execPllFailure (pll : Nat) (s : State) : Out := .next (s.pllFailure pll)

/-- The spare PLL locks (R398); accesses that waited for its islands go on (R400). -/
def execSparePllLocked (s : State) : Out := .next s.spareLocked.replayHeld

/-- The core island of a tile falls asleep (R399). -/
def execCoreIslandSleep (tile : Nat) (s : State) : Out := .next (s.coreSleep tile)

/-- The core island of a tile wakes (R399, R400). -/
def execCoreIslandWake (tile : Nat) (s : State) : Out := .next (s.coreWake tile).replayHeld

/-- RSTC_CMD written (R401). -/
def execResetCommand (req data : Nat) (s : State) : Out := .next (s.busWrite req (pgRSTC + F.RSTC_CMD_GO.off) 4 data)

/-- RESET_N is held low for `ns` nanoseconds (R404). -/
def execResetNAssert (ns : Nat) (s : State) : Out := .next (s.resetAssert ns)

/-- RESET_N rises (R403). -/
def execResetNRelease (s : State) : Out := .next s.resetRelease

/-- The power-on reset after a brown-out (R385). -/
def execPowerOnReset (s : State) : Out := .next s.porAfterBrown

/-- A feed enters its window (R380). -/
def execFeedWindowEntry (feed : Nat) (s : State) : Out := .next (s.feedEntry feed)

/-- The reference that is not selected changes its validity (R394). -/
def execRefclkValidityChange (ref : Nat) (valid : Bool) (s : State) : Out := .next (s.refChange ref valid)

/-- A feed of a VANA or VIO supply returns (R387). -/
def execAuxFeedReturn (k : Nat) (s : State) : Out := .next (s.setFlag pgKEEL (F.auxOk k) true)

/-- A cluster island falls asleep (R392). -/
def execClusterIslandSleep (cluster k : Nat) (s : State) : Out := .next (s.clusterSleep cluster k)

/-- A cluster island wakes (R238, R400). -/
def execClusterIslandWake (cluster k : Nat) (s : State) : Out := .next (s.clusterWake cluster k).replayHeld

/-- The temperature sensors are read (R491). -/
def execTjUpdate (temps : List Int) (s : State) : Out := .next (s.tjUpdate temps)

end Sys2Proof.Machine
end

