-- ==== Sys2Proof/Machine/ExecRing.lean ====
section
/-! DEFINITION. Machine/ExecRing.lean: the commands of chapter 07: ring transmitters and receivers, and cell nodes. What
arrives is an operand: the blocks as they stand on the line, each a sync header and a payload (R171 to R178).
Directions: 0 CW, 1 CCW. -/

namespace Sys2Proof.Machine

/-- A lane loses block lock: of a ring, of the group link or of a management port, by `kind` (R171, R195). -/
def execLaneLockLoss (kind group lane : Nat) (s : State) : Out :=
  .next (match kind with
    | 0 => s.laneLoss (32 * group + lane)
    | 1 => if lane < 8 then s.setPeer lane { s.peer lane with lock := none } else s
    | _ => if lane < 2 then s.setFlag (pgMGMT lane) F.MGMT_STAT_LINK false else s)

/-- SERD_LCTRLn.RST written 1 (R195). -/
def execLaneReset (req lane : Nat) (s : State) : Out :=
  .next (s.busWriteBits req (pgSERD lane + (F.SERD_LCTRL_RST (lane % 32)).off) 1 1)

/-- A MEAS frame at a receiver (R182). -/
def execMeasReceive (ring dir : Nat) (sof : LineBlock) (blocks : List LineBlock) (eof : LineBlock) (more : List LineBlock) (s : State) : Out :=
  .next (s.receiveAs ring dir (lineOf sof blocks eof more) 2 fun s f => s.takeMeas ring f)

/-- An MRSP frame at a receiver (R184). -/
def execMrspReceive (ring dir : Nat) (sof : LineBlock) (blocks : List LineBlock) (eof : LineBlock) (more : List LineBlock) (s : State) : Out :=
  .next (s.receiveAs ring dir (lineOf sof blocks eof more) 4 fun s f => s.takeMrsp ring f)

/-- An ECHOR frame at a receiver, its SOF `frac` fractions into the tick (R187). -/
def execEchorReceive (ring dir : Nat) (sof : LineBlock) (blocks : List LineBlock) (eof : LineBlock) (more : List LineBlock) (frac : Nat) (s : State) : Out :=
  .next (s.receiveAs ring dir (lineOf sof blocks eof more) 7 fun s f => s.takeEchor ring (1 - dir) frac f)

/-- An ENUM frame that returns (R188). -/
def execEnumReturn (ring dir : Nat) (sof : LineBlock) (blocks : List LineBlock) (eof : LineBlock) (more : List LineBlock) (s : State) : Out :=
  .next (s.receiveAs ring dir (lineOf sof blocks eof more) 8 fun s f => s.takeEnum ring f)

/-- A STATUS block at a receiver (R191). -/
def execBrkStatusReceive (ring dir : Nat) (line : List LineBlock) (s : State) : Out :=
  .next (s.receiveAs ring dir line 0 fun s _ => s)

/-- 10 us without a BRK status block (R191). -/
def execBrkReportTimeout (ring dir : Nat) (s : State) : Out := .next (s.brkTimeout ring dir)

/-- A transmitter starts its next frame (R180). -/
def execFrameTransmit (ring dir : Nat) (s : State) : Out := .next (s.transmit ring dir)

/-- A block command is sent again (R180). -/
def execBlockCommandRepeat (ring : Nat) (s : State) : Out := .next (s.blockAgain ring)

/-- RING_MREQ written: the low half, the high half, or both (R184). -/
def execMreqEnqueue (req ring : Nat) (hi : Bool) (size data : Nat) (s : State) : Out :=
  .next (s.busWrite req (pgRING ring + 0x78 + (if hi then 4 else 0)) size data)

/-- The next management request that has a credit is issued (R184). -/
def execMreqIssue (ring : Nat) (s : State) : Out := .next (s.mreqIssue ring)

/-- MGMT_TMO without an MRSP (R184). -/
def execMreqTimeout (ring : Nat) (s : State) : Out := .next (s.mreqTimeout ring)

/-- RING_MRSP read (R184). -/
def execMrspRead (req ring : Nat) (s : State) : Out := .next (s.busRead req (pgRING ring + 0x80) 8)

/-- TIME frames leave in both directions every TIME_PER us (R185). -/
def execTimeFrameSend (ring : Nat) (s : State) : Out := .next (s.sendTime ring)

/-- CAL written 1 (R187). -/
def execCalibration (req ring : Nat) (s : State) : Out := .next (s.busWriteBits req (pgRING ring + 0x40) 0x70 0x10)

/-- Calibration finishes (R187). -/
def execCalibrationDone (ring : Nat) (s : State) : Out := .next (s.calDone ring)

/-- ENUM written 1, with FORCE (R188). -/
def execEnumeration (req ring : Nat) (force : Bool) (s : State) : Out :=
  .next (s.busWriteBits req (pgRING ring + 0x40) 0x70 (0x20 + 0x40 * force.toNat))

/-- LOSS_TMO without a valid up frame of an UP position (R193). -/
def execPositionLost (ring pos : Nat) (s : State) : Out := .next (s.posLost ring pos)

/-- The automatic ENUM of every millisecond (R194). -/
def execAutoJoinEnum (ring : Nat) (s : State) : Out := .next (s.autoEnum ring)

/-- A join has done all of R194 and the position becomes UP. -/
def execJoinComplete (ring pos : Nat) (s : State) : Out := .next (s.joinDone ring pos)

/-- A node sends a frame on its way (R170, R186, R196). -/
def execNodeForward (ring place dir : Nat) (sof : LineBlock) (blocks : List LineBlock) (eof : LineBlock) (held : Nat) (s : State) : Out :=
  .next (s.nodeForward (32 * ring + place) dir (lineOf sof blocks eof) held)

/-- An edge set at the node it names (R197). -/
def execNodeEdgeSetReceive (ring place : Nat) (sof : LineBlock) (blocks : List LineBlock) (eof : LineBlock) (s : State) : Out :=
  .next (s.nodeTake (32 * ring + place) (lineOf sof blocks eof) 1 fun s f => s.nodeSet (32 * ring + place) f)

/-- An entry's instant has come (R197). -/
def execNodeEntryApply (ring place leg : Nat) (s : State) : Out := .next (s.nodeEntry (32 * ring + place) leg)

/-- A leg's period ends (R197, R198). -/
def execNodePeriodEnd (ring place leg : Nat) (s : State) : Out := .next (s.nodePeriodEnd (32 * ring + place) leg)

/-- A block command at the node it names (R199). -/
def execNodeBlockCommand (ring place : Nat) (sof : LineBlock) (blocks : List LineBlock) (eof : LineBlock) (s : State) : Out :=
  .next (s.nodeTake (32 * ring + place) (lineOf sof blocks eof) 1 fun s f => s.nodeBlock (32 * ring + place) f)

/-- LOL_TMO without block lock on both ports (R199). -/
def execNodeLossOfLink (ring place : Nat) (s : State) : Out := .next (s.nodeLossOfLink (32 * ring + place))

/-- A TIME frame at a node, its SOF `frac` fractions into the tick (R185). -/
def execNodeTimeFrame (ring place dir : Nat) (sof : LineBlock) (blocks : List LineBlock) (eof : LineBlock) (frac : Nat) (s : State) : Out :=
  .next (s.nodeTake (32 * ring + place) (lineOf sof blocks eof) 5 fun s f => s.nodeTime (32 * ring + place) dir frac f)

/-- 1 ms without a valid TIME frame (R196). -/
def execNodeTimeOkTimeout (ring place : Nat) (s : State) : Out := .next (s.nodeTimeOut (32 * ring + place))

/-- An ECHO at the node it names, answered `turn` fractions after its arrival (R187). -/
def execNodeEcho (ring place dir : Nat) (sof : LineBlock) (blocks : List LineBlock) (eof : LineBlock) (turn : Nat) (s : State) : Out :=
  .next (s.nodeTake (32 * ring + place) (lineOf sof blocks eof) 6 fun s f => s.nodeEcho (32 * ring + place) dir turn f)

/-- An ENUM frame at a node (R188). -/
def execNodeEnum (ring place dir : Nat) (sof : LineBlock) (blocks : List LineBlock) (eof : LineBlock) (s : State) : Out :=
  .next (s.nodeEnum (32 * ring + place) dir (lineOf sof blocks eof))

/-- An MREQ at the node it names (R200). -/
def execNodeMreq (ring place : Nat) (sof : LineBlock) (blocks : List LineBlock) (eof : LineBlock) (s : State) : Out :=
  .next (s.nodeTake (32 * ring + place) (lineOf sof blocks eof) 3 fun s f => s.nodeMreq (32 * ring + place) f)

/-- A measurement instant of a node, with the words sampled (R200). -/
def execNodeMeasSample (ring place : Nat) (words : List Nat) (s : State) : Out :=
  .next (s.nodeSample (32 * ring + place) words)

/-- 50 us without a MEAS frame of the node (R200). -/
def execNodeHeartbeat (ring place : Nat) (words : List Nat) (s : State) : Out :=
  .next (s.nodeHeartbeat (32 * ring + place) words)

/-- A lane gains block lock: of a ring, of the group link or of a management port, by `kind` (R171, R191, R437). -/
def execBlockLockGain (kind lane : Nat) (s : State) : Out :=
  .next (match kind with
    | 0 => s.laneGain lane
    | 1 => if lane < 8 then s.grpLaneLock lane else s
    | _ => if lane < 2 then s.setFlag (pgMGMT lane) F.MGMT_STAT_LINK true else s)

/-- A port of a node loses or gains block lock (R191, R199). -/
def execNodeBlockLockChange (ring place port : Nat) (lock : Bool) (s : State) : Out :=
  .next (s.nodeLock (32 * ring + place) port lock)

/-- A node's own protection acts, or its cause has cleared (R199). -/
def execNodeProtection (ring place : Nat) (acts : Bool) (s : State) : Out :=
  .next (s.nodeProtect (32 * ring + place) acts)

end Sys2Proof.Machine
end

