-- ==== Sys2Proof/Machine/ExecSamp.lean ====
section
/-! DEFINITION. Machine/ExecSamp.lean: the commands of chapter 04. -/

namespace Sys2Proof.Machine

/-- AFE_REF_CTRL written (R81). -/
def execRefSelWrite (req cluster data : Nat) (s : State) : Out := .next (s.busWrite req (pgAFE cluster + 0x40) 4 data)

/-- Settling ends at a voltage: inside the window REF_READY rises, outside it that is one departure (R80). -/
def execRefSettled (cluster nv : Nat) (s : State) : Out :=
  let b := pgAFE cluster
  .next ((match (SMap.getD s.samp.refs cluster {}).settle with
    | some t =>
      if t ≤ s.tick then
        if s.refInside cluster nv then
          ((s.refTo cluster ⟨none, nv⟩).setFlag b F.AFE_REF_STAT_REF_READY true).pulse b 0
        else s.refDeparture cluster nv
      else s
    | none => s).fcstAbort cluster)

/-- The reference, settled, moves to a voltage: outside its window that is a departure (R80, R93). -/
def execRefFault (ref : RefAt) (s : State) : Out :=
  .next ((if s.flag (pgAFE ref.cluster) F.AFE_REF_STAT_REF_READY then
    (if s.refInside ref.cluster ref.nv then s.refTo ref.cluster ⟨none, ref.nv⟩
     else s.refDeparture ref.cluster ref.nv)
  else s).fcstAbort ref.cluster)

/-- ADC_CTRL written (R87). -/
def execAdcCtrlWrite (req conv data : Nat) (s : State) : Out := .next (s.busWrite req (pgADC conv + 0x40) 4 data)

/-- A converter's power-up of 2 us ends (R88). -/
def execAdcPowered (conv : Nat) (s : State) : Out :=
  .next (match (s.adc conv).powerAt with
    | some t =>
      if t ≤ s.tick then
        (s.setAdc conv { s.adc conv with powerAt := none }).setFlag (pgADC conv) F.ADC_STAT_POWERED true
      else s
    | none => s)

/-- ADC_START written: the low half, the high half, or both (R85). -/
def execAdcStartWrite (req conv : Nat) (hi : Bool) (size data : Nat) (s : State) : Out :=
  .next (s.busWrite req (pgADC conv + F.ADC_START_START.off + (if hi then 4 else 0)) size data)

/-- An event at a converter's start input (R84, R88). -/
def execAdcStartEvent (conv : Nat) (s : State) : Out := .next (s.adcEvent conv)

/-- A TIME instant comes due (R85, R88). -/
def execAdcTimeInstant (conv : Nat) (s : State) : Out := .next (s.timeInstant conv)

/-- A conversion of the voltage `vin` completes (R91, R496); `dev` is the converter's departure from the ideal transfer. -/
def execConversionDone (conv : Nat) (x : AdcIn) (s : State) : Out := .next (s.convDone conv x.vin x.dev)

/-- The oldest sample record of a cluster reaches its tiles (R92). -/
def execSampleDelivery (cluster : Nat) (s : State) : Out := .next (s.sampleDelivery cluster)

/-- A read of ADC_RESn (R94). -/
def execAdcResultRead (req conv ch : Nat) (s : State) : Out :=
  .next (s.busRead req (pgADC conv + (F.ADC_RES_RESULT ch).off) 4)

/-- CMP_CTRL of a comparator written (R99). -/
def execCmpEnWrite (req cmp data : Nat) (s : State) : Out :=
  .next (s.busWrite req (pgCMPR cmp + (F.CMP_CTRL_EN (cmp % 4)).off) 4 data)

/-- One microsecond after EN the paths are active (R99). -/
def execComparatorReady (cmp : Nat) (s : State) : Out := .next ((s.cmpReady cmp).fcstAbort (cmp / 16))

/-- THR_SH written (R98). -/
def execThresholdWrite (req cmp data : Nat) (s : State) : Out :=
  .next (s.busWrite req (pgCMPR cmp + (F.CMP_THR_THR_SH (cmp % 4)).off) 4 data)

/-- An event at a comparator's threshold-load input (R98). -/
def execThresholdLoadEvent (cmp : Nat) (s : State) : Out :=
  .next (match s.headTok (lathClu (cmp / 16)) (144 + cmp % 16) with
    | some _ => ((s.tookOne (lathClu (cmp / 16)) (144 + cmp % 16)).thrLoad cmp).fcstAbort (cmp / 16)
    | none => s)

/-- A comparator's event path accepts an activation (R100). -/
def execComparatorActivation (cmp : Nat) (s : State) : Out := .next (s.pathActive (cmp / 16) (cmp % 16))

/-- A TRIP input's event path accepts an activation (R160). -/
def execTripActivation (trip : Nat) (s : State) : Out := .next (s.pathActive (trip / 16) (16 + trip % 16))

/-- An accepted edge of a CAPIN input (R101). -/
def execCapture (capin : Nat) (level : Bool) (s : State) : Out := .next (s.capture capin level)

/-- A read of CAP_DATA (R103). -/
def execCaptureFifoRead (req capin size : Nat) (s : State) : Out :=
  .next (s.busRead req (pgCAPT (capin / 16) + (F.CAP_DATA_DATA (capin % 16)).off) size)

/-- The reference returns to a voltage within its window and settles again (R80). -/
def execRefWindowReturn (ref : RefAt) (s : State) : Out :=
  .next (if (SMap.getD s.samp.refs ref.cluster {}).settle.isNone && !s.flag (pgAFE ref.cluster) F.AFE_REF_STAT_REF_READY &&
      s.refInside ref.cluster ref.nv then (s.refSettleAt ref.cluster ref.nv).fcstAbort ref.cluster else s)

/-- A comparator's or TRIP input's event path accepts the inactive level (R100). -/
def execEventPathDeactivation (cluster src : Nat) (s : State) : Out := .next (s.pathInactive cluster src)

end Sys2Proof.Machine
end

