-- ==== Sys2Proof/Machine/ExecStep.lean ====
section
/-! DEFINITION. Machine/ExecStep.lean: the loop steps (R113 to R116). A command is the execution of the next step of a slice's
run, where that step is of the command's type. -/

namespace Sys2Proof.Machine

/-- A result from V[A] and V[B] as Q31 values, before saturation or wrapping (R114). -/
def State.stepSum (s : State) (t k op : Nat) (f : Int → Int → Int) : State :=
  s.runStep t k op fun r w => (r.put (stD w) (q31 (stNOSAT w) (f (r.sreg (stA w)) (r.sreg (stB w))))).next

/-- A result that needs no saturation. -/
def State.stepPlain (s : State) (t k op : Nat) (f : Run → Nat → Nat) : State :=
  s.runStep t k op fun r w => (r.setV (stD w) (f r w)).next

/-- Whether the condition of a BR holds (R113). -/
def Run.cond (r : Run) (c : Nat) : Bool :=
  let f := match c / 2 with
    | 0 => r.z
    | 1 => r.n
    | 2 => r.limf
    | _ => r.stale
  if c % 2 = 0 then f else !f

/-- What the run knows of a generator of its tile since its dispatch: PER, period number, counter. -/
def Run.genNow (r : Run) (g : Nat) : Nat × Nat × Nat :=
  match r.gens.find? fun x => x.1 == g with
  | some x => x.2
  | none => (0, 0, 0)

/-- V[A] clamped to two limits (R114): LIMF where it changes or where the low limit is above the high one. -/
def Run.clampTo (r : Run) (d : Nat) (x lo hi : Int) : Run :=
  if lo > hi ∨ x < lo then r.limit d lo true else if x > hi then r.limit d hi true else r.limit d x false

/-- A product of two V registers times 2^SH, exact. -/
def Run.product (r : Run) (w : Nat) : Int := r.sreg (stA w) * r.sreg (stB w) * 2 ^ stSH w

/-- PI (R115). -/
def Run.pi (r : Run) (w : Nat) : Run :=
  let e := r.sreg (stA w)
  let k := bits (stIMM w) 0 3
  let vl := r.sreg (bits (stIMM w) 4 3)
  let lim : Int := if vl = -(2 ^ 31) then 2 ^ 31 - 1 else if vl < 0 then -vl else vl
  let a := stRnd w (r.sreg (stB w + 1) * e * 2 ^ stSH w)
  let i := r.st k + a.1
  let ovr := decide (i > lim) || decide (i < -lim)
  let i := if i > lim then lim else if i < -lim then -lim else i
  let b := stRnd w (r.sreg (stB w) * e * 2 ^ stSH w)
  let y := b.1 + i
  let r := (((r.setSt k i).orSat (vl == -(2 ^ 31))).orSat a.2).orSat b.2
  let r := r.put (stD w) (satS 32 y, ovfS 32 y)
  { r with limf := ovr, lim := r.lim || ovr }

/-- FIL1 (R115). -/
def Run.fil1 (r : Run) (w : Nat) : Run :=
  let k := bits (stIMM w) 0 3
  let a := stRnd w (r.sreg (stB w) * (r.sreg (stA w) - r.st k))
  let y := r.st k + a.1
  ((r.setSt k (satS 32 y)).orSat a.2).put (stD w) (satS 32 y, ovfS 32 y)

/-- RES (R115). -/
def Run.res (r : Run) (w : Nat) : Run :=
  let k := bits (stIMM w) 0 3
  let a := stRnd w (2 * r.sreg (stB w) * r.st k)
  let b := stRnd w (r.sreg (stB w + 1) * r.sreg (stA w) * 2 ^ stSH w)
  let y := a.1 - r.st (k + 1) + b.1
  let old := r.st k
  ((((r.setSt (k + 1) old).setSt k (satS 32 y)).orSat a.2).orSat b.2).put (stD w) (satS 32 y, ovfS 32 y)

/-- DUTY (R115). -/
def Run.duty (r : Run) (w : Nat) : Run :=
  let a := r.sreg (stA w)
  let b := r.reg (stB w)
  let t : Int := if a ≤ 0 then 0 else rnd31 (stRND w) (a * b)
  r.limit (stD w) (if t > b then b else t) (decide (t > b))

/-- NOP. -/
def execLstepNop (tile slice : Nat) (s : State) : Out := .next (s.runStep tile slice 0x00 fun r _ => r.next)

/-- END. -/
def execLstepEnd (tile slice : Nat) (s : State) : Out :=
  .next (s.runStep tile slice 0x01 fun r _ => { r with ended := true, pairs := r.pairs + 1 })

/-- BR. -/
def execLstepBr (tile slice : Nat) (s : State) : Out :=
  .next (s.runStep tile slice 0x02 fun r w => if r.cond (bits (stIMM w) 12 3) then r.jump (bits (stIMM w) 0 12) else r.next)

/-- JMP. -/
def execLstepJmp (tile slice : Nat) (s : State) : Out :=
  .next (s.runStep tile slice 0x03 fun r w => r.jump (bits (stIMM w) 0 12))

/-- LDC: a word of the working copy. -/
def execLstepLdc (tile slice : Nat) (s : State) : Out :=
  .next (s.stepPlain tile slice 0x08 fun r w => r.w.getD (bits (stIMM w) 0 4) 0)

/-- LDI. -/
def execLstepLdi (tile slice : Nat) (s : State) : Out := .next (s.stepPlain tile slice 0x09 fun _ w => stIMM w)

/-- LDW: a shared value of the cluster, as it stands. -/
def execLstepLdw (tile slice : Nat) (s : State) : Out :=
  .next (s.stepPlain tile slice 0x0A fun _ w => s.getF (pgLENG tile) (F.LENG_SHV_VALUE (bits (stIMM w) 0 8)))

/-- LDG: what the run knows of a generator. -/
def execLstepLdg (tile slice : Nat) (s : State) : Out :=
  .next (s.stepPlain tile slice 0x0B fun r w =>
    let x := r.genNow (bits (stIMM w) 0 8)
    match bits (stIMM w) 8 2 with
    | 0 => x.1 * 32 % 2 ^ 32
    | 1 => x.2.1 % 2 ^ 32
    | 2 => x.2.2 * 32 % 2 ^ 32
    | _ => 0)

/-- LDP: the plan value where its tag names the bound generator's present period, else V[B]. -/
def execLstepLdp (tile slice : Nat) (s : State) : Out :=
  .next (s.runStep tile slice 0x0C fun r w =>
    let bind := r.w.getD 1 0
    let tag := r.w.getD 3 0
    let ok := bit bind 8 && bit tag 31 && bits tag 0 16 == (r.genNow (bits bind 0 8)).2.1 % 2 ^ 16
    ({ r.setV (stD w) (if ok then r.w.getD 2 0 else r.reg (stB w)) with stale := !ok }).next)

/-- ADD. -/
def execLstepAdd (tile slice : Nat) (s : State) : Out := .next (s.stepSum tile slice 0x10 fun a b => a + b)

/-- SUB. -/
def execLstepSub (tile slice : Nat) (s : State) : Out := .next (s.stepSum tile slice 0x11 fun a b => a - b)

/-- MUL. -/
def execLstepMul (tile slice : Nat) (s : State) : Out :=
  .next (s.runStep tile slice 0x12 fun r w => (r.put (stD w) (stRnd w (r.product w))).next)

/-- MAC. -/
def execLstepMac (tile slice : Nat) (s : State) : Out :=
  .next (s.runStep tile slice 0x13 fun r w => (r.setAcc (bits w 8 1) (r.acc (bits w 8 1) + r.product w)).next)

/-- MSU. -/
def execLstepMsu (tile slice : Nat) (s : State) : Out :=
  .next (s.runStep tile slice 0x14 fun r w => (r.setAcc (bits w 8 1) (r.acc (bits w 8 1) - r.product w)).next)

/-- LDY. -/
def execLstepLdy (tile slice : Nat) (s : State) : Out :=
  .next (s.runStep tile slice 0x15 fun r w => (r.setAcc (bits w 8 1) (r.sreg (stA w) * 2 ^ 31)).next)

/-- MOVY. -/
def execLstepMovy (tile slice : Nat) (s : State) : Out :=
  .next (s.runStep tile slice 0x16 fun r w => (r.put (stD w) (stRnd w (r.acc (bits w 11 1) * 2 ^ stSH w))).next)

/-- ABS. -/
def execLstepAbs (tile slice : Nat) (s : State) : Out :=
  .next (s.stepSum tile slice 0x17 fun a _ => if a < 0 then -a else a)

/-- NEG. -/
def execLstepNeg (tile slice : Nat) (s : State) : Out := .next (s.stepSum tile slice 0x18 fun a _ => 0 - a)

/-- SHR. -/
def execLstepShr (tile slice : Nat) (s : State) : Out :=
  .next (s.stepPlain tile slice 0x19 fun r w => wrap 32 (asr (r.sreg (stA w)) (bits (stIMM w) 0 5)))

/-- SHL: it saturates whatever NOSAT says. -/
def execLstepShl (tile slice : Nat) (s : State) : Out :=
  .next (s.runStep tile slice 0x1A fun r w =>
    (r.put (stD w) (q31 false (r.sreg (stA w) * 2 ^ bits (stIMM w) 0 5))).next)

/-- MIN. -/
def execLstepMin (tile slice : Nat) (s : State) : Out :=
  .next (s.stepPlain tile slice 0x1B fun r w => wrap 32 (min (r.sreg (stA w)) (r.sreg (stB w))))

/-- MAX. -/
def execLstepMax (tile slice : Nat) (s : State) : Out :=
  .next (s.stepPlain tile slice 0x1C fun r w => wrap 32 (max (r.sreg (stA w)) (r.sreg (stB w))))

/-- LIM. -/
def execLstepLim (tile slice : Nat) (s : State) : Out :=
  .next (s.runStep tile slice 0x20 fun r w =>
    (r.clampTo (stD w) (r.sreg (stA w)) (r.sreg (stB w)) (r.sreg (stB w + 1))).next)

/-- LIMI. -/
def execLstepLimi (tile slice : Nat) (s : State) : Out :=
  .next (s.runStep tile slice 0x21 fun r w =>
    (r.clampTo (stD w) (r.sreg (stA w)) (sgn 16 (bits (stIMM w) 0 16) * 2 ^ 16) (sgn 16 (bits (stIMM w) 16 16) * 2 ^ 16)).next)

/-- PI. -/
def execLstepPi (tile slice : Nat) (s : State) : Out := .next (s.runStep tile slice 0x28 fun r w => (r.pi w).next)

/-- FIL1. -/
def execLstepFil1 (tile slice : Nat) (s : State) : Out := .next (s.runStep tile slice 0x29 fun r w => (r.fil1 w).next)

/-- RES. -/
def execLstepRes (tile slice : Nat) (s : State) : Out := .next (s.runStep tile slice 0x2A fun r w => (r.res w).next)

/-- DUTY. -/
def execLstepDuty (tile slice : Nat) (s : State) : Out := .next (s.runStep tile slice 0x30 fun r w => (r.duty w).next)

/-- CMPW: a compare is staged. -/
def execLstepCmpw (tile slice : Nat) (s : State) : Out :=
  .next (s.runStep tile slice 0x38 fun r w =>
    r.stage (decide (r.cmpw.length < 8))
      { r with cmpw := r.cmpw ++ [(bits (stIMM w) 0 8, bits (stIMM w) 8 2, r.reg (stA w))] })

/-- STS: a state of the working copy. -/
def execLstepSts (tile slice : Nat) (s : State) : Out :=
  .next (s.runStep tile slice 0x39 fun r w => (r.setSt (bits (stIMM w) 0 3) (r.sreg (stA w))).next)

/-- STW: a shared value is staged. -/
def execLstepStw (tile slice : Nat) (s : State) : Out :=
  .next (s.runStep tile slice 0x3A fun r w =>
    r.stage (decide (r.stw.length < 4)) { r with stw := r.stw ++ [(bits (stIMM w) 0 8, r.reg (stA w))] })

/-- WAKE: a trigger is staged. -/
def execLstepWake (tile slice : Nat) (s : State) : Out :=
  .next (s.runStep tile slice 0x3B fun r w =>
    r.stage (decide (r.wake.length + r.evt.length < 4))
      { r with wake := r.wake ++ [(bits (stIMM w) 0 11, r.reg (stA w))] })

/-- EVT: an event is staged. -/
def execLstepEvt (tile slice : Nat) (s : State) : Out :=
  .next (s.runStep tile slice 0x3C fun r w =>
    r.stage (decide (r.wake.length + r.evt.length < 4)) { r with evt := r.evt ++ [bits (stIMM w) 0 6] })

end Sys2Proof.Machine
end

