-- ==== Sys2Proof/Machine/ExecSysI.lean ====
section
/-! DEFINITION. Machine/ExecSysI.lean: system instructions and undefined opcodes (R273, R278, R283, R303, R310). -/

namespace Sys2Proof.Machine

/-- TRAP: EPC is the next instruction (R278). -/
def execITrap (w : WOp) (k : Nat) (s : State) : Out :=
  .next (s.issue w { bytes := 1, esc := true, solo := true, atLE := false, ok := decide (k < 256) } fun s c =>
    (s.exception c.p { vec := 0x400 + 16 * k, slot := c.slot, len := c.len } c.next, .entered))

/-- RETT: every earlier write completes first (R262, R278); after the machine check of a rollback the log is replayed (R352). -/
def execIRett (w : WOp) (s : State) : Out :=
  .next (s.issue w { bytes := 0, esc := true, solo := true, atLE := false, priv := true } fun s c =>
    let s := s.setPair c.p (s.pair c.p).drain
    let r := (s.pair c.p).r
    let mc := r.mcl
    let q := s.retPsw (r.sysr (if mc then 0x0A else 0x02))
    let s := q.2.updR c.p fun r => { r with psw := q.1 }
    let s := if mc then s.startReplay c.p else s
    (s, .jump (r.sys48 (if mc then 0x08 else 0x00))))

/-- WAIT: issue stops until a level below IPL is presented (R283). -/
def execIWait (w : WOp) (s : State) : Out :=
  .next (s.issue w { bytes := 0, esc := true, solo := true, atLE := false, priv := true } fun s c =>
    (s.setFlag (pgCORE c.p) F.CORE_STAT_WAITING true, .next))

def execIMfs (w : WOp) (x k : Nat) (s : State) : Out :=
  .next (s.toG w { bytes := 2, esc := true, priv := true, mon := decide (0x40 ≤ k), ok := fA x == 0 && sysListed k } (fD x) 1 fun r =>
    r.sysRead w.pair k)

/-- MTS: after every earlier write; TLBI also drains the store buffer (R273, R327). -/
def execIMts (w : WOp) (x k : Nat) (s : State) : Out :=
  .next (s.issue w { bytes := 2, esc := true, priv := true, mon := decide (0x40 ≤ k), solo := true,
                     ok := fD x == 0 && sysListed k } fun s c =>
    let s := s.setPair c.p (s.pair c.p).drain
    let v := (c.regs s).gr (fA x)
    if k = 0x24 then
      let t := s.drainAll c.p
      if (t.pair c.p).sb.isEmpty then (t.tlbi c.p v, .next) else (t, .frozen true)
    else (s.updR c.p fun r => r.sysWrite k v, .next))

def execIDi (w : WOp) (s : State) : Out :=
  .next (s.issue w { bytes := 0, esc := true, priv := true } fun s c =>
    (s.updR c.p fun r => { r with psw := setBit r.psw 2 false }, .next))

def execIEi (w : WOp) (s : State) : Out :=
  .next (s.issue w { bytes := 0, esc := true, priv := true } fun s c =>
    (s.updR c.p fun r => { r with psw := setBit r.psw 2 true }, .next))

/-- FENCE issues once the store buffer has drained. -/
def execIFence (w : WOp) (s : State) : Out :=
  .next (s.issue w { bytes := 0, esc := true, port := true } fun s c =>
    (s, if (s.pair c.p).sb.isEmpty then .next else .frozen true))

/-- BRK: the debug vector while SWBP is armed (R467), else illegal. -/
def execIBrk (w : WOp) (s : State) : Out :=
  .next (s.issue w { bytes := 0, esc := true, ok := s.flag (pgCORE w.pair) F.CORE_DCTL_SWBP } fun s c =>
    ((s.advance c.p c.pc c.next none).enterDebug c.p 5, .entered))

def execIIll (w : WOp) (s : State) : Out :=
  .next (s.issue w { bytes := 0, esc := true, ok := false } fun s _ => (s, .next))

/-- An opcode or escape that no table lists: its length cannot be decoded. Behind the escapes of the maps, 0xF0 to 0xF2, an opcode
byte is fetched (R289, R312). -/
def execUndefinedOpcode (w : WOp) (esc _op : Nat) (s : State) : Out :=
  .next (s.issue w { bytes := 0, esc := decide (0xF0 ≤ esc) && decide (esc ≤ 0xF2), ok := false, undef := true } fun s _ => (s, .next))

end Sys2Proof.Machine
end

