-- ==== Sys2Proof/Machine/ExecTime.lean ====
section
/-! DEFINITION. Machine/ExecTime.lean: the commands of chapter 03: the time base, the timers and the watchdogs. -/

namespace Sys2Proof.Machine

/-- TBAS_SLEW written (R59). -/
def execSlewWrite (req data : Nat) (s : State) : Out := .next (s.busWrite req (pgTBAS + 0x5C) 4 data)

/-- The remaining slew has reached zero (R59). -/
def execSlewComplete (s : State) : Out :=
  .next (if s.slewLeft = 0 then s.slewSync.setFlag pgTBAS F.TBAS_STAT_SLEWING false else s)

/-- TBAS_STEP written (R60). -/
def execTimeStep (req data : Nat) (s : State) : Out := .next (s.busWrite req (pgTBAS + 0x74) 4 data)

/-- A measurement from the selected source, in fractions, a signed 24-bit number; FREE has none (R61). -/
def execTimeMeasurement (ofs : Nat) (s : State) : Out :=
  .next (if s.getF pgTBAS F.TBAS_CTRL_SRC = 0 then s else s.timeMeasure (sgn 24 ofs))

/-- 2 s without a measurement (R61). -/
def execHoldoverTimeout (s : State) : Out := .next s.timeHoldover

/-- PPS_IN rises at a fraction of the present tick; the device lath fires its producer 32 (R62, R228). -/
def execPpsInEdge (frac : Nat) (s : State) : Out :=
  .next ((((s.setF pgTBAS F.TBAS_PPS_PPS_TICK s.count).setF pgTBAS F.TBAS_PPS_FRAC_FRAC frac).incF pgTBAS
    F.TBAS_PPS_FRAC_SEQ).produce lathDev 32)

/-- PPS_OUT rises at a whole TAI second, with PPSOUT.EN = 1 (R62). -/
def execPpsOutPulse (s : State) : Out :=
  .next (if s.flag pgTBAS F.TBAS_PPSOUT_EN ∧ (s.count + s.getF pgTBAS F.TBAS_TAI_TAI) % 2 ^ 64 % 2000000000 = 0 then
    { s with time.ppsRise := some s.tick } else s)

/-- A match of a timer, once an advance has brought it (R64). -/
def execTimerMatch (tile n : Nat) (s : State) : Out := .next (if s.timerDue tile n then s.timerMatch tile n else s)

/-- The count of a FREE or ONESHOT timer has wrapped (R63). -/
def execTimerOverflow (tile n : Nat) (s : State) : Out :=
  let tm := s.timerSync tile n
  .next (if s.getF (pgTIMR tile) (F.TMR_CTRL_MODE n) < 2 ∧ s.timerRuns tile n ∧ !s.gateShut tile ∧ !s.timerDue tile n ∧ 2 ^ 64 ≤ tm.val then
    ((s.setTimer tile n { tm with val := tm.val - 2 ^ 64 }).setFlag (pgTIMR tile) (F.TMR_STAT_OVF n) true).pulse (pgTIMR tile) 16
  else s)

/-- TMR_CMP written: the low half, the high half, or both (R65). -/
def execTimerCmpWrite (req tile n : Nat) (hi : Bool) (size data : Nat) (s : State) : Out :=
  .next (s.busWrite req (pgTIMR tile + 0x50 + 0x20 * n + (if hi then 4 else 0)) size data)

/-- TMR_CNT written: the low half, the high half, or both (R65, R66). -/
def execTimerCntWrite (req tile n : Nat) (hi : Bool) (size data : Nat) (s : State) : Out :=
  .next (s.busWrite req (pgTIMR tile + 0x48 + 0x20 * n + (if hi then 4 else 0)) size data)

/-- An event at a timer's start input (R66). -/
def execTimerStartEvent (tile n : Nat) (s : State) : Out :=
  .next (match s.headTok (lathTile tile) (64 + n) with
    | some _ => s.timerInput tile n
    | none => s)

/-- WDOG_SVC written (R71, R72). Tile 40 is the keeper's watchdog (R77). -/
def execWatchdogService (req tile data : Nat) (s : State) : Out := .next (s.busWrite req (wdBase tile + 0x50) 4 data)

/-- ELAPSED has reached TIMEOUT outside stage one (R72). -/
def execWatchdogTimeout (tile : Nat) (s : State) : Out :=
  .next (if s.wdLate tile ∧ !s.gateShut tile then s.wdStage1 tile else s)

/-- TIMEOUT written (R72). -/
def execWdogTimeoutWrite (req tile data : Nat) (s : State) : Out := .next (s.busWrite req (wdBase tile + 0x44) 4 data)

/-- STAGE2 written (R72). -/
def execWdogStage2Write (req tile data : Nat) (s : State) : Out := .next (s.busWrite req (wdBase tile + 0x4C) 4 data)

/-- WDOG_CTRL.EN written (R74). -/
def execWdogEnWrite (req tile : Nat) (en : Bool) (s : State) : Out :=
  .next (s.busWrite req (wdBase tile + 0x40) 4 en.toNat)

/-- In stage one ELAPSED has reached STAGE2 (R72, R73). -/
def execWatchdogStage2 (tile : Nat) (s : State) : Out :=
  let b := wdBase tile
  .next (if s.getF b F.WDOG_STAT_STAGE = 1 ∧ s.getF b F.WDOG_STAGE2_STAGE2 ≤ s.wdElapsed tile ∧ !s.gateShut tile then s.wdStage2 tile else s)

/-- Stage two of the keeper's watchdog (R77). -/
def execKeeperWdogStage2 (s : State) : Out :=
  let b := wdBase 40
  .next (if s.getF b F.WDOG_STAT_STAGE = 1 ∧ s.getF b F.WDOG_STAGE2_STAGE2 ≤ s.wdElapsed 40 then s.wdStage2 40 else s)

end Sys2Proof.Machine
end

