-- ==== Sys2Proof/Machine/Dispatch.lean ====
section
/-! DEFINITION. Machine/Dispatch.lean: one arm for each command. -/

namespace Sys2Proof.Machine

def exec (i : Instr) (s : State) : Host.Outcome State Fault Refusal :=
  match i with
  | .registerWrite req addr size data => Sys2Proof.Machine.execRegisterWrite req addr size data s
  | .blkRst req addr => Sys2Proof.Machine.execBlkRst req addr s
  | .blkEnWrite req addr en => Sys2Proof.Machine.execBlkEnWrite req addr en s
  | .lockKeyWrite req addr key => Sys2Proof.Machine.execLockKeyWrite req addr key s
  | .lockWindowExpire addr => Sys2Proof.Machine.execLockWindowExpire addr s
  | .counterLoRead req addr => Sys2Proof.Machine.execCounterLoRead req addr s
  | .counterHiRead req addr => Sys2Proof.Machine.execCounterHiRead req addr s
  | .contextWrite req addr size data => Sys2Proof.Machine.execContextWrite req addr size data s
  | .stagedWriteRelease tile => Sys2Proof.Machine.execStagedWriteRelease tile s
  | .aliasAccessRelease lt => Sys2Proof.Machine.execAliasAccessRelease lt s
  | .slewWrite req data => Sys2Proof.Machine.execSlewWrite req data s
  | .slewComplete => Sys2Proof.Machine.execSlewComplete s
  | .timeStep req data => Sys2Proof.Machine.execTimeStep req data s
  | .timeMeasurement ofs => Sys2Proof.Machine.execTimeMeasurement ofs s
  | .holdoverTimeout => Sys2Proof.Machine.execHoldoverTimeout s
  | .ppsInEdge frac => Sys2Proof.Machine.execPpsInEdge frac s
  | .ppsOutPulse => Sys2Proof.Machine.execPpsOutPulse s
  | .timerMatch tile n => Sys2Proof.Machine.execTimerMatch tile n s
  | .timerOverflow tile n => Sys2Proof.Machine.execTimerOverflow tile n s
  | .timerCmpWrite req tile n hi size data => Sys2Proof.Machine.execTimerCmpWrite req tile n hi size data s
  | .timerCntWrite req tile n hi size data => Sys2Proof.Machine.execTimerCntWrite req tile n hi size data s
  | .timerStartEvent tile n => Sys2Proof.Machine.execTimerStartEvent tile n s
  | .watchdogService req tile data => Sys2Proof.Machine.execWatchdogService req tile data s
  | .watchdogTimeout tile => Sys2Proof.Machine.execWatchdogTimeout tile s
  | .wdogTimeoutWrite req tile data => Sys2Proof.Machine.execWdogTimeoutWrite req tile data s
  | .wdogStage2Write req tile data => Sys2Proof.Machine.execWdogStage2Write req tile data s
  | .wdogEnWrite req tile en => Sys2Proof.Machine.execWdogEnWrite req tile en s
  | .watchdogStage2 tile => Sys2Proof.Machine.execWatchdogStage2 tile s
  | .keeperWdogStage2 => Sys2Proof.Machine.execKeeperWdogStage2 s
  | .refSelWrite req cluster data => Sys2Proof.Machine.execRefSelWrite req cluster data s
  | .refSettled cluster nv => Sys2Proof.Machine.execRefSettled cluster nv s
  | .refFault ref => Sys2Proof.Machine.execRefFault ref s
  | .adcCtrlWrite req conv data => Sys2Proof.Machine.execAdcCtrlWrite req conv data s
  | .adcPowered conv => Sys2Proof.Machine.execAdcPowered conv s
  | .adcStartWrite req conv hi size data => Sys2Proof.Machine.execAdcStartWrite req conv hi size data s
  | .adcStartEvent conv => Sys2Proof.Machine.execAdcStartEvent conv s
  | .adcTimeInstant conv => Sys2Proof.Machine.execAdcTimeInstant conv s
  | .conversionDone conv x => Sys2Proof.Machine.execConversionDone conv x s
  | .sampleDelivery cluster => Sys2Proof.Machine.execSampleDelivery cluster s
  | .adcResultRead req conv ch => Sys2Proof.Machine.execAdcResultRead req conv ch s
  | .cmpEnWrite req cmp data => Sys2Proof.Machine.execCmpEnWrite req cmp data s
  | .comparatorReady cmp => Sys2Proof.Machine.execComparatorReady cmp s
  | .thresholdWrite req cmp data => Sys2Proof.Machine.execThresholdWrite req cmp data s
  | .thresholdLoadEvent cmp => Sys2Proof.Machine.execThresholdLoadEvent cmp s
  | .comparatorActivation cmp => Sys2Proof.Machine.execComparatorActivation cmp s
  | .tripActivation trip => Sys2Proof.Machine.execTripActivation trip s
  | .capture capin level => Sys2Proof.Machine.execCapture capin level s
  | .captureFifoRead req capin size => Sys2Proof.Machine.execCaptureFifoRead req capin size s
  | .softwareTrigger req tile ctx => Sys2Proof.Machine.execSoftwareTrigger req tile ctx s
  | .dispatch tile badWord => Sys2Proof.Machine.execDispatch tile badWord s
  | .runCommit tile slice lanes nomaj => Sys2Proof.Machine.execRunCommit tile slice lanes nomaj s
  | .sharedValueWrite req tile idx data => Sys2Proof.Machine.execSharedValueWrite req tile idx data s
  | .sharedValueApply cluster => Sys2Proof.Machine.execSharedValueApply cluster s
  | .contextScrub tile ctx word copies => Sys2Proof.Machine.execContextScrub tile ctx word copies s
  | .programScrub tile stepAddr bad => Sys2Proof.Machine.execProgramScrub tile stepAddr bad s
  | .programStepWrite req addr size data => Sys2Proof.Machine.execProgramStepWrite req addr size data s
  | .heldStepWriteApply tile => Sys2Proof.Machine.execHeldStepWriteApply tile s
  | .lstepNop tile slice => Sys2Proof.Machine.execLstepNop tile slice s
  | .lstepEnd tile slice => Sys2Proof.Machine.execLstepEnd tile slice s
  | .lstepBr tile slice => Sys2Proof.Machine.execLstepBr tile slice s
  | .lstepJmp tile slice => Sys2Proof.Machine.execLstepJmp tile slice s
  | .lstepLdc tile slice => Sys2Proof.Machine.execLstepLdc tile slice s
  | .lstepLdi tile slice => Sys2Proof.Machine.execLstepLdi tile slice s
  | .lstepLdw tile slice => Sys2Proof.Machine.execLstepLdw tile slice s
  | .lstepLdg tile slice => Sys2Proof.Machine.execLstepLdg tile slice s
  | .lstepLdp tile slice => Sys2Proof.Machine.execLstepLdp tile slice s
  | .lstepAdd tile slice => Sys2Proof.Machine.execLstepAdd tile slice s
  | .lstepSub tile slice => Sys2Proof.Machine.execLstepSub tile slice s
  | .lstepMul tile slice => Sys2Proof.Machine.execLstepMul tile slice s
  | .lstepMac tile slice => Sys2Proof.Machine.execLstepMac tile slice s
  | .lstepMsu tile slice => Sys2Proof.Machine.execLstepMsu tile slice s
  | .lstepLdy tile slice => Sys2Proof.Machine.execLstepLdy tile slice s
  | .lstepMovy tile slice => Sys2Proof.Machine.execLstepMovy tile slice s
  | .lstepAbs tile slice => Sys2Proof.Machine.execLstepAbs tile slice s
  | .lstepNeg tile slice => Sys2Proof.Machine.execLstepNeg tile slice s
  | .lstepShr tile slice => Sys2Proof.Machine.execLstepShr tile slice s
  | .lstepShl tile slice => Sys2Proof.Machine.execLstepShl tile slice s
  | .lstepMin tile slice => Sys2Proof.Machine.execLstepMin tile slice s
  | .lstepMax tile slice => Sys2Proof.Machine.execLstepMax tile slice s
  | .lstepLim tile slice => Sys2Proof.Machine.execLstepLim tile slice s
  | .lstepLimi tile slice => Sys2Proof.Machine.execLstepLimi tile slice s
  | .lstepPi tile slice => Sys2Proof.Machine.execLstepPi tile slice s
  | .lstepFil1 tile slice => Sys2Proof.Machine.execLstepFil1 tile slice s
  | .lstepRes tile slice => Sys2Proof.Machine.execLstepRes tile slice s
  | .lstepDuty tile slice => Sys2Proof.Machine.execLstepDuty tile slice s
  | .lstepCmpw tile slice => Sys2Proof.Machine.execLstepCmpw tile slice s
  | .lstepSts tile slice => Sys2Proof.Machine.execLstepSts tile slice s
  | .lstepStw tile slice => Sys2Proof.Machine.execLstepStw tile slice s
  | .lstepWake tile slice => Sys2Proof.Machine.execLstepWake tile slice s
  | .lstepEvt tile slice => Sys2Proof.Machine.execLstepEvt tile slice s
  | .generatorRun req tile gen => Sys2Proof.Machine.execGeneratorRun req tile gen s
  | .generatorStop req tile gen => Sys2Proof.Machine.execGeneratorStop req tile gen s
  | .generatorArm req tile gen => Sys2Proof.Machine.execGeneratorArm req tile gen s
  | .generatorDisarm req tile gen => Sys2Proof.Machine.execGeneratorDisarm req tile gen s
  | .tripClearRequest req tile gen => Sys2Proof.Machine.execTripClearRequest req tile gen s
  | .generatorReload tile gen nomaj ledErr => Sys2Proof.Machine.execGeneratorReload tile gen nomaj ledErr s
  | .pendEvent tile gen => Sys2Proof.Machine.execPendEvent tile gen s
  | .compareMatch tile gen which upset => Sys2Proof.Machine.execCompareMatch tile gen which upset s
  | .deadTimeExpiry tile gen isH upset => Sys2Proof.Machine.execDeadTimeExpiry tile gen isH upset s
  | .laneRelease tile => Sys2Proof.Machine.execLaneRelease tile s
  | .delayedEdgePlace tile upset => Sys2Proof.Machine.execDelayedEdgePlace tile upset s
  | .shadowWrite req tile gen reg data => Sys2Proof.Machine.execShadowWrite req tile gen reg data s
  | .shadowCommitEntry tile gen => Sys2Proof.Machine.execShadowCommitEntry tile gen s
  | .phaseLoad tile page which => Sys2Proof.Machine.execPhaseLoad tile page which s
  | .bindWrite req tile gen data => Sys2Proof.Machine.execBindWrite req tile gen data s
  | .tripSourceActive cluster x => Sys2Proof.Machine.execTripSourceActive cluster x s
  | .blankingClose tile gen => Sys2Proof.Machine.execBlankingClose tile gen s
  | .laneLockLoss kind group lane => Sys2Proof.Machine.execLaneLockLoss kind group lane s
  | .laneReset req lane => Sys2Proof.Machine.execLaneReset req lane s
  | .measReceive ring dir sof blocks eof more => Sys2Proof.Machine.execMeasReceive ring dir sof blocks eof more s
  | .mrspReceive ring dir sof blocks eof more => Sys2Proof.Machine.execMrspReceive ring dir sof blocks eof more s
  | .echorReceive ring dir sof blocks eof more frac => Sys2Proof.Machine.execEchorReceive ring dir sof blocks eof more frac s
  | .enumReturn ring dir sof blocks eof more => Sys2Proof.Machine.execEnumReturn ring dir sof blocks eof more s
  | .brkStatusReceive ring dir line => Sys2Proof.Machine.execBrkStatusReceive ring dir line s
  | .brkReportTimeout ring dir => Sys2Proof.Machine.execBrkReportTimeout ring dir s
  | .frameTransmit ring dir => Sys2Proof.Machine.execFrameTransmit ring dir s
  | .blockCommandRepeat ring => Sys2Proof.Machine.execBlockCommandRepeat ring s
  | .mreqEnqueue req ring hi size data => Sys2Proof.Machine.execMreqEnqueue req ring hi size data s
  | .mreqIssue ring => Sys2Proof.Machine.execMreqIssue ring s
  | .mreqTimeout ring => Sys2Proof.Machine.execMreqTimeout ring s
  | .mrspRead req ring => Sys2Proof.Machine.execMrspRead req ring s
  | .timeFrameSend ring => Sys2Proof.Machine.execTimeFrameSend ring s
  | .calibration req ring => Sys2Proof.Machine.execCalibration req ring s
  | .calibrationDone ring => Sys2Proof.Machine.execCalibrationDone ring s
  | .enumeration req ring force => Sys2Proof.Machine.execEnumeration req ring force s
  | .positionLost ring pos => Sys2Proof.Machine.execPositionLost ring pos s
  | .autoJoinEnum ring => Sys2Proof.Machine.execAutoJoinEnum ring s
  | .joinComplete ring pos => Sys2Proof.Machine.execJoinComplete ring pos s
  | .nodeForward ring place dir sof blocks eof held => Sys2Proof.Machine.execNodeForward ring place dir sof blocks eof held s
  | .nodeEdgeSetReceive ring place sof blocks eof => Sys2Proof.Machine.execNodeEdgeSetReceive ring place sof blocks eof s
  | .nodeEntryApply ring place leg => Sys2Proof.Machine.execNodeEntryApply ring place leg s
  | .nodePeriodEnd ring place leg => Sys2Proof.Machine.execNodePeriodEnd ring place leg s
  | .nodeBlockCommand ring place sof blocks eof => Sys2Proof.Machine.execNodeBlockCommand ring place sof blocks eof s
  | .nodeLossOfLink ring place => Sys2Proof.Machine.execNodeLossOfLink ring place s
  | .nodeTimeFrame ring place dir sof blocks eof frac => Sys2Proof.Machine.execNodeTimeFrame ring place dir sof blocks eof frac s
  | .nodeTimeOkTimeout ring place => Sys2Proof.Machine.execNodeTimeOkTimeout ring place s
  | .nodeEcho ring place dir sof blocks eof turn => Sys2Proof.Machine.execNodeEcho ring place dir sof blocks eof turn s
  | .nodeEnum ring place dir sof blocks eof => Sys2Proof.Machine.execNodeEnum ring place dir sof blocks eof s
  | .nodeMreq ring place sof blocks eof => Sys2Proof.Machine.execNodeMreq ring place sof blocks eof s
  | .nodeMeasSample ring place words => Sys2Proof.Machine.execNodeMeasSample ring place words s
  | .nodeHeartbeat ring place words => Sys2Proof.Machine.execNodeHeartbeat ring place words s
  | .forecastLaunch cluster job => Sys2Proof.Machine.execForecastLaunch cluster job s
  | .launchStart cluster => Sys2Proof.Machine.execLaunchStart cluster s
  | .gatherDone cluster bad => Sys2Proof.Machine.execGatherDone cluster bad s
  | .fetchDone cluster ue => Sys2Proof.Machine.execFetchDone cluster ue s
  | .rankDone cluster => Sys2Proof.Machine.execRankDone cluster s
  | .evaluateDone cluster => Sys2Proof.Machine.execEvaluateDone cluster s
  | .selectDone cluster => Sys2Proof.Machine.execSelectDone cluster s
  | .planCommitArrival cluster => Sys2Proof.Machine.execPlanCommitArrival cluster s
  | .launchEnd cluster => Sys2Proof.Machine.execLaunchEnd cluster s
  | .jobEnable req cluster job => Sys2Proof.Machine.execJobEnable req cluster job s
  | .klogWrite cluster => Sys2Proof.Machine.execKlogWrite cluster s
  | .klogStopEvent cluster => Sys2Proof.Machine.execKlogStopEvent cluster s
  | .klogPostDone cluster => Sys2Proof.Machine.execKlogPostDone cluster s
  | .klogDrained cluster => Sys2Proof.Machine.execKlogDrained cluster s
  | .klogClear req cluster => Sys2Proof.Machine.execKlogClear req cluster s
  | .lathTake lath prod => Sys2Proof.Machine.execLathTake lath prod s
  | .consumerTake lath input => Sys2Proof.Machine.execConsumerTake lath input s
  | .routeCommit req lath => Sys2Proof.Machine.execRouteCommit req lath s
  | .routeLoad req lath => Sys2Proof.Machine.execRouteLoad req lath s
  | .lathSelect req lath data => Sys2Proof.Machine.execLathSelect req lath data s
  | .softwareEvent req lath n => Sys2Proof.Machine.execSoftwareEvent req lath n s
  | .gpioEdge pin level => Sys2Proof.Machine.execGpioEdge pin level s
  | .gpioLatchedEdge pin level => Sys2Proof.Machine.execGpioLatchedEdge pin level s
  | .gpioOutputAction pin => Sys2Proof.Machine.execGpioOutputAction pin s
  | .doorbell req tile data => Sys2Proof.Machine.execDoorbell req tile data s
  | .interruptAccept pair => Sys2Proof.Machine.execInterruptAccept pair s
  | .holdoffExpiry group => Sys2Proof.Machine.execHoldoffExpiry group s
  | .intcEnWrite req tile isPair w data => Sys2Proof.Machine.execIntcEnWrite req tile isPair w data s
  | .dintcClaim req => Sys2Proof.Machine.execDintcClaim req s
  | .lockstepMismatch pair whr => Sys2Proof.Machine.execLockstepMismatch pair whr s
  | .rollbackComplete pair => Sys2Proof.Machine.execRollbackComplete pair s
  | .checkpoint pair => Sys2Proof.Machine.execCheckpoint pair s
  | .longUnitResult pair => Sys2Proof.Machine.execLongUnitResult pair s
  | .storeDrain pair => Sys2Proof.Machine.execStoreDrain pair s
  | .dataResponse pair => Sys2Proof.Machine.execDataResponse pair s
  | .lockBrokenEntry pair => Sys2Proof.Machine.execLockBrokenEntry pair s
  | .coreHold req pair hold => Sys2Proof.Machine.execCoreHold req pair hold s
  | .corePairReset req pair => Sys2Proof.Machine.execCorePairReset req pair s
  | .undefinedOpcode w esc op => Sys2Proof.Machine.execUndefinedOpcode w esc op s
  | .iNop w => Sys2Proof.Machine.execINop w s
  | .iMov w x => Sys2Proof.Machine.execIMov w x s
  | .iMovi w x imm => Sys2Proof.Machine.execIMovi w x imm s
  | .iMovl w x => Sys2Proof.Machine.execIMovl w x s
  | .iMtl w x => Sys2Proof.Machine.execIMtl w x s
  | .iMvfl w x => Sys2Proof.Machine.execIMvfl w x s
  | .iMtfl w x => Sys2Proof.Machine.execIMtfl w x s
  | .iClrsat w => Sys2Proof.Machine.execIClrsat w s
  | .iSel w x y c => Sys2Proof.Machine.execISel w x y c s
  | .iRdfeat w x k => Sys2Proof.Machine.execIRdfeat w x k s
  | .iLoop w x disp => Sys2Proof.Machine.execILoop w x disp s
  | .iLoopi w k disp => Sys2Proof.Machine.execILoopi w k disp s
  | .iMtlc w x k => Sys2Proof.Machine.execIMtlc w x k s
  | .iMflc w x k => Sys2Proof.Machine.execIMflc w x k s
  | .iAdd w x y => Sys2Proof.Machine.execIAdd w x y s
  | .iSub w x y => Sys2Proof.Machine.execISub w x y s
  | .iAdc w x y => Sys2Proof.Machine.execIAdc w x y s
  | .iSbc w x y => Sys2Proof.Machine.execISbc w x y s
  | .iAnd w x y => Sys2Proof.Machine.execIAnd w x y s
  | .iOr w x y => Sys2Proof.Machine.execIOr w x y s
  | .iXor w x y => Sys2Proof.Machine.execIXor w x y s
  | .iAndn w x y => Sys2Proof.Machine.execIAndn w x y s
  | .iMin w x y => Sys2Proof.Machine.execIMin w x y s
  | .iMax w x y => Sys2Proof.Machine.execIMax w x y s
  | .iMinu w x y => Sys2Proof.Machine.execIMinu w x y s
  | .iMaxu w x y => Sys2Proof.Machine.execIMaxu w x y s
  | .iCmp w x y => Sys2Proof.Machine.execICmp w x y s
  | .iTst w x y => Sys2Proof.Machine.execITst w x y s
  | .iAddi w x imm => Sys2Proof.Machine.execIAddi w x imm s
  | .iAndi w x imm => Sys2Proof.Machine.execIAndi w x imm s
  | .iOri w x imm => Sys2Proof.Machine.execIOri w x imm s
  | .iXori w x imm => Sys2Proof.Machine.execIXori w x imm s
  | .iCmpi w x imm => Sys2Proof.Machine.execICmpi w x imm s
  | .iNeg w x => Sys2Proof.Machine.execINeg w x s
  | .iAbs w x => Sys2Proof.Machine.execIAbs w x s
  | .iNot w x => Sys2Proof.Machine.execINot w x s
  | .iClz w x => Sys2Proof.Machine.execIClz w x s
  | .iCls w x => Sys2Proof.Machine.execICls w x s
  | .iSexth w x => Sys2Proof.Machine.execISexth w x s
  | .iZexth w x => Sys2Proof.Machine.execIZexth w x s
  | .iSextb w x => Sys2Proof.Machine.execISextb w x s
  | .iZextb w x => Sys2Proof.Machine.execIZextb w x s
  | .iShl w x y => Sys2Proof.Machine.execIShl w x y s
  | .iShr w x y => Sys2Proof.Machine.execIShr w x y s
  | .iAsr w x y => Sys2Proof.Machine.execIAsr w x y s
  | .iRor w x y => Sys2Proof.Machine.execIRor w x y s
  | .iShli w x k => Sys2Proof.Machine.execIShli w x k s
  | .iShri w x k => Sys2Proof.Machine.execIShri w x k s
  | .iAsri w x k => Sys2Proof.Machine.execIAsri w x k s
  | .iRori w x k => Sys2Proof.Machine.execIRori w x k s
  | .iMul w x y => Sys2Proof.Machine.execIMul w x y s
  | .iMulhs w x y => Sys2Proof.Machine.execIMulhs w x y s
  | .iMulhu w x y => Sys2Proof.Machine.execIMulhu w x y s
  | .iMulq w x y => Sys2Proof.Machine.execIMulq w x y s
  | .iMac w x y => Sys2Proof.Machine.execIMac w x y s
  | .iMsu w x y => Sys2Proof.Machine.execIMsu w x y s
  | .iMpy w x y => Sys2Proof.Machine.execIMpy w x y s
  | .iMovr w x => Sys2Proof.Machine.execIMovr w x s
  | .iMova w x => Sys2Proof.Machine.execIMova w x s
  | .iClra w x => Sys2Proof.Machine.execIClra w x s
  | .iMta w x => Sys2Proof.Machine.execIMta w x s
  | .iMfag w x => Sys2Proof.Machine.execIMfag w x s
  | .iMtag w x => Sys2Proof.Machine.execIMtag w x s
  | .iNorm w x => Sys2Proof.Machine.execINorm w x s
  | .iLdW w x m disp => Sys2Proof.Machine.execILdW w x m disp s
  | .iLdH w x m disp => Sys2Proof.Machine.execILdH w x m disp s
  | .iLdHu w x m disp => Sys2Proof.Machine.execILdHu w x m disp s
  | .iLdB w x m disp => Sys2Proof.Machine.execILdB w x m disp s
  | .iLdBu w x m disp => Sys2Proof.Machine.execILdBu w x m disp s
  | .iLdD w x m disp => Sys2Proof.Machine.execILdD w x m disp s
  | .iLda w x m disp => Sys2Proof.Machine.execILda w x m disp s
  | .iLea w x m disp => Sys2Proof.Machine.execILea w x m disp s
  | .iStW w x m disp => Sys2Proof.Machine.execIStW w x m disp s
  | .iStH w x m disp => Sys2Proof.Machine.execIStH w x m disp s
  | .iStB w x m disp => Sys2Proof.Machine.execIStB w x m disp s
  | .iStD w x m disp => Sys2Proof.Machine.execIStD w x m disp s
  | .iSta w x m disp => Sys2Proof.Machine.execISta w x m disp s
  | .iBcc w cc disp => Sys2Proof.Machine.execIBcc w cc disp s
  | .iBra w disp => Sys2Proof.Machine.execIBra w disp s
  | .iCall w disp => Sys2Proof.Machine.execICall w disp s
  | .iJr w x => Sys2Proof.Machine.execIJr w x s
  | .iCallr w x => Sys2Proof.Machine.execICallr w x s
  | .iJmpf w x => Sys2Proof.Machine.execIJmpf w x s
  | .iBlc1 w disp => Sys2Proof.Machine.execIBlc1 w disp s
  | .iXchg w wide x m disp => Sys2Proof.Machine.execIXchg w wide x m disp s
  | .iCas w wide x m disp y => Sys2Proof.Machine.execICas w wide x m disp y s
  | .iFadd w wide x m disp => Sys2Proof.Machine.execIFadd w wide x m disp s
  | .iFand w wide x m disp => Sys2Proof.Machine.execIFand w wide x m disp s
  | .iFor w wide x m disp => Sys2Proof.Machine.execIFor w wide x m disp s
  | .iDiv w x y => Sys2Proof.Machine.execIDiv w x y s
  | .iDivu w x y => Sys2Proof.Machine.execIDivu w x y s
  | .iDivq w x y => Sys2Proof.Machine.execIDivq w x y s
  | .iSqrt w x => Sys2Proof.Machine.execISqrt w x s
  | .iRecip w x => Sys2Proof.Machine.execIRecip w x s
  | .iSincos w x => Sys2Proof.Machine.execISincos w x s
  | .iMv3 w x y => Sys2Proof.Machine.execIMv3 w x y s
  | .iBmov w x n => Sys2Proof.Machine.execIBmov w x n s
  | .iBfill w x n => Sys2Proof.Machine.execIBfill w x n s
  | .iTsrch w x n => Sys2Proof.Machine.execITsrch w x n s
  | .iMvm w x n => Sys2Proof.Machine.execIMvm w x n s
  | .iSortk w x n => Sys2Proof.Machine.execISortk w x n s
  | .iTrap w k => Sys2Proof.Machine.execITrap w k s
  | .iRett w => Sys2Proof.Machine.execIRett w s
  | .iWait w => Sys2Proof.Machine.execIWait w s
  | .iMfs w x k => Sys2Proof.Machine.execIMfs w x k s
  | .iMts w x k => Sys2Proof.Machine.execIMts w x k s
  | .iDi w => Sys2Proof.Machine.execIDi w s
  | .iEi w => Sys2Proof.Machine.execIEi w s
  | .iFence w => Sys2Proof.Machine.execIFence w s
  | .iBrk w => Sys2Proof.Machine.execIBrk w s
  | .iIll w => Sys2Proof.Machine.execIIll w s
  | .memoryScrub addr kind => Sys2Proof.Machine.execMemoryScrub addr kind s
  | .hbmSpare req cluster pc => Sys2Proof.Machine.execHbmSpare req cluster pc s
  | .spareCopyDone cluster => Sys2Proof.Machine.execSpareCopyDone cluster s
  | .arbiterGrant kind unit ofs reqs emergency => Sys2Proof.Machine.execArbiterGrant kind unit ofs reqs emergency s
  | .iommuTlbi req tile data => Sys2Proof.Machine.execIommuTlbi req tile data s
  | .dmaStart req tile ch => Sys2Proof.Machine.execDmaStart req tile ch s
  | .dmaResume req tile ch => Sys2Proof.Machine.execDmaResume req tile ch s
  | .dmaAbort req tile ch => Sys2Proof.Machine.execDmaAbort req tile ch s
  | .dmaArm req tile ch => Sys2Proof.Machine.execDmaArm req tile ch s
  | .dmaDisarm req tile ch => Sys2Proof.Machine.execDmaDisarm req tile ch s
  | .descriptorStart tile ch => Sys2Proof.Machine.execDescriptorStart tile ch s
  | .burstIssue tile => Sys2Proof.Machine.execBurstIssue tile s
  | .burstComplete tile ch => Sys2Proof.Machine.execBurstComplete tile ch s
  | .queueConfig req tile data => Sys2Proof.Machine.execQueueConfig req tile data s
  | .queueSelect req tile data => Sys2Proof.Machine.execQueueSelect req tile data s
  | .queuePush req tile data => Sys2Proof.Machine.execQueuePush req tile data s
  | .queuePop req tile => Sys2Proof.Machine.execQueuePop req tile s
  | .lockAcquire req tile lock => Sys2Proof.Machine.execLockAcquire req tile lock s
  | .lockRelease req tile lock data => Sys2Proof.Machine.execLockRelease req tile lock data s
  | .lockBreak req tile lock => Sys2Proof.Machine.execLockBreak req tile lock s
  | .leaseExpiry tile lock => Sys2Proof.Machine.execLeaseExpiry tile lock s
  | .takeoverTrigger tile trig => Sys2Proof.Machine.execTakeoverTrigger tile trig s
  | .takeoverCommand req data => Sys2Proof.Machine.execTakeoverCommand req data s
  | .moveStart cluster => Sys2Proof.Machine.execMoveStart cluster s
  | .tileReady cluster => Sys2Proof.Machine.execTileReady cluster s
  | .tileCoreRelease lt => Sys2Proof.Machine.execTileCoreRelease lt s
  | .pinRepeatPeriod tile gen => Sys2Proof.Machine.execPinRepeatPeriod tile gen s
  | .returnToService req data ok => Sys2Proof.Machine.execReturnToService req data ok s
  | .mirrorInStep tile => Sys2Proof.Machine.execMirrorInStep tile s
  | .refiringStage req => Sys2Proof.Machine.execRefiringStage req s
  | .refiringVerified => Sys2Proof.Machine.execRefiringVerified s
  | .refiringSwitch req => Sys2Proof.Machine.execRefiringSwitch req s
  | .refiringDone => Sys2Proof.Machine.execRefiringDone s
  | .refiringAbort req => Sys2Proof.Machine.execRefiringAbort req s
  | .feedCrossing feed ovr => Sys2Proof.Machine.execFeedCrossing feed ovr s
  | .feedInRegulation feed => Sys2Proof.Machine.execFeedInRegulation feed s
  | .feedReturn => Sys2Proof.Machine.execFeedReturn s
  | .feedCommand req data => Sys2Proof.Machine.execFeedCommand req data s
  | .brownOut => Sys2Proof.Machine.execBrownOut s
  | .phaseFail => Sys2Proof.Machine.execPhaseFail s
  | .auxFeedLoss k => Sys2Proof.Machine.execAuxFeedLoss k s
  | .powerDomainCommand req data => Sys2Proof.Machine.execPowerDomainCommand req data s
  | .domainReady => Sys2Proof.Machine.execDomainReady s
  | .refclkLoss => Sys2Proof.Machine.execRefclkLoss s
  | .refclkRecover ref => Sys2Proof.Machine.execRefclkRecover ref s
  | .refclkCommand req data => Sys2Proof.Machine.execRefclkCommand req data s
  | .refclkRevert => Sys2Proof.Machine.execRefclkRevert s
  | .pllFailure pll => Sys2Proof.Machine.execPllFailure pll s
  | .sparePllLocked => Sys2Proof.Machine.execSparePllLocked s
  | .coreIslandSleep tile => Sys2Proof.Machine.execCoreIslandSleep tile s
  | .coreIslandWake tile => Sys2Proof.Machine.execCoreIslandWake tile s
  | .resetCommand req data => Sys2Proof.Machine.execResetCommand req data s
  | .resetNAssert ns => Sys2Proof.Machine.execResetNAssert ns s
  | .resetNRelease => Sys2Proof.Machine.execResetNRelease s
  | .powerOnReset => Sys2Proof.Machine.execPowerOnReset s
  | .bisqueFiring => Sys2Proof.Machine.execBisqueFiring s
  | .glazeFiring started => Sys2Proof.Machine.execGlazeFiring started s
  | .bootRetry => Sys2Proof.Machine.execBootRetry s
  | .journalWrite req => Sys2Proof.Machine.execJournalWrite req s
  | .flashWrite req => Sys2Proof.Machine.execFlashWrite req s
  | .minVersion req => Sys2Proof.Machine.execMinVersion req s
  | .lifecycle req => Sys2Proof.Machine.execLifecycle req s
  | .revoke req => Sys2Proof.Machine.execRevoke req s
  | .logRead req => Sys2Proof.Machine.execLogRead req s
  | .keepCommandDone err => Sys2Proof.Machine.execKeepCommandDone err s
  | .measurementExtend req => Sys2Proof.Machine.execMeasurementExtend req s
  | .spdmFragment port addr udp payload => Sys2Proof.Machine.execSpdmFragment port addr udp payload s
  | .spdmReassemblyTimeout port addr udp => Sys2Proof.Machine.execSpdmReassemblyTimeout port addr udp s
  | .spdmConnectionIdle port addr udp => Sys2Proof.Machine.execSpdmConnectionIdle port addr udp s
  | .getVersion port addr udp => Sys2Proof.Machine.execGetVersion port addr udp s
  | .getCapabilities port addr udp => Sys2Proof.Machine.execGetCapabilities port addr udp s
  | .negotiateAlgorithms port addr udp => Sys2Proof.Machine.execNegotiateAlgorithms port addr udp s
  | .getDigests port addr udp => Sys2Proof.Machine.execGetDigests port addr udp s
  | .getCertificate port addr udp => Sys2Proof.Machine.execGetCertificate port addr udp s
  | .challenge port addr udp => Sys2Proof.Machine.execChallenge port addr udp s
  | .getMeasurements port addr udp => Sys2Proof.Machine.execGetMeasurements port addr udp s
  | .spdmUnsupported port addr udp => Sys2Proof.Machine.execSpdmUnsupported port addr udp s
  | .groupStatusSend => Sys2Proof.Machine.execGroupStatusSend s
  | .groupStatusReceive lane src seq st => Sys2Proof.Machine.execGroupStatusReceive lane src seq st s
  | .memberLost peer => Sys2Proof.Machine.execMemberLost peer s
  | .groupEventReceive lane seq n => Sys2Proof.Machine.execGroupEventReceive lane seq n s
  | .peerAdmission peer auth => Sys2Proof.Machine.execPeerAdmission peer auth s
  | .admissionRetry => Sys2Proof.Machine.execAdmissionRetry s
  | .configTransfer lane seq epoch words => Sys2Proof.Machine.execConfigTransfer lane seq epoch words s
  | .mirrorReceive lane seq part period writes => Sys2Proof.Machine.execMirrorReceive lane seq part period writes s
  | .ownershipFrameStart => Sys2Proof.Machine.execOwnershipFrameStart s
  | .ownershipFrameEnd line0 line1 => Sys2Proof.Machine.execOwnershipFrameEnd line0 line1 s
  | .groupClaim req data => Sys2Proof.Machine.execGroupClaim req data s
  | .configDigestCheck => Sys2Proof.Machine.execConfigDigestCheck s
  | .commitPropose req data => Sys2Proof.Machine.execCommitPropose req data s
  | .prepareReceive lane seq epoch digest p => Sys2Proof.Machine.execPrepareReceive lane seq epoch digest p s
  | .decideReceive lane seq commit => Sys2Proof.Machine.execDecideReceive lane seq commit s
  | .commitDeadline => Sys2Proof.Machine.execCommitDeadline s
  | .timeExchange ofs => Sys2Proof.Machine.execTimeExchange ofs s
  | .mgmtFrameReceive port frame => Sys2Proof.Machine.execMgmtFrameReceive port frame s
  | .sessionHello port addr udp datagram => Sys2Proof.Machine.execSessionHello port addr udp datagram s
  | .sessionProve port addr udp datagram => Sys2Proof.Machine.execSessionProve port addr udp datagram s
  | .handshakeTimeout sess => Sys2Proof.Machine.execHandshakeTimeout sess s
  | .sealedReceive port addr udp datagram => Sys2Proof.Machine.execSealedReceive port addr udp datagram s
  | .sessionTimeout sess => Sys2Proof.Machine.execSessionTimeout sess s
  | .derevoPing sess tag body => Sys2Proof.Machine.execDerevoPing sess tag body s
  | .derevoClose sess tag body => Sys2Proof.Machine.execDerevoClose sess tag body s
  | .derevoStatus sess tag body => Sys2Proof.Machine.execDerevoStatus sess tag body s
  | .derevoHalt sess tag body => Sys2Proof.Machine.execDerevoHalt sess tag body s
  | .derevoResume sess tag body => Sys2Proof.Machine.execDerevoResume sess tag body s
  | .derevoStep sess tag body => Sys2Proof.Machine.execDerevoStep sess tag body s
  | .derevoRead sess tag body => Sys2Proof.Machine.execDerevoRead sess tag body s
  | .derevoWrite sess tag body => Sys2Proof.Machine.execDerevoWrite sess tag body s
  | .derevoRegrd sess tag body => Sys2Proof.Machine.execDerevoRegrd sess tag body s
  | .derevoRegwr sess tag body => Sys2Proof.Machine.execDerevoRegwr sess tag body s
  | .derevoBpset sess tag body => Sys2Proof.Machine.execDerevoBpset sess tag body s
  | .derevoSwbp sess tag body => Sys2Proof.Machine.execDerevoSwbp sess tag body s
  | .haltRequest req pair => Sys2Proof.Machine.execHaltRequest req pair s
  | .debugResume req pair => Sys2Proof.Machine.execDebugResume req pair s
  | .debugStep req pair => Sys2Proof.Machine.execDebugStep req pair s
  | .debugEntry pair => Sys2Proof.Machine.execDebugEntry pair s
  | .freezeBegin page => Sys2Proof.Machine.execFreezeBegin page s
  | .freezeEnd page => Sys2Proof.Machine.execFreezeEnd page s
  | .tapBypass => Sys2Proof.Machine.execTapBypass s
  | .tapIdcode => Sys2Proof.Machine.execTapIdcode s
  | .tapSamplePreload pads preload => Sys2Proof.Machine.execTapSamplePreload pads preload s
  | .tapExtest preload => Sys2Proof.Machine.execTapExtest preload s
  | .tapClamp => Sys2Proof.Machine.execTapClamp s
  | .tapHighz => Sys2Proof.Machine.execTapHighz s
  | .refWindowReturn ref => Sys2Proof.Machine.execRefWindowReturn ref s
  | .feedWindowEntry feed => Sys2Proof.Machine.execFeedWindowEntry feed s
  | .refclkValidityChange ref valid => Sys2Proof.Machine.execRefclkValidityChange ref valid s
  | .blockLockGain kind lane => Sys2Proof.Machine.execBlockLockGain kind lane s
  | .nodeBlockLockChange ring place port lock => Sys2Proof.Machine.execNodeBlockLockChange ring place port lock s
  | .nodeProtection ring place acts => Sys2Proof.Machine.execNodeProtection ring place acts s
  | .auxFeedReturn k => Sys2Proof.Machine.execAuxFeedReturn k s
  | .clusterIslandSleep cluster k => Sys2Proof.Machine.execClusterIslandSleep cluster k s
  | .clusterIslandWake cluster k => Sys2Proof.Machine.execClusterIslandWake cluster k s
  | .eventPathDeactivation cluster src => Sys2Proof.Machine.execEventPathDeactivation cluster src s
  | .pinKeeperEdge tile gen => Sys2Proof.Machine.execPinKeeperEdge tile gen s
  | .fetchResponse pair err => Sys2Proof.Machine.execFetchResponse pair err s
  | .queueStateScrub tile queue bad => Sys2Proof.Machine.execQueueStateScrub tile queue bad s
  | .prpSupervisionFrame => Sys2Proof.Machine.execPrpSupervisionFrame s
  | .derevoHaltTimeout sess => Sys2Proof.Machine.execDerevoHaltTimeout sess s
  | .tapReset => Sys2Proof.Machine.execTapReset s
  | .tjUpdate temps => Sys2Proof.Machine.execTjUpdate temps s
  | .preparedReceive lane seq ok => Sys2Proof.Machine.execPreparedReceive lane seq ok s
  | .groupConfigReceive lane seq epoch digest => Sys2Proof.Machine.execGroupConfigReceive lane seq epoch digest s

end Sys2Proof.Machine
end

