-- ==== Sys2Proof/Machine/Step.lean ====
section
/-! DEFINITION. Machine/Step.lean: one step: the command at the front of the queue, or a tick of the clock. -/

namespace Sys2Proof.Machine

/-- What happens while no command waits: the tick count of R6 advances by one, the group's ownership instants that fall in
the new tick take place (R446), a gate that closed with the last tick shows it (R356), the spare PLL may be released (R398), the edges that GPIO latches counted fire on (R238), the keeper records the rows that were retired
(R318), and accesses that are held no longer go on (R232). -/
def State.idle (s : State) : State := ({ s with tick := s.tick + 1 }).groupTick.gateTick.spareTick.gpioTick.journalRows.replayHeld

/-- The command at the front of the queue has its effect on everything but the queue; an empty queue lets a tick pass. -/
def step (s : State) : Host.Outcome State Fault Refusal :=
  match s.pending with
  | [] => .next s.idle
  | c :: q => exec c { s with pending := q }

/-- The command that a word spells, put at the front of the queue. -/
def State.withFetchWord (s : State) (nbits w : Nat) : State :=
  match decodeTableWord nbits w with
  | some c => { s with pending := c :: s.pending }
  | none => s

end Sys2Proof.Machine
end

