-- ==== Sys2Proof/Safety.lean ====
section
/-! DEFINITION. Safety.lean: what a safe step is, what every state that a run reaches keeps, and the terms in which the
statements say that a command takes effect: a register access that reaches its page, and an instruction that issues. -/

namespace Sys2Proof.Machine

/-- A step that neither faults nor is refused: the block has an effect for everything commanded. -/
def State.Goes (s : State) : Prop := ∃ t, step s = .next t

/-- Memory and the register map are in their canonical form: keys rise, and no byte listed reads as an unlisted one does. -/
def State.Canon (s : State) : Prop := Memory.wf s.mem = true ∧ SMap.wf s.regs = true

/-! ### Instructions of the core pairs -/

/-- The pair `w.pair` has fetched an instruction of the length that `o` gives: it runs, no access and no frozen memory that it
fetches from freezes it, it meets no breakpoint, and no step and no watched access is pending (R255, R279, R321). -/
structure State.Fetches (s : State) (w : WOp) (o : IOp) : Prop where
  runs : s.pairRuns w.pair = true
  idle : (s.pair w.pair).unb = none
  thawed : s.issueWaits w o = false
  free : s.bpMet w.pair = none
  fetch : (s.fetched w o).2 = none
  steps : ((s.fetched w o).1.pair w.pair).stepping = false
  watch : ((s.fetched w o).1.pair w.pair).dbgDue = none

/-- It also issues it: the instruction is legal where it stands, and allowed in the pair's mode (R290 to R294). -/
structure State.Issues (s : State) (w : WOp) (o : IOp) : Prop extends State.Fetches s w o where
  legal : legalAt o w ((s.toIssue w o).pair w.pair).r = true
  allowed : forbidden o w ((s.toIssue w o).pair w.pair).r.mode = false

/-- The state that the instruction's effect starts from. -/
def State.atIssue (s : State) (w : WOp) (o : IOp) : State := (s.fetched w o).1

/-- The registers that the instruction reads. -/
def State.reads (s : State) (w : WOp) (o : IOp) : Regs := ((s.atIssue w o).pair w.pair).r

/-- Writes at a distance, each its distance, target and value, added to those in flight (R258). -/
def addWrites (d : Nat) (ws : List (Nat × Nat × Nat)) (pw : List PWrite) : List PWrite :=
  ws.foldl (fun l e => pwInsert ⟨d + e.1, e.2.1, e.2.2⟩ l) pw

/-- The pair of `u` with the writes of the instruction added and what a second instruction of its group may not use, at the next
instruction: the end of an instruction that does not jump (R255, R258, R265). -/
def State.ends (s : State) (w : WOp) (o : IOp) (u : State) (ws : List (Nat × Nat × Nat)) : State :=
  let c := s.ctxOf w o
  let x := u.pair w.pair
  (u.setPair w.pair { x with
    pw := addWrites c.d ws x.pw
    grp := grpAfter o c ((s.toIssue w o).pair w.pair).r.le }).advance w.pair c.pc c.next none

/-- The same where the instruction changes nothing but registers, by writes at a distance. -/
def State.done (s : State) (w : WOp) (o : IOp) (ws : List (Nat × Nat × Nat)) : State := s.ends w o (s.atIssue w o) ws

/-- The end of an instruction that jumps (R264, R305). -/
def State.jumps (s : State) (w : WOp) (o : IOp) (u : State) (ws : List (Nat × Nat × Nat)) (a : Nat) : State :=
  let c := s.ctxOf w o
  let x := u.pair w.pair
  (u.setPair w.pair { x with pw := addWrites c.d ws x.pw }).advance w.pair c.pc c.next (some a)

/-- The writes of an arithmetic result: to G register `dest`, or to an accumulator, with its flags and SAT (R258, R298 to R304). -/
def resultWrites (acc72 : Bool) (lam dest : Nat) (a : Alu) : List (Nat × Nat × Nat) :=
  let l := if acc72 then 3 else lam
  (if acc72 then [(3, 16 + dest, a.val), (1, 20 + dest, a.val)] else [(lam, dest, a.val)]) ++
    (match a.nzcv with
      | some f => [(l, 24, f)]
      | none => []) ++ (if a.sat then [(l, 25, 1)] else [])

/-- The writes of flags without a result. -/
def flagWrites (lam : Nat) (a : Alu) : List (Nat × Nat × Nat) :=
  match a.nzcv with
  | some f => [(lam, 24, f)]
  | none => []

/-! ### Rows of the instruction tables (R303): the operands an instruction reads, and the result it writes -/

/-- The A operand: a G register, or an accumulator under 0xE7. -/
def opndA (w : WOp) (r : Regs) (x : Nat) : Nat := if hasPfx w pACC then r.ar (fA x) else r.gr (fA x)

/-- The B operand: a G or L register, or an accumulator under 0xE7 where it is no shift count. -/
def opndB (w : WOp) (r : Regs) (y : Nat) (isCount : Bool) : Nat := if hasPfx w pACC && !isCount then r.ar (fB y) else r.srcB y

/-- Instruction `i` of form XY writes the result `f` of its operands, `lam` pipe cycles on, for every prefix it accepts and every
register it names. -/
def RowXY (i : WOp → Nat → Nat → Instr) (acc : List Nat) (mayL flags isCount : Bool) (lam : WOp → Nat)
    (f : WOp → Regs → Nat → Nat → Alu) : Prop :=
  ∀ (s : State) (w : WOp) (x y : Nat),
    let o := opXY w x y acc mayL true flags isCount
    let r := s.reads w o
    s.Issues w o → (s.atIssue w o).waitB (s.ctxOf w o) y = false →
    exec (i w x y) s =
      .next (s.done w o (resultWrites (hasPfx w pACC) (lam w) (fD x) (f w r (opndA w r x) (opndB w r y isCount))))

/-- Instruction `i` of form XY writes flags only. -/
def RowXYFlags (i : WOp → Nat → Nat → Instr) (acc : List Nat) (mayL : Bool) (f : WOp → Nat → Nat → Alu) : Prop :=
  ∀ (s : State) (w : WOp) (x y : Nat),
    let o := opXY w x y acc mayL false true false
    let r := s.reads w o
    s.Issues w o → (s.atIssue w o).waitB (s.ctxOf w o) y = false →
    exec (i w x y) s = .next (s.done w o (flagWrites 1 (f w (opndA w r x) (opndB w r y false))))

/-- Instruction `i` of form XI. -/
def RowXI (i : WOp → Nat → Nat → Instr) (acc : List Nat) (lam : WOp → Nat) (f : WOp → Nat → Nat → Alu) : Prop :=
  ∀ (s : State) (w : WOp) (x imm : Nat),
    let o := opXI w x acc true
    let r := s.reads w o
    s.Issues w o →
    exec (i w x imm) s = .next (s.done w o (resultWrites false (lam w) (fD x) (f w (r.gr (fA x)) (immOf w imm))))

/-- Instruction `i` of form X with an arithmetic result. -/
def RowX (i : WOp → Nat → Instr) (acc : List Nat) (flags : Bool) (lam : WOp → Nat) (f : WOp → Nat → Alu) : Prop :=
  ∀ (s : State) (w : WOp) (x : Nat),
    let o := opX w x acc flags
    let r := s.reads w o
    s.Issues w o →
    exec (i w x) s = .next (s.done w o (resultWrites (hasPfx w pACC) (lam w) (fD x) (f w (opndA w r x))))

/-- Instruction `i` of form XK. -/
def RowXK (i : WOp → Nat → Nat → Instr) (acc : List Nat) (f : WOp → Nat → Nat → Alu) : Prop :=
  ∀ (s : State) (w : WOp) (x k : Nat),
    let o := opXK w x k acc
    let r := s.reads w o
    s.Issues w o →
    exec (i w x k) s = .next (s.done w o (resultWrites (hasPfx w pACC) 2 (fD x) (f w (opndA w r x) k)))

/-- An instruction writes registers, at distances, from the registers it reads. -/
def RowWrites (i : Instr) (w : WOp) (o : IOp) (ws : Regs → List (Nat × Nat × Nat)) : Prop :=
  ∀ s : State, s.Issues w o → exec i s = .next (s.done w o (ws (s.reads w o)))

/-- Writes of a whole accumulator: for every reader, and for the accumulating instructions (R260, R304). -/
def accWrites (k v : Nat) : List (Nat × Nat × Nat) := [(3, 16 + k, v), (1, 20 + k, v)]

/-! ### Data accesses of an instruction -/

/-- A load from `va` gives `v` and leaves `u`: no stack limit, no fault, no wait, no watched access (R268 to R270, R274). -/
structure State.Gives (s : State) (w : WOp) (o : IOp) (base va size : Nat) (u : State) (v : Nat) : Prop where
  limit : (s.atIssue w o).belowLimit w.pair base va = false
  load : (s.atIssue w o).rawLoad (s.ctxOf w o) va size = (u, .ok v)
  steps : (u.pair w.pair).stepping = false
  watch : (u.pair w.pair).dbgDue = none
  unwatched : u.watchHit w.pair va size true false = none

/-- A store of `v` to `va` is accepted by the store buffer and leaves `u`. -/
structure State.Takes (s : State) (w : WOp) (o : IOp) (base va size v : Nat) (u : State) : Prop where
  limit : (s.atIssue w o).belowLimit w.pair base va = false
  store : ∃ q, (s.atIssue w o).rawStore (s.ctxOf w o) va size v = (u, .ok q)
  steps : (u.pair w.pair).stepping = false
  watch : (u.pair w.pair).dbgDue = none
  unwatched : u.watchHit w.pair va size false true = none

/-- The write of an updated base register. -/
def baseWrites (b : Option (Nat × Nat)) : List (Nat × Nat × Nat) :=
  match b with
  | some (g, v) => [(1, g, v)]
  | none => []

/-- What a load of `size` bytes writes: a G register, a pair of them, or an accumulator (R303). -/
def loadWrites (size dest : Nat) (signed toAcc : Bool) (v : Nat) : List (Nat × Nat × Nat) :=
  if toAcc then accWrites dest (wrap 72 (sgn 64 v))
  else if size = 8 then [(3, dest, v % 2 ^ 32), (3, dest + 1, v / 2 ^ 32)]
  else [(3, dest, if signed then wrap 32 (sgn (8 * size) v) else v)]

/-- Instruction `i` loads `size` bytes. -/
def RowLoad (i : WOp → Nat → Nat → Nat → Instr) (size : Nat) (signed toAcc : Bool) : Prop :=
  ∀ (s : State) (w : WOp) (x m disp : Nat) (u : State) (v : Nat),
    let o := opLoad w x m size toAcc
    let e := effAddr (s.reads w o) w x m disp size
    s.Issues w o → s.Gives w o (fA x) e.1 size u v →
    exec (i w x m disp) s = .next (s.ends w o u (loadWrites size (fD x) signed toAcc v ++ baseWrites e.2))

/-- Instruction `i` stores `size` bytes of one G register, or of a pair of them. -/
def RowStore (i : WOp → Nat → Nat → Nat → Instr) (size : Nat) : Prop :=
  ∀ (s : State) (w : WOp) (x m disp : Nat) (u : State),
    let o := opStore w x m size
    let r := s.reads w o
    let e := effAddr r w x m disp size
    let v := if size = 8 then r.gr (fD x) + 2 ^ 32 * r.gr (fD x + 1) else r.gr (fD x) % 2 ^ (8 * size)
    s.Issues w o → s.Takes w o (fA x) e.1 size v u →
    exec (i w x m disp) s = .next (s.ends w o u (baseWrites e.2))

/-- What MAC, MSU and MPY write, `f` of the accumulator as they read it and the product (R260, R299). -/
def macWrites (w : WOp) (x y : Nat) (f : Int → Int → Int) (r : Regs) : List (Nat × Nat × Nat) :=
  let v := f (sgn 72 (r.am.getD (fD x) 0)) (prodA (hasPfx w p16) (r.gr (fA x)) (r.gr (fB y)))
  let q := if hasPfx w pNOSAT then fitS 72 none v
    else if hasPfx w pSAT then (wrap 72 (satS 64 v), ovfS 64 v) else fitS 72 (some 72) v
  accWrites (fD x) q.1 ++ if q.2 then [(3, 25, 1)] else []

/-- Instruction `i` reads and writes its word in memory as `kind` of `atomicNew` says; the pair then waits for the old value. -/
def RowAtomic (i : Instr) (w : WOp) (wide : Bool) (x m disp kind : Nat) (y : Option Nat) : Prop :=
  ∀ (s t u : State) (pa old : Nat),
    let o := opAtomic w wide x m y
    let r := s.reads w o
    let size := if wide then 8 else 4
    let va := (effAddr r w x m disp size).1
    let v := r.opnd wide (fD x)
    let cmp := r.opnd wide (y.getD 0)
    s.Issues w o → va % size = 0 → (s.atIssue w o).belowLimit w.pair (fA x) va = false →
    (s.atIssue w o).translate w.pair va 3 (s.ctxOf w o).user = (t, .inr pa) → (t.pair w.pair).sb = [] →
    (t.pair w.pair).replay = [] → t.lockedAccess w.pair pa size kind v cmp = (u, old, 0) →
    ∃ z b, exec i s = .next z ∧ z.mem = u.mem ∧ (z.pair w.pair).unb = some b ∧ b.resp = some ⟨false, old⟩ ∧ b.dest = fD x ∧
      b.size = size ∧ b.lock = kind ∧ b.cmp = cmp ∧ b.base = none

/-- Instruction `i` starts operation `res` in a long unit that is free, for `cycles` core cycles (R267, R308). -/
def RowLong (i : Instr) (w : WOp) (o : IOp) (unit cycles : Nat) (res : Regs → List (Nat × Nat)) : Prop :=
  ∀ s : State, s.Issues w o →
    let u := s.atIssue w o
    let x := u.pair w.pair
    (x.longs.any fun e => e.unit == unit) = false → (res x.r).any (fun e => u.lBusy w.pair e.1) = false →
    exec i s = .next (s.ends w o
      (u.setPair w.pair { x with longs := x.longs ++ [⟨unit, res x.r, u.coreCycle w.pair + cycles, false⟩] }) [])

/-- What a long resumable instruction leaves once its elements are done, `k` of them from the resumption on: the cycles they
take, PROG 0, and its result (R284, R309). -/
def State.lrDone (s : State) (w : WOp) (o : IOp) (u : State) (k cyc : Nat) (fin : State → State) : State :=
  let c := s.ctxOf w o
  ((fin (u.setPair w.pair { u.pair w.pair with dist := c.d + max 1 (k * cyc) - 1 })).updR w.pair fun g =>
    { g with prog := 0 }).setLrs w.pair {}

/-- The 16-element point at which such an instruction stands between two issues: PROG names the next element (R284). -/
def State.lrStands (s : State) (w : WOp) (o : IOp) (u : State) (done cyc prog : Nat) : State :=
  let x := u.pair w.pair
  u.setPair w.pair { x with
    dist := (s.ctxOf w o).d + max 1 (done * cyc) - 1
    r := { x.r with prog := prog }
    lrs := {}
    inLr := true }

/-- Long resumable instruction `i`, of `nOf` elements and at most `limit`, does the elements to its next 16-element point from where
PROG names; `u` is what they leave, `k` the first not done. It then completes, or stands at its point (R284, R309). -/
def RowLr (i : Instr) (w : WOp) (o : IOp) (nOf : Regs → Nat) (limit cyc : Nat) (start : State → Prop)
    (elem : Ctx → Regs → State → Nat → State × Elem) (fin : Ctx → Nat → State → State) : Prop :=
  ∀ (s u : State) (k : Nat),
    let r := s.reads w o
    let c := s.ctxOf w o
    let n := nOf r
    let k0 := bits r.prog 0 24
    let t := s.atIssue w o
    s.Issues w o → n ≠ 0 → n ≤ limit → start t →
    lrLoop (lrElem w.pair (elem c r)) n (t.lrFuel w.pair) (t.lrResume w.pair) k0 = (u, k, .more) →
    (u.pair w.pair).stepping = false → (u.pair w.pair).dbgDue = none →
    (n ≤ k → exec i s = .next (s.ends w o (s.lrDone w o u (k - k0) cyc (fin c n)) [])) ∧
    (k < n → exec i s = .next (s.lrStands w o u (k - k0) cyc (prog24 k)))

/-- The instruction `i` that a pair has fetched takes the illegal-instruction exception: vector 0x020, EPC its own address, the
PSW saved, supervisor mode with EXL (R278, R303). -/
def TakesIllegal (i : Instr) (w : WOp) (o : IOp) (s : State) : Prop :=
  let x := ((s.atIssue w o).pair w.pair).drain
  s.Fetches w o → x.r.exl = false →
  ∃ t, exec i s = .next t ∧ (t.pair w.pair).r.pc = 0x020 ∧ (t.pair w.pair).r.sys48 0x00 = (s.ctxOf w o).pc % 2 ^ 48 ∧
    (t.pair w.pair).r.sysr 0x02 = x.r.psw % 2 ^ 32 ∧ (t.pair w.pair).r.psw = setBit (setBits x.r.psw 0 2 1) 3 true ∧
    (t.pair w.pair).r.g = x.r.g ∧ t.mem = (s.atIssue w o).mem

/-! ### Register accesses -/

/-- The access `a` is made where its address leads: what lies there has power and a clock, the decoder lets the requester
through, the logical tile it names does not move, and it waits there for nothing: a software firing of the same tick, a frozen memory, a mirror
gate, or a held access of the same requester (R24, R25, R36, R37, R40, R232, R321, R356, R389, R400). -/
structure State.Arrives (s : State) (tg : Target) (a : Access) : Prop where
  leads : target s.phys a.addr = tg
  on : s.targetOn tg = true
  allowed : privileged tg a = false
  role : s.roleRefuses tg a = false
  still : ∀ lt, aliasOf a.addr = some lt → s.moving lt = false
  clocked : ∀ i, targetIsland tg = some i → s.isleStopped i = false
  free : s.waitsAt tg a = false

/-- The access reaches offset `off` of page `p`, whose block is out of reset (R42). -/
structure State.Reaches (s : State) (p : Page) (off : Nat) (a : Access) : Prop extends s.Arrives (.page p off) a where
  ready : s.pageReady p = true

/-- A write of the word `data` by `req` reaches the register at `off` of page `p`; where the word keeps the order of its writes as a whole, no
higher requester has written it in the same cycle (R41). -/
def State.Writes (s : State) (p : Page) (off req data : Nat) : Prop :=
  s.Reaches p off ⟨req, p.base + off, 4, true, data⟩ ∧ data < 2 ^ 32 ∧ s.wordUnder p off 4 req = false

/-- A read of the word at `off` of page `p` by `req` reaches it. -/
def State.Reads (s : State) (p : Page) (off req : Nat) : Prop := s.Reaches p off ⟨req, p.base + off, 4, false, 0⟩

/-- What a page sees of a word written by `req`. -/
def State.wrOf (s : State) (p : Page) (req data : Nat) : Wr := ⟨req, 4, data, s.lockOpen p req⟩

/-- The end of an access that the page takes: a cause is recorded in the page, and the response carries no bus error. -/
def State.finish (s : State) (p : Page) (cause : Nat) (a : Access) (v : Nat) : State :=
  (if cause = 0 then s else s.recordErr p.base cause a).respond a.req false v

/-- The end of a write of the word `data` at `off` of page `p`, whose effect left `u`: the order of the cycle's writes is noted where the
word keeps it as a whole (R41), the launches end whose generators the write has taken out of ARMED (R214), a cause other than 0 is recorded, and
the response carries no bus error. -/
def State.wrote (u : State) (p : Page) (off req data : Nat) (cause : Nat := 0) : State :=
  ((u.noteWord p off 4 req).afterWrite p).finish p cause ⟨req, p.base + off, 4, true, data⟩ 0

/-- No refiring stages another tile's copy of the page (R368). -/
def State.unstaged (s : State) (p : Page) : Prop := p.ty = .pwmg → s.stagedFor p.owner = none

/-- No tile in SHADOW mirrors what the tile takes (R368). -/
def State.lone (s : State) (t : Nat) : Prop := ∀ r, s.refireOf (t / 10) = some r → ¬(s.shadowTile r.phys = true ∧ s.phys r.lt = t)

/-- Pages whose registers are only fields with the access codes of R13. -/
def plainPage (t : PageT) : Bool :=
  match t with
  | .dev | .otp | .mgmt | .xspi | .dnoc | .clu | .cnoc | .csram | .tile | .csto | .lprg | .mmu | .tsram => true
  | _ => false

/-- What a slot of a word shows after a write of `new` there over `old`, with the lock open or not, under a write of a higher
requester in the same cycle or not, and with the bits `hw` set by hardware in that cycle (R13, R41, R46). -/
def writtenSlot (acc : Acc) (opn under : Bool) (hw old new : Nat) : Nat :=
  match acc with
  | .rw => if under then old else new
  | .rwl => if opn && !under then new else old
  | .w1c => old - (old &&& (new - (new &&& hw)))
  | _ => old

/-- A field that requester `req` writes as `v`: a write of a higher requester in the same cycle stands (R41). -/
def State.softF (s : State) (b : Nat) (f : Fld) (req v : Nat) : State := s.softSlot b ⟨f, f.lo, f.w, 0⟩ req v

/-! ### Loop steps -/

/-- The run `r` of slice `k` of tile `t` stands at a step of code `op`, its pair's tick has come, and the word is good (R110, R127). -/
structure State.AtStep (s : State) (t k op : Nat) (r : Run) (rest : List Run) : Prop where
  runs : s.runsAt t k = r :: rest
  due : r.enter + r.pairs ≤ s.tick
  code : bits (s.stepAt t r.pc) 0 8 = op
  good : SMap.has s.loop.progBad (4096 * t + r.pc) = false

/-- Loop step `i`, of code `op`, makes `f` of the run and the step word. -/
def RowStep (i : Nat → Nat → Instr) (op : Nat) (f : Run → Nat → Run) : Prop :=
  ∀ (s : State) (t k : Nat) (r : Run) (rest : List Run),
    s.AtStep t k op r rest → exec (i t k) s = .next (s.stepDone t k r rest (f r (s.stepAt t r.pc)))

/-- A step that writes the value `f` to V[D], Z and N following it. -/
def RowValue (i : Nat → Nat → Instr) (op : Nat) (f : Run → Nat → Nat) : Prop :=
  RowStep i op fun r w => (r.setV (stD w) (f r w)).next

/-- A step that writes the signed value `f` to V[D], saturated, or wrapped with NOSAT. -/
def RowSum (i : Nat → Nat → Instr) (op : Nat) (f : Int → Int → Int) : Prop :=
  RowStep i op fun r w => (r.put (stD w) (q31 (stNOSAT w) (f (r.sreg (stA w)) (r.sreg (stB w))))).next

/-! ### Cell links -/

/-- The receiver of direction `d` of ring `r` takes the frame that the line's blocks hold by its polarity and descrambled: the ring runs,
its lane has block lock and is out of reset, no other frame is partly received, HCRC, LEN and CRC-32 hold, its type is `ty`, and it has the
number of data blocks of its type (R171 to R178). -/
structure State.Hears (s : State) (r d : Nat) (line : List LineBlock) (sof : Nat) (blocks : List Nat) (crc ty : Nat) : Prop where
  plain : line.map (s.linePlain (rxLane r d)) = frameLine sof blocks crc
  on : s.rxOpen r d = true
  idle : (s.ring r).rx d = none
  head : crc8 (natBytes sof 6) = bits sof 48 8
  len : blocks.length = bits sof 32 4
  word : crc < 2 ^ 32
  body : frameCrc sof blocks = crc
  type : bits sof 0 4 = ty
  count : typeBlocks ty blocks.length = true

/-- What a valid up frame of position `pos` leaves: the tick of its last one, and a join started where it is not UP (R193, R194). -/
def State.heardUp (s : State) (r pos : Nat) : State :=
  (s.setRing r ((s.ring r).setPlace pos { (s.ring r).place pos with upAt := s.tick })).startJoin r pos

/-- A node takes the frame that the line's blocks hold descrambled: its checks hold, its type is `ty`, and it is a broadcast or for the
node's own position (R171, R176). -/
structure State.NodeHears (s : State) (k : Nat) (line : List LineBlock) (sof : Nat) (blocks : List Nat) (crc ty : Nat) : Prop where
  plain : line.map plainBlock = frameLine sof blocks crc
  head : crc8 (natBytes sof 6) = bits sof 48 8
  type : bits sof 0 4 = ty
  len : blocks.length = bits sof 32 4
  mine : bit sof 5 = true ∨ ((s.node k).assigned = true ∧ bits sof 6 5 = (s.node k).pos)
  word : crc < 2 ^ 32
  body : frameCrc sof blocks = crc

/-- The reference generator of a launch is ARMED and its job enabled (R214). -/
def State.refArmed (s : State) (c : Nat) (l : Launch) : Bool :=
  let q := s.jobRef c l.job
  s.genState q.1 q.2 == 3 && s.flag (pgJOB c l.job) F.JOB_CTRL_EN

/-! ### Queues -/

/-- The credits of a queue add up to its size, and its counts agree (R345). -/
def Queue.Adds (q : Queue) : Prop := q.level + q.free + q.rsvd = q.cap ∧ q.pushed % 2 ^ 64 = (q.popped + q.level) % 2 ^ 64

/-! ### Pages by the number of what they serve -/

def pageTBAS : Page := ⟨.tbas, pgTBAS, 0, 0⟩
def pageTIMR (t : Nat) : Page := ⟨.timr, pgTIMR t, 0, t⟩
/-- The page of a tile's watchdog, and of the keeper's, number 40 (R77), with the distance of the watchdog's registers in it. -/
def pageWDOG (t : Nat) : Page := if t < 40 then ⟨.wdog, pgWDOG t, 0, t⟩ else ⟨.keep, pgKEEP, 0, 0⟩
def offWDOG (t off : Nat) : Nat := if t < 40 then off else off + 0x40
def pageAFE (c : Nat) : Page := ⟨.afe, pgAFE c, 0, c⟩
def pageADC (n : Nat) : Page := ⟨.adc, pgADC n, n % 16, n / 16⟩
def pageCMPR (n : Nat) : Page := ⟨.cmpr, pgCMPR n, n % 16 / 4, n / 16⟩
def pageCAPT (c : Nat) : Page := ⟨.capt, pgCAPT c, 0, c⟩
def pagePWMG (t g : Nat) : Page := ⟨.pwmg, pgPWMG t g, g / 16, t⟩
def pageRING (r : Nat) : Page := ⟨.ring, pgRING r, r % 32, r / 32⟩
def pageSERD (l : Nat) : Page := ⟨.serd, pgSERD l, l % 64 / 32, l / 64⟩
def pageJOB (c j : Nat) : Page := ⟨.fcst, pgJOB c j, j + 1, c⟩
def pageKLOG (c : Nat) : Page := ⟨.klog, pgKLOG c, 0, c⟩
def pageLATH (l k : Nat) : Page :=
  if l < 64 then ⟨.tlath, pgTLATH l k, k, l⟩ else if l < 72 then ⟨.clath, pgCLATH (l - 64) k, k, l - 64⟩ else ⟨.dlath, pgDLATH k, k, 0⟩
/-- The page of a tile's interrupt controller, and of the device's, number 40. -/
def pageINTC (t : Nat) : Page := if t < 40 then ⟨.intc, pgINTC t, 0, t⟩ else ⟨.dintc, pgDINTC, 0, 0⟩
def pageCORE (p : Nat) : Page := ⟨.core, pgCORE p, p % 2, p / 2⟩
def pageDROLE : Page := ⟨.drole, pgDROLE, 0, 0⟩
def pageKEEP : Page := ⟨.keep, pgKEEP, 0, 0⟩
def pageKEEL : Page := ⟨.keel, pgKEEL, 0, 0⟩
def pageCLKG : Page := ⟨.clkg, pgCLKG, 0, 0⟩
def pagePWRD : Page := ⟨.pwrd, pgPWRD, 0, 0⟩
def pageRSTC : Page := ⟨.rstc, pgRSTC, 0, 0⟩
def pageMEAS : Page := ⟨.meas, pgMEAS, 0, 0⟩
def pageGRPL : Page := ⟨.grpl, pgGRPL, 0, 0⟩
def pageDMAC (t n : Nat) : Page := ⟨.dmac, pgDMAC t n, n / 8, t⟩
def pageQMGR (t k : Nat) : Page := ⟨.qmgr, pgQMGR t k, k, t⟩
def pageIOMMU (t : Nat) : Page := ⟨.iommu, pgIOMMU t, 0, t⟩
def pageHLCK (t : Nat) : Page := ⟨.hlck, pgHLCK t, 0, t⟩
def pageHBMC (c k : Nat) : Page := ⟨.hbmc, pgHBMC c k, k, c⟩
def pageLENG (t : Nat) : Page := ⟨.leng, pgLENG t, 0, t⟩

/-! ### Generators -/

/-- PWMG_CTRL of a generator reads `old`: RUN, ARM, CLR_REQ and SH_HOLD. -/
structure State.CtrlShows (s : State) (t g old : Nat) : Prop where
  word : s.wordAt (pgPWMG t g + (0x80 + 0x60 * (g % 16))) = old
  small : old < 16
  run : bit old 0 = s.flag (pgPWMG t g) (F.PWMG_CTRL_RUN (g % 16))
  arm : bit old 1 = s.flag (pgPWMG t g) (F.PWMG_CTRL_ARM (g % 16))
  clr : bit old 2 = s.flag (pgPWMG t g) (F.PWMG_CTRL_CLR_REQ (g % 16))
  hold : bit old 3 = s.flag (pgPWMG t g) (F.PWMG_CTRL_SH_HOLD (g % 16))

/-- PWMG_CTRL is written as `v`; SH_HOLD is written as it stands. -/
def State.WritesCtrl (s : State) (t g req old v : Nat) : Prop :=
  s.CtrlShows t g old ∧ s.Writes (pagePWMG t g) (0x80 + 0x60 * (g % 16)) req v ∧ g < 256 ∧ s.unstaged (pagePWMG t g)

/-- The end of a write of a register of a generator. -/
def State.genWrote (u : State) (t g off req data : Nat) (cause : Nat := 0) : State :=
  u.wrote (pagePWMG t g) off req data cause

end Sys2Proof.Machine
end

