-- ==== Sys2Proof/Certificates/Slice0/Obligations.lean ====
section
/-! DEFINITION. Certificates/Slice0/Obligations.lean: the statements about the block. Each docstring names the rules it
formalises; where a clause rests on a choice of the model, it names the log entry. -/

open Sys2Proof Sys2Proof.Machine

/-! ### Core pairs: the rows of the instruction tables (R303, R307 to R310) -/

/-- R303: integer and Q arithmetic of form XY. Choices of the model that clauses rest on: log entry 30. -/
def Obligations.ArithmeticXY : Prop :=
  RowXY .iAdd accAll true true false lamS (fun w _ a b => addAlu (widthOf w) (limOf w false) a b 0) ∧
  RowXY .iSub accAll true true false lamS (fun w _ a b => subAlu (widthOf w) (limOf w false) a b 0) ∧
  RowXY .iAdc accArith false true false lamS (fun w r a b => addAlu (widthOf w) (limOf w false) a b (bit r.psw 18).toNat) ∧
  RowXY .iSbc accArith false true false lamS (fun w r a b => subAlu (widthOf w) (limOf w false) a b (!bit r.psw 18).toNat) ∧
  RowXY .iAnd [] true true false (fun _ => 1) (fun _ _ a b => bitAlu (a &&& b)) ∧
  RowXY .iOr [] true true false (fun _ => 1) (fun _ _ a b => bitAlu (a ||| b)) ∧
  RowXY .iXor [] true true false (fun _ => 1) (fun _ _ a b => bitAlu (a ^^^ b)) ∧
  RowXY .iAndn [] true true false (fun _ => 1) (fun _ _ a b => bitAlu (a &&& (b ^^^ 0xFFFFFFFF))) ∧
  RowXY .iMin [p16] true false false (fun _ => 1)
    (fun w _ a b => plain (widthOf w) (if sgn (widthOf w) a ≤ sgn (widthOf w) b then a else b)) ∧
  RowXY .iMax [p16] true false false (fun _ => 1)
    (fun w _ a b => plain (widthOf w) (if sgn (widthOf w) a ≤ sgn (widthOf w) b then b else a)) ∧
  RowXY .iMinu [] false false false (fun _ => 1) (fun _ _ a b => plain 32 (min a b)) ∧
  RowXY .iMaxu [] false false false (fun _ => 1) (fun _ _ a b => plain 32 (max a b)) ∧
  RowXYFlags .iCmp [p16, pACC] true (fun w a b => subAlu (widthOf w) none a b 0) ∧
  RowXYFlags .iTst [] false (fun _ a b => bitAlu (a &&& b))

/-- R303: shifts by B[5:0], or by B[4:0] for ROR, and by a constant. -/
def Obligations.Shifts : Prop :=
  RowXY .iShl accAll false true true (fun _ => 2) (fun w _ a b => shlAlu (widthOf w) (limOf w false) a (b % 64)) ∧
  RowXY .iShr [p16] false true true (fun _ => 2) (fun w _ a b => shrAlu (widthOf w) a (b % 64)) ∧
  RowXY .iAsr (pRnd ++ [p16, pACC]) false true true (fun _ => 2) (fun w _ a b => asrAlu (widthOf w) (rndOf w 3) a (b % 64)) ∧
  RowXY .iRor [] false true true (fun _ => 2) (fun _ _ a b => rorAlu a (b % 32)) ∧
  RowXK .iShli accAll (fun w a n => shlAlu (widthOf w) (limOf w false) a n) ∧
  RowXK .iShri [p16] (fun w a n => shrAlu (widthOf w) a n) ∧
  RowXK .iAsri (pRnd ++ [p16, pACC]) (fun w a n => asrAlu (widthOf w) (rndOf w 3) a n) ∧
  RowXK .iRori [] (fun _ a n => rorAlu a n)

/-- R303: arithmetic with an immediate, and of one register. -/
def Obligations.ArithmeticXIAndX : Prop :=
  RowXI .iAddi accArith lamS (fun w a b => addAlu (widthOf w) (limOf w false) a b 0) ∧
  RowXI .iAndi [] (fun _ => 1) (fun _ a b => bitAlu (a &&& b)) ∧
  RowXI .iOri [] (fun _ => 1) (fun _ a b => bitAlu (a ||| b)) ∧
  RowXI .iXori [] (fun _ => 1) (fun _ a b => bitAlu (a ^^^ b)) ∧
  (∀ (s : State) (w : WOp) (x imm : Nat), s.Issues w (opXI w x [p16] false) →
    exec (.iCmpi w x imm) s = .next (s.done w (opXI w x [p16] false)
      (flagWrites 1 (subAlu (widthOf w) none ((s.reads w (opXI w x [p16] false)).gr (fA x)) (immOf w imm) 0)))) ∧
  RowX .iNeg accAll true lamS (fun w a => subAlu (widthOf w) (limOf w false) 0 a 0) ∧
  RowX .iAbs accAll true lamS (fun w a => absAlu (widthOf w) (limOf w false) a) ∧
  RowX .iNot [] true (fun _ => 1) (fun _ a => bitAlu (a ^^^ 0xFFFFFFFF)) ∧
  RowX .iClz [] false (fun _ => 1) (fun _ a => plain 32 (clz a)) ∧
  RowX .iCls [] false (fun _ => 1) (fun _ a => plain 32 (cls a)) ∧
  RowX .iSexth [] false (fun _ => 1) (fun _ a => plain 32 (wrap 32 (sgn 16 a))) ∧
  RowX .iZexth [] false (fun _ => 1) (fun _ a => plain 32 (a % 2 ^ 16)) ∧
  RowX .iSextb [] false (fun _ => 1) (fun _ a => plain 32 (wrap 32 (sgn 8 a))) ∧
  RowX .iZextb [] false (fun _ => 1) (fun _ a => plain 32 (a % 2 ^ 8))

/-- R299 and R303: products and accumulators. Choices of the model that clauses rest on: log entry 30. -/
def Obligations.MultiplyAndAccumulate : Prop :=
  RowXY .iMul [p16] false false false lamH
    (fun w _ a b => plain 32 (if hasPfx w p16 then wrap 32 (sgn 16 a * sgn 16 b) else a * b)) ∧
  RowXY .iMulhs [] false false false (fun _ => 3) (fun _ _ a b => plain 32 (wrap 64 (sgn 32 a * sgn 32 b) / 2 ^ 32)) ∧
  RowXY .iMulhu [] false false false (fun _ => 3) (fun _ _ a b => plain 32 (a * b / 2 ^ 32)) ∧
  RowXY .iMulq (accArith ++ pRnd) false true false lamH
    (fun w _ a b => mulq (hasPfx w p16) (hasPfx w pNOSAT) (rndOf w 0) a b) ∧
  (∀ (w : WOp) (x y : Nat), RowWrites (.iMac w x y) w (opMac x y) (macWrites w x y fun a p => a + p)) ∧
  (∀ (w : WOp) (x y : Nat), RowWrites (.iMsu w x y) w (opMac x y) (macWrites w x y fun a p => a - p)) ∧
  (∀ (w : WOp) (x y : Nat), RowWrites (.iMpy w x y) w (opMac x y) (macWrites w x y fun _ p => p)) ∧
  (∀ (w : WOp) (x : Nat), RowWrites (.iMovr w x) w
    { bytes := 1, acc := accArith ++ pRnd, ok := decide (fA x < 4), dests := [fD x], flags := true }
    fun r => resultWrites false 3 (fD x) (movr (hasPfx w p16) (hasPfx w pNOSAT) (rndOf w 0) (r.ar (fA x)))) ∧
  (∀ (w : WOp) (x : Nat), RowWrites (.iMova w x) w { bytes := 1, ok := decide (fA x < 4) && decide (fD x < 4), dests := [16 + fD x] }
    fun r => accWrites (fD x) (r.ar (fA x))) ∧
  (∀ (w : WOp) (x : Nat), RowWrites (.iClra w x) w { bytes := 1, ok := fA x == 0 && decide (fD x < 4), dests := [16 + fD x] }
    fun _ => accWrites (fD x) 0) ∧
  (∀ (w : WOp) (x : Nat), RowWrites (.iMta w x) w { bytes := 1, acc := [p16], ok := decide (fD x < 4), dests := [16 + fD x] }
    fun r => accWrites (fD x)
      (if hasPfx w p16 then wrap 72 (2 ^ 48 * sgn 16 (r.gr (fA x))) else wrap 72 (2 ^ 32 * sgn 32 (r.gr (fA x))))) ∧
  (∀ (w : WOp) (x : Nat), RowWrites (.iMfag w x) w { bytes := 1, ok := decide (fA x < 4), dests := [fD x] }
    fun r => [(3, fD x, wrap 32 (sgn 8 (bits (r.ar (fA x)) 64 8)))]) ∧
  (∀ (w : WOp) (x : Nat), RowWrites (.iMtag w x) w { bytes := 1, ok := decide (fD x < 4), dests := [16 + fD x] }
    fun r => accWrites (fD x) (setBits (r.ar (fD x)) 64 8 (r.gr (fA x)))) ∧
  (∀ (w : WOp) (x : Nat), RowWrites (.iNorm w x) w { bytes := 1, ok := decide (fA x < 4), dests := [fD x] }
    fun r => [(3, fD x, norm (r.ar (fA x)))])

/-- R303, R306 and R311: moves, flags, loop control and features. Choices of the model that clauses rest on: log entry 30. -/
def Obligations.MovesFlagsAndLoops : Prop :=
  (∀ w : WOp, RowWrites (.iNop w) w { bytes := 0 } fun _ => []) ∧
  (∀ (w : WOp) (x : Nat), RowWrites (.iMov w x) w { bytes := 1, dests := [fD x] } fun r => [(1, fD x, r.gr (fA x))]) ∧
  (∀ (w : WOp) (x imm : Nat), RowWrites (.iMovi w x imm) w
    { bytes := 1 + immLen w, acc := [pLONG], ok := fA x == 0, dests := [fD x] } fun _ => [(1, fD x, immOf w imm)]) ∧
  (∀ (s : State) (w : WOp) (x : Nat),
    let o : IOp := { bytes := 1, ok := decide (fA x < 8), dests := [fD x] }
    s.Issues w o → (s.atIssue w o).lBusy w.pair (fA x) = false →
    exec (.iMovl w x) s = .next (s.done w o [(1, fD x, (s.reads w o).lrg (fA x))])) ∧
  (∀ (s : State) (w : WOp) (x : Nat),
    let o : IOp := { bytes := 1, ok := decide (fD x < 8), dests := [20 + fD x] }
    s.Issues w o → (s.atIssue w o).lBusy w.pair (fD x) = false →
    exec (.iMtl w x) s =
      .next (s.ends w o ((s.atIssue w o).updR w.pair fun r => { r with l := r.l.set (fD x) (r.gr (fA x)) }) [])) ∧
  (∀ (w : WOp) (x : Nat), RowWrites (.iMvfl w x) w { bytes := 1, ok := fA x == 0, dests := [fD x] }
    fun r => [(1, fD x, bits r.psw 16 5)]) ∧
  (∀ (w : WOp) (x : Nat), RowWrites (.iMtfl w x) w { bytes := 1, ok := fD x == 0, flags := true }
    fun r => [(1, 24, bits (r.gr (fA x)) 0 4), (1, 26, bits (r.gr (fA x)) 4 1)]) ∧
  (∀ w : WOp, RowWrites (.iClrsat w) w { bytes := 0 } fun _ => [(1, 26, 0)]) ∧
  (∀ (s : State) (w : WOp) (x y c : Nat),
    let o : IOp := { bytes := 3, ok := yOk true y && decide (c < 14), dests := [fD x] }
    let r := s.reads w o
    s.Issues w o → (s.atIssue w o).waitB (s.ctxOf w o) y = false →
    exec (.iSel w x y c) s = .next (s.done w o [(1, fD x, if holds r.psw c then r.gr (fA x) else r.srcB y)])) ∧
  (∀ (w : WOp) (x k : Nat), RowWrites (.iRdfeat w x k) w { bytes := 2, ok := fA x == 0 && decide (k < 8), dests := [fD x] }
    fun _ => [(1, fD x, featOf k)]) ∧
  (∀ (s : State) (w : WOp) (x disp : Nat), let o := loopOp w (fD x == 0)
    s.Issues w o → exec (.iLoop w x disp) s =
      .next (s.ends w o ((s.atIssue w o).startLoop w (s.ctxOf w o) disp ((s.reads w o).gr (fA x))).1 [])) ∧
  (∀ (s : State) (w : WOp) (k disp : Nat), let o := loopOp w (decide (1 ≤ k) && decide (k < 256))
    s.Issues w o → exec (.iLoopi w k disp) s = .next (s.ends w o ((s.atIssue w o).startLoop w (s.ctxOf w o) disp k).1 [])) ∧
  (∀ (w : WOp) (x k : Nat), RowWrites (.iMtlc w x k) w { bytes := 2, ok := fD x == 0 && decide (k < 2), dests := [28 + k] }
    fun r => if k = 0 then [(1, 27, r.gr (fA x)), (4, 28, r.gr (fA x))] else [(1, 29, r.gr (fA x))]) ∧
  (∀ (w : WOp) (x k : Nat), RowWrites (.iMflc w x k) w { bytes := 2, ok := fA x == 0 && decide (k < 2), dests := [fD x] }
    fun r => [(1, fD x, if k = 0 then r.lc0 else r.lc1)])

/-- R305 and R306: branches, where their conditions hold and where they do not, with the return address of calls. -/
def Obligations.Branches : Prop :=
  (∀ (s : State) (w : WOp) (cc disp : Nat), let o := opBrD w (decide (cc < 14)) []
    s.Issues w o → exec (.iBcc w cc disp) s =
      .next (if holds (s.reads w o).psw cc then s.jumps w o (s.atIssue w o) [] (target48 w (s.ctxOf w o) disp) else s.done w o [])) ∧
  (∀ (s : State) (w : WOp) (disp : Nat), let o := opBrD w true []
    s.Issues w o → exec (.iBra w disp) s = .next (s.jumps w o (s.atIssue w o) [] (target48 w (s.ctxOf w o) disp))) ∧
  (∀ (s : State) (w : WOp) (disp : Nat), let o := opBrD w true [14]
    s.Issues w o → exec (.iCall w disp) s = .next (s.jumps w o (s.atIssue w o) [(1, 14, (s.ctxOf w o).next % 2 ^ 32)]
      (target48 w (s.ctxOf w o) disp))) ∧
  (∀ (s : State) (w : WOp) (x : Nat), let o := opBrX (fD x == 0) []
    s.Issues w o → exec (.iJr w x) s = .next (s.jumps w o (s.atIssue w o) []
      (2 ^ 32 * ((s.ctxOf w o).next % 2 ^ 48 / 2 ^ 32) + (s.reads w o).gr (fA x)))) ∧
  (∀ (s : State) (w : WOp) (x : Nat), let o := opBrX (fD x == 0) [14]
    s.Issues w o → exec (.iCallr w x) s = .next (s.jumps w o (s.atIssue w o) [(1, 14, (s.ctxOf w o).next % 2 ^ 32)]
      (2 ^ 32 * ((s.ctxOf w o).next % 2 ^ 48 / 2 ^ 32) + (s.reads w o).gr (fA x)))) ∧
  (∀ (s : State) (w : WOp) (x : Nat), let o := opBrX (fD x == 0 && fA x % 2 == 0) []
    s.Issues w o → exec (.iJmpf w x) s = .next (s.jumps w o (s.atIssue w o) []
      ((s.reads w o).gr (fA x) + 2 ^ 32 * ((s.reads w o).gr (fA x + 1) % 2 ^ 16)))) ∧
  (∀ (s : State) (w : WOp) (disp : Nat), let o := opBrD w true [29]
    let n := (s.reads w o).lc1
    s.Issues w o → exec (.iBlc1 w disp) s =
      .next (if 2 ≤ n then s.jumps w o (s.atIssue w o) [(1, 29, n - 1)] (target48 w (s.ctxOf w o) disp)
        else s.done w o (if n = 0 then [] else [(1, 29, n - 1)])))

/-- R295 and R303: a load whose access gives a value writes its destination three pipe cycles on, and its base. Choices of the
model that clauses rest on: log entry 28. -/
def Obligations.Loads : Prop :=
  RowLoad .iLdW 4 false false ∧ RowLoad .iLdH 2 true false ∧ RowLoad .iLdHu 2 false false ∧ RowLoad .iLdB 1 true false ∧
  RowLoad .iLdBu 1 false false ∧ RowLoad .iLdD 8 false false ∧ RowLoad .iLda 8 false true ∧
  (∀ (w : WOp) (x m disp : Nat), RowWrites (.iLea w x m disp) w
    { bytes := memLen w m, acc := if fMode m = 0 then [pLONG] else [], port := true, ok := memOk m 1, dests := [fD x] }
    fun r => [(1, fD x, (effAddr r w x m disp 1).1)])

/-- R268, R295 and R303: a store that the store buffer takes. Choices of the model that clauses rest on: log entry 28. -/
def Obligations.Stores : Prop :=
  RowStore .iStW 4 ∧ RowStore .iStH 2 ∧ RowStore .iStB 1 ∧ RowStore .iStD 8 ∧
  (∀ (s : State) (w : WOp) (x m disp : Nat) (u : State),
    let o := opSta w x m
    let r := s.reads w o
    let e := effAddr r w x m disp 8
    let q := fitS 64 (if hasPfx w pSAT then some 64 else none) (sgn 72 (r.ar (fD x)))
    s.Issues w o → s.Takes w o (fA x) e.1 8 q.1 u →
    exec (.iSta w x m disp) s = .next (s.ends w o u (baseWrites e.2 ++ if q.2 then [(1, 25, 1)] else [])))

/-- R307: an atomic reads and writes its word in one step, and the pair waits for the old value. Choices of the model that clauses
rest on: log entry 28. -/
def Obligations.Atomics : Prop :=
  (∀ (w : WOp) (wide : Bool) (x m disp : Nat), RowAtomic (.iXchg w wide x m disp) w wide x m disp 1 none) ∧
  (∀ (w : WOp) (wide : Bool) (x m disp y : Nat), RowAtomic (.iCas w wide x m disp y) w wide x m disp 2 (some y)) ∧
  (∀ (w : WOp) (wide : Bool) (x m disp : Nat), RowAtomic (.iFadd w wide x m disp) w wide x m disp 3 none) ∧
  (∀ (w : WOp) (wide : Bool) (x m disp : Nat), RowAtomic (.iFand w wide x m disp) w wide x m disp 4 none) ∧
  (∀ (w : WOp) (wide : Bool) (x m disp : Nat), RowAtomic (.iFor w wide x m disp) w wide x m disp 5 none)

/-- R308: a long unit that is free takes the operation, and its result waits for its L register; MV3 reads its nine words first,
and its three rows wait for theirs. Choices of the model that clauses rest on: log entries 31 and 32. -/
def Obligations.LongUnits : Prop :=
  (∀ (w : WOp) (x y : Nat), RowLong (.iDiv w x y) w (opLongXY x y []) 0 20
    fun r => [(fD x, divS (r.gr (fA x)) (r.gr (fB y)))]) ∧
  (∀ (w : WOp) (x y : Nat), RowLong (.iDivu w x y) w (opLongXY x y []) 0 20
    fun r => [(fD x, divU (r.gr (fA x)) (r.gr (fB y)))]) ∧
  (∀ (w : WOp) (x y : Nat), RowLong (.iDivq w x y) w (opLongXY x y pRnd) 0 20
    fun r => [(fD x, divQ (rndOf w 2) (r.gr (fA x)) (r.gr (fB y)))]) ∧
  (∀ (w : WOp) (x : Nat), RowLong (.iSqrt w x) w (opLongX x 1 pRnd true) 1 18
    fun r => [(fD x, sqrtQ (rndOf w 0) (r.gr (fA x)))]) ∧
  (∀ (w : WOp) (x : Nat), RowLong (.iRecip w x) w (opLongX x 2 [] true) 2 10 fun r => [(fD x, recip (r.gr (fA x)))]) ∧
  (∀ (w : WOp) (x : Nat), RowLong (.iSincos w x) w (opLongX x 3 pRnd (fD x % 2 == 0)) 3 16
    fun r => [(fD x, sinQ (rndOf w 0) 0 (r.gr (fA x))), (fD x + 1, sinQ (rndOf w 0) 1 (r.gr (fA x)))]) ∧
  (∀ (s t u : State) (w : WOp) (x y : Nat) (m : List Nat),
      let o : IOp := { bytes := 2, esc := true, acc := pRnd, long := true, port := true,
                       ok := decide (fD x ≤ 5) && decide (y < 14), dests := [20 + fD x, 21 + fD x, 22 + fD x] }
      let r := s.reads w o
      let c := s.ctxOf w o
      let va := r.gr (fA x)
      let d := fD x
      let v := [r.gr (fB y), r.gr (fB y + 1), r.gr (fB y + 2)]
      let row := fun i => rowQ (rndOf w 0) ((m.drop (3 * i)).take 3) v
      let free := fun z : State => (((z.pair w.pair).longs.any fun e => e.unit == 4) || [d, d + 1, d + 2].any (z.lBusy w.pair)) = false
      s.Issues w o → free (s.atIssue w o) → (s.atIssue w o).belowLimit w.pair (fA x) va = false →
      (s.atIssue w o).mv3Bad c va = (t, none) → t.matrixAt c va 9 t [] = (u, .inr m) → u.watchHit w.pair va 36 true false = none →
      free u → (u.pair w.pair).stepping = false → (u.pair w.pair).dbgDue = none →
      exec (.iMv3 w x y) s = .next (s.ends w o (u.setPair w.pair { u.pair w.pair with
        longs := (u.pair w.pair).longs ++ [⟨4, [(d, row 0), (d + 1, row 1), (d + 2, row 2)], u.coreCycle w.pair + 12, false⟩] }) []))

/-- R284 and R309: block move, block fill, table search, matrix-vector multiply and sort, by their elements. Choices of the model
that clauses rest on: log entry 29. -/
def Obligations.LongResumable : Prop :=
  (∀ (w : WOp) (x n : Nat), RowLr (.iBmov w x n) w (lrOp (fB n == 0) [] []) (fun r => r.gr (fN n)) (2 ^ 24 - 1) 1
    (fun _ => True) (fun c r => bmovElem c (fD x) (fA x) (r.gr (fD x)) (r.gr (fA x))) fun _ _ s => s) ∧
  (∀ (w : WOp) (x n : Nat), RowLr (.iBfill w x n) w (lrOp (fA x == 0) [] []) (fun r => r.gr (fN n)) (2 ^ 24 - 1) 1
    (fun _ => True) (fun c r => bfillElem c (fD x) (r.gr (fD x)) (r.gr (fB n))) fun _ _ s => s) ∧
  (∀ (w : WOp) (x n : Nat), RowLr (.iTsrch w x n) w (lrOp true [fD x] []) (fun r => r.gr (fN n)) (2 ^ 24 - 1) 1
    (fun _ => True) (fun c r => tsrchElem c (fA x) (r.gr (fA x)) (r.gr (fB n))) fun c n s => s.lrResult c (fD x) n) ∧
  (∀ (s u : State) (w : WOp) (x n k v : Nat),
    let o := lrOp true [fD x] []
    let r := s.reads w o
    let c := s.ctxOf w o
    let k0 := bits r.prog 0 24
    s.Issues w o → r.gr (fN n) ≠ 0 → r.gr (fN n) ≤ 2 ^ 24 - 1 →
    lrLoop (lrElem w.pair (tsrchElem c (fA x) (r.gr (fA x)) (r.gr (fB n)))) (r.gr (fN n)) ((s.atIssue w o).lrFuel w.pair)
      ((s.atIssue w o).lrResume w.pair) k0 = (u, k, .stop v) →
    (u.pair w.pair).stepping = false → (u.pair w.pair).dbgDue = none →
    exec (.iTsrch w x n) s = .next (s.ends w o (s.lrDone w o u (k - k0) 1 fun s => s.lrResult c (fD x) v) [])) ∧
  (∀ (w : WOp) (x n : Nat), RowLr (.iMvm w x n) w (lrOp true [] pRnd) (fun r => r.gr (fN n)) (2 ^ 24 - 1) 4
    (fun z => ((z.pair w.pair).longs.any fun e => e.unit == 4) = false)
    (fun c r s k => match s.lrMatrix c (fB n) (r.gr (fB n)) with
      | (s, .inl (q, va)) => (s, .bad q va false)
      | (s, .inr m) => mvmElem (rndOf w 0) m c (fD x) (fA x) (r.gr (fD x)) (r.gr (fA x)) (s.lrBegin c.p) k) fun _ _ s => s) ∧
  (∀ (s u : State) (w : WOp) (x n k : Nat),
    let o := lrOp (fB n == 0) [] []
    let r := s.reads w o
    let c := s.ctxOf w o
    let m := r.gr (fN n)
    let passes := passesOf m 17 0
    let total := (passes + passes % 2) * m
    let k0 := bits r.prog 24 8 * m + bits r.prog 0 24
    s.Issues w o → m ≠ 0 → m ≤ 65536 →
    lrLoop (lrElem w.pair fun z e => z.sortStep c (fD x) (fA x) m passes e) total ((s.atIssue w o).lrFuel w.pair)
      ((s.atIssue w o).lrResume w.pair) k0 = (u, k, .more) →
    (u.pair w.pair).stepping = false → (u.pair w.pair).dbgDue = none →
    (total ≤ k → exec (.iSortk w x n) s = .next (s.ends w o (s.lrDone w o u (k - k0) 2 id) [])) ∧
    (k < total → exec (.iSortk w x n) s = .next (s.lrStands w o u (k - k0) 2 (k % m + 2 ^ 24 * (k / m)))))

/-- R273, R283, R303 and R310: the system registers, the interrupt enable, the wait and the fence. -/
def Obligations.SystemInstructions : Prop :=
  (∀ (w : WOp) (x k : Nat), RowWrites (.iMfs w x k) w
    { bytes := 2, esc := true, priv := true, mon := decide (0x40 ≤ k), ok := fA x == 0 && sysListed k, dests := [fD x] }
    fun r => [(1, fD x, r.sysRead w.pair k)]) ∧
  (∀ (s : State) (w : WOp) (x k : Nat),
    let o : IOp := { bytes := 2, esc := true, priv := true, mon := decide (0x40 ≤ k), solo := true, ok := fD x == 0 && sysListed k }
    let u := (s.atIssue w o).setPair w.pair ((s.atIssue w o).pair w.pair).drain
    let v := (u.pair w.pair).r.gr (fA x)
    s.Issues w o →
    (k ≠ 0x24 → exec (.iMts w x k) s = .next (s.ends w o (u.updR w.pair fun r => r.sysWrite k v) [])) ∧
    (k = 0x24 → ((u.drainAll w.pair).pair w.pair).stepping = false → ((u.drainAll w.pair).pair w.pair).dbgDue = none →
      exec (.iMts w x k) s = .next (s.ends w o ((u.drainAll w.pair).tlbi w.pair v) []))) ∧
  (∀ (s : State) (w : WOp),
    let o : IOp := { bytes := 0, esc := true, priv := true }
    s.Issues w o →
    exec (.iDi w) s = .next (s.ends w o ((s.atIssue w o).updR w.pair fun r => { r with psw := setBit r.psw 2 false }) []) ∧
    exec (.iEi w) s = .next (s.ends w o ((s.atIssue w o).updR w.pair fun r => { r with psw := setBit r.psw 2 true }) [])) ∧
  (∀ (s : State) (w : WOp),
    let o : IOp := { bytes := 0, esc := true, solo := true, atLE := false, priv := true }
    s.Issues w o → exec (.iWait w) s =
      .next (s.ends w o ((s.atIssue w o).setFlag (pgCORE w.pair) F.CORE_STAT_WAITING true) [])) ∧
  (∀ (s : State) (w : WOp),
    let o : IOp := { bytes := 0, esc := true, port := true }
    s.Issues w o → ((s.atIssue w o).pair w.pair).sb = [] → exec (.iFence w) s = .next (s.done w o []))

/-- R278: TRAP saves the address of the next instruction and the PSW, raises the mode and enters its vector; RETT goes back where
EPC and EPSW name, and after a machine check where MPC and MPSW name and the log is replayed (R352); both where the saved mode is
one that exists. Choices of the model that clauses rest on: log entry 33. -/
def Obligations.TrapAndReturn : Prop :=
  (∀ (s : State) (w : WOp) (k : Nat),
    let o : IOp := { bytes := 1, esc := true, solo := true, atLE := false, ok := decide (k < 256) }
    let x := ((s.atIssue w o).pair w.pair).drain
    s.Issues w o → x.r.exl = false →
    ∃ t, exec (.iTrap w k) s = .next t ∧
      (t.pair w.pair).r.pc = 0x400 + 16 * k ∧
      (t.pair w.pair).r.sys48 0x00 = (s.ctxOf w o).next % 2 ^ 48 ∧
      (t.pair w.pair).r.sysr 0x02 = x.r.psw % 2 ^ 32 ∧
      (t.pair w.pair).r.psw = setBit (setBits x.r.psw 0 2 1) 3 true ∧
      (t.pair w.pair).r.g = x.r.g ∧ t.mem = (s.atIssue w o).mem) ∧
  (∀ (s : State) (w : WOp),
    let o : IOp := { bytes := 0, esc := true, solo := true, atLE := false, priv := true }
    let x := ((s.atIssue w o).pair w.pair).drain
    s.Issues w o → x.r.mcl = false → bits (pswFix (x.r.sysr 0x02)) 0 2 ≠ 3 →
    exec (.iRett w) s = .next (s.jumps w o
      ((s.atIssue w o).setPair w.pair { x with r := { x.r with psw := pswFix (x.r.sysr 0x02) } }) [] (x.r.sys48 0x00))) ∧
  (∀ (s : State) (w : WOp),
    let o : IOp := { bytes := 0, esc := true, solo := true, atLE := false, priv := true }
    let x := ((s.atIssue w o).pair w.pair).drain
    s.Issues w o → x.r.mcl = true → bits (pswFix (x.r.sysr 0x0A)) 0 2 ≠ 3 →
    exec (.iRett w) s = .next (s.jumps w o
      (((s.atIssue w o).setPair w.pair { x with r := { x.r with psw := pswFix (x.r.sysr 0x0A) } }).startReplay w.pair) []
      (x.r.sys48 0x08)))

/-- R467 and R303: BRK enters debug where the breakpoint instruction is armed; without it, and for ILL and any opcode that no
table lists, the illegal-instruction exception is taken at the instruction, with EPC its own address. Choices of the model that
clauses rest on: log entry 33. -/
def Obligations.BreakAndIllegal : Prop :=
  (∀ (s : State) (w : WOp),
    let o : IOp := { bytes := 0, esc := true, ok := s.flag (pgCORE w.pair) F.CORE_DCTL_SWBP }
    let u := (s.atIssue w o).advance w.pair (s.ctxOf w o).pc (s.ctxOf w o).next none
    s.Issues w o → ((u.enterDebug w.pair 5).pair w.pair).stepping = false → ((u.enterDebug w.pair 5).pair w.pair).dbgDue = none →
    exec (.iBrk w) s = .next (u.enterDebug w.pair 5)) ∧
  (∀ (s : State) (w : WOp), s.flag (pgCORE w.pair) F.CORE_DCTL_SWBP = false →
    TakesIllegal (.iBrk w) w { bytes := 0, esc := true, ok := s.flag (pgCORE w.pair) F.CORE_DCTL_SWBP } s) ∧
  (∀ (s : State) (w : WOp), TakesIllegal (.iIll w) w { bytes := 0, esc := true, ok := false } s) ∧
  (∀ (s : State) (w : WOp) (esc op : Nat), TakesIllegal (.undefinedOpcode w esc op) w { bytes := 0, ok := false, undef := true } s)

/-! ## Chapters 01 and 02: accesses, the lock, error records, staging -/

/-- R37, R38 and R498: an access to a reserved range or to a page slot that nothing populates changes nothing but the error record,
with cause UNMAPPED or NO_PAGE, in the decoder's page, and returns a bus error to its requester; so does a write of another size
or alignment than R38 allows, with cause SIZE, in its page. -/
def Obligations.DecoderRefuses : Prop :=
  (∀ (s : State) (p : Page) (off req addr size data : Nat),
    let wr : Access := ⟨req, addr, size, true, data⟩
    s.Arrives (.page p off) wr → ¬((size = 4 ∧ addr % 4 = 0) ∨ (size = 8 ∧ addr % 8 = 0)) →
    exec (.registerWrite req addr size data) s = .next ((s.recordErr p.base 0x04 wr).respond req true 0)) ∧
  ∀ (s : State) (req addr size data : Nat),
    let wr : Access := ⟨req, addr, size, true, data⟩
    let rd : Access := ⟨req, addr, 4, false, 0⟩
    (target s.phys addr = .unmapped →
      exec (.registerWrite req addr size data) s = .next ((s.recordErr (decoderPage req) 0x01 wr).respond req true 0) ∧
      exec (.counterLoRead req addr) s = .next ((s.recordErr (decoderPage req) 0x01 rd).respond req true 0)) ∧
    (target s.phys addr = .noPage →
      exec (.registerWrite req addr size data) s = .next ((s.recordErr (decoderPage req) 0x02 wr).respond req true 0) ∧
      exec (.counterLoRead req addr) s = .next ((s.recordErr (decoderPage req) 0x02 rd).respond req true 0))

/-- R48: a write to the quiet view changes nothing but the error record, and returns a bus error with cause QUIET_WRITE. An access
whose size or alignment R38 does not allow is refused before it (R498). -/
def Obligations.QuietWrites : Prop :=
  ∀ (s : State) (p : Page) (off req addr size data : Nat),
    let wr : Access := ⟨req, addr, size, true, data⟩
    s.Arrives (.page p off) wr → 0x800 ≤ off → (size = 4 ∧ addr % 4 = 0) ∨ (size = 8 ∧ addr % 8 = 0) →
    exec (.registerWrite req addr size data) s = .next ((s.recordErr p.base 0x05 wr).respond req true 0)

/-- R39: an access to an offset where no register is defined completes: a read returns zero, a write changes nothing, and the page
records HOLE. An access to a page brings what the page derives from the time up to date: a read the ledgers, and a write of a
generator's page the launches that have ended. Choices of the model that clauses rest on: log entry 11. -/
def Obligations.UndefinedOffsets : Prop :=
  ∀ (s : State) (p : Page) (off req addr data : Nat),
    let wr : Access := ⟨req, addr, 4, true, data⟩
    let rd : Access := ⟨req, addr, 4, false, 0⟩
    0x30 ≤ off → off < 0x800 → p.slots off = none → addr % 4 = 0 → off % 4 = 0 →
    (s.Reaches p off wr → data < 2 ^ 32 → s.unstaged p →
      exec (.registerWrite req addr 4 data) s = .next ((s.afterWrite p).finish p 0x03 wr 0)) ∧
    (s.Reaches p off rd → exec (.counterLoRead req addr) s = .next ((s.pageSync p off).finish p 0x03 rd 0))

/-- R13, R41 and R46: what a write of a word leaves in each field of it, by the field's access code, in the pages whose registers
are only such fields, with the writes of one cycle in the order of their requesters and a W1C of a bit that hardware sets in that
cycle leaving it set; LOCKED is recorded where the closed lock kept an RWL field from changing. -/
def Obligations.AccessCodes : Prop :=
  ∀ (s : State) (p : Page) (off req addr data : Nat) (xs : List Slot),
    let wr : Access := ⟨req, addr, 4, true, data⟩
    s.Reaches p off wr → addr % 4 = 0 → 0x40 ≤ off → off < 0x800 → data < 2 ^ 32 → plainPage p.ty = true →
    p.slots off = some xs → (xs.map fun x => 64 * x.fld.off + x.fld.lo).Nodup →
    (∀ x ∈ xs, x.part + x.w ≤ x.fld.w) →
    ∃ u : State, ∃ c : Nat,
      exec (.registerWrite req addr 4 data) s = .next (u.finish p c wr 0) ∧
      (c = if xs.any fun x => x.fld.acc == .rwl && !s.lockOpen p req && bits data x.pos x.w != s.getSlot p.base x then 0x06 else 0) ∧
      (∀ x ∈ xs, u.getSlot p.base x = writtenSlot x.fld.acc (s.lockOpen p req) (s.softUnder p.base x.fld x.part req)
        (bits (s.hwBits p.base x.fld) x.part x.w) (s.getSlot p.base x) (bits data x.pos x.w)) ∧
      u.mem = s.mem ∧ u.bus = s.bus

/-- R45 and R46: what each write of LOCK_KEY makes of the sequence in progress and of the window, and when it records KEY_SEQ (a
second write in the cycle of the first comes one cycle after it, and the window that stood before a second write is kept for that
cycle); the window closes 257 cycles after the second write. -/
def Obligations.LockSequence : Prop :=
  (∀ (s : State) (p : Page) (req addr key : Nat),
    let wr : Access := ⟨req, addr - addr % 0x1000 + 0x024, 4, true, key⟩
    let c := s.cycle p.island
    let l := s.lockSt p.base
    let becomes := fun (x : LockSt) (cause : Nat) =>
      exec (.lockKeyWrite req addr key) s = .next
        ((({ s with bus.locks := SMap.put s.bus.locks p.base x } : State).afterWrite p).finish p cause wr 0)
    let others := ∃ r f, l.seq = some (r, f) ∧ r ≠ req
    s.Reaches p 0x24 wr → key < 2 ^ 16 → s.unstaged p →
    (key = 0xA5C3 → (¬others → becomes { l with seq := some (req, c) } 0) ∧
      (others → becomes { l with seq := some (req, c) } 0x07)) ∧
    (key = 0x3C5A →
      (∀ f, l.seq = some (req, f) → c ≤ f + 256 → ∃ was, becomes { seq := none, win := some (req, max c (f + 1)), was := was } 0 ∧
        (∀ r w, l.win = some (r, w) → w < c → was = l.win)) ∧
      (∀ f, l.seq = some (req, f) → f + 256 < c → becomes { l with seq := none } 0x07) ∧
      ((∀ f, l.seq ≠ some (req, f)) → becomes { l with seq := none } 0x07)) ∧
    (key = 0 → (¬others → becomes {} 0) ∧ (others → becomes {} 0x07)) ∧
    (key ≠ 0xA5C3 → key ≠ 0x3C5A → key ≠ 0 → becomes { l with seq := none } 0x07)) ∧
  (∀ (s : State) (addr off r w : Nat) (p : Page),
    target s.phys addr = .page p off → (s.lockSt p.base).win = some (r, w) → w + 257 ≤ s.cycle p.island →
    exec (.lockWindowExpire addr) s =
      .next { s with bus.locks := SMap.put s.bus.locks p.base { s.lockSt p.base with win := none } })

/-- R45: the window that a requester opened with its second write in cycle W is open for it, and for it alone, in cycles W + 1 to
W + 256, and REMAIN reads 257 - k in cycle W + k; in cycle W the window that was open before, if one was, is open still, with its
own count. -/
def Obligations.LockWindow : Prop :=
  ∀ (s : State) (p : Page) (req : Nat),
    let l := s.lockSt p.base
    let c := s.cycle p.island
    let stands := fun (x : Option (Nat × Nat)) (r w : Nat) => x = some (r, w) ∧ w + 1 ≤ c ∧ c ≤ w + 256
    (s.lockOpen p req = true ↔ (∃ w, stands l.win req w) ∨
      ((∃ r w, l.win = some (r, w) ∧ c ≤ w) ∧ ∃ w, stands l.was req w)) ∧
    (∀ r w k, l.win = some (r, w) → c = w + k → 1 ≤ k → k ≤ 256 → s.remain p = 257 - k) ∧
    (∀ r w, l.win = some (r, w) → w + 257 ≤ c → s.remain p = 0) ∧
    (∀ r w r' w' k, l.win = some (r, w) → c ≤ w → l.was = some (r', w') → c = w' + k → 1 ≤ k → k ≤ 256 → s.remain p = 257 - k) ∧
    (∀ r w, l.win = some (r, w) → c ≤ w → l.was = none → s.remain p = 0)

/-- R52: an error fills an empty record, with its access, and sets VALID; where VALID is 1 the record keeps the first error and OVF
is set. Of errors of one cycle the one with the lowest requester id is recorded, and OVF is set. A W1C of VALID empties the
record; in the cycle of a new error it leaves that error recorded with VALID = 1 and OVF = 0. -/
def Obligations.ErrorRecord : Prop :=
  (∀ (s : State) (base cause : Nat) (a : Access), base % 0x1000 = 0 → summarySrc base < 21504 → cause < 64 → a.req < 4096 →
    a.addr < 2 ^ 48 →
    let t := s.recordErr base cause a
    let shows := fun (t : State) (cause : Nat) (a : Access) => t.getF base F.HDR_ERR_CAUSE = cause ∧
      t.flag base F.HDR_ERR_WRITE = a.write ∧ t.getF base F.HDR_ERR_SIZE = sizeCode a.size ∧ t.getF base F.HDR_ERR_REQ = a.req ∧
      t.getF base F.HDR_ERR_ADDR + 2 ^ 32 * t.getF base F.HDR_ERR_ADDR_HI = a.addr % 2 ^ 40
    (s.flag base F.HDR_ERR_VALID = false →
      t.flag base F.HDR_ERR_VALID = true ∧ t.flag base F.HDR_ERR_OVF = false ∧ shows t cause a) ∧
    (s.flag base F.HDR_ERR_VALID = true → s.errNow base = none →
      t = ({ s with bus.errs := SMap.put s.bus.errs base ⟨s.pageCycle base, cause, a, false⟩ } : State).setFlag base F.HDR_ERR_OVF
        true) ∧
    (∀ e : ErrSt, s.flag base F.HDR_ERR_VALID = true → s.errNow base = some e → e.fills = true → e.cause < 64 →
      e.acc.req < 4096 → e.acc.addr < 2 ^ 48 →
      t.flag base F.HDR_ERR_VALID = true ∧ t.flag base F.HDR_ERR_OVF = true ∧
      (a.req < e.acc.req → shows t cause a) ∧ (e.acc.req ≤ a.req → shows t e.cause e.acc))) ∧
  (∀ (s : State) (p : Page) (req data : Nat), p.base % 0x1000 = 0 → s.unstaged p → bit data 0 = true → s.Writes p 0x28 req data →
    exec (.registerWrite req (p.base + 0x28) 4 data) s = .next ((s.clearErr p.base).wrote p 0x28 req data) ∧
    (s.errNow p.base = none →
      (s.clearErr p.base).flag p.base F.HDR_ERR_VALID = false ∧ (s.clearErr p.base).flag p.base F.HDR_ERR_OVF = false) ∧
    (∀ e : ErrSt, s.errNow p.base = some e → s.flag p.base F.HDR_ERR_VALID = true → e.cause < 64 → e.acc.req < 4096 →
      (s.clearErr p.base).flag p.base F.HDR_ERR_VALID = true ∧ (s.clearErr p.base).flag p.base F.HDR_ERR_OVF = false ∧
      (s.clearErr p.base).getF p.base F.HDR_ERR_CAUSE = e.cause ∧ (s.clearErr p.base).getF p.base F.HDR_ERR_REQ = e.acc.req))

/-- R42 and R43: BLK_EN and BLK_RST written with the page's lock open. Choices of the model that clauses rest on: log entry 11. -/
def Obligations.BlockEnableAndReset : Prop :=
  (∀ (s : State) (p : Page) (req addr : Nat),
    let en := s.flag p.base F.HDR_BLK_EN
    let old := s.getF p.base F.HDR_BLK_EN
    addr - addr % 0x1000 = p.base → s.unstaged p → s.lockOpen p req = true →
    (s.Writes p 0x0C req 0 → en = true →
      let u := s.setFlag p.base F.HDR_BLK_EN false
      (p.ty = .pwmg → exec (.blkEnWrite req addr false) s = .next ((u.disarmPage p.owner (16 * p.inst) 16).wrote p 0x0C req 0)) ∧
      (p.ty = .edge → exec (.blkEnWrite req addr false) s = .next ((u.disarmPage p.owner 0 256).wrote p 0x0C req 0)) ∧
      (p.ty = .pkeep → exec (.blkEnWrite req addr false) s = .next ((u.bankDust p).wrote p 0x0C req 0)) ∧
      (p.ty ≠ .pwmg → p.ty ≠ .edge → p.ty ≠ .pkeep → exec (.blkEnWrite req addr false) s = .next (s.wrote p 0x0C req 0 0x0C))) ∧
    (s.Writes p 0x0C req 1 → en = false → p.ty = .pwmg ∨ p.ty = .edge ∨ p.ty = .pkeep →
      exec (.blkEnWrite req addr true) s = .next ((s.setFlag p.base F.HDR_BLK_EN true).wrote p 0x0C req 1)) ∧
    (s.Writes p 0x0C req (old + 2) →
      exec (.blkRst req addr) s = .next ((s.blockReset p).1.wrote p 0x0C req (old + 2) (s.blockReset p).2))) ∧
  (∀ (s : State) (p : Page) (off : Nat) (xs : List Slot) (x : Slot), p.base % 0x1000 = 0 → 0x40 ≤ off → off < 0x800 →
    p.slots off = some xs → x ∈ xs → x.fld.off = off → x.fld.lo < 64 → resets p x.fld = true →
    (s.resetRegs p).getF p.base x.fld = s.resetOf p.base x.fld % 2 ^ x.fld.w)

/-- R57 and R58: a read of the low half of a 64-bit counter loads the reader's latch with the high half; a read of the high half
returns the latch of that counter, zero where the reader has read no low half, and the live high half, with LATCH_MISMATCH, where
the latch is another counter's. The counters that are the data of a FIFO are stated with their FIFO. -/
def Obligations.CounterLatches : Prop :=
  ∀ (s : State) (p : Page) (off req addr : Nat) (x : Slot),
    let rd : Access := ⟨req, addr, 4, false, 0⟩
    let s' := s.pageSync p off
    let v := s'.liveField p x.fld req
    s.Reaches p off rd → s'.pageReady p = true → addr % 4 = 0 → 0x40 ≤ off → off < 0x800 →
    p.ty ∈ [.drole, .tbas, .keel, .fcst, .klog, .leng, .timr, .pwmg, .dmac, .core] →
    p.slots off = some [x] → wordCounter p off = some x → x.pos = 0 → x.fld.acc = .rs ∨ x.fld.acc = .rwl ∨ x.fld.acc = .ro →
    (x.part = 0 → x.w = 32 →
      exec (.counterLoRead req addr) s = .next ((s'.latch p req x v).finish p 0 rd (v % 2 ^ 32))) ∧
    (x.part = 32 → x.w = 32 →
      (SMap.get? s'.bus.latches (1024 * p.base + req) = none → exec (.counterHiRead req addr) s = .next (s'.finish p 0 rd 0)) ∧
      (∀ l, SMap.get? s'.bus.latches (1024 * p.base + req) = some l →
        (l.counter = x.fld.off → exec (.counterHiRead req addr) s = .next (s'.finish p 0 rd l.hi)) ∧
        (l.counter ≠ x.fld.off →
          exec (.counterHiRead req addr) s = .next (s'.finish p 0x0D rd (v / 2 ^ 32 % 2 ^ 32)))))

/-- R27, R32, R33, R107 and R368: a core write to a context is refused where its word is not valid, applied on arrival where its
generator is not armed, and staged where it is; with a full stage it waits, its response held, until an entry is free. What the
store takes, a tile in SHADOW that mirrors it takes too. -/
def Obligations.ContextWrites : Prop :=
  (∀ (s : State) (req addr size data t off : Nat),
    let a : Access := ⟨req, addr, size, true, data⟩
    let c : CoreWrite := ⟨req, off / 64, off % 64, size, data % 2 ^ (8 * size), addr⟩
    let st := s.stageOf t
    s.Arrives (.ctx t off) a → (size = 4 ∧ addr % 4 = 0) ∨ (size = 8 ∧ addr % 8 = 0) →
    (c.ok = false → exec (.contextWrite req addr size data) s = .next ((s.recordErr (pgCSTO t) 0x0C a).respond req false 0)) ∧
    (c.ok = true → s.ctxArmed t c.ctx = false ∨ st.core.length < 256 →
      exec (.contextWrite req addr size data) s = .next ((s.bothTiles t fun z t => z.putCore t c).respond req false 0)) ∧
    (c.ok = true → s.ctxArmed t c.ctx = false → s.lone t →
      exec (.contextWrite req addr size data) s = .next ((s.applyCore t c).respond req false 0)) ∧
    (c.ok = true → s.ctxArmed t c.ctx = true → st.core.length < 256 → s.lone t →
      exec (.contextWrite req addr size data) s = .next ((s.setStage t { st with core := st.core ++ [c] }).respond req false 0)) ∧
    (c.ok = true → s.ctxArmed t c.ctx = true → 256 ≤ st.core.length →
      exec (.contextWrite req addr size data) s = .next ((s.setStage t { st with waiting := st.waiting ++ [c] }).satF (pgCSTO t)
        F.CSTO_BND_STAT_STALLS))) ∧
  (∀ (s : State) (t : Nat) (c : CoreWrite) (rest : List CoreWrite),
    (s.stageOf t).waiting = c :: rest → (s.stageOf t).core.length < 256 →
    exec (.stagedWriteRelease t) s =
      .next (((s.setStage t { s.stageOf t with waiting := rest }).takeCore t c).1.respond c.req false 0)) ∧
  (∀ (s : State) (lt : Nat) (a : Access),
    let u : State := { s with bus.held := [] }
    s.moving lt = false → s.bus.held = [a] → u.stillHeld a = false → exec (.aliasAccessRelease lt) s = .next (u.busAccess a).1)

/-! ## Chapter 03: time base, timers and watchdogs -/

/-- R59 to R62: slews, steps, measurements, holdover and the PPS pins of the time-base root. What RATE and SLEW the servo sets is
not stated: they are free values (log entry 3). Choices of the model that clauses rest on: log entries 3 and 13. -/
def Obligations.TimeBase : Prop :=
  let p := pageTBAS
  let b := pgTBAS
  (∀ (s : State) (req data : Nat),
    let ppm := bits data 24 4
    let u := (s.slewSync.softF b F.TBAS_SLEW_SLEW_PPM req ppm).slewStart (sgn 24 data)
    s.Writes p 0x5C req data → s.servoOwns = false → 1 ≤ ppm → ppm ≤ 10 →
    exec (.slewWrite req data) s = .next (u.wrote p 0x5C req data) ∧ u.time.slew = sgn 24 data ∧ u.time.slewAt = s.tick) ∧
  (∀ (s : State), s.slewLeft = 0 →
    exec .slewComplete s = .next (({ s with time.slew := 0, time.slewAt := s.tick } : State).setFlag b F.TBAS_STAT_SLEWING false)) ∧
  (∀ (s : State) (req data : Nat),
    let armed := (s.edge.gens.any fun kv => s.genArmed (kv.1 / 256) (kv.1 % 256)) ||
      (List.range 128).any fun r => s.flag (pgRING r) F.RING_CTRL_EDGE_EN
    s.Writes p 0x74 req data →
    (armed = false → exec (.timeStep req data) s =
      .next (({ s with time.ofs := (s.time.ofs + wrap 64 (sgn 32 data)) % 2 ^ 64 } : State).timersStepped.wrote p 0x74 req data)) ∧
    (armed = true → exec (.timeStep req data) s =
      .next ((s.setFlag b F.TBAS_STAT_STEP_REFUSED true).wrote p 0x74 req data 0x20))) ∧
  (∀ (s : State) (ofs : Nat),
    let x := sgn 24 ofs
    let mag : Int := if x < 0 then -x else x
    let thr : Int := ((32 * s.getF b F.TBAS_CTRL_LOCK_THR : Nat) : Int)
    let u := (s.slewSync.setF b F.TBAS_OFFSET_OFFSET (wrap 24 (satS 24 x))).setFlag b F.TBAS_STAT_HOLDOVER false
    let n := if mag < thr then s.time.good + 1 else 0
    let v : State := { u with time.good := n, time.lastMeas := s.tick }
    let w := if n ≥ 8 then v.setFlag b F.TBAS_STAT_LOCKED true else if mag > thr then v.setFlag b F.TBAS_STAT_LOCKED false else v
    s.getF b F.TBAS_CTRL_SRC ≠ 0 →
    (s.servoOwns = false → exec (.timeMeasurement ofs) s = .next w) ∧
    (s.servoOwns = true → ∃ rate : Nat, ∃ slew : Int,
      exec (.timeMeasurement ofs) s = .next ((({ w with free := s.free + 2 } : State).setF b F.TBAS_RATE_RATE rate).slewStart slew))) ∧
  (∀ (s : State), s.getF b F.TBAS_CTRL_SRC ≠ 0 → s.flag b F.TBAS_STAT_HOLDOVER = false → s.time.lastMeas + 4000000000 ≤ s.tick →
    exec .holdoverTimeout s = .next (((({ s.slewSync with time.good := 0 } : State).setFlag b F.TBAS_STAT_HOLDOVER true)).setFlag b
      F.TBAS_STAT_LOCKED false)) ∧
  (∀ (s : State) (frac : Nat),
    exec (.ppsInEdge frac) s = .next ((((s.setF b F.TBAS_PPS_PPS_TICK s.count).setF b F.TBAS_PPS_FRAC_FRAC frac).incF b
      F.TBAS_PPS_FRAC_SEQ).produce lathDev 32)) ∧
  (∀ (s : State), s.flag b F.TBAS_PPSOUT_EN = true → (s.count + s.getF b F.TBAS_TAI_TAI) % 2 ^ 64 % 2000000000 = 0 →
    exec .ppsOutPulse s = .next { s with time.ppsRise := some s.tick })

/-- R63 to R66: matches of the four modes (a ONESHOT timer keeps CMP, or with PRE = 0 CMP or CMP + 1, and its EN is cleared unless
software wrote EN in that cycle, R41), the wrap, writes of CMP and of the count, and the start input of a timer. Choices of the
model that clauses rest on: log entry 14. -/
def Obligations.Timers : Prop :=
  (∀ (s : State) (t n : Nat),
    let b := pgTIMR t
    let tm := s.timer t n
    let cmp := s.getF b (F.TMR_CMP_CMP n)
    let mode := s.getF b (F.TMR_CTRL_MODE n)
    let pre := s.getF b (F.TMR_CTRL_PRE n)
    let up := if tm.zeroNext then cmp + 1 else if tm.val < cmp then cmp - tm.val else 2 ^ 64 - tm.val + cmp
    let at_ := tm.at_ + (up * (pre + 1) - tm.phase pre)
    let u := s.incF b (F.TMR_MATCH_MATCH_CNT n)
    s.timerDue t n = true → tm.catchup = false →
    (mode = 0 → exec (.timerMatch t n) s = .next
      ((u.setTimer t n { tm with val := cmp, ph := 0, at_ := at_, zeroNext := false, catchup := false }).timerEvent t n)) ∧
    (mode = 2 → exec (.timerMatch t n) s = .next
      ((u.setTimer t n { tm with val := cmp, ph := 0, at_ := at_, zeroNext := true, catchup := false }).timerEvent t n)) ∧
    (mode = 1 → ∃ k ≤ 1, (pre ≠ 0 → k = 0) ∧ exec (.timerMatch t n) s = .next
      ((((({ s with free := s.free + (if pre = 0 then 1 else 0) } : State).incF b (F.TMR_MATCH_MATCH_CNT n)).setTimer t n
        { tm with val := cmp + k, ph := 0, at_ := s.tick, zeroNext := false, catchup := false }).timerStops t n).timerEvent t n)) ∧
    (mode = 3 → exec (.timerMatch t n) s = .next
      ((u.setTimer t n { tm with done := true, catchup := false, at_ := s.tick }).timerEvent t n))) ∧
  (∀ (s : State) (t n : Nat),
    (s.softBy (pgTIMR t) (F.TMR_CTRL_EN n) = none →
      (s.timerStops t n).flag (pgTIMR t) (F.TMR_CTRL_EN n) = false ∧ (s.timerStops t n).flag (pgTIMR t) (F.TMR_STAT_RUN n) = false) ∧
    (s.softBy (pgTIMR t) (F.TMR_CTRL_EN n) ≠ none → s.timerStops t n = s)) ∧
  (∀ (s : State) (t n : Nat), s.timerDue t n = true → (s.timer t n).catchup = true →
    ∃ u : State, exec (.timerMatch t n) s = .next (u.timerEvent t n) ∧
      u.getF (pgTIMR t) (F.TMR_MATCH_MATCH_CNT n) = (s.getF (pgTIMR t) (F.TMR_MATCH_MATCH_CNT n) + 1) % 2 ^ 32 ∧
      u.flag (pgTIMR t) (F.TMR_STAT_CATCHUP n) = true ∧ (u.timer t n).catchup = false) ∧
  (∀ (s : State) (t n : Nat), (s.timerEvent t n) = (s.produce (lathTile t) (512 + n) false).pulse (pgTIMR t) n) ∧
  (∀ (s : State) (t n : Nat),
    let tm := s.timerSync t n
    s.getF (pgTIMR t) (F.TMR_CTRL_MODE n) < 2 → s.timerRuns t n = true → s.gateShut t = false → s.timerDue t n = false →
    2 ^ 64 ≤ tm.val →
    exec (.timerOverflow t n) s = .next
      (((s.setTimer t n { tm with val := tm.val - 2 ^ 64 }).setFlag (pgTIMR t) (F.TMR_STAT_OVF n) true).pulse (pgTIMR t) 16)) ∧
  (∀ (s : State) (req t n data : Nat), n < 16 →
    let p := pageTIMR t
    let lo := (s.timer t n).cmpLo.getD (s.getF (pgTIMR t) (F.TMR_CMP_CMP n) % 2 ^ 32)
    (s.Writes p (0x50 + 0x20 * n) req data → exec (.timerCmpWrite req t n false 4 data) s =
      .next ((s.setTimer t n { s.timer t n with cmpLo := some data }).wrote p (0x50 + 0x20 * n) req data)) ∧
    (s.Writes p (0x54 + 0x20 * n) req data → exec (.timerCmpWrite req t n true 4 data) s =
      .next ((s.timerSetCmp t n (2 ^ 32 * data + lo)).wrote p (0x54 + 0x20 * n) req data))) ∧
  (∀ (s : State) (req t n data : Nat), n < 16 →
    let p := pageTIMR t
    let lo := (s.timer t n).cntLo.getD ((s.timer t n).val % 2 ^ 32)
    (s.Writes p (0x48 + 0x20 * n) req data → s.flag (pgTIMR t) (F.TMR_CTRL_EN n) = false →
      exec (.timerCntWrite req t n false 4 data) s =
        .next ((s.setTimer t n { s.timer t n with cntLo := some data }).wrote p (0x48 + 0x20 * n) req data)) ∧
    (s.Writes p (0x4C + 0x20 * n) req data → s.flag (pgTIMR t) (F.TMR_CTRL_EN n) = false →
      exec (.timerCntWrite req t n true 4 data) s =
        .next ((s.timerSetCnt t n (2 ^ 32 * data + lo)).wrote p (0x4C + 0x20 * n) req data)) ∧
    (s.Writes p (0x4C + 0x20 * n) req data → s.flag (pgTIMR t) (F.TMR_CTRL_EN n) = true →
      exec (.timerCntWrite req t n true 4 data) s = .next (s.wrote p (0x4C + 0x20 * n) req data 0x20))) ∧
  (∀ (s : State) (t n v : Nat), v < 2 ^ 64 →
    (s.timerSetCmp t n v).getF (pgTIMR t) (F.TMR_CMP_CMP n) = v ∧
    ((s.timerSetCmp t n v).timer t n).catchup = decide (v ≤ s.timerRaw t n % 2 ^ 64) ∧
    ((s.timerSetCnt t n v).timer t n).val = v ∧ ((s.timerSetCnt t n v).timer t n).ph = 0) ∧
  (∀ (s : State) (t n : Nat) (k : Tok), s.headTok (lathTile t) (64 + n) = some k →
    (s.flag (pgTIMR t) (F.TMR_CTRL_EN n) = true ∨ s.tookNow (lathTile t) (64 + n) = true →
      exec (.timerStartEvent t n) s = .next (s.overranOne (lathTile t) (64 + n))) ∧
    (s.flag (pgTIMR t) (F.TMR_CTRL_EN n) = false → s.tookNow (lathTile t) (64 + n) = false →
      s.softBy (pgTIMR t) (F.TMR_CTRL_EN n) = none → s.flag (pgTIMR t) (F.TMR_CTRL_START_EVT n) = true →
      ∃ u, exec (.timerStartEvent t n) s = .next u ∧ u.flag (pgTIMR t) (F.TMR_CTRL_EN n) = true ∧
        u.flag (pgTIMR t) (F.TMR_STAT_RUN n) = true))

/-- R71 to R74 and R77: services (one that finds ELAPSED at TIMEOUT falls in the stage one that begins there), the two stages, and
the registers of the tiles' watchdogs and the keeper's (number 40). Choices of the model that clauses rest on: log entry 15. -/
def Obligations.Watchdogs : Prop :=
  (∀ (s : State) (req t data : Nat),
    let b := wdBase t
    let p := pageWDOG t
    let off := offWDOG t 0x50
    let late := s.getF b F.WDOG_STAT_STAGE ≠ 1 ∧ s.getF b F.WDOG_TIMEOUT_TIMEOUT ≤ s.wdElapsed t
    let served := fun (z : State) => (z.wdZero t).setFlag b F.WDOG_STAT_NEXT_KEY (!z.flag b F.WDOG_STAT_NEXT_KEY)
    s.Writes p off req data → t ≤ 40 →
    (s.flag b F.WDOG_CTRL_EN = false → exec (.watchdogService req t data) s = .next (s.wrote p off req data)) ∧
    (s.flag b F.WDOG_CTRL_EN = true → ¬late → data % 2 ^ 16 = s.wdKey t →
      s.getF b F.WDOG_STAT_STAGE ≠ 1 → s.getF b F.WDOG_WINDOW_WINDOW ≤ s.wdElapsed t →
      exec (.watchdogService req t data) s = .next ((served s).wrote p off req data)) ∧
    (s.flag b F.WDOG_CTRL_EN = true → data % 2 ^ 16 = s.wdKey t → s.getF b F.WDOG_STAT_STAGE = 1 →
      exec (.watchdogService req t data) s = .next (((served s).setF b F.WDOG_STAT_STAGE 0).wrote p off req data)) ∧
    (s.flag b F.WDOG_CTRL_EN = true → ¬late →
      data % 2 ^ 16 ≠ s.wdKey t ∨ (s.getF b F.WDOG_STAT_STAGE ≠ 1 ∧ s.wdElapsed t < s.getF b F.WDOG_WINDOW_WINDOW) →
      exec (.watchdogService req t data) s = .next ((s.wdViolation t).wrote p off req data)) ∧
    (s.flag b F.WDOG_CTRL_EN = true → late →
      (data % 2 ^ 16 = (s.wdStage1 t).wdKey t → (s.wdStage1 t).getF b F.WDOG_STAT_STAGE = 1 → exec (.watchdogService req t data) s =
        .next (((served (s.wdStage1 t)).setF b F.WDOG_STAT_STAGE 0).wrote p off req data)) ∧
      (data % 2 ^ 16 ≠ (s.wdStage1 t).wdKey t →
        exec (.watchdogService req t data) s = .next (((s.wdStage1 t).wdViolation t).wrote p off req data)))) ∧
  (∀ (s : State) (t : Nat),
    let b := wdBase t
    let u := ((s.wdZero t).setF b F.WDOG_STAT_STAGE 1).wdRaise t
    s.flag b F.WDOG_CTRL_EN = true → s.getF b F.WDOG_STAT_STAGE ≠ 1 → s.getF b F.WDOG_TIMEOUT_TIMEOUT ≤ s.wdElapsed t →
    s.gateShut t = false → exec (.watchdogTimeout t) s = .next (if t < 40 then u.produce (lathTile t) 624 false else u)) ∧
  (∀ (s : State) (req t data : Nat),
    let b := wdBase t
    let p := pageWDOG t
    let v := bits data 0 24
    s.lockOpen p req = true → t ≤ 40 →
    (s.Writes p (offWDOG t 0x44) req data → v ≠ s.getF b F.WDOG_TIMEOUT_TIMEOUT → s.getF b F.WDOG_WINDOW_WINDOW < v →
      (s.flag b F.WDOG_CTRL_EN = false ∨ s.getF b F.WDOG_STAT_STAGE = 1 ∨ s.wdElapsed t < v) →
      exec (.wdogTimeoutWrite req t data) s = .next ((s.setF b F.WDOG_TIMEOUT_TIMEOUT v).wrote p (offWDOG t 0x44) req data)) ∧
    (s.Writes p (offWDOG t 0x44) req data → v ≠ s.getF b F.WDOG_TIMEOUT_TIMEOUT → s.getF b F.WDOG_WINDOW_WINDOW < v →
      s.flag b F.WDOG_CTRL_EN = true → s.getF b F.WDOG_STAT_STAGE ≠ 1 → v ≤ s.wdElapsed t →
      exec (.wdogTimeoutWrite req t data) s =
        .next (((s.setF b F.WDOG_TIMEOUT_TIMEOUT v).wdStage1 t).wrote p (offWDOG t 0x44) req data)) ∧
    (s.Writes p (offWDOG t 0x44) req data → v ≠ s.getF b F.WDOG_TIMEOUT_TIMEOUT → v ≤ s.getF b F.WDOG_WINDOW_WINDOW →
      exec (.wdogTimeoutWrite req t data) s = .next (s.wrote p (offWDOG t 0x44) req data 0x0C)) ∧
    (s.Writes p (offWDOG t 0x4C) req data → v ≠ s.getF b F.WDOG_STAGE2_STAGE2 → v ≠ 0 → s.getF b F.WDOG_STAT_STAGE ≠ 1 →
      exec (.wdogStage2Write req t data) s = .next ((s.softF b F.WDOG_STAGE2_STAGE2 req v).wrote p (offWDOG t 0x4C) req data)) ∧
    (s.Writes p (offWDOG t 0x40) req 1 → s.flag b F.WDOG_CTRL_EN = false →
      exec (.wdogEnWrite req t true) s =
        .next (((((s.setFlag b F.WDOG_CTRL_EN true).setFlag b F.WDOG_STAT_NEXT_KEY false).setF b F.WDOG_STAT_STAGE 0).setWdog t
          { acc := 0, at_ := s.tick, stopped := s.flag b F.WDOG_STAT_FROZEN || (decide (t < 40) && s.isleStopped (2 * t)) }).wrote p
          (offWDOG t 0x40) req 1)) ∧
    (s.Writes p (offWDOG t 0x40) req 0 → s.flag b F.WDOG_CTRL_EN = true →
      exec (.wdogEnWrite req t false) s = .next (s.wrote p (offWDOG t 0x40) req 0 0x0C))) ∧
  (∀ (s : State) (t : Nat), s.getF (wdBase t) F.WDOG_STAT_STAGE = 1 → s.getF (wdBase t) F.WDOG_STAGE2_STAGE2 ≤ s.wdElapsed t →
    (t < 40 → s.gateShut t = false → exec (.watchdogStage2 t) s = .next ((s.setF (wdBase t) F.WDOG_STAT_STAGE 2).wantTakeover t 1 63)) ∧
    (t = 40 → exec .keeperWdogStage2 s = .next s.keeperReset))

/-! ## Chapter 04: the analog front -/

/-- R79 to R94, R496 and R499: the analog reference and the converters, from a start over the code, which is ratiometric to the
reference, to the record that a read of ADC_RES returns.
Choices of the model that clauses rest on: log entry 16. -/
def Obligations.Converters : Prop :=
  (∀ (s : State) (req c data : Nat),
    let p := pageAFE c
    let b := pgAFE c
    let v := bits data 0 2
    s.Writes p 0x40 req data → s.lockOpen p req = true → v ≠ s.getF b F.AFE_REF_CTRL_SEL →
    (v ≠ 3 → s.anyAdcOn c = false →
      exec (.refSelWrite req c data) s = .next (((s.setF b F.AFE_REF_CTRL_SEL v).refSettle c).wrote p 0x40 req data)) ∧
    (v = 3 → exec (.refSelWrite req c data) s = .next (s.wrote p 0x40 req data 0x0C)) ∧
    (v ≠ 3 → s.anyAdcOn c = true → exec (.refSelWrite req c data) s = .next (s.wrote p 0x40 req data 0x20))) ∧
  (∀ (s : State) (c nv t : Nat),
    (SMap.getD s.samp.refs c {}).settle = some t → t ≤ s.tick →
    (s.refInside c nv = true → exec (.refSettled c nv) s =
      .next ((((s.refTo c ⟨none, nv⟩).setFlag (pgAFE c) F.AFE_REF_STAT_REF_READY true).pulse (pgAFE c) 0).fcstAbort c)) ∧
    (s.refInside c nv = false → exec (.refSettled c nv) s = .next ((s.refDeparture c nv).fcstAbort c))) ∧
  (∀ (s : State) (c nv : Nat), s.flag (pgAFE c) F.AFE_REF_STAT_REF_READY = true →
    (s.refInside c nv = true → exec (.refFault ⟨c, nv⟩) s = .next ((s.refTo c ⟨none, nv⟩).fcstAbort c)) ∧
    (s.refInside c nv = false → exec (.refFault ⟨c, nv⟩) s = .next (((((s.refTo c ⟨none, nv⟩).refDown c).setFlag (pgAFE c)
      F.AFE_REF_STAT_REF_FAULT true).satF (pgAFE c) F.AFE_REF_STAT_FAULTS).pulse (pgAFE c) 1 |>.fcstAbort c))) ∧
  (∀ (s : State) (c : Nat), s.flag (pgAFE c) F.AFE_REF_STAT_REF_READY = true →
    s.refDown c = (s.setFlag (pgAFE c) F.AFE_REF_STAT_REF_READY false).refFell c) ∧
  (∀ (s : State) (c nv : Nat), (SMap.getD s.samp.refs c {}).settle = none → s.flag (pgAFE c) F.AFE_REF_STAT_REF_READY = false →
    s.refInside c nv = true → exec (.refWindowReturn ⟨c, nv⟩) s = .next ((s.refSettleAt c nv).fcstAbort c)) ∧
  (∀ (s : State) (req n data : Nat),
    let p := pageADC n
    let b := pgADC n
    let u := ((s.setFlag b F.ADC_CTRL_LP (bit data 1)).setF b F.ADC_CTRL_TRIG_MODE (bits data 2 2)).setF b F.ADC_CTRL_LEN (bits data 4 5)
    s.Writes p 0x40 req data → n < 64 → s.adcCause n 0x40 data = 0 → bits data 2 2 < 2 → bits data 4 5 ≤ 16 →
    exec (.adcCtrlWrite req n data) s = .next ((if bit data 0 = s.flag b F.ADC_CTRL_EN then u
      else if bit data 0 then u.adcEnable n else u.adcDisable n).wrote p 0x40 req data)) ∧
  (∀ (s : State) (n t : Nat), (s.adc n).powerAt = some t → t ≤ s.tick →
    exec (.adcPowered n) s = .next ((s.setAdc n { s.adc n with powerAt := none }).setFlag (pgADC n) F.ADC_STAT_POWERED true)) ∧
  (∀ (s : State) (req n data : Nat),
    let p := pageADC n
    let full := 2 ^ 32 * data + (s.adc n).startLo.getD (s.getF (pgADC n) F.ADC_START_START % 2 ^ 32)
    n < 64 →
    (s.Writes p 0x48 req data →
      exec (.adcStartWrite req n false 4 data) s = .next ((s.setAdc n { s.adc n with startLo := some data }).wrote p 0x48 req data)) ∧
    (s.Writes p 0x4C req data → full % 2 = 0 → s.flag (pgADC n) F.ADC_CTRL_EN = false →
      exec (.adcStartWrite req n true 4 data) s =
        .next (((s.setAdc n { s.adc n with startLo := none }).setF (pgADC n) F.ADC_START_START full).wrote p 0x4C req data))) ∧
  (∀ (s : State) (n : Nat) (k : Tok),
    let b := pgADC n
    let l := lathClu (n / 16)
    let u := (s.tookOne l (128 + n % 16)).setAdc n { s.adc n with evAt := some (s.tick / 2) }
    s.headTok l (128 + n % 16) = some k →
    (s.getF b F.ADC_CTRL_TRIG_MODE ≠ 1 → (s.adc n).seqs = [] → (s.adc n).evAt ≠ some (s.tick / 2) → s.adcHeld n = false →
      u.startBar n = 0 → exec (.adcStartEvent n) s = .next (u.startSeq n
        ((u.count / 2 + 1) * 2 + acqTicks (u.flag b F.ADC_CTRL_LP)))) ∧
    (s.getF b F.ADC_CTRL_TRIG_MODE ≠ 1 → (s.adc n).seqs ≠ [] →
      exec (.adcStartEvent n) s = .next (((s.overranOne l (128 + n % 16)).satF b F.ADC_STAT_TRIG_OVR).pulse b 1)) ∧
    (s.getF b F.ADC_CTRL_TRIG_MODE = 1 → (s.adc n).evAt ≠ some (s.tick / 2) →
      exec (.adcStartEvent n) s = .next (u.satF b F.ADC_STAT_IDLE_TRIG))) ∧
  (∀ (s : State) (n i : Nat),
    let b := pgADC n
    let rep := s.getF b F.ADC_REPEAT_REPEAT
    (s.adc n).next = some i → i ≤ s.count + acqTicks (s.flag b F.ADC_CTRL_LP) → s.adcHeld n = false → s.startBar n = 0 →
    exec (.adcTimeInstant n) s =
      .next ((s.setAdc n { s.adc n with next := if rep = 0 then none else some (i + rep) }).startSeq n i)) ∧
  (∀ (s : State) (n : Nat) (v : AdcIn) (q : SeqSt) (rest : List SeqSt),
    let b := pgADC n
    let inst := q.inst q.done
    let ch := (bit q.chan q.done).toNat
    let y := correct (adcCode v.vin (s.refNv (n / 16)) v.dev) (sgn 16 (s.getF b (F.ADC_CORR_OFS ch))) (s.getF b (F.ADC_CORR_GAIN ch))
    (s.adc n).seqs = q :: rest → inst + convTicks q.lp ≤ s.count → q.done + 1 < q.stopAt → n < 64 →
    ∃ t, exec (.conversionDone n v) s = .next t ∧
      SMap.getD t.samp.bus (n / 16) [] = SMap.getD s.samp.bus (n / 16) [] ++ [⟨2 * (n % 16) + ch, wrap 16 y.1, q.refBad, inst⟩] ∧
      t.mem = s.mem) ∧
  (∀ (vin : Int) (ref : Nat), 0 < ref →
    let k := adcCode vin ref 0
    k ≤ 16383 ∧ (0 < k → (2 * (k : Int) - 1) * ref ≤ 32768 * vin) ∧ (k < 16383 → 32768 * vin < (2 * (k : Int) + 1) * ref)) ∧
  (∀ (s : State) (c : Nat) (r : SRec) (rest : List SRec), SMap.getD s.samp.bus c [] = r :: rest →
    let u : State := { s with samp.bus := SMap.put s.samp.bus c rest }
    (r.refBad = true → exec (.sampleDelivery c) s = .next u) ∧
    (r.refBad = false → exec (.sampleDelivery c) s = .next ((List.range 10).foldl (fun z j =>
      z.triggerAll (10 * c + j) 1 r.ain [65536 * r.value, r.stamp % 2 ^ 32] z.tick) (u.setIQ c true r.ain (65536 * sgn 16 r.value))))) ∧
  (∀ (s : State) (req n ch : Nat),
    let p := pageADC n
    let off := 0x68 + 4 * ch
    let x := s.adc n
    s.Reads p off req → n < 64 → ch < 2 →
    exec (.adcResultRead req n ch) s =
      .next ((s.setAdc n { x with latch := SMap.put x.latch req (if ch = 0 then x.tick0 else x.tick1) }).finish p 0
        ⟨req, pgADC n + off, 4, false, 0⟩ (s.getF (pgADC n) (F.ADC_RES_RESULT ch))))

/-- R96, R98 to R104 and R160: the comparators, the TRIP inputs' event path and the capture inputs. Choices of the model that
clauses rest on: log entry 16. -/
def Obligations.ComparatorsAndCaptures : Prop :=
  (∀ (s : State) (req k data : Nat),
    let p := pageCMPR k
    let m := k % 4
    let off := 0x40 + 0x10 * m
    let b := pgCMPR k
    let on := s.flag b (F.CMP_CTRL_EN m)
    let r := s.put p (s.wrOf p req data) off [F.CMP_CTRL_EN m]
    let armed := s.sourceArmed (k / 16) (k % 16)
    s.Writes p off req data → k < 64 →
    (r.2 = 0 → bit data 0 = on →
      exec (.cmpEnWrite req k data) s = .next ((r.1.sourceLook (k / 16) (k % 16)).wrote p off req data)) ∧
    (r.2 = 0 → bit data 0 ≠ on → s.lockOpen p req = true → (on = true → armed = false) →
      exec (.cmpEnWrite req k data) s = .next (((r.1.setFlag b (F.CMP_CTRL_EN m) (!on)).cmpEnable k (!on)).wrote p off req data)) ∧
    (on = true → bit data 0 = false → s.lockOpen p req = true → armed = true →
      exec (.cmpEnWrite req k data) s = .next (s.wrote p off req data 0x20))) ∧
  (∀ (s : State) (k t : Nat), (s.cmp k).enAt = some t → t + 2000 ≤ s.tick →
    exec (.comparatorReady k) s = .next (((s.setFlag (pgCMPR k) (F.CMP_STAT_READY (k % 4)) true).sourceLook (k / 16) (k % 16)).fcstAbort (k / 16))) ∧
  (∀ (s : State) (req k data : Nat),
    let p := pageCMPR k
    let b := pgCMPR k
    let m := k % 4
    let v := bits data 0 10
    let x := s.cmp k
    s.Writes p (0x44 + 0x10 * m) req data → k < 64 →
    (s.flag b (F.CMP_CTRL_LOAD m) = false → x.waits = false →
      exec (.thresholdWrite req k data) s = .next (((((s.setF b (F.CMP_THR_THR_SH m) v).setF b (F.CMP_THR_THR_ACT m) v).setCmp k
        { x with waits := false }).sourceLook (k / 16) (k % 16)).wrote p (0x44 + 0x10 * m) req data)) ∧
    (s.flag b (F.CMP_CTRL_LOAD m) = true →
      exec (.thresholdWrite req k data) s = .next
        ((((if x.waits then s.satF b (F.CMP_STAT_LOADS_LOST m) else s).setF b (F.CMP_THR_THR_SH m) v).setCmp k
          { x with waits := true }).wrote p (0x44 + 0x10 * m) req data))) ∧
  (∀ (s : State) (k : Nat) (tok : Tok),
    let l := lathClu (k / 16)
    let b := pgCMPR k
    let m := k % 4
    let u := s.tookOne l (144 + k % 16)
    s.headTok l (144 + k % 16) = some tok → s.flag b (F.CMP_CTRL_LOAD m) = true → (s.cmp k).waits = true →
    exec (.thresholdLoadEvent k) s =
      .next ((((u.setF b (F.CMP_THR_THR_ACT m) (u.getF b (F.CMP_THR_THR_SH m))).setCmp k { u.cmp k with waits := false }).sourceLook
        (k / 16) (k % 16)).fcstAbort (k / 16))) ∧
  (∀ (was : Bool) (v : Int) (thr ref hyst : Nat),
    let x := 1024 * v
    let t : Int := ((thr * ref : Nat) : Int)
    let h : Int := ((1024 * hyst : Nat) : Int)
    (t < x → cmpOut false was v thr ref hyst = true) ∧ (x < t - h → cmpOut false was v thr ref hyst = false) ∧
    (t - h ≤ x → x ≤ t → cmpOut false was v thr ref hyst = was) ∧
    (x < t → cmpOut true was v thr ref hyst = true) ∧ (t + h < x → cmpOut true was v thr ref hyst = false) ∧
    (t ≤ x → x ≤ t + h → cmpOut true was v thr ref hyst = was)) ∧
  (∀ (s : State) (k : Nat),
    let b := pgCMPR k
    let m := k % 4
    let c := k / 16
    k < 64 → s.flag b (F.CMP_STAT_OUT m) = false → s.pathSettled c (k % 16) true = true →
    exec (.comparatorActivation k) s = .next ((((s.setFlag b (F.CMP_STAT_OUT m) true).produce (lathClu c) (160 + k % 16) true 2).satF b
      (F.CMP_STAT_ACT_CNT m)).pulse b m)) ∧
  (∀ (s : State) (k : Nat),
    let c := k / 16
    let m := k % 16
    s.flag (pgTRIP c) (F.TRIP_STAT_LEVEL m) = false → s.pathSettled c (16 + m) true = true →
    exec (.tripActivation k) s = .next ((((s.setFlag (pgTRIP c) (F.TRIP_STAT_LEVEL m) true).produce (lathClu c) (176 + m) true 2).satF
      (pgTRIP c) (F.TRIP_STAT_ACT_CNT m)).pulse (pgTRIP c) m)) ∧
  (∀ (s : State) (c k : Nat), s.pathSettled c k false = true →
    (k < 16 → exec (.eventPathDeactivation c k) s = .next (s.setFlag (pgCMPR (16 * c + k)) (F.CMP_STAT_OUT (k % 4)) false)) ∧
    (16 ≤ k → exec (.eventPathDeactivation c k) s = .next (s.setFlag (pgTRIP c) (F.TRIP_STAT_LEVEL (k - 16)) false))) ∧
  (∀ (s : State) (c k : Nat) (lv : Bool),
    let x := s.path c k
    let now := s.edge.active.contains (32 * c + k)
    (k < 16 → s.pathSettled c k lv = x.settled 2 (s.getF (pgCMPR (16 * c + k)) (F.CMP_CTRL_FILT (k % 4))) now lv s.tick) ∧
    (16 ≤ k → s.pathSettled c k lv = x.settled 1 (s.getF (pgTRIP c) (F.TRIP_CTRL_FILT (k - 16))) now lv s.tick)) ∧
  (∀ (level : Nat → Bool) (x : PathSt) (per filt now : Nat) (lv : Bool),
    let first := (x.at_ + per - 1) / per
    0 < per → x.at_ ≤ now → (∀ u, x.at_ ≤ u → u ≤ now → level u = level now) → x.since < first ∨ (first = 0 ∧ x.since = 0) →
    (∀ j, x.since ≤ j → j < first → level (per * j) = x.lv) → x.since = 0 ∨ level (per * (x.since - 1)) ≠ x.lv →
    (x.settled per filt (level now) lv now = true ↔ filt ≤ now / per ∧ ∀ j ≤ filt, level (per * (now / per - j)) = lv)) ∧
  (∀ (s : State) (k : Nat) (level : Bool),
    let b := pgCAPT (k / 16)
    let m := k % 16
    let edge := s.getF b (F.CAP_CTRL_EDGE m)
    let e := (s.count - s.getF b (F.CAP_CTRL_FILT m)) % 2 ^ 62 + 2 ^ 62 * level.toNat + 2 ^ 63
    let u := ({ s with samp.capIn := SMap.put s.samp.capIn k (level, s.tick) } : State).capSettle k
    let z := u.setCap k { u.cap k with new := (u.cap k).new ++ [e], cyc := u.pageCycle b }
    (∀ lv t, SMap.get? s.samp.capIn k = some (lv, t) → level ≠ lv → t + 1 + s.getF b (F.CAP_CTRL_FILT m) ≤ s.tick →
      s.flag b (F.CAP_CTRL_EN m) = true → edge = 2 ∨ (level = true ∧ edge = 0) ∨ (level = false ∧ edge = 1) →
      exec (.capture k level) s = .next (((z.incF b (F.CAP_COUNT m)).pulse b m).produce (lathClu (k / 16)) (192 + m) true 2)) ∧
    (∀ lv t, SMap.get? s.samp.capIn k = some (lv, t) → level = lv ∨ s.tick < t + 1 + s.getF b (F.CAP_CTRL_FILT m) →
      exec (.capture k level) s = .next s)) ∧
  (∀ (s : State) (k e : Nat),
    let b := pgCAPT (k / 16)
    let m := k % 16
    let x := s.cap k
    let u := s.capSettle k
    x.new = [e] → (x.cyc = s.pageCycle b → u = s) ∧
    (x.cyc ≠ s.pageCycle b → x.q.length < 2 → u.capFifo k = x.q ++ [e] ∧ u.getF b (F.CAP_STAT_LOST m) = s.getF b (F.CAP_STAT_LOST m)) ∧
    (∀ a d, x.cyc ≠ s.pageCycle b → x.q = [a, d] → u.capFifo k = [a, e] ∧ u.flag b (F.CAP_STAT_CAP_OVR m) = true ∧
      (s.getF b (F.CAP_STAT_LOST m) < 2 ^ (F.CAP_STAT_LOST m).w - 1 → u.getF b (F.CAP_STAT_LOST m) = s.getF b (F.CAP_STAT_LOST m) + 1))) ∧
  (∀ (s : State) (req k e : Nat) (q : List Nat),
    let p := pageCAPT (k / 16)
    let off := 0x48 + 0x10 * (k % 16)
    let x : Slot := ⟨F.CAP_DATA_DATA (k % 16), 0, 32, 0⟩
    let u := s.pageSync p off
    s.Reads p off req → k < 64 → u.capFifo k = e :: q →
    exec (.captureFifoRead req k 4) s =
      .next (((u.latch p req x e).setCap k { u.cap k with q := q }).finish p 0 ⟨req, pgCAPT (k / 16) + off, 4, false, 0⟩ (e % 2 ^ 32)))

/-! ## Chapter 05: the loop engines -/

/-- R110, R111 and R113 to R116: what each loop step makes of its run: the new V register, accumulator, state, staged write or
step address, the flags, and where it ends the run. Choices of the model that clauses rest on: log entry 17. -/
def Obligations.LoopSteps : Prop :=
  RowStep .lstepNop 0x00 (fun r _ => r.next) ∧
  RowStep .lstepEnd 0x01 (fun r _ => { r with ended := true, pairs := r.pairs + 1 }) ∧
  RowStep .lstepBr 0x02 (fun r w =>
    if [r.z, !r.z, r.n, !r.n, r.limf, !r.limf, r.stale, !r.stale].getD (bits (stIMM w) 12 3) false
    then r.jump (bits (stIMM w) 0 12) else r.next) ∧
  RowStep .lstepJmp 0x03 (fun r w => r.jump (bits (stIMM w) 0 12)) ∧
  RowValue .lstepLdc 0x08 (fun r w => r.w.getD (bits (stIMM w) 0 4) 0) ∧
  RowValue .lstepLdi 0x09 (fun _ w => stIMM w) ∧
  (∀ (s : State) (t k : Nat) (r : Run) (rest : List Run),
    let w := s.stepAt t r.pc
    s.AtStep t k 0x0A r rest → exec (.lstepLdw t k) s =
      .next (s.stepDone t k r rest (r.setV (stD w) (s.getF (pgLENG t) (F.LENG_SHV_VALUE (bits (stIMM w) 0 8)))).next)) ∧
  RowValue .lstepLdg 0x0B (fun r w =>
    let x := r.genNow (bits (stIMM w) 0 8)
    [x.1 * 32 % 2 ^ 32, x.2.1 % 2 ^ 32, x.2.2 * 32 % 2 ^ 32, 0].getD (bits (stIMM w) 8 2) 0) ∧
  RowStep .lstepLdp 0x0C (fun r w =>
    let inForce := bit (r.w.getD 1 0) 8 = true ∧ bit (r.w.getD 3 0) 31 = true ∧
      bits (r.w.getD 3 0) 0 16 = (r.genNow (bits (r.w.getD 1 0) 0 8)).2.1 % 2 ^ 16
    ({ r.setV (stD w) (if inForce then r.w.getD 2 0 else r.reg (stB w)) with stale := !decide inForce }).next) ∧
  RowSum .lstepAdd 0x10 (fun a b => a + b) ∧
  RowSum .lstepSub 0x11 (fun a b => a - b) ∧
  RowStep .lstepMul 0x12 (fun r w => (r.put (stD w) (stRnd w (r.sreg (stA w) * r.sreg (stB w) * 2 ^ stSH w))).next) ∧
  RowStep .lstepMac 0x13 (fun r w =>
    (r.setAcc (bits w 8 1) (r.acc (bits w 8 1) + r.sreg (stA w) * r.sreg (stB w) * 2 ^ stSH w)).next) ∧
  RowStep .lstepMsu 0x14 (fun r w =>
    (r.setAcc (bits w 8 1) (r.acc (bits w 8 1) - r.sreg (stA w) * r.sreg (stB w) * 2 ^ stSH w)).next) ∧
  RowStep .lstepLdy 0x15 (fun r w => (r.setAcc (bits w 8 1) (r.sreg (stA w) * 2 ^ 31)).next) ∧
  RowStep .lstepMovy 0x16 (fun r w => (r.put (stD w) (stRnd w (r.acc (bits w 11 1) * 2 ^ stSH w))).next) ∧
  RowSum .lstepAbs 0x17 (fun a _ => a.natAbs) ∧
  RowSum .lstepNeg 0x18 (fun a _ => -a) ∧
  RowValue .lstepShr 0x19 (fun r w => wrap 32 (r.sreg (stA w) / 2 ^ bits (stIMM w) 0 5)) ∧
  RowStep .lstepShl 0x1A (fun r w => (r.put (stD w) (q31 false (r.sreg (stA w) * 2 ^ bits (stIMM w) 0 5))).next) ∧
  RowValue .lstepMin 0x1B (fun r w => wrap 32 (min (r.sreg (stA w)) (r.sreg (stB w)))) ∧
  RowValue .lstepMax 0x1C (fun r w => wrap 32 (max (r.sreg (stA w)) (r.sreg (stB w)))) ∧
  RowStep .lstepLim 0x20 (fun r w =>
    let lo := r.sreg (stB w)
    let hi := r.sreg (stB w + 1)
    let x := r.sreg (stA w)
    if lo > hi ∨ x < lo then (r.limit (stD w) lo true).next
    else if x > hi then (r.limit (stD w) hi true).next else (r.limit (stD w) x false).next) ∧
  RowStep .lstepLimi 0x21 (fun r w =>
    let lo : Int := sgn 16 (bits w 32 16) * 65536
    let hi : Int := sgn 16 (bits w 48 16) * 65536
    let x := r.sreg (stA w)
    if lo > hi ∨ x < lo then (r.limit (stD w) lo true).next
    else if x > hi then (r.limit (stD w) hi true).next else (r.limit (stD w) x false).next) ∧
  RowStep .lstepPi 0x28 (fun r w => (r.pi w).next) ∧
  RowStep .lstepFil1 0x29 (fun r w => (r.fil1 w).next) ∧
  RowStep .lstepRes 0x2A (fun r w => (r.res w).next) ∧
  RowStep .lstepDuty 0x30 (fun r w =>
    let b := r.reg (stB w)
    let t : Int := if r.sreg (stA w) ≤ 0 then 0 else rnd31 (stRND w) (r.sreg (stA w) * b)
    (r.limit (stD w) (min t b) (decide (t > b))).next) ∧
  RowStep .lstepCmpw 0x38 (fun r w =>
    if r.cmpw.length < 8 then { r with cmpw := r.cmpw ++ [(bits (stIMM w) 0 8, bits (stIMM w) 8 2, r.reg (stA w))] }.next
    else r.fail 2) ∧
  RowStep .lstepSts 0x39 (fun r w => (r.setSt (bits (stIMM w) 0 3) (r.sreg (stA w))).next) ∧
  RowStep .lstepStw 0x3A (fun r w =>
    if r.stw.length < 4 then { r with stw := r.stw ++ [(bits (stIMM w) 0 8, r.reg (stA w))] }.next else r.fail 2) ∧
  RowStep .lstepWake 0x3B (fun r w =>
    if r.wake.length + r.evt.length < 4 then { r with wake := r.wake ++ [(bits (stIMM w) 0 11, r.reg (stA w))] }.next
    else r.fail 2) ∧
  RowStep .lstepEvt 0x3C (fun r w =>
    if r.wake.length + r.evt.length < 4 then { r with evt := r.evt ++ [bits (stIMM w) 0 6] }.next else r.fail 2)

/-- R114 and R115: PI saturates its integrator within its limit and its output within Q31; FIL1 and RES keep their states; what
they leave in the run, in the values of the working copy. -/
def Obligations.LoopFilters : Prop :=
  ∀ (r : Run) (w : Nat), r.w.length = 16 → r.v.length = 8 → stNOSAT w = false →
    let e := r.sreg (stA w)
    let k := bits w 32 3
    let q := fun (x : Int) => satS 32 (rnd31 (stRND w) x)
    (let vl := r.sreg (bits w 36 3)
     let lim : Int := min (vl.natAbs : Int) (2 ^ 31 - 1)
     let i := max (-lim) (min lim (r.st k + q (r.sreg (stB w + 1) * e * 2 ^ stSH w)))
     let y := satS 32 (q (r.sreg (stB w) * e * 2 ^ stSH w) + i)
     k < 5 → (r.pi w).st k = i ∧ (r.pi w).sreg (stD w) = y ∧
       (r.pi w).limf = decide (r.st k + q (r.sreg (stB w + 1) * e * 2 ^ stSH w) ≠ i) ∧ (r.pi w).y0 = r.y0 ∧ (r.pi w).y1 = r.y1) ∧
    (let y := satS 32 (r.st k + q (r.sreg (stB w) * (e - r.st k)))
     k < 5 → (r.fil1 w).st k = y ∧ (r.fil1 w).sreg (stD w) = y ∧ (r.fil1 w).limf = r.limf) ∧
    (let y := satS 32 (q (2 * r.sreg (stB w) * r.st k) - r.st (k + 1) + q (r.sreg (stB w + 1) * e * 2 ^ stSH w))
     k < 4 → (r.res w).st k = y ∧ (r.res w).st (k + 1) = r.st k ∧ (r.res w).sreg (stD w) = y)

/-- R108, R109, R117, R119, R122 to R127 and R132: triggers, dispatch, the end of a run, shared values, the scrubbers and the
writes of program steps. Choices of the model that clauses rest on: log entry 17. -/
def Obligations.LoopRuns : Prop :=
  (∀ (s : State) (req t n : Nat),
    let p := pageLENG t
    let pend := fun (x : Trig) => ({ s with loop.pend := SMap.put s.loop.pend (2048 * t + n) x } : State)
    s.Writes p 0x4C req n → n < 2048 →
    exec (.softwareTrigger req t n) s = .next ((s.triggerBoth t n [0] s.tick).wrote p 0x4C req n) ∧ (s.lone t →
    (s.ctxEN t n = true → SMap.has s.loop.pend (2048 * t + n) = false →
      exec (.softwareTrigger req t n) s = .next ((pend ⟨[0], s.tick, false⟩).wrote p 0x4C req n)) ∧
    (s.ctxEN t n = true → SMap.has s.loop.pend (2048 * t + n) = true →
      exec (.softwareTrigger req t n) s = .next
        (({ s.countMerged t with loop.pend := SMap.put s.loop.pend (2048 * t + n) ⟨[0], s.tick, false⟩ } : State).wrote p 0x4C req n)) ∧
    (s.gateShut t = false → s.countMerged t = s.satF (pgLENG t) F.LENG_CNT1_MERGED) ∧
    (s.ctxEN t n = false →
      exec (.softwareTrigger req t n) s = .next ((s.satF (pgLENG t) F.LENG_CNT3_IDLE_TRIG).wrote p 0x4C req n)))) ∧
  (∀ (s : State) (t n k : Nat) (tr : Trig),
    s.dispatches t = true → s.nextTrig t = some (n, tr) →
    (∀ word, word < 16 → exec (.dispatch t word) s =
      .next ((s.setCtxWord t n 0 (setBit (s.ctxWord t n 0) 0 false)).satF (pgCSTO t) F.CSTO_SCRUB_UNCORR)) ∧
    (s.pickSlice t = some k → SMap.get? s.loop.swapNext (16 * t + k) = none →
      exec (.dispatch t 16) s = .next (({ s with
          loop.pend := SMap.erase s.loop.pend (2048 * t + n)
          loop.runs := SMap.put s.loop.runs (16 * t + k) (s.runsAt t k ++ [s.newRun t n tr]) } : State).maxF (pgLENG t)
        (F.LENG_WAIT_WAITMAX (s.ctxClass t n)) (s.tick - (tr.arr + 1))))) ∧
  (∀ (s : State) (t k lanes : Nat) (r : Run) (rest : List Run),
    let b := pgLENG t
    let u := ({ s with
      loop.commits := SMap.put s.loop.commits (16 * t + k) rest
      loop.wroteAt := SMap.put s.loop.wroteAt (2048 * t + r.ctx) s.tick } : State).incF b F.LENG_RUNS_RUNS
    SMap.getD s.loop.commits (16 * t + k) [] = r :: rest → r.enter + r.pairs + 7 ≤ s.tick →
    (exec (.runCommit t k 0 true) s = .next (((u.satF b F.LENG_CNT0_NOMAJ).lengFault t r.ctx 4 0).pulse b 3)) ∧
    (r.fault ≠ 0 → exec (.runCommit t k 0 false) s = .next
      (let v := ((u.lengFault t r.ctx r.fault r.faultStep).pulse b 5).presetLost t r (2 ^ 15)
       v.setCtxWord t r.ctx 15 (ctxStat (v.ctxWord t r.ctx 15) false r.sat r.lim true))) ∧
    (r.fault = 0 → exec (.runCommit t k 0 false) s = .next (u.commitRun t r)) ∧
    (∀ lane, lane < 3 → r.fault = 0 →
      exec (.runCommit t k (2 ^ lane) false) s = .next ((u.outvoted t k lane).commitRun t r))) ∧
  (∀ (s : State) (req t idx data : Nat),
    let p := pageLENG t
    let off := 0x400 + 4 * idx
    s.Writes p off req data → idx < 256 →
    exec (.sharedValueWrite req t idx data) s = .next
      (({ s with loop.shv := shvInsert (t / 10, idx, data, s.tick + 6, 0) s.loop.shv } : State).wrote p off req data)) ∧
  (∀ (s : State) (c idx v tick ord : Nat),
    s.loop.shv = [(c, idx, v, tick, ord)] → tick ≤ s.tick →
    exec (.sharedValueApply c) s = .next (((List.range 10).foldl (fun (z : State) j =>
      z.setF (pgLENG (10 * c + j)) (F.LENG_SHV_VALUE idx) v) { s with loop.shv := [] }).setIQ c false idx (sgn 32 v))) ∧
  (∀ (s : State) (t n word copies : Nat),
    let b := pgCSTO t
    let ends := fun (u : State) => if n = 2047 ∧ word = 15 then u.incF b F.CSTO_SCRUB_PASSES else u
    copies < 8 →
    (copies = 0 ∨ s.ctxWrittenNow t n word = true → exec (.contextScrub t n word copies) s = .next (ends s)) ∧
    (copies = 1 ∨ copies = 2 ∨ copies = 4 → s.ctxWrittenNow t n word = false → exec (.contextScrub t n word copies) s = .next (ends
      (((((s.satF b F.CSTO_SCRUB_CORRECTED).setF b F.CSTO_SCRUB_LAST_LOCAL n).setF b F.CSTO_SCRUB_LAST_WORD word).setF b
        F.CSTO_SCRUB_LAST_COPY (copies / 2)).setFlag b F.CSTO_SCRUB_LAST_VALID true))) ∧
    (copies = 3 ∨ 5 ≤ copies → s.ctxWrittenNow t n word = false → exec (.contextScrub t n word copies) s = .next (ends
      ((s.setCtxWord t n 0 (setBit (s.ctxWord t n 0) 0 false)).satF b F.CSTO_SCRUB_UNCORR)))) ∧
  (∀ (s : State) (t k : Nat),
    let b := pgLPRG t
    let key := 4096 * t + k
    let ends := fun (u : State) => if k = 4095 then u.incF b F.LPRG_STAT_PASSES else u
    let upset := fun (e : Nat) => ({ s with loop.progBad := SMap.put s.loop.progBad key e } : State)
    let repaired := ({ s with loop.progBad := SMap.erase s.loop.progBad key } : State).satF b F.LPRG_STAT_CORRECTED
    let lost := fun (v : State) => (({ v with loop.progBad := SMap.put v.loop.progBad key 1 } : State).setF b F.LPRG_ERR_LAST_STEP
      k).setFlag b F.LPRG_ERR_LAST_VALID true
    let found := SMap.get? s.loop.progBad key
    (found = none → exec (.programScrub t k 0) s = .next (ends s)) ∧
    (found = none ∨ found = some 2 → exec (.programScrub t k 1) s = .next (ends repaired)) ∧
    (found = some 3 → exec (.programScrub t k 1) s = .next (ends (lost (s.satF b F.LPRG_STAT_UNCORR)))) ∧
    (found = some 1 → exec (.programScrub t k 1) s = .next (ends (lost s))) ∧
    exec (.programScrub t k 2) s = .next (ends (lost ((upset 3).satF b F.LPRG_STAT_UNCORR))) ∧
    (found = some 2 → exec (.programScrub t k 0) s = .next (ends repaired)) ∧
    (found = some 3 → exec (.programScrub t k 0) s = .next (ends (lost (s.satF b F.LPRG_STAT_UNCORR)))) ∧
    (found = some 1 → exec (.programScrub t k 0) s = .next (ends (lost s))) ∧
    (found = none → exec (.programScrub t k 3) s = .next (upset 2)) ∧ (found = some 2 → exec (.programScrub t k 3) s = .next (upset 3)) ∧
    (found = some 1 ∨ found = some 3 → exec (.programScrub t k 3) s = .next s) ∧
    (found ≠ some 1 → exec (.programScrub t k 4) s = .next (upset 3)) ∧ (found = some 1 → exec (.programScrub t k 4) s = .next s)) ∧
  (∀ (s : State) (req addr size data t off : Nat),
    let a : Access := ⟨req, addr, size, true, data⟩
    let k := off / 8
    let h : HeldStep := ⟨t, off, size, data, req, addr⟩
    let v := h.merge (s.stepDue t k)
    let waits := s.stepInUse t k = true ∨ ∃ e ∈ s.loop.heldSteps, e.tile = t ∧ e.step = k
    s.Arrives (.prog t off) a → (size = 4 ∧ addr % 4 = 0) ∨ (size = 8 ∧ addr % 8 = 0) →
    (size = 8 → data < 2 ^ 64 → v = data) ∧
    (stepOk v = false → exec (.programStepWrite req addr size data) s =
      .next ((s.recordErr (pgLPRG t) 0x20 a).respond req false 0)) ∧
    (stepOk v = true → ¬waits → exec (.programStepWrite req addr size data) s = .next (({ s with
        loop.prog := SMap.put s.loop.prog (4096 * t + k) v
        loop.progBad := SMap.erase s.loop.progBad (4096 * t + k) } : State).respond req false 0)) ∧
    (stepOk v = true → waits →
      exec (.programStepWrite req addr size data) s = .next { s with loop.heldSteps := s.loop.heldSteps ++ [h] })) ∧
  (∀ (s : State) (t : Nat) (h : HeldStep) (rest : List HeldStep),
    let k := h.off / 8
    s.loop.heldSteps = h :: rest → h.tile = t → s.stepInUse t k = false →
    exec (.heldStepWriteApply t) s = .next ((({ s with
      loop.heldSteps := rest
      loop.prog := SMap.put s.loop.prog (4096 * t + k) (h.merge (s.stepAt t k))
      loop.progBad := SMap.erase s.loop.progBad (4096 * t + k) } : State).satF (pgLPRG t) F.LPRG_HELD_HELD).respond h.req false 0))

/-- R15, R106, R119 and R121: a commit rewrites CTX_STAT, its reserved bits 0, and the states its run wrote, and no other word of
any context of the tile. -/
def Obligations.CommitWritesBack : Prop :=
  ∀ (s : State) (t n w : Nat) (r : Run), r.ctx < 2048 → n < 2048 → w < 16 →
    let u := s.commitRun t r
    let miss := (r.cmpw.find? fun c => s.missed t c.1 r.start).isSome
    u.ctxWord t n w =
      if n ≠ r.ctx ∨ w < 10 then s.ctxWord t n w
      else if w = 15 then ctxStat (s.ctxWord t n 15) miss r.sat r.lim false &&& 0xFF0FFFFF
      else if bit r.wrote w then r.w.getD w 0 % 2 ^ 32 else s.ctxWord t n w

/-! ## Chapter 06: generators, edges and trips -/

/-- R134, R138, R158, R159 and R163: RUN, ARM and CLR_REQ written, where each takes effect and where it changes nothing. Choices
of the model that clauses rest on: log entry 10. -/
def Obligations.GeneratorControl : Prop :=
  ∀ (s : State) (t g req old : Nat),
    let b := pgPWMG t g
    let m := g % 16
    let off := 0x80 + 0x60 * m
    let u := s.setFlag b (F.PWMG_CTRL_SH_HOLD m) (bit old 3)
    let st := s.genState t g
    let free := st < 2 ∨ st = 5
    let opn := s.lockOpen (pagePWMG t g) req = true
    (bit old 0 = false → s.WritesCtrl t g req old (old + 1) →
      (64 ≤ s.shadowPer t g → bit old 1 = true ∨ free →
        exec (.generatorRun req t g) s = .next ((u.genRun t g).genWrote t g off req (old + 1))) ∧
      (s.shadowPer t g < 64 → exec (.generatorRun req t g) s = .next (s.genWrote t g off req (old + 1) 0x0C))) ∧
    (bit old 0 = true → s.WritesCtrl t g req old (old - 1) → bit old 1 = true ∨ st ≠ 5 →
      exec (.generatorStop req t g) s = .next ((u.genStop t g).genWrote t g off req (old - 1))) ∧
    (bit old 1 = false → s.WritesCtrl t g req old (old + 2) → free →
      (opn → s.armRefused t g = false →
        exec (.generatorArm req t g) s = .next (((((u.setFlag b (F.PWMG_CTRL_ARM m) true).setGenState t g 2).setGen t g
          { s.gen t g with armAt := s.tick }).tripCheck t g).genWrote t g off req (old + 2))) ∧
      (opn → s.armRefused t g = true → exec (.generatorArm req t g) s = .next (s.genWrote t g off req (old + 2) 0x23)) ∧
      (¬opn → exec (.generatorArm req t g) s = .next (u.genWrote t g off req (old + 2) 0x06))) ∧
    (bit old 1 = true → s.WritesCtrl t g req old (old - 2) →
      exec (.generatorDisarm req t g) s = .next ((u.genDisarm t g).genWrote t g off req (old - 2))) ∧
    (bit old 2 = false → bit old 1 = true → s.WritesCtrl t g req old (old + 4) →
      (opn → st = 4 →
        exec (.tripClearRequest req t g) s = .next ((u.setFlag b (F.PWMG_CTRL_CLR_REQ m) true).genWrote t g off req (old + 4))) ∧
      (opn → st ≠ 4 → exec (.tripClearRequest req t g) s = .next (u.genWrote t g off req (old + 4))) ∧
      (¬opn → exec (.tripClearRequest req t g) s = .next (u.genWrote t g off req (old + 4) 0x06)))

/-- R133, R134, R138 and R139: a reload of a generator that is not armed brings the shadow into force and restarts its counter;
with a PER below 64 the generator stops in CFG_ERR, its outputs in the dust sheet. Choices of the model that clauses rest on: log
entry 18. -/
def Obligations.Reload : Prop :=
  (∀ (s : State) (t g : Nat) (nomaj : Bool) (err : Int),
    let b := pgPWMG t g
    let m := g % 16
    let x := s.gen t g
    let r := s.nextReload t g
    let z := s.genReload t g nomaj err
    s.flag b (F.PWMG_CTRL_RUN m) = true → r ≤ s.tick → s.genState t g < 2 → x.shPend = [] → (s.rec_ t g).repeating = false →
    s.flag b (F.PWMG_CTRL_SH_HOLD m) = false → SMap.get? s.bus.frozen b ≠ some 1 →
    (64 ≤ s.shadowPer t g →
      (z.gen t g).origin = r ∧ (z.gen t g).load = none ∧ (z.gen t g).first = none ∧ (z.gen t g).per = s.shadowPer t g ∧ (z.gen t g).on_ = s.shadowCmp t g 0 ∧
      (z.gen t g).off_ = s.shadowCmp t g 1 ∧ (z.gen t g).eva = s.shadowCmp t g 2 ∧ (z.gen t g).evb = s.shadowCmp t g 3) ∧
    (s.shadowPer t g < 64 →
      z.genState t g = 5 ∧ z.flag b (F.PWMG_CTRL_RUN m) = false ∧ z.flag b (F.PWMG_CTRL_ARM m) = false ∧
      z.flag b (F.PWMG_STAT_CFG_ERR m) = true ∧ z.flag b (F.PWMG_STAT_DS m) = true)) ∧
  (∀ (s : State) (t g : Nat) (nomaj : Bool) (err : Int),
    let u := (s.refireDue t g).groupReload t g
    let z := (u.genReload t g nomaj err).refireCompare t g
    s.gateShut t = false →
    ((z.gen t g).origin = (u.gen t g).origin →
      exec (.generatorReload t g nomaj err) s = .next ((z.fcstAbort (t / 10)).strength s t)) ∧
    ((z.gen t g).origin ≠ (u.gen t g).origin →
      exec (.generatorReload t g nomaj err) s = .next (((z.launchesSet t g).fcstAbort (t / 10)).strength s t))) ∧
  (∀ (s : State) (t g : Nat) (nomaj : Bool) (err : Int), s.gateShut t = true →
    exec (.generatorReload t g nomaj err) s = .next (s.mirrorReload t g err))

/-- R96, R135, R137, R139 to R146, R150, R154, R160 to R165: compare matches, delayed rises, lanes, shadow writes, phase loads, the
binding, and trips: a trip puts STATE to TRIPPED and the outputs into the dust sheet, and records its source. Choices of the model
that clauses rest on: log entries 18 and 19. -/
def Obligations.GeneratorEvents : Prop :=
  (∀ (s : State) (t g : Nat),
    let x := s.gen t g
    s.gateShut t = false → s.genRuns t g = true → x.per ≤ s.genCount t g + 1 → bit x.matched 4 = false →
    exec (.pendEvent t g) s = .next ((s.setGen t g { x with matched := setBit x.matched 4 true }).genEvent t g 1)) ∧
  (∀ (s : State) (t g which upset : Nat),
    let x := s.gen t g
    let v := x.cmpAt (s.genState t g == 3) which
    let y : Gen := { x with matched := setBit x.matched which true }
    let u := s.setGen t g y
    let a := 32 * x.enters (v / 32) + v % 32
    which < 4 → (which = 1 → x.catchAt = none) → s.gateShut t = false → s.genRuns t g = true → bit x.matched which = false → v / 32 < x.per → v / 32 ≤ s.genCount t g →
    (2 ≤ which → exec (.compareMatch t g which upset) s = .next ((u.genEvent t g (which + 2)).strength s t)) ∧
    (s.genState t g = 3 → s.bindMode t g ≠ 2 →
      (which = 0 → x.pulse = true → x.m = false →
        let q := ({ y with m := true } : Gen).mUp (s.dead t g) a
        let f := q.1.flush (32 * (a / 32 + 1))
        exec (.compareMatch t g 0 upset) s = .next ((((((u.setGen t g f.1).countFormed t g 0 q.2.2.toNat).outputs t g (q.2.1 ++ f.2)
          upset).genEvent t g 2)).strength s t)) ∧
      (which = 1 → x.m = true →
        let q := ({ y with m := false } : Gen).mDown (s.dead t g) a (u.riseAfter t g) (32 * (a / 32))
        let f := q.1.flush (32 * (a / 32 + 1))
        exec (.compareMatch t g 1 upset) s = .next ((((((u.setGen t g f.1).countFormed t g q.2.2.toNat 0).outputs t g (q.2.1 ++ f.2)
          upset).genEvent t g 3)).strength s t))) ∧
    (s.genState t g = 3 → s.bindMode t g = 2 →
      (which = 0 → x.pulse = true → x.m = false → exec (.compareMatch t g 0 upset) s =
        .next (((u.setGen t g { y with m := true }).genEvent t g 2).strength s t)) ∧
      (which = 1 → x.m = true → exec (.compareMatch t g 1 upset) s =
        .next (((u.setGen t g { y with m := false }).genEvent t g 3).strength s t)))) ∧
  (∀ (s : State) (t g r upset : Nat),
    let x := s.gen t g
    s.gateShut t = false → s.bindMode t g ≠ 2 → r / 32 ≤ s.tick →
    (x.hRise = some r → exec (.deadTimeExpiry t g true upset) s =
      .next (((s.setGen t g { x with h := true, hRise := none }).outputs t g [⟨true, true, r⟩] upset).strength s t)) ∧
    (x.lRise = some r → exec (.deadTimeExpiry t g false upset) s =
      .next (((s.setGen t g { x with l := true, lRise := none, lRose := r }).outputs t g [⟨false, true, r⟩] upset).strength s t))) ∧
  (∀ (s : State) (t : Nat), exec (.laneRelease t) s =
    .next (s.setLanes t { s.lanesOf t with busy := (s.lanesOf t).busy.filter fun e => s.tick < e.2 })) ∧
  (∀ (s : State) (t upset : Nat) (e : WaitEdge) (rest : List WaitEdge),
    let gx := s.gen t e.gen
    let a := max (32 * s.tick + e.want % 32) (gx.placeAt e.want)
    let q := (s.setLanes t { s.lanesOf t with delayed := rest }).claim t
    s.gateShut t = false → (s.lanesOf t).delayed = e :: rest → 3 ≤ (s.freeLanes t).length →
    exec (.delayedEdgePlace t upset) s = .next ((((q.1.setGen t e.gen { gx with lastWant := e.want, lastPlaced := a }).driveEdge t
      e.gen e.isH e.rise a true q.2 upset).maxF (pgEDGE t) F.EDGE_WAIT_LWAIT_MAX (a / 32 - e.want / 32)).strength s t)) ∧
  (∀ (s : State) (req t g reg data : Nat),
    let off := 0x88 + 0x60 * (g % 16) + 4 * reg
    let k := reg - 2
    let p := pagePWMG t g
    let a := (s.put p (s.wrOf p req data) off (s.loopEntered t g)).1
    let first := s.loopEntered t g = [] ∧ ∀ f, s.softUnder (pgPWMG t g) f 0 req = false
    s.Writes p off req data → g < 256 → s.unstaged p →
    (reg = 0 → exec (.shadowWrite req t g reg data) s = .next ((a.lateWrite t g).genWrote t g off req data) ∧
      (first → a.shadowPer t g = data % 2 ^ 27)) ∧
    (reg = 1 → exec (.shadowWrite req t g reg data) s =
      .next ((s.softF (pgPWMG t g) (F.PWMG_PHASE_PHASE (g % 16)) req data).genWrote t g off req data)) ∧
    (2 ≤ reg → reg < 6 →
      let imm := (reg = 4 ∧ s.flag (pgPWMG t g) (F.PWMG_CFG_EVA_IMM (g % 16)) = true) ∨
        (reg = 5 ∧ s.flag (pgPWMG t g) (F.PWMG_CFG_EVB_IMM (g % 16)) = true)
      let u := a.lateWrite t g
      (first → a.shadowCmp t g k = data) ∧
      (¬imm → exec (.shadowWrite req t g reg data) s = .next (u.genWrote t g off req data)) ∧
      (imm → exec (.shadowWrite req t g reg data) s = .next ((u.immediate t g k).genWrote t g off req data)))) ∧
  (∀ (s : State) (t g k v n tick : Nat),
    let x := s.gen t g
    let u := s.setGen t g { x with
      shPend := []
      entered := (x.entered.filter fun e => e.1 == s.tick) ++ (if tick = s.tick then [(tick, k)] else []) }
    x.shPend = [(tick, k, v, n)] → tick ≤ s.tick →
    (k < 4 → exec (.shadowCommitEntry t g) s = .next ((u.setShadowCmp t g k v).immediateIf t g k)) ∧
    (k = 4 → exec (.shadowCommitEntry t g) s = .next (u.setF (pgPWMG t g) (F.PWMG_PER_PER (g % 16)) v))) ∧
  (∀ (s : State) (t page which : Nat) (tok : Tok),
    let i := 80 + 2 * page + which
    let l := lathTile t
    let u := s.lateLoads t page
    which < 2 → s.headTok l i = some tok →
    (u.syncBusy t page = false → u.tookNow l i = false →
      exec (.phaseLoad t page which) s = .next ((u.tookOne l i).syncEvent t page which)) ∧
    (u.syncBusy t page = true ∨ u.tookNow l i = true → exec (.phaseLoad t page which) s = .next (u.overranOne l i))) ∧
  (∀ (s : State) (t page : Nat), s.syncBusy t page = true ↔ ∃ m < 16, ∃ c, (s.gen t (16 * page + m)).load = some (s.tick, c)) ∧
  (∀ (s : State) (req t g data : Nat),
    let p := pagePWMG t g
    let off := 0x80 + 0x60 * (g % 16) + 0x2C
    let w : Wr := ⟨req, 4, data, true⟩
    s.Writes p off req data → g < 256 → s.unstaged p → s.lockOpen p req = true → s.rwlSame p off w = false →
    (s.genState t g ∈ [0, 1, 5] → s.bindCause t g data = 0 → exec (.bindWrite req t g data) s =
      .next (((((s.showBind t g false).put p w off).1.showBind t g true).genWrote t g off req data))) ∧
    (s.genState t g ∈ [0, 1, 5] → s.bindCause t g data ≠ 0 →
      exec (.bindWrite req t g data) s = .next (s.genWrote t g off req data (s.bindCause t g data))) ∧
    (s.genState t g ∉ [0, 1, 5] → exec (.bindWrite req t g data) s =
      .next (s.genWrote t g off req data (if s.bindCause t g data = 0x0C then 0x0C else 0x20)))) ∧
  (∀ (s : State) (c k : Nat) (v : Int),
    let u : State := { s with samp.inp := SMap.put s.samp.inp (32 * c + k) v }
    (u.sourceActive c k = u.edge.active.contains (32 * c + k) → exec (.tripSourceActive c ⟨k, v⟩) s = .next (u.fcstAbort c)) ∧
    (u.sourceActive c k ≠ u.edge.active.contains (32 * c + k) →
      exec (.tripSourceActive c ⟨k, v⟩) s = .next (((u.pathMark c k).tripLevel c k (u.sourceActive c k)).fcstAbort c))) ∧
  (∀ (s : State) (t g src : Nat),
    s.gateShut t = false → s.genState t g = 2 ∨ s.genState t g = 3 → s.blanked t g = false → s.tripSource t g = some src →
    exec (.blankingClose t g) s = .next ((s.trip t g src).fcstAbort (t / 10))) ∧
  (∀ (s : State) (t g src : Nat), t < 40 → g < 256 → src < 32 →
      let b := pgPWMG t g
      let m := g % 16
      let z := s.trip t g src
      z.genState t g = 4 ∧ z.flag b (F.PWMG_STAT_DS m) = true ∧ z.flag b (F.PWMG_STAT_H m) = false ∧
        z.flag b (F.PWMG_STAT_L m) = false ∧ z.getF b (F.PWMG_TRIPREC_SRC m) = src ∧ z.flag b (F.PWMG_TRIPREC_SRC_VALID m) = true ∧
        (z.gen t g).h = false ∧ (z.gen t g).l = false ∧ (z.gen t g).plan = [])

/-! ## Chapter 07: Aedier cell links -/

/-- R168 to R195: what the device makes of a frame that arrives, of one whose HCRC or CRC-32 does not match, of a break report, of
block lock won and lost, and what its ring transmitters send: sets and commands by class, management requests by credit, TIME,
calibration and enumeration. Choices of the model that clauses rest on: log entries 20 and 21. -/
def Obligations.RingLinks : Prop :=
  (∀ (s : State) (b0 b1 : LineBlock) (bs : List LineBlock) (r d sof : Nat) (blocks : List Nat) (crc : Nat),
    let b := pgRING r
    let f := Frame.ofHead sof blocks
    let x := s.heardUp r f.pos
    let old := (x.ring r).place f.pos
    let w := fun (i : Nat) => bits (blocks.getD (i / 2) 0) (32 * (i % 2)) 32
    let late := bits (blocks.getD 3 0) 0 16
    let reps := bits (blocks.getD 3 0) 16 8
    let u := x.setRing r ((x.ring r).setPlace f.pos { old with seq := some f.seq, seen := true, late := late, reps := reps })
    let v := if old.seen = false then u else (u.satF b F.RING_CNT2_LATE_EDGE ((late + 65536 - old.late) % 65536)).satF b F.RING_CNT4_REPEATS
          ((reps + 256 - old.reps) % 256)
    let z := v.klogRecord (r / 32) 2 (f.flags % 2) (nodeId r f.pos) v.count [w 0, w 1, w 2, w 3]
    s.Hears r d (lineOf b0 bs b1) sof blocks crc 2 → f.pos < s.getF b F.RING_CTRL_NODES →
    (newer old.seq f.seq = false → exec (.measReceive r d b0 bs b1 []) s = .next (x.satF b F.RING_CNT1_DUP)) ∧
    (newer old.seq f.seq = true → f.flags % 2 = 0 → exec (.measReceive r d b0 bs b1 []) s = .next z) ∧
    (newer old.seq f.seq = true → f.flags % 2 = 1 → exec (.measReceive r d b0 bs b1 []) s =
      .next ((List.range 10).foldl (fun (y : State) j => y.triggerAll (10 * (r / 32) + j) 2 (32 * (r % 32) + f.pos)
        [w 0, w 1, w 2, w 3, y.count % 2 ^ 32] y.tick) z))) ∧
  (∀ (s : State) (b0 b1 : LineBlock) (bs : List LineBlock) (r d sof : Nat) (blocks : List Nat) (crc : Nat) (o : MOut),
    let f := Frame.ofHead sof blocks
    let x := s.heardUp r f.pos
    s.Hears r d (lineOf b0 bs b1) sof blocks crc 4 → f.pos < s.getF (pgRING r) F.RING_CTRL_NODES → o.req.kind = 0 → o.req.addr ≠ 4 →
    ((x.ring r).out.find? fun e => e.req.pos == f.pos && e.seq == f.seq) = some o →
    exec (.mrspReceive r d b0 bs b1 []) s =
      .next ((x.endReq r o false).queueRsp r o.req (bits (blocks.getD 0 0) 13 3) (bits (blocks.getD 0 0) 32 32))) ∧
  (∀ (s : State) (b0 b1 : LineBlock) (bs : List LineBlock) (r d sof : Nat) (blocks : List Nat) (crc frac : Nat),
    let f := Frame.ofHead sof blocks
    let x := s.heardUp r f.pos
    let e := 1 - d
    let p := (x.ring r).place f.pos
    let rtt : Int := ((32 * x.count + frac : Nat) : Int) - ((32 * blocks.getD 0 0 : Nat) : Int)
    let dly := wrap 24 ((rtt - bits (blocks.getD 1 0) 32 32 - bits (blocks.getD 1 0) 0 32) / 2)
    let y := x.setF (pgRING r) (if e = 0 then F.RING_DLY_CW_DLY f.pos else F.RING_DLY_CCW_DLY f.pos) dly
    s.Hears r d (lineOf b0 bs b1) sof blocks crc 7 → f.pos < s.getF (pgRING r) F.RING_CTRL_NODES → p.cal.contains e = true →
    exec (.echorReceive r d b0 bs b1 [] frac) s = .next (y.setRing r { y.ring r with
      pos := SMap.put (y.ring r).pos f.pos { p with cal := p.cal.erase e }
      own := (y.ring r).own ++ [⟨0x10 + 4 * e, f.pos, true, 0, dly, 2 + e⟩] })) ∧
  (∀ (s : State) (b0 b1 : LineBlock) (bs : List LineBlock) (r d sof : Nat) (blocks : List Nat) (crc : Nat),
    s.Hears r d (lineOf b0 bs b1) sof blocks crc 8 → bit (bits sof 40 8) 1 = false →
    exec (.enumReturn r d b0 bs b1 []) s = .next (((s.setF (pgRING r) F.RING_STAT_FOUND (blocks.getD 0 0)).setFlag (pgRING r)
      F.RING_CTRL_ENUM false).raiseIrq (pgRING r) 5)) ∧
  (∀ (s : State) (b0 : LineBlock) (r d blk : Nat),
    let b := pgRING r
    let fp := if d = 0 then F.RING_BRK_CW_POS else F.RING_BRK_CCW_POS
    let fv := if d = 0 then F.RING_BRK_CW_VALID else F.RING_BRK_CCW_VALID
    let x := s.ring r
    let u := s.setRing r (if d = 0 then { x with brkCw := s.tick } else { x with brkCcw := s.tick })
    s.rxOpen r d = true → x.rx d = none → blk % 256 = 0x4B → crc8 (natBytes (blk / 256) 6) = bits (blk / 256) 48 8 →
    bits (blk / 256) 6 42 = 0 → bit blk 13 = true → s.linePlain (rxLane r d) b0 = (2, blk) →
    exec (.brkStatusReceive r d [b0]) s = .next (((u.setF b fp (bits blk 8 5)).setFlag b fv true).ringWhole r
      (!s.flag b fv || s.getF b fp != bits blk 8 5))) ∧
  (∀ (s : State) (r d : Nat),
    let b := pgRING r
    let fv := if d = 0 then F.RING_BRK_CW_VALID else F.RING_BRK_CCW_VALID
    s.flag b fv = true → (if d = 0 then (s.ring r).brkCw else (s.ring r).brkCcw) + 20000 ≤ s.tick →
    exec (.brkReportTimeout r d) s = .next ((s.setFlag b fv false).ringWhole r true)) ∧
  (∀ (s : State) (group lane : Nat),
    let l := 32 * group + lane
    (s.flag (pgSERD l) (F.SERD_LSTAT_LOCK (l % 32)) = true → exec (.laneLockLoss 0 group lane) s =
      .next ((((s.laneDrop l).satF (pgSERD l) (F.SERD_LSTAT_LOCK_LOSS (l % 32))).pulse (pgSERD l) (l % 32 / 2)).laneLock l false)) ∧
    (lane < 8 → exec (.laneLockLoss 1 group lane) s = .next (s.setPeer lane { s.peer lane with lock := none })) ∧
    (lane < 2 → exec (.laneLockLoss 2 group lane) s = .next (s.setFlag (pgMGMT lane) F.MGMT_STAT_LINK false)) ∧
    (s.laneReset lane = false →
      5 * (SMap.getD s.link.lanes lane {}).goodAt + 64 * 132 ≤ 5 * s.tick → exec (.blockLockGain 0 lane) s = .next (s.laneLock lane true)) ∧
    (lane < 8 → exec (.blockLockGain 1 lane) s = .next (s.grpLaneLock lane)) ∧
    (lane < 2 → exec (.blockLockGain 2 lane) s = .next (s.setFlag (pgMGMT lane) F.MGMT_STAT_LINK true))) ∧
  (∀ (s : State) (r : Nat) (i : QItem),
    let b := pgRING r
    let x := s.ring r
    let f := stampFrame i.frame s.count
    let other := x.ccw.map fun j => if j.frame = i.frame ∧ j.cls = i.cls then { j with counted := true } else j
    s.flag b F.RING_CTRL_EN = true → s.laneReset (2 * r) = false → x.busyCw ≤ 5 * s.tick + x.toBoundary s.tick →
    (x.cw.find? fun j => s.flag b F.RING_CTRL_EDGE_EN || j.frame.ty != 1) = some i → i.cls ≠ 1 →
    x.mayStart s.tick i.frame.ty = true →
    exec (.frameTransmit r 0) s = .next ((s.draw 58).2.setRing r { x with
      cw := x.cw.erase i
      ccw := other
      busyCw := 5 * s.tick + x.toBoundary s.tick + 132 * (f.blocks.length + 2)
      lastCw := some (f.sent 0 s.tick (s.draw 58).1) })) ∧
  (∀ (s : State) (r tick : Nat) (f : Frame) (rest : List (Nat × Frame)),
    (s.ring r).again = (tick, f) :: rest → tick ≤ s.tick →
    exec (.blockCommandRepeat r) s =
      .next ((s.setRing r { s.ring r with again := rest }).enqueueBoth r ⟨0, s.tick, f, false⟩)) ∧
  (∀ (s : State) (req r data : Nat),
    let p := pageRING r
    (s.Writes p 0x78 req data → exec (.mreqEnqueue req r false 4 data) s =
      .next ((s.setRing r { s.ring r with held := some data }).wrote p 0x78 req data)) ∧
    (s.Writes p 0x7C req data → (s.ring r).reqs.length < 16 → exec (.mreqEnqueue req r true 4 data) s =
      .next ((s.enqueueReq r ((s.ring r).held.getD 0) data).1.wrote p 0x7C req data)) ∧
    (s.Writes p 0x7C req data → 16 ≤ (s.ring r).reqs.length →
      exec (.mreqEnqueue req r true 4 data) s = .next (s.wrote p 0x7C req data 0x21))) ∧
  (∀ (s : State) (r : Nat) (q : Mreq) (rest : List Mreq),
    let x := s.ring r
    x.own.find? (s.hasCredit r) = none → x.reqs = q :: rest → s.lost r q.pos = false → q.pos < s.getF (pgRING r) F.RING_CTRL_NODES →
    s.hasCredit r q = true → x.rsp.length + (x.out.filter fun o => o.req.kind == 0).length < 16 →
    exec (.mreqIssue r) s = .next (((s.setRing r { x with reqs := rest }).ringLevels r).issueReq r q)) ∧
  (∀ (s : State) (r : Nat) (o : MOut),
    ((s.ring r).out.find? fun e => e.at_ + 2000 * s.getF (pgRING r) F.RING_TMO_MGMT_TMO ≤ s.tick) = some o → o.req.kind = 0 →
    exec (.mreqTimeout r) s = .next (((s.endReq r o true).satF (pgRING r) F.RING_CNT3_RECLAIM).queueRsp r o.req 3 0)) ∧
  (∀ (s : State) (req r lo hi : Nat) (rest : List (Nat × Nat)),
    let p := pageRING r
    let a : Access := ⟨req, pgRING r + 0x80, 8, false, 0⟩
    s.Reaches p 0x80 a → (s.ring r).rsp = (lo, hi) :: rest → lo < 2 ^ 32 → hi < 2 ^ 32 →
    exec (.mrspRead req r) s =
      .next (((s.setRing r { s.ring r with rsp := rest }).ringLevels r).finish p 0 a (lo + 2 ^ 32 * hi))) ∧
  (∀ (s : State) (r : Nat),
    let b := pgRING r
    let q := s.draw 16
    s.flag b F.RING_CTRL_EN = true → s.flag b F.RING_CTRL_TIME_EN = true →
    (∀ t, (s.ring r).timeAt = some t → t + 2000 * s.getF b F.RING_TPER_TIME_PER ≤ s.tick) →
    exec (.timeFrameSend r) s = .next ((q.2.setRing r { q.2.ring r with timeAt := some s.tick }).enqueueBoth r
      ⟨2, s.tick, { ty := 5, bcast := true, seq := q.1, blocks := [0, 0] }, false⟩)) ∧
  (∀ (s : State) (req r k : Nat) (force : Bool),
    let p := pageRING r
    let old := s.wordAt (pgRING r + 0x40)
    let v := old - (old &&& 0x70) + k
    let u := (s.put p (s.wrOf p req v) 0x40 [F.RING_CTRL_CAL, F.RING_CTRL_ENUM] []).1
    s.Writes p 0x40 req v → bit v 0 = s.flag (pgRING r) F.RING_CTRL_EN → bit v 1 = s.flag (pgRING r) F.RING_CTRL_EDGE_EN →
    bits v 8 6 = s.getF (pgRING r) F.RING_CTRL_NODES → bits v 8 6 ≤ 32 → (s.put p (s.wrOf p req v) 0x40 [F.RING_CTRL_CAL, F.RING_CTRL_ENUM] []).2 = 0 →
    (k = 0x10 → bits v 4 3 = 1 → s.flag (pgRING r) F.RING_CTRL_CAL = false →
      exec (.calibration req r) s = .next ((u.calibrate r).wrote p 0x40 req v)) ∧
    (k = 0x20 + 0x40 * force.toNat → bits v 4 3 = 2 + 4 * force.toNat →
      force = false ∨ s.flag (pgRING r) F.RING_CTRL_EDGE_EN = false →
      exec (.enumeration req r force) s =
        .next (((u.setFlag (pgRING r) F.RING_CTRL_ENUM true).sendEnum r force).wrote p 0x40 req v))) ∧
  (∀ (s : State) (r : Nat),
    s.flag (pgRING r) F.RING_CTRL_CAL = true → (s.ring r).calAt + 2000000 ≤ s.tick →
    exec (.calibrationDone r) s = .next ((s.setFlag (pgRING r) F.RING_CTRL_CAL false).raiseIrq (pgRING r) 4)) ∧
  (∀ (s : State) (r p : Nat),
    let b := pgRING r
    let u := ((s.setFbit b F.RING_UP_UP p false).setFbit b F.RING_LOST_LOST p true).raiseIrq b 1
    s.fbit b F.RING_UP_UP p = true → ((s.ring r).place p).upAt + 2000 * s.getF b F.RING_TMO_LOSS_TMO ≤ s.tick →
    exec (.positionLost r p) s = .next (((s.ring r).out.filter fun o => o.req.pos == p).foldl (fun z o => z.reclaim r o 4) u)) ∧
  (∀ (s : State) (r p : Nat),
    let b := pgRING r
    s.flag b F.RING_CTRL_EN = true → s.flag b F.RING_CTRL_AUTO_JOIN = true → p < s.getF b F.RING_CTRL_NODES →
    s.fbit b F.RING_UP_UP p = false → (∀ t, (s.ring r).autoAt = some t → t + 2000000 ≤ s.tick) →
    exec (.autoJoinEnum r) s = .next ((s.setRing r { s.ring r with autoAt := some s.tick }).sendEnum r false)) ∧
  (∀ (s : State) (r p : Nat),
    let b := pgRING r
    let q := (s.ring r).place p
    s.fbit b F.RING_JOIN_JOIN p = true → q.caps = true → q.cal = [] → q.writes = 0 →
    exec (.joinComplete r p) s = .next (((s.setFbit b F.RING_JOIN_JOIN p false).setFbit b F.RING_UP_UP p true).raiseIrq b 2)) ∧
  (∀ (s : State) (req lane : Nat),
    let p := pageSERD lane
    let off := 0x80 + 8 * (lane % 32)
    let old := s.wordAt (p.base + off)
    let v := old - (old &&& 1) + 1
    let w := s.wrOf p req v
    s.Writes p off req v → lane < 256 → bit v 0 = true → s.flag (pgSERD lane) (F.SERD_LCTRL_RST (lane % 32)) = false →
    (s.put p w off).2 = 0 →
    exec (.laneReset req lane) s = .next (((s.put p w off).1.laneDrop lane).wrote p off req v)) ∧
  (∀ (s : State) (b0 b1 : LineBlock) (bs : List LineBlock) (r d sof : Nat) (blocks : List Nat) (crc : Nat),
    let b := pgRING r
    let cnt := if d = 0 then F.RING_CNT0_CRC_CW else F.RING_CNT0_CRC_CCW
    (lineOf b0 bs b1).map (s.linePlain (rxLane r d)) = frameLine sof blocks crc →
    s.rxOpen r d = true → (s.ring r).rx d = none → crc < 2 ^ 32 →
    crc8 (natBytes sof 6) ≠ bits sof 48 8 ∨ (blocks.length = bits sof 32 4 ∧ frameCrc sof blocks ≠ crc) →
    let t := (s.satF b cnt).pulse b 8
    exec (.measReceive r d b0 bs b1 []) s = .next t ∧ exec (.mrspReceive r d b0 bs b1 []) s = .next t ∧
      exec (.enumReturn r d b0 bs b1 []) s = .next t ∧
      ∀ frac, exec (.echorReceive r d b0 bs b1 [] frac) s = .next t)

/-- R170, R185 to R188, R191 and R196 to R201: what a cell node makes of a frame that it takes or sends on, of a leg's entries and
periods, of its timeouts and protection, and what it sends. Choices of the model that clauses rest on: log entries 22 and 23. -/
def Obligations.CellNodes : Prop :=
  (∀ (s : State) (b0 b1 : LineBlock) (bs : List LineBlock) (ring place dir sof : Nat) (blocks : List Nat) (crc held : Nat),
    let k := 32 * ring + place
    let f := Frame.ofHead sof blocks
    let x := s.node k
    let u := if frameCrc sof blocks = crc then s else s.nodeCrc k
    let wait := u.nodeHeld k dir held
    let new := if f.ty ∈ [5, 6, 7] ∧ wait ≠ 0 then (f.delayed wait).blocks else blocks
    (lineOf b0 bs b1).map plainBlock = frameLine sof blocks crc →
    crc8 (natBytes sof 6) = bits sof 48 8 → blocks.length = bits sof 32 4 → crc < 2 ^ 32 → f.ty ≠ 8 →
    f.bcast = true ∨ f.ty ∉ [1, 3, 6] ∨ x.assigned = false ∨ f.pos ≠ x.pos →
    exec (.nodeForward ring place dir b0 bs b1 held) s =
      .next (u.nodeSendOn k dir sof blocks new crc false)) ∧
  (∀ (s : State) (b0 b1 : LineBlock) (bs : List LineBlock) (ring place sof : Nat) (blocks : List Nat) (crc : Nat),
    let k := 32 * ring + place
    let f := Frame.ofHead sof blocks
    let x := s.node k
    let g := x.leg f.leg
    let st := setOf blocks
    let n := s.nodeNow k
    let h : NLeg := { g with seq := some f.seq, block := (if g.block = 1 then 0 else g.block) }
    let cur := h.makeCurrent (nodeRes k) st n true
    let q := cur.catchUp (nodeRes k) (s.nodeDt k) n st
    s.NodeHears k (lineOf b0 bs b1) sof blocks crc 1 → bit f.flags 0 = false → 3 ≤ blocks.length → f.leg < nodeLegs k → newer g.seq f.seq = true →
    (32 * (st.base + st.per) ≤ n → exec (.nodeEdgeSetReceive ring place b0 bs b1) s = .next (s.setNode k (x.setLeg f.leg h))) ∧
    (n < 32 * st.base →
      exec (.nodeEdgeSetReceive ring place b0 bs b1) s = .next (s.setNode k (x.setLeg f.leg { h with pend := some st }))) ∧
    (32 * st.base ≤ n → n < 32 * (st.base + st.per) →
      (g.block = 2 → exec (.nodeEdgeSetReceive ring place b0 bs b1) s = .next (s.setNode k (x.setLeg f.leg cur))) ∧
      (g.block < 2 →
        exec (.nodeEdgeSetReceive ring place b0 bs b1) s = .next (s.setNode k (x.put f.leg q.1 q.2.1 q.2.2))))) ∧
  (∀ (s : State) (b0 b1 : LineBlock) (bs : List LineBlock) (ring place sof : Nat) (blocks : List Nat) (crc : Nat),
    let k := 32 * ring + place
    let f := Frame.ofHead sof blocks
    let x := s.node k
    let g := x.leg f.leg
    s.NodeHears k (lineOf b0 bs b1) sof blocks crc 1 → bit f.flags 0 = true → f.leg < nodeLegs k → newer g.seq f.seq = true →
    ∃ t, exec (.nodeBlockCommand ring place b0 bs b1) s = .next t ∧
      let z := (t.node k).leg f.leg
      z.hOn = false ∧ z.lOn = false ∧ z.todo = [] ∧ z.cur = none ∧ z.pend = none ∧ z.seq = some f.seq ∧
        z.block = (if g.block = 2 then 2 else 1)) ∧
  (∀ (s : State) (ring place leg off out : Nat) (lev : Bool) (st : NSet) (rest : List (Nat × Nat × Bool)),
    let k := 32 * ring + place
    let x := s.node k
    let g := x.leg leg
    let i := entryAt st.base (nodeRes k) off
    let q := (g.release (s.nodeDt k) i).call out lev (s.nodeDt k) i
    g.cur = some st → g.todo = (off, out, lev) :: rest → i ≤ s.nodeNow k + 31 → g.block = 0 →
    exec (.nodeEntryApply ring place leg) s = .next (s.setNode k (x.put leg { q.1 with todo := rest } 0 q.2.toNat))) ∧
  (∀ (s : State) (ring place leg : Nat) (c : NSet),
    let k := 32 * ring + place
    let x := s.node k
    let g := x.leg leg
    g.pend = none → g.cur = some c → 32 * (c.base + c.per) ≤ s.nodeNow k + 31 → g.block = 0 → g.repeating = true →
    (g.reps + 1 < bits x.ctrl 4 4 → ∃ t, exec (.nodePeriodEnd ring place leg) s = .next t ∧
      (t.node k).reps = (x.reps + 1) % 256 ∧ ((t.node k).leg leg).reps = g.reps + 1 ∧
      ((t.node k).leg leg).cur = some { c with base := c.base + c.per } ∧ ((t.node k).leg leg).todo = c.ents) ∧
    (bits x.ctrl 4 4 ≤ g.reps + 1 → ∃ t, exec (.nodePeriodEnd ring place leg) s = .next t ∧
      (t.node k).reps = (x.reps + 1) % 256 ∧ (t.node k).cause = 1 ∧ ((t.node k).leg leg).block = 2 ∧ ((t.node k).leg leg).hOn = false ∧
      ((t.node k).leg leg).lOn = false ∧ ((t.node k).leg leg).cur = none)) ∧
  (∀ (s : State) (ring place since : Nat),
    let k := 32 * ring + place
    (s.node k).darkAt = some since → since + 2000 * (s.node k).lol ≤ s.tick →
    exec (.nodeLossOfLink ring place) s = .next (s.nodeBlockAll k 2)) ∧
  (∀ (s : State) (ring place : Nat),
    let k := 32 * ring + place
    let u := s.nodeBlockAll k 3
    exec (.nodeProtection ring place true) s = .next (u.setNode k { u.node k with causeHolds := true }) ∧
    exec (.nodeProtection ring place false) s = .next (s.setNode k { s.node k with causeHolds := false }) ∧
    (∀ leg, leg < nodeLegs k →
      ((u.node k).leg leg).block = 2 ∧ ((u.node k).leg leg).hOn = false ∧ ((u.node k).leg leg).lOn = false)) ∧
  (∀ (s : State) (b0 b1 : LineBlock) (bs : List LineBlock) (ring place dir sof : Nat) (blocks : List Nat) (crc frac : Nat),
    let k := 32 * ring + place
    let x := s.node k
    let seq := bits sof 16 16
    let t := 32 * blocks.getD 0 0 + bits (blocks.getD 1 0) 0 32 + (if dir = 0 then x.dlyCw else x.dlyCcw)
    s.NodeHears k (lineOf b0 bs b1) sof blocks crc 5 → dir = 0 ∨ x.cwSeq ≠ some seq →
    exec (.nodeTimeFrame ring place dir b0 bs b1 frac) s = .next (s.setNode k { x with
      ofs := (t : Int) - ((32 * s.tick + frac : Nat) : Int)
      timeOk := true
      timeAt := s.tick
      cwSeq := if dir = 0 then some seq else x.cwSeq })) ∧
  (∀ (s : State) (ring place : Nat),
    let k := 32 * ring + place
    (s.node k).timeOk = true → (s.node k).timeAt + 2000000 ≤ s.tick →
    exec (.nodeTimeOkTimeout ring place) s = .next (s.setNode k { s.node k with timeOk := false })) ∧
  (∀ (s : State) (b0 b1 : LineBlock) (bs : List LineBlock) (ring place dir sof : Nat) (blocks : List Nat) (crc turn : Nat),
    let k := 32 * ring + place
    let q := s.draw 16
    s.NodeHears k (lineOf b0 bs b1) sof blocks crc 6 → dir < 2 →
    exec (.nodeEcho ring place dir b0 bs b1 turn) s = .next (q.2.nodeOwn k (1 - dir)
      ⟨7, false, (s.node k).pos, 0, q.1, 0, [blocks.getD 0 0, 2 ^ 32 * ((turn + bits (blocks.getD 1 0) 0 32) % 2 ^ 32)]⟩)) ∧
  (∀ (s : State) (b0 b1 : LineBlock) (bs : List LineBlock) (ring place dir sof blk crc : Nat),
    let k := 32 * ring + place
    let x := s.node k
    let f := Frame.ofHead sof [blk]
    let next := bits blk 0 6
    let step := fun (p : Nat) => if bit f.flags 1 then (p + 63) % 64 else (p + 1) % 64
    let sends := fun (n : Nat) => s.nodeSendOn k dir sof [blk] [n] crc false
    let runs := fun (t : State) => exec (.nodeEnum ring place dir b0 bs b1) s = .next t
    (lineOf b0 bs b1).map plainBlock = frameLine sof [blk] crc →
    crc8 (natBytes sof 6) = bits sof 48 8 → bits sof 32 4 = 1 → crc < 2 ^ 32 → frameCrc sof [blk] = crc → f.ty = 8 →
    ((∀ t, x.took = some t → t + 2000000 ≤ s.tick) → bit f.flags 0 = true ∨ x.assigned = false →
      (next ≤ 31 → runs ((sends (step next)).enumTake k next)) ∧ (31 < next → runs (sends next))) ∧
    ((∀ t, x.took = some t → t + 2000000 ≤ s.tick) → bit f.flags 0 = false → x.assigned = true → runs (sends (step x.pos))) ∧
    (∀ t, x.took = some t → s.tick < t + 2000000 → runs (sends (step x.pos)))) ∧
  (∀ (s : State) (b0 b1 : LineBlock) (bs : List LineBlock) (ring place sof blk crc : Nat),
    let k := 32 * ring + place
    let x := s.node k
    let f := Frame.ofHead sof [blk]
    let a := bits blk 0 12 / 4 * 4
    let u := s.setNode k { x with mseq := some f.seq }
    let answer := fun (y : State) (status data : Nat) => y.nodeUp k
      ⟨4, false, x.pos, 0, f.seq, 0, [bits blk 0 13 + 2 ^ 13 * status + 2 ^ 16 * bits blk 16 8 + 2 ^ 32 * (data % 2 ^ 32)]⟩
    let runs := fun (t : State) => exec (.nodeMreq ring place b0 bs b1) s = .next t
    s.NodeHears k (lineOf b0 bs b1) sof [blk] crc 3 → newer x.mseq f.seq = true →
    (bit blk 12 = true → runs (answer (u.setNode k (u.nodeWrite k a (bits blk 32 32)).2) (u.nodeWrite k a (bits blk 32 32)).1
      (bits blk 32 32))) ∧
    (bit blk 12 = false → (∀ v, u.nodeRead k a = some v → runs (answer u 0 v)) ∧
      (u.nodeRead k a = none → runs (answer (u.draw 32).2 (if a < 0x100 then 2 else 1) (u.draw 32).1)))) ∧
  (∀ (s : State) (ring place : Nat) (words : List Nat),
    let k := 32 * ring + place
    let x := s.node k
    let n := s.nodeNow k / 32
    let t := n - (n + x.mper - x.mphase % x.mper) % x.mper
    (bit x.ctrl 1 = true → x.mper ≠ 0 → x.sampled ≠ some t →
      exec (.nodeMeasSample ring place words) s = .next ((s.setNode k { x with sampled := some t }).nodeMeas k words t true)) ∧
    (x.measAt + 100000 ≤ s.tick →
      exec (.nodeHeartbeat ring place words) s = .next (s.nodeMeas k words (n % 2 ^ 64) false))) ∧
  (∀ (s : State) (ring place : Nat) (lock : Bool),
    let k := 32 * ring + place
    let x := s.node k
    exec (.nodeBlockLockChange ring place 0 lock) s = .next ((s.setNode k { x with
      lockP := lock, darkAt := if lock = false ∧ x.lockQ = false then some (x.darkAt.getD s.tick) else none }).nodeServe k) ∧
    exec (.nodeBlockLockChange ring place 1 lock) s = .next ((s.setNode k { x with
      lockQ := lock, darkAt := if lock = false ∧ x.lockP = false then some (x.darkAt.getD s.tick) else none }).nodeServe k))

/-! ## Chapter 08: the forecast engines and the kiln log -/

/-- R204 to R216: a launch from its launch point over gather, fetch, ranking, evaluation, selection and commit to its end, and the
enabling of a job. Choices of the model that clauses rest on: log entry 24. -/
def Obligations.ForecastLaunches : Prop :=
  (∀ (s : State) (c j : Nat) (tok : Tok),
    let b := pgJOB c j
    let u := s.tookOne (lathClu c) (160 + j)
    s.flag b F.JOB_CTRL_LAUNCH_SRC = true → s.headTok (lathClu c) (160 + j) = some tok → u.flag b F.JOB_CTRL_EN = true →
    exec (.forecastLaunch c j) s = .next (u.launchPoint c j)) ∧
  (∀ (s : State) (c j at_ : Nat),
    let b := pgJOB c j
    let u : State := { s with fcst := SMap.put s.fcst c { s.fc c with due := (s.fc c).due.erase (j, at_) } }
    s.flag b F.JOB_CTRL_LAUNCH_SRC = false → (s.fc c).due.find? (fun e => e.1 == j && decide (e.2 ≤ s.tick)) = some (j, at_) →
    u.flag b F.JOB_CTRL_EN = true → exec (.forecastLaunch c j) s = .next (u.launchPoint c j)) ∧
  (∀ (s : State) (t g j : Nat),
    let c := t / 10
    let b := pgJOB c j
    let x := s.gen t g
    let ofs := s.getF b F.JOB_OFS_OFS
    s.genState t g = 3 → j < 15 → s.flag b F.JOB_CTRL_EN = true → s.flag b F.JOB_CTRL_LAUNCH_SRC = false → s.jobRef c j = (t, g) →
    (∀ i, i < 15 → i ≠ j → s.flag (pgJOB c i) F.JOB_CTRL_EN = false) →
    (x.per ≤ ofs → s.launchesSet t g = (s.satF b F.JOB_CNT1_SKIPPED).pulse (pgFCST c 0) 18) ∧
    (ofs < x.per → s.launchesSet t g =
      { s with fcst := SMap.put s.fcst c { s.fc c with due := (s.fc c).due ++ [(j, x.origin + ofs)] } })) ∧
  (∀ (s : State) (c : Nat) (l : Launch) (rest : List Launch),
    (s.fc c).run = none → (s.fc c).queue = l :: rest →
    exec (.launchStart c) s = .next (((s.setFc c { s.fc c with queue := rest, run := some { launch := l } }).setF (pgFCST c 0)
      F.FCST_STAT_STAGE 1).setF (pgJOB c l.job) F.JOB_STAT_STATE 3)) ∧
  (∀ (s : State) (c : Nat) (r : FRun),
    let x := s.fc c
    let j := r.launch.job
    let cells := s.jobCells c j
    let runs := fun (r : FRun) => s.setFc c { x with run := some r }
    let n := s.jobN c j
    let bank := Memory.readN s.mem (s.bankAddr c r.launch) (bankSize n (s.jobH c j) (s.jobJ c j))
    let w := bytesLE bank 4 4
    x.run = some r → r.outcome = 0 →
    (r.x0 = none → (∀ m ∈ cells, s.moving m.1 = false) →
      exec (.gatherDone c true) s = .next (s.endRun c r 4 3 r.launch.period) ∧
      exec (.gatherDone c false) s = .next ((runs { r with x0 := some (cells.map fun m =>
        bits (s.ctxWord (s.phys m.1) m.2 (s.getF (pgJOB c j) F.JOB_DIM_GWORD)) 16 16) }).setF (pgFCST c 0) F.FCST_STAT_STAGE 2)) ∧
    (r.bank = none → s.memFrozen (s.bankAddr c r.launch) = false →
      (s.ueIn (s.bankAddr c r.launch) (bankSize n (s.jobH c j) (s.jobJ c j)) = false →
        exec (.fetchDone c true) s = .next (s.endRun c r 4 2 r.launch.period)) ∧
      (∀ ue, s.ueIn (s.bankAddr c r.launch) (bankSize n (s.jobH c j) (s.jobJ c j)) = true →
        exec (.fetchDone c ue) s = .next ((s.countIn (s.bankAddr c r.launch) (bankSize n (s.jobH c j) (s.jobJ c j))).endRun c r 4 2
          r.launch.period)) ∧
      (s.ueIn (s.bankAddr c r.launch) (bankSize n (s.jobH c j) (s.jobJ c j)) = false →
        bytesLE bank 0 2 = 1 → bits w 0 10 = n → bits w 16 5 = s.jobH c j → bits w 24 7 = s.jobJ c j →
        exec (.fetchDone c false) s = .next (runs { r with bank := some bank })) ∧
      (s.ueIn (s.bankAddr c r.launch) (bankSize n (s.jobH c j) (s.jobJ c j)) = false →
        bytesLE bank 0 2 ≠ 1 ∨ bits w 0 10 ≠ n ∨ bits w 16 5 ≠ s.jobH c j ∨ bits w 24 7 ≠ s.jobJ c j →
        exec (.fetchDone c false) s = .next (s.endRun c r 4 1 r.launch.period))) ∧
    (∀ xs, r.x0 = some xs → r.ranks = none → exec (.rankDone c) s =
      .next ((runs { r with ranks := some (rankOf xs) }).setF (pgFCST c 0) F.FCST_STAT_STAGE 3)) ∧
    (∀ xs ranks bk, r.x0 = some xs → r.ranks = some ranks → r.bank = some bk → r.costs = none →
      exec (.evaluateDone c) s = .next (((runs { r with costs := some ((List.range (s.jobJ c j)).map fun k =>
        evalCost bk xs.length (s.jobH c j) k xs ranks (sgn 16 r.launch.ref)) }).incF (pgFCST c 0) F.FCST_MACS_MACS
          (4 * s.jobJ c j * xs.length * s.jobH c j)).setF (pgFCST c 0) F.FCST_STAT_STAGE 4)) ∧
    (x.queue = [] → s.refArmed c r.launch = false → exec (.selectDone c) s = .next (s.endRun c r 5 0 r.launch.period)) ∧
    (∀ ranks bk costs, r.ranks = some ranks → r.bank = some bk → r.costs = some costs →
      (∀ l ∈ r.launch :: x.queue, s.refArmed c l = true) →
      let l := r.launch
      let b := pgJOB c j
      let win := winner costs
      let a := s.tick + ((ranks.length + 16) * 5 + 2) / 3 + 40
      let u := (s.setF b F.JOB_STAT_WIN win).setF b F.JOB_COST_COST (wrap 48 (costs.getD win 0))
      let z := fun (out : Nat) => { r with win := win, outcome := out, dur := a - l.at_, margin := l.target - a }
      let commits := fun (out period : Nat) =>
        ((u.setFc c { u.fc c with
          run := some (z out)
          plans := (u.fc c).plans ++ ((u.jobCells c j).zip ranks).map fun y =>
            (y.1.1, y.1.2, bytesLE bk (bankCB ranks.length (u.jobH c j) + win * bankRC ranks.length + 4 * y.2) 4,
              0x80000000 + period % 65536) }).setF (pgFCST c 0) F.FCST_STAT_STAGE 5).setF b F.JOB_STAT_STATE 4
      (a < l.target → exec (.selectDone c) s = .next (commits 1 l.period)) ∧
      (l.target ≤ a → l.retarget = true → a < l.target + l.per → exec (.selectDone c) s = .next (commits 2 (l.period + 1))) ∧
      (l.target ≤ a → l.retarget = false ∨ l.target + l.per ≤ a → exec (.selectDone c) s = .next (u.endRun c (z 3) 3 0 l.period)))) ∧
  (∀ (s : State) (c lt n v tag : Nat) (rest : List (Nat × Nat × Nat × Nat)),
    let u : State := { s with fcst := SMap.put s.fcst c { s.fc c with plans := rest } }
    let t := s.phys lt
    let st := u.stageOf t
    let both := u.bothTiles t fun z i => z.takePlan i ⟨n, v, tag, s.tick⟩
    (s.fc c).plans = (lt, n, v, tag) :: rest →
    ((∀ p ∈ st.plans, p.ctx ≠ n) → exec (.planCommitArrival c) s = .next both) ∧
    (u.ctxArmed t n = false → exec (.planCommitArrival c) s = .next both) ∧
    (u.ctxArmed t n = true → (∃ p ∈ st.plans, p.ctx = n) →
      exec (.planCommitArrival c) s = .next (both.satF (pgFCST c 0) F.FCST_CNT_REPLACED)) ∧
    (u.lone t → u.ctxArmed t n = true →
      both = u.setStage t { st with plans := (st.plans.filter fun p => p.ctx != n) ++ [⟨n, v, tag, s.tick⟩] }) ∧
    (u.lone t → u.ctxArmed t n = false → both = u.applyPlan t ⟨n, v, tag, s.tick⟩)) ∧
  (∀ (s : State) (c : Nat) (r : FRun),
    let b := pgJOB c r.launch.job
    let u := s.setF b F.JOB_TIME_DUR (min 65535 r.dur)
    (s.fc c).run = some r → (s.fc c).plans = [] →
    (r.outcome = 1 → exec (.launchEnd c) s =
      .next ((u.setF b F.JOB_TIME_MARGIN (min 65535 r.margin)).endRun c r 1 0 r.launch.period)) ∧
    (r.outcome = 2 → exec (.launchEnd c) s = .next (u.endRun c r 2 0 r.launch.period))) ∧
  (∀ (s : State) (req c j : Nat),
    let p := pageJOB c j
    let old := s.wordAt (pgJOB c j + 0x40)
    let v := old - (old &&& 1) + 1
    let w := s.wrOf p req v
    let u := s.put p w 0x40 [F.JOB_CTRL_EN]
    s.Writes p 0x40 req v → j < 15 → s.flag (pgJOB c j) F.JOB_CTRL_EN = false → bit v 0 = true → u.2 = 0 →
    (u.1.jobCause c j = 0 → exec (.jobEnable req c j) s = .next (((u.1.setFlag (pgJOB c j) F.JOB_CTRL_EN true).jobIdle c j).wrote p 0x40 req v)) ∧
    (u.1.jobCause c j ≠ 0 → exec (.jobEnable req c j) s = .next (u.1.wrote p 0x40 req v (u.1.jobCause c j))))

/-- R205 and R207: ranks order the cells by state and then by number, each rank once; the winner has the lowest cost, and equal
costs go to the lower candidate. -/
def Obligations.RankAndWinner : Prop :=
  (∀ (xs : List Nat) (m n : Nat), m < n → n < xs.length →
    let x := fun (i : Nat) => sgn 16 (xs.getD i 0)
    (rankOf xs).length = xs.length ∧ (rankOf xs).getD n 0 < xs.length ∧
    (x m ≤ x n → (rankOf xs).getD m 0 < (rankOf xs).getD n 0) ∧ (x n < x m → (rankOf xs).getD n 0 < (rankOf xs).getD m 0)) ∧
  (∀ (costs : List Int) (k : Nat), k < costs.length →
    winner costs < costs.length ∧ (costs.getD (winner costs) 0 < costs.getD k 0 ∨
      (costs.getD (winner costs) 0 = costs.getD k 0 ∧ winner costs ≤ k)))

/-- R217 and R221: the kiln log recorder writes its oldest record to its area, stops after POST records behind a stop event, or at
the end of the area, and clears when it is stopped. Choices of the model that clauses rest on: log entry 24. -/
def Obligations.KilnLog : Prop :=
  (∀ (s : State) (c : Nat) (r : KRec) (rest : List KRec),
    let b := pgKLOG c
    let w := s.getF b F.KLOG_WPTR_WPTR
    let cap := s.klogCap c
    let u := s.memBytes (s.getF b F.KLOG_BASE_BASE + 32 * (w % cap)) r.bytes
    let v := (u.setKl c { s.kl c with buf := rest }).incF b F.KLOG_WPTR_WPTR
    let z := if cap ≤ w + 1 ∧ v.flag b F.KLOG_STAT_WRAPPED = false then (v.setFlag b F.KLOG_STAT_WRAPPED true).pulse b 2 else v
    (s.kl c).buf = r :: rest → r.cyc ≠ fcstCycle s.tick → s.memFrozen (s.getF b F.KLOG_BASE_BASE) = false →
    (s.flag b F.KLOG_CTRL_MODE = true → w + 1 < cap → exec (.klogWrite c) s = .next z) ∧
    (s.flag b F.KLOG_CTRL_MODE = false → exec (.klogWrite c) s = .next z) ∧
    (s.flag b F.KLOG_CTRL_MODE = true → w + 1 = cap →
      exec (.klogWrite c) s = .next ((z.setKl c { z.kl c with ended := true }).klogState c 3)) ∧
    (s.flag b F.KLOG_CTRL_MODE = true → cap ≤ w → exec (.klogWrite c) s = .next s)) ∧
  (∀ (s : State) (c : Nat) (tok : Tok),
    let b := pgKLOG c
    let u := s.tookOne (lathClu c) 175
    s.headTok (lathClu c) 175 = some tok → u.flag b F.KLOG_CTRL_STOP_EN = true → u.getF b F.KLOG_STAT_STATE = 1 →
    (u.kl c).ended = false →
    exec (.klogStopEvent c) s = .next (((u.setF b F.KLOG_STOPSEQ_STOPSEQ (u.getF b F.KLOG_PROD_PROD)).setKl c
      { u.kl c with post := u.getF b F.KLOG_POST_POST }).klogState c 2)) ∧
  (∀ (s : State) (c : Nat), s.getF (pgKLOG c) F.KLOG_STAT_STATE = 2 → (s.kl c).post = 0 →
    exec (.klogPostDone c) s = .next (s.setKl c { s.kl c with ended := true })) ∧
  (∀ (s : State) (c : Nat),
    let st := s.getF (pgKLOG c) F.KLOG_STAT_STATE
    (s.kl c).ended = true → (s.kl c).buf = [] → st = 1 ∨ st = 2 ∨ (st = 3 ∧ s.flag (pgKLOG c) F.KLOG_CTRL_EN = false) →
    exec (.klogDrained c) s = .next (s.klogState c (if s.flag (pgKLOG c) F.KLOG_CTRL_EN then 3 else 0))) ∧
  (∀ (s : State) (req c : Nat),
    let p := pageKLOG c
    let b := pgKLOG c
    let old := s.wordAt (b + 0x40)
    let v := old - (old &&& 8) + 8
    let u := s.put p (s.wrOf p req v) 0x40 [F.KLOG_CTRL_EN, F.KLOG_CTRL_CLEAR]
    let st := u.1.getF b F.KLOG_STAT_STATE
    s.Writes p 0x40 req v → u.2 = 0 → bit v 3 = true → bit v 0 = s.flag b F.KLOG_CTRL_EN →
    bits v F.KLOG_CTRL_MODE.lo 1 = s.getF b F.KLOG_CTRL_MODE →
    (st = 1 ∨ st = 2 → exec (.klogClear req c) s = .next (u.1.wrote p 0x40 req v 0x20)) ∧
    (st ≠ 1 → st ≠ 2 → exec (.klogClear req c) s = .next ((((((((u.1.setF b F.KLOG_WPTR_WPTR 0).setF b F.KLOG_PROD_PROD 0).setF b
      F.KLOG_DROP_DROP 0).setF b F.KLOG_STOPSEQ_STOPSEQ 0).setFlag b F.KLOG_STAT_WRAPPED false).setKl c
        { u.1.kl c with buf := [] }).klogDrained c).wrote p 0x40 req v)))

/-! ## Chapter 09: laths, GPIO and interrupts -/

/-- R225 to R239, R241, R246, R247 and R250: a lath takes a production to every input routed to it, a consumer takes an arrival,
the route registers, software events, GPIO, doorbells, hold-offs and claims. Choices of the model that clauses rest on: log entry
25. -/
def Obligations.LathsAndGpio : Prop :=
  (∀ (s : State) (l prod : Nat) (tok : Tok) (rest : List (Nat × Tok)),
    s.lathStill l = false → takeFirst prod s.tick (s.lathOf l).waiting = some (tok, rest) →
    exec (.lathTake l prod) s = .next ((s.lathOf l).routes.foldl (fun (z : State) r =>
      if bit (z.rowNow l r.1 r.2) prod then z.deliver l r.1 tok else z) (s.updLath l fun L => { L with waiting := rest }))) ∧
  (∀ (s : State) (l i c old row : Nat), SMap.get? (s.lathOf l).was i = some (c, old) →
    s.rowNow l i row = if s.tick / lathPeriod l = c then old else row) ∧
  (∀ (s : State) (t i : Nat) (tok : Tok),
    let l := lathTile t
    let u := s.tookOne l i
    l < 64 → s.headTok l i = some tok → s.lathStill l = false →
    (i < 64 → exec (.consumerTake l i) s = .next (u.triggerAll t 3 i [0, u.count % 2 ^ 32] u.tick)) ∧
    (64 ≤ i → i < 80 → s.flag (pgTIMR t) (F.TMR_CTRL_EN (i - 64)) = false → s.tookNow l i = false →
      exec (.consumerTake l i) s = .next (u.timerStart t (i - 64))) ∧
    (64 ≤ i → i < 80 → s.flag (pgTIMR t) (F.TMR_CTRL_EN (i - 64)) = true ∨ s.tookNow l i = true →
      exec (.consumerTake l i) s = .next (s.overranOne l i)) ∧
    (80 ≤ i → i < 112 →
      let j := (i - 80) / 2
      let v := s.lateLoads t j
      (v.syncBusy t j = false → v.tookNow l i = false →
        exec (.consumerTake l i) s = .next ((v.tookOne l i).syncEvent t j (i % 2))) ∧
      (v.syncBusy t j = true ∨ v.tookNow l i = true → exec (.consumerTake l i) s = .next (v.overranOne l i))) ∧
    (112 ≤ i → i < 144 → s.tookNow l i = false → s.chState t (i - 112) = 0 ∨ s.chState t (i - 112) = 5 → s.dmaHeld t (i - 112) = false →
      let r := u.dmaStart t (i - 112)
      (r.2 = 0 → exec (.consumerTake l i) s = .next r.1) ∧
      (r.2 ≠ 0 → exec (.consumerTake l i) s = .next (r.1.recordErr (pgDMAC t (i - 112)) r.2
        ⟨reqDma t, pgDMAC t (i - 112) + (F.CH_CMD_CMD ((i - 112) % 8)).off, 4, true, 1⟩))) ∧
    (144 ≤ i → i < 160 → s.tookNow l i = false → s.linkBusy l i = false →
      exec (.consumerTake l i) s = .next (u.passLink l i tok)) ∧
    (176 ≤ i → i < 192 → s.tookNow l i = false → s.doorbellWaits (512 * t + 384 + (i - 176)) = false →
      exec (.consumerTake l i) s = .next (u.arrive (512 * t + 384 + (i - 176))))) ∧
  (∀ (s : State) (c i : Nat) (tok : Tok),
    let l := lathClu c
    let u := s.tookOne l i
    64 ≤ l → l < 72 → s.headTok l i = some tok → s.lathStill l = false →
    (i < 128 ∨ (192 ≤ i ∧ i < 200) → s.tookNow l i = false → s.linkBusy l i = false →
      exec (.consumerTake l i) s = .next (u.passLink l i tok)) ∧
    (128 ≤ i → i < 144 → exec (.consumerTake l i) s = .next (s.adcEvent (16 * c + (i - 128)))) ∧
    (144 ≤ i → i < 160 → exec (.consumerTake l i) s = .next ((u.thrLoad (16 * c + (i - 144))).fcstAbort c)) ∧
    (160 ≤ i → i < 175 → s.flag (pgJOB c (i - 160)) F.JOB_CTRL_LAUNCH_SRC = false → exec (.consumerTake l i) s = .next u) ∧
    (176 ≤ i → i < 192 → s.tookNow l i = false →
      exec (.consumerTake l i) s = .next (u.gpioAction (16 * c + (i - 176)))) ∧
    (200 ≤ i → i < 216 → s.tookNow l i = false → s.doorbellWaits (20480 + 128 * c + 88 + (i - 200)) = false →
      exec (.consumerTake l i) s = .next (u.arrive (20480 + 128 * c + 88 + (i - 200))))) ∧
  (∀ (s : State) (i : Nat) (tok : Tok),
    let u := s.tookOne lathDev i
    s.headTok lathDev i = some tok → s.lathStill lathDev = false → s.tookNow lathDev i = false →
    (i < 32 → s.linkBusy lathDev i = false → exec (.consumerTake lathDev i) s = .next (u.passLink lathDev i tok)) ∧
    (32 ≤ i → i < 40 → tok.mark = true → exec (.consumerTake lathDev i) s = .next (u.dropEvent lathDev tok)) ∧
    (32 ≤ i → i < 40 → tok.mark = false → u.grpOn = true →
      exec (.consumerTake lathDev i) s = .next (u.grpSendAll 7 [i - 32])) ∧
    (40 ≤ i → i < 48 → s.doorbellWaits (21248 + (i - 40)) = false →
      exec (.consumerTake lathDev i) s = .next (u.arrive (21248 + (i - 40))))) ∧
  (∀ (s : State) (req l data : Nat),
    let p := pageLATH l 0
    let L := s.lathOf l
    let csel := (s.lathSel l req).csel
    l < 73 →
    (s.Writes p 0x54 req 1 → s.lockOpen p req = true → exec (.routeCommit req l) s = .next
      ((s.updLath l fun L => { L with
        routes := SMap.put L.routes csel (s.stagingRow l)
        was := SMap.put L.was csel (s.tick / lathPeriod l, s.rowNow l csel (s.route l csel)) }).wrote p 0x54 req 1)) ∧
    (s.Writes p 0x54 req 3 → s.lockOpen p req = true → exec (.registerWrite req (p.base + 0x54) 4 3) s = .next
      (((s.routeCommit l req).routeLoad l req).wrote p 0x54 req 3)) ∧
    (s.Writes p 0x54 req 1 → s.lockOpen p req = false →
      exec (.routeCommit req l) s = .next (s.wrote p 0x54 req 1 0x06)) ∧
    (s.Writes p 0x54 req 3 → s.lockOpen p req = false → exec (.registerWrite req (p.base + 0x54) 4 3) s = .next
      ((s.routeLoad l req).wrote p 0x54 req 3 0x06)) ∧
    (s.Writes p 0x54 req 2 → exec (.routeLoad req l) s = .next
      (((List.range (lathP l / 32)).foldl (fun (z : State) w => z.setF (lathPage l 1) (F.LATH_ROUTE_STG_STG w)
        (bits (s.route l csel) (32 * w) 32)) s).wrote p 0x54 req 2)) ∧
    (s.Writes p 0x50 req data → bits data 0 10 < lathP l → bits data 16 8 < lathC l →
      let x := L.input (bits data 16 8)
      let snap : LathSnap := ⟨bits data 0 10, bits data 16 8, s.pendOf l (bits data 16 8), x.arriv % 2 ^ 64, x.taken % 2 ^ 64, x.ovr % 2 ^ 64,
        SMap.getD L.prod (bits data 0 10) 0 % 2 ^ 64⟩
      exec (.lathSelect req l data) s =
        .next ((s.updLath l fun L => { L with snaps := SMap.put L.snaps req snap }).wrote p 0x50 req data)) ∧
    (s.Writes p 0x50 req data → lathP l ≤ bits data 0 10 ∨ lathC l ≤ bits data 16 8 →
      exec (.lathSelect req l data) s = .next (s.wrote p 0x50 req data 0x0C)) ∧
    (s.Writes p 0x4C req data → data < swCount l →
      exec (.softwareEvent req l data) s = .next (((s.produceTok l (swBase l + data) ⟨lathLevel l, lathInst l, swBase l + data, 0,
        false, stageTick true (lathIsle l) (s.tick / lathPeriod l * lathPeriod l + lathPeriod l)⟩ false).updLath l fun L =>
          { L with swAt := some s.tick }).wrote p 0x4C req data)) ∧
    ((s.updLath l fun L => { L with swAt := none }).Writes p 0x4C req data → L.swAt = some s.tick →
      exec (.softwareEvent req l data) s =
        .next { s with bus.held := s.bus.held ++ [⟨req, p.base + 0x4C, 4, true, data⟩] }) ∧
    (s.Writes p 0x4C req data → swCount l ≤ data → data < 64 →
      exec (.softwareEvent req l data) s = .next (s.wrote p 0x4C req data 0x0C))) ∧
  (∀ (s : State) (pin : Nat) (level : Bool),
    let b := pgGPIO (pin / 16)
    let k := pin % 16
    let i := cluIsland (pin / 16) 0
    let x := s.gpioAt pin level
    let lev := x.gpioLevel pin
    let u := x.setFbit b F.GPIO_IN_IN k lev
    (x.gpioRuns pin = true → x.fbit b F.GPIO_IN_IN k ≠ lev → x.gpioSettled pin = true →
      (u.gpioSelects pin lev = true → exec (.gpioEdge pin level) s = .next
        (((u.produce (lathClu (pin / 16)) (208 + k) true 2).incF b (F.GPIO_CNT_EDGES k)).pulse b k)) ∧
      (u.gpioSelects pin lev = false → exec (.gpioEdge pin level) s = .next u)) ∧
    (x.gpioSettled pin = false → exec (.gpioEdge pin level) s = .next x) ∧
    (x.isleStopped i = true → x.domOn (89 + 10 * (pin / 16)) = true → x.gpioSelects pin lev = true →
      let n := SMap.getD x.lath.gpio.alat pin 0
      let v := x.requestWake i
      (n < 15 → exec (.gpioLatchedEdge pin level) s =
        .next { v with lath.gpio.alat := SMap.put v.lath.gpio.alat pin (n + 1) }) ∧
      (15 ≤ n → exec (.gpioLatchedEdge pin level) s = .next (v.setFbit b F.GPIO_ALAT_ALAT_OVF k true)))) ∧
  (∀ (s : State) (pin : Nat) (tok : Tok),
    let l := lathClu (pin / 16)
    let b := pgGPIO (pin / 16)
    let k := pin % 16
    let u := s.tookOne l (176 + k)
    let acts := fun (v : Bool) => exec (.gpioOutputAction pin) s = .next (u.setFbit b F.GPIO_OUT_OUT k v)
    pin < 128 → s.headTok l (176 + k) = some tok → s.lathStill l = false → s.tookNow l (176 + k) = false →
    (u.getF b (F.GPIO_CTRL_ACT k) = 0 → acts (!u.fbit b F.GPIO_OUT_OUT k)) ∧ (u.getF b (F.GPIO_CTRL_ACT k) = 1 → acts true) ∧
    (u.getF b (F.GPIO_CTRL_ACT k) = 2 → acts false)) ∧
  (∀ (s : State) (req t data : Nat),
    let p := pageINTC t
    s.Writes p 0x40 req data → t < 41 →
    (∀ src, doorbellSrc req t data = some src → exec (.doorbell req t data) s = .next ((s.arrive src).wrote p 0x40 req data)) ∧
    (doorbellSrc req t data = none → exec (.doorbell req t data) s = .next (s.wrote p 0x40 req data 0x0C))) ∧
  (∀ (s : State) (group tick : Nat), SMap.get? s.lath.int.holdEnd group = some tick → tick ≤ s.tick →
    let u : State := { s with lath.int.holdEnd := SMap.erase s.lath.int.holdEnd group }
    (group < 320 → exec (.holdoffExpiry group) s =
      .next (u.setFbit (pgINTC (group / 8)) F.INTC_HSTAT_HOLDING (group % 8) false)) ∧
    (320 ≤ group →
      let v := u.setFbit pgDINTC F.DINTC_HSTAT_HOLDING (group - 320) false
      let t := v.phys (v.getF pgDINTC (F.dintcRouteLT (group - 320)))
      (v.cascade t (group - 320) = true → exec (.holdoffExpiry group) s = .next (v.requestWake (2 * t))) ∧
      (v.cascade t (group - 320) = false → exec (.holdoffExpiry group) s = .next v))) ∧
  (∀ (s : State) (req t w data : Nat),
    let p := pageINTC t
    t < 40 → w < 16 →
    (s.Writes p (0x80 + 4 * w) req data → exec (.intcEnWrite req t false w data) s =
      .next ((s.softF (pgINTC t) (F.INTC_EN_EN w) req data).wrote p (0x80 + 4 * w) req data)) ∧
    (s.Writes p (0xC0 + 4 * w) req data → w ≠ 14 → exec (.intcEnWrite req t true w data) s =
      .next ((s.softF (pgINTC t) (F.INTC_PAIR_PAIR w) req data).wrote p (0xC0 + 4 * w) req data))) ∧
  (∀ (s : State) (req : Nat), s.Reads (pageINTC 40) 0x44 req →
    exec (.dintcClaim req) s = .next ((s.dintcClaim req).2.finish (pageINTC 40) 0 ⟨req, pgDINTC + 0x44, 4, false, 0⟩ (s.dintcClaim req).1))

/-- R244, R245, R250, R282 and R352: a pair that may accept takes the source of the lowest level that is presented to it, its
count is claimed, and the pair enters the vector of the level in supervisor mode with EXL; a claim at the device's controller
takes the count of the source it returns. Choices of the model that clauses rest on: log entry 26. -/
def Obligations.InterruptAcceptance : Prop :=
  (∀ (s : State) (p lv src : Nat),
    let x := s.pair p
    let u := s.intcAccept (p / 2) (p % 2) lv src
    let b := pgINTC (p / 2)
    let ret := u.getF b (F.INTC_TAKEN_COUNT (p % 2)) + 256 * u.getF b (F.INTC_TAKEN_SAT (p % 2))
    x.replay = [] → s.presented (p / 2) (p % 2) = some (lv, src) → lv < x.r.ipl →
    (x.r.ie = true → x.r.exl = false → x.r.mcl = false → s.pairAlive p = true → s.atBoundary p = true → s.halted p = false →
      x.brkDue = false → s.flag (pgCORE p) F.CORE_DCTL_HALT_REQ = false → x.dbgDue = none → lv < 32 →
      exec (.interruptAccept p) s =
        .next (((u.logAccess p ⟨3, x.groups, 0, 512 * lv + src, ret, false⟩).enterLevel p lv).stepped p)) ∧
    (x.r.ie = false → s.flag (pgCORE p) F.CORE_STAT_WAITING = true →
      exec (.interruptAccept p) s = .next (s.setFlag (pgCORE p) F.CORE_STAT_WAITING false))) ∧
  (∀ (s : State) (p lv : Nat), lv < 32 →
    let x := (s.pair p).drain
    let r := ((s.enterLevel p lv).pair p).r
    r.pc = 0x100 + 16 * lv ∧ r.exl = true ∧ r.mode = 1 ∧ r.ipl = lv ∧ r.sys48 0x00 = x.r.pc % 2 ^ 48 ∧
      r.sysr 0x02 = x.r.psw % 2 ^ 32 ∧ r.sysr 0x03 = 16 + lv ∧ r.g = x.r.g) ∧
  (∀ (s : State) (t x lv src : Nat), t < 40 → x < 2 → src < 512 → src < 448 ∨ 464 ≤ src → lv < 16 →
    let b := pgINTC t
    let u := s.intcAccept t x lv src
    let n := s.settledCount t src
    n < 256 →
    u.getF b (F.INTC_TAKEN_SRC x) = src ∧ u.getF b (F.INTC_TAKEN_LEVEL x) = lv ∧
      u.getF b (F.INTC_TAKEN_COUNT x) = n ∧ u.getF b (F.intcCount src) = min 255 (s.freshOf t src).n) ∧
  (∀ (s : State) (t x lv src : Nat), s.presented t x = some (lv, src) →
    src < 512 ∧ s.presentable t x src = true ∧ lv = s.getF (pgINTC t) (F.intcLevel src) ∧
      ∀ m, m < 512 → s.presentable t x m = true →
        lv < s.getF (pgINTC t) (F.intcLevel m) ∨ (lv = s.getF (pgINTC t) (F.intcLevel m) ∧ src ≤ m)) ∧
  (∀ (s : State) (req k : Nat), req < 80 → s.dintcCandidate req = some k →
    (s.dintcClaim req).1 = 20480 + k + 2 ^ 16 * s.getF pgDINTC (F.dintcCount k) +
      2 ^ 24 * (s.fbit pgDINTC (F.DINTC_SAT_SAT (k / 32)) (k % 32)).toNat + 2 ^ 31)

/-! ## Chapter 10: the events of a core pair -/

/-- R253, R254, R267, R268, R279 to R281, R285, R287 and R402: lockstep, rollback and checkpoints, the results of long units, the
store buffer, the response of an unbuffered access, fetches that fail, and HOLD and RST. Choices of the model that clauses rest
on: log entries 27 and 28. -/
def Obligations.PairEvents : Prop :=
  (∀ (s : State) (p whr : Nat),
    let b := pgCORE p
    let x := s.pair p
    let u := (((s.satF b F.CORE_LSTEP_MISMATCH).setF b F.CORE_LSTEP_WHERE whr).pulse b 0).pairSource p 0
    let m := u.logMade p
    let v := m.setPair p { m.pair p with lastMis := some u.tick }
    let w : State := { v with bus.held := v.bus.held.filter fun a => a.req != reqPair p }
    s.pairAlive p = true →
    (x.replay = [] → (∀ t, x.lastMis = some t → t + 20000000 < u.tick) → exec (.lockstepMismatch p whr) s =
      .next (w.setPair p { w.pair p with rolling := some w.tick, unb := none, inLr := false, lrs := {} })) ∧
    (x.replay ≠ [] ∨ (∃ t, x.lastMis = some t ∧ u.tick ≤ t + 20000000) →
      exec (.lockstepMismatch p whr) s = .next ((v.setPair p { v.pair p with dead := true }).wantTakeover (p / 2) 2 63))) ∧
  (∀ (s : State) (p : Nat) (e : LogE) (q : BusResp),
    let x := s.pair p
    x.inFlight = some e → SMap.get? s.bus.resp p = some q → x.logFrozen = false → x.replay = [] → x.log.length < 1024 →
    ((s.logMade p).pair p).log = x.log ++ [e.answer q]) ∧
  (∀ (s : State) (p since : Nat),
    let b := pgCORE p
    let x := s.pair p
    let y : PairSt := { x with
      r := x.ck
      pw := []
      grp := none
      rolling := none
      unb := none
      logFrozen := true
      longs := x.longs.filter fun o => o.inCk }
    x.rolling = some since → exec (.rollbackComplete p) s =
      .next (((((s.setPair p y).satF b F.CORE_LSTEP_ROLLBACK).pulse b 1).pairSource p 1).machineCheck p 1 { vec := 0x010 } x.ck.pc)) ∧
  (∀ (s : State) (p : Nat),
    let b := pgCORE p
    let x := s.pair p
    let g := s.getF b F.CORE_CKPT_GEN
    let due := (s.flag b F.CORE_CKPT_GVALID = false ∧ x.ckAt + 100000 ≤ s.tick) ∨
      (s.flag b F.CORE_CKPT_GVALID = true ∧ s.genRuns (p / 2) g = true ∧ x.ckAt < (s.gen (p / 2) g).origin)
    s.pairAlive p = true → x.r.mcl = false → s.atBoundary p = true → x.replay = [] →
    (due → x.grp = none → exec (.checkpoint p) s = .next (s.takeCheckpoint p)) ∧
    (due → x.grp ≠ none → exec (.checkpoint p) s = .next (s.setPair p { x with ckWait := true })) ∧
    (¬due → 1008 ≤ x.log.length → x.grp = none →
      exec (.checkpoint p) s = .next (((s.setPair p x.drain).takeCheckpoint p).satF b F.CORE_RLOG_FORCED))) ∧
  (∀ (s : State) (p : Nat),
    let x := s.pair p
    let y := (s.takeCheckpoint p).pair p
    y.r = x.r ∧ y.ck = x.drain.r ∧ y.ckAt = s.tick ∧ y.log = [] ∧ y.longs = x.longs.map fun o => { o with inCk := true }) ∧
  (∀ (s : State) (p : Nat) (o : LongOp) (rest : List LongOp),
    let x := s.pair p
    let put := fun (l : List Nat) => o.results.foldl (fun (l : List Nat) e => l.set e.1 (e.2 % 2 ^ 32)) l
    x.longs = o :: rest → o.ready ≤ s.coreCycle p → (∀ q ∈ rest, s.coreCycle p < q.ready) →
    exec (.longUnitResult p) s = .next (s.setPair p
      { x with
        r := { x.r with l := put x.r.l }
        ck := if o.inCk then { x.ck with l := put x.ck.l } else x.ck
        longs := rest })) ∧
  (∀ (s : State) (p : Nat) (e : SbE) (rest : List SbE),
    (s.pair p).sb = e :: rest →
    let u := s.setPair p { s.pair p with sb := rest }
    s.memFrozen e.addr = false → s.gateShut (p / 2) = false → u.memOn e.addr = true → imageStore e.addr = false → 0x15000000 ≤ e.addr ∨ u.role ((e.addr - 0x10000000) / 0x200000) = 0 →
    exec (.storeDrain p) s = .next (u.writeMem e.addr (toBytes e.data e.size))) ∧
  (∀ (s : State) (p : Nat) (u : Unb) (v : Nat),
    let x := s.pair p
    let z := s.setPair p { x with unb := none }
    let c : Ctx := ⟨p, x.r.pc, u.next, u.len, u.slot, x.dist, false⟩
    x.unb = some u →
    (u.resp = some ⟨true, v⟩ → exec (.dataResponse p) s = .next ((z.mchk c u.mcc u.va u.write (u.low.2 != 0)).1.stepped p)) ∧
    (u.resp = some ⟨false, v⟩ → ∀ h, u.upper v = some h →
      (∀ g, (z.sendUnb p h).2 = some g → exec (.dataResponse p) s =
        .next ((z.sendUnb p h).1.setPair p { (z.sendUnb p h).1.pair p with unb := some g })) ∧
      ((z.sendUnb p h).2 = none → exec (.dataResponse p) s = .next (z.sendUnb p h).1)) ∧
    (u.resp = some ⟨false, v⟩ → u.upper v = none → u.lock ≠ 2 →
      let all := u.low.1 + 2 ^ (8 * u.low.2) * v
      let reads := !u.write || u.lock != 0
      (u.dest < 32 → exec (.dataResponse p) s = .next ((((z.loadInto c u.whole.2 u.dest u.signed all).baseInto c u.base).noteWatch p
        u.whole.1 u.whole.2 reads u.write).finishPc p x.r.pc u.next none)) ∧
      (32 ≤ u.dest → exec (.dataResponse p) s =
        .next (((z.baseInto c u.base).noteWatch p u.whole.1 u.whole.2 reads u.write).finishPc p x.r.pc u.next none)))) ∧
  (∀ (s : State) (p : Nat),
    let x := s.pair p
    x.brkDue = true → x.r.exl = false → s.pairAlive p = true → s.atBoundary p = true → s.halted p = false → x.stepping = false →
    ∃ t, exec (.lockBrokenEntry p) s = .next t ∧ (t.pair p).r.pc = 0x0A0 ∧ (t.pair p).r.exl = true ∧ (t.pair p).r.mode = 1 ∧
      (t.pair p).r.sys48 0x00 = x.r.pc % 2 ^ 48 ∧ (t.pair p).brkDue = false) ∧
  (∀ (s : State) (req p v : Nat) (hold : Bool),
    let pg := pageCORE p
    let b := pgCORE p
    let old := s.wordAt (b + 0x40)
    s.Writes pg 0x40 req v → s.lockOpen pg req = true →
    (v = old - (old &&& 1) + hold.toNat → bit v 0 = hold → bit v 1 = false → s.flag b F.CORE_CTRL_HOLD ≠ hold →
      exec (.coreHold req p hold) s = .next (((s.setFlag b F.CORE_CTRL_HOLD hold).holdPair p hold).wrote pg 0x40 req v)) ∧
    (v = old - (old &&& 2) + 2 → bit v 0 = s.flag b F.CORE_CTRL_HOLD → bit v 1 = true →
      exec (.corePairReset req p) s = .next (((s.resetPair p).satF pgRSTC F.RSTC_CNT_PAIR).wrote pg 0x40 req v))) ∧
  (∀ (s : State) (p : Nat), s.pairRuns p = true → (s.pair p).unb = none →
    let x := s.pair p
    exec (.fetchResponse p 0) s = .next s ∧
    exec (.fetchResponse p 1) s = .next ((s.machineCheck p 2 { vec := 0x010 } x.r.pc).stepped p) ∧
    (∀ u pa, s.translate p x.r.pc 0 (x.r.mode == 0) = (u, .inr pa) → isMemory pa = true →
      exec (.fetchResponse p 2) s = .next (((u.countUE pa).machineCheck p 4 { vec := 0x010 } x.r.pc).stepped p)))

/-! ## Chapter 12: memories, DMA, queues and hardware locks -/

/-- R313, R314, R317, R319 to R321 and R328 to R341: scrubbing and sparing, arbiters, IOMMU_TLBI, and the commands, descriptors
and bursts of DMA channels. Choices of the model that clauses rest on: log entries 35, 36 and 37. -/
def Obligations.MemoriesAndDma : Prop :=
  (∀ (s : State) (addr : Nat), isMemory addr = true →
    let w := addr / 8 * 8
    (addr < 0x1A000000 →
      exec (.memoryScrub addr 0) s = .next (s.incF (eccPage addr) F.TSRAM_SCRUB_PASSES) ∧
      exec (.memoryScrub addr 1) s = .next (s.satF (eccPage addr) F.TSRAM_ECC_CORRECTED)) ∧
    (addr ≥ 0x1A000000 →
      let c := (addr - 0x1000000000) / 0x900000000
      let h := (addr - 0x1000000000) % 0x900000000 / 256 % 32
      let b := pgHBMC c 0
      let pc := if s.flag b F.HBM_SPARE_VALID = true ∧ s.getF b F.HBM_SPARE_PC = h then 32 else h
      let row := (64 * Config.hbmRow addr + pc) * 4 + c
      let n := SMap.getD s.mm.passCe (64 * c + pc) 0 + 1
      let m := SMap.getD s.mm.rowCe row 0 + 1
      let u := (s.satF b F.HBM_ECC_CORRECTED).satF (pgHBMC c 1) (F.HBM_PC_CE pc)
      let v : State := { u with mm.passCe := SMap.put s.mm.passCe (64 * c + pc) n, mm.rowCe := SMap.put s.mm.rowCe row m }
      let x := if pc < 32 ∧ v.getF b F.HBM_SPARE_THR_SPARE_THR < n then (v.spareStart c pc).1 else v
      exec (.memoryScrub addr 0) s = .next (({ s with
        mm.passCe := s.mm.passCe.filter fun kv => kv.1 / 64 != c
        mm.rowCe := s.mm.rowCe.filter fun kv => kv.1 % 4 != c } : State).incF (eccPage addr) F.HBM_SCRUB_PASSES) ∧
      exec (.memoryScrub addr 1) s = .next (if m = x.getF b F.HBM_RETIRE_RET_THR then x.retireDue addr else x)) ∧
    (exec (.memoryScrub addr 2) s =
      .next (({ s with mm.ue := if s.mm.ue.contains w then s.mm.ue else w :: s.mm.ue } : State).countUE w))) ∧
  (∀ (s : State) (a : Nat), isMemory a = true →
    let u := (s.satF (eccPage a) F.TSRAM_ECC_UNCORR).ueAddr a
    (a < 0x1A000000 → s.countUE a = u) ∧
    (0x1A000000 ≤ a → s.countUE a =
      (u.satF (pgHBMC ((a - 0x1000000000) / 0x900000000) 1) (F.HBM_PC_UE (u.servedPc a))).retireDue a)) ∧
  (∀ (s : State) (req c pc : Nat),
    let p := pageHBMC c 0
    s.Writes p 0x48 req (pc + 2 ^ 31) → s.lockOpen p req = true → pc < 32 →
    (s.flag (pgHBMC c 0) F.HBM_SPARE_VALID = false → s.flag (pgHBMC c 0) F.HBM_SPARE_COPYING = false → exec (.hbmSpare req c pc) s =
      .next (((s.setF (pgHBMC c 0) F.HBM_SPARE_PC pc).setFlag (pgHBMC c 0) F.HBM_SPARE_COPYING true).wrote p 0x48 req (pc + 2 ^ 31))) ∧
    (s.flag (pgHBMC c 0) F.HBM_SPARE_VALID = true ∨ s.flag (pgHBMC c 0) F.HBM_SPARE_COPYING = true →
      exec (.hbmSpare req c pc) s = .next (s.wrote p 0x48 req (pc + 2 ^ 31) 0x21))) ∧
  (∀ (s : State) (c : Nat), s.flag (pgHBMC c 0) F.HBM_SPARE_COPYING = true → exec (.spareCopyDone c) s =
    .next ((s.setFlag (pgHBMC c 0) F.HBM_SPARE_COPYING false).setFlag (pgHBMC c 0) F.HBM_SPARE_VALID true)) ∧
  (∀ (s : State) (kind unit ofs reqs : Nat),
    let x := arbOf kind unit ofs
    (x.bus = true ∨ s.flag x.base F.TSRAM_ARB_FRZ_FREEZE = false → ∀ k, s.arbPick x reqs = some k →
      exec (.arbiterGrant kind unit ofs reqs false) s = .next { s with
        mm.arbLast := SMap.put s.mm.arbLast x.key k
        mm.arbHead := SMap.put s.mm.arbHead x.key ((s.arbHeads x).filter (· ≠ k)) } ∧
      (s.emergencyDue x = true →
        let u : State := { s with
          mm.arbEmer := SMap.put s.mm.arbEmer x.key s.tick
          mm.arbHead := SMap.put s.mm.arbHead x.key (k :: (s.arbHeads x).filter (· ≠ k)) }
        exec (.arbiterGrant kind unit ofs reqs true) s =
          .next (if x.bus then u else u.satF x.base F.TSRAM_ARB_STAT_REVOKES)) ∧
      (s.emergencyDue x = false →
        exec (.arbiterGrant kind unit ofs reqs true) s = exec (.arbiterGrant kind unit ofs reqs false) s)) ∧
    (x.bus = false → s.flag x.base F.TSRAM_ARB_FRZ_FREEZE = true →
      exec (.arbiterGrant kind unit ofs reqs false) s = .next s ∧
      (s.emergencyDue x = true → exec (.arbiterGrant kind unit ofs reqs true) s =
        .next { s with mm.arbEmer := SMap.put s.mm.arbEmer x.key s.tick }))) ∧
  (∀ ofs, (arbOf 0 0 ofs).bank = ofs / 8 % 16 ∧ (arbOf 1 0 ofs).bank = ofs / 8 % 32 ∧ (arbOf 2 0 ofs).bank = ofs / 256 % 32) ∧
  (∀ (s : State) (req t data : Nat),
    let p := pageIOMMU t
    s.Writes p 0x140 req data →
    exec (.iommuTlbi req t data) s = .next ((s.ioTlbi t data (2 ^ 12 * s.getF (pgIOMMU t) F.IOMMU_TLBI_VA_VA)).wrote p 0x140 req data)) ∧
  (∀ (s : State) (req t n : Nat), n < 32 →
    let b := pgDMAC t n
    let m := n % 8
    let p := pageDMAC t n
    let off := 0x104 + 0x80 * m
    let x := s.chan t n
    let st := s.chState t n
    let ctx := s.getF b (F.CH_CTRL_CTX m)
    let a := s.getF b (F.CH_DESC_DESC m)
    let k := s.getF b (F.CH_CTRL_RT_COUNT m) + 1
    let ds := (List.range k).map fun i => parseDesc (Memory.readN s.mem (a + 32 * i) 32)
    let y := s.setChan t n { x with arming := false }
    let go := y.armPins t n ctx (ds.map (·.1))
    (s.Writes p off req 1 → s.dmaHeld t n = false → (st = 0 ∧ s.chRT t n = false) ∨ st = 5 → exec (.dmaStart req t n) s =
      .next (((s.setChan t n { x with toStart := some a }).setChState t n 2).wrote p off req 1)) ∧
    (s.Writes p off req 1 → st ≠ 0 → st ≠ 5 → exec (.dmaStart req t n) s = .next (s.wrote p off req 1 0x20)) ∧
    (s.Writes p off req 2 → st = 3 → exec (.dmaResume req t n) s =
      .next ((((s.setChan t n { x with toStart := none }).setChState t n 2).descriptorStart t n).wrote p off req 2)) ∧
    (s.Writes p off req 2 → st ≠ 3 → exec (.dmaResume req t n) s = .next (s.wrote p off req 2 0x20)) ∧
    (s.Writes p off req 3 → st = 1 → x.burst.isSome = true → exec (.dmaAbort req t n) s =
      .next ((s.setChan t n { x with abort := true }).wrote p off req 3)) ∧
    (s.Writes p off req 3 → (st = 1 ∧ x.burst = none) ∨ st = 3 → exec (.dmaAbort req t n) s =
      .next ((s.chEnd t n 4 0).wrote p off req 3)) ∧
    (s.Writes p off req 3 → st = 4 → exec (.dmaAbort req t n) s =
      .next ((s.setChState t n (if s.chRT t n then 5 else 0)).wrote p off req 3)) ∧
    (s.Writes p off req 4 → st = 0 → s.chRT t n = true → s.memFrozen a = false → go.2.2 = 0 → (ds.all fun d => d.2) = true →
      (∀ i < k, s.descAt (a + 32 * i) = true ∧ s.ueIn (a + 32 * i) 32 = false) → exec (.dmaArm req t n) s =
      .next (((((go.1.setIo t { go.1.io t with pins := go.2.1 }).setChan t n { go.1.chan t n with ring := ds.map (·.1) }).setF b
        (F.CH_STAT_RT_NEXT m) 0).setChState t n 5).wrote p off req 4)) ∧
    (s.Writes p off req 4 → st = 0 → s.chRT t n = true → s.memFrozen a = true →
      exec (.dmaArm req t n) s = .next ((s.setChan t n { x with arming := true }).wrote p off req 4)) ∧
    (s.Writes p off req 4 → st ≠ 0 ∨ s.chRT t n = false → exec (.dmaArm req t n) s = .next (s.wrote p off req 4 0x20)) ∧
    (s.Writes p off req 5 → st = 4 ∨ st = 5 →
      exec (.dmaDisarm req t n) s = .next (((s.unpin t n).setChState t n 0).wrote p off req 5))) ∧
  (∀ (s : State) (t n a : Nat),
    let x := s.chan t n
    s.dmaHeld t n = false → x.arming = false → s.chState t n = 2 → x.abort = false →
    (∀ k, s.dmaQ t true = some k → x.fq = none → (s.queueOf t k).free = 0 → exec (.descriptorStart t n) s = .next s) ∧
    (x.toStart = some a → s.dmaQ t true = none ∨ x.fq ≠ none → s.chRT t n = false → s.descAt a = true → s.memFrozen a = true →
      exec (.descriptorStart t n) s = .next s) ∧
    (x.toStart = some a → s.dmaQ t true = none ∨ x.fq ≠ none → s.chRT t n = false → s.descAt a = true → s.memFrozen a = false →
      s.ueIn a 32 = false →
      let d := (parseDesc (Memory.readN s.mem a 32)).1
      ((parseDesc (Memory.readN s.mem a 32)).2 = true → s.dmaQ t false = none ∨ d.crec = false ∨ x.cq ≠ none →
        exec (.descriptorStart t n) s = .next (s.chStart t n d)) ∧
      ((parseDesc (Memory.readN s.mem a 32)).2 = false →
        exec (.descriptorStart t n) s = .next ((s.setChan t n { x with desc := some { d with evt := false, irq := false } }).chEnd t n 3 3)))) ∧
  (∀ (s : State) (t n : Nat) (d : Desc), n < 32 → 0 < d.len → d.len < 2 ^ 32 → d.src < 2 ^ 48 → d.dst < 2 ^ 48 →
    let b := pgDMAC t n
    let m := n % 8
    let u := s.chStart t n d
    u.chState t n = 1 ∧ (u.chan t n).desc = some d ∧ u.getF b (F.CH_RESID_RESID m) = d.len ∧ u.getF b (F.CH_SRC_SRC m) = d.src ∧
      u.getF b (F.CH_DST_DST m) = d.dst ∧ u.getF b (F.CH_REQ_REQ m) = (s.getF b (F.CH_REQ_REQ m) + d.len) % 2 ^ 64) ∧
  (∀ (s : State) (t n : Nat) (d : Desc),
    let b := pgDMAC t n
    let m := n % 8
    let ahead := if d.srcFix then 0 else (s.chan t n).carry.length
    let src := s.getF b (F.CH_SRC_SRC m) + ahead
    let dst := s.getF b (F.CH_DST_DST m)
    let resid := s.getF b (F.CH_RESID_RESID m)
    let ctx := s.getF b (F.CH_CTRL_CTX m)
    let len := burstLen d src dst (resid - ahead)
    let x := s.setIo t { s.io t with lastPick := n }
    ((List.range 32).filter fun k => (s.chan t k).burst.isSome).length < 4 → s.isleStopped (2 * t) = false → s.gateShut t = false →
    s.moverPick t = some n → (s.chan t n).desc = some d → fixOk d src dst = true → d.op = 0 →
    x.ioWaits t ctx src (x.chRT t n) = false → x.ioWaits t ctx dst (x.chRT t n) = false →
    (∀ u c, x.chPage t n src 1 (x.chan t n).srcPg = (u, .inl c) → u.chRT t n = false →
      exec (.burstIssue t) s = .next (u.chFault t n c src)) ∧
    (∀ u v z sp dp bs, x.chPage t n src 1 (x.chan t n).srcPg = (u, .inr sp) → u.chPage t n dst 2 (x.chan t n).dstPg = (v, .inr dp) →
      let w := v.setChan t n { v.chan t n with srcPg := some sp, dstPg := some dp }
      w.stillHeld ⟨reqDma t, sp.addr src, 4, false, 0⟩ = false →
      let held := (w.chan t n).carry
      w.burstRead t d (d.len - resid) (sp.addr src) (readLen d len held.length) = (z, .inr bs) →
      let all := held ++ bs
      let k := writeLen d len all.length
      exec (.burstIssue t) s =
        .next (z.setChan t n { z.chan t n with carry := all.drop k, burst := some ⟨dp.addr dst, k, all.take k, 0⟩ }))) ∧
  (∀ (d : Desc) (n held : Nat), d.dstFix = true → writeLen d n held % 4 = 0 ∧ held - 3 ≤ writeLen d n held ∧ writeLen d n held ≤ held) ∧
  (∀ (d : Desc) (src dst resid : Nat),
    let n := burstLen d src dst resid
    n ≤ resid ∧ n ≤ 256 ∧ (0 < resid → 0 < n) ∧ (d.dstFix = false → dst % 256 + n ≤ 256) ∧
      (d.op = 0 → d.srcFix = false → src % 256 + n ≤ 256)) ∧
  (∀ (s : State) (t n : Nat) (u : Burst) (d : Desc),
    let b := pgDMAC t n
    let m := n % 8
    let bs := if d.dstFix then u.data.drop (u.n - 4) else u.data
    let v := s.writeMem u.dst bs
    let w := (v.incF b (F.CH_BYTES_BYTES m) u.n).setF b (F.CH_RESID_RESID m) (v.getF b (F.CH_RESID_RESID m) - u.n)
    let x := if d.op = 1 ∨ d.srcFix = true then w else w.incF b (F.CH_SRC_SRC m) u.n
    let y := if d.dstFix then x else x.incF b (F.CH_DST_DST m) u.n
    let z := y.setChan t n { y.chan t n with burst := none }
    (s.chan t n).burst = some u → (s.chan t n).desc = some d → isMemory u.dst = true →
    s.gateShut t = false → s.stillHeld ⟨reqDma t, u.dst, 4, true, 0⟩ = false → s.moverBar ⟨reqDma t, u.dst, 4, true, 0⟩ = none →
    (s.ueParts u.dst bs.length = [] →
      exec (.burstComplete t n) s = .next (if (s.chan t n).abort then z.chEnd t n 4 0
        else if z.getF b (F.CH_RESID_RESID m) = 0 then z.chEnd t n 1 0 else z)) ∧
    (s.ueParts u.dst bs.length ≠ [] →
      s.burstWrite t d.dstFix u = ((s.ueParts u.dst bs.length).foldl (fun s w => s.countPW w) s, 0, true)))

/-- R342 to R344 and R346 to R349: QM_CFG, QM_SEL, pushes and pops, and the queue manager's scrub; acquisition, release and
breaking of hardware locks, and their leases. Choices of the model that clauses rest on: log entry 38. -/
def Obligations.QueuesAndLocks : Prop :=
  (∀ (s : State) (req t data : Nat),
    let p := pageQMGR t 0
    let k := (s.qreq t req).sel
    let q := s.queueOf t k
    let n := bits data 1 5
    let e := bits data 6 2
    s.Writes p 0x44 req data →
    (4 ≤ n → n ≤ 20 → e ≠ 3 → q.en = false → bit data 0 = true → q.level = 0 → q.rsvd = 0 → ringOk (t / 10) q.base (2 ^ n * (16 * 2 ^ e)) = true →
      exec (.queueConfig req t data) s =
        .next ((s.setQueue t k { q with en := true, log2n := n, esize := e, head := 0 }).wrote p 0x44 req data)) ∧
    (4 ≤ n ∨ n = 0 → n ≤ 20 → e ≠ 3 → q.en = false → q.level ≠ 0 ∨ q.rsvd ≠ 0 → n ≠ q.log2n ∨ e ≠ q.esize →
      exec (.queueConfig req t data) s = .next (s.wrote p 0x44 req data 0x20)) ∧
    (n = 0 → e ≠ 3 → q.en = false → bit data 0 = true → q.level = 0 → q.rsvd = 0 →
      exec (.queueConfig req t data) s = .next ((s.setQueue t k { q with log2n := 0, esize := e }).wrote p 0x44 req data 0x21)) ∧
    ((1 ≤ n ∧ n ≤ 3) ∨ 20 < n ∨ e = 3 → exec (.queueConfig req t data) s = .next (s.wrote p 0x44 req data 0x0C)) ∧
    (4 ≤ n → n ≤ 20 → e ≠ 3 → q.en = true →
      (n = q.log2n → e = q.esize → bit data 0 = false → q.level = 0 → q.rsvd = 0 →
        exec (.queueConfig req t data) s = .next ((s.setQueue t k { q with en := false }).wrote p 0x44 req data)) ∧
      (n ≠ q.log2n ∨ e ≠ q.esize ∨ (bit data 0 = false ∧ (q.level ≠ 0 ∨ q.rsvd ≠ 0)) →
        exec (.queueConfig req t data) s = .next (s.wrote p 0x44 req data 0x20)))) ∧
  (∀ (s : State) (req t data : Nat),
    let p := pageQMGR t 0
    let q := s.queueOf t (bits data 0 11)
    s.Writes p 0x40 req data →
    exec (.queueSelect req t data) s = .next ((s.setQreq t req { s.qreq t req with
      sel := bits data 0 11
      level := q.level
      free := q.free
      rsvd := q.rsvd
      pushed := q.pushed
      popped := q.popped
      refused := q.refused }).wrote p 0x40 req data)) ∧
  (∀ (s : State) (req t data : Nat),
    let p := pageQMGR t 1
    let k := bits data 0 11
    let q := s.queueOf t k
    let r := s.qreq t req
    let bs := (List.range 16).flatMap fun i => toBytes (SMap.getD r.push i 0) 4
    let refused := fun (code : Nat) =>
      (s.setQueue t k { q with refused := (q.refused + 1) % 2 ^ 64 }).setQreq t req { r with result := code }
    s.Writes p 0x40 req data →
    (q.en = true → q.free ≠ 0 → exec (.queuePush req t data) s =
      .next ((((s.writeMem (q.base + (q.head + q.level) % q.cap * q.ebytes) (bs.take q.ebytes)).setQueue t k
        { q with level := q.level + 1, pushed := (q.pushed + 1) % 2 ^ 64 }).setQreq t req { r with result := 1 }).wrote p 0x40 req data)) ∧
    (q.en = true → q.free = 0 → exec (.queuePush req t data) s = .next ((refused 2).wrote p 0x40 req data)) ∧
    (q.en = false → exec (.queuePush req t data) s = .next ((refused 3).wrote p 0x40 req data))) ∧
  (∀ (s : State) (req t : Nat),
    let p := pageQMGR t 1
    let a : Access := ⟨req, pgQMGR t 1 + 0x4C, 4, false, 0⟩
    let r := s.qreq t req
    let k := r.popsel
    let q := s.queueOf t k
    let h := q.base + q.head % q.cap * q.ebytes
    let q' : Queue := { q with level := q.level - 1, head := (q.head + 1) % q.cap, popped := (q.popped + 1) % 2 ^ 64 }
    let u := s.setQueue t k q'
    let v := (s.countIn h q.ebytes).setQueue t k q'
    let m := (List.range (q.ebytes / 4)).foldl (fun (m : SMap Nat) i => SMap.put m i (u.memRead (h + 4 * i) 4)) r.pop
    s.Reads p 0x4C req →
    (q.en = true → q.level ≠ 0 → s.ueIn h q.ebytes = false → exec (.queuePop req t) s =
      .next ((u.setQreq t req { r with pop := m }).finish p 0 a (1 + 2 ^ 16 * min 65535 q'.level))) ∧
    (q.en = true → q.level ≠ 0 → s.ueIn h q.ebytes = true →
      exec (.queuePop req t) s = .next (v.finish p 0 a (3 + 2 ^ 16 * min 65535 q'.level))) ∧
    (q.en = false ∨ q.level = 0 → exec (.queuePop req t) s = .next (s.finish p 0 a 0))) ∧
  (∀ (s : State) (t k : Nat),
    exec (.queueStateScrub t k false) s = .next s ∧
    exec (.queueStateScrub t k true) s = .next ((s.setQueue t k { s.queueOf t k with en := false }).recordErr (pgQMGR t 0) 0x22
      ⟨reqKeeper, pgQMGR t 0 + 0x44, 4, false, 0⟩)) ∧
  (∀ (s : State) (req t n : Nat), n < 64 → (req < 0x100 ∨ 0x1F0 ≤ req) → req ≠ reqGroup →
    let p := pageHLCK t
    let a : Access := ⟨req, pgHLCK t + (0x100 + 4 * n), 4, false, 0⟩
    let mine := s.setLock t n (some ⟨req, 0, s.tick, false⟩)
    s.Reads p (0x100 + 4 * n) req →
    (s.lockOf t n = none → exec (.lockAcquire req t n) s = .next (mine.finish p 0 a (1 + 2 ^ 12 * req + 2 ^ 31))) ∧
    (∀ o, s.lockOf t n = some o →
      (o.owner = req → exec (.lockAcquire req t n) s = .next (mine.finish p 0 a (3 + 2 ^ 12 * req + 2 ^ 31))) ∧
      (o.owner ≠ req → exec (.lockAcquire req t n) s = .next (s.finish p 0 a (2 ^ 12 * o.owner + 2 ^ 31))))) ∧
  (∀ (s : State) (req t n data : Nat), n < 64 →
    let p := pageHLCK t
    s.Writes p (0x100 + 4 * n) req data →
    (∀ o, s.lockOf t n = some o → o.owner = req → bit data 0 = true →
      exec (.lockRelease req t n data) s = .next ((s.setLock t n none).wrote p (0x100 + 4 * n) req data)) ∧
    ((∀ o, s.lockOf t n = some o → o.owner ≠ req) →
      exec (.lockRelease req t n data) s = .next (s.wrote p (0x100 + 4 * n) req data 0x20))) ∧
  (∀ (s : State) (req t n : Nat), n < 64 → s.Writes (pageHLCK t) (0x300 + 4 * n) req 1 →
    exec (.lockBreak req t n) s = .next ((s.breakLock t n 4).wrote (pageHLCK t) (0x300 + 4 * n) req 1)) ∧
  (∀ (s : State) (t n : Nat) (o : LockOwn),
    let l := s.getF (pgHLCK t) F.HLCK_LEASE_LEASE
    s.lockOf t n = some o → l ≠ 0 → 2000 * l ≤ o.ticks s.tick → exec (.leaseExpiry t n) s = .next (s.breakLock t n 3)) ∧
  (∀ (s : State) (t n cause : Nat) (o : LockOwn), s.lockOf t n = some o → n < 64 → t < 40 →
    let u := s.breakLock t n cause
    u.lockOf t n = none ∧ u.fbit (pgHLCK t) F.HLCK_BRKMAP_BROKEN n = true ∧
      (o.owner < 80 → cause = 2 ∨ cause = 3 ∨ cause = 4 → (u.pair o.owner).brkDue = true))

/-- R345: what a queue manager does to a queue keeps LEVEL + FREE + RSVD = 2^LOG2N and PUSHED = POPPED + LEVEL modulo 2^64. -/
def Obligations.QueueCredits : Prop :=
  ∀ (s : State) (t k : Nat), (s.queueOf t k).Adds →
    (∀ req data, ((s.queueConfig req t data).1.queueOf t k).Adds) ∧
    (∀ req data, ((s.queuePush req t data).queueOf t k).Adds) ∧
    (∀ req, ((s.queuePop req t).2.queueOf t k).Adds) ∧
    (∀ j, ((s.reserve t j).1.queueOf t k).Adds) ∧
    (∀ j, 0 < (s.queueOf t j).rsvd → ((s.unreserve t j).queueOf t k).Adds) ∧
    (∀ j bs, 0 < (s.queueOf t j).rsvd → ((s.postRecord t j bs).queueOf t k).Adds) ∧
    (∀ j bad, ((s.queueScrub t j bad).queueOf t k).Adds)

/-! ## Chapter 13: takeover, kept pins and refiring -/

/-- R355 to R359 and R362 to R371: takeover triggers and commands, the moves of a cluster, the pins that the keeper repeats, the
return to service, and the commands and the end of a refiring. Choices of the model that clauses rest on: log entries 39, 40 and
41. -/
def Obligations.TakeoverAndRefiring : Prop :=
  (∀ (s : State) (t trig lt : Nat),
    let x := s.closeGate t
    let y := if (x.saggars (t / 10)).isEmpty then x else x.pulse pgDROLE 0
    s.triggerHolds t trig = true → s.ltOf t = some lt → (s.dep.waiting.any fun w => w.2.1 == t) = false →
    (s.dep.moves.any fun m => m.2.from_ == t) = false → (∀ r, s.refireOf (t / 10) = some r → r.lt ≠ lt) →
    exec (.takeoverTrigger t trig) s = .next { y with dep.waiting := y.dep.waiting ++ [(lt, t, trig, y.tick, 63)] }) ∧
  (∀ (s : State) (t : Nat), SMap.has s.edge.gates t = false →
    (SMap.get? (s.closeGate t).edge.gates t).map (·.d) = some s.tick ∧
      ∀ u, u ≠ t → SMap.get? (s.closeGate t).edge.gates u = SMap.get? s.edge.gates u) ∧
  (∀ (s : State) (t : Nat) (x : Gate), s.edge.gates = [(t, x)] →
    (x.d + 1 = s.tick → s.gateTick = (s.keeperTake t).dropRuns t) ∧ (x.d + 1 ≠ s.tick → s.gateTick = s)) ∧
  (∀ (s : State) (req data : Nat),
    let p := pageDROLE
    let lt := bits data 0 5
    let want := bits data 8 6
    let u := (s.put p (s.wrOf p req data) 0x204 [F.TKO_CMD_GO]).1
    s.Writes p 0x204 req data → s.lockOpen p req = true → bit data 31 = true →
    (want = 63 ∨ want ∈ u.saggars (lt / 8) →
      exec (.takeoverCommand req data) s = .next ((u.wantTakeover (u.phys lt) 5 want).wrote p 0x204 req data)) ∧
    (want ≠ 63 → want ∉ u.saggars (lt / 8) → exec (.takeoverCommand req data) s = .next (u.wrote p 0x204 req data 0x20))) ∧
  (∀ (s : State) (c lt t trig d want : Nat),
    let rest := s.dep.waiting.filter fun w => !(w.1 == lt && w.2.1 == t)
    let ok := s.saggars c
    SMap.has s.dep.moves c = false → (s.dep.waiting.find? fun w => w.1 / 8 == c) = some (lt, t, trig, d, want) → d < s.tick →
    (ok = [] → d + 8 ≤ s.tick →
      exec (.moveStart c) s = .next (({ s with dep.waiting := rest } : State).noSaggar t trig)) ∧
    (∀ u, (if ok.contains want then some want else ok.head?) = some u →
      let m : Move := ⟨lt, t, u, trig, d, true⟩
      let x : State := { s with dep.waiting := rest, dep.moves := SMap.put s.dep.moves c m }
      let y := if x.domOn (2 * u + 1) then x else x.setDomain (2 * u + 1) true
      let z := ((y.setFlag pgDROLE (F.ROLE_MAP_MOVING lt) true).incF pgDROLE (F.ROLE_MAP_EPOCH lt)).setF pgDROLE
        (F.ROLE_MAP_CAUSE lt) (if trig = 5 then 3 else 1)
      exec (.moveStart c) s = .next (((((z.endMoved t).endHalts t).closeTile t).closeTile u).breakMoved t))) ∧
  (∀ (s : State) (c : Nat) (m : Move), SMap.get? s.dep.moves c = some m →
    exec (.tileReady c) s = .next ((s.tileReady c).fcstAbort c) ∧
      SMap.get? (s.tileReady c).dep.moves c = none ∧ SMap.get? (s.tileReady c).dep.release m.lt = some m.to_) ∧
  (∀ (s : State) (lt a b role : Nat), lt < 32 → a < 40 → b < 40 → a ≠ b → role < 4 →
    let u := s.setRole lt a b role
    u.phys lt = b ∧ u.role b = 0 ∧ u.role a = role ∧ u.getF pgDROLE (F.ROLE_PHYS_LOGICAL b) = lt ∧
      u.getF pgDROLE (F.ROLE_PHYS_LOGICAL a) = 0) ∧
  (∀ (s : State) (lt t : Nat), SMap.get? s.dep.release lt = some t →
    exec (.tileCoreRelease lt) s =
      .next ((({ s with dep.release := SMap.erase s.dep.release lt } : State).loadImage lt t).releasePairs t)) ∧
  (∀ (s : State) (t g : Nat),
    let r := s.rec_ t g
    let n := r.reps + 1
    let pins := s.keeperPins t g
    let u := pins.foldl (fun (z : State) p => z.satF (pgPKEEP p) (F.PK_PIN_STAT_REPEATS (p % 16))) s
    r.repeating = true → r.per ≠ 0 → r.reload + n * r.per ≤ s.tick → s.gateShut t = true ∨ (r.dust = false ∧ r.tripped = none) →
    (∀ p ∈ pins, s.getF (pgPKEEP p) (F.PK_PIN_STAT_REPEATS (p % 16)) < s.getF (pgPKEEP p) (F.PK_PIN_CTRL_REPEAT_MAX (p % 16))) →
    exec (.pinRepeatPeriod t g) s = .next (u.setRec t g { u.rec_ t g with
      reps := n
      todo := transSort (r.todo ++ r.trans.map fun tr => { tr with at_ := tr.at_ + 32 * (n * r.per) }) })) ∧
  (∀ (s : State) (t g : Nat) (tr : Trans) (rest : List Trans),
    let r := s.rec_ t g
    let p := s.bindPin t g tr.isH
    let other := if tr.isH then r.lFall else r.hFall
    r.todo = tr :: rest → r.repeating = true → tr.at_ / 32 ≤ s.tick → p ∈ s.keeperPins t g →
    (SMap.getD s.edge.pins p {}).level ≠ tr.rise →
    (tr.rise = true → tr.at_ < other + r.dt → exec (.pinKeeperEdge t g) s =
      .next (s.setRec t g { r with todo := transSort ({ tr with at_ := other + r.dt } :: rest) })) ∧
    (tr.rise = false ∨ other + r.dt ≤ tr.at_ →
      let q : PeriodRec := { r with
        todo := rest
        hFall := if tr.isH && !tr.rise then tr.at_ else r.hFall
        lFall := if !tr.isH && !tr.rise then tr.at_ else r.lFall }
      let u := ((s.setRec t g q).openBlank t g tr.at_).pinEdge t g p tr.rise tr.at_ 2 false
      exec (.pinKeeperEdge t g) s = .next (if tr.isH then u.ledH t g tr.at_ tr.rise else u))) ∧
  (∀ (s : State) (req data t : Nat) (ok : Bool),
    let p := pageDROLE
    let u := (s.put p (s.wrOf p req data) 0x210 [F.DROLE_SVC_GO]).1
    let x := ((u.setFlag pgDROLE F.DROLE_SVC_GO true).wrote p 0x210 req data).setFlag pgDROLE F.DROLE_SVC_GO false
    let z := (((if x.domOn (2 * t) then x else x.setDomain (2 * t) true).resetTile t).satF pgRSTC F.RSTC_CNT_TILE).pulse pgRSTC 0
    s.Writes p 0x210 req data → s.lockOpen p req = true → bit data 31 = true → bits data 0 6 < 40 →
    u.getF pgDROLE F.DROLE_SVC_PHYS = t → t < 40 → s.role t = 3 →
    (ok = true → exec (.returnToService req data ok) s = .next
      ((({ z with dep.refill := t :: z.dep.refill.filter (· ≠ t) } : State).setF pgDROLE (F.ROLE_PHYS_ROLE t) 2).pulse pgDROLE 3)) ∧
    (ok = false → exec (.returnToService req data ok) s = .next (z.setFlag pgDROLE F.DROLE_SVC_FAIL true))) ∧
  (∀ (s : State) (t : Nat), s.role t = 2 → t ∈ s.dep.refill → exec (.mirrorInStep t) s = .next
    ((({ s with dep.refill := s.dep.refill.filter (· ≠ t) } : State).setF pgDROLE (F.ROLE_PHYS_ROLE t) 1).openGate t)) ∧
  (∀ (s : State) (req cmd : Nat),
    let p := pageDROLE
    let old := s.wordAt (pgDROLE + 0x240)
    let v := old - (old &&& 0x7000000) + cmd * 0x1000000
    let u := (s.put p (s.wrOf p req v) 0x240).1
    let lt := u.getF pgDROLE F.RF_CTRL_LT
    let phys := u.getF pgDROLE F.RF_CTRL_PHYS
    let ok := u.saggars (lt / 8)
    s.Writes p 0x240 req v → bits v 24 3 = cmd → (s.put p (s.wrOf p req v) 0x240).2 = 0 →
    (cmd = 1 → phys ∈ ok → 2 ≤ ok.length → u.refireOf (lt / 8) = none → SMap.has u.dep.moves (lt / 8) = false →
      (u.dep.waiting.any fun w => w.1 / 8 == lt / 8) = false →
      let x := (u.setF pgDROLE (F.ROLE_PHYS_ROLE phys) 2).setF pgDROLE F.RF_STAT_SHADOW_PER 0
      let r : Refire := {
        lt := lt, phys := phys, policy := x.flag pgDROLE F.RF_CTRL_POLICY
        refGen := x.getF pgDROLE F.RF_CTRL_REFGEN
        img := x.getF pgDROLE F.RF_IMG_IMG }
      exec (.refiringStage req) s = .next ((({ x with dep.refires := SMap.put x.dep.refires (lt / 8) r } : State).rfState 1 0).wrote p 0x240 req v)) ∧
    (cmd = 1 → phys ∉ ok ∨ ok.length < 2 ∨ u.refireOf (lt / 8) ≠ none ∨ SMap.has u.dep.moves (lt / 8) = true ∨
        (u.dep.waiting.any fun w => w.1 / 8 == lt / 8) = true → exec (.refiringStage req) s = .next ((u.rfState 5 2).wrote p 0x240 req v)) ∧
    (∀ r, u.refireOf (lt / 8) = some r → r.done = none →
      let n := u.getF (pgPWMG (u.phys r.lt) r.refGen) (F.PWMG_PNUM_PNUM (r.refGen % 16))
      let per := u.getF pgDROLE F.RF_PNUM_P
      (cmd = 2 → r.shadow = true → n + 2 ≤ per → exec (.refiringSwitch req) s = .next
        ((({ u with dep.refires := SMap.put u.dep.refires (lt / 8) { r with switch := some per } } : State).setF pgDROLE F.RF_STAT_CAUSE 0).wrote p 0x240 req v)) ∧
      (cmd = 2 → r.shadow = false ∨ per < n + 2 →
        exec (.refiringSwitch req) s = .next ((u.setF pgDROLE F.RF_STAT_CAUSE 4).wrote p 0x240 req v)) ∧
      (cmd = 3 → exec (.refiringAbort req) s = .next ((u.refireEnd (lt / 8) 5).wrote p 0x240 req v)))) ∧
  (∀ (s : State) (c : Nat) (r : Refire) (rest : SMap Refire),
    s.dep.refires = (c, r) :: rest → r.shadow = false → r.done = none → s.memFrozen r.img = false →
    (s.bundle r = none → exec .refiringVerified s = .next (s.refireEnd c 1)) ∧
    (∀ cs, s.bundle r = some cs →
      let find := fun (ty : Nat) => (cs.find? fun e => e.1 == ty).map (·.2)
      let q := progSteps ((find 2).getD [])
      let u := (s.extend 12 (Config.sha384 (Memory.readN s.mem r.img 512)) 0x85 r.lt).refireShadow c r q.1 ((find 1).getD [])
      (q.2 = false → exec .refiringVerified s = .next (s.refireEnd c 1)) ∧
      (q.2 = true → find 3 = none → exec .refiringVerified s = .next u) ∧
      (∀ b, q.2 = true → find 3 = some b → exec .refiringVerified s = .next (u.loadContexts r.phys b).1))) ∧
  (∀ (s : State) (c cause : Nat) (r : Refire), s.refireOf c = some r →
    let x := ((s.clearTile r.phys).setF pgDROLE F.RF_STAT_STATE 5).setF pgDROLE F.RF_STAT_CAUSE cause
    s.refireEnd c cause = ({ x with
      dep.refires := SMap.erase x.dep.refires c
      dep.refill := r.phys :: x.dep.refill.filter (· ≠ r.phys) } : State).pulse pgDROLE 2) ∧
  (∀ (s : State) (c : Nat) (r : Refire) (a tt : Nat), s.dep.refires = [(c, r)] → r.done = some (a, tt) → tt + 16 ≤ s.tick →
    let x := ((s.setFlag pgDROLE (F.ROLE_MAP_MOVING r.lt) false).loadImage r.lt r.phys).releasePairs r.phys
    let y := (x.holdPair (2 * a) true).holdPair (2 * a + 1) true
    let z : State := { y with dep.refires := SMap.erase y.dep.refires c, dep.refill := a :: y.dep.refill.filter (· ≠ a) }
    exec .refiringDone s = .next ((z.enterHeld r.lt).rfState 4 0))

/-! ## Chapter 14: power, clocks and resets -/

/-- R380 to R387, R389 to R391, R394 to R404 and R491: feeds and their switch-over, brown-out, power domains, references, PLLs,
sleep, resets and the temperature sensors. Choices of the model that clauses rest on: log entries 42, 43 and 44. -/
def Obligations.PowerClocksAndResets : Prop :=
  (∀ (s : State) (f : Nat) (ovr : Bool),
    let fv := if f = 0 then (if ovr then F.FEED_STAT_A_OV else F.FEED_STAT_A_UV)
      else if ovr then F.FEED_STAT_B_OV else F.FEED_STAT_B_UV
    let was := s.flag pgKEEL (F.feedOk f)
    let u := ((s.setFeed f { s.feed f with inWin := false }).setFlag pgKEEL (F.feedOk f) false).setFlag pgKEEL fv true
    (s.feed f).inWin = true →
    (u.activeFeed = f → u.flag pgKEEL (F.feedOk (1 - f)) = true → u.stillConducts = true → exec (.feedCrossing f ovr) s =
      .next ((({ u with pwr.switching := none } : State).setF pgKEEL F.FEED_STAT_ACTIVE (1 - f)).setFlag pgKEEL
        F.FEED_STAT_BOTH_BAD true)) ∧
    (u.activeFeed = f → u.flag pgKEEL (F.feedOk (1 - f)) = true → u.stillConducts = false → exec (.feedCrossing f ovr) s =
      .next ((((u.setF pgKEEL F.SW_TICK_TICK u.count).setF pgKEEL F.FEED_STAT_ACTIVE (1 - f)).satF pgKEEL F.FEED_STAT_SWITCHES).pulse
        pgKEEL 0)) ∧
    (u.activeFeed = f → u.flag pgKEEL (F.feedOk (1 - f)) = false →
      exec (.feedCrossing f ovr) s = .next ((u.setFlag pgKEEL F.FEED_STAT_BOTH_BAD true).pulse pgKEEL 2)) ∧
    (u.activeFeed ≠ f → exec (.feedCrossing f ovr) s = .next (if was then u.pulse pgKEEL 3 else u))) ∧
  (∀ (s : State) (f : Nat),
    ((s.feed f).inWin = false → exec (.feedWindowEntry f) s = .next (s.setFeed f { s.feed f with inWin := true, since := s.tick })) ∧
    ((s.feed f).inWin = true → (s.feed f).since + 2000000 ≤ s.tick → s.flag pgKEEL (F.feedOk f) = false →
      exec (.feedInRegulation f) s = .next ((s.setFeed f { s.feed f with okAt := s.tick }).setFlag pgKEEL (F.feedOk f) true))) ∧
  (∀ (s : State), s.flag pgKEEL F.FEED_CTRL_AUTO_RET = true → s.activeFeed = 1 → s.flag pgKEEL F.FEED_STAT_A_OK = true →
    s.pwr.feedA.okAt + 2000000 * s.getF pgKEEL F.FEED_CTRL_RET_DLY ≤ s.tick → exec .feedReturn s =
      .next { ((s.setF pgKEEL F.FEED_STAT_ACTIVE 0).satF pgKEEL F.FEED_STAT_SWITCHES).pulse pgKEEL 0 with pwr.switching := some s.tick }) ∧
  (∀ (s : State) (req data : Nat),
    let p := pageKEEL
    let f := bits data 0 1
    s.Writes p 0x48 req data → s.lockOpen p req = true → bit data 31 = true →
    (s.activeFeed = f → exec (.feedCommand req data) s = .next (s.wrote p 0x48 req data)) ∧
    (s.activeFeed ≠ f → s.flag pgKEEL (F.feedOk f) = true →
      let u := ((s.setF pgKEEL F.FEED_STAT_ACTIVE f).satF pgKEEL F.FEED_STAT_SWITCHES).pulse pgKEEL 0
      exec (.feedCommand req data) s = .next (({ u with pwr.switching := some s.tick } : State).wrote p 0x48 req data)) ∧
    (s.activeFeed ≠ f → s.flag pgKEEL (F.feedOk f) = false → exec (.feedCommand req data) s =
      .next (((s.satF pgKEEL F.FEED_STAT_REFUSED).pulse pgKEEL 1).wrote p 0x48 req data 0x20))) ∧
  (∀ (s : State),
    (s.flag pgKEEL F.FEED_STAT_A_OK = false → s.flag pgKEEL F.FEED_STAT_B_OK = false →
      let u := (List.range 128).foldl (fun (z : State) d => if z.domOn d then z.domainOff d else z) s.floatPads
      let v := ({ u with pwr.busy := none } : State).setFlag pgPWRD F.PWRD_STAT_BUSY false
      exec .brownOut s = .next (({ v with pwr.brown := true, pwr.romStarted := false, fire.phase := 0 } : State).setF pgRSTC
        F.RSTC_CAUSE_LAST 2)) ∧
    (let r := s.draw 8
      let u := (r.2.satF pgKEEL F.KEEL_REG_PHASE_FAIL).pulse pgKEEL 4
      (r.1 ∈ s.pwr.onSpare → exec .phaseFail s = .next u) ∧
      (r.1 ∉ s.pwr.onSpare → exec .phaseFail s =
        .next (({ u with pwr.onSpare := r.1 :: u.pwr.onSpare } : State).satF pgKEEL F.KEEL_REG_PHASES_OUT))) ∧
    ∀ k, exec (.auxFeedLoss k) s = .next (((s.setFlag pgKEEL (F.auxOk k) false).satF pgKEEL F.KEEL_AUX_LOSSES).pulse pgKEEL 5) ∧
      exec (.auxFeedReturn k) s = .next (s.setFlag pgKEEL (F.auxOk k) true)) ∧
  (∀ (s : State) (req data : Nat),
    let p := pagePWRD
    let d := bits data 0 7
    let on := bit data 8
    let barred := if on then decide (80 ≤ d) && decide (d < 120) && (d - 80) % 10 != 0 && !s.domOn (80 + 10 * ((d - 80) / 10))
      else s.inUse d
    s.Writes p 0x40 req data → s.lockOpen p req = true → bit data 31 = true →
    (s.flag pgPWRD F.PWRD_STAT_BUSY = true → exec (.powerDomainCommand req data) s = .next (s.wrote p 0x40 req data 0x21)) ∧
    (s.flag pgPWRD F.PWRD_STAT_BUSY = false → s.pwr.brown = false →
      (barred = true → exec (.powerDomainCommand req data) s =
        .next (((s.satF pgPWRD F.PWRD_STAT_REFUSED).pulse pgPWRD 1).wrote p 0x40 req data 0x20)) ∧
      (barred = false → on = true → s.domOn d = false →
        let u := s.setFbit pgPWRD (F.PWRD_ON_ON (d / 32)) (d % 32) true
        exec (.powerDomainCommand req data) s = .next ((({ u with pwr.busy := some (d, true, u.tick) } : State).setFlag pgPWRD
          F.PWRD_STAT_BUSY true).wrote p 0x40 req data)) ∧
      (barred = false → on = false → s.domOn d = true →
        exec (.powerDomainCommand req data) s = .next (((s.domainOff d).domainDone d false).wrote p 0x40 req data)) ∧
      (barred = false → s.domOn d = on →
        exec (.powerDomainCommand req data) s = .next ((s.domainDone d on).wrote p 0x40 req data)))) ∧
  (∀ (s : State) (d since : Nat) (on : Bool), s.pwr.busy = some (d, on, since) →
    exec .domainReady s = .next ((({ s with pwr.busy := none } : State).setDomain d on).domainDone d on)) ∧
  (∀ (s : State),
    let r := s.selRef
    let u := (s.setValid r false).satF pgCLKG F.REF_STAT_REF_LOSS
    s.flag pgCLKG (F.refValid r) = true →
    (u.flag pgCLKG (F.refValid (1 - r)) = true → exec .refclkLoss s =
      .next (((u.setF pgCLKG F.REF_STAT_SEL (1 - r)).satF pgCLKG F.REF_STAT_SWITCHES).pulse pgCLKG 0)) ∧
    (u.flag pgCLKG (F.refValid (1 - r)) = false →
      exec .refclkLoss s = .next ((u.setFlag pgCLKG F.REF_STAT_HOLDOVER true).pulse pgCLKG 2))) ∧
  (∀ (s : State) (r : Nat), s.flag pgCLKG F.REF_STAT_A_VALID = false → s.flag pgCLKG F.REF_STAT_B_VALID = false →
    let u := (s.setValid r true).setFlag pgCLKG F.REF_STAT_HOLDOVER false
    exec (.refclkRecover r) s = .next (if u.selRef = r then u else u.switchRef r)) ∧
  (∀ (s : State) (r : Nat) (v : Bool), s.selRef ≠ r → s.flag pgCLKG (F.refValid r) ≠ v → s.flag pgCLKG (F.refValid s.selRef) = true →
    exec (.refclkValidityChange r v) s =
      .next (if v then s.setValid r true else (s.setValid r false).satF pgCLKG F.REF_STAT_REF_LOSS)) ∧
  (∀ (s : State) (req data : Nat),
    let p := pageCLKG
    let r := bits data 0 1
    s.Writes p 0x48 req data → s.lockOpen p req = true → bit data 31 = true →
    (s.flag pgCLKG (F.refValid r) = false → exec (.refclkCommand req data) s = .next ((s.pulse pgCLKG 5).wrote p 0x48 req data 0x20)) ∧
    (s.flag pgCLKG (F.refValid r) = true →
      exec (.refclkCommand req data) s = .next ((if s.selRef = r then s else s.switchRef r).wrote p 0x48 req data))) ∧
  (∀ (s : State),
    let r := s.getF pgCLKG F.REF_CTRL_PREF
    s.flag pgCLKG F.REF_CTRL_REVERT = true → s.selRef ≠ r → s.flag pgCLKG (F.refValid r) = true →
    s.refSince r + 20000000000 ≤ s.tick → exec .refclkRevert s = .next (s.switchRef r)) ∧
  (∀ (s : State) (k : Nat),
    let u := s.setFlag pgCLKG (F.pllLock k) false
    let sec := u.flag pgCLKG F.REF_STAT_TB_SEC
    let spare := u.getF pgCLKG F.PLL_STAT_SPARE_FOR
    (s.flag pgCLKG (F.pllLock k) = false → exec (.pllFailure k) s = .next s) ∧
    (s.flag pgCLKG (F.pllLock k) = true →
    (k = 9 → sec = false → u.flag pgCLKG (F.pllLock 10) = true →
      exec (.pllFailure k) s = .next ((u.setFlag pgCLKG F.REF_STAT_TB_SEC true).pulse pgCLKG 3)) ∧
    (k = 10 → sec = true → u.flag pgCLKG (F.pllLock 9) = true →
      exec (.pllFailure k) s = .next ((u.setFlag pgCLKG F.REF_STAT_TB_SEC false).pulse pgCLKG 3)) ∧
    ((k = 9 ∧ (sec = true ∨ u.flag pgCLKG (F.pllLock 10) = false)) ∨ (k = 10 ∧ (sec = false ∨ u.flag pgCLKG (F.pllLock 9) = false)) →
      exec (.pllFailure k) s = .next u) ∧
    (k = 11 → exec (.pllFailure k) s = .next ((pllIslands spare).foldl (fun (z : State) i => z.stopIsland i) u)) ∧
    (k < 9 →
      let v := (pllIslands (k + 1)).foldl (fun (z : State) i => z.stopIsland i) u
      (v.getF pgCLKG F.PLL_STAT_SPARE_FOR = 0 → v.pwr.spareLocking = none → exec (.pllFailure k) s =
        .next (({ v with pwr.spareLocking := some (k + 1, v.tick) } : State).setDomain 127 true)) ∧
      (v.getF pgCLKG F.PLL_STAT_SPARE_FOR ≠ 0 ∨ v.pwr.spareLocking.isSome = true → exec (.pllFailure k) s =
        .next { v with pwr.failed := v.pwr.failed ++ [k + 1] })))) ∧
  (∀ (s : State) (code since : Nat), s.pwr.spareLocking = some (code, since) →
    let u := (((({ s with pwr.spareLocking := none } : State).setFlag pgCLKG F.PLL_STAT_SPARE true).setF pgCLKG F.PLL_STAT_SPARE_FOR
      code).satF pgCLKG F.PLL_STAT_SUBS).pulse pgCLKG 4
    exec .sparePllLocked s = .next ((pllIslands code).foldl (fun (z : State) i => z.startIsland i) u).replayHeld) ∧
  (∀ (s : State) (t : Nat),
    let i := 2 * t
    (s.maySleep t = true →
      let u := s.islandHalts i
      exec (.coreIslandSleep t) s =
        .next (({ u with pwr.asleep := i :: u.pwr.asleep } : State).setFlag (pgTILE t) F.TILE_PWR_SLEEPING true)) ∧
    (i ∈ s.pwr.asleep → i ∈ s.pwr.wakeReq →
      let u := (({ s with pwr.asleep := s.pwr.asleep.filter (· ≠ i) } : State).setFlag (pgTILE t) F.TILE_PWR_SLEEPING false).satF
        (pgTILE t) F.TILE_PWR_WAKES
      exec (.coreIslandWake t) s = .next (if u.pwr.stopped.contains i then u else u.islandRuns i).replayHeld)) ∧
  (∀ (s : State) (c k : Nat),
    let i := cluIsland c k
    ((match k with
      | 0 => s.flag (pgCLU c) F.CLU_PWR_LATH_SLP && !s.clusterActive c true
      | 1 => s.flag (pgCLU c) F.CLU_PWR_AFE_SLP && !s.analogInUse c
      | _ => s.flag (pgCLU c) F.CLU_PWR_FCST_SLP && !s.forecastInUse c) = true →
      s.isleStopped i = false → s.islandOn i = true →
      let u := s.islandHalts i
      exec (.clusterIslandSleep c k) s =
        .next (({ u with pwr.asleep := i :: u.pwr.asleep } : State).setFbit (pgCLU c) F.CLU_PWR_SLEEPING k true)) ∧
    (i ∈ s.pwr.asleep → i ∈ s.pwr.wakeReq →
      let u := ({ s with pwr.asleep := s.pwr.asleep.filter (· ≠ i) } : State).setFbit (pgCLU c) F.CLU_PWR_SLEEPING k false
      exec (.clusterIslandWake c k) s = .next (if u.pwr.stopped.contains i then u else u.islandRuns i).replayHeld) ∧
    (k = 0 → c < 4 → s.islandRuns i = (List.range 16).foldl (fun (z : State) j => z.gpioReplay (16 * c + j))
      { s with pwr.sleptAt := SMap.erase s.pwr.sleptAt i, pwr.wakeReq := s.pwr.wakeReq.filter (· ≠ i) })) ∧
  (∀ (s : State) (req data : Nat),
    let p := pageRSTC
    let t := bits data 8 6
    s.Writes p 0x40 req data → bit data 31 = true →
    (bits data 0 2 = 1 → exec (.resetCommand req data) s = .next (s.keeperReset.wrote p 0x40 req data)) ∧
    (bits data 0 2 = 2 → exec (.resetCommand req data) s = .next (s.debugReset.wrote p 0x40 req data)) ∧
    (bits data 0 2 = 3 → t < 40 →
      (s.role t ≤ 1 → exec (.resetCommand req data) s = .next (s.wrote p 0x40 req data 0x20)) ∧
      (2 ≤ s.role t →
        let u := (s.resetTile t).satF pgRSTC F.RSTC_CNT_TILE
        let v := if u.role t = 2 ∧ t ∉ u.dep.refill then ({ u with dep.refill := t :: u.dep.refill } : State) else u
        exec (.resetCommand req data) s = .next ((v.pulse pgRSTC 0).wrote p 0x40 req data)))) ∧
  (∀ (s : State) (ns : Nat),
    (1000 ≤ ns → exec (.resetNAssert ns) s =
      .next (({ s with pwr.resetN := false, pwr.resetAt := s.tick } : State).powerOn 1)) ∧
    (ns < 100 → exec (.resetNAssert ns) s = .next s) ∧
    (s.pwr.resetN = false →
      let u : State := { s with pwr.resetN := true, pwr.resetAt := s.tick }
      exec .resetNRelease s = .next (if s.pwr.brown then u else u.keelStart))) ∧
  (∀ (s : State), s.pwr.brown = true →
    (s.flag pgKEEL F.FEED_STAT_A_OK = true ∧ s.pwr.feedA.okAt + 20000000 ≤ s.tick) ∨
      (s.flag pgKEEL F.FEED_STAT_B_OK = true ∧ s.pwr.feedB.okAt + 20000000 ≤ s.tick) →
    let u := ({ s with pwr.brown := false } : State).powerOn 2
    exec .powerOnReset s = .next (if u.pwr.resetN then u.keelStart else u)) ∧
  (∀ (s : State) (cause : Nat),
    let u := s.powerOn cause
    u.count = 0 ∧ u.keelStart.count = 0 ∧ u.core = {} ∧ u.link.nodes = s.link.nodes ∧ u.getF pgRSTC F.RSTC_CAUSE_LAST = cause % 4 ∧
      ∀ a, ¬ (0x40000000 ≤ a ∧ a < 0x80000000) → Memory.read u.mem a = Memory.unlisted) ∧
  (∀ (s : State) (x : Int) (xs : List Int), s.pwr.tjAt + 2000000000 > s.tick →
    let now := xs.foldl max x
    let u := ({ s with pwr.tjSum := s.pwr.tjSum + now, pwr.tjN := s.pwr.tjN + 1 } : State).setF pgKEEL F.KEEL_TJ_TJ_NOW (wrap 16 now)
    exec (.tjUpdate (x :: xs)) s =
      .next (if now > sgn 16 (u.getF pgKEEL F.KEEL_TJ_TJ_PEAK) then u.setF pgKEEL F.KEEL_TJ_TJ_PEAK (wrap 16 now) else u))

/-! ## Chapter 15: firing, the keeper's commands and attestation -/

/-- R405 to R409, R414, R420, R422, R433 and R434: firing from the flashes and its retry, the check of a boot header, glaze
firing, the commands of the KEEP page, and MEAS_EXT. Choices of the model that clauses rest on: log entries 45, 46 and 48. -/
def Obligations.FiringAndKeep : Prop :=
  (∀ (s : State), s.fire.phase = 1 → s.fire.started = false →
    let o := s.fire.otp
    let u := (({ s with fire.started := true } : State).extend 14 (Config.lifeDigest o.life o.minVersion
      (o.keys.foldl (fun n kv => setBit n kv.1 true) 0 + 16 * o.revoked)) 0x87 0).extend 0 Config.romDigest 0x80 0
    exec .bisqueFiring s = exec .bisqueFiring u) ∧
  (∀ (s : State), s.fire.phase = 1 → s.fire.started = true →
    let f := s.fire.flash
    let r := s.fireFlash f
    let x := r.1.bootCause f r.2
    let q := x.fireFlash 1
    (r.2 = 0 → exec .bisqueFiring s = .next r.1) ∧
    (r.2 ≠ 0 → f = 1 → exec .bisqueFiring s = .next x.bootFail) ∧
    (r.2 ≠ 0 → f ≠ 1 → q.2 = 0 → exec .bisqueFiring s = .next q.1) ∧
    (r.2 ≠ 0 → f ≠ 1 → q.2 ≠ 0 → exec .bisqueFiring s = .next (q.1.bootCause 1 q.2).bootFail)) ∧
  (∀ (s : State) (f : Nat),
    let u := s.setFlag (pgXSPI f) F.XSPI_STAT_OCTAL false
    let v := u.setFlag (pgXSPI f) F.XSPI_STAT_OCTAL true
    let b := u.flash f 0 512
    let h := parseHdr b
    let ldr := v.flash f h.ldrOfs h.ldrLen
    (u.hdrCause b false ≠ 0 → s.fireFlash f = (u, u.hdrCause b false)) ∧
    (u.hdrCause b false = 0 → Config.sha384 ldr ≠ h.ldrHash → s.fireFlash f = (v, 5)) ∧
    (u.hdrCause b false = 0 → Config.sha384 ldr = h.ldrHash →
      (s.fireFlash f).2 = 0 ∧ (s.fireFlash f).1.fire.phase = 2 ∧ (s.fireFlash f).1.fire.version = h.version ∧
        (s.fireFlash f).1.fire.flash = f)) ∧
  (∀ (s : State) (b : List Byte) (bundle : Bool),
    let h := parseHdr b
    let pub := slice b 0x160 97
    s.hdrCause b bundle = 0 ↔ hdrForm b bundle = true ∧ s.keyAllowed h.keyIdx = true ∧ Config.sha384 pub = s.keyHash h.keyIdx ∧
      Config.ecdsaVerify pub (Config.sha384 (slice b 0 256)) (slice b 0x100 96) = true ∧ s.fire.otp.minVersion ≤ h.version) ∧
  (∀ (s : State) (started : Nat),
    let h := s.header
    let db := s.flash s.fire.flash h.dirOfs (80 * h.dirCount)
    let es := dirEntries db h.dirCount
    let u := (s.extend 2 h.dirHash 0x83 0).glazeJournal h
    let r := (List.range 4).foldl (fun (z : State × Bool) c => if z.2 then z.1.glazeCluster es started c else z) (u, true)
    let w := r.1.makeAlias.releaseCores
    s.fire.phase = 2 →
    (Config.sha384 db ≠ h.dirHash → exec (.glazeFiring started) s = .next s.glazeFail) ∧
    (Config.sha384 db = h.dirHash →
      (es.all DirEntry.ok = false ∨ dupEntries es = true ∨ bits started 0 4 = 0 → exec (.glazeFiring started) s = .next u.glazeFail) ∧
      (es.all DirEntry.ok = true → dupEntries es = false → bits started 0 4 ≠ 0 → r.2 = false → exec (.glazeFiring started) s = .next r.1.glazeFail) ∧
      (es.all DirEntry.ok = true → dupEntries es = false → bits started 0 4 ≠ 0 → r.2 = true → exec (.glazeFiring started) s =
        .next ({ w with fire.phase := 3, fire.doms := [] } : State).grpFired))) ∧
  (∀ (s : State) (es : List DirEntry) (started c : Nat), bit started c = false →
    s.glazeCluster es started c = ((s.setFbit pgDEV F.DEV_BOOT_CLU_FAIL c true).glazeRoles c false, true)) ∧
  (∀ (s : State), s.fire.phase = 4 → s.fire.retryAt ≤ s.tick →
    exec .bootRetry s = .next ({ s with fire.phase := 1, fire.flash := 0 } : State).bisque) ∧
  (∀ (s : State) (req : Nat),
    let p := pageKEEP
    let args := (List.range 4).map fun k => s.getF pgKEEP (F.KEEP_ARG_ARG k)
    s.lockOpen p req = true →
    ∀ e ∈ [(1, Instr.journalWrite req), (2, .flashWrite req), (3, .minVersion req), (4, .lifecycle req), (5, .revoke req),
        (6, .logRead req)], s.Writes p 0x40 req e.1 →
      (s.flag pgKEEP F.KEEP_STAT_BUSY = false → exec e.2 s =
        .next ((((({ s with fire.keep := some ⟨e.1, args⟩ } : State).setFlag pgKEEP F.KEEP_STAT_BUSY true).setF pgKEEP
          F.KEEP_STAT_REQ req).setF pgKEEP F.KEEP_CMD_CMD e.1).wrote p 0x40 req e.1)) ∧
      (s.flag pgKEEP F.KEEP_STAT_BUSY = true → exec e.2 s = .next (s.wrote p 0x40 req e.1 0x20))) ∧
  (∀ (s : State) (k : KeepCmd) (err : Bool), s.fire.keep = some k → s.memFrozen k.ptr = true →
    exec (.keepCommandDone err) s = .next s) ∧
  (∀ (s : State) (k : KeepCmd) (err : Bool), s.fire.keep = some k → s.memFrozen k.ptr = false →
    let o := s.fire.otp
    (s.keepRefused k = true → exec (.keepCommandDone err) s = .next (s.keepEnd 2)) ∧
    (s.keepRefused k = false → err = true → exec (.keepCommandDone true) s =
      .next ((s.satF (pgXSPI (if k.cmd = 2 then bits (k.arg 2) 31 1 else 0)) F.XSPI_STAT_ERRORS).keepEnd 3)) ∧
    (s.keepRefused k = false →
      (k.cmd = 1 → exec (.keepCommandDone false) s = .next ((((s.keepItems k).filter fun i => i.kind == 1).foldl
        (fun (z : State) i => z.applyItem i) (s.journalAppend (s.keepItems k))).keepEnd 1)) ∧
      (k.cmd = 2 → exec (.keepCommandDone false) s = .next ((s.flashWrite (bits (k.arg 2) 31 1) (bits (k.arg 2) 0 29)
        (Memory.readN s.mem k.ptr (k.arg 3))).keepEnd 1)) ∧
      (k.cmd = 3 → exec (.keepCommandDone false) s =
        .next (({ s with fire.otp.minVersion := k.arg 2 } : State).showOtp.keepEnd 1)) ∧
      (k.cmd = 4 → o.life ≠ 0 → exec (.keepCommandDone false) s =
        .next (({ s with fire.otp.lifeNext := some (k.arg 2) } : State).showOtp.keepEnd 1)) ∧
      (k.cmd = 5 → exec (.keepCommandDone false) s =
        .next (({ s with fire.otp.revoked := setBit o.revoked (k.arg 2) true } : State).showOtp.keepEnd 1)) ∧
      (k.cmd = 6 → exec (.keepCommandDone false) s = .next ((s.writeMem k.ptr
        (((s.fire.log.drop (k.arg 2)).take (k.arg 3)).flatMap MRec.bytes)).keepEnd 1)))) ∧
  (∀ (s : State) (req : Nat),
    let d := (List.range 12).flatMap fun w => toBytes (SMap.getD s.fire.ext (16 * req + w) 0) 4
    s.Writes pageMEAS 0x440 req 1 →
    (s.logFull = false → exec (.measurementExtend req) s = .next ((s.extend 15 d 0x86 0).wrote pageMEAS 0x440 req 1)) ∧
    (s.logFull = true → exec (.measurementExtend req) s = .next (s.wrote pageMEAS 0x440 req 1 0x20)))

/-- R426 to R430: fragments of SPDM requests and of their responses, from a management port and in MGMT frames, the time-outs of reassembly and connection, and the requests that are answered.
Choices of the model that clauses rest on: log entries 46 and 47. -/
def Obligations.Attestation : Prop :=
  (∀ (s : State) (port addr udp : Nat) (b : List Byte), port ≠ 2 →
    let id := beAt b 2 2
    let data := b.drop 8
    let u := (s.openConn port addr udp).1
    let c := (s.openConn port addr udp).2
    s.fire.spdm = true → 9 ≤ b.length → b.length ≤ 1400 → leAt b 0 1 = 1 → leAt b 1 1 < 4 → beAt b 4 2 = 0 → beAt b 6 2 = data.length →
    (∀ i m, c.req = some (i, m) → exec (.spdmFragment port addr udp b) s =
      .next ((if bit (leAt b 1 1) 0 then u.satF pgDEV F.DEV_BOOT_SPDM_DROP else u).setConn c)) ∧
    (c.req = none → c.asm = none →
      (c.done = some id → exec (.spdmFragment port addr udp b) s =
        .next ((u.setConn { c with asm := none, got := [] }).sendAll port addr udp (spdmFrags id c.resp))) ∧
      (c.done ≠ some id → exec (.spdmFragment port addr udp b) s =
        .next (u.setConn { c with asm := none, got := [], req := some (id, data) })))) ∧
  (∀ (s : State) (port addr udp : Nat) (b : List Byte), port ≠ 2 →
    s.fire.spdm = false ∨ b.length < 9 ∨ 1400 < b.length ∨ leAt b 0 1 ≠ 1 → exec (.spdmFragment port addr udp b) s = .next s) ∧
  (∀ (s : State) (k seq : Nat) (b : List Byte),
    (s.grpTake k 8 seq = none → exec (.spdmFragment 2 k seq b) s = .next s) ∧
    (∀ u gap, s.grpTake k 8 seq = some (u, gap) → u.fire.spdm = true → fragOk b = true →
      exec (.spdmFragment 2 k seq b) s = .next (u.spdmTake 2 k 0 b))) ∧
  (∀ (id k : Nat) (m : List Byte), id < 65536 → m.length ≤ 16384 → k < (m.length + 1391) / 1392 →
    let d := (spdmFrags id m).getD k []
    (spdmFrags id m).length = (m.length + 1391) / 1392 ∧ fragOk d = true ∧ bit (leAt d 1 1) 0 = (k == 0) ∧
      bit (leAt d 1 1) 1 = (k + 1 == (m.length + 1391) / 1392) ∧ beAt d 2 2 = id ∧ beAt d 4 2 = 1392 * k ∧ beAt d 6 2 = m.length ∧
      d.drop 8 = (m.drop (1392 * k)).take 1392) ∧
  (∀ (s : State) (port addr udp id n t0 : Nat) (c : Conn),
    let v := if port = 2 then 0 else udp
    s.conn port addr v = some c → c.asm = some (id, n, t0) → t0 + 200000000 ≤ s.tick →
    exec (.spdmReassemblyTimeout port addr udp) s = .next (s.setConn { c with asm := none, got := [] })) ∧
  (∀ (s : State) (port addr udp : Nat) (c : Conn),
    let v := if port = 2 then 0 else udp
    s.conn port addr v = some c → c.last + 120000000000 ≤ s.tick →
    ∃ t, exec (.spdmConnectionIdle port addr udp) s = .next t ∧ t.conn port addr v = none) ∧
  (∀ (s : State) (port addr udp id : Nat) (c : Conn) (m : List Byte),
    let v := if port = 2 then 0 else udp
    s.conn port addr v = some c → c.req = some (id, m) →
    let k := leAt m 1 1
    let answer := fun (r : List Byte × Conn) =>
      let u := ({ s with free := s.free + 1 } : State).setConn { r.2 with req := none, done := some id, resp := r.1, last := s.tick }
      let w := if port = 2 ∧ k = 0x83 ∧ leAt r.1 1 1 = 0x03 then u.setPeer addr { u.peer addr with answered := true } else u
      if port = 2 then w.grpSendList addr 8 ((spdmFrags id r.1).map fun d => d.map (·.toNat))
      else w.sendAll port addr v (spdmFrags id r.1)
    (∀ e ∈ [(0x84, Instr.getVersion port addr udp), (0xE1, .getCapabilities port addr udp), (0xE3, .negotiateAlgorithms port addr udp),
        (0x81, .getDigests port addr udp), (0x82, .getCertificate port addr udp), (0x83, .challenge port addr udp),
        (0xE0, .getMeasurements port addr udp)],
      (k = e.1 → exec e.2 s = .next (answer (s.spdmAnswer c m))) ∧ (k ≠ e.1 → exec e.2 s = .next s)) ∧
    (k ∉ [0x84, 0xE1, 0xE3, 0x81, 0x82, 0x83, 0xE0] →
      exec (.spdmUnsupported port addr udp) s = .next (answer ([0x12#8, 0x7F#8, 7#8, BitVec.ofNat 8 k], c))))

/-! ## Chapter 16: device groups -/

/-- R436 to R439, R441 to R444, R448 to R450 and R453: STATUS, EVENT, XFER, MIRROR and CONFIG frames, members lost and admitted,
the ownership frame, the two-phase commit, and the exchanges of time. Choices of the model that clauses rest on: log entries 49,
50 and 51. -/
def Obligations.DeviceGroups : Prop :=
  (∀ (s : State), s.grpOn = true → s.grp.statusAt + 20000 ≤ s.tick →
    let u := ({ s with grp.statusAt := s.tick } : State).chooseMaster
    exec .groupStatusSend s = .next (u.grpSendAll 1 [u.getF pgGRPL F.GRP_CTRL_GROUP_ID, u.fire.compat, u.fire.version, u.grpState,
      u.epoch, (u.flag pgGRPL F.GRP_TIME_HEALTHY).toNat + (u.flag pgGRPL F.GRP_TIME_DIVERGED).toNat * 2 +
        (u.flag pgGRPL F.GRP_STAT_HELD).toNat * 4, u.getF pgGRPL F.GRP_REL_RELEASE, u.getF pgGRPL F.GRP_TRACK_TRACK_OK,
      (List.range 8).foldl (fun n q => n + u.getF pgGRPL (F.grpOwner q) * 8 ^ q) 0])) ∧
  (∀ (s : State) (k ty seq : Nat),
    let p := s.peer k
    let last := SMap.get? p.seqs ty
    (s.grpOn = true → k ≠ s.ownId → newer last seq = true → ∃ g, s.grpTake k ty seq =
      some (s.setPeer k { p with seqs := SMap.put p.seqs ty seq }, g) ∧ (g = true ↔ ∃ l, last = some l ∧ (l + 1) % 65536 ≠ seq)) ∧
    (s.grpOn = false ∨ k = s.ownId ∨ newer last seq = false → s.grpTake k ty seq = none)) ∧
  (∀ (s u : State) (k src seq : Nat) (st : GStat) (g : Bool), s.grpTake k 1 seq = some (u, g) →
    let v := u.setPeer k { u.peer k with
      id := src, seen := some u.tick, gid := st.gid, compat := st.compat, version := st.version, state := st.state
      epoch := st.epoch, release := st.release, track := st.track, diverged := st.diverged, healthy := st.healthy
      held := st.held, lost := false }
    let w := (((v.setF pgGRPL (F.GRP_PEER_COMPAT k) st.compat).setF pgGRPL (F.GRP_PEER_VERSION k) st.version).setF pgGRPL
      (F.GRP_PEER_STATE k) st.state).setFlag pgGRPL (F.GRP_PEER_DIVERGED k) st.diverged
    let x := if st.compat = w.fire.compat then w.ownerBack k else (w.setFbit pgGRPL F.GRP_STAT_PRESENT k false).ownerGone k
    let y := (x.grpJoin k).grpAsk k
    exec (.groupStatusReceive k src seq st) s =
      .next (if st.held = true ∧ (u.peer k).held = false ∧ y.present k = true ∧ y.grpState = 2 then y.setHeld else y).chooseMaster) ∧
  (∀ (s : State) (k : Nat),
    let p := s.peer k
    let from_ := p.seen.getD s.grp.onAt + 2000 * s.getF pgGRPL F.GRP_CTRL_LOSS_TMO
    (s.laneUsed k = true → p.lost = false → from_ ≤ s.tick →
      let u := s.setPeer k { p with lost := true, ask := { n := p.ask.n }, answered := false }
      let v := ((u.setFbit pgGRPL F.GRP_STAT_PRESENT k false).satF pgGRPL F.GRP_STAT_LOST).pulse pgGRPL 0
      exec (.memberLost k) s = .next (v.ownerGone k).chooseMaster) ∧
    (s.laneUsed k = false ∨ p.lost = true ∨ s.tick < from_ → exec (.memberLost k) s = .next s)) ∧
  (∀ (s : State) (k q : Nat), q < 8 →
    (SMap.has (s.ownerGone k).grp.lostSeen q = true ↔ SMap.has s.grp.lostSeen q = true ∨ s.getF pgGRPL (F.grpOwner q) = k) ∧
    (s.getF pgGRPL (F.grpOwner q) = k → SMap.has (s.ownerBack k).grp.lostSeen q = false)) ∧
  (∀ (s u : State) (k seq n : Nat) (g : Bool), s.grpTake k 7 seq = some (u, g) →
    exec (.groupEventReceive k seq n) s = .next (u.produce lathDev (40 + n) true 2 true)) ∧
  (∀ (s : State) (k : Nat) (auth : Bool),
    let p := s.peer k
    s.laneUsed k = true → s.grpState = 1 ∨ s.grpState = 2 → p.seen.isSome = true → s.present k = false → s.grp.commit = none →
    (s.admitCause k auth = 0 → p.challenged = false → exec (.peerAdmission k auth) s = .next s) ∧
    (s.admitCause k auth = 0 → p.challenged = true → p.epoch < s.epoch →
      exec (.peerAdmission k auth) s = .next (s.grpSend k 9 (s.epoch :: s.grpWords true))) ∧
    (s.admitCause k auth = 0 → p.challenged = true → p.epoch = s.epoch → p.digest ≠ [] →
      let u := s.agree
      let v := (u.setFbit pgGRPL F.GRP_STAT_PRESENT k true).setFbit pgGRPL F.GRP_STAT_PRESENT u.ownId true
      exec (.peerAdmission k auth) s = .next (((v.setF pgGRPL F.GRP_STAT_CAUSE 0).setGrpState 2).chooseMaster)) ∧
    (s.admitCause k auth ≠ 0 →
      let u := s.setF pgGRPL F.GRP_STAT_CAUSE (s.admitCause k auth)
      exec (.peerAdmission k auth) s =
        .next (if u.grpState = 2 then u else ({ u with grp.retryAt := u.tick + 200000000 } : State).setGrpState 3))) ∧
  (∀ (s : State), s.grpOn = true → s.grpState = 3 → s.grp.retryAt ≤ s.tick → exec .admissionRetry s = .next (s.setGrpState 1)) ∧
  (∀ (s u : State) (k seq epoch : Nat) (ws : List Nat) (g : Bool), s.grpTake k 9 seq = some (u, g) →
    let clocked := (List.range 8).any fun q => u.tilesOf q != [] && u.grpClocked q
    (epoch ≤ u.epoch → exec (.configTransfer k seq epoch ws) s = .next u) ∧
    (u.epoch < epoch → clocked = true → exec (.configTransfer k seq epoch ws) s = .next { u with grp.xfer := some (ws, epoch) }) ∧
    (u.epoch < epoch → clocked = false → exec (.configTransfer k seq epoch ws) s = .next (u.setActive ws epoch).agree)) ∧
  (∀ (s u : State) (k seq q period : Nat) (ws : List MirW), s.grpTake k 6 seq = some (u, false) →
    (u.getF pgGRPL (F.grpOwner q) ≠ k ∨ u.fbit pgGRPL (F.GRP_PART_CFG_MEMBERS q) u.ownId = false →
      exec (.mirrorReceive k seq q period ws) s = .next u) ∧
    (u.getF pgGRPL (F.grpOwner q) = k → u.fbit pgGRPL (F.GRP_PART_CFG_MEMBERS q) u.ownId = true → ws = [] →
      let first := SMap.getD u.grp.mirror q period
      let v : State := { u with grp.mirror := SMap.put u.grp.mirror q first }
      exec (.mirrorReceive k seq q period ws) s = .next (if 2 * 2 ^ v.getF pgGRPL (F.GRP_PART_CFG_MROT q) ≤
        (period + 1 + 2 ^ 32 - first) % 2 ^ 32 then v.setFbit pgGRPL F.GRP_TRACK_TRACK_OK q true else v))) ∧
  (∀ (s : State), s.grpOn = true → s.grp.frame = none → s.isMaster = false ∨ s.count % 100000 = 0 →
    let mine := (List.range 8).foldl (fun n q => setBit n q (s.claims q)) 0
    let ids := (List.range 8).map fun q => s.getF pgGRPL (F.grpOwner q)
    (2 ≤ s.grp.accepted → exec .ownershipFrameStart s =
      .next { s with grp.frame := some ⟨s.tick, s.isMaster, mine, s.ownId, true, ids⟩, grp.claims := 0 }) ∧
    (s.grp.accepted < 2 → exec .ownershipFrameStart s =
      .next { s with grp.frame := some ⟨s.tick, s.isMaster, 0, s.ownId, false, ids⟩ })) ∧
  (∀ (s : State) (x y : Nat) (f : OwnFrame), s.grpOn = true → s.grp.frame = some f →
    (s.tick < f.at_ + 68000 → exec (.ownershipFrameEnd x y) s = .next s) ∧
    (f.at_ + 68000 ≤ s.tick →
    let a := f.levels x
    let b := f.levels y
    let u : State := { s with grp.frame := none, grp.lines := some (a, b) }
    (ownAccepted a b = true →
      let v := ({ u with grp.accepted := s.grp.accepted + 1, grp.badRow := 0 } : State).setFlag pgGRPL F.GRP_OWNSTAT_BUS_FAULT false
      exec (.ownershipFrameEnd a b) s =
        .next ((List.range 8).foldl (fun (z : State) q => z.setToken q (slotId a q) (!bit a (2 + 4 * q))) v)) ∧
    (ownAccepted a b = false →
      let v := ({ u with grp.badRow := s.grp.badRow + 1 } : State).satF pgGRPL F.GRP_OWNSTAT_DISCARDS
      exec (.ownershipFrameEnd a b) s = .next (if 3 ≤ v.grp.badRow ∧ v.flag pgGRPL F.GRP_OWNSTAT_BUS_FAULT = false
        then (v.setFlag pgGRPL F.GRP_OWNSTAT_BUS_FAULT true).pulse pgGRPL 5 else v)))) ∧
  (∀ (f : OwnFrame) (w n : Nat), n < 34 → bit (f.levels w) n = (bit w n && !f.low (f.levels w) n)) ∧
  (∀ (s : State) (q id : Nat) (claimed : Bool), s.getF pgGRPL (F.grpOwner q) ≠ id → q < 8 → id < 8 →
    let u := s.setToken q id claimed
    u.getF pgGRPL (F.grpOwner q) = id ∧
      (s.getF pgGRPL (F.grpOwner q) = s.ownId ∨ id = s.ownId → SMap.get? u.grp.hand q = some (s.tick + 20000, id == s.ownId))) ∧
  (∀ (s : State) (req data : Nat),
    let p := pageGRPL
    let q := bits data 0 3
    let u := (s.put p (s.wrOf p req data) 0x54 [F.GRP_CLAIM_GO]).1
    s.Writes p 0x54 req data → s.lockOpen p req = true → bit data 31 = true → (s.put p (s.wrOf p req data) 0x54 [F.GRP_CLAIM_GO]).2 = 0 →
    (u.fbit pgGRPL (F.GRP_PART_CFG_MEMBERS q) u.ownId = true → exec (.groupClaim req data) s =
      .next (({ u with grp.claims := setBit u.grp.claims q true } : State).wrote p 0x54 req data)) ∧
    (u.fbit pgGRPL (F.GRP_PART_CFG_MEMBERS q) u.ownId = false → exec (.groupClaim req data) s = .next (u.wrote p 0x54 req data 0x20))) ∧
  (∀ (s : State), s.grpOn = true →
    let t := s.grpSendAll 3 s.configWords
    let h := t.setHeld
    (t.grpState ≠ 2 → exec .configDigestCheck s = .next t) ∧
    (t.grpState = 2 → exec .configDigestCheck s = .next (if t.epoch = t.grp.agreedEpoch ∧ t.activeDigest ≠ t.agreedDigest then
      { h with grp.calm := 0, grp.xfer := some (h.grp.agreed, h.grp.agreedEpoch), grp.calmBad := false } else t.calmPeriod))) ∧
  (∀ (s : State),
    (s.flag pgGRPL F.GRP_STAT_HELD = true → s.setHeld = s) ∧
    (s.flag pgGRPL F.GRP_STAT_HELD = false →
      s.setHeld = (({ s with grp.calm := 0 } : State).setFlag pgGRPL F.GRP_STAT_HELD true).pulse pgGRPL 2)) ∧
  (∀ (s : State) (req data : Nat),
    let p := pageGRPL
    let n := s.getF pgGRPL F.GRP_CPNUM_P
    let e := (s.epoch + 1) % 2 ^ 64
    let d := grpDigest e (s.grpWords false)
    let me := 2 ^ s.ownId
    let u := ((({ s with grp.commit := some ⟨true, n, d, e, me, none, false⟩ } : State).setF pgGRPL F.GRP_CSTAT_PHASE 1).setF pgGRPL
      F.GRP_CSTAT_CAUSE 0).setF pgGRPL F.GRP_CSTAT_PREP me
    s.Writes p 0x5C req data → bit data 0 = true →
    (s.grp.commit.isSome = true → exec (.commitPropose req data) s = .next (s.wrote p 0x5C req data 0x21)) ∧
    (s.grp.commit = none → s.flag pgGRPL F.GRP_STAT_HELD = true →
      exec (.commitPropose req data) s = .next (s.wrote p 0x5C req data 0x22)) ∧
    (s.grp.commit = none → s.flag pgGRPL F.GRP_STAT_HELD = false →
      (n < s.grpPnum + 4 → exec (.commitPropose req data) s = .next (s.wrote p 0x5C req data 0x0C)) ∧
      (s.grpPnum + 4 ≤ n → exec (.commitPropose req data) s =
        .next ((u.grpSendAll 4 (e :: n :: d.map (·.toNat))).wrote p 0x5C req data)))) ∧
  (∀ (s u : State) (k seq epoch n : Nat) (digest : List Byte) (g : Bool), s.grpTake k 4 seq = some (u, g) →
    let good := u.grp.commit = none ∧ u.flag pgGRPL F.GRP_STAT_HELD = false ∧ epoch = (u.epoch + 1) % 2 ^ 64 ∧
      digest = grpDigest epoch (u.grpWords false)
    let v := (({ u with grp.commit := some ⟨false, n, digest, epoch, 0, none, false⟩ } : State).setF pgGRPL F.GRP_CSTAT_PHASE 1).setF
      pgGRPL F.GRP_CSTAT_CAUSE 0
    let w : State := { u with grp.commit := some ⟨false, n, digest, epoch, 0, none, true⟩ }
    (good → exec (.prepareReceive k seq epoch digest n) s = .next (v.grpSend k 4 [1])) ∧
    (¬ good → u.grp.commit = none → exec (.prepareReceive k seq epoch digest n) s = .next (w.grpSend k 4 [0])) ∧
    (u.grp.commit ≠ none → exec (.prepareReceive k seq epoch digest n) s = .next (u.grpSend k 4 [0]))) ∧
  (∀ (s u : State) (k seq : Nat) (ok g : Bool) (c : Commit), s.grpTake k 4 seq = some (u, g) → u.grp.commit = some c →
    (c.mine = true → c.decide_ = none → ok = true →
      let n := setBit c.prepared k true
      exec (.preparedReceive k seq ok) s =
        .next (({ u with grp.commit := some { c with prepared := n } } : State).setF pgGRPL F.GRP_CSTAT_PREP n)) ∧
    (c.mine = false ∨ ok = false → exec (.preparedReceive k seq ok) s = .next u)) ∧
  (∀ (s u : State) (k seq : Nat) (commit g : Bool) (c : Commit), s.grpTake k 5 seq = some (u, g) → u.grp.commit = some c →
    (c.mine = false → c.decide_ = none →
      (commit = true → c.refused = true → exec (.decideReceive k seq commit) s = .next { u with grp.commit := none }) ∧
      (commit = true → c.refused = false → exec (.decideReceive k seq commit) s =
        .next (({ u with grp.commit := some { c with decide_ := some true } } : State).setF pgGRPL F.GRP_CSTAT_PHASE 2)) ∧
      (commit = false → exec (.decideReceive k seq commit) s = .next (u.commitEnd 3 1))) ∧
    (c.mine = true ∨ c.decide_.isSome = true → exec (.decideReceive k seq commit) s = .next u)) ∧
  (∀ (s : State) (c : Commit), s.grp.commit = some c → c.decide_ = none →
    let n := s.grpPnum
    let all := s.getF pgGRPL F.GRP_STAT_PRESENT
    (c.mine = true → c.p ≤ n + 1 →
      (all &&& c.prepared = all → exec .commitDeadline s =
        .next ((({ s with grp.commit := some { c with decide_ := some true } } : State).setF pgGRPL F.GRP_CSTAT_PHASE 2).grpSendAll 5 [1])) ∧
      (all &&& c.prepared ≠ all → exec .commitDeadline s = .next ((s.grpSendAll 5 [0]).commitEnd 3 1))) ∧
    (c.mine = false → c.p + 8 ≤ n → exec .commitDeadline s =
      .next (if c.refused then { s with grp.commit := none } else s.commitEnd 3 2))) ∧
  (∀ (s : State) (ofs : Int),
    let u := s.chooseMaster
    let m := u.getF pgGRPL F.GRP_TIME_MASTER
    let v := u.grpSend m 2 [u.count]
    let p := v.peer m
    let next := match SMap.get? p.seqs 2 with
      | some l => (l + 1) % 65536
      | none => 0
    u.grpOn = true → u.grpState = 2 →
    (u.isMaster = true → exec (.timeExchange ofs) s = .next ((List.range 8).foldl (fun (z : State) k =>
      if z.present k then z.grpSend k 2 [z.count, z.count] else z) u)) ∧
    (u.isMaster = false → exec (.timeExchange ofs) s =
      .next ((v.setPeer m { p with seqs := SMap.put p.seqs 2 next }).offsetTaken ofs))) ∧
  (∀ (s : State) (ofs : Int),
    let v := if s.getF pgTBAS F.TBAS_CTRL_SRC = 4 then s.timeMeasure ofs else s
    let w := v.setF pgGRPL F.GRP_TIME_OFFSET (wrap 16 (satS 16 ofs))
    (1600 < ofs ∨ ofs < -1600 →
      let x : State := { w with grp.small := 0 }
      let y := (x.owned x.ownId).foldl (fun (z : State) q => z.setFbit pgGRPL F.GRP_REL_RELEASE q true) x
      s.offsetTaken ofs = if w.flag pgGRPL F.GRP_TIME_DIVERGED then y
        else (y.setFlag pgGRPL F.GRP_TIME_DIVERGED true).pulse pgGRPL 4) ∧
    (-1600 ≤ ofs → ofs ≤ 1600 →
      let n := if -800 < ofs ∧ ofs < 800 then w.grp.small + 1 else 0
      let x : State := { w with grp.small := n }
      s.offsetTaken ofs = if w.flag pgGRPL F.GRP_TIME_DIVERGED = true ∧ 8 ≤ n then
        (x.setFlag pgGRPL F.GRP_TIME_DIVERGED false).pulse pgGRPL 4 else x)) ∧
  (∀ (s u : State) (k seq epoch : Nat) (digest : List Byte) (g : Bool), s.grpTake k 3 seq = some (u, g) →
    let v := u.setPeer k { u.peer k with epoch := epoch, digest := digest }
    (v.present k = false ∨ v.grpState ≠ 2 → exec (.groupConfigReceive k seq epoch digest) s = .next v) ∧
    (v.present k = true → v.grpState = 2 → epoch = v.epoch → digest ≠ v.agreedDigest →
      exec (.groupConfigReceive k seq epoch digest) s = .next { v.setHeld with grp.calm := 0, grp.calmBad := true }) ∧
    (∀ c, v.present k = true → v.grpState = 2 → epoch ≠ v.epoch → v.grp.commit = some c → c.mine = false → c.refused = false → c.decide_ = none →
      epoch = c.epoch → digest = c.digest → c.p ≤ v.grpPnum →
      exec (.groupConfigReceive k seq epoch digest) s = .next { v with grp.commit := some { c with decide_ := some true } }))

/-! ## Chapter 17: management ports, Derevo, debug and the test access port -/

/-- R456 to R463 and R465: frames at a management port, HELLO and PROVE, sealed datagrams, the time-outs of handshakes and
sessions, and the requests of an open session. Choices of the model that clauses rest on: log entries 46, 52 and 56. -/
def Obligations.DerevoSessions : Prop :=
  (∀ (s u : State) (port : Nat) (f : List Byte),
    let p := f.drop 14
    let ip := u.getF (u.addrPage port) F.MGMT_IP_V
    (s.flag (pgMGMT port) F.MGMT_CTRL_EN = false → exec (.mgmtFrameReceive port f) s = .next s) ∧
    (s.flag (pgMGMT port) F.MGMT_CTRL_EN = true → s.prpDup f = (u, true) → exec (.mgmtFrameReceive port f) s = .next u) ∧
    (s.flag (pgMGMT port) F.MGMT_CTRL_EN = true → s.prpDup f = (u, false) → 14 ≤ f.length →
      (beAt f 12 2 ≠ 0x8100 → beAt f 12 2 ≠ 0x88F7 → f.take 6 ≠ u.ownMac port → f.take 6 ≠ List.replicate 6 0xFF#8 →
        exec (.mgmtFrameReceive port f) s = .next (u.monDrop port)) ∧
      (beAt f 12 2 = 0x0800 → f.take 6 = u.ownMac port →
        exec (.mgmtFrameReceive port f) s = .next (u.ipReceive port (slice f 6 6) p)) ∧
      (beAt f 12 2 = 0x0806 → f.take 6 = List.replicate 6 0xFF#8 → 28 ≤ p.length → beAt p 0 8 = 0x0001080006040001 →
        beAt p 24 4 = ip → exec (.mgmtFrameReceive port f) s = .next (u.sendFrame port (slice f 6 6 ++ u.ownMac port ++ [0x08#8, 0x06#8] ++
          beBytes 0x0001080006040002 8 ++ u.ownMac port ++ beBytes ip 4 ++ slice p 8 10))))) ∧
  (∀ (s : State), s.flag (pgMGMT 0) F.MGMT_CTRL_PRP = true → s.mon.prpAt + 4000000000 ≤ s.tick →
    ∃ t, exec .prpSupervisionFrame s = .next t ∧ t.mon.prpAt = s.tick ∧ t.mon.prpSeq = (s.mon.prpSeq % 65536 + 1) % 65536 ∧
      SMap.has t.mon.frames 0 = true ∧ SMap.has t.mon.frames 1 = true) ∧
  (∀ (s : State) (port addr udp : Nat) (b : List Byte),
    let p := b.drop 16
    let id := s.mon.next
    let dn := Config.random 32 s.free
    let prv := Config.random 48 (s.free + 1)
    let ack := dn ++ Config.derivePublic prv
    let h1 := Config.sha384 (p ++ ack ++ beBytes id 4)
    let sig := Config.ecdsaSign s.fire.aliasKey h1
    let h : Hand := ⟨id, port, addr, udp, s.tick, beAt p 226 1 == 1, slice p 0 32, slice p 32 97, slice p 129 97, dn, prv,
      Config.sha384 (h1 ++ sig)⟩
    s.drvPort port = true → drvOk b 1 244 = true → beAt b 4 12 = 0 → beAt (slice p 32 97) 0 1 = 4 → beAt (slice p 129 97) 0 1 = 4 →
    beAt p 226 1 ≤ 1 → beAt p 227 1 = 0 →
    (s.flag pgDBG F.DBG_CTRL_EN = true → s.mon.sessions.length + s.mon.hands.length < 4 →
      let u : State := { s with free := s.free + 2, mon.hands := s.mon.hands ++ [h], mon.next := if id < 0xFFFFFFFE then id + 1 else 1 }
      exec (.sessionHello port addr udp b) s = .next (u.sendTo port addr udp (drvHeader 2 id 0 ++ ack ++ sig))) ∧
    (s.flag pgDBG F.DBG_CTRL_EN = false ∨ 4 ≤ s.mon.sessions.length + s.mon.hands.length →
      exec (.sessionHello port addr udp b) s =
        .next ((s.satF pgDBG F.DBG_CNT_REJECTED).sendTo port addr udp (drvHeader 0x7F 0 0 ++ beBytes 1 1)))) ∧
  (∀ (s : State) (port addr udp : Nat) (b : List Byte) (h : Hand),
    let u : State := { s with mon.hands := s.mon.hands.filter fun x => x.id != h.id }
    let why := if Config.ecdsaVerify h.cstat h.h2 (b.drop 16) then u.drvAuth h.cstat else 2
    let prk := Config.hmac384 (h.cnonce ++ h.dnonce) (Config.ecdh h.dprv h.ceph)
    let name := [0x64#8, 0x65#8, 0x72#8, 0x65#8, 0x76#8, 0x6F#8, 0x31#8, 0x20#8]
    let control := h.want && !s.mon.sessions.any fun x => x.control
    let x : Session := {
      id := h.id, port := port, addr := addr, udp := udp, control := control
      kIn := Config.hkdf384 prk (name ++ [0x63#8, 0x32#8, 0x64#8] ++ h.h2) 36
      kOut := Config.hkdf384 prk (name ++ [0x64#8, 0x32#8, 0x63#8] ++ h.h2) 36
      last := s.tick, cstat := h.cstat }
    s.drvPort port = true → drvOk b 3 112 = true → beAt b 8 8 = 0 →
    (s.mon.hands.find? fun y => y.id == beAt b 4 4 && y.port == port && y.addr == addr && y.udp == udp) = some h →
    (why ≠ 0 → exec (.sessionProve port addr udp b) s = .next (((u.satF pgDBG F.DBG_CNT_AUTHFAIL).pulse pgDBG 2).sendTo port addr udp
      (drvHeader 0x7F 0 0 ++ beBytes why 1))) ∧
    (why = 0 → exec (.sessionProve port addr udp b) s =
      .next ((({ u with mon.sessions := u.mon.sessions ++ [x] } : State).showSessions.pulse pgDBG 0).drvSend h.id
        (drvInner 0x80 0 0 ([BitVec.ofNat 8 control.toNat, 0] ++ beBytes 1344 2))))) ∧
  (∀ (s : State) (id : Nat), exec (.handshakeTimeout id) s =
    .next { s with mon.hands := s.mon.hands.filter fun h => !(h.id == id && decide (h.at_ + 2000000000 ≤ s.tick)) }) ∧
  (∀ (s : State) (port addr udp : Nat) (b : List Byte) (x : Session),
    let seq := beAt b 8 8
    let opened := Config.gcmOpen (x.kIn.take 32) (drvIv x.kIn seq) (b.take 16) (b.drop 16)
    s.drvPort port = true → drvOk b 0x10 b.length = true → 40 ≤ b.length →
    (s.mon.sessions.find? fun y => y.id == beAt b 4 4 && y.port == port && y.addr == addr && y.udp == udp) = some x →
    (opened = none → exec (.sealedReceive port addr udp b) s = .next (s.satF pgDBG F.DBG_CNT_BADTAG)) ∧
    (∀ m, opened = some m → seq ≤ x.seqIn → exec (.sealedReceive port addr udp b) s = .next (s.satF pgDBG F.DBG_CNT_REPLAY)) ∧
    (∀ m, opened = some m → x.seqIn < seq → seq ≠ 2 ^ 64 - 1 → 8 ≤ m.length → m.length ≤ 1352 → beAt m 1 1 = 0 →
      beAt m 4 2 = m.length - 8 → beAt m 6 2 = 0 → exec (.sealedReceive port addr udp b) s =
        .next ((s.setSession { x with seqIn := seq, last := s.tick }).drvRequest x.id (beAt m 0 1) (beAt m 2 2) (m.drop 8)))) ∧
  (∀ (s : State) (id : Nat) (x : Session), s.session id = some x → x.last + 20000000000 ≤ s.tick →
    exec (.sessionTimeout id) s = .next (s.sessionClose id)) ∧
  (∀ (s : State) (id : Nat) (x : Session), s.session id = some x →
    let u := s.sessionClose id
    u.session id = none ∧ (x.control = false ∨ s.flag pgDBG F.DBG_CTRL_REL_LOSS = false →
      u = ({ s with mon.sessions := s.mon.sessions.filter fun y => y.id != id } : State).showSessions.pulse pgDBG 1)) ∧
  (∀ (s : State) (id tag : Nat) (body : List Byte) (x : Session), s.session id = some x →
    ∀ e ∈ [(0x01, Instr.derevoPing id tag body), (0x02, .derevoClose id tag body), (0x03, .derevoStatus id tag body),
        (0x10, .derevoHalt id tag body), (0x11, .derevoResume id tag body), (0x12, .derevoStep id tag body),
        (0x20, .derevoRead id tag body), (0x21, .derevoWrite id tag body), (0x22, .derevoRegrd id tag body),
        (0x23, .derevoRegwr id tag body), (0x30, .derevoBpset id tag body), (0x31, .derevoSwbp id tag body)],
      (x.halt.isSome = true → exec e.2 s = .next (s.drvSend id (drvInner (e.1 + 0x80) tag 6 []))) ∧
      (x.halt = none → x.tag = some tag → exec e.2 s = .next (s.drvSend id x.resp)) ∧
      (x.halt = none → x.tag ≠ some tag → x.control = false → e.1 ∉ [1, 2, 3, 0x20, 0x22] →
        exec e.2 s = .next (s.drvAnswer id e.1 tag 7 []))) ∧
  (∀ (s : State) (id : Nat) (x : Session) (h : HaltReq), s.session id = some x → x.halt = some h → h.step = false →
    h.at_ + 2000000 ≤ s.tick →
    exec (.derevoHaltTimeout id) s = .next (s.drvAnswer x.id 0x10 h.tag 8 (unitsMask (h.units.filter s.unitHalted))))

/-- R461, R464 to R471, R474 and R476: what the operations of Derevo do in a session that may send them, CORE_DCTL, the debug
entry, page freezes, and the instructions of the TAP. Choices of the model that clauses rest on: log entries 53, 54 and 55. -/
def Obligations.DerevoDebugAndTap : Prop :=
  (∀ (s : State) (id tag : Nat) (b : List Byte) (x : Session), s.session id = some x → x.id = id → x.halt = none → x.tag ≠ some tag →
    let u := beAt b 0 1
    let us := maskUnits b
    let m := s.monAlter x
    let live := s.fire.otp.life ≠ 1
    (b = [] → exec (.derevoPing id tag b) s = .next (s.drvAnswer id 0x01 tag 0 (beBytes s.count 8))) ∧
    (b = [] → exec (.derevoClose id tag b) s = .next ((s.drvAnswer id 0x02 tag 0 []).sessionClose id)) ∧
    (b.length = 1 → u ≤ 80 → exec (.derevoStatus id tag b) s = .next (s.drvAnswer id 0x03 tag 0 (s.unitStat u))) ∧
    (b.length = 4 → u ≤ 80 → beAt b 1 1 = 0 → dbgListed (beAt b 2 2) = true → s.unitHalted u = true → exec (.derevoRegrd id tag b) s =
      .next (s.drvAnswer id 0x22 tag 0 (beBytes ((s.pair u).settleLongs.r.dbgRead u (beAt b 2 2)) 16))) ∧
    (∀ v d,
      let a := beAt b 4 8
      let n := beAt b 12 2
      b.length = 16 → 0 < n → n ≤ 1024 → beAt b 2 2 = 0 → beAt b 14 2 = 0 → a + n ≤ 2 ^ 48 → u = 1 → beAt b 1 1 < 80 →
      s.unitHalted (beAt b 1 1) = true → s.monRead u (beAt b 1 1) (pieces n a n) = (v, .inl d) →
      exec (.derevoRead id tag b) s = .next (v.drvAnswer id 0x20 tag 0 d)) ∧
    (x.control = true →
      (b.length = 12 → 80 ∉ us ∨ live →
        let v := us.foldl (fun (z : State) k => z.unitHalt k) s
        exec (.derevoHalt id tag b) s =
          .next (v.setSession { (v.session id).getD x with halt := some ⟨tag, us, v.tick, false⟩ }).haltsDone) ∧
      (b.length = 12 →
        let hs := us.filter s.unitHalted
        exec (.derevoResume id tag b) s =
          .next ((hs.foldl (fun (z : State) k => z.unitResume k) s).drvAnswer id 0x11 tag 0 (unitsMask hs))) ∧
      (b.length = 2 → u < 80 → beAt b 1 1 ≤ 1 → s.unitHalted u = true →
        exec (.derevoStep id tag b) s = .next (s.monStep x tag u (bit (beAt b 1 1) 0))) ∧
      (b.length = 2 → u < 80 → beAt b 1 1 ≤ 1 → s.unitHalted u = false →
        exec (.derevoStep id tag b) s = .next (s.drvAnswer id 0x12 tag 3 [])) ∧
      (∀ v,
        let a := beAt b 4 8
        let n := beAt b 12 2
        b.length = 16 + n → u = 0 → 0 < n → n ≤ 1024 → beAt b 2 2 = 0 → beAt b 14 2 = 0 → a + n ≤ 2 ^ 48 →
        State.inRegs a n = false ∨ (a % 4 = 0 ∧ n % 4 = 0) → live ∨ deniedRange a n = false → m.2 = true →
        m.1.monWrite 0 (beAt b 1 1) a (b.drop 16) (pieces n a n) = (v, none) →
        exec (.derevoWrite id tag b) s = .next (v.drvAnswer id 0x21 tag 0 [])) ∧
      (b.length = 20 → u < 80 → beAt b 1 1 = 0 → dbgListed (beAt b 2 2) = true → beAt b 2 2 ≠ 0x21 → beAt b 2 2 ≠ 0x142 →
        s.unitHalted u = true → m.2 = true →
        let q := (m.1.pair u).settleLongs
        exec (.derevoRegwr id tag b) s =
          .next ((m.1.setPair u { q with r := q.r.dbgWrite (beAt b 2 2) (beAt b 4 16) }).drvAnswer id 0x23 tag 0 [])) ∧
      (b.length = 24 → u < 80 → beAt b 1 1 ≤ 3 → beAt b 2 2 ≤ 15 → beAt b 4 2 ≤ 4095 → beAt b 6 2 = 0 → beAt b 8 8 < 2 ^ 48 →
        beAt b 20 4 = 0 → m.2 = true → exec (.derevoBpset id tag b) s =
          .next ((m.1.monBreak u (beAt b 1 1) (beAt b 2 2) (beAt b 4 2) (beAt b 8 8) (beAt b 16 4)).drvAnswer id 0x30 tag 0 [])) ∧
      (b.length = 2 → u < 80 → beAt b 1 1 ≤ 1 → m.2 = true →
        exec (.derevoSwbp id tag b) s = .next ((m.1.monDctl u 0x10 (16 * beAt b 1 1)).drvAnswer id 0x31 tag 0 [])))) ∧
  (∀ (s : State) (req q v : Nat),
    let p := pageCORE q
    let b := pgCORE q
    let old := s.wordAt (b + 0x80)
    let u := (s.put p (s.wrOf p req v) 0x80).1
    s.Writes p 0x80 req v → (s.put p (s.wrOf p req v) 0x80).2 = 0 →
    (v = old - (old &&& 1) + 1 → bits v 0 3 = 1 → s.halted q = false → s.pairStopped q = false →
      exec (.haltRequest req q) s = .next ((u.setFlag b F.CORE_DCTL_HALT_REQ true).wrote p 0x80 req v)) ∧
    (v = old - (old &&& 2) + 2 → bits v 0 3 = 2 → u.halted q = true →
      let x := u.pair q
      let r : Regs := { x.r with pc := x.r.sys48 0x40, psw := pswFix (x.r.sysr 0x42) }
      exec (.debugResume req q) s = .next (((((u.setPair q { x with r := r, stepping := false }).setFlag b F.CORE_STAT_HALTED
        false).holdLeases (reqPair q) false).wdRelease (q / 2)).wrote p 0x80 req v)) ∧
    (v = old - (old &&& 4) + 4 → bits v 0 3 = 4 → u.halted q = true → (u.pair q).stepping = false →
      let x := u.pair q
      let r : Regs := { x.r with pc := x.r.sys48 0x40, psw := pswFix (x.r.sysr 0x42) }
      exec (.debugStep req q) s = .next ((u.setPair q { x with stepping := true, r := r }).wrote p 0x80 req v))) ∧
  (∀ (s : State) (p : Nat), s.pairAlive p = true → s.halted p = false → s.atBoundary p = true → (s.pair p).replay = [] →
    (∀ a k w, (s.pair p).dbgDue = some (a, k, w) → exec (.debugEntry p) s = .next (s.debugEntry p 3 (some a) k w).haltsDone) ∧
    ((s.pair p).dbgDue = none → s.flag (pgCORE p) F.CORE_DCTL_HALT_REQ = true →
      exec (.debugEntry p) s = .next (s.debugEntry p 1 none 0 false).haltsDone)) ∧
  (∀ (s : State) (p : Nat), p < 80 →
    let x := (s.pair p).drain
    let u := s.debugEntry p 1 none 0 false
    let r := (u.pair p).r
    r.pc = 0x090 ∧ r.mode = 2 ∧ r.sys48 0x40 = x.r.pc % 2 ^ 48 ∧ r.sysr 0x42 = x.r.psw % 2 ^ 32 ∧ u.halted p = true ∧ r.g = x.r.g) ∧
  (∀ (s : State) (base : Nat) (p : Page), pageAt base = some p →
    let mode := s.getF p.base (F.hdrFrzMode p.ty)
    let t := s.timersSync p.owner
    let u : State := { s with bus.frozen := SMap.put s.bus.frozen p.base mode }
    let v : State := { t with bus.frozen := SMap.put t.bus.frozen p.base mode }
    let w : State := { s with bus.frozen := SMap.erase s.bus.frozen p.base }
    (p.ty.freezable = true → s.flag p.base (F.hdrFrzEn p.ty) = true → s.ownerHalted p = true → SMap.has s.bus.frozen p.base = false →
      (p.ty ≠ .timr → mode ≠ 2 ∨ (p.ty ≠ .pwmg ∧ p.ty ≠ .pkeep) → exec (.freezeBegin base) s = .next u) ∧
      (p.ty = .timr → exec (.freezeBegin base) s = .next (if mode = 0 then u else v)) ∧
      (p.ty = .pwmg → mode = 2 → exec (.freezeBegin base) s = .next (((List.range 16).foldl (fun (z : State) i =>
        let g := 16 * p.inst + i
        if 2 ≤ z.genState p.owner g ∧ z.genState p.owner g ≤ 4 then z.genDisarm p.owner g else z) u).fcstAbort (p.owner / 10))) ∧
      (p.ty = .pkeep → mode = 2 → exec (.freezeBegin base) s = .next ((List.range 16).foldl (fun (z : State) i =>
        z.pinDust (64 * p.owner + 16 * p.inst + i)) u))) ∧
    (SMap.has s.bus.frozen p.base = true → s.ownerHalted p = false →
      (p.ty ≠ .timr ∨ SMap.getD s.bus.frozen p.base 0 = 0 → exec (.freezeEnd base) s = .next w) ∧
      (p.ty = .timr → SMap.getD s.bus.frozen p.base 0 ≠ 0 → exec (.freezeEnd base) s = .next ((List.range 16).foldl
        (fun (z : State) n => z.setTimer p.owner n { z.timer p.owner n with at_ := z.tick }) w)))) ∧
  (∀ (s : State) (pads preload : Nat),
    let ir := fun (u : State) (code : Nat) => ({ u with tap.ir := code, tap.driving := 0 } : State)
    exec .tapBypass s = .next (ir s 0xFF) ∧ exec .tapIdcode s = .next (ir s 1) ∧ exec .tapReset s = .next (ir s 1) ∧
    exec (.tapSamplePreload pads preload) s = .next { ir s 2 with tap.sample := pads, tap.boundary := preload } ∧
    (s.pwr.resetN = true → exec (.tapExtest preload) s = .next (ir s 3) ∧ exec .tapClamp s = .next (ir s 4) ∧
      exec .tapHighz s = .next (ir s 5)) ∧
    (s.pwr.resetN = false →
      exec (.tapExtest preload) s = .next { s with tap.ir := 3, tap.boundary := preload, tap.driving := 1 } ∧
      exec .tapClamp s = .next { s with tap.ir := 4, tap.driving := 1 } ∧ exec .tapHighz s = .next { s with tap.ir := 5, tap.driving := 2 }))

/-! ## The whole block -/

/-- Step takes the command at the front of the queue and answers what exec makes of it with the queue's rest. An empty queue lets
one tick pass (R6), in which nothing but the time-driven effects of State.idle happens: the model's choice, log entry 1. -/
def Obligations.StepTakesTheFrontCommand : Prop :=
  (∀ (s : State) (c : Instr) (q : List Instr), s.pending = c :: q → step s = exec c { s with pending := q }) ∧
  (∀ s : State, s.pending = [] → ∃ t, step s = .next t ∧ t.tick = s.tick + 1 ∧ t.pending = [])

/-- Every command of the table completes from every state: none faults and none is refused, and none touches the queue or the tick
count, which only a step on an empty queue advances. -/
def Obligations.CommandsGoOn : Prop :=
  ∀ (i : Instr) (s : State), ∃ t, exec i s = .next t ∧ t.pending = s.pending ∧ t.tick = s.tick ∧ s.free ≤ t.free

/-- Every step keeps the canonical form of memory and of the register map. -/
def Obligations.CanonKept : Prop :=
  ∀ s t : State, s.Canon → step s = .next t → t.Canon

/-- R16, R22, R54, R389 and R403: the block after a power-on reset with RESET_N still low. Every field of a register holds its
reset value, but for the role tables, which hold the placement of R22. Memory reads zero (R495). Choices of the model that clauses
rest on: log entries 4, 5 and 6. -/
def Obligations.ResetState : Prop :=
  State.reset.Canon ∧ State.reset.pending = [] ∧ State.reset.tick = 0 ∧ State.reset.count = 0 ∧
  (∀ d < 128, State.reset.domOn d = false) ∧
  (∀ a, Memory.read State.reset.mem a = 0) ∧
  (∀ lt < 32, State.reset.phys lt = 10 * (lt / 8) + lt % 8) ∧
  (∀ t < 40, State.reset.role t = if t % 10 < 8 then 0 else 1) ∧
  (∀ p < 80, (State.reset.pair p).r.psw = 0x201 ∧ (State.reset.pair p).r.pc = 0 ∧ (State.reset.pair p).sb = [] ∧
    (State.reset.pair p).unb = none) ∧
  (∀ (b : Nat) (f : Fld), b % 0x1000 = 0 → f.off < 0x1000 → f.lo < 64 → b ≠ pgDROLE →
    State.reset.getF b f = f.reset % 2 ^ f.w)

/-- R11, R268, R269, R277 and R314: bytes written to memory read back, lowest address first, and no other byte changes. A load of
a pair with translation off gives what its memory holds, or what the youngest of its buffered stores that overlaps it holds, where
that contains the load; a store goes to the end of the store buffer and leaves memory; the oldest buffered store goes to memory.
Choices of the model that clauses rest on: log entries 28 and 35. -/
def Obligations.MemoryAccesses : Prop :=
  (∀ (s : State) (a : Nat) (bs : List Byte), s.mm.ue = [] →
    let t := s.writeMem a bs
    t.readMem a bs.length = (ofBytes bs, false, t) ∧
    (∀ c, c < a ∨ a + bs.length ≤ c → Memory.read t.mem c = Memory.read s.mem c) ∧
    (∀ k, SMap.get? t.regs k = SMap.get? s.regs k) ∧ (∀ p, t.pair p = s.pair p)) ∧
  (∀ (s : State) (c : Ctx) (va size v : Nat),
    let x := s.pair c.p
    let pa := 0x10000000 + 0x100000 * c.p + va
    c.p < 80 → bit (x.r.sysr 0x20) 0 = false → va + size ≤ 0x100000 → 0 < size → va % 16 + size ≤ 16 → x.replay = [] →
    (sbLook x.sb pa size = some none → s.memOn pa = true → s.ueIn pa size = false →
      ∃ u, s.rawLoad c va size = (u, .ok (s.memRead pa size)) ∧ u.mem = s.mem ∧ (u.pair c.p).r = x.r) ∧
    (∀ e, sbLook x.sb pa size = some (some e) →
      ∃ u, s.rawLoad c va size = (u, .ok e) ∧ u.mem = s.mem ∧ (u.pair c.p).r = x.r) ∧
    (sbLook x.sb pa size = none → ∃ u, s.rawLoad c va size = (u, .wait) ∧ u.mem = s.mem ∧ u.pair c.p = x) ∧
    (x.sb.length < 8 → ∃ u, s.rawStore c va size v = (u, .ok 0) ∧ u.mem = s.mem ∧ (u.pair c.p).r = x.r ∧
      (u.pair c.p).sb = x.sb ++ [⟨pa, size, v % 2 ^ (8 * size)⟩])) ∧
  (∀ (s : State) (p : Nat) (e : SbE) (rest : List SbE),
    (s.pair p).sb = e :: rest → s.memOn e.addr = true → imageStore e.addr = false →
    e.addr < 0x15000000 → s.role ((e.addr - 0x10000000) / 0x200000) = 0 →
    s.drainOne p = (s.setPair p { s.pair p with sb := rest }).writeMem e.addr (toBytes e.data e.size))

/-- The frame of an instruction that changes nothing but registers of its pair (the ends named done and jumps in the statements of
the instruction tables): every byte of memory, every other pair, every register outside the pages of its pair and of its tile's
MMU, and every other part of the block are as before. Of the pair's registers the PC, and LC0 at a loop end, change at once; the
rest change by the writes given, each at its distance, and such a write changes its target alone (R258, R265, R305). -/
def Obligations.InstructionFrame : Prop :=
  (∀ (s : State) (w : WOp) (o : IOp) (ws : List (Nat × Nat × Nat)) (a : Nat), s.Issues w o →
    ∀ t ∈ [s.done w o ws, s.jumps w o (s.atIssue w o) ws a],
      let r := s.reads w o
      let r' := (t.pair w.pair).r
      t.mem = s.mem ∧ (∀ p, p ≠ w.pair → t.pair p = s.pair p) ∧
      (∀ k, k / 0x40000 ≠ pgCORE w.pair / 0x1000 → k / 0x40000 ≠ pgMMU (w.pair / 2) / 0x1000 →
        SMap.get? t.regs k = SMap.get? s.regs k) ∧
      r' = { r with pc := r'.pc, lc0 := r'.lc0, lc0e := r'.lc0e } ∧
      (t.pair w.pair).pw = addWrites (s.ctxOf w o).d ws ((s.atIssue w o).pair w.pair).pw ∧
      (t.pair w.pair).sb = (s.pair w.pair).sb ∧
      ((t.pair w.pair).longs.map fun e => { e with inCk := false }) = ((s.pair w.pair).longs.map fun e => { e with inCk := false }) ∧
      t.bus = s.bus ∧ t.time = s.time ∧ t.lath = s.lath ∧ t.loop = s.loop ∧ t.edge = s.edge ∧ t.link = s.link ∧
      t.samp = s.samp ∧ t.pwr = s.pwr ∧ t.fcst = s.fcst ∧ t.klog = s.klog ∧ t.mm = s.mm ∧ t.dep = s.dep ∧ t.fire = s.fire ∧
      t.grp = s.grp ∧ t.mon = s.mon ∧ t.tap = s.tap ∧ t.pending = s.pending ∧ t.tick = s.tick) ∧
  (∀ (r : Regs) (k v : Nat), k < 30 →
    let z := r.write k v
    (∀ j < 16, j ≠ k → z.gr j = r.gr j) ∧ (∀ j < 4, 16 + j ≠ k → z.ar j = r.ar j) ∧
    (∀ j < 4, 20 + j ≠ k → z.am.getD j 0 = r.am.getD j 0) ∧
    (∀ j, j < 16 ∨ 20 < j → bit z.psw j = bit r.psw j) ∧
    (k ≠ 24 → bits z.psw 16 4 = bits r.psw 16 4) ∧ (k ≠ 25 → k ≠ 26 → bit z.psw 20 = bit r.psw 20) ∧
    (k ≠ 27 → z.lc0 = r.lc0) ∧ (k ≠ 28 → z.lc0e = r.lc0e) ∧ (k ≠ 29 → z.lc1 = r.lc1) ∧
    z.l = r.l ∧ z.pc = r.pc ∧ z.ls = r.ls ∧ z.le = r.le ∧ z.prog = r.prog ∧ z.sys = r.sys)
end

