-- ==== Sys2Proof/Laws/Map.lean ====
section
/-! SUPPORT. Laws/Map.lean: maps and memory: reading after writing, and the canonical form that every operation keeps. -/

namespace Sys2Proof.Machine

/-! ### The form of maps -/

theorem SMap.wf_iff {α : Type} (m : SMap α) : SMap.wf m = true ↔ m.Pairwise fun a b => a.1 < b.1 := by
  induction m with
  | nil => simp [SMap.wf]
  | cons x m ih =>
    cases m with
    | nil => simp [SMap.wf]
    | cons y m =>
      simp only [SMap.wf, Bool.and_eq_true, decide_eq_true_eq, ih]
      constructor
      · rintro ⟨h, k⟩
        refine List.Pairwise.cons ?_ k
        intro z hz
        rcases List.mem_cons.mp hz with rfl | hz
        · exact h
        · exact Nat.lt_trans h ((List.pairwise_cons.mp k).1 z hz)
      · intro h
        exact ⟨(List.pairwise_cons.mp h).1 y (by simp), (List.pairwise_cons.mp h).2⟩

theorem SMap.wf_filter {α : Type} {m : SMap α} (h : SMap.wf m = true) (p : Nat × α → Bool) : SMap.wf (m.filter p) = true := by
  rw [SMap.wf_iff] at *
  exact h.filter p

theorem SMap.mem_put {α : Type} {m : SMap α} {a : Nat} {v : α} {x : Nat × α} (h : x ∈ SMap.put m a v) : x = (a, v) ∨ x ∈ m := by
  induction m with
  | nil => simpa [SMap.put] using h
  | cons y m ih =>
    unfold SMap.put at h
    split at h
    · simpa using h
    · split at h
      · rcases List.mem_cons.mp h with h | h
        · exact .inl h
        · exact .inr (List.mem_cons_of_mem _ h)
      · rcases List.mem_cons.mp h with h | h
        · exact .inr (by simp [h])
        · rcases ih h with h | h
          · exact .inl h
          · exact .inr (List.mem_cons_of_mem _ h)

theorem SMap.wf_put {α : Type} {m : SMap α} (h : SMap.wf m = true) (a : Nat) (v : α) : SMap.wf (SMap.put m a v) = true := by
  rw [SMap.wf_iff] at *
  induction m with
  | nil => simp [SMap.put]
  | cons y m ih =>
    obtain ⟨hy, hm⟩ := List.pairwise_cons.mp h
    unfold SMap.put
    split
    · rename_i hlt
      refine List.Pairwise.cons ?_ h
      intro z hz
      rcases List.mem_cons.mp hz with rfl | hz
      · exact hlt
      · exact Nat.lt_trans hlt (hy z hz)
    · split
      · rename_i heq
        refine List.Pairwise.cons ?_ hm
        intro z hz
        have := hy z hz
        simp only at *
        omega
      · refine List.Pairwise.cons ?_ (ih hm)
        intro z hz
        rcases SMap.mem_put hz with rfl | hz
        · simp only at *
          omega
        · exact hy z hz

theorem SMap.erase_eq {α : Type} (m : SMap α) (a : Nat) : SMap.erase m a = m.filter fun x => x.1 != a := by
  induction m with
  | nil => rfl
  | cons y m ih =>
    unfold SMap.erase
    split
    · rename_i h
      rw [List.filter_cons_of_neg (by simp [h]), ih]
    · rename_i h
      rw [List.filter_cons_of_pos (by simpa using h), ih]

theorem SMap.wf_erase {α : Type} {m : SMap α} (h : SMap.wf m = true) (a : Nat) : SMap.wf (SMap.erase m a) = true := by
  rw [SMap.erase_eq]
  exact SMap.wf_filter h _

theorem SMap.wf_foldl_put {α β : Type} (k : β → Nat) (v : β → α) :
    ∀ (l : List β) {m : SMap α}, SMap.wf m = true → SMap.wf (l.foldl (fun m x => SMap.put m (k x) (v x)) m) = true
  | [], _, h => h
  | _ :: l, _, h => SMap.wf_foldl_put k v l (SMap.wf_put h _ _)

theorem SMap.wf_copyBlock {α : Type} {m : SMap α} (h : SMap.wf m = true) (w a b : Nat) : SMap.wf (SMap.copyBlock m w a b) = true :=
  SMap.wf_foldl_put _ _ _ (SMap.wf_filter h _)

/-! ### Reading after writing -/

@[simp] theorem SMap.get?_put_same {α : Type} (m : SMap α) (a : Nat) (v : α) : SMap.get? (SMap.put m a v) a = some v := by
  induction m with
  | nil => simp [SMap.put, SMap.get?]
  | cons y m ih =>
    unfold SMap.put
    split
    · simp [SMap.get?]
    · split
      · simp [SMap.get?]
      · rename_i h1 h2
        simp [SMap.get?, h2, ih]

@[simp] theorem SMap.get?_put_other {α : Type} (m : SMap α) {a b : Nat} (v : α) (h : b ≠ a) :
    SMap.get? (SMap.put m a v) b = SMap.get? m b := by
  induction m with
  | nil => simp [SMap.put, SMap.get?, Ne.symm h]
  | cons y m ih =>
    unfold SMap.put
    split
    · simp [SMap.get?, Ne.symm h]
    · split
      · rename_i h2
        simp [SMap.get?, Ne.symm h, h2]
      · simp [SMap.get?, ih]

@[simp] theorem SMap.get?_erase_same {α : Type} (m : SMap α) (a : Nat) : SMap.get? (SMap.erase m a) a = none := by
  induction m with
  | nil => rfl
  | cons y m ih =>
    unfold SMap.erase
    split
    · exact ih
    · rename_i h
      simp [SMap.get?, h, ih]

@[simp] theorem SMap.get?_erase_other {α : Type} (m : SMap α) {a b : Nat} (h : b ≠ a) :
    SMap.get? (SMap.erase m a) b = SMap.get? m b := by
  induction m with
  | nil => rfl
  | cons y m ih =>
    unfold SMap.erase
    split
    · rename_i h2
      simp [SMap.get?, h2, Ne.symm h, ih]
    · simp [SMap.get?, ih]

@[simp] theorem SMap.getD_put_same {α : Type} (m : SMap α) (a : Nat) (v d : α) : SMap.getD (SMap.put m a v) a d = v := by
  simp [SMap.getD]

@[simp] theorem SMap.getD_put_other {α : Type} (m : SMap α) {a b : Nat} (v d : α) (h : b ≠ a) :
    SMap.getD (SMap.put m a v) b d = SMap.getD m b d := by
  simp [SMap.getD, h]

/-! ### Memory -/

theorem Memory.wf_filter {m : Memory} (h : Memory.wf m = true) (p : Host.Cell → Bool) : Memory.wf (m.filter p) = true := by
  simp only [Memory.wf, Memory.noZero, Bool.and_eq_true] at *
  refine ⟨SMap.wf_filter h.1 p, ?_⟩
  have h2 := h.2
  rw [List.all_eq_true] at *
  exact fun x hx => h2 x (List.mem_of_mem_filter hx)

theorem Memory.wf_write {m : Memory} (h : Memory.wf m = true) (a : Nat) (b : Byte) : Memory.wf (Memory.write m a b) = true := by
  unfold Memory.write
  split
  · rw [SMap.erase_eq]
    exact Memory.wf_filter h _
  · rename_i hb
    simp only [Memory.wf, Memory.noZero, Bool.and_eq_true] at *
    refine ⟨SMap.wf_put h.1 _ _, ?_⟩
    have h2 := h.2
    rw [List.all_eq_true] at *
    intro x hx
    rcases SMap.mem_put hx with rfl | hx
    · simpa using hb
    · exact h2 x hx

theorem Memory.wf_writeN : ∀ (bs : List Byte) {m : Memory} (_ : Memory.wf m = true) (a : Nat), Memory.wf (Memory.writeN m a bs) = true
  | [], _, h, _ => h
  | b :: bs, _, h, a => Memory.wf_writeN bs (Memory.wf_write h a b) (a + 1)

theorem Memory.wf_writeLE {m : Memory} (h : Memory.wf m = true) (a n x : Nat) : Memory.wf (Memory.writeLE m a n x) = true :=
  Memory.wf_writeN _ h a

@[simp] theorem Memory.read_write_same (m : Memory) (a : Nat) (b : Byte) : Memory.read (Memory.write m a b) a = b := by
  unfold Memory.read Memory.write
  split
  · rename_i h
    simp [SMap.getD, h]
  · simp

@[simp] theorem Memory.read_write_other (m : Memory) {a c : Nat} (b : Byte) (h : c ≠ a) :
    Memory.read (Memory.write m a b) c = Memory.read m c := by
  unfold Memory.read Memory.write
  split <;> simp [SMap.getD, h]

/-- A write of `n` bytes leaves every other byte. -/
theorem Memory.read_writeN_other : ∀ (bs : List Byte) (m : Memory) (a : Nat) {c : Nat}, c < a ∨ a + bs.length ≤ c →
    Memory.read (Memory.writeN m a bs) c = Memory.read m c
  | [], _, _, _, _ => rfl
  | b :: bs, m, a, c, h => by
    simp only [List.length_cons] at h
    unfold Memory.writeN
    rw [Memory.read_writeN_other bs _ _ (by omega), Memory.read_write_other _ _ (by omega)]

/-- Reading back the bytes written. -/
theorem Memory.readN_writeN : ∀ (bs : List Byte) (m : Memory) (a : Nat), Memory.readN (Memory.writeN m a bs) a bs.length = bs
  | [], _, _ => rfl
  | b :: bs, m, a => by
    simp only [List.length_cons, Memory.readN, Memory.writeN]
    rw [Memory.read_writeN_other _ _ _ (by omega), Memory.read_write_same, Memory.readN_writeN]

end Sys2Proof.Machine
end

