-- ==== Sys2Proof/Laws/Core.lean ====
section
/-! SUPPORT. Laws/Core.lean: a pair read after it is written, and what an instruction that issues comes to. -/

namespace Sys2Proof.Machine

theorem SMap.put_put {α : Type} (m : SMap α) (a : Nat) (v w : α) : SMap.put (SMap.put m a v) a w = SMap.put m a w := by
  induction m with
  | nil => simp [SMap.put]
  | cons x m ih =>
    obtain ⟨k, y⟩ := x
    simp only [SMap.put]
    split
    · simp [SMap.put]
    · split
      · rename_i h₁ h₂
        subst h₂
        simp [SMap.put]
      · rename_i h₁ h₂
        simp [SMap.put, h₁, h₂, ih]

@[simp] theorem State.pair_setPair (s : State) (p : Nat) (x : PairSt) : (s.setPair p x).pair p = x := by
  simp [State.pair, State.setPair]

@[simp] theorem State.pair_setPair_other (s : State) {p q : Nat} (x : PairSt) (h : q ≠ p) : (s.setPair p x).pair q = s.pair q := by
  simp [State.pair, State.setPair, h]

@[simp] theorem State.setPair_setPair (s : State) (p : Nat) (x y : PairSt) : (s.setPair p x).setPair p y = s.setPair p y := by
  simp [State.setPair, SMap.put_put]

@[simp] theorem State.pair_setF (s : State) (b : Nat) (f : Fld) (v p : Nat) : (s.setF b f v).pair p = s.pair p := rfl

/-- An instruction that issues and does not leave its place. -/
theorem State.issue_next {s : State} {w : WOp} {o : IOp} {run : State → Ctx → State × Flow} {u : State} (h : s.Issues w o)
    (hr : run (s.atIssue w o) (s.ctxOf w o) = (u, .next)) (hs : (u.pair w.pair).stepping = false)
    (hd : (u.pair w.pair).dbgDue = none) : s.issue w o run = s.ends w o u [] := by
  obtain ⟨⟨h1, h2, h0, h3, h4, -, -⟩, h5, h6⟩ := h
  have hf : s.fetched w o = (s.atIssue w o, none) := by rw [State.atIssue, ← h4]
  simp [State.issue, h0, h1, h2, h3, hf, h5, h6, hr, State.finishPc, State.ends, State.dbgAfter, State.advance, hd, State.stepped, hs,
    addWrites]

/-- An instruction that issues and jumps. -/
theorem State.issue_jump {s : State} {w : WOp} {o : IOp} {run : State → Ctx → State × Flow} {u : State} {a : Nat}
    (h : s.Issues w o) (hr : run (s.atIssue w o) (s.ctxOf w o) = (u, .jump a)) (hs : (u.pair w.pair).stepping = false)
    (hd : (u.pair w.pair).dbgDue = none) : s.issue w o run = s.jumps w o u [] a := by
  obtain ⟨⟨h1, h2, h0, h3, h4, -, -⟩, h5, h6⟩ := h
  have hf : s.fetched w o = (s.atIssue w o, none) := by rw [State.atIssue, ← h4]
  simp [State.issue, h0, h1, h2, h3, hf, h5, h6, hr, State.finishPc, State.jumps, State.dbgAfter, State.advance, hd, State.stepped, hs,
    addWrites]

/-- An instruction that issues and enters a vector. -/
theorem State.issue_entered {s : State} {w : WOp} {o : IOp} {run : State → Ctx → State × Flow} {u : State}
    (h : s.Issues w o) (hr : run (s.atIssue w o) (s.ctxOf w o) = (u, .entered)) : s.issue w o run = u.dbgAfter w.pair := by
  obtain ⟨⟨h1, h2, h0, h3, h4, -, -⟩, h5, h6⟩ := h
  have hf : s.fetched w o = (s.atIssue w o, none) := by rw [State.atIssue, ← h4]
  simp [State.issue, h0, h1, h2, h3, hf, h5, h6, hr]

/-- An instruction that issues and waits for the response to its access. -/
theorem State.issue_waits {s : State} {w : WOp} {o : IOp} {run : State → Ctx → State × Flow} {u : State}
    (h : s.Issues w o) (hr : run (s.atIssue w o) (s.ctxOf w o) = (u, .waits)) :
    s.issue w o run = u.setPair w.pair { u.pair w.pair with grp := grpAfter o (s.ctxOf w o) ((s.toIssue w o).pair w.pair).r.le } := by
  obtain ⟨⟨h1, h2, h0, h3, h4, -, -⟩, h5, h6⟩ := h
  have hf : s.fetched w o = (s.atIssue w o, none) := by rw [State.atIssue, ← h4]
  simp [State.issue, h0, h1, h2, h3, hf, h5, h6, hr]

@[simp] theorem State.ctxOf_p (s : State) (w : WOp) (o : IOp) : (s.ctxOf w o).p = w.pair := rfl

theorem State.wr_eq (s : State) (c : Ctx) (lam t v : Nat) :
    s.wr c lam t v = s.setPair c.p { s.pair c.p with pw := pwInsert ⟨c.d + lam, t, v⟩ (s.pair c.p).pw } := rfl

/-- What a write at a distance leaves of its pair. -/
@[simp] theorem State.wr_pair (s : State) (c : Ctx) (lam t v : Nat) :
    (s.wr c lam t v).pair c.p = { s.pair c.p with pw := pwInsert ⟨c.d + lam, t, v⟩ (s.pair c.p).pw } := by
  simp [State.wr]

/-- The end after writes at a distance. -/
theorem State.ends_wr (s : State) (w : WOp) (o : IOp) (u : State) (lam t v : Nat) (ws : List (Nat × Nat × Nat)) :
    s.ends w o (u.wr (s.ctxOf w o) lam t v) ws = s.ends w o u ((lam, t, v) :: ws) := by
  simp [State.ends, State.wr_eq, addWrites]

theorem State.jumps_wr (s : State) (w : WOp) (o : IOp) (u : State) (lam t v : Nat) (ws : List (Nat × Nat × Nat)) (a : Nat) :
    s.jumps w o (u.wr (s.ctxOf w o) lam t v) ws a = s.jumps w o u ((lam, t, v) :: ws) a := by
  simp [State.jumps, State.wr_eq, addWrites]

/-- `u` has not touched the pair's step and watch. -/
structure State.Quiet (u : State) (p : Nat) : Prop where
  steps : (u.pair p).stepping = false
  watch : (u.pair p).dbgDue = none

theorem State.Issues.quiet {s : State} {w : WOp} {o : IOp} (h : s.Issues w o) : (s.atIssue w o).Quiet (s.ctxOf w o).p :=
  ⟨h.steps, h.watch⟩

theorem State.Quiet.wr {u : State} {c : Ctx} (h : u.Quiet c.p) (lam t v : Nat) : (u.wr c lam t v).Quiet c.p := by
  constructor <;> simp [h.steps, h.watch]

theorem State.Quiet.wrA {u : State} {c : Ctx} (h : u.Quiet c.p) (k v : Nat) : (u.wrA c k v).Quiet c.p := (h.wr _ _ _).wr _ _ _

theorem State.Quiet.orSat {u : State} {c : Ctx} (h : u.Quiet c.p) (lam : Nat) (b : Bool) : (u.orSat c lam b).Quiet c.p := by
  unfold State.orSat
  split
  · exact h.wr _ _ _
  · exact h

theorem State.Quiet.wrAlu {u : State} {c : Ctx} (h : u.Quiet c.p) (acc : Bool) (lam d : Nat) (a : Alu) :
    (u.wrAlu c acc lam d a).Quiet c.p := by
  unfold State.wrAlu
  apply State.Quiet.orSat
  cases acc <;> simp only [Bool.false_eq_true, if_false, if_true] <;> split
  · exact (h.wr _ _ _).wr _ _ _
  · exact h.wr _ _ _
  · exact (h.wrA _ _).wr _ _ _
  · exact h.wrA _ _

theorem State.Quiet.wrFlags {u : State} {c : Ctx} (h : u.Quiet c.p) (lam : Nat) (a : Alu) : (u.wrFlags c lam a).Quiet c.p := by
  unfold State.wrFlags
  split
  · exact h.wr _ _ _
  · exact h

theorem State.ends_wrA (s : State) (w : WOp) (o : IOp) (u : State) (k v : Nat) (ws : List (Nat × Nat × Nat)) :
    s.ends w o (u.wrA (s.ctxOf w o) k v) ws = s.ends w o u (accWrites k v ++ ws) := by
  simp [State.wrA, State.ends_wr, accWrites]

theorem State.ends_orSat (s : State) (w : WOp) (o : IOp) (u : State) (lam : Nat) (b : Bool) (ws : List (Nat × Nat × Nat)) :
    s.ends w o (u.orSat (s.ctxOf w o) lam b) ws = s.ends w o u ((if b then [(lam, 25, 1)] else []) ++ ws) := by
  cases b <;> simp [State.orSat, State.ends_wr]

theorem State.ends_wrAlu (s : State) (w : WOp) (o : IOp) (u : State) (acc : Bool) (lam d : Nat) (a : Alu) :
    s.ends w o (u.wrAlu (s.ctxOf w o) acc lam d a) [] = s.ends w o u (resultWrites acc lam d a) := by
  obtain ⟨v, f, b⟩ := a
  cases acc <;> cases f <;> simp [State.wrAlu, State.ends_orSat, State.ends_wr, State.ends_wrA, resultWrites, accWrites]

theorem State.ends_wrFlags (s : State) (w : WOp) (o : IOp) (u : State) (lam : Nat) (a : Alu) :
    s.ends w o (u.wrFlags (s.ctxOf w o) lam a) [] = s.ends w o u (flagWrites lam a) := by
  obtain ⟨v, f, b⟩ := a
  cases f <;> simp [State.wrFlags, State.ends_wr, flagWrites]

/-- An instruction of form XY that issues. -/
theorem State.aluXY_done {s : State} {w : WOp} {x y : Nat} {acc : List Nat} {mayL flags isCount : Bool} {lam : Nat}
    {f : Regs → Nat → Nat → Alu} (h : s.Issues w (opXY w x y acc mayL true flags isCount))
    (hw : (s.atIssue w (opXY w x y acc mayL true flags isCount)).waitB (s.ctxOf w (opXY w x y acc mayL true flags isCount)) y = false) :
    s.aluXY w x y acc mayL true flags isCount lam f = s.done w (opXY w x y acc mayL true flags isCount)
      (resultWrites (hasPfx w pACC) lam (fD x)
        (f (s.reads w (opXY w x y acc mayL true flags isCount)) (opndA w (s.reads w (opXY w x y acc mayL true flags isCount)) x)
          (opndB w (s.reads w (opXY w x y acc mayL true flags isCount)) y isCount))) := by
  unfold State.aluXY
  have q := h.quiet.wrAlu (hasPfx w pACC) lam (fD x)
    (f (s.reads w (opXY w x y acc mayL true flags isCount)) (opndA w (s.reads w (opXY w x y acc mayL true flags isCount)) x)
      (opndB w (s.reads w (opXY w x y acc mayL true flags isCount)) y isCount))
  refine (State.issue_next h (u := (s.atIssue w (opXY w x y acc mayL true flags isCount)).wrAlu
    (s.ctxOf w (opXY w x y acc mayL true flags isCount)) (hasPfx w pACC) lam (fD x) _) ?_ q.steps q.watch).trans
    (State.ends_wrAlu _ _ _ _ _ _ _ _)
  simp only [hw, State.give]
  rfl

/-- The same for flags only. -/
theorem State.aluXY_flags {s : State} {w : WOp} {x y : Nat} {acc : List Nat} {mayL flags isCount : Bool} {lam : Nat}
    {f : Regs → Nat → Nat → Alu} (h : s.Issues w (opXY w x y acc mayL false flags isCount))
    (hw : (s.atIssue w (opXY w x y acc mayL false flags isCount)).waitB (s.ctxOf w (opXY w x y acc mayL false flags isCount)) y = false) :
    s.aluXY w x y acc mayL false flags isCount lam f = s.done w (opXY w x y acc mayL false flags isCount)
      (flagWrites lam
        (f (s.reads w (opXY w x y acc mayL false flags isCount)) (opndA w (s.reads w (opXY w x y acc mayL false flags isCount)) x)
          (opndB w (s.reads w (opXY w x y acc mayL false flags isCount)) y isCount))) := by
  unfold State.aluXY
  have q := h.quiet.wrFlags lam
    (f (s.reads w (opXY w x y acc mayL false flags isCount)) (opndA w (s.reads w (opXY w x y acc mayL false flags isCount)) x)
      (opndB w (s.reads w (opXY w x y acc mayL false flags isCount)) y isCount))
  refine (State.issue_next h (u := (s.atIssue w (opXY w x y acc mayL false flags isCount)).wrFlags
    (s.ctxOf w (opXY w x y acc mayL false flags isCount)) lam _) ?_ q.steps q.watch).trans (State.ends_wrFlags _ _ _ _ _ _)
  simp only [hw, State.give]
  rfl

/-- A result of one register or with an immediate. -/
theorem State.give_done {s : State} {w : WOp} {o : IOp} {acc72 : Bool} {lam d : Nat} {a : Alu} {run : State → Ctx → State × Flow}
    (h : s.Issues w o) (hr : run (s.atIssue w o) (s.ctxOf w o) = (s.atIssue w o).give (s.ctxOf w o) acc72 true lam d a) :
    s.issue w o run = s.done w o (resultWrites acc72 lam d a) := by
  have q := h.quiet.wrAlu acc72 lam d a
  exact (State.issue_next h hr q.steps q.watch).trans (State.ends_wrAlu _ _ _ _ _ _ _ _)

theorem State.give_flags {s : State} {w : WOp} {o : IOp} {acc72 : Bool} {lam d : Nat} {a : Alu} {run : State → Ctx → State × Flow}
    (h : s.Issues w o) (hr : run (s.atIssue w o) (s.ctxOf w o) = (s.atIssue w o).give (s.ctxOf w o) acc72 false lam d a) :
    s.issue w o run = s.done w o (flagWrites lam a) := by
  have q := h.quiet.wrFlags lam a
  exact (State.issue_next h hr q.steps q.watch).trans (State.ends_wrFlags _ _ _ _ _ _)

/-- One write at a distance. -/
theorem State.wr_done {s : State} {w : WOp} {o : IOp} {lam t v : Nat} {run : State → Ctx → State × Flow} (h : s.Issues w o)
    (hr : run (s.atIssue w o) (s.ctxOf w o) = ((s.atIssue w o).wr (s.ctxOf w o) lam t v, .next)) :
    s.issue w o run = s.done w o [(lam, t, v)] := by
  have q := h.quiet.wr lam t v
  exact (State.issue_next h hr q.steps q.watch).trans (State.ends_wr _ _ _ _ _ _ _ _)

/-- A whole accumulator. -/
theorem State.wrA_done {s : State} {w : WOp} {o : IOp} {k v : Nat} {run : State → Ctx → State × Flow} (h : s.Issues w o)
    (hr : run (s.atIssue w o) (s.ctxOf w o) = ((s.atIssue w o).wrA (s.ctxOf w o) k v, .next)) :
    s.issue w o run = s.done w o (accWrites k v) := by
  have q := h.quiet.wrA k v
  refine (State.issue_next h hr q.steps q.watch).trans ((State.ends_wrA _ _ _ _ _ _ _).trans ?_)
  simp [State.done]

end Sys2Proof.Machine
end

