-- ==== Sys2Proof/Laws/Regs.lean ====
section
/-! SUPPORT. Laws/Regs.lean: register fields read after they are written. -/

namespace Sys2Proof.Machine

@[simp] theorem State.getF_setF (s : State) (b : Nat) (f : Fld) (v : Nat) : (s.setF b f v).getF b f = v % 2 ^ f.w := by
  simp [State.getF, State.setF]

/-- A field at another place of the register map is left alone. -/
theorem State.getF_setF_ne (s : State) {b b' : Nat} {f f' : Fld} (v : Nat) (h : fkey b' f' ≠ fkey b f) :
    (s.setF b f v).getF b' f' = s.getF b' f' := by
  simp [State.getF, State.setF, h, State.resetOf]

/-- Another field of the same page. -/
theorem State.getF_setF_fld (s : State) {b : Nat} {f f' : Fld} (v : Nat) (h : 64 * f'.off + f'.lo ≠ 64 * f.off + f.lo) :
    (s.setF b f v).getF b f' = s.getF b f' :=
  State.getF_setF_ne s v (by simp only [fkey]; omega)

@[simp] theorem State.flag_setFlag (s : State) (b : Nat) (f : Fld) (v : Bool) (h : f.w = 1) : (s.setFlag b f v).flag b f = v := by
  simp [State.flag, State.setFlag, h]
  cases v <;> rfl

theorem State.getF_lt (s : State) (b : Nat) (f : Fld) : s.getF b f < 2 ^ f.w := Nat.mod_lt _ (Nat.two_pow_pos _)

end Sys2Proof.Machine
end

