-- ==== Sys2Proof/Laws/Bus.lean ====
section
/-! SUPPORT. Laws/Bus.lean: what a register access that reaches its page comes to. -/

namespace Sys2Proof.Machine

/-- What an access does where it arrives. -/
def State.made (s : State) (tg : Target) (a : Access) (force : Bool) : State × Option BusResp :=
  match tg with
  | .page p off => s.pageAccess p off a force
  | .ctx t off => s.ctxAccess t off a
  | .prog t off => s.progAccess t off a
  | _ => s.memAccess a

theorem State.busAccess_made {s : State} {tg : Target} {a : Access} (h : s.Arrives tg a) (hu : tg ≠ .unmapped) (hn : tg ≠ .noPage)
    (force : Bool) : s.busAccess a force = s.made tg a force := by
  unfold State.busAccess
  have h1 := h.on
  have h2 := h.allowed
  have h3 := h.role
  have h4 := h.clocked
  have h5 := h.free
  simp only [h.leads]
  cases tg with
  | unmapped => exact absurd rfl hu
  | noPage => exact absurd rfl hn
  | _ =>
    simp only [h1, h2, h3, Bool.not_true, Bool.false_eq_true, if_false]
    cases hx : aliasOf a.addr with
    | none => first | simp [targetIsland, State.made, h4 _ rfl, h5] | simp [targetIsland, State.made, h5]
    | some lt =>
      first | simp [h.still lt hx, targetIsland, State.made, h4 _ rfl, h5] | simp [h.still lt hx, targetIsland, State.made, h5]

/-- An access that reaches its page is made there. -/
theorem State.busAccess_page {s : State} {p : Page} {off : Nat} {a : Access} (h : s.Reaches p off a) (force : Bool) :
    s.busAccess a force = s.pageAccess p off a force :=
  State.busAccess_made h.toArrives (by simp) (by simp) force

/-- A write of a word that reaches its page. -/
theorem State.busWrite_finish {s u : State} {p : Page} {off req addr data c : Nat}
    (h : s.Reaches p off ⟨req, addr, 4, true, data⟩) (ha : addr % 4 = 0) (hhi : off < 0x800) (hst : s.unstaged p)
    (hd : data < 2 ^ 32) (hw : s.writeWord p off (s.wrOf p req data) = (u, c)) (hc : c ≠ causePRIV) :
    s.busWrite req addr 4 data = (u.afterWrite p).finish p c ⟨req, addr, 4, true, data⟩ 0 := by
  have h1 : s.writePage p off 4 ⟨req, 4, data, s.lockOpen p req⟩ = (u, c) := by
    rw [← hw]
    simp [State.writePage, State.wrOf, Nat.mod_eq_of_lt (show data < 4294967296 from hd)]
  have h3 : (if p.ty == PageT.pwmg then s.stagedFor p.owner else none) = none := by
    split
    · rename_i hp
      exact hst (by simpa using hp)
    · rfl
  rw [State.busWrite, State.busAccess_page h]
  unfold State.pageAccess
  simp only [okSize, ha, Nat.not_le.mpr hhi, h1, Bool.false_or, h3, hc]
  rfl

/-- The same for a block register. -/
theorem State.busWrite_block {s u : State} {p : Page} {off req addr data c : Nat}
    (h : s.Reaches p off ⟨req, addr, 4, true, data⟩) (ha : addr % 4 = 0) (hlo : 0x40 ≤ off) (hhi : off < 0x800)
    (hs : (p.slots off).isSome = true) (hst : s.unstaged p) (hd : data < 2 ^ 32) (ho : s.wordUnder p off 4 req = false)
    (hw : (s.pageSync p off).writeBlock p off (s.wrOf p req data) = (u, c)) (hc : c ≠ causePRIV) :
    s.busWrite req addr 4 data = ((u.noteWord p off 4 req).afterWrite p).finish p c ⟨req, addr, 4, true, data⟩ 0 := by
  have hn : (p.slots off).isNone = false := by cases hx : p.slots off <;> simp_all
  refine State.busWrite_finish h ha hhi hst hd ?_ hc
  have ha : s.writeAlone p off (s.wrOf p req data) = (u, c) := by
    rw [← hw]
    simp [State.writeAlone, h.ready, hn, Nat.not_lt.mpr hlo]
  simp only [State.writeWord, ha]
  simp [State.wrOf, ho]

/-- The same in a page that ends no launch, where the page records no error. -/
theorem State.busWrite_ok {s u : State} {p : Page} {off req addr data : Nat}
    (h : s.Reaches p off ⟨req, addr, 4, true, data⟩) (ha : addr % 4 = 0) (hlo : 0x40 ≤ off) (hhi : off < 0x800)
    (hs : (p.slots off).isSome = true) (hp : p.ty ≠ .pwmg) (hd : data < 2 ^ 32) (ho : orderOf p off = 0)
    (hw : (s.pageSync p off).writeBlock p off (s.wrOf p req data) = (u, 0)) :
    s.busWrite req addr 4 data = (u.afterWrite p).respond req false 0 := by
  rw [State.busWrite_block h ha hlo hhi hs (fun x => absurd x hp) hd (by simp [State.wordUnder, ho]) hw (by decide)]
  simp [State.noteWord, State.finish, ho]

/-- A write of a word at a block register of a page, by the page and the offset. -/
theorem State.Writes.busWrite {s u : State} {p : Page} {off req data c : Nat} (h : s.Writes p off req data)
    (ha : (p.base + off) % 4 = 0) (hlo : 0x40 ≤ off) (hhi : off < 0x800) (hs : (p.slots off).isSome = true) (hst : s.unstaged p)
    (hw : (s.pageSync p off).writeBlock p off (s.wrOf p req data) = (u, c)) (hc : c ≠ causePRIV) :
    s.busWrite req (p.base + off) 4 data = u.wrote p off req data c :=
  State.busWrite_block h.1 ha hlo hhi hs hst h.2.1 h.2.2 hw hc

/-- The same in a page that holds no ledger and no capture FIFO. -/
theorem State.Writes.plain {s u : State} {p : Page} {off addr req data c : Nat} (h : s.Writes p off req data)
    (he : addr = p.base + off) (ha : addr % 4 = 0) (hlo : 0x40 ≤ off) (hhi : off < 0x800) (hs : (p.slots off).isSome = true)
    (hp : (p.ty == .pwmg || p.ty == .drole || p.ty == .capt) = false)
    (hw : s.writeBlock p off (s.wrOf p req data) = (u, c)) (hc : c ≠ causePRIV) :
    s.busWrite req addr 4 data = u.wrote p off req data c := by
  subst he
  simp at hp
  have hsync : s.pageSync p off = s := by
    unfold State.pageSync
    split
    · exact absurd (by assumption) hp.1.1
    · exact absurd (by assumption) hp.1.2
    · exact absurd (by assumption) hp.2
    · rfl
  exact h.busWrite ha hlo hhi hs (fun x => absurd x hp.1.1) (by rw [hsync]; exact hw) hc

/-- The registers of a page depend on its kind and its number within its owner alone. -/
theorem Page.slots_congr {p q : Page} (h : p.ty = q.ty) (k : p.inst = q.inst) (off : Nat) : p.slots off = q.slots off := by
  have : p.table = q.table := by unfold Page.table; rw [h, k]
  rw [Page.slots, Page.slots, this]

/-- The registers of a page, by its kind and its number. -/
theorem Page.slots_kind (p : Page) (off : Nat) : p.slots off = (⟨p.ty, 0, p.inst, 0⟩ : Page).slots off :=
  Page.slots_congr rfl rfl off

/-- A check of the numbers below `m`, at one of them. -/
theorem all_below {f : Nat → Bool} {m n : Nat} (h : (List.range m).all f = true) (hn : n < m) : f n = true :=
  List.all_eq_true.mp h n (List.mem_range.mpr hn)

/-! ### The fields of a word -/

/-- A slot that shows its whole field. -/
theorem State.setSlot_whole (s : State) (b : Nat) (x : Slot) (v : Nat) (hp : x.part = 0) (hw : x.w = x.fld.w) :
    s.setSlot b x v = s.setF b x.fld v := by
  have : setBits (s.getF b x.fld) 0 x.fld.w v % 2 ^ x.fld.w = v % 2 ^ x.fld.w := by
    unfold setBits bits
    have := State.getF_lt s b x.fld
    rw [Nat.pow_zero, Nat.div_one, Nat.mod_eq_of_lt this]
    simp
  simp [State.setSlot, hp, hw, State.setF, this]

end Sys2Proof.Machine
end

