-- ==== Sys2Proof/Laws/Keep.lean ====
section
/-! SUPPORT. Laws/Keep.lean: what no command changes or breaks: the queue and the tick count stay, the counter of free values
never goes back, and memory and the register map keep their canonical form. -/

namespace Sys2Proof.Machine

/-- The state `t` after an operation on `s`. -/
structure Keep (s t : State) : Prop where
  pending : t.pending = s.pending
  tick : t.tick = s.tick
  free : s.free ≤ t.free
  mem : Memory.wf s.mem = true → Memory.wf t.mem = true
  regs : SMap.wf s.regs = true → SMap.wf t.regs = true

theorem Keep.refl (s : State) : Keep s s := ⟨rfl, rfl, Nat.le_refl _, id, id⟩

theorem Keep.trans {a b c : State} (h : Keep a b) (k : Keep b c) : Keep a c :=
  ⟨k.pending.trans h.pending, k.tick.trans h.tick, Nat.le_trans h.free k.free, fun x => k.mem (h.mem x),
    fun x => k.regs (h.regs x)⟩

/-- An update of other fields. -/
theorem Keep.upd {s₀ s : State} {journal bus time lath loop edge link samp pwr fcst klog core mm dep fire grp mon tap hw}
    (h : Keep s₀ s) :
    Keep s₀ ⟨s.pending, s.tick, s.free, s.regs, journal, s.mem, bus, time, lath, loop, edge, link, samp, pwr, fcst, klog, core, mm,
      dep, fire, grp, mon, tap, hw⟩ :=
  ⟨h.pending, h.tick, h.free, h.mem, h.regs⟩

theorem Keep.updFree {s₀ s : State} {n : Nat} {journal bus time lath loop edge link samp pwr fcst klog core mm dep fire grp mon tap hw}
    (h : Keep s₀ s) :
    Keep s₀ ⟨s.pending, s.tick, s.free + n, s.regs, journal, s.mem, bus, time, lath, loop, edge, link, samp, pwr, fcst, klog, core,
      mm, dep, fire, grp, mon, tap, hw⟩ :=
  ⟨h.pending, h.tick, Nat.le_trans h.free (Nat.le_add_right _ _), h.mem, h.regs⟩

theorem Keep.updRegs {s₀ s : State} {regs : SMap Nat}
    {journal bus time lath loop edge link samp pwr fcst klog core mm dep fire grp mon tap hw} (h : Keep s₀ s)
    (hr : SMap.wf s.regs = true → SMap.wf regs = true) :
    Keep s₀ ⟨s.pending, s.tick, s.free, regs, journal, s.mem, bus, time, lath, loop, edge, link, samp, pwr, fcst, klog, core, mm,
      dep, fire, grp, mon, tap, hw⟩ :=
  ⟨h.pending, h.tick, h.free, h.mem, fun x => hr (h.regs x)⟩

theorem Keep.updMem {s₀ s : State} {mem : Memory}
    {journal bus time lath loop edge link samp pwr fcst klog core mm dep fire grp mon tap hw} (h : Keep s₀ s)
    (hm : Memory.wf s.mem = true → Memory.wf mem = true) :
    Keep s₀ ⟨s.pending, s.tick, s.free, s.regs, journal, mem, bus, time, lath, loop, edge, link, samp, pwr, fcst, klog, core, mm,
      dep, fire, grp, mon, tap, hw⟩ :=
  ⟨h.pending, h.tick, h.free, fun x => hm (h.mem x), h.regs⟩

theorem Keep.ite {s₀ a b : State} {c : Prop} [Decidable c] (ha : Keep s₀ a) (hb : Keep s₀ b) : Keep s₀ (if c then a else b) := by
  split <;> assumption

theorem Keep.ite1 {α : Type} {s₀ : State} {a b : State × α} {c : Prop} [Decidable c] (ha : Keep s₀ a.1) (hb : Keep s₀ b.1) :
    Keep s₀ (if c then a else b).1 := by
  split <;> assumption

theorem Keep.ite2 {α : Type} {s₀ : State} {a b : α × State} {c : Prop} [Decidable c] (ha : Keep s₀ a.2) (hb : Keep s₀ b.2) :
    Keep s₀ (if c then a else b).2 := by
  split <;> assumption

theorem Keep.ite21 {α β : Type} {s₀ : State} {a b : α × State × β} {c : Prop} [Decidable c] (ha : Keep s₀ a.2.1)
    (hb : Keep s₀ b.2.1) : Keep s₀ (if c then a else b).2.1 := by
  split <;> assumption

theorem Keep.foldl {β : Type} {s₀ : State} {f : State → β → State} (hf : ∀ s x, Keep s₀ s → Keep s₀ (f s x)) :
    ∀ (l : List β) {s : State}, Keep s₀ s → Keep s₀ (l.foldl f s)
  | [], _, h => h
  | x :: l, s, h => Keep.foldl hf l (hf s x h)

theorem Keep.foldl1 {α β : Type} {s₀ : State} {f : State × α → β → State × α}
    (hf : ∀ q x, Keep s₀ q.1 → Keep s₀ (f q x).1) :
    ∀ (l : List β) {q : State × α}, Keep s₀ q.1 → Keep s₀ (l.foldl f q).1
  | [], _, h => h
  | x :: l, q, h => Keep.foldl1 hf l (hf q x h)

end Sys2Proof.Machine
end

