-- ==== Sys2Proof/Laws/KeepOps.lean ====
section
/-! SUPPORT. Laws/KeepOps.lean: every operation of Machine/Ops.lean keeps what Laws/Keep.lean says. -/

namespace Sys2Proof.Machine

theorem State.setF_keep {s₀ : State} {s : State} {base : Nat} {f : Fld} {v : Nat} (h_s : Keep s₀ s) :
    Keep s₀ (State.setF s base f v) := by
  unfold State.setF
  refine Keep.updRegs ?_ (fun h => ?_)
  · assumption
  · exact SMap.wf_put h _ _

theorem State.noteSet_keep {s₀ : State} {s : State} {base : Nat} {f : Fld} {m : Nat} (h_s : Keep s₀ s) :
    Keep s₀ (State.noteSet s base f m) := by
  unfold State.noteSet
  refine Keep.upd ?_
  assumption

theorem State.noteInc_keep {s₀ : State} {s : State} {base : Nat} {f : Fld} {n : Nat} (h_s : Keep s₀ s) :
    Keep s₀ (State.noteInc s base f n) := by
  unfold State.noteInc
  dsimp only
  refine Keep.upd ?_
  assumption

theorem State.noteSoft_keep {s₀ : State} {s : State} {base : Nat} {f : Fld} {part : Nat} {req : Nat} (h_s : Keep s₀ s) :
    Keep s₀ (State.noteSoft s base f part req) := by
  unfold State.noteSoft
  refine Keep.upd ?_
  assumption

theorem State.setFlag_keep {s₀ : State} {s : State} {base : Nat} {f : Fld} {b : Bool} (h_s : Keep s₀ s) :
    Keep s₀ (State.setFlag s base f b) := by
  unfold State.setFlag
  refine State.setF_keep ?_
  refine State.noteSet_keep ?_
  assumption

theorem State.incF_keep {s₀ : State} {s : State} {base : Nat} {f : Fld} {n : optParam Nat 1} (h_s : Keep s₀ s) :
    Keep s₀ (State.incF s base f n) := by
  unfold State.incF
  refine State.setF_keep ?_
  refine State.noteInc_keep ?_
  assumption

theorem State.satF_keep {s₀ : State} {s : State} {base : Nat} {f : Fld} {n : optParam Nat 1} (h_s : Keep s₀ s) :
    Keep s₀ (State.satF s base f n) := by
  unfold State.satF
  refine State.setF_keep ?_
  refine State.noteInc_keep ?_
  assumption

theorem State.setFbit_keep {s₀ : State} {s : State} {base : Nat} {f : Fld} {i : Nat} {b : Bool} (h_s : Keep s₀ s) :
    Keep s₀ (State.setFbit s base f i b) := by
  unfold State.setFbit
  refine State.setF_keep ?_
  refine State.noteSet_keep ?_
  assumption

theorem State.maxF_keep {s₀ : State} {s : State} {base : Nat} {f : Fld} {v : Nat} (h_s : Keep s₀ s) :
    Keep s₀ (State.maxF s base f v) := by
  unfold State.maxF
  refine Keep.ite ?_ ?_
  · refine State.setF_keep ?_
    · assumption
  · assumption

theorem State.putRefire_keep {s₀ : State} {s : State} {c : Nat} {r : Refire} (h_s : Keep s₀ s) :
    Keep s₀ (State.putRefire s c r) := by
  unfold State.putRefire
  refine Keep.upd ?_
  assumption

theorem State.dropRefire_keep {s₀ : State} {s : State} {c : Nat} (h_s : Keep s₀ s) :
    Keep s₀ (State.dropRefire s c) := by
  unfold State.dropRefire
  refine Keep.upd ?_
  assumption

theorem State.requestWake_keep {s₀ : State} {s : State} {i : Nat} (h_s : Keep s₀ s) :
    Keep s₀ (State.requestWake s i) := by
  unfold State.requestWake
  refine Keep.ite ?_ ?_
  · refine Keep.upd ?_
    assumption
  · assumption

theorem State.cascadeWake_keep {s₀ : State} {s : State} {was : State} (h_s : Keep s₀ s) (h_was : Keep s₀ was) :
    Keep s₀ (State.cascadeWake s was) := by
  unfold State.cascadeWake
  refine Keep.foldl ?_ _ ?_
  · intro x1 x2 h3
    dsimp only
    refine Keep.ite ?_ ?_
    · refine State.requestWake_keep ?_
      assumption
    · assumption
  · assumption

theorem State.noteFresh_keep {s₀ : State} {s : State} {t : Nat} {l : Nat} {n : Nat} (h_s : Keep s₀ s) :
    Keep s₀ (State.noteFresh s t l n) := by
  unfold State.noteFresh
  dsimp only
  refine Keep.upd ?_
  assumption

theorem State.countArrivals_keep {s₀ : State} {s : State} {base : Nat} {arriv : Fld} {satlost : Fld} {cnt : Fld} {satw : Fld} {b : Nat} {n : Nat} (h_s : Keep s₀ s) :
    Keep s₀ (State.countArrivals s base arriv satlost cnt satw b n).1 := by
  unfold State.countArrivals
  try dsimp only
  refine Keep.ite1 ?_ ?_
  · try dsimp only
    refine State.setF_keep ?_
    · refine State.incF_keep ?_
      · assumption
  · try dsimp only
    refine State.incF_keep ?_
    · refine State.setFbit_keep ?_
      · refine State.setF_keep ?_
        · refine State.incF_keep ?_
          · assumption

theorem State.enterIntc_keep {s₀ : State} {s : State} {t : Nat} {l : Nat} {n : Nat} (h_s : Keep s₀ s) :
    Keep s₀ (State.enterIntc s t l n).1 := by
  unfold State.enterIntc
  dsimp only
  refine Keep.ite1 ?_ ?_
  · dsimp only
    refine Keep.ite ?_ ?_
    · refine State.requestWake_keep ?_
      refine Keep.ite ?_ ?_
      · refine State.setF_keep ?_
        refine Keep.upd ?_
        assumption
      · refine State.satF_keep ?_
        refine State.setF_keep ?_
        refine Keep.upd ?_
        assumption
    · refine Keep.ite ?_ ?_
      · refine State.setF_keep ?_
        refine Keep.upd ?_
        assumption
      · refine State.satF_keep ?_
        refine State.setF_keep ?_
        refine Keep.upd ?_
        assumption
  · refine State.countArrivals_keep ?_
    refine State.noteFresh_keep ?_
    assumption

theorem State.arriveOnce_keep {s₀ : State} {s : State} {src : Nat} {n : Nat} (h_s : Keep s₀ s) :
    Keep s₀ (State.arriveOnce s src n).1 := by
  unfold State.arriveOnce
  refine Keep.ite1 ?_ ?_
  · dsimp only
    refine Keep.ite1 ?_ ?_
    · dsimp only
      assumption
    · split
      · refine Keep.ite1 ?_ ?_
        · dsimp only
          refine Keep.upd ?_
          assumption
        · dsimp only
          refine State.enterIntc_keep ?_
          assumption
      · dsimp only
        refine State.enterIntc_keep ?_
        assumption
  · dsimp only
    refine State.cascadeWake_keep ?_ ?_
    · refine State.countArrivals_keep ?_
      assumption
    · assumption

theorem State.arriveF_keep {s₀ : State} {n0 : Nat} {s : State} {src n : Nat} (h_s : Keep s₀ s) :
    Keep s₀ (State.arriveF n0 s src n) := by
  induction n0 generalizing s src n with
  | zero => exact h_s
  | succ k ih =>
    unfold State.arriveF
    refine Keep.ite h_s ?_
    have h := State.arriveOnce_keep (src := src) (n := n) h_s
    refine Keep.ite h ?_
    refine Keep.ite ?_ (Keep.upd h)
    exact ih (State.setFbit_keep (Keep.upd h))

theorem State.arrive_keep {s₀ : State} {s : State} {src : Nat} {n : Nat} (h_s : Keep s₀ s) :
    Keep s₀ (State.arrive s src n) := by
  unfold State.arrive
  refine State.arriveF_keep ?_
  · assumption

theorem State.occur_keep {s₀ : State} {s : State} {base : Nat} {b : Nat} {n : Nat} (h_s : Keep s₀ s) :
    Keep s₀ (State.occur s base b n) := by
  unfold State.occur
  refine Keep.ite ?_ ?_
  · assumption
  · refine Keep.ite ?_ ?_
    · refine State.arrive_keep ?_
      · refine State.setFbit_keep ?_
        · assumption
    · assumption

theorem State.pulse_keep {s₀ : State} {s : State} {base : Nat} {b : Nat} {n : Nat} (h_s : Keep s₀ s) :
    Keep s₀ (State.pulse s base b n) := by
  unfold State.pulse
  refine Keep.ite ?_ ?_
  · assumption
  · refine State.occur_keep ?_
    · refine Keep.upd ?_
      assumption

theorem State.raiseIrq_keep {s₀ : State} {s : State} {base : Nat} {b : Nat} (h_s : Keep s₀ s) :
    Keep s₀ (State.raiseIrq s base b) := by
  unfold State.raiseIrq
  refine State.occur_keep ?_
  refine Keep.upd ?_
  assumption

theorem State.fillErr_keep {s₀ : State} {s : State} {base : Nat} {cause : Nat} {a : Access} (h_s : Keep s₀ s) :
    Keep s₀ (State.fillErr s base cause a) := by
  unfold State.fillErr
  refine State.setF_keep ?_
  · refine State.setF_keep ?_
    · refine State.setF_keep ?_
      · refine State.setF_keep ?_
        · refine State.setFlag_keep ?_
          · refine State.setFlag_keep ?_
            · refine State.setF_keep ?_
              · assumption

theorem State.recordErr_keep {s₀ : State} {s : State} {base : Nat} {cause : Nat} {a : Access} (h_s : Keep s₀ s) :
    Keep s₀ (State.recordErr s base cause a) := by
  unfold State.recordErr
  try dsimp only
  try dsimp only
  refine Keep.ite ?_ ?_
  · try dsimp only
    refine Keep.ite ?_ ?_
    · refine State.fillErr_keep ?_
      · refine State.setFlag_keep ?_
        · refine Keep.upd ?_
          assumption
    · refine State.setFlag_keep ?_
      · refine Keep.upd ?_
        assumption
  · refine State.occur_keep ?_
    · refine State.fillErr_keep ?_
      · refine State.setFlag_keep ?_
        · refine State.setFlag_keep ?_
          · refine Keep.upd ?_
            assumption

theorem State.clearErr_keep {s₀ : State} {s : State} {base : Nat} (h_s : Keep s₀ s) :
    Keep s₀ (State.clearErr s base) := by
  unfold State.clearErr
  split
  · refine State.fillErr_keep ?_
    · refine State.setFlag_keep ?_
      · refine Keep.upd ?_
        assumption
  · refine State.setFlag_keep ?_
    · refine State.setFlag_keep ?_
      · assumption

theorem State.respond_keep {s₀ : State} {s : State} {req : Nat} {err : Bool} {data : Nat} (h_s : Keep s₀ s) :
    Keep s₀ (State.respond s req err data) := by
  unfold State.respond
  refine Keep.upd ?_
  assumption

theorem State.updLath_keep {s₀ : State} {s : State} {l : Nat} {f : Lath → Lath} (h_s : Keep s₀ s) :
    Keep s₀ (State.updLath s l f) := by
  unfold State.updLath
  refine Keep.upd ?_
  assumption

theorem State.klogRecord_keep {s₀ : State} {s : State} {c : Nat} {ty : Nat} {flags : Nat} {src : Nat} {tick : Nat} {payload : List Nat} (h_s : Keep s₀ s) :
    Keep s₀ (State.klogRecord s c ty flags src tick payload) := by
  unfold State.klogRecord
  dsimp only
  refine Keep.ite ?_ ?_
  · assumption
  · refine Keep.ite ?_ ?_
    · refine State.pulse_keep ?_
      refine Keep.ite ?_ ?_
      · refine State.incF_keep ?_
        refine Keep.upd ?_
        refine State.setF_keep ?_
        refine State.incF_keep ?_
        assumption
      · refine Keep.upd ?_
        refine State.setF_keep ?_
        refine State.incF_keep ?_
        assumption
    · refine Keep.ite ?_ ?_
      · refine State.incF_keep ?_
        refine Keep.upd ?_
        refine State.setF_keep ?_
        refine State.incF_keep ?_
        assumption
      · refine Keep.upd ?_
        refine State.setF_keep ?_
        refine State.incF_keep ?_
        assumption

theorem State.klogEvents_keep {s₀ : State} {s : State} {c : Nat} {prod : Nat} (h_s : Keep s₀ s) :
    Keep s₀ (State.klogEvents s c prod) := by
  unfold State.klogEvents
  refine Keep.foldl ?_ _ ?_
  · intro s1 x2 h3
    refine Keep.ite ?_ ?_
    · refine State.klogRecord_keep ?_
      · assumption
    · assumption
  · assumption

theorem State.produceTok_keep {s₀ : State} {s : State} {l : Nat} {prod : Nat} {tok : Tok} {first : Bool} (h_s : Keep s₀ s) :
    Keep s₀ (State.produceTok s l prod tok first) := by
  unfold State.produceTok
  try dsimp only
  refine Keep.ite ?_ ?_
  · assumption
  · try dsimp only
    try dsimp only
    refine Keep.ite ?_ ?_
    · refine State.klogEvents_keep ?_
      · refine State.setFbit_keep ?_
        · refine State.updLath_keep ?_
          · assumption
    · refine State.setFbit_keep ?_
      · refine State.updLath_keep ?_
        · assumption

theorem State.produce_keep {s₀ : State} {s : State} {l : Nat} {prod : Nat} {aligned : Bool} {srcPer : Nat} {mark : Bool} (h_s : Keep s₀ s) :
    Keep s₀ (State.produce s l prod aligned srcPer mark) := by
  unfold State.produce
  refine State.produceTok_keep ?_
  · assumption

theorem State.draw_keep {s₀ : State} {s : State} {w : Nat} (h_s : Keep s₀ s) :
    Keep s₀ (State.draw s w).2 := by
  unfold State.draw
  try dsimp only
  refine Keep.updFree ?_
  assumption

theorem State.memWrite_keep {s₀ : State} {s : State} {a : Nat} {n : Nat} {x : Nat} (h_s : Keep s₀ s) :
    Keep s₀ (State.memWrite s a n x) := by
  unfold State.memWrite
  refine Keep.updMem ?_ (fun h => ?_)
  · assumption
  · exact Memory.wf_writeLE h _ _ _

theorem State.memBytes_keep {s₀ : State} {s : State} {a : Nat} {bs : List Byte} (h_s : Keep s₀ s) :
    Keep s₀ (State.memBytes s a bs) := by
  unfold State.memBytes
  refine Keep.updMem ?_ (fun h => ?_)
  · assumption
  · first | exact Memory.wf_writeLE h _ _ _ | exact Memory.wf_writeN _ h _

end Sys2Proof.Machine
end

