-- ==== Sys2Proof/Laws/KeepTimeOps.lean ====
section
/-! SUPPORT. Laws/KeepTimeOps.lean: every operation of Machine/TimeOps.lean keeps what Laws/Keep.lean says. -/

namespace Sys2Proof.Machine

theorem State.slewSync_keep {s₀ : State} {s : State} (h_s : Keep s₀ s) :
    Keep s₀ (State.slewSync s) := by
  unfold State.slewSync
  refine Keep.upd ?_
  assumption

theorem State.slewStart_keep {s₀ : State} {s : State} {v : Int} (h_s : Keep s₀ s) :
    Keep s₀ (State.slewStart s v) := by
  unfold State.slewStart
  refine State.setFlag_keep ?_
  · refine Keep.upd ?_
    assumption

theorem State.timeMeasure_keep {s₀ : State} {s : State} {ofs : Int} (h_s : Keep s₀ s) :
    Keep s₀ (State.timeMeasure s ofs) := by
  unfold State.timeMeasure
  try dsimp only
  refine Keep.ite ?_ ?_
  · try dsimp only
    try dsimp only
    refine State.slewStart_keep ?_
    · refine State.setF_keep ?_
      · refine State.draw_keep ?_
        · refine State.draw_keep ?_
          · refine Keep.ite ?_ ?_
            · refine State.setFlag_keep ?_
              · refine Keep.upd ?_
                refine State.setFlag_keep ?_
                · refine State.setF_keep ?_
                  · refine State.slewSync_keep ?_
                    · assumption
            · refine Keep.ite ?_ ?_
              · refine State.setFlag_keep ?_
                · refine Keep.upd ?_
                  refine State.setFlag_keep ?_
                  · refine State.setF_keep ?_
                    · refine State.slewSync_keep ?_
                      · assumption
              · refine Keep.upd ?_
                refine State.setFlag_keep ?_
                · refine State.setF_keep ?_
                  · refine State.slewSync_keep ?_
                    · assumption
  · refine Keep.ite ?_ ?_
    · refine State.setFlag_keep ?_
      · refine Keep.upd ?_
        refine State.setFlag_keep ?_
        · refine State.setF_keep ?_
          · refine State.slewSync_keep ?_
            · assumption
    · refine Keep.ite ?_ ?_
      · refine State.setFlag_keep ?_
        · refine Keep.upd ?_
          refine State.setFlag_keep ?_
          · refine State.setF_keep ?_
            · refine State.slewSync_keep ?_
              · assumption
      · refine Keep.upd ?_
        refine State.setFlag_keep ?_
        · refine State.setF_keep ?_
          · refine State.slewSync_keep ?_
            · assumption

theorem State.timeHoldover_keep {s₀ : State} {s : State} (h_s : Keep s₀ s) :
    Keep s₀ (State.timeHoldover s) := by
  unfold State.timeHoldover
  refine Keep.ite ?_ ?_
  · assumption
  · try dsimp only
    refine State.setFlag_keep ?_
    · refine State.setFlag_keep ?_
      · try dsimp only
        refine Keep.upd ?_
        refine State.slewSync_keep ?_
        · assumption

theorem State.setTimer_keep {s₀ : State} {s : State} {t : Nat} {n : Nat} {tm : Timer} (h_s : Keep s₀ s) :
    Keep s₀ (State.setTimer s t n tm) := by
  unfold State.setTimer
  refine Keep.upd ?_
  assumption

theorem State.timerEnable_keep {s₀ : State} {s : State} {t : Nat} {n : Nat} (h_s : Keep s₀ s) :
    Keep s₀ (State.timerEnable s t n) := by
  unfold State.timerEnable
  try dsimp only
  refine State.setTimer_keep ?_
  · refine State.setFlag_keep ?_
    · refine State.setFlag_keep ?_
      · assumption

theorem State.timerDisable_keep {s₀ : State} {s : State} {t : Nat} {n : Nat} (h_s : Keep s₀ s) :
    Keep s₀ (State.timerDisable s t n) := by
  unfold State.timerDisable
  try dsimp only
  refine State.setTimer_keep ?_
  · refine State.setFlag_keep ?_
    · refine State.setFlag_keep ?_
      · assumption

theorem State.timerSetCmp_keep {s₀ : State} {s : State} {t : Nat} {n : Nat} {v : Nat} (h_s : Keep s₀ s) :
    Keep s₀ (State.timerSetCmp s t n v) := by
  unfold State.timerSetCmp
  try dsimp only
  refine State.setTimer_keep ?_
  · refine State.setF_keep ?_
    · assumption

theorem State.timerSetCnt_keep {s₀ : State} {s : State} {t : Nat} {n : Nat} {v : Nat} (h_s : Keep s₀ s) :
    Keep s₀ (State.timerSetCnt s t n v) := by
  unfold State.timerSetCnt
  try dsimp only
  refine State.setTimer_keep ?_
  · assumption

theorem State.timerCmpWrite_keep {s₀ : State} {s : State} {t : Nat} {n : Nat} {hi : Bool} {size : Nat} {v : Nat} (h_s : Keep s₀ s) :
    Keep s₀ (State.timerCmpWrite s t n hi size v) := by
  unfold State.timerCmpWrite
  refine Keep.ite ?_ ?_
  · refine State.timerSetCmp_keep ?_
    · assumption
  · refine Keep.ite ?_ ?_
    · try dsimp only
      refine State.timerSetCmp_keep ?_
      · assumption
    · refine State.setTimer_keep ?_
      · assumption

theorem State.timerCntWrite_keep {s₀ : State} {s : State} {t : Nat} {n : Nat} {hi : Bool} {size : Nat} {v : Nat} (h_s : Keep s₀ s) :
    Keep s₀ (State.timerCntWrite s t n hi size v).1 := by
  unfold State.timerCntWrite
  refine Keep.ite1 ?_ ?_
  · try dsimp only
    assumption
  · refine Keep.ite1 ?_ ?_
    · try dsimp only
      refine State.timerSetCnt_keep ?_
      · assumption
    · refine Keep.ite1 ?_ ?_
      · try dsimp only
        try dsimp only
        refine State.timerSetCnt_keep ?_
        · assumption
      · try dsimp only
        refine State.setTimer_keep ?_
        · assumption

theorem State.timerCtrlWrite_keep {s₀ : State} {s : State} {t : Nat} {n : Nat} {req : Nat} {v : Nat} (h_s : Keep s₀ s) :
    Keep s₀ (State.timerCtrlWrite s t n req v).1 := by
  unfold State.timerCtrlWrite
  dsimp only
  refine Keep.ite1 ?_ ?_
  · dsimp only
    assumption
  · refine Keep.ite1 ?_ ?_
    · dsimp only
      assumption
    · refine Keep.ite1 ?_ ?_
      · refine Keep.ite1 ?_ ?_
        · dsimp only
          refine State.setF_keep ?_
          refine State.setF_keep ?_
          refine State.setF_keep ?_
          refine State.setTimer_keep ?_
          refine State.noteSoft_keep ?_
          assumption
        · dsimp only
          refine State.timerEnable_keep ?_
          refine State.setF_keep ?_
          refine State.setF_keep ?_
          refine State.setF_keep ?_
          refine State.setTimer_keep ?_
          refine State.noteSoft_keep ?_
          assumption
      · refine Keep.ite1 ?_ ?_
        · dsimp only
          refine State.timerDisable_keep ?_
          refine State.setF_keep ?_
          refine State.setF_keep ?_
          refine State.setF_keep ?_
          refine State.setTimer_keep ?_
          refine State.noteSoft_keep ?_
          assumption
        · dsimp only
          refine State.setF_keep ?_
          refine State.setF_keep ?_
          refine State.setF_keep ?_
          refine State.setTimer_keep ?_
          refine State.noteSoft_keep ?_
          assumption

theorem State.timerEvent_keep {s₀ : State} {s : State} {t : Nat} {n : Nat} (h_s : Keep s₀ s) :
    Keep s₀ (State.timerEvent s t n) := by
  unfold State.timerEvent
  refine State.pulse_keep ?_
  · refine State.produce_keep ?_
    · assumption

theorem State.timerStops_keep {s₀ : State} {s : State} {t : Nat} {n : Nat} (h_s : Keep s₀ s) :
    Keep s₀ (State.timerStops s t n) := by
  unfold State.timerStops
  refine Keep.ite ?_ ?_
  · assumption
  · refine State.setFlag_keep ?_
    refine State.setFlag_keep ?_
    assumption

theorem State.timerMatch_keep {s₀ : State} {s : State} {t : Nat} {n : Nat} (h_s : Keep s₀ s) :
    Keep s₀ (State.timerMatch s t n) := by
  unfold State.timerMatch
  dsimp only
  refine State.timerEvent_keep ?_
  refine Keep.ite ?_ ?_
  · refine State.setTimer_keep ?_
    refine State.incF_keep ?_
    refine Keep.ite ?_ ?_
    · refine State.setFlag_keep ?_
      refine Keep.ite2 ?_ ?_
      · refine State.draw_keep ?_
        assumption
      · dsimp only
        assumption
    · refine Keep.ite2 ?_ ?_
      · refine State.draw_keep ?_
        assumption
      · dsimp only
        assumption
  · refine Keep.ite ?_ ?_
    · refine State.timerStops_keep ?_
      refine State.setTimer_keep ?_
      refine State.incF_keep ?_
      refine Keep.ite ?_ ?_
      · refine State.setFlag_keep ?_
        refine Keep.ite2 ?_ ?_
        · refine State.draw_keep ?_
          assumption
        · dsimp only
          assumption
      · refine Keep.ite2 ?_ ?_
        · refine State.draw_keep ?_
          assumption
        · dsimp only
          assumption
    · refine State.setTimer_keep ?_
      refine State.incF_keep ?_
      refine Keep.ite ?_ ?_
      · refine State.setFlag_keep ?_
        refine Keep.ite2 ?_ ?_
        · refine State.draw_keep ?_
          assumption
        · dsimp only
          assumption
      · refine Keep.ite2 ?_ ?_
        · refine State.draw_keep ?_
          assumption
        · dsimp only
          assumption

theorem State.timerGap_keep {s₀ : State} {s : State} {t : Nat} {n : Nat} {d : Nat} {makeup : Bool} (h_s : Keep s₀ s) :
    Keep s₀ (State.timerGap s t n d makeup) := by
  unfold State.timerGap
  dsimp only
  refine Keep.ite ?_ ?_
  · assumption
  · refine Keep.ite ?_ ?_
    · refine State.setF_keep ?_
      refine Keep.ite ?_ ?_
      · refine State.setFlag_keep ?_
        refine State.setFlag_keep ?_
        refine Keep.ite ?_ ?_
        · refine State.pulse_keep ?_
          refine State.setFlag_keep ?_
          refine Keep.ite ?_ ?_
          · refine State.setFlag_keep ?_
            refine Keep.ite ?_ ?_
            · refine State.setFlag_keep ?_
              refine State.setTimer_keep ?_
              assumption
            · refine State.setTimer_keep ?_
              assumption
          · refine Keep.ite ?_ ?_
            · refine State.setFlag_keep ?_
              refine State.setTimer_keep ?_
              assumption
            · refine State.setTimer_keep ?_
              assumption
        · refine Keep.ite ?_ ?_
          · refine State.setFlag_keep ?_
            refine Keep.ite ?_ ?_
            · refine State.setFlag_keep ?_
              refine State.setTimer_keep ?_
              assumption
            · refine State.setTimer_keep ?_
              assumption
          · refine Keep.ite ?_ ?_
            · refine State.setFlag_keep ?_
              refine State.setTimer_keep ?_
              assumption
            · refine State.setTimer_keep ?_
              assumption
      · refine Keep.ite ?_ ?_
        · refine State.pulse_keep ?_
          refine State.setFlag_keep ?_
          refine Keep.ite ?_ ?_
          · refine State.setFlag_keep ?_
            refine Keep.ite ?_ ?_
            · refine State.setFlag_keep ?_
              refine State.setTimer_keep ?_
              assumption
            · refine State.setTimer_keep ?_
              assumption
          · refine Keep.ite ?_ ?_
            · refine State.setFlag_keep ?_
              refine State.setTimer_keep ?_
              assumption
            · refine State.setTimer_keep ?_
              assumption
        · refine Keep.ite ?_ ?_
          · refine State.setFlag_keep ?_
            refine Keep.ite ?_ ?_
            · refine State.setFlag_keep ?_
              refine State.setTimer_keep ?_
              assumption
            · refine State.setTimer_keep ?_
              assumption
          · refine Keep.ite ?_ ?_
            · refine State.setFlag_keep ?_
              refine State.setTimer_keep ?_
              assumption
            · refine State.setTimer_keep ?_
              assumption
    · refine State.timerEvent_keep ?_
      refine State.incF_keep ?_
      refine State.setF_keep ?_
      refine Keep.ite ?_ ?_
      · refine State.setFlag_keep ?_
        refine State.setFlag_keep ?_
        refine Keep.ite ?_ ?_
        · refine State.pulse_keep ?_
          refine State.setFlag_keep ?_
          refine Keep.ite ?_ ?_
          · refine State.setFlag_keep ?_
            refine Keep.ite ?_ ?_
            · refine State.setFlag_keep ?_
              refine State.setTimer_keep ?_
              assumption
            · refine State.setTimer_keep ?_
              assumption
          · refine Keep.ite ?_ ?_
            · refine State.setFlag_keep ?_
              refine State.setTimer_keep ?_
              assumption
            · refine State.setTimer_keep ?_
              assumption
        · refine Keep.ite ?_ ?_
          · refine State.setFlag_keep ?_
            refine Keep.ite ?_ ?_
            · refine State.setFlag_keep ?_
              refine State.setTimer_keep ?_
              assumption
            · refine State.setTimer_keep ?_
              assumption
          · refine Keep.ite ?_ ?_
            · refine State.setFlag_keep ?_
              refine State.setTimer_keep ?_
              assumption
            · refine State.setTimer_keep ?_
              assumption
      · refine Keep.ite ?_ ?_
        · refine State.pulse_keep ?_
          refine State.setFlag_keep ?_
          refine Keep.ite ?_ ?_
          · refine State.setFlag_keep ?_
            refine Keep.ite ?_ ?_
            · refine State.setFlag_keep ?_
              refine State.setTimer_keep ?_
              assumption
            · refine State.setTimer_keep ?_
              assumption
          · refine Keep.ite ?_ ?_
            · refine State.setFlag_keep ?_
              refine State.setTimer_keep ?_
              assumption
            · refine State.setTimer_keep ?_
              assumption
        · refine Keep.ite ?_ ?_
          · refine State.setFlag_keep ?_
            refine Keep.ite ?_ ?_
            · refine State.setFlag_keep ?_
              refine State.setTimer_keep ?_
              assumption
            · refine State.setTimer_keep ?_
              assumption
          · refine Keep.ite ?_ ?_
            · refine State.setFlag_keep ?_
              refine State.setTimer_keep ?_
              assumption
            · refine State.setTimer_keep ?_
              assumption

theorem State.timersStepped_keep {s₀ : State} {s : State} (h_s : Keep s₀ s) :
    Keep s₀ (State.timersStepped s) := by
  unfold State.timersStepped
  refine Keep.upd ?_
  assumption

theorem State.timerStart_keep {s₀ : State} {s : State} {t : Nat} {n : Nat} (h_s : Keep s₀ s) :
    Keep s₀ (State.timerStart s t n) := by
  unfold State.timerStart
  refine Keep.ite ?_ ?_
  · refine State.timerEnable_keep ?_
    · assumption
  · assumption

theorem State.timersSync_keep {s₀ : State} {s : State} {t : Nat} (h_s : Keep s₀ s) :
    Keep s₀ (State.timersSync s t) := by
  unfold State.timersSync
  refine Keep.foldl ?_ _ ?_
  · intro s1 x2 h3
    refine Keep.ite ?_ ?_
    · refine State.setTimer_keep ?_
      · assumption
    · assumption
  · assumption

theorem State.setWdog_keep {s₀ : State} {s : State} {t : Nat} {w : Wdog} (h_s : Keep s₀ s) :
    Keep s₀ (State.setWdog s t w) := by
  unfold State.setWdog
  refine Keep.upd ?_
  assumption

theorem State.wdZero_keep {s₀ : State} {s : State} {t : Nat} (h_s : Keep s₀ s) :
    Keep s₀ (State.wdZero s t) := by
  unfold State.wdZero
  refine State.setWdog_keep ?_
  · assumption

theorem State.wdHold_keep {s₀ : State} {s : State} {t : Nat} {stop : Bool} (h_s : Keep s₀ s) :
    Keep s₀ (State.wdHold s t stop) := by
  unfold State.wdHold
  refine State.setWdog_keep ?_
  · assumption

theorem State.wdRaise_keep {s₀ : State} {s : State} {t : Nat} (h_s : Keep s₀ s) :
    Keep s₀ (State.wdRaise s t) := by
  unfold State.wdRaise
  refine Keep.ite ?_ ?_
  · refine State.occur_keep ?_
    assumption
  · refine State.pulse_keep ?_
    assumption

theorem State.wdStage1_keep {s₀ : State} {s : State} {t : Nat} (h_s : Keep s₀ s) :
    Keep s₀ (State.wdStage1 s t) := by
  unfold State.wdStage1
  dsimp only
  refine Keep.ite ?_ ?_
  · refine State.produce_keep ?_
    refine State.wdRaise_keep ?_
    refine State.setF_keep ?_
    refine State.wdZero_keep ?_
    assumption
  · refine State.wdRaise_keep ?_
    refine State.setF_keep ?_
    refine State.wdZero_keep ?_
    assumption

theorem State.wdViolation_keep {s₀ : State} {s : State} {t : Nat} (h_s : Keep s₀ s) :
    Keep s₀ (State.wdViolation s t) := by
  unfold State.wdViolation
  dsimp only
  refine Keep.ite ?_ ?_
  · refine Keep.ite ?_ ?_
    · refine State.produce_keep ?_
      refine State.pulse_keep ?_
      refine State.satF_keep ?_
      assumption
    · refine State.pulse_keep ?_
      refine State.satF_keep ?_
      assumption
  · refine State.wdStage1_keep ?_
    refine Keep.ite ?_ ?_
    · refine State.produce_keep ?_
      refine State.pulse_keep ?_
      refine State.satF_keep ?_
      assumption
    · refine State.pulse_keep ?_
      refine State.satF_keep ?_
      assumption

theorem State.wdService_keep {s₀ : State} {s : State} {t : Nat} {v : Nat} (h_s : Keep s₀ s) :
    Keep s₀ (State.wdService s t v) := by
  unfold State.wdService
  dsimp only
  refine Keep.ite ?_ ?_
  · assumption
  · refine Keep.ite ?_ ?_
    · refine State.wdViolation_keep ?_
      refine Keep.ite ?_ ?_
      · refine State.wdStage1_keep ?_
        assumption
      · assumption
    · refine Keep.ite ?_ ?_
      · refine State.wdViolation_keep ?_
        refine Keep.ite ?_ ?_
        · refine State.wdStage1_keep ?_
          assumption
        · assumption
      · refine Keep.ite ?_ ?_
        · refine State.setF_keep ?_
          refine State.setFlag_keep ?_
          refine State.wdZero_keep ?_
          refine Keep.ite ?_ ?_
          · refine State.wdStage1_keep ?_
            assumption
          · assumption
        · refine State.setFlag_keep ?_
          refine State.wdZero_keep ?_
          refine Keep.ite ?_ ?_
          · refine State.wdStage1_keep ?_
            assumption
          · assumption

theorem State.wdSetTimeout_keep {s₀ : State} {s : State} {t : Nat} {v : Nat} (h_s : Keep s₀ s) :
    Keep s₀ (State.wdSetTimeout s t v).1 := by
  unfold State.wdSetTimeout
  dsimp only
  refine Keep.ite1 ?_ ?_
  · dsimp only
    assumption
  · dsimp only
    refine Keep.ite ?_ ?_
    · refine State.wdStage1_keep ?_
      refine State.setF_keep ?_
      assumption
    · refine State.setF_keep ?_
      assumption

theorem State.wdEnable_keep {s₀ : State} {s : State} {t : Nat} (h_s : Keep s₀ s) :
    Keep s₀ (State.wdEnable s t) := by
  unfold State.wdEnable
  dsimp only
  refine Keep.ite ?_ ?_
  · assumption
  · refine State.setWdog_keep ?_
    refine State.setF_keep ?_
    refine State.setFlag_keep ?_
    refine State.setFlag_keep ?_
    assumption

theorem State.wdDisable_keep {s₀ : State} {s : State} {t : Nat} (h_s : Keep s₀ s) :
    Keep s₀ (State.wdDisable s t) := by
  unfold State.wdDisable
  refine State.setWdog_keep ?_
  refine State.setFlag_keep ?_
  assumption

theorem State.wdReload_keep {s₀ : State} {s : State} {t : Nat} {f : Fld} (h_s : Keep s₀ s) :
    Keep s₀ (State.wdReload s t f) := by
  unfold State.wdReload
  dsimp only
  refine State.setWdog_keep ?_
  refine State.setF_keep ?_
  refine State.setFlag_keep ?_
  assumption

theorem State.wdRestart_keep {s₀ : State} {s : State} {t : Nat} (h_s : Keep s₀ s) :
    Keep s₀ (State.wdRestart s t) := by
  unfold State.wdRestart
  refine State.setWdog_keep ?_
  assumption

theorem State.wdFreeze_keep {s₀ : State} {s : State} {t : Nat} (h_s : Keep s₀ s) :
    Keep s₀ (State.wdFreeze s t) := by
  unfold State.wdFreeze
  dsimp only
  refine Keep.ite ?_ ?_
  · refine State.wdHold_keep ?_
    refine State.setFlag_keep ?_
    assumption
  · refine State.setFlag_keep ?_
    assumption

theorem State.wdThaw_keep {s₀ : State} {s : State} {t : Nat} (h_s : Keep s₀ s) :
    Keep s₀ (State.wdThaw s t) := by
  unfold State.wdThaw
  refine Keep.ite ?_ ?_
  · refine State.wdReload_keep ?_
    refine State.setFlag_keep ?_
    assumption
  · assumption

end Sys2Proof.Machine
end

