-- ==== Sys2Proof/Laws/KeepLathOps.lean ====
section
/-! SUPPORT. Laws/KeepLathOps.lean: every operation of Machine/LathOps.lean keeps what Laws/Keep.lean says. -/

namespace Sys2Proof.Machine

theorem State.setCin_keep {s₀ : State} {s : State} {l : Nat} {i : Nat} {c : CIn} (h_s : Keep s₀ s) :
    Keep s₀ (State.setCin s l i c) := by
  unfold State.setCin
  refine State.updLath_keep ?_
  · assumption

theorem State.overrun_keep {s₀ : State} {s : State} {l : Nat} {i : Nat} (h_s : Keep s₀ s) :
    Keep s₀ (State.overrun s l i) := by
  unfold State.overrun
  refine State.pulse_keep ?_
  · refine State.setFbit_keep ?_
    · assumption

theorem State.deliver_keep {s₀ : State} {s : State} {l : Nat} {i : Nat} {tok : Tok} (h_s : Keep s₀ s) :
    Keep s₀ (State.deliver s l i tok) := by
  unfold State.deliver
  try dsimp only
  refine Keep.ite ?_ ?_
  · refine State.setCin_keep ?_
    · assumption
  · refine Keep.ite ?_ ?_
    · refine State.overrun_keep ?_
      · refine State.setCin_keep ?_
        · assumption
    · try dsimp only
      try dsimp only
      refine State.setCin_keep ?_
      · assumption

theorem State.lathTake_keep {s₀ : State} {s : State} {l : Nat} {prod : Nat} (h_s : Keep s₀ s) :
    Keep s₀ (State.lathTake s l prod) := by
  unfold State.lathTake
  try dsimp only
  split
  · assumption
  · refine Keep.foldl ?_ _ ?_
    · intro s1 x2 h3
      refine Keep.ite ?_ ?_
      · refine State.deliver_keep ?_
        · assumption
      · assumption
    · refine State.updLath_keep ?_
      · assumption

theorem State.tookOne_keep {s₀ : State} {s : State} {l : Nat} {i : Nat} (h_s : Keep s₀ s) :
    Keep s₀ (State.tookOne s l i) := by
  unfold State.tookOne
  try dsimp only
  refine State.updLath_keep ?_
  · refine State.setCin_keep ?_
    · assumption

theorem State.overranOne_keep {s₀ : State} {s : State} {l : Nat} {i : Nat} (h_s : Keep s₀ s) :
    Keep s₀ (State.overranOne s l i) := by
  unfold State.overranOne
  try dsimp only
  refine State.overrun_keep ?_
  · refine State.setCin_keep ?_
    · assumption

theorem State.dropEvent_keep {s₀ : State} {s : State} {l : Nat} {tok : Tok} (h_s : Keep s₀ s) :
    Keep s₀ (State.dropEvent s l tok) := by
  unfold State.dropEvent
  dsimp only
  refine State.pulse_keep ?_
  refine State.setFlag_keep ?_
  refine State.setF_keep ?_
  refine State.setF_keep ?_
  refine State.setF_keep ?_
  refine State.setF_keep ?_
  refine State.setFlag_keep ?_
  refine State.incF_keep ?_
  assumption

theorem State.passLink_keep {s₀ : State} {s : State} {l : Nat} {i : Nat} {tok : Tok} (h_s : Keep s₀ s) :
    Keep s₀ (State.passLink s l i tok) := by
  unfold State.passLink
  split
  · assumption
  · refine Keep.ite ?_ ?_
    · try dsimp only
      refine State.pulse_keep ?_
      · refine State.setFlag_keep ?_
        · refine State.setF_keep ?_
          · refine State.setF_keep ?_
            · refine State.setF_keep ?_
              · refine State.setF_keep ?_
                · refine State.setFlag_keep ?_
                  · refine State.incF_keep ?_
                    · assumption
    · refine State.produceTok_keep ?_
      · assumption

theorem State.routeCommit_keep {s₀ : State} {s : State} {l : Nat} {req : Nat} (h_s : Keep s₀ s) :
    Keep s₀ (State.routeCommit s l req) := by
  unfold State.routeCommit
  try dsimp only
  try dsimp only
  try dsimp only
  refine State.updLath_keep ?_
  · assumption

theorem State.routeLoad_keep {s₀ : State} {s : State} {l : Nat} {req : Nat} (h_s : Keep s₀ s) :
    Keep s₀ (State.routeLoad s l req) := by
  unfold State.routeLoad
  try dsimp only
  refine Keep.foldl ?_ _ ?_
  · intro s1 x2 h3
    refine State.setF_keep ?_
    · assumption
  · assumption

theorem State.lathSelect_keep {s₀ : State} {s : State} {l : Nat} {req : Nat} {v : Nat} (h_s : Keep s₀ s) :
    Keep s₀ (State.lathSelect s l req v).1 := by
  unfold State.lathSelect
  try dsimp only
  refine Keep.ite1 ?_ ?_
  · try dsimp only
    assumption
  · try dsimp only
    try dsimp only
    refine State.updLath_keep ?_
    · assumption

theorem State.softEvent_keep {s₀ : State} {s : State} {l : Nat} {n : Nat} (h_s : Keep s₀ s) :
    Keep s₀ (State.softEvent s l n).1 := by
  unfold State.softEvent
  refine Keep.ite1 ?_ ?_
  · try dsimp only
    assumption
  · try dsimp only
    try dsimp only
    refine State.updLath_keep ?_
    · refine State.produceTok_keep ?_
      · assumption

theorem State.gpioProduce_keep {s₀ : State} {s : State} {pin : Nat} (h_s : Keep s₀ s) :
    Keep s₀ (State.gpioProduce s pin) := by
  unfold State.gpioProduce
  try dsimp only
  refine State.pulse_keep ?_
  · refine State.incF_keep ?_
    · refine State.produce_keep ?_
      · assumption

theorem State.gpioMark_keep {s₀ : State} {s : State} {pin : Nat} (h_s : Keep s₀ s) :
    Keep s₀ (State.gpioMark s pin) := by
  unfold State.gpioMark
  refine Keep.upd ?_
  assumption

theorem State.gpioAt_keep {s₀ : State} {s : State} {pin : Nat} {level : Bool} (h_s : Keep s₀ s) :
    Keep s₀ (State.gpioAt s pin level) := by
  unfold State.gpioAt
  refine Keep.ite ?_ ?_
  · assumption
  · dsimp only
    refine Keep.upd ?_
    refine State.gpioMark_keep ?_
    assumption

theorem State.gpioResume_keep {s₀ : State} {s : State} {pin : Nat} (h_s : Keep s₀ s) :
    Keep s₀ (State.gpioResume s pin) := by
  unfold State.gpioResume
  refine Keep.upd ?_
  assumption

theorem State.gpioSample_keep {s₀ : State} {s : State} {pin : Nat} (h_s : Keep s₀ s) :
    Keep s₀ (State.gpioSample s pin) := by
  unfold State.gpioSample
  dsimp only
  refine Keep.ite ?_ ?_
  · assumption
  · refine Keep.ite ?_ ?_
    · refine State.gpioProduce_keep ?_
      refine State.setFbit_keep ?_
      assumption
    · refine State.setFbit_keep ?_
      assumption

theorem State.gpioFire_keep {s₀ : State} {s : State} {pin : Nat} (h_s : Keep s₀ s) :
    Keep s₀ (State.gpioFire s pin) := by
  unfold State.gpioFire
  dsimp only
  refine Keep.ite ?_ ?_
  · refine Keep.upd ?_
    refine State.gpioProduce_keep ?_
    refine Keep.upd ?_
    assumption
  · refine State.gpioProduce_keep ?_
    refine Keep.upd ?_
    assumption

theorem State.gpioReplay_keep {s₀ : State} {s : State} {pin : Nat} (h_s : Keep s₀ s) :
    Keep s₀ (State.gpioReplay s pin) := by
  unfold State.gpioReplay
  refine Keep.ite ?_ ?_
  · refine State.gpioResume_keep ?_
    assumption
  · refine State.gpioFire_keep ?_
    assumption

theorem State.gpioTick_keep {s₀ : State} {s : State} (h_s : Keep s₀ s) :
    Keep s₀ (State.gpioTick s) := by
  unfold State.gpioTick
  refine Keep.ite ?_ ?_
  · assumption
  · refine Keep.foldl ?_ _ ?_
    · intro x1 x2 h3
      refine Keep.ite ?_ ?_
      · refine State.gpioFire_keep ?_
        assumption
      · assumption
    · assumption

theorem State.gpioAction_keep {s₀ : State} {s : State} {pin : Nat} (h_s : Keep s₀ s) :
    Keep s₀ (State.gpioAction s pin) := by
  unfold State.gpioAction
  try dsimp only
  refine State.setFbit_keep ?_
  · assumption

theorem State.gpioRerun_keep {s₀ : State} {s : State} {c : Nat} {m : Nat} (h_s : Keep s₀ s) :
    Keep s₀ (State.gpioRerun s c m) := by
  unfold State.gpioRerun
  refine Keep.foldl ?_ _ ?_
  · intro x1 x2 h3
    refine Keep.ite ?_ ?_
    · refine State.gpioAction_keep ?_
      assumption
    · assumption
  · assumption

theorem State.startHold_keep {s₀ : State} {s : State} {key : Nat} {units : Nat} {base : Nat} {f : Fld} {b : Nat} (h_s : Keep s₀ s) :
    Keep s₀ (State.startHold s key units base f b) := by
  unfold State.startHold
  refine Keep.ite ?_ ?_
  · assumption
  · refine State.setFbit_keep ?_
    · refine Keep.upd ?_
      assumption

theorem State.endHold_keep {s₀ : State} {s : State} {key : Nat} {base : Nat} {f : Fld} {b : Nat} (h_s : Keep s₀ s) :
    Keep s₀ (State.endHold s key base f b) := by
  unfold State.endHold
  refine State.setFbit_keep ?_
  · refine Keep.upd ?_
    assumption

theorem State.intcAccept_keep {s₀ : State} {s : State} {t : Nat} {x : Nat} {lv : Nat} {l : Nat} (h_s : Keep s₀ s) :
    Keep s₀ (State.intcAccept s t x lv l) := by
  unfold State.intcAccept
  dsimp only
  refine State.startHold_keep ?_
  refine Keep.ite ?_ ?_
  · refine Keep.ite ?_ ?_
    · refine State.incF_keep ?_
      refine State.setF_keep ?_
      refine State.setFlag_keep ?_
      refine State.setF_keep ?_
      refine State.setF_keep ?_
      assumption
    · refine State.setF_keep ?_
      refine Keep.upd ?_
      refine State.incF_keep ?_
      refine State.setF_keep ?_
      refine State.setFlag_keep ?_
      refine State.setF_keep ?_
      refine State.setF_keep ?_
      assumption
  · refine State.setFbit_keep ?_
    refine State.setF_keep ?_
    refine Keep.ite ?_ ?_
    · refine State.incF_keep ?_
      refine State.setF_keep ?_
      refine State.setFlag_keep ?_
      refine State.setF_keep ?_
      refine State.setF_keep ?_
      assumption
    · refine State.setF_keep ?_
      refine Keep.upd ?_
      refine State.incF_keep ?_
      refine State.setF_keep ?_
      refine State.setFlag_keep ?_
      refine State.setF_keep ?_
      refine State.setF_keep ?_
      assumption

theorem State.dintcClaim_keep {s₀ : State} {s : State} {req : Nat} (h_s : Keep s₀ s) :
    Keep s₀ (State.dintcClaim s req).2 := by
  unfold State.dintcClaim
  split
  · try dsimp only
    assumption
  · try dsimp only
    try dsimp only
    refine State.startHold_keep ?_
    · refine State.incF_keep ?_
      · refine State.setF_keep ?_
        · assumption

theorem State.doorbell_keep {s₀ : State} {s : State} {req : Nat} {t : Nat} {v : Nat} (h_s : Keep s₀ s) :
    Keep s₀ (State.doorbell s req t v).1 := by
  unfold State.doorbell
  split
  · try dsimp only
    refine State.arrive_keep ?_
    · assumption
  · try dsimp only
    assumption

theorem State.applyWake_keep {s₀ : State} {s : State} {t : Nat} (h_s : Keep s₀ s) :
    Keep s₀ (State.applyWake s t) := by
  unfold State.applyWake
  try dsimp only
  refine Keep.foldl ?_ _ ?_
  · intro s1 x2 h3
    refine State.arrive_keep ?_
    · assumption
  · refine State.setF_keep ?_
    · refine Keep.upd ?_
      assumption

end Sys2Proof.Machine
end

