-- ==== Sys2Proof/Laws/KeepLoopOps.lean ====
section
/-! SUPPORT. Laws/KeepLoopOps.lean: every operation of Machine/LoopOps.lean keeps what Laws/Keep.lean says. -/

namespace Sys2Proof.Machine

theorem State.setGen_keep {s₀ : State} {s : State} {t : Nat} {g : Nat} {x : Gen} (h_s : Keep s₀ s) :
    Keep s₀ (State.setGen s t g x) := by
  unfold State.setGen
  refine Keep.upd ?_
  assumption

theorem State.setCtxWord_keep {s₀ : State} {s : State} {t : Nat} {n : Nat} {w : Nat} {v : Nat} (h_s : Keep s₀ s) :
    Keep s₀ (State.setCtxWord s t n w v) := by
  unfold State.setCtxWord
  try dsimp only
  refine Keep.ite ?_ ?_
  · refine State.satF_keep ?_
    · refine Keep.upd ?_
      refine Keep.upd ?_
      assumption
  · refine Keep.upd ?_
    assumption

theorem State.applyCore_keep {s₀ : State} {s : State} {t : Nat} {c : CoreWrite} (h_s : Keep s₀ s) :
    Keep s₀ (State.applyCore s t c) := by
  unfold State.applyCore
  try dsimp only
  refine Keep.ite ?_ ?_
  · refine State.setCtxWord_keep ?_
    · refine State.setCtxWord_keep ?_
      · assumption
  · refine State.setCtxWord_keep ?_
    · assumption

theorem State.applyPlan_keep {s₀ : State} {s : State} {t : Nat} {p : PlanCommit} (h_s : Keep s₀ s) :
    Keep s₀ (State.applyPlan s t p) := by
  unfold State.applyPlan
  refine State.setCtxWord_keep ?_
  · refine State.setCtxWord_keep ?_
    · assumption

theorem State.setStage_keep {s₀ : State} {s : State} {t : Nat} {x : TileStage} (h_s : Keep s₀ s) :
    Keep s₀ (State.setStage s t x) := by
  unfold State.setStage
  refine State.setF_keep ?_
  · refine Keep.upd ?_
    assumption

theorem State.bothTiles_keep {s₀ : State} {s : State} {t : Nat} {f : State → Nat → State} (h_s : Keep s₀ s) (h_f : ∀ z0 z1, Keep s₀ z0 → Keep s₀ (f z0 z1)) :
    Keep s₀ (State.bothTiles s t f) := by
  unfold State.bothTiles
  dsimp only
  split
  · refine Keep.ite ?_ ?_
    · refine h_f _ _ ?_
      refine h_f _ _ ?_
      assumption
    · refine h_f _ _ ?_
      assumption
  · refine h_f _ _ ?_
    assumption

theorem State.noteMirror_keep {s₀ : State} {s : State} {t : Nat} {c : CoreWrite} (h_s : Keep s₀ s) :
    Keep s₀ (State.noteMirror s t c) := by
  unfold State.noteMirror
  split
  · refine Keep.ite ?_ ?_
    · refine Keep.upd ?_
      assumption
    · assumption
  · assumption

theorem State.putCore_keep {s₀ : State} {s : State} {t : Nat} {c : CoreWrite} (h_s : Keep s₀ s) :
    Keep s₀ (State.putCore s t c) := by
  unfold State.putCore
  refine Keep.ite ?_ ?_
  · refine State.noteMirror_keep ?_
    refine State.setStage_keep ?_
    assumption
  · refine State.applyCore_keep ?_
    assumption

theorem State.takeCore_keep {s₀ : State} {s : State} {t : Nat} {c : CoreWrite} (h_s : Keep s₀ s) :
    Keep s₀ (State.takeCore s t c).1 := by
  unfold State.takeCore
  dsimp only
  refine Keep.ite1 ?_ ?_
  · dsimp only
    refine State.satF_keep ?_
    refine State.setStage_keep ?_
    assumption
  · dsimp only
    refine State.bothTiles_keep ?_ ?_
    · assumption
    · intro x1 x2 h3
      refine State.putCore_keep ?_
      assumption

theorem State.takePlan_keep {s₀ : State} {s : State} {t : Nat} {p : PlanCommit} (h_s : Keep s₀ s) :
    Keep s₀ (State.takePlan s t p) := by
  unfold State.takePlan
  refine Keep.ite ?_ ?_
  · try dsimp only
    refine State.setStage_keep ?_
    · assumption
  · refine State.applyPlan_keep ?_
    · assumption

theorem State.boundaryTo_keep {s₀ : State} {s : State} {t : Nat} {g : Nat} {last : Nat} (h_s : Keep s₀ s) :
    Keep s₀ (State.boundaryTo s t g last) := by
  unfold State.boundaryTo
  dsimp only
  refine Keep.foldl ?_ _ ?_
  · intro x1 x2 h3
    refine State.applyCore_keep ?_
    assumption
  · refine Keep.foldl ?_ _ ?_
    · intro x4 x5 h6
      refine State.applyPlan_keep ?_
      assumption
    · refine State.setStage_keep ?_
      assumption

theorem State.boundary_keep {s₀ : State} {s : State} {t : Nat} {g : Nat} (h_s : Keep s₀ s) :
    Keep s₀ (State.boundary s t g) := by
  unfold State.boundary
  try dsimp only
  refine Keep.foldl ?_ _ ?_
  · intro s1 x2 h3
    refine State.applyCore_keep ?_
    · assumption
  · refine Keep.foldl ?_ _ ?_
    · intro s4 x5 h6
      refine State.applyPlan_keep ?_
      · assumption
    · refine State.setStage_keep ?_
      · assumption

theorem State.stageRelease_keep {s₀ : State} {s : State} {t : Nat} (h_s : Keep s₀ s) :
    Keep s₀ (State.stageRelease s t) := by
  unfold State.stageRelease
  try dsimp only
  split
  · assumption
  · refine Keep.ite ?_ ?_
    · try dsimp only
      refine State.respond_keep ?_
      · refine State.takeCore_keep ?_
        · refine State.setStage_keep ?_
          · assumption
    · assumption

theorem State.countMerged_keep {s₀ : State} {s : State} {t : Nat} (h_s : Keep s₀ s) :
    Keep s₀ (State.countMerged s t) := by
  unfold State.countMerged
  split
  · refine Keep.ite ?_ ?_
    · refine Keep.upd ?_
      assumption
    · refine State.satF_keep ?_
      assumption
  · refine State.satF_keep ?_
    assumption

theorem State.trigger_keep {s₀ : State} {s : State} {t : Nat} {n : Nat} {vals : List Nat} {arr : Nat} (h_s : Keep s₀ s) :
    Keep s₀ (State.trigger s t n vals arr) := by
  unfold State.trigger
  refine Keep.ite ?_ ?_
  · refine State.satF_keep ?_
    assumption
  · dsimp only
    refine Keep.upd ?_
    refine Keep.ite ?_ ?_
    · refine State.countMerged_keep ?_
      assumption
    · assumption

theorem State.wake_keep {s₀ : State} {s : State} {t : Nat} {m : Nat} {n : Nat} {val : Nat} (h_s : Keep s₀ s) :
    Keep s₀ (State.wake s t m n val) := by
  unfold State.wake
  dsimp only
  refine Keep.ite ?_ ?_
  · refine State.countMerged_keep ?_
    assumption
  · refine State.trigger_keep ?_
    refine Keep.upd ?_
    assumption

theorem State.triggerBoth_keep {s₀ : State} {s : State} {t : Nat} {n : Nat} {vals : List Nat} {arr : Nat} (h_s : Keep s₀ s) :
    Keep s₀ (State.triggerBoth s t n vals arr) := by
  unfold State.triggerBoth
  refine State.bothTiles_keep ?_ ?_
  · assumption
  · intro x1 x2 h3
    refine State.trigger_keep ?_
    assumption

theorem State.triggerAll_keep {s₀ : State} {s : State} {t : Nat} {src : Nat} {sel : Nat} {vals : List Nat} {arr : Nat} (h_s : Keep s₀ s) :
    Keep s₀ (State.triggerAll s t src sel vals arr) := by
  unfold State.triggerAll
  refine Keep.ite ?_ ?_
  · assumption
  · refine Keep.foldl ?_ _ ?_
    · intro s1 x2 h3
      refine State.trigger_keep ?_
      · assumption
    · assumption

theorem State.setStep_keep {s₀ : State} {s : State} {t : Nat} {k : Nat} {v : Nat} (h_s : Keep s₀ s) :
    Keep s₀ (State.setStep s t k v) := by
  unfold State.setStep
  refine Keep.upd ?_
  assumption

theorem State.stepWrite_keep {s₀ : State} {s : State} {h : HeldStep} (h_s : Keep s₀ s) :
    Keep s₀ (State.stepWrite s h).1 := by
  unfold State.stepWrite
  dsimp only
  refine Keep.ite1 ?_ ?_
  · dsimp only
    assumption
  · refine Keep.ite1 ?_ ?_
    · dsimp only
      refine Keep.upd ?_
      assumption
    · dsimp only
      refine State.setStep_keep ?_
      assumption

theorem State.heldStepApply_keep {s₀ : State} {s : State} {t : Nat} (h_s : Keep s₀ s) :
    Keep s₀ (State.heldStepApply s t) := by
  unfold State.heldStepApply
  split
  · assumption
  · refine State.respond_keep ?_
    · refine State.satF_keep ?_
      · refine State.setStep_keep ?_
        · refine Keep.upd ?_
          assumption

theorem State.laneSpare_keep {s₀ : State} {s : State} {t : Nat} {k : Nat} {lane : Nat} (h_s : Keep s₀ s) :
    Keep s₀ (State.laneSpare s t k lane) := by
  unfold State.laneSpare
  dsimp only
  refine Keep.ite ?_ ?_
  · refine State.pulse_keep ?_
    refine State.satF_keep ?_
    refine State.setF_keep ?_
    refine State.setF_keep ?_
    refine Keep.upd ?_
    assumption
  · refine Keep.ite ?_ ?_
    · refine State.pulse_keep ?_
      refine State.setF_keep ?_
      refine State.setF_keep ?_
      assumption
    · assumption

theorem State.sliceSpare_keep {s₀ : State} {s : State} {t : Nat} {k : Nat} (h_s : Keep s₀ s) :
    Keep s₀ (State.sliceSpare s t k).1 := by
  unfold State.sliceSpare
  dsimp only
  refine Keep.foldl ?_ _ ?_
  · intro x1 x2 h3
    refine State.laneSpare_keep ?_
    assumption
  · refine Keep.upd ?_
    assumption

theorem State.abandon_keep {s₀ : State} {s : State} {t : Nat} {k : Nat} {r : Run} (h_s : Keep s₀ s) :
    Keep s₀ (State.abandon s t k r) := by
  unfold State.abandon
  dsimp only
  refine Keep.ite ?_ ?_
  · refine State.countMerged_keep ?_
    refine State.pulse_keep ?_
    refine State.satF_keep ?_
    refine Keep.upd ?_
    assumption
  · refine Keep.upd ?_
    refine State.pulse_keep ?_
    refine State.satF_keep ?_
    refine Keep.upd ?_
    assumption

theorem State.readySlice_keep {s₀ : State} {n0 : Nat} {s : State} {t : Nat} (h_s : Keep s₀ s) :
    Keep s₀ (State.readySlice n0 s t).1 := by
  induction n0 generalizing s with
  | zero => exact h_s
  | succ k ih =>
    unfold State.readySlice
    split
    · exact h_s
    · exact Keep.ite1 (State.sliceSpare_keep h_s) (ih (State.sliceSpare_keep h_s))

theorem State.readyVictim_keep {s₀ : State} {n0 : Nat} {s : State} {t : Nat} (h_s : Keep s₀ s) :
    Keep s₀ (State.readyVictim n0 s t).1 := by
  induction n0 generalizing s with
  | zero => exact h_s
  | succ k ih =>
    unfold State.readyVictim
    split
    · exact h_s
    · exact Keep.ite1 (State.sliceSpare_keep h_s) (ih (State.sliceSpare_keep h_s))

theorem State.place_keep {s₀ : State} {s : State} {t : Nat} {n : Nat} {tr : Trig} {k : Nat} (h_s : Keep s₀ s) :
    Keep s₀ (State.place s t n tr k) := by
  unfold State.place
  try dsimp only
  refine State.maxF_keep ?_
  · refine Keep.upd ?_
    assumption

theorem State.ctxUncorr_keep {s₀ : State} {s : State} {t : Nat} {n : Nat} (h_s : Keep s₀ s) :
    Keep s₀ (State.ctxUncorr s t n) := by
  unfold State.ctxUncorr
  refine State.satF_keep ?_
  · refine State.setCtxWord_keep ?_
    · assumption

theorem State.dispatch_keep {s₀ : State} {s : State} {t : Nat} {badWord : Nat} (h_s : Keep s₀ s) :
    Keep s₀ (State.dispatch s t badWord) := by
  unfold State.dispatch
  refine Keep.ite ?_ ?_
  · assumption
  · split
    · assumption
    · refine Keep.ite ?_ ?_
      · refine State.ctxUncorr_keep ?_
        assumption
      · split
        · rename_i v1 v2 v3 e4 v5 v6 v7 e8
          have kv6 : Keep s₀ v6 := by
            rw [show v6 = _ from (congrArg (fun q => q.1) e8).symm]
            refine State.readySlice_keep ?_
            assumption
          refine State.place_keep ?_
          assumption
        · rename_i v9 v10 v11 e12 v13 v14 e15
          have kv14 : Keep s₀ v14 := by
            rw [show v14 = _ from (congrArg (fun q => q.1) e15).symm]
            refine State.readySlice_keep ?_
            assumption
          refine Keep.ite ?_ ?_
          · split
            · rename_i v16 v17 v18 v19 e20
              have kv17 : Keep s₀ v17 := by
                rw [show v17 = _ from (congrArg (fun q => q.1) e20).symm]
                refine State.readyVictim_keep ?_
                assumption
              refine State.place_keep ?_
              refine State.abandon_keep ?_
              assumption
            · rename_i v21 v22 e23
              have kv22 : Keep s₀ v22 := by
                rw [show v22 = _ from (congrArg (fun q => q.1) e23).symm]
                refine State.readyVictim_keep ?_
                assumption
              assumption
          · assumption

theorem State.stepUncorr_keep {s₀ : State} {s : State} {t : Nat} {k : Nat} (h_s : Keep s₀ s) :
    Keep s₀ (State.stepUncorr s t k) := by
  unfold State.stepUncorr
  dsimp only
  refine State.setFlag_keep ?_
  refine State.setF_keep ?_
  refine Keep.upd ?_
  refine Keep.ite ?_ ?_
  · assumption
  · refine State.satF_keep ?_
    assumption

theorem State.stepRepair_keep {s₀ : State} {s : State} {t : Nat} {k : Nat} (h_s : Keep s₀ s) :
    Keep s₀ (State.stepRepair s t k) := by
  unfold State.stepRepair
  refine State.satF_keep ?_
  refine Keep.upd ?_
  assumption

theorem State.stepRead_keep {s₀ : State} {s : State} {t : Nat} {k : Nat} (h_s : Keep s₀ s) :
    Keep s₀ (State.stepRead s t k).1 := by
  unfold State.stepRead
  split
  · dsimp only
    assumption
  · refine Keep.ite1 ?_ ?_
    · dsimp only
      refine State.stepRepair_keep ?_
      assumption
    · dsimp only
      refine State.stepUncorr_keep ?_
      assumption

theorem State.stepDone_keep {s₀ : State} {s : State} {t : Nat} {k : Nat} {r : Run} {rest : List Run} {r' : Run} (h_s : Keep s₀ s) :
    Keep s₀ (State.stepDone s t k r rest r') := by
  unfold State.stepDone
  dsimp only
  refine Keep.ite ?_ ?_
  · refine Keep.upd ?_
    assumption
  · refine Keep.upd ?_
    assumption

theorem State.runStep_keep {s₀ : State} {s : State} {t : Nat} {k : Nat} {op : Nat} {f : Run → Nat → Run} (h_s : Keep s₀ s) :
    Keep s₀ (State.runStep s t k op f) := by
  unfold State.runStep
  split
  · assumption
  · refine Keep.ite ?_ ?_
    · assumption
    · dsimp only
      refine Keep.ite ?_ ?_
      · refine Keep.upd ?_
        refine State.stepRead_keep ?_
        assumption
      · refine Keep.upd ?_
        refine State.stepRead_keep ?_
        assumption

theorem State.lengFault_keep {s₀ : State} {s : State} {t : Nat} {n : Nat} {cause : Nat} {step : Nat} (h_s : Keep s₀ s) :
    Keep s₀ (State.lengFault s t n cause step) := by
  unfold State.lengFault
  try dsimp only
  refine Keep.ite ?_ ?_
  · refine State.satF_keep ?_
    · assumption
  · refine State.setFlag_keep ?_
    · refine State.setF_keep ?_
      · refine State.setF_keep ?_
        · refine State.setF_keep ?_
          · refine State.satF_keep ?_
            · assumption

theorem State.outvoted_keep {s₀ : State} {s : State} {t : Nat} {k : Nat} {lane : Nat} (h_s : Keep s₀ s) :
    Keep s₀ (State.outvoted s t k lane) := by
  unfold State.outvoted
  try dsimp only
  refine Keep.upd ?_
  split
  · refine Keep.ite ?_ ?_
    · refine Keep.upd ?_
      refine State.pulse_keep ?_
      · refine State.satF_keep ?_
        · refine State.satF_keep ?_
          · assumption
    · refine State.pulse_keep ?_
      · refine State.satF_keep ?_
        · refine State.satF_keep ?_
          · assumption
  · refine State.pulse_keep ?_
    · refine State.satF_keep ?_
      · refine State.satF_keep ?_
        · assumption

theorem State.commitCmp_keep {s₀ : State} {s : State} {t : Nat} {n : Nat} {c : Nat × Nat × Nat} (h_s : Keep s₀ s) :
    Keep s₀ (State.commitCmp s t n c) := by
  unfold State.commitCmp
  try dsimp only
  split
  · try dsimp only
    refine Keep.ite ?_ ?_
    · try dsimp only
      refine State.setGen_keep ?_
      · refine State.satF_keep ?_
        · assumption
    · refine State.satF_keep ?_
      · assumption
  · refine State.setGen_keep ?_
    · assumption

theorem State.sendShared_keep {s₀ : State} {s : State} {c : Nat} {idx : Nat} {val : Nat} {ord : Nat} (h_s : Keep s₀ s) :
    Keep s₀ (State.sendShared s c idx val ord) := by
  unfold State.sendShared
  refine Keep.upd ?_
  assumption

theorem State.applyShared_keep {s₀ : State} {s : State} {c : Nat} (h_s : Keep s₀ s) :
    Keep s₀ (State.applyShared s c) := by
  unfold State.applyShared
  try dsimp only
  refine Keep.foldl ?_ _ ?_
  · intro s1 x2 h3
    refine Keep.foldl ?_ _ ?_
    · intro s4 x5 h6
      refine State.setF_keep ?_
      · assumption
    · assumption
  · refine Keep.upd ?_
    assumption

theorem State.presetLost_keep {s₀ : State} {s : State} {t : Nat} {r : Run} {wrote : Nat} (h_s : Keep s₀ s) :
    Keep s₀ (State.presetLost s t r wrote) := by
  unfold State.presetLost
  try dsimp only
  refine Keep.ite ?_ ?_
  · assumption
  · refine State.setFlag_keep ?_
    · refine State.setF_keep ?_
      · refine State.satF_keep ?_
        · refine State.setStage_keep ?_
          · assumption

theorem State.commitRun_keep {s₀ : State} {s : State} {t : Nat} {r : Run} (h_s : Keep s₀ s) :
    Keep s₀ (State.commitRun s t r) := by
  unfold State.commitRun
  dsimp only
  refine State.setCtxWord_keep ?_
  refine Keep.foldl ?_ _ ?_
  · intro x1 x2 h3
    refine Keep.ite ?_ ?_
    · refine State.setCtxWord_keep ?_
      assumption
    · assumption
  · refine State.presetLost_keep ?_
    split
    · refine State.pulse_keep ?_
      refine State.setFlag_keep ?_
      refine State.setF_keep ?_
      refine State.setF_keep ?_
      refine State.satF_keep ?_
      refine Keep.ite ?_ ?_
      · refine Keep.foldl ?_ _ ?_
        · intro x4 x5 h6
          refine State.produce_keep ?_
          assumption
        · refine Keep.foldl ?_ _ ?_
          · intro x7 x8 h9
            refine State.wake_keep ?_
            assumption
          · refine Keep.ite ?_ ?_
            · refine Keep.foldl ?_ _ ?_
              · intro x10 x11 h12
                refine State.sendShared_keep ?_
                assumption
              · refine Keep.foldl ?_ _ ?_
                · intro x13 x14 h15
                  refine State.commitCmp_keep ?_
                  assumption
                · assumption
            · refine Keep.foldl ?_ _ ?_
              · intro x16 x17 h18
                refine State.commitCmp_keep ?_
                assumption
              · assumption
      · refine Keep.foldl ?_ _ ?_
        · intro x19 x20 h21
          refine State.wake_keep ?_
          assumption
        · refine Keep.ite ?_ ?_
          · refine Keep.foldl ?_ _ ?_
            · intro x22 x23 h24
              refine State.sendShared_keep ?_
              assumption
            · refine Keep.foldl ?_ _ ?_
              · intro x25 x26 h27
                refine State.commitCmp_keep ?_
                assumption
              · assumption
          · refine Keep.foldl ?_ _ ?_
            · intro x28 x29 h30
              refine State.commitCmp_keep ?_
              assumption
            · assumption
    · refine Keep.ite ?_ ?_
      · refine Keep.foldl ?_ _ ?_
        · intro x31 x32 h33
          refine State.produce_keep ?_
          assumption
        · refine Keep.foldl ?_ _ ?_
          · intro x34 x35 h36
            refine State.wake_keep ?_
            assumption
          · refine Keep.ite ?_ ?_
            · refine Keep.foldl ?_ _ ?_
              · intro x37 x38 h39
                refine State.sendShared_keep ?_
                assumption
              · refine Keep.foldl ?_ _ ?_
                · intro x40 x41 h42
                  refine State.commitCmp_keep ?_
                  assumption
                · assumption
            · refine Keep.foldl ?_ _ ?_
              · intro x43 x44 h45
                refine State.commitCmp_keep ?_
                assumption
              · assumption
      · refine Keep.foldl ?_ _ ?_
        · intro x46 x47 h48
          refine State.wake_keep ?_
          assumption
        · refine Keep.ite ?_ ?_
          · refine Keep.foldl ?_ _ ?_
            · intro x49 x50 h51
              refine State.sendShared_keep ?_
              assumption
            · refine Keep.foldl ?_ _ ?_
              · intro x52 x53 h54
                refine State.commitCmp_keep ?_
                assumption
              · assumption
          · refine Keep.foldl ?_ _ ?_
            · intro x55 x56 h57
              refine State.commitCmp_keep ?_
              assumption
            · assumption

theorem State.runCommit_keep {s₀ : State} {s : State} {t : Nat} {k : Nat} {lanes : Nat} {nomaj : Bool} (h_s : Keep s₀ s) :
    Keep s₀ (State.runCommit s t k lanes nomaj) := by
  unfold State.runCommit
  split
  · assumption
  · refine Keep.ite ?_ ?_
    · assumption
    · try dsimp only
      try dsimp only
      refine Keep.ite ?_ ?_
      · refine State.pulse_keep ?_
        · refine State.lengFault_keep ?_
          · refine State.satF_keep ?_
            · refine Keep.foldl ?_ _ ?_
              · intro s1 x2 h3
                refine Keep.ite ?_ ?_
                · refine State.outvoted_keep ?_
                  · assumption
                · assumption
              · refine State.incF_keep ?_
                · refine Keep.upd ?_
                  assumption
      · refine Keep.ite ?_ ?_
        · try dsimp only
          try dsimp only
          refine State.setCtxWord_keep ?_
          · refine State.presetLost_keep ?_
            · refine State.pulse_keep ?_
              · refine State.lengFault_keep ?_
                · refine Keep.foldl ?_ _ ?_
                  · intro s4 x5 h6
                    refine Keep.ite ?_ ?_
                    · refine State.outvoted_keep ?_
                      · assumption
                    · assumption
                  · refine State.incF_keep ?_
                    · refine Keep.upd ?_
                      assumption
        · refine State.commitRun_keep ?_
          · refine Keep.foldl ?_ _ ?_
            · intro s7 x8 h9
              refine Keep.ite ?_ ?_
              · refine State.outvoted_keep ?_
                · assumption
              · assumption
            · refine State.incF_keep ?_
              · refine Keep.upd ?_
                assumption

end Sys2Proof.Machine
end

