-- ==== Sys2Proof/Laws/KeepRingOps.lean ====
section
/-! SUPPORT. Laws/KeepRingOps.lean: every operation of Machine/RingOps.lean keeps what Laws/Keep.lean says. -/

namespace Sys2Proof.Machine

theorem State.setRing_keep {s₀ : State} {s : State} {r : Nat} {x : RingSt} (h_s : Keep s₀ s) :
    Keep s₀ (State.setRing s r x) := by
  unfold State.setRing
  refine Keep.upd ?_
  assumption

theorem State.nextSeq_keep {s₀ : State} {s : State} {r : Nat} {key : Nat} (h_s : Keep s₀ s) :
    Keep s₀ (State.nextSeq s r key).2 := by
  unfold State.nextSeq
  dsimp only
  refine State.setRing_keep ?_
  assumption

theorem State.enqueueFrame_keep {s₀ : State} {s : State} {r : Nat} {d : Nat} {i : QItem} (h_s : Keep s₀ s) :
    Keep s₀ (State.enqueueFrame s r d i) := by
  unfold State.enqueueFrame
  try dsimp only
  refine Keep.ite ?_ ?_
  · assumption
  · refine Keep.ite ?_ ?_
    · refine State.pulse_keep ?_
      · refine State.satF_keep ?_
        · assumption
    · refine State.setRing_keep ?_
      · assumption

theorem State.enqueueBoth_keep {s₀ : State} {s : State} {r : Nat} {i : QItem} (h_s : Keep s₀ s) :
    Keep s₀ (State.enqueueBoth s r i) := by
  unfold State.enqueueBoth
  refine State.enqueueFrame_keep ?_
  · refine State.enqueueFrame_keep ?_
    · assumption

theorem State.purge_keep {s₀ : State} {s : State} {r : Nat} {pos : Nat} {leg : Nat} (h_s : Keep s₀ s) :
    Keep s₀ (State.purge s r pos leg) := by
  unfold State.purge
  try dsimp only
  refine State.satF_keep ?_
  · refine State.setRing_keep ?_
    · assumption

theorem State.blockCommand_keep {s₀ : State} {s : State} {r : Nat} {pos : Nat} {leg : Nat} {gen : Nat} (h_s : Keep s₀ s) :
    Keep s₀ (State.blockCommand s r pos leg gen) := by
  unfold State.blockCommand
  try dsimp only
  refine State.klogRecord_keep ?_
  · refine State.setRing_keep ?_
    · refine State.enqueueBoth_keep ?_
      · refine State.nextSeq_keep ?_
        · refine State.purge_keep ?_
          · assumption

theorem State.blockAgain_keep {s₀ : State} {s : State} {r : Nat} (h_s : Keep s₀ s) :
    Keep s₀ (State.blockAgain s r) := by
  unfold State.blockAgain
  try dsimp only
  split
  · assumption
  · refine State.enqueueBoth_keep ?_
    · refine State.setRing_keep ?_
      · assumption

theorem State.handSet_keep {s₀ : State} {s : State} {r : Nat} {pos : Nat} {leg : Nat} {gen : Nat} {base : Nat} {per : Nat} {pnum : Nat} {ents : List (Nat × Nat × Bool)} (h_s : Keep s₀ s) :
    Keep s₀ (State.handSet s r pos leg gen base per pnum ents) := by
  unfold State.handSet
  try dsimp only
  refine Keep.ite ?_ ?_
  · refine Keep.foldl ?_ _ ?_
    · intro s1 x2 h3
      refine State.klogRecord_keep ?_
      · assumption
    · assumption
  · try dsimp only
    refine State.enqueueBoth_keep ?_
    · refine State.nextSeq_keep ?_
      · refine Keep.foldl ?_ _ ?_
        · intro s4 x5 h6
          refine State.klogRecord_keep ?_
          · assumption
        · assumption

theorem State.transmit_keep {s₀ : State} {s : State} {r : Nat} {d : Nat} (h_s : Keep s₀ s) :
    Keep s₀ (State.transmit s r d) := by
  unfold State.transmit
  dsimp only
  refine Keep.ite ?_ ?_
  · assumption
  · split
    · assumption
    · refine Keep.ite ?_ ?_
      · assumption
      · refine Keep.ite ?_ ?_
        · refine State.setRing_keep ?_
          refine State.draw_keep ?_
          assumption
        · refine State.raiseIrq_keep ?_
          refine State.satF_keep ?_
          refine State.setRing_keep ?_
          refine State.draw_keep ?_
          assumption

theorem State.ringLevels_keep {s₀ : State} {s : State} {r : Nat} (h_s : Keep s₀ s) :
    Keep s₀ (State.ringLevels s r) := by
  unfold State.ringLevels
  try dsimp only
  refine State.setF_keep ?_
  · refine State.setF_keep ?_
    · assumption

theorem State.queueRsp_keep {s₀ : State} {s : State} {r : Nat} {q : Mreq} {status : Nat} {data : Nat} (h_s : Keep s₀ s) :
    Keep s₀ (State.queueRsp s r q status data) := by
  unfold State.queueRsp
  try dsimp only
  refine State.pulse_keep ?_
  · refine State.ringLevels_keep ?_
    · refine State.setRing_keep ?_
      · assumption

theorem State.enqueueReq_keep {s₀ : State} {s : State} {r : Nat} {lo : Nat} {hi : Nat} (h_s : Keep s₀ s) :
    Keep s₀ (State.enqueueReq s r lo hi).1 := by
  unfold State.enqueueReq
  try dsimp only
  refine Keep.ite1 ?_ ?_
  · try dsimp only
    assumption
  · try dsimp only
    refine State.ringLevels_keep ?_
    · refine State.setRing_keep ?_
      · assumption

theorem State.mreqWrite_keep {s₀ : State} {s : State} {r : Nat} {off : Nat} {size : Nat} {v : Nat} (h_s : Keep s₀ s) :
    Keep s₀ (State.mreqWrite s r off size v).1 := by
  unfold State.mreqWrite
  refine Keep.ite1 ?_ ?_
  · refine State.enqueueReq_keep ?_
    · assumption
  · refine Keep.ite1 ?_ ?_
    · try dsimp only
      refine State.setRing_keep ?_
      · assumption
    · refine State.enqueueReq_keep ?_
      · assumption

theorem State.popRsp_keep {s₀ : State} {s : State} {r : Nat} (h_s : Keep s₀ s) :
    Keep s₀ (State.popRsp s r).2.2 := by
  unfold State.popRsp
  try dsimp only
  split
  · try dsimp only
    try dsimp only
    assumption
  · try dsimp only
    try dsimp only
    refine State.ringLevels_keep ?_
    · refine State.setRing_keep ?_
      · assumption

theorem State.setDepth_keep {s₀ : State} {s : State} {r : Nat} {p : Nat} {n : Nat} (h_s : Keep s₀ s) :
    Keep s₀ (State.setDepth s r p n) := by
  unfold State.setDepth
  dsimp only
  refine State.setF_keep ?_
  refine State.setF_keep ?_
  assumption

theorem State.credit_keep {s₀ : State} {s : State} {r : Nat} {p : Nat} {take : Bool} (h_s : Keep s₀ s) :
    Keep s₀ (State.credit s r p take) := by
  unfold State.credit
  try dsimp only
  refine Keep.ite ?_ ?_
  · assumption
  · refine Keep.ite ?_ ?_
    · refine State.setF_keep ?_
      · refine State.setF_keep ?_
        · assumption
    · refine Keep.ite ?_ ?_
      · assumption
      · refine State.setF_keep ?_
        · refine State.setF_keep ?_
          · assumption

theorem State.issueReq_keep {s₀ : State} {s : State} {r : Nat} {q : Mreq} (h_s : Keep s₀ s) :
    Keep s₀ (State.issueReq s r q) := by
  unfold State.issueReq
  try dsimp only
  refine State.enqueueBoth_keep ?_
  · refine State.setRing_keep ?_
    · refine State.credit_keep ?_
      · refine State.nextSeq_keep ?_
        · assumption

theorem State.mreqIssue_keep {s₀ : State} {s : State} {r : Nat} (h_s : Keep s₀ s) :
    Keep s₀ (State.mreqIssue s r) := by
  unfold State.mreqIssue
  try dsimp only
  split
  · refine State.issueReq_keep ?_
    · refine State.setRing_keep ?_
      · assumption
  · split
    · assumption
    · try dsimp only
      refine Keep.ite ?_ ?_
      · refine Keep.ite ?_ ?_
        · assumption
        · refine State.queueRsp_keep ?_
          · refine State.setRing_keep ?_
            · assumption
      · refine Keep.ite ?_ ?_
        · refine State.issueReq_keep ?_
          · refine State.ringLevels_keep ?_
            · refine State.setRing_keep ?_
              · assumption
        · assumption

theorem State.endReq_keep {s₀ : State} {s : State} {r : Nat} {o : MOut} {timeout : Bool} (h_s : Keep s₀ s) :
    Keep s₀ (State.endReq s r o timeout) := by
  unfold State.endReq
  try dsimp only
  refine State.credit_keep ?_
  · refine State.setRing_keep ?_
    · assumption

theorem State.reclaim_keep {s₀ : State} {s : State} {r : Nat} {o : MOut} {status : Nat} (h_s : Keep s₀ s) :
    Keep s₀ (State.reclaim s r o status) := by
  unfold State.reclaim
  try dsimp only
  refine Keep.ite ?_ ?_
  · refine State.queueRsp_keep ?_
    · refine State.satF_keep ?_
      · refine State.endReq_keep ?_
        · assumption
  · refine State.satF_keep ?_
    · refine State.endReq_keep ?_
      · assumption

theorem State.mreqTimeout_keep {s₀ : State} {s : State} {r : Nat} (h_s : Keep s₀ s) :
    Keep s₀ (State.mreqTimeout s r) := by
  unfold State.mreqTimeout
  split
  · assumption
  · refine State.reclaim_keep ?_
    · assumption

theorem State.echo_keep {s₀ : State} {s : State} {r : Nat} {p : Nat} {d : Nat} (h_s : Keep s₀ s) :
    Keep s₀ (State.echo s r p d) := by
  unfold State.echo
  try dsimp only
  refine State.enqueueFrame_keep ?_
  · refine State.draw_keep ?_
    · assumption

theorem State.calibratePos_keep {s₀ : State} {s : State} {r : Nat} {p : Nat} (h_s : Keep s₀ s) :
    Keep s₀ (State.calibratePos s r p) := by
  unfold State.calibratePos
  dsimp only
  refine Keep.foldl ?_ _ ?_
  · intro x1 x2 h3
    refine State.echo_keep ?_
    assumption
  · refine State.setRing_keep ?_
    assumption

theorem State.calibrate_keep {s₀ : State} {s : State} {r : Nat} (h_s : Keep s₀ s) :
    Keep s₀ (State.calibrate s r) := by
  unfold State.calibrate
  try dsimp only
  refine Keep.foldl ?_ _ ?_
  · intro s1 x2 h3
    refine Keep.ite ?_ ?_
    · assumption
    · refine State.calibratePos_keep ?_
      · assumption
  · refine State.setFlag_keep ?_
    · refine State.setRing_keep ?_
      · assumption

theorem State.calDone_keep {s₀ : State} {s : State} {r : Nat} (h_s : Keep s₀ s) :
    Keep s₀ (State.calDone s r) := by
  unfold State.calDone
  dsimp only
  refine Keep.ite ?_ ?_
  · refine State.raiseIrq_keep ?_
    refine State.setFlag_keep ?_
    assumption
  · assumption

theorem State.sendEnum_keep {s₀ : State} {s : State} {r : Nat} {force : Bool} (h_s : Keep s₀ s) :
    Keep s₀ (State.sendEnum s r force) := by
  unfold State.sendEnum
  try dsimp only
  refine Keep.ite ?_ ?_
  · try dsimp only
    refine State.enqueueFrame_keep ?_
    · refine State.draw_keep ?_
      · refine State.enqueueFrame_keep ?_
        · refine State.draw_keep ?_
          · assumption
  · refine State.enqueueFrame_keep ?_
    · refine State.draw_keep ?_
      · assumption

theorem State.autoEnum_keep {s₀ : State} {s : State} {r : Nat} (h_s : Keep s₀ s) :
    Keep s₀ (State.autoEnum s r) := by
  unfold State.autoEnum
  try dsimp only
  refine Keep.ite ?_ ?_
  · refine State.sendEnum_keep ?_
    · refine State.setRing_keep ?_
      · assumption
  · assumption

theorem State.startJoin_keep {s₀ : State} {s : State} {r : Nat} {p : Nat} (h_s : Keep s₀ s) :
    Keep s₀ (State.startJoin s r p) := by
  unfold State.startJoin
  try dsimp only
  refine Keep.ite ?_ ?_
  · assumption
  · try dsimp only
    try dsimp only
    refine Keep.ite ?_ ?_
    · refine State.setRing_keep ?_
      · refine State.setFbit_keep ?_
        · refine State.setRing_keep ?_
          · assumption
    · refine State.setFbit_keep ?_
      · refine State.setRing_keep ?_
        · assumption

theorem State.joinDone_keep {s₀ : State} {s : State} {r : Nat} {p : Nat} (h_s : Keep s₀ s) :
    Keep s₀ (State.joinDone s r p) := by
  unfold State.joinDone
  dsimp only
  refine Keep.ite ?_ ?_
  · refine State.raiseIrq_keep ?_
    refine State.setFbit_keep ?_
    refine State.setFbit_keep ?_
    assumption
  · assumption

theorem State.posLost_keep {s₀ : State} {s : State} {r : Nat} {p : Nat} (h_s : Keep s₀ s) :
    Keep s₀ (State.posLost s r p) := by
  unfold State.posLost
  dsimp only
  refine Keep.ite ?_ ?_
  · refine Keep.foldl ?_ _ ?_
    · intro x1 x2 h3
      refine State.reclaim_keep ?_
      assumption
    · refine State.raiseIrq_keep ?_
      refine State.setFbit_keep ?_
      refine State.setFbit_keep ?_
      assumption
  · assumption

theorem State.receive_keep {s₀ : State} {s : State} {r : Nat} {d : Nat} {sof : Nat} {blocks : List Nat} {crc : Nat} (h_s : Keep s₀ s) :
    Keep s₀ (State.receive s r d sof blocks crc).1 := by
  unfold State.receive
  dsimp only
  refine Keep.ite1 ?_ ?_
  · dsimp only
    refine State.pulse_keep ?_
    refine State.satF_keep ?_
    assumption
  · refine Keep.ite1 ?_ ?_
    · dsimp only
      refine State.satF_keep ?_
      assumption
    · refine Keep.ite1 ?_ ?_
      · refine Keep.ite1 ?_ ?_
        · dsimp only
          refine State.satF_keep ?_
          assumption
        · dsimp only
          refine State.startJoin_keep ?_
          refine State.setRing_keep ?_
          assumption
      · dsimp only
        assumption

theorem State.takeMeas_keep {s₀ : State} {s : State} {r : Nat} {f : Frame} (h_s : Keep s₀ s) :
    Keep s₀ (State.takeMeas s r f) := by
  unfold State.takeMeas
  try dsimp only
  refine Keep.ite ?_ ?_
  · refine State.satF_keep ?_
    · assumption
  · try dsimp only
    try dsimp only
    refine Keep.ite ?_ ?_
    · refine Keep.foldl ?_ _ ?_
      · intro s1 x2 h3
        refine State.triggerAll_keep ?_
        · assumption
      · refine State.klogRecord_keep ?_
        · refine Keep.ite ?_ ?_
          · refine State.setRing_keep ?_
            · assumption
          · refine State.satF_keep ?_
            · refine State.satF_keep ?_
              · refine State.setRing_keep ?_
                · assumption
    · refine State.klogRecord_keep ?_
      · refine Keep.ite ?_ ?_
        · refine State.setRing_keep ?_
          · assumption
        · refine State.satF_keep ?_
          · refine State.satF_keep ?_
            · refine State.setRing_keep ?_
              · assumption

theorem State.takeMrsp_keep {s₀ : State} {s : State} {r : Nat} {f : Frame} (h_s : Keep s₀ s) :
    Keep s₀ (State.takeMrsp s r f) := by
  unfold State.takeMrsp
  try dsimp only
  split
  · try dsimp only
    try dsimp only
    split
    · try dsimp only
      refine Keep.ite ?_ ?_
      · refine State.setRing_keep ?_
        · refine State.setF_keep ?_
          · refine State.setF_keep ?_
            · refine State.queueRsp_keep ?_
              · refine State.endReq_keep ?_
                · assumption
      · refine State.queueRsp_keep ?_
        · refine State.endReq_keep ?_
          · assumption
    · try dsimp only
      refine State.calibratePos_keep ?_
      · refine State.setRing_keep ?_
        · refine State.setF_keep ?_
          · refine State.setF_keep ?_
            · refine State.endReq_keep ?_
              · assumption
    · refine State.setRing_keep ?_
      · refine State.endReq_keep ?_
        · assumption
  · split
    · refine State.satF_keep ?_
      · assumption
    · refine State.satF_keep ?_
      · assumption

theorem State.takeEchor_keep {s₀ : State} {s : State} {r : Nat} {d : Nat} {frac : Nat} {f : Frame} (h_s : Keep s₀ s) :
    Keep s₀ (State.takeEchor s r d frac f) := by
  unfold State.takeEchor
  try dsimp only
  refine Keep.ite ?_ ?_
  · assumption
  · try dsimp only
    refine State.setRing_keep ?_
    · refine State.setF_keep ?_
      · assumption

theorem State.takeEnum_keep {s₀ : State} {s : State} {r : Nat} {f : Frame} (h_s : Keep s₀ s) :
    Keep s₀ (State.takeEnum s r f) := by
  unfold State.takeEnum
  refine Keep.ite ?_ ?_
  · assumption
  · refine State.raiseIrq_keep ?_
    refine State.setFlag_keep ?_
    refine State.setF_keep ?_
    assumption

theorem State.ringWhole_keep {s₀ : State} {s : State} {r : Nat} {brkChanged : Bool} (h_s : Keep s₀ s) :
    Keep s₀ (State.ringWhole s r brkChanged) := by
  unfold State.ringWhole
  dsimp only
  refine Keep.ite ?_ ?_
  · refine State.raiseIrq_keep ?_
    refine State.setFlag_keep ?_
    assumption
  · refine Keep.ite ?_ ?_
    · refine State.raiseIrq_keep ?_
      assumption
    · assumption

theorem State.takeStatus_keep {s₀ : State} {s : State} {r : Nat} {d : Nat} {blk : Nat} (h_s : Keep s₀ s) :
    Keep s₀ (State.takeStatus s r d blk) := by
  unfold State.takeStatus
  try dsimp only
  refine Keep.ite ?_ ?_
  · assumption
  · try dsimp only
    try dsimp only
    refine State.ringWhole_keep ?_
    · refine State.setFlag_keep ?_
      · refine State.setF_keep ?_
        · refine State.setRing_keep ?_
          · assumption

theorem State.brkTimeout_keep {s₀ : State} {s : State} {r : Nat} {d : Nat} (h_s : Keep s₀ s) :
    Keep s₀ (State.brkTimeout s r d) := by
  unfold State.brkTimeout
  try dsimp only
  refine Keep.ite ?_ ?_
  · refine State.ringWhole_keep ?_
    · refine State.setFlag_keep ?_
      · assumption
  · assumption

theorem State.laneDrop_keep {s₀ : State} {s : State} {l : Nat} (h_s : Keep s₀ s) :
    Keep s₀ (State.laneDrop s l) := by
  unfold State.laneDrop
  dsimp only
  refine Keep.ite ?_ ?_
  · refine State.satF_keep ?_
    refine State.setRing_keep ?_
    assumption
  · refine State.setRing_keep ?_
    assumption

theorem State.laneLock_keep {s₀ : State} {s : State} {l : Nat} {lock : Bool} (h_s : Keep s₀ s) :
    Keep s₀ (State.laneLock s l lock) := by
  unfold State.laneLock
  dsimp only
  refine State.ringWhole_keep ?_
  refine State.setFlag_keep ?_
  refine State.setFlag_keep ?_
  refine Keep.upd ?_
  assumption

theorem State.laneGain_keep {s₀ : State} {s : State} {l : Nat} (h_s : Keep s₀ s) :
    Keep s₀ (State.laneGain s l) := by
  unfold State.laneGain
  refine Keep.ite ?_ ?_
  · assumption
  · refine State.laneLock_keep ?_
    assumption

theorem State.laneLoss_keep {s₀ : State} {s : State} {l : Nat} (h_s : Keep s₀ s) :
    Keep s₀ (State.laneLoss s l) := by
  unfold State.laneLoss
  refine Keep.ite ?_ ?_
  · assumption
  · refine State.laneLock_keep ?_
    refine State.pulse_keep ?_
    refine State.satF_keep ?_
    refine State.laneDrop_keep ?_
    assumption

theorem State.syncErrors_keep {s₀ : State} {s : State} {l : Nat} {n : Nat} (h_s : Keep s₀ s) :
    Keep s₀ (State.syncErrors s l n) := by
  unfold State.syncErrors
  refine Keep.ite ?_ ?_
  · assumption
  · dsimp only
    refine Keep.ite ?_ ?_
    · refine State.laneLoss_keep ?_
      refine State.satF_keep ?_
      refine Keep.upd ?_
      assumption
    · refine State.satF_keep ?_
      refine Keep.upd ?_
      assumption

theorem State.rxEvent_keep {s₀ : State} {s : State} {r : Nat} {d : Nat} {ty : Nat} {f : State → Frame → State} {e : RxEv} (h_s : Keep s₀ s) (h_f : ∀ z0 z1, Keep s₀ z0 → Keep s₀ (f z0 z1)) :
    Keep s₀ (State.rxEvent s r d ty f e) := by
  unfold State.rxEvent
  split
  · refine State.pulse_keep ?_
    refine State.satF_keep ?_
    assumption
  · refine State.satF_keep ?_
    assumption
  · refine State.takeStatus_keep ?_
    assumption
  · dsimp only
    split
    · refine Keep.ite ?_ ?_
      · refine h_f _ _ ?_
        refine State.receive_keep ?_
        assumption
      · refine State.receive_keep ?_
        assumption
    · refine State.receive_keep ?_
      assumption

theorem State.receiveAs_keep {s₀ : State} {s : State} {r : Nat} {d : Nat} {line : List LineBlock} {ty : Nat} {f : State → Frame → State} (h_s : Keep s₀ s) (h_f : ∀ z0 z1, Keep s₀ z0 → Keep s₀ (f z0 z1)) :
    Keep s₀ (State.receiveAs s r d line ty f) := by
  unfold State.receiveAs
  refine Keep.ite ?_ ?_
  · assumption
  · dsimp only
    refine Keep.ite ?_ ?_
    · refine State.syncErrors_keep ?_
      assumption
    · refine Keep.foldl ?_ _ ?_
      · intro x1 x2 h3
        refine State.rxEvent_keep ?_ ?_
        · assumption
        · intro x4 x5 h6
          refine h_f _ _ ?_
          assumption
      · refine Keep.ite ?_ ?_
        · refine State.syncErrors_keep ?_
          assumption
        · refine State.setRing_keep ?_
          refine State.syncErrors_keep ?_
          assumption

theorem State.sendTime_keep {s₀ : State} {s : State} {r : Nat} (h_s : Keep s₀ s) :
    Keep s₀ (State.sendTime s r) := by
  unfold State.sendTime
  try dsimp only
  refine Keep.ite ?_ ?_
  · try dsimp only
    refine State.enqueueBoth_keep ?_
    · refine State.setRing_keep ?_
      · refine State.draw_keep ?_
        · assumption
  · assumption

end Sys2Proof.Machine
end

