-- ==== Sys2Proof/Laws/KeepGrpLink.lean ====
section
/-! SUPPORT. Laws/KeepGrpLink.lean: every operation of Machine/GrpLink.lean keeps what Laws/Keep.lean says. -/

namespace Sys2Proof.Machine

theorem State.setPeer_keep {s₀ : State} {s : State} {k : Nat} {p : Peer} (h_s : Keep s₀ s) :
    Keep s₀ (State.setPeer s k p) := by
  unfold State.setPeer
  refine Keep.upd ?_
  assumption

theorem State.grpTake_keep {s₀ s : State} {k ty seq : Nat} {r : State × Bool} (h_s : Keep s₀ s)
    (e : s.grpTake k ty seq = some r) : Keep s₀ r.1 := by
  unfold State.grpTake at e
  split at e
  · cases e
  · dsimp only at e
    split at e
    · cases e
      exact State.setPeer_keep h_s
    · cases e

theorem State.grpFrame_keep {s₀ : State} {s : State} {k : Nat} {ty : Nat} {words : List Nat} (h_s : Keep s₀ s) :
    Keep s₀ (State.grpFrame s k ty words).2 := by
  unfold State.grpFrame
  dsimp only
  refine Keep.upd ?_
  refine State.draw_keep ?_
  assumption

/-- A fold whose state is its second component. -/
theorem Keep.foldl2 {α β : Type} {s₀ : State} {f : α × State → β → α × State} (hf : ∀ q x, Keep s₀ q.2 → Keep s₀ (f q x).2) :
    ∀ (l : List β) {q : α × State}, Keep s₀ q.2 → Keep s₀ (l.foldl f q).2
  | [], _, h => h
  | x :: l, q, h => Keep.foldl2 hf l (hf q x h)

theorem State.grpSendList_keep {s₀ : State} {s : State} {k : Nat} {ty : Nat} {contents : List (List Nat)} (h_s : Keep s₀ s) :
    Keep s₀ (State.grpSendList s k ty contents) := by
  unfold State.grpSendList
  refine Keep.ite ?_ ?_
  · assumption
  · dsimp only
    refine Keep.upd ?_
    refine Keep.foldl2 ?_ _ h_s
    intro q ws h
    exact State.grpFrame_keep (words := ws) h

theorem State.grpSend_keep {s₀ : State} {s : State} {k : Nat} {ty : Nat} {words : List Nat} (h_s : Keep s₀ s) :
    Keep s₀ (State.grpSend s k ty words) := by
  unfold State.grpSend
  refine State.grpSendList_keep ?_
  assumption

theorem State.grpSendAll_keep {s₀ : State} {s : State} {ty : Nat} {words : List Nat} (h_s : Keep s₀ s) :
    Keep s₀ (State.grpSendAll s ty words) := by
  unfold State.grpSendAll
  refine Keep.foldl ?_ _ ?_
  · intro x1 x2 h3
    refine State.grpSend_keep ?_
    assumption
  · assumption

end Sys2Proof.Machine
end

