-- ==== Sys2Proof/Laws/KeepBankOps.lean ====
section
/-! SUPPORT. Laws/KeepBankOps.lean: every operation of Machine/BankOps.lean keeps what Laws/Keep.lean says. -/

namespace Sys2Proof.Machine

theorem State.retireRow_keep {s₀ : State} {s : State} {a : Nat} (h_s : Keep s₀ s) :
    Keep s₀ (State.retireRow s a) := by
  unfold State.retireRow
  dsimp only
  refine Keep.ite ?_ ?_
  · assumption
  · refine Keep.ite ?_ ?_
    · refine State.satF_keep ?_
      refine State.satF_keep ?_
      refine Keep.upd ?_
      assumption
    · refine State.satF_keep ?_
      assumption

theorem State.retireDue_keep {s₀ : State} {s : State} {a : Nat} (h_s : Keep s₀ s) :
    Keep s₀ (State.retireDue s a) := by
  unfold State.retireDue
  dsimp only
  refine Keep.ite ?_ ?_
  · refine State.retireRow_keep ?_
    assumption
  · refine Keep.upd ?_
    refine State.retireRow_keep ?_
    assumption

theorem State.ueAddr_keep {s₀ : State} {s : State} {a : Nat} (h_s : Keep s₀ s) :
    Keep s₀ (State.ueAddr s a) := by
  unfold State.ueAddr
  dsimp only
  refine Keep.ite ?_ ?_
  · refine State.setFlag_keep ?_
    refine State.setF_keep ?_
    assumption
  · refine Keep.ite ?_ ?_
    · refine State.setFlag_keep ?_
      refine State.setF_keep ?_
      assumption
    · refine State.setFlag_keep ?_
      refine State.setF_keep ?_
      assumption

theorem State.countUE_keep {s₀ : State} {s : State} {a : Nat} (h_s : Keep s₀ s) :
    Keep s₀ (State.countUE s a) := by
  unfold State.countUE
  dsimp only
  refine Keep.ite ?_ ?_
  · refine State.ueAddr_keep ?_
    refine State.satF_keep ?_
    assumption
  · refine State.retireDue_keep ?_
    refine State.satF_keep ?_
    refine State.ueAddr_keep ?_
    refine State.satF_keep ?_
    assumption

theorem State.countPW_keep {s₀ : State} {s : State} {a : Nat} (h_s : Keep s₀ s) :
    Keep s₀ (State.countPW s a) := by
  unfold State.countPW
  refine State.ueAddr_keep ?_
  refine State.satF_keep ?_
  assumption

theorem State.countIn_keep {s₀ : State} {s : State} {a : Nat} {n : Nat} (h_s : Keep s₀ s) :
    Keep s₀ (State.countIn s a n) := by
  unfold State.countIn
  refine State.countUE_keep ?_
  assumption

theorem State.readMem_keep {s₀ : State} {s : State} {a : Nat} {n : Nat} (h_s : Keep s₀ s) :
    Keep s₀ (State.readMem s a n).2.2 := by
  unfold State.readMem
  split
  · dsimp only
    refine State.countIn_keep ?_
    assumption
  · dsimp only
    assumption

theorem State.writeMem_keep {s₀ : State} {s : State} {a : Nat} {bs : List Byte} (h_s : Keep s₀ s) :
    Keep s₀ (State.writeMem s a bs) := by
  unfold State.writeMem
  dsimp only
  refine Keep.ite ?_ ?_
  · refine State.memBytes_keep ?_
    refine Keep.upd ?_
    assumption
  · refine Keep.foldl ?_ _ ?_
    · intro x1 x2 h3
      refine State.countPW_keep ?_
      assumption
    · refine Keep.foldl ?_ _ ?_
      · intro x4 x5 h6
        refine Keep.ite ?_ ?_
        · assumption
        · refine State.memWrite_keep ?_
          assumption
      · refine Keep.upd ?_
        assumption

theorem State.writeWhole_keep {s₀ : State} {s : State} {a : Nat} {bs : List Byte} (h_s : Keep s₀ s) :
    Keep s₀ (State.writeWhole s a bs).1 := by
  unfold State.writeWhole
  dsimp only
  refine Keep.ite1 ?_ ?_
  · dsimp only
    refine State.writeMem_keep ?_
    assumption
  · dsimp only
    refine Keep.foldl ?_ _ ?_
    · intro x1 x2 h3
      refine State.countPW_keep ?_
      assumption
    · assumption

end Sys2Proof.Machine
end

