-- ==== Sys2Proof/Laws/KeepEdgeOps.lean ====
section
/-! SUPPORT. Laws/KeepEdgeOps.lean: every operation of Machine/EdgeOps.lean keeps what Laws/Keep.lean says. -/

namespace Sys2Proof.Machine

theorem State.setShadowCmp_keep {s₀ : State} {s : State} {t : Nat} {g : Nat} {k : Nat} {v : Nat} (h_s : Keep s₀ s) :
    Keep s₀ (State.setShadowCmp s t g k v) := by
  unfold State.setShadowCmp
  try dsimp only
  split
  · refine State.setF_keep ?_
    · refine State.setF_keep ?_
      · assumption
  · refine State.setF_keep ?_
    · refine State.setF_keep ?_
      · assumption
  · refine State.setF_keep ?_
    · refine State.setF_keep ?_
      · assumption
  · refine State.setF_keep ?_
    · refine State.setF_keep ?_
      · assumption

theorem State.setLed80_keep {s₀ : State} {s : State} {b : Nat} {q : Fld} {f : Fld} {v : Int} (h_s : Keep s₀ s) :
    Keep s₀ (State.setLed80 s b q f v) := by
  unfold State.setLed80
  refine State.setF_keep ?_
  · refine State.setF_keep ?_
    · assumption

theorem State.ledUpto_keep {s₀ : State} {s : State} {t : Nat} {g : Nat} {k : Nat} (h_s : Keep s₀ s) :
    Keep s₀ (State.ledUpto s t g k) := by
  unfold State.ledUpto
  dsimp only
  refine Keep.ite ?_ ?_
  · assumption
  · refine Keep.ite ?_ ?_
    · refine State.setGen_keep ?_
      assumption
    · refine Keep.ite ?_ ?_
      · refine State.setLed80_keep ?_
        refine State.setGen_keep ?_
        assumption
      · refine Keep.upd ?_
        refine Keep.ite ?_ ?_
        · refine State.setFlag_keep ?_
          refine State.setLed80_keep ?_
          refine State.setLed80_keep ?_
          refine State.setGen_keep ?_
          assumption
        · refine State.setLed80_keep ?_
          refine State.setLed80_keep ?_
          refine State.setGen_keep ?_
          assumption

theorem State.ledSync_keep {s₀ : State} {s : State} {t : Nat} {g : Nat} (h_s : Keep s₀ s) :
    Keep s₀ (State.ledSync s t g) := by
  unfold State.ledSync
  refine State.ledUpto_keep ?_
  refine Keep.foldl ?_ _ ?_
  · intro x1 x2 h3
    refine State.ledUpto_keep ?_
    assumption
  · assumption

theorem State.ledSyncArm_keep {s₀ : State} {s : State} {c : Nat} (h_s : Keep s₀ s) :
    Keep s₀ (State.ledSyncArm s c) := by
  unfold State.ledSyncArm
  refine Keep.foldl ?_ _ ?_
  · intro s1 x2 h3
    refine Keep.ite ?_ ?_
    · refine State.ledSync_keep ?_
      · assumption
    · assumption
  · assumption

theorem State.ledHold_keep {s₀ : State} {s : State} {t : Nat} {g : Nat} (h_s : Keep s₀ s) :
    Keep s₀ (State.ledHold s t g) := by
  unfold State.ledHold
  dsimp only
  refine State.setGen_keep ?_
  refine State.ledSync_keep ?_
  assumption

theorem State.larmHold_keep {s₀ : State} {s : State} {c : Nat} {a : Nat} (h_s : Keep s₀ s) :
    Keep s₀ (State.larmHold s c a) := by
  unfold State.larmHold
  dsimp only
  refine Keep.upd ?_
  refine State.ledSyncArm_keep ?_
  assumption

theorem State.setIQ_keep {s₀ : State} {s : State} {c : Nat} {sample : Bool} {src : Nat} {x : Int} (h_s : Keep s₀ s) :
    Keep s₀ (State.setIQ s c sample src x) := by
  unfold State.setIQ
  try dsimp only
  refine Keep.ite ?_ ?_
  · assumption
  · refine Keep.foldl ?_ _ ?_
    · intro s1 x2 h3
      try dsimp only
      refine State.setF_keep ?_
      · refine Keep.ite ?_ ?_
        · refine State.setFlag_keep ?_
          · assumption
        · assumption
    · refine State.ledSyncArm_keep ?_
      · assumption

theorem State.ledH_keep {s₀ : State} {s : State} {t : Nat} {g : Nat} {at_ : Nat} {lev : Bool} (h_s : Keep s₀ s) :
    Keep s₀ (State.ledH s t g at_ lev) := by
  unfold State.ledH
  try dsimp only
  refine State.setGen_keep ?_
  · refine State.ledSync_keep ?_
    · assumption

theorem State.ledOff_keep {s₀ : State} {s : State} {t : Nat} {g : Nat} (h_s : Keep s₀ s) :
    Keep s₀ (State.ledOff s t g) := by
  unfold State.ledOff
  try dsimp only
  refine State.setGen_keep ?_
  · refine State.ledSync_keep ?_
    · assumption

theorem State.ledSet_keep {s₀ : State} {s : State} {t : Nat} {g : Nat} {base : Nat} {per : Nat} {ents : List (Nat × Bool)} (h_s : Keep s₀ s) :
    Keep s₀ (State.ledSet s t g base per ents) := by
  unfold State.ledSet
  try dsimp only
  refine State.setGen_keep ?_
  · refine State.ledSync_keep ?_
    · assumption

theorem State.closure_keep {s₀ : State} {s : State} {t : Nat} {g : Nat} {err : Int} (h_s : Keep s₀ s) :
    Keep s₀ (State.closure s t g err) := by
  unfold State.closure
  split
  · assumption
  · try dsimp only
    refine Keep.foldl ?_ _ ?_
    · intro s1 x2 h3
      try dsimp only
      refine Keep.ite ?_ ?_
      · try dsimp only
        try dsimp only
        refine Keep.ite ?_ ?_
        · refine Keep.upd ?_
          refine State.ledSyncArm_keep ?_
          · assumption
        · refine State.pulse_keep ?_
          · refine State.setF_keep ?_
            · refine State.setFlag_keep ?_
              · refine State.satF_keep ?_
                · refine Keep.upd ?_
                  refine State.ledSyncArm_keep ?_
                  · assumption
      · assumption
    · assumption

theorem State.ledPeriod_keep {s₀ : State} {s : State} {t : Nat} {g : Nat} (h_s : Keep s₀ s) :
    Keep s₀ (State.ledPeriod s t g) := by
  unfold State.ledPeriod
  try dsimp only
  refine State.setGen_keep ?_
  · refine State.setF_keep ?_
    · refine State.ledSync_keep ?_
      · assumption

theorem State.setGenState_keep {s₀ : State} {s : State} {t : Nat} {g : Nat} {st : Nat} (h_s : Keep s₀ s) :
    Keep s₀ (State.setGenState s t g st) := by
  unfold State.setGenState
  try dsimp only
  refine Keep.ite ?_ ?_
  · refine State.pulse_keep ?_
    · refine State.setFbit_keep ?_
      · refine State.setFbit_keep ?_
        · refine State.setF_keep ?_
          · assumption
  · refine State.setFbit_keep ?_
    · refine State.setFbit_keep ?_
      · refine State.setF_keep ?_
        · assumption

theorem State.pinDrive_keep {s₀ : State} {s : State} {p : Nat} {level : Bool} {at_ : Nat} {st : Nat} (h_s : Keep s₀ s) :
    Keep s₀ (State.pinDrive s p level at_ st) := by
  unfold State.pinDrive
  try dsimp only
  refine Keep.ite ?_ ?_
  · assumption
  · try dsimp only
    refine State.setFlag_keep ?_
    · refine State.setF_keep ?_
      · refine Keep.upd ?_
        assumption

theorem State.pinShow_keep {s₀ : State} {s : State} {p : Nat} (h_s : Keep s₀ s) :
    Keep s₀ (State.pinShow s p) := by
  unfold State.pinShow
  try dsimp only
  refine Keep.ite ?_ ?_
  · refine State.setFlag_keep ?_
    · assumption
  · assumption

theorem State.pinLogged_keep {s₀ : State} {s : State} {p : Nat} {gen : Nat} {level : Bool} {at_ : Nat} {delayed : Bool} (h_s : Keep s₀ s) :
    Keep s₀ (State.pinLogged s p gen level at_ delayed) := by
  unfold State.pinLogged
  refine State.klogRecord_keep ?_
  assumption

theorem State.pinDust_keep {s₀ : State} {s : State} {p : Nat} (h_s : Keep s₀ s) :
    Keep s₀ (State.pinDust s p) := by
  unfold State.pinDust
  dsimp only
  refine State.setFlag_keep ?_
  refine State.setF_keep ?_
  refine Keep.upd ?_
  refine Keep.ite ?_ ?_
  · refine State.pinLogged_keep ?_
    assumption
  · assumption

theorem State.setLanes_keep {s₀ : State} {s : State} {t : Nat} {x : Lanes} (h_s : Keep s₀ s) :
    Keep s₀ (State.setLanes s t x) := by
  unfold State.setLanes
  refine Keep.upd ?_
  assumption

theorem State.claim_keep {s₀ : State} {s : State} {t : Nat} (h_s : Keep s₀ s) :
    Keep s₀ (State.claim s t).1 := by
  unfold State.claim
  try dsimp only
  refine State.setLanes_keep ?_
  · assumption

theorem State.laneOutvoted_keep {s₀ : State} {s : State} {t : Nat} {lane : Nat} {p : Nat} (h_s : Keep s₀ s) :
    Keep s₀ (State.laneOutvoted s t lane p) := by
  unfold State.laneOutvoted
  try dsimp only
  refine Keep.ite ?_ ?_
  · refine State.pulse_keep ?_
    · refine State.setF_keep ?_
      · refine State.setLanes_keep ?_
        · refine State.pulse_keep ?_
          · refine State.satF_keep ?_
            · refine State.satF_keep ?_
              · assumption
  · refine State.setLanes_keep ?_
    · refine State.pulse_keep ?_
      · refine State.satF_keep ?_
        · refine State.satF_keep ?_
          · assumption

theorem State.openBlank_keep {s₀ : State} {s : State} {t : Nat} {g : Nat} {at_ : Nat} (h_s : Keep s₀ s) :
    Keep s₀ (State.openBlank s t g at_) := by
  unfold State.openBlank
  dsimp only
  refine State.setGen_keep ?_
  assumption

theorem State.pinEdge_keep {s₀ : State} {s : State} {t : Nat} {g : Nat} {p : Nat} {level : Bool} {at_ : Nat} {st : Nat} {delayed : Bool} (h_s : Keep s₀ s) :
    Keep s₀ (State.pinEdge s t g p level at_ st delayed) := by
  unfold State.pinEdge
  refine Keep.ite ?_ ?_
  · assumption
  · refine State.klogRecord_keep ?_
    refine State.pinDrive_keep ?_
    assumption

theorem State.pinTo_keep {s₀ : State} {s : State} {t : Nat} {g : Nat} {p : Nat} {level : Bool} (h_s : Keep s₀ s) :
    Keep s₀ (State.pinTo s t g p level) := by
  unfold State.pinTo
  refine Keep.ite ?_ ?_
  · refine State.pinDrive_keep ?_
    assumption
  · refine State.pinEdge_keep ?_
    assumption

theorem State.driveEdge_keep {s₀ : State} {s : State} {t : Nat} {g : Nat} {isH : Bool} {rise : Bool} {at_ : Nat} {delayed : Bool} {lanes : List Nat} {upset : Nat} (h_s : Keep s₀ s) :
    Keep s₀ (State.driveEdge s t g isH rise at_ delayed lanes upset) := by
  unfold State.driveEdge
  dsimp only
  refine Keep.ite ?_ ?_
  · refine State.laneOutvoted_keep ?_
    refine Keep.ite ?_ ?_
    · refine Keep.ite ?_ ?_
      · refine State.ledH_keep ?_
        refine State.pinEdge_keep ?_
        refine State.openBlank_keep ?_
        refine State.setFlag_keep ?_
        assumption
      · refine State.pinEdge_keep ?_
        refine State.openBlank_keep ?_
        refine State.setFlag_keep ?_
        assumption
    · refine State.openBlank_keep ?_
      refine State.setFlag_keep ?_
      assumption
  · refine Keep.ite ?_ ?_
    · refine Keep.ite ?_ ?_
      · refine State.ledH_keep ?_
        refine State.pinEdge_keep ?_
        refine State.openBlank_keep ?_
        refine State.setFlag_keep ?_
        assumption
      · refine State.pinEdge_keep ?_
        refine State.openBlank_keep ?_
        refine State.setFlag_keep ?_
        assumption
    · refine State.openBlank_keep ?_
      refine State.setFlag_keep ?_
      assumption

theorem State.placeEdge_keep {s₀ : State} {s : State} {t : Nat} {g : Nat} {tr : Trans} {upset : Nat} (h_s : Keep s₀ s) :
    Keep s₀ (State.placeEdge s t g tr upset) := by
  unfold State.placeEdge
  dsimp only
  refine Keep.ite ?_ ?_
  · assumption
  · refine Keep.ite ?_ ?_
    · refine State.maxF_keep ?_
      refine State.driveEdge_keep ?_
      refine State.setGen_keep ?_
      refine State.claim_keep ?_
      assumption
    · refine State.pulse_keep ?_
      refine State.setFlag_keep ?_
      refine State.setF_keep ?_
      refine State.satF_keep ?_
      refine State.setLanes_keep ?_
      assumption

theorem State.outputs_keep {s₀ : State} {s : State} {t : Nat} {g : Nat} {ts : List Trans} {upset : Nat} (h_s : Keep s₀ s) :
    Keep s₀ (State.outputs s t g ts upset) := by
  unfold State.outputs
  refine Keep.foldl ?_ _ ?_
  · intro s1 x2 h3
    refine Keep.ite ?_ ?_
    · refine Keep.ite ?_ ?_
      · refine State.placeEdge_keep ?_
        · assumption
      · assumption
    · refine State.setFlag_keep ?_
      · assumption
  · assumption

theorem State.dust_keep {s₀ : State} {s : State} {t : Nat} {g : Nat} (h_s : Keep s₀ s) :
    Keep s₀ (State.dust s t g) := by
  unfold State.dust
  try dsimp only
  refine Keep.ite ?_ ?_
  · refine State.setLanes_keep ?_
    · refine State.setGen_keep ?_
      · refine State.setFlag_keep ?_
        · refine State.setFlag_keep ?_
          · refine State.setFlag_keep ?_
            · refine State.ledOff_keep ?_
              · assumption
  · split
    · try dsimp only
      refine Keep.ite ?_ ?_
      · refine State.pinDust_keep ?_
        · refine State.pinDust_keep ?_
          · refine State.setLanes_keep ?_
            · refine State.setGen_keep ?_
              · refine State.setFlag_keep ?_
                · refine State.setFlag_keep ?_
                  · refine State.setFlag_keep ?_
                    · refine State.ledOff_keep ?_
                      · assumption
      · refine State.pinDust_keep ?_
        · refine State.setLanes_keep ?_
          · refine State.setGen_keep ?_
            · refine State.setFlag_keep ?_
              · refine State.setFlag_keep ?_
                · refine State.setFlag_keep ?_
                  · refine State.ledOff_keep ?_
                    · assumption
    · refine Keep.ite ?_ ?_
      · refine State.setLanes_keep ?_
        · refine State.setGen_keep ?_
          · refine State.setFlag_keep ?_
            · refine State.setFlag_keep ?_
              · refine State.setFlag_keep ?_
                · refine State.ledOff_keep ?_
                  · assumption
      · refine State.blockCommand_keep ?_
        · refine State.setLanes_keep ?_
          · refine State.setGen_keep ?_
            · refine State.setFlag_keep ?_
              · refine State.setFlag_keep ?_
                · refine State.setFlag_keep ?_
                  · refine State.ledOff_keep ?_
                    · assumption
    · refine State.setLanes_keep ?_
      · refine State.setGen_keep ?_
        · refine State.setFlag_keep ?_
          · refine State.setFlag_keep ?_
            · refine State.setFlag_keep ?_
              · refine State.ledOff_keep ?_
                · assumption

theorem State.undust_keep {s₀ : State} {s : State} {t : Nat} {g : Nat} (h_s : Keep s₀ s) :
    Keep s₀ (State.undust s t g) := by
  unfold State.undust
  try dsimp only
  refine Keep.ite ?_ ?_
  · try dsimp only
    try dsimp only
    refine Keep.ite ?_ ?_
    · refine State.pinDrive_keep ?_
      · refine Keep.ite ?_ ?_
        · refine State.pinDrive_keep ?_
          · refine State.setFlag_keep ?_
            · assumption
        · refine State.setFlag_keep ?_
          · assumption
    · refine Keep.ite ?_ ?_
      · refine State.pinDrive_keep ?_
        · refine State.setFlag_keep ?_
          · assumption
      · refine State.setFlag_keep ?_
        · assumption
  · refine State.setFlag_keep ?_
    · assumption

theorem State.leaveArmed_keep {s₀ : State} {s : State} {t : Nat} {g : Nat} {st : Nat} (h_s : Keep s₀ s) :
    Keep s₀ (State.leaveArmed s t g st) := by
  unfold State.leaveArmed
  try dsimp only
  refine Keep.ite ?_ ?_
  · refine State.boundary_keep ?_
    · refine State.setGenState_keep ?_
      · assumption
  · refine State.setGenState_keep ?_
    · assumption

theorem State.genRun_keep {s₀ : State} {s : State} {t : Nat} {g : Nat} (h_s : Keep s₀ s) :
    Keep s₀ (State.genRun s t g) := by
  unfold State.genRun
  try dsimp only
  refine State.setGen_keep ?_
  · refine State.setFlag_keep ?_
    · refine Keep.ite ?_ ?_
      · refine State.setGenState_keep ?_
        · assumption
      · assumption

theorem State.genStop_keep {s₀ : State} {s : State} {t : Nat} {g : Nat} (h_s : Keep s₀ s) :
    Keep s₀ (State.genStop s t g) := by
  unfold State.genStop
  try dsimp only
  refine State.leaveArmed_keep ?_
  · refine State.setGen_keep ?_
    · refine State.dust_keep ?_
      · refine State.setFlag_keep ?_
        · refine State.setFlag_keep ?_
          · refine State.setFlag_keep ?_
            · assumption

theorem State.genDisarm_keep {s₀ : State} {s : State} {t : Nat} {g : Nat} (h_s : Keep s₀ s) :
    Keep s₀ (State.genDisarm s t g) := by
  unfold State.genDisarm
  try dsimp only
  try dsimp only
  try dsimp only
  try dsimp only
  refine State.leaveArmed_keep ?_
  · refine State.dust_keep ?_
    · refine State.setFlag_keep ?_
      · refine State.setFlag_keep ?_
        · assumption

theorem State.leavesArm_keep {s₀ : State} {s : State} {t : Nat} {g : Nat} (h_s : Keep s₀ s) :
    Keep s₀ (State.leavesArm s t g) := by
  unfold State.leavesArm
  refine Keep.ite ?_ ?_
  · assumption
  · refine State.genDisarm_keep ?_
    · assumption

theorem State.ctrlRun_keep {s₀ : State} {s : State} {t : Nat} {g : Nat} {on : Bool} (h_s : Keep s₀ s) :
    Keep s₀ (State.ctrlRun s t g on) := by
  unfold State.ctrlRun
  refine Keep.ite ?_ ?_
  · assumption
  · refine Keep.ite ?_ ?_
    · refine State.genRun_keep ?_
      · assumption
    · refine State.genStop_keep ?_
      · assumption

theorem State.genCfgErr_keep {s₀ : State} {s : State} {t : Nat} {g : Nat} (h_s : Keep s₀ s) :
    Keep s₀ (State.genCfgErr s t g) := by
  unfold State.genCfgErr
  try dsimp only
  refine State.pulse_keep ?_
  · refine State.setFlag_keep ?_
    · refine State.leaveArmed_keep ?_
      · refine State.setGen_keep ?_
        · refine State.dust_keep ?_
          · refine State.setFlag_keep ?_
            · refine State.setFlag_keep ?_
              · refine State.setFlag_keep ?_
                · assumption

theorem State.tripLogged_keep {s₀ : State} {s : State} {t : Nat} {g : Nat} {src : Nat} (h_s : Keep s₀ s) :
    Keep s₀ (State.tripLogged s t g src) := by
  unfold State.tripLogged
  refine Keep.ite ?_ ?_
  · assumption
  · refine State.klogRecord_keep ?_
    assumption

theorem State.tripNoted_keep {s₀ : State} {s : State} {t : Nat} {g : Nat} {src : Nat} {at_ : Nat} (h_s : Keep s₀ s) :
    Keep s₀ (State.tripNoted s t g src at_) := by
  unfold State.tripNoted
  dsimp only
  refine State.setF_keep ?_
  refine State.setFlag_keep ?_
  refine State.setF_keep ?_
  refine State.satF_keep ?_
  refine State.setGenState_keep ?_
  refine State.dust_keep ?_
  assumption

theorem State.trip_keep {s₀ : State} {s : State} {t : Nat} {g : Nat} {src : Nat} (h_s : Keep s₀ s) :
    Keep s₀ (State.trip s t g src) := by
  unfold State.trip
  refine State.pulse_keep ?_
  refine State.tripLogged_keep ?_
  refine State.tripNoted_keep ?_
  assumption

theorem State.tripCheck_keep {s₀ : State} {s : State} {t : Nat} {g : Nat} (h_s : Keep s₀ s) :
    Keep s₀ (State.tripCheck s t g) := by
  unfold State.tripCheck
  try dsimp only
  refine Keep.ite ?_ ?_
  · split
    · refine State.trip_keep ?_
      · assumption
    · assumption
  · assumption

theorem State.genArm_keep {s₀ : State} {s : State} {t : Nat} {g : Nat} (h_s : Keep s₀ s) :
    Keep s₀ (State.genArm s t g) := by
  unfold State.genArm
  dsimp only
  refine Keep.ite ?_ ?_
  · refine State.tripCheck_keep ?_
    refine State.setGen_keep ?_
    refine State.setGenState_keep ?_
    refine State.setFlag_keep ?_
    assumption
  · assumption

theorem State.setRec_keep {s₀ : State} {s : State} {t : Nat} {g : Nat} {r : PeriodRec} (h_s : Keep s₀ s) :
    Keep s₀ (State.setRec s t g r) := by
  unfold State.setRec
  refine Keep.upd ?_
  assumption

theorem State.keeperEnd_keep {s₀ : State} {s : State} {t : Nat} {g : Nat} {ps : List Nat} {src : Option Nat} (h_s : Keep s₀ s) :
    Keep s₀ (State.keeperEnd s t g ps src) := by
  unfold State.keeperEnd
  dsimp only
  split
  · refine State.setRec_keep ?_
    refine Keep.ite ?_ ?_
    · refine State.ledOff_keep ?_
      refine Keep.foldl ?_ _ ?_
      · intro x1 x2 h3
        refine State.pinDust_keep ?_
        assumption
      · assumption
    · refine Keep.foldl ?_ _ ?_
      · intro x4 x5 h6
        refine State.pinDust_keep ?_
        assumption
      · assumption
  · refine State.tripLogged_keep ?_
    refine State.setRec_keep ?_
    refine Keep.ite ?_ ?_
    · refine State.ledOff_keep ?_
      refine Keep.foldl ?_ _ ?_
      · intro x7 x8 h9
        refine State.pinDust_keep ?_
        assumption
      · assumption
    · refine Keep.foldl ?_ _ ?_
      · intro x10 x11 h12
        refine State.pinDust_keep ?_
        assumption
      · assumption

theorem State.keeperFate_keep {s₀ : State} {s : State} {t : Nat} {g : Nat} (h_s : Keep s₀ s) :
    Keep s₀ (State.keeperFate s t g) := by
  unfold State.keeperFate
  dsimp only
  refine Keep.ite ?_ ?_
  · assumption
  · split
    · refine State.boundary_keep ?_
      refine State.pulse_keep ?_
      refine State.tripNoted_keep ?_
      refine State.setRec_keep ?_
      assumption
    · refine State.boundary_keep ?_
      refine State.setFlag_keep ?_
      refine State.setGenState_keep ?_
      refine State.dust_keep ?_
      refine State.setRec_keep ?_
      assumption

theorem State.keeperTrip_keep {s₀ : State} {s : State} {t : Nat} {g : Nat} (h_s : Keep s₀ s) :
    Keep s₀ (State.keeperTrip s t g) := by
  unfold State.keeperTrip
  refine Keep.ite ?_ ?_
  · split
    · refine State.keeperEnd_keep ?_
      assumption
    · assumption
  · assumption

theorem State.keeperTakeGen_keep {s₀ : State} {s : State} {t : Nat} {g : Nat} (h_s : Keep s₀ s) :
    Keep s₀ (State.keeperTakeGen s t g) := by
  unfold State.keeperTakeGen
  refine Keep.ite ?_ ?_
  · assumption
  · dsimp only
    refine Keep.ite ?_ ?_
    · refine State.setRec_keep ?_
      refine Keep.foldl ?_ _ ?_
      · intro x1 x2 h3
        refine Keep.ite ?_ ?_
        · refine State.setF_keep ?_
          refine State.setF_keep ?_
          assumption
        · assumption
      · assumption
    · refine State.keeperEnd_keep ?_
      refine State.setRec_keep ?_
      refine Keep.foldl ?_ _ ?_
      · intro x4 x5 h6
        refine Keep.ite ?_ ?_
        · refine State.setF_keep ?_
          refine State.setF_keep ?_
          assumption
        · assumption
      · assumption

theorem State.keeperTake_keep {s₀ : State} {s : State} {t : Nat} (h_s : Keep s₀ s) :
    Keep s₀ (State.keeperTake s t) := by
  unfold State.keeperTake
  refine Keep.foldl ?_ _ ?_
  · intro s1 x2 h3
    try dsimp only
    refine Keep.ite ?_ ?_
    · assumption
    · try dsimp only
      try dsimp only
      refine Keep.ite ?_ ?_
      · refine State.setRec_keep ?_
        · refine Keep.foldl ?_ _ ?_
          · intro s4 x5 h6
            refine Keep.ite ?_ ?_
            · refine State.setF_keep ?_
              · refine State.setF_keep ?_
                · assumption
            · assumption
          · assumption
      · refine State.keeperEnd_keep ?_
        · refine State.setRec_keep ?_
          · refine Keep.foldl ?_ _ ?_
            · intro s7 x8 h9
              refine Keep.ite ?_ ?_
              · refine State.setF_keep ?_
                · refine State.setF_keep ?_
                  · assumption
              · assumption
            · assumption
  · assumption

theorem State.keeperBack_keep {s₀ : State} {s : State} {t : Nat} {g : Nat} (h_s : Keep s₀ s) :
    Keep s₀ (State.keeperBack s t g) := by
  unfold State.keeperBack
  dsimp only
  refine Keep.ite ?_ ?_
  · assumption
  · refine State.setRec_keep ?_
    refine Keep.foldl ?_ _ ?_
    · intro x1 x2 h3
      refine Keep.ite ?_ ?_
      · refine State.setF_keep ?_
        assumption
      · refine Keep.ite ?_ ?_
        · refine State.ledH_keep ?_
          refine State.pinEdge_keep ?_
          refine State.setF_keep ?_
          assumption
        · refine State.pinEdge_keep ?_
          refine State.setF_keep ?_
          assumption
    · assumption

theorem State.keeperEdge_keep {s₀ : State} {s : State} {t : Nat} {g : Nat} (h_s : Keep s₀ s) :
    Keep s₀ (State.keeperEdge s t g) := by
  unfold State.keeperEdge
  dsimp only
  split
  · assumption
  · refine Keep.ite ?_ ?_
    · assumption
    · refine Keep.ite ?_ ?_
      · refine State.setRec_keep ?_
        assumption
      · refine Keep.ite ?_ ?_
        · refine State.setRec_keep ?_
          assumption
        · refine Keep.ite ?_ ?_
          · refine State.ledH_keep ?_
            refine State.pinEdge_keep ?_
            refine State.openBlank_keep ?_
            refine State.setRec_keep ?_
            assumption
          · refine State.pinEdge_keep ?_
            refine State.openBlank_keep ?_
            refine State.setRec_keep ?_
            assumption

theorem State.keeperPeriod_keep {s₀ : State} {s : State} {t : Nat} {g : Nat} (h_s : Keep s₀ s) :
    Keep s₀ (State.keeperPeriod s t g) := by
  unfold State.keeperPeriod
  dsimp only
  refine Keep.ite ?_ ?_
  · assumption
  · refine Keep.ite ?_ ?_
    · refine State.setRec_keep ?_
      refine Keep.foldl ?_ _ ?_
      · intro x1 x2 h3
        refine State.satF_keep ?_
        assumption
      · refine Keep.ite ?_ ?_
        · assumption
        · refine State.keeperEnd_keep ?_
          assumption
    · refine State.keeperFate_keep ?_
      refine State.setRec_keep ?_
      refine Keep.foldl ?_ _ ?_
      · intro x4 x5 h6
        refine State.satF_keep ?_
        assumption
      · refine Keep.ite ?_ ?_
        · assumption
        · refine State.keeperEnd_keep ?_
          assumption

theorem State.tripLevel_keep {s₀ : State} {s : State} {c : Nat} {k : Nat} {on : Bool} (h_s : Keep s₀ s) :
    Keep s₀ (State.tripLevel s c k on) := by
  unfold State.tripLevel
  try dsimp only
  refine Keep.ite ?_ ?_
  · refine Keep.upd ?_
    assumption
  · try dsimp only
    refine Keep.foldl ?_ _ ?_
    · intro s1 x2 h3
      refine Keep.ite ?_ ?_
      · refine Keep.ite ?_ ?_
        · refine State.keeperTrip_keep ?_
          · assumption
        · refine State.tripCheck_keep ?_
          · assumption
      · assumption
    · refine Keep.ite ?_ ?_
      · assumption
      · refine Keep.upd ?_
        assumption

theorem State.genEvent_keep {s₀ : State} {s : State} {t : Nat} {g : Nat} {e : Nat} (h_s : Keep s₀ s) :
    Keep s₀ (State.genEvent s t g e) := by
  unfold State.genEvent
  try dsimp only
  refine Keep.ite ?_ ?_
  · assumption
  · try dsimp only
    refine Keep.ite ?_ ?_
    · refine State.produce_keep ?_
      · refine Keep.ite ?_ ?_
        · refine State.produce_keep ?_
          · assumption
        · assumption
    · refine Keep.ite ?_ ?_
      · refine State.produce_keep ?_
        · assumption
      · assumption

theorem State.countFormed_keep {s₀ : State} {s : State} {t : Nat} {g : Nat} {supp : Nat} {short : Nat} (h_s : Keep s₀ s) :
    Keep s₀ (State.countFormed s t g supp short) := by
  unfold State.countFormed
  try dsimp only
  refine State.pulse_keep ?_
  · refine State.satF_keep ?_
    · refine State.satF_keep ?_
      · assumption

theorem State.immediate_keep {s₀ : State} {s : State} {t : Nat} {g : Nat} {k : Nat} (h_s : Keep s₀ s) :
    Keep s₀ (State.immediate s t g k) := by
  unfold State.immediate
  try dsimp only
  refine State.setGen_keep ?_
  · assumption

theorem State.immediateIf_keep {s₀ : State} {s : State} {t : Nat} {g : Nat} {k : Nat} (h_s : Keep s₀ s) :
    Keep s₀ (State.immediateIf s t g k) := by
  unfold State.immediateIf
  dsimp only
  refine Keep.ite ?_ ?_
  · refine State.immediate_keep ?_
    assumption
  · assumption

theorem State.shadowEntry_keep {s₀ : State} {s : State} {t : Nat} {g : Nat} {before : Nat} (h_s : Keep s₀ s) :
    Keep s₀ (State.shadowEntry s t g before) := by
  unfold State.shadowEntry
  dsimp only
  refine Keep.foldl ?_ _ ?_
  · intro x1 x2 h3
    refine Keep.ite ?_ ?_
    · refine State.setF_keep ?_
      assumption
    · refine State.immediateIf_keep ?_
      refine State.setShadowCmp_keep ?_
      assumption
  · refine State.setGen_keep ?_
    assumption

theorem State.handover_keep {s₀ : State} {s : State} {t : Nat} {g : Nat} (h_s : Keep s₀ s) :
    Keep s₀ (State.handover s t g) := by
  unfold State.handover
  try dsimp only
  refine State.ledSet_keep ?_
  · refine State.handSet_keep ?_
    · assumption

theorem State.voteSet_keep {s₀ : State} {s : State} {t : Nat} {g : Nat} {nomaj : Bool} (h_s : Keep s₀ s) :
    Keep s₀ (State.voteSet s t g nomaj) := by
  unfold State.voteSet
  dsimp only
  refine Keep.ite ?_ ?_
  · refine State.pulse_keep ?_
    refine State.satF_keep ?_
    refine State.claim_keep ?_
    assumption
  · refine State.handover_keep ?_
    refine State.claim_keep ?_
    assumption

theorem State.claimSet_keep {s₀ : State} {s : State} {t : Nat} {g : Nat} {nomaj : Bool} (h_s : Keep s₀ s) :
    Keep s₀ (State.claimSet s t g nomaj) := by
  unfold State.claimSet
  refine Keep.ite ?_ ?_
  · refine State.voteSet_keep ?_
    assumption
  · refine State.setLanes_keep ?_
    assumption

theorem State.sendRecord_keep {s₀ : State} {s : State} {t : Nat} {g : Nat} {ts : List Trans} (h_s : Keep s₀ s) :
    Keep s₀ (State.sendRecord s t g ts) := by
  unfold State.sendRecord
  refine Keep.ite ?_ ?_
  · assumption
  · try dsimp only
    try dsimp only
    refine Keep.upd ?_
    assumption

theorem State.skipSeq_keep {s₀ : State} {s : State} {t : Nat} {g : Nat} (h_s : Keep s₀ s) :
    Keep s₀ (State.skipSeq s t g) := by
  unfold State.skipSeq
  refine Keep.ite ?_ ?_
  · refine State.nextSeq_keep ?_
    assumption
  · assumption

theorem State.startPeriod_keep {s₀ : State} {s : State} {t : Nat} {g : Nat} {m : Bool} {fresh : Bool} {nomaj : Bool} (h_s : Keep s₀ s) :
    Keep s₀ (State.startPeriod s t g m fresh nomaj) := by
  unfold State.startPeriod
  dsimp only
  refine Keep.ite ?_ ?_
  · refine Keep.ite ?_ ?_
    · refine State.skipSeq_keep ?_
      refine Keep.ite ?_ ?_
      · refine State.genEvent_keep ?_
        refine State.countFormed_keep ?_
        refine State.setGen_keep ?_
        refine Keep.foldl ?_ _ ?_
        · intro x1 x2 h3
          refine State.openBlank_keep ?_
          assumption
        · split
          · refine State.pulse_keep ?_
            refine State.satF_keep ?_
            refine State.setGen_keep ?_
            assumption
          · refine State.pulse_keep ?_
            refine State.satF_keep ?_
            refine State.setGen_keep ?_
            assumption
          · refine State.setGen_keep ?_
            assumption
      · refine State.countFormed_keep ?_
        refine State.setGen_keep ?_
        refine Keep.foldl ?_ _ ?_
        · intro x4 x5 h6
          refine State.openBlank_keep ?_
          assumption
        · split
          · refine State.pulse_keep ?_
            refine State.satF_keep ?_
            refine State.setGen_keep ?_
            assumption
          · refine State.pulse_keep ?_
            refine State.satF_keep ?_
            refine State.setGen_keep ?_
            assumption
          · refine State.setGen_keep ?_
            assumption
    · refine Keep.ite ?_ ?_
      · refine State.claimSet_keep ?_
        refine Keep.ite ?_ ?_
        · refine State.genEvent_keep ?_
          refine State.countFormed_keep ?_
          refine State.setGen_keep ?_
          refine Keep.foldl ?_ _ ?_
          · intro x7 x8 h9
            refine State.openBlank_keep ?_
            assumption
          · split
            · refine State.pulse_keep ?_
              refine State.satF_keep ?_
              refine State.setGen_keep ?_
              assumption
            · refine State.pulse_keep ?_
              refine State.satF_keep ?_
              refine State.setGen_keep ?_
              assumption
            · refine State.setGen_keep ?_
              assumption
        · refine State.countFormed_keep ?_
          refine State.setGen_keep ?_
          refine Keep.foldl ?_ _ ?_
          · intro x10 x11 h12
            refine State.openBlank_keep ?_
            assumption
          · split
            · refine State.pulse_keep ?_
              refine State.satF_keep ?_
              refine State.setGen_keep ?_
              assumption
            · refine State.pulse_keep ?_
              refine State.satF_keep ?_
              refine State.setGen_keep ?_
              assumption
            · refine State.setGen_keep ?_
              assumption
      · refine Keep.ite ?_ ?_
        · refine State.genEvent_keep ?_
          refine State.countFormed_keep ?_
          refine State.setGen_keep ?_
          refine Keep.foldl ?_ _ ?_
          · intro x13 x14 h15
            refine State.openBlank_keep ?_
            assumption
          · split
            · refine State.pulse_keep ?_
              refine State.satF_keep ?_
              refine State.setGen_keep ?_
              assumption
            · refine State.pulse_keep ?_
              refine State.satF_keep ?_
              refine State.setGen_keep ?_
              assumption
            · refine State.setGen_keep ?_
              assumption
        · refine State.countFormed_keep ?_
          refine State.setGen_keep ?_
          refine Keep.foldl ?_ _ ?_
          · intro x16 x17 h18
            refine State.openBlank_keep ?_
            assumption
          · split
            · refine State.pulse_keep ?_
              refine State.satF_keep ?_
              refine State.setGen_keep ?_
              assumption
            · refine State.pulse_keep ?_
              refine State.satF_keep ?_
              refine State.setGen_keep ?_
              assumption
            · refine State.setGen_keep ?_
              assumption
  · refine Keep.ite ?_ ?_
    · refine State.sendRecord_keep ?_
      refine Keep.ite ?_ ?_
      · refine State.genEvent_keep ?_
        refine State.outputs_keep ?_
        refine State.countFormed_keep ?_
        refine State.setGen_keep ?_
        split
        · refine State.pulse_keep ?_
          refine State.satF_keep ?_
          refine State.setGen_keep ?_
          assumption
        · refine State.pulse_keep ?_
          refine State.satF_keep ?_
          refine State.setGen_keep ?_
          assumption
        · refine State.setGen_keep ?_
          assumption
      · refine State.outputs_keep ?_
        refine State.countFormed_keep ?_
        refine State.setGen_keep ?_
        split
        · refine State.pulse_keep ?_
          refine State.satF_keep ?_
          refine State.setGen_keep ?_
          assumption
        · refine State.pulse_keep ?_
          refine State.satF_keep ?_
          refine State.setGen_keep ?_
          assumption
        · refine State.setGen_keep ?_
          assumption
    · refine Keep.ite ?_ ?_
      · refine State.genEvent_keep ?_
        refine State.outputs_keep ?_
        refine State.countFormed_keep ?_
        refine State.setGen_keep ?_
        split
        · refine State.pulse_keep ?_
          refine State.satF_keep ?_
          refine State.setGen_keep ?_
          assumption
        · refine State.pulse_keep ?_
          refine State.satF_keep ?_
          refine State.setGen_keep ?_
          assumption
        · refine State.setGen_keep ?_
          assumption
      · refine State.outputs_keep ?_
        refine State.countFormed_keep ?_
        refine State.setGen_keep ?_
        split
        · refine State.pulse_keep ?_
          refine State.satF_keep ?_
          refine State.setGen_keep ?_
          assumption
        · refine State.pulse_keep ?_
          refine State.satF_keep ?_
          refine State.setGen_keep ?_
          assumption
        · refine State.setGen_keep ?_
          assumption

theorem State.mRise_keep {s₀ : State} {s : State} {t : Nat} {g : Nat} {at_ : Nat} {upset : Nat} (h_s : Keep s₀ s) :
    Keep s₀ (State.mRise s t g at_ upset) := by
  unfold State.mRise
  dsimp only
  refine State.outputs_keep ?_
  refine State.countFormed_keep ?_
  refine State.setGen_keep ?_
  assumption

theorem State.mFalls_keep {s₀ : State} {s : State} {t : Nat} {g : Nat} {at_ : Nat} {upset : Nat} (h_s : Keep s₀ s) :
    Keep s₀ (State.mFalls s t g at_ upset) := by
  unfold State.mFalls
  dsimp only
  refine State.outputs_keep ?_
  refine State.countFormed_keep ?_
  refine State.setGen_keep ?_
  assumption

theorem State.catchUp_keep {s₀ : State} {s : State} {t : Nat} {g : Nat} (h_s : Keep s₀ s) :
    Keep s₀ (State.catchUp s t g) := by
  unfold State.catchUp
  split
  · assumption
  · refine Keep.ite ?_ ?_
    · assumption
    · dsimp only
      refine Keep.ite ?_ ?_
      · refine State.genEvent_keep ?_
        refine State.mFalls_keep ?_
        refine State.setFlag_keep ?_
        refine State.setGen_keep ?_
        assumption
      · refine State.setGen_keep ?_
        assumption

theorem State.reloadBegin_keep {s₀ : State} {s : State} {t : Nat} {g : Nat} {r : Nat} (h_s : Keep s₀ s) :
    Keep s₀ (State.reloadBegin s t g r) := by
  unfold State.reloadBegin
  dsimp only
  refine Keep.ite ?_ ?_
  · refine State.keeperBack_keep ?_
    refine State.shadowEntry_keep ?_
    refine State.catchUp_keep ?_
    assumption
  · refine State.shadowEntry_keep ?_
    refine State.catchUp_keep ?_
    assumption

theorem State.reloadNumber_keep {s₀ : State} {s : State} {t : Nat} {g : Nat} {st : Nat} {arming : Bool} (h_s : Keep s₀ s) :
    Keep s₀ (State.reloadNumber s t g st arming) := by
  unfold State.reloadNumber
  dsimp only
  refine Keep.ite ?_ ?_
  · refine State.setF_keep ?_
    assumption
  · refine Keep.ite ?_ ?_
    · refine State.incF_keep ?_
      assumption
    · assumption

theorem State.reloadState_keep {s₀ : State} {s : State} {t : Nat} {g : Nat} {st : Nat} {arms : Bool} (h_s : Keep s₀ s) :
    Keep s₀ (State.reloadState s t g st arms) := by
  unfold State.reloadState
  refine Keep.ite ?_ ?_
  · refine State.undust_keep ?_
    refine State.setFlag_keep ?_
    refine State.setGenState_keep ?_
    assumption
  · refine Keep.ite ?_ ?_
    · refine State.setGenState_keep ?_
      assumption
    · assumption

theorem State.genReload_keep {s₀ : State} {s : State} {t : Nat} {g : Nat} {nomaj : Bool} {ledErr : Int} (h_s : Keep s₀ s) :
    Keep s₀ (State.genReload s t g nomaj ledErr) := by
  unfold State.genReload
  dsimp only
  refine Keep.ite ?_ ?_
  · assumption
  · refine Keep.ite ?_ ?_
    · refine State.genCfgErr_keep ?_
      refine State.setGen_keep ?_
      refine State.reloadBegin_keep ?_
      assumption
    · refine State.closure_keep ?_
      refine State.ledPeriod_keep ?_
      refine State.boundary_keep ?_
      refine State.genEvent_keep ?_
      refine Keep.ite ?_ ?_
      · refine State.startPeriod_keep ?_
        refine State.reloadState_keep ?_
        refine State.reloadNumber_keep ?_
        refine State.setGen_keep ?_
        refine State.reloadBegin_keep ?_
        assumption
      · refine State.reloadState_keep ?_
        refine State.reloadNumber_keep ?_
        refine State.setGen_keep ?_
        refine State.reloadBegin_keep ?_
        assumption

theorem State.compareMatch_keep {s₀ : State} {s : State} {t : Nat} {g : Nat} {k : Nat} {upset : Nat} (h_s : Keep s₀ s) :
    Keep s₀ (State.compareMatch s t g k upset) := by
  unfold State.compareMatch
  dsimp only
  refine Keep.ite ?_ ?_
  · refine Keep.ite ?_ ?_
    · refine State.catchUp_keep ?_
      assumption
    · assumption
  · split
    · refine Keep.ite ?_ ?_
      · refine State.setGen_keep ?_
        refine Keep.ite ?_ ?_
        · refine State.catchUp_keep ?_
          assumption
        · assumption
      · refine State.genEvent_keep ?_
        refine Keep.ite ?_ ?_
        · refine State.setGen_keep ?_
          refine State.setGen_keep ?_
          refine Keep.ite ?_ ?_
          · refine State.catchUp_keep ?_
            assumption
          · assumption
        · refine State.mRise_keep ?_
          refine State.setGen_keep ?_
          refine Keep.ite ?_ ?_
          · refine State.catchUp_keep ?_
            assumption
          · assumption
    · refine Keep.ite ?_ ?_
      · refine State.setGen_keep ?_
        refine Keep.ite ?_ ?_
        · refine State.catchUp_keep ?_
          assumption
        · assumption
      · refine State.genEvent_keep ?_
        refine Keep.ite ?_ ?_
        · refine State.setGen_keep ?_
          refine State.setGen_keep ?_
          refine Keep.ite ?_ ?_
          · refine State.catchUp_keep ?_
            assumption
          · assumption
        · refine State.mFalls_keep ?_
          refine State.setGen_keep ?_
          refine Keep.ite ?_ ?_
          · refine State.catchUp_keep ?_
            assumption
          · assumption
    · refine State.genEvent_keep ?_
      refine State.setGen_keep ?_
      refine Keep.ite ?_ ?_
      · refine State.catchUp_keep ?_
        assumption
      · assumption
    · refine State.genEvent_keep ?_
      refine State.setGen_keep ?_
      refine Keep.ite ?_ ?_
      · refine State.catchUp_keep ?_
        assumption
      · assumption

theorem State.pendEvent_keep {s₀ : State} {s : State} {t : Nat} {g : Nat} (h_s : Keep s₀ s) :
    Keep s₀ (State.pendEvent s t g) := by
  unfold State.pendEvent
  try dsimp only
  refine Keep.ite ?_ ?_
  · refine State.genEvent_keep ?_
    · refine State.setGen_keep ?_
      · assumption
  · assumption

theorem State.deadTime_keep {s₀ : State} {s : State} {t : Nat} {g : Nat} {isH : Bool} {upset : Nat} (h_s : Keep s₀ s) :
    Keep s₀ (State.deadTime s t g isH upset) := by
  unfold State.deadTime
  try dsimp only
  split
  · assumption
  · refine Keep.ite ?_ ?_
    · assumption
    · try dsimp only
      refine State.outputs_keep ?_
      · refine State.setGen_keep ?_
        · assumption

theorem State.loadPhase_keep {s₀ : State} {s : State} {t : Nat} {g : Nat} (h_s : Keep s₀ s) :
    Keep s₀ (State.loadPhase s t g) := by
  unfold State.loadPhase
  dsimp only
  refine Keep.ite ?_ ?_
  · assumption
  · refine State.setFlag_keep ?_
    refine State.setGen_keep ?_
    assumption

theorem State.syncEvent_keep {s₀ : State} {s : State} {t : Nat} {j : Nat} {w : Nat} (h_s : Keep s₀ s) :
    Keep s₀ (State.syncEvent s t j w) := by
  unfold State.syncEvent
  try dsimp only
  refine Keep.foldl ?_ _ ?_
  · intro s1 x2 h3
    try dsimp only
    refine Keep.ite ?_ ?_
    · refine Keep.ite ?_ ?_
      · refine State.setGen_keep ?_
        · assumption
      · refine State.loadPhase_keep ?_
        · assumption
    · assumption
  · refine State.satF_keep ?_
    · assumption

theorem State.lateLoads_keep {s₀ : State} {s : State} {t : Nat} {j : Nat} (h_s : Keep s₀ s) :
    Keep s₀ (State.lateLoads s t j) := by
  unfold State.lateLoads
  refine Keep.foldl ?_ _ ?_
  · intro s1 x2 h3
    try dsimp only
    refine Keep.ite ?_ ?_
    · refine State.loadPhase_keep ?_
      · assumption
    · assumption
  · assumption

theorem State.releaseLanes_keep {s₀ : State} {s : State} {t : Nat} (h_s : Keep s₀ s) :
    Keep s₀ (State.releaseLanes s t) := by
  unfold State.releaseLanes
  try dsimp only
  refine State.setLanes_keep ?_
  · assumption

theorem State.placeDelayed_keep {s₀ : State} {s : State} {t : Nat} {upset : Nat} (h_s : Keep s₀ s) :
    Keep s₀ (State.placeDelayed s t upset) := by
  unfold State.placeDelayed
  dsimp only
  split
  · refine Keep.ite ?_ ?_
    · assumption
    · refine State.maxF_keep ?_
      refine State.driveEdge_keep ?_
      refine State.setGen_keep ?_
      refine State.claim_keep ?_
      refine State.setLanes_keep ?_
      assumption
  · split
    · refine Keep.ite ?_ ?_
      · assumption
      · refine State.maxF_keep ?_
        refine State.voteSet_keep ?_
        refine State.setLanes_keep ?_
        assumption
    · assumption

theorem State.lateWrite_keep {s₀ : State} {s : State} {t : Nat} {g : Nat} (h_s : Keep s₀ s) :
    Keep s₀ (State.lateWrite s t g) := by
  unfold State.lateWrite
  try dsimp only
  refine Keep.ite ?_ ?_
  · refine State.pulse_keep ?_
    · refine State.satF_keep ?_
      · refine State.setFlag_keep ?_
        · assumption
  · assumption

theorem State.showBind_keep {s₀ : State} {s : State} {t : Nat} {g : Nat} {on : Bool} (h_s : Keep s₀ s) :
    Keep s₀ (State.showBind s t g on) := by
  unfold State.showBind
  refine Keep.ite ?_ ?_
  · assumption
  · try dsimp only
    try dsimp only
    refine Keep.ite ?_ ?_
    · try dsimp only
      try dsimp only
      refine State.setF_keep ?_
      · refine State.setF_keep ?_
        · refine State.setFlag_keep ?_
          · try dsimp only
            try dsimp only
            refine State.setF_keep ?_
            · refine State.setF_keep ?_
              · refine State.setFlag_keep ?_
                · assumption
    · try dsimp only
      try dsimp only
      refine State.setF_keep ?_
      · refine State.setF_keep ?_
        · refine State.setFlag_keep ?_
          · assumption

end Sys2Proof.Machine
end

