-- ==== Sys2Proof/Laws/KeepWords.lean ====
section
/-! SUPPORT. Laws/KeepWords.lean: every operation of Machine/Words.lean keeps what Laws/Keep.lean says. -/

namespace Sys2Proof.Machine

theorem State.setSlot_keep {s₀ : State} {s : State} {base : Nat} {x : Slot} {v : Nat} (h_s : Keep s₀ s) :
    Keep s₀ (State.setSlot s base x v) := by
  unfold State.setSlot
  refine State.setF_keep ?_
  · assumption

theorem State.softSlot_keep {s₀ : State} {s : State} {base : Nat} {x : Slot} {req : Nat} {v : Nat} (h_s : Keep s₀ s) :
    Keep s₀ (State.softSlot s base x req v) := by
  unfold State.softSlot
  refine Keep.ite ?_ ?_
  · assumption
  · refine State.setSlot_keep ?_
    refine State.noteSoft_keep ?_
    assumption

theorem State.resetRegs_keep {s₀ : State} {s : State} {p : Page} (h_s : Keep s₀ s) :
    Keep s₀ (State.resetRegs s p) := by
  unfold State.resetRegs
  refine Keep.updRegs ?_ (fun h => ?_)
  · assumption
  · exact SMap.wf_filter h _

theorem State.journalReg_keep {s₀ : State} {s : State} {addr : Nat} {value : Nat} {mask : Nat} (h_s : Keep s₀ s) :
    Keep s₀ (State.journalReg s addr value mask) := by
  unfold State.journalReg
  split
  · refine Keep.foldl ?_ _ ?_
    · intro s1 x2 h3
      refine Keep.ite ?_ ?_
      · try dsimp only
        try dsimp only
        try dsimp only
        refine Keep.upd ?_
        refine Keep.ite ?_ ?_
        · refine State.setF_keep ?_
          · assumption
        · assumption
      · assumption
    · assumption
  · assumption

end Sys2Proof.Machine
end

