-- ==== Sys2Proof/Laws/KeepSampOps.lean ====
section
/-! SUPPORT. Laws/KeepSampOps.lean: every operation of Machine/SampOps.lean keeps what Laws/Keep.lean says. -/

namespace Sys2Proof.Machine

theorem State.setCmp_keep {s₀ : State} {s : State} {k : Nat} {x : CmpSt} (h_s : Keep s₀ s) :
    Keep s₀ (State.setCmp s k x) := by
  unfold State.setCmp
  refine Keep.upd ?_
  assumption

theorem State.pathMark_keep {s₀ : State} {s : State} {c : Nat} {k : Nat} (h_s : Keep s₀ s) :
    Keep s₀ (State.pathMark s c k) := by
  unfold State.pathMark
  refine Keep.upd ?_
  assumption

theorem State.sourceLook_keep {s₀ : State} {s : State} {c : Nat} {k : Nat} (h_s : Keep s₀ s) :
    Keep s₀ (State.sourceLook s c k) := by
  unfold State.sourceLook
  dsimp only
  refine Keep.ite ?_ ?_
  · assumption
  · refine State.tripLevel_keep ?_
    refine Keep.upd ?_
    assumption

theorem State.sourceInput_keep {s₀ : State} {s : State} {c : Nat} {k : Nat} {v : Int} (h_s : Keep s₀ s) :
    Keep s₀ (State.sourceInput s c k v) := by
  unfold State.sourceInput
  refine State.sourceLook_keep ?_
  refine Keep.upd ?_
  assumption

theorem State.refTo_keep {s₀ : State} {s : State} {c : Nat} {x : RefSt} (h_s : Keep s₀ s) :
    Keep s₀ (State.refTo s c x) := by
  unfold State.refTo
  refine Keep.foldl ?_ _ ?_
  · intro x1 x2 h3
    refine State.sourceLook_keep ?_
    assumption
  · refine Keep.upd ?_
    assumption

theorem State.setAdc_keep {s₀ : State} {s : State} {n : Nat} {x : AdcSt} (h_s : Keep s₀ s) :
    Keep s₀ (State.setAdc s n x) := by
  unfold State.setAdc
  refine State.setFlag_keep ?_
  · refine Keep.upd ?_
    assumption

theorem State.startSeq_keep {s₀ : State} {s : State} {n : Nat} {s0 : Nat} (h_s : Keep s₀ s) :
    Keep s₀ (State.startSeq s n s0) := by
  unfold State.startSeq
  try dsimp only
  refine State.setAdc_keep ?_
  · assumption

theorem State.adcEvent_keep {s₀ : State} {s : State} {n : Nat} (h_s : Keep s₀ s) :
    Keep s₀ (State.adcEvent s n) := by
  unfold State.adcEvent
  dsimp only
  split
  · assumption
  · refine Keep.ite ?_ ?_
    · refine State.pulse_keep ?_
      refine State.satF_keep ?_
      refine State.overranOne_keep ?_
      assumption
    · refine Keep.ite ?_ ?_
      · refine State.overranOne_keep ?_
        assumption
      · refine Keep.ite ?_ ?_
        · refine State.satF_keep ?_
          refine State.setAdc_keep ?_
          refine State.tookOne_keep ?_
          assumption
        · split
          · refine Keep.ite ?_ ?_
            · refine State.satF_keep ?_
              refine State.setAdc_keep ?_
              refine State.tookOne_keep ?_
              assumption
            · refine State.startSeq_keep ?_
              refine State.setAdc_keep ?_
              refine State.tookOne_keep ?_
              assumption
          · refine State.satF_keep ?_
            refine State.setAdc_keep ?_
            refine State.tookOne_keep ?_
            assumption
          · refine State.satF_keep ?_
            refine State.setAdc_keep ?_
            refine State.tookOne_keep ?_
            assumption

theorem State.timeSeries_keep {s₀ : State} {s : State} {n : Nat} (h_s : Keep s₀ s) :
    Keep s₀ (State.timeSeries s n) := by
  unfold State.timeSeries
  try dsimp only
  refine Keep.ite ?_ ?_
  · refine State.setAdc_keep ?_
    · assumption
  · refine Keep.ite ?_ ?_
    · refine State.satF_keep ?_
      · refine State.setAdc_keep ?_
        · assumption
    · try dsimp only
      refine State.satF_keep ?_
      · refine State.setAdc_keep ?_
        · assumption

theorem State.timeInstant_keep {s₀ : State} {s : State} {n : Nat} (h_s : Keep s₀ s) :
    Keep s₀ (State.timeInstant s n) := by
  unfold State.timeInstant
  try dsimp only
  split
  · assumption
  · refine Keep.ite ?_ ?_
    · assumption
    · try dsimp only
      try dsimp only
      refine Keep.ite ?_ ?_
      · refine State.satF_keep ?_
        · refine State.setAdc_keep ?_
          · assumption
      · split
        · refine State.startSeq_keep ?_
          · refine State.setAdc_keep ?_
            · assumption
        · refine State.satF_keep ?_
          · refine State.setAdc_keep ?_
            · assumption
        · refine State.satF_keep ?_
          · refine State.setAdc_keep ?_
            · assumption

theorem State.seqDone_keep {s₀ : State} {s : State} {n : Nat} (h_s : Keep s₀ s) :
    Keep s₀ (State.seqDone s n) := by
  unfold State.seqDone
  refine State.pulse_keep ?_
  · refine State.produce_keep ?_
    · assumption

theorem State.resetPageAt_keep {s₀ : State} {s : State} {base : Nat} (h_s : Keep s₀ s) :
    Keep s₀ (State.resetPageAt s base) := by
  unfold State.resetPageAt
  split
  · refine State.resetRegs_keep ?_
    assumption
  · assumption

theorem State.adcDown_keep {s₀ : State} {s : State} {n : Nat} (h_s : Keep s₀ s) :
    Keep s₀ (State.adcDown s n) := by
  unfold State.adcDown
  dsimp only
  refine Keep.ite ?_ ?_
  · assumption
  · refine Keep.ite ?_ ?_
    · refine State.setAdc_keep ?_
      refine State.resetPageAt_keep ?_
      refine State.setAdc_keep ?_
      refine State.setFlag_keep ?_
      assumption
    · refine State.setAdc_keep ?_
      refine State.setFlag_keep ?_
      assumption

theorem State.endSeqs_keep {s₀ : State} {s : State} {n : Nat} (h_s : Keep s₀ s) :
    Keep s₀ (State.endSeqs s n) := by
  unfold State.endSeqs
  dsimp only
  refine State.adcDown_keep ?_
  refine Keep.foldl ?_ _ ?_
  · intro x1 x2 h3
    refine State.seqDone_keep ?_
    assumption
  · refine State.setAdc_keep ?_
    assumption

theorem State.refFell_keep {s₀ : State} {s : State} {c : Nat} (h_s : Keep s₀ s) :
    Keep s₀ (State.refFell s c) := by
  unfold State.refFell
  refine Keep.foldl ?_ _ ?_
  · intro s1 x2 h3
    try dsimp only
    refine State.endSeqs_keep ?_
    · refine State.setAdc_keep ?_
      · assumption
  · assumption

theorem State.refDown_keep {s₀ : State} {s : State} {c : Nat} (h_s : Keep s₀ s) :
    Keep s₀ (State.refDown s c) := by
  unfold State.refDown
  refine Keep.ite ?_ ?_
  · refine State.refFell_keep ?_
    refine State.setFlag_keep ?_
    assumption
  · assumption

theorem State.refSettleAt_keep {s₀ : State} {s : State} {c : Nat} {nv : Nat} (h_s : Keep s₀ s) :
    Keep s₀ (State.refSettleAt s c nv) := by
  unfold State.refSettleAt
  dsimp only
  refine State.refDown_keep ?_
  refine State.refTo_keep ?_
  assumption

theorem State.refSettle_keep {s₀ : State} {s : State} {c : Nat} (h_s : Keep s₀ s) :
    Keep s₀ (State.refSettle s c) := by
  unfold State.refSettle
  refine State.refSettleAt_keep ?_
  assumption

theorem State.refDeparture_keep {s₀ : State} {s : State} {c : Nat} {nv : Nat} (h_s : Keep s₀ s) :
    Keep s₀ (State.refDeparture s c nv) := by
  unfold State.refDeparture
  refine State.pulse_keep ?_
  refine State.satF_keep ?_
  refine State.setFlag_keep ?_
  refine State.refDown_keep ?_
  refine State.refTo_keep ?_
  assumption

theorem State.adcDisable_keep {s₀ : State} {s : State} {n : Nat} {rst : optParam Bool false} (h_s : Keep s₀ s) :
    Keep s₀ (State.adcDisable s n rst) := by
  unfold State.adcDisable
  dsimp only
  refine State.endSeqs_keep ?_
  refine State.setAdc_keep ?_
  refine State.setFlag_keep ?_
  assumption

theorem State.adcEnable_keep {s₀ : State} {s : State} {n : Nat} (h_s : Keep s₀ s) :
    Keep s₀ (State.adcEnable s n) := by
  unfold State.adcEnable
  try dsimp only
  refine Keep.ite ?_ ?_
  · refine State.timeSeries_keep ?_
    · refine State.setAdc_keep ?_
      · refine State.setFlag_keep ?_
        · assumption
  · refine State.setAdc_keep ?_
    · refine State.setFlag_keep ?_
      · assumption

theorem State.convDone_keep {s₀ : State} {s : State} {n : Nat} {vin : Int} {dev : Int} (h_s : Keep s₀ s) :
    Keep s₀ (State.convDone s n vin dev) := by
  unfold State.convDone
  dsimp only
  split
  · assumption
  · refine Keep.ite ?_ ?_
    · assumption
    · refine State.endSeqs_keep ?_
      refine Keep.ite ?_ ?_
      · refine State.pulse_keep ?_
        refine State.produce_keep ?_
        refine State.klogRecord_keep ?_
        refine Keep.upd ?_
        refine Keep.ite ?_ ?_
        · refine State.satF_keep ?_
          refine State.incF_keep ?_
          refine State.incF_keep ?_
          refine State.setF_keep ?_
          refine State.setAdc_keep ?_
          assumption
        · refine State.incF_keep ?_
          refine State.incF_keep ?_
          refine State.setF_keep ?_
          refine State.setAdc_keep ?_
          assumption
      · refine State.produce_keep ?_
        refine State.klogRecord_keep ?_
        refine Keep.upd ?_
        refine Keep.ite ?_ ?_
        · refine State.satF_keep ?_
          refine State.incF_keep ?_
          refine State.incF_keep ?_
          refine State.setF_keep ?_
          refine State.setAdc_keep ?_
          assumption
        · refine State.incF_keep ?_
          refine State.incF_keep ?_
          refine State.setF_keep ?_
          refine State.setAdc_keep ?_
          assumption

theorem State.sampleDelivery_keep {s₀ : State} {s : State} {c : Nat} (h_s : Keep s₀ s) :
    Keep s₀ (State.sampleDelivery s c) := by
  unfold State.sampleDelivery
  split
  · assumption
  · try dsimp only
    refine Keep.ite ?_ ?_
    · refine Keep.upd ?_
      assumption
    · try dsimp only
      refine Keep.foldl ?_ _ ?_
      · intro s1 x2 h3
        refine State.triggerAll_keep ?_
        · assumption
      · refine State.setIQ_keep ?_
        · refine Keep.upd ?_
          assumption

theorem State.readRes_keep {s₀ : State} {s : State} {n : Nat} {ch : Nat} {req : Nat} (h_s : Keep s₀ s) :
    Keep s₀ (State.readRes s n ch req) := by
  unfold State.readRes
  try dsimp only
  refine State.setAdc_keep ?_
  · assumption

theorem State.adcStartWrite_keep {s₀ : State} {s : State} {n : Nat} {off : Nat} {size : Nat} {v : Nat} (h_s : Keep s₀ s) :
    Keep s₀ (State.adcStartWrite s n off size v).1 := by
  unfold State.adcStartWrite
  try dsimp only
  refine Keep.ite1 ?_ ?_
  · try dsimp only
    refine State.setAdc_keep ?_
    · assumption
  · try dsimp only
    try dsimp only
    refine Keep.ite1 ?_ ?_
    · try dsimp only
      refine State.setAdc_keep ?_
      · assumption
    · try dsimp only
      refine Keep.ite1 ?_ ?_
      · try dsimp only
        refine State.timeSeries_keep ?_
        · refine State.setF_keep ?_
          · refine State.setAdc_keep ?_
            · assumption
      · try dsimp only
        refine State.setF_keep ?_
        · refine State.setAdc_keep ?_
          · assumption

theorem State.thrTo_keep {s₀ : State} {s : State} {k : Nat} {v : Nat} {x : CmpSt} (h_s : Keep s₀ s) :
    Keep s₀ (State.thrTo s k v x) := by
  unfold State.thrTo
  refine State.sourceLook_keep ?_
  refine State.setCmp_keep ?_
  refine State.setF_keep ?_
  assumption

theorem State.thrWrite_keep {s₀ : State} {s : State} {k : Nat} {v : Nat} (h_s : Keep s₀ s) :
    Keep s₀ (State.thrWrite s k v) := by
  unfold State.thrWrite
  dsimp only
  refine Keep.ite ?_ ?_
  · refine State.setCmp_keep ?_
    refine State.setF_keep ?_
    refine Keep.ite ?_ ?_
    · refine State.satF_keep ?_
      assumption
    · assumption
  · refine State.thrTo_keep ?_
    refine State.setF_keep ?_
    refine Keep.ite ?_ ?_
    · refine State.satF_keep ?_
      assumption
    · assumption

theorem State.thrLoad_keep {s₀ : State} {s : State} {k : Nat} (h_s : Keep s₀ s) :
    Keep s₀ (State.thrLoad s k) := by
  unfold State.thrLoad
  dsimp only
  refine Keep.ite ?_ ?_
  · refine State.thrTo_keep ?_
    assumption
  · assumption

theorem State.setPathLevel_keep {s₀ : State} {s : State} {c : Nat} {k : Nat} {v : Bool} (h_s : Keep s₀ s) :
    Keep s₀ (State.setPathLevel s c k v) := by
  unfold State.setPathLevel
  refine Keep.ite ?_ ?_
  · refine State.setFlag_keep ?_
    assumption
  · refine State.setFlag_keep ?_
    assumption

theorem State.sourceOff_keep {s₀ : State} {s : State} {c : Nat} {k : Nat} (h_s : Keep s₀ s) :
    Keep s₀ (State.sourceOff s c k) := by
  unfold State.sourceOff
  dsimp only
  refine State.tripLevel_keep ?_
  refine State.setPathLevel_keep ?_
  refine Keep.ite ?_ ?_
  · refine State.pathMark_keep ?_
    assumption
  · assumption

theorem State.pathActive_keep {s₀ : State} {s : State} {c : Nat} {k : Nat} (h_s : Keep s₀ s) :
    Keep s₀ (State.pathActive s c k) := by
  unfold State.pathActive
  refine Keep.ite ?_ ?_
  · assumption
  · dsimp only
    refine Keep.ite ?_ ?_
    · refine State.pulse_keep ?_
      refine State.satF_keep ?_
      refine State.produce_keep ?_
      refine State.setPathLevel_keep ?_
      assumption
    · refine State.pulse_keep ?_
      refine State.satF_keep ?_
      refine State.produce_keep ?_
      refine State.setPathLevel_keep ?_
      assumption

theorem State.pathInactive_keep {s₀ : State} {s : State} {c : Nat} {k : Nat} (h_s : Keep s₀ s) :
    Keep s₀ (State.pathInactive s c k) := by
  unfold State.pathInactive
  refine Keep.ite ?_ ?_
  · refine State.setPathLevel_keep ?_
    assumption
  · assumption

theorem State.cmpEnable_keep {s₀ : State} {s : State} {k : Nat} {en : Bool} (h_s : Keep s₀ s) :
    Keep s₀ (State.cmpEnable s k en) := by
  unfold State.cmpEnable
  refine Keep.ite ?_ ?_
  · refine State.setCmp_keep ?_
    assumption
  · refine State.sourceOff_keep ?_
    refine State.setFlag_keep ?_
    refine State.setCmp_keep ?_
    assumption

theorem State.cmpsStart_keep {s₀ : State} {s : State} {c : Nat} (h_s : Keep s₀ s) :
    Keep s₀ (State.cmpsStart s c) := by
  unfold State.cmpsStart
  refine Keep.foldl ?_ _ ?_
  · intro x1 x2 h3
    refine Keep.ite ?_ ?_
    · refine State.cmpEnable_keep ?_
      assumption
    · assumption
  · assumption

theorem State.cmpReady_keep {s₀ : State} {s : State} {k : Nat} (h_s : Keep s₀ s) :
    Keep s₀ (State.cmpReady s k) := by
  unfold State.cmpReady
  split
  · refine Keep.ite ?_ ?_
    · refine State.sourceLook_keep ?_
      refine State.setFlag_keep ?_
      assumption
    · assumption
  · assumption

theorem State.setCap_keep {s₀ : State} {s : State} {k : Nat} {x : CapSt} (h_s : Keep s₀ s) :
    Keep s₀ (State.setCap s k x) := by
  unfold State.setCap
  refine Keep.upd ?_
  assumption

theorem State.capPush_keep {s₀ : State} {s : State} {k : Nat} {e : Nat} (h_s : Keep s₀ s) :
    Keep s₀ (State.capPush s k e) := by
  unfold State.capPush
  dsimp only
  split
  · refine State.satF_keep ?_
    refine State.setFlag_keep ?_
    refine State.setCap_keep ?_
    assumption
  · refine State.setCap_keep ?_
    assumption

theorem State.capSettle_keep {s₀ : State} {s : State} {k : Nat} (h_s : Keep s₀ s) :
    Keep s₀ (State.capSettle s k) := by
  unfold State.capSettle
  dsimp only
  refine Keep.ite ?_ ?_
  · assumption
  · refine Keep.foldl ?_ _ ?_
    · intro x1 x2 h3
      refine State.capPush_keep ?_
      assumption
    · refine State.setCap_keep ?_
      assumption

theorem State.capture_keep {s₀ : State} {s : State} {k : Nat} {level : Bool} (h_s : Keep s₀ s) :
    Keep s₀ (State.capture s k level) := by
  unfold State.capture
  dsimp only
  refine Keep.ite ?_ ?_
  · assumption
  · refine Keep.ite ?_ ?_
    · refine Keep.upd ?_
      assumption
    · refine State.produce_keep ?_
      refine State.pulse_keep ?_
      refine State.incF_keep ?_
      refine State.setCap_keep ?_
      refine State.capSettle_keep ?_
      refine Keep.upd ?_
      assumption

theorem State.capPop_keep {s₀ : State} {s : State} {k : Nat} (h_s : Keep s₀ s) :
    Keep s₀ (State.capPop s k).2 := by
  unfold State.capPop
  dsimp only
  split
  · dsimp only
    refine State.capSettle_keep ?_
    assumption
  · dsimp only
    refine State.setCap_keep ?_
    refine State.capSettle_keep ?_
    assumption

theorem State.capClear_keep {s₀ : State} {s : State} {k : Nat} (h_s : Keep s₀ s) :
    Keep s₀ (State.capClear s k) := by
  unfold State.capClear
  dsimp only
  refine State.setCap_keep ?_
  refine State.satF_keep ?_
  refine State.capSettle_keep ?_
  assumption

end Sys2Proof.Machine
end

