-- ==== Sys2Proof/Laws/KeepFcstOps.lean ====
section
/-! SUPPORT. Laws/KeepFcstOps.lean: every operation of Machine/FcstOps.lean keeps what Laws/Keep.lean says. -/

namespace Sys2Proof.Machine

theorem State.setFc_keep {s₀ : State} {s : State} {c : Nat} {x : FcstSt} (h_s : Keep s₀ s) :
    Keep s₀ (State.setFc s c x) := by
  unfold State.setFc
  try dsimp only
  split
  · refine State.setF_keep ?_
    · refine State.setF_keep ?_
      · refine State.setFlag_keep ?_
        · refine Keep.upd ?_
          assumption
  · refine State.setF_keep ?_
    · refine State.setF_keep ?_
      · refine State.setF_keep ?_
        · refine State.setFlag_keep ?_
          · refine Keep.upd ?_
            assumption

theorem State.skipLaunch_keep {s₀ : State} {s : State} {c : Nat} {j : Nat} (h_s : Keep s₀ s) :
    Keep s₀ (State.skipLaunch s c j) := by
  unfold State.skipLaunch
  refine State.pulse_keep ?_
  · refine State.satF_keep ?_
    · assumption

theorem State.jobIdle_keep {s₀ : State} {s : State} {c : Nat} {j : Nat} (h_s : Keep s₀ s) :
    Keep s₀ (State.jobIdle s c j) := by
  unfold State.jobIdle
  refine Keep.ite ?_ ?_
  · assumption
  · refine State.setF_keep ?_
    assumption

theorem State.launchPoint_keep {s₀ : State} {s : State} {c : Nat} {j : Nat} (h_s : Keep s₀ s) :
    Keep s₀ (State.launchPoint s c j) := by
  unfold State.launchPoint
  try dsimp only
  refine Keep.ite ?_ ?_
  · refine State.skipLaunch_keep ?_
    · assumption
  · try dsimp only
    try dsimp only
    refine State.setFc_keep ?_
    · refine State.setF_keep ?_
      · refine State.setF_keep ?_
        · assumption

theorem State.launchesSet_keep {s₀ : State} {s : State} {t : Nat} {g : Nat} (h_s : Keep s₀ s) :
    Keep s₀ (State.launchesSet s t g) := by
  unfold State.launchesSet
  dsimp only
  refine Keep.ite ?_ ?_
  · assumption
  · refine Keep.foldl ?_ _ ?_
    · intro x1 x2 h3
      refine Keep.ite ?_ ?_
      · assumption
      · refine Keep.ite ?_ ?_
        · refine State.skipLaunch_keep ?_
          assumption
        · refine Keep.upd ?_
          assumption
    · assumption

theorem State.forecastLaunch_keep {s₀ : State} {s : State} {c : Nat} {j : Nat} (h_s : Keep s₀ s) :
    Keep s₀ (State.forecastLaunch s c j) := by
  unfold State.forecastLaunch
  dsimp only
  refine Keep.ite ?_ ?_
  · split
    · assumption
    · refine Keep.ite ?_ ?_
      · refine State.launchPoint_keep ?_
        refine State.tookOne_keep ?_
        assumption
      · refine State.tookOne_keep ?_
        assumption
  · split
    · assumption
    · refine Keep.ite ?_ ?_
      · refine State.launchPoint_keep ?_
        refine Keep.upd ?_
        assumption
      · refine Keep.upd ?_
        assumption

theorem State.launchStart_keep {s₀ : State} {s : State} {c : Nat} (h_s : Keep s₀ s) :
    Keep s₀ (State.launchStart s c) := by
  unfold State.launchStart
  try dsimp only
  split
  · refine State.setF_keep ?_
    · refine State.setF_keep ?_
      · refine State.setFc_keep ?_
        · assumption
  · assumption

theorem State.endLaunch_keep {s₀ : State} {s : State} {c : Nat} {l : Launch} {out : Nat} {cause : Nat} {win : Nat} {cost : Int} {period : Nat} (h_s : Keep s₀ s) :
    Keep s₀ (State.endLaunch s c l out cause win cost period) := by
  unfold State.endLaunch
  try dsimp only
  refine State.pulse_keep ?_
  · refine State.klogRecord_keep ?_
    · split
      · refine State.satF_keep ?_
        · refine State.setF_keep ?_
          · refine State.setF_keep ?_
            · refine State.setF_keep ?_
              · assumption
      · refine State.pulse_keep ?_
        · refine State.satF_keep ?_
          · refine State.setF_keep ?_
            · refine State.setF_keep ?_
              · refine State.setF_keep ?_
                · assumption
      · refine State.pulse_keep ?_
        · refine State.satF_keep ?_
          · refine State.setF_keep ?_
            · refine State.setF_keep ?_
              · refine State.setF_keep ?_
                · assumption
      · refine State.pulse_keep ?_
        · refine State.satF_keep ?_
          · refine State.setF_keep ?_
            · refine State.setF_keep ?_
              · refine State.setF_keep ?_
                · assumption
      · refine State.pulse_keep ?_
        · refine State.satF_keep ?_
          · refine State.setF_keep ?_
            · refine State.setF_keep ?_
              · refine State.setF_keep ?_
                · assumption

theorem State.endRun_keep {s₀ : State} {s : State} {c : Nat} {r : FRun} {out : Nat} {cause : Nat} {period : Nat} (h_s : Keep s₀ s) :
    Keep s₀ (State.endRun s c r out cause period) := by
  unfold State.endRun
  try dsimp only
  refine State.endLaunch_keep ?_
  · refine State.setFc_keep ?_
    · assumption

theorem State.fcstAbort_keep {s₀ : State} {s : State} {c : Nat} (h_s : Keep s₀ s) :
    Keep s₀ (State.fcstAbort s c) := by
  unfold State.fcstAbort
  try dsimp only
  split
  · refine Keep.ite ?_ ?_
    · refine State.endRun_keep ?_
      · refine Keep.foldl ?_ _ ?_
        · intro s1 x2 h3
          refine State.endLaunch_keep ?_
          · assumption
        · refine Keep.ite ?_ ?_
          · assumption
          · refine State.setFc_keep ?_
            · assumption
    · refine Keep.foldl ?_ _ ?_
      · intro s4 x5 h6
        refine State.endLaunch_keep ?_
        · assumption
      · refine Keep.ite ?_ ?_
        · assumption
        · refine State.setFc_keep ?_
          · assumption
  · refine Keep.foldl ?_ _ ?_
    · intro s7 x8 h9
      refine State.endLaunch_keep ?_
      · assumption
    · refine Keep.ite ?_ ?_
      · assumption
      · refine State.setFc_keep ?_
        · assumption

theorem State.gatherDone_keep {s₀ : State} {s : State} {c : Nat} {bad : Bool} (h_s : Keep s₀ s) :
    Keep s₀ (State.gatherDone s c bad) := by
  unfold State.gatherDone
  split
  · assumption
  · try dsimp only
    try dsimp only
    refine Keep.ite ?_ ?_
    · assumption
    · refine Keep.ite ?_ ?_
      · refine State.endRun_keep ?_
        · assumption
      · try dsimp only
        refine State.setF_keep ?_
        · refine State.setFc_keep ?_
          · assumption

theorem State.fetchDone_keep {s₀ : State} {s : State} {c : Nat} {ue : Bool} (h_s : Keep s₀ s) :
    Keep s₀ (State.fetchDone s c ue) := by
  unfold State.fetchDone
  split
  · assumption
  · dsimp only
    refine Keep.ite ?_ ?_
    · assumption
    · refine Keep.ite ?_ ?_
      · refine State.endRun_keep ?_
        refine State.countIn_keep ?_
        assumption
      · refine Keep.ite ?_ ?_
        · refine State.endRun_keep ?_
          assumption
        · refine Keep.ite ?_ ?_
          · refine State.endRun_keep ?_
            assumption
          · refine State.setFc_keep ?_
            assumption

theorem State.rankDone_keep {s₀ : State} {s : State} {c : Nat} (h_s : Keep s₀ s) :
    Keep s₀ (State.rankDone s c) := by
  unfold State.rankDone
  split
  · split
    · refine State.setF_keep ?_
      · refine State.setFc_keep ?_
        · assumption
    · assumption
  · assumption

theorem State.evaluateDone_keep {s₀ : State} {s : State} {c : Nat} (h_s : Keep s₀ s) :
    Keep s₀ (State.evaluateDone s c) := by
  unfold State.evaluateDone
  split
  · split
    · try dsimp only
      try dsimp only
      refine State.setF_keep ?_
      · refine State.incF_keep ?_
        · refine State.setFc_keep ?_
          · assumption
    · assumption
  · assumption

theorem State.selectDone_keep {s₀ : State} {s : State} {c : Nat} (h_s : Keep s₀ s) :
    Keep s₀ (State.selectDone s c) := by
  unfold State.selectDone
  dsimp only
  split
  · split
    · refine Keep.ite ?_ ?_
      · refine State.fcstAbort_keep ?_
        assumption
      · refine Keep.ite ?_ ?_
        · refine State.endRun_keep ?_
          refine State.setF_keep ?_
          refine State.setF_keep ?_
          refine State.fcstAbort_keep ?_
          assumption
        · refine State.setF_keep ?_
          refine State.setF_keep ?_
          refine State.setFc_keep ?_
          refine State.setF_keep ?_
          refine State.setF_keep ?_
          refine State.fcstAbort_keep ?_
          assumption
    · refine State.fcstAbort_keep ?_
      assumption
  · refine State.fcstAbort_keep ?_
    assumption

theorem State.planArrival_keep {s₀ : State} {s : State} {c : Nat} (h_s : Keep s₀ s) :
    Keep s₀ (State.planArrival s c) := by
  unfold State.planArrival
  split
  · assumption
  · dsimp only
    refine Keep.ite ?_ ?_
    · refine State.satF_keep ?_
      refine State.bothTiles_keep ?_ ?_
      · refine Keep.upd ?_
        assumption
      · intro x1 x2 h3
        refine State.takePlan_keep ?_
        assumption
    · refine State.bothTiles_keep ?_ ?_
      · refine Keep.upd ?_
        assumption
      · intro x4 x5 h6
        refine State.takePlan_keep ?_
        assumption

theorem State.launchEnd_keep {s₀ : State} {s : State} {c : Nat} (h_s : Keep s₀ s) :
    Keep s₀ (State.launchEnd s c) := by
  unfold State.launchEnd
  split
  · refine Keep.ite ?_ ?_
    · try dsimp only
      try dsimp only
      refine State.endRun_keep ?_
      · refine Keep.ite ?_ ?_
        · refine State.setF_keep ?_
          · refine State.setF_keep ?_
            · assumption
        · refine State.setF_keep ?_
          · assumption
    · assumption
  · assumption

theorem State.setKl_keep {s₀ : State} {s : State} {c : Nat} {k : Klog} (h_s : Keep s₀ s) :
    Keep s₀ (State.setKl s c k) := by
  unfold State.setKl
  refine State.setF_keep ?_
  · refine Keep.upd ?_
    assumption

theorem State.klogState_keep {s₀ : State} {s : State} {c : Nat} {st : Nat} (h_s : Keep s₀ s) :
    Keep s₀ (State.klogState s c st) := by
  unfold State.klogState
  try dsimp only
  refine Keep.ite ?_ ?_
  · refine State.pulse_keep ?_
    · refine State.setF_keep ?_
      · assumption
  · refine State.setF_keep ?_
    · assumption

theorem State.klogWrite_keep {s₀ : State} {s : State} {c : Nat} (h_s : Keep s₀ s) :
    Keep s₀ (State.klogWrite s c) := by
  unfold State.klogWrite
  try dsimp only
  split
  · assumption
  · refine Keep.ite ?_ ?_
    · assumption
    · try dsimp only
      try dsimp only
      refine Keep.ite ?_ ?_
      · refine State.klogState_keep ?_
        · refine State.setKl_keep ?_
          · refine Keep.ite ?_ ?_
            · refine State.pulse_keep ?_
              · refine State.setFlag_keep ?_
                · refine State.incF_keep ?_
                  · refine State.setKl_keep ?_
                    · refine State.memBytes_keep ?_
                      · assumption
            · refine State.incF_keep ?_
              · refine State.setKl_keep ?_
                · refine State.memBytes_keep ?_
                  · assumption
      · refine Keep.ite ?_ ?_
        · refine State.pulse_keep ?_
          · refine State.setFlag_keep ?_
            · refine State.incF_keep ?_
              · refine State.setKl_keep ?_
                · refine State.memBytes_keep ?_
                  · assumption
        · refine State.incF_keep ?_
          · refine State.setKl_keep ?_
            · refine State.memBytes_keep ?_
              · assumption

theorem State.klogStop_keep {s₀ : State} {s : State} {c : Nat} (h_s : Keep s₀ s) :
    Keep s₀ (State.klogStop s c) := by
  unfold State.klogStop
  try dsimp only
  split
  · assumption
  · try dsimp only
    refine Keep.ite ?_ ?_
    · refine State.klogState_keep ?_
      · refine State.setKl_keep ?_
        · refine State.setF_keep ?_
          · refine State.tookOne_keep ?_
            · assumption
    · refine State.tookOne_keep ?_
      · assumption

theorem State.klogPostDone_keep {s₀ : State} {s : State} {c : Nat} (h_s : Keep s₀ s) :
    Keep s₀ (State.klogPostDone s c) := by
  unfold State.klogPostDone
  refine Keep.ite ?_ ?_
  · refine State.setKl_keep ?_
    · assumption
  · assumption

theorem State.klogDrained_keep {s₀ : State} {s : State} {c : Nat} (h_s : Keep s₀ s) :
    Keep s₀ (State.klogDrained s c) := by
  unfold State.klogDrained
  try dsimp only
  refine Keep.ite ?_ ?_
  · refine State.klogState_keep ?_
    · assumption
  · assumption

theorem State.klogEnable_keep {s₀ : State} {s : State} {c : Nat} {en : Bool} (h_s : Keep s₀ s) :
    Keep s₀ (State.klogEnable s c en) := by
  unfold State.klogEnable
  dsimp only
  refine Keep.ite ?_ ?_
  · refine Keep.ite ?_ ?_
    · refine State.klogState_keep ?_
      assumption
    · refine State.klogState_keep ?_
      refine State.setKl_keep ?_
      assumption
  · refine Keep.ite ?_ ?_
    · refine State.klogDrained_keep ?_
      refine State.setKl_keep ?_
      assumption
    · refine State.setKl_keep ?_
      assumption

theorem State.klogStart_keep {s₀ : State} {s : State} {c : Nat} (h_s : Keep s₀ s) :
    Keep s₀ (State.klogStart s c) := by
  unfold State.klogStart
  refine Keep.ite ?_ ?_
  · refine State.klogEnable_keep ?_
    assumption
  · assumption

theorem State.klogClear_keep {s₀ : State} {s : State} {c : Nat} (h_s : Keep s₀ s) :
    Keep s₀ (State.klogClear s c).1 := by
  unfold State.klogClear
  dsimp only
  refine Keep.ite1 ?_ ?_
  · dsimp only
    assumption
  · dsimp only
    refine State.klogDrained_keep ?_
    refine State.setKl_keep ?_
    refine State.setFlag_keep ?_
    refine State.setF_keep ?_
    refine State.setF_keep ?_
    refine State.setF_keep ?_
    refine State.setF_keep ?_
    assumption

end Sys2Proof.Machine
end

