-- ==== Sys2Proof/Laws/KeepNodeOps.lean ====
section
/-! SUPPORT. Laws/KeepNodeOps.lean: every operation of Machine/NodeOps.lean keeps what Laws/Keep.lean says. -/

namespace Sys2Proof.Machine

theorem State.setNode_keep {s₀ : State} {s : State} {k : Nat} {x : NodeSt} (h_s : Keep s₀ s) :
    Keep s₀ (State.setNode s k x) := by
  unfold State.setNode
  refine Keep.upd ?_
  assumption

theorem State.nodeServe_keep {s₀ : State} {s : State} {k : Nat} (h_s : Keep s₀ s) :
    Keep s₀ (State.nodeServe s k) := by
  unfold State.nodeServe
  dsimp only
  refine State.setNode_keep ?_
  assumption

theorem State.nodeOwn_keep {s₀ : State} {s : State} {k : Nat} {d : Nat} {f : Frame} (h_s : Keep s₀ s) :
    Keep s₀ (State.nodeOwn s k d f) := by
  unfold State.nodeOwn
  dsimp only
  refine State.nodeServe_keep ?_
  refine State.setNode_keep ?_
  refine State.nodeServe_keep ?_
  assumption

theorem State.nodeUp_keep {s₀ : State} {s : State} {k : Nat} {f : Frame} (h_s : Keep s₀ s) :
    Keep s₀ (State.nodeUp s k f) := by
  unfold State.nodeUp
  refine Keep.ite ?_ ?_
  · refine State.nodeOwn_keep ?_
    refine State.nodeOwn_keep ?_
    assumption
  · assumption

theorem State.nodeCrc_keep {s₀ : State} {s : State} {k : Nat} (h_s : Keep s₀ s) :
    Keep s₀ (State.nodeCrc s k) := by
  unfold State.nodeCrc
  refine State.setNode_keep ?_
  · assumption

theorem State.nodeTake_keep {s₀ : State} {s : State} {k : Nat} {line : List LineBlock} {ty : Nat} {f : State → Frame → State} (h_s : Keep s₀ s) (h_f : ∀ z0 z1, Keep s₀ z0 → Keep s₀ (f z0 z1)) :
    Keep s₀ (State.nodeTake s k line ty f) := by
  unfold State.nodeTake
  dsimp only
  split
  · refine Keep.ite ?_ ?_
    · assumption
    · refine State.nodeCrc_keep ?_
      assumption
  · refine Keep.ite ?_ ?_
    · assumption
    · refine Keep.ite ?_ ?_
      · refine Keep.ite ?_ ?_
        · assumption
        · refine State.nodeCrc_keep ?_
          assumption
      · refine h_f _ _ ?_
        assumption
  · assumption

theorem State.nodeSendOn_keep {s₀ : State} {s : State} {k : Nat} {d : Nat} {sof : Nat} {old : List Nat} {new : List Nat} {crc : Nat} {cut : Bool} (h_s : Keep s₀ s) :
    Keep s₀ (State.nodeSendOn s k d sof old new crc cut) := by
  unfold State.nodeSendOn
  dsimp only
  refine State.setNode_keep ?_
  refine State.nodeServe_keep ?_
  assumption

theorem State.nodeForward_keep {s₀ : State} {s : State} {k : Nat} {d : Nat} {line : List LineBlock} {held : Nat} (h_s : Keep s₀ s) :
    Keep s₀ (State.nodeForward s k d line held) := by
  unfold State.nodeForward
  dsimp only
  split
  · assumption
  · refine State.nodeCrc_keep ?_
    assumption
  · refine State.setNode_keep ?_
    assumption
  · refine Keep.ite ?_ ?_
    · assumption
    · refine State.nodeSendOn_keep ?_
      assumption
  · refine Keep.ite ?_ ?_
    · assumption
    · refine State.nodeSendOn_keep ?_
      refine Keep.ite ?_ ?_
      · assumption
      · refine State.nodeCrc_keep ?_
        assumption

theorem State.nodeTime_keep {s₀ : State} {s : State} {k : Nat} {d : Nat} {frac : Nat} {f : Frame} (h_s : Keep s₀ s) :
    Keep s₀ (State.nodeTime s k d frac f) := by
  unfold State.nodeTime
  try dsimp only
  refine Keep.ite ?_ ?_
  · assumption
  · try dsimp only
    refine State.setNode_keep ?_
    · assumption

theorem State.nodeTimeOut_keep {s₀ : State} {s : State} {k : Nat} (h_s : Keep s₀ s) :
    Keep s₀ (State.nodeTimeOut s k) := by
  unfold State.nodeTimeOut
  try dsimp only
  refine Keep.ite ?_ ?_
  · refine State.setNode_keep ?_
    · assumption
  · assumption

theorem State.nodeEcho_keep {s₀ : State} {s : State} {k : Nat} {d : Nat} {turn : Nat} {f : Frame} (h_s : Keep s₀ s) :
    Keep s₀ (State.nodeEcho s k d turn f) := by
  unfold State.nodeEcho
  dsimp only
  refine State.nodeOwn_keep ?_
  refine State.draw_keep ?_
  assumption

theorem State.enumTake_keep {s₀ : State} {s : State} {k : Nat} {next : Nat} (h_s : Keep s₀ s) :
    Keep s₀ (State.enumTake s k next) := by
  unfold State.enumTake
  dsimp only
  refine State.setNode_keep ?_
  assumption

theorem State.nodeEnum_keep {s₀ : State} {s : State} {k : Nat} {d : Nat} {line : List LineBlock} (h_s : Keep s₀ s) :
    Keep s₀ (State.nodeEnum s k d line) := by
  unfold State.nodeEnum
  split
  · refine State.nodeCrc_keep ?_
    assumption
  · dsimp only
    refine Keep.ite ?_ ?_
    · assumption
    · refine Keep.ite ?_ ?_
      · refine State.nodeCrc_keep ?_
        refine State.nodeSendOn_keep ?_
        assumption
      · refine Keep.ite ?_ ?_
        · refine State.enumTake_keep ?_
          refine State.nodeSendOn_keep ?_
          assumption
        · refine State.nodeSendOn_keep ?_
          assumption
  · assumption

theorem State.nodeSet_keep {s₀ : State} {s : State} {k : Nat} {f : Frame} (h_s : Keep s₀ s) :
    Keep s₀ (State.nodeSet s k f) := by
  unfold State.nodeSet
  try dsimp only
  refine Keep.ite ?_ ?_
  · assumption
  · try dsimp only
    try dsimp only
    refine Keep.ite ?_ ?_
    · refine State.setNode_keep ?_
      · assumption
    · refine Keep.ite ?_ ?_
      · try dsimp only
        refine Keep.ite ?_ ?_
        · refine State.setNode_keep ?_
          · assumption
        · try dsimp only
          refine State.setNode_keep ?_
          · assumption
      · refine State.setNode_keep ?_
        · assumption

theorem State.nodeEntry_keep {s₀ : State} {s : State} {k : Nat} {l : Nat} (h_s : Keep s₀ s) :
    Keep s₀ (State.nodeEntry s k l) := by
  unfold State.nodeEntry
  try dsimp only
  split
  · try dsimp only
    refine Keep.ite ?_ ?_
    · refine State.setNode_keep ?_
      · assumption
    · refine Keep.ite ?_ ?_
      · refine State.setNode_keep ?_
        · assumption
      · try dsimp only
        refine State.setNode_keep ?_
        · assumption
  · refine State.setNode_keep ?_
    · assumption

theorem State.nodeBlockAll_keep {s₀ : State} {s : State} {k : Nat} {cause : Nat} (h_s : Keep s₀ s) :
    Keep s₀ (State.nodeBlockAll s k cause) := by
  unfold State.nodeBlockAll
  try dsimp only
  refine State.setNode_keep ?_
  · assumption

theorem State.nodePeriodEnd_keep {s₀ : State} {s : State} {k : Nat} {l : Nat} (h_s : Keep s₀ s) :
    Keep s₀ (State.nodePeriodEnd s k l) := by
  unfold State.nodePeriodEnd
  dsimp only
  refine Keep.ite ?_ ?_
  · refine State.setNode_keep ?_
    assumption
  · split
    · refine Keep.ite ?_ ?_
      · refine State.setNode_keep ?_
        assumption
      · refine Keep.ite ?_ ?_
        · refine State.setNode_keep ?_
          assumption
        · assumption
    · refine Keep.ite ?_ ?_
      · assumption
      · refine Keep.ite ?_ ?_
        · refine State.setNode_keep ?_
          assumption
        · refine State.setNode_keep ?_
          assumption
    · assumption

theorem State.nodeBlock_keep {s₀ : State} {s : State} {k : Nat} {f : Frame} (h_s : Keep s₀ s) :
    Keep s₀ (State.nodeBlock s k f) := by
  unfold State.nodeBlock
  try dsimp only
  refine Keep.ite ?_ ?_
  · assumption
  · refine State.setNode_keep ?_
    · assumption

theorem State.nodeLock_keep {s₀ : State} {s : State} {k : Nat} {port : Nat} {lock : Bool} (h_s : Keep s₀ s) :
    Keep s₀ (State.nodeLock s k port lock) := by
  unfold State.nodeLock
  dsimp only
  refine State.nodeServe_keep ?_
  refine State.setNode_keep ?_
  assumption

theorem State.nodeLossOfLink_keep {s₀ : State} {s : State} {k : Nat} (h_s : Keep s₀ s) :
    Keep s₀ (State.nodeLossOfLink s k) := by
  unfold State.nodeLossOfLink
  try dsimp only
  split
  · refine Keep.ite ?_ ?_
    · refine State.nodeBlockAll_keep ?_
      · assumption
    · assumption
  · assumption

theorem State.nodeProtect_keep {s₀ : State} {s : State} {k : Nat} {acts : Bool} (h_s : Keep s₀ s) :
    Keep s₀ (State.nodeProtect s k acts) := by
  unfold State.nodeProtect
  try dsimp only
  refine State.setNode_keep ?_
  · refine Keep.ite ?_ ?_
    · refine State.nodeBlockAll_keep ?_
      · assumption
    · assumption

theorem State.nodeMreq_keep {s₀ : State} {s : State} {k : Nat} {f : Frame} (h_s : Keep s₀ s) :
    Keep s₀ (State.nodeMreq s k f) := by
  unfold State.nodeMreq
  try dsimp only
  refine Keep.ite ?_ ?_
  · assumption
  · try dsimp only
    try dsimp only
    refine Keep.ite ?_ ?_
    · try dsimp only
      refine State.nodeUp_keep ?_
      · refine State.setNode_keep ?_
        · refine State.setNode_keep ?_
          · assumption
    · split
      · refine State.nodeUp_keep ?_
        · refine State.setNode_keep ?_
          · assumption
      · try dsimp only
        refine State.nodeUp_keep ?_
        · refine State.draw_keep ?_
          · refine State.setNode_keep ?_
            · assumption

theorem State.nodeMeas_keep {s₀ : State} {s : State} {k : Nat} {words : List Nat} {sample : Nat} {new : Bool} (h_s : Keep s₀ s) :
    Keep s₀ (State.nodeMeas s k words sample new) := by
  unfold State.nodeMeas
  try dsimp only
  refine Keep.ite ?_ ?_
  · assumption
  · refine State.nodeUp_keep ?_
    · refine State.setNode_keep ?_
      · assumption

theorem State.nodeSample_keep {s₀ : State} {s : State} {k : Nat} {words : List Nat} (h_s : Keep s₀ s) :
    Keep s₀ (State.nodeSample s k words) := by
  unfold State.nodeSample
  try dsimp only
  refine Keep.ite ?_ ?_
  · assumption
  · refine State.nodeMeas_keep ?_
    · refine State.setNode_keep ?_
      · assumption

theorem State.nodeHeartbeat_keep {s₀ : State} {s : State} {k : Nat} {words : List Nat} (h_s : Keep s₀ s) :
    Keep s₀ (State.nodeHeartbeat s k words) := by
  unfold State.nodeHeartbeat
  refine Keep.ite ?_ ?_
  · refine State.nodeMeas_keep ?_
    · assumption
  · assumption

end Sys2Proof.Machine
end

