-- ==== Sys2Proof/Laws/KeepMonSend.lean ====
section
/-! SUPPORT. Laws/KeepMonSend.lean: every operation of Machine/MonSend.lean keeps what Laws/Keep.lean says. -/

namespace Sys2Proof.Machine

theorem State.sendTo_keep {s₀ : State} {s : State} {port : Nat} {addr : Nat} {udp : Nat} {b : List Byte} (h_s : Keep s₀ s) :
    Keep s₀ (State.sendTo s port addr udp b) := by
  unfold State.sendTo
  refine Keep.upd ?_
  assumption

theorem State.setSession_keep {s₀ : State} {s : State} {x : Session} (h_s : Keep s₀ s) :
    Keep s₀ (State.setSession s x) := by
  unfold State.setSession
  refine Keep.upd ?_
  assumption

theorem State.drvSend_keep {s₀ : State} {s : State} {id : Nat} {inner : List Byte} (h_s : Keep s₀ s) :
    Keep s₀ (State.drvSend s id inner) := by
  unfold State.drvSend
  split
  · assumption
  · try dsimp only
    try dsimp only
    refine State.sendTo_keep ?_
    · refine State.setSession_keep ?_
      · assumption

theorem State.monEvent_keep {s₀ : State} {s : State} {kind : Nat} {unit : Nat} {dcause : Nat} {dpc : Nat} (h_s : Keep s₀ s) :
    Keep s₀ (State.monEvent s kind unit dcause dpc) := by
  unfold State.monEvent
  try dsimp only
  refine Keep.foldl ?_ _ ?_
  · intro s1 x2 h3
    refine State.drvSend_keep ?_
    · assumption
  · assumption

end Sys2Proof.Machine
end

