-- ==== Sys2Proof/Laws/KeepCoreOps.lean ====
section
/-! SUPPORT. Laws/KeepCoreOps.lean: every operation of Machine/CoreOps.lean keeps what Laws/Keep.lean says. -/

namespace Sys2Proof.Machine

theorem State.setPair_keep {s₀ : State} {s : State} {p : Nat} {x : PairSt} (h_s : Keep s₀ s) :
    Keep s₀ (State.setPair s p x) := by
  unfold State.setPair
  refine Keep.upd ?_
  assumption

theorem State.setRegs_keep {s₀ : State} {s : State} {p : Nat} {r : Regs} (h_s : Keep s₀ s) :
    Keep s₀ (State.setRegs s p r) := by
  unfold State.setRegs
  refine State.setPair_keep ?_
  · assumption

theorem State.setLock_keep {s₀ : State} {s : State} {t : Nat} {n : Nat} {o : Option LockOwn} (h_s : Keep s₀ s) :
    Keep s₀ (State.setLock s t n o) := by
  unfold State.setLock
  try dsimp only
  refine State.setFbit_keep ?_
  · split
    · refine Keep.upd ?_
      assumption
    · refine Keep.upd ?_
      assumption

theorem State.breakLock_keep {s₀ : State} {s : State} {t : Nat} {n : Nat} {cause : Nat} (h_s : Keep s₀ s) :
    Keep s₀ (State.breakLock s t n cause) := by
  unfold State.breakLock
  split
  · assumption
  · try dsimp only
    refine Keep.ite ?_ ?_
    · try dsimp only
      try dsimp only
      refine Keep.ite ?_ ?_
      · refine State.setFlag_keep ?_
        · refine State.setPair_keep ?_
          · refine State.pulse_keep ?_
            · refine State.setFbit_keep ?_
              · refine State.setLock_keep ?_
                · assumption
      · refine State.setFlag_keep ?_
        · refine State.setFlag_keep ?_
          · refine State.setF_keep ?_
            · refine State.setF_keep ?_
              · refine State.setF_keep ?_
                · refine State.setPair_keep ?_
                  · refine State.pulse_keep ?_
                    · refine State.setFbit_keep ?_
                      · refine State.setLock_keep ?_
                        · assumption
    · refine State.pulse_keep ?_
      · refine State.setFbit_keep ?_
        · refine State.setLock_keep ?_
          · assumption

theorem State.breakOwned_keep {s₀ : State} {s : State} {owner : Nat} {cause : Nat} (h_s : Keep s₀ s) :
    Keep s₀ (State.breakOwned s owner cause) := by
  unfold State.breakOwned
  refine Keep.foldl ?_ _ ?_
  · intro s1 x2 h3
    refine State.breakLock_keep ?_
    · assumption
  · assumption

theorem State.holdLeases_keep {s₀ : State} {s : State} {owner : Nat} {still : Bool} (h_s : Keep s₀ s) :
    Keep s₀ (State.holdLeases s owner still) := by
  unfold State.holdLeases
  refine Keep.upd ?_
  assumption

theorem State.acquire_keep {s₀ : State} {s : State} {req : Nat} {t : Nat} {n : Nat} (h_s : Keep s₀ s) :
    Keep s₀ (State.acquire s req t n).2 := by
  unfold State.acquire
  dsimp only
  split
  · dsimp only
    refine State.setLock_keep ?_
    assumption
  · refine Keep.ite2 ?_ ?_
    · dsimp only
      refine State.setLock_keep ?_
      assumption
    · dsimp only
      assumption

theorem State.release_keep {s₀ : State} {s : State} {req : Nat} {t : Nat} {n : Nat} {v : Nat} (h_s : Keep s₀ s) :
    Keep s₀ (State.release s req t n v).1 := by
  unfold State.release
  split
  · refine Keep.ite1 ?_ ?_
    · refine Keep.ite1 ?_ ?_
      · try dsimp only
        refine State.setLock_keep ?_
        · assumption
      · try dsimp only
        assumption
    · try dsimp only
      assumption
  · try dsimp only
    assumption

theorem State.leaseExpiry_keep {s₀ : State} {s : State} {t : Nat} {n : Nat} (h_s : Keep s₀ s) :
    Keep s₀ (State.leaseExpiry s t n) := by
  unfold State.leaseExpiry
  try dsimp only
  split
  · refine Keep.ite ?_ ?_
    · refine State.breakLock_keep ?_
      · assumption
    · assumption
  · assumption

theorem State.closeGate_keep {s₀ : State} {s : State} {t : Nat} (h_s : Keep s₀ s) :
    Keep s₀ (State.closeGate s t) := by
  unfold State.closeGate
  refine Keep.ite ?_ ?_
  · assumption
  · refine Keep.upd ?_
    assumption

theorem State.carryMerged_keep {s₀ : State} {s : State} {a : Nat} {b : Nat} (h_s : Keep s₀ s) :
    Keep s₀ (State.carryMerged s a b) := by
  unfold State.carryMerged
  split
  · refine State.satF_keep ?_
    refine Keep.upd ?_
    assumption
  · assumption

theorem State.openGate_keep {s₀ : State} {s : State} {t : Nat} (h_s : Keep s₀ s) :
    Keep s₀ (State.openGate s t) := by
  unfold State.openGate
  dsimp only
  refine Keep.upd ?_
  refine State.carryMerged_keep ?_
  assumption

theorem State.clearBlocks_keep {s₀ : State} {s : State} {t : Nat} {keepB : Bool} (h_s : Keep s₀ s) :
    Keep s₀ (State.clearBlocks s t keepB) := by
  unfold State.clearBlocks
  dsimp only
  refine Keep.updRegs ?_ (fun h => ?_)
  · assumption
  · exact SMap.wf_filter h _

theorem State.clearTile_keep {s₀ : State} {s : State} {t : Nat} (h_s : Keep s₀ s) :
    Keep s₀ (State.clearTile s t) := by
  unfold State.clearTile
  try dsimp only
  refine Keep.updRegs ?_ (fun h => ?_)
  · assumption
  · first | exact SMap.wf_put h _ _ | exact SMap.wf_erase h _ | exact SMap.wf_copyBlock h _ _ _ | exact SMap.wf_filter h _

theorem State.refireEnd_keep {s₀ : State} {s : State} {c : Nat} {cause : Nat} (h_s : Keep s₀ s) :
    Keep s₀ (State.refireEnd s c cause) := by
  unfold State.refireEnd
  split
  · dsimp only
    refine State.pulse_keep ?_
    refine Keep.upd ?_
    refine State.dropRefire_keep ?_
    refine State.setF_keep ?_
    refine State.setF_keep ?_
    refine State.clearTile_keep ?_
    assumption
  · assumption

theorem State.refireEndIf_keep {s₀ : State} {s : State} {c : Nat} {cause : Nat} {f : Refire → Bool} (h_s : Keep s₀ s) :
    Keep s₀ (State.refireEndIf s c cause f) := by
  unfold State.refireEndIf
  split
  · refine Keep.ite ?_ ?_
    · refine State.refireEnd_keep ?_
      assumption
    · assumption
  · assumption

theorem State.saggarFault_keep {s₀ : State} {s : State} {t : Nat} (h_s : Keep s₀ s) :
    Keep s₀ (State.saggarFault s t) := by
  unfold State.saggarFault
  try dsimp only
  split
  · refine Keep.ite ?_ ?_
    · split
      · try dsimp only
        refine Keep.upd ?_
        refine State.setF_keep ?_
        · assumption
      · try dsimp only
        refine State.pulse_keep ?_
        · refine State.setFlag_keep ?_
          · refine Keep.upd ?_
            refine State.setFlag_keep ?_
            · refine State.openGate_keep ?_
              · refine State.setF_keep ?_
                · assumption
    · refine State.setF_keep ?_
      · assumption
  · refine State.setF_keep ?_
    · assumption

theorem State.wantTakeover_keep {s₀ : State} {s : State} {t : Nat} {trig : Nat} {want : Nat} (h_s : Keep s₀ s) :
    Keep s₀ (State.wantTakeover s t trig want) := by
  unfold State.wantTakeover
  split
  · refine Keep.ite ?_ ?_
    · refine State.saggarFault_keep ?_
      assumption
    · assumption
  · refine Keep.ite ?_ ?_
    · assumption
    · dsimp only
      refine Keep.upd ?_
      refine Keep.ite ?_ ?_
      · refine State.closeGate_keep ?_
        refine State.refireEndIf_keep ?_
        assumption
      · refine State.pulse_keep ?_
        refine State.closeGate_keep ?_
        refine State.refireEndIf_keep ?_
        assumption

theorem State.pairSource_keep {s₀ : State} {s : State} {p : Nat} {k : Nat} (h_s : Keep s₀ s) :
    Keep s₀ (State.pairSource s p k) := by
  unfold State.pairSource
  refine State.arrive_keep ?_
  · assumption

theorem State.stopPair_keep {s₀ : State} {s : State} {p : Nat} (h_s : Keep s₀ s) :
    Keep s₀ (State.stopPair s p) := by
  unfold State.stopPair
  refine State.breakOwned_keep ?_
  · refine State.pairSource_keep ?_
    · refine State.pulse_keep ?_
      · refine State.setFlag_keep ?_
        · assumption

theorem State.machineCheck_keep {s₀ : State} {s : State} {p : Nat} {mcc : Nat} {c : Cause} {pc : Nat} (h_s : Keep s₀ s) :
    Keep s₀ (State.machineCheck s p mcc c pc) := by
  unfold State.machineCheck
  try dsimp only
  refine Keep.ite ?_ ?_
  · refine State.stopPair_keep ?_
    · refine State.setPair_keep ?_
      · assumption
  · try dsimp only
    try dsimp only
    refine Keep.ite ?_ ?_
    · refine State.pairSource_keep ?_
      · refine State.pulse_keep ?_
        · refine State.satF_keep ?_
          · refine State.setF_keep ?_
            · refine State.setFlag_keep ?_
              · refine State.setPair_keep ?_
                · assumption
    · refine State.breakOwned_keep ?_
      · refine State.pairSource_keep ?_
        · refine State.pulse_keep ?_
          · refine State.satF_keep ?_
            · refine State.setF_keep ?_
              · refine State.setFlag_keep ?_
                · refine State.setPair_keep ?_
                  · assumption

theorem State.exception_keep {s₀ : State} {s : State} {p : Nat} {c : Cause} {pc : Nat} (h_s : Keep s₀ s) :
    Keep s₀ (State.exception s p c pc) := by
  unfold State.exception
  try dsimp only
  refine Keep.ite ?_ ?_
  · refine State.machineCheck_keep ?_
    · assumption
  · try dsimp only
    try dsimp only
    refine State.setPair_keep ?_
    · assumption

theorem State.retPsw_keep {s₀ : State} {s : State} {w : Nat} (h_s : Keep s₀ s) :
    Keep s₀ (State.retPsw s w).2 := by
  unfold State.retPsw
  try dsimp only
  refine Keep.ite2 ?_ ?_
  · try dsimp only
    try dsimp only
    refine State.draw_keep ?_
    · assumption
  · try dsimp only
    assumption

theorem State.setLog_keep {s₀ : State} {s : State} {p : Nat} {x : PairSt} (h_s : Keep s₀ s) :
    Keep s₀ (State.setLog s p x) := by
  unfold State.setLog
  refine State.setFlag_keep ?_
  · refine State.setF_keep ?_
    · refine State.setPair_keep ?_
      · assumption

theorem State.takeCheckpoint_keep {s₀ : State} {s : State} {p : Nat} (h_s : Keep s₀ s) :
    Keep s₀ (State.takeCheckpoint s p) := by
  unfold State.takeCheckpoint
  try dsimp only
  refine State.setF_keep ?_
  · refine State.setLog_keep ?_
    · assumption

theorem State.checkpointNow_keep {s₀ : State} {s : State} {p : Nat} (h_s : Keep s₀ s) :
    Keep s₀ (State.checkpointNow s p) := by
  unfold State.checkpointNow
  dsimp only
  refine Keep.ite ?_ ?_
  · refine State.setPair_keep ?_
    assumption
  · refine Keep.ite ?_ ?_
    · refine State.takeCheckpoint_keep ?_
      assumption
    · refine State.satF_keep ?_
      refine State.takeCheckpoint_keep ?_
      refine State.setPair_keep ?_
      assumption

theorem State.checkpoint_keep {s₀ : State} {s : State} {p : Nat} (h_s : Keep s₀ s) :
    Keep s₀ (State.checkpoint s p) := by
  unfold State.checkpoint
  refine Keep.ite ?_ ?_
  · assumption
  · refine Keep.ite ?_ ?_
    · refine State.setPair_keep ?_
      assumption
    · refine State.checkpointNow_keep ?_
      assumption

theorem State.logAccess_keep {s₀ : State} {s : State} {p : Nat} {e : LogE} (h_s : Keep s₀ s) :
    Keep s₀ (State.logAccess s p e) := by
  unfold State.logAccess
  try dsimp only
  refine Keep.ite ?_ ?_
  · assumption
  · refine State.setLog_keep ?_
    · assumption

theorem State.logMade_keep {s₀ : State} {s : State} {p : Nat} (h_s : Keep s₀ s) :
    Keep s₀ (State.logMade s p) := by
  unfold State.logMade
  split
  · refine State.logAccess_keep ?_
    assumption
  · assumption

theorem State.handOver_keep {s₀ : State} {s : State} {p : Nat} (h_s : Keep s₀ s) :
    Keep s₀ (State.handOver s p) := by
  unfold State.handOver
  refine State.wantTakeover_keep ?_
  · refine State.setPair_keep ?_
    · assumption

theorem State.diverge_keep {s₀ : State} {s : State} {p : Nat} (h_s : Keep s₀ s) :
    Keep s₀ (State.diverge s p) := by
  unfold State.diverge
  refine State.handOver_keep ?_
  · refine State.satF_keep ?_
    · assumption

theorem State.lockstepMismatch_keep {s₀ : State} {s : State} {p : Nat} {whr : Nat} (h_s : Keep s₀ s) :
    Keep s₀ (State.lockstepMismatch s p whr) := by
  unfold State.lockstepMismatch
  refine Keep.ite ?_ ?_
  · assumption
  · dsimp only
    refine Keep.ite ?_ ?_
    · refine State.handOver_keep ?_
      refine State.setPair_keep ?_
      refine State.logMade_keep ?_
      refine State.pairSource_keep ?_
      refine State.pulse_keep ?_
      refine State.setF_keep ?_
      refine State.satF_keep ?_
      assumption
    · refine State.setPair_keep ?_
      refine Keep.upd ?_
      refine State.setPair_keep ?_
      refine State.logMade_keep ?_
      refine State.pairSource_keep ?_
      refine State.pulse_keep ?_
      refine State.setF_keep ?_
      refine State.satF_keep ?_
      assumption

theorem State.rollbackComplete_keep {s₀ : State} {s : State} {p : Nat} (h_s : Keep s₀ s) :
    Keep s₀ (State.rollbackComplete s p) := by
  unfold State.rollbackComplete
  try dsimp only
  split
  · assumption
  · try dsimp only
    try dsimp only
    refine State.machineCheck_keep ?_
    · refine State.pairSource_keep ?_
      · refine State.pulse_keep ?_
        · refine State.satF_keep ?_
          · refine State.setPair_keep ?_
            · assumption

theorem State.startReplay_keep {s₀ : State} {s : State} {p : Nat} (h_s : Keep s₀ s) :
    Keep s₀ (State.startReplay s p) := by
  unfold State.startReplay
  try dsimp only
  refine Keep.ite ?_ ?_
  · refine State.setLog_keep ?_
    · assumption
  · assumption

theorem State.consumeLog_keep {s₀ : State} {s : State} {p : Nat} (h_s : Keep s₀ s) :
    Keep s₀ (State.consumeLog s p) := by
  unfold State.consumeLog
  try dsimp only
  refine State.setLog_keep ?_
  · assumption

theorem State.enterLevel_keep {s₀ : State} {s : State} {p : Nat} {lv : Nat} (h_s : Keep s₀ s) :
    Keep s₀ (State.enterLevel s p lv) := by
  unfold State.enterLevel
  try dsimp only
  refine State.setFlag_keep ?_
  · refine State.setPair_keep ?_
    · assumption

theorem State.acceptInterrupt_keep {s₀ : State} {s : State} {p : Nat} (h_s : Keep s₀ s) :
    Keep s₀ (State.acceptInterrupt s p) := by
  unfold State.acceptInterrupt
  dsimp only
  split
  · refine Keep.ite ?_ ?_
    · refine State.setFlag_keep ?_
      assumption
    · refine Keep.ite ?_ ?_
      · refine State.setFlag_keep ?_
        refine State.setF_keep ?_
        refine State.setF_keep ?_
        refine State.setF_keep ?_
        refine State.enterLevel_keep ?_
        refine State.consumeLog_keep ?_
        assumption
      · assumption
  · split
    · assumption
    · refine Keep.ite ?_ ?_
      · assumption
      · refine Keep.ite ?_ ?_
        · refine State.enterLevel_keep ?_
          refine State.logAccess_keep ?_
          refine State.intcAccept_keep ?_
          assumption
        · refine Keep.ite ?_ ?_
          · refine State.setFlag_keep ?_
            assumption
          · assumption

theorem State.lockBrokenEntry_keep {s₀ : State} {s : State} {p : Nat} (h_s : Keep s₀ s) :
    Keep s₀ (State.lockBrokenEntry s p) := by
  unfold State.lockBrokenEntry
  try dsimp only
  refine Keep.ite ?_ ?_
  · refine State.setFlag_keep ?_
    · refine State.exception_keep ?_
      · refine State.setPair_keep ?_
        · assumption
  · assumption

theorem State.closeLocks_keep {s₀ : State} {s : State} {req : Nat} (h_s : Keep s₀ s) :
    Keep s₀ (State.closeLocks s req) := by
  unfold State.closeLocks
  refine Keep.upd ?_
  assumption

theorem State.debugEntry_keep {s₀ : State} {s : State} {p : Nat} {reason : Nat} {daddr : Option Nat} {slot : Nat} {write : Bool} (h_s : Keep s₀ s) :
    Keep s₀ (State.debugEntry s p reason daddr slot write) := by
  unfold State.debugEntry
  try dsimp only
  refine Keep.ite ?_ ?_
  · refine State.wdHold_keep ?_
    · refine State.setFlag_keep ?_
      · refine State.monEvent_keep ?_
        · refine State.setFlag_keep ?_
          · refine State.setFlag_keep ?_
            · refine State.setFlag_keep ?_
              · refine State.holdLeases_keep ?_
                · refine State.closeLocks_keep ?_
                  · refine State.takeCheckpoint_keep ?_
                    · refine State.setPair_keep ?_
                      · assumption
  · refine State.setFlag_keep ?_
    · refine State.monEvent_keep ?_
      · refine State.setFlag_keep ?_
        · refine State.setFlag_keep ?_
          · refine State.setFlag_keep ?_
            · refine State.holdLeases_keep ?_
              · refine State.closeLocks_keep ?_
                · refine State.takeCheckpoint_keep ?_
                  · refine State.setPair_keep ?_
                    · assumption

theorem State.wdRelease_keep {s₀ : State} {s : State} {t : Nat} (h_s : Keep s₀ s) :
    Keep s₀ (State.wdRelease s t) := by
  unfold State.wdRelease
  refine Keep.ite ?_ ?_
  · assumption
  · refine State.wdThaw_keep ?_
    assumption

theorem State.clearBreaks_keep {s₀ : State} {s : State} {p : Nat} (h_s : Keep s₀ s) :
    Keep s₀ (State.clearBreaks s p) := by
  unfold State.clearBreaks
  refine Keep.foldl ?_ _ ?_
  · intro s1 x2 h3
    refine State.setFlag_keep ?_
    · assumption
  · refine State.setFlag_keep ?_
    · assumption

theorem State.endHalts_keep {s₀ : State} {s : State} {t : Nat} (h_s : Keep s₀ s) :
    Keep s₀ (State.endHalts s t) := by
  unfold State.endHalts
  dsimp only
  refine State.wdRelease_keep ?_
  refine Keep.foldl ?_ _ ?_
  · intro x1 x2 h3
    refine Keep.ite ?_ ?_
    · refine State.holdLeases_keep ?_
      refine State.clearBreaks_keep ?_
      refine State.setFlag_keep ?_
      refine State.monEvent_keep ?_
      assumption
    · assumption
  · assumption

theorem State.debugResume_keep {s₀ : State} {s : State} {p : Nat} (h_s : Keep s₀ s) :
    Keep s₀ (State.debugResume s p) := by
  unfold State.debugResume
  refine Keep.ite ?_ ?_
  · assumption
  · try dsimp only
    try dsimp only
    refine State.wdRelease_keep ?_
    · refine State.holdLeases_keep ?_
      · refine State.setFlag_keep ?_
        · refine State.setPair_keep ?_
          · assumption

theorem State.debugStep_keep {s₀ : State} {s : State} {p : Nat} (h_s : Keep s₀ s) :
    Keep s₀ (State.debugStep s p) := by
  unfold State.debugStep
  refine Keep.ite ?_ ?_
  · assumption
  · try dsimp only
    refine State.setPair_keep ?_
    · assumption

theorem State.walked_keep {s₀ s : State} {req c : Nat} {w : Walk} (h_s : Keep s₀ s) :
    Keep s₀ (State.walked s req c w) := by
  unfold State.walked
  split
  · exact State.countUE_keep h_s
  · exact Keep.ite (State.recordErr_keep h_s) (Keep.ite (State.recordErr_keep h_s) h_s)
  · exact h_s

theorem State.tlbMiss_keep {s₀ : State} {s : State} {p : Nat} {va : Nat} {asid : Nat} (h_s : Keep s₀ s) :
    Keep s₀ (State.tlbMiss s p va asid).1 := by
  unfold State.tlbMiss
  dsimp only
  split
  · exact State.setPair_keep h_s
  · exact State.walked_keep h_s
  · exact h_s

theorem State.tlbLook_keep {s₀ : State} {s : State} {p : Nat} {va : Nat} {asid : Nat} (h_s : Keep s₀ s) :
    Keep s₀ (State.tlbLook s p va asid).1 := by
  unfold State.tlbLook
  split
  · try dsimp only
    refine State.setPair_keep ?_
    · assumption
  · refine State.tlbMiss_keep ?_
    · refine State.satF_keep ?_
      · assumption

theorem State.translateOn_keep {s₀ : State} {s : State} {p : Nat} {va : Nat} {kind : Nat} {user : Bool} (h_s : Keep s₀ s) :
    Keep s₀ (State.translateOn s p va kind user).1 := by
  unfold State.translateOn
  split
  · rename_i v1 v2 e3
    have kv1 : Keep s₀ v1 := by
      rw [show v1 = _ from (congrArg (fun q => q.1) e3).symm]
      refine State.tlbLook_keep ?_
      · assumption
    try dsimp only
    refine State.satF_keep ?_
    · assumption
  · first
      | rename_i v4 v5 e6
        have kv4 : Keep s₀ v4 := by
          rw [show v4 = _ from (congrArg (fun q => q.1) e6).symm]
          refine State.tlbLook_keep ?_
          · assumption
    refine Keep.ite1 ?_ ?_
    · try dsimp only
      assumption
    · try dsimp only
      refine State.satF_keep ?_
      · assumption

theorem State.translateOff_keep {s₀ : State} {s : State} {p : Nat} {va : Nat} (h_s : Keep s₀ s) :
    Keep s₀ (State.translateOff s p va).1 := by
  unfold State.translateOff
  refine Keep.ite1 ?_ ?_
  · try dsimp only
    assumption
  · try dsimp only
    refine State.satF_keep ?_
    · refine State.draw_keep ?_
      · assumption

theorem State.translate_keep {s₀ : State} {s : State} {p : Nat} {va : Nat} {kind : Nat} {user : Bool} (h_s : Keep s₀ s) :
    Keep s₀ (State.translate s p va kind user).1 := by
  unfold State.translate
  refine Keep.ite1 ?_ ?_
  · refine State.translateOn_keep ?_
    · assumption
  · refine State.translateOff_keep ?_
    · assumption

theorem State.tlbi_keep {s₀ : State} {s : State} {p : Nat} {v : Nat} (h_s : Keep s₀ s) :
    Keep s₀ (State.tlbi s p v) := by
  unfold State.tlbi
  try dsimp only
  refine State.setPair_keep ?_
  · assumption

theorem State.drainStore_keep {s₀ : State} {s : State} {p : Nat} (h_s : Keep s₀ s) :
    Keep s₀ (State.drainStore s p) := by
  unfold State.drainStore
  dsimp only
  split
  · assumption
  · refine Keep.ite ?_ ?_
    · refine State.setPair_keep ?_
      assumption
    · refine Keep.ite ?_ ?_
      · refine State.recordErr_keep ?_
        refine State.setPair_keep ?_
        assumption
      · refine Keep.ite ?_ ?_
        · refine State.recordErr_keep ?_
          refine State.setPair_keep ?_
          assumption
        · refine State.writeMem_keep ?_
          refine State.setPair_keep ?_
          assumption

theorem State.drainOne_keep {s₀ : State} {s : State} {p : Nat} (h_s : Keep s₀ s) :
    Keep s₀ (State.drainOne s p) := by
  unfold State.drainOne
  split
  · assumption
  · refine Keep.ite ?_ ?_
    · assumption
    · refine State.drainStore_keep ?_
      assumption

theorem State.drainAll_keep {s₀ : State} {s : State} {p : Nat} (h_s : Keep s₀ s) :
    Keep s₀ (State.drainAll s p) := by
  unfold State.drainAll
  refine Keep.foldl ?_ _ ?_
  · intro s1 x2 h3
    refine State.drainOne_keep ?_
    · assumption
  · assumption

theorem State.drainOut_keep {s₀ : State} {s : State} {p : Nat} (h_s : Keep s₀ s) :
    Keep s₀ (State.drainOut s p) := by
  unfold State.drainOut
  refine Keep.foldl ?_ _ ?_
  · intro x1 x2 h3
    refine State.drainStore_keep ?_
    assumption
  · assumption

theorem State.clearCore_keep {s₀ : State} {s : State} {p : Nat} (h_s : Keep s₀ s) :
    Keep s₀ (State.clearCore s p) := by
  unfold State.clearCore
  dsimp only
  refine State.closeLocks_keep ?_
  refine State.wdRelease_keep ?_
  refine State.clearBreaks_keep ?_
  refine State.setFlag_keep ?_
  refine State.setFlag_keep ?_
  refine State.setF_keep ?_
  refine State.setFlag_keep ?_
  refine State.setFlag_keep ?_
  refine State.setFlag_keep ?_
  refine State.setPair_keep ?_
  refine State.breakOwned_keep ?_
  refine State.drainOut_keep ?_
  refine Keep.ite ?_ ?_
  · refine State.monEvent_keep ?_
    assumption
  · assumption

theorem State.resetPair_keep {s₀ : State} {s : State} {p : Nat} (h_s : Keep s₀ s) :
    Keep s₀ (State.resetPair s p) := by
  unfold State.resetPair
  refine State.wdDisable_keep ?_
  refine State.clearCore_keep ?_
  assumption

theorem State.holdPair_keep {s₀ : State} {s : State} {p : Nat} {hold : Bool} (h_s : Keep s₀ s) :
    Keep s₀ (State.holdPair s p hold) := by
  unfold State.holdPair
  try dsimp only
  refine State.setFlag_keep ?_
  · refine State.setFlag_keep ?_
    · refine Keep.ite ?_ ?_
      · refine State.resetPair_keep ?_
        · assumption
      · assumption

end Sys2Proof.Machine
end

