-- ==== Sys2Proof/Laws/KeepMemOps.lean ====
section
/-! SUPPORT. Laws/KeepMemOps.lean: every operation of Machine/MemOps.lean keeps what Laws/Keep.lean says. -/

namespace Sys2Proof.Machine

theorem State.setQreq_keep {s₀ : State} {s : State} {t : Nat} {req : Nat} {x : QReq} (h_s : Keep s₀ s) :
    Keep s₀ (State.setQreq s t req x) := by
  unfold State.setQreq
  refine Keep.upd ?_
  assumption

theorem State.watches_keep {s₀ : State} {s : State} {t : Nat} {k : Nat} {old : Queue} {new : Queue} (h_s : Keep s₀ s) :
    Keep s₀ (State.watches s t k old new) := by
  unfold State.watches
  refine Keep.foldl ?_ _ ?_
  · intro s1 x2 h3
    try dsimp only
    refine Keep.ite ?_ ?_
    · refine State.arrive_keep ?_
      · refine State.produce_keep ?_
        · assumption
    · assumption
  · assumption

theorem State.setQueue_keep {s₀ : State} {s : State} {t : Nat} {k : Nat} {q : Queue} (h_s : Keep s₀ s) :
    Keep s₀ (State.setQueue s t k q) := by
  unfold State.setQueue
  try dsimp only
  refine State.watches_keep ?_
  · refine State.setFbit_keep ?_
    · refine Keep.upd ?_
      assumption

theorem State.pushEntry_keep {s₀ : State} {s : State} {t : Nat} {k : Nat} {bs : List Byte} {q : Queue} (h_s : Keep s₀ s) :
    Keep s₀ (State.pushEntry s t k bs q) := by
  unfold State.pushEntry
  try dsimp only
  refine State.setQueue_keep ?_
  · refine State.writeMem_keep ?_
    · assumption

theorem State.queueSelect_keep {s₀ : State} {s : State} {req : Nat} {t : Nat} {v : Nat} (h_s : Keep s₀ s) :
    Keep s₀ (State.queueSelect s req t v) := by
  unfold State.queueSelect
  try dsimp only
  refine State.setQreq_keep ?_
  · assumption

theorem State.journalQueue_keep {s₀ : State} {s : State} {addr : Nat} {value : Nat} {mask : Nat} (h_s : Keep s₀ s) :
    Keep s₀ (State.journalQueue s addr value mask) := by
  unfold State.journalQueue
  try dsimp only
  split
  · split
    · refine Keep.upd ?_
      split
      · exact Keep.upd h_s
      · exact h_s
    · exact h_s
  · exact h_s

theorem State.queueConfig_keep {s₀ : State} {s : State} {req : Nat} {t : Nat} {v : Nat} (h_s : Keep s₀ s) :
    Keep s₀ (State.queueConfig s req t v).1 := by
  unfold State.queueConfig
  dsimp only
  refine Keep.ite1 ?_ ?_
  · dsimp only
    assumption
  · refine Keep.ite1 ?_ ?_
    · refine Keep.ite1 ?_ ?_
      · dsimp only
        assumption
      · dsimp only
        refine State.setQueue_keep ?_
        assumption
    · refine Keep.ite1 ?_ ?_
      · dsimp only
        assumption
      · refine Keep.ite1 ?_ ?_
        · dsimp only
          refine State.setQueue_keep ?_
          assumption
        · refine Keep.ite1 ?_ ?_
          · dsimp only
            assumption
          · dsimp only
            refine State.setQueue_keep ?_
            assumption

theorem State.queueBase_keep {s₀ : State} {s : State} {req : Nat} {t : Nat} {off : Nat} {size : Nat} {v : Nat} (h_s : Keep s₀ s) :
    Keep s₀ (State.queueBase s req t off size v).1 := by
  unfold State.queueBase
  try dsimp only
  refine Keep.ite1 ?_ ?_
  · try dsimp only
    assumption
  · try dsimp only
    refine State.setQueue_keep ?_
    · assumption

theorem State.queuePush_keep {s₀ : State} {s : State} {req : Nat} {t : Nat} {v : Nat} (h_s : Keep s₀ s) :
    Keep s₀ (State.queuePush s req t v) := by
  unfold State.queuePush
  try dsimp only
  refine Keep.ite ?_ ?_
  · refine State.setQreq_keep ?_
    · refine State.setQueue_keep ?_
      · assumption
  · refine Keep.ite ?_ ?_
    · refine State.setQreq_keep ?_
      · refine State.setQueue_keep ?_
        · assumption
    · try dsimp only
      refine State.setQreq_keep ?_
      · refine State.pushEntry_keep ?_
        · assumption

theorem State.queuePop_keep {s₀ : State} {s : State} {req : Nat} {t : Nat} (h_s : Keep s₀ s) :
    Keep s₀ (State.queuePop s req t).2 := by
  unfold State.queuePop
  try dsimp only
  refine Keep.ite2 ?_ ?_
  · try dsimp only
    assumption
  · try dsimp only
    try dsimp only
    refine Keep.ite2 ?_ ?_
    · try dsimp only
      refine State.setQueue_keep ?_
      · refine Keep.ite ?_ ?_
        · refine State.countUE_keep ?_
          · assumption
        · assumption
    · try dsimp only
      try dsimp only
      refine State.setQreq_keep ?_
      · refine State.setQueue_keep ?_
        · refine Keep.ite ?_ ?_
          · refine State.countUE_keep ?_
            · assumption
          · assumption

theorem State.queueScrub_keep {s₀ : State} {s : State} {t : Nat} {k : Nat} {bad : Bool} (h_s : Keep s₀ s) :
    Keep s₀ (State.queueScrub s t k bad) := by
  unfold State.queueScrub
  refine Keep.ite ?_ ?_
  · refine State.recordErr_keep ?_
    · refine State.setQueue_keep ?_
      · assumption
  · assumption

theorem State.reserve_keep {s₀ : State} {s : State} {t : Nat} {k : Nat} (h_s : Keep s₀ s) :
    Keep s₀ (State.reserve s t k).1 := by
  unfold State.reserve
  try dsimp only
  refine Keep.ite1 ?_ ?_
  · try dsimp only
    refine State.setQueue_keep ?_
    · assumption
  · try dsimp only
    assumption

theorem State.unreserve_keep {s₀ : State} {s : State} {t : Nat} {k : Nat} (h_s : Keep s₀ s) :
    Keep s₀ (State.unreserve s t k) := by
  unfold State.unreserve
  try dsimp only
  refine State.setQueue_keep ?_
  · assumption

theorem State.postRecord_keep {s₀ : State} {s : State} {t : Nat} {k : Nat} {bs : List Byte} (h_s : Keep s₀ s) :
    Keep s₀ (State.postRecord s t k bs) := by
  unfold State.postRecord
  dsimp only
  refine Keep.ite ?_ ?_
  · refine State.pushEntry_keep ?_
    assumption
  · refine State.unreserve_keep ?_
    assumption

theorem State.setIo_keep {s₀ : State} {s : State} {t : Nat} {x : IoSt} (h_s : Keep s₀ s) :
    Keep s₀ (State.setIo s t x) := by
  unfold State.setIo
  refine State.setF_keep ?_
  · refine Keep.upd ?_
    assumption

theorem State.ioTranslate_keep {s₀ : State} {s : State} {t : Nat} {ctx : Nat} {va : Nat} {kind : Nat} {rt : Bool} (h_s : Keep s₀ s) :
    Keep s₀ (State.ioTranslate s t ctx va kind rt).1 := by
  unfold State.ioTranslate
  dsimp only
  refine Keep.ite1 ?_ ?_
  · dsimp only
    assumption
  · split
    · rename_i v1 v2 v3 e4
      have kv2 : Keep s₀ v2 := by
        rw [show v2 = _ from (congrArg (fun q => q.1) e4).symm]
        split
        · dsimp only
          assumption
        · refine Keep.ite1 ?_ ?_
          · dsimp only
            assumption
          · split
            · dsimp only
              refine State.setIo_keep ?_
              assumption
            · split
              · dsimp only
                refine State.setIo_keep ?_
                assumption
              · dsimp only
                refine State.walked_keep ?_
                assumption
              · dsimp only
                assumption
      dsimp only
      assumption
    · rename_i v5 v6 v7 e8
      have kv6 : Keep s₀ v6 := by
        rw [show v6 = _ from (congrArg (fun q => q.1) e8).symm]
        split
        · dsimp only
          assumption
        · refine Keep.ite1 ?_ ?_
          · dsimp only
            assumption
          · split
            · dsimp only
              refine State.setIo_keep ?_
              assumption
            · split
              · dsimp only
                refine State.setIo_keep ?_
                assumption
              · dsimp only
                refine State.walked_keep ?_
                assumption
              · dsimp only
                assumption
      refine Keep.ite1 ?_ ?_
      · dsimp only
        assumption
      · dsimp only
        assumption

theorem State.ioTlbi_keep {s₀ : State} {s : State} {t : Nat} {v : Nat} {va : Nat} (h_s : Keep s₀ s) :
    Keep s₀ (State.ioTlbi s t v va) := by
  unfold State.ioTlbi
  try dsimp only
  refine State.satF_keep ?_
  · refine State.setIo_keep ?_
    · assumption

theorem State.unpin_keep {s₀ : State} {s : State} {t : Nat} {n : Nat} (h_s : Keep s₀ s) :
    Keep s₀ (State.unpin s t n) := by
  unfold State.unpin
  try dsimp only
  refine State.setIo_keep ?_
  · assumption

theorem State.setChan_keep {s₀ : State} {s : State} {t : Nat} {n : Nat} {x : DmaCh} (h_s : Keep s₀ s) :
    Keep s₀ (State.setChan s t n x) := by
  unfold State.setChan
  refine Keep.upd ?_
  assumption

theorem State.setChState_keep {s₀ : State} {s : State} {t : Nat} {n : Nat} {v : Nat} (h_s : Keep s₀ s) :
    Keep s₀ (State.setChState s t n v) := by
  unfold State.setChState
  refine State.setF_keep ?_
  · assumption

theorem State.chRecord_keep {s₀ : State} {s : State} {t : Nat} {n : Nat} {fault : Bool} {bs : List Byte} (h_s : Keep s₀ s) :
    Keep s₀ (State.chRecord s t n fault bs) := by
  unfold State.chRecord
  dsimp only
  split
  · assumption
  · refine State.postRecord_keep ?_
    refine State.setChan_keep ?_
    assumption

theorem State.unreserveOf_keep {s₀ s : State} {t : Nat} {o : Option Nat} (h_s : Keep s₀ s) :
    Keep s₀ (State.unreserveOf s t o) := by
  unfold State.unreserveOf
  split
  · exact State.unreserve_keep h_s
  · exact h_s

theorem State.chReturn_keep {s₀ : State} {s : State} {t : Nat} {n : Nat} (h_s : Keep s₀ s) :
    Keep s₀ (State.chReturn s t n) := by
  unfold State.chReturn
  dsimp only
  exact State.setChan_keep (State.unreserveOf_keep (State.unreserveOf_keep h_s))

theorem State.pinRange_keep {s₀ s : State} {t ctx kind n last : Nat} (h_s : Keep s₀ s) : ∀ (fuel va : Nat) (pins : List PinLeaf),
    Keep s₀ (State.pinRange s t ctx kind n last fuel va pins).1
  | 0, _, _ => h_s
  | fuel + 1, va, pins => by
    unfold State.pinRange
    split
    · exact h_s
    · dsimp only
      split
      · exact h_s
      · exact State.walked_keep h_s
      · split
        · exact h_s
        · split
          · exact h_s
          · exact State.pinRange_keep h_s fuel _ _

theorem State.chPulse_keep {s₀ : State} {s : State} {t : Nat} {n : Nat} (h_s : Keep s₀ s) :
    Keep s₀ (State.chPulse s t n) := by
  unfold State.chPulse
  refine State.pulse_keep ?_
  · assumption

theorem State.chResidual_keep {s₀ : State} {s : State} {t : Nat} {n : Nat} (h_s : Keep s₀ s) :
    Keep s₀ (State.chResidual s t n) := by
  unfold State.chResidual
  try dsimp only
  refine State.setF_keep ?_
  · refine State.incF_keep ?_
    · assumption

theorem State.chEnd_keep {s₀ : State} {s : State} {t : Nat} {n : Nat} {kind : Nat} {cause : Nat} (h_s : Keep s₀ s) :
    Keep s₀ (State.chEnd s t n kind cause) := by
  unfold State.chEnd
  dsimp only
  split
  · refine Keep.ite ?_ ?_
    · refine State.setChState_keep ?_
      refine State.satF_keep ?_
      refine Keep.ite ?_ ?_
      · refine State.arrive_keep ?_
        refine Keep.ite ?_ ?_
        · refine State.produce_keep ?_
          refine State.setChan_keep ?_
          refine State.chPulse_keep ?_
          refine State.setF_keep ?_
          refine State.setF_keep ?_
          refine State.chReturn_keep ?_
          refine Keep.ite ?_ ?_
          · refine Keep.ite ?_ ?_
            · refine State.chRecord_keep ?_
              assumption
            · refine Keep.ite ?_ ?_
              · refine State.chRecord_keep ?_
                assumption
              · assumption
          · refine State.chResidual_keep ?_
            refine Keep.ite ?_ ?_
            · refine State.chRecord_keep ?_
              assumption
            · refine Keep.ite ?_ ?_
              · refine State.chRecord_keep ?_
                assumption
              · assumption
        · refine State.setChan_keep ?_
          refine State.chPulse_keep ?_
          refine State.setF_keep ?_
          refine State.setF_keep ?_
          refine State.chReturn_keep ?_
          refine Keep.ite ?_ ?_
          · refine Keep.ite ?_ ?_
            · refine State.chRecord_keep ?_
              assumption
            · refine Keep.ite ?_ ?_
              · refine State.chRecord_keep ?_
                assumption
              · assumption
          · refine State.chResidual_keep ?_
            refine Keep.ite ?_ ?_
            · refine State.chRecord_keep ?_
              assumption
            · refine Keep.ite ?_ ?_
              · refine State.chRecord_keep ?_
                assumption
              · assumption
      · refine Keep.ite ?_ ?_
        · refine State.produce_keep ?_
          refine State.setChan_keep ?_
          refine State.chPulse_keep ?_
          refine State.setF_keep ?_
          refine State.setF_keep ?_
          refine State.chReturn_keep ?_
          refine Keep.ite ?_ ?_
          · refine Keep.ite ?_ ?_
            · refine State.chRecord_keep ?_
              assumption
            · refine Keep.ite ?_ ?_
              · refine State.chRecord_keep ?_
                assumption
              · assumption
          · refine State.chResidual_keep ?_
            refine Keep.ite ?_ ?_
            · refine State.chRecord_keep ?_
              assumption
            · refine Keep.ite ?_ ?_
              · refine State.chRecord_keep ?_
                assumption
              · assumption
        · refine State.setChan_keep ?_
          refine State.chPulse_keep ?_
          refine State.setF_keep ?_
          refine State.setF_keep ?_
          refine State.chReturn_keep ?_
          refine Keep.ite ?_ ?_
          · refine Keep.ite ?_ ?_
            · refine State.chRecord_keep ?_
              assumption
            · refine Keep.ite ?_ ?_
              · refine State.chRecord_keep ?_
                assumption
              · assumption
          · refine State.chResidual_keep ?_
            refine Keep.ite ?_ ?_
            · refine State.chRecord_keep ?_
              assumption
            · refine Keep.ite ?_ ?_
              · refine State.chRecord_keep ?_
                assumption
              · assumption
    · refine Keep.ite ?_ ?_
      · refine State.setChState_keep ?_
        refine State.satF_keep ?_
        refine Keep.ite ?_ ?_
        · refine State.arrive_keep ?_
          refine Keep.ite ?_ ?_
          · refine State.produce_keep ?_
            refine State.setChan_keep ?_
            refine State.chPulse_keep ?_
            refine State.setF_keep ?_
            refine State.setF_keep ?_
            refine State.chReturn_keep ?_
            refine Keep.ite ?_ ?_
            · refine Keep.ite ?_ ?_
              · refine State.chRecord_keep ?_
                assumption
              · refine Keep.ite ?_ ?_
                · refine State.chRecord_keep ?_
                  assumption
                · assumption
            · refine State.chResidual_keep ?_
              refine Keep.ite ?_ ?_
              · refine State.chRecord_keep ?_
                assumption
              · refine Keep.ite ?_ ?_
                · refine State.chRecord_keep ?_
                  assumption
                · assumption
          · refine State.setChan_keep ?_
            refine State.chPulse_keep ?_
            refine State.setF_keep ?_
            refine State.setF_keep ?_
            refine State.chReturn_keep ?_
            refine Keep.ite ?_ ?_
            · refine Keep.ite ?_ ?_
              · refine State.chRecord_keep ?_
                assumption
              · refine Keep.ite ?_ ?_
                · refine State.chRecord_keep ?_
                  assumption
                · assumption
            · refine State.chResidual_keep ?_
              refine Keep.ite ?_ ?_
              · refine State.chRecord_keep ?_
                assumption
              · refine Keep.ite ?_ ?_
                · refine State.chRecord_keep ?_
                  assumption
                · assumption
        · refine Keep.ite ?_ ?_
          · refine State.produce_keep ?_
            refine State.setChan_keep ?_
            refine State.chPulse_keep ?_
            refine State.setF_keep ?_
            refine State.setF_keep ?_
            refine State.chReturn_keep ?_
            refine Keep.ite ?_ ?_
            · refine Keep.ite ?_ ?_
              · refine State.chRecord_keep ?_
                assumption
              · refine Keep.ite ?_ ?_
                · refine State.chRecord_keep ?_
                  assumption
                · assumption
            · refine State.chResidual_keep ?_
              refine Keep.ite ?_ ?_
              · refine State.chRecord_keep ?_
                assumption
              · refine Keep.ite ?_ ?_
                · refine State.chRecord_keep ?_
                  assumption
                · assumption
          · refine State.setChan_keep ?_
            refine State.chPulse_keep ?_
            refine State.setF_keep ?_
            refine State.setF_keep ?_
            refine State.chReturn_keep ?_
            refine Keep.ite ?_ ?_
            · refine Keep.ite ?_ ?_
              · refine State.chRecord_keep ?_
                assumption
              · refine Keep.ite ?_ ?_
                · refine State.chRecord_keep ?_
                  assumption
                · assumption
            · refine State.chResidual_keep ?_
              refine Keep.ite ?_ ?_
              · refine State.chRecord_keep ?_
                assumption
              · refine Keep.ite ?_ ?_
                · refine State.chRecord_keep ?_
                  assumption
                · assumption
      · refine State.setChState_keep ?_
        refine State.setChan_keep ?_
        refine State.setF_keep ?_
        refine State.satF_keep ?_
        refine Keep.ite ?_ ?_
        · refine State.arrive_keep ?_
          refine Keep.ite ?_ ?_
          · refine State.produce_keep ?_
            refine State.setChan_keep ?_
            refine State.chPulse_keep ?_
            refine State.setF_keep ?_
            refine State.setF_keep ?_
            refine State.chReturn_keep ?_
            refine Keep.ite ?_ ?_
            · refine Keep.ite ?_ ?_
              · refine State.chRecord_keep ?_
                assumption
              · refine Keep.ite ?_ ?_
                · refine State.chRecord_keep ?_
                  assumption
                · assumption
            · refine State.chResidual_keep ?_
              refine Keep.ite ?_ ?_
              · refine State.chRecord_keep ?_
                assumption
              · refine Keep.ite ?_ ?_
                · refine State.chRecord_keep ?_
                  assumption
                · assumption
          · refine State.setChan_keep ?_
            refine State.chPulse_keep ?_
            refine State.setF_keep ?_
            refine State.setF_keep ?_
            refine State.chReturn_keep ?_
            refine Keep.ite ?_ ?_
            · refine Keep.ite ?_ ?_
              · refine State.chRecord_keep ?_
                assumption
              · refine Keep.ite ?_ ?_
                · refine State.chRecord_keep ?_
                  assumption
                · assumption
            · refine State.chResidual_keep ?_
              refine Keep.ite ?_ ?_
              · refine State.chRecord_keep ?_
                assumption
              · refine Keep.ite ?_ ?_
                · refine State.chRecord_keep ?_
                  assumption
                · assumption
        · refine Keep.ite ?_ ?_
          · refine State.produce_keep ?_
            refine State.setChan_keep ?_
            refine State.chPulse_keep ?_
            refine State.setF_keep ?_
            refine State.setF_keep ?_
            refine State.chReturn_keep ?_
            refine Keep.ite ?_ ?_
            · refine Keep.ite ?_ ?_
              · refine State.chRecord_keep ?_
                assumption
              · refine Keep.ite ?_ ?_
                · refine State.chRecord_keep ?_
                  assumption
                · assumption
            · refine State.chResidual_keep ?_
              refine Keep.ite ?_ ?_
              · refine State.chRecord_keep ?_
                assumption
              · refine Keep.ite ?_ ?_
                · refine State.chRecord_keep ?_
                  assumption
                · assumption
          · refine State.setChan_keep ?_
            refine State.chPulse_keep ?_
            refine State.setF_keep ?_
            refine State.setF_keep ?_
            refine State.chReturn_keep ?_
            refine Keep.ite ?_ ?_
            · refine Keep.ite ?_ ?_
              · refine State.chRecord_keep ?_
                assumption
              · refine Keep.ite ?_ ?_
                · refine State.chRecord_keep ?_
                  assumption
                · assumption
            · refine State.chResidual_keep ?_
              refine Keep.ite ?_ ?_
              · refine State.chRecord_keep ?_
                assumption
              · refine Keep.ite ?_ ?_
                · refine State.chRecord_keep ?_
                  assumption
                · assumption
  · refine State.setChState_keep ?_
    refine State.satF_keep ?_
    refine Keep.ite ?_ ?_
    · refine State.arrive_keep ?_
      refine Keep.ite ?_ ?_
      · refine State.produce_keep ?_
        refine State.setChan_keep ?_
        refine State.chPulse_keep ?_
        refine State.setF_keep ?_
        refine State.setF_keep ?_
        refine State.chReturn_keep ?_
        refine Keep.ite ?_ ?_
        · refine Keep.ite ?_ ?_
          · refine State.chRecord_keep ?_
            assumption
          · refine Keep.ite ?_ ?_
            · refine State.chRecord_keep ?_
              assumption
            · assumption
        · refine State.chResidual_keep ?_
          refine Keep.ite ?_ ?_
          · refine State.chRecord_keep ?_
            assumption
          · refine Keep.ite ?_ ?_
            · refine State.chRecord_keep ?_
              assumption
            · assumption
      · refine State.setChan_keep ?_
        refine State.chPulse_keep ?_
        refine State.setF_keep ?_
        refine State.setF_keep ?_
        refine State.chReturn_keep ?_
        refine Keep.ite ?_ ?_
        · refine Keep.ite ?_ ?_
          · refine State.chRecord_keep ?_
            assumption
          · refine Keep.ite ?_ ?_
            · refine State.chRecord_keep ?_
              assumption
            · assumption
        · refine State.chResidual_keep ?_
          refine Keep.ite ?_ ?_
          · refine State.chRecord_keep ?_
            assumption
          · refine Keep.ite ?_ ?_
            · refine State.chRecord_keep ?_
              assumption
            · assumption
    · refine Keep.ite ?_ ?_
      · refine State.produce_keep ?_
        refine State.setChan_keep ?_
        refine State.chPulse_keep ?_
        refine State.setF_keep ?_
        refine State.setF_keep ?_
        refine State.chReturn_keep ?_
        refine Keep.ite ?_ ?_
        · refine Keep.ite ?_ ?_
          · refine State.chRecord_keep ?_
            assumption
          · refine Keep.ite ?_ ?_
            · refine State.chRecord_keep ?_
              assumption
            · assumption
        · refine State.chResidual_keep ?_
          refine Keep.ite ?_ ?_
          · refine State.chRecord_keep ?_
            assumption
          · refine Keep.ite ?_ ?_
            · refine State.chRecord_keep ?_
              assumption
            · assumption
      · refine State.setChan_keep ?_
        refine State.chPulse_keep ?_
        refine State.setF_keep ?_
        refine State.setF_keep ?_
        refine State.chReturn_keep ?_
        refine Keep.ite ?_ ?_
        · refine Keep.ite ?_ ?_
          · refine State.chRecord_keep ?_
            assumption
          · refine Keep.ite ?_ ?_
            · refine State.chRecord_keep ?_
              assumption
            · assumption
        · refine State.chResidual_keep ?_
          refine Keep.ite ?_ ?_
          · refine State.chRecord_keep ?_
            assumption
          · refine Keep.ite ?_ ?_
            · refine State.chRecord_keep ?_
              assumption
            · assumption
  · refine State.setChState_keep ?_
    refine Keep.ite ?_ ?_
    · refine State.arrive_keep ?_
      refine Keep.ite ?_ ?_
      · refine State.produce_keep ?_
        refine State.setChan_keep ?_
        refine State.chPulse_keep ?_
        refine State.setF_keep ?_
        refine State.setF_keep ?_
        refine State.chReturn_keep ?_
        refine Keep.ite ?_ ?_
        · refine Keep.ite ?_ ?_
          · refine State.chRecord_keep ?_
            assumption
          · refine Keep.ite ?_ ?_
            · refine State.chRecord_keep ?_
              assumption
            · assumption
        · refine State.chResidual_keep ?_
          refine Keep.ite ?_ ?_
          · refine State.chRecord_keep ?_
            assumption
          · refine Keep.ite ?_ ?_
            · refine State.chRecord_keep ?_
              assumption
            · assumption
      · refine State.setChan_keep ?_
        refine State.chPulse_keep ?_
        refine State.setF_keep ?_
        refine State.setF_keep ?_
        refine State.chReturn_keep ?_
        refine Keep.ite ?_ ?_
        · refine Keep.ite ?_ ?_
          · refine State.chRecord_keep ?_
            assumption
          · refine Keep.ite ?_ ?_
            · refine State.chRecord_keep ?_
              assumption
            · assumption
        · refine State.chResidual_keep ?_
          refine Keep.ite ?_ ?_
          · refine State.chRecord_keep ?_
            assumption
          · refine Keep.ite ?_ ?_
            · refine State.chRecord_keep ?_
              assumption
            · assumption
    · refine Keep.ite ?_ ?_
      · refine State.produce_keep ?_
        refine State.setChan_keep ?_
        refine State.chPulse_keep ?_
        refine State.setF_keep ?_
        refine State.setF_keep ?_
        refine State.chReturn_keep ?_
        refine Keep.ite ?_ ?_
        · refine Keep.ite ?_ ?_
          · refine State.chRecord_keep ?_
            assumption
          · refine Keep.ite ?_ ?_
            · refine State.chRecord_keep ?_
              assumption
            · assumption
        · refine State.chResidual_keep ?_
          refine Keep.ite ?_ ?_
          · refine State.chRecord_keep ?_
            assumption
          · refine Keep.ite ?_ ?_
            · refine State.chRecord_keep ?_
              assumption
            · assumption
      · refine State.setChan_keep ?_
        refine State.chPulse_keep ?_
        refine State.setF_keep ?_
        refine State.setF_keep ?_
        refine State.chReturn_keep ?_
        refine Keep.ite ?_ ?_
        · refine Keep.ite ?_ ?_
          · refine State.chRecord_keep ?_
            assumption
          · refine Keep.ite ?_ ?_
            · refine State.chRecord_keep ?_
              assumption
            · assumption
        · refine State.chResidual_keep ?_
          refine Keep.ite ?_ ?_
          · refine State.chRecord_keep ?_
            assumption
          · refine Keep.ite ?_ ?_
            · refine State.chRecord_keep ?_
              assumption
            · assumption

theorem State.chFault_keep {s₀ : State} {s : State} {t : Nat} {n : Nat} {cause : Nat} {addr : Nat} (h_s : Keep s₀ s) :
    Keep s₀ (State.chFault s t n cause addr) := by
  unfold State.chFault
  try dsimp only
  refine State.setChState_keep ?_
  · refine State.arrive_keep ?_
    · refine State.chPulse_keep ?_
      · refine State.satF_keep ?_
        · refine State.setF_keep ?_
          · refine State.setChan_keep ?_
            · refine State.chRecord_keep ?_
              · assumption

theorem State.chStart_keep {s₀ : State} {s : State} {t : Nat} {n : Nat} {d : Desc} (h_s : Keep s₀ s) :
    Keep s₀ (State.chStart s t n d) := by
  unfold State.chStart
  try dsimp only
  refine Keep.ite ?_ ?_
  · refine State.chEnd_keep ?_
    · refine Keep.ite ?_ ?_
      · refine State.setF_keep ?_
        · refine State.setChState_keep ?_
          · refine State.setChan_keep ?_
            · refine State.setF_keep ?_
              · refine State.setF_keep ?_
                · refine State.setF_keep ?_
                  · refine State.setF_keep ?_
                    · refine State.incF_keep ?_
                      · assumption
      · refine State.setChState_keep ?_
        · refine State.setChan_keep ?_
          · refine State.setF_keep ?_
            · refine State.setF_keep ?_
              · refine State.setF_keep ?_
                · refine State.setF_keep ?_
                  · refine State.incF_keep ?_
                    · assumption
  · refine Keep.ite ?_ ?_
    · refine State.setF_keep ?_
      · refine State.setChState_keep ?_
        · refine State.setChan_keep ?_
          · refine State.setF_keep ?_
            · refine State.setF_keep ?_
              · refine State.setF_keep ?_
                · refine State.setF_keep ?_
                  · refine State.incF_keep ?_
                    · assumption
    · refine State.setChState_keep ?_
      · refine State.setChan_keep ?_
        · refine State.setF_keep ?_
          · refine State.setF_keep ?_
            · refine State.setF_keep ?_
              · refine State.setF_keep ?_
                · refine State.incF_keep ?_
                  · assumption

theorem State.dmaStart_keep {s₀ : State} {s : State} {t : Nat} {n : Nat} (h_s : Keep s₀ s) :
    Keep s₀ (State.dmaStart s t n).1 := by
  unfold State.dmaStart
  try dsimp only
  refine Keep.ite1 ?_ ?_
  · try dsimp only
    assumption
  · try dsimp only
    refine State.setChState_keep ?_
    · refine State.setChan_keep ?_
      · assumption

theorem State.dmaAbort_keep {s₀ : State} {s : State} {t : Nat} {n : Nat} (h_s : Keep s₀ s) :
    Keep s₀ (State.dmaAbort s t n).1 := by
  unfold State.dmaAbort
  try dsimp only
  split
  · refine Keep.ite1 ?_ ?_
    · try dsimp only
      refine State.setChan_keep ?_
      · assumption
    · try dsimp only
      refine State.chEnd_keep ?_
      · assumption
  · refine Keep.ite1 ?_ ?_
    · try dsimp only
      refine State.chEnd_keep ?_
      · assumption
    · try dsimp only
      refine State.chEnd_keep ?_
      · refine State.setChan_keep ?_
        · assumption
  · try dsimp only
    refine State.chEnd_keep ?_
    · assumption
  · try dsimp only
    refine State.setChState_keep ?_
    · assumption
  · try dsimp only
    assumption

theorem State.armFail_keep {s₀ : State} {s : State} {t : Nat} {n : Nat} {code : Nat} (h_s : Keep s₀ s) :
    Keep s₀ (State.armFail s t n code) := by
  unfold State.armFail
  try dsimp only
  refine State.arrive_keep ?_
  · refine State.chPulse_keep ?_
    · refine State.setF_keep ?_
      · refine Keep.ite ?_ ?_
        · refine State.satF_keep ?_
          · assumption
        · assumption

theorem State.armPins_keep {s₀ s : State} {t n ctx : Nat} {ds : List Desc} (h_s : Keep s₀ s) :
    Keep s₀ (State.armPins s t n ctx ds).1 := by
  unfold State.armPins
  dsimp only
  refine Keep.foldl1 ?_ _ h_s
  intro r d hr
  split
  · exact hr
  · split <;> refine Keep.ite1 ?_ ?_ <;>
      first
        | exact hr
        | exact State.pinRange_keep hr _ _ _
        | exact State.pinRange_keep (State.pinRange_keep hr _ _ _) _ _ _

theorem State.armNow_keep {s₀ : State} {s : State} {t : Nat} {n : Nat} (h_s : Keep s₀ s) :
    Keep s₀ (State.armNow s t n) := by
  unfold State.armNow
  dsimp only
  refine Keep.ite ?_ ?_
  · refine State.armFail_keep ?_
    assumption
  · split
    · refine State.armFail_keep ?_
      refine State.countIn_keep ?_
      assumption
    · refine Keep.ite ?_ ?_
      · refine State.armFail_keep ?_
        assumption
      · refine Keep.ite ?_ ?_
        · refine State.setChan_keep ?_
          assumption
        · refine Keep.ite ?_ ?_
          · refine State.armFail_keep ?_
            refine State.armPins_keep ?_
            assumption
          · refine State.setChState_keep ?_
            refine State.setF_keep ?_
            refine State.setChan_keep ?_
            refine State.setIo_keep ?_
            refine State.armPins_keep ?_
            assumption

theorem State.arm_keep {s₀ : State} {s : State} {t : Nat} {n : Nat} (h_s : Keep s₀ s) :
    Keep s₀ (State.arm s t n) := by
  unfold State.arm
  refine Keep.ite ?_ ?_
  · refine State.setChan_keep ?_
    assumption
  · refine State.armNow_keep ?_
    refine State.setChan_keep ?_
    assumption

theorem State.dmaArm_keep {s₀ : State} {s : State} {t : Nat} {n : Nat} (h_s : Keep s₀ s) :
    Keep s₀ (State.dmaArm s t n).1 := by
  unfold State.dmaArm
  refine Keep.ite1 ?_ ?_
  · dsimp only
    assumption
  · dsimp only
    refine State.arm_keep ?_
    assumption

theorem State.chReject_keep {s₀ : State} {s : State} {t : Nat} {n : Nat} {code : Nat} {d : Desc} (h_s : Keep s₀ s) :
    Keep s₀ (State.chReject s t n code d) := by
  unfold State.chReject
  refine State.chEnd_keep ?_
  refine State.setChan_keep ?_
  assumption

theorem State.chUnread_keep {s₀ : State} {s : State} {t : Nat} {n : Nat} {code : Nat} (h_s : Keep s₀ s) :
    Keep s₀ (State.chUnread s t n code) := by
  unfold State.chUnread
  dsimp only
  refine State.chReject_keep ?_
  refine State.draw_keep ?_
  refine State.draw_keep ?_
  assumption

theorem State.faultCredit_keep {s₀ : State} {s : State} {t : Nat} {n : Nat} (h_s : Keep s₀ s) :
    Keep s₀ (State.faultCredit s t n).1 := by
  unfold State.faultCredit
  dsimp only
  split
  · dsimp only
    assumption
  · refine Keep.ite1 ?_ ?_
    · dsimp only
      assumption
    · refine Keep.ite1 ?_ ?_
      · dsimp only
        refine State.setChan_keep ?_
        refine State.reserve_keep ?_
        assumption
      · dsimp only
        assumption

theorem State.descriptorRead_keep {s₀ : State} {s : State} {t : Nat} {n : Nat} {d : Desc} (h_s : Keep s₀ s) :
    Keep s₀ (State.descriptorRead s t n d) := by
  unfold State.descriptorRead
  dsimp only
  split
  · refine State.chStart_keep ?_
    assumption
  · refine Keep.ite ?_ ?_
    · refine Keep.ite ?_ ?_
      · refine State.chStart_keep ?_
        refine State.setChan_keep ?_
        refine State.reserve_keep ?_
        assumption
      · assumption
    · refine State.chStart_keep ?_
      assumption

theorem State.descriptorStart_keep {s₀ : State} {s : State} {t : Nat} {n : Nat} (h_s : Keep s₀ s) :
    Keep s₀ (State.descriptorStart s t n) := by
  unfold State.descriptorStart
  refine Keep.ite ?_ ?_
  · refine State.arm_keep ?_
    assumption
  · refine Keep.ite ?_ ?_
    · assumption
    · dsimp only
      refine Keep.ite ?_ ?_
      · refine State.faultCredit_keep ?_
        assumption
      · split
        · refine State.setChState_keep ?_
          refine State.faultCredit_keep ?_
          assumption
        · refine Keep.ite ?_ ?_
          · refine State.descriptorRead_keep ?_
            refine State.faultCredit_keep ?_
            assumption
          · refine Keep.ite ?_ ?_
            · refine State.chUnread_keep ?_
              refine State.faultCredit_keep ?_
              assumption
            · refine Keep.ite ?_ ?_
              · refine State.faultCredit_keep ?_
                assumption
              · refine Keep.ite ?_ ?_
                · refine State.chUnread_keep ?_
                  refine State.countIn_keep ?_
                  refine State.faultCredit_keep ?_
                  assumption
                · refine Keep.ite ?_ ?_
                  · refine State.descriptorRead_keep ?_
                    refine State.faultCredit_keep ?_
                    assumption
                  · refine State.chReject_keep ?_
                    refine State.faultCredit_keep ?_
                    assumption

theorem State.dmaResume_keep {s₀ : State} {s : State} {t : Nat} {n : Nat} (h_s : Keep s₀ s) :
    Keep s₀ (State.dmaResume s t n).1 := by
  unfold State.dmaResume
  refine Keep.ite1 ?_ ?_
  · try dsimp only
    assumption
  · try dsimp only
    refine State.descriptorStart_keep ?_
    · refine State.setChState_keep ?_
      · refine State.setChan_keep ?_
        · assumption

theorem State.dmaDisarm_keep {s₀ : State} {s : State} {t : Nat} {n : Nat} (h_s : Keep s₀ s) :
    Keep s₀ (State.dmaDisarm s t n).1 := by
  unfold State.dmaDisarm
  split
  · try dsimp only
    assumption
  · try dsimp only
    refine State.setChState_keep ?_
    · refine State.unpin_keep ?_
      · assumption
  · try dsimp only
    refine State.setChState_keep ?_
    · refine State.unpin_keep ?_
      · assumption
  · try dsimp only
    assumption

theorem State.dmaCommand_keep {s₀ : State} {s : State} {t : Nat} {n : Nat} {v : Nat} (h_s : Keep s₀ s) :
    Keep s₀ (State.dmaCommand s t n v).1 := by
  unfold State.dmaCommand
  split
  · refine State.dmaStart_keep ?_
    · assumption
  · refine State.dmaResume_keep ?_
    · assumption
  · refine State.dmaAbort_keep ?_
    · assumption
  · refine State.dmaArm_keep ?_
    · assumption
  · refine State.dmaDisarm_keep ?_
    · assumption
  · try dsimp only
    assumption

theorem State.dmaMoved_keep {s₀ : State} {s : State} {t : Nat} (h_s : Keep s₀ s) :
    Keep s₀ (State.dmaMoved s t) := by
  unfold State.dmaMoved
  refine Keep.foldl ?_ _ ?_
  · intro s1 x2 h3
    split
    · assumption
    · refine State.setF_keep ?_
      · refine State.setChState_keep ?_
        · refine State.unpin_keep ?_
          · assumption
    · refine State.setChState_keep ?_
      · refine State.unpin_keep ?_
        · refine State.chEnd_keep ?_
          · assumption
  · assumption

theorem State.revoke_keep {s₀ : State} {s : State} {x : Arb} {k : Option Nat} (h_s : Keep s₀ s) :
    Keep s₀ (State.revoke s x k) := by
  unfold State.revoke
  dsimp only
  split
  · refine Keep.upd ?_
    assumption
  · refine Keep.ite ?_ ?_
    · refine Keep.upd ?_
      assumption
    · refine State.satF_keep ?_
      refine Keep.upd ?_
      assumption

theorem State.grant_keep {s₀ : State} {s : State} {x : Arb} {k : Nat} (h_s : Keep s₀ s) :
    Keep s₀ (State.grant s x k) := by
  unfold State.grant
  refine Keep.upd ?_
  assumption

theorem State.arbitrate_keep {s₀ : State} {s : State} {x : Arb} {reqs : Nat} {emergency : Bool} (h_s : Keep s₀ s) :
    Keep s₀ (State.arbitrate s x reqs emergency) := by
  unfold State.arbitrate
  dsimp only
  refine Keep.ite ?_ ?_
  · refine State.revoke_keep ?_
    assumption
  · split
    · assumption
    · refine State.grant_keep ?_
      assumption

theorem State.spareStart_keep {s₀ : State} {s : State} {c : Nat} {pc : Nat} (h_s : Keep s₀ s) :
    Keep s₀ (State.spareStart s c pc).1 := by
  unfold State.spareStart
  try dsimp only
  refine Keep.ite1 ?_ ?_
  · try dsimp only
    assumption
  · try dsimp only
    refine State.setFlag_keep ?_
    · refine State.setF_keep ?_
      · assumption

theorem State.spareDone_keep {s₀ : State} {s : State} {c : Nat} (h_s : Keep s₀ s) :
    Keep s₀ (State.spareDone s c) := by
  unfold State.spareDone
  try dsimp only
  refine Keep.ite ?_ ?_
  · refine State.setFlag_keep ?_
    · refine State.setFlag_keep ?_
      · assumption
  · assumption

theorem State.spoil_keep {s₀ : State} {s : State} {w : Nat} (h_s : Keep s₀ s) :
    Keep s₀ (State.spoil s w) := by
  unfold State.spoil
  refine Keep.upd ?_
  assumption

theorem State.hbmCorrected_keep {s₀ : State} {s : State} {a : Nat} (h_s : Keep s₀ s) :
    Keep s₀ (State.hbmCorrected s a) := by
  unfold State.hbmCorrected
  dsimp only
  refine Keep.ite ?_ ?_
  · refine State.retireDue_keep ?_
    refine Keep.ite ?_ ?_
    · refine State.spareStart_keep ?_
      refine Keep.upd ?_
      refine State.satF_keep ?_
      refine State.satF_keep ?_
      assumption
    · refine Keep.upd ?_
      refine State.satF_keep ?_
      refine State.satF_keep ?_
      assumption
  · refine Keep.ite ?_ ?_
    · refine State.spareStart_keep ?_
      refine Keep.upd ?_
      refine State.satF_keep ?_
      refine State.satF_keep ?_
      assumption
    · refine Keep.upd ?_
      refine State.satF_keep ?_
      refine State.satF_keep ?_
      assumption

theorem State.scrub_keep {s₀ : State} {s : State} {a : Nat} {kind : Nat} (h_s : Keep s₀ s) :
    Keep s₀ (State.scrub s a kind) := by
  unfold State.scrub
  dsimp only
  refine Keep.ite ?_ ?_
  · assumption
  · split
    · refine Keep.ite ?_ ?_
      · refine State.incF_keep ?_
        assumption
      · refine State.incF_keep ?_
        refine Keep.upd ?_
        assumption
    · refine Keep.ite ?_ ?_
      · refine State.satF_keep ?_
        assumption
      · refine State.hbmCorrected_keep ?_
        assumption
    · refine State.countUE_keep ?_
      refine State.spoil_keep ?_
      assumption

end Sys2Proof.Machine
end

