-- ==== Sys2Proof/Laws/KeepDepOps.lean ====
section
/-! SUPPORT. Laws/KeepDepOps.lean: every operation of Machine/DepOps.lean keeps what Laws/Keep.lean says. -/

namespace Sys2Proof.Machine

theorem State.copyPage_keep {s₀ : State} {s : State} {a : Nat} {b : Nat} {slot : Nat} (h_s : Keep s₀ s) :
    Keep s₀ (State.copyPage s a b slot) := by
  unfold State.copyPage
  refine Keep.updRegs ?_ (fun h => ?_)
  · assumption
  · first | exact SMap.wf_put h _ _ | exact SMap.wf_erase h _ | exact SMap.wf_copyBlock h _ _ _

theorem State.endAccess_keep {s₀ : State} {s : State} {base : Nat} {req : Nat} {addr : Nat} {size : Nat} {data : Nat} (h_s : Keep s₀ s) :
    Keep s₀ (State.endAccess s base req addr size data) := by
  unfold State.endAccess
  refine State.respond_keep ?_
  refine State.recordErr_keep ?_
  assumption

theorem State.endMoved_keep {s₀ : State} {s : State} {t : Nat} (h_s : Keep s₀ s) :
    Keep s₀ (State.endMoved s t) := by
  unfold State.endMoved
  dsimp only
  refine Keep.foldl ?_ _ ?_
  · intro x1 x2 h3
    refine State.endAccess_keep ?_
    assumption
  · refine Keep.foldl ?_ _ ?_
    · intro x4 x5 h6
      refine State.endAccess_keep ?_
      assumption
    · refine Keep.upd ?_
      refine State.setStage_keep ?_
      assumption

theorem State.loadControl_keep {s₀ : State} {s : State} {a : Nat} {b : Nat} (h_s : Keep s₀ s) :
    Keep s₀ (State.loadControl s a b) := by
  unfold State.loadControl
  try dsimp only
  refine Keep.upd ?_
  refine Keep.foldl ?_ _ ?_
  · intro s1 x2 h3
    refine State.copyPage_keep ?_
    · assumption
  · refine State.copyPage_keep ?_
    · assumption

theorem State.loadWdog_keep {s₀ : State} {s : State} {a : Nat} {b : Nat} (h_s : Keep s₀ s) :
    Keep s₀ (State.loadWdog s a b) := by
  unfold State.loadWdog
  dsimp only
  refine Keep.upd ?_
  refine Keep.foldl ?_ _ ?_
  · intro x1 x2 h3
    refine State.setF_keep ?_
    assumption
  · assumption

theorem State.loadRest_keep {s₀ : State} {s : State} {a : Nat} {b : Nat} (h_s : Keep s₀ s) :
    Keep s₀ (State.loadRest s a b) := by
  unfold State.loadRest
  dsimp only
  refine Keep.upd ?_
  refine State.loadWdog_keep ?_
  refine Keep.foldl ?_ _ ?_
  · intro x1 x2 h3
    refine Keep.ite ?_ ?_
    · assumption
    · refine State.copyPage_keep ?_
      assumption
  · assumption

theorem State.loadProgram_keep {s₀ : State} {s : State} {a : Nat} {b : Nat} (h_s : Keep s₀ s) :
    Keep s₀ (State.loadProgram s a b) := by
  unfold State.loadProgram
  refine Keep.upd ?_
  assumption

theorem State.dropRuns_keep {s₀ : State} {s : State} {t : Nat} (h_s : Keep s₀ s) :
    Keep s₀ (State.dropRuns s t) := by
  unfold State.dropRuns
  dsimp only
  refine Keep.foldl ?_ _ ?_
  · intro x1 x2 h3
    refine Keep.ite ?_ ?_
    · refine State.countMerged_keep ?_
      assumption
    · refine Keep.upd ?_
      assumption
  · refine Keep.upd ?_
    assumption

theorem State.gateTick_keep {s₀ : State} {s : State} (h_s : Keep s₀ s) :
    Keep s₀ (State.gateTick s) := by
  unfold State.gateTick
  refine Keep.foldl ?_ _ ?_
  · intro x1 x2 h3
    refine State.dropRuns_keep ?_
    refine State.keeperTake_keep ?_
    assumption
  · assumption

theorem State.setRole_keep {s₀ : State} {s : State} {lt : Nat} {old : Nat} {new : Nat} {oldRole : Nat} (h_s : Keep s₀ s) :
    Keep s₀ (State.setRole s lt old new oldRole) := by
  unfold State.setRole
  refine State.setF_keep ?_
  refine State.setF_keep ?_
  refine State.setF_keep ?_
  refine State.setF_keep ?_
  refine State.setF_keep ?_
  assumption

theorem State.advanceGen_keep {s₀ : State} {s : State} {t : Nat} {g : Nat} (h_s : Keep s₀ s) :
    Keep s₀ (State.advanceGen s t g) := by
  unfold State.advanceGen
  dsimp only
  refine Keep.ite ?_ ?_
  · assumption
  · refine State.keeperFate_keep ?_
    refine Keep.ite ?_ ?_
    · refine Keep.ite ?_ ?_
      · refine State.incF_keep ?_
        refine State.setGen_keep ?_
        assumption
      · refine State.setGen_keep ?_
        assumption
    · refine State.boundaryTo_keep ?_
      refine Keep.ite ?_ ?_
      · refine State.incF_keep ?_
        refine State.setGen_keep ?_
        assumption
      · refine State.setGen_keep ?_
        assumption

theorem State.mirrorReload_keep {s₀ : State} {s : State} {t : Nat} {g : Nat} {ledErr : Int} (h_s : Keep s₀ s) :
    Keep s₀ (State.mirrorReload s t g ledErr) := by
  unfold State.mirrorReload
  dsimp only
  refine Keep.ite ?_ ?_
  · assumption
  · refine State.closure_keep ?_
    refine State.ledPeriod_keep ?_
    refine State.setGen_keep ?_
    assumption

theorem State.advanceTimers_keep {s₀ : State} {s : State} {t : Nat} (h_s : Keep s₀ s) :
    Keep s₀ (State.advanceTimers s t) := by
  unfold State.advanceTimers
  refine Keep.foldl ?_ _ ?_
  · intro s1 x2 h3
    refine Keep.ite ?_ ?_
    · refine State.timerGap_keep ?_
      · assumption
    · assumption
  · assumption

theorem State.enterHeld_keep {s₀ : State} {s : State} {lt : Nat} (h_s : Keep s₀ s) :
    Keep s₀ (State.enterHeld s lt) := by
  unfold State.enterHeld
  try dsimp only
  refine Keep.foldl ?_ _ ?_
  · intro s1 x2 h3
    refine State.arrive_keep ?_
    · assumption
  · refine Keep.upd ?_
    assumption

theorem State.closeTile_keep {s₀ : State} {s : State} {t : Nat} (h_s : Keep s₀ s) :
    Keep s₀ (State.closeTile s t) := by
  unfold State.closeTile
  refine Keep.upd ?_
  assumption

theorem State.breakMoved_keep {s₀ : State} {s : State} {t : Nat} (h_s : Keep s₀ s) :
    Keep s₀ (State.breakMoved s t) := by
  unfold State.breakMoved
  refine Keep.foldl ?_ _ ?_
  · intro s1 x2 h3
    refine State.breakLock_keep ?_
    · assumption
  · assumption

theorem State.setDomain_keep {s₀ : State} {s : State} {d : Nat} {on : Bool} (h_s : Keep s₀ s) :
    Keep s₀ (State.setDomain s d on) := by
  unfold State.setDomain
  dsimp only
  refine Keep.ite ?_ ?_
  · refine Keep.upd ?_
    refine State.setFbit_keep ?_
    assumption
  · refine Keep.ite ?_ ?_
    · refine State.wdRestart_keep ?_
      refine Keep.upd ?_
      refine State.setFbit_keep ?_
      assumption
    · refine Keep.ite ?_ ?_
      · refine State.cmpsStart_keep ?_
        refine State.refSettle_keep ?_
        refine Keep.upd ?_
        refine State.setFbit_keep ?_
        assumption
      · refine Keep.ite ?_ ?_
        · refine State.klogStart_keep ?_
          refine Keep.upd ?_
          refine State.setFbit_keep ?_
          assumption
        · refine Keep.ite ?_ ?_
          · refine Keep.foldl ?_ _ ?_
            · intro x1 x2 h3
              refine State.gpioResume_keep ?_
              assumption
            · refine Keep.upd ?_
              refine State.setFbit_keep ?_
              assumption
          · refine Keep.upd ?_
            refine State.setFbit_keep ?_
            assumption

theorem State.resetTile_keep {s₀ : State} {s : State} {t : Nat} (h_s : Keep s₀ s) :
    Keep s₀ (State.resetTile s t) := by
  unfold State.resetTile
  dsimp only
  refine State.wdRestart_keep ?_
  refine State.openGate_keep ?_
  refine State.clearTile_keep ?_
  refine Keep.foldl ?_ _ ?_
  · intro x1 x2 h3
    refine State.breakOwned_keep ?_
    refine State.drainOut_keep ?_
    assumption
  · assumption

theorem State.keeperTileReset_keep {s₀ : State} {s : State} {t : Nat} (h_s : Keep s₀ s) :
    Keep s₀ (State.keeperTileReset s t) := by
  unfold State.keeperTileReset
  refine State.pulse_keep ?_
  refine State.satF_keep ?_
  refine State.resetTile_keep ?_
  assumption

theorem State.loadImage_keep {s₀ : State} {s : State} {lt : Nat} {t : Nat} (h_s : Keep s₀ s) :
    Keep s₀ (State.loadImage s lt t) := by
  unfold State.loadImage
  refine State.memBytes_keep ?_
  · assumption

theorem State.releasePairs_keep {s₀ : State} {s : State} {t : Nat} (h_s : Keep s₀ s) :
    Keep s₀ (State.releasePairs s t) := by
  unfold State.releasePairs
  dsimp only
  refine Keep.ite ?_ ?_
  · refine State.holdPair_keep ?_
    refine State.clearCore_keep ?_
    refine State.holdPair_keep ?_
    refine State.clearCore_keep ?_
    assumption
  · refine State.holdPair_keep ?_
    refine State.clearCore_keep ?_
    assumption

theorem State.resumeGen_keep {s₀ : State} {s : State} {t : Nat} {g : Nat} (h_s : Keep s₀ s) :
    Keep s₀ (State.resumeGen s t g) := by
  unfold State.resumeGen
  dsimp only
  refine State.keeperBack_keep ?_
  refine State.setGen_keep ?_
  refine State.advanceGen_keep ?_
  assumption

theorem State.noSaggar_keep {s₀ : State} {s : State} {t : Nat} {trig : Nat} (h_s : Keep s₀ s) :
    Keep s₀ (State.noSaggar s t trig) := by
  unfold State.noSaggar
  dsimp only
  refine Keep.ite ?_ ?_
  · refine State.satF_keep ?_
    refine State.resetPair_keep ?_
    refine State.resetPair_keep ?_
    refine Keep.ite ?_ ?_
    · refine State.setFlag_keep ?_
      refine Keep.foldl ?_ _ ?_
      · intro x1 x2 h3
        refine Keep.ite ?_ ?_
        · refine State.resumeGen_keep ?_
          assumption
        · assumption
      · refine State.pulse_keep ?_
        refine State.setFlag_keep ?_
        refine State.openGate_keep ?_
        assumption
    · refine Keep.foldl ?_ _ ?_
      · intro x4 x5 h6
        refine Keep.ite ?_ ?_
        · refine State.resumeGen_keep ?_
          assumption
        · assumption
      · refine State.pulse_keep ?_
        refine State.setFlag_keep ?_
        refine State.openGate_keep ?_
        assumption
  · refine Keep.ite ?_ ?_
    · refine State.setFlag_keep ?_
      refine Keep.foldl ?_ _ ?_
      · intro x7 x8 h9
        refine Keep.ite ?_ ?_
        · refine State.resumeGen_keep ?_
          assumption
        · assumption
      · refine State.pulse_keep ?_
        refine State.setFlag_keep ?_
        refine State.openGate_keep ?_
        assumption
    · refine Keep.foldl ?_ _ ?_
      · intro x10 x11 h12
        refine Keep.ite ?_ ?_
        · refine State.resumeGen_keep ?_
          assumption
        · assumption
      · refine State.pulse_keep ?_
        refine State.setFlag_keep ?_
        refine State.openGate_keep ?_
        assumption

theorem State.takeoverCommand_keep {s₀ : State} {s : State} {lt : Nat} {want : Nat} (h_s : Keep s₀ s) :
    Keep s₀ (State.takeoverCommand s lt want).1 := by
  unfold State.takeoverCommand
  refine Keep.ite1 ?_ ?_
  · try dsimp only
    assumption
  · try dsimp only
    refine State.wantTakeover_keep ?_
    · assumption

theorem State.moveStart_keep {s₀ : State} {s : State} {c : Nat} (h_s : Keep s₀ s) :
    Keep s₀ (State.moveStart s c) := by
  unfold State.moveStart
  refine Keep.ite ?_ ?_
  · assumption
  · split
    · assumption
    · dsimp only
      refine Keep.ite ?_ ?_
      · assumption
      · split
        · refine Keep.ite ?_ ?_
          · assumption
          · refine State.noSaggar_keep ?_
            refine Keep.upd ?_
            assumption
        · refine State.breakMoved_keep ?_
          refine State.closeTile_keep ?_
          refine State.closeTile_keep ?_
          refine State.endHalts_keep ?_
          refine State.endMoved_keep ?_
          refine State.setF_keep ?_
          refine State.incF_keep ?_
          refine State.setFlag_keep ?_
          refine Keep.ite ?_ ?_
          · refine Keep.upd ?_
            assumption
          · refine State.setDomain_keep ?_
            refine Keep.upd ?_
            assumption

theorem State.tileReady_keep {s₀ : State} {s : State} {c : Nat} (h_s : Keep s₀ s) :
    Keep s₀ (State.tileReady s c) := by
  unfold State.tileReady
  split
  · assumption
  · dsimp only
    refine State.enterHeld_keep ?_
    refine Keep.upd ?_
    refine Keep.ite ?_ ?_
    · refine State.keeperTileReset_keep ?_
      refine State.pulse_keep ?_
      refine State.satF_keep ?_
      refine State.setF_keep ?_
      refine State.setF_keep ?_
      refine State.setF_keep ?_
      refine State.setF_keep ?_
      refine State.setF_keep ?_
      refine State.setFlag_keep ?_
      refine State.setFlag_keep ?_
      refine State.setFlag_keep ?_
      refine State.wdReload_keep ?_
      refine State.advanceTimers_keep ?_
      refine Keep.upd ?_
      refine Keep.foldl ?_ _ ?_
      · intro x1 x2 h3
        refine State.advanceGen_keep ?_
        assumption
      · refine Keep.upd ?_
        refine State.dmaMoved_keep ?_
        refine State.setRole_keep ?_
        refine State.openGate_keep ?_
        refine State.loadProgram_keep ?_
        refine State.loadRest_keep ?_
        refine State.loadControl_keep ?_
        refine State.carryMerged_keep ?_
        refine State.endMoved_keep ?_
        assumption
    · refine State.pulse_keep ?_
      refine State.satF_keep ?_
      refine State.setF_keep ?_
      refine State.setF_keep ?_
      refine State.setF_keep ?_
      refine State.setF_keep ?_
      refine State.setF_keep ?_
      refine State.setFlag_keep ?_
      refine State.setFlag_keep ?_
      refine State.setFlag_keep ?_
      refine State.wdReload_keep ?_
      refine State.advanceTimers_keep ?_
      refine Keep.upd ?_
      refine Keep.foldl ?_ _ ?_
      · intro x4 x5 h6
        refine State.advanceGen_keep ?_
        assumption
      · refine Keep.upd ?_
        refine State.dmaMoved_keep ?_
        refine State.setRole_keep ?_
        refine State.openGate_keep ?_
        refine State.loadProgram_keep ?_
        refine State.loadRest_keep ?_
        refine State.loadControl_keep ?_
        refine State.carryMerged_keep ?_
        refine State.endMoved_keep ?_
        assumption

theorem State.tileRelease_keep {s₀ : State} {s : State} {lt : Nat} (h_s : Keep s₀ s) :
    Keep s₀ (State.tileRelease s lt) := by
  unfold State.tileRelease
  split
  · assumption
  · refine State.releasePairs_keep ?_
    · refine State.loadImage_keep ?_
      · refine Keep.upd ?_
        assumption

theorem State.returnToService_keep {s₀ : State} {s : State} {t : Nat} {ok : Bool} (h_s : Keep s₀ s) :
    Keep s₀ (State.returnToService s t ok) := by
  unfold State.returnToService
  refine Keep.ite ?_ ?_
  · assumption
  · dsimp only
    refine Keep.ite ?_ ?_
    · refine State.pulse_keep ?_
      refine State.setF_keep ?_
      refine Keep.upd ?_
      refine State.keeperTileReset_keep ?_
      refine Keep.ite ?_ ?_
      · assumption
      · refine State.setDomain_keep ?_
        assumption
    · refine State.setFlag_keep ?_
      refine State.keeperTileReset_keep ?_
      refine Keep.ite ?_ ?_
      · assumption
      · refine State.setDomain_keep ?_
        assumption

theorem State.mirrorInStep_keep {s₀ : State} {s : State} {t : Nat} (h_s : Keep s₀ s) :
    Keep s₀ (State.mirrorInStep s t) := by
  unfold State.mirrorInStep
  refine Keep.ite ?_ ?_
  · refine State.openGate_keep ?_
    · refine State.setF_keep ?_
      · refine Keep.upd ?_
        assumption
  · assumption

theorem State.rfState_keep {s₀ : State} {s : State} {st : Nat} {cause : Nat} (h_s : Keep s₀ s) :
    Keep s₀ (State.rfState s st cause) := by
  unfold State.rfState
  try dsimp only
  refine Keep.ite ?_ ?_
  · refine State.setF_keep ?_
    · refine State.setF_keep ?_
      · assumption
  · refine State.pulse_keep ?_
    · refine State.setF_keep ?_
      · refine State.setF_keep ?_
        · assumption

theorem State.refireStage_keep {s₀ : State} {s : State} (h_s : Keep s₀ s) :
    Keep s₀ (State.refireStage s) := by
  unfold State.refireStage
  try dsimp only
  refine Keep.ite ?_ ?_
  · refine State.rfState_keep ?_
    · assumption
  · try dsimp only
    try dsimp only
    refine State.rfState_keep ?_
    · refine Keep.upd ?_
      refine State.setF_keep ?_
      · refine State.setF_keep ?_
        · assumption

theorem State.refireShadow_keep {s₀ : State} {s : State} {c : Nat} {r : Refire} {prog : SMap Nat} {image : List Byte} (h_s : Keep s₀ s) :
    Keep s₀ (State.refireShadow s c r prog image) := by
  unfold State.refireShadow
  dsimp only
  refine State.rfState_keep ?_
  refine State.putRefire_keep ?_
  refine Keep.upd ?_
  refine State.loadControl_keep ?_
  assumption

theorem State.refireSwitch_keep {s₀ : State} {s : State} (h_s : Keep s₀ s) :
    Keep s₀ (State.refireSwitch s) := by
  unfold State.refireSwitch
  split
  · refine State.setF_keep ?_
    · assumption
  · try dsimp only
    try dsimp only
    refine Keep.ite ?_ ?_
    · refine State.setF_keep ?_
      · refine Keep.upd ?_
        assumption
    · refine State.setF_keep ?_
      · assumption

theorem State.refireAbort_keep {s₀ : State} {s : State} (h_s : Keep s₀ s) :
    Keep s₀ (State.refireAbort s) := by
  unfold State.refireAbort
  refine State.refireEndIf_keep ?_
  assumption

theorem State.refireNow_keep {s₀ : State} {s : State} {r : Refire} (h_s : Keep s₀ s) :
    Keep s₀ (State.refireNow s r) := by
  unfold State.refireNow
  dsimp only
  refine State.rfState_keep ?_
  refine State.wdReload_keep ?_
  refine State.setF_keep ?_
  refine State.setF_keep ?_
  refine State.setF_keep ?_
  refine State.setF_keep ?_
  refine State.setF_keep ?_
  refine State.incF_keep ?_
  refine State.setFlag_keep ?_
  refine State.putRefire_keep ?_
  refine Keep.upd ?_
  refine State.dmaMoved_keep ?_
  refine State.breakMoved_keep ?_
  refine State.closeTile_keep ?_
  refine State.closeTile_keep ?_
  refine State.endHalts_keep ?_
  refine State.setRole_keep ?_
  refine Keep.upd ?_
  refine Keep.foldl ?_ _ ?_
  · intro x1 x2 h3
    refine Keep.foldl ?_ _ ?_
    · intro x4 x5 h6
      split
      · refine Keep.updRegs ?_ (fun h => ?_)
        · assumption
        · exact SMap.wf_put h _ _
      · refine Keep.updRegs ?_ (fun h => ?_)
        · assumption
        · exact SMap.wf_erase h _
    · assumption
  · refine Keep.ite ?_ ?_
    · refine Keep.upd ?_
      refine State.advanceTimers_keep ?_
      refine State.loadRest_keep ?_
      refine State.loadControl_keep ?_
      refine State.carryMerged_keep ?_
      refine State.dropRuns_keep ?_
      refine State.dropRuns_keep ?_
      refine State.endMoved_keep ?_
      refine Keep.upd ?_
      assumption
    · refine State.advanceTimers_keep ?_
      refine State.loadRest_keep ?_
      refine State.loadControl_keep ?_
      refine State.carryMerged_keep ?_
      refine State.dropRuns_keep ?_
      refine State.dropRuns_keep ?_
      refine State.endMoved_keep ?_
      refine Keep.upd ?_
      assumption

theorem State.refireDue_keep {s₀ : State} {s : State} {t : Nat} {g : Nat} (h_s : Keep s₀ s) :
    Keep s₀ (State.refireDue s t g) := by
  unfold State.refireDue
  split
  · try dsimp only
    refine Keep.ite ?_ ?_
    · refine State.refireNow_keep ?_
      · assumption
    · assumption
  · assumption

theorem State.refireCompare_keep {s₀ : State} {s : State} {t : Nat} {g : Nat} (h_s : Keep s₀ s) :
    Keep s₀ (State.refireCompare s t g) := by
  unfold State.refireCompare
  split
  · try dsimp only
    refine Keep.ite ?_ ?_
    · assumption
    · try dsimp only
      try dsimp only
      refine Keep.ite ?_ ?_
      · refine State.satF_keep ?_
        · refine Keep.ite ?_ ?_
          · refine State.satF_keep ?_
            · assumption
          · assumption
      · refine Keep.ite ?_ ?_
        · refine State.satF_keep ?_
          · assumption
        · assumption
  · assumption

theorem State.refireDoneIn_keep {s₀ : State} {s : State} {c : Nat} {r : Refire} (h_s : Keep s₀ s) :
    Keep s₀ (State.refireDoneIn s c r) := by
  unfold State.refireDoneIn
  split
  · refine Keep.ite ?_ ?_
    · assumption
    · dsimp only
      refine State.rfState_keep ?_
      refine State.enterHeld_keep ?_
      refine Keep.upd ?_
      refine State.dropRefire_keep ?_
      refine State.holdPair_keep ?_
      refine State.holdPair_keep ?_
      refine State.releasePairs_keep ?_
      refine State.loadImage_keep ?_
      refine State.setFlag_keep ?_
      assumption
  · assumption

theorem State.refireDone_keep {s₀ : State} {s : State} (h_s : Keep s₀ s) :
    Keep s₀ (State.refireDone s) := by
  unfold State.refireDone
  refine Keep.foldl ?_ _ ?_
  · intro x1 x2 h3
    refine State.refireDoneIn_keep ?_
    assumption
  · assumption

end Sys2Proof.Machine
end

