-- ==== Sys2Proof/Laws/KeepPwrOps.lean ====
section
/-! SUPPORT. Laws/KeepPwrOps.lean: every operation of Machine/PwrOps.lean keeps what Laws/Keep.lean says. -/

namespace Sys2Proof.Machine

theorem State.setFeed_keep {s₀ : State} {s : State} {f : Nat} {x : Feed} (h_s : Keep s₀ s) :
    Keep s₀ (State.setFeed s f x) := by
  unfold State.setFeed
  refine Keep.ite ?_ ?_
  · refine Keep.upd ?_
    assumption
  · refine Keep.upd ?_
    assumption

theorem State.switchFeed_keep {s₀ : State} {s : State} {f : Nat} (h_s : Keep s₀ s) :
    Keep s₀ (State.switchFeed s f) := by
  unfold State.switchFeed
  refine State.pulse_keep ?_
  · refine State.satF_keep ?_
    · refine State.setF_keep ?_
      · assumption

theorem State.makeBefore_keep {s₀ : State} {s : State} {f : Nat} (h_s : Keep s₀ s) :
    Keep s₀ (State.makeBefore s f) := by
  unfold State.makeBefore
  dsimp only
  refine Keep.upd ?_
  refine State.switchFeed_keep ?_
  assumption

theorem State.feedCrossing_keep {s₀ : State} {s : State} {f : Nat} {ovr : Bool} (h_s : Keep s₀ s) :
    Keep s₀ (State.feedCrossing s f ovr) := by
  unfold State.feedCrossing
  dsimp only
  refine Keep.ite ?_ ?_
  · assumption
  · refine Keep.ite ?_ ?_
    · refine Keep.ite ?_ ?_
      · refine Keep.ite ?_ ?_
        · refine State.setFlag_keep ?_
          refine State.setF_keep ?_
          refine Keep.upd ?_
          refine State.setFlag_keep ?_
          refine State.setFlag_keep ?_
          refine State.setFeed_keep ?_
          assumption
        · refine State.switchFeed_keep ?_
          refine State.setF_keep ?_
          refine State.setFlag_keep ?_
          refine State.setFlag_keep ?_
          refine State.setFeed_keep ?_
          assumption
      · refine State.pulse_keep ?_
        refine State.setFlag_keep ?_
        refine State.setFlag_keep ?_
        refine State.setFlag_keep ?_
        refine State.setFeed_keep ?_
        assumption
    · refine Keep.ite ?_ ?_
      · refine State.pulse_keep ?_
        refine State.setFlag_keep ?_
        refine State.setFlag_keep ?_
        refine State.setFeed_keep ?_
        assumption
      · refine State.setFlag_keep ?_
        refine State.setFlag_keep ?_
        refine State.setFeed_keep ?_
        assumption

theorem State.feedEntry_keep {s₀ : State} {s : State} {f : Nat} (h_s : Keep s₀ s) :
    Keep s₀ (State.feedEntry s f) := by
  unfold State.feedEntry
  try dsimp only
  refine Keep.ite ?_ ?_
  · assumption
  · refine State.setFeed_keep ?_
    · assumption

theorem State.feedRegulation_keep {s₀ : State} {s : State} {f : Nat} (h_s : Keep s₀ s) :
    Keep s₀ (State.feedRegulation s f) := by
  unfold State.feedRegulation
  try dsimp only
  refine Keep.ite ?_ ?_
  · refine State.setFlag_keep ?_
    · refine State.setFeed_keep ?_
      · assumption
  · assumption

theorem State.feedReturn_keep {s₀ : State} {s : State} (h_s : Keep s₀ s) :
    Keep s₀ (State.feedReturn s) := by
  unfold State.feedReturn
  refine Keep.ite ?_ ?_
  · refine State.makeBefore_keep ?_
    assumption
  · assumption

theorem State.feedCommand_keep {s₀ : State} {s : State} {f : Nat} (h_s : Keep s₀ s) :
    Keep s₀ (State.feedCommand s f).1 := by
  unfold State.feedCommand
  refine Keep.ite1 ?_ ?_
  · dsimp only
    assumption
  · refine Keep.ite1 ?_ ?_
    · dsimp only
      refine State.makeBefore_keep ?_
      assumption
    · dsimp only
      refine State.pulse_keep ?_
      refine State.satF_keep ?_
      assumption

theorem State.phaseFail_keep {s₀ : State} {s : State} (h_s : Keep s₀ s) :
    Keep s₀ (State.phaseFail s) := by
  unfold State.phaseFail
  dsimp only
  refine Keep.ite ?_ ?_
  · refine State.pulse_keep ?_
    refine State.satF_keep ?_
    refine State.draw_keep ?_
    assumption
  · refine State.satF_keep ?_
    refine Keep.upd ?_
    refine State.pulse_keep ?_
    refine State.satF_keep ?_
    refine State.draw_keep ?_
    assumption

theorem State.auxLoss_keep {s₀ : State} {s : State} {k : Nat} (h_s : Keep s₀ s) :
    Keep s₀ (State.auxLoss s k) := by
  unfold State.auxLoss
  refine State.pulse_keep ?_
  · refine State.satF_keep ?_
    · refine State.setFlag_keep ?_
      · assumption

theorem State.clearPages_keep {s₀ : State} {s : State} {q : Page → Bool} (h_s : Keep s₀ s) :
    Keep s₀ (State.clearPages s q) := by
  unfold State.clearPages
  refine Keep.updRegs ?_ (fun h => ?_)
  · assumption
  · first | exact SMap.wf_put h _ _ | exact SMap.wf_erase h _ | exact SMap.wf_copyBlock h _ _ _ | exact SMap.wf_filter h _

theorem State.closePages_keep {s₀ : State} {s : State} {q : Page → Bool} (h_s : Keep s₀ s) :
    Keep s₀ (State.closePages s q) := by
  unfold State.closePages
  refine Keep.upd ?_
  assumption

theorem State.eraseMem_keep {s₀ : State} {s : State} {a : Nat} {n : Nat} (h_s : Keep s₀ s) :
    Keep s₀ (State.eraseMem s a n) := by
  unfold State.eraseMem
  refine Keep.updMem ?_ (fun h => ?_)
  · assumption
  · first | exact Memory.wf_writeLE h _ _ _ | exact Memory.wf_writeN _ h _ | exact Memory.wf_filter h _

theorem State.clearCluster_keep {s₀ : State} {s : State} {c : Nat} {k : Nat} (h_s : Keep s₀ s) :
    Keep s₀ (State.clearCluster s c k) := by
  unfold State.clearCluster
  split
  · refine Keep.upd ?_
    assumption
  · refine State.eraseMem_keep ?_
    · assumption
  · refine Keep.upd ?_
    assumption
  · refine Keep.upd ?_
    assumption
  · try dsimp only
    refine Keep.upd ?_
    refine State.eraseMem_keep ?_
    · assumption
  · refine Keep.upd ?_
    assumption
  · refine Keep.upd ?_
    assumption
  · refine Keep.upd ?_
    assumption
  · refine Keep.upd ?_
    assumption
  · assumption

theorem State.clearPair_keep {s₀ : State} {s : State} {p : Nat} (h_s : Keep s₀ s) :
    Keep s₀ (State.clearPair s p) := by
  unfold State.clearPair
  try dsimp only
  refine Keep.upd ?_
  refine State.breakOwned_keep ?_
  · assumption

theorem State.dropIslands_keep {s₀ : State} {s : State} {d : Nat} (h_s : Keep s₀ s) :
    Keep s₀ (State.dropIslands s d) := by
  unfold State.dropIslands
  dsimp only
  refine Keep.upd ?_
  assumption

theorem State.clearPort_keep {s₀ : State} {s : State} {port : Nat} (h_s : Keep s₀ s) :
    Keep s₀ (State.clearPort s port) := by
  unfold State.clearPort
  refine Keep.upd ?_
  assumption

theorem State.domainOff_keep {s₀ : State} {s : State} {d : Nat} (h_s : Keep s₀ s) :
    Keep s₀ (State.domainOff s d) := by
  unfold State.domainOff
  dsimp only
  refine Keep.ite ?_ ?_
  · refine Keep.ite ?_ ?_
    · refine State.clearPair_keep ?_
      refine State.clearPages_keep ?_
      refine State.dropIslands_keep ?_
      refine State.setDomain_keep ?_
      assumption
    · refine Keep.ite ?_ ?_
      · refine State.saggarFault_keep ?_
        refine State.refireEndIf_keep ?_
        refine Keep.upd ?_
        refine State.eraseMem_keep ?_
        refine State.clearBlocks_keep ?_
        refine State.breakOwned_keep ?_
        refine State.clearPages_keep ?_
        refine State.dropIslands_keep ?_
        refine State.setDomain_keep ?_
        assumption
      · refine Keep.upd ?_
        refine State.eraseMem_keep ?_
        refine State.clearBlocks_keep ?_
        refine State.breakOwned_keep ?_
        refine State.clearPages_keep ?_
        refine State.dropIslands_keep ?_
        refine State.setDomain_keep ?_
        assumption
  · refine Keep.ite ?_ ?_
    · refine State.clearCluster_keep ?_
      refine State.clearPages_keep ?_
      refine State.dropIslands_keep ?_
      refine State.setDomain_keep ?_
      assumption
    · refine Keep.ite ?_ ?_
      · refine State.clearPort_keep ?_
        refine Keep.upd ?_
        refine State.clearPages_keep ?_
        refine State.dropIslands_keep ?_
        refine State.setDomain_keep ?_
        assumption
      · refine Keep.ite ?_ ?_
        · refine State.clearPort_keep ?_
          refine State.clearPages_keep ?_
          refine State.dropIslands_keep ?_
          refine State.setDomain_keep ?_
          assumption
        · refine Keep.ite ?_ ?_
          · refine Keep.upd ?_
            refine State.clearPages_keep ?_
            refine State.dropIslands_keep ?_
            refine State.setDomain_keep ?_
            assumption
          · refine State.clearPages_keep ?_
            refine State.dropIslands_keep ?_
            refine State.setDomain_keep ?_
            assumption

theorem State.domainDone_keep {s₀ : State} {s : State} {d : Nat} {on : Bool} (h_s : Keep s₀ s) :
    Keep s₀ (State.domainDone s d on) := by
  unfold State.domainDone
  refine State.pulse_keep ?_
  · refine State.setFlag_keep ?_
    · refine State.setF_keep ?_
      · refine State.setFlag_keep ?_
        · assumption

theorem State.domainCommand_keep {s₀ : State} {s : State} {d : Nat} {on : Bool} (h_s : Keep s₀ s) :
    Keep s₀ (State.domainCommand s d on).1 := by
  unfold State.domainCommand
  refine Keep.ite1 ?_ ?_
  · dsimp only
    assumption
  · refine Keep.ite1 ?_ ?_
    · dsimp only
      assumption
    · dsimp only
      refine Keep.ite1 ?_ ?_
      · dsimp only
        refine State.pulse_keep ?_
        refine State.satF_keep ?_
        assumption
      · refine Keep.ite1 ?_ ?_
        · dsimp only
          refine State.setFlag_keep ?_
          refine Keep.upd ?_
          refine State.setFbit_keep ?_
          assumption
        · refine Keep.ite1 ?_ ?_
          · dsimp only
            refine State.domainDone_keep ?_
            assumption
          · dsimp only
            refine State.domainDone_keep ?_
            refine State.domainOff_keep ?_
            assumption

theorem State.domainReady_keep {s₀ : State} {s : State} (h_s : Keep s₀ s) :
    Keep s₀ (State.domainReady s) := by
  unfold State.domainReady
  split
  · refine State.domainDone_keep ?_
    · refine State.setDomain_keep ?_
      · refine Keep.upd ?_
        assumption
  · assumption

theorem State.setValid_keep {s₀ : State} {s : State} {r : Nat} {v : Bool} (h_s : Keep s₀ s) :
    Keep s₀ (State.setValid s r v) := by
  unfold State.setValid
  try dsimp only
  refine Keep.ite ?_ ?_
  · refine Keep.upd ?_
    refine State.setFlag_keep ?_
    · assumption
  · refine Keep.upd ?_
    refine State.setFlag_keep ?_
    · assumption

theorem State.switchRef_keep {s₀ : State} {s : State} {r : Nat} (h_s : Keep s₀ s) :
    Keep s₀ (State.switchRef s r) := by
  unfold State.switchRef
  refine State.pulse_keep ?_
  · refine State.satF_keep ?_
    · refine State.setF_keep ?_
      · assumption

theorem State.refLoss_keep {s₀ : State} {s : State} (h_s : Keep s₀ s) :
    Keep s₀ (State.refLoss s) := by
  unfold State.refLoss
  try dsimp only
  refine Keep.ite ?_ ?_
  · assumption
  · try dsimp only
    refine Keep.ite ?_ ?_
    · refine State.switchRef_keep ?_
      · refine State.satF_keep ?_
        · refine State.setValid_keep ?_
          · assumption
    · refine State.pulse_keep ?_
      · refine State.setFlag_keep ?_
        · refine State.satF_keep ?_
          · refine State.setValid_keep ?_
            · assumption

theorem State.refRecover_keep {s₀ : State} {s : State} {r : Nat} (h_s : Keep s₀ s) :
    Keep s₀ (State.refRecover s r) := by
  unfold State.refRecover
  refine Keep.ite ?_ ?_
  · assumption
  · try dsimp only
    refine Keep.ite ?_ ?_
    · refine State.setFlag_keep ?_
      · refine State.setValid_keep ?_
        · assumption
    · refine State.switchRef_keep ?_
      · refine State.setFlag_keep ?_
        · refine State.setValid_keep ?_
          · assumption

theorem State.refChange_keep {s₀ : State} {s : State} {r : Nat} {v : Bool} (h_s : Keep s₀ s) :
    Keep s₀ (State.refChange s r v) := by
  unfold State.refChange
  refine Keep.ite ?_ ?_
  · assumption
  · refine Keep.ite ?_ ?_
    · refine State.setValid_keep ?_
      · assumption
    · refine State.satF_keep ?_
      · refine State.setValid_keep ?_
        · assumption

theorem State.refCommand_keep {s₀ : State} {s : State} {r : Nat} (h_s : Keep s₀ s) :
    Keep s₀ (State.refCommand s r).1 := by
  unfold State.refCommand
  refine Keep.ite1 ?_ ?_
  · try dsimp only
    refine State.pulse_keep ?_
    · assumption
  · refine Keep.ite1 ?_ ?_
    · try dsimp only
      assumption
    · try dsimp only
      refine State.switchRef_keep ?_
      · assumption

theorem State.refRevert_keep {s₀ : State} {s : State} (h_s : Keep s₀ s) :
    Keep s₀ (State.refRevert s) := by
  unfold State.refRevert
  try dsimp only
  refine Keep.ite ?_ ?_
  · refine State.switchRef_keep ?_
    · assumption
  · assumption

theorem State.islandHalts_keep {s₀ : State} {s : State} {i : Nat} (h_s : Keep s₀ s) :
    Keep s₀ (State.islandHalts s i) := by
  unfold State.islandHalts
  try dsimp only
  refine Keep.ite ?_ ?_
  · refine State.wdHold_keep ?_
    · refine State.timersSync_keep ?_
      · refine State.closePages_keep ?_
        · refine Keep.upd ?_
          assumption
  · refine State.closePages_keep ?_
    · refine Keep.upd ?_
      assumption

theorem State.islandRuns_keep {s₀ : State} {s : State} {i : Nat} (h_s : Keep s₀ s) :
    Keep s₀ (State.islandRuns s i) := by
  unfold State.islandRuns
  dsimp only
  refine Keep.ite ?_ ?_
  · refine State.applyWake_keep ?_
    refine State.wdReload_keep ?_
    refine Keep.foldl ?_ _ ?_
    · intro x1 x2 h3
      refine State.timerGap_keep ?_
      assumption
    · refine State.draw_keep ?_
      refine Keep.upd ?_
      assumption
  · refine Keep.ite ?_ ?_
    · refine Keep.foldl ?_ _ ?_
      · intro x4 x5 h6
        refine State.gpioReplay_keep ?_
        assumption
      · refine Keep.upd ?_
        assumption
    · refine Keep.upd ?_
      assumption

theorem State.stopIsland_keep {s₀ : State} {s : State} {i : Nat} (h_s : Keep s₀ s) :
    Keep s₀ (State.stopIsland s i) := by
  unfold State.stopIsland
  dsimp only
  refine Keep.upd ?_
  refine Keep.ite ?_ ?_
  · refine State.islandHalts_keep ?_
    assumption
  · assumption

theorem State.startIsland_keep {s₀ : State} {s : State} {i : Nat} (h_s : Keep s₀ s) :
    Keep s₀ (State.startIsland s i) := by
  unfold State.startIsland
  try dsimp only
  refine Keep.ite ?_ ?_
  · refine Keep.upd ?_
    assumption
  · refine State.islandRuns_keep ?_
    · refine Keep.upd ?_
      assumption

theorem State.spareFor_keep {s₀ : State} {s : State} {code : Nat} (h_s : Keep s₀ s) :
    Keep s₀ (State.spareFor s code) := by
  unfold State.spareFor
  refine State.setDomain_keep ?_
  refine Keep.upd ?_
  assumption

theorem State.pllFailure_keep {s₀ : State} {s : State} {k : Nat} (h_s : Keep s₀ s) :
    Keep s₀ (State.pllFailure s k) := by
  unfold State.pllFailure
  refine Keep.ite ?_ ?_
  · assumption
  · dsimp only
    refine Keep.ite ?_ ?_
    · refine Keep.ite ?_ ?_
      · refine State.setFlag_keep ?_
        assumption
      · refine State.pulse_keep ?_
        refine State.setFlag_keep ?_
        refine State.setFlag_keep ?_
        assumption
    · refine Keep.ite ?_ ?_
      · refine Keep.foldl ?_ _ ?_
        · intro x1 x2 h3
          refine State.stopIsland_keep ?_
          assumption
        · refine State.setFlag_keep ?_
          assumption
      · refine Keep.ite ?_ ?_
        · refine State.spareFor_keep ?_
          refine Keep.foldl ?_ _ ?_
          · intro x4 x5 h6
            refine State.stopIsland_keep ?_
            assumption
          · refine State.setFlag_keep ?_
            assumption
        · refine Keep.upd ?_
          refine Keep.foldl ?_ _ ?_
          · intro x7 x8 h9
            refine State.stopIsland_keep ?_
            assumption
          · refine State.setFlag_keep ?_
            assumption

theorem State.spareTick_keep {s₀ : State} {s : State} (h_s : Keep s₀ s) :
    Keep s₀ (State.spareTick s) := by
  unfold State.spareTick
  split
  · assumption
  · dsimp only
    refine Keep.ite ?_ ?_
    · refine State.draw_keep ?_
      assumption
    · refine State.spareFor_keep ?_
      refine State.setFlag_keep ?_
      refine State.setF_keep ?_
      refine Keep.ite ?_ ?_
      · refine State.setFlag_keep ?_
        refine Keep.upd ?_
        refine State.draw_keep ?_
        assumption
      · refine Keep.foldl ?_ _ ?_
        · intro x1 x2 h3
          refine State.startIsland_keep ?_
          assumption
        · refine State.setFlag_keep ?_
          refine Keep.upd ?_
          refine State.draw_keep ?_
          assumption

theorem State.spareLocked_keep {s₀ : State} {s : State} (h_s : Keep s₀ s) :
    Keep s₀ (State.spareLocked s) := by
  unfold State.spareLocked
  split
  · assumption
  · try dsimp only
    refine Keep.foldl ?_ _ ?_
    · intro s1 x2 h3
      refine State.startIsland_keep ?_
      · assumption
    · refine State.pulse_keep ?_
      · refine State.satF_keep ?_
        · refine State.setF_keep ?_
          · refine State.setFlag_keep ?_
            · refine Keep.upd ?_
              assumption

theorem State.coreSleep_keep {s₀ : State} {s : State} {t : Nat} (h_s : Keep s₀ s) :
    Keep s₀ (State.coreSleep s t) := by
  unfold State.coreSleep
  refine Keep.ite ?_ ?_
  · assumption
  · try dsimp only
    refine State.setFlag_keep ?_
    · refine Keep.upd ?_
      refine State.islandHalts_keep ?_
      · assumption

theorem State.coreWake_keep {s₀ : State} {s : State} {t : Nat} (h_s : Keep s₀ s) :
    Keep s₀ (State.coreWake s t) := by
  unfold State.coreWake
  refine Keep.ite ?_ ?_
  · assumption
  · try dsimp only
    try dsimp only
    refine Keep.ite ?_ ?_
    · refine State.satF_keep ?_
      · refine State.setFlag_keep ?_
        · refine Keep.upd ?_
          assumption
    · refine State.islandRuns_keep ?_
      · refine State.satF_keep ?_
        · refine State.setFlag_keep ?_
          · refine Keep.upd ?_
            assumption

theorem State.clusterSleep_keep {s₀ : State} {s : State} {c : Nat} {k : Nat} (h_s : Keep s₀ s) :
    Keep s₀ (State.clusterSleep s c k) := by
  unfold State.clusterSleep
  try dsimp only
  refine Keep.ite ?_ ?_
  · assumption
  · try dsimp only
    refine State.setFbit_keep ?_
    · refine Keep.upd ?_
      refine State.islandHalts_keep ?_
      · assumption

theorem State.clusterWake_keep {s₀ : State} {s : State} {c : Nat} {k : Nat} (h_s : Keep s₀ s) :
    Keep s₀ (State.clusterWake s c k) := by
  unfold State.clusterWake
  dsimp only
  refine Keep.ite ?_ ?_
  · assumption
  · refine Keep.ite ?_ ?_
    · refine State.setFbit_keep ?_
      refine Keep.upd ?_
      assumption
    · refine State.islandRuns_keep ?_
      refine State.setFbit_keep ?_
      refine Keep.upd ?_
      assumption

theorem State.floatPads_keep {s₀ : State} {s : State} (h_s : Keep s₀ s) :
    Keep s₀ (State.floatPads s) := by
  unfold State.floatPads
  refine Keep.upd ?_
  assumption

theorem State.powerOn_keep {s₀ s : State} {cause : Nat} (h_s : Keep s₀ s) : Keep s₀ (State.powerOn s cause) := by
  unfold State.powerOn
  refine State.setF_keep (State.setF_keep (State.setF_keep (State.setF_keep (State.setFlag_keep (State.setFlag_keep
    (State.setF_keep (State.setF_keep ?_)))))))
  refine ⟨h_s.pending, h_s.tick, h_s.free, fun x => ?_, fun x => ?_⟩
  · dsimp only
    exact Memory.wf_filter (h_s.mem x) _
  · dsimp only
    generalize resetRoles = l
    exact SMap.wf_foldl_put (fun kv : Nat × Nat => kv.1) (fun kv => kv.2) l (SMap.wf_filter (h_s.regs x) _)

theorem State.keelStart_keep {s₀ : State} {s : State} (h_s : Keep s₀ s) :
    Keep s₀ (State.keelStart s) := by
  unfold State.keelStart
  try dsimp only
  refine Keep.upd ?_
  refine Keep.foldl ?_ _ ?_
  · intro s1 x2 h3
    refine State.setFlag_keep ?_
    · assumption
  · refine Keep.foldl ?_ _ ?_
    · intro s4 x5 h6
      refine State.setDomain_keep ?_
      · assumption
    · refine Keep.ite ?_ ?_
      · refine State.setF_keep ?_
        · assumption
      · refine State.pulse_keep ?_
        · refine State.setFlag_keep ?_
          · assumption

theorem State.brownOut_keep {s₀ : State} {s : State} (h_s : Keep s₀ s) :
    Keep s₀ (State.brownOut s) := by
  unfold State.brownOut
  refine Keep.ite ?_ ?_
  · assumption
  · dsimp only
    refine State.setF_keep ?_
    refine Keep.upd ?_
    refine State.setFlag_keep ?_
    refine Keep.upd ?_
    refine Keep.foldl ?_ _ ?_
    · intro x1 x2 h3
      refine Keep.ite ?_ ?_
      · refine State.domainOff_keep ?_
        assumption
      · assumption
    · refine State.floatPads_keep ?_
      assumption

theorem State.porAfterBrown_keep {s₀ : State} {s : State} (h_s : Keep s₀ s) :
    Keep s₀ (State.porAfterBrown s) := by
  unfold State.porAfterBrown
  try dsimp only
  refine Keep.ite ?_ ?_
  · try dsimp only
    refine Keep.ite ?_ ?_
    · refine State.keelStart_keep ?_
      · refine State.powerOn_keep ?_
        · refine Keep.upd ?_
          assumption
    · refine State.powerOn_keep ?_
      · refine Keep.upd ?_
        assumption
  · assumption

theorem State.resetAssert_keep {s₀ : State} {s : State} {ns : Nat} (h_s : Keep s₀ s) :
    Keep s₀ (State.resetAssert s ns) := by
  unfold State.resetAssert
  try dsimp only
  refine Keep.ite ?_ ?_
  · refine Keep.ite ?_ ?_
    · assumption
    · refine State.draw_keep ?_
      · assumption
  · refine State.powerOn_keep ?_
    · refine Keep.upd ?_
      refine Keep.ite ?_ ?_
      · assumption
      · refine State.draw_keep ?_
        · assumption

theorem State.resetRelease_keep {s₀ : State} {s : State} (h_s : Keep s₀ s) :
    Keep s₀ (State.resetRelease s) := by
  unfold State.resetRelease
  refine Keep.ite ?_ ?_
  · assumption
  · dsimp only
    refine Keep.ite ?_ ?_
    · refine Keep.upd ?_
      assumption
    · refine State.keelStart_keep ?_
      refine Keep.upd ?_
      assumption

theorem State.tjUpdate_keep {s₀ : State} {s : State} {temps : List Int} (h_s : Keep s₀ s) :
    Keep s₀ (State.tjUpdate s temps) := by
  unfold State.tjUpdate
  split
  · assumption
  · try dsimp only
    try dsimp only
    refine Keep.ite ?_ ?_
    · refine State.setF_keep ?_
      · refine Keep.upd ?_
        refine Keep.ite ?_ ?_
        · refine State.setF_keep ?_
          · refine State.setF_keep ?_
            · refine Keep.upd ?_
              assumption
        · refine State.setF_keep ?_
          · refine Keep.upd ?_
            assumption
    · refine Keep.ite ?_ ?_
      · refine State.setF_keep ?_
        · refine State.setF_keep ?_
          · refine Keep.upd ?_
            assumption
      · refine State.setF_keep ?_
        · refine Keep.upd ?_
          assumption

end Sys2Proof.Machine
end

