-- ==== Sys2Proof/Laws/KeepFireOps.lean ====
section
/-! SUPPORT. Laws/KeepFireOps.lean: every operation of Machine/FireOps.lean keeps what Laws/Keep.lean says. -/

namespace Sys2Proof.Machine

theorem State.extend_keep {s₀ : State} {s : State} {n : Nat} {d : List Byte} {source : Nat} {unit : Nat} (h_s : Keep s₀ s) :
    Keep s₀ (State.extend s n d source unit) := by
  unfold State.extend
  try dsimp only
  refine State.setF_keep ?_
  · refine Keep.upd ?_
    refine Keep.foldl ?_ _ ?_
    · intro s1 x2 h3
      refine State.setF_keep ?_
      · assumption
    · assumption

theorem State.measExtend_keep {s₀ : State} {s : State} {req : Nat} (h_s : Keep s₀ s) :
    Keep s₀ (State.measExtend s req).1 := by
  unfold State.measExtend
  refine Keep.ite1 ?_ ?_
  · try dsimp only
    assumption
  · try dsimp only
    refine State.extend_keep ?_
    · assumption

theorem State.fireDomain_keep {s₀ : State} {s : State} {d : Nat} (h_s : Keep s₀ s) :
    Keep s₀ (State.fireDomain s d) := by
  unfold State.fireDomain
  refine Keep.ite ?_ ?_
  · assumption
  · try dsimp only
    refine Keep.upd ?_
    refine State.setDomain_keep ?_
    · assumption

theorem State.fireFlash_keep {s₀ : State} {s : State} {f : Nat} (h_s : Keep s₀ s) :
    Keep s₀ (State.fireFlash s f).1 := by
  unfold State.fireFlash
  dsimp only
  refine Keep.ite1 ?_ ?_
  · dsimp only
    refine State.setFlag_keep ?_
    assumption
  · refine Keep.ite1 ?_ ?_
    · dsimp only
      refine State.setFlag_keep ?_
      refine State.setFlag_keep ?_
      assumption
    · dsimp only
      refine Keep.upd ?_
      refine State.setFlag_keep ?_
      refine State.setF_keep ?_
      refine State.setF_keep ?_
      refine State.setF_keep ?_
      refine State.extend_keep ?_
      refine State.extend_keep ?_
      refine Keep.upd ?_
      refine State.memBytes_keep ?_
      refine State.fireDomain_keep ?_
      refine State.fireDomain_keep ?_
      refine State.setFlag_keep ?_
      refine State.setFlag_keep ?_
      assumption

theorem State.bootCause_keep {s₀ : State} {s : State} {f : Nat} {c : Nat} (h_s : Keep s₀ s) :
    Keep s₀ (State.bootCause s f c) := by
  unfold State.bootCause
  refine State.setF_keep ?_
  · assumption

theorem State.bootFail_keep {s₀ : State} {s : State} (h_s : Keep s₀ s) :
    Keep s₀ (State.bootFail s) := by
  unfold State.bootFail
  refine State.setFlag_keep ?_
  · refine Keep.upd ?_
    assumption

theorem State.bisque_keep {s₀ : State} {s : State} (h_s : Keep s₀ s) :
    Keep s₀ (State.bisque s) := by
  unfold State.bisque
  refine Keep.ite ?_ ?_
  · assumption
  · dsimp only
    refine Keep.ite ?_ ?_
    · refine State.fireFlash_keep ?_
      refine Keep.ite ?_ ?_
      · refine State.extend_keep ?_
        refine State.extend_keep ?_
        refine Keep.upd ?_
        assumption
      · assumption
    · refine Keep.ite ?_ ?_
      · refine State.bootFail_keep ?_
        refine State.bootCause_keep ?_
        refine State.fireFlash_keep ?_
        refine Keep.ite ?_ ?_
        · refine State.extend_keep ?_
          refine State.extend_keep ?_
          refine Keep.upd ?_
          assumption
        · assumption
      · refine Keep.ite ?_ ?_
        · refine State.fireFlash_keep ?_
          refine State.bootCause_keep ?_
          refine State.fireFlash_keep ?_
          refine Keep.ite ?_ ?_
          · refine State.extend_keep ?_
            refine State.extend_keep ?_
            refine Keep.upd ?_
            assumption
          · assumption
        · refine State.bootFail_keep ?_
          refine State.bootCause_keep ?_
          refine State.fireFlash_keep ?_
          refine State.bootCause_keep ?_
          refine State.fireFlash_keep ?_
          refine Keep.ite ?_ ?_
          · refine State.extend_keep ?_
            refine State.extend_keep ?_
            refine Keep.upd ?_
            assumption
          · assumption

theorem State.bootRetry_keep {s₀ : State} {s : State} (h_s : Keep s₀ s) :
    Keep s₀ (State.bootRetry s) := by
  unfold State.bootRetry
  refine Keep.ite ?_ ?_
  · refine State.bisque_keep ?_
    · refine Keep.upd ?_
      assumption
  · assumption

theorem State.glazeFail_keep {s₀ : State} {s : State} (h_s : Keep s₀ s) :
    Keep s₀ (State.glazeFail s) := by
  unfold State.glazeFail
  try dsimp only
  refine Keep.ite ?_ ?_
  · refine Keep.upd ?_
    refine State.bootCause_keep ?_
    · refine Keep.upd ?_
      refine Keep.foldl ?_ _ ?_
      · intro s1 x2 h3
        refine State.domainOff_keep ?_
        · assumption
      · assumption
  · refine State.bootFail_keep ?_
    · refine State.bootCause_keep ?_
      · refine Keep.upd ?_
        refine Keep.foldl ?_ _ ?_
        · intro s4 x5 h6
          refine State.domainOff_keep ?_
          · assumption
        · assumption

theorem State.loadContexts_keep {s₀ : State} {s : State} {t : Nat} {b : List Byte} (h_s : Keep s₀ s) :
    Keep s₀ (State.loadContexts s t b).1 := by
  unfold State.loadContexts
  refine Keep.foldl1 ?_ _ ?_
  · intro s1 x2 h3
    try dsimp only
    refine Keep.ite1 ?_ ?_
    · try dsimp only
      refine State.setCtxWord_keep ?_
      · assumption
    · try dsimp only
      assumption
  · try dsimp only
    assumption

theorem State.loadEntry_keep {s₀ : State} {s : State} {src : List Byte} {e : DirEntry} (h_s : Keep s₀ s) :
    Keep s₀ (State.loadEntry s src e).1 := by
  unfold State.loadEntry
  try dsimp only
  refine Keep.ite1 ?_ ?_
  · try dsimp only
    assumption
  · try dsimp only
    split
    · refine Keep.ite1 ?_ ?_
      · try dsimp only
        refine State.memBytes_keep ?_
        · refine Keep.upd ?_
          refine State.extend_keep ?_
          · assumption
      · try dsimp only
        refine State.extend_keep ?_
        · assumption
    · try dsimp only
      refine Keep.ite1 ?_ ?_
      · try dsimp only
        try dsimp only
        refine Keep.upd ?_
        refine State.extend_keep ?_
        · assumption
      · try dsimp only
        refine State.extend_keep ?_
        · assumption
    · refine Keep.ite1 ?_ ?_
      · refine State.loadContexts_keep ?_
        · refine State.extend_keep ?_
          · assumption
      · try dsimp only
        refine State.extend_keep ?_
        · assumption
    · refine Keep.ite1 ?_ ?_
      · try dsimp only
        refine State.memBytes_keep ?_
        · refine State.extend_keep ?_
          · assumption
      · try dsimp only
        refine State.extend_keep ?_
        · assumption

theorem State.flashWrite_keep {s₀ : State} {s : State} {f : Nat} {o : Nat} {b : List Byte} (h_s : Keep s₀ s) :
    Keep s₀ (State.flashWrite s f o b) := by
  unfold State.flashWrite
  refine State.memBytes_keep ?_
  · assumption

theorem State.journalScan_keep {s₀ : State} {s : State} {h : Hdr} (h_s : Keep s₀ s) :
    Keep s₀ (State.journalScan s h) := by
  unfold State.journalScan
  refine Keep.ite ?_ ?_
  · refine Keep.upd ?_
    assumption
  · try dsimp only
    try dsimp only
    refine Keep.upd ?_
    refine Keep.ite ?_ ?_
    · try dsimp only
      try dsimp only
      refine State.flashWrite_keep ?_
      · try dsimp only
        try dsimp only
        refine State.flashWrite_keep ?_
        · assumption
    · refine Keep.ite ?_ ?_
      · refine State.flashWrite_keep ?_
        · try dsimp only
          try dsimp only
          refine State.flashWrite_keep ?_
          · try dsimp only
            try dsimp only
            refine State.flashWrite_keep ?_
            · assumption
      · refine State.flashWrite_keep ?_
        · try dsimp only
          try dsimp only
          refine State.flashWrite_keep ?_
          · try dsimp only
            try dsimp only
            refine State.flashWrite_keep ?_
            · assumption

theorem State.journalAppend_keep {s₀ : State} {s : State} {items : List JItem} (h_s : Keep s₀ s) :
    Keep s₀ (State.journalAppend s items) := by
  unfold State.journalAppend
  dsimp only
  refine Keep.ite ?_ ?_
  · refine Keep.upd ?_
    refine State.flashWrite_keep ?_
    refine State.flashWrite_keep ?_
    refine State.flashWrite_keep ?_
    refine State.flashWrite_keep ?_
    assumption
  · refine Keep.upd ?_
    refine State.flashWrite_keep ?_
    refine State.flashWrite_keep ?_
    refine Keep.ite ?_ ?_
    · assumption
    · refine Keep.upd ?_
      refine State.flashWrite_keep ?_
      refine State.flashWrite_keep ?_
      refine State.flashWrite_keep ?_
      refine State.flashWrite_keep ?_
      assumption

theorem State.journalRows_keep {s₀ : State} {s : State} (h_s : Keep s₀ s) :
    Keep s₀ (State.journalRows s) := by
  unfold State.journalRows
  refine Keep.ite ?_ ?_
  · assumption
  · dsimp only
    refine Keep.ite ?_ ?_
    · refine State.journalAppend_keep ?_
      refine Keep.upd ?_
      assumption
    · refine Keep.upd ?_
      assumption

theorem State.makeAlias_keep {s₀ : State} {s : State} (h_s : Keep s₀ s) :
    Keep s₀ (State.makeAlias s) := by
  unfold State.makeAlias
  try dsimp only
  refine Keep.upd ?_
  assumption

theorem State.keepStart_keep {s₀ : State} {s : State} {req : Nat} {cmd : Nat} (h_s : Keep s₀ s) :
    Keep s₀ (State.keepStart s req cmd).1 := by
  unfold State.keepStart
  refine Keep.ite1 ?_ ?_
  · try dsimp only
    assumption
  · refine Keep.ite1 ?_ ?_
    · try dsimp only
      assumption
    · try dsimp only
      try dsimp only
      refine State.setF_keep ?_
      · refine State.setF_keep ?_
        · refine State.setFlag_keep ?_
          · refine Keep.upd ?_
            assumption

theorem State.showOtp_keep {s₀ : State} {s : State} (h_s : Keep s₀ s) :
    Keep s₀ (State.showOtp s) := by
  unfold State.showOtp
  try dsimp only
  refine State.setFlag_keep ?_
  · refine State.setF_keep ?_
    · refine State.setF_keep ?_
      · refine State.setF_keep ?_
        · assumption

theorem State.keepEffect_keep {s₀ : State} {s : State} {k : KeepCmd} (h_s : Keep s₀ s) :
    Keep s₀ (State.keepEffect s k) := by
  unfold State.keepEffect
  try dsimp only
  split
  · refine State.journalAppend_keep ?_
    · assumption
  · refine State.flashWrite_keep ?_
    · assumption
  · refine State.showOtp_keep ?_
    · refine Keep.upd ?_
      assumption
  · try dsimp only
    try dsimp only
    refine State.showOtp_keep ?_
    · refine Keep.ite ?_ ?_
      · refine Keep.upd ?_
        refine Keep.upd ?_
        assumption
      · refine Keep.upd ?_
        assumption
  · refine State.showOtp_keep ?_
    · refine Keep.upd ?_
      assumption
  · refine State.writeMem_keep ?_
    · assumption

theorem State.keepEnd_keep {s₀ : State} {s : State} {result : Nat} (h_s : Keep s₀ s) :
    Keep s₀ (State.keepEnd s result) := by
  unfold State.keepEnd
  refine State.pulse_keep ?_
  · refine State.setF_keep ?_
    · refine State.setFlag_keep ?_
      · refine Keep.upd ?_
        assumption

theorem State.refireVerify_keep {s₀ : State} {s : State} {c : Nat} {r : Refire} (h_s : Keep s₀ s) :
    Keep s₀ (State.refireVerify s c r) := by
  unfold State.refireVerify
  split
  · refine State.refireEnd_keep ?_
    assumption
  · dsimp only
    refine Keep.ite ?_ ?_
    · refine State.refireEnd_keep ?_
      assumption
    · split
      · refine State.loadContexts_keep ?_
        refine State.refireShadow_keep ?_
        refine State.extend_keep ?_
        assumption
      · refine State.refireShadow_keep ?_
        refine State.extend_keep ?_
        assumption

theorem State.refireVerified_keep {s₀ : State} {s : State} (h_s : Keep s₀ s) :
    Keep s₀ (State.refireVerified s) := by
  unfold State.refireVerified
  split
  · refine State.refireVerify_keep ?_
    assumption
  · assumption

theorem State.keeperReset_keep {s₀ : State} {s : State} (h_s : Keep s₀ s) :
    Keep s₀ (State.keeperReset s) := by
  unfold State.keeperReset
  dsimp only
  refine Keep.ite ?_ ?_
  · refine State.wdDisable_keep ?_
    refine State.setPair_keep ?_
    refine Keep.upd ?_
    refine State.clearPages_keep ?_
    refine State.closeLocks_keep ?_
    refine State.breakOwned_keep ?_
    refine State.satF_keep ?_
    refine Keep.ite ?_ ?_
    · refine State.monEvent_keep ?_
      assumption
    · assumption
  · refine Keep.ite ?_ ?_
    · refine State.journalScan_keep ?_
      refine State.wdDisable_keep ?_
      refine State.setPair_keep ?_
      refine Keep.upd ?_
      refine State.clearPages_keep ?_
      refine State.closeLocks_keep ?_
      refine State.breakOwned_keep ?_
      refine State.satF_keep ?_
      refine Keep.ite ?_ ?_
      · refine State.monEvent_keep ?_
        assumption
      · assumption
    · refine Keep.upd ?_
      refine Keep.foldl ?_ _ ?_
      · intro x1 x2 h3
        refine State.domainOff_keep ?_
        assumption
      · refine State.wdDisable_keep ?_
        refine State.setPair_keep ?_
        refine Keep.upd ?_
        refine State.clearPages_keep ?_
        refine State.closeLocks_keep ?_
        refine State.breakOwned_keep ?_
        refine State.satF_keep ?_
        refine Keep.ite ?_ ?_
        · refine State.monEvent_keep ?_
          assumption
        · assumption

theorem State.debugReset_keep {s₀ : State} {s : State} (h_s : Keep s₀ s) :
    Keep s₀ (State.debugReset s) := by
  unfold State.debugReset
  dsimp only
  refine Keep.ite ?_ ?_
  · refine Keep.upd ?_
    refine State.clearPages_keep ?_
    refine State.closeLocks_keep ?_
    refine State.breakOwned_keep ?_
    refine State.satF_keep ?_
    assumption
  · refine State.pulse_keep ?_
    refine Keep.upd ?_
    refine State.clearPages_keep ?_
    refine State.closeLocks_keep ?_
    refine State.breakOwned_keep ?_
    refine State.satF_keep ?_
    assumption

theorem State.resetCommand_keep {s₀ : State} {s : State} {scope : Nat} {t : Nat} (h_s : Keep s₀ s) :
    Keep s₀ (State.resetCommand s scope t).1 := by
  unfold State.resetCommand
  split
  · dsimp only
    refine State.keeperReset_keep ?_
    assumption
  · dsimp only
    refine State.debugReset_keep ?_
    assumption
  · refine Keep.ite1 ?_ ?_
    · dsimp only
      assumption
    · refine Keep.ite1 ?_ ?_
      · dsimp only
        assumption
      · dsimp only
        refine State.pulse_keep ?_
        refine Keep.ite ?_ ?_
        · refine Keep.upd ?_
          refine State.satF_keep ?_
          refine State.resetTile_keep ?_
          assumption
        · refine State.satF_keep ?_
          refine State.resetTile_keep ?_
          assumption
  · dsimp only
    assumption

end Sys2Proof.Machine
end

