-- ==== Sys2Proof/Laws/KeepSpdmOps.lean ====
section
/-! SUPPORT. Laws/KeepSpdmOps.lean: every operation of Machine/SpdmOps.lean keeps what Laws/Keep.lean says. -/

namespace Sys2Proof.Machine

theorem State.setConn_keep {s₀ : State} {s : State} {c : Conn} (h_s : Keep s₀ s) :
    Keep s₀ (State.setConn s c) := by
  unfold State.setConn
  refine Keep.upd ?_
  assumption

theorem State.openConn_keep {s₀ : State} {s : State} {port : Nat} {addr : Nat} {udp : Nat} (h_s : Keep s₀ s) :
    Keep s₀ (State.openConn s port addr udp).1 := by
  unfold State.openConn
  split
  · dsimp only
    assumption
  · dsimp only
    refine Keep.ite ?_ ?_
    · assumption
    · refine Keep.upd ?_
      assumption

theorem State.sendAll_keep {s₀ s : State} {port addr udp : Nat} {ds : List (List Byte)} (h_s : Keep s₀ s) :
    Keep s₀ (State.sendAll s port addr udp ds) := by
  unfold State.sendAll
  exact Keep.upd h_s

theorem State.spdmSend_keep {s₀ s : State} {port addr udp id : Nat} {m : List Byte} (h_s : Keep s₀ s) :
    Keep s₀ (State.spdmSend s port addr udp id m) := by
  unfold State.spdmSend
  exact Keep.ite (State.grpSendList_keep h_s) (State.sendAll_keep h_s)

theorem State.askNext_keep {s₀ : State} {s : State} {k : Nat} (h_s : Keep s₀ s) :
    Keep s₀ (State.askNext s k) := by
  unfold State.askNext
  dsimp only
  refine State.spdmSend_keep ?_
  refine State.setPeer_keep ?_
  refine Keep.updFree ?_
  assumption

theorem State.askPeer_keep {s₀ : State} {s : State} {k : Nat} (h_s : Keep s₀ s) :
    Keep s₀ (State.askPeer s k) := by
  unfold State.askPeer
  refine State.askNext_keep ?_
  refine State.setPeer_keep ?_
  assumption

theorem State.askAnswered_keep {s₀ : State} {s : State} {k : Nat} {id : Nat} {m : List Byte} (h_s : Keep s₀ s) :
    Keep s₀ (State.askAnswered s k id m) := by
  unfold State.askAnswered
  dsimp only
  refine Keep.ite ?_ ?_
  · assumption
  · refine Keep.ite ?_ ?_
    · refine State.setPeer_keep ?_
      assumption
    · refine Keep.ite ?_ ?_
      · refine State.setPeer_keep ?_
        assumption
      · refine State.askNext_keep ?_
        refine State.setPeer_keep ?_
        assumption

theorem State.spdmTake_keep {s₀ : State} {s : State} {port : Nat} {addr : Nat} {udp : Nat} {b : List Byte} (h_s : Keep s₀ s) :
    Keep s₀ (State.spdmTake s port addr udp b) := by
  unfold State.spdmTake
  dsimp only
  refine Keep.ite ?_ ?_
  · refine State.setConn_keep ?_
    refine Keep.ite ?_ ?_
    · refine State.satF_keep ?_
      refine State.openConn_keep ?_
      assumption
    · refine State.openConn_keep ?_
      assumption
  · refine Keep.ite ?_ ?_
    · refine State.setConn_keep ?_
      refine State.openConn_keep ?_
      assumption
    · refine Keep.ite ?_ ?_
      · refine State.askAnswered_keep ?_
        refine State.setConn_keep ?_
        refine State.openConn_keep ?_
        assumption
      · refine Keep.ite ?_ ?_
        · refine State.spdmSend_keep ?_
          refine State.setConn_keep ?_
          refine State.openConn_keep ?_
          assumption
        · refine State.setConn_keep ?_
          refine State.openConn_keep ?_
          assumption

theorem State.spdmExpire_keep {s₀ : State} {s : State} {port : Nat} {addr : Nat} {udp : Nat} (h_s : Keep s₀ s) :
    Keep s₀ (State.spdmExpire s port addr udp) := by
  unfold State.spdmExpire
  split
  · split
    · refine Keep.ite ?_ ?_
      · refine State.setConn_keep ?_
        assumption
      · assumption
    · assumption
  · assumption

theorem State.spdmIdle_keep {s₀ : State} {s : State} {port : Nat} {addr : Nat} {udp : Nat} (h_s : Keep s₀ s) :
    Keep s₀ (State.spdmIdle s port addr udp) := by
  unfold State.spdmIdle
  dsimp only
  split
  · refine Keep.ite ?_ ?_
    · refine Keep.upd ?_
      assumption
    · assumption
  · assumption

theorem State.spdmRequest_keep {s₀ : State} {s : State} {port : Nat} {addr : Nat} {udp : Nat} {code : Nat} (h_s : Keep s₀ s) :
    Keep s₀ (State.spdmRequest s port addr udp code) := by
  unfold State.spdmRequest
  dsimp only
  split
  · split
    · refine Keep.ite ?_ ?_
      · assumption
      · refine State.spdmSend_keep ?_
        refine Keep.ite ?_ ?_
        · refine State.setPeer_keep ?_
          refine State.setConn_keep ?_
          refine Keep.updFree ?_
          assumption
        · refine State.setConn_keep ?_
          refine Keep.updFree ?_
          assumption
    · assumption
  · assumption

theorem State.spdmFragment_keep {s₀ s : State} {port addr udp : Nat} {b : List Byte} (h_s : Keep s₀ s) :
    Keep s₀ (State.spdmFragment s port addr udp b) := by
  unfold State.spdmFragment
  split
  · split
    · rename_i e
      exact Keep.ite (State.spdmTake_keep (State.grpTake_keep h_s e)) (State.grpTake_keep h_s e)
    · exact h_s
  · exact Keep.ite (State.spdmTake_keep h_s) h_s

end Sys2Proof.Machine
end

