-- ==== Sys2Proof/Laws/KeepGroupOps.lean ====
section
/-! SUPPORT. Laws/KeepGroupOps.lean: every operation of Machine/GroupOps.lean keeps what Laws/Keep.lean says. -/

namespace Sys2Proof.Machine

theorem State.setGrpState_keep {s₀ : State} {s : State} {st : Nat} (h_s : Keep s₀ s) :
    Keep s₀ (State.setGrpState s st) := by
  unfold State.setGrpState
  refine Keep.ite ?_ ?_
  · assumption
  · refine State.pulse_keep ?_
    refine State.setF_keep ?_
    assumption

theorem State.tileDust_keep {s₀ : State} {s : State} {t : Nat} (h_s : Keep s₀ s) :
    Keep s₀ (State.tileDust s t) := by
  unfold State.tileDust
  refine Keep.foldl ?_ _ ?_
  · intro x1 x2 h3
    split
    · dsimp only
      refine State.ledOff_keep ?_
      refine Keep.ite ?_ ?_
      · refine State.pinDust_keep ?_
        refine State.pinDust_keep ?_
        assumption
      · refine State.pinDust_keep ?_
        assumption
    · refine State.ledOff_keep ?_
      assumption
    · assumption
  · assumption

theorem State.tilePins_keep {s₀ : State} {s : State} {t : Nat} (h_s : Keep s₀ s) :
    Keep s₀ (State.tilePins s t) := by
  unfold State.tilePins
  refine Keep.foldl ?_ _ ?_
  · intro x1 x2 h3
    dsimp only
    refine Keep.ite ?_ ?_
    · refine Keep.ite ?_ ?_
      · refine State.pinTo_keep ?_
        refine State.ledH_keep ?_
        refine State.pinTo_keep ?_
        assumption
      · refine State.ledH_keep ?_
        refine State.pinTo_keep ?_
        assumption
    · assumption
  · assumption

theorem State.regroup_keep {s₀ : State} {s : State} {old : State} (h_s : Keep s₀ s) (h_old : Keep s₀ old) :
    Keep s₀ (State.regroup s old) := by
  unfold State.regroup
  refine Keep.foldl ?_ _ ?_
  · intro x1 x2 h3
    refine Keep.ite ?_ ?_
    · refine State.tileDust_keep ?_
      assumption
    · refine Keep.ite ?_ ?_
      · refine State.tilePins_keep ?_
        assumption
      · assumption
  · assumption

theorem State.setActive_keep {s₀ : State} {s : State} {words : List Nat} {epoch : Nat} (h_s : Keep s₀ s) :
    Keep s₀ (State.setActive s words epoch) := by
  unfold State.setActive
  dsimp only
  refine State.regroup_keep ?_ ?_
  · refine State.setF_keep ?_
    refine Keep.foldl ?_ _ ?_
    · intro x1 x2 h3
      refine State.setF_keep ?_
      assumption
    · refine Keep.foldl ?_ _ ?_
      · intro x4 x5 h6
        refine State.setF_keep ?_
        refine State.setF_keep ?_
        refine State.setF_keep ?_
        refine State.setF_keep ?_
        refine State.setF_keep ?_
        refine State.setF_keep ?_
        assumption
      · assumption
  · assumption

theorem State.agree_keep {s₀ : State} {s : State} (h_s : Keep s₀ s) :
    Keep s₀ (State.agree s) := by
  unfold State.agree
  try dsimp only
  refine Keep.foldl ?_ _ ?_
  · intro s1 x2 h3
    refine State.setF_keep ?_
    · assumption
  · refine Keep.upd ?_
    assumption

theorem State.grpJournal_keep {s₀ : State} {s : State} (h_s : Keep s₀ s) :
    Keep s₀ (State.grpJournal s) := by
  unfold State.grpJournal
  try dsimp only
  refine Keep.foldl ?_ _ ?_
  · intro s1 x2 h3
    refine State.journalReg_keep ?_
    · assumption
  · refine State.journalAppend_keep ?_
    · assumption

theorem State.chooseMaster_keep {s₀ : State} {s : State} (h_s : Keep s₀ s) :
    Keep s₀ (State.chooseMaster s) := by
  unfold State.chooseMaster
  try dsimp only
  refine Keep.ite ?_ ?_
  · refine State.setFlag_keep ?_
    · assumption
  · try dsimp only
    try dsimp only
    refine Keep.ite ?_ ?_
    · refine State.setFlag_keep ?_
      · refine State.setFlag_keep ?_
        · assumption
    · refine State.pulse_keep ?_
      · refine State.setF_keep ?_
        · refine State.setFlag_keep ?_
          · refine State.setFlag_keep ?_
            · assumption

theorem State.offsetTaken_keep {s₀ : State} {s : State} {ofs : Int} (h_s : Keep s₀ s) :
    Keep s₀ (State.offsetTaken s ofs) := by
  unfold State.offsetTaken
  dsimp only
  refine Keep.ite ?_ ?_
  · refine Keep.ite ?_ ?_
    · refine Keep.foldl ?_ _ ?_
      · intro x1 x2 h3
        refine State.setFbit_keep ?_
        assumption
      · refine Keep.upd ?_
        refine State.setF_keep ?_
        refine Keep.ite ?_ ?_
        · refine State.timeMeasure_keep ?_
          assumption
        · assumption
    · refine State.pulse_keep ?_
      refine State.setFlag_keep ?_
      refine Keep.foldl ?_ _ ?_
      · intro x4 x5 h6
        refine State.setFbit_keep ?_
        assumption
      · refine Keep.upd ?_
        refine State.setF_keep ?_
        refine Keep.ite ?_ ?_
        · refine State.timeMeasure_keep ?_
          assumption
        · assumption
  · refine Keep.ite ?_ ?_
    · refine State.pulse_keep ?_
      refine State.setFlag_keep ?_
      refine Keep.upd ?_
      refine State.setF_keep ?_
      refine Keep.ite ?_ ?_
      · refine State.timeMeasure_keep ?_
        assumption
      · assumption
    · refine Keep.upd ?_
      refine State.setF_keep ?_
      refine Keep.ite ?_ ?_
      · refine State.timeMeasure_keep ?_
        assumption
      · assumption

theorem State.timeExchange_keep {s₀ : State} {s : State} {ofs : Int} (h_s : Keep s₀ s) :
    Keep s₀ (State.timeExchange s ofs) := by
  unfold State.timeExchange
  dsimp only
  refine Keep.ite ?_ ?_
  · refine State.chooseMaster_keep ?_
    assumption
  · refine Keep.ite ?_ ?_
    · refine Keep.foldl ?_ _ ?_
      · intro x1 x2 h3
        refine Keep.ite ?_ ?_
        · refine State.grpSend_keep ?_
          assumption
        · assumption
      · refine State.chooseMaster_keep ?_
        assumption
    · refine State.offsetTaken_keep ?_
      refine State.setPeer_keep ?_
      refine State.grpSend_keep ?_
      refine State.chooseMaster_keep ?_
      assumption

theorem State.grpJoin_keep {s₀ : State} {s : State} {k : Nat} (h_s : Keep s₀ s) :
    Keep s₀ (State.grpJoin s k) := by
  unfold State.grpJoin
  refine Keep.ite ?_ ?_
  · refine State.setGrpState_keep ?_
    · assumption
  · assumption

theorem State.grpAsk_keep {s₀ : State} {s : State} {k : Nat} (h_s : Keep s₀ s) :
    Keep s₀ (State.grpAsk s k) := by
  unfold State.grpAsk
  dsimp only
  refine Keep.ite ?_ ?_
  · refine State.askPeer_keep ?_
    assumption
  · assumption

theorem State.grpLaneLock_keep {s₀ : State} {s : State} {k : Nat} (h_s : Keep s₀ s) :
    Keep s₀ (State.grpLaneLock s k) := by
  unfold State.grpLaneLock
  refine State.grpAsk_keep ?_
  refine State.grpJoin_keep ?_
  refine State.setPeer_keep ?_
  assumption

theorem State.setHeld_keep {s₀ : State} {s : State} (h_s : Keep s₀ s) :
    Keep s₀ (State.setHeld s) := by
  unfold State.setHeld
  try dsimp only
  refine Keep.ite ?_ ?_
  · refine Keep.upd ?_
    assumption
  · refine State.pulse_keep ?_
    · refine State.setFlag_keep ?_
      · refine Keep.upd ?_
        assumption

theorem State.digestBad_keep {s₀ : State} {s : State} (h_s : Keep s₀ s) :
    Keep s₀ (State.digestBad s) := by
  unfold State.digestBad
  dsimp only
  refine Keep.upd ?_
  refine State.setHeld_keep ?_
  assumption

theorem State.ownerGone_keep {s₀ : State} {s : State} {k : Nat} (h_s : Keep s₀ s) :
    Keep s₀ (State.ownerGone s k) := by
  unfold State.ownerGone
  refine Keep.foldl ?_ _ ?_
  · intro x1 x2 h3
    refine Keep.ite ?_ ?_
    · assumption
    · refine Keep.upd ?_
      assumption
  · assumption

theorem State.ownerBack_keep {s₀ : State} {s : State} {k : Nat} (h_s : Keep s₀ s) :
    Keep s₀ (State.ownerBack s k) := by
  unfold State.ownerBack
  refine Keep.foldl ?_ _ ?_
  · intro x1 x2 h3
    refine Keep.upd ?_
    assumption
  · assumption

theorem State.statusReceive_keep {s₀ : State} {s : State} {k : Nat} {src : Nat} {seq : Nat} {st : GStat} (h_s : Keep s₀ s) :
    Keep s₀ (State.statusReceive s k src seq st) := by
  unfold State.statusReceive
  split
  · assumption
  · rename_i v1 v2 v3 e4
    have kv2 : Keep s₀ v2 := by
      refine State.grpTake_keep ?_ e4
      assumption
    dsimp only
    refine State.chooseMaster_keep ?_
    refine Keep.ite ?_ ?_
    · refine State.setHeld_keep ?_
      refine State.grpAsk_keep ?_
      refine State.grpJoin_keep ?_
      refine Keep.ite ?_ ?_
      · refine State.ownerBack_keep ?_
        refine State.setFlag_keep ?_
        refine State.setF_keep ?_
        refine State.setF_keep ?_
        refine State.setF_keep ?_
        refine State.setPeer_keep ?_
        assumption
      · refine State.ownerGone_keep ?_
        refine State.setFbit_keep ?_
        refine State.setFlag_keep ?_
        refine State.setF_keep ?_
        refine State.setF_keep ?_
        refine State.setF_keep ?_
        refine State.setPeer_keep ?_
        assumption
    · refine State.grpAsk_keep ?_
      refine State.grpJoin_keep ?_
      refine Keep.ite ?_ ?_
      · refine State.ownerBack_keep ?_
        refine State.setFlag_keep ?_
        refine State.setF_keep ?_
        refine State.setF_keep ?_
        refine State.setF_keep ?_
        refine State.setPeer_keep ?_
        assumption
      · refine State.ownerGone_keep ?_
        refine State.setFbit_keep ?_
        refine State.setFlag_keep ?_
        refine State.setF_keep ?_
        refine State.setF_keep ?_
        refine State.setF_keep ?_
        refine State.setPeer_keep ?_
        assumption

theorem State.memberLost_keep {s₀ : State} {s : State} {k : Nat} (h_s : Keep s₀ s) :
    Keep s₀ (State.memberLost s k) := by
  unfold State.memberLost
  dsimp only
  refine Keep.ite ?_ ?_
  · assumption
  · refine State.chooseMaster_keep ?_
    refine State.ownerGone_keep ?_
    refine State.pulse_keep ?_
    refine State.satF_keep ?_
    refine State.setFbit_keep ?_
    refine State.setPeer_keep ?_
    assumption

theorem State.peerAdmission_keep {s₀ : State} {s : State} {k : Nat} {auth : Bool} (h_s : Keep s₀ s) :
    Keep s₀ (State.peerAdmission s k auth) := by
  unfold State.peerAdmission
  dsimp only
  refine Keep.ite ?_ ?_
  · assumption
  · split
    · refine Keep.ite ?_ ?_
      · assumption
      · refine Keep.ite ?_ ?_
        · refine State.grpSend_keep ?_
          assumption
        · refine Keep.ite ?_ ?_
          · assumption
          · refine State.chooseMaster_keep ?_
            refine State.setGrpState_keep ?_
            refine State.setF_keep ?_
            refine State.setFbit_keep ?_
            refine State.setFbit_keep ?_
            refine State.agree_keep ?_
            assumption
    · refine Keep.ite ?_ ?_
      · refine State.setF_keep ?_
        assumption
      · refine State.setGrpState_keep ?_
        refine Keep.upd ?_
        refine State.setF_keep ?_
        assumption

theorem State.admissionRetry_keep {s₀ : State} {s : State} (h_s : Keep s₀ s) :
    Keep s₀ (State.admissionRetry s) := by
  unfold State.admissionRetry
  refine Keep.ite ?_ ?_
  · refine Keep.foldl ?_ _ ?_
    · intro x1 x2 h3
      dsimp only
      refine Keep.ite ?_ ?_
      · assumption
      · refine State.grpAsk_keep ?_
        refine State.setPeer_keep ?_
        assumption
    · refine State.setGrpState_keep ?_
      assumption
  · assumption

theorem State.grpEnable_keep {s₀ : State} {s : State} {on : Bool} (h_s : Keep s₀ s) :
    Keep s₀ (State.grpEnable s on) := by
  unfold State.grpEnable
  dsimp only
  refine State.regroup_keep ?_ ?_
  · refine Keep.foldl ?_ _ ?_
    · intro x1 x2 h3
      refine State.setFlag_keep ?_
      assumption
    · refine State.setGrpState_keep ?_
      refine State.setF_keep ?_
      refine Keep.upd ?_
      assumption
  · refine State.setFlag_keep ?_
    assumption

theorem State.statusSend_keep {s₀ : State} {s : State} (h_s : Keep s₀ s) :
    Keep s₀ (State.statusSend s) := by
  unfold State.statusSend
  refine Keep.ite ?_ ?_
  · assumption
  · try dsimp only
    refine State.grpSendAll_keep ?_
    · refine State.chooseMaster_keep ?_
      · refine Keep.upd ?_
        assumption

theorem State.grpEvent_keep {s₀ : State} {s : State} {k : Nat} {seq : Nat} {n : Nat} (h_s : Keep s₀ s) :
    Keep s₀ (State.grpEvent s k seq n) := by
  unfold State.grpEvent
  split
  · rename_i e1
    assumption
  · first
      | rename_i v2 v3 e4
        have kv2 : Keep s₀ v2 := by
          refine State.grpTake_keep ?_ e4
          · assumption
    refine State.produce_keep ?_
    · assumption

theorem State.ownStart_keep {s₀ : State} {s : State} (h_s : Keep s₀ s) :
    Keep s₀ (State.ownStart s) := by
  unfold State.ownStart
  refine Keep.ite ?_ ?_
  · assumption
  · try dsimp only
    refine Keep.upd ?_
    assumption

theorem State.setToken_keep {s₀ : State} {s : State} {q : Nat} {id : Nat} {claimed : Bool} (h_s : Keep s₀ s) :
    Keep s₀ (State.setToken s q id claimed) := by
  unfold State.setToken
  dsimp only
  refine Keep.ite ?_ ?_
  · refine Keep.ite ?_ ?_
    · refine Keep.upd ?_
      assumption
    · assumption
  · refine Keep.ite ?_ ?_
    · refine Keep.upd ?_
      refine State.pulse_keep ?_
      refine State.satF_keep ?_
      refine Keep.ite ?_ ?_
      · refine Keep.upd ?_
        refine State.setFbit_keep ?_
        refine State.setF_keep ?_
        assumption
      · refine Keep.upd ?_
        refine State.setFbit_keep ?_
        refine State.setF_keep ?_
        assumption
    · refine State.pulse_keep ?_
      refine State.satF_keep ?_
      refine Keep.ite ?_ ?_
      · refine Keep.upd ?_
        refine State.setFbit_keep ?_
        refine State.setF_keep ?_
        assumption
      · refine Keep.upd ?_
        refine State.setFbit_keep ?_
        refine State.setF_keep ?_
        assumption

theorem State.ownEnd_keep {s₀ : State} {s : State} {x : Nat} {y : Nat} (h_s : Keep s₀ s) :
    Keep s₀ (State.ownEnd s x y) := by
  unfold State.ownEnd
  split
  · assumption
  · refine Keep.ite ?_ ?_
    · assumption
    · dsimp only
      refine Keep.ite ?_ ?_
      · refine Keep.foldl ?_ _ ?_
        · intro x1 x2 h3
          refine State.setToken_keep ?_
          assumption
        · refine State.setFlag_keep ?_
          refine Keep.upd ?_
          assumption
      · refine Keep.ite ?_ ?_
        · refine State.pulse_keep ?_
          refine State.setFlag_keep ?_
          refine State.satF_keep ?_
          refine Keep.upd ?_
          assumption
        · refine State.satF_keep ?_
          refine Keep.upd ?_
          assumption

theorem State.grpClaim_keep {s₀ : State} {s : State} {q : Nat} (h_s : Keep s₀ s) :
    Keep s₀ (State.grpClaim s q).1 := by
  unfold State.grpClaim
  refine Keep.ite1 ?_ ?_
  · try dsimp only
    refine Keep.upd ?_
    assumption
  · try dsimp only
    assumption

theorem State.partDust_keep {s₀ : State} {s : State} {q : Nat} (h_s : Keep s₀ s) :
    Keep s₀ (State.partDust s q) := by
  unfold State.partDust
  refine Keep.foldl ?_ _ ?_
  · intro x1 x2 h3
    refine State.tileDust_keep ?_
    assumption
  · assumption

theorem State.partSeq_keep {s₀ : State} {s : State} {q : Nat} (h_s : Keep s₀ s) :
    Keep s₀ (State.partSeq s q) := by
  unfold State.partSeq
  refine Keep.foldl ?_ _ ?_
  · intro s1 x2 h3
    refine Keep.foldl ?_ _ ?_
    · intro s4 x5 h6
      try dsimp only
      refine Keep.ite ?_ ?_
      · try dsimp only
        try dsimp only
        refine State.setRing_keep ?_
        · assumption
      · assumption
    · assumption
  · assumption

theorem State.handOverPart_keep {s₀ : State} {s : State} {q : Nat} {gained : Bool} (h_s : Keep s₀ s) :
    Keep s₀ (State.handOverPart s q gained) := by
  unfold State.handOverPart
  try dsimp only
  refine Keep.ite ?_ ?_
  · try dsimp only
    refine Keep.upd ?_
    refine State.partSeq_keep ?_
    · refine State.setFlag_keep ?_
      · refine Keep.upd ?_
        assumption
  · try dsimp only
    refine Keep.upd ?_
    refine State.partDust_keep ?_
    · refine State.setFlag_keep ?_
      · refine Keep.upd ?_
        assumption

theorem State.partPins_keep {s₀ : State} {s : State} {q : Nat} (h_s : Keep s₀ s) :
    Keep s₀ (State.partPins s q) := by
  unfold State.partPins
  dsimp only
  refine Keep.foldl ?_ _ ?_
  · intro x1 x2 h3
    refine State.tilePins_keep ?_
    assumption
  · refine Keep.upd ?_
    assumption

theorem State.groupTick_keep {s₀ : State} {s : State} (h_s : Keep s₀ s) :
    Keep s₀ (State.groupTick s) := by
  unfold State.groupTick
  refine Keep.foldl ?_ _ ?_
  · intro s1 x2 h3
    refine Keep.ite ?_ ?_
    · refine State.partPins_keep ?_
      · assumption
    · assumption
  · assumption

theorem State.mirrorReceive_keep {s₀ : State} {s : State} {k : Nat} {seq : Nat} {q : Nat} {period : Nat} {ws : List Sys2Proof.MirW} (h_s : Keep s₀ s) :
    Keep s₀ (State.mirrorReceive s k seq q period ws) := by
  unfold State.mirrorReceive
  split
  · rename_i e1
    assumption
  · first
      | rename_i v2 v3 e4
        have kv2 : Keep s₀ v2 := by
          refine State.grpTake_keep ?_ e4
          · assumption
    try dsimp only
    refine Keep.ite ?_ ?_
    · refine Keep.ite ?_ ?_
      · refine Keep.foldl ?_ _ ?_
        · intro s5 x6 h7
          try dsimp only
          refine Keep.upd ?_
          refine State.setFbit_keep ?_
          · assumption
        · assumption
      · assumption
    · try dsimp only
      try dsimp only
      refine Keep.foldl ?_ _ ?_
      · intro s8 x9 h10
        try dsimp only
        refine Keep.ite ?_ ?_
        · assumption
        · refine Keep.ite ?_ ?_
          · refine Keep.upd ?_
            assumption
          · refine State.applyCore_keep ?_
            · assumption
      · refine Keep.ite ?_ ?_
        · refine State.setFbit_keep ?_
          · refine Keep.upd ?_
            refine Keep.ite ?_ ?_
            · refine Keep.foldl ?_ _ ?_
              · intro s11 x12 h13
                try dsimp only
                refine Keep.upd ?_
                refine State.setFbit_keep ?_
                · assumption
              · assumption
            · assumption
        · refine Keep.upd ?_
          refine Keep.ite ?_ ?_
          · refine Keep.foldl ?_ _ ?_
            · intro s14 x15 h16
              try dsimp only
              refine Keep.upd ?_
              refine State.setFbit_keep ?_
              · assumption
            · assumption
          · assumption

theorem State.mirrorDue_keep {s₀ : State} {s : State} {t : Nat} {g : Nat} (h_s : Keep s₀ s) :
    Keep s₀ (State.mirrorDue s t g) := by
  unfold State.mirrorDue
  try dsimp only
  refine Keep.foldl ?_ _ ?_
  · intro s1 x2 h3
    refine State.takeCore_keep ?_
    · assumption
  · refine Keep.upd ?_
    assumption

theorem State.mirrorSend_keep {s₀ : State} {s : State} {q : Nat} (h_s : Keep s₀ s) :
    Keep s₀ (State.mirrorSend s q) := by
  unfold State.mirrorSend
  refine Keep.ite ?_ ?_
  · assumption
  · dsimp only
    refine State.grpSendAll_keep ?_
    refine Keep.upd ?_
    assumption

theorem State.commitEnd_keep {s₀ : State} {s : State} {phase : Nat} {cause : Nat} (h_s : Keep s₀ s) :
    Keep s₀ (State.commitEnd s phase cause) := by
  unfold State.commitEnd
  refine State.pulse_keep ?_
  · refine State.setF_keep ?_
    · refine State.setF_keep ?_
      · refine Keep.upd ?_
        assumption

theorem State.groupBoundary_keep {s₀ : State} {s : State} {q : Nat} (h_s : Keep s₀ s) :
    Keep s₀ (State.groupBoundary s q) := by
  unfold State.groupBoundary
  try dsimp only
  refine State.mirrorSend_keep ?_
  · split
    · refine State.agree_keep ?_
      · refine State.setActive_keep ?_
        · refine Keep.upd ?_
          split
          · refine Keep.ite ?_ ?_
            · refine State.grpJournal_keep ?_
              · refine State.commitEnd_keep ?_
                · refine State.agree_keep ?_
                  · refine State.setActive_keep ?_
                    · assumption
            · assumption
          · assumption
    · split
      · refine Keep.ite ?_ ?_
        · refine State.grpJournal_keep ?_
          · refine State.commitEnd_keep ?_
            · refine State.agree_keep ?_
              · refine State.setActive_keep ?_
                · assumption
        · assumption
      · assumption

theorem State.groupReload_keep {s₀ : State} {s : State} {t : Nat} {g : Nat} (h_s : Keep s₀ s) :
    Keep s₀ (State.groupReload s t g) := by
  unfold State.groupReload
  try dsimp only
  refine Keep.ite ?_ ?_
  · assumption
  · try dsimp only
    try dsimp only
    refine Keep.foldl ?_ _ ?_
    · intro s1 x2 h3
      refine Keep.ite ?_ ?_
      · refine State.groupBoundary_keep ?_
        · assumption
      · assumption
    · refine State.mirrorDue_keep ?_
      · refine Keep.foldl ?_ _ ?_
        · intro s4 x5 h6
          try dsimp only
          refine Keep.ite ?_ ?_
          · refine State.handOverPart_keep ?_
            · assumption
          · assumption
        · assumption

theorem State.configTransfer_keep {s₀ : State} {s : State} {k : Nat} {seq : Nat} {epoch : Nat} {ws : List Nat} (h_s : Keep s₀ s) :
    Keep s₀ (State.configTransfer s k seq epoch ws) := by
  unfold State.configTransfer
  split
  · rename_i e1
    assumption
  · first
      | rename_i v2 v3 e4
        have kv2 : Keep s₀ v2 := by
          refine State.grpTake_keep ?_ e4
          · assumption
    refine Keep.ite ?_ ?_
    · assumption
    · refine Keep.ite ?_ ?_
      · refine Keep.upd ?_
        assumption
      · refine State.agree_keep ?_
        · refine State.setActive_keep ?_
          · assumption

theorem State.restoreSet_keep {s₀ : State} {s : State} (h_s : Keep s₀ s) :
    Keep s₀ (State.restoreSet s) := by
  unfold State.restoreSet
  dsimp only
  refine Keep.upd ?_
  refine State.digestBad_keep ?_
  assumption

theorem State.calmPeriod_keep {s₀ : State} {s : State} (h_s : Keep s₀ s) :
    Keep s₀ (State.calmPeriod s) := by
  unfold State.calmPeriod
  try dsimp only
  refine Keep.ite ?_ ?_
  · refine State.pulse_keep ?_
    · refine State.setFlag_keep ?_
      · refine Keep.upd ?_
        assumption
  · refine Keep.upd ?_
    assumption

theorem State.digestCheck_keep {s₀ : State} {s : State} (h_s : Keep s₀ s) :
    Keep s₀ (State.digestCheck s) := by
  unfold State.digestCheck
  refine Keep.ite ?_ ?_
  · assumption
  · dsimp only
    refine Keep.ite ?_ ?_
    · refine State.grpSendAll_keep ?_
      assumption
    · refine Keep.ite ?_ ?_
      · refine State.restoreSet_keep ?_
        refine State.grpSendAll_keep ?_
        assumption
      · refine State.calmPeriod_keep ?_
        refine State.grpSendAll_keep ?_
        assumption

theorem State.configReceive_keep {s₀ : State} {s : State} {k : Nat} {seq : Nat} {epoch : Nat} {digest : List Byte} (h_s : Keep s₀ s) :
    Keep s₀ (State.configReceive s k seq epoch digest) := by
  unfold State.configReceive
  split
  · assumption
  · rename_i v1 v2 v3 e4
    have kv2 : Keep s₀ v2 := by
      refine State.grpTake_keep ?_ e4
      assumption
    dsimp only
    refine Keep.ite ?_ ?_
    · refine State.setPeer_keep ?_
      assumption
    · refine Keep.ite ?_ ?_
      · refine State.digestBad_keep ?_
        refine State.setPeer_keep ?_
        assumption
      · split
        · refine Keep.ite ?_ ?_
          · refine Keep.upd ?_
            refine State.setPeer_keep ?_
            assumption
          · refine State.setPeer_keep ?_
            assumption
        · refine State.setPeer_keep ?_
          assumption

theorem State.propose_keep {s₀ : State} {s : State} (h_s : Keep s₀ s) :
    Keep s₀ (State.propose s).1 := by
  unfold State.propose
  try dsimp only
  refine Keep.ite1 ?_ ?_
  · try dsimp only
    assumption
  · refine Keep.ite1 ?_ ?_
    · try dsimp only
      assumption
    · refine Keep.ite1 ?_ ?_
      · try dsimp only
        assumption
      · try dsimp only
        try dsimp only
        refine State.grpSendAll_keep ?_
        · refine State.setF_keep ?_
          · refine State.setF_keep ?_
            · refine State.setF_keep ?_
              · refine Keep.upd ?_
                assumption

theorem State.prepareReceive_keep {s₀ : State} {s : State} {k : Nat} {seq : Nat} {epoch : Nat} {digest : List Byte} {p : Nat} (h_s : Keep s₀ s) :
    Keep s₀ (State.prepareReceive s k seq epoch digest p) := by
  unfold State.prepareReceive
  split
  · assumption
  · rename_i v1 v2 v3 e4
    have kv2 : Keep s₀ v2 := by
      refine State.grpTake_keep ?_ e4
      assumption
    refine Keep.ite ?_ ?_
    · dsimp only
      refine State.grpSend_keep ?_
      refine State.setF_keep ?_
      refine State.setF_keep ?_
      refine Keep.upd ?_
      assumption
    · dsimp only
      refine State.grpSend_keep ?_
      refine Keep.ite ?_ ?_
      · assumption
      · refine Keep.upd ?_
        assumption

theorem State.preparedReceive_keep {s₀ : State} {s : State} {k : Nat} {seq : Nat} {ok : Bool} (h_s : Keep s₀ s) :
    Keep s₀ (State.preparedReceive s k seq ok) := by
  unfold State.preparedReceive
  split
  · rename_i e1
    assumption
  · first
      | rename_i v2 v3 e4
        have kv2 : Keep s₀ v2 := by
          refine State.grpTake_keep ?_ e4
          · assumption
    split
    · refine Keep.ite ?_ ?_
      · try dsimp only
        refine State.setF_keep ?_
        · refine Keep.upd ?_
          assumption
      · assumption
    · assumption

theorem State.decideReceive_keep {s₀ : State} {s : State} {k : Nat} {seq : Nat} {commit : Bool} (h_s : Keep s₀ s) :
    Keep s₀ (State.decideReceive s k seq commit) := by
  unfold State.decideReceive
  split
  · assumption
  · rename_i v1 v2 v3 e4
    have kv2 : Keep s₀ v2 := by
      refine State.grpTake_keep ?_ e4
      assumption
    split
    · refine Keep.ite ?_ ?_
      · assumption
      · refine Keep.ite ?_ ?_
        · refine Keep.upd ?_
          assumption
        · refine Keep.ite ?_ ?_
          · refine State.setF_keep ?_
            refine Keep.upd ?_
            assumption
          · refine State.commitEnd_keep ?_
            assumption
    · assumption

theorem State.commitDeadline_keep {s₀ : State} {s : State} (h_s : Keep s₀ s) :
    Keep s₀ (State.commitDeadline s) := by
  unfold State.commitDeadline
  split
  · assumption
  · dsimp only
    refine Keep.ite ?_ ?_
    · assumption
    · refine Keep.ite ?_ ?_
      · refine Keep.ite ?_ ?_
        · assumption
        · refine Keep.ite ?_ ?_
          · refine State.grpSendAll_keep ?_
            refine State.setF_keep ?_
            refine Keep.upd ?_
            assumption
          · refine State.commitEnd_keep ?_
            refine State.grpSendAll_keep ?_
            assumption
      · refine Keep.ite ?_ ?_
        · refine Keep.ite ?_ ?_
          · refine Keep.upd ?_
            assumption
          · refine State.commitEnd_keep ?_
            assumption
        · assumption

theorem State.grpFired_keep {s₀ : State} {s : State} (h_s : Keep s₀ s) :
    Keep s₀ (State.grpFired s) := by
  unfold State.grpFired
  try dsimp only
  refine State.agree_keep ?_
  · refine Keep.foldl ?_ _ ?_
    · intro s1 x2 h3
      try dsimp only
      refine State.setFlag_keep ?_
      · refine State.setF_keep ?_
        · assumption
    · assumption

end Sys2Proof.Machine
end

