-- ==== Sys2Proof/Laws/KeepDbgRegs.lean ====
section
/-! SUPPORT. Laws/KeepDbgRegs.lean: every operation of Machine/DbgRegs.lean keeps what Laws/Keep.lean says. -/

namespace Sys2Proof.Machine

theorem State.dbgSet_keep {s₀ : State} {s : State} {p : Nat} {i : Nat} {v : Nat} (h_s : Keep s₀ s) :
    Keep s₀ (State.dbgSet s p i v).1 := by
  unfold State.dbgSet
  refine Keep.ite1 ?_ ?_
  · try dsimp only
    assumption
  · refine Keep.ite1 ?_ ?_
    · try dsimp only
      assumption
    · try dsimp only
      try dsimp only
      refine State.setPair_keep ?_
      · assumption

end Sys2Proof.Machine
end

