-- ==== Sys2Proof/Laws/KeepBusRead.lean ====
section
/-! SUPPORT. Laws/KeepBusRead.lean: every operation of Machine/BusRead.lean keeps what Laws/Keep.lean says. -/

namespace Sys2Proof.Machine

theorem State.pageSync_keep {s₀ : State} {s : State} {p : Page} {off : Nat} (h_s : Keep s₀ s) :
    Keep s₀ (State.pageSync s p off) := by
  unfold State.pageSync
  split
  · refine Keep.ite ?_ ?_
    · refine State.ledSync_keep ?_
      assumption
    · assumption
  · refine Keep.ite ?_ ?_
    · refine State.ledSyncArm_keep ?_
      assumption
    · assumption
  · refine Keep.ite ?_ ?_
    · refine Keep.foldl ?_ _ ?_
      · intro x1 x2 h3
        refine State.capSettle_keep ?_
        assumption
      · assumption
    · assumption
  · assumption

theorem State.clearRC_keep {s₀ : State} {s : State} {base : Nat} {f : Fld} (h_s : Keep s₀ s) :
    Keep s₀ (State.clearRC s base f) := by
  unfold State.clearRC
  dsimp only
  refine Keep.ite ?_ ?_
  · refine State.setF_keep ?_
    assumption
  · refine Keep.upd ?_
    refine State.setF_keep ?_
    assumption

theorem State.clearRead_keep {s₀ : State} {s : State} {p : Page} {off : Nat} (h_s : Keep s₀ s) :
    Keep s₀ (State.clearRead s p off) := by
  unfold State.clearRead
  refine Keep.foldl ?_ _ ?_
  · intro x1 x2 h3
    refine Keep.ite ?_ ?_
    · refine State.clearRC_keep ?_
      assumption
    · assumption
  · assumption

theorem State.latch_keep {s₀ : State} {s : State} {p : Page} {req : Nat} {x : Slot} {v : Nat} (h_s : Keep s₀ s) :
    Keep s₀ (State.latch s p req x v) := by
  unfold State.latch
  refine Keep.upd ?_
  assumption

theorem State.readEffect_keep {s₀ : State} {s : State} {p : Page} {off : Nat} {size : Nat} {req : Nat} (h_s : Keep s₀ s) :
    Keep s₀ (State.readEffect s p off size req).1 := by
  unfold State.readEffect
  try dsimp only
  try dsimp only
  try dsimp only
  refine Keep.ite1 ?_ ?_
  · try dsimp only
    assumption
  · split
    · refine Keep.ite1 ?_ ?_
      · try dsimp only
        refine State.readRes_keep ?_
        · assumption
      · refine Keep.ite1 ?_ ?_
        · try dsimp only
          refine State.readRes_keep ?_
          · assumption
        · try dsimp only
          refine Keep.foldl ?_ _ ?_
          · intro s1 x2 h3
            refine State.clearRead_keep ?_
            · assumption
          · refine State.pageSync_keep ?_
            · assumption
    · refine Keep.ite1 ?_ ?_
      · try dsimp only
        refine State.capPop_keep ?_
        · split
          · refine Keep.ite ?_ ?_
            · refine State.latch_keep ?_
              · refine Keep.foldl ?_ _ ?_
                · intro s4 x5 h6
                  refine State.clearRead_keep ?_
                  · assumption
                · refine State.pageSync_keep ?_
                  · assumption
            · refine Keep.foldl ?_ _ ?_
              · intro s7 x8 h9
                refine State.clearRead_keep ?_
                · assumption
              · refine State.pageSync_keep ?_
                · assumption
          · refine Keep.foldl ?_ _ ?_
            · intro s10 x11 h12
              refine State.clearRead_keep ?_
              · assumption
            · refine State.pageSync_keep ?_
              · assumption
      · try dsimp only
        split
        · refine Keep.ite ?_ ?_
          · refine State.latch_keep ?_
            · refine Keep.foldl ?_ _ ?_
              · intro s13 x14 h15
                refine State.clearRead_keep ?_
                · assumption
              · refine State.pageSync_keep ?_
                · assumption
          · refine Keep.foldl ?_ _ ?_
            · intro s16 x17 h18
              refine State.clearRead_keep ?_
              · assumption
            · refine State.pageSync_keep ?_
              · assumption
        · refine Keep.foldl ?_ _ ?_
          · intro s19 x20 h21
            refine State.clearRead_keep ?_
            · assumption
          · refine State.pageSync_keep ?_
            · assumption
    · refine Keep.ite1 ?_ ?_
      · try dsimp only
        refine State.popRsp_keep ?_
        · split
          · refine Keep.ite ?_ ?_
            · refine State.latch_keep ?_
              · refine Keep.foldl ?_ _ ?_
                · intro s22 x23 h24
                  refine State.clearRead_keep ?_
                  · assumption
                · refine State.pageSync_keep ?_
                  · assumption
            · refine Keep.foldl ?_ _ ?_
              · intro s25 x26 h27
                refine State.clearRead_keep ?_
                · assumption
              · refine State.pageSync_keep ?_
                · assumption
          · refine Keep.foldl ?_ _ ?_
            · intro s28 x29 h30
              refine State.clearRead_keep ?_
              · assumption
            · refine State.pageSync_keep ?_
              · assumption
      · try dsimp only
        split
        · refine Keep.ite ?_ ?_
          · refine State.latch_keep ?_
            · refine Keep.foldl ?_ _ ?_
              · intro s31 x32 h33
                refine State.clearRead_keep ?_
                · assumption
              · refine State.pageSync_keep ?_
                · assumption
          · refine Keep.foldl ?_ _ ?_
            · intro s34 x35 h36
              refine State.clearRead_keep ?_
              · assumption
            · refine State.pageSync_keep ?_
              · assumption
        · refine Keep.foldl ?_ _ ?_
          · intro s37 x38 h39
            refine State.clearRead_keep ?_
            · assumption
          · refine State.pageSync_keep ?_
            · assumption
    · refine Keep.ite1 ?_ ?_
      · try dsimp only
        try dsimp only
        refine State.dintcClaim_keep ?_
        · assumption
      · try dsimp only
        refine Keep.foldl ?_ _ ?_
        · intro s40 x41 h42
          refine State.clearRead_keep ?_
          · assumption
        · refine State.pageSync_keep ?_
          · assumption
    · refine Keep.ite1 ?_ ?_
      · refine Keep.foldl1 ?_ _ ?_
        · intro s43 x44 h45
          try dsimp only
          try dsimp only
          refine State.acquire_keep ?_
          · assumption
        · try dsimp only
          assumption
      · refine Keep.ite1 ?_ ?_
        · try dsimp only
          refine Keep.foldl ?_ _ ?_
          · intro s46 x47 h48
            refine Keep.ite ?_ ?_
            · refine State.setFlag_keep ?_
              · assumption
            · assumption
          · refine Keep.foldl ?_ _ ?_
            · intro s49 x50 h51
              refine State.clearRead_keep ?_
              · assumption
            · refine State.pageSync_keep ?_
              · assumption
        · try dsimp only
          refine Keep.foldl ?_ _ ?_
          · intro s52 x53 h54
            refine State.clearRead_keep ?_
            · assumption
          · refine State.pageSync_keep ?_
            · assumption
    · refine Keep.ite1 ?_ ?_
      · try dsimp only
        try dsimp only
        refine State.queuePop_keep ?_
        · assumption
      · try dsimp only
        refine Keep.foldl ?_ _ ?_
        · intro s55 x56 h57
          refine State.clearRead_keep ?_
          · assumption
        · refine State.pageSync_keep ?_
          · assumption
    · refine Keep.ite1 ?_ ?_
      · try dsimp only
        refine Keep.updFree ?_
        refine Keep.foldl ?_ _ ?_
        · intro s58 x59 h60
          refine State.clearRead_keep ?_
          · assumption
        · refine State.pageSync_keep ?_
          · assumption
      · refine Keep.ite1 ?_ ?_
        · try dsimp only
          refine State.setF_keep ?_
          · refine Keep.foldl ?_ _ ?_
            · intro s61 x62 h63
              refine State.clearRead_keep ?_
              · assumption
            · refine State.pageSync_keep ?_
              · assumption
        · try dsimp only
          split
          · refine Keep.ite ?_ ?_
            · refine State.latch_keep ?_
              · refine Keep.foldl ?_ _ ?_
                · intro s64 x65 h66
                  refine State.clearRead_keep ?_
                  · assumption
                · refine State.pageSync_keep ?_
                  · assumption
            · refine Keep.foldl ?_ _ ?_
              · intro s67 x68 h69
                refine State.clearRead_keep ?_
                · assumption
              · refine State.pageSync_keep ?_
                · assumption
          · refine Keep.foldl ?_ _ ?_
            · intro s70 x71 h72
              refine State.clearRead_keep ?_
              · assumption
            · refine State.pageSync_keep ?_
              · assumption
    · refine Keep.ite1 ?_ ?_
      · try dsimp only
        refine Keep.foldl ?_ _ ?_
        · intro s73 x74 h75
          refine State.clearRead_keep ?_
          · assumption
        · refine State.pageSync_keep ?_
          · assumption
      · try dsimp only
        split
        · refine Keep.ite ?_ ?_
          · refine State.latch_keep ?_
            · refine Keep.foldl ?_ _ ?_
              · intro s76 x77 h78
                refine State.clearRead_keep ?_
                · assumption
              · refine State.pageSync_keep ?_
                · assumption
          · refine Keep.foldl ?_ _ ?_
            · intro s79 x80 h81
              refine State.clearRead_keep ?_
              · assumption
            · refine State.pageSync_keep ?_
              · assumption
        · refine Keep.foldl ?_ _ ?_
          · intro s82 x83 h84
            refine State.clearRead_keep ?_
            · assumption
          · refine State.pageSync_keep ?_
            · assumption
    · try dsimp only
      split
      · refine Keep.ite ?_ ?_
        · refine State.latch_keep ?_
          · refine Keep.foldl ?_ _ ?_
            · intro s85 x86 h87
              refine State.clearRead_keep ?_
              · assumption
            · refine State.pageSync_keep ?_
              · assumption
        · refine Keep.foldl ?_ _ ?_
          · intro s88 x89 h90
            refine State.clearRead_keep ?_
            · assumption
          · refine State.pageSync_keep ?_
            · assumption
      · refine Keep.foldl ?_ _ ?_
        · intro s91 x92 h93
          refine State.clearRead_keep ?_
          · assumption
        · refine State.pageSync_keep ?_
          · assumption

end Sys2Proof.Machine
end

