-- ==== Sys2Proof/Laws/KeepBusWrite.lean ====
section
/-! SUPPORT. Laws/KeepBusWrite.lean: every operation of Machine/BusWrite.lean keeps what Laws/Keep.lean says. -/

namespace Sys2Proof.Machine

theorem andThen_keep {s₀ : State} {a : State × Nat} {f : State → State × Nat} (h_a : Keep s₀ a.1) (h_f : ∀ z0, Keep s₀ z0 → Keep s₀ (f z0).1) :
    Keep s₀ (andThen a f).1 := by
  unfold andThen
  try dsimp only
  apply h_f
  · assumption

theorem Wr.act_keep {s₀ : State} {w : Wr} {s : State} {f : State → State × Nat} (h_s : Keep s₀ s) (h_f : ∀ z0, Keep s₀ z0 → Keep s₀ (f z0).1) :
    Keep s₀ (Wr.act w s f).1 := by
  unfold Wr.act
  refine Keep.ite1 ?_ ?_
  · apply h_f
    · assumption
  · try dsimp only
    assumption

theorem State.putWord_keep {s₀ : State} {s : State} {p : Page} {w : Wr} {off : Nat} {v : Nat} {skip : List Fld} {bad : List Fld} (h_s : Keep s₀ s) :
    Keep s₀ (State.putWord s p w off v skip bad).1 := by
  unfold State.putWord
  refine Keep.foldl1 ?_ _ ?_
  · intro x1 x2 h3
    dsimp only
    refine Keep.ite1 ?_ ?_
    · assumption
    · split
      · refine Keep.ite1 ?_ ?_
        · dsimp only
          assumption
        · dsimp only
          refine State.softSlot_keep ?_
          assumption
      · refine Keep.ite1 ?_ ?_
        · assumption
        · refine Keep.ite1 ?_ ?_
          · dsimp only
            assumption
          · refine Keep.ite1 ?_ ?_
            · dsimp only
              assumption
            · dsimp only
              refine State.softSlot_keep ?_
              assumption
      · dsimp only
        refine State.setSlot_keep ?_
        assumption
      · assumption
  · dsimp only
    assumption

theorem State.put_keep {s₀ : State} {s : State} {p : Page} {w : Wr} {off : Nat} {skip : List Fld} {bad : List Fld} (h_s : Keep s₀ s) :
    Keep s₀ (State.put s p w off skip bad).1 := by
  unfold State.put
  refine Keep.ite1 ?_ ?_
  · refine andThen_keep ?_ ?_
    · refine State.putWord_keep ?_
      · assumption
    · intro x1 h2
      refine State.putWord_keep ?_
      · assumption
  · refine State.putWord_keep ?_
    · assumption

theorem State.halves_keep {s₀ : State} {s : State} {p : Page} {w : Wr} {off : Nat} {f : Fld} (h_s : Keep s₀ s) :
    Keep s₀ (State.halves s p w off f).1 := by
  unfold State.halves
  try dsimp only
  refine Keep.ite1 ?_ ?_
  · try dsimp only
    refine Keep.upd ?_
    assumption
  · refine Keep.ite1 ?_ ?_
    · try dsimp only
      refine Keep.upd ?_
      assumption
    · try dsimp only
      refine Keep.upd ?_
      assumption

theorem State.putHalves_keep {s₀ : State} {s : State} {p : Page} {w : Wr} {off : Nat} {f : Fld} (h_s : Keep s₀ s) :
    Keep s₀ (State.putHalves s p w off f).1 := by
  unfold State.putHalves
  dsimp only
  refine Keep.ite1 ?_ ?_
  · refine Keep.ite1 ?_ ?_
    · dsimp only
      refine State.halves_keep ?_
      assumption
    · dsimp only
      assumption
  · split
    · dsimp only
      refine Keep.ite ?_ ?_
      · refine State.halves_keep ?_
        assumption
      · refine State.setF_keep ?_
        refine State.noteSoft_keep ?_
        refine State.halves_keep ?_
        assumption
    · dsimp only
      refine State.halves_keep ?_
      assumption

theorem State.wTBAS_keep {s₀ : State} {s : State} {p : Page} {off : Nat} {w : Wr} (h_s : Keep s₀ s) :
    Keep s₀ (State.wTBAS s p off w).1 := by
  unfold State.wTBAS
  refine Keep.ite1 ?_ ?_
  · refine Keep.ite1 ?_ ?_
    · dsimp only
      assumption
    · refine State.put_keep ?_
      assumption
  · refine Keep.ite1 ?_ ?_
    · refine Keep.ite1 ?_ ?_
      · dsimp only
        assumption
      · refine State.put_keep ?_
        assumption
    · refine Keep.ite1 ?_ ?_
      · dsimp only
        refine Keep.ite1 ?_ ?_
        · dsimp only
          refine State.put_keep ?_
          refine State.slewSync_keep ?_
          assumption
        · dsimp only
          refine State.slewStart_keep ?_
          refine State.put_keep ?_
          refine State.slewSync_keep ?_
          assumption
      · refine Keep.ite1 ?_ ?_
        · refine State.put_keep ?_
          assumption
        · refine Keep.ite1 ?_ ?_
          · refine Keep.ite1 ?_ ?_
            · dsimp only
              refine State.setFlag_keep ?_
              assumption
            · dsimp only
              refine State.timersStepped_keep ?_
              refine Keep.upd ?_
              assumption
          · refine State.put_keep ?_
            assumption

theorem State.wdStage2_keep {s₀ : State} {s : State} {t : Nat} (h_s : Keep s₀ s) :
    Keep s₀ (State.wdStage2 s t) := by
  unfold State.wdStage2
  refine Keep.ite ?_ ?_
  · refine State.wantTakeover_keep ?_
    · refine State.setF_keep ?_
      · assumption
  · refine State.keeperReset_keep ?_
    · assumption

theorem State.wWDOG_keep {s₀ : State} {s : State} {p : Page} {t : Nat} {o : Nat} {w : Wr} (h_s : Keep s₀ s) :
    Keep s₀ (State.wWDOG s p t o w).1 := by
  unfold State.wWDOG
  try dsimp only
  refine Keep.ite1 ?_ ?_
  · try dsimp only
    refine Keep.ite1 ?_ ?_
    · try dsimp only
      assumption
    · refine Wr.act_keep ?_ ?_
      · assumption
      · intro x1 h2
        refine Keep.ite1 ?_ ?_
        · try dsimp only
          assumption
        · try dsimp only
          refine State.wdEnable_keep ?_
          · assumption
  · refine Keep.ite1 ?_ ?_
    · refine Keep.ite1 ?_ ?_
      · try dsimp only
        assumption
      · refine Wr.act_keep ?_ ?_
        · assumption
        · intro x3 h4
          refine State.wdSetTimeout_keep ?_
          · assumption
    · refine Keep.ite1 ?_ ?_
      · refine State.put_keep ?_
        · assumption
      · refine Keep.ite1 ?_ ?_
        · try dsimp only
          try dsimp only
          refine Keep.ite1 ?_ ?_
          · try dsimp only
            refine State.wdStage2_keep ?_
            · refine State.put_keep ?_
              · assumption
          · refine State.put_keep ?_
            · assumption
        · refine Keep.ite1 ?_ ?_
          · try dsimp only
            refine State.wdService_keep ?_
            · assumption
          · refine State.put_keep ?_
            · assumption

theorem State.wKEEP_keep {s₀ : State} {s : State} {p : Page} {off : Nat} {w : Wr} (h_s : Keep s₀ s) :
    Keep s₀ (State.wKEEP s p off w).1 := by
  unfold State.wKEEP
  refine Keep.ite1 ?_ ?_
  · refine Wr.act_keep ?_ ?_
    · assumption
    · intro x1 h2
      refine State.keepStart_keep ?_
      · assumption
  · refine Keep.ite1 ?_ ?_
    · refine State.wWDOG_keep ?_
      · assumption
    · refine State.put_keep ?_
      · assumption

theorem State.wDROLE_keep {s₀ : State} {s : State} {p : Page} {off : Nat} {w : Wr} (h_s : Keep s₀ s) :
    Keep s₀ (State.wDROLE s p off w).1 := by
  unfold State.wDROLE
  refine Keep.ite1 ?_ ?_
  · dsimp only
    refine State.put_keep ?_
    assumption
  · refine Keep.ite1 ?_ ?_
    · refine andThen_keep ?_ ?_
      · refine State.put_keep ?_
        assumption
      · intro x1 h2
        refine Keep.ite1 ?_ ?_
        · refine Wr.act_keep ?_ ?_
          · assumption
          · intro x3 h4
            refine State.takeoverCommand_keep ?_
            assumption
        · dsimp only
          assumption
    · refine Keep.ite1 ?_ ?_
      · refine andThen_keep ?_ ?_
        · refine State.put_keep ?_
          assumption
        · intro x5 h6
          refine Keep.ite1 ?_ ?_
          · refine Wr.act_keep ?_ ?_
            · assumption
            · intro x7 h8
              refine Keep.ite1 ?_ ?_
              · dsimp only
                assumption
              · dsimp only
                refine State.setFlag_keep ?_
                assumption
          · dsimp only
            assumption
      · refine Keep.ite1 ?_ ?_
        · refine andThen_keep ?_ ?_
          · refine State.put_keep ?_
            assumption
          · intro x9 h10
            split
            · dsimp only
              refine State.refireStage_keep ?_
              assumption
            · dsimp only
              refine State.refireSwitch_keep ?_
              assumption
            · dsimp only
              refine State.refireAbort_keep ?_
              assumption
            · dsimp only
              assumption
        · refine Keep.ite1 ?_ ?_
          · refine State.putHalves_keep ?_
            assumption
          · refine Keep.ite1 ?_ ?_
            · dsimp only
              refine State.put_keep ?_
              refine State.larmHold_keep ?_
              assumption
            · refine State.put_keep ?_
              assumption

theorem State.wKEEL_keep {s₀ : State} {s : State} {p : Page} {off : Nat} {w : Wr} (h_s : Keep s₀ s) :
    Keep s₀ (State.wKEEL s p off w).1 := by
  unfold State.wKEEL
  refine Keep.ite1 ?_ ?_
  · refine State.put_keep ?_
    · assumption
  · refine Keep.ite1 ?_ ?_
    · refine Keep.ite1 ?_ ?_
      · refine Wr.act_keep ?_ ?_
        · assumption
        · intro x1 h2
          refine State.feedCommand_keep ?_
          · assumption
      · try dsimp only
        assumption
    · refine Keep.ite1 ?_ ?_
      · try dsimp only
        try dsimp only
        refine State.put_keep ?_
        · assumption
      · refine State.put_keep ?_
        · assumption

theorem State.wCLKG_keep {s₀ : State} {s : State} {p : Page} {off : Nat} {w : Wr} (h_s : Keep s₀ s) :
    Keep s₀ (State.wCLKG s p off w).1 := by
  unfold State.wCLKG
  refine Keep.ite1 ?_ ?_
  · refine Keep.ite1 ?_ ?_
    · refine State.refCommand_keep ?_
      assumption
    · dsimp only
      assumption
  · refine State.put_keep ?_
    assumption

theorem State.wPWRD_keep {s₀ : State} {s : State} {p : Page} {off : Nat} {w : Wr} (h_s : Keep s₀ s) :
    Keep s₀ (State.wPWRD s p off w).1 := by
  unfold State.wPWRD
  refine Keep.ite1 ?_ ?_
  · refine Keep.ite1 ?_ ?_
    · refine Wr.act_keep ?_ ?_
      · assumption
      · intro x1 h2
        refine State.domainCommand_keep ?_
        · assumption
    · try dsimp only
      assumption
  · refine State.put_keep ?_
    · assumption

theorem State.wRSTC_keep {s₀ : State} {s : State} {p : Page} {off : Nat} {w : Wr} (h_s : Keep s₀ s) :
    Keep s₀ (State.wRSTC s p off w).1 := by
  unfold State.wRSTC
  refine Keep.ite1 ?_ ?_
  · refine Keep.ite1 ?_ ?_
    · refine State.resetCommand_keep ?_
      · assumption
    · try dsimp only
      assumption
  · refine State.put_keep ?_
    · assumption

theorem State.wMEAS_keep {s₀ : State} {s : State} {p : Page} {off : Nat} {w : Wr} (h_s : Keep s₀ s) :
    Keep s₀ (State.wMEAS s p off w).1 := by
  unfold State.wMEAS
  refine Keep.ite1 ?_ ?_
  · try dsimp only
    refine Keep.upd ?_
    assumption
  · refine Keep.ite1 ?_ ?_
    · refine Keep.ite1 ?_ ?_
      · refine State.measExtend_keep ?_
        · assumption
      · try dsimp only
        assumption
    · refine State.put_keep ?_
      · assumption

theorem State.wGRPL_keep {s₀ : State} {s : State} {p : Page} {off : Nat} {w : Wr} (h_s : Keep s₀ s) :
    Keep s₀ (State.wGRPL s p off w).1 := by
  unfold State.wGRPL
  refine Keep.ite1 ?_ ?_
  · try dsimp only
    try dsimp only
    refine Keep.ite1 ?_ ?_
    · refine Keep.ite1 ?_ ?_
      · try dsimp only
        refine State.put_keep ?_
        · assumption
      · refine State.put_keep ?_
        · assumption
    · refine andThen_keep ?_ ?_
      · refine Keep.ite1 ?_ ?_
        · try dsimp only
          refine State.put_keep ?_
          · assumption
        · refine State.put_keep ?_
          · assumption
      · intro x1 h2
        refine Wr.act_keep ?_ ?_
        · assumption
        · intro x3 h4
          try dsimp only
          refine State.grpEnable_keep ?_
          · refine State.setFlag_keep ?_
            · assumption
  · refine Keep.ite1 ?_ ?_
    · refine andThen_keep ?_ ?_
      · refine State.put_keep ?_
        · assumption
      · intro x5 h6
        refine Keep.ite1 ?_ ?_
        · refine Wr.act_keep ?_ ?_
          · assumption
          · intro x7 h8
            refine State.grpClaim_keep ?_
            · assumption
        · try dsimp only
          assumption
    · refine Keep.ite1 ?_ ?_
      · refine Keep.ite1 ?_ ?_
        · refine State.propose_keep ?_
          · assumption
        · try dsimp only
          assumption
      · refine State.put_keep ?_
        · assumption

theorem State.wDBG_keep {s₀ : State} {s : State} {p : Page} {off : Nat} {w : Wr} (h_s : Keep s₀ s) :
    Keep s₀ (State.wDBG s p off w).1 := by
  unfold State.wDBG
  refine State.put_keep ?_
  · assumption

theorem State.wLATH_keep {s₀ : State} {s : State} {p : Page} {off : Nat} {w : Wr} (h_s : Keep s₀ s) :
    Keep s₀ (State.wLATH s p off w).1 := by
  unfold State.wLATH
  try dsimp only
  refine Keep.ite1 ?_ ?_
  · refine Keep.ite1 ?_ ?_
    · refine State.put_keep ?_
      · assumption
    · try dsimp only
      assumption
  · refine Keep.ite1 ?_ ?_
    · refine State.softEvent_keep ?_
      · assumption
    · refine Keep.ite1 ?_ ?_
      · refine State.lathSelect_keep ?_
        · assumption
      · refine Keep.ite1 ?_ ?_
        · try dsimp only
          try dsimp only
          refine Keep.ite ?_ ?_
          · refine State.routeLoad_keep ?_
            · refine Keep.ite1 ?_ ?_
              · refine Wr.act_keep ?_ ?_
                · assumption
                · intro x1 h2
                  try dsimp only
                  refine State.routeCommit_keep ?_
                  · assumption
              · try dsimp only
                assumption
          · refine Keep.ite1 ?_ ?_
            · refine Wr.act_keep ?_ ?_
              · assumption
              · intro x3 h4
                try dsimp only
                refine State.routeCommit_keep ?_
                · assumption
            · try dsimp only
              assumption
        · refine State.put_keep ?_
          · assumption

theorem State.wGPIO_keep {s₀ : State} {s : State} {p : Page} {off : Nat} {w : Wr} (h_s : Keep s₀ s) :
    Keep s₀ (State.wGPIO s p off w).1 := by
  unfold State.wGPIO
  dsimp only
  refine Keep.ite1 ?_ ?_
  · dsimp only
    refine Keep.ite ?_ ?_
    · refine State.put_keep ?_
      assumption
    · refine Keep.upd ?_
      refine State.put_keep ?_
      assumption
  · refine Keep.ite1 ?_ ?_
    · refine andThen_keep ?_ ?_
      · refine State.put_keep ?_
        assumption
      · intro x1 h2
        dsimp only
        refine Keep.ite ?_ ?_
        · assumption
        · refine State.gpioRerun_keep ?_
          assumption
    · refine Keep.ite1 ?_ ?_
      · dsimp only
        refine State.gpioRerun_keep ?_
        refine State.setF_keep ?_
        assumption
      · refine Keep.ite1 ?_ ?_
        · dsimp only
          refine State.gpioRerun_keep ?_
          refine State.setF_keep ?_
          assumption
        · refine State.put_keep ?_
          assumption

theorem State.holdWritten_keep {s₀ : State} {s : State} {p : Page} {key : Nat} {n : Nat} {f : Fld} {units : Nat → Nat} (h_s : Keep s₀ s) :
    Keep s₀ (State.holdWritten s p key n f units) := by
  unfold State.holdWritten
  refine Keep.foldl ?_ _ ?_
  · intro s1 x2 h3
    refine Keep.ite ?_ ?_
    · refine State.endHold_keep ?_
      · assumption
    · assumption
  · assumption

theorem State.wINTC_keep {s₀ : State} {s : State} {p : Page} {off : Nat} {w : Wr} (h_s : Keep s₀ s) :
    Keep s₀ (State.wINTC s p off w).1 := by
  unfold State.wINTC
  try dsimp only
  refine Keep.ite1 ?_ ?_
  · refine State.doorbell_keep ?_
    · assumption
  · refine Keep.ite1 ?_ ?_
    · try dsimp only
      try dsimp only
      refine State.holdWritten_keep ?_
      · refine State.put_keep ?_
        · assumption
    · refine Keep.ite1 ?_ ?_
      · try dsimp only
        try dsimp only
        refine State.setF_keep ?_
        · assumption
      · refine State.put_keep ?_
        · assumption

theorem State.wDINTC_keep {s₀ : State} {s : State} {p : Page} {off : Nat} {w : Wr} (h_s : Keep s₀ s) :
    Keep s₀ (State.wDINTC s p off w).1 := by
  unfold State.wDINTC
  refine Keep.ite1 ?_ ?_
  · refine State.doorbell_keep ?_
    assumption
  · refine Keep.ite1 ?_ ?_
    · dsimp only
      refine State.cascadeWake_keep ?_ ?_
      · refine State.holdWritten_keep ?_
        refine State.put_keep ?_
        assumption
      · assumption
    · dsimp only
      refine State.cascadeWake_keep ?_ ?_
      · refine State.put_keep ?_
        assumption
      · assumption

theorem State.wAFE_keep {s₀ : State} {s : State} {p : Page} {off : Nat} {w : Wr} (h_s : Keep s₀ s) :
    Keep s₀ (State.wAFE s p off w).1 := by
  unfold State.wAFE
  try dsimp only
  refine Keep.ite1 ?_ ?_
  · try dsimp only
    refine Keep.ite1 ?_ ?_
    · try dsimp only
      assumption
    · refine Wr.act_keep ?_ ?_
      · assumption
      · intro x1 h2
        refine Keep.ite1 ?_ ?_
        · try dsimp only
          assumption
        · refine Keep.ite1 ?_ ?_
          · try dsimp only
            assumption
          · try dsimp only
            refine State.refSettle_keep ?_
            · refine State.setF_keep ?_
              · assumption
  · refine Keep.ite1 ?_ ?_
    · try dsimp only
      refine State.put_keep ?_
      · assumption
    · refine State.put_keep ?_
      · assumption

theorem State.wADC_keep {s₀ : State} {s : State} {p : Page} {off : Nat} {w : Wr} (h_s : Keep s₀ s) :
    Keep s₀ (State.wADC s p off w).1 := by
  unfold State.wADC
  try dsimp only
  refine Keep.ite1 ?_ ?_
  · try dsimp only
    try dsimp only
    try dsimp only
    try dsimp only
    try dsimp only
    try dsimp only
    refine Keep.ite1 ?_ ?_
    · try dsimp only
      assumption
    · try dsimp only
      refine Keep.ite ?_ ?_
      · refine State.setF_keep ?_
        · refine State.setF_keep ?_
          · refine State.setFlag_keep ?_
            · assumption
      · refine Keep.ite ?_ ?_
        · refine State.adcDisable_keep ?_
          · refine State.setF_keep ?_
            · refine State.setF_keep ?_
              · refine State.setFlag_keep ?_
                · assumption
        · refine State.adcEnable_keep ?_
          · refine State.setF_keep ?_
            · refine State.setF_keep ?_
              · refine State.setFlag_keep ?_
                · assumption
  · refine Keep.ite1 ?_ ?_
    · refine State.adcStartWrite_keep ?_
      · assumption
    · refine Keep.ite1 ?_ ?_
      · try dsimp only
        refine Keep.ite1 ?_ ?_
        · try dsimp only
          assumption
        · refine State.put_keep ?_
          · assumption
      · refine State.put_keep ?_
        · assumption

theorem State.wCMPR_keep {s₀ : State} {s : State} {p : Page} {off : Nat} {w : Wr} (h_s : Keep s₀ s) :
    Keep s₀ (State.wCMPR s p off w).1 := by
  unfold State.wCMPR
  dsimp only
  refine Keep.ite1 ?_ ?_
  · refine Keep.ite1 ?_ ?_
    · dsimp only
      assumption
    · refine Keep.ite1 ?_ ?_
      · dsimp only
        refine State.sourceLook_keep ?_
        refine State.put_keep ?_
        assumption
      · refine andThen_keep ?_ ?_
        · refine State.put_keep ?_
          assumption
        · intro x1 h2
          refine Wr.act_keep ?_ ?_
          · assumption
          · intro x3 h4
            dsimp only
            refine State.cmpEnable_keep ?_
            refine State.setFlag_keep ?_
            assumption
  · refine Keep.ite1 ?_ ?_
    · dsimp only
      refine State.thrWrite_keep ?_
      assumption
    · refine State.put_keep ?_
      assumption

theorem State.wCAPT_keep {s₀ : State} {s : State} {p : Page} {off : Nat} {w : Wr} (h_s : Keep s₀ s) :
    Keep s₀ (State.wCAPT s p off w).1 := by
  unfold State.wCAPT
  try dsimp only
  refine Keep.ite1 ?_ ?_
  · try dsimp only
    refine Keep.ite1 ?_ ?_
    · try dsimp only
      refine State.capClear_keep ?_
      · refine State.put_keep ?_
        · assumption
    · refine State.put_keep ?_
      · assumption
  · refine State.put_keep ?_
    · assumption

theorem State.wTRIP_keep {s₀ : State} {s : State} {p : Page} {off : Nat} {w : Wr} (h_s : Keep s₀ s) :
    Keep s₀ (State.wTRIP s p off w).1 := by
  unfold State.wTRIP
  refine Keep.ite1 ?_ ?_
  · dsimp only
    refine Keep.ite1 ?_ ?_
    · dsimp only
      assumption
    · refine Keep.ite1 ?_ ?_
      · dsimp only
        refine State.sourceLook_keep ?_
        refine State.put_keep ?_
        assumption
      · refine andThen_keep ?_ ?_
        · refine State.put_keep ?_
          assumption
        · intro x1 h2
          refine Wr.act_keep ?_ ?_
          · assumption
          · intro x3 h4
            dsimp only
            refine Keep.ite ?_ ?_
            · refine State.sourceOff_keep ?_
              refine State.setFlag_keep ?_
              assumption
            · refine State.sourceLook_keep ?_
              refine State.setFlag_keep ?_
              assumption
  · refine State.put_keep ?_
    assumption

theorem State.wLENG_keep {s₀ : State} {s : State} {p : Page} {off : Nat} {w : Wr} (h_s : Keep s₀ s) :
    Keep s₀ (State.wLENG s p off w).1 := by
  unfold State.wLENG
  refine Keep.ite1 ?_ ?_
  · try dsimp only
    refine State.triggerBoth_keep ?_
    · assumption
  · refine Keep.ite1 ?_ ?_
    · try dsimp only
      refine State.sendShared_keep ?_
      · assumption
    · refine State.put_keep ?_
      · assumption

theorem State.wGenCtrl_keep {s₀ : State} {s : State} {p : Page} {t : Nat} {g : Nat} {w : Wr} (h_s : Keep s₀ s) :
    Keep s₀ (State.wGenCtrl s p t g w).1 := by
  unfold State.wGenCtrl
  try dsimp only
  try dsimp only
  try dsimp only
  try dsimp only
  try dsimp only
  refine Keep.ite1 ?_ ?_
  · try dsimp only
    assumption
  · try dsimp only
    try dsimp only
    refine Keep.ite1 ?_ ?_
    · refine andThen_keep ?_ ?_
      · refine Keep.ite1 ?_ ?_
        · refine Wr.act_keep ?_ ?_
          · refine State.ctrlRun_keep ?_
            · refine State.setFlag_keep ?_
              · assumption
          · intro x1 h2
            try dsimp only
            refine State.genArm_keep ?_
            · assumption
        · try dsimp only
          refine Keep.ite ?_ ?_
          · refine State.ctrlRun_keep ?_
            · refine State.setFlag_keep ?_
              · assumption
          · refine State.leavesArm_keep ?_
            · refine State.ctrlRun_keep ?_
              · refine State.setFlag_keep ?_
                · assumption
      · intro x3 h4
        refine Wr.act_keep ?_ ?_
        · assumption
        · intro x5 h6
          try dsimp only
          refine Keep.ite ?_ ?_
          · refine State.setFlag_keep ?_
            · assumption
          · assumption
    · refine Keep.ite1 ?_ ?_
      · refine Wr.act_keep ?_ ?_
        · refine State.ctrlRun_keep ?_
          · refine State.setFlag_keep ?_
            · assumption
        · intro x7 h8
          try dsimp only
          refine State.genArm_keep ?_
          · assumption
      · try dsimp only
        refine Keep.ite ?_ ?_
        · refine State.ctrlRun_keep ?_
          · refine State.setFlag_keep ?_
            · assumption
        · refine State.leavesArm_keep ?_
          · refine State.ctrlRun_keep ?_
            · refine State.setFlag_keep ?_
              · assumption

theorem State.wGenCfg_keep {s₀ : State} {s : State} {p : Page} {t : Nat} {g : Nat} {off : Nat} {w : Wr} (h_s : Keep s₀ s) :
    Keep s₀ (State.wGenCfg s p t g off w).1 := by
  unfold State.wGenCfg
  dsimp only
  refine Keep.ite1 ?_ ?_
  · dsimp only
    assumption
  · refine Keep.ite1 ?_ ?_
    · refine State.put_keep ?_
      assumption
    · dsimp only
      refine State.put_keep ?_
      assumption

theorem State.wGenStill_keep {s₀ : State} {s : State} {p : Page} {t : Nat} {g : Nat} {off : Nat} {w : Wr} (h_s : Keep s₀ s) :
    Keep s₀ (State.wGenStill s p t g off w).1 := by
  unfold State.wGenStill
  try dsimp only
  try dsimp only
  try dsimp only
  refine Keep.ite1 ?_ ?_
  · try dsimp only
    assumption
  · refine Wr.act_keep ?_ ?_
    · assumption
    · intro x1 h2
      try dsimp only
      try dsimp only
      try dsimp only
      refine Keep.ite1 ?_ ?_
      · try dsimp only
        assumption
      · refine Keep.ite1 ?_ ?_
        · try dsimp only
          try dsimp only
          refine State.showBind_keep ?_
          · refine State.put_keep ?_
            · refine State.showBind_keep ?_
              · assumption
        · refine State.put_keep ?_
          · assumption

theorem State.wPWMG_keep {s₀ : State} {s : State} {p : Page} {off : Nat} {w : Wr} (h_s : Keep s₀ s) :
    Keep s₀ (State.wPWMG s p off w).1 := by
  unfold State.wPWMG
  dsimp only
  refine Keep.ite1 ?_ ?_
  · refine State.put_keep ?_
    assumption
  · refine Keep.ite1 ?_ ?_
    · refine Keep.ite1 ?_ ?_
      · refine State.putHalves_keep ?_
        refine Keep.ite ?_ ?_
        · refine State.ledHold_keep ?_
          assumption
        · assumption
      · refine State.put_keep ?_
        refine Keep.ite ?_ ?_
        · refine State.ledHold_keep ?_
          assumption
        · assumption
    · refine Keep.ite1 ?_ ?_
      · refine State.wGenCtrl_keep ?_
        assumption
      · refine Keep.ite1 ?_ ?_
        · refine State.wGenCfg_keep ?_
          assumption
        · refine Keep.ite1 ?_ ?_
          · dsimp only
            refine State.lateWrite_keep ?_
            refine State.put_keep ?_
            assumption
          · refine Keep.ite1 ?_ ?_
            · dsimp only
              refine Keep.ite ?_ ?_
              · refine State.immediateIf_keep ?_
                refine State.immediateIf_keep ?_
                refine State.lateWrite_keep ?_
                refine State.put_keep ?_
                assumption
              · refine State.immediateIf_keep ?_
                refine State.lateWrite_keep ?_
                refine State.put_keep ?_
                assumption
            · refine Keep.ite1 ?_ ?_
              · refine State.wGenStill_keep ?_
                assumption
              · refine Keep.ite1 ?_ ?_
                · refine State.putHalves_keep ?_
                  assumption
                · refine State.put_keep ?_
                  assumption

theorem State.wPKEEP_keep {s₀ : State} {s : State} {p : Page} {off : Nat} {w : Wr} (h_s : Keep s₀ s) :
    Keep s₀ (State.wPKEEP s p off w).1 := by
  unfold State.wPKEEP
  refine Keep.ite1 ?_ ?_
  · try dsimp only
    try dsimp only
    try dsimp only
    refine State.pinShow_keep ?_
    · refine State.put_keep ?_
      · assumption
  · refine State.put_keep ?_
    · assumption

theorem State.wRingCtrl_keep {s₀ : State} {s : State} {p : Page} {r : Nat} {off : Nat} {w : Wr} (h_s : Keep s₀ s) :
    Keep s₀ (State.wRingCtrl s p r off w).1 := by
  unfold State.wRingCtrl
  dsimp only
  refine Keep.ite1 ?_ ?_
  · dsimp only
    refine State.sendEnum_keep ?_
    refine State.setFlag_keep ?_
    refine Keep.ite1 ?_ ?_
    · dsimp only
      refine State.calibrate_keep ?_
      refine Keep.ite1 ?_ ?_
      · dsimp only
        refine Keep.ite1 ?_ ?_
        · dsimp only
          refine State.put_keep ?_
          assumption
        · refine State.put_keep ?_
          assumption
      · refine Keep.ite1 ?_ ?_
        · dsimp only
          refine State.put_keep ?_
          assumption
        · refine State.put_keep ?_
          assumption
    · refine Keep.ite1 ?_ ?_
      · dsimp only
        refine Keep.ite1 ?_ ?_
        · dsimp only
          refine State.put_keep ?_
          assumption
        · refine State.put_keep ?_
          assumption
      · refine Keep.ite1 ?_ ?_
        · dsimp only
          refine State.put_keep ?_
          assumption
        · refine State.put_keep ?_
          assumption
  · refine Keep.ite1 ?_ ?_
    · dsimp only
      refine State.calibrate_keep ?_
      refine Keep.ite1 ?_ ?_
      · dsimp only
        refine Keep.ite1 ?_ ?_
        · dsimp only
          refine State.put_keep ?_
          assumption
        · refine State.put_keep ?_
          assumption
      · refine Keep.ite1 ?_ ?_
        · dsimp only
          refine State.put_keep ?_
          assumption
        · refine State.put_keep ?_
          assumption
    · refine Keep.ite1 ?_ ?_
      · dsimp only
        refine Keep.ite1 ?_ ?_
        · dsimp only
          refine State.put_keep ?_
          assumption
        · refine State.put_keep ?_
          assumption
      · refine Keep.ite1 ?_ ?_
        · dsimp only
          refine State.put_keep ?_
          assumption
        · refine State.put_keep ?_
          assumption

theorem State.wRING_keep {s₀ : State} {s : State} {p : Page} {off : Nat} {w : Wr} (h_s : Keep s₀ s) :
    Keep s₀ (State.wRING s p off w).1 := by
  unfold State.wRING
  try dsimp only
  refine Keep.ite1 ?_ ?_
  · refine State.wRingCtrl_keep ?_
    · assumption
  · refine Keep.ite1 ?_ ?_
    · refine State.put_keep ?_
      · assumption
    · refine Keep.ite1 ?_ ?_
      · refine State.put_keep ?_
        · assumption
      · refine Keep.ite1 ?_ ?_
        · refine State.mreqWrite_keep ?_
          · assumption
        · refine State.put_keep ?_
          · assumption

theorem State.wSERD_keep {s₀ : State} {s : State} {p : Page} {off : Nat} {w : Wr} (h_s : Keep s₀ s) :
    Keep s₀ (State.wSERD s p off w).1 := by
  unfold State.wSERD
  dsimp only
  refine Keep.ite1 ?_ ?_
  · refine Keep.ite1 ?_ ?_
    · dsimp only
      refine State.laneDrop_keep ?_
      refine State.put_keep ?_
      assumption
    · refine Keep.ite1 ?_ ?_
      · dsimp only
        refine Keep.upd ?_
        refine State.put_keep ?_
        assumption
      · refine State.put_keep ?_
        assumption
  · refine State.put_keep ?_
    assumption

theorem State.wFCST_keep {s₀ : State} {s : State} {p : Page} {off : Nat} {w : Wr} (h_s : Keep s₀ s) :
    Keep s₀ (State.wFCST s p off w).1 := by
  unfold State.wFCST
  dsimp only
  refine Keep.ite1 ?_ ?_
  · dsimp only
    refine State.fcstAbort_keep ?_
    refine State.put_keep ?_
    assumption
  · refine Keep.ite1 ?_ ?_
    · refine Keep.ite1 ?_ ?_
      · dsimp only
        refine Keep.ite ?_ ?_
        · refine State.put_keep ?_
          assumption
        · refine State.jobIdle_keep ?_
          refine State.fcstAbort_keep ?_
          refine State.setFlag_keep ?_
          refine State.put_keep ?_
          assumption
      · refine Keep.ite1 ?_ ?_
        · refine Keep.ite1 ?_ ?_
          · dsimp only
            refine State.jobIdle_keep ?_
            refine State.setFlag_keep ?_
            refine State.put_keep ?_
            assumption
          · dsimp only
            refine State.put_keep ?_
            assumption
        · refine State.put_keep ?_
          assumption
    · refine Keep.ite1 ?_ ?_
      · refine Keep.ite1 ?_ ?_
        · dsimp only
          assumption
        · split
          · rename_i v1 v2 v3 e4
            have kv2 : Keep s₀ v2 := by
              rw [show v2 = _ from (congrArg (fun q => q.1) e4).symm]
              refine State.halves_keep ?_
              assumption
            refine Keep.ite1 ?_ ?_
            · dsimp only
              assumption
            · dsimp only
              refine State.setF_keep ?_
              assumption
          · rename_i v5 v6 e7
            have kv6 : Keep s₀ v6 := by
              rw [show v6 = _ from (congrArg (fun q => q.1) e7).symm]
              refine State.halves_keep ?_
              assumption
            dsimp only
            assumption
      · refine Keep.ite1 ?_ ?_
        · dsimp only
          assumption
        · refine State.put_keep ?_
          assumption

theorem State.wKLOG_keep {s₀ : State} {s : State} {p : Page} {off : Nat} {w : Wr} (h_s : Keep s₀ s) :
    Keep s₀ (State.wKLOG s p off w).1 := by
  unfold State.wKLOG
  dsimp only
  refine Keep.ite1 ?_ ?_
  · refine Keep.ite1 ?_ ?_
    · refine Keep.ite1 ?_ ?_
      · refine andThen_keep ?_ ?_
        · refine Keep.ite1 ?_ ?_
          · dsimp only
            refine State.put_keep ?_
            assumption
          · refine State.put_keep ?_
            assumption
        · intro x1 h2
          refine State.klogClear_keep ?_
          assumption
      · refine Keep.ite1 ?_ ?_
        · dsimp only
          refine State.put_keep ?_
          assumption
        · refine State.put_keep ?_
          assumption
    · refine andThen_keep ?_ ?_
      · refine Keep.ite1 ?_ ?_
        · refine andThen_keep ?_ ?_
          · refine Keep.ite1 ?_ ?_
            · dsimp only
              refine State.put_keep ?_
              assumption
            · refine State.put_keep ?_
              assumption
          · intro x3 h4
            refine State.klogClear_keep ?_
            assumption
        · refine Keep.ite1 ?_ ?_
          · dsimp only
            refine State.put_keep ?_
            assumption
          · refine State.put_keep ?_
            assumption
      · intro x5 h6
        refine Wr.act_keep ?_ ?_
        · assumption
        · intro x7 h8
          refine Keep.ite1 ?_ ?_
          · dsimp only
            assumption
          · dsimp only
            refine State.klogEnable_keep ?_
            refine State.setFlag_keep ?_
            assumption
  · refine Keep.ite1 ?_ ?_
    · refine Keep.ite1 ?_ ?_
      · dsimp only
        assumption
      · refine Keep.ite1 ?_ ?_
        · dsimp only
          assumption
        · refine State.putHalves_keep ?_
          assumption
    · refine Keep.ite1 ?_ ?_
      · refine Keep.ite1 ?_ ?_
        · dsimp only
          assumption
        · refine State.put_keep ?_
          assumption
      · refine State.put_keep ?_
        assumption

theorem State.wCORE_keep {s₀ : State} {s : State} {p : Page} {off : Nat} {w : Wr} (h_s : Keep s₀ s) :
    Keep s₀ (State.wCORE s p off w).1 := by
  unfold State.wCORE
  try dsimp only
  refine Keep.ite1 ?_ ?_
  · try dsimp only
    try dsimp only
    refine Keep.ite1 ?_ ?_
    · refine andThen_keep ?_ ?_
      · refine Keep.ite1 ?_ ?_
        · try dsimp only
          assumption
        · refine Wr.act_keep ?_ ?_
          · assumption
          · intro x1 h2
            try dsimp only
            refine State.holdPair_keep ?_
            · refine State.setFlag_keep ?_
              · assumption
      · intro x3 h4
        refine Wr.act_keep ?_ ?_
        · assumption
        · intro x5 h6
          try dsimp only
          refine State.satF_keep ?_
          · refine State.resetPair_keep ?_
            · assumption
    · refine Keep.ite1 ?_ ?_
      · try dsimp only
        assumption
      · refine Wr.act_keep ?_ ?_
        · assumption
        · intro x7 h8
          try dsimp only
          refine State.holdPair_keep ?_
          · refine State.setFlag_keep ?_
            · assumption
  · refine Keep.ite1 ?_ ?_
    · try dsimp only
      try dsimp only
      refine Keep.ite ?_ ?_
      · refine State.debugStep_keep ?_
        · refine Keep.ite ?_ ?_
          · refine State.debugResume_keep ?_
            · refine Keep.ite ?_ ?_
              · refine State.setFlag_keep ?_
                · refine State.put_keep ?_
                  · assumption
              · refine State.put_keep ?_
                · assumption
          · refine Keep.ite ?_ ?_
            · refine State.setFlag_keep ?_
              · refine State.put_keep ?_
                · assumption
            · refine State.put_keep ?_
              · assumption
      · refine Keep.ite ?_ ?_
        · refine State.debugResume_keep ?_
          · refine Keep.ite ?_ ?_
            · refine State.setFlag_keep ?_
              · refine State.put_keep ?_
                · assumption
            · refine State.put_keep ?_
              · assumption
        · refine Keep.ite ?_ ?_
          · refine State.setFlag_keep ?_
            · refine State.put_keep ?_
              · assumption
          · refine State.put_keep ?_
            · assumption
    · refine Keep.ite1 ?_ ?_
      · refine State.put_keep ?_
        · assumption
      · refine Keep.ite1 ?_ ?_
        · try dsimp only
          try dsimp only
          refine State.dbgSet_keep ?_
          · assumption
        · refine Keep.ite1 ?_ ?_
          · try dsimp only
            refine State.put_keep ?_
            · assumption
          · refine State.put_keep ?_
            · assumption

theorem State.wHBMC_keep {s₀ : State} {s : State} {p : Page} {off : Nat} {w : Wr} (h_s : Keep s₀ s) :
    Keep s₀ (State.wHBMC s p off w).1 := by
  unfold State.wHBMC
  refine Keep.ite1 ?_ ?_
  · refine Keep.ite1 ?_ ?_
    · refine Wr.act_keep ?_ ?_
      · assumption
      · intro x1 h2
        try dsimp only
        refine State.spareStart_keep ?_
        · assumption
    · try dsimp only
      assumption
  · refine State.put_keep ?_
    · assumption

theorem State.wDMAC_keep {s₀ : State} {s : State} {p : Page} {off : Nat} {w : Wr} (h_s : Keep s₀ s) :
    Keep s₀ (State.wDMAC s p off w).1 := by
  unfold State.wDMAC
  try dsimp only
  refine Keep.ite1 ?_ ?_
  · refine Keep.ite1 ?_ ?_
    · try dsimp only
      assumption
    · refine Wr.act_keep ?_ ?_
      · assumption
      · intro x1 h2
        refine Keep.ite1 ?_ ?_
        · try dsimp only
          assumption
        · refine Keep.ite1 ?_ ?_
          · try dsimp only
            assumption
          · refine State.put_keep ?_
            · assumption
  · try dsimp only
    try dsimp only
    refine Keep.ite1 ?_ ?_
    · refine State.put_keep ?_
      · assumption
    · refine Keep.ite1 ?_ ?_
      · refine State.dmaCommand_keep ?_
        · assumption
      · refine Keep.ite1 ?_ ?_
        · refine Keep.ite1 ?_ ?_
          · refine State.put_keep ?_
            · assumption
          · try dsimp only
            assumption
        · refine State.put_keep ?_
          · assumption

theorem State.wQMGR_keep {s₀ : State} {s : State} {p : Page} {off : Nat} {w : Wr} (h_s : Keep s₀ s) :
    Keep s₀ (State.wQMGR s p off w).1 := by
  unfold State.wQMGR
  try dsimp only
  split
  · refine Keep.ite1 ?_ ?_
    · try dsimp only
      refine State.queueSelect_keep ?_
      · assumption
    · refine Keep.ite1 ?_ ?_
      · refine State.queueConfig_keep ?_
        · assumption
      · refine Keep.ite1 ?_ ?_
        · refine State.queueBase_keep ?_
          · assumption
        · try dsimp only
          assumption
  · try dsimp only
    refine Keep.ite1 ?_ ?_
    · try dsimp only
      refine State.queuePush_keep ?_
      · assumption
    · refine Keep.ite1 ?_ ?_
      · try dsimp only
        refine State.setQreq_keep ?_
        · assumption
      · refine Keep.ite1 ?_ ?_
        · try dsimp only
          refine State.setQreq_keep ?_
          · assumption
        · try dsimp only
          assumption
  · refine State.put_keep ?_
    · assumption

theorem State.wIOMMU_keep {s₀ : State} {s : State} {p : Page} {off : Nat} {w : Wr} (h_s : Keep s₀ s) :
    Keep s₀ (State.wIOMMU s p off w).1 := by
  unfold State.wIOMMU
  try dsimp only
  refine Keep.ite1 ?_ ?_
  · try dsimp only
    refine State.ioTlbi_keep ?_
    · assumption
  · refine Keep.ite1 ?_ ?_
    · try dsimp only
      refine State.setF_keep ?_
      · assumption
    · refine Keep.ite1 ?_ ?_
      · try dsimp only
        refine State.setF_keep ?_
        · assumption
      · refine State.put_keep ?_
        · assumption

theorem State.wHLCK_keep {s₀ : State} {s : State} {p : Page} {off : Nat} {w : Wr} (h_s : Keep s₀ s) :
    Keep s₀ (State.wHLCK s p off w).1 := by
  unfold State.wHLCK
  try dsimp only
  refine Keep.ite1 ?_ ?_
  · refine State.release_keep ?_
    · assumption
  · refine Keep.ite1 ?_ ?_
    · try dsimp only
      refine Keep.ite ?_ ?_
      · refine State.breakLock_keep ?_
        · assumption
      · assumption
    · refine State.put_keep ?_
      · assumption

theorem State.writeBlock_keep {s₀ : State} {s : State} {p : Page} {off : Nat} {w : Wr} (h_s : Keep s₀ s) :
    Keep s₀ (State.writeBlock s p off w).1 := by
  unfold State.writeBlock
  split
  · refine State.wTBAS_keep ?_
    · assumption
  · try dsimp only
    try dsimp only
    refine Keep.ite1 ?_ ?_
    · refine State.timerCtrlWrite_keep ?_
      · assumption
    · refine Keep.ite1 ?_ ?_
      · refine State.timerCntWrite_keep ?_
        · assumption
      · refine Keep.ite1 ?_ ?_
        · try dsimp only
          refine State.timerCmpWrite_keep ?_
          · assumption
        · refine State.put_keep ?_
          · assumption
  · refine State.wWDOG_keep ?_
    · assumption
  · refine State.wKEEP_keep ?_
    · assumption
  · refine State.wDROLE_keep ?_
    · assumption
  · refine State.wKEEL_keep ?_
    · assumption
  · refine State.wCLKG_keep ?_
    · assumption
  · refine State.wPWRD_keep ?_
    · assumption
  · refine State.wRSTC_keep ?_
    · assumption
  · refine State.wMEAS_keep ?_
    · assumption
  · refine State.wGRPL_keep ?_
    · assumption
  · refine State.wDBG_keep ?_
    · assumption
  · refine State.wLATH_keep ?_
    · assumption
  · refine State.wLATH_keep ?_
    · assumption
  · refine State.wLATH_keep ?_
    · assumption
  · refine State.wGPIO_keep ?_
    · assumption
  · refine State.wINTC_keep ?_
    · assumption
  · refine State.wDINTC_keep ?_
    · assumption
  · refine State.wAFE_keep ?_
    · assumption
  · refine State.wADC_keep ?_
    · assumption
  · refine State.wCMPR_keep ?_
    · assumption
  · refine State.wCAPT_keep ?_
    · assumption
  · refine State.wTRIP_keep ?_
    · assumption
  · refine State.wLENG_keep ?_
    · assumption
  · refine State.wPWMG_keep ?_
    · assumption
  · refine State.wPKEEP_keep ?_
    · assumption
  · refine State.wRING_keep ?_
    · assumption
  · refine State.wSERD_keep ?_
    · assumption
  · refine State.wFCST_keep ?_
    · assumption
  · refine State.wKLOG_keep ?_
    · assumption
  · refine State.wCORE_keep ?_
    · assumption
  · refine State.wHBMC_keep ?_
    · assumption
  · refine State.wDMAC_keep ?_
    · assumption
  · refine State.wQMGR_keep ?_
    · assumption
  · refine State.wIOMMU_keep ?_
    · assumption
  · refine State.wHLCK_keep ?_
    · assumption
  · refine State.put_keep ?_
    · assumption

end Sys2Proof.Machine
end

