-- ==== Sys2Proof/Laws/KeepBus.lean ====
section
/-! SUPPORT. Laws/KeepBus.lean: every operation of Machine/Bus.lean keeps what Laws/Keep.lean says. -/

namespace Sys2Proof.Machine

theorem State.resetBehind_keep {s₀ : State} {s : State} {p : Page} (h_s : Keep s₀ s) :
    Keep s₀ (State.resetBehind s p) := by
  unfold State.resetBehind
  dsimp only
  split
  · refine Keep.upd ?_
    assumption
  · refine Keep.upd ?_
    assumption
  · refine Keep.upd ?_
    assumption
  · refine Keep.upd ?_
    assumption
  · refine Keep.foldl ?_ _ ?_
    · intro x1 x2 h3
      refine State.gpioResume_keep ?_
      assumption
    · refine Keep.upd ?_
      assumption
  · refine Keep.ite ?_ ?_
    · refine State.updLath_keep ?_
      assumption
    · assumption
  · refine Keep.ite ?_ ?_
    · refine State.updLath_keep ?_
      assumption
    · assumption
  · refine Keep.ite ?_ ?_
    · refine State.updLath_keep ?_
      assumption
    · assumption
  · refine Keep.upd ?_
    refine Keep.foldl ?_ _ ?_
    · intro x4 x5 h6
      refine State.unpin_keep ?_
      refine State.chReturn_keep ?_
      assumption
    · assumption
  · refine Keep.ite ?_ ?_
    · refine Keep.upd ?_
      refine Keep.foldl ?_ _ ?_
      · intro x7 x8 h9
        refine State.setChan_keep ?_
        assumption
      · assumption
    · assumption
  · refine Keep.upd ?_
    assumption
  · refine State.setIo_keep ?_
    assumption
  · refine State.setRing_keep ?_
    assumption
  · refine State.fcstAbort_keep ?_
    assumption
  · refine Keep.upd ?_
    assumption
  · refine Keep.upd ?_
    assumption
  · refine Keep.upd ?_
    assumption
  · assumption
  · refine Keep.upd ?_
    assumption
  · refine State.holdPair_keep ?_
    refine State.setFlag_keep ?_
    assumption
  · assumption

theorem State.disarmPage_keep {s₀ : State} {s : State} {t : Nat} {lo : Nat} {n : Nat} (h_s : Keep s₀ s) :
    Keep s₀ (State.disarmPage s t lo n) := by
  unfold State.disarmPage
  refine Keep.foldl ?_ _ ?_
  · intro s1 x2 h3
    refine State.leavesArm_keep ?_
    · assumption
  · assumption

theorem State.bankDust_keep {s₀ : State} {s : State} {p : Page} (h_s : Keep s₀ s) :
    Keep s₀ (State.bankDust s p) := by
  unfold State.bankDust
  refine Keep.foldl ?_ _ ?_
  · intro s1 x2 h3
    refine State.pinDust_keep ?_
    · assumption
  · assumption

theorem State.resetStarts_keep {s₀ : State} {s : State} {was : State} {p : Page} (h_s : Keep s₀ s) (h_was : Keep s₀ was) :
    Keep s₀ (State.resetStarts s was p) := by
  unfold State.resetStarts
  split
  · refine Keep.foldl ?_ _ ?_
    · intro s1 x2 h3
      refine Keep.ite ?_ ?_
      · refine State.cmpEnable_keep ?_
        · assumption
      · assumption
    · assumption
  · refine Keep.ite ?_ ?_
    · refine State.klogEnable_keep ?_
      · assumption
    · assumption
  · refine Keep.ite ?_ ?_
    · assumption
    · refine State.grpEnable_keep ?_
      · assumption
  · exact State.ringWhole_keep (State.setFlag_keep h_s)
  · assumption

theorem State.blockReset_keep {s₀ : State} {s : State} {p : Page} (h_s : Keep s₀ s) :
    Keep s₀ (State.blockReset s p).1 := by
  unfold State.blockReset
  dsimp only
  split
  · refine Keep.ite1 ?_ ?_
    · dsimp only
      assumption
    · dsimp only
      refine State.wdRestart_keep ?_
      refine State.resetRegs_keep ?_
      assumption
  · refine Keep.ite1 ?_ ?_
    · dsimp only
      assumption
    · dsimp only
      refine State.wdRestart_keep ?_
      refine State.resetBehind_keep ?_
      refine State.resetRegs_keep ?_
      assumption
  · refine Keep.ite1 ?_ ?_
    · dsimp only
      assumption
    · dsimp only
      refine Keep.ite ?_ ?_
      · refine State.refSettle_keep ?_
        refine State.setF_keep ?_
        refine State.resetRegs_keep ?_
        assumption
      · refine State.setF_keep ?_
        refine State.resetRegs_keep ?_
        assumption
  · refine Keep.ite1 ?_ ?_
    · dsimp only
      assumption
    · dsimp only
      refine State.resetStarts_keep ?_ ?_
      · refine State.resetBehind_keep ?_
        refine State.resetRegs_keep ?_
        refine Keep.foldl ?_ _ ?_
        · intro x1 x2 h3
          refine State.cmpEnable_keep ?_
          assumption
        · assumption
      · assumption
  · refine Keep.ite1 ?_ ?_
    · dsimp only
      assumption
    · dsimp only
      refine Keep.foldl ?_ _ ?_
      · intro x4 x5 h6
        refine State.sourceLook_keep ?_
        assumption
      · refine State.resetRegs_keep ?_
        refine Keep.foldl ?_ _ ?_
        · intro x7 x8 h9
          refine State.sourceOff_keep ?_
          assumption
        · assumption
  · dsimp only
    refine State.adcDisable_keep ?_
    assumption
  · dsimp only
    refine Keep.foldl ?_ _ ?_
    · intro x10 x11 h12
      refine State.showBind_keep ?_
      assumption
    · refine State.resetBehind_keep ?_
      refine State.resetRegs_keep ?_
      refine Keep.foldl ?_ _ ?_
      · intro x13 x14 h15
        refine State.showBind_keep ?_
        refine State.genStop_keep ?_
        assumption
      · assumption
  · dsimp only
    refine State.resetRegs_keep ?_
    refine State.disarmPage_keep ?_
    assumption
  · dsimp only
    refine State.resetRegs_keep ?_
    refine State.bankDust_keep ?_
    assumption
  · dsimp only
    refine State.resetStarts_keep ?_ ?_
    · refine State.resetBehind_keep ?_
      refine State.resetRegs_keep ?_
      assumption
    · assumption

theorem State.wPageCtrl_keep {s₀ : State} {s : State} {p : Page} {w : Wr} (h_s : Keep s₀ s) :
    Keep s₀ (State.wPageCtrl s p w).1 := by
  unfold State.wPageCtrl
  try dsimp only
  refine Keep.ite1 ?_ ?_
  · refine andThen_keep ?_ ?_
    · refine Keep.ite1 ?_ ?_
      · try dsimp only
        assumption
      · refine Wr.act_keep ?_ ?_
        · assumption
        · intro x1 h2
          refine Keep.ite1 ?_ ?_
          · try dsimp only
            assumption
          · try dsimp only
            refine Keep.ite1 ?_ ?_
            · try dsimp only
              refine State.setFlag_keep ?_
              · assumption
            · split
              · try dsimp only
                refine State.disarmPage_keep ?_
                · refine State.setFlag_keep ?_
                  · assumption
              · try dsimp only
                refine State.disarmPage_keep ?_
                · refine State.setFlag_keep ?_
                  · assumption
              · try dsimp only
                refine State.bankDust_keep ?_
                · refine State.setFlag_keep ?_
                  · assumption
    · intro x3 h4
      refine Wr.act_keep ?_ ?_
      · assumption
      · intro x5 h6
        refine State.blockReset_keep ?_
        · assumption
  · refine Keep.ite1 ?_ ?_
    · try dsimp only
      assumption
    · refine Wr.act_keep ?_ ?_
      · assumption
      · intro x7 h8
        refine Keep.ite1 ?_ ?_
        · try dsimp only
          assumption
        · try dsimp only
          refine Keep.ite1 ?_ ?_
          · try dsimp only
            refine State.setFlag_keep ?_
            · assumption
          · split
            · try dsimp only
              refine State.disarmPage_keep ?_
              · refine State.setFlag_keep ?_
                · assumption
            · try dsimp only
              refine State.disarmPage_keep ?_
              · refine State.setFlag_keep ?_
                · assumption
            · try dsimp only
              refine State.bankDust_keep ?_
              · refine State.setFlag_keep ?_
                · assumption

theorem State.wLockKey_keep {s₀ : State} {s : State} {p : Page} {w : Wr} (h_s : Keep s₀ s) :
    Keep s₀ (State.wLockKey s p w).1 := by
  unfold State.wLockKey
  try dsimp only
  refine Keep.ite1 ?_ ?_
  · try dsimp only
    refine Keep.upd ?_
    assumption
  · refine Keep.ite1 ?_ ?_
    · try dsimp only
      refine Keep.upd ?_
      assumption
    · refine Keep.ite1 ?_ ?_
      · split
        · try dsimp only
          refine Keep.ite1 ?_ ?_
          · try dsimp only
            refine Keep.upd ?_
            assumption
          · try dsimp only
            refine Keep.upd ?_
            assumption
        · try dsimp only
          refine Keep.upd ?_
          assumption
      · try dsimp only
        refine Keep.upd ?_
        assumption

theorem State.wHeader_keep {s₀ : State} {s : State} {p : Page} {off : Nat} {w : Wr} (h_s : Keep s₀ s) :
    Keep s₀ (State.wHeader s p off w).1 := by
  unfold State.wHeader
  dsimp only
  refine Keep.ite1 ?_ ?_
  · refine State.wPageCtrl_keep ?_
    assumption
  · refine Keep.ite1 ?_ ?_
    · dsimp only
      refine Keep.ite ?_ ?_
      · assumption
      · refine State.setF_keep ?_
        refine State.noteSoft_keep ?_
        assumption
    · refine Keep.ite1 ?_ ?_
      · dsimp only
        refine State.setF_keep ?_
        assumption
      · refine Keep.ite1 ?_ ?_
        · refine Keep.ite1 ?_ ?_
          · dsimp only
            assumption
          · refine Wr.act_keep ?_ ?_
            · assumption
            · intro x1 h2
              refine Keep.ite1 ?_ ?_
              · dsimp only
                assumption
              · dsimp only
                refine State.setF_keep ?_
                refine State.setF_keep ?_
                assumption
        · refine Keep.ite1 ?_ ?_
          · refine State.wLockKey_keep ?_
            assumption
          · refine Keep.ite1 ?_ ?_
            · dsimp only
              refine Keep.ite ?_ ?_
              · refine State.clearErr_keep ?_
                assumption
              · refine Keep.ite ?_ ?_
                · refine State.setFlag_keep ?_
                  assumption
                · assumption
            · refine Keep.ite1 ?_ ?_
              · dsimp only
                assumption
              · dsimp only
                assumption

theorem State.writeAlone_keep {s₀ : State} {s : State} {p : Page} {off : Nat} {w : Wr} (h_s : Keep s₀ s) :
    Keep s₀ (State.writeAlone s p off w).1 := by
  unfold State.writeAlone
  refine Keep.ite1 ?_ ?_
  · refine State.wHeader_keep ?_
    assumption
  · refine Keep.ite1 ?_ ?_
    · dsimp only
      assumption
    · refine State.writeBlock_keep ?_
      refine State.pageSync_keep ?_
      assumption

theorem State.noteWord_keep {s₀ : State} {s : State} {p : Page} {off : Nat} {size : Nat} {req : Nat} (h_s : Keep s₀ s) :
    Keep s₀ (State.noteWord s p off size req) := by
  unfold State.noteWord
  refine Keep.ite ?_ ?_
  · assumption
  · dsimp only
    refine Keep.ite ?_ ?_
    · refine State.noteSoft_keep ?_
      refine State.noteSoft_keep ?_
      assumption
    · refine State.noteSoft_keep ?_
      assumption

theorem State.writeWord_keep {s₀ : State} {s : State} {p : Page} {off : Nat} {w : Wr} (h_s : Keep s₀ s) :
    Keep s₀ (State.writeWord s p off w).1 := by
  unfold State.writeWord
  dsimp only
  refine Keep.ite1 ?_ ?_
  · refine Keep.ite1 ?_ ?_
    · dsimp only
      assumption
    · dsimp only
      refine State.writeAlone_keep ?_
      refine State.writeAlone_keep ?_
      assumption
  · dsimp only
    refine State.noteWord_keep ?_
    refine State.writeAlone_keep ?_
    assumption

theorem State.writePage_keep {s₀ : State} {s : State} {p : Page} {off : Nat} {size : Nat} {w : Wr} (h_s : Keep s₀ s) :
    Keep s₀ (State.writePage s p off size w).1 := by
  unfold State.writePage
  refine Keep.ite1 ?_ ?_
  · refine State.writeWord_keep ?_
    · assumption
  · refine Keep.ite1 ?_ ?_
    · refine State.writeWord_keep ?_
      · assumption
    · refine andThen_keep ?_ ?_
      · refine State.writeWord_keep ?_
        · assumption
      · intro x1 h2
        refine State.writeWord_keep ?_
        · assumption

theorem State.refuse_keep {s₀ : State} {s : State} {a : Access} {cause : Nat} (h_s : Keep s₀ s) :
    Keep s₀ (State.refuse s a cause).1 := by
  unfold State.refuse
  try dsimp only
  refine State.respond_keep ?_
  · refine State.recordErr_keep ?_
    · assumption

theorem State.complete_keep {s₀ : State} {s : State} {a : Access} {base : Nat} {cause : Nat} {err : Bool} {v : Nat} (h_s : Keep s₀ s) :
    Keep s₀ (State.complete s a base cause err v).1 := by
  unfold State.complete
  try dsimp only
  refine State.respond_keep ?_
  · refine Keep.ite ?_ ?_
    · assumption
    · refine State.recordErr_keep ?_
      · assumption

theorem State.holdAccess_keep {s₀ : State} {s : State} {a : Access} (h_s : Keep s₀ s) :
    Keep s₀ (State.holdAccess s a).1 := by
  unfold State.holdAccess
  try dsimp only
  refine Keep.upd ?_
  assumption

theorem State.afterWrite_keep {s₀ : State} {s : State} {p : Page} (h_s : Keep s₀ s) :
    Keep s₀ (State.afterWrite s p) := by
  unfold State.afterWrite
  split
  · refine State.fcstAbort_keep ?_
    assumption
  · refine State.fcstAbort_keep ?_
    assumption
  · refine State.fcstAbort_keep ?_
    assumption
  · refine State.fcstAbort_keep ?_
    assumption
  · refine State.fcstAbort_keep ?_
    assumption
  · assumption

theorem State.pageAccess_keep {s₀ : State} {s : State} {p : Page} {off : Nat} {a : Access} {force : Bool} (h_s : Keep s₀ s) :
    Keep s₀ (State.pageAccess s p off a force).1 := by
  unfold State.pageAccess
  dsimp only
  refine Keep.ite1 ?_ ?_
  · refine State.complete_keep ?_
    assumption
  · refine Keep.ite1 ?_ ?_
    · refine Keep.ite1 ?_ ?_
      · refine State.complete_keep ?_
        assumption
      · refine State.complete_keep ?_
        assumption
    · refine Keep.ite1 ?_ ?_
      · refine State.complete_keep ?_
        refine State.afterWrite_keep ?_
        split
        · refine State.writePage_keep ?_
          refine State.writePage_keep ?_
          assumption
        · refine State.writePage_keep ?_
          assumption
      · refine State.complete_keep ?_
        refine State.readEffect_keep ?_
        assumption

theorem State.ctxAccess_keep {s₀ : State} {s : State} {t : Nat} {off : Nat} {a : Access} (h_s : Keep s₀ s) :
    Keep s₀ (State.ctxAccess s t off a).1 := by
  unfold State.ctxAccess
  refine Keep.ite1 ?_ ?_
  · refine State.complete_keep ?_
    · assumption
  · refine Keep.ite1 ?_ ?_
    · try dsimp only
      refine Keep.ite1 ?_ ?_
      · refine State.complete_keep ?_
        · assumption
      · try dsimp only
        try dsimp only
        refine Keep.ite1 ?_ ?_
        · refine State.takeCore_keep ?_
          · assumption
        · refine State.complete_keep ?_
          · refine State.takeCore_keep ?_
            · assumption
    · try dsimp only
      try dsimp only
      refine State.complete_keep ?_
      · assumption

theorem State.progAccess_keep {s₀ : State} {s : State} {t : Nat} {off : Nat} {a : Access} (h_s : Keep s₀ s) :
    Keep s₀ (State.progAccess s t off a).1 := by
  unfold State.progAccess
  refine Keep.ite1 ?_ ?_
  · refine State.complete_keep ?_
    · assumption
  · refine Keep.ite1 ?_ ?_
    · try dsimp only
      refine Keep.ite1 ?_ ?_
      · try dsimp only
        refine State.stepWrite_keep ?_
        · assumption
      · refine State.complete_keep ?_
        · refine State.stepWrite_keep ?_
          · assumption
    · try dsimp only
      refine State.complete_keep ?_
      · assumption

theorem State.memAccess_keep {s₀ : State} {s : State} {a : Access} (h_s : Keep s₀ s) :
    Keep s₀ (State.memAccess s a).1 := by
  unfold State.memAccess
  refine Keep.ite1 ?_ ?_
  · try dsimp only
    refine State.respond_keep ?_
    · refine State.writeMem_keep ?_
      · assumption
  · try dsimp only
    try dsimp only
    refine State.respond_keep ?_
    · refine State.readMem_keep ?_
      · assumption

theorem State.busAccess_keep {s₀ : State} {s : State} {a : Access} {force : optParam Bool false} (h_s : Keep s₀ s) :
    Keep s₀ (State.busAccess s a force).1 := by
  unfold State.busAccess
  dsimp only
  split
  · refine State.refuse_keep ?_
    assumption
  · refine State.refuse_keep ?_
    assumption
  · refine Keep.ite1 ?_ ?_
    · refine State.refuse_keep ?_
      assumption
    · refine Keep.ite1 ?_ ?_
      · refine State.refuse_keep ?_
        assumption
      · refine Keep.ite1 ?_ ?_
        · refine State.refuse_keep ?_
          assumption
        · split
          · refine State.holdAccess_keep ?_
            refine Keep.ite ?_ ?_
            · assumption
            · refine State.satF_keep ?_
              assumption
          · split
            · split
              · refine Keep.ite1 ?_ ?_
                · refine State.holdAccess_keep ?_
                  assumption
                · refine Keep.ite1 ?_ ?_
                  · refine State.holdAccess_keep ?_
                    refine Keep.ite ?_ ?_
                    · refine State.requestWake_keep ?_
                      refine State.satF_keep ?_
                      assumption
                    · refine State.satF_keep ?_
                      assumption
                  · refine State.pageAccess_keep ?_
                    assumption
              · refine State.holdAccess_keep ?_
                refine State.requestWake_keep ?_
                assumption
            · refine Keep.ite1 ?_ ?_
              · refine State.holdAccess_keep ?_
                assumption
              · split
                · refine State.pageAccess_keep ?_
                  assumption
                · refine State.ctxAccess_keep ?_
                  assumption
                · refine State.progAccess_keep ?_
                  assumption
                · refine State.memAccess_keep ?_
                  assumption

theorem State.busWrite_keep {s₀ : State} {s : State} {req : Nat} {addr : Nat} {size : Nat} {data : Nat} (h_s : Keep s₀ s) :
    Keep s₀ (State.busWrite s req addr size data) := by
  unfold State.busWrite
  refine State.busAccess_keep ?_
  · assumption

theorem State.busRead_keep {s₀ : State} {s : State} {req : Nat} {addr : Nat} {size : Nat} (h_s : Keep s₀ s) :
    Keep s₀ (State.busRead s req addr size) := by
  unfold State.busRead
  refine State.busAccess_keep ?_
  · assumption

theorem State.busWriteBits_keep {s₀ : State} {s : State} {req : Nat} {addr : Nat} {mask : Nat} {v : Nat} (h_s : Keep s₀ s) :
    Keep s₀ (State.busWriteBits s req addr mask v) := by
  unfold State.busWriteBits
  try dsimp only
  refine State.busWrite_keep ?_
  · assumption

theorem State.replayHeld_keep {s₀ : State} {s : State} (h_s : Keep s₀ s) :
    Keep s₀ (State.replayHeld s) := by
  unfold State.replayHeld
  refine Keep.foldl ?_ _ ?_
  · intro s1 x2 h3
    refine Keep.ite ?_ ?_
    · refine Keep.upd ?_
      assumption
    · refine State.busAccess_keep ?_
      · assumption
  · refine Keep.upd ?_
    assumption

theorem State.applyItem_keep {s₀ : State} {s : State} {i : JItem} (h_s : Keep s₀ s) :
    Keep s₀ (State.applyItem s i) := by
  unfold State.applyItem
  have hk : Keep s₀ ((s.journalReg i.addr i.value i.mask).journalQueue i.addr i.value i.mask) :=
    State.journalQueue_keep (State.journalReg_keep h_s)
  try dsimp only
  split
  · refine Keep.ite ?_ hk
    exact State.busAccess_keep hk
  · exact hk

end Sys2Proof.Machine
end

