-- ==== Sys2Proof/Laws/KeepConsume.lean ====
section
/-! SUPPORT. Laws/KeepConsume.lean: every operation of Machine/Consume.lean keeps what Laws/Keep.lean says. -/

namespace Sys2Proof.Machine

theorem State.timerInput_keep {s₀ : State} {s : State} {t : Nat} {n : Nat} (h_s : Keep s₀ s) :
    Keep s₀ (State.timerInput s t n) := by
  unfold State.timerInput
  refine Keep.ite ?_ ?_
  · refine State.overranOne_keep ?_
    · assumption
  · refine State.timerStart_keep ?_
    · refine State.tookOne_keep ?_
      · assumption

theorem State.syncInput_keep {s₀ : State} {s : State} {t : Nat} {i : Nat} (h_s : Keep s₀ s) :
    Keep s₀ (State.syncInput s t i) := by
  unfold State.syncInput
  dsimp only
  refine Keep.ite ?_ ?_
  · refine State.overranOne_keep ?_
    refine State.lateLoads_keep ?_
    assumption
  · refine State.syncEvent_keep ?_
    refine State.tookOne_keep ?_
    refine State.lateLoads_keep ?_
    assumption

theorem State.dmaInput_keep {s₀ : State} {s : State} {t : Nat} {n : Nat} (h_s : Keep s₀ s) :
    Keep s₀ (State.dmaInput s t n) := by
  unfold State.dmaInput
  refine Keep.ite ?_ ?_
  · assumption
  · dsimp only
    refine Keep.ite ?_ ?_
    · refine State.dmaStart_keep ?_
      refine State.tookOne_keep ?_
      assumption
    · refine State.recordErr_keep ?_
      refine State.dmaStart_keep ?_
      refine State.tookOne_keep ?_
      assumption

theorem State.linkInput_keep {s₀ : State} {s : State} {l : Nat} {i : Nat} {tok : Tok} (h_s : Keep s₀ s) :
    Keep s₀ (State.linkInput s l i tok) := by
  unfold State.linkInput
  refine Keep.ite ?_ ?_
  · assumption
  · refine State.passLink_keep ?_
    · refine State.tookOne_keep ?_
      · assumption

theorem State.interruptInput_keep {s₀ : State} {s : State} {l : Nat} {i : Nat} {src : Nat} (h_s : Keep s₀ s) :
    Keep s₀ (State.interruptInput s l i src) := by
  unfold State.interruptInput
  refine Keep.ite ?_ ?_
  · assumption
  · refine State.arrive_keep ?_
    refine State.tookOne_keep ?_
    assumption

theorem State.consumeTile_keep {s₀ : State} {s : State} {t : Nat} {i : Nat} {tok : Tok} (h_s : Keep s₀ s) :
    Keep s₀ (State.consumeTile s t i tok) := by
  unfold State.consumeTile
  dsimp only
  refine Keep.ite ?_ ?_
  · refine State.triggerAll_keep ?_
    refine State.tookOne_keep ?_
    assumption
  · refine Keep.ite ?_ ?_
    · refine State.timerInput_keep ?_
      assumption
    · refine Keep.ite ?_ ?_
      · refine State.syncInput_keep ?_
        assumption
      · refine Keep.ite ?_ ?_
        · refine State.dmaInput_keep ?_
          assumption
        · refine Keep.ite ?_ ?_
          · refine State.linkInput_keep ?_
            assumption
          · refine State.interruptInput_keep ?_
            assumption

theorem State.consumeClu_keep {s₀ : State} {s : State} {c : Nat} {i : Nat} {tok : Tok} (h_s : Keep s₀ s) :
    Keep s₀ (State.consumeClu s c i tok) := by
  unfold State.consumeClu
  dsimp only
  refine Keep.ite ?_ ?_
  · refine State.linkInput_keep ?_
    assumption
  · refine Keep.ite ?_ ?_
    · refine State.adcEvent_keep ?_
      assumption
    · refine Keep.ite ?_ ?_
      · refine State.fcstAbort_keep ?_
        refine State.thrLoad_keep ?_
        refine State.tookOne_keep ?_
        assumption
      · refine Keep.ite ?_ ?_
        · refine Keep.ite ?_ ?_
          · refine State.forecastLaunch_keep ?_
            assumption
          · refine State.tookOne_keep ?_
            assumption
        · refine Keep.ite ?_ ?_
          · refine State.klogStop_keep ?_
            assumption
          · refine Keep.ite ?_ ?_
            · refine State.gpioAction_keep ?_
              refine State.tookOne_keep ?_
              assumption
            · refine Keep.ite ?_ ?_
              · refine State.linkInput_keep ?_
                assumption
              · refine State.interruptInput_keep ?_
                assumption

theorem State.consumeDev_keep {s₀ : State} {s : State} {i : Nat} {tok : Tok} (h_s : Keep s₀ s) :
    Keep s₀ (State.consumeDev s i tok) := by
  unfold State.consumeDev
  refine Keep.ite ?_ ?_
  · refine State.linkInput_keep ?_
    assumption
  · refine Keep.ite ?_ ?_
    · dsimp only
      refine Keep.ite ?_ ?_
      · refine State.dropEvent_keep ?_
        refine State.tookOne_keep ?_
        assumption
      · refine Keep.ite ?_ ?_
        · refine State.grpSendAll_keep ?_
          refine State.tookOne_keep ?_
          assumption
        · refine State.tookOne_keep ?_
          assumption
    · refine State.interruptInput_keep ?_
      assumption

theorem State.consume_keep {s₀ : State} {s : State} {l : Nat} {i : Nat} (h_s : Keep s₀ s) :
    Keep s₀ (State.consume s l i) := by
  unfold State.consume
  split
  · assumption
  · refine Keep.ite ?_ ?_
    · assumption
    · refine Keep.ite ?_ ?_
      · refine State.consumeTile_keep ?_
        · assumption
      · refine Keep.ite ?_ ?_
        · refine State.consumeClu_keep ?_
          · assumption
        · refine State.consumeDev_keep ?_
          · assumption

end Sys2Proof.Machine
end

