-- ==== Sys2Proof/Laws/KeepMonOps.lean ====
section
/-! SUPPORT. Laws/KeepMonOps.lean: every operation of Machine/MonOps.lean keeps what Laws/Keep.lean says. -/

namespace Sys2Proof.Machine

theorem State.monDrop_keep {s₀ : State} {s : State} {port : Nat} (h_s : Keep s₀ s) :
    Keep s₀ (State.monDrop s port) := by
  unfold State.monDrop
  refine State.satF_keep ?_
  · assumption

theorem State.drvReject_keep {s₀ : State} {s : State} {port : Nat} {addr : Nat} {udp : Nat} {reason : Nat} (h_s : Keep s₀ s) :
    Keep s₀ (State.drvReject s port addr udp reason) := by
  unfold State.drvReject
  refine State.sendTo_keep ?_
  · assumption

theorem State.showSessions_keep {s₀ : State} {s : State} (h_s : Keep s₀ s) :
    Keep s₀ (State.showSessions s) := by
  unfold State.showSessions
  refine State.setFlag_keep ?_
  · refine State.setF_keep ?_
    · assumption

theorem State.sessionHello_keep {s₀ : State} {s : State} {port : Nat} {addr : Nat} {udp : Nat} {b : List Byte} (h_s : Keep s₀ s) :
    Keep s₀ (State.sessionHello s port addr udp b) := by
  unfold State.sessionHello
  refine Keep.ite ?_ ?_
  · refine State.monDrop_keep ?_
    · assumption
  · try dsimp only
    try dsimp only
    refine Keep.ite ?_ ?_
    · refine State.drvReject_keep ?_
      · assumption
    · refine Keep.ite ?_ ?_
      · refine State.drvReject_keep ?_
        · refine State.satF_keep ?_
          · assumption
      · try dsimp only
        try dsimp only
        refine State.sendTo_keep ?_
        · first | refine Keep.upd (Keep.updFree ?_) | refine Keep.updFree ?_
          assumption

theorem State.sessionProve_keep {s₀ : State} {s : State} {port : Nat} {addr : Nat} {udp : Nat} {b : List Byte} (h_s : Keep s₀ s) :
    Keep s₀ (State.sessionProve s port addr udp b) := by
  unfold State.sessionProve
  refine Keep.ite ?_ ?_
  · refine State.monDrop_keep ?_
    · assumption
  · split
    · refine State.monDrop_keep ?_
      · assumption
    · try dsimp only
      try dsimp only
      refine Keep.ite ?_ ?_
      · refine State.drvReject_keep ?_
        · refine State.pulse_keep ?_
          · refine State.satF_keep ?_
            · refine Keep.upd ?_
              assumption
      · try dsimp only
        try dsimp only
        refine State.drvSend_keep ?_
        · refine State.pulse_keep ?_
          · refine State.showSessions_keep ?_
            · refine Keep.upd ?_
              refine Keep.upd ?_
              assumption

theorem State.handExpire_keep {s₀ : State} {s : State} {id : Nat} (h_s : Keep s₀ s) :
    Keep s₀ (State.handExpire s id) := by
  unfold State.handExpire
  refine Keep.upd ?_
  assumption

theorem State.monDctl_keep {s₀ : State} {s : State} {u : Nat} {mask : Nat} {v : Nat} (h_s : Keep s₀ s) :
    Keep s₀ (State.monDctl s u mask v) := by
  unfold State.monDctl
  refine State.busWriteBits_keep ?_
  · assumption

theorem State.unitHalt_keep {s₀ : State} {s : State} {u : Nat} (h_s : Keep s₀ s) :
    Keep s₀ (State.unitHalt s u) := by
  unfold State.unitHalt
  refine Keep.ite ?_ ?_
  · refine State.monDctl_keep ?_
    assumption
  · refine State.holdLeases_keep ?_
    refine State.wdFreeze_keep ?_
    refine Keep.upd ?_
    assumption

theorem State.unitResume_keep {s₀ : State} {s : State} {u : Nat} (h_s : Keep s₀ s) :
    Keep s₀ (State.unitResume s u) := by
  unfold State.unitResume
  refine Keep.ite ?_ ?_
  · refine State.monDctl_keep ?_
    assumption
  · refine State.holdLeases_keep ?_
    refine State.wdThaw_keep ?_
    refine Keep.upd ?_
    assumption

theorem State.sessionClose_keep {s₀ : State} {s : State} {id : Nat} (h_s : Keep s₀ s) :
    Keep s₀ (State.sessionClose s id) := by
  unfold State.sessionClose
  split
  · assumption
  · try dsimp only
    refine Keep.ite ?_ ?_
    · try dsimp only
      refine Keep.foldl ?_ _ ?_
      · intro s1 x2 h3
        refine Keep.ite ?_ ?_
        · refine State.unitResume_keep ?_
          · assumption
        · assumption
      · refine Keep.foldl ?_ _ ?_
        · intro s4 x5 h6
          refine State.clearBreaks_keep ?_
          · assumption
        · refine State.pulse_keep ?_
          · refine State.showSessions_keep ?_
            · refine Keep.upd ?_
              assumption
    · refine State.pulse_keep ?_
      · refine State.showSessions_keep ?_
        · refine Keep.upd ?_
          assumption

theorem State.sessionExpire_keep {s₀ : State} {s : State} {id : Nat} (h_s : Keep s₀ s) :
    Keep s₀ (State.sessionExpire s id) := by
  unfold State.sessionExpire
  split
  · refine Keep.ite ?_ ?_
    · refine State.sessionClose_keep ?_
      · assumption
    · assumption
  · assumption

theorem State.drvAnswer_keep {s₀ : State} {s : State} {id : Nat} {op : Nat} {tag : Nat} {status : Nat} {body : List Byte} (h_s : Keep s₀ s) :
    Keep s₀ (State.drvAnswer s id op tag status body) := by
  unfold State.drvAnswer
  try dsimp only
  split
  · assumption
  · refine Keep.ite ?_ ?_
    · refine State.sessionClose_keep ?_
      · assumption
    · refine State.drvSend_keep ?_
      · refine State.setSession_keep ?_
        · assumption

theorem State.haltAnswer_keep {s₀ : State} {s : State} {x : Session} {h : HaltReq} {status : Nat} (h_s : Keep s₀ s) :
    Keep s₀ (State.haltAnswer s x h status) := by
  unfold State.haltAnswer
  refine Keep.ite ?_ ?_
  · try dsimp only
    refine State.drvAnswer_keep ?_
    · assumption
  · refine State.drvAnswer_keep ?_
    · assumption

theorem State.haltsDone_keep {s₀ : State} {s : State} (h_s : Keep s₀ s) :
    Keep s₀ (State.haltsDone s) := by
  unfold State.haltsDone
  refine Keep.foldl ?_ _ ?_
  · intro s1 x2 h3
    split
    · refine Keep.ite ?_ ?_
      · refine State.haltAnswer_keep ?_
        · assumption
      · assumption
    · assumption
  · assumption

theorem State.haltTimeout_keep {s₀ : State} {s : State} {id : Nat} (h_s : Keep s₀ s) :
    Keep s₀ (State.haltTimeout s id) := by
  unfold State.haltTimeout
  split
  · split
    · refine Keep.ite ?_ ?_
      · refine State.haltAnswer_keep ?_
        · assumption
      · assumption
    · assumption
  · assumption

theorem State.enterDebug_keep {s₀ : State} {s : State} {p : Nat} {reason : Nat} {daddr : Option Nat} {slot : Nat} {write : Bool} (h_s : Keep s₀ s) :
    Keep s₀ (State.enterDebug s p reason daddr slot write) := by
  unfold State.enterDebug
  refine State.haltsDone_keep ?_
  · refine State.debugEntry_keep ?_
    · assumption

theorem State.monWalk_keep {s₀ : State} {s : State} {p : Nat} {va : Nat} {kind : Nat} (h_s : Keep s₀ s) :
    Keep s₀ (State.monWalk s p va kind).1 := by
  unfold State.monWalk
  dsimp only
  refine Keep.ite1 ?_ ?_
  · refine Keep.ite1 ?_ ?_
    · dsimp only
      assumption
    · dsimp only
      refine State.draw_keep ?_
      assumption
  · split
    · dsimp only
      refine State.walked_keep ?_
      assumption
    · dsimp only
      assumption
    · refine Keep.ite1 ?_ ?_
      · dsimp only
        assumption
      · dsimp only
        assumption

theorem State.monAddr_keep {s₀ : State} {s : State} {space : Nat} {p : Nat} {a : Nat} {kind : Nat} (h_s : Keep s₀ s) :
    Keep s₀ (State.monAddr s space p a kind).1 := by
  unfold State.monAddr
  refine Keep.ite1 ?_ ?_
  · try dsimp only
    assumption
  · refine State.monWalk_keep ?_
    · assumption

theorem State.monRead_keep {s₀ : State} {s : State} {space : Nat} {p : Nat} {ps : List (Nat × Nat)} (h_s : Keep s₀ s) :
    Keep s₀ (State.monRead s space p ps).1 := by
  unfold State.monRead
  refine Keep.foldl1 ?_ _ ?_
  · intro s1 x2 h3
    split
    · try dsimp only
      assumption
    · split
      · rename_i v4 v5 e6
        have kv4 : Keep s₀ v4 := by
          rw [show v4 = _ from (congrArg (fun q => q.1) e6).symm]
          refine State.monAddr_keep ?_
          · assumption
        try dsimp only
        assumption
      · first
          | rename_i v7 v8 e9
            have kv7 : Keep s₀ v7 := by
              rw [show v7 = _ from (congrArg (fun q => q.1) e9).symm]
              refine State.monAddr_keep ?_
              · assumption
        split
        · rename_i v10 v11 e12
          have kv10 : Keep s₀ v10 := by
            rw [show v10 = _ from (congrArg (fun q => q.1) e12).symm]
            refine State.busAccess_keep ?_
            · assumption
          refine Keep.ite1 ?_ ?_
          · try dsimp only
            assumption
          · try dsimp only
            assumption
        · first
            | rename_i v13 e14
              have kv13 : Keep s₀ v13 := by
                rw [show v13 = _ from (congrArg (fun q => q.1) e14).symm]
                refine State.busAccess_keep ?_
                · assumption
          try dsimp only
          assumption
  · try dsimp only
    assumption

theorem State.monWrite_keep {s₀ : State} {s : State} {space : Nat} {p : Nat} {a0 : Nat} {data : List Byte} {ps : List (Nat × Nat)} (h_s : Keep s₀ s) :
    Keep s₀ (State.monWrite s space p a0 data ps).1 := by
  unfold State.monWrite
  refine Keep.foldl1 ?_ _ ?_
  · intro s1 x2 h3
    split
    · try dsimp only
      assumption
    · split
      · rename_i v4 v5 e6
        have kv4 : Keep s₀ v4 := by
          rw [show v4 = _ from (congrArg (fun q => q.1) e6).symm]
          refine State.monAddr_keep ?_
          · assumption
        try dsimp only
        assumption
      · first
          | rename_i v7 v8 e9
            have kv7 : Keep s₀ v7 := by
              rw [show v7 = _ from (congrArg (fun q => q.1) e9).symm]
              refine State.monAddr_keep ?_
              · assumption
        split
        · rename_i v10 v11 e12
          have kv10 : Keep s₀ v10 := by
            rw [show v10 = _ from (congrArg (fun q => q.1) e12).symm]
            refine State.busAccess_keep ?_
            · assumption
          try dsimp only
          assumption
        · first
            | rename_i v13 e14
              have kv13 : Keep s₀ v13 := by
                rw [show v13 = _ from (congrArg (fun q => q.1) e14).symm]
                refine State.busAccess_keep ?_
                · assumption
          try dsimp only
          assumption
  · try dsimp only
    assumption

theorem State.monAlter_keep {s₀ : State} {s : State} {x : Session} (h_s : Keep s₀ s) :
    Keep s₀ (State.monAlter s x).1 := by
  unfold State.monAlter
  refine Keep.ite1 ?_ ?_
  · try dsimp only
    assumption
  · refine Keep.ite1 ?_ ?_
    · try dsimp only
      assumption
    · try dsimp only
      refine State.setSession_keep ?_
      · refine State.extend_keep ?_
        · assumption

theorem State.monStep_keep {s₀ : State} {s : State} {x : Session} {tag : Nat} {u : Nat} {mask : Bool} (h_s : Keep s₀ s) :
    Keep s₀ (State.monStep s x tag u mask) := by
  unfold State.monStep
  refine Keep.ite ?_ ?_
  · try dsimp only
    refine State.setSession_keep ?_
    · refine State.monDctl_keep ?_
      · assumption
  · try dsimp only
    try dsimp only
    refine State.drvAnswer_keep ?_
    · refine State.setRegs_keep ?_
      · refine State.draw_keep ?_
        · assumption

theorem State.monBreak_keep {s₀ : State} {s : State} {u : Nat} {k : Nat} {ctl : Nat} {asid : Nat} {a : Nat} {len : Nat} (h_s : Keep s₀ s) :
    Keep s₀ (State.monBreak s u k ctl asid a len) := by
  unfold State.monBreak
  try dsimp only
  refine State.busWrite_keep ?_
  · refine Keep.ite ?_ ?_
    · refine State.busWrite_keep ?_
      · refine State.busWrite_keep ?_
        · refine State.busWrite_keep ?_
          · assumption
    · refine State.busWrite_keep ?_
      · refine State.busWrite_keep ?_
        · assumption

theorem State.drvRun_keep {s₀ : State} {s : State} {x : Session} {op : Nat} {tag : Nat} {b : List Byte} (h_s : Keep s₀ s) :
    Keep s₀ (State.drvRun s x op tag b) := by
  unfold State.drvRun
  try dsimp only
  split
  · refine State.drvAnswer_keep ?_
    · assumption
  · refine State.sessionClose_keep ?_
    · refine State.drvAnswer_keep ?_
      · assumption
  · refine Keep.ite ?_ ?_
    · refine State.drvAnswer_keep ?_
      · assumption
    · refine State.drvAnswer_keep ?_
      · assumption
  · try dsimp only
    refine Keep.ite ?_ ?_
    · refine State.drvAnswer_keep ?_
      · assumption
    · try dsimp only
      refine State.haltsDone_keep ?_
      · refine State.setSession_keep ?_
        · refine Keep.foldl ?_ _ ?_
          · intro s1 x2 h3
            refine State.unitHalt_keep ?_
            · assumption
          · assumption
  · try dsimp only
    refine State.drvAnswer_keep ?_
    · refine Keep.foldl ?_ _ ?_
      · intro s4 x5 h6
        refine State.unitResume_keep ?_
        · assumption
      · assumption
  · refine Keep.ite ?_ ?_
    · refine State.drvAnswer_keep ?_
      · assumption
    · refine Keep.ite ?_ ?_
      · refine State.drvAnswer_keep ?_
        · assumption
      · refine Keep.ite ?_ ?_
        · refine State.drvAnswer_keep ?_
          · assumption
        · refine State.monStep_keep ?_
          · assumption
  · try dsimp only
    try dsimp only
    refine Keep.ite ?_ ?_
    · refine State.drvAnswer_keep ?_
      · assumption
    · refine Keep.ite ?_ ?_
      · refine State.drvAnswer_keep ?_
        · assumption
      · refine Keep.ite ?_ ?_
        · refine State.drvAnswer_keep ?_
          · assumption
        · try dsimp only
          refine Keep.ite ?_ ?_
          · split
            · rename_i v7 v8 e9
              have kv7 : Keep s₀ v7 := by
                rw [show v7 = _ from (congrArg (fun q => q.1) e9).symm]
                refine State.monRead_keep ?_
                · assumption
              refine State.drvAnswer_keep ?_
              · assumption
            · first
                | rename_i v10 v11 e12
                  have kv10 : Keep s₀ v10 := by
                    rw [show v10 = _ from (congrArg (fun q => q.1) e12).symm]
                    refine State.monRead_keep ?_
                    · assumption
              refine State.drvAnswer_keep ?_
              · assumption
          · try dsimp only
            refine Keep.ite ?_ ?_
            · refine State.drvAnswer_keep ?_
              · refine State.monAlter_keep ?_
                · assumption
            · split
              · rename_i v13 e14
                have kv13 : Keep s₀ v13 := by
                  rw [show v13 = _ from (congrArg (fun q => q.1) e14).symm]
                  refine State.monWrite_keep ?_
                  · refine State.monAlter_keep ?_
                    · assumption
                refine State.drvAnswer_keep ?_
                · assumption
              · first
                  | rename_i v15 v16 e17
                    have kv15 : Keep s₀ v15 := by
                      rw [show v15 = _ from (congrArg (fun q => q.1) e17).symm]
                      refine State.monWrite_keep ?_
                      · refine State.monAlter_keep ?_
                        · assumption
                refine State.drvAnswer_keep ?_
                · assumption
  · try dsimp only
    try dsimp only
    refine Keep.ite ?_ ?_
    · refine State.drvAnswer_keep ?_
      · assumption
    · refine Keep.ite ?_ ?_
      · refine State.drvAnswer_keep ?_
        · assumption
      · refine Keep.ite ?_ ?_
        · refine State.drvAnswer_keep ?_
          · assumption
        · try dsimp only
          refine Keep.ite ?_ ?_
          · split
            · rename_i v18 v19 e20
              have kv18 : Keep s₀ v18 := by
                rw [show v18 = _ from (congrArg (fun q => q.1) e20).symm]
                refine State.monRead_keep ?_
                · assumption
              refine State.drvAnswer_keep ?_
              · assumption
            · first
                | rename_i v21 v22 e23
                  have kv21 : Keep s₀ v21 := by
                    rw [show v21 = _ from (congrArg (fun q => q.1) e23).symm]
                    refine State.monRead_keep ?_
                    · assumption
              refine State.drvAnswer_keep ?_
              · assumption
          · try dsimp only
            refine Keep.ite ?_ ?_
            · refine State.drvAnswer_keep ?_
              · refine State.monAlter_keep ?_
                · assumption
            · split
              · rename_i v24 e25
                have kv24 : Keep s₀ v24 := by
                  rw [show v24 = _ from (congrArg (fun q => q.1) e25).symm]
                  refine State.monWrite_keep ?_
                  · refine State.monAlter_keep ?_
                    · assumption
                refine State.drvAnswer_keep ?_
                · assumption
              · first
                  | rename_i v26 v27 e28
                    have kv26 : Keep s₀ v26 := by
                      rw [show v26 = _ from (congrArg (fun q => q.1) e28).symm]
                      refine State.monWrite_keep ?_
                      · refine State.monAlter_keep ?_
                        · assumption
                refine State.drvAnswer_keep ?_
                · assumption
  · try dsimp only
    try dsimp only
    refine Keep.ite ?_ ?_
    · refine State.drvAnswer_keep ?_
      · assumption
    · refine Keep.ite ?_ ?_
      · refine State.drvAnswer_keep ?_
        · assumption
      · refine Keep.ite ?_ ?_
        · refine State.drvAnswer_keep ?_
          · assumption
        · refine Keep.ite ?_ ?_
          · refine State.drvAnswer_keep ?_
            · assumption
          · try dsimp only
            refine Keep.ite ?_ ?_
            · refine State.drvAnswer_keep ?_
              · refine State.monAlter_keep ?_
                · assumption
            · try dsimp only
              refine State.drvAnswer_keep ?_
              · refine State.setPair_keep ?_
                · refine State.monAlter_keep ?_
                  · assumption
  · try dsimp only
    try dsimp only
    refine Keep.ite ?_ ?_
    · refine State.drvAnswer_keep ?_
      · assumption
    · refine Keep.ite ?_ ?_
      · refine State.drvAnswer_keep ?_
        · assumption
      · refine Keep.ite ?_ ?_
        · refine State.drvAnswer_keep ?_
          · assumption
        · refine Keep.ite ?_ ?_
          · refine State.drvAnswer_keep ?_
            · assumption
          · try dsimp only
            refine Keep.ite ?_ ?_
            · refine State.drvAnswer_keep ?_
              · refine State.monAlter_keep ?_
                · assumption
            · try dsimp only
              refine State.drvAnswer_keep ?_
              · refine State.setPair_keep ?_
                · refine State.monAlter_keep ?_
                  · assumption
  · try dsimp only
    try dsimp only
    refine Keep.ite ?_ ?_
    · refine State.drvAnswer_keep ?_
      · assumption
    · refine Keep.ite ?_ ?_
      · refine State.drvAnswer_keep ?_
        · assumption
      · try dsimp only
        refine Keep.ite ?_ ?_
        · refine State.drvAnswer_keep ?_
          · refine State.monAlter_keep ?_
            · assumption
        · refine State.drvAnswer_keep ?_
          · refine State.monBreak_keep ?_
            · refine State.monAlter_keep ?_
              · assumption
  · refine Keep.ite ?_ ?_
    · refine State.drvAnswer_keep ?_
      · assumption
    · refine Keep.ite ?_ ?_
      · refine State.drvAnswer_keep ?_
        · assumption
      · try dsimp only
        refine Keep.ite ?_ ?_
        · refine State.drvAnswer_keep ?_
          · refine State.monAlter_keep ?_
            · assumption
        · refine State.drvAnswer_keep ?_
          · refine State.monDctl_keep ?_
            · refine State.monAlter_keep ?_
              · assumption

theorem State.drvRequest_keep {s₀ : State} {s : State} {id : Nat} {op : Nat} {tag : Nat} {body : List Byte} (h_s : Keep s₀ s) :
    Keep s₀ (State.drvRequest s id op tag body) := by
  unfold State.drvRequest
  split
  · assumption
  · refine Keep.ite ?_ ?_
    · refine State.drvSend_keep ?_
      · assumption
    · refine Keep.ite ?_ ?_
      · refine State.drvSend_keep ?_
        · assumption
      · split
        · refine State.drvAnswer_keep ?_
          · assumption
        · refine Keep.ite ?_ ?_
          · refine State.drvAnswer_keep ?_
            · assumption
          · refine Keep.ite ?_ ?_
            · refine State.drvAnswer_keep ?_
              · assumption
            · refine State.drvRun_keep ?_
              · assumption

theorem State.sealedReceive_keep {s₀ : State} {s : State} {port : Nat} {addr : Nat} {udp : Nat} {b : List Byte} (h_s : Keep s₀ s) :
    Keep s₀ (State.sealedReceive s port addr udp b) := by
  unfold State.sealedReceive
  refine Keep.ite ?_ ?_
  · refine State.monDrop_keep ?_
    · assumption
  · split
    · refine State.monDrop_keep ?_
      · assumption
    · try dsimp only
      split
      · refine State.satF_keep ?_
        · assumption
      · refine Keep.ite ?_ ?_
        · refine State.satF_keep ?_
          · assumption
        · try dsimp only
          try dsimp only
          refine Keep.ite ?_ ?_
          · refine State.sessionClose_keep ?_
            · refine Keep.ite ?_ ?_
              · refine State.drvAnswer_keep ?_
                · refine State.setSession_keep ?_
                  · assumption
              · refine State.drvRequest_keep ?_
                · refine State.setSession_keep ?_
                  · assumption
          · refine Keep.ite ?_ ?_
            · refine State.drvAnswer_keep ?_
              · refine State.setSession_keep ?_
                · assumption
            · refine State.drvRequest_keep ?_
              · refine State.setSession_keep ?_
                · assumption

theorem State.sendFrame_keep {s₀ : State} {s : State} {port : Nat} {f : List Byte} (h_s : Keep s₀ s) :
    Keep s₀ (State.sendFrame s port f) := by
  unfold State.sendFrame
  try dsimp only
  refine Keep.ite ?_ ?_
  · try dsimp only
    try dsimp only
    refine Keep.upd ?_
    assumption
  · refine Keep.upd ?_
    assumption

theorem State.prpDup_keep {s₀ : State} {s : State} {f : List Byte} (h_s : Keep s₀ s) :
    Keep s₀ (State.prpDup s f).1 := by
  unfold State.prpDup
  try dsimp only
  refine Keep.ite1 ?_ ?_
  · try dsimp only
    refine Keep.ite1 ?_ ?_
    · try dsimp only
      refine Keep.upd ?_
      assumption
    · try dsimp only
      refine Keep.upd ?_
      assumption
  · try dsimp only
    assumption

theorem State.ipReceive_keep {s₀ : State} {s : State} {port : Nat} {src : List Byte} {p : List Byte} (h_s : Keep s₀ s) :
    Keep s₀ (State.ipReceive s port src p) := by
  unfold State.ipReceive
  try dsimp only
  refine Keep.ite ?_ ?_
  · refine State.monDrop_keep ?_
    · assumption
  · try dsimp only
    refine Keep.ite ?_ ?_
    · try dsimp only
      try dsimp only
      refine State.sendFrame_keep ?_
      · assumption
    · refine Keep.ite ?_ ?_
      · try dsimp only
        try dsimp only
        refine Keep.ite ?_ ?_
        · split
          · refine State.sessionHello_keep ?_
            · assumption
          · refine State.sessionProve_keep ?_
            · assumption
          · refine State.sealedReceive_keep ?_
            · assumption
          · refine State.monDrop_keep ?_
            · assumption
        · refine Keep.ite ?_ ?_
          · refine State.spdmFragment_keep ?_
            · assumption
          · refine State.monDrop_keep ?_
            · assumption
      · refine State.monDrop_keep ?_
        · assumption

theorem State.mgmtFrame_keep {s₀ : State} {s : State} {port : Nat} {f : List Byte} (h_s : Keep s₀ s) :
    Keep s₀ (State.mgmtFrame s port f) := by
  unfold State.mgmtFrame
  refine Keep.ite ?_ ?_
  · assumption
  · try dsimp only
    try dsimp only
    refine Keep.ite ?_ ?_
    · refine State.prpDup_keep ?_
      · assumption
    · refine Keep.ite ?_ ?_
      · refine State.prpDup_keep ?_
        · assumption
      · refine Keep.ite ?_ ?_
        · refine State.monDrop_keep ?_
          · refine State.prpDup_keep ?_
            · assumption
        · refine Keep.ite ?_ ?_
          · refine Keep.ite ?_ ?_
            · refine State.sendFrame_keep ?_
              · refine State.prpDup_keep ?_
                · assumption
            · refine State.prpDup_keep ?_
              · assumption
          · refine Keep.ite ?_ ?_
            · refine State.prpDup_keep ?_
              · assumption
            · refine Keep.ite ?_ ?_
              · refine State.ipReceive_keep ?_
                · refine State.prpDup_keep ?_
                  · assumption
              · refine State.monDrop_keep ?_
                · refine State.prpDup_keep ?_
                  · assumption

theorem State.prpSupervise_keep {s₀ : State} {s : State} (h_s : Keep s₀ s) :
    Keep s₀ (State.prpSupervise s) := by
  unfold State.prpSupervise
  refine Keep.ite ?_ ?_
  · try dsimp only
    refine State.sendFrame_keep ?_
    · refine Keep.upd ?_
      assumption
  · assumption

theorem State.freezeBegin_keep {s₀ : State} {s : State} {base : Nat} (h_s : Keep s₀ s) :
    Keep s₀ (State.freezeBegin s base) := by
  unfold State.freezeBegin
  split
  · assumption
  · refine Keep.ite ?_ ?_
    · assumption
    · dsimp only
      split
      · refine State.fcstAbort_keep ?_
        refine Keep.foldl ?_ _ ?_
        · intro x1 x2 h3
          refine Keep.ite ?_ ?_
          · refine State.genDisarm_keep ?_
            assumption
          · assumption
        · refine Keep.upd ?_
          refine Keep.ite ?_ ?_
          · refine State.timersSync_keep ?_
            assumption
          · assumption
      · refine Keep.foldl ?_ _ ?_
        · intro x4 x5 h6
          refine State.pinDust_keep ?_
          assumption
        · refine Keep.upd ?_
          refine Keep.ite ?_ ?_
          · refine State.timersSync_keep ?_
            assumption
          · assumption
      · refine Keep.upd ?_
        refine Keep.ite ?_ ?_
        · refine State.timersSync_keep ?_
          assumption
        · assumption

theorem State.freezeEnd_keep {s₀ : State} {s : State} {base : Nat} (h_s : Keep s₀ s) :
    Keep s₀ (State.freezeEnd s base) := by
  unfold State.freezeEnd
  split
  · assumption
  · refine Keep.ite ?_ ?_
    · assumption
    · try dsimp only
      try dsimp only
      refine Keep.ite ?_ ?_
      · refine Keep.foldl ?_ _ ?_
        · intro s1 x2 h3
          refine State.setTimer_keep ?_
          · assumption
        · refine Keep.upd ?_
          assumption
      · refine Keep.upd ?_
        assumption

theorem State.tapSelect_keep {s₀ : State} {s : State} {code : Nat} {boundary : Nat} {driving : Nat} (h_s : Keep s₀ s) :
    Keep s₀ (State.tapSelect s code boundary driving) := by
  unfold State.tapSelect
  refine Keep.ite ?_ ?_
  · refine Keep.upd ?_
    assumption
  · refine Keep.upd ?_
    assumption

end Sys2Proof.Machine
end

