-- ==== Sys2Proof/Laws/KeepCoreRun.lean ====
section
/-! SUPPORT. Laws/KeepCoreRun.lean: every operation of Machine/CoreRun.lean keeps what Laws/Keep.lean says. -/

namespace Sys2Proof.Machine

theorem State.wr_keep {s₀ : State} {s : State} {c : Ctx} {lam : Nat} {target : Nat} {v : Nat} (h_s : Keep s₀ s) :
    Keep s₀ (State.wr s c lam target v) := by
  unfold State.wr
  try dsimp only
  refine State.setPair_keep ?_
  · assumption

theorem State.wrA_keep {s₀ : State} {s : State} {c : Ctx} {k : Nat} {v : Nat} (h_s : Keep s₀ s) :
    Keep s₀ (State.wrA s c k v) := by
  unfold State.wrA
  refine State.wr_keep ?_
  · refine State.wr_keep ?_
    · assumption

theorem State.orSat_keep {s₀ : State} {s : State} {c : Ctx} {lam : Nat} {sat : Bool} (h_s : Keep s₀ s) :
    Keep s₀ (State.orSat s c lam sat) := by
  unfold State.orSat
  refine Keep.ite ?_ ?_
  · refine State.wr_keep ?_
    · assumption
  · assumption

theorem State.wrAlu_keep {s₀ : State} {s : State} {c : Ctx} {acc : Bool} {lam : Nat} {dest : Nat} {a : Alu} (h_s : Keep s₀ s) :
    Keep s₀ (State.wrAlu s c acc lam dest a) := by
  unfold State.wrAlu
  try dsimp only
  refine State.orSat_keep ?_
  · split
    · refine State.wr_keep ?_
      · refine Keep.ite ?_ ?_
        · refine State.wrA_keep ?_
          · assumption
        · refine State.wr_keep ?_
          · assumption
    · refine Keep.ite ?_ ?_
      · refine State.wrA_keep ?_
        · assumption
      · refine State.wr_keep ?_
        · assumption

theorem State.wrFlags_keep {s₀ : State} {s : State} {c : Ctx} {lam : Nat} {a : Alu} (h_s : Keep s₀ s) :
    Keep s₀ (State.wrFlags s c lam a) := by
  unfold State.wrFlags
  split
  · refine State.wr_keep ?_
    · assumption
  · assumption

theorem State.updR_keep {s₀ : State} {s : State} {p : Nat} {f : Regs → Regs} (h_s : Keep s₀ s) :
    Keep s₀ (State.updR s p f) := by
  unfold State.updR
  refine State.setPair_keep ?_
  · assumption

theorem State.raise_keep {s₀ : State} {s : State} {c : Ctx} {q : Cause} (h_s : Keep s₀ s) :
    Keep s₀ (State.raise s c q).1 := by
  unfold State.raise
  try dsimp only
  refine State.exception_keep ?_
  · assumption

theorem State.mchk_keep {s₀ : State} {s : State} {c : Ctx} {mcc : Nat} {va : Nat} {write half2 : Bool} (h_s : Keep s₀ s) :
    Keep s₀ (State.mchk s c mcc va write half2).1 := by
  unfold State.mchk
  try dsimp only
  refine State.machineCheck_keep ?_
  · assumption

theorem State.dataPieces_keep {s₀ : State} {s : State} {c : Ctx} {va : Nat} {size : Nat} {kind : Nat} (h_s : Keep s₀ s) :
    Keep s₀ (State.dataPieces s c va size kind).1 := by
  unfold State.dataPieces
  refine Keep.foldl1 ?_ _ ?_
  · intro s1 x2 h3
    split
    · try dsimp only
      assumption
    · split
      · rename_i v4 v5 e6
        have kv4 : Keep s₀ v4 := by
          rw [show v4 = _ from (congrArg (fun q => q.1) e6).symm]
          refine State.translate_keep ?_
          · assumption
        try dsimp only
        assumption
      · first
          | rename_i v7 v8 e9
            have kv7 : Keep s₀ v7 := by
              rw [show v7 = _ from (congrArg (fun q => q.1) e9).symm]
              refine State.translate_keep ?_
              · assumption
        try dsimp only
        assumption
  · try dsimp only
    assumption

theorem State.loggedAccess_keep {s₀ : State} {s : State} {p : Nat} {kind : Nat} {addr : Nat} {size : Nat} {data : Nat} {act : State → State × Nat × Nat} (h_s : Keep s₀ s) (h_act : ∀ z0, Keep s₀ z0 → Keep s₀ (act z0).1) :
    Keep s₀ (State.loggedAccess s p kind addr size data act).1 := by
  unfold State.loggedAccess
  split
  · refine Keep.ite1 ?_ ?_
    · try dsimp only
      refine State.consumeLog_keep ?_
      · assumption
    · try dsimp only
      refine State.diverge_keep ?_
      · assumption
  · try dsimp only
    try dsimp only
    refine State.logAccess_keep ?_
    · apply h_act
      · assumption

theorem State.pairRead_keep {s₀ : State} {s : State} {p : Nat} {pa : Nat} {size : Nat} (h_s : Keep s₀ s) :
    Keep s₀ (State.pairRead s p pa size).1 := by
  unfold State.pairRead
  split
  · try dsimp only
    assumption
  · refine Keep.ite1 ?_ ?_
    · try dsimp only
      refine State.recordErr_keep ?_
      · assumption
    · refine Keep.ite1 ?_ ?_
      · try dsimp only
        refine State.recordErr_keep ?_
        · assumption
      · try dsimp only
        try dsimp only
        refine State.readMem_keep ?_
        · assumption

theorem State.rawLoad_keep {s₀ : State} {s : State} {c : Ctx} {va : Nat} {size : Nat} (h_s : Keep s₀ s) :
    Keep s₀ (State.rawLoad s c va size).1 := by
  unfold State.rawLoad
  refine Keep.ite1 ?_ ?_
  · dsimp only
    assumption
  · split
    · rename_i v1 v2 v3 v4 v5 e6
      have kv2 : Keep s₀ v2 := by
        rw [show v2 = _ from (congrArg (fun q => q.1) e6).symm]
        refine State.dataPieces_keep ?_
        assumption
      dsimp only
      assumption
    · rename_i v7 v8 v9 e10
      have kv8 : Keep s₀ v8 := by
        rw [show v8 = _ from (congrArg (fun q => q.1) e10).symm]
        refine State.dataPieces_keep ?_
        assumption
      refine Keep.ite1 ?_ ?_
      · dsimp only
        assumption
      · refine Keep.ite1 ?_ ?_
        · dsimp only
          assumption
        · dsimp only
          refine Keep.foldl1 ?_ _ ?_
          · intro x11 x12 h13
            split
            · split
              · rename_i v14 v15 e16 v17 v18 v19 e20
                have kv18 : Keep s₀ v18 := by
                  rw [show v18 = _ from (congrArg (fun q => q.1) e20).symm]
                  refine State.loggedAccess_keep ?_ ?_
                  · assumption
                  · intro x21 h22
                    refine State.pairRead_keep ?_
                    assumption
                dsimp only
                assumption
              · rename_i v23 v24 e25 v26 v27 v28 v29 e30 e31
                have kv27 : Keep s₀ v27 := by
                  rw [show v27 = _ from (congrArg (fun q => q.1) e31).symm]
                  refine State.loggedAccess_keep ?_ ?_
                  · assumption
                  · intro x32 h33
                    refine State.pairRead_keep ?_
                    assumption
                dsimp only
                assumption
              · rename_i v34 v35 e36 v37 v38 e39
                have kv38 : Keep s₀ v38 := by
                  rw [show v38 = _ from (congrArg (fun q => q.1) e39).symm]
                  refine State.loggedAccess_keep ?_ ?_
                  · assumption
                  · intro x40 h41
                    refine State.pairRead_keep ?_
                    assumption
                dsimp only
                assumption
            · assumption
          · dsimp only
            assumption

theorem State.rawStore_keep {s₀ : State} {s : State} {c : Ctx} {va : Nat} {size : Nat} {v : Nat} (h_s : Keep s₀ s) :
    Keep s₀ (State.rawStore s c va size v).1 := by
  unfold State.rawStore
  refine Keep.ite1 ?_ ?_
  · dsimp only
    assumption
  · split
    · rename_i v1 v2 v3 v4 v5 e6
      have kv2 : Keep s₀ v2 := by
        rw [show v2 = _ from (congrArg (fun q => q.1) e6).symm]
        refine State.dataPieces_keep ?_
        assumption
      dsimp only
      assumption
    · rename_i v7 v8 v9 e10
      have kv8 : Keep s₀ v8 := by
        rw [show v8 = _ from (congrArg (fun q => q.1) e10).symm]
        refine State.dataPieces_keep ?_
        assumption
      refine Keep.ite1 ?_ ?_
      · dsimp only
        assumption
      · refine Keep.ite1 ?_ ?_
        · dsimp only
          assumption
        · dsimp only
          refine Keep.foldl1 ?_ _ ?_
          · intro x11 x12 h13
            split
            · split
              · rename_i v14 v15 e16 v17 v18 v19 e20
                have kv18 : Keep s₀ v18 := by
                  rw [show v18 = _ from (congrArg (fun q => q.1) e20).symm]
                  refine State.loggedAccess_keep ?_ ?_
                  · assumption
                  · intro x21 h22
                    dsimp only
                    refine State.setPair_keep ?_
                    assumption
                dsimp only
                assumption
              · rename_i v23 v24 e25 v26 v27 e28
                have kv27 : Keep s₀ v27 := by
                  rw [show v27 = _ from (congrArg (fun q => q.1) e28).symm]
                  refine State.loggedAccess_keep ?_ ?_
                  · assumption
                  · intro x29 h30
                    dsimp only
                    refine State.setPair_keep ?_
                    assumption
                dsimp only
                assumption
            · assumption
          · dsimp only
            assumption

theorem State.noteWatch_keep {s₀ : State} {s : State} {p : Nat} {va : Nat} {size : Nat} {rd : Bool} {wr : Bool} (h_s : Keep s₀ s) :
    Keep s₀ (State.noteWatch s p va size rd wr) := by
  unfold State.noteWatch
  split
  · refine State.setPair_keep ?_
    · assumption
  · assumption

theorem State.loadInto_keep {s₀ : State} {s : State} {c : Ctx} {size : Nat} {dest : Nat} {signed : Bool} {v : Nat} (h_s : Keep s₀ s) :
    Keep s₀ (State.loadInto s c size dest signed v) := by
  unfold State.loadInto
  refine Keep.ite ?_ ?_
  · refine Keep.ite ?_ ?_
    · refine State.wr_keep ?_
      · refine State.wr_keep ?_
        · assumption
    · refine State.wr_keep ?_
      · assumption
  · refine Keep.ite ?_ ?_
    · refine State.wrA_keep ?_
      · assumption
    · assumption

theorem State.baseInto_keep {s₀ : State} {s : State} {c : Ctx} {b : Option (Nat × Nat)} (h_s : Keep s₀ s) :
    Keep s₀ (State.baseInto s c b) := by
  unfold State.baseInto
  split
  · refine State.wr_keep ?_
    · assumption
  · assumption

theorem State.sendUnb_keep {s₀ : State} {s : State} {p : Nat} {u : Unb} (h_s : Keep s₀ s) :
    Keep s₀ (State.sendUnb s p u).1 := by
  unfold State.sendUnb
  split
  · refine Keep.ite1 ?_ ?_
    · dsimp only
      refine State.consumeLog_keep ?_
      assumption
    · dsimp only
      refine State.diverge_keep ?_
      assumption
  · split
    · rename_i v1 e2 v3 v4 v5 e6
      have kv4 : Keep s₀ v4 := by
        rw [show v4 = _ from (congrArg (fun q => q.1) e6).symm]
        refine State.busAccess_keep ?_
        assumption
      dsimp only
      refine State.logAccess_keep ?_
      assumption
    · rename_i v7 e8 v9 v10 e11
      have kv10 : Keep s₀ v10 := by
        rw [show v10 = _ from (congrArg (fun q => q.1) e11).symm]
        refine State.busAccess_keep ?_
        assumption
      dsimp only
      refine Keep.upd ?_
      assumption

theorem State.refuseHalf_keep {s₀ : State} {s : State} {a : Access} (h_s : Keep s₀ s) :
    Keep s₀ (State.refuseHalf s a) := by
  unfold State.refuseHalf
  split
  · refine Keep.ite ?_ ?_
    · refine State.complete_keep ?_
      assumption
    · refine State.busAccess_keep ?_
      assumption
  · refine Keep.ite ?_ ?_
    · refine State.complete_keep ?_
      assumption
    · refine State.busAccess_keep ?_
      assumption
  · refine Keep.ite ?_ ?_
    · refine State.complete_keep ?_
      assumption
    · refine State.busAccess_keep ?_
      assumption
  · refine State.busAccess_keep ?_
    assumption

theorem State.splitRefused_keep {s₀ s : State} {p va : Nat} {write : Bool} {v : Nat} {ps : List (Nat × Nat)} {r : State × Raw}
    (h_s : Keep s₀ s) (h : State.splitRefused s p va write v ps = some r) : Keep s₀ r.1 := by
  have err : ∀ (a : Access) (x : Raw),
      (match s.loggedAccess p write.toNat a.addr a.size a.data fun s => (s.refuseHalf a, 0, 3) with
        | (t, some _) => some (t, x)
        | (t, none) => some (t, Raw.dead)) = some r → Keep s₀ r.1 := by
    intro a x hx
    have k := State.loggedAccess_keep (p := p) (kind := write.toNat) (addr := a.addr) (size := a.size) (data := a.data)
      (act := fun s => (s.refuseHalf a, 0, 3)) h_s fun _ hz => State.refuseHalf_keep hz
    split at hx <;> rename_i e <;> rw [e] at k <;> cases hx <;> exact k
  unfold State.splitRefused at h
  split at h
  · rename_i pa n pb m
    dsimp only at h
    split at h
    · exact err ⟨p, pa, n, write, v % 2 ^ (8 * n)⟩ _ h
    · split at h
      · exact err ⟨p, pb, m, write, v / 2 ^ (8 * n)⟩ _ h
      · cases h
  · cases h

theorem State.startUnb_keep {s₀ : State} {s : State} {c : Ctx} {u : Unb} {ps : List (Nat × Nat)} (h_s : Keep s₀ s) :
    Keep s₀ (State.startUnb s c u ps).1 := by
  unfold State.startUnb
  refine Keep.ite1 h_s ?_
  split
  · rename_i e
    exact State.mchk_keep (State.splitRefused_keep h_s e)
  · rename_i e
    exact State.splitRefused_keep h_s e
  · have k := State.sendUnb_keep (p := c.p) (u := u.ofPieces ps) h_s
    split <;> rename_i e <;> rw [e] at k
    · exact State.setPair_keep k
    · exact k

theorem State.doLoad_keep {s₀ : State} {s : State} {c : Ctx} {base : Nat} {va : Nat} {size : Nat} {dest : Nat} {signed : Bool} {upd : Option (Nat × Nat)} (h_s : Keep s₀ s) :
    Keep s₀ (State.doLoad s c base va size dest signed upd).1 := by
  unfold State.doLoad
  refine Keep.ite1 (State.raise_keep h_s) ?_
  have h := State.rawLoad_keep (c := c) (va := va) (size := size) h_s
  split <;> rename_i e <;> rw [e] at h
  · exact State.noteWatch_keep (State.baseInto_keep (State.loadInto_keep h))
  · exact State.raise_keep h
  · exact State.mchk_keep h
  · exact h
  · exact State.startUnb_keep h
  · exact h

theorem State.doStore_keep {s₀ : State} {s : State} {c : Ctx} {base : Nat} {va : Nat} {size : Nat} {v : Nat} {upd : Option (Nat × Nat)} (h_s : Keep s₀ s) :
    Keep s₀ (State.doStore s c base va size v upd).1 := by
  unfold State.doStore
  refine Keep.ite1 (State.raise_keep h_s) ?_
  have h := State.rawStore_keep (c := c) (va := va) (size := size) (v := v) h_s
  split <;> rename_i e <;> rw [e] at h
  · exact State.noteWatch_keep (State.baseInto_keep h)
  · exact State.raise_keep h
  · exact State.mchk_keep h
  · exact h
  · exact State.startUnb_keep h
  · exact h

theorem State.lockedAccess_keep {s₀ : State} {s : State} {p : Nat} {pa : Nat} {size : Nat} {kind : Nat} {v : Nat} {cmp : Nat} (h_s : Keep s₀ s) :
    Keep s₀ (State.lockedAccess s p pa size kind v cmp).1 := by
  unfold State.lockedAccess
  dsimp only
  refine Keep.ite1 ?_ ?_
  · dsimp only
    refine State.recordErr_keep ?_
    assumption
  · refine Keep.ite1 ?_ ?_
    · dsimp only
      refine State.satF_keep ?_
      refine State.recordErr_keep ?_
      assumption
    · refine Keep.ite1 ?_ ?_
      · dsimp only
        refine State.recordErr_keep ?_
        assumption
      · refine Keep.ite1 ?_ ?_
        · dsimp only
          refine State.recordErr_keep ?_
          assumption
        · refine Keep.ite1 ?_ ?_
          · dsimp only
            refine State.readMem_keep ?_
            assumption
          · split
            · dsimp only
              refine State.writeMem_keep ?_
              refine State.readMem_keep ?_
              assumption
            · dsimp only
              refine State.readMem_keep ?_
              assumption

theorem State.doAtomic_keep {s₀ : State} {s : State} {c : Ctx} {base : Nat} {va : Nat} {size : Nat} {kind : Nat} {dest : Nat} {v : Nat} {cmp : Nat} (h_s : Keep s₀ s) :
    Keep s₀ (State.doAtomic s c base va size kind dest v cmp).1 := by
  unfold State.doAtomic
  refine Keep.ite1 ?_ ?_
  · refine State.raise_keep ?_
    assumption
  · refine Keep.ite1 ?_ ?_
    · refine State.raise_keep ?_
      assumption
    · refine Keep.ite1 ?_ ?_
      · dsimp only
        assumption
      · split
        · rename_i v1 v2 v3 e4
          have kv2 : Keep s₀ v2 := by
            rw [show v2 = _ from (congrArg (fun q => q.1) e4).symm]
            refine State.translate_keep ?_
            assumption
          refine State.raise_keep ?_
          assumption
        · rename_i v5 v6 v7 e8
          have kv6 : Keep s₀ v6 := by
            rw [show v6 = _ from (congrArg (fun q => q.1) e8).symm]
            refine State.translate_keep ?_
            assumption
          refine Keep.ite1 ?_ ?_
          · dsimp only
            assumption
          · split
            · rename_i v9 v10 e11
              have kv10 : Keep s₀ v10 := by
                rw [show v10 = _ from (congrArg (fun q => q.1) e11).symm]
                refine State.loggedAccess_keep ?_ ?_
                · assumption
                · intro x12 h13
                  refine State.lockedAccess_keep ?_
                  assumption
              dsimp only
              assumption
            · rename_i v14 v15 v16 v17 e18
              have kv15 : Keep s₀ v15 := by
                rw [show v15 = _ from (congrArg (fun q => q.1) e18).symm]
                refine State.loggedAccess_keep ?_ ?_
                · assumption
                · intro x19 h20
                  refine State.lockedAccess_keep ?_
                  assumption
              dsimp only
              refine State.setPair_keep ?_
              assumption

theorem State.stepped_keep {s₀ : State} {s : State} {p : Nat} (h_s : Keep s₀ s) :
    Keep s₀ (State.stepped s p) := by
  unfold State.stepped
  refine Keep.ite ?_ ?_
  · refine State.enterDebug_keep ?_
    · assumption
  · assumption

theorem State.advance_keep {s₀ : State} {s : State} {p : Nat} {pc : Nat} {next : Nat} {jump : Option Nat} (h_s : Keep s₀ s) :
    Keep s₀ (State.advance s p pc next jump) := by
  unfold State.advance
  try dsimp only
  refine State.setPair_keep ?_
  · assumption

theorem State.dbgAfter_keep {s₀ : State} {s : State} {p : Nat} (h_s : Keep s₀ s) :
    Keep s₀ (State.dbgAfter s p) := by
  unfold State.dbgAfter
  try dsimp only
  split
  · refine Keep.ite ?_ ?_
    · refine State.enterDebug_keep ?_
      · assumption
    · refine State.stepped_keep ?_
      · assumption
  · refine State.stepped_keep ?_
    · assumption

theorem State.finishPc_keep {s₀ : State} {s : State} {p : Nat} {pc : Nat} {next : Nat} {jump : Option Nat} (h_s : Keep s₀ s) :
    Keep s₀ (State.finishPc s p pc next jump) := by
  unfold State.finishPc
  refine State.dbgAfter_keep ?_
  · refine State.advance_keep ?_
    · assumption

theorem State.fetchAt_keep {s₀ : State} {s : State} {p : Nat} {pc : Nat} {len : Nat} {user : Bool} (h_s : Keep s₀ s) :
    Keep s₀ (State.fetchAt s p pc len user).1 := by
  unfold State.fetchAt
  split
  · rename_i v1 v2 e3
    have kv1 : Keep s₀ v1 := by
      rw [show v1 = _ from (congrArg (fun q => q.1) e3).symm]
      refine State.translate_keep ?_
      · assumption
    try dsimp only
    assumption
  · first
      | rename_i v4 v5 e6
        have kv4 : Keep s₀ v4 := by
          rw [show v4 = _ from (congrArg (fun q => q.1) e6).symm]
          refine State.translate_keep ?_
          · assumption
    split
    · rename_i v7 v8 e9
      have kv7 : Keep s₀ v7 := by
        rw [show v7 = _ from (congrArg (fun q => q.1) e9).symm]
        refine State.translate_keep ?_
        · assumption
      try dsimp only
      assumption
    · first
        | rename_i v10 v11 e12
          have kv10 : Keep s₀ v10 := by
            rw [show v10 = _ from (congrArg (fun q => q.1) e12).symm]
            refine State.translate_keep ?_
            · assumption
      try dsimp only
      assumption

theorem State.toIssue_keep {s₀ : State} {s : State} {w : WOp} {o : IOp} (h_s : Keep s₀ s) :
    Keep s₀ (State.toIssue s w o) := by
  unfold State.toIssue
  dsimp only
  refine Keep.ite ?_ ?_
  · refine State.incF_keep ?_
    refine State.setPair_keep ?_
    refine Keep.ite ?_ ?_
    · refine State.checkpointNow_keep ?_
      assumption
    · assumption
  · refine State.setPair_keep ?_
    refine Keep.ite ?_ ?_
    · refine State.checkpointNow_keep ?_
      assumption
    · assumption

theorem State.fetched_keep {s₀ : State} {s : State} {w : WOp} {o : IOp} (h_s : Keep s₀ s) :
    Keep s₀ (State.fetched s w o).1 := by
  unfold State.fetched
  try dsimp only
  refine State.fetchAt_keep ?_
  · refine State.toIssue_keep ?_
    · assumption

theorem State.issue_keep {s₀ : State} {s : State} {w : WOp} {o : IOp} {run : State → Ctx → State × Flow} (h_s : Keep s₀ s) (h_run : ∀ z0 z1, Keep s₀ z0 → Keep s₀ (run z0 z1).1) :
    Keep s₀ (State.issue s w o run) := by
  unfold State.issue
  dsimp only
  refine Keep.ite ?_ ?_
  · assumption
  · split
    · refine State.enterDebug_keep ?_
      assumption
    · split
      · rename_i v1 e2 v3 v4 v5 e6
        have kv4 : Keep s₀ v4 := by
          rw [show v4 = _ from (congrArg (fun q => q.1) e6).symm]
          refine State.fetched_keep ?_
          assumption
        refine State.stepped_keep ?_
        refine State.exception_keep ?_
        assumption
      · rename_i v7 e8 v9 v10 e11
        have kv10 : Keep s₀ v10 := by
          rw [show v10 = _ from (congrArg (fun q => q.1) e11).symm]
          refine State.fetched_keep ?_
          assumption
        refine Keep.ite ?_ ?_
        · refine State.stepped_keep ?_
          refine State.exception_keep ?_
          assumption
        · refine Keep.ite ?_ ?_
          · refine State.stepped_keep ?_
            refine State.exception_keep ?_
            assumption
          · split
            · rename_i v12 v13 e14
              have kv13 : Keep s₀ v13 := by
                rw [show v13 = _ from (congrArg (fun q => q.1) e14).symm]
                refine h_run _ _ ?_
                assumption
              refine State.finishPc_keep ?_
              refine State.setPair_keep ?_
              assumption
            · rename_i v15 v16 v17 e18
              have kv16 : Keep s₀ v16 := by
                rw [show v16 = _ from (congrArg (fun q => q.1) e18).symm]
                refine h_run _ _ ?_
                assumption
              refine State.finishPc_keep ?_
              assumption
            · rename_i v19 v20 v21 e22
              have kv20 : Keep s₀ v20 := by
                rw [show v20 = _ from (congrArg (fun q => q.1) e22).symm]
                refine h_run _ _ ?_
                assumption
              refine State.satF_keep ?_
              assumption
            · rename_i v23 v24 e25
              have kv24 : Keep s₀ v24 := by
                rw [show v24 = _ from (congrArg (fun q => q.1) e25).symm]
                refine h_run _ _ ?_
                assumption
              refine State.dbgAfter_keep ?_
              assumption
            · rename_i v26 v27 e28
              have kv27 : Keep s₀ v27 := by
                rw [show v27 = _ from (congrArg (fun q => q.1) e28).symm]
                refine h_run _ _ ?_
                assumption
              refine State.setPair_keep ?_
              assumption
            · rename_i v29 v30 e31
              have kv30 : Keep s₀ v30 := by
                rw [show v30 = _ from (congrArg (fun q => q.1) e31).symm]
                refine h_run _ _ ?_
                assumption
              refine Keep.ite ?_ ?_
              · refine State.dbgAfter_keep ?_
                refine State.setPair_keep ?_
                assumption
              · refine State.setPair_keep ?_
                assumption

theorem State.dataResponse_keep {s₀ : State} {s : State} {p : Nat} (h_s : Keep s₀ s) :
    Keep s₀ (State.dataResponse s p) := by
  unfold State.dataResponse
  split
  · assumption
  · split
    · assumption
    · dsimp only
      refine Keep.ite ?_ ?_
      · refine State.stepped_keep ?_
        refine State.mchk_keep ?_
        refine State.setPair_keep ?_
        refine Keep.ite ?_ ?_
        · assumption
        · refine State.logAccess_keep ?_
          assumption
      · split
        · split
          · rename_i v1 v2 e3 v4 v5 e6 v7 v8 e9 v10 v11 v12 e13
            have kv11 : Keep s₀ v11 := by
              rw [show v11 = _ from (congrArg (fun q => q.1) e13).symm]
              refine State.sendUnb_keep ?_
              refine State.setPair_keep ?_
              refine Keep.ite ?_ ?_
              · assumption
              · refine State.logAccess_keep ?_
                assumption
            refine State.setPair_keep ?_
            assumption
          · rename_i v14 v15 e16 v17 v18 e19 v20 v21 e22 v23 v24 e25
            have kv24 : Keep s₀ v24 := by
              rw [show v24 = _ from (congrArg (fun q => q.1) e25).symm]
              refine State.sendUnb_keep ?_
              refine State.setPair_keep ?_
              refine Keep.ite ?_ ?_
              · assumption
              · refine State.logAccess_keep ?_
                assumption
            assumption
        · refine State.finishPc_keep ?_
          refine State.noteWatch_keep ?_
          refine State.baseInto_keep ?_
          refine Keep.ite ?_ ?_
          · refine State.wr_keep ?_
            refine Keep.ite ?_ ?_
            · refine State.loadInto_keep ?_
              refine State.setPair_keep ?_
              refine Keep.ite ?_ ?_
              · assumption
              · refine State.logAccess_keep ?_
                assumption
            · refine State.setPair_keep ?_
              refine Keep.ite ?_ ?_
              · assumption
              · refine State.logAccess_keep ?_
                assumption
          · refine Keep.ite ?_ ?_
            · refine State.loadInto_keep ?_
              refine State.setPair_keep ?_
              refine Keep.ite ?_ ?_
              · assumption
              · refine State.logAccess_keep ?_
                assumption
            · refine State.setPair_keep ?_
              refine Keep.ite ?_ ?_
              · assumption
              · refine State.logAccess_keep ?_
                assumption

theorem State.startLong_keep {s₀ : State} {s : State} {c : Ctx} {unit : Nat} {cycles : Nat} {results : List (Nat × Nat)} (h_s : Keep s₀ s) :
    Keep s₀ (State.startLong s c unit cycles results).1 := by
  unfold State.startLong
  try dsimp only
  refine Keep.ite1 ?_ ?_
  · try dsimp only
    assumption
  · try dsimp only
    refine State.setPair_keep ?_
    · assumption

theorem State.longResult_keep {s₀ : State} {s : State} {p : Nat} (h_s : Keep s₀ s) :
    Keep s₀ (State.longResult s p) := by
  unfold State.longResult
  try dsimp only
  refine State.setPair_keep ?_
  · assumption

theorem State.setLrs_keep {s₀ : State} {s : State} {p : Nat} {l : LrSt} (h_s : Keep s₀ s) :
    Keep s₀ (State.setLrs s p l) := by
  unfold State.setLrs
  refine State.setPair_keep ?_
  assumption

theorem State.lrOne_keep {s₀ : State} {s : State} {p : Nat} {va : Nat} {up : Bool} {a : Access} (h_s : Keep s₀ s) :
    Keep s₀ (State.lrOne s p va up a).1 := by
  unfold State.lrOne
  dsimp only
  split
  · refine Keep.ite1 ?_ ?_
    · dsimp only
      refine State.consumeLog_keep ?_
      assumption
    · dsimp only
      refine State.diverge_keep ?_
      assumption
  · split
    · rename_i v1 e2 v3 v4 e5
      have kv4 : Keep s₀ v4 := by
        rw [show v4 = _ from (congrArg (fun q => q.1) e5).symm]
        refine Keep.ite1 ?_ ?_
        · dsimp only
          assumption
        · refine State.busAccess_keep ?_
          assumption
      dsimp only
      refine State.setLrs_keep ?_
      refine Keep.upd ?_
      assumption
    · rename_i v6 e7 v8 v9 v10 e11
      have kv9 : Keep s₀ v9 := by
        rw [show v9 = _ from (congrArg (fun q => q.1) e11).symm]
        refine Keep.ite1 ?_ ?_
        · dsimp only
          assumption
        · refine State.busAccess_keep ?_
          assumption
      dsimp only
      refine State.setLrs_keep ?_
      refine State.logAccess_keep ?_
      assumption

theorem State.lrSend_keep {s₀ : State} {s : State} {p : Nat} {va : Nat} {write : Bool} {v : Nat} {ps : List (Nat × Nat)} (h_s : Keep s₀ s) :
    Keep s₀ (State.lrSend s p va write v ps).1 := by
  unfold State.lrSend
  split
  · rename_i e
    exact State.splitRefused_keep h_s e
  split
  · dsimp only
    split
    · rename_i v1 v2 v3 v4 v5 v6 v7 v8 e9
      have kv7 : Keep s₀ v7 := by
        rw [show v7 = _ from (congrArg (fun q => q.1) e9).symm]
        split
        · dsimp only
          assumption
        · refine State.lrOne_keep ?_
          assumption
      split
      · rename_i v10 v11 v12 e13
        have kv11 : Keep s₀ v11 := by
          rw [show v11 = _ from (congrArg (fun q => q.1) e13).symm]
          refine State.lrOne_keep ?_
          refine State.setLrs_keep ?_
          assumption
        dsimp only
        refine State.setLrs_keep ?_
        assumption
      · refine State.lrOne_keep ?_
        refine State.setLrs_keep ?_
        assumption
    · split
      · dsimp only
        assumption
      · refine State.lrOne_keep ?_
        assumption
  · refine State.lrOne_keep ?_
    assumption
  · dsimp only
    assumption

theorem State.lrTry_keep {s₀ : State} {s : State} {c : Ctx} {base : Nat} {va : Nat} {size : Nat} {write : Bool} {v : Nat} (h_s : Keep s₀ s) :
    Keep s₀ (State.lrTry s c base va size write v).1 := by
  unfold State.lrTry
  refine Keep.ite1 ?_ ?_
  · dsimp only
    assumption
  · dsimp only
    split
    · dsimp only
      refine State.setLrs_keep ?_
      refine State.noteWatch_keep ?_
      split
      · refine Keep.ite1 ?_ ?_
        · refine State.lrSend_keep ?_
          refine State.drainAll_keep ?_
          split
          · refine Keep.ite1 ?_ ?_
            · refine State.rawStore_keep ?_
              refine State.drainAll_keep ?_
              assumption
            · refine State.rawLoad_keep ?_
              refine State.drainAll_keep ?_
              assumption
          · refine Keep.ite1 ?_ ?_
            · refine State.rawStore_keep ?_
              assumption
            · refine State.rawLoad_keep ?_
              assumption
        · dsimp only
          refine State.drainAll_keep ?_
          split
          · refine Keep.ite1 ?_ ?_
            · refine State.rawStore_keep ?_
              refine State.drainAll_keep ?_
              assumption
            · refine State.rawLoad_keep ?_
              refine State.drainAll_keep ?_
              assumption
          · refine Keep.ite1 ?_ ?_
            · refine State.rawStore_keep ?_
              assumption
            · refine State.rawLoad_keep ?_
              assumption
      · split
        · refine Keep.ite1 ?_ ?_
          · refine State.rawStore_keep ?_
            refine State.drainAll_keep ?_
            assumption
          · refine State.rawLoad_keep ?_
            refine State.drainAll_keep ?_
            assumption
        · refine Keep.ite1 ?_ ?_
          · refine State.rawStore_keep ?_
            assumption
          · refine State.rawLoad_keep ?_
            assumption
    · split
      · refine Keep.ite1 ?_ ?_
        · refine State.lrSend_keep ?_
          refine State.drainAll_keep ?_
          split
          · refine Keep.ite1 ?_ ?_
            · refine State.rawStore_keep ?_
              refine State.drainAll_keep ?_
              assumption
            · refine State.rawLoad_keep ?_
              refine State.drainAll_keep ?_
              assumption
          · refine Keep.ite1 ?_ ?_
            · refine State.rawStore_keep ?_
              assumption
            · refine State.rawLoad_keep ?_
              assumption
        · dsimp only
          refine State.drainAll_keep ?_
          split
          · refine Keep.ite1 ?_ ?_
            · refine State.rawStore_keep ?_
              refine State.drainAll_keep ?_
              assumption
            · refine State.rawLoad_keep ?_
              refine State.drainAll_keep ?_
              assumption
          · refine Keep.ite1 ?_ ?_
            · refine State.rawStore_keep ?_
              assumption
            · refine State.rawLoad_keep ?_
              assumption
      · split
        · refine Keep.ite1 ?_ ?_
          · refine State.rawStore_keep ?_
            refine State.drainAll_keep ?_
            assumption
          · refine State.rawLoad_keep ?_
            refine State.drainAll_keep ?_
            assumption
        · refine Keep.ite1 ?_ ?_
          · refine State.rawStore_keep ?_
            assumption
          · refine State.rawLoad_keep ?_
            assumption

theorem State.lrAccess_keep {s₀ : State} {s : State} {c : Ctx} {base : Nat} {va : Nat} {size : Nat} {write : Bool} {v : Nat} (h_s : Keep s₀ s) :
    Keep s₀ (State.lrAccess s c base va size write v).1 := by
  unfold State.lrAccess
  dsimp only
  refine Keep.ite1 ?_ ?_
  · dsimp only
    refine State.setLrs_keep ?_
    assumption
  · refine State.lrTry_keep ?_
    assumption

theorem Elem.load_keep {s₀ : State} {q : State × Raw} {va : Nat} {k : State → Nat → State × Elem} (h_q : Keep s₀ q.1) (h_k : ∀ z0 z1, Keep s₀ z0 → Keep s₀ (k z0 z1).1) :
    Keep s₀ (Elem.load q va k).1 := by
  unfold Elem.load
  split
  · apply h_k
    · assumption
  · try dsimp only
    assumption

theorem Elem.store_keep {s₀ : State} {q : State × Raw} {va : Nat} (h_q : Keep s₀ q.1) :
    Keep s₀ (Elem.store q va).1 := by
  unfold Elem.store
  split
  · try dsimp only
    assumption
  · try dsimp only
    assumption

theorem lrLoop_keep {s₀ : State} {step : State → Nat → State × Elem} {n fuel : Nat} {s : State} {k : Nat} (h_s : Keep s₀ s)
    (h_step : ∀ z0 z1, Keep s₀ z0 → Keep s₀ (step z0 z1).1) : Keep s₀ (lrLoop step n fuel s k).1 := by
  induction fuel generalizing s k with
  | zero => exact h_s
  | succ f ih =>
    unfold lrLoop
    refine Keep.ite1 h_s ?_
    have h := h_step s k h_s
    split
    · rename_i v e
      rw [e] at h
      exact ih h
    · rename_i v w _ e
      rw [e] at h
      exact h

theorem State.lrBegin_keep {s₀ : State} {s : State} {p : Nat} (h_s : Keep s₀ s) :
    Keep s₀ (State.lrBegin s p) := by
  unfold State.lrBegin
  refine State.setLrs_keep ?_
  assumption

theorem State.lrEnd_keep {s₀ : State} {s : State} {p : Nat} (h_s : Keep s₀ s) :
    Keep s₀ (State.lrEnd s p) := by
  unfold State.lrEnd
  refine State.setLrs_keep ?_
  assumption

theorem lrElem_keep {s₀ : State} {p : Nat} {step : State → Nat → State × Elem} {s : State} {k : Nat} (h_step : ∀ z0 z1, Keep s₀ z0 → Keep s₀ (step z0 z1).1) (h_s : Keep s₀ s) :
    Keep s₀ (lrElem p step s k).1 := by
  unfold lrElem
  split
  · rename_i v1 v2 v3 v4 v5 e6
    have kv2 : Keep s₀ v2 := by
      rw [show v2 = _ from (congrArg (fun q => q.1) e6).symm]
      refine h_step _ _ ?_
      refine State.lrBegin_keep ?_
      assumption
    dsimp only
    assumption
  · rename_i v7 v8 v9 e10 e11
    have kv8 : Keep s₀ v8 := by
      rw [show v8 = _ from (congrArg (fun q => q.1) e11).symm]
      refine h_step _ _ ?_
      refine State.lrBegin_keep ?_
      assumption
    dsimp only
    refine State.lrEnd_keep ?_
    assumption

theorem State.lrResume_keep {s₀ : State} {s : State} {p : Nat} (h_s : Keep s₀ s) :
    Keep s₀ (State.lrResume s p) := by
  unfold State.lrResume
  dsimp only
  refine Keep.ite ?_ ?_
  · assumption
  · refine State.setLrs_keep ?_
    assumption

theorem State.runLr_keep {s₀ : State} {s : State} {c : Ctx} {n : Nat} {k : Nat} {cyc : Nat} {progOf : Nat → Nat} {step : State → Nat → State × Elem} {fin : State → Option Nat → State} (h_s : Keep s₀ s) (h_step : ∀ z0 z1, Keep s₀ z0 → Keep s₀ (step z0 z1).1) (h_fin : ∀ z0 z1, Keep s₀ z0 → Keep s₀ (fin z0 z1)) :
    Keep s₀ (State.runLr s c n k cyc progOf step fin).1 := by
  unfold State.runLr
  have hr : Keep s₀ (lrLoop (lrElem c.p step) n (s.lrFuel c.p) (s.lrResume c.p) k).1 :=
    lrLoop_keep (State.lrResume_keep h_s) fun _ _ h => lrElem_keep h_step h
  dsimp only
  generalize lrLoop (lrElem c.p step) n (s.lrFuel c.p) (s.lrResume c.p) k = r at hr ⊢
  have h1 : Keep s₀ (r.1.setPair c.p { r.1.pair c.p with dist := c.d + max 1 ((r.2.1 - k) * cyc) - 1 }) := State.setPair_keep hr
  generalize r.1.setPair c.p { r.1.pair c.p with dist := c.d + max 1 ((r.2.1 - k) * cyc) - 1 } = s1 at h1 ⊢
  have h2 : Keep s₀ (s1.updR c.p fun g => { g with prog := progOf r.2.1 }) := State.updR_keep h1
  generalize (s1.updR c.p fun g => { g with prog := progOf r.2.1 }) = s2 at h2 ⊢
  have h3 : Keep s₀ (s2.setLrs c.p {}) := State.setLrs_keep h2
  generalize s2.setLrs c.p {} = s3 at h3 ⊢
  split
  · exact State.raise_keep h3
  · exact State.raise_keep h3
  · exact State.mchk_keep h3
  · exact h1
  · exact State.setLrs_keep h2
  · exact State.setLrs_keep (State.updR_keep (h_fin _ _ h1))
  · refine Keep.ite1 h3 ?_
    exact State.setLrs_keep (State.updR_keep (h_fin _ _ h1))

theorem State.lrResult_keep {s₀ : State} {s : State} {c : Ctx} {dest : Nat} {v : Nat} (h_s : Keep s₀ s) :
    Keep s₀ (State.lrResult s c dest v) := by
  unfold State.lrResult
  refine State.wr_keep ?_
  · assumption

end Sys2Proof.Machine
end

