-- ==== Sys2Proof/Laws/KeepCoreForms.lean ====
section
/-! SUPPORT. Laws/KeepCoreForms.lean: every operation of Machine/CoreForms.lean keeps what Laws/Keep.lean says. -/

namespace Sys2Proof.Machine

theorem State.give_keep {s₀ : State} {s : State} {c : Ctx} {acc72 : Bool} {writes : Bool} {lam : Nat} {dest : Nat} {a : Alu} (h_s : Keep s₀ s) :
    Keep s₀ (State.give s c acc72 writes lam dest a).1 := by
  unfold State.give
  refine Keep.ite1 ?_ ?_
  · try dsimp only
    refine State.wrAlu_keep ?_
    · assumption
  · try dsimp only
    refine State.wrFlags_keep ?_
    · assumption

theorem State.aluXY_keep {s₀ : State} {s : State} {w : WOp} {x : Nat} {y : Nat} {acc : List Nat} {mayL : Bool} {writes : Bool} {flags : Bool} {isCount : Bool} {lam : Nat} {f : Regs → Nat → Nat → Alu} (h_s : Keep s₀ s) :
    Keep s₀ (State.aluXY s w x y acc mayL writes flags isCount lam f) := by
  unfold State.aluXY
  try dsimp only
  refine State.issue_keep ?_ ?_
  · assumption
  · intro x1 x2 h3
    refine Keep.ite1 ?_ ?_
    · try dsimp only
      assumption
    · try dsimp only
      refine State.give_keep ?_
      · assumption

theorem State.aluXI_keep {s₀ : State} {s : State} {w : WOp} {x : Nat} {imm : Nat} {acc : List Nat} {writes : Bool} {lam : Nat} {f : Nat → Nat → Alu} (h_s : Keep s₀ s) :
    Keep s₀ (State.aluXI s w x imm acc writes lam f) := by
  unfold State.aluXI
  refine State.issue_keep ?_ ?_
  · assumption
  · intro x1 x2 h3
    refine State.give_keep ?_
    · assumption

theorem State.aluX_keep {s₀ : State} {s : State} {w : WOp} {x : Nat} {acc : List Nat} {flags : Bool} {lam : Nat} {f : Nat → Alu} (h_s : Keep s₀ s) :
    Keep s₀ (State.aluX s w x acc flags lam f) := by
  unfold State.aluX
  try dsimp only
  refine State.issue_keep ?_ ?_
  · assumption
  · intro x1 x2 h3
    try dsimp only
    refine State.give_keep ?_
    · assumption

theorem State.shiftXK_keep {s₀ : State} {s : State} {w : WOp} {x : Nat} {k : Nat} {acc : List Nat} {f : Nat → Nat → Alu} (h_s : Keep s₀ s) :
    Keep s₀ (State.shiftXK s w x k acc f) := by
  unfold State.shiftXK
  try dsimp only
  refine State.issue_keep ?_ ?_
  · assumption
  · intro x1 x2 h3
    try dsimp only
    refine State.give_keep ?_
    · assumption

theorem State.toG_keep {s₀ : State} {s : State} {w : WOp} {o : IOp} {d : Nat} {lam : Nat} {f : Regs → Nat} (h_s : Keep s₀ s) :
    Keep s₀ (State.toG s w o d lam f) := by
  unfold State.toG
  refine State.issue_keep ?_ ?_
  · assumption
  · intro x1 x2 h3
    try dsimp only
    refine State.wr_keep ?_
    · assumption

theorem State.toA_keep {s₀ : State} {s : State} {w : WOp} {o : IOp} {d : Nat} {f : Regs → Nat} (h_s : Keep s₀ s) :
    Keep s₀ (State.toA s w o d f) := by
  unfold State.toA
  refine State.issue_keep ?_ ?_
  · assumption
  · intro x1 x2 h3
    try dsimp only
    refine State.wrA_keep ?_
    · assumption

theorem State.accumulate_keep {s₀ : State} {s : State} {w : WOp} {x : Nat} {y : Nat} {f : Int → Int → Int} (h_s : Keep s₀ s) :
    Keep s₀ (State.accumulate s w x y f) := by
  unfold State.accumulate
  try dsimp only
  refine State.issue_keep ?_ ?_
  · assumption
  · intro x1 x2 h3
    try dsimp only
    refine State.orSat_keep ?_
    · refine State.wrA_keep ?_
      · assumption

theorem State.loadI_keep {s₀ : State} {s : State} {w : WOp} {x : Nat} {m : Nat} {disp : Nat} {size : Nat} {signed : Bool} {toAcc : Bool} (h_s : Keep s₀ s) :
    Keep s₀ (State.loadI s w x m disp size signed toAcc) := by
  unfold State.loadI
  refine State.issue_keep ?_ ?_
  · assumption
  · intro x1 x2 h3
    try dsimp only
    refine State.doLoad_keep ?_
    · assumption

theorem State.storeI_keep {s₀ : State} {s : State} {w : WOp} {x : Nat} {m : Nat} {disp : Nat} {size : Nat} (h_s : Keep s₀ s) :
    Keep s₀ (State.storeI s w x m disp size) := by
  unfold State.storeI
  try dsimp only
  refine State.issue_keep ?_ ?_
  · assumption
  · intro x1 x2 h3
    try dsimp only
    refine State.doStore_keep ?_
    · assumption

theorem State.storeA_keep {s₀ : State} {s : State} {w : WOp} {x : Nat} {m : Nat} {disp : Nat} (h_s : Keep s₀ s) :
    Keep s₀ (State.storeA s w x m disp) := by
  unfold State.storeA
  try dsimp only
  refine State.issue_keep ?_ ?_
  · assumption
  · intro x1 x2 h3
    try dsimp only
    split
    · rename_i v4 e5
      have kv4 : Keep s₀ v4 := by
        rw [show v4 = _ from (congrArg (fun q => q.1) e5).symm]
        refine State.doStore_keep ?_
        · assumption
      try dsimp only
      refine State.orSat_keep ?_
      · assumption
    · rename_i v6 e7
      have kv6 : Keep s₀ v6 := by
        rw [show v6 = _ from (congrArg (fun q => q.1) e7).symm]
        refine State.doStore_keep ?_
        · assumption
      try dsimp only
      refine State.orSat_keep ?_
      · assumption
    · first
        | assumption
        | refine State.doStore_keep ?_
          · assumption

theorem State.atomicI_keep {s₀ : State} {s : State} {w : WOp} {wide : Bool} {x : Nat} {m : Nat} {disp : Nat} {kind : Nat} {y : Option Nat} (h_s : Keep s₀ s) :
    Keep s₀ (State.atomicI s w wide x m disp kind y) := by
  unfold State.atomicI
  try dsimp only
  refine State.issue_keep ?_ ?_
  · assumption
  · intro x1 x2 h3
    try dsimp only
    refine State.doAtomic_keep ?_
    · assumption

theorem State.branchD_keep {s₀ : State} {s : State} {w : WOp} {disp : Nat} {ok : Bool} {dests : List Nat} {act : State → Ctx → State} {taken : Regs → Bool} (h_s : Keep s₀ s) (h_act : ∀ z0 z1, Keep s₀ z0 → Keep s₀ (act z0 z1)) :
    Keep s₀ (State.branchD s w disp ok dests act taken) := by
  unfold State.branchD
  refine State.issue_keep ?_ ?_
  · assumption
  · intro x1 x2 h3
    try dsimp only
    apply h_act
    · assumption

theorem State.branchX_keep {s₀ : State} {s : State} {w : WOp} {ok : Bool} {dests : List Nat} {act : State → Ctx → State} {to_ : Ctx → Regs → Nat} (h_s : Keep s₀ s) (h_act : ∀ z0 z1, Keep s₀ z0 → Keep s₀ (act z0 z1)) :
    Keep s₀ (State.branchX s w ok dests act to_) := by
  unfold State.branchX
  refine State.issue_keep ?_ ?_
  · assumption
  · intro x1 x2 h3
    try dsimp only
    apply h_act
    · assumption

theorem State.startLoop_keep {s₀ : State} {s : State} {w : WOp} {c : Ctx} {disp : Nat} {n : Nat} (h_s : Keep s₀ s) :
    Keep s₀ (State.startLoop s w c disp n).1 := by
  unfold State.startLoop
  try dsimp only
  refine State.setPair_keep ?_
  · assumption

theorem State.longXY_keep {s₀ : State} {s : State} {w : WOp} {x : Nat} {y : Nat} {unit : Nat} {cycles : Nat} {acc : List Nat} {f : Nat → Nat → Nat} (h_s : Keep s₀ s) :
    Keep s₀ (State.longXY s w x y unit cycles acc f) := by
  unfold State.longXY
  refine State.issue_keep ?_ ?_
  · assumption
  · intro x1 x2 h3
    try dsimp only
    refine State.startLong_keep ?_
    · assumption

theorem State.longX_keep {s₀ : State} {s : State} {w : WOp} {x : Nat} {unit : Nat} {cycles : Nat} {acc : List Nat} {ok : Bool} {f : Nat → List (Nat × Nat)} (h_s : Keep s₀ s) :
    Keep s₀ (State.longX s w x unit cycles acc ok f) := by
  unfold State.longX
  refine State.issue_keep ?_ ?_
  · assumption
  · intro x1 x2 h3
    refine State.startLong_keep ?_
    · assumption

theorem State.matrixAt_keep {s₀ : State} {s : State} {c : Ctx} {va n0 : Nat} {t : State} {l : List Nat} (h_s : Keep s₀ s)
    (h_t : Keep s₀ t) : Keep s₀ (State.matrixAt s c va n0 t l).1 := by
  induction n0 generalizing t l with
  | zero => exact h_t
  | succ f ih =>
    unfold State.matrixAt
    have h := State.rawLoad_keep (c := c) (va := (va + 4 * l.length) % 2 ^ 32) (size := 4) h_t
    try dsimp only
    split
    · rename_i v e
      rw [e] at h
      exact ih h
    · rename_i v w _ e
      rw [e] at h
      exact h

theorem State.mv3Bad_keep {s₀ : State} {s : State} {c : Ctx} {va : Nat} (h_s : Keep s₀ s) :
    Keep s₀ (State.mv3Bad s c va).1 := by
  unfold State.mv3Bad
  try dsimp only
  refine Keep.foldl1 ?_ _ ?_
  · intro s1 x2 h3
    try dsimp only
    split
    · rename_i v4 v5 e6
      have kv4 : Keep s₀ v4 := by
        rw [show v4 = _ from (congrArg (fun q => q.1) e6).symm]
        refine State.translate_keep ?_
        · assumption
      try dsimp only
      assumption
    · rename_i v7 v8 e9
      have kv7 : Keep s₀ v7 := by
        rw [show v7 = _ from (congrArg (fun q => q.1) e9).symm]
        refine State.translate_keep ?_
        · assumption
      try dsimp only
      assumption
  · try dsimp only
    assumption

theorem State.startMv3_keep {s₀ : State} {s : State} {w : WOp} {c : Ctx} {x : Nat} {y : Nat} (h_s : Keep s₀ s) :
    Keep s₀ (State.startMv3 s w c x y).1 := by
  unfold State.startMv3
  dsimp only
  refine Keep.ite1 ?_ ?_
  · dsimp only
    assumption
  · refine Keep.ite1 ?_ ?_
    · refine State.raise_keep ?_
      assumption
    · split
      · rename_i v1 v2 v3 e4
        have kv2 : Keep s₀ v2 := by
          rw [show v2 = _ from (congrArg (fun q => q.1) e4).symm]
          refine State.mv3Bad_keep ?_
          assumption
        refine State.raise_keep ?_
        refine State.draw_keep ?_
        assumption
      · rename_i v5 v6 v7 v8 e9 e10
        have kv6 : Keep s₀ v6 := by
          rw [show v6 = _ from (congrArg (fun q => q.1) e10).symm]
          refine State.mv3Bad_keep ?_
          assumption
        refine State.raise_keep ?_
        assumption
      · rename_i v11 v12 e13
        have kv12 : Keep s₀ v12 := by
          rw [show v12 = _ from (congrArg (fun q => q.1) e13).symm]
          refine State.mv3Bad_keep ?_
          assumption
        split
        · rename_i v14 v15 v16 e17
          have kv15 : Keep s₀ v15 := by
            rw [show v15 = _ from (congrArg (fun q => q.1) e17).symm]
            refine State.matrixAt_keep ?_ ?_
            · assumption
            · assumption
          refine State.startLong_keep ?_
          refine State.noteWatch_keep ?_
          assumption
        · rename_i v18 v19 v20 v21 v22 v23 e24
          have kv19 : Keep s₀ v19 := by
            rw [show v19 = _ from (congrArg (fun q => q.1) e24).symm]
            refine State.matrixAt_keep ?_ ?_
            · assumption
            · assumption
          refine State.mchk_keep ?_
          assumption
        · rename_i v25 v26 v27 e28
          have kv26 : Keep s₀ v26 := by
            rw [show v26 = _ from (congrArg (fun q => q.1) e28).symm]
            refine State.matrixAt_keep ?_ ?_
            · assumption
            · assumption
          dsimp only
          assumption
        · rename_i v29 v30 v31 e32 e33 e34
          have kv30 : Keep s₀ v30 := by
            rw [show v30 = _ from (congrArg (fun q => q.1) e34).symm]
            refine State.matrixAt_keep ?_ ?_
            · assumption
            · assumption
          dsimp only
          assumption

theorem State.lrStart_keep {s₀ : State} {s : State} {c : Ctx} {n : Nat} {limit : Nat} {none_ : State → State} {go : State → Nat → State × Flow} (h_s : Keep s₀ s) (h_none_ : ∀ z0, Keep s₀ z0 → Keep s₀ (none_ z0)) (h_go : ∀ z0 z1, Keep s₀ z0 → Keep s₀ (go z0 z1).1) :
    Keep s₀ (State.lrStart s c n limit none_ go).1 := by
  unfold State.lrStart
  try dsimp only
  refine Keep.ite1 ?_ ?_
  · refine State.raise_keep ?_
    · assumption
  · refine Keep.ite1 ?_ ?_
    · try dsimp only
      refine State.updR_keep ?_
      · apply h_none_
        · assumption
    · apply h_go
      · assumption

theorem bmovElem_keep {s₀ : State} {c : Ctx} {d : Nat} {a : Nat} {to_ : Nat} {from_ : Nat} {s : State} {k : Nat} (h_s : Keep s₀ s) :
    Keep s₀ (bmovElem c d a to_ from_ s k).1 := by
  unfold bmovElem
  try dsimp only
  refine Elem.load_keep ?_ ?_
  · refine State.lrAccess_keep ?_
    · assumption
  · intro x1 x2 h3
    refine Elem.store_keep ?_
    · refine State.lrAccess_keep ?_
      · assumption

theorem State.lrBmov_keep {s₀ : State} {s : State} {c : Ctx} {d : Nat} {a : Nat} {n : Nat} {k : Nat} (h_s : Keep s₀ s) :
    Keep s₀ (State.lrBmov s c d a n k).1 := by
  unfold State.lrBmov
  try dsimp only
  refine State.runLr_keep ?_ ?_ ?_
  · assumption
  · intro x1 x2 h3
    refine bmovElem_keep ?_
    · assumption
  · intro x4 x5 h6
    assumption

theorem bfillElem_keep {s₀ : State} {c : Ctx} {d : Nat} {to_ : Nat} {v : Nat} {s : State} {k : Nat} (h_s : Keep s₀ s) :
    Keep s₀ (bfillElem c d to_ v s k).1 := by
  unfold bfillElem
  try dsimp only
  refine Elem.store_keep ?_
  · refine State.lrAccess_keep ?_
    · assumption

theorem State.lrBfill_keep {s₀ : State} {s : State} {c : Ctx} {d : Nat} {b : Nat} {n : Nat} {k : Nat} (h_s : Keep s₀ s) :
    Keep s₀ (State.lrBfill s c d b n k).1 := by
  unfold State.lrBfill
  try dsimp only
  refine State.runLr_keep ?_ ?_ ?_
  · assumption
  · intro x1 x2 h3
    refine bfillElem_keep ?_
    · assumption
  · intro x4 x5 h6
    assumption

theorem tsrchElem_keep {s₀ : State} {c : Ctx} {a : Nat} {from_ : Nat} {v : Nat} {s : State} {k : Nat} (h_s : Keep s₀ s) :
    Keep s₀ (tsrchElem c a from_ v s k).1 := by
  unfold tsrchElem
  try dsimp only
  refine Elem.load_keep ?_ ?_
  · refine State.lrAccess_keep ?_
    · assumption
  · intro x1 x2 h3
    try dsimp only
    assumption

theorem State.lrTsrch_keep {s₀ : State} {s : State} {c : Ctx} {d : Nat} {a : Nat} {b : Nat} {n : Nat} {k : Nat} (h_s : Keep s₀ s) :
    Keep s₀ (State.lrTsrch s c d a b n k).1 := by
  unfold State.lrTsrch
  try dsimp only
  refine State.runLr_keep ?_ ?_ ?_
  · assumption
  · intro x1 x2 h3
    refine tsrchElem_keep ?_
    · assumption
  · intro x4 x5 h6
    refine State.lrResult_keep ?_
    · assumption

theorem State.lrWords_keep {s₀ : State} {s : State} {c : Ctx} {base va n0 : Nat} {t : State} {l : List Nat} (h_s : Keep s₀ s)
    (h_t : Keep s₀ t) : Keep s₀ (State.lrWords s c base va n0 t l).1 := by
  induction n0 generalizing t l with
  | zero => exact h_t
  | succ f ih =>
    unfold State.lrWords
    have h := State.lrAccess_keep (c := c) (base := base) (va := word32 va l.length) (size := 4) (write := false) (v := 0) h_t
    try dsimp only
    split
    · rename_i v e
      rw [e] at h
      exact ih h
    · rename_i v w _ e
      rw [e] at h
      exact h

theorem State.lrStores_keep {s₀ : State} {s : State} {c : Ctx} {base va n0 : Nat} {l : List Nat} (h_s : Keep s₀ s) :
    Keep s₀ (State.lrStores s c base va n0 l).1 := by
  induction l generalizing s n0 with
  | nil => exact h_s
  | cons x l ih =>
    unfold State.lrStores
    have h := State.lrAccess_keep (c := c) (base := base) (va := word32 va n0) (size := 4) (write := true) (v := x) h_s
    try dsimp only
    split
    · rename_i v e
      rw [e] at h
      exact ih h
    · rename_i v w _ e
      rw [e] at h
      exact h

theorem State.storeFault_keep {s₀ : State} {c : Ctx} {base va n i : Nat} {s : State} (h_s : Keep s₀ s) :
    Keep s₀ (State.storeFault s c base va n i).1 := by
  induction n generalizing s i with
  | zero => exact h_s
  | succ n ih =>
    unfold State.storeFault
    dsimp only
    refine Keep.ite1 h_s ?_
    have h := State.dataPieces_keep (c := c) (va := word32 va i) (size := 4) (kind := 2) h_s
    split <;> rename_i e <;> rw [e] at h
    · exact h
    · exact ih h

theorem State.lrVector_keep {s₀ s : State} {c : Ctx} {base va : Nat} {vs : List Nat} (h_s : Keep s₀ s) :
    Keep s₀ (State.lrVector s c base va vs).1 := by
  unfold State.lrVector
  split
  · exact State.lrStores_keep h_s
  · exact Elem.store_keep (State.lrTry_keep h_s)
  · exact h_s

theorem mvmElem_keep {s₀ : State} {mode : Nat} {m : List Nat} {c : Ctx} {d : Nat} {a : Nat} {to_ : Nat} {from_ : Nat} {s : State} {k : Nat} (h_s : Keep s₀ s) :
    Keep s₀ (mvmElem mode m c d a to_ from_ s k).1 := by
  unfold mvmElem
  dsimp only
  have h := State.lrWords_keep (c := c) (base := a) (va := (from_ + 12 * k) % 2 ^ 32) (n0 := 3) (l := []) h_s h_s
  split <;> rename_i e <;> rw [e] at h
  · exact h
  · have h1 := State.storeFault_keep (c := c) (base := d) (va := (to_ + 12 * k) % 2 ^ 32) (n := 3) (i := 0) h
    split <;> rename_i e1 <;> rw [e1] at h1
    · exact h1
    · exact State.lrVector_keep h1

theorem State.lrMatrix_keep {s₀ : State} {s : State} {c : Ctx} {b : Nat} {va : Nat} (h_s : Keep s₀ s) :
    Keep s₀ (State.lrMatrix s c b va).1 := by
  unfold State.lrMatrix
  refine Keep.ite1 ?_ ?_
  · split
    · rename_i v1 v2 v3 e4
      have kv2 : Keep s₀ v2 := by
        rw [show v2 = _ from (congrArg (fun q => q.1) e4).symm]
        refine State.lrWords_keep ?_ ?_
        · assumption
        · refine State.lrBegin_keep ?_
          assumption
      dsimp only
      refine State.setLrs_keep ?_
      refine State.lrEnd_keep ?_
      assumption
    · refine State.lrWords_keep ?_ ?_
      · assumption
      · refine State.lrBegin_keep ?_
        assumption
  · dsimp only
    assumption

theorem State.lrMvm_keep {s₀ : State} {s : State} {w : WOp} {c : Ctx} {d : Nat} {a : Nat} {b : Nat} {n : Nat} {k : Nat} (h_s : Keep s₀ s) :
    Keep s₀ (State.lrMvm s w c d a b n k).1 := by
  unfold State.lrMvm
  dsimp only
  refine Keep.ite1 ?_ ?_
  · dsimp only
    assumption
  · refine State.runLr_keep ?_ ?_ ?_
    · assumption
    · intro x1 x2 h3
      split
      · rename_i v4 v5 v6 v7 e8
        have kv5 : Keep s₀ v5 := by
          rw [show v5 = _ from (congrArg (fun q => q.1) e8).symm]
          refine State.lrMatrix_keep ?_
          assumption
        dsimp only
        assumption
      · rename_i v9 v10 v11 e12
        have kv10 : Keep s₀ v10 := by
          rw [show v10 = _ from (congrArg (fun q => q.1) e12).symm]
          refine State.lrMatrix_keep ?_
          assumption
        refine mvmElem_keep ?_
        refine State.lrBegin_keep ?_
        assumption
    · intro x13 x14 h15
      assumption

theorem State.sortStep_keep {s₀ : State} {s : State} {c : Ctx} {d : Nat} {a : Nat} {n : Nat} {passes : Nat} {e : Nat} (h_s : Keep s₀ s) :
    Keep s₀ (State.sortStep s c d a n passes e).1 := by
  unfold State.sortStep
  try dsimp only
  refine Keep.ite1 ?_ ?_
  · refine Elem.load_keep ?_ ?_
    · refine State.lrAccess_keep ?_
      · assumption
    · intro x1 x2 h3
      try dsimp only
      refine Elem.store_keep ?_
      · refine State.lrAccess_keep ?_
        · assumption
  · try dsimp only
    try dsimp only
    refine Keep.ite1 ?_ ?_
    · refine Elem.load_keep ?_ ?_
      · refine State.lrAccess_keep ?_
        · assumption
      · intro x4 x5 h6
        try dsimp only
        refine State.updR_keep ?_
        · try dsimp only
          refine Elem.store_keep ?_
          · refine State.lrAccess_keep ?_
            · assumption
    · refine Keep.ite1 ?_ ?_
      · refine Elem.load_keep ?_ ?_
        · refine State.lrAccess_keep ?_
          · assumption
        · intro x7 x8 h9
          try dsimp only
          refine State.updR_keep ?_
          · try dsimp only
            refine Elem.store_keep ?_
            · refine State.lrAccess_keep ?_
              · assumption
      · refine Elem.load_keep ?_ ?_
        · refine State.lrAccess_keep ?_
          · assumption
        · intro x10 x11 h12
          refine Elem.load_keep ?_ ?_
          · refine State.lrAccess_keep ?_
            · assumption
          · intro x13 x14 h15
            refine Keep.ite1 ?_ ?_
            · try dsimp only
              try dsimp only
              refine State.updR_keep ?_
              · try dsimp only
                refine Elem.store_keep ?_
                · refine State.lrAccess_keep ?_
                  · assumption
            · try dsimp only
              try dsimp only
              refine State.updR_keep ?_
              · try dsimp only
                refine Elem.store_keep ?_
                · refine State.lrAccess_keep ?_
                  · assumption

theorem State.lrSortk_keep {s₀ : State} {s : State} {c : Ctx} {d : Nat} {a : Nat} {n : Nat} {k : Nat} (h_s : Keep s₀ s) :
    Keep s₀ (State.lrSortk s c d a n k).1 := by
  unfold State.lrSortk
  try dsimp only
  refine State.runLr_keep ?_ ?_ ?_
  · assumption
  · intro x1 x2 h3
    refine State.sortStep_keep ?_
    · assumption
  · intro x4 x5 h6
    assumption

end Sys2Proof.Machine
end

