-- ==== Sys2Proof/Laws/KeepDmaRun.lean ====
section
/-! SUPPORT. Laws/KeepDmaRun.lean: every operation of Machine/DmaRun.lean keeps what Laws/Keep.lean says. -/

namespace Sys2Proof.Machine

theorem State.chPage_keep {s₀ : State} {s : State} {t : Nat} {n : Nat} {va : Nat} {kind : Nat} {kept : Option PageTr} (h_s : Keep s₀ s) :
    Keep s₀ (State.chPage s t n va kind kept).1 := by
  unfold State.chPage
  try dsimp only
  split
  · refine Keep.ite1 ?_ ?_
    · try dsimp only
      assumption
    · refine State.ioTranslate_keep ?_
      · assumption
  · refine State.ioTranslate_keep ?_
    · assumption

theorem State.moverBar_keep {s₀ s t : State} {a : Access} (h_s : Keep s₀ s) (e : s.moverBar a = some t) : Keep s₀ t := by
  unfold State.moverBar at e
  dsimp only at e
  split at e
  · cases e
    exact State.refuse_keep h_s
  · split at e
    · cases e
      exact State.refuse_keep h_s
    · split at e
      · cases e
        exact State.refuse_keep h_s
      · cases e

theorem State.moverWord_keep {s₀ : State} {s : State} {req : Nat} {addr : Nat} (h_s : Keep s₀ s) :
    Keep s₀ (State.moverWord s req addr).1 := by
  unfold State.moverWord
  split
  · rename_i v1 v2 e3
    have kv1 : Keep s₀ v1 := by
      rw [show v1 = _ from (congrArg (fun q => q.1) e3).symm]
      refine State.busAccess_keep ?_
      · assumption
    try dsimp only
    assumption
  · first
      | rename_i v4 e5
        have kv4 : Keep s₀ v4 := by
          rw [show v4 = _ from (congrArg (fun q => q.1) e5).symm]
          refine State.busAccess_keep ?_
          · assumption
    try dsimp only
    assumption

theorem State.burstRead_keep {s₀ : State} {s : State} {t : Nat} {d : Desc} {done : Nat} {a : Nat} {n : Nat} (h_s : Keep s₀ s) :
    Keep s₀ (State.burstRead s t d done a n).1 := by
  unfold State.burstRead
  try dsimp only
  refine Keep.ite1 ?_ ?_
  · try dsimp only
    assumption
  · refine Keep.ite1 ?_ ?_
    · split
      · rename_i v1 e2
        have kv1 : Keep s₀ v1 := by
          refine State.moverBar_keep ?_ e2
          · assumption
        try dsimp only
        assumption
      · rename_i e3
        try dsimp only
        refine Keep.ite1 ?_ ?_
        · try dsimp only
          refine State.countUE_keep ?_
          · assumption
        · try dsimp only
          try dsimp only
          assumption
    · refine Keep.ite1 ?_ ?_
      · try dsimp only
        assumption
      · refine Keep.foldl1 ?_ _ ?_
        · intro s4 x5 h6
          split
          · try dsimp only
            assumption
          · try dsimp only
            try dsimp only
            refine State.moverWord_keep ?_
            · assumption
        · try dsimp only
          assumption

theorem State.burstGo_keep {s₀ : State} {s : State} {t : Nat} {n : Nat} {d : Desc} (h_s : Keep s₀ s) :
    Keep s₀ (State.burstGo s t n d) := by
  unfold State.burstGo
  dsimp only
  refine Keep.ite ?_ ?_
  · refine State.chEnd_keep ?_
    refine State.setIo_keep ?_
    assumption
  · refine Keep.ite ?_ ?_
    · refine State.setIo_keep ?_
      assumption
    · split
      · rename_i v1 v2 v3 e4
        have kv2 : Keep s₀ v2 := by
          rw [show v2 = _ from (congrArg (fun q => q.1) e4).symm]
          refine Keep.ite1 ?_ ?_
          · dsimp only
            refine State.setIo_keep ?_
            assumption
          · refine State.chPage_keep ?_
            refine State.setIo_keep ?_
            assumption
        refine Keep.ite ?_ ?_
        · refine State.chEnd_keep ?_
          assumption
        · refine State.chFault_keep ?_
          assumption
      · rename_i v5 v6 v7 e8
        have kv6 : Keep s₀ v6 := by
          rw [show v6 = _ from (congrArg (fun q => q.1) e8).symm]
          refine Keep.ite1 ?_ ?_
          · dsimp only
            refine State.setIo_keep ?_
            assumption
          · refine State.chPage_keep ?_
            refine State.setIo_keep ?_
            assumption
        split
        · rename_i v9 v10 v11 e12
          have kv10 : Keep s₀ v10 := by
            rw [show v10 = _ from (congrArg (fun q => q.1) e12).symm]
            refine State.chPage_keep ?_
            assumption
          refine Keep.ite ?_ ?_
          · refine State.chEnd_keep ?_
            assumption
          · refine State.chFault_keep ?_
            assumption
        · rename_i v13 v14 v15 e16
          have kv14 : Keep s₀ v14 := by
            rw [show v14 = _ from (congrArg (fun q => q.1) e16).symm]
            refine State.chPage_keep ?_
            assumption
          refine Keep.ite ?_ ?_
          · refine State.setChan_keep ?_
            assumption
          · split
            · rename_i v17 v18 v19 e20
              have kv18 : Keep s₀ v18 := by
                rw [show v18 = _ from (congrArg (fun q => q.1) e20).symm]
                refine State.burstRead_keep ?_
                refine State.setChan_keep ?_
                assumption
              refine State.chEnd_keep ?_
              assumption
            · rename_i v21 v22 v23 e24
              have kv22 : Keep s₀ v22 := by
                rw [show v22 = _ from (congrArg (fun q => q.1) e24).symm]
                refine State.burstRead_keep ?_
                refine State.setChan_keep ?_
                assumption
              refine State.setChan_keep ?_
              assumption

theorem State.burstIssue_keep {s₀ : State} {s : State} {t : Nat} (h_s : Keep s₀ s) :
    Keep s₀ (State.burstIssue s t) := by
  unfold State.burstIssue
  try dsimp only
  refine Keep.ite ?_ ?_
  · assumption
  · split
    · assumption
    · split
      · refine State.burstGo_keep ?_
        · assumption
      · assumption

theorem State.burstWrite_keep {s₀ : State} {s : State} {t : Nat} {fix : Bool} {u : Burst} (h_s : Keep s₀ s) :
    Keep s₀ (State.burstWrite s t fix u).1 := by
  unfold State.burstWrite
  dsimp only
  refine Keep.ite1 ?_ ?_
  · split
    · rename_i v1 v2 e3
      have kv2 : Keep s₀ v2 := by
        refine State.moverBar_keep ?_ e3
        assumption
      dsimp only
      assumption
    · refine Keep.ite1 ?_ ?_
      · dsimp only
        refine State.writeWhole_keep ?_
        assumption
      · dsimp only
        refine State.writeWhole_keep ?_
        assumption
  · refine Keep.ite1 ?_ ?_
    · dsimp only
      assumption
    · refine Keep.foldl1 ?_ _ ?_
      · intro x4 x5 h6
        refine Keep.ite1 ?_ ?_
        · assumption
        · split
          · refine Keep.ite1 ?_ ?_
            · dsimp only
              refine State.busAccess_keep ?_
              assumption
            · dsimp only
              refine State.busAccess_keep ?_
              assumption
          · dsimp only
            refine State.busAccess_keep ?_
            assumption
      · dsimp only
        assumption

theorem State.burstComplete_keep {s₀ : State} {s : State} {t : Nat} {n : Nat} (h_s : Keep s₀ s) :
    Keep s₀ (State.burstComplete s t n) := by
  unfold State.burstComplete
  split
  · refine Keep.ite ?_ ?_
    · assumption
    · refine Keep.ite ?_ ?_
      · split
        · refine Keep.ite ?_ ?_
          · refine State.requestWake_keep ?_
            assumption
          · assumption
        · assumption
      · dsimp only
        refine Keep.ite ?_ ?_
        · refine State.chEnd_keep ?_
          refine State.setChan_keep ?_
          refine Keep.ite ?_ ?_
          · refine Keep.ite ?_ ?_
            · refine State.setF_keep ?_
              refine State.incF_keep ?_
              refine State.burstWrite_keep ?_
              assumption
            · refine State.incF_keep ?_
              refine State.setF_keep ?_
              refine State.incF_keep ?_
              refine State.burstWrite_keep ?_
              assumption
          · refine State.incF_keep ?_
            refine Keep.ite ?_ ?_
            · refine State.setF_keep ?_
              refine State.incF_keep ?_
              refine State.burstWrite_keep ?_
              assumption
            · refine State.incF_keep ?_
              refine State.setF_keep ?_
              refine State.incF_keep ?_
              refine State.burstWrite_keep ?_
              assumption
        · refine Keep.ite ?_ ?_
          · refine State.chEnd_keep ?_
            refine State.setChan_keep ?_
            refine Keep.ite ?_ ?_
            · refine Keep.ite ?_ ?_
              · refine State.setF_keep ?_
                refine State.incF_keep ?_
                refine State.burstWrite_keep ?_
                assumption
              · refine State.incF_keep ?_
                refine State.setF_keep ?_
                refine State.incF_keep ?_
                refine State.burstWrite_keep ?_
                assumption
            · refine State.incF_keep ?_
              refine Keep.ite ?_ ?_
              · refine State.setF_keep ?_
                refine State.incF_keep ?_
                refine State.burstWrite_keep ?_
                assumption
              · refine State.incF_keep ?_
                refine State.setF_keep ?_
                refine State.incF_keep ?_
                refine State.burstWrite_keep ?_
                assumption
          · refine Keep.ite ?_ ?_
            · refine State.chEnd_keep ?_
              refine State.setChan_keep ?_
              refine Keep.ite ?_ ?_
              · refine Keep.ite ?_ ?_
                · refine State.setF_keep ?_
                  refine State.incF_keep ?_
                  refine State.burstWrite_keep ?_
                  assumption
                · refine State.incF_keep ?_
                  refine State.setF_keep ?_
                  refine State.incF_keep ?_
                  refine State.burstWrite_keep ?_
                  assumption
              · refine State.incF_keep ?_
                refine Keep.ite ?_ ?_
                · refine State.setF_keep ?_
                  refine State.incF_keep ?_
                  refine State.burstWrite_keep ?_
                  assumption
                · refine State.incF_keep ?_
                  refine State.setF_keep ?_
                  refine State.incF_keep ?_
                  refine State.burstWrite_keep ?_
                  assumption
            · refine State.setChan_keep ?_
              refine Keep.ite ?_ ?_
              · refine Keep.ite ?_ ?_
                · refine State.setF_keep ?_
                  refine State.incF_keep ?_
                  refine State.burstWrite_keep ?_
                  assumption
                · refine State.incF_keep ?_
                  refine State.setF_keep ?_
                  refine State.incF_keep ?_
                  refine State.burstWrite_keep ?_
                  assumption
              · refine State.incF_keep ?_
                refine Keep.ite ?_ ?_
                · refine State.setF_keep ?_
                  refine State.incF_keep ?_
                  refine State.burstWrite_keep ?_
                  assumption
                · refine State.incF_keep ?_
                  refine State.setF_keep ?_
                  refine State.incF_keep ?_
                  refine State.burstWrite_keep ?_
                  assumption
  · assumption

end Sys2Proof.Machine
end

