-- ==== Sys2Proof/Laws/KeepExecBranch.lean ====
section
/-! SUPPORT. Laws/KeepExecBranch.lean: every operation of Machine/ExecBranch.lean keeps what Laws/Keep.lean says. -/

namespace Sys2Proof.Machine

theorem saveRet_keep {s₀ : State} {s : State} {c : Ctx} (h_s : Keep s₀ s) :
    Keep s₀ (saveRet s c) := by
  unfold saveRet
  refine State.wr_keep ?_
  · assumption

end Sys2Proof.Machine
end

