-- ==== Sys2Proof/Laws/KeepExecDep.lean ====
section
/-! SUPPORT. Laws/KeepExecDep.lean: every operation of Machine/ExecDep.lean keeps what Laws/Keep.lean says. -/

namespace Sys2Proof.Machine

theorem State.refireCmd_keep {s₀ : State} {s : State} {req : Nat} {cmd : Nat} (h_s : Keep s₀ s) :
    Keep s₀ (State.refireCmd s req cmd) := by
  unfold State.refireCmd
  refine State.busWriteBits_keep ?_
  · assumption

end Sys2Proof.Machine
end

