-- ==== Sys2Proof/Laws/KeepExecEdge.lean ====
section
/-! SUPPORT. Laws/KeepExecEdge.lean: every operation of Machine/ExecEdge.lean keeps what Laws/Keep.lean says. -/

namespace Sys2Proof.Machine

theorem State.strength_keep {s₀ : State} {s : State} {old : State} {t : Nat} (h_s : Keep s₀ s) (h_old : Keep s₀ old) :
    Keep s₀ (State.strength s old t) := by
  unfold State.strength
  try dsimp only
  refine Keep.ite ?_ ?_
  · assumption
  · refine Keep.ite ?_ ?_
    · refine State.wantTakeover_keep ?_
      · assumption
    · refine Keep.ite ?_ ?_
      · refine State.wantTakeover_keep ?_
        · assumption
      · assumption

end Sys2Proof.Machine
end

