-- ==== Sys2Proof/Laws/KeepExecFire.lean ====
section
/-! SUPPORT. Laws/KeepExecFire.lean: every operation of Machine/ExecFire.lean keeps what Laws/Keep.lean says. -/

namespace Sys2Proof.Machine

theorem State.glazeJournal_keep {s₀ : State} {s : State} {h : Hdr} (h_s : Keep s₀ s) :
    Keep s₀ (State.glazeJournal s h) := by
  unfold State.glazeJournal
  try dsimp only
  refine Keep.foldl ?_ _ ?_
  · intro s1 x2 h3
    refine State.fireDomain_keep ?_
    · assumption
  · refine Keep.foldl ?_ _ ?_
    · intro s4 x5 h6
      refine State.retireRow_keep ?_
      · assumption
    · refine State.extend_keep ?_
      · refine State.journalScan_keep ?_
        · assumption

theorem State.glazeRoles_keep {s₀ : State} {s : State} {c : Nat} {up : Bool} (h_s : Keep s₀ s) :
    Keep s₀ (State.glazeRoles s c up) := by
  unfold State.glazeRoles
  refine Keep.foldl ?_ _ ?_
  · intro x1 x2 h3
    dsimp only
    refine Keep.ite ?_ ?_
    · refine State.setF_keep ?_
      refine State.setF_keep ?_
      assumption
    · refine Keep.ite ?_ ?_
      · refine State.setF_keep ?_
        refine State.setF_keep ?_
        refine State.setF_keep ?_
        assumption
      · refine State.setF_keep ?_
        refine State.setF_keep ?_
        assumption
  · assumption

theorem State.fireItem_keep {s₀ : State} {s : State} {i : JItem} (h_s : Keep s₀ s) :
    Keep s₀ (State.fireItem s i) := by
  unfold State.fireItem
  dsimp only
  split
  · refine Keep.ite ?_ ?_
    · refine Keep.foldl ?_ _ ?_
      · intro x1 x2 h3
        refine Keep.ite ?_ ?_
        · refine State.setF_keep ?_
          assumption
        · assumption
      · refine State.applyItem_keep ?_
        assumption
    · refine State.applyItem_keep ?_
      assumption
  · refine State.applyItem_keep ?_
    assumption

theorem State.glazeItems_keep {s₀ : State} {s : State} {c : Nat} {first : Bool} (h_s : Keep s₀ s) :
    Keep s₀ (State.glazeItems s c first) := by
  unfold State.glazeItems
  refine Keep.foldl ?_ _ ?_
  · intro x1 x2 h3
    refine State.fireItem_keep ?_
    assumption
  · assumption

theorem State.glazeCluster_keep {s₀ : State} {s : State} {es : List DirEntry} {started : Nat} {c : Nat} (h_s : Keep s₀ s) :
    Keep s₀ (State.glazeCluster s es started c).1 := by
  unfold State.glazeCluster
  refine Keep.ite1 ?_ ?_
  · dsimp only
    refine State.glazeRoles_keep ?_
    refine State.setFbit_keep ?_
    assumption
  · dsimp only
    refine Keep.ite ?_ ?_
    · refine State.glazeItems_keep ?_
      refine State.glazeRoles_keep ?_
      refine Keep.foldl1 ?_ _ ?_
      · intro x1 x2 h3
        refine Keep.ite1 ?_ ?_
        · refine State.loadEntry_keep ?_
          assumption
        · assumption
      · dsimp only
        refine State.setFbit_keep ?_
        refine State.fireDomain_keep ?_
        refine State.fireDomain_keep ?_
        refine State.fireDomain_keep ?_
        assumption
    · refine State.glazeRoles_keep ?_
      refine Keep.foldl1 ?_ _ ?_
      · intro x4 x5 h6
        refine Keep.ite1 ?_ ?_
        · refine State.loadEntry_keep ?_
          assumption
        · assumption
      · dsimp only
        refine State.setFbit_keep ?_
        refine State.fireDomain_keep ?_
        refine State.fireDomain_keep ?_
        refine State.fireDomain_keep ?_
        assumption

theorem State.releaseCores_keep {s₀ : State} {s : State} (h_s : Keep s₀ s) :
    Keep s₀ (State.releaseCores s) := by
  unfold State.releaseCores
  refine Keep.foldl ?_ _ ?_
  · intro s1 x2 h3
    refine Keep.ite ?_ ?_
    · assumption
    · refine Keep.foldl ?_ _ ?_
      · intro s4 x5 h6
        refine Keep.ite ?_ ?_
        · refine State.holdPair_keep ?_
          · assumption
        · assumption
      · assumption
  · assumption

theorem State.glaze_keep {s₀ : State} {s : State} {started : Nat} (h_s : Keep s₀ s) :
    Keep s₀ (State.glaze s started) := by
  unfold State.glaze
  refine Keep.ite ?_ ?_
  · assumption
  · dsimp only
    refine Keep.ite ?_ ?_
    · refine State.glazeFail_keep ?_
      assumption
    · refine Keep.ite ?_ ?_
      · refine State.glazeFail_keep ?_
        refine State.glazeJournal_keep ?_
        refine State.extend_keep ?_
        assumption
      · refine Keep.ite ?_ ?_
        · refine State.glazeFail_keep ?_
          refine Keep.foldl1 ?_ _ ?_
          · intro x1 x2 h3
            refine Keep.ite1 ?_ ?_
            · refine State.glazeCluster_keep ?_
              assumption
            · assumption
          · dsimp only
            refine State.glazeJournal_keep ?_
            refine State.extend_keep ?_
            assumption
        · refine State.grpFired_keep ?_
          refine Keep.upd ?_
          refine State.releaseCores_keep ?_
          refine State.makeAlias_keep ?_
          refine Keep.foldl1 ?_ _ ?_
          · intro x4 x5 h6
            refine Keep.ite1 ?_ ?_
            · refine State.glazeCluster_keep ?_
              assumption
            · assumption
          · dsimp only
            refine State.glazeJournal_keep ?_
            refine State.extend_keep ?_
            assumption

theorem State.keepCommand_keep {s₀ : State} {s : State} {req : Nat} {cmd : Nat} (h_s : Keep s₀ s) :
    Keep s₀ (State.keepCommand s req cmd) := by
  unfold State.keepCommand
  refine State.busWrite_keep ?_
  · assumption

end Sys2Proof.Machine
end

