-- ==== Sys2Proof/Laws/KeepExecStep.lean ====
section
/-! SUPPORT. Laws/KeepExecStep.lean: every operation of Machine/ExecStep.lean keeps what Laws/Keep.lean says. -/

namespace Sys2Proof.Machine

theorem State.stepSum_keep {s₀ : State} {s : State} {t : Nat} {k : Nat} {op : Nat} {f : Int → Int → Int} (h_s : Keep s₀ s) :
    Keep s₀ (State.stepSum s t k op f) := by
  unfold State.stepSum
  refine State.runStep_keep ?_
  · assumption

theorem State.stepPlain_keep {s₀ : State} {s : State} {t : Nat} {k : Nat} {op : Nat} {f : Run → Nat → Nat} (h_s : Keep s₀ s) :
    Keep s₀ (State.stepPlain s t k op f) := by
  unfold State.stepPlain
  refine State.runStep_keep ?_
  · assumption

end Sys2Proof.Machine
end

