-- ==== Sys2Proof/Laws/KeepStep.lean ====
section
/-! SUPPORT. Laws/KeepStep.lean: every operation of Machine/Step.lean keeps what Laws/Keep.lean says. -/

namespace Sys2Proof.Machine

/-- What an idle step keeps, the tick apart. -/
theorem State.idle_keep (s : State) : Keep { s with tick := s.tick + 1 } s.idle :=
  State.replayHeld_keep (State.journalRows_keep (State.gpioTick_keep (State.spareTick_keep (State.gateTick_keep
    (State.groupTick_keep (Keep.refl _))))))

theorem State.withFetchWord_keep {s₀ : State} {s : State} {nbits : Nat} {w : Nat} (h_s : Keep s₀ s) :
    Keep s₀ (State.withFetchWord s nbits w) := by
  unfold State.withFetchWord
  assumption

end Sys2Proof.Machine
end

