-- ==== Sys2Proof/Laws/GoesAlu.lean ====
section
/-! SUPPORT. Laws/GoesAlu.lean: every command of Machine/ExecAlu.lean completes, and keeps what Laws/Keep.lean says. -/

namespace Sys2Proof.Machine

theorem execIAdd_goes (w : WOp) (x : Nat) (y : Nat) (s : State) :
    ∃ t, execIAdd w x y s = .next t ∧ Keep s t := by
  refine ⟨_, rfl, ?_⟩
  have h := Keep.refl s
  refine State.aluXY_keep ?_
  · assumption

theorem execISub_goes (w : WOp) (x : Nat) (y : Nat) (s : State) :
    ∃ t, execISub w x y s = .next t ∧ Keep s t := by
  refine ⟨_, rfl, ?_⟩
  have h := Keep.refl s
  refine State.aluXY_keep ?_
  · assumption

theorem execIAdc_goes (w : WOp) (x : Nat) (y : Nat) (s : State) :
    ∃ t, execIAdc w x y s = .next t ∧ Keep s t := by
  refine ⟨_, rfl, ?_⟩
  have h := Keep.refl s
  refine State.aluXY_keep ?_
  · assumption

theorem execISbc_goes (w : WOp) (x : Nat) (y : Nat) (s : State) :
    ∃ t, execISbc w x y s = .next t ∧ Keep s t := by
  refine ⟨_, rfl, ?_⟩
  have h := Keep.refl s
  refine State.aluXY_keep ?_
  · assumption

theorem execIAnd_goes (w : WOp) (x : Nat) (y : Nat) (s : State) :
    ∃ t, execIAnd w x y s = .next t ∧ Keep s t := by
  refine ⟨_, rfl, ?_⟩
  have h := Keep.refl s
  refine State.aluXY_keep ?_
  · assumption

theorem execIOr_goes (w : WOp) (x : Nat) (y : Nat) (s : State) :
    ∃ t, execIOr w x y s = .next t ∧ Keep s t := by
  refine ⟨_, rfl, ?_⟩
  have h := Keep.refl s
  refine State.aluXY_keep ?_
  · assumption

theorem execIXor_goes (w : WOp) (x : Nat) (y : Nat) (s : State) :
    ∃ t, execIXor w x y s = .next t ∧ Keep s t := by
  refine ⟨_, rfl, ?_⟩
  have h := Keep.refl s
  refine State.aluXY_keep ?_
  · assumption

theorem execIAndn_goes (w : WOp) (x : Nat) (y : Nat) (s : State) :
    ∃ t, execIAndn w x y s = .next t ∧ Keep s t := by
  refine ⟨_, rfl, ?_⟩
  have h := Keep.refl s
  refine State.aluXY_keep ?_
  · assumption

theorem execIMin_goes (w : WOp) (x : Nat) (y : Nat) (s : State) :
    ∃ t, execIMin w x y s = .next t ∧ Keep s t := by
  refine ⟨_, rfl, ?_⟩
  have h := Keep.refl s
  refine State.aluXY_keep ?_
  · assumption

theorem execIMax_goes (w : WOp) (x : Nat) (y : Nat) (s : State) :
    ∃ t, execIMax w x y s = .next t ∧ Keep s t := by
  refine ⟨_, rfl, ?_⟩
  have h := Keep.refl s
  refine State.aluXY_keep ?_
  · assumption

theorem execIMinu_goes (w : WOp) (x : Nat) (y : Nat) (s : State) :
    ∃ t, execIMinu w x y s = .next t ∧ Keep s t := by
  refine ⟨_, rfl, ?_⟩
  have h := Keep.refl s
  refine State.aluXY_keep ?_
  · assumption

theorem execIMaxu_goes (w : WOp) (x : Nat) (y : Nat) (s : State) :
    ∃ t, execIMaxu w x y s = .next t ∧ Keep s t := by
  refine ⟨_, rfl, ?_⟩
  have h := Keep.refl s
  refine State.aluXY_keep ?_
  · assumption

theorem execICmp_goes (w : WOp) (x : Nat) (y : Nat) (s : State) :
    ∃ t, execICmp w x y s = .next t ∧ Keep s t := by
  refine ⟨_, rfl, ?_⟩
  have h := Keep.refl s
  refine State.aluXY_keep ?_
  · assumption

theorem execITst_goes (w : WOp) (x : Nat) (y : Nat) (s : State) :
    ∃ t, execITst w x y s = .next t ∧ Keep s t := by
  refine ⟨_, rfl, ?_⟩
  have h := Keep.refl s
  refine State.aluXY_keep ?_
  · assumption

theorem execIAddi_goes (w : WOp) (x : Nat) (imm : Nat) (s : State) :
    ∃ t, execIAddi w x imm s = .next t ∧ Keep s t := by
  refine ⟨_, rfl, ?_⟩
  have h := Keep.refl s
  refine State.aluXI_keep ?_
  · assumption

theorem execIAndi_goes (w : WOp) (x : Nat) (imm : Nat) (s : State) :
    ∃ t, execIAndi w x imm s = .next t ∧ Keep s t := by
  refine ⟨_, rfl, ?_⟩
  have h := Keep.refl s
  refine State.aluXI_keep ?_
  · assumption

theorem execIOri_goes (w : WOp) (x : Nat) (imm : Nat) (s : State) :
    ∃ t, execIOri w x imm s = .next t ∧ Keep s t := by
  refine ⟨_, rfl, ?_⟩
  have h := Keep.refl s
  refine State.aluXI_keep ?_
  · assumption

theorem execIXori_goes (w : WOp) (x : Nat) (imm : Nat) (s : State) :
    ∃ t, execIXori w x imm s = .next t ∧ Keep s t := by
  refine ⟨_, rfl, ?_⟩
  have h := Keep.refl s
  refine State.aluXI_keep ?_
  · assumption

theorem execICmpi_goes (w : WOp) (x : Nat) (imm : Nat) (s : State) :
    ∃ t, execICmpi w x imm s = .next t ∧ Keep s t := by
  refine ⟨_, rfl, ?_⟩
  have h := Keep.refl s
  refine State.aluXI_keep ?_
  · assumption

theorem execINeg_goes (w : WOp) (x : Nat) (s : State) :
    ∃ t, execINeg w x s = .next t ∧ Keep s t := by
  refine ⟨_, rfl, ?_⟩
  have h := Keep.refl s
  refine State.aluX_keep ?_
  · assumption

theorem execIAbs_goes (w : WOp) (x : Nat) (s : State) :
    ∃ t, execIAbs w x s = .next t ∧ Keep s t := by
  refine ⟨_, rfl, ?_⟩
  have h := Keep.refl s
  refine State.aluX_keep ?_
  · assumption

theorem execINot_goes (w : WOp) (x : Nat) (s : State) :
    ∃ t, execINot w x s = .next t ∧ Keep s t := by
  refine ⟨_, rfl, ?_⟩
  have h := Keep.refl s
  refine State.aluX_keep ?_
  · assumption

theorem execIClz_goes (w : WOp) (x : Nat) (s : State) :
    ∃ t, execIClz w x s = .next t ∧ Keep s t := by
  refine ⟨_, rfl, ?_⟩
  have h := Keep.refl s
  refine State.aluX_keep ?_
  · assumption

theorem execICls_goes (w : WOp) (x : Nat) (s : State) :
    ∃ t, execICls w x s = .next t ∧ Keep s t := by
  refine ⟨_, rfl, ?_⟩
  have h := Keep.refl s
  refine State.aluX_keep ?_
  · assumption

theorem execISexth_goes (w : WOp) (x : Nat) (s : State) :
    ∃ t, execISexth w x s = .next t ∧ Keep s t := by
  refine ⟨_, rfl, ?_⟩
  have h := Keep.refl s
  refine State.aluX_keep ?_
  · assumption

theorem execIZexth_goes (w : WOp) (x : Nat) (s : State) :
    ∃ t, execIZexth w x s = .next t ∧ Keep s t := by
  refine ⟨_, rfl, ?_⟩
  have h := Keep.refl s
  refine State.aluX_keep ?_
  · assumption

theorem execISextb_goes (w : WOp) (x : Nat) (s : State) :
    ∃ t, execISextb w x s = .next t ∧ Keep s t := by
  refine ⟨_, rfl, ?_⟩
  have h := Keep.refl s
  refine State.aluX_keep ?_
  · assumption

theorem execIZextb_goes (w : WOp) (x : Nat) (s : State) :
    ∃ t, execIZextb w x s = .next t ∧ Keep s t := by
  refine ⟨_, rfl, ?_⟩
  have h := Keep.refl s
  refine State.aluX_keep ?_
  · assumption

theorem execIShl_goes (w : WOp) (x : Nat) (y : Nat) (s : State) :
    ∃ t, execIShl w x y s = .next t ∧ Keep s t := by
  refine ⟨_, rfl, ?_⟩
  have h := Keep.refl s
  refine State.aluXY_keep ?_
  · assumption

theorem execIShr_goes (w : WOp) (x : Nat) (y : Nat) (s : State) :
    ∃ t, execIShr w x y s = .next t ∧ Keep s t := by
  refine ⟨_, rfl, ?_⟩
  have h := Keep.refl s
  refine State.aluXY_keep ?_
  · assumption

theorem execIAsr_goes (w : WOp) (x : Nat) (y : Nat) (s : State) :
    ∃ t, execIAsr w x y s = .next t ∧ Keep s t := by
  refine ⟨_, rfl, ?_⟩
  have h := Keep.refl s
  refine State.aluXY_keep ?_
  · assumption

theorem execIRor_goes (w : WOp) (x : Nat) (y : Nat) (s : State) :
    ∃ t, execIRor w x y s = .next t ∧ Keep s t := by
  refine ⟨_, rfl, ?_⟩
  have h := Keep.refl s
  refine State.aluXY_keep ?_
  · assumption

theorem execIShli_goes (w : WOp) (x : Nat) (k : Nat) (s : State) :
    ∃ t, execIShli w x k s = .next t ∧ Keep s t := by
  refine ⟨_, rfl, ?_⟩
  have h := Keep.refl s
  refine State.shiftXK_keep ?_
  · assumption

theorem execIShri_goes (w : WOp) (x : Nat) (k : Nat) (s : State) :
    ∃ t, execIShri w x k s = .next t ∧ Keep s t := by
  refine ⟨_, rfl, ?_⟩
  have h := Keep.refl s
  refine State.shiftXK_keep ?_
  · assumption

theorem execIAsri_goes (w : WOp) (x : Nat) (k : Nat) (s : State) :
    ∃ t, execIAsri w x k s = .next t ∧ Keep s t := by
  refine ⟨_, rfl, ?_⟩
  have h := Keep.refl s
  refine State.shiftXK_keep ?_
  · assumption

theorem execIRori_goes (w : WOp) (x : Nat) (k : Nat) (s : State) :
    ∃ t, execIRori w x k s = .next t ∧ Keep s t := by
  refine ⟨_, rfl, ?_⟩
  have h := Keep.refl s
  refine State.shiftXK_keep ?_
  · assumption

end Sys2Proof.Machine
end

