-- ==== Sys2Proof/Laws/GoesBranch.lean ====
section
/-! SUPPORT. Laws/GoesBranch.lean: every command of Machine/ExecBranch.lean completes, and keeps what Laws/Keep.lean says. -/

namespace Sys2Proof.Machine

theorem execIBcc_goes (w : WOp) (cc : Nat) (disp : Nat) (s : State) :
    ∃ t, execIBcc w cc disp s = .next t ∧ Keep s t := by
  refine ⟨_, rfl, ?_⟩
  have h := Keep.refl s
  refine State.branchD_keep ?_ ?_
  · assumption
  · intro x1 x2 h3
    assumption

theorem execIBra_goes (w : WOp) (disp : Nat) (s : State) :
    ∃ t, execIBra w disp s = .next t ∧ Keep s t := by
  refine ⟨_, rfl, ?_⟩
  have h := Keep.refl s
  refine State.branchD_keep ?_ ?_
  · assumption
  · intro x1 x2 h3
    assumption

theorem execICall_goes (w : WOp) (disp : Nat) (s : State) :
    ∃ t, execICall w disp s = .next t ∧ Keep s t := by
  refine ⟨_, rfl, ?_⟩
  have h := Keep.refl s
  refine State.branchD_keep ?_ ?_
  · assumption
  · intro x1 x2 h3
    refine saveRet_keep ?_
    · assumption

theorem execIJr_goes (w : WOp) (x : Nat) (s : State) :
    ∃ t, execIJr w x s = .next t ∧ Keep s t := by
  refine ⟨_, rfl, ?_⟩
  have h := Keep.refl s
  refine State.branchX_keep ?_ ?_
  · assumption
  · intro x1 x2 h3
    assumption

theorem execICallr_goes (w : WOp) (x : Nat) (s : State) :
    ∃ t, execICallr w x s = .next t ∧ Keep s t := by
  refine ⟨_, rfl, ?_⟩
  have h := Keep.refl s
  refine State.branchX_keep ?_ ?_
  · assumption
  · intro x1 x2 h3
    refine saveRet_keep ?_
    · assumption

theorem execIJmpf_goes (w : WOp) (x : Nat) (s : State) :
    ∃ t, execIJmpf w x s = .next t ∧ Keep s t := by
  refine ⟨_, rfl, ?_⟩
  have h := Keep.refl s
  refine State.branchX_keep ?_ ?_
  · assumption
  · intro x1 x2 h3
    assumption

theorem execIBlc1_goes (w : WOp) (disp : Nat) (s : State) :
    ∃ t, execIBlc1 w disp s = .next t ∧ Keep s t := by
  refine ⟨_, rfl, ?_⟩
  have h := Keep.refl s
  refine State.branchD_keep ?_ ?_
  · assumption
  · intro x1 x2 h3
    try dsimp only
    refine Keep.ite ?_ ?_
    · assumption
    · refine State.wr_keep ?_
      · assumption

end Sys2Proof.Machine
end

