-- ==== Sys2Proof/Laws/GoesBus.lean ====
section
/-! SUPPORT. Laws/GoesBus.lean: every command of Machine/ExecBus.lean completes, and keeps what Laws/Keep.lean says. -/

namespace Sys2Proof.Machine

theorem execRegisterWrite_goes (req : Nat) (addr : Nat) (size : Nat) (data : Nat) (s : State) :
    ∃ t, execRegisterWrite req addr size data s = .next t ∧ Keep s t := by
  refine ⟨_, rfl, ?_⟩
  have h := Keep.refl s
  refine State.busWrite_keep ?_
  · assumption

theorem execBlkRst_goes (req : Nat) (addr : Nat) (s : State) :
    ∃ t, execBlkRst req addr s = .next t ∧ Keep s t := by
  refine ⟨_, rfl, ?_⟩
  have h := Keep.refl s
  refine State.busWrite_keep ?_
  · assumption

theorem execBlkEnWrite_goes (req : Nat) (addr : Nat) (en : Bool) (s : State) :
    ∃ t, execBlkEnWrite req addr en s = .next t ∧ Keep s t := by
  refine ⟨_, rfl, ?_⟩
  have h := Keep.refl s
  refine State.busWrite_keep ?_
  · assumption

theorem execLockKeyWrite_goes (req : Nat) (addr : Nat) (key : Nat) (s : State) :
    ∃ t, execLockKeyWrite req addr key s = .next t ∧ Keep s t := by
  refine ⟨_, rfl, ?_⟩
  have h := Keep.refl s
  refine State.busWrite_keep ?_
  · assumption

theorem execLockWindowExpire_goes (addr : Nat) (s : State) :
    ∃ t, execLockWindowExpire addr s = .next t ∧ Keep s t := by
  refine ⟨_, rfl, ?_⟩
  have h := Keep.refl s
  split
  · try dsimp only
    split
    · refine Keep.ite ?_ ?_
      · refine Keep.upd ?_
        assumption
      · assumption
    · assumption
  · assumption

theorem execCounterLoRead_goes (req : Nat) (addr : Nat) (s : State) :
    ∃ t, execCounterLoRead req addr s = .next t ∧ Keep s t := by
  refine ⟨_, rfl, ?_⟩
  have h := Keep.refl s
  refine State.busRead_keep ?_
  · assumption

theorem execCounterHiRead_goes (req : Nat) (addr : Nat) (s : State) :
    ∃ t, execCounterHiRead req addr s = .next t ∧ Keep s t := by
  refine ⟨_, rfl, ?_⟩
  have h := Keep.refl s
  refine State.busRead_keep ?_
  · assumption

theorem execContextWrite_goes (req : Nat) (addr : Nat) (size : Nat) (data : Nat) (s : State) :
    ∃ t, execContextWrite req addr size data s = .next t ∧ Keep s t := by
  refine ⟨_, rfl, ?_⟩
  have h := Keep.refl s
  refine State.busWrite_keep ?_
  · assumption

theorem execStagedWriteRelease_goes (tile : Nat) (s : State) :
    ∃ t, execStagedWriteRelease tile s = .next t ∧ Keep s t := by
  refine ⟨_, rfl, ?_⟩
  have h := Keep.refl s
  refine State.stageRelease_keep ?_
  · assumption

theorem execAliasAccessRelease_goes (lt : Nat) (s : State) :
    ∃ t, execAliasAccessRelease lt s = .next t ∧ Keep s t := by
  refine ⟨_, rfl, ?_⟩
  have h := Keep.refl s
  refine Keep.ite ?_ ?_
  · assumption
  · refine State.replayHeld_keep ?_
    · assumption

end Sys2Proof.Machine
end

