-- ==== Sys2Proof/Laws/GoesCore.lean ====
section
/-! SUPPORT. Laws/GoesCore.lean: every command of Machine/ExecCore.lean completes, and keeps what Laws/Keep.lean says. -/

namespace Sys2Proof.Machine

theorem execLockstepMismatch_goes (pair : Nat) (whr : Nat) (s : State) :
    ∃ t, execLockstepMismatch pair whr s = .next t ∧ Keep s t := by
  refine ⟨_, rfl, ?_⟩
  have h := Keep.refl s
  refine State.lockstepMismatch_keep ?_
  · assumption

theorem execRollbackComplete_goes (pair : Nat) (s : State) :
    ∃ t, execRollbackComplete pair s = .next t ∧ Keep s t := by
  refine ⟨_, rfl, ?_⟩
  have h := Keep.refl s
  refine State.rollbackComplete_keep ?_
  · assumption

theorem execCheckpoint_goes (pair : Nat) (s : State) :
    ∃ t, execCheckpoint pair s = .next t ∧ Keep s t := by
  refine ⟨_, rfl, ?_⟩
  have h := Keep.refl s
  refine State.checkpoint_keep ?_
  · assumption

theorem execLongUnitResult_goes (pair : Nat) (s : State) :
    ∃ t, execLongUnitResult pair s = .next t ∧ Keep s t := by
  refine ⟨_, rfl, ?_⟩
  have h := Keep.refl s
  refine State.longResult_keep ?_
  · assumption

theorem execStoreDrain_goes (pair : Nat) (s : State) :
    ∃ t, execStoreDrain pair s = .next t ∧ Keep s t := by
  refine ⟨_, rfl, ?_⟩
  have h := Keep.refl s
  refine State.drainOne_keep ?_
  · assumption

theorem execDataResponse_goes (pair : Nat) (s : State) :
    ∃ t, execDataResponse pair s = .next t ∧ Keep s t := by
  refine ⟨_, rfl, ?_⟩
  have h := Keep.refl s
  refine State.dataResponse_keep ?_
  · assumption

theorem execLockBrokenEntry_goes (pair : Nat) (s : State) :
    ∃ t, execLockBrokenEntry pair s = .next t ∧ Keep s t := by
  refine ⟨_, rfl, ?_⟩
  have h := Keep.refl s
  try dsimp only
  refine Keep.ite ?_ ?_
  · refine State.stepped_keep ?_
    · refine State.lockBrokenEntry_keep ?_
      · assumption
  · refine State.lockBrokenEntry_keep ?_
    · assumption

theorem execCoreHold_goes (req : Nat) (pair : Nat) (hold : Bool) (s : State) :
    ∃ t, execCoreHold req pair hold s = .next t ∧ Keep s t := by
  refine ⟨_, rfl, ?_⟩
  have h := Keep.refl s
  refine State.busWriteBits_keep ?_
  · assumption

theorem execCorePairReset_goes (req : Nat) (pair : Nat) (s : State) :
    ∃ t, execCorePairReset req pair s = .next t ∧ Keep s t := by
  refine ⟨_, rfl, ?_⟩
  have h := Keep.refl s
  refine State.busWriteBits_keep ?_
  · assumption

theorem execFetchResponse_goes (pair : Nat) (err : Nat) (s : State) :
    ∃ t, execFetchResponse pair err s = .next t ∧ Keep s t := by
  refine ⟨_, rfl, ?_⟩
  have h := Keep.refl s
  refine Keep.ite ?_ ?_
  · assumption
  · try dsimp only
    refine Keep.ite ?_ ?_
    · refine State.stepped_keep ?_
      · refine State.machineCheck_keep ?_
        · assumption
    · try dsimp only
      refine State.stepped_keep ?_
      · refine State.machineCheck_keep ?_
        · split
          · rename_i v1 v2 e3
            have kv1 : Keep s v1 := by
              rw [show v1 = _ from (congrArg (fun q => q.1) e3).symm]
              refine State.translate_keep ?_
              · assumption
            refine Keep.ite ?_ ?_
            · refine State.countUE_keep ?_
              · assumption
            · assumption
          · rename_i v4 v5 e6
            have kv4 : Keep s v4 := by
              rw [show v4 = _ from (congrArg (fun q => q.1) e6).symm]
              refine State.translate_keep ?_
              · assumption
            assumption

end Sys2Proof.Machine
end

