-- ==== Sys2Proof/Laws/GoesDep.lean ====
section
/-! SUPPORT. Laws/GoesDep.lean: every command of Machine/ExecDep.lean completes, and keeps what Laws/Keep.lean says. -/

namespace Sys2Proof.Machine

theorem execTakeoverTrigger_goes (tile : Nat) (trig : Nat) (s : State) :
    ∃ t, execTakeoverTrigger tile trig s = .next t ∧ Keep s t := by
  refine ⟨_, rfl, ?_⟩
  have h := Keep.refl s
  refine Keep.ite ?_ ?_
  · refine State.wantTakeover_keep ?_
    · assumption
  · assumption

theorem execTakeoverCommand_goes (req : Nat) (data : Nat) (s : State) :
    ∃ t, execTakeoverCommand req data s = .next t ∧ Keep s t := by
  refine ⟨_, rfl, ?_⟩
  have h := Keep.refl s
  refine State.busWrite_keep ?_
  · assumption

theorem execMoveStart_goes (cluster : Nat) (s : State) :
    ∃ t, execMoveStart cluster s = .next t ∧ Keep s t := by
  refine ⟨_, rfl, ?_⟩
  have h := Keep.refl s
  refine State.moveStart_keep ?_
  · assumption

theorem execTileReady_goes (cluster : Nat) (s : State) :
    ∃ t, execTileReady cluster s = .next t ∧ Keep s t := by
  refine ⟨_, rfl, ?_⟩
  have h := Keep.refl s
  refine State.fcstAbort_keep ?_
  · refine State.tileReady_keep ?_
    · assumption

theorem execTileCoreRelease_goes (lt : Nat) (s : State) :
    ∃ t, execTileCoreRelease lt s = .next t ∧ Keep s t := by
  refine ⟨_, rfl, ?_⟩
  have h := Keep.refl s
  refine State.tileRelease_keep ?_
  · assumption

theorem execPinRepeatPeriod_goes (tile : Nat) (gen : Nat) (s : State) :
    ∃ t, execPinRepeatPeriod tile gen s = .next t ∧ Keep s t := by
  refine ⟨_, rfl, ?_⟩
  have h := Keep.refl s
  refine State.keeperPeriod_keep ?_
  · assumption

theorem execPinKeeperEdge_goes (tile : Nat) (gen : Nat) (s : State) :
    ∃ t, execPinKeeperEdge tile gen s = .next t ∧ Keep s t := by
  refine ⟨_, rfl, ?_⟩
  have h := Keep.refl s
  refine State.keeperEdge_keep ?_
  · assumption

theorem execReturnToService_goes (req : Nat) (data : Nat) (ok : Bool) (s : State) :
    ∃ t, execReturnToService req data ok s = .next t ∧ Keep s t := by
  refine ⟨_, rfl, ?_⟩
  have h := Keep.refl s
  refine Keep.ite ?_ ?_
  · refine State.returnToService_keep ?_
    · refine State.setFlag_keep ?_
      · refine State.busWrite_keep ?_
        · assumption
  · refine State.busWrite_keep ?_
    · assumption

theorem execMirrorInStep_goes (tile : Nat) (s : State) :
    ∃ t, execMirrorInStep tile s = .next t ∧ Keep s t := by
  refine ⟨_, rfl, ?_⟩
  have h := Keep.refl s
  refine State.mirrorInStep_keep ?_
  · assumption

theorem execRefiringStage_goes (req : Nat) (s : State) :
    ∃ t, execRefiringStage req s = .next t ∧ Keep s t := by
  refine ⟨_, rfl, ?_⟩
  have h := Keep.refl s
  refine State.refireCmd_keep ?_
  · assumption

theorem execRefiringVerified_goes (s : State) :
    ∃ t, execRefiringVerified s = .next t ∧ Keep s t := by
  refine ⟨_, rfl, ?_⟩
  have h := Keep.refl s
  refine State.refireVerified_keep ?_
  · assumption

theorem execRefiringSwitch_goes (req : Nat) (s : State) :
    ∃ t, execRefiringSwitch req s = .next t ∧ Keep s t := by
  refine ⟨_, rfl, ?_⟩
  have h := Keep.refl s
  refine State.refireCmd_keep ?_
  · assumption

theorem execRefiringDone_goes (s : State) :
    ∃ t, execRefiringDone s = .next t ∧ Keep s t := by
  refine ⟨_, rfl, ?_⟩
  have h := Keep.refl s
  refine State.refireDone_keep ?_
  · assumption

theorem execRefiringAbort_goes (req : Nat) (s : State) :
    ∃ t, execRefiringAbort req s = .next t ∧ Keep s t := by
  refine ⟨_, rfl, ?_⟩
  have h := Keep.refl s
  refine State.refireCmd_keep ?_
  · assumption

end Sys2Proof.Machine
end

