-- ==== Sys2Proof/Laws/GoesEdge.lean ====
section
/-! SUPPORT. Laws/GoesEdge.lean: every command of Machine/ExecEdge.lean completes, and keeps what Laws/Keep.lean says. -/

namespace Sys2Proof.Machine

theorem execGeneratorRun_goes (req : Nat) (tile : Nat) (gen : Nat) (s : State) :
    ∃ t, execGeneratorRun req tile gen s = .next t ∧ Keep s t := by
  refine ⟨_, rfl, ?_⟩
  have h := Keep.refl s
  refine State.busWriteBits_keep ?_
  · assumption

theorem execGeneratorStop_goes (req : Nat) (tile : Nat) (gen : Nat) (s : State) :
    ∃ t, execGeneratorStop req tile gen s = .next t ∧ Keep s t := by
  refine ⟨_, rfl, ?_⟩
  have h := Keep.refl s
  refine State.busWriteBits_keep ?_
  · assumption

theorem execGeneratorArm_goes (req : Nat) (tile : Nat) (gen : Nat) (s : State) :
    ∃ t, execGeneratorArm req tile gen s = .next t ∧ Keep s t := by
  refine ⟨_, rfl, ?_⟩
  have h := Keep.refl s
  refine State.busWriteBits_keep ?_
  · assumption

theorem execGeneratorDisarm_goes (req : Nat) (tile : Nat) (gen : Nat) (s : State) :
    ∃ t, execGeneratorDisarm req tile gen s = .next t ∧ Keep s t := by
  refine ⟨_, rfl, ?_⟩
  have h := Keep.refl s
  refine State.busWriteBits_keep ?_
  · assumption

theorem execTripClearRequest_goes (req : Nat) (tile : Nat) (gen : Nat) (s : State) :
    ∃ t, execTripClearRequest req tile gen s = .next t ∧ Keep s t := by
  refine ⟨_, rfl, ?_⟩
  have h := Keep.refl s
  refine State.busWriteBits_keep ?_
  · assumption

theorem execGeneratorReload_goes (tile : Nat) (gen : Nat) (nomaj : Bool) (ledErr : Int) (s : State) :
    ∃ t, execGeneratorReload tile gen nomaj ledErr s = .next t ∧ Keep s t := by
  refine ⟨_, rfl, ?_⟩
  have h := Keep.refl s
  refine Keep.ite ?_ ?_
  · refine State.mirrorReload_keep ?_
    assumption
  · dsimp only
    refine State.strength_keep ?_ ?_
    · refine State.fcstAbort_keep ?_
      refine Keep.ite ?_ ?_
      · refine State.refireCompare_keep ?_
        refine State.genReload_keep ?_
        refine State.groupReload_keep ?_
        refine State.refireDue_keep ?_
        assumption
      · refine State.launchesSet_keep ?_
        refine State.refireCompare_keep ?_
        refine State.genReload_keep ?_
        refine State.groupReload_keep ?_
        refine State.refireDue_keep ?_
        assumption
    · assumption

theorem execPendEvent_goes (tile : Nat) (gen : Nat) (s : State) :
    ∃ t, execPendEvent tile gen s = .next t ∧ Keep s t := by
  refine ⟨_, rfl, ?_⟩
  have h := Keep.refl s
  refine Keep.ite ?_ ?_
  · assumption
  · refine State.pendEvent_keep ?_
    · assumption

theorem execCompareMatch_goes (tile : Nat) (gen : Nat) (which : Nat) (upset : Nat) (s : State) :
    ∃ t, execCompareMatch tile gen which upset s = .next t ∧ Keep s t := by
  refine ⟨_, rfl, ?_⟩
  have h := Keep.refl s
  refine Keep.ite ?_ ?_
  · assumption
  · refine State.strength_keep ?_ ?_
    · refine State.compareMatch_keep ?_
      · assumption
    · assumption

theorem execDeadTimeExpiry_goes (tile : Nat) (gen : Nat) (isH : Bool) (upset : Nat) (s : State) :
    ∃ t, execDeadTimeExpiry tile gen isH upset s = .next t ∧ Keep s t := by
  refine ⟨_, rfl, ?_⟩
  have h := Keep.refl s
  refine Keep.ite ?_ ?_
  · assumption
  · refine State.strength_keep ?_ ?_
    · refine State.deadTime_keep ?_
      · assumption
    · assumption

theorem execLaneRelease_goes (tile : Nat) (s : State) :
    ∃ t, execLaneRelease tile s = .next t ∧ Keep s t := by
  refine ⟨_, rfl, ?_⟩
  have h := Keep.refl s
  refine State.releaseLanes_keep ?_
  · assumption

theorem execDelayedEdgePlace_goes (tile : Nat) (upset : Nat) (s : State) :
    ∃ t, execDelayedEdgePlace tile upset s = .next t ∧ Keep s t := by
  refine ⟨_, rfl, ?_⟩
  have h := Keep.refl s
  refine Keep.ite ?_ ?_
  · assumption
  · refine State.strength_keep ?_ ?_
    · refine State.placeDelayed_keep ?_
      · assumption
    · assumption

theorem execShadowWrite_goes (req : Nat) (tile : Nat) (gen : Nat) (reg : Nat) (data : Nat) (s : State) :
    ∃ t, execShadowWrite req tile gen reg data s = .next t ∧ Keep s t := by
  refine ⟨_, rfl, ?_⟩
  have h := Keep.refl s
  refine State.busWrite_keep ?_
  · assumption

theorem execShadowCommitEntry_goes (tile : Nat) (gen : Nat) (s : State) :
    ∃ t, execShadowCommitEntry tile gen s = .next t ∧ Keep s t := by
  refine ⟨_, rfl, ?_⟩
  have h := Keep.refl s
  refine State.shadowEntry_keep ?_
  · assumption

theorem execPhaseLoad_goes (tile : Nat) (page : Nat) (which : Nat) (s : State) :
    ∃ t, execPhaseLoad tile page which s = .next t ∧ Keep s t := by
  refine ⟨_, rfl, ?_⟩
  have h := Keep.refl s
  split
  · refine State.syncInput_keep ?_
    · assumption
  · refine State.lateLoads_keep ?_
    · assumption

theorem execBindWrite_goes (req : Nat) (tile : Nat) (gen : Nat) (data : Nat) (s : State) :
    ∃ t, execBindWrite req tile gen data s = .next t ∧ Keep s t := by
  refine ⟨_, rfl, ?_⟩
  have h := Keep.refl s
  refine State.busWrite_keep ?_
  · assumption

theorem execTripSourceActive_goes (cluster : Nat) (x : SrcAt) (s : State) :
    ∃ t, execTripSourceActive cluster x s = .next t ∧ Keep s t := by
  refine ⟨_, rfl, ?_⟩
  have h := Keep.refl s
  refine State.fcstAbort_keep ?_
  refine State.sourceInput_keep ?_
  assumption

theorem execBlankingClose_goes (tile : Nat) (gen : Nat) (s : State) :
    ∃ t, execBlankingClose tile gen s = .next t ∧ Keep s t := by
  refine ⟨_, rfl, ?_⟩
  have h := Keep.refl s
  refine Keep.ite ?_ ?_
  · refine State.keeperTrip_keep ?_
    · assumption
  · refine State.fcstAbort_keep ?_
    · refine State.tripCheck_keep ?_
      · assumption

end Sys2Proof.Machine
end

