-- ==== Sys2Proof/Laws/GoesFcst.lean ====
section
/-! SUPPORT. Laws/GoesFcst.lean: every command of Machine/ExecFcst.lean completes, and keeps what Laws/Keep.lean says. -/

namespace Sys2Proof.Machine

theorem execForecastLaunch_goes (cluster : Nat) (job : Nat) (s : State) :
    ∃ t, execForecastLaunch cluster job s = .next t ∧ Keep s t := by
  refine ⟨_, rfl, ?_⟩
  have h := Keep.refl s
  refine State.forecastLaunch_keep ?_
  · assumption

theorem execLaunchStart_goes (cluster : Nat) (s : State) :
    ∃ t, execLaunchStart cluster s = .next t ∧ Keep s t := by
  refine ⟨_, rfl, ?_⟩
  have h := Keep.refl s
  refine State.launchStart_keep ?_
  · assumption

theorem execGatherDone_goes (cluster : Nat) (bad : Bool) (s : State) :
    ∃ t, execGatherDone cluster bad s = .next t ∧ Keep s t := by
  refine ⟨_, rfl, ?_⟩
  have h := Keep.refl s
  refine State.gatherDone_keep ?_
  · assumption

theorem execFetchDone_goes (cluster : Nat) (ue : Bool) (s : State) :
    ∃ t, execFetchDone cluster ue s = .next t ∧ Keep s t := by
  refine ⟨_, rfl, ?_⟩
  have h := Keep.refl s
  refine State.fetchDone_keep ?_
  · assumption

theorem execRankDone_goes (cluster : Nat) (s : State) :
    ∃ t, execRankDone cluster s = .next t ∧ Keep s t := by
  refine ⟨_, rfl, ?_⟩
  have h := Keep.refl s
  refine State.rankDone_keep ?_
  · assumption

theorem execEvaluateDone_goes (cluster : Nat) (s : State) :
    ∃ t, execEvaluateDone cluster s = .next t ∧ Keep s t := by
  refine ⟨_, rfl, ?_⟩
  have h := Keep.refl s
  refine State.evaluateDone_keep ?_
  · assumption

theorem execSelectDone_goes (cluster : Nat) (s : State) :
    ∃ t, execSelectDone cluster s = .next t ∧ Keep s t := by
  refine ⟨_, rfl, ?_⟩
  have h := Keep.refl s
  refine State.selectDone_keep ?_
  · assumption

theorem execPlanCommitArrival_goes (cluster : Nat) (s : State) :
    ∃ t, execPlanCommitArrival cluster s = .next t ∧ Keep s t := by
  refine ⟨_, rfl, ?_⟩
  have h := Keep.refl s
  refine State.planArrival_keep ?_
  · assumption

theorem execLaunchEnd_goes (cluster : Nat) (s : State) :
    ∃ t, execLaunchEnd cluster s = .next t ∧ Keep s t := by
  refine ⟨_, rfl, ?_⟩
  have h := Keep.refl s
  refine State.launchEnd_keep ?_
  · assumption

theorem execJobEnable_goes (req : Nat) (cluster : Nat) (job : Nat) (s : State) :
    ∃ t, execJobEnable req cluster job s = .next t ∧ Keep s t := by
  refine ⟨_, rfl, ?_⟩
  have h := Keep.refl s
  refine State.busWriteBits_keep ?_
  · assumption

theorem execKlogWrite_goes (cluster : Nat) (s : State) :
    ∃ t, execKlogWrite cluster s = .next t ∧ Keep s t := by
  refine ⟨_, rfl, ?_⟩
  have h := Keep.refl s
  refine State.klogWrite_keep ?_
  · assumption

theorem execKlogStopEvent_goes (cluster : Nat) (s : State) :
    ∃ t, execKlogStopEvent cluster s = .next t ∧ Keep s t := by
  refine ⟨_, rfl, ?_⟩
  have h := Keep.refl s
  refine State.klogStop_keep ?_
  · assumption

theorem execKlogPostDone_goes (cluster : Nat) (s : State) :
    ∃ t, execKlogPostDone cluster s = .next t ∧ Keep s t := by
  refine ⟨_, rfl, ?_⟩
  have h := Keep.refl s
  refine State.klogPostDone_keep ?_
  · assumption

theorem execKlogDrained_goes (cluster : Nat) (s : State) :
    ∃ t, execKlogDrained cluster s = .next t ∧ Keep s t := by
  refine ⟨_, rfl, ?_⟩
  have h := Keep.refl s
  refine State.klogDrained_keep ?_
  · assumption

theorem execKlogClear_goes (req : Nat) (cluster : Nat) (s : State) :
    ∃ t, execKlogClear req cluster s = .next t ∧ Keep s t := by
  refine ⟨_, rfl, ?_⟩
  have h := Keep.refl s
  refine State.busWriteBits_keep ?_
  · assumption

end Sys2Proof.Machine
end

