-- ==== Sys2Proof/Laws/GoesFire.lean ====
section
/-! SUPPORT. Laws/GoesFire.lean: every command of Machine/ExecFire.lean completes, and keeps what Laws/Keep.lean says. -/

namespace Sys2Proof.Machine

theorem execBisqueFiring_goes (s : State) :
    ∃ t, execBisqueFiring s = .next t ∧ Keep s t := by
  refine ⟨_, rfl, ?_⟩
  have h := Keep.refl s
  refine State.bisque_keep ?_
  · assumption

theorem execGlazeFiring_goes (started : Nat) (s : State) :
    ∃ t, execGlazeFiring started s = .next t ∧ Keep s t := by
  refine ⟨_, rfl, ?_⟩
  have h := Keep.refl s
  refine State.glaze_keep ?_
  · assumption

theorem execBootRetry_goes (s : State) :
    ∃ t, execBootRetry s = .next t ∧ Keep s t := by
  refine ⟨_, rfl, ?_⟩
  have h := Keep.refl s
  refine State.bootRetry_keep ?_
  · assumption

theorem execJournalWrite_goes (req : Nat) (s : State) :
    ∃ t, execJournalWrite req s = .next t ∧ Keep s t := by
  refine ⟨_, rfl, ?_⟩
  have h := Keep.refl s
  refine State.keepCommand_keep ?_
  · assumption

theorem execFlashWrite_goes (req : Nat) (s : State) :
    ∃ t, execFlashWrite req s = .next t ∧ Keep s t := by
  refine ⟨_, rfl, ?_⟩
  have h := Keep.refl s
  refine State.keepCommand_keep ?_
  · assumption

theorem execMinVersion_goes (req : Nat) (s : State) :
    ∃ t, execMinVersion req s = .next t ∧ Keep s t := by
  refine ⟨_, rfl, ?_⟩
  have h := Keep.refl s
  refine State.keepCommand_keep ?_
  · assumption

theorem execLifecycle_goes (req : Nat) (s : State) :
    ∃ t, execLifecycle req s = .next t ∧ Keep s t := by
  refine ⟨_, rfl, ?_⟩
  have h := Keep.refl s
  refine State.keepCommand_keep ?_
  · assumption

theorem execRevoke_goes (req : Nat) (s : State) :
    ∃ t, execRevoke req s = .next t ∧ Keep s t := by
  refine ⟨_, rfl, ?_⟩
  have h := Keep.refl s
  refine State.keepCommand_keep ?_
  · assumption

theorem execLogRead_goes (req : Nat) (s : State) :
    ∃ t, execLogRead req s = .next t ∧ Keep s t := by
  refine ⟨_, rfl, ?_⟩
  have h := Keep.refl s
  refine State.keepCommand_keep ?_
  · assumption

theorem execKeepCommandDone_goes (err : Bool) (s : State) :
    ∃ t, execKeepCommandDone err s = .next t ∧ Keep s t := by
  refine ⟨_, rfl, ?_⟩
  have h := Keep.refl s
  split
  · assumption
  · refine Keep.ite ?_ ?_
    · assumption
    · refine Keep.ite ?_ ?_
      · refine State.keepEnd_keep ?_
        assumption
      · refine Keep.ite ?_ ?_
        · refine State.keepEnd_keep ?_
          refine State.satF_keep ?_
          assumption
        · dsimp only
          refine State.keepEnd_keep ?_
          refine Keep.foldl ?_ _ ?_
          · intro x1 x2 h3
            refine State.applyItem_keep ?_
            assumption
          · refine State.keepEffect_keep ?_
            assumption

theorem execMeasurementExtend_goes (req : Nat) (s : State) :
    ∃ t, execMeasurementExtend req s = .next t ∧ Keep s t := by
  refine ⟨_, rfl, ?_⟩
  have h := Keep.refl s
  refine State.busWrite_keep ?_
  · assumption

theorem execSpdmFragment_goes (port : Nat) (addr : Nat) (udp : Nat) (payload : List Byte) (s : State) :
    ∃ t, execSpdmFragment port addr udp payload s = .next t ∧ Keep s t := by
  refine ⟨_, rfl, ?_⟩
  have h := Keep.refl s
  refine State.spdmFragment_keep ?_
  · assumption

theorem execSpdmReassemblyTimeout_goes (port : Nat) (addr : Nat) (udp : Nat) (s : State) :
    ∃ t, execSpdmReassemblyTimeout port addr udp s = .next t ∧ Keep s t := by
  refine ⟨_, rfl, ?_⟩
  have h := Keep.refl s
  refine State.spdmExpire_keep ?_
  · assumption

theorem execSpdmConnectionIdle_goes (port : Nat) (addr : Nat) (udp : Nat) (s : State) :
    ∃ t, execSpdmConnectionIdle port addr udp s = .next t ∧ Keep s t := by
  refine ⟨_, rfl, ?_⟩
  have h := Keep.refl s
  refine State.spdmIdle_keep ?_
  · assumption

theorem execGetVersion_goes (port : Nat) (addr : Nat) (udp : Nat) (s : State) :
    ∃ t, execGetVersion port addr udp s = .next t ∧ Keep s t := by
  refine ⟨_, rfl, ?_⟩
  have h := Keep.refl s
  refine State.spdmRequest_keep ?_
  · assumption

theorem execGetCapabilities_goes (port : Nat) (addr : Nat) (udp : Nat) (s : State) :
    ∃ t, execGetCapabilities port addr udp s = .next t ∧ Keep s t := by
  refine ⟨_, rfl, ?_⟩
  have h := Keep.refl s
  refine State.spdmRequest_keep ?_
  · assumption

theorem execNegotiateAlgorithms_goes (port : Nat) (addr : Nat) (udp : Nat) (s : State) :
    ∃ t, execNegotiateAlgorithms port addr udp s = .next t ∧ Keep s t := by
  refine ⟨_, rfl, ?_⟩
  have h := Keep.refl s
  refine State.spdmRequest_keep ?_
  · assumption

theorem execGetDigests_goes (port : Nat) (addr : Nat) (udp : Nat) (s : State) :
    ∃ t, execGetDigests port addr udp s = .next t ∧ Keep s t := by
  refine ⟨_, rfl, ?_⟩
  have h := Keep.refl s
  refine State.spdmRequest_keep ?_
  · assumption

theorem execGetCertificate_goes (port : Nat) (addr : Nat) (udp : Nat) (s : State) :
    ∃ t, execGetCertificate port addr udp s = .next t ∧ Keep s t := by
  refine ⟨_, rfl, ?_⟩
  have h := Keep.refl s
  refine State.spdmRequest_keep ?_
  · assumption

theorem execChallenge_goes (port : Nat) (addr : Nat) (udp : Nat) (s : State) :
    ∃ t, execChallenge port addr udp s = .next t ∧ Keep s t := by
  refine ⟨_, rfl, ?_⟩
  have h := Keep.refl s
  refine State.spdmRequest_keep ?_
  · assumption

theorem execGetMeasurements_goes (port : Nat) (addr : Nat) (udp : Nat) (s : State) :
    ∃ t, execGetMeasurements port addr udp s = .next t ∧ Keep s t := by
  refine ⟨_, rfl, ?_⟩
  have h := Keep.refl s
  refine State.spdmRequest_keep ?_
  · assumption

theorem execSpdmUnsupported_goes (port : Nat) (addr : Nat) (udp : Nat) (s : State) :
    ∃ t, execSpdmUnsupported port addr udp s = .next t ∧ Keep s t := by
  refine ⟨_, rfl, ?_⟩
  have h := Keep.refl s
  refine State.spdmRequest_keep ?_
  · assumption

end Sys2Proof.Machine
end

