-- ==== Sys2Proof/Laws/GoesGrp.lean ====
section
/-! SUPPORT. Laws/GoesGrp.lean: every command of Machine/ExecGrp.lean completes, and keeps what Laws/Keep.lean says. -/

namespace Sys2Proof.Machine

theorem execGroupStatusSend_goes (s : State) :
    ∃ t, execGroupStatusSend s = .next t ∧ Keep s t := by
  refine ⟨_, rfl, ?_⟩
  have h := Keep.refl s
  refine State.statusSend_keep ?_
  · assumption

theorem execGroupStatusReceive_goes (lane : Nat) (src : Nat) (seq : Nat) (st : Sys2Proof.GStat) (s : State) :
    ∃ t, execGroupStatusReceive lane src seq st s = .next t ∧ Keep s t := by
  refine ⟨_, rfl, ?_⟩
  have h := Keep.refl s
  refine State.statusReceive_keep ?_
  · assumption

theorem execMemberLost_goes (peer : Nat) (s : State) :
    ∃ t, execMemberLost peer s = .next t ∧ Keep s t := by
  refine ⟨_, rfl, ?_⟩
  have h := Keep.refl s
  refine State.memberLost_keep ?_
  · assumption

theorem execGroupEventReceive_goes (lane : Nat) (seq : Nat) (n : Nat) (s : State) :
    ∃ t, execGroupEventReceive lane seq n s = .next t ∧ Keep s t := by
  refine ⟨_, rfl, ?_⟩
  have h := Keep.refl s
  refine State.grpEvent_keep ?_
  · assumption

theorem execPeerAdmission_goes (peer : Nat) (auth : Bool) (s : State) :
    ∃ t, execPeerAdmission peer auth s = .next t ∧ Keep s t := by
  refine ⟨_, rfl, ?_⟩
  have h := Keep.refl s
  refine State.peerAdmission_keep ?_
  · assumption

theorem execAdmissionRetry_goes (s : State) :
    ∃ t, execAdmissionRetry s = .next t ∧ Keep s t := by
  refine ⟨_, rfl, ?_⟩
  have h := Keep.refl s
  refine State.admissionRetry_keep ?_
  · assumption

theorem execConfigTransfer_goes (lane : Nat) (seq : Nat) (epoch : Nat) (words : List Nat) (s : State) :
    ∃ t, execConfigTransfer lane seq epoch words s = .next t ∧ Keep s t := by
  refine ⟨_, rfl, ?_⟩
  have h := Keep.refl s
  refine State.configTransfer_keep ?_
  · assumption

theorem execMirrorReceive_goes (lane : Nat) (seq : Nat) (part : Nat) (period : Nat) (writes : List Sys2Proof.MirW) (s : State) :
    ∃ t, execMirrorReceive lane seq part period writes s = .next t ∧ Keep s t := by
  refine ⟨_, rfl, ?_⟩
  have h := Keep.refl s
  refine State.mirrorReceive_keep ?_
  · assumption

theorem execOwnershipFrameStart_goes (s : State) :
    ∃ t, execOwnershipFrameStart s = .next t ∧ Keep s t := by
  refine ⟨_, rfl, ?_⟩
  have h := Keep.refl s
  refine State.ownStart_keep ?_
  · assumption

theorem execOwnershipFrameEnd_goes (line0 : Nat) (line1 : Nat) (s : State) :
    ∃ t, execOwnershipFrameEnd line0 line1 s = .next t ∧ Keep s t := by
  refine ⟨_, rfl, ?_⟩
  have h := Keep.refl s
  refine State.ownEnd_keep ?_
  · assumption

theorem execGroupClaim_goes (req : Nat) (data : Nat) (s : State) :
    ∃ t, execGroupClaim req data s = .next t ∧ Keep s t := by
  refine ⟨_, rfl, ?_⟩
  have h := Keep.refl s
  refine State.busWrite_keep ?_
  · assumption

theorem execConfigDigestCheck_goes (s : State) :
    ∃ t, execConfigDigestCheck s = .next t ∧ Keep s t := by
  refine ⟨_, rfl, ?_⟩
  have h := Keep.refl s
  refine State.digestCheck_keep ?_
  · assumption

theorem execCommitPropose_goes (req : Nat) (data : Nat) (s : State) :
    ∃ t, execCommitPropose req data s = .next t ∧ Keep s t := by
  refine ⟨_, rfl, ?_⟩
  have h := Keep.refl s
  refine State.busWrite_keep ?_
  · assumption

theorem execPrepareReceive_goes (lane : Nat) (seq : Nat) (epoch : Nat) (digest : List Byte) (p : Nat) (s : State) :
    ∃ t, execPrepareReceive lane seq epoch digest p s = .next t ∧ Keep s t := by
  refine ⟨_, rfl, ?_⟩
  have h := Keep.refl s
  refine State.prepareReceive_keep ?_
  · assumption

theorem execDecideReceive_goes (lane : Nat) (seq : Nat) (commit : Bool) (s : State) :
    ∃ t, execDecideReceive lane seq commit s = .next t ∧ Keep s t := by
  refine ⟨_, rfl, ?_⟩
  have h := Keep.refl s
  refine State.decideReceive_keep ?_
  · assumption

theorem execCommitDeadline_goes (s : State) :
    ∃ t, execCommitDeadline s = .next t ∧ Keep s t := by
  refine ⟨_, rfl, ?_⟩
  have h := Keep.refl s
  refine State.commitDeadline_keep ?_
  · assumption

theorem execTimeExchange_goes (ofs : Int) (s : State) :
    ∃ t, execTimeExchange ofs s = .next t ∧ Keep s t := by
  refine ⟨_, rfl, ?_⟩
  have h := Keep.refl s
  refine State.timeExchange_keep ?_
  · assumption

theorem execPreparedReceive_goes (lane : Nat) (seq : Nat) (ok : Bool) (s : State) :
    ∃ t, execPreparedReceive lane seq ok s = .next t ∧ Keep s t := by
  refine ⟨_, rfl, ?_⟩
  have h := Keep.refl s
  refine State.preparedReceive_keep ?_
  · assumption

theorem execGroupConfigReceive_goes (lane : Nat) (seq : Nat) (epoch : Nat) (digest : List Byte) (s : State) :
    ∃ t, execGroupConfigReceive lane seq epoch digest s = .next t ∧ Keep s t := by
  refine ⟨_, rfl, ?_⟩
  have h := Keep.refl s
  refine State.configReceive_keep ?_
  · assumption

end Sys2Proof.Machine
end

