-- ==== Sys2Proof/Laws/GoesLath.lean ====
section
/-! SUPPORT. Laws/GoesLath.lean: every command of Machine/ExecLath.lean completes, and keeps what Laws/Keep.lean says. -/

namespace Sys2Proof.Machine

theorem execLathTake_goes (lath : Nat) (prod : Nat) (s : State) :
    ∃ t, execLathTake lath prod s = .next t ∧ Keep s t := by
  refine ⟨_, rfl, ?_⟩
  have h := Keep.refl s
  refine State.lathTake_keep ?_
  · assumption

theorem execConsumerTake_goes (lath : Nat) (input : Nat) (s : State) :
    ∃ t, execConsumerTake lath input s = .next t ∧ Keep s t := by
  refine ⟨_, rfl, ?_⟩
  have h := Keep.refl s
  refine State.consume_keep ?_
  · assumption

theorem execRouteCommit_goes (req : Nat) (lath : Nat) (s : State) :
    ∃ t, execRouteCommit req lath s = .next t ∧ Keep s t := by
  refine ⟨_, rfl, ?_⟩
  have h := Keep.refl s
  refine State.busWrite_keep ?_
  · assumption

theorem execRouteLoad_goes (req : Nat) (lath : Nat) (s : State) :
    ∃ t, execRouteLoad req lath s = .next t ∧ Keep s t := by
  refine ⟨_, rfl, ?_⟩
  have h := Keep.refl s
  refine State.busWrite_keep ?_
  · assumption

theorem execLathSelect_goes (req : Nat) (lath : Nat) (data : Nat) (s : State) :
    ∃ t, execLathSelect req lath data s = .next t ∧ Keep s t := by
  refine ⟨_, rfl, ?_⟩
  have h := Keep.refl s
  refine State.busWrite_keep ?_
  · assumption

theorem execSoftwareEvent_goes (req : Nat) (lath : Nat) (n : Nat) (s : State) :
    ∃ t, execSoftwareEvent req lath n s = .next t ∧ Keep s t := by
  refine ⟨_, rfl, ?_⟩
  have h := Keep.refl s
  refine State.busWrite_keep ?_
  · assumption

theorem execGpioEdge_goes (pin : Nat) (level : Bool) (s : State) :
    ∃ t, execGpioEdge pin level s = .next t ∧ Keep s t := by
  refine ⟨_, rfl, ?_⟩
  have h := Keep.refl s
  refine State.gpioSample_keep ?_
  refine State.gpioAt_keep ?_
  assumption

theorem execGpioLatchedEdge_goes (pin : Nat) (level : Bool) (s : State) :
    ∃ t, execGpioLatchedEdge pin level s = .next t ∧ Keep s t := by
  refine ⟨_, rfl, ?_⟩
  have h := Keep.refl s
  refine Keep.ite ?_ ?_
  · refine State.gpioAt_keep ?_
    assumption
  · dsimp only
    refine Keep.ite ?_ ?_
    · refine Keep.upd ?_
      refine State.requestWake_keep ?_
      refine State.gpioAt_keep ?_
      assumption
    · refine State.setFbit_keep ?_
      refine State.requestWake_keep ?_
      refine State.gpioAt_keep ?_
      assumption

theorem execGpioOutputAction_goes (pin : Nat) (s : State) :
    ∃ t, execGpioOutputAction pin s = .next t ∧ Keep s t := by
  refine ⟨_, rfl, ?_⟩
  have h := Keep.refl s
  refine State.consume_keep ?_
  assumption

theorem execDoorbell_goes (req : Nat) (tile : Nat) (data : Nat) (s : State) :
    ∃ t, execDoorbell req tile data s = .next t ∧ Keep s t := by
  refine ⟨_, rfl, ?_⟩
  have h := Keep.refl s
  refine State.busWrite_keep ?_
  · assumption

theorem execInterruptAccept_goes (pair : Nat) (s : State) :
    ∃ t, execInterruptAccept pair s = .next t ∧ Keep s t := by
  refine ⟨_, rfl, ?_⟩
  have h := Keep.refl s
  try dsimp only
  refine Keep.ite ?_ ?_
  · refine State.stepped_keep ?_
    · refine State.acceptInterrupt_keep ?_
      · assumption
  · refine State.acceptInterrupt_keep ?_
    · assumption

theorem execHoldoffExpiry_goes (group : Nat) (s : State) :
    ∃ t, execHoldoffExpiry group s = .next t ∧ Keep s t := by
  refine ⟨_, rfl, ?_⟩
  have h := Keep.refl s
  split
  · refine Keep.ite ?_ ?_
    · refine Keep.ite ?_ ?_
      · refine State.endHold_keep ?_
        assumption
      · dsimp only
        refine Keep.ite ?_ ?_
        · refine State.requestWake_keep ?_
          refine State.endHold_keep ?_
          assumption
        · refine State.endHold_keep ?_
          assumption
    · assumption
  · assumption

theorem execIntcEnWrite_goes (req : Nat) (tile : Nat) (isPair : Bool) (w : Nat) (data : Nat) (s : State) :
    ∃ t, execIntcEnWrite req tile isPair w data s = .next t ∧ Keep s t := by
  refine ⟨_, rfl, ?_⟩
  have h := Keep.refl s
  refine State.busWrite_keep ?_
  · assumption

theorem execDintcClaim_goes (req : Nat) (s : State) :
    ∃ t, execDintcClaim req s = .next t ∧ Keep s t := by
  refine ⟨_, rfl, ?_⟩
  have h := Keep.refl s
  refine State.busRead_keep ?_
  · assumption

end Sys2Proof.Machine
end

