-- ==== Sys2Proof/Laws/GoesLdSt.lean ====
section
/-! SUPPORT. Laws/GoesLdSt.lean: every command of Machine/ExecLdSt.lean completes, and keeps what Laws/Keep.lean says. -/

namespace Sys2Proof.Machine

theorem execILdW_goes (w : WOp) (x : Nat) (m : Nat) (disp : Nat) (s : State) :
    ∃ t, execILdW w x m disp s = .next t ∧ Keep s t := by
  refine ⟨_, rfl, ?_⟩
  have h := Keep.refl s
  refine State.loadI_keep ?_
  · assumption

theorem execILdH_goes (w : WOp) (x : Nat) (m : Nat) (disp : Nat) (s : State) :
    ∃ t, execILdH w x m disp s = .next t ∧ Keep s t := by
  refine ⟨_, rfl, ?_⟩
  have h := Keep.refl s
  refine State.loadI_keep ?_
  · assumption

theorem execILdHu_goes (w : WOp) (x : Nat) (m : Nat) (disp : Nat) (s : State) :
    ∃ t, execILdHu w x m disp s = .next t ∧ Keep s t := by
  refine ⟨_, rfl, ?_⟩
  have h := Keep.refl s
  refine State.loadI_keep ?_
  · assumption

theorem execILdB_goes (w : WOp) (x : Nat) (m : Nat) (disp : Nat) (s : State) :
    ∃ t, execILdB w x m disp s = .next t ∧ Keep s t := by
  refine ⟨_, rfl, ?_⟩
  have h := Keep.refl s
  refine State.loadI_keep ?_
  · assumption

theorem execILdBu_goes (w : WOp) (x : Nat) (m : Nat) (disp : Nat) (s : State) :
    ∃ t, execILdBu w x m disp s = .next t ∧ Keep s t := by
  refine ⟨_, rfl, ?_⟩
  have h := Keep.refl s
  refine State.loadI_keep ?_
  · assumption

theorem execILdD_goes (w : WOp) (x : Nat) (m : Nat) (disp : Nat) (s : State) :
    ∃ t, execILdD w x m disp s = .next t ∧ Keep s t := by
  refine ⟨_, rfl, ?_⟩
  have h := Keep.refl s
  refine State.loadI_keep ?_
  · assumption

theorem execILda_goes (w : WOp) (x : Nat) (m : Nat) (disp : Nat) (s : State) :
    ∃ t, execILda w x m disp s = .next t ∧ Keep s t := by
  refine ⟨_, rfl, ?_⟩
  have h := Keep.refl s
  refine State.loadI_keep ?_
  · assumption

theorem execILea_goes (w : WOp) (x : Nat) (m : Nat) (disp : Nat) (s : State) :
    ∃ t, execILea w x m disp s = .next t ∧ Keep s t := by
  refine ⟨_, rfl, ?_⟩
  have h := Keep.refl s
  refine State.toG_keep ?_
  · assumption

theorem execIStW_goes (w : WOp) (x : Nat) (m : Nat) (disp : Nat) (s : State) :
    ∃ t, execIStW w x m disp s = .next t ∧ Keep s t := by
  refine ⟨_, rfl, ?_⟩
  have h := Keep.refl s
  refine State.storeI_keep ?_
  · assumption

theorem execIStH_goes (w : WOp) (x : Nat) (m : Nat) (disp : Nat) (s : State) :
    ∃ t, execIStH w x m disp s = .next t ∧ Keep s t := by
  refine ⟨_, rfl, ?_⟩
  have h := Keep.refl s
  refine State.storeI_keep ?_
  · assumption

theorem execIStB_goes (w : WOp) (x : Nat) (m : Nat) (disp : Nat) (s : State) :
    ∃ t, execIStB w x m disp s = .next t ∧ Keep s t := by
  refine ⟨_, rfl, ?_⟩
  have h := Keep.refl s
  refine State.storeI_keep ?_
  · assumption

theorem execIStD_goes (w : WOp) (x : Nat) (m : Nat) (disp : Nat) (s : State) :
    ∃ t, execIStD w x m disp s = .next t ∧ Keep s t := by
  refine ⟨_, rfl, ?_⟩
  have h := Keep.refl s
  refine State.storeI_keep ?_
  · assumption

theorem execISta_goes (w : WOp) (x : Nat) (m : Nat) (disp : Nat) (s : State) :
    ∃ t, execISta w x m disp s = .next t ∧ Keep s t := by
  refine ⟨_, rfl, ?_⟩
  have h := Keep.refl s
  refine State.storeA_keep ?_
  · assumption

theorem execIXchg_goes (w : WOp) (wide : Bool) (x : Nat) (m : Nat) (disp : Nat) (s : State) :
    ∃ t, execIXchg w wide x m disp s = .next t ∧ Keep s t := by
  refine ⟨_, rfl, ?_⟩
  have h := Keep.refl s
  refine State.atomicI_keep ?_
  · assumption

theorem execIFadd_goes (w : WOp) (wide : Bool) (x : Nat) (m : Nat) (disp : Nat) (s : State) :
    ∃ t, execIFadd w wide x m disp s = .next t ∧ Keep s t := by
  refine ⟨_, rfl, ?_⟩
  have h := Keep.refl s
  refine State.atomicI_keep ?_
  · assumption

theorem execIFand_goes (w : WOp) (wide : Bool) (x : Nat) (m : Nat) (disp : Nat) (s : State) :
    ∃ t, execIFand w wide x m disp s = .next t ∧ Keep s t := by
  refine ⟨_, rfl, ?_⟩
  have h := Keep.refl s
  refine State.atomicI_keep ?_
  · assumption

theorem execIFor_goes (w : WOp) (wide : Bool) (x : Nat) (m : Nat) (disp : Nat) (s : State) :
    ∃ t, execIFor w wide x m disp s = .next t ∧ Keep s t := by
  refine ⟨_, rfl, ?_⟩
  have h := Keep.refl s
  refine State.atomicI_keep ?_
  · assumption

theorem execICas_goes (w : WOp) (wide : Bool) (x : Nat) (m : Nat) (disp : Nat) (y : Nat) (s : State) :
    ∃ t, execICas w wide x m disp y s = .next t ∧ Keep s t := by
  refine ⟨_, rfl, ?_⟩
  have h := Keep.refl s
  refine State.atomicI_keep ?_
  · assumption

end Sys2Proof.Machine
end

