-- ==== Sys2Proof/Laws/GoesLong.lean ====
section
/-! SUPPORT. Laws/GoesLong.lean: every command of Machine/ExecLong.lean completes, and keeps what Laws/Keep.lean says. -/

namespace Sys2Proof.Machine

theorem execIDiv_goes (w : WOp) (x : Nat) (y : Nat) (s : State) :
    ∃ t, execIDiv w x y s = .next t ∧ Keep s t := by
  refine ⟨_, rfl, ?_⟩
  have h := Keep.refl s
  refine State.longXY_keep ?_
  · assumption

theorem execIDivu_goes (w : WOp) (x : Nat) (y : Nat) (s : State) :
    ∃ t, execIDivu w x y s = .next t ∧ Keep s t := by
  refine ⟨_, rfl, ?_⟩
  have h := Keep.refl s
  refine State.longXY_keep ?_
  · assumption

theorem execIDivq_goes (w : WOp) (x : Nat) (y : Nat) (s : State) :
    ∃ t, execIDivq w x y s = .next t ∧ Keep s t := by
  refine ⟨_, rfl, ?_⟩
  have h := Keep.refl s
  refine State.longXY_keep ?_
  · assumption

theorem execISqrt_goes (w : WOp) (x : Nat) (s : State) :
    ∃ t, execISqrt w x s = .next t ∧ Keep s t := by
  refine ⟨_, rfl, ?_⟩
  have h := Keep.refl s
  refine State.longX_keep ?_
  · assumption

theorem execIRecip_goes (w : WOp) (x : Nat) (s : State) :
    ∃ t, execIRecip w x s = .next t ∧ Keep s t := by
  refine ⟨_, rfl, ?_⟩
  have h := Keep.refl s
  refine State.longX_keep ?_
  · assumption

theorem execISincos_goes (w : WOp) (x : Nat) (s : State) :
    ∃ t, execISincos w x s = .next t ∧ Keep s t := by
  refine ⟨_, rfl, ?_⟩
  have h := Keep.refl s
  refine State.longX_keep ?_
  · assumption

theorem execIMv3_goes (w : WOp) (x : Nat) (y : Nat) (s : State) :
    ∃ t, execIMv3 w x y s = .next t ∧ Keep s t := by
  refine ⟨_, rfl, ?_⟩
  have h := Keep.refl s
  refine State.issue_keep ?_ ?_
  · assumption
  · intro x1 x2 h3
    refine State.startMv3_keep ?_
    · assumption

theorem execIBmov_goes (w : WOp) (x : Nat) (n : Nat) (s : State) :
    ∃ t, execIBmov w x n s = .next t ∧ Keep s t := by
  refine ⟨_, rfl, ?_⟩
  have h := Keep.refl s
  refine State.issue_keep ?_ ?_
  · assumption
  · intro x1 x2 h3
    try dsimp only
    refine State.lrStart_keep ?_ ?_ ?_
    · assumption
    · intro x4 h5
      assumption
    · intro x6 x7 h8
      refine State.lrBmov_keep ?_
      · assumption

theorem execIBfill_goes (w : WOp) (x : Nat) (n : Nat) (s : State) :
    ∃ t, execIBfill w x n s = .next t ∧ Keep s t := by
  refine ⟨_, rfl, ?_⟩
  have h := Keep.refl s
  refine State.issue_keep ?_ ?_
  · assumption
  · intro x1 x2 h3
    try dsimp only
    refine State.lrStart_keep ?_ ?_ ?_
    · assumption
    · intro x4 h5
      assumption
    · intro x6 x7 h8
      refine State.lrBfill_keep ?_
      · assumption

theorem execITsrch_goes (w : WOp) (x : Nat) (n : Nat) (s : State) :
    ∃ t, execITsrch w x n s = .next t ∧ Keep s t := by
  refine ⟨_, rfl, ?_⟩
  have h := Keep.refl s
  refine State.issue_keep ?_ ?_
  · assumption
  · intro x1 x2 h3
    try dsimp only
    refine State.lrStart_keep ?_ ?_ ?_
    · assumption
    · intro x4 h5
      refine State.lrResult_keep ?_
      · assumption
    · intro x6 x7 h8
      refine State.lrTsrch_keep ?_
      · assumption

theorem execIMvm_goes (w : WOp) (x : Nat) (n : Nat) (s : State) :
    ∃ t, execIMvm w x n s = .next t ∧ Keep s t := by
  refine ⟨_, rfl, ?_⟩
  have h := Keep.refl s
  refine State.issue_keep ?_ ?_
  · assumption
  · intro x1 x2 h3
    try dsimp only
    refine State.lrStart_keep ?_ ?_ ?_
    · assumption
    · intro x4 h5
      assumption
    · intro x6 x7 h8
      refine State.lrMvm_keep ?_
      · assumption

theorem execISortk_goes (w : WOp) (x : Nat) (n : Nat) (s : State) :
    ∃ t, execISortk w x n s = .next t ∧ Keep s t := by
  refine ⟨_, rfl, ?_⟩
  have h := Keep.refl s
  refine State.issue_keep ?_ ?_
  · assumption
  · intro x1 x2 h3
    try dsimp only
    refine State.lrStart_keep ?_ ?_ ?_
    · assumption
    · intro x4 h5
      assumption
    · intro x6 x7 h8
      refine State.lrSortk_keep ?_
      · assumption

end Sys2Proof.Machine
end

