-- ==== Sys2Proof/Laws/GoesLoop.lean ====
section
/-! SUPPORT. Laws/GoesLoop.lean: every command of Machine/ExecLoop.lean completes, and keeps what Laws/Keep.lean says. -/

namespace Sys2Proof.Machine

theorem execSoftwareTrigger_goes (req : Nat) (tile : Nat) (ctx : Nat) (s : State) :
    ∃ t, execSoftwareTrigger req tile ctx s = .next t ∧ Keep s t := by
  refine ⟨_, rfl, ?_⟩
  have h := Keep.refl s
  refine State.busWrite_keep ?_
  · assumption

theorem execDispatch_goes (tile : Nat) (badWord : Nat) (s : State) :
    ∃ t, execDispatch tile badWord s = .next t ∧ Keep s t := by
  refine ⟨_, rfl, ?_⟩
  have h := Keep.refl s
  refine State.dispatch_keep ?_
  · assumption

theorem execRunCommit_goes (tile : Nat) (slice : Nat) (lanes : Nat) (nomaj : Bool) (s : State) :
    ∃ t, execRunCommit tile slice lanes nomaj s = .next t ∧ Keep s t := by
  refine ⟨_, rfl, ?_⟩
  have h := Keep.refl s
  refine State.runCommit_keep ?_
  · assumption

theorem execSharedValueWrite_goes (req : Nat) (tile : Nat) (idx : Nat) (data : Nat) (s : State) :
    ∃ t, execSharedValueWrite req tile idx data s = .next t ∧ Keep s t := by
  refine ⟨_, rfl, ?_⟩
  have h := Keep.refl s
  refine State.busWrite_keep ?_
  · assumption

theorem execSharedValueApply_goes (cluster : Nat) (s : State) :
    ∃ t, execSharedValueApply cluster s = .next t ∧ Keep s t := by
  refine ⟨_, rfl, ?_⟩
  have h := Keep.refl s
  refine Keep.foldl ?_ _ ?_
  · intro s1 x2 h3
    refine State.setIQ_keep ?_
    · assumption
  · refine State.applyShared_keep ?_
    · assumption

theorem execContextScrub_goes (tile : Nat) (ctx : Nat) (word : Nat) (copies : Nat) (s : State) :
    ∃ t, execContextScrub tile ctx word copies s = .next t ∧ Keep s t := by
  refine ⟨_, rfl, ?_⟩
  have h := Keep.refl s
  refine Keep.ite ?_ ?_
  · refine State.incF_keep ?_
    · refine Keep.ite ?_ ?_
      · refine State.ctxUncorr_keep ?_
        · assumption
      · refine Keep.ite ?_ ?_
        · assumption
        · refine State.setFlag_keep ?_
          · refine State.setF_keep ?_
            · refine State.setF_keep ?_
              · refine State.setF_keep ?_
                · refine State.satF_keep ?_
                  · assumption
  · refine Keep.ite ?_ ?_
    · refine State.ctxUncorr_keep ?_
      · assumption
    · refine Keep.ite ?_ ?_
      · assumption
      · refine State.setFlag_keep ?_
        · refine State.setF_keep ?_
          · refine State.setF_keep ?_
            · refine State.setF_keep ?_
              · refine State.satF_keep ?_
                · assumption

theorem execProgramScrub_goes (tile : Nat) (stepAddr : Nat) (bad : Nat) (s : State) :
    ∃ t, execProgramScrub tile stepAddr bad s = .next t ∧ Keep s t := by
  have h := Keep.refl s
  have hb : ∀ q : State, q = (match bad with
      | 0 => (s.stepRead tile stepAddr).1
      | 1 => if SMap.getD s.loop.progBad (4096 * tile + stepAddr) 2 = 2 then s.stepRepair tile stepAddr
        else s.stepUncorr tile stepAddr
      | _ => ({ s with loop.progBad := SMap.put s.loop.progBad (4096 * tile + stepAddr) 3 } : State).stepUncorr tile stepAddr) →
      Keep s q := by
    rintro q rfl
    split
    · exact State.stepRead_keep h
    · exact Keep.ite (State.stepRepair_keep h) (State.stepUncorr_keep h)
    · exact State.stepUncorr_keep (Keep.upd h)
  unfold execProgramScrub
  dsimp only
  by_cases h3 : bad = 3
  · refine ⟨_, if_pos h3, ?_⟩
    split
    · exact Keep.upd h
    · exact Keep.upd h
    · exact h
  · rw [if_neg h3]
    by_cases h4 : 4 ≤ bad
    · refine ⟨_, if_pos h4, ?_⟩
      exact Keep.ite h (Keep.upd h)
    · rw [if_neg h4]
      refine ⟨_, rfl, ?_⟩
      exact Keep.ite (State.incF_keep (hb _ rfl)) (hb _ rfl)

theorem execProgramStepWrite_goes (req : Nat) (addr : Nat) (size : Nat) (data : Nat) (s : State) :
    ∃ t, execProgramStepWrite req addr size data s = .next t ∧ Keep s t := by
  refine ⟨_, rfl, ?_⟩
  have h := Keep.refl s
  refine State.busWrite_keep ?_
  · assumption

theorem execHeldStepWriteApply_goes (tile : Nat) (s : State) :
    ∃ t, execHeldStepWriteApply tile s = .next t ∧ Keep s t := by
  refine ⟨_, rfl, ?_⟩
  have h := Keep.refl s
  refine State.heldStepApply_keep ?_
  · assumption

end Sys2Proof.Machine
end

