-- ==== Sys2Proof/Laws/GoesMac.lean ====
section
/-! SUPPORT. Laws/GoesMac.lean: every command of Machine/ExecMac.lean completes, and keeps what Laws/Keep.lean says. -/

namespace Sys2Proof.Machine

theorem execIMul_goes (w : WOp) (x : Nat) (y : Nat) (s : State) :
    ∃ t, execIMul w x y s = .next t ∧ Keep s t := by
  refine ⟨_, rfl, ?_⟩
  have h := Keep.refl s
  refine State.aluXY_keep ?_
  · assumption

theorem execIMulhs_goes (w : WOp) (x : Nat) (y : Nat) (s : State) :
    ∃ t, execIMulhs w x y s = .next t ∧ Keep s t := by
  refine ⟨_, rfl, ?_⟩
  have h := Keep.refl s
  refine State.aluXY_keep ?_
  · assumption

theorem execIMulhu_goes (w : WOp) (x : Nat) (y : Nat) (s : State) :
    ∃ t, execIMulhu w x y s = .next t ∧ Keep s t := by
  refine ⟨_, rfl, ?_⟩
  have h := Keep.refl s
  refine State.aluXY_keep ?_
  · assumption

theorem execIMulq_goes (w : WOp) (x : Nat) (y : Nat) (s : State) :
    ∃ t, execIMulq w x y s = .next t ∧ Keep s t := by
  refine ⟨_, rfl, ?_⟩
  have h := Keep.refl s
  refine State.aluXY_keep ?_
  · assumption

theorem execIMac_goes (w : WOp) (x : Nat) (y : Nat) (s : State) :
    ∃ t, execIMac w x y s = .next t ∧ Keep s t := by
  refine ⟨_, rfl, ?_⟩
  have h := Keep.refl s
  refine State.accumulate_keep ?_
  · assumption

theorem execIMsu_goes (w : WOp) (x : Nat) (y : Nat) (s : State) :
    ∃ t, execIMsu w x y s = .next t ∧ Keep s t := by
  refine ⟨_, rfl, ?_⟩
  have h := Keep.refl s
  refine State.accumulate_keep ?_
  · assumption

theorem execIMpy_goes (w : WOp) (x : Nat) (y : Nat) (s : State) :
    ∃ t, execIMpy w x y s = .next t ∧ Keep s t := by
  refine ⟨_, rfl, ?_⟩
  have h := Keep.refl s
  refine State.accumulate_keep ?_
  · assumption

theorem execIMovr_goes (w : WOp) (x : Nat) (s : State) :
    ∃ t, execIMovr w x s = .next t ∧ Keep s t := by
  refine ⟨_, rfl, ?_⟩
  have h := Keep.refl s
  refine State.issue_keep ?_ ?_
  · assumption
  · intro x1 x2 h3
    refine State.give_keep ?_
    · assumption

theorem execIMova_goes (w : WOp) (x : Nat) (s : State) :
    ∃ t, execIMova w x s = .next t ∧ Keep s t := by
  refine ⟨_, rfl, ?_⟩
  have h := Keep.refl s
  refine State.toA_keep ?_
  · assumption

theorem execIClra_goes (w : WOp) (x : Nat) (s : State) :
    ∃ t, execIClra w x s = .next t ∧ Keep s t := by
  refine ⟨_, rfl, ?_⟩
  have h := Keep.refl s
  refine State.toA_keep ?_
  · assumption

theorem execIMta_goes (w : WOp) (x : Nat) (s : State) :
    ∃ t, execIMta w x s = .next t ∧ Keep s t := by
  refine ⟨_, rfl, ?_⟩
  have h := Keep.refl s
  refine State.toA_keep ?_
  · assumption

theorem execIMfag_goes (w : WOp) (x : Nat) (s : State) :
    ∃ t, execIMfag w x s = .next t ∧ Keep s t := by
  refine ⟨_, rfl, ?_⟩
  have h := Keep.refl s
  refine State.toG_keep ?_
  · assumption

theorem execIMtag_goes (w : WOp) (x : Nat) (s : State) :
    ∃ t, execIMtag w x s = .next t ∧ Keep s t := by
  refine ⟨_, rfl, ?_⟩
  have h := Keep.refl s
  refine State.toA_keep ?_
  · assumption

theorem execINorm_goes (w : WOp) (x : Nat) (s : State) :
    ∃ t, execINorm w x s = .next t ∧ Keep s t := by
  refine ⟨_, rfl, ?_⟩
  have h := Keep.refl s
  refine State.toG_keep ?_
  · assumption

end Sys2Proof.Machine
end

