-- ==== Sys2Proof/Laws/GoesMem.lean ====
section
/-! SUPPORT. Laws/GoesMem.lean: every command of Machine/ExecMem.lean completes, and keeps what Laws/Keep.lean says. -/

namespace Sys2Proof.Machine

theorem execMemoryScrub_goes (addr : Nat) (kind : Nat) (s : State) :
    ∃ t, execMemoryScrub addr kind s = .next t ∧ Keep s t := by
  refine ⟨_, rfl, ?_⟩
  have h := Keep.refl s
  refine State.scrub_keep ?_
  · assumption

theorem execHbmSpare_goes (req : Nat) (cluster : Nat) (pc : Nat) (s : State) :
    ∃ t, execHbmSpare req cluster pc s = .next t ∧ Keep s t := by
  refine ⟨_, rfl, ?_⟩
  have h := Keep.refl s
  refine State.busWrite_keep ?_
  · assumption

theorem execSpareCopyDone_goes (cluster : Nat) (s : State) :
    ∃ t, execSpareCopyDone cluster s = .next t ∧ Keep s t := by
  refine ⟨_, rfl, ?_⟩
  have h := Keep.refl s
  refine State.spareDone_keep ?_
  · assumption

theorem execArbiterGrant_goes (kind : Nat) (unit : Nat) (ofs : Nat) (reqs : Nat) (emergency : Bool) (s : State) :
    ∃ t, execArbiterGrant kind unit ofs reqs emergency s = .next t ∧ Keep s t := by
  refine ⟨_, rfl, ?_⟩
  have h := Keep.refl s
  refine State.arbitrate_keep ?_
  assumption

theorem execIommuTlbi_goes (req : Nat) (tile : Nat) (data : Nat) (s : State) :
    ∃ t, execIommuTlbi req tile data s = .next t ∧ Keep s t := by
  refine ⟨_, rfl, ?_⟩
  have h := Keep.refl s
  refine State.busWrite_keep ?_
  · assumption

theorem execDmaStart_goes (req : Nat) (tile : Nat) (ch : Nat) (s : State) :
    ∃ t, execDmaStart req tile ch s = .next t ∧ Keep s t := by
  refine ⟨_, rfl, ?_⟩
  have h := Keep.refl s
  refine State.busWrite_keep ?_
  · assumption

theorem execDmaResume_goes (req : Nat) (tile : Nat) (ch : Nat) (s : State) :
    ∃ t, execDmaResume req tile ch s = .next t ∧ Keep s t := by
  refine ⟨_, rfl, ?_⟩
  have h := Keep.refl s
  refine State.busWrite_keep ?_
  · assumption

theorem execDmaAbort_goes (req : Nat) (tile : Nat) (ch : Nat) (s : State) :
    ∃ t, execDmaAbort req tile ch s = .next t ∧ Keep s t := by
  refine ⟨_, rfl, ?_⟩
  have h := Keep.refl s
  refine State.busWrite_keep ?_
  · assumption

theorem execDmaArm_goes (req : Nat) (tile : Nat) (ch : Nat) (s : State) :
    ∃ t, execDmaArm req tile ch s = .next t ∧ Keep s t := by
  refine ⟨_, rfl, ?_⟩
  have h := Keep.refl s
  refine State.busWrite_keep ?_
  · assumption

theorem execDmaDisarm_goes (req : Nat) (tile : Nat) (ch : Nat) (s : State) :
    ∃ t, execDmaDisarm req tile ch s = .next t ∧ Keep s t := by
  refine ⟨_, rfl, ?_⟩
  have h := Keep.refl s
  refine State.busWrite_keep ?_
  · assumption

theorem execDescriptorStart_goes (tile : Nat) (ch : Nat) (s : State) :
    ∃ t, execDescriptorStart tile ch s = .next t ∧ Keep s t := by
  refine ⟨_, rfl, ?_⟩
  have h := Keep.refl s
  refine Keep.ite ?_ ?_
  · assumption
  · refine State.descriptorStart_keep ?_
    · assumption

theorem execBurstIssue_goes (tile : Nat) (s : State) :
    ∃ t, execBurstIssue tile s = .next t ∧ Keep s t := by
  refine ⟨_, rfl, ?_⟩
  have h := Keep.refl s
  refine State.burstIssue_keep ?_
  · assumption

theorem execBurstComplete_goes (tile : Nat) (ch : Nat) (s : State) :
    ∃ t, execBurstComplete tile ch s = .next t ∧ Keep s t := by
  refine ⟨_, rfl, ?_⟩
  have h := Keep.refl s
  refine State.burstComplete_keep ?_
  · assumption

theorem execQueueConfig_goes (req : Nat) (tile : Nat) (data : Nat) (s : State) :
    ∃ t, execQueueConfig req tile data s = .next t ∧ Keep s t := by
  refine ⟨_, rfl, ?_⟩
  have h := Keep.refl s
  refine State.busWrite_keep ?_
  · assumption

theorem execQueueSelect_goes (req : Nat) (tile : Nat) (data : Nat) (s : State) :
    ∃ t, execQueueSelect req tile data s = .next t ∧ Keep s t := by
  refine ⟨_, rfl, ?_⟩
  have h := Keep.refl s
  refine State.busWrite_keep ?_
  · assumption

theorem execQueuePush_goes (req : Nat) (tile : Nat) (data : Nat) (s : State) :
    ∃ t, execQueuePush req tile data s = .next t ∧ Keep s t := by
  refine ⟨_, rfl, ?_⟩
  have h := Keep.refl s
  refine State.busWrite_keep ?_
  · assumption

theorem execQueuePop_goes (req : Nat) (tile : Nat) (s : State) :
    ∃ t, execQueuePop req tile s = .next t ∧ Keep s t := by
  refine ⟨_, rfl, ?_⟩
  have h := Keep.refl s
  refine State.busRead_keep ?_
  · assumption

theorem execQueueStateScrub_goes (tile : Nat) (queue : Nat) (bad : Bool) (s : State) :
    ∃ t, execQueueStateScrub tile queue bad s = .next t ∧ Keep s t := by
  refine ⟨_, rfl, ?_⟩
  have h := Keep.refl s
  refine State.queueScrub_keep ?_
  · assumption

theorem execLockAcquire_goes (req : Nat) (tile : Nat) (lock : Nat) (s : State) :
    ∃ t, execLockAcquire req tile lock s = .next t ∧ Keep s t := by
  refine ⟨_, rfl, ?_⟩
  have h := Keep.refl s
  refine State.busRead_keep ?_
  · assumption

theorem execLockRelease_goes (req : Nat) (tile : Nat) (lock : Nat) (data : Nat) (s : State) :
    ∃ t, execLockRelease req tile lock data s = .next t ∧ Keep s t := by
  refine ⟨_, rfl, ?_⟩
  have h := Keep.refl s
  refine State.busWrite_keep ?_
  · assumption

theorem execLockBreak_goes (req : Nat) (tile : Nat) (lock : Nat) (s : State) :
    ∃ t, execLockBreak req tile lock s = .next t ∧ Keep s t := by
  refine ⟨_, rfl, ?_⟩
  have h := Keep.refl s
  refine State.busWrite_keep ?_
  · assumption

theorem execLeaseExpiry_goes (tile : Nat) (lock : Nat) (s : State) :
    ∃ t, execLeaseExpiry tile lock s = .next t ∧ Keep s t := by
  refine ⟨_, rfl, ?_⟩
  have h := Keep.refl s
  refine State.leaseExpiry_keep ?_
  · assumption

end Sys2Proof.Machine
end

