-- ==== Sys2Proof/Laws/GoesMon.lean ====
section
/-! SUPPORT. Laws/GoesMon.lean: every command of Machine/ExecMon.lean completes, and keeps what Laws/Keep.lean says. -/

namespace Sys2Proof.Machine

theorem execMgmtFrameReceive_goes (port : Nat) (frame : List Byte) (s : State) :
    ∃ t, execMgmtFrameReceive port frame s = .next t ∧ Keep s t := by
  refine ⟨_, rfl, ?_⟩
  have h := Keep.refl s
  refine State.mgmtFrame_keep ?_
  · assumption

theorem execSessionHello_goes (port : Nat) (addr : Nat) (udp : Nat) (datagram : List Byte) (s : State) :
    ∃ t, execSessionHello port addr udp datagram s = .next t ∧ Keep s t := by
  refine ⟨_, rfl, ?_⟩
  have h := Keep.refl s
  refine State.sessionHello_keep ?_
  · assumption

theorem execSessionProve_goes (port : Nat) (addr : Nat) (udp : Nat) (datagram : List Byte) (s : State) :
    ∃ t, execSessionProve port addr udp datagram s = .next t ∧ Keep s t := by
  refine ⟨_, rfl, ?_⟩
  have h := Keep.refl s
  refine State.sessionProve_keep ?_
  · assumption

theorem execHandshakeTimeout_goes (sess : Nat) (s : State) :
    ∃ t, execHandshakeTimeout sess s = .next t ∧ Keep s t := by
  refine ⟨_, rfl, ?_⟩
  have h := Keep.refl s
  refine State.handExpire_keep ?_
  · assumption

theorem execSealedReceive_goes (port : Nat) (addr : Nat) (udp : Nat) (datagram : List Byte) (s : State) :
    ∃ t, execSealedReceive port addr udp datagram s = .next t ∧ Keep s t := by
  refine ⟨_, rfl, ?_⟩
  have h := Keep.refl s
  refine State.sealedReceive_keep ?_
  · assumption

theorem execSessionTimeout_goes (sess : Nat) (s : State) :
    ∃ t, execSessionTimeout sess s = .next t ∧ Keep s t := by
  refine ⟨_, rfl, ?_⟩
  have h := Keep.refl s
  refine State.sessionExpire_keep ?_
  · assumption

theorem execDerevoPing_goes (sess : Nat) (tag : Nat) (body : List Byte) (s : State) :
    ∃ t, execDerevoPing sess tag body s = .next t ∧ Keep s t := by
  refine ⟨_, rfl, ?_⟩
  have h := Keep.refl s
  refine State.drvRequest_keep ?_
  · assumption

theorem execDerevoClose_goes (sess : Nat) (tag : Nat) (body : List Byte) (s : State) :
    ∃ t, execDerevoClose sess tag body s = .next t ∧ Keep s t := by
  refine ⟨_, rfl, ?_⟩
  have h := Keep.refl s
  refine State.drvRequest_keep ?_
  · assumption

theorem execDerevoStatus_goes (sess : Nat) (tag : Nat) (body : List Byte) (s : State) :
    ∃ t, execDerevoStatus sess tag body s = .next t ∧ Keep s t := by
  refine ⟨_, rfl, ?_⟩
  have h := Keep.refl s
  refine State.drvRequest_keep ?_
  · assumption

theorem execDerevoHalt_goes (sess : Nat) (tag : Nat) (body : List Byte) (s : State) :
    ∃ t, execDerevoHalt sess tag body s = .next t ∧ Keep s t := by
  refine ⟨_, rfl, ?_⟩
  have h := Keep.refl s
  refine State.drvRequest_keep ?_
  · assumption

theorem execDerevoResume_goes (sess : Nat) (tag : Nat) (body : List Byte) (s : State) :
    ∃ t, execDerevoResume sess tag body s = .next t ∧ Keep s t := by
  refine ⟨_, rfl, ?_⟩
  have h := Keep.refl s
  refine State.drvRequest_keep ?_
  · assumption

theorem execDerevoStep_goes (sess : Nat) (tag : Nat) (body : List Byte) (s : State) :
    ∃ t, execDerevoStep sess tag body s = .next t ∧ Keep s t := by
  refine ⟨_, rfl, ?_⟩
  have h := Keep.refl s
  refine State.drvRequest_keep ?_
  · assumption

theorem execDerevoRead_goes (sess : Nat) (tag : Nat) (body : List Byte) (s : State) :
    ∃ t, execDerevoRead sess tag body s = .next t ∧ Keep s t := by
  refine ⟨_, rfl, ?_⟩
  have h := Keep.refl s
  refine State.drvRequest_keep ?_
  · assumption

theorem execDerevoWrite_goes (sess : Nat) (tag : Nat) (body : List Byte) (s : State) :
    ∃ t, execDerevoWrite sess tag body s = .next t ∧ Keep s t := by
  refine ⟨_, rfl, ?_⟩
  have h := Keep.refl s
  refine State.drvRequest_keep ?_
  · assumption

theorem execDerevoRegrd_goes (sess : Nat) (tag : Nat) (body : List Byte) (s : State) :
    ∃ t, execDerevoRegrd sess tag body s = .next t ∧ Keep s t := by
  refine ⟨_, rfl, ?_⟩
  have h := Keep.refl s
  refine State.drvRequest_keep ?_
  · assumption

theorem execDerevoRegwr_goes (sess : Nat) (tag : Nat) (body : List Byte) (s : State) :
    ∃ t, execDerevoRegwr sess tag body s = .next t ∧ Keep s t := by
  refine ⟨_, rfl, ?_⟩
  have h := Keep.refl s
  refine State.drvRequest_keep ?_
  · assumption

theorem execDerevoBpset_goes (sess : Nat) (tag : Nat) (body : List Byte) (s : State) :
    ∃ t, execDerevoBpset sess tag body s = .next t ∧ Keep s t := by
  refine ⟨_, rfl, ?_⟩
  have h := Keep.refl s
  refine State.drvRequest_keep ?_
  · assumption

theorem execDerevoSwbp_goes (sess : Nat) (tag : Nat) (body : List Byte) (s : State) :
    ∃ t, execDerevoSwbp sess tag body s = .next t ∧ Keep s t := by
  refine ⟨_, rfl, ?_⟩
  have h := Keep.refl s
  refine State.drvRequest_keep ?_
  · assumption

theorem execDerevoHaltTimeout_goes (sess : Nat) (s : State) :
    ∃ t, execDerevoHaltTimeout sess s = .next t ∧ Keep s t := by
  refine ⟨_, rfl, ?_⟩
  have h := Keep.refl s
  refine State.haltTimeout_keep ?_
  · assumption

theorem execHaltRequest_goes (req : Nat) (pair : Nat) (s : State) :
    ∃ t, execHaltRequest req pair s = .next t ∧ Keep s t := by
  refine ⟨_, rfl, ?_⟩
  have h := Keep.refl s
  refine State.busWriteBits_keep ?_
  · assumption

theorem execDebugResume_goes (req : Nat) (pair : Nat) (s : State) :
    ∃ t, execDebugResume req pair s = .next t ∧ Keep s t := by
  refine ⟨_, rfl, ?_⟩
  have h := Keep.refl s
  refine State.busWriteBits_keep ?_
  · assumption

theorem execDebugStep_goes (req : Nat) (pair : Nat) (s : State) :
    ∃ t, execDebugStep req pair s = .next t ∧ Keep s t := by
  refine ⟨_, rfl, ?_⟩
  have h := Keep.refl s
  refine State.busWriteBits_keep ?_
  · assumption

theorem execDebugEntry_goes (pair : Nat) (s : State) :
    ∃ t, execDebugEntry pair s = .next t ∧ Keep s t := by
  refine ⟨_, rfl, ?_⟩
  have h := Keep.refl s
  refine Keep.ite ?_ ?_
  · assumption
  · split
    · refine State.enterDebug_keep ?_
      · assumption
    · refine Keep.ite ?_ ?_
      · refine State.enterDebug_keep ?_
        · assumption
      · assumption

theorem execFreezeBegin_goes (page : Nat) (s : State) :
    ∃ t, execFreezeBegin page s = .next t ∧ Keep s t := by
  refine ⟨_, rfl, ?_⟩
  have h := Keep.refl s
  refine State.freezeBegin_keep ?_
  · assumption

theorem execFreezeEnd_goes (page : Nat) (s : State) :
    ∃ t, execFreezeEnd page s = .next t ∧ Keep s t := by
  refine ⟨_, rfl, ?_⟩
  have h := Keep.refl s
  refine State.freezeEnd_keep ?_
  · assumption

theorem execPrpSupervisionFrame_goes (s : State) :
    ∃ t, execPrpSupervisionFrame s = .next t ∧ Keep s t := by
  refine ⟨_, rfl, ?_⟩
  have h := Keep.refl s
  refine State.prpSupervise_keep ?_
  · assumption

theorem execTapBypass_goes (s : State) :
    ∃ t, execTapBypass s = .next t ∧ Keep s t := by
  refine ⟨_, rfl, ?_⟩
  have h := Keep.refl s
  refine State.tapSelect_keep ?_
  · assumption

theorem execTapIdcode_goes (s : State) :
    ∃ t, execTapIdcode s = .next t ∧ Keep s t := by
  refine ⟨_, rfl, ?_⟩
  have h := Keep.refl s
  refine State.tapSelect_keep ?_
  · assumption

theorem execTapSamplePreload_goes (pads : Nat) (preload : Nat) (s : State) :
    ∃ t, execTapSamplePreload pads preload s = .next t ∧ Keep s t := by
  refine ⟨_, rfl, ?_⟩
  have h := Keep.refl s
  refine State.tapSelect_keep ?_
  · refine Keep.upd ?_
    assumption

theorem execTapExtest_goes (preload : Nat) (s : State) :
    ∃ t, execTapExtest preload s = .next t ∧ Keep s t := by
  refine ⟨_, rfl, ?_⟩
  have h := Keep.refl s
  refine State.tapSelect_keep ?_
  · assumption

theorem execTapClamp_goes (s : State) :
    ∃ t, execTapClamp s = .next t ∧ Keep s t := by
  refine ⟨_, rfl, ?_⟩
  have h := Keep.refl s
  refine State.tapSelect_keep ?_
  · assumption

theorem execTapHighz_goes (s : State) :
    ∃ t, execTapHighz s = .next t ∧ Keep s t := by
  refine ⟨_, rfl, ?_⟩
  have h := Keep.refl s
  refine State.tapSelect_keep ?_
  · assumption

theorem execTapReset_goes (s : State) :
    ∃ t, execTapReset s = .next t ∧ Keep s t := by
  refine ⟨_, rfl, ?_⟩
  have h := Keep.refl s
  refine Keep.upd ?_
  assumption

end Sys2Proof.Machine
end

