-- ==== Sys2Proof/Laws/GoesMov.lean ====
section
/-! SUPPORT. Laws/GoesMov.lean: every command of Machine/ExecMov.lean completes, and keeps what Laws/Keep.lean says. -/

namespace Sys2Proof.Machine

theorem execINop_goes (w : WOp) (s : State) :
    ∃ t, execINop w s = .next t ∧ Keep s t := by
  refine ⟨_, rfl, ?_⟩
  have h := Keep.refl s
  refine State.issue_keep ?_ ?_
  · assumption
  · intro x1 x2 h3
    try dsimp only
    assumption

theorem execIMov_goes (w : WOp) (x : Nat) (s : State) :
    ∃ t, execIMov w x s = .next t ∧ Keep s t := by
  refine ⟨_, rfl, ?_⟩
  have h := Keep.refl s
  refine State.toG_keep ?_
  · assumption

theorem execIMovi_goes (w : WOp) (x : Nat) (imm : Nat) (s : State) :
    ∃ t, execIMovi w x imm s = .next t ∧ Keep s t := by
  refine ⟨_, rfl, ?_⟩
  have h := Keep.refl s
  refine State.toG_keep ?_
  · assumption

theorem execIMovl_goes (w : WOp) (x : Nat) (s : State) :
    ∃ t, execIMovl w x s = .next t ∧ Keep s t := by
  refine ⟨_, rfl, ?_⟩
  have h := Keep.refl s
  refine State.issue_keep ?_ ?_
  · assumption
  · intro x1 x2 h3
    refine Keep.ite1 ?_ ?_
    · try dsimp only
      assumption
    · try dsimp only
      refine State.wr_keep ?_
      · assumption

theorem execIMtl_goes (w : WOp) (x : Nat) (s : State) :
    ∃ t, execIMtl w x s = .next t ∧ Keep s t := by
  refine ⟨_, rfl, ?_⟩
  have h := Keep.refl s
  refine State.issue_keep ?_ ?_
  · assumption
  · intro x1 x2 h3
    refine Keep.ite1 ?_ ?_
    · try dsimp only
      assumption
    · try dsimp only
      refine State.updR_keep ?_
      · assumption

theorem execIMvfl_goes (w : WOp) (x : Nat) (s : State) :
    ∃ t, execIMvfl w x s = .next t ∧ Keep s t := by
  refine ⟨_, rfl, ?_⟩
  have h := Keep.refl s
  refine State.toG_keep ?_
  · assumption

theorem execIMtfl_goes (w : WOp) (x : Nat) (s : State) :
    ∃ t, execIMtfl w x s = .next t ∧ Keep s t := by
  refine ⟨_, rfl, ?_⟩
  have h := Keep.refl s
  refine State.issue_keep ?_ ?_
  · assumption
  · intro x1 x2 h3
    try dsimp only
    try dsimp only
    refine State.wr_keep ?_
    · refine State.wr_keep ?_
      · assumption

theorem execIClrsat_goes (w : WOp) (s : State) :
    ∃ t, execIClrsat w s = .next t ∧ Keep s t := by
  refine ⟨_, rfl, ?_⟩
  have h := Keep.refl s
  refine State.issue_keep ?_ ?_
  · assumption
  · intro x1 x2 h3
    try dsimp only
    refine State.wr_keep ?_
    · assumption

theorem execISel_goes (w : WOp) (x : Nat) (y : Nat) (cc : Nat) (s : State) :
    ∃ t, execISel w x y cc s = .next t ∧ Keep s t := by
  refine ⟨_, rfl, ?_⟩
  have h := Keep.refl s
  refine State.issue_keep ?_ ?_
  · assumption
  · intro x1 x2 h3
    refine Keep.ite1 ?_ ?_
    · try dsimp only
      assumption
    · try dsimp only
      try dsimp only
      refine State.wr_keep ?_
      · assumption

theorem execIRdfeat_goes (w : WOp) (x : Nat) (k : Nat) (s : State) :
    ∃ t, execIRdfeat w x k s = .next t ∧ Keep s t := by
  refine ⟨_, rfl, ?_⟩
  have h := Keep.refl s
  refine State.toG_keep ?_
  · assumption

theorem execILoop_goes (w : WOp) (x : Nat) (disp : Nat) (s : State) :
    ∃ t, execILoop w x disp s = .next t ∧ Keep s t := by
  refine ⟨_, rfl, ?_⟩
  have h := Keep.refl s
  refine State.issue_keep ?_ ?_
  · assumption
  · intro x1 x2 h3
    refine State.startLoop_keep ?_
    · assumption

theorem execILoopi_goes (w : WOp) (k : Nat) (disp : Nat) (s : State) :
    ∃ t, execILoopi w k disp s = .next t ∧ Keep s t := by
  refine ⟨_, rfl, ?_⟩
  have h := Keep.refl s
  refine State.issue_keep ?_ ?_
  · assumption
  · intro x1 x2 h3
    refine State.startLoop_keep ?_
    · assumption

theorem execIMtlc_goes (w : WOp) (x : Nat) (k : Nat) (s : State) :
    ∃ t, execIMtlc w x k s = .next t ∧ Keep s t := by
  refine ⟨_, rfl, ?_⟩
  have h := Keep.refl s
  refine State.issue_keep ?_ ?_
  · assumption
  · intro x1 x2 h3
    try dsimp only
    try dsimp only
    refine Keep.ite ?_ ?_
    · refine State.wr_keep ?_
      · refine State.wr_keep ?_
        · assumption
    · refine State.wr_keep ?_
      · assumption

theorem execIMflc_goes (w : WOp) (x : Nat) (k : Nat) (s : State) :
    ∃ t, execIMflc w x k s = .next t ∧ Keep s t := by
  refine ⟨_, rfl, ?_⟩
  have h := Keep.refl s
  refine State.toG_keep ?_
  · assumption

end Sys2Proof.Machine
end

