-- ==== Sys2Proof/Laws/GoesPwr.lean ====
section
/-! SUPPORT. Laws/GoesPwr.lean: every command of Machine/ExecPwr.lean completes, and keeps what Laws/Keep.lean says. -/

namespace Sys2Proof.Machine

theorem execFeedCrossing_goes (feed : Nat) (ovr : Bool) (s : State) :
    ∃ t, execFeedCrossing feed ovr s = .next t ∧ Keep s t := by
  refine ⟨_, rfl, ?_⟩
  have h := Keep.refl s
  refine State.feedCrossing_keep ?_
  · assumption

theorem execFeedInRegulation_goes (feed : Nat) (s : State) :
    ∃ t, execFeedInRegulation feed s = .next t ∧ Keep s t := by
  refine ⟨_, rfl, ?_⟩
  have h := Keep.refl s
  refine State.feedRegulation_keep ?_
  · assumption

theorem execFeedReturn_goes (s : State) :
    ∃ t, execFeedReturn s = .next t ∧ Keep s t := by
  refine ⟨_, rfl, ?_⟩
  have h := Keep.refl s
  refine State.feedReturn_keep ?_
  · assumption

theorem execFeedCommand_goes (req : Nat) (data : Nat) (s : State) :
    ∃ t, execFeedCommand req data s = .next t ∧ Keep s t := by
  refine ⟨_, rfl, ?_⟩
  have h := Keep.refl s
  refine State.busWrite_keep ?_
  · assumption

theorem execBrownOut_goes (s : State) :
    ∃ t, execBrownOut s = .next t ∧ Keep s t := by
  refine ⟨_, rfl, ?_⟩
  have h := Keep.refl s
  refine State.brownOut_keep ?_
  · assumption

theorem execPhaseFail_goes (s : State) :
    ∃ t, execPhaseFail s = .next t ∧ Keep s t := by
  refine ⟨_, rfl, ?_⟩
  have h := Keep.refl s
  refine State.phaseFail_keep ?_
  · assumption

theorem execAuxFeedLoss_goes (k : Nat) (s : State) :
    ∃ t, execAuxFeedLoss k s = .next t ∧ Keep s t := by
  refine ⟨_, rfl, ?_⟩
  have h := Keep.refl s
  refine State.auxLoss_keep ?_
  · assumption

theorem execPowerDomainCommand_goes (req : Nat) (data : Nat) (s : State) :
    ∃ t, execPowerDomainCommand req data s = .next t ∧ Keep s t := by
  refine ⟨_, rfl, ?_⟩
  have h := Keep.refl s
  refine State.busWrite_keep ?_
  · assumption

theorem execDomainReady_goes (s : State) :
    ∃ t, execDomainReady s = .next t ∧ Keep s t := by
  refine ⟨_, rfl, ?_⟩
  have h := Keep.refl s
  refine State.domainReady_keep ?_
  · assumption

theorem execRefclkLoss_goes (s : State) :
    ∃ t, execRefclkLoss s = .next t ∧ Keep s t := by
  refine ⟨_, rfl, ?_⟩
  have h := Keep.refl s
  refine State.refLoss_keep ?_
  · assumption

theorem execRefclkRecover_goes (ref : Nat) (s : State) :
    ∃ t, execRefclkRecover ref s = .next t ∧ Keep s t := by
  refine ⟨_, rfl, ?_⟩
  have h := Keep.refl s
  refine State.refRecover_keep ?_
  · assumption

theorem execRefclkCommand_goes (req : Nat) (data : Nat) (s : State) :
    ∃ t, execRefclkCommand req data s = .next t ∧ Keep s t := by
  refine ⟨_, rfl, ?_⟩
  have h := Keep.refl s
  refine State.busWrite_keep ?_
  · assumption

theorem execRefclkRevert_goes (s : State) :
    ∃ t, execRefclkRevert s = .next t ∧ Keep s t := by
  refine ⟨_, rfl, ?_⟩
  have h := Keep.refl s
  refine State.refRevert_keep ?_
  · assumption

theorem execPllFailure_goes (pll : Nat) (s : State) :
    ∃ t, execPllFailure pll s = .next t ∧ Keep s t := by
  refine ⟨_, rfl, ?_⟩
  have h := Keep.refl s
  refine State.pllFailure_keep ?_
  · assumption

theorem execSparePllLocked_goes (s : State) :
    ∃ t, execSparePllLocked s = .next t ∧ Keep s t := by
  refine ⟨_, rfl, ?_⟩
  have h := Keep.refl s
  refine State.replayHeld_keep ?_
  · refine State.spareLocked_keep ?_
    · assumption

theorem execCoreIslandSleep_goes (tile : Nat) (s : State) :
    ∃ t, execCoreIslandSleep tile s = .next t ∧ Keep s t := by
  refine ⟨_, rfl, ?_⟩
  have h := Keep.refl s
  refine State.coreSleep_keep ?_
  · assumption

theorem execCoreIslandWake_goes (tile : Nat) (s : State) :
    ∃ t, execCoreIslandWake tile s = .next t ∧ Keep s t := by
  refine ⟨_, rfl, ?_⟩
  have h := Keep.refl s
  refine State.replayHeld_keep ?_
  · refine State.coreWake_keep ?_
    · assumption

theorem execResetCommand_goes (req : Nat) (data : Nat) (s : State) :
    ∃ t, execResetCommand req data s = .next t ∧ Keep s t := by
  refine ⟨_, rfl, ?_⟩
  have h := Keep.refl s
  refine State.busWrite_keep ?_
  · assumption

theorem execResetNAssert_goes (ns : Nat) (s : State) :
    ∃ t, execResetNAssert ns s = .next t ∧ Keep s t := by
  refine ⟨_, rfl, ?_⟩
  have h := Keep.refl s
  refine State.resetAssert_keep ?_
  · assumption

theorem execResetNRelease_goes (s : State) :
    ∃ t, execResetNRelease s = .next t ∧ Keep s t := by
  refine ⟨_, rfl, ?_⟩
  have h := Keep.refl s
  refine State.resetRelease_keep ?_
  · assumption

theorem execPowerOnReset_goes (s : State) :
    ∃ t, execPowerOnReset s = .next t ∧ Keep s t := by
  refine ⟨_, rfl, ?_⟩
  have h := Keep.refl s
  refine State.porAfterBrown_keep ?_
  · assumption

theorem execFeedWindowEntry_goes (feed : Nat) (s : State) :
    ∃ t, execFeedWindowEntry feed s = .next t ∧ Keep s t := by
  refine ⟨_, rfl, ?_⟩
  have h := Keep.refl s
  refine State.feedEntry_keep ?_
  · assumption

theorem execRefclkValidityChange_goes (ref : Nat) (valid : Bool) (s : State) :
    ∃ t, execRefclkValidityChange ref valid s = .next t ∧ Keep s t := by
  refine ⟨_, rfl, ?_⟩
  have h := Keep.refl s
  refine State.refChange_keep ?_
  · assumption

theorem execAuxFeedReturn_goes (k : Nat) (s : State) :
    ∃ t, execAuxFeedReturn k s = .next t ∧ Keep s t := by
  refine ⟨_, rfl, ?_⟩
  have h := Keep.refl s
  refine State.setFlag_keep ?_
  · assumption

theorem execClusterIslandSleep_goes (cluster : Nat) (k : Nat) (s : State) :
    ∃ t, execClusterIslandSleep cluster k s = .next t ∧ Keep s t := by
  refine ⟨_, rfl, ?_⟩
  have h := Keep.refl s
  refine State.clusterSleep_keep ?_
  · assumption

theorem execClusterIslandWake_goes (cluster : Nat) (k : Nat) (s : State) :
    ∃ t, execClusterIslandWake cluster k s = .next t ∧ Keep s t := by
  refine ⟨_, rfl, ?_⟩
  have h := Keep.refl s
  refine State.replayHeld_keep ?_
  · refine State.clusterWake_keep ?_
    · assumption

theorem execTjUpdate_goes (temps : List Int) (s : State) :
    ∃ t, execTjUpdate temps s = .next t ∧ Keep s t := by
  refine ⟨_, rfl, ?_⟩
  have h := Keep.refl s
  refine State.tjUpdate_keep ?_
  · assumption

end Sys2Proof.Machine
end

