-- ==== Sys2Proof/Laws/GoesRing.lean ====
section
/-! SUPPORT. Laws/GoesRing.lean: every command of Machine/ExecRing.lean completes, and keeps what Laws/Keep.lean says. -/

namespace Sys2Proof.Machine

theorem execLaneLockLoss_goes (kind : Nat) (group : Nat) (lane : Nat) (s : State) :
    ∃ t, execLaneLockLoss kind group lane s = .next t ∧ Keep s t := by
  refine ⟨_, rfl, ?_⟩
  have h := Keep.refl s
  split
  · refine State.laneLoss_keep ?_
    assumption
  · refine Keep.ite ?_ ?_
    · refine State.setPeer_keep ?_
      assumption
    · assumption
  · refine Keep.ite ?_ ?_
    · refine State.setFlag_keep ?_
      assumption
    · assumption

theorem execLaneReset_goes (req : Nat) (lane : Nat) (s : State) :
    ∃ t, execLaneReset req lane s = .next t ∧ Keep s t := by
  refine ⟨_, rfl, ?_⟩
  have h := Keep.refl s
  refine State.busWriteBits_keep ?_
  · assumption

theorem execMeasReceive_goes (ring : Nat) (dir : Nat) (sof : LineBlock) (blocks : List LineBlock) (eof : LineBlock) (more : List LineBlock) (s : State) :
    ∃ t, execMeasReceive ring dir sof blocks eof more s = .next t ∧ Keep s t := by
  refine ⟨_, rfl, ?_⟩
  have h := Keep.refl s
  refine State.receiveAs_keep ?_ ?_
  · assumption
  · intro x1 x2 h3
    refine State.takeMeas_keep ?_
    assumption

theorem execMrspReceive_goes (ring : Nat) (dir : Nat) (sof : LineBlock) (blocks : List LineBlock) (eof : LineBlock) (more : List LineBlock) (s : State) :
    ∃ t, execMrspReceive ring dir sof blocks eof more s = .next t ∧ Keep s t := by
  refine ⟨_, rfl, ?_⟩
  have h := Keep.refl s
  refine State.receiveAs_keep ?_ ?_
  · assumption
  · intro x1 x2 h3
    refine State.takeMrsp_keep ?_
    assumption

theorem execEchorReceive_goes (ring : Nat) (dir : Nat) (sof : LineBlock) (blocks : List LineBlock) (eof : LineBlock) (more : List LineBlock) (frac : Nat) (s : State) :
    ∃ t, execEchorReceive ring dir sof blocks eof more frac s = .next t ∧ Keep s t := by
  refine ⟨_, rfl, ?_⟩
  have h := Keep.refl s
  refine State.receiveAs_keep ?_ ?_
  · assumption
  · intro x1 x2 h3
    refine State.takeEchor_keep ?_
    assumption

theorem execEnumReturn_goes (ring : Nat) (dir : Nat) (sof : LineBlock) (blocks : List LineBlock) (eof : LineBlock) (more : List LineBlock) (s : State) :
    ∃ t, execEnumReturn ring dir sof blocks eof more s = .next t ∧ Keep s t := by
  refine ⟨_, rfl, ?_⟩
  have h := Keep.refl s
  refine State.receiveAs_keep ?_ ?_
  · assumption
  · intro x1 x2 h3
    refine State.takeEnum_keep ?_
    assumption

theorem execBrkStatusReceive_goes (ring : Nat) (dir : Nat) (line : List LineBlock) (s : State) :
    ∃ t, execBrkStatusReceive ring dir line s = .next t ∧ Keep s t := by
  refine ⟨_, rfl, ?_⟩
  have h := Keep.refl s
  refine State.receiveAs_keep ?_ ?_
  · assumption
  · intro x1 x2 h3
    assumption

theorem execBrkReportTimeout_goes (ring : Nat) (dir : Nat) (s : State) :
    ∃ t, execBrkReportTimeout ring dir s = .next t ∧ Keep s t := by
  refine ⟨_, rfl, ?_⟩
  have h := Keep.refl s
  refine State.brkTimeout_keep ?_
  · assumption

theorem execFrameTransmit_goes (ring : Nat) (dir : Nat) (s : State) :
    ∃ t, execFrameTransmit ring dir s = .next t ∧ Keep s t := by
  refine ⟨_, rfl, ?_⟩
  have h := Keep.refl s
  refine State.transmit_keep ?_
  · assumption

theorem execBlockCommandRepeat_goes (ring : Nat) (s : State) :
    ∃ t, execBlockCommandRepeat ring s = .next t ∧ Keep s t := by
  refine ⟨_, rfl, ?_⟩
  have h := Keep.refl s
  refine State.blockAgain_keep ?_
  · assumption

theorem execMreqEnqueue_goes (req : Nat) (ring : Nat) (hi : Bool) (size : Nat) (data : Nat) (s : State) :
    ∃ t, execMreqEnqueue req ring hi size data s = .next t ∧ Keep s t := by
  refine ⟨_, rfl, ?_⟩
  have h := Keep.refl s
  refine State.busWrite_keep ?_
  · assumption

theorem execMreqIssue_goes (ring : Nat) (s : State) :
    ∃ t, execMreqIssue ring s = .next t ∧ Keep s t := by
  refine ⟨_, rfl, ?_⟩
  have h := Keep.refl s
  refine State.mreqIssue_keep ?_
  · assumption

theorem execMreqTimeout_goes (ring : Nat) (s : State) :
    ∃ t, execMreqTimeout ring s = .next t ∧ Keep s t := by
  refine ⟨_, rfl, ?_⟩
  have h := Keep.refl s
  refine State.mreqTimeout_keep ?_
  · assumption

theorem execMrspRead_goes (req : Nat) (ring : Nat) (s : State) :
    ∃ t, execMrspRead req ring s = .next t ∧ Keep s t := by
  refine ⟨_, rfl, ?_⟩
  have h := Keep.refl s
  refine State.busRead_keep ?_
  · assumption

theorem execTimeFrameSend_goes (ring : Nat) (s : State) :
    ∃ t, execTimeFrameSend ring s = .next t ∧ Keep s t := by
  refine ⟨_, rfl, ?_⟩
  have h := Keep.refl s
  refine State.sendTime_keep ?_
  · assumption

theorem execCalibration_goes (req : Nat) (ring : Nat) (s : State) :
    ∃ t, execCalibration req ring s = .next t ∧ Keep s t := by
  refine ⟨_, rfl, ?_⟩
  have h := Keep.refl s
  refine State.busWriteBits_keep ?_
  · assumption

theorem execCalibrationDone_goes (ring : Nat) (s : State) :
    ∃ t, execCalibrationDone ring s = .next t ∧ Keep s t := by
  refine ⟨_, rfl, ?_⟩
  have h := Keep.refl s
  refine State.calDone_keep ?_
  · assumption

theorem execEnumeration_goes (req : Nat) (ring : Nat) (force : Bool) (s : State) :
    ∃ t, execEnumeration req ring force s = .next t ∧ Keep s t := by
  refine ⟨_, rfl, ?_⟩
  have h := Keep.refl s
  refine State.busWriteBits_keep ?_
  · assumption

theorem execPositionLost_goes (ring : Nat) (pos : Nat) (s : State) :
    ∃ t, execPositionLost ring pos s = .next t ∧ Keep s t := by
  refine ⟨_, rfl, ?_⟩
  have h := Keep.refl s
  refine State.posLost_keep ?_
  · assumption

theorem execAutoJoinEnum_goes (ring : Nat) (s : State) :
    ∃ t, execAutoJoinEnum ring s = .next t ∧ Keep s t := by
  refine ⟨_, rfl, ?_⟩
  have h := Keep.refl s
  refine State.autoEnum_keep ?_
  · assumption

theorem execJoinComplete_goes (ring : Nat) (pos : Nat) (s : State) :
    ∃ t, execJoinComplete ring pos s = .next t ∧ Keep s t := by
  refine ⟨_, rfl, ?_⟩
  have h := Keep.refl s
  refine State.joinDone_keep ?_
  · assumption

theorem execNodeForward_goes (ring : Nat) (place : Nat) (dir : Nat) (sof : Nat) (blocks : List Nat) (crc : Nat) (held : Nat) (s : State) :
    ∃ t, execNodeForward ring place dir sof blocks crc held s = .next t ∧ Keep s t := by
  refine ⟨_, rfl, ?_⟩
  have h := Keep.refl s
  refine State.nodeForward_keep ?_
  · assumption

theorem execNodeEdgeSetReceive_goes (ring : Nat) (place : Nat) (sof : Nat) (blocks : List Nat) (crc : Nat) (s : State) :
    ∃ t, execNodeEdgeSetReceive ring place sof blocks crc s = .next t ∧ Keep s t := by
  refine ⟨_, rfl, ?_⟩
  have h := Keep.refl s
  refine State.nodeTake_keep ?_ ?_
  · assumption
  · intro x1 x2 h3
    refine State.nodeSet_keep ?_
    · assumption

theorem execNodeEntryApply_goes (ring : Nat) (place : Nat) (leg : Nat) (s : State) :
    ∃ t, execNodeEntryApply ring place leg s = .next t ∧ Keep s t := by
  refine ⟨_, rfl, ?_⟩
  have h := Keep.refl s
  refine State.nodeEntry_keep ?_
  · assumption

theorem execNodePeriodEnd_goes (ring : Nat) (place : Nat) (leg : Nat) (s : State) :
    ∃ t, execNodePeriodEnd ring place leg s = .next t ∧ Keep s t := by
  refine ⟨_, rfl, ?_⟩
  have h := Keep.refl s
  refine State.nodePeriodEnd_keep ?_
  · assumption

theorem execNodeBlockCommand_goes (ring : Nat) (place : Nat) (sof : Nat) (blocks : List Nat) (crc : Nat) (s : State) :
    ∃ t, execNodeBlockCommand ring place sof blocks crc s = .next t ∧ Keep s t := by
  refine ⟨_, rfl, ?_⟩
  have h := Keep.refl s
  refine State.nodeTake_keep ?_ ?_
  · assumption
  · intro x1 x2 h3
    refine State.nodeBlock_keep ?_
    · assumption

theorem execNodeLossOfLink_goes (ring : Nat) (place : Nat) (s : State) :
    ∃ t, execNodeLossOfLink ring place s = .next t ∧ Keep s t := by
  refine ⟨_, rfl, ?_⟩
  have h := Keep.refl s
  refine State.nodeLossOfLink_keep ?_
  · assumption

theorem execNodeTimeFrame_goes (ring : Nat) (place : Nat) (dir : Nat) (sof : Nat) (blocks : List Nat) (crc : Nat) (frac : Nat) (s : State) :
    ∃ t, execNodeTimeFrame ring place dir sof blocks crc frac s = .next t ∧ Keep s t := by
  refine ⟨_, rfl, ?_⟩
  have h := Keep.refl s
  refine State.nodeTake_keep ?_ ?_
  · assumption
  · intro x1 x2 h3
    refine State.nodeTime_keep ?_
    · assumption

theorem execNodeTimeOkTimeout_goes (ring : Nat) (place : Nat) (s : State) :
    ∃ t, execNodeTimeOkTimeout ring place s = .next t ∧ Keep s t := by
  refine ⟨_, rfl, ?_⟩
  have h := Keep.refl s
  refine State.nodeTimeOut_keep ?_
  · assumption

theorem execNodeEcho_goes (ring : Nat) (place : Nat) (dir : Nat) (sof : Nat) (blocks : List Nat) (crc : Nat) (turn : Nat) (s : State) :
    ∃ t, execNodeEcho ring place dir sof blocks crc turn s = .next t ∧ Keep s t := by
  refine ⟨_, rfl, ?_⟩
  have h := Keep.refl s
  refine State.nodeTake_keep ?_ ?_
  · assumption
  · intro x1 x2 h3
    refine State.nodeEcho_keep ?_
    · assumption

theorem execNodeEnum_goes (ring : Nat) (place : Nat) (dir : Nat) (sof : Nat) (blocks : List Nat) (crc : Nat) (s : State) :
    ∃ t, execNodeEnum ring place dir sof blocks crc s = .next t ∧ Keep s t := by
  refine ⟨_, rfl, ?_⟩
  have h := Keep.refl s
  refine State.nodeEnum_keep ?_
  · assumption

theorem execNodeMreq_goes (ring : Nat) (place : Nat) (sof : Nat) (blocks : List Nat) (crc : Nat) (s : State) :
    ∃ t, execNodeMreq ring place sof blocks crc s = .next t ∧ Keep s t := by
  refine ⟨_, rfl, ?_⟩
  have h := Keep.refl s
  refine State.nodeTake_keep ?_ ?_
  · assumption
  · intro x1 x2 h3
    refine State.nodeMreq_keep ?_
    · assumption

theorem execNodeMeasSample_goes (ring : Nat) (place : Nat) (words : List Nat) (s : State) :
    ∃ t, execNodeMeasSample ring place words s = .next t ∧ Keep s t := by
  refine ⟨_, rfl, ?_⟩
  have h := Keep.refl s
  refine State.nodeSample_keep ?_
  · assumption

theorem execNodeHeartbeat_goes (ring : Nat) (place : Nat) (words : List Nat) (s : State) :
    ∃ t, execNodeHeartbeat ring place words s = .next t ∧ Keep s t := by
  refine ⟨_, rfl, ?_⟩
  have h := Keep.refl s
  refine State.nodeHeartbeat_keep ?_
  · assumption

theorem execBlockLockGain_goes (kind : Nat) (lane : Nat) (s : State) :
    ∃ t, execBlockLockGain kind lane s = .next t ∧ Keep s t := by
  refine ⟨_, rfl, ?_⟩
  have h := Keep.refl s
  split
  · refine Keep.ite ?_ ?_
    · assumption
    · refine State.laneLock_keep ?_
      · assumption
  · refine Keep.ite ?_ ?_
    · refine State.grpLaneLock_keep ?_
      · assumption
    · assumption
  · refine Keep.ite ?_ ?_
    · refine State.setFlag_keep ?_
      · assumption
    · assumption

theorem execNodeBlockLockChange_goes (ring : Nat) (place : Nat) (port : Nat) (lock : Bool) (s : State) :
    ∃ t, execNodeBlockLockChange ring place port lock s = .next t ∧ Keep s t := by
  refine ⟨_, rfl, ?_⟩
  have h := Keep.refl s
  refine State.nodeLock_keep ?_
  · assumption

theorem execNodeProtection_goes (ring : Nat) (place : Nat) (acts : Bool) (s : State) :
    ∃ t, execNodeProtection ring place acts s = .next t ∧ Keep s t := by
  refine ⟨_, rfl, ?_⟩
  have h := Keep.refl s
  refine State.nodeProtect_keep ?_
  · assumption

end Sys2Proof.Machine
end

