-- ==== Sys2Proof/Laws/GoesSamp.lean ====
section
/-! SUPPORT. Laws/GoesSamp.lean: every command of Machine/ExecSamp.lean completes, and keeps what Laws/Keep.lean says. -/

namespace Sys2Proof.Machine

theorem execRefSelWrite_goes (req : Nat) (cluster : Nat) (data : Nat) (s : State) :
    ∃ t, execRefSelWrite req cluster data s = .next t ∧ Keep s t := by
  refine ⟨_, rfl, ?_⟩
  have h := Keep.refl s
  refine State.busWrite_keep ?_
  · assumption

theorem execRefSettled_goes (cluster : Nat) (nv : Nat) (s : State) :
    ∃ t, execRefSettled cluster nv s = .next t ∧ Keep s t := by
  refine ⟨_, rfl, ?_⟩
  have h := Keep.refl s
  refine State.fcstAbort_keep ?_
  split
  · refine Keep.ite ?_ ?_
    · refine Keep.ite ?_ ?_
      · refine State.pulse_keep ?_
        refine State.setFlag_keep ?_
        refine State.refTo_keep ?_
        assumption
      · refine State.refDeparture_keep ?_
        assumption
    · assumption
  · assumption

theorem execRefFault_goes (ref : RefAt) (s : State) :
    ∃ t, execRefFault ref s = .next t ∧ Keep s t := by
  refine ⟨_, rfl, ?_⟩
  have h := Keep.refl s
  refine State.fcstAbort_keep ?_
  refine Keep.ite ?_ ?_
  · refine Keep.ite ?_ ?_
    · refine State.refTo_keep ?_
      assumption
    · refine State.refDeparture_keep ?_
      assumption
  · assumption

theorem execAdcCtrlWrite_goes (req : Nat) (conv : Nat) (data : Nat) (s : State) :
    ∃ t, execAdcCtrlWrite req conv data s = .next t ∧ Keep s t := by
  refine ⟨_, rfl, ?_⟩
  have h := Keep.refl s
  refine State.busWrite_keep ?_
  · assumption

theorem execAdcPowered_goes (conv : Nat) (s : State) :
    ∃ t, execAdcPowered conv s = .next t ∧ Keep s t := by
  refine ⟨_, rfl, ?_⟩
  have h := Keep.refl s
  split
  · refine Keep.ite ?_ ?_
    · refine State.setFlag_keep ?_
      · refine State.setAdc_keep ?_
        · assumption
    · assumption
  · assumption

theorem execAdcStartWrite_goes (req : Nat) (conv : Nat) (hi : Bool) (size : Nat) (data : Nat) (s : State) :
    ∃ t, execAdcStartWrite req conv hi size data s = .next t ∧ Keep s t := by
  refine ⟨_, rfl, ?_⟩
  have h := Keep.refl s
  refine State.busWrite_keep ?_
  · assumption

theorem execAdcStartEvent_goes (conv : Nat) (s : State) :
    ∃ t, execAdcStartEvent conv s = .next t ∧ Keep s t := by
  refine ⟨_, rfl, ?_⟩
  have h := Keep.refl s
  refine State.adcEvent_keep ?_
  · assumption

theorem execAdcTimeInstant_goes (conv : Nat) (s : State) :
    ∃ t, execAdcTimeInstant conv s = .next t ∧ Keep s t := by
  refine ⟨_, rfl, ?_⟩
  have h := Keep.refl s
  refine State.timeInstant_keep ?_
  · assumption

theorem execConversionDone_goes (conv : Nat) (x : AdcIn) (s : State) :
    ∃ t, execConversionDone conv x s = .next t ∧ Keep s t := by
  refine ⟨_, rfl, ?_⟩
  have h := Keep.refl s
  refine State.convDone_keep ?_
  assumption

theorem execSampleDelivery_goes (cluster : Nat) (s : State) :
    ∃ t, execSampleDelivery cluster s = .next t ∧ Keep s t := by
  refine ⟨_, rfl, ?_⟩
  have h := Keep.refl s
  refine State.sampleDelivery_keep ?_
  · assumption

theorem execAdcResultRead_goes (req : Nat) (conv : Nat) (ch : Nat) (s : State) :
    ∃ t, execAdcResultRead req conv ch s = .next t ∧ Keep s t := by
  refine ⟨_, rfl, ?_⟩
  have h := Keep.refl s
  refine State.busRead_keep ?_
  · assumption

theorem execCmpEnWrite_goes (req : Nat) (cmp : Nat) (data : Nat) (s : State) :
    ∃ t, execCmpEnWrite req cmp data s = .next t ∧ Keep s t := by
  refine ⟨_, rfl, ?_⟩
  have h := Keep.refl s
  refine State.busWrite_keep ?_
  · assumption

theorem execComparatorReady_goes (cmp : Nat) (s : State) :
    ∃ t, execComparatorReady cmp s = .next t ∧ Keep s t := by
  refine ⟨_, rfl, ?_⟩
  have h := Keep.refl s
  refine State.fcstAbort_keep ?_
  refine State.cmpReady_keep ?_
  assumption

theorem execThresholdWrite_goes (req : Nat) (cmp : Nat) (data : Nat) (s : State) :
    ∃ t, execThresholdWrite req cmp data s = .next t ∧ Keep s t := by
  refine ⟨_, rfl, ?_⟩
  have h := Keep.refl s
  refine State.busWrite_keep ?_
  · assumption

theorem execThresholdLoadEvent_goes (cmp : Nat) (s : State) :
    ∃ t, execThresholdLoadEvent cmp s = .next t ∧ Keep s t := by
  refine ⟨_, rfl, ?_⟩
  have h := Keep.refl s
  split
  · refine State.fcstAbort_keep ?_
    refine State.thrLoad_keep ?_
    refine State.tookOne_keep ?_
    assumption
  · assumption

theorem execComparatorActivation_goes (cmp : Nat) (s : State) :
    ∃ t, execComparatorActivation cmp s = .next t ∧ Keep s t := by
  refine ⟨_, rfl, ?_⟩
  have h := Keep.refl s
  refine State.pathActive_keep ?_
  · assumption

theorem execTripActivation_goes (trip : Nat) (s : State) :
    ∃ t, execTripActivation trip s = .next t ∧ Keep s t := by
  refine ⟨_, rfl, ?_⟩
  have h := Keep.refl s
  refine State.pathActive_keep ?_
  · assumption

theorem execCapture_goes (capin : Nat) (level : Bool) (s : State) :
    ∃ t, execCapture capin level s = .next t ∧ Keep s t := by
  refine ⟨_, rfl, ?_⟩
  have h := Keep.refl s
  refine State.capture_keep ?_
  · assumption

theorem execCaptureFifoRead_goes (req : Nat) (capin : Nat) (size : Nat) (s : State) :
    ∃ t, execCaptureFifoRead req capin size s = .next t ∧ Keep s t := by
  refine ⟨_, rfl, ?_⟩
  have h := Keep.refl s
  refine State.busRead_keep ?_
  · assumption

theorem execRefWindowReturn_goes (ref : RefAt) (s : State) :
    ∃ t, execRefWindowReturn ref s = .next t ∧ Keep s t := by
  refine ⟨_, rfl, ?_⟩
  have h := Keep.refl s
  refine Keep.ite ?_ ?_
  · refine State.fcstAbort_keep ?_
    refine State.refSettleAt_keep ?_
    assumption
  · assumption

theorem execEventPathDeactivation_goes (cluster : Nat) (src : Nat) (s : State) :
    ∃ t, execEventPathDeactivation cluster src s = .next t ∧ Keep s t := by
  refine ⟨_, rfl, ?_⟩
  have h := Keep.refl s
  refine State.pathInactive_keep ?_
  · assumption

end Sys2Proof.Machine
end

