-- ==== Sys2Proof/Laws/GoesStep.lean ====
section
/-! SUPPORT. Laws/GoesStep.lean: every command of Machine/ExecStep.lean completes, and keeps what Laws/Keep.lean says. -/

namespace Sys2Proof.Machine

theorem execLstepNop_goes (tile : Nat) (slice : Nat) (s : State) :
    ∃ t, execLstepNop tile slice s = .next t ∧ Keep s t := by
  refine ⟨_, rfl, ?_⟩
  have h := Keep.refl s
  refine State.runStep_keep ?_
  · assumption

theorem execLstepEnd_goes (tile : Nat) (slice : Nat) (s : State) :
    ∃ t, execLstepEnd tile slice s = .next t ∧ Keep s t := by
  refine ⟨_, rfl, ?_⟩
  have h := Keep.refl s
  refine State.runStep_keep ?_
  · assumption

theorem execLstepBr_goes (tile : Nat) (slice : Nat) (s : State) :
    ∃ t, execLstepBr tile slice s = .next t ∧ Keep s t := by
  refine ⟨_, rfl, ?_⟩
  have h := Keep.refl s
  refine State.runStep_keep ?_
  · assumption

theorem execLstepJmp_goes (tile : Nat) (slice : Nat) (s : State) :
    ∃ t, execLstepJmp tile slice s = .next t ∧ Keep s t := by
  refine ⟨_, rfl, ?_⟩
  have h := Keep.refl s
  refine State.runStep_keep ?_
  · assumption

theorem execLstepLdc_goes (tile : Nat) (slice : Nat) (s : State) :
    ∃ t, execLstepLdc tile slice s = .next t ∧ Keep s t := by
  refine ⟨_, rfl, ?_⟩
  have h := Keep.refl s
  refine State.stepPlain_keep ?_
  · assumption

theorem execLstepLdi_goes (tile : Nat) (slice : Nat) (s : State) :
    ∃ t, execLstepLdi tile slice s = .next t ∧ Keep s t := by
  refine ⟨_, rfl, ?_⟩
  have h := Keep.refl s
  refine State.stepPlain_keep ?_
  · assumption

theorem execLstepLdw_goes (tile : Nat) (slice : Nat) (s : State) :
    ∃ t, execLstepLdw tile slice s = .next t ∧ Keep s t := by
  refine ⟨_, rfl, ?_⟩
  have h := Keep.refl s
  refine State.stepPlain_keep ?_
  · assumption

theorem execLstepLdg_goes (tile : Nat) (slice : Nat) (s : State) :
    ∃ t, execLstepLdg tile slice s = .next t ∧ Keep s t := by
  refine ⟨_, rfl, ?_⟩
  have h := Keep.refl s
  refine State.stepPlain_keep ?_
  · assumption

theorem execLstepLdp_goes (tile : Nat) (slice : Nat) (s : State) :
    ∃ t, execLstepLdp tile slice s = .next t ∧ Keep s t := by
  refine ⟨_, rfl, ?_⟩
  have h := Keep.refl s
  refine State.runStep_keep ?_
  · assumption

theorem execLstepAdd_goes (tile : Nat) (slice : Nat) (s : State) :
    ∃ t, execLstepAdd tile slice s = .next t ∧ Keep s t := by
  refine ⟨_, rfl, ?_⟩
  have h := Keep.refl s
  refine State.stepSum_keep ?_
  · assumption

theorem execLstepSub_goes (tile : Nat) (slice : Nat) (s : State) :
    ∃ t, execLstepSub tile slice s = .next t ∧ Keep s t := by
  refine ⟨_, rfl, ?_⟩
  have h := Keep.refl s
  refine State.stepSum_keep ?_
  · assumption

theorem execLstepMul_goes (tile : Nat) (slice : Nat) (s : State) :
    ∃ t, execLstepMul tile slice s = .next t ∧ Keep s t := by
  refine ⟨_, rfl, ?_⟩
  have h := Keep.refl s
  refine State.runStep_keep ?_
  · assumption

theorem execLstepMac_goes (tile : Nat) (slice : Nat) (s : State) :
    ∃ t, execLstepMac tile slice s = .next t ∧ Keep s t := by
  refine ⟨_, rfl, ?_⟩
  have h := Keep.refl s
  refine State.runStep_keep ?_
  · assumption

theorem execLstepMsu_goes (tile : Nat) (slice : Nat) (s : State) :
    ∃ t, execLstepMsu tile slice s = .next t ∧ Keep s t := by
  refine ⟨_, rfl, ?_⟩
  have h := Keep.refl s
  refine State.runStep_keep ?_
  · assumption

theorem execLstepLdy_goes (tile : Nat) (slice : Nat) (s : State) :
    ∃ t, execLstepLdy tile slice s = .next t ∧ Keep s t := by
  refine ⟨_, rfl, ?_⟩
  have h := Keep.refl s
  refine State.runStep_keep ?_
  · assumption

theorem execLstepMovy_goes (tile : Nat) (slice : Nat) (s : State) :
    ∃ t, execLstepMovy tile slice s = .next t ∧ Keep s t := by
  refine ⟨_, rfl, ?_⟩
  have h := Keep.refl s
  refine State.runStep_keep ?_
  · assumption

theorem execLstepAbs_goes (tile : Nat) (slice : Nat) (s : State) :
    ∃ t, execLstepAbs tile slice s = .next t ∧ Keep s t := by
  refine ⟨_, rfl, ?_⟩
  have h := Keep.refl s
  refine State.stepSum_keep ?_
  · assumption

theorem execLstepNeg_goes (tile : Nat) (slice : Nat) (s : State) :
    ∃ t, execLstepNeg tile slice s = .next t ∧ Keep s t := by
  refine ⟨_, rfl, ?_⟩
  have h := Keep.refl s
  refine State.stepSum_keep ?_
  · assumption

theorem execLstepShr_goes (tile : Nat) (slice : Nat) (s : State) :
    ∃ t, execLstepShr tile slice s = .next t ∧ Keep s t := by
  refine ⟨_, rfl, ?_⟩
  have h := Keep.refl s
  refine State.stepPlain_keep ?_
  · assumption

theorem execLstepShl_goes (tile : Nat) (slice : Nat) (s : State) :
    ∃ t, execLstepShl tile slice s = .next t ∧ Keep s t := by
  refine ⟨_, rfl, ?_⟩
  have h := Keep.refl s
  refine State.runStep_keep ?_
  · assumption

theorem execLstepMin_goes (tile : Nat) (slice : Nat) (s : State) :
    ∃ t, execLstepMin tile slice s = .next t ∧ Keep s t := by
  refine ⟨_, rfl, ?_⟩
  have h := Keep.refl s
  refine State.stepPlain_keep ?_
  · assumption

theorem execLstepMax_goes (tile : Nat) (slice : Nat) (s : State) :
    ∃ t, execLstepMax tile slice s = .next t ∧ Keep s t := by
  refine ⟨_, rfl, ?_⟩
  have h := Keep.refl s
  refine State.stepPlain_keep ?_
  · assumption

theorem execLstepLim_goes (tile : Nat) (slice : Nat) (s : State) :
    ∃ t, execLstepLim tile slice s = .next t ∧ Keep s t := by
  refine ⟨_, rfl, ?_⟩
  have h := Keep.refl s
  refine State.runStep_keep ?_
  · assumption

theorem execLstepLimi_goes (tile : Nat) (slice : Nat) (s : State) :
    ∃ t, execLstepLimi tile slice s = .next t ∧ Keep s t := by
  refine ⟨_, rfl, ?_⟩
  have h := Keep.refl s
  refine State.runStep_keep ?_
  · assumption

theorem execLstepPi_goes (tile : Nat) (slice : Nat) (s : State) :
    ∃ t, execLstepPi tile slice s = .next t ∧ Keep s t := by
  refine ⟨_, rfl, ?_⟩
  have h := Keep.refl s
  refine State.runStep_keep ?_
  · assumption

theorem execLstepFil1_goes (tile : Nat) (slice : Nat) (s : State) :
    ∃ t, execLstepFil1 tile slice s = .next t ∧ Keep s t := by
  refine ⟨_, rfl, ?_⟩
  have h := Keep.refl s
  refine State.runStep_keep ?_
  · assumption

theorem execLstepRes_goes (tile : Nat) (slice : Nat) (s : State) :
    ∃ t, execLstepRes tile slice s = .next t ∧ Keep s t := by
  refine ⟨_, rfl, ?_⟩
  have h := Keep.refl s
  refine State.runStep_keep ?_
  · assumption

theorem execLstepDuty_goes (tile : Nat) (slice : Nat) (s : State) :
    ∃ t, execLstepDuty tile slice s = .next t ∧ Keep s t := by
  refine ⟨_, rfl, ?_⟩
  have h := Keep.refl s
  refine State.runStep_keep ?_
  · assumption

theorem execLstepCmpw_goes (tile : Nat) (slice : Nat) (s : State) :
    ∃ t, execLstepCmpw tile slice s = .next t ∧ Keep s t := by
  refine ⟨_, rfl, ?_⟩
  have h := Keep.refl s
  refine State.runStep_keep ?_
  · assumption

theorem execLstepSts_goes (tile : Nat) (slice : Nat) (s : State) :
    ∃ t, execLstepSts tile slice s = .next t ∧ Keep s t := by
  refine ⟨_, rfl, ?_⟩
  have h := Keep.refl s
  refine State.runStep_keep ?_
  · assumption

theorem execLstepStw_goes (tile : Nat) (slice : Nat) (s : State) :
    ∃ t, execLstepStw tile slice s = .next t ∧ Keep s t := by
  refine ⟨_, rfl, ?_⟩
  have h := Keep.refl s
  refine State.runStep_keep ?_
  · assumption

theorem execLstepWake_goes (tile : Nat) (slice : Nat) (s : State) :
    ∃ t, execLstepWake tile slice s = .next t ∧ Keep s t := by
  refine ⟨_, rfl, ?_⟩
  have h := Keep.refl s
  refine State.runStep_keep ?_
  · assumption

theorem execLstepEvt_goes (tile : Nat) (slice : Nat) (s : State) :
    ∃ t, execLstepEvt tile slice s = .next t ∧ Keep s t := by
  refine ⟨_, rfl, ?_⟩
  have h := Keep.refl s
  refine State.runStep_keep ?_
  · assumption

end Sys2Proof.Machine
end

