-- ==== Sys2Proof/Laws/GoesSysI.lean ====
section
/-! SUPPORT. Laws/GoesSysI.lean: every command of Machine/ExecSysI.lean completes, and keeps what Laws/Keep.lean says. -/

namespace Sys2Proof.Machine

theorem execITrap_goes (w : WOp) (k : Nat) (s : State) :
    ∃ t, execITrap w k s = .next t ∧ Keep s t := by
  refine ⟨_, rfl, ?_⟩
  have h := Keep.refl s
  refine State.issue_keep ?_ ?_
  · assumption
  · intro x1 x2 h3
    try dsimp only
    refine State.exception_keep ?_
    · assumption

theorem execIRett_goes (w : WOp) (s : State) :
    ∃ t, execIRett w s = .next t ∧ Keep s t := by
  refine ⟨_, rfl, ?_⟩
  have h := Keep.refl s
  refine State.issue_keep ?_ ?_
  · assumption
  · intro x1 x2 h3
    try dsimp only
    try dsimp only
    try dsimp only
    try dsimp only
    try dsimp only
    try dsimp only
    try dsimp only
    refine Keep.ite ?_ ?_
    · refine State.startReplay_keep ?_
      · refine State.updR_keep ?_
        · refine State.retPsw_keep ?_
          · refine State.setPair_keep ?_
            · assumption
    · refine State.updR_keep ?_
      · refine State.retPsw_keep ?_
        · refine State.setPair_keep ?_
          · assumption

theorem execIWait_goes (w : WOp) (s : State) :
    ∃ t, execIWait w s = .next t ∧ Keep s t := by
  refine ⟨_, rfl, ?_⟩
  have h := Keep.refl s
  refine State.issue_keep ?_ ?_
  · assumption
  · intro x1 x2 h3
    try dsimp only
    refine State.setFlag_keep ?_
    · assumption

theorem execIMfs_goes (w : WOp) (x : Nat) (k : Nat) (s : State) :
    ∃ t, execIMfs w x k s = .next t ∧ Keep s t := by
  refine ⟨_, rfl, ?_⟩
  have h := Keep.refl s
  refine State.toG_keep ?_
  · assumption

theorem execIMts_goes (w : WOp) (x : Nat) (k : Nat) (s : State) :
    ∃ t, execIMts w x k s = .next t ∧ Keep s t := by
  refine ⟨_, rfl, ?_⟩
  have h := Keep.refl s
  refine State.issue_keep ?_ ?_
  · assumption
  · intro x1 x2 h3
    dsimp only
    refine Keep.ite1 ?_ ?_
    · refine Keep.ite1 ?_ ?_
      · dsimp only
        refine State.tlbi_keep ?_
        refine State.drainAll_keep ?_
        refine State.setPair_keep ?_
        assumption
      · dsimp only
        refine State.drainAll_keep ?_
        refine State.setPair_keep ?_
        assumption
    · dsimp only
      refine State.updR_keep ?_
      refine State.setPair_keep ?_
      assumption

theorem execIDi_goes (w : WOp) (s : State) :
    ∃ t, execIDi w s = .next t ∧ Keep s t := by
  refine ⟨_, rfl, ?_⟩
  have h := Keep.refl s
  refine State.issue_keep ?_ ?_
  · assumption
  · intro x1 x2 h3
    try dsimp only
    refine State.updR_keep ?_
    · assumption

theorem execIEi_goes (w : WOp) (s : State) :
    ∃ t, execIEi w s = .next t ∧ Keep s t := by
  refine ⟨_, rfl, ?_⟩
  have h := Keep.refl s
  refine State.issue_keep ?_ ?_
  · assumption
  · intro x1 x2 h3
    try dsimp only
    refine State.updR_keep ?_
    · assumption

theorem execIFence_goes (w : WOp) (s : State) :
    ∃ t, execIFence w s = .next t ∧ Keep s t := by
  refine ⟨_, rfl, ?_⟩
  have h := Keep.refl s
  refine State.issue_keep ?_ ?_
  · assumption
  · intro x1 x2 h3
    try dsimp only
    assumption

theorem execIBrk_goes (w : WOp) (s : State) :
    ∃ t, execIBrk w s = .next t ∧ Keep s t := by
  refine ⟨_, rfl, ?_⟩
  have h := Keep.refl s
  refine State.issue_keep ?_ ?_
  · assumption
  · intro x1 x2 h3
    try dsimp only
    refine State.enterDebug_keep ?_
    · refine State.advance_keep ?_
      · assumption

theorem execIIll_goes (w : WOp) (s : State) :
    ∃ t, execIIll w s = .next t ∧ Keep s t := by
  refine ⟨_, rfl, ?_⟩
  have h := Keep.refl s
  refine State.issue_keep ?_ ?_
  · assumption
  · intro x1 x2 h3
    try dsimp only
    assumption

theorem execUndefinedOpcode_goes (w : WOp) (_esc : Nat) (_op : Nat) (s : State) :
    ∃ t, execUndefinedOpcode w _esc _op s = .next t ∧ Keep s t := by
  refine ⟨_, rfl, ?_⟩
  have h := Keep.refl s
  refine State.issue_keep ?_ ?_
  · assumption
  · intro x1 x2 h3
    try dsimp only
    assumption

end Sys2Proof.Machine
end

