-- ==== Sys2Proof/Laws/GoesTime.lean ====
section
/-! SUPPORT. Laws/GoesTime.lean: every command of Machine/ExecTime.lean completes, and keeps what Laws/Keep.lean says. -/

namespace Sys2Proof.Machine

theorem execSlewWrite_goes (req : Nat) (data : Nat) (s : State) :
    ∃ t, execSlewWrite req data s = .next t ∧ Keep s t := by
  refine ⟨_, rfl, ?_⟩
  have h := Keep.refl s
  refine State.busWrite_keep ?_
  · assumption

theorem execSlewComplete_goes (s : State) :
    ∃ t, execSlewComplete s = .next t ∧ Keep s t := by
  refine ⟨_, rfl, ?_⟩
  have h := Keep.refl s
  refine Keep.ite ?_ ?_
  · refine State.setFlag_keep ?_
    · refine State.slewSync_keep ?_
      · assumption
  · assumption

theorem execTimeStep_goes (req : Nat) (data : Nat) (s : State) :
    ∃ t, execTimeStep req data s = .next t ∧ Keep s t := by
  refine ⟨_, rfl, ?_⟩
  have h := Keep.refl s
  refine State.busWrite_keep ?_
  · assumption

theorem execTimeMeasurement_goes (ofs : Nat) (s : State) :
    ∃ t, execTimeMeasurement ofs s = .next t ∧ Keep s t := by
  refine ⟨_, rfl, ?_⟩
  have h := Keep.refl s
  refine Keep.ite ?_ ?_
  · assumption
  · refine State.timeMeasure_keep ?_
    · assumption

theorem execHoldoverTimeout_goes (s : State) :
    ∃ t, execHoldoverTimeout s = .next t ∧ Keep s t := by
  refine ⟨_, rfl, ?_⟩
  have h := Keep.refl s
  refine State.timeHoldover_keep ?_
  · assumption

theorem execPpsInEdge_goes (frac : Nat) (s : State) :
    ∃ t, execPpsInEdge frac s = .next t ∧ Keep s t := by
  refine ⟨_, rfl, ?_⟩
  have h := Keep.refl s
  refine State.produce_keep ?_
  · refine State.incF_keep ?_
    · refine State.setF_keep ?_
      · refine State.setF_keep ?_
        · assumption

theorem execPpsOutPulse_goes (s : State) :
    ∃ t, execPpsOutPulse s = .next t ∧ Keep s t := by
  refine ⟨_, rfl, ?_⟩
  have h := Keep.refl s
  refine Keep.ite ?_ ?_
  · refine Keep.upd ?_
    assumption
  · assumption

theorem execTimerMatch_goes (tile : Nat) (n : Nat) (s : State) :
    ∃ t, execTimerMatch tile n s = .next t ∧ Keep s t := by
  refine ⟨_, rfl, ?_⟩
  have h := Keep.refl s
  refine Keep.ite ?_ ?_
  · refine State.timerMatch_keep ?_
    · assumption
  · assumption

theorem execTimerOverflow_goes (tile : Nat) (n : Nat) (s : State) :
    ∃ t, execTimerOverflow tile n s = .next t ∧ Keep s t := by
  refine ⟨_, rfl, ?_⟩
  have h := Keep.refl s
  refine Keep.ite ?_ ?_
  · refine State.pulse_keep ?_
    · refine State.setFlag_keep ?_
      · refine State.setTimer_keep ?_
        · assumption
  · assumption

theorem execTimerCmpWrite_goes (req : Nat) (tile : Nat) (n : Nat) (hi : Bool) (size : Nat) (data : Nat) (s : State) :
    ∃ t, execTimerCmpWrite req tile n hi size data s = .next t ∧ Keep s t := by
  refine ⟨_, rfl, ?_⟩
  have h := Keep.refl s
  refine State.busWrite_keep ?_
  · assumption

theorem execTimerCntWrite_goes (req : Nat) (tile : Nat) (n : Nat) (hi : Bool) (size : Nat) (data : Nat) (s : State) :
    ∃ t, execTimerCntWrite req tile n hi size data s = .next t ∧ Keep s t := by
  refine ⟨_, rfl, ?_⟩
  have h := Keep.refl s
  refine State.busWrite_keep ?_
  · assumption

theorem execTimerStartEvent_goes (tile : Nat) (n : Nat) (s : State) :
    ∃ t, execTimerStartEvent tile n s = .next t ∧ Keep s t := by
  refine ⟨_, rfl, ?_⟩
  have h := Keep.refl s
  split
  · refine State.timerInput_keep ?_
    · assumption
  · assumption

theorem execWatchdogService_goes (req : Nat) (tile : Nat) (data : Nat) (s : State) :
    ∃ t, execWatchdogService req tile data s = .next t ∧ Keep s t := by
  refine ⟨_, rfl, ?_⟩
  have h := Keep.refl s
  refine State.busWrite_keep ?_
  · assumption

theorem execWatchdogTimeout_goes (tile : Nat) (s : State) :
    ∃ t, execWatchdogTimeout tile s = .next t ∧ Keep s t := by
  refine ⟨_, rfl, ?_⟩
  have h := Keep.refl s
  refine Keep.ite ?_ ?_
  · refine State.wdStage1_keep ?_
    · assumption
  · assumption

theorem execWdogTimeoutWrite_goes (req : Nat) (tile : Nat) (data : Nat) (s : State) :
    ∃ t, execWdogTimeoutWrite req tile data s = .next t ∧ Keep s t := by
  refine ⟨_, rfl, ?_⟩
  have h := Keep.refl s
  refine State.busWrite_keep ?_
  · assumption

theorem execWdogStage2Write_goes (req : Nat) (tile : Nat) (data : Nat) (s : State) :
    ∃ t, execWdogStage2Write req tile data s = .next t ∧ Keep s t := by
  refine ⟨_, rfl, ?_⟩
  have h := Keep.refl s
  refine State.busWrite_keep ?_
  · assumption

theorem execWdogEnWrite_goes (req : Nat) (tile : Nat) (en : Bool) (s : State) :
    ∃ t, execWdogEnWrite req tile en s = .next t ∧ Keep s t := by
  refine ⟨_, rfl, ?_⟩
  have h := Keep.refl s
  refine State.busWrite_keep ?_
  · assumption

theorem execWatchdogStage2_goes (tile : Nat) (s : State) :
    ∃ t, execWatchdogStage2 tile s = .next t ∧ Keep s t := by
  refine ⟨_, rfl, ?_⟩
  have h := Keep.refl s
  refine Keep.ite ?_ ?_
  · refine State.wdStage2_keep ?_
    · assumption
  · assumption

theorem execKeeperWdogStage2_goes (s : State) :
    ∃ t, execKeeperWdogStage2 s = .next t ∧ Keep s t := by
  refine ⟨_, rfl, ?_⟩
  have h := Keep.refl s
  refine Keep.ite ?_ ?_
  · refine State.wdStage2_keep ?_
    · assumption
  · assumption

end Sys2Proof.Machine
end

