-- ==== Sys2Proof/Laws/State.lean ====
section
/-! SUPPORT. Laws/State.lean: what each update of one part of State leaves as it was, field by field, and each part read back
after it is written. -/

namespace Sys2Proof.Machine

/-! ### setF -/

@[simp] theorem State.setF_pending (s : State) (b : Nat) (f : Fld) (v : Nat) : (s.setF b f v).pending = s.pending := rfl
@[simp] theorem State.setF_tick (s : State) (b : Nat) (f : Fld) (v : Nat) : (s.setF b f v).tick = s.tick := rfl
@[simp] theorem State.setF_free (s : State) (b : Nat) (f : Fld) (v : Nat) : (s.setF b f v).free = s.free := rfl
@[simp] theorem State.setF_journal (s : State) (b : Nat) (f : Fld) (v : Nat) : (s.setF b f v).journal = s.journal := rfl
@[simp] theorem State.setF_mem (s : State) (b : Nat) (f : Fld) (v : Nat) : (s.setF b f v).mem = s.mem := rfl
@[simp] theorem State.setF_bus (s : State) (b : Nat) (f : Fld) (v : Nat) : (s.setF b f v).bus = s.bus := rfl
@[simp] theorem State.setF_time (s : State) (b : Nat) (f : Fld) (v : Nat) : (s.setF b f v).time = s.time := rfl
@[simp] theorem State.setF_lath (s : State) (b : Nat) (f : Fld) (v : Nat) : (s.setF b f v).lath = s.lath := rfl
@[simp] theorem State.setF_loop (s : State) (b : Nat) (f : Fld) (v : Nat) : (s.setF b f v).loop = s.loop := rfl
@[simp] theorem State.setF_edge (s : State) (b : Nat) (f : Fld) (v : Nat) : (s.setF b f v).edge = s.edge := rfl
@[simp] theorem State.setF_link (s : State) (b : Nat) (f : Fld) (v : Nat) : (s.setF b f v).link = s.link := rfl
@[simp] theorem State.setF_samp (s : State) (b : Nat) (f : Fld) (v : Nat) : (s.setF b f v).samp = s.samp := rfl
@[simp] theorem State.setF_pwr (s : State) (b : Nat) (f : Fld) (v : Nat) : (s.setF b f v).pwr = s.pwr := rfl
@[simp] theorem State.setF_fcst (s : State) (b : Nat) (f : Fld) (v : Nat) : (s.setF b f v).fcst = s.fcst := rfl
@[simp] theorem State.setF_klog (s : State) (b : Nat) (f : Fld) (v : Nat) : (s.setF b f v).klog = s.klog := rfl
@[simp] theorem State.setF_core (s : State) (b : Nat) (f : Fld) (v : Nat) : (s.setF b f v).core = s.core := rfl
@[simp] theorem State.setF_mm (s : State) (b : Nat) (f : Fld) (v : Nat) : (s.setF b f v).mm = s.mm := rfl
@[simp] theorem State.setF_dep (s : State) (b : Nat) (f : Fld) (v : Nat) : (s.setF b f v).dep = s.dep := rfl
@[simp] theorem State.setF_fire (s : State) (b : Nat) (f : Fld) (v : Nat) : (s.setF b f v).fire = s.fire := rfl
@[simp] theorem State.setF_grp (s : State) (b : Nat) (f : Fld) (v : Nat) : (s.setF b f v).grp = s.grp := rfl
@[simp] theorem State.setF_mon (s : State) (b : Nat) (f : Fld) (v : Nat) : (s.setF b f v).mon = s.mon := rfl
@[simp] theorem State.setF_tap (s : State) (b : Nat) (f : Fld) (v : Nat) : (s.setF b f v).tap = s.tap := rfl
@[simp] theorem State.setF_hw (s : State) (b : Nat) (f : Fld) (v : Nat) : (s.setF b f v).hw = s.hw := rfl

/-! ### setFlag -/

@[simp] theorem State.setFlag_pending (s : State) (b : Nat) (f : Fld) (v : Bool) : (s.setFlag b f v).pending = s.pending := rfl
@[simp] theorem State.setFlag_tick (s : State) (b : Nat) (f : Fld) (v : Bool) : (s.setFlag b f v).tick = s.tick := rfl
@[simp] theorem State.setFlag_free (s : State) (b : Nat) (f : Fld) (v : Bool) : (s.setFlag b f v).free = s.free := rfl
@[simp] theorem State.setFlag_journal (s : State) (b : Nat) (f : Fld) (v : Bool) : (s.setFlag b f v).journal = s.journal := rfl
@[simp] theorem State.setFlag_mem (s : State) (b : Nat) (f : Fld) (v : Bool) : (s.setFlag b f v).mem = s.mem := rfl
@[simp] theorem State.setFlag_bus (s : State) (b : Nat) (f : Fld) (v : Bool) : (s.setFlag b f v).bus = s.bus := rfl
@[simp] theorem State.setFlag_time (s : State) (b : Nat) (f : Fld) (v : Bool) : (s.setFlag b f v).time = s.time := rfl
@[simp] theorem State.setFlag_lath (s : State) (b : Nat) (f : Fld) (v : Bool) : (s.setFlag b f v).lath = s.lath := rfl
@[simp] theorem State.setFlag_loop (s : State) (b : Nat) (f : Fld) (v : Bool) : (s.setFlag b f v).loop = s.loop := rfl
@[simp] theorem State.setFlag_edge (s : State) (b : Nat) (f : Fld) (v : Bool) : (s.setFlag b f v).edge = s.edge := rfl
@[simp] theorem State.setFlag_link (s : State) (b : Nat) (f : Fld) (v : Bool) : (s.setFlag b f v).link = s.link := rfl
@[simp] theorem State.setFlag_samp (s : State) (b : Nat) (f : Fld) (v : Bool) : (s.setFlag b f v).samp = s.samp := rfl
@[simp] theorem State.setFlag_pwr (s : State) (b : Nat) (f : Fld) (v : Bool) : (s.setFlag b f v).pwr = s.pwr := rfl
@[simp] theorem State.setFlag_fcst (s : State) (b : Nat) (f : Fld) (v : Bool) : (s.setFlag b f v).fcst = s.fcst := rfl
@[simp] theorem State.setFlag_klog (s : State) (b : Nat) (f : Fld) (v : Bool) : (s.setFlag b f v).klog = s.klog := rfl
@[simp] theorem State.setFlag_core (s : State) (b : Nat) (f : Fld) (v : Bool) : (s.setFlag b f v).core = s.core := rfl
@[simp] theorem State.setFlag_mm (s : State) (b : Nat) (f : Fld) (v : Bool) : (s.setFlag b f v).mm = s.mm := rfl
@[simp] theorem State.setFlag_dep (s : State) (b : Nat) (f : Fld) (v : Bool) : (s.setFlag b f v).dep = s.dep := rfl
@[simp] theorem State.setFlag_fire (s : State) (b : Nat) (f : Fld) (v : Bool) : (s.setFlag b f v).fire = s.fire := rfl
@[simp] theorem State.setFlag_grp (s : State) (b : Nat) (f : Fld) (v : Bool) : (s.setFlag b f v).grp = s.grp := rfl
@[simp] theorem State.setFlag_mon (s : State) (b : Nat) (f : Fld) (v : Bool) : (s.setFlag b f v).mon = s.mon := rfl
@[simp] theorem State.setFlag_tap (s : State) (b : Nat) (f : Fld) (v : Bool) : (s.setFlag b f v).tap = s.tap := rfl
@[simp] theorem State.setFlag_hw (s : State) (b : Nat) (f : Fld) (v : Bool) : (s.setFlag b f v).hw = (s.noteSet b f v.toNat).hw := rfl

/-! ### setFbit -/

@[simp] theorem State.setFbit_pending (s : State) (b : Nat) (f : Fld) (i : Nat) (v : Bool) : (s.setFbit b f i v).pending = s.pending := rfl
@[simp] theorem State.setFbit_tick (s : State) (b : Nat) (f : Fld) (i : Nat) (v : Bool) : (s.setFbit b f i v).tick = s.tick := rfl
@[simp] theorem State.setFbit_free (s : State) (b : Nat) (f : Fld) (i : Nat) (v : Bool) : (s.setFbit b f i v).free = s.free := rfl
@[simp] theorem State.setFbit_journal (s : State) (b : Nat) (f : Fld) (i : Nat) (v : Bool) : (s.setFbit b f i v).journal = s.journal := rfl
@[simp] theorem State.setFbit_mem (s : State) (b : Nat) (f : Fld) (i : Nat) (v : Bool) : (s.setFbit b f i v).mem = s.mem := rfl
@[simp] theorem State.setFbit_bus (s : State) (b : Nat) (f : Fld) (i : Nat) (v : Bool) : (s.setFbit b f i v).bus = s.bus := rfl
@[simp] theorem State.setFbit_time (s : State) (b : Nat) (f : Fld) (i : Nat) (v : Bool) : (s.setFbit b f i v).time = s.time := rfl
@[simp] theorem State.setFbit_lath (s : State) (b : Nat) (f : Fld) (i : Nat) (v : Bool) : (s.setFbit b f i v).lath = s.lath := rfl
@[simp] theorem State.setFbit_loop (s : State) (b : Nat) (f : Fld) (i : Nat) (v : Bool) : (s.setFbit b f i v).loop = s.loop := rfl
@[simp] theorem State.setFbit_edge (s : State) (b : Nat) (f : Fld) (i : Nat) (v : Bool) : (s.setFbit b f i v).edge = s.edge := rfl
@[simp] theorem State.setFbit_link (s : State) (b : Nat) (f : Fld) (i : Nat) (v : Bool) : (s.setFbit b f i v).link = s.link := rfl
@[simp] theorem State.setFbit_samp (s : State) (b : Nat) (f : Fld) (i : Nat) (v : Bool) : (s.setFbit b f i v).samp = s.samp := rfl
@[simp] theorem State.setFbit_pwr (s : State) (b : Nat) (f : Fld) (i : Nat) (v : Bool) : (s.setFbit b f i v).pwr = s.pwr := rfl
@[simp] theorem State.setFbit_fcst (s : State) (b : Nat) (f : Fld) (i : Nat) (v : Bool) : (s.setFbit b f i v).fcst = s.fcst := rfl
@[simp] theorem State.setFbit_klog (s : State) (b : Nat) (f : Fld) (i : Nat) (v : Bool) : (s.setFbit b f i v).klog = s.klog := rfl
@[simp] theorem State.setFbit_core (s : State) (b : Nat) (f : Fld) (i : Nat) (v : Bool) : (s.setFbit b f i v).core = s.core := rfl
@[simp] theorem State.setFbit_mm (s : State) (b : Nat) (f : Fld) (i : Nat) (v : Bool) : (s.setFbit b f i v).mm = s.mm := rfl
@[simp] theorem State.setFbit_dep (s : State) (b : Nat) (f : Fld) (i : Nat) (v : Bool) : (s.setFbit b f i v).dep = s.dep := rfl
@[simp] theorem State.setFbit_fire (s : State) (b : Nat) (f : Fld) (i : Nat) (v : Bool) : (s.setFbit b f i v).fire = s.fire := rfl
@[simp] theorem State.setFbit_grp (s : State) (b : Nat) (f : Fld) (i : Nat) (v : Bool) : (s.setFbit b f i v).grp = s.grp := rfl
@[simp] theorem State.setFbit_mon (s : State) (b : Nat) (f : Fld) (i : Nat) (v : Bool) : (s.setFbit b f i v).mon = s.mon := rfl
@[simp] theorem State.setFbit_tap (s : State) (b : Nat) (f : Fld) (i : Nat) (v : Bool) : (s.setFbit b f i v).tap = s.tap := rfl
@[simp] theorem State.setFbit_hw (s : State) (b : Nat) (f : Fld) (i : Nat) (v : Bool) : (s.setFbit b f i v).hw = (s.noteSet b f (if v then 2 ^ i else 0)).hw := rfl

/-! ### satF -/

@[simp] theorem State.satF_pending (s : State) (b : Nat) (f : Fld) (n : Nat) : (s.satF b f n).pending = s.pending := rfl
@[simp] theorem State.satF_tick (s : State) (b : Nat) (f : Fld) (n : Nat) : (s.satF b f n).tick = s.tick := rfl
@[simp] theorem State.satF_free (s : State) (b : Nat) (f : Fld) (n : Nat) : (s.satF b f n).free = s.free := rfl
@[simp] theorem State.satF_journal (s : State) (b : Nat) (f : Fld) (n : Nat) : (s.satF b f n).journal = s.journal := rfl
@[simp] theorem State.satF_mem (s : State) (b : Nat) (f : Fld) (n : Nat) : (s.satF b f n).mem = s.mem := rfl
@[simp] theorem State.satF_bus (s : State) (b : Nat) (f : Fld) (n : Nat) : (s.satF b f n).bus = s.bus := rfl
@[simp] theorem State.satF_time (s : State) (b : Nat) (f : Fld) (n : Nat) : (s.satF b f n).time = s.time := rfl
@[simp] theorem State.satF_lath (s : State) (b : Nat) (f : Fld) (n : Nat) : (s.satF b f n).lath = s.lath := rfl
@[simp] theorem State.satF_loop (s : State) (b : Nat) (f : Fld) (n : Nat) : (s.satF b f n).loop = s.loop := rfl
@[simp] theorem State.satF_edge (s : State) (b : Nat) (f : Fld) (n : Nat) : (s.satF b f n).edge = s.edge := rfl
@[simp] theorem State.satF_link (s : State) (b : Nat) (f : Fld) (n : Nat) : (s.satF b f n).link = s.link := rfl
@[simp] theorem State.satF_samp (s : State) (b : Nat) (f : Fld) (n : Nat) : (s.satF b f n).samp = s.samp := rfl
@[simp] theorem State.satF_pwr (s : State) (b : Nat) (f : Fld) (n : Nat) : (s.satF b f n).pwr = s.pwr := rfl
@[simp] theorem State.satF_fcst (s : State) (b : Nat) (f : Fld) (n : Nat) : (s.satF b f n).fcst = s.fcst := rfl
@[simp] theorem State.satF_klog (s : State) (b : Nat) (f : Fld) (n : Nat) : (s.satF b f n).klog = s.klog := rfl
@[simp] theorem State.satF_core (s : State) (b : Nat) (f : Fld) (n : Nat) : (s.satF b f n).core = s.core := rfl
@[simp] theorem State.satF_mm (s : State) (b : Nat) (f : Fld) (n : Nat) : (s.satF b f n).mm = s.mm := rfl
@[simp] theorem State.satF_dep (s : State) (b : Nat) (f : Fld) (n : Nat) : (s.satF b f n).dep = s.dep := rfl
@[simp] theorem State.satF_fire (s : State) (b : Nat) (f : Fld) (n : Nat) : (s.satF b f n).fire = s.fire := rfl
@[simp] theorem State.satF_grp (s : State) (b : Nat) (f : Fld) (n : Nat) : (s.satF b f n).grp = s.grp := rfl
@[simp] theorem State.satF_mon (s : State) (b : Nat) (f : Fld) (n : Nat) : (s.satF b f n).mon = s.mon := rfl
@[simp] theorem State.satF_tap (s : State) (b : Nat) (f : Fld) (n : Nat) : (s.satF b f n).tap = s.tap := rfl
@[simp] theorem State.satF_hw (s : State) (b : Nat) (f : Fld) (n : Nat) : (s.satF b f n).hw = (s.noteInc b f n).hw := rfl

/-! ### setPair -/

@[simp] theorem State.setPair_pending (s : State) (p : Nat) (x : PairSt) : (s.setPair p x).pending = s.pending := rfl
@[simp] theorem State.setPair_tick (s : State) (p : Nat) (x : PairSt) : (s.setPair p x).tick = s.tick := rfl
@[simp] theorem State.setPair_free (s : State) (p : Nat) (x : PairSt) : (s.setPair p x).free = s.free := rfl
@[simp] theorem State.setPair_regs (s : State) (p : Nat) (x : PairSt) : (s.setPair p x).regs = s.regs := rfl
@[simp] theorem State.setPair_journal (s : State) (p : Nat) (x : PairSt) : (s.setPair p x).journal = s.journal := rfl
@[simp] theorem State.setPair_mem (s : State) (p : Nat) (x : PairSt) : (s.setPair p x).mem = s.mem := rfl
@[simp] theorem State.setPair_bus (s : State) (p : Nat) (x : PairSt) : (s.setPair p x).bus = s.bus := rfl
@[simp] theorem State.setPair_time (s : State) (p : Nat) (x : PairSt) : (s.setPair p x).time = s.time := rfl
@[simp] theorem State.setPair_lath (s : State) (p : Nat) (x : PairSt) : (s.setPair p x).lath = s.lath := rfl
@[simp] theorem State.setPair_loop (s : State) (p : Nat) (x : PairSt) : (s.setPair p x).loop = s.loop := rfl
@[simp] theorem State.setPair_edge (s : State) (p : Nat) (x : PairSt) : (s.setPair p x).edge = s.edge := rfl
@[simp] theorem State.setPair_link (s : State) (p : Nat) (x : PairSt) : (s.setPair p x).link = s.link := rfl
@[simp] theorem State.setPair_samp (s : State) (p : Nat) (x : PairSt) : (s.setPair p x).samp = s.samp := rfl
@[simp] theorem State.setPair_pwr (s : State) (p : Nat) (x : PairSt) : (s.setPair p x).pwr = s.pwr := rfl
@[simp] theorem State.setPair_fcst (s : State) (p : Nat) (x : PairSt) : (s.setPair p x).fcst = s.fcst := rfl
@[simp] theorem State.setPair_klog (s : State) (p : Nat) (x : PairSt) : (s.setPair p x).klog = s.klog := rfl
@[simp] theorem State.setPair_mm (s : State) (p : Nat) (x : PairSt) : (s.setPair p x).mm = s.mm := rfl
@[simp] theorem State.setPair_dep (s : State) (p : Nat) (x : PairSt) : (s.setPair p x).dep = s.dep := rfl
@[simp] theorem State.setPair_fire (s : State) (p : Nat) (x : PairSt) : (s.setPair p x).fire = s.fire := rfl
@[simp] theorem State.setPair_grp (s : State) (p : Nat) (x : PairSt) : (s.setPair p x).grp = s.grp := rfl
@[simp] theorem State.setPair_mon (s : State) (p : Nat) (x : PairSt) : (s.setPair p x).mon = s.mon := rfl
@[simp] theorem State.setPair_tap (s : State) (p : Nat) (x : PairSt) : (s.setPair p x).tap = s.tap := rfl
@[simp] theorem State.setPair_hw (s : State) (p : Nat) (x : PairSt) : (s.setPair p x).hw = s.hw := rfl

/-! ### setGen -/

@[simp] theorem State.setGen_pending (s : State) (t g : Nat) (x : Gen) : (s.setGen t g x).pending = s.pending := rfl
@[simp] theorem State.setGen_tick (s : State) (t g : Nat) (x : Gen) : (s.setGen t g x).tick = s.tick := rfl
@[simp] theorem State.setGen_free (s : State) (t g : Nat) (x : Gen) : (s.setGen t g x).free = s.free := rfl
@[simp] theorem State.setGen_regs (s : State) (t g : Nat) (x : Gen) : (s.setGen t g x).regs = s.regs := rfl
@[simp] theorem State.setGen_journal (s : State) (t g : Nat) (x : Gen) : (s.setGen t g x).journal = s.journal := rfl
@[simp] theorem State.setGen_mem (s : State) (t g : Nat) (x : Gen) : (s.setGen t g x).mem = s.mem := rfl
@[simp] theorem State.setGen_bus (s : State) (t g : Nat) (x : Gen) : (s.setGen t g x).bus = s.bus := rfl
@[simp] theorem State.setGen_time (s : State) (t g : Nat) (x : Gen) : (s.setGen t g x).time = s.time := rfl
@[simp] theorem State.setGen_lath (s : State) (t g : Nat) (x : Gen) : (s.setGen t g x).lath = s.lath := rfl
@[simp] theorem State.setGen_loop (s : State) (t g : Nat) (x : Gen) : (s.setGen t g x).loop = s.loop := rfl
@[simp] theorem State.setGen_link (s : State) (t g : Nat) (x : Gen) : (s.setGen t g x).link = s.link := rfl
@[simp] theorem State.setGen_samp (s : State) (t g : Nat) (x : Gen) : (s.setGen t g x).samp = s.samp := rfl
@[simp] theorem State.setGen_pwr (s : State) (t g : Nat) (x : Gen) : (s.setGen t g x).pwr = s.pwr := rfl
@[simp] theorem State.setGen_fcst (s : State) (t g : Nat) (x : Gen) : (s.setGen t g x).fcst = s.fcst := rfl
@[simp] theorem State.setGen_klog (s : State) (t g : Nat) (x : Gen) : (s.setGen t g x).klog = s.klog := rfl
@[simp] theorem State.setGen_core (s : State) (t g : Nat) (x : Gen) : (s.setGen t g x).core = s.core := rfl
@[simp] theorem State.setGen_mm (s : State) (t g : Nat) (x : Gen) : (s.setGen t g x).mm = s.mm := rfl
@[simp] theorem State.setGen_dep (s : State) (t g : Nat) (x : Gen) : (s.setGen t g x).dep = s.dep := rfl
@[simp] theorem State.setGen_fire (s : State) (t g : Nat) (x : Gen) : (s.setGen t g x).fire = s.fire := rfl
@[simp] theorem State.setGen_grp (s : State) (t g : Nat) (x : Gen) : (s.setGen t g x).grp = s.grp := rfl
@[simp] theorem State.setGen_mon (s : State) (t g : Nat) (x : Gen) : (s.setGen t g x).mon = s.mon := rfl
@[simp] theorem State.setGen_tap (s : State) (t g : Nat) (x : Gen) : (s.setGen t g x).tap = s.tap := rfl
@[simp] theorem State.setGen_hw (s : State) (t g : Nat) (x : Gen) : (s.setGen t g x).hw = s.hw := rfl

/-! ### setTimer -/

@[simp] theorem State.setTimer_pending (s : State) (t n : Nat) (x : Timer) : (s.setTimer t n x).pending = s.pending := rfl
@[simp] theorem State.setTimer_tick (s : State) (t n : Nat) (x : Timer) : (s.setTimer t n x).tick = s.tick := rfl
@[simp] theorem State.setTimer_free (s : State) (t n : Nat) (x : Timer) : (s.setTimer t n x).free = s.free := rfl
@[simp] theorem State.setTimer_regs (s : State) (t n : Nat) (x : Timer) : (s.setTimer t n x).regs = s.regs := rfl
@[simp] theorem State.setTimer_journal (s : State) (t n : Nat) (x : Timer) : (s.setTimer t n x).journal = s.journal := rfl
@[simp] theorem State.setTimer_mem (s : State) (t n : Nat) (x : Timer) : (s.setTimer t n x).mem = s.mem := rfl
@[simp] theorem State.setTimer_bus (s : State) (t n : Nat) (x : Timer) : (s.setTimer t n x).bus = s.bus := rfl
@[simp] theorem State.setTimer_lath (s : State) (t n : Nat) (x : Timer) : (s.setTimer t n x).lath = s.lath := rfl
@[simp] theorem State.setTimer_loop (s : State) (t n : Nat) (x : Timer) : (s.setTimer t n x).loop = s.loop := rfl
@[simp] theorem State.setTimer_edge (s : State) (t n : Nat) (x : Timer) : (s.setTimer t n x).edge = s.edge := rfl
@[simp] theorem State.setTimer_link (s : State) (t n : Nat) (x : Timer) : (s.setTimer t n x).link = s.link := rfl
@[simp] theorem State.setTimer_samp (s : State) (t n : Nat) (x : Timer) : (s.setTimer t n x).samp = s.samp := rfl
@[simp] theorem State.setTimer_pwr (s : State) (t n : Nat) (x : Timer) : (s.setTimer t n x).pwr = s.pwr := rfl
@[simp] theorem State.setTimer_fcst (s : State) (t n : Nat) (x : Timer) : (s.setTimer t n x).fcst = s.fcst := rfl
@[simp] theorem State.setTimer_klog (s : State) (t n : Nat) (x : Timer) : (s.setTimer t n x).klog = s.klog := rfl
@[simp] theorem State.setTimer_core (s : State) (t n : Nat) (x : Timer) : (s.setTimer t n x).core = s.core := rfl
@[simp] theorem State.setTimer_mm (s : State) (t n : Nat) (x : Timer) : (s.setTimer t n x).mm = s.mm := rfl
@[simp] theorem State.setTimer_dep (s : State) (t n : Nat) (x : Timer) : (s.setTimer t n x).dep = s.dep := rfl
@[simp] theorem State.setTimer_fire (s : State) (t n : Nat) (x : Timer) : (s.setTimer t n x).fire = s.fire := rfl
@[simp] theorem State.setTimer_grp (s : State) (t n : Nat) (x : Timer) : (s.setTimer t n x).grp = s.grp := rfl
@[simp] theorem State.setTimer_mon (s : State) (t n : Nat) (x : Timer) : (s.setTimer t n x).mon = s.mon := rfl
@[simp] theorem State.setTimer_tap (s : State) (t n : Nat) (x : Timer) : (s.setTimer t n x).tap = s.tap := rfl
@[simp] theorem State.setTimer_hw (s : State) (t n : Nat) (x : Timer) : (s.setTimer t n x).hw = s.hw := rfl

/-! ### setWdog -/

@[simp] theorem State.setWdog_pending (s : State) (t : Nat) (x : Wdog) : (s.setWdog t x).pending = s.pending := rfl
@[simp] theorem State.setWdog_tick (s : State) (t : Nat) (x : Wdog) : (s.setWdog t x).tick = s.tick := rfl
@[simp] theorem State.setWdog_free (s : State) (t : Nat) (x : Wdog) : (s.setWdog t x).free = s.free := rfl
@[simp] theorem State.setWdog_regs (s : State) (t : Nat) (x : Wdog) : (s.setWdog t x).regs = s.regs := rfl
@[simp] theorem State.setWdog_journal (s : State) (t : Nat) (x : Wdog) : (s.setWdog t x).journal = s.journal := rfl
@[simp] theorem State.setWdog_mem (s : State) (t : Nat) (x : Wdog) : (s.setWdog t x).mem = s.mem := rfl
@[simp] theorem State.setWdog_bus (s : State) (t : Nat) (x : Wdog) : (s.setWdog t x).bus = s.bus := rfl
@[simp] theorem State.setWdog_lath (s : State) (t : Nat) (x : Wdog) : (s.setWdog t x).lath = s.lath := rfl
@[simp] theorem State.setWdog_loop (s : State) (t : Nat) (x : Wdog) : (s.setWdog t x).loop = s.loop := rfl
@[simp] theorem State.setWdog_edge (s : State) (t : Nat) (x : Wdog) : (s.setWdog t x).edge = s.edge := rfl
@[simp] theorem State.setWdog_link (s : State) (t : Nat) (x : Wdog) : (s.setWdog t x).link = s.link := rfl
@[simp] theorem State.setWdog_samp (s : State) (t : Nat) (x : Wdog) : (s.setWdog t x).samp = s.samp := rfl
@[simp] theorem State.setWdog_pwr (s : State) (t : Nat) (x : Wdog) : (s.setWdog t x).pwr = s.pwr := rfl
@[simp] theorem State.setWdog_fcst (s : State) (t : Nat) (x : Wdog) : (s.setWdog t x).fcst = s.fcst := rfl
@[simp] theorem State.setWdog_klog (s : State) (t : Nat) (x : Wdog) : (s.setWdog t x).klog = s.klog := rfl
@[simp] theorem State.setWdog_core (s : State) (t : Nat) (x : Wdog) : (s.setWdog t x).core = s.core := rfl
@[simp] theorem State.setWdog_mm (s : State) (t : Nat) (x : Wdog) : (s.setWdog t x).mm = s.mm := rfl
@[simp] theorem State.setWdog_dep (s : State) (t : Nat) (x : Wdog) : (s.setWdog t x).dep = s.dep := rfl
@[simp] theorem State.setWdog_fire (s : State) (t : Nat) (x : Wdog) : (s.setWdog t x).fire = s.fire := rfl
@[simp] theorem State.setWdog_grp (s : State) (t : Nat) (x : Wdog) : (s.setWdog t x).grp = s.grp := rfl
@[simp] theorem State.setWdog_mon (s : State) (t : Nat) (x : Wdog) : (s.setWdog t x).mon = s.mon := rfl
@[simp] theorem State.setWdog_tap (s : State) (t : Nat) (x : Wdog) : (s.setWdog t x).tap = s.tap := rfl
@[simp] theorem State.setWdog_hw (s : State) (t : Nat) (x : Wdog) : (s.setWdog t x).hw = s.hw := rfl

/-! ### setCmp -/

@[simp] theorem State.setCmp_pending (s : State) (k : Nat) (x : CmpSt) : (s.setCmp k x).pending = s.pending := rfl
@[simp] theorem State.setCmp_tick (s : State) (k : Nat) (x : CmpSt) : (s.setCmp k x).tick = s.tick := rfl
@[simp] theorem State.setCmp_free (s : State) (k : Nat) (x : CmpSt) : (s.setCmp k x).free = s.free := rfl
@[simp] theorem State.setCmp_regs (s : State) (k : Nat) (x : CmpSt) : (s.setCmp k x).regs = s.regs := rfl
@[simp] theorem State.setCmp_journal (s : State) (k : Nat) (x : CmpSt) : (s.setCmp k x).journal = s.journal := rfl
@[simp] theorem State.setCmp_mem (s : State) (k : Nat) (x : CmpSt) : (s.setCmp k x).mem = s.mem := rfl
@[simp] theorem State.setCmp_bus (s : State) (k : Nat) (x : CmpSt) : (s.setCmp k x).bus = s.bus := rfl
@[simp] theorem State.setCmp_time (s : State) (k : Nat) (x : CmpSt) : (s.setCmp k x).time = s.time := rfl
@[simp] theorem State.setCmp_lath (s : State) (k : Nat) (x : CmpSt) : (s.setCmp k x).lath = s.lath := rfl
@[simp] theorem State.setCmp_loop (s : State) (k : Nat) (x : CmpSt) : (s.setCmp k x).loop = s.loop := rfl
@[simp] theorem State.setCmp_edge (s : State) (k : Nat) (x : CmpSt) : (s.setCmp k x).edge = s.edge := rfl
@[simp] theorem State.setCmp_link (s : State) (k : Nat) (x : CmpSt) : (s.setCmp k x).link = s.link := rfl
@[simp] theorem State.setCmp_pwr (s : State) (k : Nat) (x : CmpSt) : (s.setCmp k x).pwr = s.pwr := rfl
@[simp] theorem State.setCmp_fcst (s : State) (k : Nat) (x : CmpSt) : (s.setCmp k x).fcst = s.fcst := rfl
@[simp] theorem State.setCmp_klog (s : State) (k : Nat) (x : CmpSt) : (s.setCmp k x).klog = s.klog := rfl
@[simp] theorem State.setCmp_core (s : State) (k : Nat) (x : CmpSt) : (s.setCmp k x).core = s.core := rfl
@[simp] theorem State.setCmp_mm (s : State) (k : Nat) (x : CmpSt) : (s.setCmp k x).mm = s.mm := rfl
@[simp] theorem State.setCmp_dep (s : State) (k : Nat) (x : CmpSt) : (s.setCmp k x).dep = s.dep := rfl
@[simp] theorem State.setCmp_fire (s : State) (k : Nat) (x : CmpSt) : (s.setCmp k x).fire = s.fire := rfl
@[simp] theorem State.setCmp_grp (s : State) (k : Nat) (x : CmpSt) : (s.setCmp k x).grp = s.grp := rfl
@[simp] theorem State.setCmp_mon (s : State) (k : Nat) (x : CmpSt) : (s.setCmp k x).mon = s.mon := rfl
@[simp] theorem State.setCmp_tap (s : State) (k : Nat) (x : CmpSt) : (s.setCmp k x).tap = s.tap := rfl
@[simp] theorem State.setCmp_hw (s : State) (k : Nat) (x : CmpSt) : (s.setCmp k x).hw = s.hw := rfl

/-! ### setRing -/

@[simp] theorem State.setRing_pending (s : State) (r : Nat) (x : RingSt) : (s.setRing r x).pending = s.pending := rfl
@[simp] theorem State.setRing_tick (s : State) (r : Nat) (x : RingSt) : (s.setRing r x).tick = s.tick := rfl
@[simp] theorem State.setRing_free (s : State) (r : Nat) (x : RingSt) : (s.setRing r x).free = s.free := rfl
@[simp] theorem State.setRing_regs (s : State) (r : Nat) (x : RingSt) : (s.setRing r x).regs = s.regs := rfl
@[simp] theorem State.setRing_journal (s : State) (r : Nat) (x : RingSt) : (s.setRing r x).journal = s.journal := rfl
@[simp] theorem State.setRing_mem (s : State) (r : Nat) (x : RingSt) : (s.setRing r x).mem = s.mem := rfl
@[simp] theorem State.setRing_bus (s : State) (r : Nat) (x : RingSt) : (s.setRing r x).bus = s.bus := rfl
@[simp] theorem State.setRing_time (s : State) (r : Nat) (x : RingSt) : (s.setRing r x).time = s.time := rfl
@[simp] theorem State.setRing_lath (s : State) (r : Nat) (x : RingSt) : (s.setRing r x).lath = s.lath := rfl
@[simp] theorem State.setRing_loop (s : State) (r : Nat) (x : RingSt) : (s.setRing r x).loop = s.loop := rfl
@[simp] theorem State.setRing_edge (s : State) (r : Nat) (x : RingSt) : (s.setRing r x).edge = s.edge := rfl
@[simp] theorem State.setRing_samp (s : State) (r : Nat) (x : RingSt) : (s.setRing r x).samp = s.samp := rfl
@[simp] theorem State.setRing_pwr (s : State) (r : Nat) (x : RingSt) : (s.setRing r x).pwr = s.pwr := rfl
@[simp] theorem State.setRing_fcst (s : State) (r : Nat) (x : RingSt) : (s.setRing r x).fcst = s.fcst := rfl
@[simp] theorem State.setRing_klog (s : State) (r : Nat) (x : RingSt) : (s.setRing r x).klog = s.klog := rfl
@[simp] theorem State.setRing_core (s : State) (r : Nat) (x : RingSt) : (s.setRing r x).core = s.core := rfl
@[simp] theorem State.setRing_mm (s : State) (r : Nat) (x : RingSt) : (s.setRing r x).mm = s.mm := rfl
@[simp] theorem State.setRing_dep (s : State) (r : Nat) (x : RingSt) : (s.setRing r x).dep = s.dep := rfl
@[simp] theorem State.setRing_fire (s : State) (r : Nat) (x : RingSt) : (s.setRing r x).fire = s.fire := rfl
@[simp] theorem State.setRing_grp (s : State) (r : Nat) (x : RingSt) : (s.setRing r x).grp = s.grp := rfl
@[simp] theorem State.setRing_mon (s : State) (r : Nat) (x : RingSt) : (s.setRing r x).mon = s.mon := rfl
@[simp] theorem State.setRing_tap (s : State) (r : Nat) (x : RingSt) : (s.setRing r x).tap = s.tap := rfl
@[simp] theorem State.setRing_hw (s : State) (r : Nat) (x : RingSt) : (s.setRing r x).hw = s.hw := rfl

/-! ### setNode -/

@[simp] theorem State.setNode_pending (s : State) (k : Nat) (x : NodeSt) : (s.setNode k x).pending = s.pending := rfl
@[simp] theorem State.setNode_tick (s : State) (k : Nat) (x : NodeSt) : (s.setNode k x).tick = s.tick := rfl
@[simp] theorem State.setNode_free (s : State) (k : Nat) (x : NodeSt) : (s.setNode k x).free = s.free := rfl
@[simp] theorem State.setNode_regs (s : State) (k : Nat) (x : NodeSt) : (s.setNode k x).regs = s.regs := rfl
@[simp] theorem State.setNode_journal (s : State) (k : Nat) (x : NodeSt) : (s.setNode k x).journal = s.journal := rfl
@[simp] theorem State.setNode_mem (s : State) (k : Nat) (x : NodeSt) : (s.setNode k x).mem = s.mem := rfl
@[simp] theorem State.setNode_bus (s : State) (k : Nat) (x : NodeSt) : (s.setNode k x).bus = s.bus := rfl
@[simp] theorem State.setNode_time (s : State) (k : Nat) (x : NodeSt) : (s.setNode k x).time = s.time := rfl
@[simp] theorem State.setNode_lath (s : State) (k : Nat) (x : NodeSt) : (s.setNode k x).lath = s.lath := rfl
@[simp] theorem State.setNode_loop (s : State) (k : Nat) (x : NodeSt) : (s.setNode k x).loop = s.loop := rfl
@[simp] theorem State.setNode_edge (s : State) (k : Nat) (x : NodeSt) : (s.setNode k x).edge = s.edge := rfl
@[simp] theorem State.setNode_samp (s : State) (k : Nat) (x : NodeSt) : (s.setNode k x).samp = s.samp := rfl
@[simp] theorem State.setNode_pwr (s : State) (k : Nat) (x : NodeSt) : (s.setNode k x).pwr = s.pwr := rfl
@[simp] theorem State.setNode_fcst (s : State) (k : Nat) (x : NodeSt) : (s.setNode k x).fcst = s.fcst := rfl
@[simp] theorem State.setNode_klog (s : State) (k : Nat) (x : NodeSt) : (s.setNode k x).klog = s.klog := rfl
@[simp] theorem State.setNode_core (s : State) (k : Nat) (x : NodeSt) : (s.setNode k x).core = s.core := rfl
@[simp] theorem State.setNode_mm (s : State) (k : Nat) (x : NodeSt) : (s.setNode k x).mm = s.mm := rfl
@[simp] theorem State.setNode_dep (s : State) (k : Nat) (x : NodeSt) : (s.setNode k x).dep = s.dep := rfl
@[simp] theorem State.setNode_fire (s : State) (k : Nat) (x : NodeSt) : (s.setNode k x).fire = s.fire := rfl
@[simp] theorem State.setNode_grp (s : State) (k : Nat) (x : NodeSt) : (s.setNode k x).grp = s.grp := rfl
@[simp] theorem State.setNode_mon (s : State) (k : Nat) (x : NodeSt) : (s.setNode k x).mon = s.mon := rfl
@[simp] theorem State.setNode_tap (s : State) (k : Nat) (x : NodeSt) : (s.setNode k x).tap = s.tap := rfl
@[simp] theorem State.setNode_hw (s : State) (k : Nat) (x : NodeSt) : (s.setNode k x).hw = s.hw := rfl

/-! ### setChan -/

@[simp] theorem State.setChan_pending (s : State) (t n : Nat) (x : DmaCh) : (s.setChan t n x).pending = s.pending := rfl
@[simp] theorem State.setChan_tick (s : State) (t n : Nat) (x : DmaCh) : (s.setChan t n x).tick = s.tick := rfl
@[simp] theorem State.setChan_free (s : State) (t n : Nat) (x : DmaCh) : (s.setChan t n x).free = s.free := rfl
@[simp] theorem State.setChan_regs (s : State) (t n : Nat) (x : DmaCh) : (s.setChan t n x).regs = s.regs := rfl
@[simp] theorem State.setChan_journal (s : State) (t n : Nat) (x : DmaCh) : (s.setChan t n x).journal = s.journal := rfl
@[simp] theorem State.setChan_mem (s : State) (t n : Nat) (x : DmaCh) : (s.setChan t n x).mem = s.mem := rfl
@[simp] theorem State.setChan_bus (s : State) (t n : Nat) (x : DmaCh) : (s.setChan t n x).bus = s.bus := rfl
@[simp] theorem State.setChan_time (s : State) (t n : Nat) (x : DmaCh) : (s.setChan t n x).time = s.time := rfl
@[simp] theorem State.setChan_lath (s : State) (t n : Nat) (x : DmaCh) : (s.setChan t n x).lath = s.lath := rfl
@[simp] theorem State.setChan_loop (s : State) (t n : Nat) (x : DmaCh) : (s.setChan t n x).loop = s.loop := rfl
@[simp] theorem State.setChan_edge (s : State) (t n : Nat) (x : DmaCh) : (s.setChan t n x).edge = s.edge := rfl
@[simp] theorem State.setChan_link (s : State) (t n : Nat) (x : DmaCh) : (s.setChan t n x).link = s.link := rfl
@[simp] theorem State.setChan_samp (s : State) (t n : Nat) (x : DmaCh) : (s.setChan t n x).samp = s.samp := rfl
@[simp] theorem State.setChan_pwr (s : State) (t n : Nat) (x : DmaCh) : (s.setChan t n x).pwr = s.pwr := rfl
@[simp] theorem State.setChan_fcst (s : State) (t n : Nat) (x : DmaCh) : (s.setChan t n x).fcst = s.fcst := rfl
@[simp] theorem State.setChan_klog (s : State) (t n : Nat) (x : DmaCh) : (s.setChan t n x).klog = s.klog := rfl
@[simp] theorem State.setChan_core (s : State) (t n : Nat) (x : DmaCh) : (s.setChan t n x).core = s.core := rfl
@[simp] theorem State.setChan_dep (s : State) (t n : Nat) (x : DmaCh) : (s.setChan t n x).dep = s.dep := rfl
@[simp] theorem State.setChan_fire (s : State) (t n : Nat) (x : DmaCh) : (s.setChan t n x).fire = s.fire := rfl
@[simp] theorem State.setChan_grp (s : State) (t n : Nat) (x : DmaCh) : (s.setChan t n x).grp = s.grp := rfl
@[simp] theorem State.setChan_mon (s : State) (t n : Nat) (x : DmaCh) : (s.setChan t n x).mon = s.mon := rfl
@[simp] theorem State.setChan_tap (s : State) (t n : Nat) (x : DmaCh) : (s.setChan t n x).tap = s.tap := rfl
@[simp] theorem State.setChan_hw (s : State) (t n : Nat) (x : DmaCh) : (s.setChan t n x).hw = s.hw := rfl

/-! ### updLath -/

@[simp] theorem State.updLath_pending (s : State) (l : Nat) (f : Lath → Lath) : (s.updLath l f).pending = s.pending := rfl
@[simp] theorem State.updLath_tick (s : State) (l : Nat) (f : Lath → Lath) : (s.updLath l f).tick = s.tick := rfl
@[simp] theorem State.updLath_free (s : State) (l : Nat) (f : Lath → Lath) : (s.updLath l f).free = s.free := rfl
@[simp] theorem State.updLath_regs (s : State) (l : Nat) (f : Lath → Lath) : (s.updLath l f).regs = s.regs := rfl
@[simp] theorem State.updLath_journal (s : State) (l : Nat) (f : Lath → Lath) : (s.updLath l f).journal = s.journal := rfl
@[simp] theorem State.updLath_mem (s : State) (l : Nat) (f : Lath → Lath) : (s.updLath l f).mem = s.mem := rfl
@[simp] theorem State.updLath_bus (s : State) (l : Nat) (f : Lath → Lath) : (s.updLath l f).bus = s.bus := rfl
@[simp] theorem State.updLath_time (s : State) (l : Nat) (f : Lath → Lath) : (s.updLath l f).time = s.time := rfl
@[simp] theorem State.updLath_loop (s : State) (l : Nat) (f : Lath → Lath) : (s.updLath l f).loop = s.loop := rfl
@[simp] theorem State.updLath_edge (s : State) (l : Nat) (f : Lath → Lath) : (s.updLath l f).edge = s.edge := rfl
@[simp] theorem State.updLath_link (s : State) (l : Nat) (f : Lath → Lath) : (s.updLath l f).link = s.link := rfl
@[simp] theorem State.updLath_samp (s : State) (l : Nat) (f : Lath → Lath) : (s.updLath l f).samp = s.samp := rfl
@[simp] theorem State.updLath_pwr (s : State) (l : Nat) (f : Lath → Lath) : (s.updLath l f).pwr = s.pwr := rfl
@[simp] theorem State.updLath_fcst (s : State) (l : Nat) (f : Lath → Lath) : (s.updLath l f).fcst = s.fcst := rfl
@[simp] theorem State.updLath_klog (s : State) (l : Nat) (f : Lath → Lath) : (s.updLath l f).klog = s.klog := rfl
@[simp] theorem State.updLath_core (s : State) (l : Nat) (f : Lath → Lath) : (s.updLath l f).core = s.core := rfl
@[simp] theorem State.updLath_mm (s : State) (l : Nat) (f : Lath → Lath) : (s.updLath l f).mm = s.mm := rfl
@[simp] theorem State.updLath_dep (s : State) (l : Nat) (f : Lath → Lath) : (s.updLath l f).dep = s.dep := rfl
@[simp] theorem State.updLath_fire (s : State) (l : Nat) (f : Lath → Lath) : (s.updLath l f).fire = s.fire := rfl
@[simp] theorem State.updLath_grp (s : State) (l : Nat) (f : Lath → Lath) : (s.updLath l f).grp = s.grp := rfl
@[simp] theorem State.updLath_mon (s : State) (l : Nat) (f : Lath → Lath) : (s.updLath l f).mon = s.mon := rfl
@[simp] theorem State.updLath_tap (s : State) (l : Nat) (f : Lath → Lath) : (s.updLath l f).tap = s.tap := rfl
@[simp] theorem State.updLath_hw (s : State) (l : Nat) (f : Lath → Lath) : (s.updLath l f).hw = s.hw := rfl

/-! ### setConn -/

@[simp] theorem State.setConn_pending (s : State) (c : Conn) : (s.setConn c).pending = s.pending := rfl
@[simp] theorem State.setConn_tick (s : State) (c : Conn) : (s.setConn c).tick = s.tick := rfl
@[simp] theorem State.setConn_free (s : State) (c : Conn) : (s.setConn c).free = s.free := rfl
@[simp] theorem State.setConn_regs (s : State) (c : Conn) : (s.setConn c).regs = s.regs := rfl
@[simp] theorem State.setConn_journal (s : State) (c : Conn) : (s.setConn c).journal = s.journal := rfl
@[simp] theorem State.setConn_mem (s : State) (c : Conn) : (s.setConn c).mem = s.mem := rfl
@[simp] theorem State.setConn_bus (s : State) (c : Conn) : (s.setConn c).bus = s.bus := rfl
@[simp] theorem State.setConn_time (s : State) (c : Conn) : (s.setConn c).time = s.time := rfl
@[simp] theorem State.setConn_lath (s : State) (c : Conn) : (s.setConn c).lath = s.lath := rfl
@[simp] theorem State.setConn_loop (s : State) (c : Conn) : (s.setConn c).loop = s.loop := rfl
@[simp] theorem State.setConn_edge (s : State) (c : Conn) : (s.setConn c).edge = s.edge := rfl
@[simp] theorem State.setConn_link (s : State) (c : Conn) : (s.setConn c).link = s.link := rfl
@[simp] theorem State.setConn_samp (s : State) (c : Conn) : (s.setConn c).samp = s.samp := rfl
@[simp] theorem State.setConn_pwr (s : State) (c : Conn) : (s.setConn c).pwr = s.pwr := rfl
@[simp] theorem State.setConn_fcst (s : State) (c : Conn) : (s.setConn c).fcst = s.fcst := rfl
@[simp] theorem State.setConn_klog (s : State) (c : Conn) : (s.setConn c).klog = s.klog := rfl
@[simp] theorem State.setConn_core (s : State) (c : Conn) : (s.setConn c).core = s.core := rfl
@[simp] theorem State.setConn_mm (s : State) (c : Conn) : (s.setConn c).mm = s.mm := rfl
@[simp] theorem State.setConn_dep (s : State) (c : Conn) : (s.setConn c).dep = s.dep := rfl
@[simp] theorem State.setConn_grp (s : State) (c : Conn) : (s.setConn c).grp = s.grp := rfl
@[simp] theorem State.setConn_mon (s : State) (c : Conn) : (s.setConn c).mon = s.mon := rfl
@[simp] theorem State.setConn_tap (s : State) (c : Conn) : (s.setConn c).tap = s.tap := rfl
@[simp] theorem State.setConn_hw (s : State) (c : Conn) : (s.setConn c).hw = s.hw := rfl

/-! ### setPeer -/

@[simp] theorem State.setPeer_pending (s : State) (k : Nat) (x : Peer) : (s.setPeer k x).pending = s.pending := rfl
@[simp] theorem State.setPeer_tick (s : State) (k : Nat) (x : Peer) : (s.setPeer k x).tick = s.tick := rfl
@[simp] theorem State.setPeer_free (s : State) (k : Nat) (x : Peer) : (s.setPeer k x).free = s.free := rfl
@[simp] theorem State.setPeer_regs (s : State) (k : Nat) (x : Peer) : (s.setPeer k x).regs = s.regs := rfl
@[simp] theorem State.setPeer_journal (s : State) (k : Nat) (x : Peer) : (s.setPeer k x).journal = s.journal := rfl
@[simp] theorem State.setPeer_mem (s : State) (k : Nat) (x : Peer) : (s.setPeer k x).mem = s.mem := rfl
@[simp] theorem State.setPeer_bus (s : State) (k : Nat) (x : Peer) : (s.setPeer k x).bus = s.bus := rfl
@[simp] theorem State.setPeer_time (s : State) (k : Nat) (x : Peer) : (s.setPeer k x).time = s.time := rfl
@[simp] theorem State.setPeer_lath (s : State) (k : Nat) (x : Peer) : (s.setPeer k x).lath = s.lath := rfl
@[simp] theorem State.setPeer_loop (s : State) (k : Nat) (x : Peer) : (s.setPeer k x).loop = s.loop := rfl
@[simp] theorem State.setPeer_edge (s : State) (k : Nat) (x : Peer) : (s.setPeer k x).edge = s.edge := rfl
@[simp] theorem State.setPeer_link (s : State) (k : Nat) (x : Peer) : (s.setPeer k x).link = s.link := rfl
@[simp] theorem State.setPeer_samp (s : State) (k : Nat) (x : Peer) : (s.setPeer k x).samp = s.samp := rfl
@[simp] theorem State.setPeer_pwr (s : State) (k : Nat) (x : Peer) : (s.setPeer k x).pwr = s.pwr := rfl
@[simp] theorem State.setPeer_fcst (s : State) (k : Nat) (x : Peer) : (s.setPeer k x).fcst = s.fcst := rfl
@[simp] theorem State.setPeer_klog (s : State) (k : Nat) (x : Peer) : (s.setPeer k x).klog = s.klog := rfl
@[simp] theorem State.setPeer_core (s : State) (k : Nat) (x : Peer) : (s.setPeer k x).core = s.core := rfl
@[simp] theorem State.setPeer_mm (s : State) (k : Nat) (x : Peer) : (s.setPeer k x).mm = s.mm := rfl
@[simp] theorem State.setPeer_dep (s : State) (k : Nat) (x : Peer) : (s.setPeer k x).dep = s.dep := rfl
@[simp] theorem State.setPeer_fire (s : State) (k : Nat) (x : Peer) : (s.setPeer k x).fire = s.fire := rfl
@[simp] theorem State.setPeer_mon (s : State) (k : Nat) (x : Peer) : (s.setPeer k x).mon = s.mon := rfl
@[simp] theorem State.setPeer_tap (s : State) (k : Nat) (x : Peer) : (s.setPeer k x).tap = s.tap := rfl
@[simp] theorem State.setPeer_hw (s : State) (k : Nat) (x : Peer) : (s.setPeer k x).hw = s.hw := rfl

/-! ### setSession -/

@[simp] theorem State.setSession_pending (s : State) (x : Session) : (s.setSession x).pending = s.pending := rfl
@[simp] theorem State.setSession_tick (s : State) (x : Session) : (s.setSession x).tick = s.tick := rfl
@[simp] theorem State.setSession_free (s : State) (x : Session) : (s.setSession x).free = s.free := rfl
@[simp] theorem State.setSession_regs (s : State) (x : Session) : (s.setSession x).regs = s.regs := rfl
@[simp] theorem State.setSession_journal (s : State) (x : Session) : (s.setSession x).journal = s.journal := rfl
@[simp] theorem State.setSession_mem (s : State) (x : Session) : (s.setSession x).mem = s.mem := rfl
@[simp] theorem State.setSession_bus (s : State) (x : Session) : (s.setSession x).bus = s.bus := rfl
@[simp] theorem State.setSession_time (s : State) (x : Session) : (s.setSession x).time = s.time := rfl
@[simp] theorem State.setSession_lath (s : State) (x : Session) : (s.setSession x).lath = s.lath := rfl
@[simp] theorem State.setSession_loop (s : State) (x : Session) : (s.setSession x).loop = s.loop := rfl
@[simp] theorem State.setSession_edge (s : State) (x : Session) : (s.setSession x).edge = s.edge := rfl
@[simp] theorem State.setSession_link (s : State) (x : Session) : (s.setSession x).link = s.link := rfl
@[simp] theorem State.setSession_samp (s : State) (x : Session) : (s.setSession x).samp = s.samp := rfl
@[simp] theorem State.setSession_pwr (s : State) (x : Session) : (s.setSession x).pwr = s.pwr := rfl
@[simp] theorem State.setSession_fcst (s : State) (x : Session) : (s.setSession x).fcst = s.fcst := rfl
@[simp] theorem State.setSession_klog (s : State) (x : Session) : (s.setSession x).klog = s.klog := rfl
@[simp] theorem State.setSession_core (s : State) (x : Session) : (s.setSession x).core = s.core := rfl
@[simp] theorem State.setSession_mm (s : State) (x : Session) : (s.setSession x).mm = s.mm := rfl
@[simp] theorem State.setSession_dep (s : State) (x : Session) : (s.setSession x).dep = s.dep := rfl
@[simp] theorem State.setSession_fire (s : State) (x : Session) : (s.setSession x).fire = s.fire := rfl
@[simp] theorem State.setSession_grp (s : State) (x : Session) : (s.setSession x).grp = s.grp := rfl
@[simp] theorem State.setSession_tap (s : State) (x : Session) : (s.setSession x).tap = s.tap := rfl
@[simp] theorem State.setSession_hw (s : State) (x : Session) : (s.setSession x).hw = s.hw := rfl

/-! ### sendTo -/

@[simp] theorem State.sendTo_pending (s : State) (port addr udp : Nat) (b : List Byte) : (s.sendTo port addr udp b).pending = s.pending := rfl
@[simp] theorem State.sendTo_tick (s : State) (port addr udp : Nat) (b : List Byte) : (s.sendTo port addr udp b).tick = s.tick := rfl
@[simp] theorem State.sendTo_free (s : State) (port addr udp : Nat) (b : List Byte) : (s.sendTo port addr udp b).free = s.free := rfl
@[simp] theorem State.sendTo_regs (s : State) (port addr udp : Nat) (b : List Byte) : (s.sendTo port addr udp b).regs = s.regs := rfl
@[simp] theorem State.sendTo_journal (s : State) (port addr udp : Nat) (b : List Byte) : (s.sendTo port addr udp b).journal = s.journal := rfl
@[simp] theorem State.sendTo_mem (s : State) (port addr udp : Nat) (b : List Byte) : (s.sendTo port addr udp b).mem = s.mem := rfl
@[simp] theorem State.sendTo_bus (s : State) (port addr udp : Nat) (b : List Byte) : (s.sendTo port addr udp b).bus = s.bus := rfl
@[simp] theorem State.sendTo_time (s : State) (port addr udp : Nat) (b : List Byte) : (s.sendTo port addr udp b).time = s.time := rfl
@[simp] theorem State.sendTo_lath (s : State) (port addr udp : Nat) (b : List Byte) : (s.sendTo port addr udp b).lath = s.lath := rfl
@[simp] theorem State.sendTo_loop (s : State) (port addr udp : Nat) (b : List Byte) : (s.sendTo port addr udp b).loop = s.loop := rfl
@[simp] theorem State.sendTo_edge (s : State) (port addr udp : Nat) (b : List Byte) : (s.sendTo port addr udp b).edge = s.edge := rfl
@[simp] theorem State.sendTo_link (s : State) (port addr udp : Nat) (b : List Byte) : (s.sendTo port addr udp b).link = s.link := rfl
@[simp] theorem State.sendTo_samp (s : State) (port addr udp : Nat) (b : List Byte) : (s.sendTo port addr udp b).samp = s.samp := rfl
@[simp] theorem State.sendTo_pwr (s : State) (port addr udp : Nat) (b : List Byte) : (s.sendTo port addr udp b).pwr = s.pwr := rfl
@[simp] theorem State.sendTo_fcst (s : State) (port addr udp : Nat) (b : List Byte) : (s.sendTo port addr udp b).fcst = s.fcst := rfl
@[simp] theorem State.sendTo_klog (s : State) (port addr udp : Nat) (b : List Byte) : (s.sendTo port addr udp b).klog = s.klog := rfl
@[simp] theorem State.sendTo_core (s : State) (port addr udp : Nat) (b : List Byte) : (s.sendTo port addr udp b).core = s.core := rfl
@[simp] theorem State.sendTo_mm (s : State) (port addr udp : Nat) (b : List Byte) : (s.sendTo port addr udp b).mm = s.mm := rfl
@[simp] theorem State.sendTo_dep (s : State) (port addr udp : Nat) (b : List Byte) : (s.sendTo port addr udp b).dep = s.dep := rfl
@[simp] theorem State.sendTo_fire (s : State) (port addr udp : Nat) (b : List Byte) : (s.sendTo port addr udp b).fire = s.fire := rfl
@[simp] theorem State.sendTo_grp (s : State) (port addr udp : Nat) (b : List Byte) : (s.sendTo port addr udp b).grp = s.grp := rfl
@[simp] theorem State.sendTo_tap (s : State) (port addr udp : Nat) (b : List Byte) : (s.sendTo port addr udp b).tap = s.tap := rfl
@[simp] theorem State.sendTo_hw (s : State) (port addr udp : Nat) (b : List Byte) : (s.sendTo port addr udp b).hw = s.hw := rfl

/-! ### setCap -/

@[simp] theorem State.setCap_pending (s : State) (k : Nat) (x : CapSt) : (s.setCap k x).pending = s.pending := rfl
@[simp] theorem State.setCap_tick (s : State) (k : Nat) (x : CapSt) : (s.setCap k x).tick = s.tick := rfl
@[simp] theorem State.setCap_free (s : State) (k : Nat) (x : CapSt) : (s.setCap k x).free = s.free := rfl
@[simp] theorem State.setCap_regs (s : State) (k : Nat) (x : CapSt) : (s.setCap k x).regs = s.regs := rfl
@[simp] theorem State.setCap_journal (s : State) (k : Nat) (x : CapSt) : (s.setCap k x).journal = s.journal := rfl
@[simp] theorem State.setCap_mem (s : State) (k : Nat) (x : CapSt) : (s.setCap k x).mem = s.mem := rfl
@[simp] theorem State.setCap_bus (s : State) (k : Nat) (x : CapSt) : (s.setCap k x).bus = s.bus := rfl
@[simp] theorem State.setCap_time (s : State) (k : Nat) (x : CapSt) : (s.setCap k x).time = s.time := rfl
@[simp] theorem State.setCap_lath (s : State) (k : Nat) (x : CapSt) : (s.setCap k x).lath = s.lath := rfl
@[simp] theorem State.setCap_loop (s : State) (k : Nat) (x : CapSt) : (s.setCap k x).loop = s.loop := rfl
@[simp] theorem State.setCap_edge (s : State) (k : Nat) (x : CapSt) : (s.setCap k x).edge = s.edge := rfl
@[simp] theorem State.setCap_link (s : State) (k : Nat) (x : CapSt) : (s.setCap k x).link = s.link := rfl
@[simp] theorem State.setCap_pwr (s : State) (k : Nat) (x : CapSt) : (s.setCap k x).pwr = s.pwr := rfl
@[simp] theorem State.setCap_fcst (s : State) (k : Nat) (x : CapSt) : (s.setCap k x).fcst = s.fcst := rfl
@[simp] theorem State.setCap_klog (s : State) (k : Nat) (x : CapSt) : (s.setCap k x).klog = s.klog := rfl
@[simp] theorem State.setCap_core (s : State) (k : Nat) (x : CapSt) : (s.setCap k x).core = s.core := rfl
@[simp] theorem State.setCap_mm (s : State) (k : Nat) (x : CapSt) : (s.setCap k x).mm = s.mm := rfl
@[simp] theorem State.setCap_dep (s : State) (k : Nat) (x : CapSt) : (s.setCap k x).dep = s.dep := rfl
@[simp] theorem State.setCap_fire (s : State) (k : Nat) (x : CapSt) : (s.setCap k x).fire = s.fire := rfl
@[simp] theorem State.setCap_grp (s : State) (k : Nat) (x : CapSt) : (s.setCap k x).grp = s.grp := rfl
@[simp] theorem State.setCap_mon (s : State) (k : Nat) (x : CapSt) : (s.setCap k x).mon = s.mon := rfl
@[simp] theorem State.setCap_tap (s : State) (k : Nat) (x : CapSt) : (s.setCap k x).tap = s.tap := rfl
@[simp] theorem State.setCap_hw (s : State) (k : Nat) (x : CapSt) : (s.setCap k x).hw = s.hw := rfl

/-! ### setQreq -/

@[simp] theorem State.setQreq_pending (s : State) (t req : Nat) (x : QReq) : (s.setQreq t req x).pending = s.pending := rfl
@[simp] theorem State.setQreq_tick (s : State) (t req : Nat) (x : QReq) : (s.setQreq t req x).tick = s.tick := rfl
@[simp] theorem State.setQreq_free (s : State) (t req : Nat) (x : QReq) : (s.setQreq t req x).free = s.free := rfl
@[simp] theorem State.setQreq_regs (s : State) (t req : Nat) (x : QReq) : (s.setQreq t req x).regs = s.regs := rfl
@[simp] theorem State.setQreq_journal (s : State) (t req : Nat) (x : QReq) : (s.setQreq t req x).journal = s.journal := rfl
@[simp] theorem State.setQreq_mem (s : State) (t req : Nat) (x : QReq) : (s.setQreq t req x).mem = s.mem := rfl
@[simp] theorem State.setQreq_bus (s : State) (t req : Nat) (x : QReq) : (s.setQreq t req x).bus = s.bus := rfl
@[simp] theorem State.setQreq_time (s : State) (t req : Nat) (x : QReq) : (s.setQreq t req x).time = s.time := rfl
@[simp] theorem State.setQreq_lath (s : State) (t req : Nat) (x : QReq) : (s.setQreq t req x).lath = s.lath := rfl
@[simp] theorem State.setQreq_loop (s : State) (t req : Nat) (x : QReq) : (s.setQreq t req x).loop = s.loop := rfl
@[simp] theorem State.setQreq_edge (s : State) (t req : Nat) (x : QReq) : (s.setQreq t req x).edge = s.edge := rfl
@[simp] theorem State.setQreq_link (s : State) (t req : Nat) (x : QReq) : (s.setQreq t req x).link = s.link := rfl
@[simp] theorem State.setQreq_samp (s : State) (t req : Nat) (x : QReq) : (s.setQreq t req x).samp = s.samp := rfl
@[simp] theorem State.setQreq_pwr (s : State) (t req : Nat) (x : QReq) : (s.setQreq t req x).pwr = s.pwr := rfl
@[simp] theorem State.setQreq_fcst (s : State) (t req : Nat) (x : QReq) : (s.setQreq t req x).fcst = s.fcst := rfl
@[simp] theorem State.setQreq_klog (s : State) (t req : Nat) (x : QReq) : (s.setQreq t req x).klog = s.klog := rfl
@[simp] theorem State.setQreq_core (s : State) (t req : Nat) (x : QReq) : (s.setQreq t req x).core = s.core := rfl
@[simp] theorem State.setQreq_dep (s : State) (t req : Nat) (x : QReq) : (s.setQreq t req x).dep = s.dep := rfl
@[simp] theorem State.setQreq_fire (s : State) (t req : Nat) (x : QReq) : (s.setQreq t req x).fire = s.fire := rfl
@[simp] theorem State.setQreq_grp (s : State) (t req : Nat) (x : QReq) : (s.setQreq t req x).grp = s.grp := rfl
@[simp] theorem State.setQreq_mon (s : State) (t req : Nat) (x : QReq) : (s.setQreq t req x).mon = s.mon := rfl
@[simp] theorem State.setQreq_tap (s : State) (t req : Nat) (x : QReq) : (s.setQreq t req x).tap = s.tap := rfl
@[simp] theorem State.setQreq_hw (s : State) (t req : Nat) (x : QReq) : (s.setQreq t req x).hw = s.hw := rfl

/-! ### setRec -/

@[simp] theorem State.setRec_pending (s : State) (t g : Nat) (r : PeriodRec) : (s.setRec t g r).pending = s.pending := rfl
@[simp] theorem State.setRec_tick (s : State) (t g : Nat) (r : PeriodRec) : (s.setRec t g r).tick = s.tick := rfl
@[simp] theorem State.setRec_free (s : State) (t g : Nat) (r : PeriodRec) : (s.setRec t g r).free = s.free := rfl
@[simp] theorem State.setRec_regs (s : State) (t g : Nat) (r : PeriodRec) : (s.setRec t g r).regs = s.regs := rfl
@[simp] theorem State.setRec_journal (s : State) (t g : Nat) (r : PeriodRec) : (s.setRec t g r).journal = s.journal := rfl
@[simp] theorem State.setRec_mem (s : State) (t g : Nat) (r : PeriodRec) : (s.setRec t g r).mem = s.mem := rfl
@[simp] theorem State.setRec_bus (s : State) (t g : Nat) (r : PeriodRec) : (s.setRec t g r).bus = s.bus := rfl
@[simp] theorem State.setRec_time (s : State) (t g : Nat) (r : PeriodRec) : (s.setRec t g r).time = s.time := rfl
@[simp] theorem State.setRec_lath (s : State) (t g : Nat) (r : PeriodRec) : (s.setRec t g r).lath = s.lath := rfl
@[simp] theorem State.setRec_loop (s : State) (t g : Nat) (r : PeriodRec) : (s.setRec t g r).loop = s.loop := rfl
@[simp] theorem State.setRec_link (s : State) (t g : Nat) (r : PeriodRec) : (s.setRec t g r).link = s.link := rfl
@[simp] theorem State.setRec_samp (s : State) (t g : Nat) (r : PeriodRec) : (s.setRec t g r).samp = s.samp := rfl
@[simp] theorem State.setRec_pwr (s : State) (t g : Nat) (r : PeriodRec) : (s.setRec t g r).pwr = s.pwr := rfl
@[simp] theorem State.setRec_fcst (s : State) (t g : Nat) (r : PeriodRec) : (s.setRec t g r).fcst = s.fcst := rfl
@[simp] theorem State.setRec_klog (s : State) (t g : Nat) (r : PeriodRec) : (s.setRec t g r).klog = s.klog := rfl
@[simp] theorem State.setRec_core (s : State) (t g : Nat) (r : PeriodRec) : (s.setRec t g r).core = s.core := rfl
@[simp] theorem State.setRec_mm (s : State) (t g : Nat) (r : PeriodRec) : (s.setRec t g r).mm = s.mm := rfl
@[simp] theorem State.setRec_dep (s : State) (t g : Nat) (r : PeriodRec) : (s.setRec t g r).dep = s.dep := rfl
@[simp] theorem State.setRec_fire (s : State) (t g : Nat) (r : PeriodRec) : (s.setRec t g r).fire = s.fire := rfl
@[simp] theorem State.setRec_grp (s : State) (t g : Nat) (r : PeriodRec) : (s.setRec t g r).grp = s.grp := rfl
@[simp] theorem State.setRec_mon (s : State) (t g : Nat) (r : PeriodRec) : (s.setRec t g r).mon = s.mon := rfl
@[simp] theorem State.setRec_tap (s : State) (t g : Nat) (r : PeriodRec) : (s.setRec t g r).tap = s.tap := rfl
@[simp] theorem State.setRec_hw (s : State) (t g : Nat) (r : PeriodRec) : (s.setRec t g r).hw = s.hw := rfl

/-! ### setLanes -/

@[simp] theorem State.setLanes_pending (s : State) (t : Nat) (x : Lanes) : (s.setLanes t x).pending = s.pending := rfl
@[simp] theorem State.setLanes_tick (s : State) (t : Nat) (x : Lanes) : (s.setLanes t x).tick = s.tick := rfl
@[simp] theorem State.setLanes_free (s : State) (t : Nat) (x : Lanes) : (s.setLanes t x).free = s.free := rfl
@[simp] theorem State.setLanes_regs (s : State) (t : Nat) (x : Lanes) : (s.setLanes t x).regs = s.regs := rfl
@[simp] theorem State.setLanes_journal (s : State) (t : Nat) (x : Lanes) : (s.setLanes t x).journal = s.journal := rfl
@[simp] theorem State.setLanes_mem (s : State) (t : Nat) (x : Lanes) : (s.setLanes t x).mem = s.mem := rfl
@[simp] theorem State.setLanes_bus (s : State) (t : Nat) (x : Lanes) : (s.setLanes t x).bus = s.bus := rfl
@[simp] theorem State.setLanes_time (s : State) (t : Nat) (x : Lanes) : (s.setLanes t x).time = s.time := rfl
@[simp] theorem State.setLanes_lath (s : State) (t : Nat) (x : Lanes) : (s.setLanes t x).lath = s.lath := rfl
@[simp] theorem State.setLanes_loop (s : State) (t : Nat) (x : Lanes) : (s.setLanes t x).loop = s.loop := rfl
@[simp] theorem State.setLanes_link (s : State) (t : Nat) (x : Lanes) : (s.setLanes t x).link = s.link := rfl
@[simp] theorem State.setLanes_samp (s : State) (t : Nat) (x : Lanes) : (s.setLanes t x).samp = s.samp := rfl
@[simp] theorem State.setLanes_pwr (s : State) (t : Nat) (x : Lanes) : (s.setLanes t x).pwr = s.pwr := rfl
@[simp] theorem State.setLanes_fcst (s : State) (t : Nat) (x : Lanes) : (s.setLanes t x).fcst = s.fcst := rfl
@[simp] theorem State.setLanes_klog (s : State) (t : Nat) (x : Lanes) : (s.setLanes t x).klog = s.klog := rfl
@[simp] theorem State.setLanes_core (s : State) (t : Nat) (x : Lanes) : (s.setLanes t x).core = s.core := rfl
@[simp] theorem State.setLanes_mm (s : State) (t : Nat) (x : Lanes) : (s.setLanes t x).mm = s.mm := rfl
@[simp] theorem State.setLanes_dep (s : State) (t : Nat) (x : Lanes) : (s.setLanes t x).dep = s.dep := rfl
@[simp] theorem State.setLanes_fire (s : State) (t : Nat) (x : Lanes) : (s.setLanes t x).fire = s.fire := rfl
@[simp] theorem State.setLanes_grp (s : State) (t : Nat) (x : Lanes) : (s.setLanes t x).grp = s.grp := rfl
@[simp] theorem State.setLanes_mon (s : State) (t : Nat) (x : Lanes) : (s.setLanes t x).mon = s.mon := rfl
@[simp] theorem State.setLanes_tap (s : State) (t : Nat) (x : Lanes) : (s.setLanes t x).tap = s.tap := rfl
@[simp] theorem State.setLanes_hw (s : State) (t : Nat) (x : Lanes) : (s.setLanes t x).hw = s.hw := rfl

/-! ### setStage -/

@[simp] theorem State.setStage_pending (s : State) (t : Nat) (x : TileStage) : (s.setStage t x).pending = s.pending := rfl
@[simp] theorem State.setStage_tick (s : State) (t : Nat) (x : TileStage) : (s.setStage t x).tick = s.tick := rfl
@[simp] theorem State.setStage_free (s : State) (t : Nat) (x : TileStage) : (s.setStage t x).free = s.free := rfl
@[simp] theorem State.setStage_journal (s : State) (t : Nat) (x : TileStage) : (s.setStage t x).journal = s.journal := rfl
@[simp] theorem State.setStage_mem (s : State) (t : Nat) (x : TileStage) : (s.setStage t x).mem = s.mem := rfl
@[simp] theorem State.setStage_bus (s : State) (t : Nat) (x : TileStage) : (s.setStage t x).bus = s.bus := rfl
@[simp] theorem State.setStage_time (s : State) (t : Nat) (x : TileStage) : (s.setStage t x).time = s.time := rfl
@[simp] theorem State.setStage_lath (s : State) (t : Nat) (x : TileStage) : (s.setStage t x).lath = s.lath := rfl
@[simp] theorem State.setStage_edge (s : State) (t : Nat) (x : TileStage) : (s.setStage t x).edge = s.edge := rfl
@[simp] theorem State.setStage_link (s : State) (t : Nat) (x : TileStage) : (s.setStage t x).link = s.link := rfl
@[simp] theorem State.setStage_samp (s : State) (t : Nat) (x : TileStage) : (s.setStage t x).samp = s.samp := rfl
@[simp] theorem State.setStage_pwr (s : State) (t : Nat) (x : TileStage) : (s.setStage t x).pwr = s.pwr := rfl
@[simp] theorem State.setStage_fcst (s : State) (t : Nat) (x : TileStage) : (s.setStage t x).fcst = s.fcst := rfl
@[simp] theorem State.setStage_klog (s : State) (t : Nat) (x : TileStage) : (s.setStage t x).klog = s.klog := rfl
@[simp] theorem State.setStage_core (s : State) (t : Nat) (x : TileStage) : (s.setStage t x).core = s.core := rfl
@[simp] theorem State.setStage_mm (s : State) (t : Nat) (x : TileStage) : (s.setStage t x).mm = s.mm := rfl
@[simp] theorem State.setStage_dep (s : State) (t : Nat) (x : TileStage) : (s.setStage t x).dep = s.dep := rfl
@[simp] theorem State.setStage_fire (s : State) (t : Nat) (x : TileStage) : (s.setStage t x).fire = s.fire := rfl
@[simp] theorem State.setStage_grp (s : State) (t : Nat) (x : TileStage) : (s.setStage t x).grp = s.grp := rfl
@[simp] theorem State.setStage_mon (s : State) (t : Nat) (x : TileStage) : (s.setStage t x).mon = s.mon := rfl
@[simp] theorem State.setStage_tap (s : State) (t : Nat) (x : TileStage) : (s.setStage t x).tap = s.tap := rfl
@[simp] theorem State.setStage_hw (s : State) (t : Nat) (x : TileStage) : (s.setStage t x).hw = s.hw := rfl

/-! ### setIo -/

@[simp] theorem State.setIo_pending (s : State) (t : Nat) (x : IoSt) : (s.setIo t x).pending = s.pending := rfl
@[simp] theorem State.setIo_tick (s : State) (t : Nat) (x : IoSt) : (s.setIo t x).tick = s.tick := rfl
@[simp] theorem State.setIo_free (s : State) (t : Nat) (x : IoSt) : (s.setIo t x).free = s.free := rfl
@[simp] theorem State.setIo_journal (s : State) (t : Nat) (x : IoSt) : (s.setIo t x).journal = s.journal := rfl
@[simp] theorem State.setIo_mem (s : State) (t : Nat) (x : IoSt) : (s.setIo t x).mem = s.mem := rfl
@[simp] theorem State.setIo_bus (s : State) (t : Nat) (x : IoSt) : (s.setIo t x).bus = s.bus := rfl
@[simp] theorem State.setIo_time (s : State) (t : Nat) (x : IoSt) : (s.setIo t x).time = s.time := rfl
@[simp] theorem State.setIo_lath (s : State) (t : Nat) (x : IoSt) : (s.setIo t x).lath = s.lath := rfl
@[simp] theorem State.setIo_loop (s : State) (t : Nat) (x : IoSt) : (s.setIo t x).loop = s.loop := rfl
@[simp] theorem State.setIo_edge (s : State) (t : Nat) (x : IoSt) : (s.setIo t x).edge = s.edge := rfl
@[simp] theorem State.setIo_link (s : State) (t : Nat) (x : IoSt) : (s.setIo t x).link = s.link := rfl
@[simp] theorem State.setIo_samp (s : State) (t : Nat) (x : IoSt) : (s.setIo t x).samp = s.samp := rfl
@[simp] theorem State.setIo_pwr (s : State) (t : Nat) (x : IoSt) : (s.setIo t x).pwr = s.pwr := rfl
@[simp] theorem State.setIo_fcst (s : State) (t : Nat) (x : IoSt) : (s.setIo t x).fcst = s.fcst := rfl
@[simp] theorem State.setIo_klog (s : State) (t : Nat) (x : IoSt) : (s.setIo t x).klog = s.klog := rfl
@[simp] theorem State.setIo_core (s : State) (t : Nat) (x : IoSt) : (s.setIo t x).core = s.core := rfl
@[simp] theorem State.setIo_dep (s : State) (t : Nat) (x : IoSt) : (s.setIo t x).dep = s.dep := rfl
@[simp] theorem State.setIo_fire (s : State) (t : Nat) (x : IoSt) : (s.setIo t x).fire = s.fire := rfl
@[simp] theorem State.setIo_grp (s : State) (t : Nat) (x : IoSt) : (s.setIo t x).grp = s.grp := rfl
@[simp] theorem State.setIo_mon (s : State) (t : Nat) (x : IoSt) : (s.setIo t x).mon = s.mon := rfl
@[simp] theorem State.setIo_tap (s : State) (t : Nat) (x : IoSt) : (s.setIo t x).tap = s.tap := rfl
@[simp] theorem State.setIo_hw (s : State) (t : Nat) (x : IoSt) : (s.setIo t x).hw = s.hw := rfl

/-! ### setKl -/

@[simp] theorem State.setKl_pending (s : State) (c : Nat) (k : Klog) : (s.setKl c k).pending = s.pending := rfl
@[simp] theorem State.setKl_tick (s : State) (c : Nat) (k : Klog) : (s.setKl c k).tick = s.tick := rfl
@[simp] theorem State.setKl_free (s : State) (c : Nat) (k : Klog) : (s.setKl c k).free = s.free := rfl
@[simp] theorem State.setKl_journal (s : State) (c : Nat) (k : Klog) : (s.setKl c k).journal = s.journal := rfl
@[simp] theorem State.setKl_mem (s : State) (c : Nat) (k : Klog) : (s.setKl c k).mem = s.mem := rfl
@[simp] theorem State.setKl_bus (s : State) (c : Nat) (k : Klog) : (s.setKl c k).bus = s.bus := rfl
@[simp] theorem State.setKl_time (s : State) (c : Nat) (k : Klog) : (s.setKl c k).time = s.time := rfl
@[simp] theorem State.setKl_lath (s : State) (c : Nat) (k : Klog) : (s.setKl c k).lath = s.lath := rfl
@[simp] theorem State.setKl_loop (s : State) (c : Nat) (k : Klog) : (s.setKl c k).loop = s.loop := rfl
@[simp] theorem State.setKl_edge (s : State) (c : Nat) (k : Klog) : (s.setKl c k).edge = s.edge := rfl
@[simp] theorem State.setKl_link (s : State) (c : Nat) (k : Klog) : (s.setKl c k).link = s.link := rfl
@[simp] theorem State.setKl_samp (s : State) (c : Nat) (k : Klog) : (s.setKl c k).samp = s.samp := rfl
@[simp] theorem State.setKl_pwr (s : State) (c : Nat) (k : Klog) : (s.setKl c k).pwr = s.pwr := rfl
@[simp] theorem State.setKl_fcst (s : State) (c : Nat) (k : Klog) : (s.setKl c k).fcst = s.fcst := rfl
@[simp] theorem State.setKl_core (s : State) (c : Nat) (k : Klog) : (s.setKl c k).core = s.core := rfl
@[simp] theorem State.setKl_mm (s : State) (c : Nat) (k : Klog) : (s.setKl c k).mm = s.mm := rfl
@[simp] theorem State.setKl_dep (s : State) (c : Nat) (k : Klog) : (s.setKl c k).dep = s.dep := rfl
@[simp] theorem State.setKl_fire (s : State) (c : Nat) (k : Klog) : (s.setKl c k).fire = s.fire := rfl
@[simp] theorem State.setKl_grp (s : State) (c : Nat) (k : Klog) : (s.setKl c k).grp = s.grp := rfl
@[simp] theorem State.setKl_mon (s : State) (c : Nat) (k : Klog) : (s.setKl c k).mon = s.mon := rfl
@[simp] theorem State.setKl_tap (s : State) (c : Nat) (k : Klog) : (s.setKl c k).tap = s.tap := rfl
@[simp] theorem State.setKl_hw (s : State) (c : Nat) (k : Klog) : (s.setKl c k).hw = s.hw := rfl

/-! ### Parts read back -/

@[simp] theorem State.gen_setGen (s : State) (t g : Nat) (x : Gen) : (s.setGen t g x).gen t g = x := by
  simp [State.gen, State.setGen]

@[simp] theorem State.timer_setTimer (s : State) (t n : Nat) (x : Timer) : (s.setTimer t n x).timer t n = x := by
  simp [State.timer, State.setTimer]

@[simp] theorem State.wdog_setWdog (s : State) (t : Nat) (x : Wdog) : (s.setWdog t x).wdog t = x := by
  simp [State.wdog, State.setWdog]

@[simp] theorem State.cmp_setCmp (s : State) (k : Nat) (x : CmpSt) : (s.setCmp k x).cmp k = x := by
  simp [State.cmp, State.setCmp]

@[simp] theorem State.ring_setRing (s : State) (r : Nat) (x : RingSt) : (s.setRing r x).ring r = x := by
  simp [State.ring, State.setRing]

@[simp] theorem State.node_setNode (s : State) (k : Nat) (x : NodeSt) : (s.setNode k x).node k = x := by
  simp [State.node, State.setNode]

@[simp] theorem State.chan_setChan (s : State) (t n : Nat) (x : DmaCh) : (s.setChan t n x).chan t n = x := by
  simp [State.chan, State.setChan]

@[simp] theorem State.peer_setPeer (s : State) (k : Nat) (x : Peer) : (s.setPeer k x).peer k = x := by
  simp [State.peer, State.setPeer]

@[simp] theorem State.cap_setCap (s : State) (k : Nat) (x : CapSt) : (s.setCap k x).cap k = x := by
  simp [State.cap, State.setCap]

@[simp] theorem State.qreq_setQreq (s : State) (t req : Nat) (x : QReq) : (s.setQreq t req x).qreq t req = x := by
  simp [State.qreq, State.setQreq]

@[simp] theorem State.lanesOf_setLanes (s : State) (t : Nat) (x : Lanes) : (s.setLanes t x).lanesOf t = x := by
  simp [State.lanesOf, State.setLanes]

@[simp] theorem State.stageOf_setStage (s : State) (t : Nat) (x : TileStage) : (s.setStage t x).stageOf t = x := by
  simp [State.stageOf, State.setStage, State.setF]

@[simp] theorem State.io_setIo (s : State) (t : Nat) (x : IoSt) : (s.setIo t x).io t = x := by
  simp [State.io, State.setIo, State.setF]

@[simp] theorem State.getF_setPair (s : State) (p : Nat) (x : PairSt) (base : Nat) (fld : Fld) : (s.setPair p x).getF base fld = s.getF base fld := rfl
@[simp] theorem State.getF_setGen (s : State) (t g : Nat) (x : Gen) (base : Nat) (fld : Fld) : (s.setGen t g x).getF base fld = s.getF base fld := rfl
@[simp] theorem State.getF_setTimer (s : State) (t n : Nat) (x : Timer) (base : Nat) (fld : Fld) : (s.setTimer t n x).getF base fld = s.getF base fld := rfl
@[simp] theorem State.getF_setWdog (s : State) (t : Nat) (x : Wdog) (base : Nat) (fld : Fld) : (s.setWdog t x).getF base fld = s.getF base fld := rfl
@[simp] theorem State.getF_setCmp (s : State) (k : Nat) (x : CmpSt) (base : Nat) (fld : Fld) : (s.setCmp k x).getF base fld = s.getF base fld := rfl
@[simp] theorem State.getF_setRing (s : State) (r : Nat) (x : RingSt) (base : Nat) (fld : Fld) : (s.setRing r x).getF base fld = s.getF base fld := rfl
@[simp] theorem State.getF_setNode (s : State) (k : Nat) (x : NodeSt) (base : Nat) (fld : Fld) : (s.setNode k x).getF base fld = s.getF base fld := rfl
@[simp] theorem State.getF_setChan (s : State) (t n : Nat) (x : DmaCh) (base : Nat) (fld : Fld) : (s.setChan t n x).getF base fld = s.getF base fld := rfl
@[simp] theorem State.getF_updLath (s : State) (l : Nat) (f : Lath → Lath) (base : Nat) (fld : Fld) : (s.updLath l f).getF base fld = s.getF base fld := rfl
@[simp] theorem State.getF_setConn (s : State) (c : Conn) (base : Nat) (fld : Fld) : (s.setConn c).getF base fld = s.getF base fld := rfl
@[simp] theorem State.getF_setPeer (s : State) (k : Nat) (x : Peer) (base : Nat) (fld : Fld) : (s.setPeer k x).getF base fld = s.getF base fld := rfl
@[simp] theorem State.getF_setSession (s : State) (x : Session) (base : Nat) (fld : Fld) : (s.setSession x).getF base fld = s.getF base fld := rfl
@[simp] theorem State.getF_sendTo (s : State) (port addr udp : Nat) (b : List Byte) (base : Nat) (fld : Fld) : (s.sendTo port addr udp b).getF base fld = s.getF base fld := rfl

end Sys2Proof.Machine
end

