-- ==== Sys2Proof/Laws/Ring.lean ====
section
/-! SUPPORT. Laws/Ring.lean: a whole frame on the line, at a receiver of the device and at a cell node (R172, R173, R176). -/

namespace Sys2Proof.Machine

/-! ### Blocks -/

@[simp] theorem blkOf_sofLine (h : Nat) : blkOf (sofLine h) = .sof h := by
  have h1 : (120 + 256 * h) % 256 = 120 := by omega
  have h2 : (120 + 256 * h) / 256 = h := by omega
  simp [blkOf, sofLine, ctrlBlk, h1, h2]

@[simp] theorem blkOf_dataLine (b : Nat) : blkOf (dataLine b) = .data b := rfl

theorem blkOf_eofLine {c : Nat} (h : c < 2 ^ 32) : blkOf (eofLine c) = .eof c := by
  have h1 : (204 + 256 * c) % 256 = 204 := by omega
  have h2 : (204 + 256 * c) / 256 = c := by omega
  simp only [blkOf, eofLine, ctrlBlk, h1, h2, h]
  simp

@[simp] theorem syncOk_sofLine (h : Nat) : syncOk (sofLine h) = true := rfl
@[simp] theorem syncOk_dataLine (b : Nat) : syncOk (dataLine b) = true := rfl
@[simp] theorem syncOk_eofLine (c : Nat) : syncOk (eofLine c) = true := rfl

/-- No sync header of a frame is invalid. -/
theorem frame_syncs (sof : Nat) (blocks : List Nat) (crc : Nat) :
    (frameLine sof blocks crc).countP (fun b => !syncOk b) = 0 := by
  simp [frameLine, lineOf, List.countP_eq_zero]

@[simp] theorem Frame.ofHead_blocks (h : Nat) (bs : List Nat) : (Frame.ofHead h bs).blocks = bs := rfl

/-! ### The receiver -/

/-- Data blocks up to LEN, and then the EOF. -/
theorem rxRun_body (h crc : Nat) (hc : crc < 2 ^ 32) : ∀ (blocks ds : List Nat), ds.length + blocks.length = bits h 32 4 →
    rxRun (some (h, ds)) (blocks.map dataLine ++ [eofLine crc]) = (none, [.frame h (ds ++ blocks) crc])
  | [], ds, hl => by
    simp only [List.length_nil, Nat.add_zero] at hl
    simp [rxRun, rxBlock, blkOf_eofLine hc, hl]
  | b :: bs, ds, hl => by
    have hlt : ds.length < bits h 32 4 := by simp only [List.length_cons] at hl; omega
    have := rxRun_body h crc hc bs (ds ++ [b]) (by simp only [List.length_append, List.length_cons, List.length_nil] at hl ⊢; omega)
    simp only [List.map_cons, List.cons_append, rxRun, blkOf_dataLine, rxBlock, hlt, if_true, this]
    simp

/-- A frame whose HCRC holds and that has LEN data blocks. -/
theorem rxRun_frame {sof crc : Nat} {blocks : List Nat} (hc : crc < 2 ^ 32) (hh : crc8 (natBytes sof 6) = bits sof 48 8)
    (hl : blocks.length = bits sof 32 4) :
    rxRun none (frameLine sof blocks crc) = (none, [.frame sof blocks crc]) := by
  have := rxRun_body sof crc hc blocks [] (by simpa using hl)
  simp only [frameLine, lineOf, rxRun, blkOf_sofLine, rxBlock, hh, if_true, this]
  simp

/-- Outside a frame, data blocks and an EOF bring nothing. -/
theorem rxRun_stray (crc : Nat) (hc : crc < 2 ^ 32) : ∀ blocks : List Nat, rxRun none (blocks.map dataLine ++ [eofLine crc]) = (none, [])
  | [] => by simp [rxRun, rxBlock, blkOf_eofLine hc]
  | b :: bs => by simp [rxRun, rxBlock, rxRun_stray crc hc bs]

/-- A frame whose HCRC fails. -/
theorem rxRun_head {sof crc : Nat} {blocks : List Nat} (hc : crc < 2 ^ 32) (hh : crc8 (natBytes sof 6) ≠ bits sof 48 8) :
    rxRun none (frameLine sof blocks crc) = (none, [.head sof]) := by
  simp only [frameLine, lineOf, rxRun, blkOf_sofLine, rxBlock, hh, if_false, rxRun_stray crc hc blocks]
  simp

/-- What an open receiver that holds no part of a frame makes of blocks with good sync headers. -/
theorem State.receiveAs_good {s : State} {r d ty : Nat} {line plain : List LineBlock} {f : State → Frame → State} {es : List RxEv}
    (ho : s.rxOpen r d = true) (hp : line.map (s.linePlain (rxLane r d)) = plain) (hs : plain.countP (fun b => !syncOk b) = 0)
    (hi : (s.ring r).rx d = none) (hr : rxRun none plain = (none, es)) :
    s.receiveAs r d line ty f = es.foldl (fun s e => s.rxEvent r d ty f e) s := by
  simp only [State.receiveAs, hp]
  simp [ho, hs, State.syncErrors, hi, hr]

/-- A whole frame at a receiver of the device that hears it. -/
theorem State.receiveAs_frame {s : State} {r d sof crc ty : Nat} {line : List LineBlock} {blocks : List Nat}
    (h : s.Hears r d line sof blocks crc ty) (f : State → Frame → State) :
    s.receiveAs r d line ty f = s.rxEvent r d ty f (.frame sof blocks crc) := by
  rw [State.receiveAs_good h.on h.plain (frame_syncs ..) h.idle (rxRun_frame h.word h.head h.len)]
  rfl

/-- A frame heard that is no up frame goes to what takes it. -/
theorem State.receiveAs_down {s : State} {r d sof crc ty : Nat} {line : List LineBlock} {blocks : List Nat}
    (h : s.Hears r d line sof blocks crc ty)
    (hn : ty ≠ 0) (hm : ty ≤ 8) (h2 : ty ≠ 2) (h4 : ty ≠ 4) (h7 : ty ≠ 7) (f : State → Frame → State) :
    s.receiveAs r d line ty f = f s (Frame.ofHead sof blocks) := by
  have ht : (Frame.ofHead sof blocks).ty = ty := h.type
  rw [State.receiveAs_frame h]
  have hm' : ¬ 8 < ty := by omega
  simp [State.rxEvent, State.receive, h.body, ht, hn, hm', h.count, h2, h4, h7]

/-- An up frame heard leaves the tick of it, and a join where its position is not UP. -/
theorem State.receiveAs_up {s : State} {r d sof crc ty : Nat} {line : List LineBlock} {blocks : List Nat}
    (h : s.Hears r d line sof blocks crc ty)
    (hu : ty = 2 ∨ ty = 4 ∨ ty = 7) (hp : (Frame.ofHead sof blocks).pos < s.getF (pgRING r) F.RING_CTRL_NODES)
    (f : State → Frame → State) :
    s.receiveAs r d line ty f =
      f (s.heardUp r (Frame.ofHead sof blocks).pos) (Frame.ofHead sof blocks) := by
  have ht : (Frame.ofHead sof blocks).ty = ty := h.type
  have hp' : ¬ s.getF (pgRING r) F.RING_CTRL_NODES ≤ (Frame.ofHead sof blocks).pos := by omega
  rw [State.receiveAs_frame h]
  rcases hu with rfl | rfl | rfl <;> simp [State.rxEvent, State.receive, h.body, ht, h.count, hp', State.heardUp]

/-! ### Cell nodes -/

/-- A whole frame at a node. -/
theorem lineEvent_frame {sof crc : Nat} {line : List LineBlock} {blocks : List Nat} (hp : line.map plainBlock = frameLine sof blocks crc)
    (hc : crc < 2 ^ 32) (hh : crc8 (natBytes sof 6) = bits sof 48 8) (hl : blocks.length = bits sof 32 4) :
    lineEvent line = some (.frame sof blocks crc) := by
  simp only [lineEvent, hp, rxRun_frame hc hh hl]

/-- A frame that a node hears goes to what takes it. -/
theorem State.nodeTake_frame {s : State} {k sof crc ty : Nat} {line : List LineBlock} {blocks : List Nat}
    (h : s.NodeHears k line sof blocks crc ty) (f : State → Frame → State) :
    s.nodeTake k line ty f = f s (Frame.ofHead sof blocks) := by
  have ht : (Frame.ofHead sof blocks).ty = ty := h.type
  have hm : ¬ ((Frame.ofHead sof blocks).bcast = false ∧
      ((s.node k).assigned = false ∨ (Frame.ofHead sof blocks).pos ≠ (s.node k).pos)) := by
    rcases h.mine with hb | ⟨ha, hp⟩
    · simp [Frame.ofHead, hb]
    · simp [Frame.ofHead, ha, hp]
  unfold State.nodeTake
  rw [lineEvent_frame h.plain h.word h.head h.len]
  simp only [ht, h.body]
  simp only [ne_eq, not_true_eq_false, false_or, Bool.not_eq_true', if_false]
  rw [if_neg hm]

end Sys2Proof.Machine
end

