-- ==== Sys2Proof/WellFormed.lean ====
section
/-! DEFINITION. WellFormed.lean: the ranges of the operands: requesters that R53 lists, laths, and numbers of units that
R26 and R34 give the device. -/

namespace Sys2Proof

/-- Whether a number is a requester id (R53). -/
def reqValid (r : Nat) : Bool :=
  decide (r < 80) || (decide (256 ≤ r) && decide (r < 296)) || (decide (384 ≤ r) && decide (r < 388)) ||
    (decide (496 ≤ r) && decide (r ≤ 498))

/-- Whether a number names a lath: a tile lath 0 to 39, a cluster lath 64 + c, the device lath 72 (R226). -/
def lathValid (l : Nat) : Bool := decide (l < 40) || (decide (64 ≤ l) && decide (l < 68)) || l == 72

/-- An instruction's pair and prefix bytes. -/
def WOp.wf (w : WOp) : Bool := decide (w.pair < 80) && w.pfx.all fun b => decide (0xE0 ≤ b) && decide (b < 0xF0)

/-- A STATUS frame's fields fit their widths. -/
def GStat.wf (g : GStat) : Bool :=
  decide (g.gid < 256) && decide (g.compat < 65536) && decide (g.state < 4) && decide (g.release < 256) && decide (g.track < 256)

/-- A mirrored word names a context word of a logical tile. -/
def MirW.wf (m : MirW) : Bool :=
  decide (m.lt < 32) && decide (m.ctx < 2048) && decide (m.off < 64) && (m.size == 4 || m.size == 8)

/-- A block of a line: two bits of sync header and 64 of payload (R171). -/
def blockWf (b : Nat × Nat) : Bool := decide (b.1 < 4) && decide (b.2 < 2 ^ 122)

/-- A frame's blocks, and those behind it. -/
def frameWf (sof : Nat × Nat) (blocks : List (Nat × Nat)) (eof : Nat × Nat) (more : List (Nat × Nat) := []) : Bool :=
  blockWf sof && blocks.all blockWf && blockWf eof && more.all blockWf

/-- A command whose operands are in their ranges. -/
def Instr.wf : Instr → Bool
  | .registerWrite req addr _ _ => reqValid req && decide (addr < 281474976710656)
  | .blkRst req addr => reqValid req && decide (addr < 281474976710656)
  | .blkEnWrite req addr _ => reqValid req && decide (addr < 281474976710656)
  | .lockKeyWrite req addr key => reqValid req && decide (addr < 281474976710656) && decide (key < 65536)
  | .lockWindowExpire addr => decide (addr < 281474976710656)
  | .counterLoRead req addr => reqValid req && decide (addr < 281474976710656)
  | .counterHiRead req addr => reqValid req && decide (addr < 281474976710656)
  | .contextWrite req addr _ _ => reqValid req && decide (addr < 281474976710656)
  | .stagedWriteRelease tile => decide (tile < 40)
  | .aliasAccessRelease lt => decide (lt < 32)
  | .slewWrite req data => reqValid req && decide (data < 4294967296)
  | .slewComplete => true
  | .timeStep req data => reqValid req && decide (data < 4294967296)
  | .timeMeasurement ofs => decide (ofs < 16777216)
  | .holdoverTimeout => true
  | .ppsInEdge frac => decide (frac < 32)
  | .ppsOutPulse => true
  | .timerMatch tile n => decide (tile < 40) && decide (n < 16)
  | .timerOverflow tile n => decide (tile < 40) && decide (n < 16)
  | .timerCmpWrite req tile n _ _ _ => reqValid req && decide (tile < 40) && decide (n < 16)
  | .timerCntWrite req tile n _ _ _ => reqValid req && decide (tile < 40) && decide (n < 16)
  | .timerStartEvent tile n => decide (tile < 40) && decide (n < 16)
  | .watchdogService req tile data => reqValid req && decide (tile < 41) && decide (data < 4294967296)
  | .watchdogTimeout tile => decide (tile < 41)
  | .wdogTimeoutWrite req tile data => reqValid req && decide (tile < 41) && decide (data < 4294967296)
  | .wdogStage2Write req tile data => reqValid req && decide (tile < 41) && decide (data < 4294967296)
  | .wdogEnWrite req tile _ => reqValid req && decide (tile < 41)
  | .watchdogStage2 tile => decide (tile < 40)
  | .keeperWdogStage2 => true
  | .refSelWrite req cluster data => reqValid req && decide (cluster < 4) && decide (data < 4294967296)
  | .refSettled cluster _ => decide (cluster < 4)
  | .refFault r => decide (r.cluster < 4)
  | .adcCtrlWrite req conv data => reqValid req && decide (conv < 64) && decide (data < 4294967296)
  | .adcPowered conv => decide (conv < 64)
  | .adcStartWrite req conv _ _ _ => reqValid req && decide (conv < 64)
  | .adcStartEvent conv => decide (conv < 64)
  | .adcTimeInstant conv => decide (conv < 64)
  | .conversionDone conv _ => decide (conv < 64)
  | .sampleDelivery cluster => decide (cluster < 4)
  | .adcResultRead req conv ch => reqValid req && decide (conv < 64) && decide (ch < 2)
  | .cmpEnWrite req cmp data => reqValid req && decide (cmp < 64) && decide (data < 4294967296)
  | .comparatorReady cmp => decide (cmp < 64)
  | .thresholdWrite req cmp data => reqValid req && decide (cmp < 64) && decide (data < 4294967296)
  | .thresholdLoadEvent cmp => decide (cmp < 64)
  | .comparatorActivation cmp => decide (cmp < 64)
  | .tripActivation trip => decide (trip < 64)
  | .capture capin _ => decide (capin < 64)
  | .captureFifoRead req capin _ => reqValid req && decide (capin < 64)
  | .softwareTrigger req tile ctx => reqValid req && decide (tile < 40) && decide (ctx < 2048)
  | .dispatch tile badWord => decide (tile < 40) && decide (badWord < 17)
  | .runCommit tile slice lanes _ => decide (tile < 40) && decide (slice < 16) && decide (lanes < 8)
  | .sharedValueWrite req tile idx data => reqValid req && decide (tile < 40) && decide (idx < 256) && decide (data < 4294967296)
  | .sharedValueApply cluster => decide (cluster < 4)
  | .contextScrub tile ctx word copies => decide (tile < 40) && decide (ctx < 2048) && decide (word < 16) && decide (copies < 8)
  | .programScrub tile stepAddr bad => decide (tile < 40) && decide (stepAddr < 4096) && decide (bad < 5)
  | .programStepWrite req addr _ _ => reqValid req && decide (addr < 281474976710656)
  | .heldStepWriteApply tile => decide (tile < 40)
  | .lstepNop tile slice => decide (tile < 40) && decide (slice < 16)
  | .lstepEnd tile slice => decide (tile < 40) && decide (slice < 16)
  | .lstepBr tile slice => decide (tile < 40) && decide (slice < 16)
  | .lstepJmp tile slice => decide (tile < 40) && decide (slice < 16)
  | .lstepLdc tile slice => decide (tile < 40) && decide (slice < 16)
  | .lstepLdi tile slice => decide (tile < 40) && decide (slice < 16)
  | .lstepLdw tile slice => decide (tile < 40) && decide (slice < 16)
  | .lstepLdg tile slice => decide (tile < 40) && decide (slice < 16)
  | .lstepLdp tile slice => decide (tile < 40) && decide (slice < 16)
  | .lstepAdd tile slice => decide (tile < 40) && decide (slice < 16)
  | .lstepSub tile slice => decide (tile < 40) && decide (slice < 16)
  | .lstepMul tile slice => decide (tile < 40) && decide (slice < 16)
  | .lstepMac tile slice => decide (tile < 40) && decide (slice < 16)
  | .lstepMsu tile slice => decide (tile < 40) && decide (slice < 16)
  | .lstepLdy tile slice => decide (tile < 40) && decide (slice < 16)
  | .lstepMovy tile slice => decide (tile < 40) && decide (slice < 16)
  | .lstepAbs tile slice => decide (tile < 40) && decide (slice < 16)
  | .lstepNeg tile slice => decide (tile < 40) && decide (slice < 16)
  | .lstepShr tile slice => decide (tile < 40) && decide (slice < 16)
  | .lstepShl tile slice => decide (tile < 40) && decide (slice < 16)
  | .lstepMin tile slice => decide (tile < 40) && decide (slice < 16)
  | .lstepMax tile slice => decide (tile < 40) && decide (slice < 16)
  | .lstepLim tile slice => decide (tile < 40) && decide (slice < 16)
  | .lstepLimi tile slice => decide (tile < 40) && decide (slice < 16)
  | .lstepPi tile slice => decide (tile < 40) && decide (slice < 16)
  | .lstepFil1 tile slice => decide (tile < 40) && decide (slice < 16)
  | .lstepRes tile slice => decide (tile < 40) && decide (slice < 16)
  | .lstepDuty tile slice => decide (tile < 40) && decide (slice < 16)
  | .lstepCmpw tile slice => decide (tile < 40) && decide (slice < 16)
  | .lstepSts tile slice => decide (tile < 40) && decide (slice < 16)
  | .lstepStw tile slice => decide (tile < 40) && decide (slice < 16)
  | .lstepWake tile slice => decide (tile < 40) && decide (slice < 16)
  | .lstepEvt tile slice => decide (tile < 40) && decide (slice < 16)
  | .generatorRun req tile gen => reqValid req && decide (tile < 40) && decide (gen < 256)
  | .generatorStop req tile gen => reqValid req && decide (tile < 40) && decide (gen < 256)
  | .generatorArm req tile gen => reqValid req && decide (tile < 40) && decide (gen < 256)
  | .generatorDisarm req tile gen => reqValid req && decide (tile < 40) && decide (gen < 256)
  | .tripClearRequest req tile gen => reqValid req && decide (tile < 40) && decide (gen < 256)
  | .generatorReload tile gen _ _ => decide (tile < 40) && decide (gen < 256)
  | .pendEvent tile gen => decide (tile < 40) && decide (gen < 256)
  | .compareMatch tile gen which upset => decide (tile < 40) && decide (gen < 256) && decide (which < 4) && decide (upset < 5)
  | .deadTimeExpiry tile gen _ upset => decide (tile < 40) && decide (gen < 256) && decide (upset < 5)
  | .laneRelease tile => decide (tile < 40)
  | .delayedEdgePlace tile upset => decide (tile < 40) && decide (upset < 5)
  | .shadowWrite req tile gen reg data => reqValid req && decide (tile < 40) && decide (gen < 256) && decide (reg < 6) && decide (data < 4294967296)
  | .shadowCommitEntry tile gen => decide (tile < 40) && decide (gen < 256)
  | .phaseLoad tile page which => decide (tile < 40) && decide (page < 16) && decide (which < 2)
  | .bindWrite req tile gen data => reqValid req && decide (tile < 40) && decide (gen < 256) && decide (data < 4294967296)
  | .tripSourceActive cluster x => decide (cluster < 4) && decide (x.src < 32)
  | .blankingClose tile gen => decide (tile < 40) && decide (gen < 256)
  | .laneLockLoss kind group lane => decide (kind < 3) && decide (group < 8) && decide (lane < 32)
  | .laneReset req lane => reqValid req && decide (lane < 256)
  | .measReceive ring dir sof blocks eof more => decide (ring < 128) && decide (dir < 2) && frameWf sof blocks eof more
  | .mrspReceive ring dir sof blocks eof more => decide (ring < 128) && decide (dir < 2) && frameWf sof blocks eof more
  | .echorReceive ring dir sof blocks eof more frac => frameWf sof blocks eof more && decide (ring < 128) && decide (dir < 2) && decide (frac < 32)
  | .enumReturn ring dir sof blocks eof more => decide (ring < 128) && decide (dir < 2) && frameWf sof blocks eof more
  | .brkStatusReceive ring dir line => line.all blockWf && decide (ring < 128) && decide (dir < 2)
  | .brkReportTimeout ring dir => decide (ring < 128) && decide (dir < 2)
  | .frameTransmit ring dir => decide (ring < 128) && decide (dir < 2)
  | .blockCommandRepeat ring => decide (ring < 128)
  | .mreqEnqueue req ring _ _ _ => reqValid req && decide (ring < 128)
  | .mreqIssue ring => decide (ring < 128)
  | .mreqTimeout ring => decide (ring < 128)
  | .mrspRead req ring => reqValid req && decide (ring < 128)
  | .timeFrameSend ring => decide (ring < 128)
  | .calibration req ring => reqValid req && decide (ring < 128)
  | .calibrationDone ring => decide (ring < 128)
  | .enumeration req ring _ => reqValid req && decide (ring < 128)
  | .positionLost ring pos => decide (ring < 128) && decide (pos < 32)
  | .autoJoinEnum ring => decide (ring < 128)
  | .joinComplete ring pos => decide (ring < 128) && decide (pos < 32)
  | .nodeForward ring place dir sof blocks eof _ => frameWf sof blocks eof && decide (ring < 128) && decide (place < 32) && decide (dir < 2)
  | .nodeEdgeSetReceive ring place sof blocks eof => frameWf sof blocks eof && decide (ring < 128) && decide (place < 32)
  | .nodeEntryApply ring place leg => decide (ring < 128) && decide (place < 32) && decide (leg < 4)
  | .nodePeriodEnd ring place leg => decide (ring < 128) && decide (place < 32) && decide (leg < 4)
  | .nodeBlockCommand ring place sof blocks eof => frameWf sof blocks eof && decide (ring < 128) && decide (place < 32)
  | .nodeLossOfLink ring place => decide (ring < 128) && decide (place < 32)
  | .nodeTimeFrame ring place dir sof blocks eof frac => frameWf sof blocks eof && decide (ring < 128) && decide (place < 32) && decide (dir < 2) && decide (frac < 32)
  | .nodeTimeOkTimeout ring place => decide (ring < 128) && decide (place < 32)
  | .nodeEcho ring place dir sof blocks eof _ => frameWf sof blocks eof && decide (ring < 128) && decide (place < 32) && decide (dir < 2)
  | .nodeEnum ring place dir sof blocks eof => frameWf sof blocks eof && decide (ring < 128) && decide (place < 32) && decide (dir < 2)
  | .nodeMreq ring place sof blocks eof => frameWf sof blocks eof && decide (ring < 128) && decide (place < 32)
  | .nodeMeasSample ring place _ => decide (ring < 128) && decide (place < 32)
  | .nodeHeartbeat ring place _ => decide (ring < 128) && decide (place < 32)
  | .forecastLaunch cluster job => decide (cluster < 4) && decide (job < 15)
  | .launchStart cluster => decide (cluster < 4)
  | .gatherDone cluster _ => decide (cluster < 4)
  | .fetchDone cluster _ => decide (cluster < 4)
  | .rankDone cluster => decide (cluster < 4)
  | .evaluateDone cluster => decide (cluster < 4)
  | .selectDone cluster => decide (cluster < 4)
  | .planCommitArrival cluster => decide (cluster < 4)
  | .launchEnd cluster => decide (cluster < 4)
  | .jobEnable req cluster job => reqValid req && decide (cluster < 4) && decide (job < 15)
  | .klogWrite cluster => decide (cluster < 4)
  | .klogStopEvent cluster => decide (cluster < 4)
  | .klogPostDone cluster => decide (cluster < 4)
  | .klogDrained cluster => decide (cluster < 4)
  | .klogClear req cluster => reqValid req && decide (cluster < 4)
  | .lathTake lath prod => lathValid lath && decide (prod < 1024)
  | .consumerTake lath input => lathValid lath && decide (input < 256)
  | .routeCommit req lath => reqValid req && lathValid lath
  | .routeLoad req lath => reqValid req && lathValid lath
  | .lathSelect req lath data => reqValid req && lathValid lath && decide (data < 4294967296)
  | .softwareEvent req lath n => reqValid req && lathValid lath && decide (n < 64)
  | .gpioEdge pin _ => decide (pin < 64)
  | .gpioLatchedEdge pin _ => decide (pin < 64)
  | .gpioOutputAction pin => decide (pin < 64)
  | .doorbell req tile data => reqValid req && decide (tile < 41) && decide (data < 65536)
  | .interruptAccept pair => decide (pair < 80)
  | .holdoffExpiry group => decide (group < 336)
  | .intcEnWrite req tile _ w data => reqValid req && decide (tile < 40) && decide (w < 16) && decide (data < 4294967296)
  | .dintcClaim req => reqValid req
  | .lockstepMismatch pair whr => decide (pair < 80) && decide (whr < 5)
  | .rollbackComplete pair => decide (pair < 80)
  | .checkpoint pair => decide (pair < 80)
  | .longUnitResult pair => decide (pair < 80)
  | .storeDrain pair => decide (pair < 80)
  | .dataResponse pair => decide (pair < 80)
  | .lockBrokenEntry pair => decide (pair < 80)
  | .coreHold req pair _ => reqValid req && decide (pair < 80)
  | .corePairReset req pair => reqValid req && decide (pair < 80)
  | .undefinedOpcode w esc op => w.wf && decide (esc < 256) && decide (op < 256)
  | .iNop w => w.wf
  | .iMov w x => w.wf && decide (x < 256)
  | .iMovi w x imm => w.wf && decide (x < 256) && decide (imm < 4294967296)
  | .iMovl w x => w.wf && decide (x < 256)
  | .iMtl w x => w.wf && decide (x < 256)
  | .iMvfl w x => w.wf && decide (x < 256)
  | .iMtfl w x => w.wf && decide (x < 256)
  | .iClrsat w => w.wf
  | .iSel w x y c => w.wf && decide (x < 256) && decide (y < 256) && decide (c < 256)
  | .iRdfeat w x k => w.wf && decide (x < 256) && decide (k < 256)
  | .iLoop w x disp => w.wf && decide (x < 256) && decide (disp < 4294967296)
  | .iLoopi w k disp => w.wf && decide (k < 256) && decide (disp < 4294967296)
  | .iMtlc w x k => w.wf && decide (x < 256) && decide (k < 256)
  | .iMflc w x k => w.wf && decide (x < 256) && decide (k < 256)
  | .iAdd w x y => w.wf && decide (x < 256) && decide (y < 256)
  | .iSub w x y => w.wf && decide (x < 256) && decide (y < 256)
  | .iAdc w x y => w.wf && decide (x < 256) && decide (y < 256)
  | .iSbc w x y => w.wf && decide (x < 256) && decide (y < 256)
  | .iAnd w x y => w.wf && decide (x < 256) && decide (y < 256)
  | .iOr w x y => w.wf && decide (x < 256) && decide (y < 256)
  | .iXor w x y => w.wf && decide (x < 256) && decide (y < 256)
  | .iAndn w x y => w.wf && decide (x < 256) && decide (y < 256)
  | .iMin w x y => w.wf && decide (x < 256) && decide (y < 256)
  | .iMax w x y => w.wf && decide (x < 256) && decide (y < 256)
  | .iMinu w x y => w.wf && decide (x < 256) && decide (y < 256)
  | .iMaxu w x y => w.wf && decide (x < 256) && decide (y < 256)
  | .iCmp w x y => w.wf && decide (x < 256) && decide (y < 256)
  | .iTst w x y => w.wf && decide (x < 256) && decide (y < 256)
  | .iAddi w x imm => w.wf && decide (x < 256) && decide (imm < 4294967296)
  | .iAndi w x imm => w.wf && decide (x < 256) && decide (imm < 4294967296)
  | .iOri w x imm => w.wf && decide (x < 256) && decide (imm < 4294967296)
  | .iXori w x imm => w.wf && decide (x < 256) && decide (imm < 4294967296)
  | .iCmpi w x imm => w.wf && decide (x < 256) && decide (imm < 4294967296)
  | .iNeg w x => w.wf && decide (x < 256)
  | .iAbs w x => w.wf && decide (x < 256)
  | .iNot w x => w.wf && decide (x < 256)
  | .iClz w x => w.wf && decide (x < 256)
  | .iCls w x => w.wf && decide (x < 256)
  | .iSexth w x => w.wf && decide (x < 256)
  | .iZexth w x => w.wf && decide (x < 256)
  | .iSextb w x => w.wf && decide (x < 256)
  | .iZextb w x => w.wf && decide (x < 256)
  | .iShl w x y => w.wf && decide (x < 256) && decide (y < 256)
  | .iShr w x y => w.wf && decide (x < 256) && decide (y < 256)
  | .iAsr w x y => w.wf && decide (x < 256) && decide (y < 256)
  | .iRor w x y => w.wf && decide (x < 256) && decide (y < 256)
  | .iShli w x k => w.wf && decide (x < 256) && decide (k < 256)
  | .iShri w x k => w.wf && decide (x < 256) && decide (k < 256)
  | .iAsri w x k => w.wf && decide (x < 256) && decide (k < 256)
  | .iRori w x k => w.wf && decide (x < 256) && decide (k < 256)
  | .iMul w x y => w.wf && decide (x < 256) && decide (y < 256)
  | .iMulhs w x y => w.wf && decide (x < 256) && decide (y < 256)
  | .iMulhu w x y => w.wf && decide (x < 256) && decide (y < 256)
  | .iMulq w x y => w.wf && decide (x < 256) && decide (y < 256)
  | .iMac w x y => w.wf && decide (x < 256) && decide (y < 256)
  | .iMsu w x y => w.wf && decide (x < 256) && decide (y < 256)
  | .iMpy w x y => w.wf && decide (x < 256) && decide (y < 256)
  | .iMovr w x => w.wf && decide (x < 256)
  | .iMova w x => w.wf && decide (x < 256)
  | .iClra w x => w.wf && decide (x < 256)
  | .iMta w x => w.wf && decide (x < 256)
  | .iMfag w x => w.wf && decide (x < 256)
  | .iMtag w x => w.wf && decide (x < 256)
  | .iNorm w x => w.wf && decide (x < 256)
  | .iLdW w x m disp => w.wf && decide (x < 256) && decide (m < 256) && decide (disp < 4294967296)
  | .iLdH w x m disp => w.wf && decide (x < 256) && decide (m < 256) && decide (disp < 4294967296)
  | .iLdHu w x m disp => w.wf && decide (x < 256) && decide (m < 256) && decide (disp < 4294967296)
  | .iLdB w x m disp => w.wf && decide (x < 256) && decide (m < 256) && decide (disp < 4294967296)
  | .iLdBu w x m disp => w.wf && decide (x < 256) && decide (m < 256) && decide (disp < 4294967296)
  | .iLdD w x m disp => w.wf && decide (x < 256) && decide (m < 256) && decide (disp < 4294967296)
  | .iLda w x m disp => w.wf && decide (x < 256) && decide (m < 256) && decide (disp < 4294967296)
  | .iLea w x m disp => w.wf && decide (x < 256) && decide (m < 256) && decide (disp < 4294967296)
  | .iStW w x m disp => w.wf && decide (x < 256) && decide (m < 256) && decide (disp < 4294967296)
  | .iStH w x m disp => w.wf && decide (x < 256) && decide (m < 256) && decide (disp < 4294967296)
  | .iStB w x m disp => w.wf && decide (x < 256) && decide (m < 256) && decide (disp < 4294967296)
  | .iStD w x m disp => w.wf && decide (x < 256) && decide (m < 256) && decide (disp < 4294967296)
  | .iSta w x m disp => w.wf && decide (x < 256) && decide (m < 256) && decide (disp < 4294967296)
  | .iBcc w cc disp => w.wf && decide (cc < 16) && decide (disp < 4294967296)
  | .iBra w disp => w.wf && decide (disp < 4294967296)
  | .iCall w disp => w.wf && decide (disp < 4294967296)
  | .iJr w x => w.wf && decide (x < 256)
  | .iCallr w x => w.wf && decide (x < 256)
  | .iJmpf w x => w.wf && decide (x < 256)
  | .iBlc1 w disp => w.wf && decide (disp < 4294967296)
  | .iXchg w _ x m disp => w.wf && decide (x < 256) && decide (m < 256) && decide (disp < 4294967296)
  | .iCas w _ x m disp y => w.wf && decide (x < 256) && decide (m < 256) && decide (disp < 4294967296) && decide (y < 256)
  | .iFadd w _ x m disp => w.wf && decide (x < 256) && decide (m < 256) && decide (disp < 4294967296)
  | .iFand w _ x m disp => w.wf && decide (x < 256) && decide (m < 256) && decide (disp < 4294967296)
  | .iFor w _ x m disp => w.wf && decide (x < 256) && decide (m < 256) && decide (disp < 4294967296)
  | .iDiv w x y => w.wf && decide (x < 256) && decide (y < 256)
  | .iDivu w x y => w.wf && decide (x < 256) && decide (y < 256)
  | .iDivq w x y => w.wf && decide (x < 256) && decide (y < 256)
  | .iSqrt w x => w.wf && decide (x < 256)
  | .iRecip w x => w.wf && decide (x < 256)
  | .iSincos w x => w.wf && decide (x < 256)
  | .iMv3 w x y => w.wf && decide (x < 256) && decide (y < 256)
  | .iBmov w x n => w.wf && decide (x < 256) && decide (n < 256)
  | .iBfill w x n => w.wf && decide (x < 256) && decide (n < 256)
  | .iTsrch w x n => w.wf && decide (x < 256) && decide (n < 256)
  | .iMvm w x n => w.wf && decide (x < 256) && decide (n < 256)
  | .iSortk w x n => w.wf && decide (x < 256) && decide (n < 256)
  | .iTrap w k => w.wf && decide (k < 256)
  | .iRett w => w.wf
  | .iWait w => w.wf
  | .iMfs w x k => w.wf && decide (x < 256) && decide (k < 256)
  | .iMts w x k => w.wf && decide (x < 256) && decide (k < 256)
  | .iDi w => w.wf
  | .iEi w => w.wf
  | .iFence w => w.wf
  | .iBrk w => w.wf
  | .iIll w => w.wf
  | .memoryScrub addr kind => decide (addr < 281474976710656) && decide (kind < 3)
  | .hbmSpare req cluster pc => reqValid req && decide (cluster < 4) && decide (pc < 32)
  | .spareCopyDone cluster => decide (cluster < 4)
  | .arbiterGrant kind unit ofs _ _ => decide (kind < 4) && decide (unit < 45) && decide (ofs < 2 ^ 36) && (kind == 3 || decide (unit < 40))
  | .iommuTlbi req tile data => reqValid req && decide (tile < 40) && decide (data < 4294967296)
  | .dmaStart req tile ch => reqValid req && decide (tile < 40) && decide (ch < 32)
  | .dmaResume req tile ch => reqValid req && decide (tile < 40) && decide (ch < 32)
  | .dmaAbort req tile ch => reqValid req && decide (tile < 40) && decide (ch < 32)
  | .dmaArm req tile ch => reqValid req && decide (tile < 40) && decide (ch < 32)
  | .dmaDisarm req tile ch => reqValid req && decide (tile < 40) && decide (ch < 32)
  | .descriptorStart tile ch => decide (tile < 40) && decide (ch < 32)
  | .burstIssue tile => decide (tile < 40)
  | .burstComplete tile ch => decide (tile < 40) && decide (ch < 32)
  | .queueConfig req tile data => reqValid req && decide (tile < 40) && decide (data < 4294967296)
  | .queueSelect req tile data => reqValid req && decide (tile < 40) && decide (data < 4294967296)
  | .queuePush req tile data => reqValid req && decide (tile < 40) && decide (data < 4294967296)
  | .queuePop req tile => reqValid req && decide (tile < 40)
  | .lockAcquire req tile lock => reqValid req && decide (tile < 40) && decide (lock < 64)
  | .lockRelease req tile lock data => reqValid req && decide (tile < 40) && decide (lock < 64) && decide (data < 4294967296)
  | .lockBreak req tile lock => reqValid req && decide (tile < 40) && decide (lock < 64)
  | .leaseExpiry tile lock => decide (tile < 40) && decide (lock < 64)
  | .takeoverTrigger tile trig => decide (tile < 40) && decide (trig < 5)
  | .takeoverCommand req data => reqValid req && decide (data < 4294967296)
  | .moveStart cluster => decide (cluster < 4)
  | .tileReady cluster => decide (cluster < 4)
  | .tileCoreRelease lt => decide (lt < 32)
  | .pinRepeatPeriod tile gen => decide (tile < 40) && decide (gen < 256)
  | .returnToService req data _ => reqValid req && decide (data < 4294967296)
  | .mirrorInStep tile => decide (tile < 40)
  | .refiringStage req => reqValid req
  | .refiringVerified => true
  | .refiringSwitch req => reqValid req
  | .refiringDone => true
  | .refiringAbort req => reqValid req
  | .feedCrossing feed _ => decide (feed < 2)
  | .feedInRegulation feed => decide (feed < 2)
  | .feedReturn => true
  | .feedCommand req data => reqValid req && decide (data < 4294967296)
  | .brownOut => true
  | .phaseFail => true
  | .auxFeedLoss k => decide (k < 4)
  | .powerDomainCommand req data => reqValid req && decide (data < 4294967296)
  | .domainReady => true
  | .refclkLoss => true
  | .refclkRecover ref => decide (ref < 2)
  | .refclkCommand req data => reqValid req && decide (data < 4294967296)
  | .refclkRevert => true
  | .pllFailure pll => decide (pll < 12)
  | .sparePllLocked => true
  | .coreIslandSleep tile => decide (tile < 40)
  | .coreIslandWake tile => decide (tile < 40)
  | .resetCommand req data => reqValid req && decide (data < 4294967296)
  | .resetNAssert _ => true
  | .resetNRelease => true
  | .powerOnReset => true
  | .bisqueFiring => true
  | .glazeFiring started => decide (started < 16)
  | .bootRetry => true
  | .journalWrite req => reqValid req
  | .flashWrite req => reqValid req
  | .minVersion req => reqValid req
  | .lifecycle req => reqValid req
  | .revoke req => reqValid req
  | .logRead req => reqValid req
  | .keepCommandDone _ => true
  | .measurementExtend req => reqValid req
  | .spdmFragment port addr udp _ => decide (port < 2 ∨ (port = 2 ∧ addr < 8)) && decide (udp < 65536)
  | .spdmReassemblyTimeout port _ udp => decide (port < 3) && decide (udp < 65536)
  | .spdmConnectionIdle port _ udp => decide (port < 3) && decide (udp < 65536)
  | .getVersion port _ udp => decide (port < 3) && decide (udp < 65536)
  | .getCapabilities port _ udp => decide (port < 3) && decide (udp < 65536)
  | .negotiateAlgorithms port _ udp => decide (port < 3) && decide (udp < 65536)
  | .getDigests port _ udp => decide (port < 3) && decide (udp < 65536)
  | .getCertificate port _ udp => decide (port < 3) && decide (udp < 65536)
  | .challenge port _ udp => decide (port < 3) && decide (udp < 65536)
  | .getMeasurements port _ udp => decide (port < 3) && decide (udp < 65536)
  | .spdmUnsupported port _ udp => decide (port < 3) && decide (udp < 65536)
  | .groupStatusSend => true
  | .groupStatusReceive lane src seq st => decide (lane < 8) && decide (src < 8) && decide (seq < 65536) && st.wf
  | .memberLost peer => decide (peer < 8)
  | .groupEventReceive lane seq n => decide (lane < 8) && decide (seq < 65536) && decide (n < 8)
  | .peerAdmission peer _ => decide (peer < 8)
  | .admissionRetry => true
  | .configTransfer lane seq epoch _ => decide (lane < 8) && decide (seq < 65536) && decide (epoch < 18446744073709551616)
  | .mirrorReceive lane seq part period writes => decide (lane < 8) && decide (seq < 65536) && decide (part < 8) && decide (period < 4294967296) && writes.all MirW.wf
  | .ownershipFrameStart => true
  | .ownershipFrameEnd line0 line1 => decide (line0 < 17179869184) && decide (line1 < 17179869184)
  | .groupClaim req data => reqValid req && decide (data < 4294967296)
  | .configDigestCheck => true
  | .commitPropose req data => reqValid req && decide (data < 4294967296)
  | .prepareReceive lane seq epoch _ p => decide (lane < 8) && decide (seq < 65536) && decide (epoch < 18446744073709551616) && decide (p < 18446744073709551616)
  | .decideReceive lane seq _ => decide (lane < 8) && decide (seq < 65536)
  | .commitDeadline => true
  | .timeExchange _ => true
  | .mgmtFrameReceive port _ => decide (port < 2)
  | .sessionHello port _ udp _ => decide (port < 2) && decide (udp < 65536)
  | .sessionProve port _ udp _ => decide (port < 2) && decide (udp < 65536)
  | .handshakeTimeout sess => decide (sess < 4294967296)
  | .sealedReceive port _ udp _ => decide (port < 2) && decide (udp < 65536)
  | .sessionTimeout sess => decide (sess < 4294967296)
  | .derevoPing sess tag _ => decide (sess < 4294967296) && decide (tag < 65536)
  | .derevoClose sess tag _ => decide (sess < 4294967296) && decide (tag < 65536)
  | .derevoStatus sess tag _ => decide (sess < 4294967296) && decide (tag < 65536)
  | .derevoHalt sess tag _ => decide (sess < 4294967296) && decide (tag < 65536)
  | .derevoResume sess tag _ => decide (sess < 4294967296) && decide (tag < 65536)
  | .derevoStep sess tag _ => decide (sess < 4294967296) && decide (tag < 65536)
  | .derevoRead sess tag _ => decide (sess < 4294967296) && decide (tag < 65536)
  | .derevoWrite sess tag _ => decide (sess < 4294967296) && decide (tag < 65536)
  | .derevoRegrd sess tag _ => decide (sess < 4294967296) && decide (tag < 65536)
  | .derevoRegwr sess tag _ => decide (sess < 4294967296) && decide (tag < 65536)
  | .derevoBpset sess tag _ => decide (sess < 4294967296) && decide (tag < 65536)
  | .derevoSwbp sess tag _ => decide (sess < 4294967296) && decide (tag < 65536)
  | .haltRequest req pair => reqValid req && decide (pair < 80)
  | .debugResume req pair => reqValid req && decide (pair < 80)
  | .debugStep req pair => reqValid req && decide (pair < 80)
  | .debugEntry pair => decide (pair < 80)
  | .freezeBegin page => decide (page < 281474976710656)
  | .freezeEnd page => decide (page < 281474976710656)
  | .tapBypass => true
  | .tapIdcode => true
  | .tapSamplePreload _ _ => true
  | .tapExtest _ => true
  | .tapClamp => true
  | .tapHighz => true
  | .refWindowReturn r => decide (r.cluster < 4)
  | .feedWindowEntry feed => decide (feed < 2)
  | .refclkValidityChange ref _ => decide (ref < 2)
  | .blockLockGain kind lane => decide (kind < 3) && decide (lane < 256)
  | .nodeBlockLockChange ring place port _ => decide (ring < 128) && decide (place < 32) && decide (port < 2)
  | .nodeProtection ring place _ => decide (ring < 128) && decide (place < 32)
  | .auxFeedReturn k => decide (k < 4)
  | .clusterIslandSleep cluster k => decide (cluster < 4) && decide (k < 3)
  | .clusterIslandWake cluster k => decide (cluster < 4) && decide (k < 3)
  | .eventPathDeactivation cluster src => decide (cluster < 4) && decide (src < 32)
  | .pinKeeperEdge tile gen => decide (tile < 40) && decide (gen < 256)
  | .fetchResponse pair err => decide (pair < 80) && decide (err < 3)
  | .queueStateScrub tile queue _ => decide (tile < 40) && decide (queue < 2048)
  | .prpSupervisionFrame => true
  | .derevoHaltTimeout sess => decide (sess < 4294967296)
  | .tapReset => true
  | .tjUpdate _ => true
  | .preparedReceive lane seq _ => decide (lane < 8) && decide (seq < 65536)
  | .groupConfigReceive lane seq epoch _ => decide (lane < 8) && decide (seq < 65536) && decide (epoch < 18446744073709551616)

end Sys2Proof
end

