-- ==== Sys2Proof/Tests/Slice0.lean ====
section
/-! SUPPORT. Tests/Slice0.lean: operands that are refused, small checks of one command each with results from the manual, and for
every statement of Obligations.lean a state and operands that meet the hypotheses of its clauses. -/

namespace Sys2Proof.Tests
open Sys2Proof.Machine

set_option maxRecDepth 100000

/-! ### States -/

/-- Every power domain is on and out of reset, and RESET_N is high. -/
def live : State :=
  let s := (List.range 4).foldl (fun (s : State) k => s.setF pgPWRD (F.PWRD_ON_ON k) (2 ^ 32 - 1)) State.reset
  { s with pwr.ready := List.range 128, pwr.resetN := true, time.runs := true }

/-- The lock of a page is open for a requester. -/
def unlocked (s : State) (p : Page) (req : Nat := 0) : State :=
  { s with bus.locks := SMap.put s.bus.locks p.base { win := some (req, s.cycle p.island) }, tick := s.tick + 80 }

/-- An island has a cycle in every 80 ticks, and no more than one in a tick. -/
theorem islandRate_bounds (i : Nat) :
    0 < (islandRate i).2 ∧ (islandRate i).1 ≤ (islandRate i).2 ∧ (islandRate i).2 ≤ 80 * (islandRate i).1 := by
  unfold islandRate
  split
  · split <;> decide
  · split
    · split <;> decide
    · split <;> decide

/-- The window is open, whatever the phase of the page's island. -/
theorem unlocked_open (s : State) (p : Page) (req : Nat := 0) : (unlocked s p req).lockOpen p req = true := by
  have h : (unlocked s p req).lockSt p.base = { win := some (req, s.cycle p.island) } := by
    simp only [unlocked, State.lockSt, SMap.getD, SMap.get?_put_same, Option.getD_some]
  have hc : 1 ≤ (unlocked s p req).cycle p.island - s.cycle p.island ∧ (unlocked s p req).cycle p.island - s.cycle p.island ≤ 256 := by
    obtain ⟨h0, h1, h2⟩ := islandRate_bounds p.island
    simp only [unlocked, State.cycle]
    generalize islandShift p.island = c
    generalize (islandRate p.island).1 = a at *
    generalize (islandRate p.island).2 = b at *
    have e : (s.tick + 80) * a + c = s.tick * a + c + 80 * a := by rw [Nat.add_mul]; omega
    have l : (s.tick * a + c) / b + 1 ≤ ((s.tick + 80) * a + c) / b := by
      rw [e, ← Nat.add_div_right _ h0]
      exact Nat.div_le_div_right (by omega)
    have u : ((s.tick + 80) * a + c) / b ≤ (s.tick * a + c) / b + 80 := by
      rw [e, ← Nat.add_mul_div_right _ _ h0]
      exact Nat.div_le_div_right (by have := Nat.mul_le_mul_left 80 h1; omega)
    omega
  have hn : ¬(unlocked s p req).cycle p.island ≤ s.cycle p.island := by omega
  simp only [State.lockOpen, State.window, h, if_neg hn, openIn, if_pos hc, beq_self_eq_true]

theorem wrOf_unlocked (s : State) (p : Page) (req data : Nat) : (unlocked s p req).wrOf p req data = ⟨req, 4, data, true⟩ := by
  simp only [State.wrOf, unlocked_open]

/-- What State.Reaches asks for, as a truth value. -/
def reachesB (s : State) (p : Page) (off : Nat) (a : Access) : Bool :=
  (match target s.phys a.addr with
    | .page q o => q == p && o == off
    | _ => false) && s.targetOn (.page p off) && !privileged (.page p off) a && !s.roleRefuses (.page p off) a && s.pageReady p &&
    (match aliasOf a.addr with
      | some lt => !s.moving lt
      | none => true) && !s.isleStopped p.island && !s.waitsAt (.page p off) a

theorem reaches_of {s : State} {p : Page} {off : Nat} {a : Access} (h : reachesB s p off a = true) : s.Reaches p off a := by
  simp only [reachesB, Bool.and_eq_true, Bool.not_eq_true'] at h
  obtain ⟨⟨⟨⟨⟨⟨⟨h1, h2⟩, h3⟩, h4⟩, h5⟩, h6⟩, h7⟩, h8⟩ := h
  refine ⟨⟨?_, h2, h3, h4, ?_, ?_, h8⟩, h5⟩
  · split at h1
    · rename_i e
      simp only [Bool.and_eq_true, beq_iff_eq] at h1
      rw [e, h1.1, h1.2]
    · cases h1
  · intro lt e
    rw [e] at h6
    simpa using h6
  · intro i e
    cases e
    exact h7

theorem writes_of {s : State} {p : Page} {off req data : Nat}
    (h : (reachesB s p off ⟨req, p.base + off, 4, true, data⟩ && decide (data < 2 ^ 32) && !s.wordUnder p off 4 req) = true) :
    s.Writes p off req data := by
  simp only [Bool.and_eq_true, decide_eq_true_eq, Bool.not_eq_true'] at h
  exact ⟨reaches_of h.1.1, h.1.2, h.2⟩

/-- What State.Issues asks for, as a truth value. -/
def issuesB (s : State) (w : WOp) (o : IOp) : Bool :=
  s.pairRuns w.pair && decide ((s.pair w.pair).unb = none) && !s.issueWaits w o && decide (s.bpMet w.pair = none) && decide ((s.fetched w o).2 = none) &&
    !((s.fetched w o).1.pair w.pair).stepping && decide (((s.fetched w o).1.pair w.pair).dbgDue = none) &&
    legalAt o w ((s.toIssue w o).pair w.pair).r && !forbidden o w ((s.toIssue w o).pair w.pair).r.mode

theorem issues_of {s : State} {w : WOp} {o : IOp} (h : issuesB s w o = true) : s.Issues w o := by
  simp only [issuesB, Bool.and_eq_true, Bool.not_eq_true', decide_eq_true_eq] at h
  obtain ⟨⟨⟨⟨⟨⟨⟨⟨h1, h2⟩, h0⟩, h3⟩, h4⟩, h5⟩, h6⟩, h7⟩, h8⟩ := h
  exact ⟨⟨h1, h2, h0, h3, h4, h5, h6⟩, h7, h8⟩

/-! ### Operands out of their ranges: one for each check of WellFormed.lean, and the same commands with operands in range -/

theorem test_wf_refuses_1 : (
   [.registerWrite 80 0 0 0, .registerWrite 255 0 0 0, .registerWrite 296 0 0 0, .registerWrite 388 0 0 0,
    .registerWrite 495 0 0 0, .registerWrite 499 0 0 0, .registerWrite 0 281474976710656 0 0, .lockKeyWrite 0 0 65536,
    .stagedWriteRelease 40, .aliasAccessRelease 32, .slewWrite 0 4294967296, .timeMeasurement 16777216, .ppsInEdge 32,
    .timerMatch 0 16, .watchdogService 0 41 0, .refSelWrite 0 4 0, .adcCtrlWrite 0 64 0, .conversionDone 64 ⟨0, 0⟩,
    .adcResultRead 0 0 2, .cmpEnWrite 0 64 0, .tripActivation 64, .capture 64 false, .softwareTrigger 0 0 2048, .dispatch 0 17,
    .runCommit 0 16 0 false] : List Instr).all (fun i => !i.wf) = true := by decide

theorem test_wf_refuses_2 : (
   [.runCommit 0 0 8 false, .sharedValueWrite 0 0 256 0, .contextScrub 0 0 16 0, .contextScrub 0 0 0 8, .programScrub 0 4096 0,
    .programScrub 0 0 5, .generatorRun 0 0 256, .compareMatch 0 0 4 0, .compareMatch 0 0 0 5, .shadowWrite 0 0 0 6 0,
    .phaseLoad 0 16 0, .phaseLoad 0 0 2, .tripSourceActive 0 ⟨32, 0⟩, .laneLockLoss 3 0 0, .laneLockLoss 0 8 0,
    .laneLockLoss 0 0 32, .measReceive 128 0 (1, 0) [] (1, 0) [], .measReceive 0 2 (1, 0) [] (1, 0) [],
    .measReceive 0 0 (4, 0) [] (1, 0) [], .measReceive 0 0 (1, 0) [(2, 2 ^ 122)] (1, 0) [], .measReceive 0 0 (1, 0) [] (1, 0) [(4, 0)],
    .positionLost 0 32, .nodeForward 0 32 0 (1, 0) [] (1, 0) 0,
    .nodeEntryApply 0 0 4, .forecastLaunch 0 15, .lathTake 40 0, .lathTake 63 0, .lathTake 68 0, .lathTake 71 0] : List Instr).all (fun i => !i.wf) = true := by decide

theorem test_wf_refuses_3 : (
   [.lathTake 73 0, .lathTake 72 1024, .consumerTake 72 256, .softwareEvent 0 72 64, .gpioEdge 64 false, .doorbell 0 0 65536,
    .interruptAccept 80, .holdoffExpiry 336, .intcEnWrite 0 0 false 16 0, .lockstepMismatch 0 5, .undefinedOpcode ⟨80, []⟩ 0 0,
    .undefinedOpcode ⟨0, [0xDF]⟩ 0 0, .undefinedOpcode ⟨0, [0xE0, 0xF0]⟩ 0 0, .undefinedOpcode ⟨0, []⟩ 256 0,
    .undefinedOpcode ⟨0, []⟩ 0 256, .iMov ⟨0, []⟩ 256, .iMovi ⟨0, []⟩ 0 4294967296, .iSel ⟨0, []⟩ 0 256 0,
    .iSel ⟨0, []⟩ 0 0 256, .iRdfeat ⟨0, []⟩ 0 256, .iLoop ⟨0, []⟩ 0 4294967296, .iLdW ⟨0, []⟩ 0 256 0, .iBcc ⟨0, []⟩ 16 0,
    .iBmov ⟨0, []⟩ 0 256, .hbmSpare 0 0 32] : List Instr).all (fun i => !i.wf) = true := by decide

theorem test_wf_refuses_4 : (
   [.arbiterGrant 0 40 0 0 false, .arbiterGrant 0 0 68719476736 0 false, .dmaStart 0 0 32, .lockAcquire 0 0 64, .takeoverTrigger 0 5,
    .feedCrossing 2 false, .auxFeedLoss 4, .refclkRecover 2, .pllFailure 12, .glazeFiring 16, .spdmFragment 3 0 0 [],
    .spdmFragment 0 0 65536 [], .groupStatusReceive 8 0 0 ⟨0, 0, 0, 0, 0, false, false, false, 0, 0⟩,
    .groupStatusReceive 0 8 0 ⟨0, 0, 0, 0, 0, false, false, false, 0, 0⟩,
    .groupStatusReceive 0 0 65536 ⟨0, 0, 0, 0, 0, false, false, false, 0, 0⟩,
    .groupStatusReceive 0 0 0 ⟨256, 0, 0, 0, 0, false, false, false, 0, 0⟩,
    .groupStatusReceive 0 0 0 ⟨0, 65536, 0, 0, 0, false, false, false, 0, 0⟩,
    .groupStatusReceive 0 0 0 ⟨0, 0, 0, 4, 0, false, false, false, 0, 0⟩,
    .groupStatusReceive 0 0 0 ⟨0, 0, 0, 0, 0, false, false, false, 256, 0⟩,
    .groupStatusReceive 0 0 0 ⟨0, 0, 0, 0, 0, false, false, false, 0, 256⟩, .memberLost 8, .groupEventReceive 0 0 8,
    .configTransfer 0 0 18446744073709551616 [], .mirrorReceive 0 0 8 0 [], .mirrorReceive 0 0 0 4294967296 []] : List Instr).all (fun i => !i.wf) = true := by decide

theorem test_wf_refuses_5 : (
   [.mirrorReceive 0 0 0 0 [⟨32, 0, 0, 4, 0, 0⟩], .mirrorReceive 0 0 0 0 [⟨0, 2048, 0, 4, 0, 0⟩],
    .mirrorReceive 0 0 0 0 [⟨0, 0, 64, 4, 0, 0⟩], .mirrorReceive 0 0 0 0 [⟨0, 0, 0, 2, 0, 0⟩],
    .ownershipFrameEnd 17179869184 0, .ownershipFrameEnd 0 17179869184, .prepareReceive 0 0 0 [] 18446744073709551616,
    .mgmtFrameReceive 2 [], .handshakeTimeout 4294967296, .derevoPing 0 65536 [], .freezeBegin 281474976710656,
    .clusterIslandSleep 0 3, .fetchResponse 0 3, .queueStateScrub 0 2048 false] : List Instr).all (fun i => !i.wf) = true := by decide

theorem test_wf_accepts_1 : (
   [.registerWrite 0 0 0 0, .lockKeyWrite 0 0 0, .stagedWriteRelease 0, .aliasAccessRelease 0, .slewWrite 0 0,
    .timeMeasurement 0, .ppsInEdge 0, .timerMatch 0 0, .watchdogService 0 0 0, .refSelWrite 0 0 0, .adcCtrlWrite 0 0 0,
    .conversionDone 0 ⟨0, 0⟩, .adcResultRead 0 0 0, .cmpEnWrite 0 0 0, .tripActivation 0, .capture 0 false, .softwareTrigger 0 0 0,
    .dispatch 0 0, .runCommit 0 0 0 false, .sharedValueWrite 0 0 0 0, .contextScrub 0 0 0 0, .programScrub 0 0 0,
    .generatorRun 0 0 0, .compareMatch 0 0 0 0, .shadowWrite 0 0 0 0 0, .phaseLoad 0 0 0, .tripSourceActive 0 ⟨0, 0⟩,
    .laneLockLoss 0 0 0, .measReceive 0 0 (1, 0) [] (1, 0) [], .positionLost 0 0, .nodeForward 0 0 0 (1, 0) [] (1, 0) 0,
    .nodeEntryApply 0 0 0, .forecastLaunch 0 0, .lathTake 72 0, .consumerTake 72 0, .softwareEvent 0 72 0, .gpioEdge 0 false,
    .doorbell 0 0 0, .interruptAccept 0, .holdoffExpiry 0] : List Instr).all Instr.wf = true := by decide

theorem test_wf_accepts_2 : (
   [.intcEnWrite 0 0 false 0 0, .lockstepMismatch 0 0, .undefinedOpcode ⟨0, []⟩ 0 0, .iMov ⟨0, []⟩ 0, .iMovi ⟨0, []⟩ 0 0,
    .iSel ⟨0, []⟩ 0 0 0, .iRdfeat ⟨0, []⟩ 0 0, .iLoop ⟨0, []⟩ 0 0, .iLdW ⟨0, []⟩ 0 0 0, .iBcc ⟨0, []⟩ 0 0, .iBmov ⟨0, []⟩ 0 0,
    .hbmSpare 0 0 0, .arbiterGrant 0 0 0 0 false, .dmaStart 0 0 0, .lockAcquire 0 0 0, .takeoverTrigger 0 0,
    .feedCrossing 0 false, .auxFeedLoss 0, .refclkRecover 0, .pllFailure 0, .glazeFiring 0, .spdmFragment 0 0 0 [],
    .groupStatusReceive 0 0 0 ⟨0, 0, 0, 0, 0, false, false, false, 0, 0⟩, .memberLost 0, .groupEventReceive 0 0 0,
    .configTransfer 0 0 0 [], .mirrorReceive 0 0 0 0 [], .ownershipFrameEnd 0 0, .prepareReceive 0 0 0 [] 0,
    .mgmtFrameReceive 0 [], .handshakeTimeout 0, .derevoPing 0 0 [], .freezeBegin 0, .clusterIslandSleep 0 0,
    .fetchResponse 0 0, .queueStateScrub 0 0 false] : List Instr).all Instr.wf = true := by decide

/-! ### Core pairs: a pair that issues, and what its instructions make of small operands -/

def w0 : WOp := ⟨0, []⟩

/-- Pair 0 runs in supervisor mode from its own SRAM, with register k holding 16 * k + 1. -/
def core0 : State :=
  let s := live.setFlag (pgCORE 0) F.CORE_CTRL_HOLD false
  s.setPair 0 { s.pair 0 with r := { (s.pair 0).r with g := (List.range 16).map fun k => 16 * k + 1 } }

/-- The same pair with other registers. -/
def coreR (f : Regs → Regs) : State := core0.setPair 0 { core0.pair 0 with r := f (core0.pair 0).r }

/-- ArithmeticXY, Shifts, ArithmeticXIAndX, MultiplyAndAccumulate, MovesFlagsAndLoops: each form issues, without a prefix and with
one of those it accepts; a form with an L register finds it free. -/
theorem witness_arithmetic : ∀ o ∈ [opXY w0 0x21 0x03 accAll true true true false, opXY w0 0x21 0x13 accAll true true true false,
    opXY w0 0xFF 0x0F accArith false true true false, opXY w0 0x21 0x03 [] true true true false, opXY w0 0x21 3 [p16] true true false false,
    opXY w0 0x21 3 [] false true false false, opXY w0 0x20 3 [p16, pACC] true false true false, opXY w0 0x20 3 [] false false true false,
    opXY w0 0x21 3 accAll false true true true, opXK w0 0x21 31 accAll, opXK w0 0x21 0 [], opXI w0 0x21 accArith true,
    opXI w0 0x20 [p16] false, opX w0 0x21 accAll true, opX w0 0x21 [] false, opMac 0x23 3, { bytes := 0 }, loopOp w0 true,
    opBrD w0 true [], opBrD w0 true [14], opBrD w0 true [29], opBrX true [], opBrX true [14]],
    core0.Issues w0 o := fun o h => issues_of ((by decide : ∀ o ∈ _, issuesB core0 w0 o = true) o h)

theorem witness_arithmetic_l_free : (core0.atIssue w0 (opXY w0 0x21 0x13 accAll true true true false)).waitB
    (core0.ctxOf w0 (opXY w0 0x21 0x13 accAll true true true false)) 0x13 = false := by decide

theorem witness_prefixes : ∀ p ∈ [[0xE0], [0xE1], [0xE6], [0xE7]],
    core0.Issues ⟨0, p⟩ (opXY ⟨0, p⟩ 0x21 0x03 accAll true true true false) :=
  fun p h => issues_of ((by decide : ∀ p ∈ _, issuesB core0 ⟨0, p⟩ (opXY ⟨0, p⟩ 0x21 0x03 accAll true true true false) = true) p h)
/-- The pair's registers all hold 0x40. -/
def core4 : State := coreR fun r => { r with g := List.replicate 16 0x40 }

/-- MovesFlagsAndLoops, SystemInstructions, TrapAndReturn: the forms of moves and of the system instructions issue. -/
theorem witness_moves : ∀ o ∈ [({ bytes := 1, dests := [fD 0x21] } : IOp), { bytes := 1 + immLen w0, acc := [pLONG], ok := fA 0x01 == 0, dests := [fD 0x01] },
    { bytes := 1, ok := decide (fA 0x21 < 8), dests := [fD 0x21] }, { bytes := 1, ok := decide (fD 0x27 < 8), dests := [20 + fD 0x27] },
    { bytes := 1, ok := fA 0x01 == 0, dests := [fD 0x01] }, { bytes := 1, ok := fD 0x10 == 0, flags := true },
    { bytes := 3, ok := yOk true 0x13 && decide (13 < 14), dests := [fD 0x21] },
    { bytes := 2, ok := fA 0x01 == 0 && decide (7 < 8), dests := [fD 0x01] }, { bytes := 2, ok := fD 0x10 == 0 && decide (1 < 2), dests := [28 + 1] },
    { bytes := 2, esc := true, priv := true, mon := decide (0x40 ≤ 0), ok := fA 1 == 0 && sysListed 0, dests := [fD 1] },
    { bytes := 2, esc := true, priv := true, mon := decide (0x40 ≤ 0x24), solo := true, ok := fD 0x10 == 0 && sysListed 0x24 },
    { bytes := 0, esc := true, priv := true }, { bytes := 0, esc := true, solo := true, atLE := false, priv := true },
    { bytes := 0, esc := true, port := true }, { bytes := 1, esc := true, solo := true, atLE := false, ok := decide (255 < 256) },
    opLongXY 0x21 3 [], opLongXY 0x21 3 pRnd, opLongX 0x21 1 pRnd true, opLongX 0x22 3 pRnd (fD 0x22 % 2 == 0), lrOp true [] [], lrOp true [1] []],
    core4.Issues w0 o := fun o h => issues_of ((by decide : ∀ o ∈ _, issuesB core4 w0 o = true) o h)

theorem witness_l_free : ∀ k < 8, (core4.atIssue w0 { bytes := 1, ok := decide (fA 0x21 < 8), dests := [fD 0x21] }).lBusy 0 k = false ∧
    ((core4.atIssue w0 (opLongXY 0x21 3 [])).lBusy 0 k = false) := by decide

/-- SystemInstructions: the store buffer is empty for FENCE, and TLBI finds no step pending. -/
theorem witness_fence : ((core4.atIssue w0 { bytes := 0, esc := true, port := true }).pair 0).sb = [] ∧
    ((core4.drainAll 0).pair 0).stepping = false ∧ ((core4.drainAll 0).pair 0).dbgDue = none := by decide

/-- TrapAndReturn: outside an exception, and with a saved mode that exists; BreakAndIllegal: with BRK armed and not. -/
theorem witness_trap : ((core4.atIssue w0 { bytes := 1, esc := true, solo := true, atLE := false, ok := true }).pair 0).drain.r.exl = false ∧
    ((core4.atIssue w0 { bytes := 0, esc := true, solo := true, atLE := false, priv := true }).pair 0).drain.r.mcl = false ∧
    bits (pswFix (((core4.atIssue w0 { bytes := 0, esc := true, solo := true, atLE := false, priv := true }).pair 0).drain.r.sysr 2)) 0 2 ≠ 3 := by
  decide

theorem witness_rett_machine_check : let s := coreR fun r => { r with psw := 0x211 }
    s.Issues w0 { bytes := 0, esc := true, solo := true, atLE := false, priv := true } ∧
    ((s.atIssue w0 { bytes := 0, esc := true, solo := true, atLE := false, priv := true }).pair 0).drain.r.mcl = true ∧
    bits (pswFix (((s.atIssue w0 { bytes := 0, esc := true, solo := true, atLE := false, priv := true }).pair 0).drain.r.sysr 0x0A)) 0 2 ≠ 3 := by
  refine ⟨issues_of ?_, ?_⟩ <;> decide

theorem witness_brk : let s := core4.setFlag (pgCORE 0) F.CORE_DCTL_SWBP true
    let o : IOp := { bytes := 0, esc := true, ok := s.flag (pgCORE 0) F.CORE_DCTL_SWBP }
    let u := (s.atIssue w0 o).advance 0 (s.ctxOf w0 o).pc (s.ctxOf w0 o).next none
    s.Issues w0 o ∧ ((u.enterDebug 0 5).pair 0).stepping = false ∧ ((u.enterDebug 0 5).pair 0).dbgDue = none := by
  refine ⟨issues_of ?_, ?_⟩ <;> decide

theorem witness_illegal : core4.flag (pgCORE 0) F.CORE_DCTL_SWBP = false ∧ core4.Fetches w0 { bytes := 0, esc := true, ok := false } ∧
    core4.Fetches w0 { bytes := 0, ok := false, undef := true } := by
  refine ⟨by decide, ?_, ?_⟩ <;> constructor <;> decide

/-- Loads: a word, a half, a byte and a pair from the pair's own SRAM, and an accumulator. -/
theorem witness_load : ∀ e ∈ [(4, false), (2, false), (1, false), (8, false), (8, true)],
    core4.Issues w0 (opLoad w0 0x22 0 e.1 e.2) ∧
    (core4.Gives w0 (opLoad w0 0x22 0 e.1 e.2) (fA 0x22) 0x40 e.1
      (core4.atIssue w0 (opLoad w0 0x22 0 e.1 e.2) |>.rawLoad (core4.ctxOf w0 (opLoad w0 0x22 0 e.1 e.2)) 0x40 e.1).1 0) := by
  intro e he
  simp only [List.mem_cons, List.not_mem_nil, or_false] at he
  rcases he with rfl | rfl | rfl | rfl | rfl <;>
    refine ⟨issues_of (by decide), by decide, Prod.ext rfl (by rfl), by decide, by decide, by decide⟩

/-- Stores: the same sizes, and STA. -/
theorem witness_store : ∀ n ∈ [4, 2, 1, 8],
    core4.Issues w0 (opStore w0 0x22 0 n) ∧
    (core4.Takes w0 (opStore w0 0x22 0 n) (fA 0x22) 0x40 n 0x40
      (core4.atIssue w0 (opStore w0 0x22 0 n) |>.rawStore (core4.ctxOf w0 (opStore w0 0x22 0 n)) 0x40 n 0x40).1) := by
  intro e he
  simp only [List.mem_cons, List.not_mem_nil, or_false] at he
  rcases he with rfl | rfl | rfl | rfl <;>
    refine ⟨issues_of (by decide), by decide, ⟨0, Prod.ext rfl (by rfl)⟩, by decide, by decide, by decide⟩

/-- Atomics: an aligned word of the pair's SRAM. -/
theorem witness_atomic : let o := opAtomic ⟨0, [0xE8]⟩ false 0x22 0 none
    let z := (core4.atIssue ⟨0, [0xE8]⟩ o).translate 0 0x40 3 (core4.ctxOf ⟨0, [0xE8]⟩ o).user
    core4.Issues ⟨0, [0xE8]⟩ o ∧ (effAddr (core4.reads ⟨0, [0xE8]⟩ o) ⟨0, [0xE8]⟩ 0x22 0 0 4).1 % 4 = 0 ∧ (core4.atIssue ⟨0, [0xE8]⟩ o).belowLimit 0 (fA 0x22) 0x40 = false ∧
    (z.1.pair 0).sb = [] ∧ (z.1.pair 0).replay = [] ∧ (z.1.lockedAccess 0 0x10000040 4 1 0x40 0x40).2.2 = 0 := by
  refine ⟨issues_of ?_, ?_⟩ <;> decide

/-- LongUnits and LongResumable: MV3 with its matrix in SRAM; a block fill of 64 elements stands at its first point. -/
def opMv3 : IOp :=
  { bytes := 2, esc := true, acc := pRnd, long := true, port := true, ok := decide (fD 0x25 ≤ 5) && decide (13 < 14),
    dests := [20 + fD 0x25, 21 + fD 0x25, 22 + fD 0x25] }

theorem witness_mv3 : let o := opMv3
    core4.Issues w0 o ∧ ((core4.atIssue w0 o).mv3Bad (core4.ctxOf w0 o) 0x40).2 = none ∧
    (core4.atIssue w0 o).watchHit 0 0x40 36 true false = none := by
  refine ⟨issues_of ?_, ?_⟩ <;> decide

theorem witness_bfill : let o := lrOp true [] []
    let q := lrLoop (bfillElem (core4.ctxOf w0 o) 2 0x40 0x40) 0x40 16 (core4.atIssue w0 o) 0
    core4.Issues w0 o ∧ (core4.reads w0 o).gr 3 = 0x40 ∧ q.2.1 = 16 ∧ (q.1.pair 0).stepping = false ∧ (q.1.pair 0).dbgDue = none := by
  refine ⟨issues_of ?_, ?_⟩ <;> decide

/-- InstructionFrame, MemoryAccesses: a pair with translation off and room in its store buffer. -/
theorem witness_own_memory : let s := core4
    bit ((s.pair 0).r.sysr 0x20) 0 = false ∧ (s.pair 0).replay = [] ∧ (s.pair 0).sb.length < 8 ∧ s.memOn 0x10000040 = true ∧
    s.ueIn 0x10000040 4 = false ∧ s.mm.ue = [] ∧ sbLook (s.pair 0).sb 0x10000040 4 = some none ∧
    sbLook [⟨0x10000040, 8, 5⟩] 0x10000044 4 = some (some 0) ∧ sbLook [⟨0x10000042, 2, 5⟩] 0x10000040 4 = none := by decide

/-- MemoryAccesses: a buffered store to an active tile's memory. -/
theorem witness_drain : let s := core4.setPair 0 { core4.pair 0 with sb := [⟨0x10000040, 4, 7⟩] }
    s.memOn 0x10000040 = true ∧ imageStore 0x10000040 = false ∧ s.role 0 = 0 := by decide

/-- LongResumable: three elements of a table search, which stops at the first or goes on, of a matrix times a vector, and of a sort. -/
def core3 : State := coreR fun r => { r with g := (List.replicate 16 0x40).set 3 3 }

theorem witness_long_resumable : let o := lrOp true [2] []
    let c := core3.ctxOf w0 o
    let z := core3.atIssue w0 o
    let stops := fun (e : Elem) => match e with | .more => 0 | .stop _ => 1 | _ => 2
    let q := lrLoop (tsrchElem c 2 0x40 0xFFFFFFFF) 3 16 z 0
    let p := lrLoop (tsrchElem c 2 0x40 0x7FFFFFFF) 3 16 z 0
    let m := lrLoop (mvmElem (rndOf w0 0) (List.replicate 9 0) c 2 2 0x40 0x40) 3 16 z 0
    let k := lrLoop (fun z e => z.sortStep c 2 2 3 (passesOf 3 17 0) e) ((passesOf 3 17 0 + passesOf 3 17 0 % 2) * 3) 16 z 0
    core3.Issues w0 o ∧ (core3.reads w0 o).gr 3 = 3 ∧ [q, p, m, k].map (fun e => (e.2.1, stops e.2.2)) = [(0, 1), (3, 0), (3, 0), (6, 0)] ∧
    (match z.lrWords c 2 0x40 9 z [] with | (_, .inr l) => l == List.replicate 9 0 | _ => false) = true := by
  refine ⟨issues_of ?_, ?_⟩
  · decide
  · decide
/-! ### Chapters 01 and 02 -/

/-- DecoderRefuses: a write of two bytes; a reserved range and a slot that nothing populates, at their first address. -/
theorem witness_decoder : live.Arrives (.page pageTBAS 0x5C) ⟨0, pgTBAS + 0x5C, 2, true, 0⟩ ∧ target live.phys 0x05000000 = .unmapped ∧
    target live.phys 0x00FFF000 = .noPage := by
  refine ⟨(reaches_of ?_).toArrives, ?_, ?_⟩ <;> decide

/-- QuietWrites: the first offset of the quiet view. -/
theorem witness_quiet : live.Arrives (.page pageTBAS 0x800) ⟨0, pgTBAS + 0x800, 4, true, 0⟩ ∧ (pgTBAS + 0x800) % 4 = 0 :=
  ⟨(reaches_of (by decide)).toArrives, by decide⟩

/-- UndefinedOffsets: 0x030 and the last offset below the quiet view. -/
theorem witness_hole : pageTBAS.slots 0x30 = none ∧ live.Reaches pageTBAS 0x30 ⟨0, pgTBAS + 0x30, 4, true, 1⟩ ∧
    pageTBAS.slots 0x7FC = none ∧ live.Reaches pageTBAS 0x7FC ⟨0, pgTBAS + 0x7FC, 4, false, 0⟩ ∧ live.unstaged pageTBAS :=
  ⟨by decide, reaches_of (by decide), by decide, reaches_of (by decide), fun h => nomatch h⟩

/-- AccessCodes: the arbiter freeze of a cluster's SRAM. -/
theorem witness_codes : let p : Page := ⟨.csram, pgCSRAM 0, 0, 0⟩
    live.Reaches p 0x108 ⟨0, pgCSRAM 0 + 0x108, 4, true, 1⟩ ∧ plainPage p.ty = true ∧
    (∃ xs, p.slots 0x108 = some xs ∧ (xs.map fun x => 64 * x.fld.off + x.fld.lo).Nodup ∧ (∀ x ∈ xs, x.part + x.w ≤ x.fld.w)) :=
  ⟨reaches_of (by decide), by decide, _, rfl, by decide, by decide⟩

/-- LockSequence and LockWindow: the second write at the first and the last cycle that complete the sequence, and one later; the window
in its first and its last cycle, and one later. -/
theorem witness_lock : let p := pageTBAS
    let s := fun (n : Nat) => { live with bus.locks := [(pgTBAS, { seq := some (0, 0) })], tick := n }
    let w := fun (n : Nat) => { live with bus.locks := [(pgTBAS, { win := some (0, 0) })], tick := n }
    live.Reaches p 0x24 ⟨0, pgTBAS + 0x24, 4, true, 0xA5C3⟩ ∧ (s 1).cycle p.island = 1 ∧ (s 256).cycle p.island = 256 ∧
    (s 257).cycle p.island = 257 ∧ (w 1).lockOpen p 0 = true ∧ (w 256).lockOpen p 0 = true ∧ (w 257).lockOpen p 0 = false ∧
    (w 256).remain p = 1 ∧ target (w 257).phys pgTBAS = .page p 0 :=
  ⟨reaches_of (by decide), by decide⟩

/-- ErrorRecord: an empty record, a full one, a second error of the same cycle, and a W1C of VALID. -/
theorem witness_error : pgTBAS % 0x1000 = 0 ∧ summarySrc pgTBAS < 21504 ∧ live.flag pgTBAS F.HDR_ERR_VALID = false ∧
    (live.setFlag pgTBAS F.HDR_ERR_VALID true).flag pgTBAS F.HDR_ERR_VALID = true ∧
    (live.setFlag pgTBAS F.HDR_ERR_VALID true).errNow pgTBAS = none ∧
    (let s := live.recordErr pgTBAS 0x03 ⟨5, pgTBAS + 0x30, 4, false, 0⟩
     s.flag pgTBAS F.HDR_ERR_VALID = true ∧ ((s.errNow pgTBAS).map fun e => (e.fills, e.cause, e.acc.req)) = some (true, 3, 5) ∧
     (s.recordErr pgTBAS 0x03 ⟨2, pgTBAS + 0x34, 4, false, 0⟩).getF pgTBAS F.HDR_ERR_REQ = 2) := by decide

theorem witness_error_clear : live.Writes pageTBAS 0x28 0 1 ∧ live.unstaged pageTBAS :=
  ⟨writes_of (by decide), fun h => absurd h (by decide)⟩

/-- BlockEnableAndReset: BLK_EN of a generator's, an EDGE and a PKEEP page, cleared and set; BLK_RST; a field that BLK_RST resets. -/
theorem witness_block : ∀ p ∈ [pagePWMG 0 0, ⟨.edge, pgEDGE 0, 0, 0⟩, ⟨.pkeep, pgPKEEP 0, 0, 0⟩],
    let s := unlocked live p
    let t := s.setFlag p.base F.HDR_BLK_EN false
    s.lockOpen p 0 = true ∧ s.Reaches p 0x0C ⟨0, p.base + 0x0C, 4, true, 0⟩ ∧ s.flag p.base F.HDR_BLK_EN = true ∧
    t.Reaches p 0x0C ⟨0, p.base + 0x0C, 4, true, 1⟩ ∧ t.flag p.base F.HDR_BLK_EN = false ∧ (p.ty = .pwmg → s.stagedFor p.owner = none) := by
  intro p hp
  simp only [List.mem_cons, List.not_mem_nil, or_false] at hp
  rcases hp with rfl | rfl | rfl <;>
    exact ⟨by decide, reaches_of (by decide), by decide, reaches_of (by decide), by decide, by decide⟩

theorem witness_block_reset : let p := pageTBAS
    ∃ xs x, p.slots 0x58 = some xs ∧ x ∈ xs ∧ x.fld.off = 0x58 ∧ x.fld.lo < 64 ∧ resets p x.fld = true :=
  ⟨_, _, rfl, .head _, by decide, by decide, by decide⟩

/-- CounterLatches: both halves of the count, with no latch, its own latch, and another's. -/
theorem witness_counter : let p := pageTBAS
    (∃ x, p.slots 0x48 = some [x] ∧ wordCounter p 0x48 = some x ∧ x.pos = 0 ∧ x.fld.acc = .rs ∧ x.part = 0 ∧ x.w = 32) ∧
    (∃ x, p.slots 0x4C = some [x] ∧ wordCounter p 0x4C = some x ∧ x.pos = 0 ∧ x.fld.acc = .rs ∧ x.part = 32 ∧ x.w = 32) ∧
    (live.pageSync p 0x48).pageReady p = true ∧ live.Reads p 0x48 0 ∧ live.Reads p 0x4C 0 ∧
    SMap.get? live.bus.latches (1024 * p.base) = none :=
  ⟨⟨_, rfl, by decide, by decide, by decide, by decide, by decide⟩, ⟨_, rfl, by decide, by decide, by decide, by decide, by decide⟩,
    by decide, reaches_of (by decide), reaches_of (by decide), by decide⟩

/-- ContextWrites: word 2 of context 5 of tile 0, valid and not, of a generator that is armed and not, with a free and a full stage. -/
theorem witness_context_arrives : live.Arrives (.ctx 0 0x148) ⟨0, 0x080C0148, 4, true, 3⟩ :=
  ⟨by decide, by decide, by decide, by decide, by decide, by decide, by decide⟩

theorem witness_context : let armed := ({ live with loop.ctx := SMap.put [] (ctxKey 0 5 1) 0x100 } : State).setGenState 0 0 3
    let c : CoreWrite := ⟨0, 5, 8, 4, 3, 0x080C0148⟩
    let full := armed.setStage 0 { core := List.replicate 256 c, waiting := [c] }
    live.stagedFor 0 = none ∧ c.ok = true ∧ (⟨0, 5, 0, 4, 0, 0x080C0140⟩ : CoreWrite).ok = false ∧ live.ctxArmed 0 5 = false ∧
    armed.ctxArmed 0 5 = true ∧ (armed.stageOf 0).core.length < 256 ∧ 256 ≤ (full.stageOf 0).core.length ∧
    (full.stageOf 0).waiting = [c] ∧ ((armed.setStage 0 { waiting := [c] }).stageOf 0).core.length < 256 := by decide

theorem witness_alias : let a : Access := ⟨0, 0x0C000000, 4, false, 0⟩
    let s := { live with bus.held := [a] }
    s.moving 0 = false ∧ s.bus.held = [a] ∧ ({ s with bus.held := [] } : State).stillHeld a = false := by decide

/-- TimeBase: SLEW_PPM at both ends of its range; a step with and without an armed generator; the measurement with and without a servo;
holdover after exactly 2 s; PPS_OUT at count 0. -/
theorem witness_time_base : let b := pgTBAS
    let armed := live.setGenState 0 0 2
    let armed : State := { armed with edge.gens := [(0, {})] }
    let on := live.setF b F.TBAS_CTRL_SRC 1
    let pps := live.setFlag b F.TBAS_PPSOUT_EN true
    (live.Writes pageTBAS 0x5C 0 0x01FFFFFF ∧ live.Writes pageTBAS 0x5C 0 0x0A000001) ∧ live.servoOwns = false ∧ live.slewLeft = 0 ∧
    live.Writes pageTBAS 0x74 0 0xFFFFFFFF ∧ armed.Writes pageTBAS 0x74 0 1 ∧
    (armed.edge.gens.any fun kv => armed.genArmed (kv.1 / 256) (kv.1 % 256)) = true ∧
    on.getF b F.TBAS_CTRL_SRC ≠ 0 ∧ on.servoOwns = true ∧ (on.setFlag b F.TBAS_CTRL_SERVO false).servoOwns = false ∧
    on.flag b F.TBAS_STAT_HOLDOVER = false ∧ (let h : State := { on with tick := 4000000000 }; h.time.lastMeas + 4000000000 ≤ h.tick) ∧
    pps.flag b F.TBAS_PPSOUT_EN = true ∧ (pps.count + pps.getF b F.TBAS_TAI_TAI) % 2 ^ 64 % 2000000000 = 0 :=
  ⟨⟨writes_of (by decide), writes_of (by decide)⟩, by decide, by decide, writes_of (by decide), writes_of (by decide), by decide⟩

/-- Timer 3 of tile 0 in a mode, with CMP 5, enabled at tick 0, in the tick given. -/
def timing (mode tick : Nat) (tm : Timer) : State :=
  let b := pgTIMR 0
  let s := (((live.setFlag b (F.TMR_CTRL_EN 3) true).setF b (F.TMR_CTRL_MODE 3) mode).setF b (F.TMR_CMP_CMP 3) 5).setTimer 0 3 tm
  { s with tick := tick }

/-- Timers: a match in each mode in the tick that it is due in, a catch-up, a wrap, the registers and the start input. -/
theorem witness_timers :
    (∀ m ∈ [0, 1, 2, 3], (timing m 5 {}).timerDue 0 3 = true ∧ ((timing m 5 {}).timer 0 3).catchup = false ∧
      (timing m 5 {}).getF (pgTIMR 0) (F.TMR_CTRL_MODE 3) = m ∧ (timing m 4 {}).timerDue 0 3 = false) ∧
    ((timing 0 1 { catchup := true, val := 9 }).timerDue 0 3 = true ∧ ((timing 0 1 { catchup := true }).timer 0 3).catchup = true) ∧
    (let s := timing 0 6 { val := 2 ^ 64 - 6 }
     s.getF (pgTIMR 0) (F.TMR_CTRL_MODE 3) < 2 ∧ s.timerRuns 0 3 = true ∧ s.timerDue 0 3 = false ∧ 2 ^ 64 ≤ (s.timerSync 0 3).val) ∧
    (∀ n ∈ [0, 15], live.Writes (pageTIMR 0) (0x50 + 0x20 * n) 0 7 ∧ live.Writes (pageTIMR 0) (0x54 + 0x20 * n) 0 7 ∧
      live.Writes (pageTIMR 0) (0x48 + 0x20 * n) 0 7 ∧ live.Writes (pageTIMR 0) (0x4C + 0x20 * n) 0 7 ∧
      live.flag (pgTIMR 0) (F.TMR_CTRL_EN n) = false) ∧
    ((timing 0 4 {}).Writes (pageTIMR 0) 0xAC 0 7 ∧ (timing 0 4 {}).flag (pgTIMR 0) (F.TMR_CTRL_EN 3) = true) := by
  refine ⟨by decide, by decide, by decide, ?_, writes_of (by decide), by decide⟩
  intro n hn
  simp only [List.mem_cons, List.not_mem_nil, or_false] at hn
  rcases hn with rfl | rfl <;>
    exact ⟨writes_of (by decide), writes_of (by decide), writes_of (by decide), writes_of (by decide), by decide⟩

/-- An arrival that waits at input `i` of lath `l`. -/
def arrived (s : State) (l i : Nat) : State := s.updLath l fun L => { L with cin := SMap.put L.cin i { toks := [⟨0, 0, 0, 0, false, 0⟩] } }

theorem tookNow_taken (s : State) (l i : Nat) :
    (s.updLath l fun L => { L with tookAt := SMap.put [] i s.tick }).tookNow l i = true := by
  simp only [State.tookNow, State.lathOf, State.updLath, State.cinIsle, State.linkTarget, SMap.getD, SMap.upd, SMap.get?_put_same]
  simp [SMap.put, SMap.get?]

theorem witness_timer_start : let s := (arrived live (lathTile 0) 67).setFlag (pgTIMR 0) (F.TMR_CTRL_START_EVT 3) true
    let again := s.updLath (lathTile 0) fun L => { L with tookAt := SMap.put [] 67 s.tick }
    s.headTok (lathTile 0) (64 + 3) ≠ none ∧ s.flag (pgTIMR 0) (F.TMR_CTRL_EN 3) = false ∧ s.tookNow (lathTile 0) (64 + 3) = false ∧
    s.softBy (pgTIMR 0) (F.TMR_CTRL_EN 3) = none ∧ s.flag (pgTIMR 0) (F.TMR_CTRL_START_EVT 3) = true ∧
    (again.headTok (lathTile 0) (64 + 3) ≠ none ∧ again.tookNow (lathTile 0) (64 + 3) = true) ∧
    (arrived (timing 0 4 {}) (lathTile 0) 67).headTok (lathTile 0) (64 + 3) ≠ none ∧
    (arrived (timing 0 4 {}) (lathTile 0) 67).flag (pgTIMR 0) (F.TMR_CTRL_EN 3) = true :=
  ⟨by decide, by decide, by decide, by decide, by decide, ⟨by decide, tookNow_taken _ _ _⟩, by decide, by decide⟩

theorem softBy_noteSoft (s : State) (b : Nat) (f : Fld) (part req : Nat) : (s.noteSoft b f part req).softBy b f part = some req := by
  unfold State.softBy State.noteSoft
  simp only [SMap.get?_put_same]
  exact if_pos rfl

/-- Timers: EN of a ONESHOT timer that software wrote in the cycle of the match, and not. -/
theorem witness_timer_stops : let b := pgTIMR 0
    live.softBy b (F.TMR_CTRL_EN 3) = none ∧ (live.noteSoft b (F.TMR_CTRL_EN 3) 0 0).softBy b (F.TMR_CTRL_EN 3) ≠ none :=
  ⟨by decide, by simp [softBy_noteSoft]⟩

/-- Watchdog `t` runs, with WINDOW 2 ms and TIMEOUT 5 ms, and counts from tick 0. -/
def watched (t stage tick : Nat) : State :=
  let b := wdBase t
  let s := (((live.setFlag b F.WDOG_CTRL_EN true).setF b F.WDOG_WINDOW_WINDOW 2).setF b F.WDOG_TIMEOUT_TIMEOUT 5).setF b F.WDOG_STAT_STAGE stage
  unlocked { s.setWdog t { stopped := false } with tick := tick - 80 } (pageWDOG t)

/-- Watchdogs: of a tile and of the keeper, services in and out of the window and in stage one, both time-outs, the registers. -/
theorem witness_watchdogs : ∀ t ∈ [0, 40],
    live.Writes (pageWDOG t) (offWDOG t 0x50) 0 0 ∧ live.flag (wdBase t) F.WDOG_CTRL_EN = false ∧
    ((watched t 0 4000).Writes (pageWDOG t) (offWDOG t 0x50) 0 0x57D0 ∧ (watched t 0 4000).wdKey t = 0x57D0 ∧
      (watched t 0 4000).flag (wdBase t) F.WDOG_CTRL_EN = true ∧ (watched t 0 4000).getF (wdBase t) F.WDOG_STAT_STAGE = 0 ∧
      (watched t 0 4000).getF (wdBase t) F.WDOG_WINDOW_WINDOW ≤ (watched t 0 4000).wdElapsed t) ∧
    ((watched t 0 3999).Writes (pageWDOG t) (offWDOG t 0x50) 0 0x57D0 ∧ (watched t 0 3999).wdElapsed t < 2) ∧
    ((watched t 1 60).Writes (pageWDOG t) (offWDOG t 0x50) 0 0x57D0 ∧ (watched t 1 60).getF (wdBase t) F.WDOG_STAT_STAGE = 1) ∧
    ((watched t 0 10000).getF (wdBase t) F.WDOG_TIMEOUT_TIMEOUT ≤ (watched t 0 10000).wdElapsed t) ∧
    (watched t 0 10000).Writes (pageWDOG t) (offWDOG t 0x50) 0 0x57D0 ∧ (watched t 0 10000).Writes (pageWDOG t) (offWDOG t 0x50) 0 0 ∧
    ((watched t 0 10000).wdStage1 t).wdKey t = 0x57D0 ∧
    ((watched t 0 10000).wdStage1 t).getF (wdBase t) F.WDOG_STAT_STAGE = 1 := by
  intro t ht
  simp only [List.mem_cons, List.not_mem_nil, or_false] at ht
  rcases ht with rfl | rfl <;>
    exact ⟨writes_of (by decide), by decide, ⟨writes_of (by decide), by decide⟩, ⟨writes_of (by decide), by decide⟩,
      ⟨writes_of (by decide), by decide⟩, by decide,
      writes_of (by decide), writes_of (by decide), by decide⟩

theorem witness_watchdog_registers : ∀ t ∈ [0, 40],
    let s := watched t 0 60
    let off := (unlocked live (pageWDOG t))
    let late := watched t 0 6000
    (s.lockOpen (pageWDOG t) 0 = true ∧ off.lockOpen (pageWDOG t) 0 = true ∧ late.lockOpen (pageWDOG t) 0 = true) ∧
    (s.Writes (pageWDOG t) (offWDOG t 0x44) 0 3 ∧ s.wdElapsed t < 3) ∧ (s.Writes (pageWDOG t) (offWDOG t 0x44) 0 2) ∧
    (late.Writes (pageWDOG t) (offWDOG t 0x44) 0 3 ∧ 3 ≤ late.wdElapsed t ∧ late.flag (wdBase t) F.WDOG_CTRL_EN = true ∧
      late.getF (wdBase t) F.WDOG_STAT_STAGE ≠ 1 ∧ late.getF (wdBase t) F.WDOG_WINDOW_WINDOW < 3) ∧
    (s.Writes (pageWDOG t) (offWDOG t 0x4C) 0 1 ∧ 1 ≠ s.getF (wdBase t) F.WDOG_STAGE2_STAGE2) ∧
    (off.Writes (pageWDOG t) (offWDOG t 0x40) 0 1) ∧ s.Writes (pageWDOG t) (offWDOG t 0x40) 0 0 ∧
    (let z := (watched t 1 4000000).setF (wdBase t) F.WDOG_STAGE2_STAGE2 1000
     z.getF (wdBase t) F.WDOG_STAT_STAGE = 1 ∧ z.getF (wdBase t) F.WDOG_STAGE2_STAGE2 ≤ z.wdElapsed t) := by
  intro t ht
  simp only [List.mem_cons, List.not_mem_nil, or_false] at ht
  rcases ht with rfl | rfl <;>
    exact ⟨⟨unlocked_open _ _, unlocked_open _ _, unlocked_open _ _⟩, ⟨writes_of (by decide), by decide⟩, writes_of (by decide),
      ⟨writes_of (by decide), by decide⟩, ⟨writes_of (by decide), by decide⟩, writes_of (by decide), writes_of (by decide), by decide⟩

/-- Converter 17 of the device, powered, with its reference ready and the fields given. -/
def sampling (mode : Nat) (x : AdcSt) (tick : Nat) : State :=
  let b := pgADC 17
  let s := ((((live.setFlag b F.ADC_CTRL_EN true).setFlag b F.ADC_STAT_POWERED true).setF b F.ADC_CTRL_LEN 2).setF b F.ADC_CTRL_TRIG_MODE
    mode).setFlag (pgAFE 1) F.AFE_REF_STAT_REF_READY true
  { s.setAdc 17 x with tick := tick }

/-- Converters: the reference select in its three cases; settling; the registers of the converters; starts by event and by time; a
conversion; a record on the bus; a result read. -/
theorem witness_reference : let p := pageAFE 1
    let s := unlocked live p
    let on := unlocked (live.setFlag (pgADC 17) F.ADC_CTRL_EN true) p
    s.lockOpen p 0 = true ∧ on.lockOpen p 0 = true ∧
    (s.Writes p 0x40 0 1 ∧ 1 ≠ s.getF (pgAFE 1) F.AFE_REF_CTRL_SEL ∧ s.anyAdcOn 1 = false) ∧
    (s.Writes p 0x40 0 3 ∧ 3 ≠ s.getF (pgAFE 1) F.AFE_REF_CTRL_SEL) ∧ (on.Writes p 0x40 0 1 ∧ on.anyAdcOn 1 = true) ∧
    (let t : State := { live with samp.refs := SMap.put [] 1 { settle := some 0 } }
     (SMap.getD t.samp.refs 1 {}).settle = some 0 ∧ 0 ≤ t.tick ∧ t.refInside 1 2500000000 = true ∧ t.refInside 1 0 = false) ∧
    (live.setFlag (pgAFE 1) F.AFE_REF_STAT_REF_READY true).flag (pgAFE 1) F.AFE_REF_STAT_REF_READY = true ∧
    (SMap.getD live.samp.refs 1 {}).settle = none ∧ live.flag (pgAFE 1) F.AFE_REF_STAT_REF_READY = false :=
  ⟨unlocked_open _ _, unlocked_open _ _, ⟨writes_of (by decide), by decide⟩, ⟨writes_of (by decide), by decide⟩,
    ⟨writes_of (by decide), by decide⟩, by decide⟩

theorem witness_converter_registers : let p := pageADC 17
    (live.Writes p 0x40 0 0x105 ∧ live.adcCause 17 0x40 0x105 = 0 ∧ bits 0x105 2 2 < 2 ∧ bits 0x105 4 5 ≤ 16) ∧
    ((live.setAdc 17 { powerAt := some 0 }).adc 17).powerAt = some 0 ∧ live.Writes p 0x48 0 7 ∧
    (live.Writes p 0x4C 0 7 ∧ (2 ^ 32 * 7 + (live.adc 17).startLo.getD (live.getF (pgADC 17) F.ADC_START_START % 2 ^ 32)) % 2 = 0 ∧
      live.flag (pgADC 17) F.ADC_CTRL_EN = false) ∧ live.Reads p 0x68 0 ∧ live.Reads p 0x6C 0 :=
  ⟨⟨writes_of (by decide), by decide⟩, by decide, writes_of (by decide), ⟨writes_of (by decide), by decide⟩, reaches_of (by decide),
    reaches_of (by decide)⟩

theorem witness_conversions : let q : SeqSt := ⟨100, 2, 0, false, 1, 2, false⟩
    let s := arrived (sampling 0 {} 100) (lathClu 1) 129
    let t := arrived (sampling 0 { seqs := [q] } 100) (lathClu 1) 129
    let x := (s.tookOne (lathClu 1) (128 + 17 % 16)).setAdc 17 { s.adc 17 with evAt := some (s.tick / 2) }
    (s.headTok (lathClu 1) (128 + 17 % 16) ≠ none ∧ s.getF (pgADC 17) F.ADC_CTRL_TRIG_MODE ≠ 1 ∧ (s.adc 17).seqs = [] ∧
      (s.adc 17).evAt ≠ some (s.tick / 2) ∧ s.adcHeld 17 = false ∧ x.startBar 17 = 0) ∧
    ((arrived (sampling 1 {} 100) (lathClu 1) 129).getF (pgADC 17) F.ADC_CTRL_TRIG_MODE = 1) ∧
    (t.headTok (lathClu 1) (128 + 17 % 16) ≠ none ∧ t.getF (pgADC 17) F.ADC_CTRL_TRIG_MODE ≠ 1 ∧ (t.adc 17).seqs ≠ []) ∧
    (let u := sampling 1 { next := some 100 } 20
     (u.adc 17).next = some 100 ∧ 100 ≤ u.count + acqTicks (u.flag (pgADC 17) F.ADC_CTRL_LP) ∧ u.adcHeld 17 = false ∧ u.startBar 17 = 0) ∧
    (let u := sampling 0 { seqs := [q] } 420
     (u.adc 17).seqs = [q] ∧ q.inst q.done + convTicks q.lp ≤ u.count ∧ q.done + 1 < q.stopAt) ∧
    (let u : State := { live with samp.bus := SMap.put [] 1 [⟨2, 5, true, 0⟩] }
     SMap.getD u.samp.bus 1 [] = [⟨2, 5, true, 0⟩]) ∧
    (let u : State := { live with samp.bus := SMap.put [] 1 [⟨2, 5, false, 0⟩] }
     SMap.getD u.samp.bus 1 [] = [⟨2, 5, false, 0⟩]) := by decide

/-- ComparatorsAndCaptures: EN switched on and off, a threshold at once and one that waits, an activation and the end of one, and the
capture FIFO with none, one and two entries. -/
theorem witness_comparator_registers : let p := pageCMPR 17
    let s := unlocked live p
    let on := unlocked (live.setFlag (pgCMPR 17) (F.CMP_CTRL_EN 1) true) p
    let waits := unlocked ((live.setFlag (pgCMPR 17) (F.CMP_CTRL_LOAD 1) true).setCmp 17 { waits := true }) p
    let armed := ((live.setF (pgPWMG 10 3) (F.PWMG_TRIPSEL_CMP 3) 2).setGenState 10 3 2).setGen 10 3 { per := 64 }
    let bound := unlocked (armed.setFlag (pgCMPR 17) (F.CMP_CTRL_EN 1) true) p
    s.lockOpen p 0 = true ∧ on.lockOpen p 0 = true ∧ (s.Writes p 0x50 0 1 ∧ s.flag (pgCMPR 17) (F.CMP_CTRL_EN 1) = false) ∧
    (on.Writes p 0x50 0 0 ∧ on.flag (pgCMPR 17) (F.CMP_CTRL_EN 1) = true ∧ on.sourceArmed 1 1 = false) ∧ on.Writes p 0x50 0 1 ∧
    (bound.Writes p 0x50 0 0 ∧ bound.flag (pgCMPR 17) (F.CMP_CTRL_EN 1) = true ∧ bound.sourceArmed 1 1 = true) ∧
    (s.Writes p 0x54 0 1023 ∧ s.flag (pgCMPR 17) (F.CMP_CTRL_LOAD 1) = false ∧ (s.cmp 17).waits = false) ∧
    (waits.Writes p 0x54 0 1023 ∧ waits.flag (pgCMPR 17) (F.CMP_CTRL_LOAD 1) = true) :=
  ⟨unlocked_open _ _, unlocked_open _ _, ⟨writes_of (by decide), by decide⟩, ⟨writes_of (by decide), by decide⟩, writes_of (by decide),
    ⟨writes_of (by decide), by decide⟩, ⟨writes_of (by decide), by decide⟩, ⟨writes_of (by decide), by decide⟩⟩

theorem witness_comparator_enable : let p := pageCMPR 17
    let off := live.put p ⟨0, 4, 1, true⟩ 0x50 [F.CMP_CTRL_EN 1]
    let on := (live.setFlag (pgCMPR 17) (F.CMP_CTRL_EN 1) true).put p ⟨0, 4, 0, true⟩ 0x50 [F.CMP_CTRL_EN 1]
    off.2 = 0 ∧ on.2 = 0 ∧ on.1.sourceArmed 1 1 = false := by decide

theorem witness_comparators :
    (let s : State := { live.setCmp 17 { enAt := some 0 } with tick := 2000 }
     (s.cmp 17).enAt = some 0 ∧ 0 + 2000 ≤ s.tick) ∧
    (let s := arrived ((live.setFlag (pgCMPR 17) (F.CMP_CTRL_LOAD 1) true).setCmp 17 { waits := true }) (lathClu 1) 145
     s.headTok (lathClu 1) (144 + 17 % 16) ≠ none ∧ s.flag (pgCMPR 17) (F.CMP_CTRL_LOAD 1) = true ∧ (s.cmp 17).waits = true) ∧
    (let s : State := { live with edge.active := [33, 49], tick := 100000 }
     s.edge.active.contains (32 * 1 + 17 % 16) = true ∧ s.flag (pgCMPR 17) (F.CMP_STAT_OUT 1) = false ∧ s.pathSettled 1 (17 % 16) true = true ∧
     s.edge.active.contains (32 * 1 + (16 + 1)) = true ∧ s.flag (pgTRIP 1) (F.TRIP_STAT_LEVEL 1) = false ∧ s.pathSettled 1 (16 + 1) true = true) ∧
    (let s : State := { live with tick := 100000 }
     s.edge.active.contains (32 * 1 + 1) = false ∧ s.pathSettled 1 1 false = true ∧ s.edge.active.contains (32 * 1 + 17) = false ∧
     s.pathSettled 1 17 false = true) := by decide

/-- A level that rose at tick 10, filtered over three samples, at tick 12. -/
theorem witness_path_history : let level := fun (u : Nat) => decide (10 ≤ u)
    let x : PathSt := { at_ := 10 }
    (0 < 1 ∧ x.at_ ≤ 12 ∧ (∀ u, x.at_ ≤ u → u ≤ 12 → level u = level 12) ∧ x.since < (x.at_ + 1 - 1) / 1 ∧
      (∀ j, x.since ≤ j → j < (x.at_ + 1 - 1) / 1 → level (1 * j) = x.lv) ∧ x.since = 0) ∧ x.settled 1 2 (level 12) true 12 = true := by
  refine ⟨⟨by decide, by decide, fun u h _ => ?_, by decide, fun j _ h => ?_, rfl⟩, by decide⟩
  · have h : 10 ≤ u := h
    simp [h]
  · have h : j < 10 := h
    simp [show ¬10 ≤ j by omega]

theorem witness_captures : let s := (live.setFlag (pgCAPT 1) (F.CAP_CTRL_EN 1) true).setF (pgCAPT 1) (F.CAP_CTRL_EDGE 1) 2
    let was : State := { s with samp.capIn := SMap.put [] 17 (false, 0), tick := 100 }
    let fifo := fun (n : Nat) (q : List Nat) => s.setCap 17 { q := q, new := [9], cyc := n }
    (SMap.get? was.samp.capIn 17 = some (false, 0) ∧ 0 + 1 + was.getF (pgCAPT 1) (F.CAP_CTRL_FILT 1) ≤ was.tick ∧
      was.flag (pgCAPT 1) (F.CAP_CTRL_EN 1) = true ∧ was.getF (pgCAPT 1) (F.CAP_CTRL_EDGE 1) = 2) ∧
    ((fifo 0 []).cap 17).cyc = (fifo 0 []).pageCycle (pgCAPT 1) ∧
    (((fifo 5 []).cap 17).cyc ≠ (fifo 5 []).pageCycle (pgCAPT 1) ∧ ((fifo 5 []).cap 17).q.length < 2) ∧
    (((fifo 5 [1, 2]).cap 17).new = [9] ∧ ((fifo 5 [1, 2]).cap 17).q = [1, 2]) ∧
    ((s.setCap 17 { q := [1] }).pageSync (pageCAPT 1) 0x58).capFifo 17 = [1] ∧
    (s.setCap 17 { q := [1] }).Reads (pageCAPT 1) (0x48 + 0x10 * (17 % 16)) 0 :=
  ⟨by decide, by decide, by decide, by decide, by decide, reaches_of (by decide)⟩

/-! ### Loop engines -/

/-- A run of context 5 that stands at step 100 of the four steps from there. -/
def aRun : Run := { (live.newRun 0 5 ⟨[0], 0, false⟩) with start := 0, enter := 8, pc := 100, prog := 100, nstep := 4, gens := [] }

/-- Slice 2 of tile 0 runs `r`, and step 100 of the program has code `op`; the tick is the first at which its pair may execute. -/
def looping (r : Run) (op : Nat) : State :=
  { live with loop.runs := SMap.put [] 2 [r], loop.prog := SMap.put [] 100 op, tick := 8 }

/-- LoopSteps: every step code of R113 at the first tick in which it may execute. -/
theorem witness_loop_steps : ∀ op ∈ stepOps, (looping aRun op).AtStep 0 2 op aRun [] := by
  have h : ∀ op ∈ stepOps, (looping aRun op).runsAt 0 2 = [aRun] ∧ aRun.enter + aRun.pairs ≤ (looping aRun op).tick ∧
      bits ((looping aRun op).stepAt 0 aRun.pc) 0 8 = op ∧ SMap.has (looping aRun op).loop.progBad (4096 * 0 + aRun.pc) = false := by    decide
  exact fun op hop => ⟨(h op hop).1, (h op hop).2.1, (h op hop).2.2.1, (h op hop).2.2.2⟩

/-- LoopFilters: a working copy, and the highest state number of each step. -/
theorem witness_loop_filters : aRun.w.length = 16 ∧ aRun.v.length = 8 ∧ stNOSAT (2 ^ 34) = false ∧ bits (2 ^ 34) 32 3 = 4 ∧
    bits (3 * 2 ^ 32) 32 3 < 4 := by decide

/-- LoopRuns: a software trigger of a context that is enabled, pending and disabled; a dispatch; a commit of each kind; a shared value; a
program step in a window and outside. -/
theorem witness_triggers : let p := pageLENG 0
    let on : State := { live with loop.ctx := SMap.put [] (ctxKey 0 5 0) 7 }
    let pend : State := { on with loop.pend := SMap.put [] 5 ⟨[0], 0, false⟩, tick := 1 }
    (on.Writes p 0x4C 0 5 ∧ on.refireOf 0 = none ∧ on.ctxEN 0 5 = true ∧ SMap.has on.loop.pend (2048 * 0 + 5) = false) ∧
    (pend.Writes p 0x4C 0 5 ∧ pend.ctxEN 0 5 = true ∧ SMap.has pend.loop.pend (2048 * 0 + 5) = true) ∧
    (live.Writes p 0x4C 0 2047 ∧ live.ctxEN 0 2047 = false) ∧
    (pend.setFlag (pgLENG 0) F.LENG_CTRL_DISP_EN true).dispatches 0 = true ∧ pend.nextTrig 0 = some (5, ⟨[0], 0, false⟩) ∧
    pend.pickSlice 0 = some 0 ∧ SMap.get? pend.loop.swapNext (16 * 0 + 0) = none :=
  ⟨⟨writes_of (by decide), by decide⟩, ⟨writes_of (by decide), by decide⟩, ⟨writes_of (by decide), by decide⟩, by decide⟩

theorem witness_commits : ∀ f ∈ [0, 1, 2, 3],
    let r := { aRun with ended := true, fault := f }
    let s : State := { live with loop.commits := SMap.put [] 2 [r], tick := 15 }
    SMap.getD s.loop.commits (16 * 0 + 2) [] = [r] ∧ r.enter + r.pairs + 7 ≤ s.tick ∧ r.fault = f := by decide

theorem witness_loop_stores :
    (live.Writes (pageLENG 0) (0x400 + 4 * 255) 0 7) ∧
    (let s : State := { live with loop.shv := [(0, 7, 9, 0, 0)] }
     s.loop.shv = [(0, 7, 9, 0, 0)] ∧ 0 ≤ s.tick) ∧
    live.Arrives (.prog 0 800) ⟨0, 0x080E0000 + 800, 8, true, 1⟩ ∧
    (looping aRun 1).Arrives (.prog 0 800) ⟨0, 0x080E0000 + 800, 8, true, 1⟩ ∧
    stepOk 0xFF = false ∧ stepOk 1 = true ∧ live.stepInUse 0 100 = false ∧ (looping aRun 1).stepInUse 0 100 = true ∧
    (let h : HeldStep := ⟨0, 800, 8, 1, 0, 0x080E0000 + 800⟩
     let s : State := { live with loop.heldSteps := [h] }
     s.loop.heldSteps = [h] ∧ s.stepInUse 0 (h.off / 8) = false ∧ h.merge (s.stepDue 0 100) = 1) :=
  ⟨writes_of (by decide), by decide, ⟨by decide, by decide, by decide, by decide, by decide, by decide, by decide⟩,
    ⟨by decide, by decide, by decide, by decide, by decide, by decide, by decide⟩, by decide⟩

/-! ### Generators -/

/-- Generator 3 of tile 0 in state `st`, with RUN, ARM and CLR_REQ as bits 0 to 2 of `ctrl`, a shadow PER of `per`, and the hidden
state `x`, in the tick given. -/
def gating (st ctrl per : Nat) (x : Gen) (tick : Nat) : State :=
  let b := pgPWMG 0 3
  let s := (((live.setFlag b (F.PWMG_CTRL_RUN 3) (bit ctrl 0)).setFlag b (F.PWMG_CTRL_ARM 3) (bit ctrl 1)).setFlag b (F.PWMG_CTRL_CLR_REQ 3)
    (bit ctrl 2)).setF b (F.PWMG_PER_PER 3) per
  let s := s.setGen 0 3 x
  { (if st = 0 then s else s.setGenState 0 3 st) with tick := tick }

/-- CTRL is written from `old` to `v` in a state with the lock open. -/
def ctrlB (s : State) (old v : Nat) : Bool :=
  let b := pgPWMG 0 3
  decide (s.wordAt (b + (0x80 + 0x60 * (3 % 16))) = old) && decide (old < 16) && bit old 0 == s.flag b (F.PWMG_CTRL_RUN (3 % 16)) &&
    bit old 1 == s.flag b (F.PWMG_CTRL_ARM (3 % 16)) && bit old 2 == s.flag b (F.PWMG_CTRL_CLR_REQ (3 % 16)) &&
    bit old 3 == s.flag b (F.PWMG_CTRL_SH_HOLD (3 % 16)) &&
    (reachesB s (pagePWMG 0 3) (0x80 + 0x60 * (3 % 16)) ⟨0, (pagePWMG 0 3).base + (0x80 + 0x60 * (3 % 16)), 4, true, v⟩ && decide (v < 2 ^ 32) &&
      !s.wordUnder (pagePWMG 0 3) (0x80 + 0x60 * (3 % 16)) 4 0) &&
    decide (s.stagedFor 0 = none)

theorem ctrl_of {s : State} {old v : Nat} (h : ctrlB s old v = true) : s.WritesCtrl 0 3 0 old v := by
  simp only [ctrlB, Bool.and_eq_true, decide_eq_true_eq, beq_iff_eq] at h
  obtain ⟨⟨⟨⟨⟨⟨⟨h1, h2⟩, h3⟩, h4⟩, h5⟩, h6⟩, h7⟩, h8⟩ := h
  exact ⟨⟨h1, h2, h3, h4, h5, h6⟩, writes_of (by simpa only [Bool.and_eq_true, decide_eq_true_eq] using h7), by decide, fun _ => h8⟩

/-- GeneratorControl: each field of CTRL written where it takes effect and where it does not, at the PERs 63 and 64. -/
theorem witness_generator_control : let u := fun (st ctrl per : Nat) => unlocked (gating st ctrl per {} 0) (pagePWMG 0 3)
    let bound := unlocked ((gating 0 0 64 {} 0).setF (pgPWMG 0 3) (F.PWMG_BIND_MODE 3) 1) (pagePWMG 0 3)
    ((u 0 0 64).WritesCtrl 0 3 0 0 1 ∧ (u 0 0 64).shadowPer 0 3 = 64 ∧ (u 0 0 64).genState 0 3 = 0) ∧
    ((u 0 0 63).WritesCtrl 0 3 0 0 1 ∧ (u 0 0 63).shadowPer 0 3 = 63) ∧
    (u 3 3 64).WritesCtrl 0 3 0 3 2 ∧ ((u 1 1 64).WritesCtrl 0 3 0 1 0 ∧ (u 1 1 64).genState 0 3 ≠ 5) ∧
    (bound.WritesCtrl 0 3 0 0 2 ∧ bound.genState 0 3 < 2 ∧ bound.lockOpen (pagePWMG 0 3) 0 = true ∧ bound.armRefused 0 3 = false) ∧
    ((u 5 0 64).WritesCtrl 0 3 0 0 2 ∧ (u 5 0 64).genState 0 3 = 5 ∧ (u 5 0 64).lockOpen (pagePWMG 0 3) 0 = true ∧
      (u 5 0 64).armRefused 0 3 = true) ∧
    ((gating 1 0 64 {} 0).WritesCtrl 0 3 0 0 2 ∧ (gating 1 0 64 {} 0).lockOpen (pagePWMG 0 3) 0 = false) ∧
    (u 3 2 64).WritesCtrl 0 3 0 2 0 ∧ ((u 4 2 64).WritesCtrl 0 3 0 2 6 ∧ (u 4 2 64).genState 0 3 = 4) :=
  ⟨⟨ctrl_of (by decide), by decide⟩, ⟨ctrl_of (by decide), by decide⟩, ctrl_of (by decide), ⟨ctrl_of (by decide), by decide⟩,
    ⟨ctrl_of (by decide), by decide, unlocked_open _ _, by decide⟩, ⟨ctrl_of (by decide), by decide, unlocked_open _ _, by decide⟩,
    ⟨ctrl_of (by decide), by decide⟩, ctrl_of (by decide), ctrl_of (by decide), by decide⟩

/-- Reload: a generator that is not armed, at the tick of its reload, with the PERs 63 and 64. -/
theorem witness_reload : ∀ per ∈ [63, 64], let s := gating 1 1 per { per := 64 } 64
    s.flag (pgPWMG 0 3) (F.PWMG_CTRL_RUN (3 % 16)) = true ∧ s.nextReload 0 3 ≤ s.tick ∧ s.genState 0 3 < 2 ∧ (s.gen 0 3).shPend = [] ∧
    (s.rec_ 0 3).repeating = false ∧ s.flag (pgPWMG 0 3) (F.PWMG_CTRL_SH_HOLD (3 % 16)) = false ∧
    SMap.get? s.bus.frozen (pgPWMG 0 3) ≠ some 1 ∧ s.shadowPer 0 3 = per ∧ s.gateShut 0 = false := by decide

/-- A generator whose compares all match at count 10. -/
def aGen (which : Nat) : Gen :=
  { per := 64, on_ := 320, off_ := 320, eva := 320, evb := 320, pulse := true, pOn := 320, pOff := 320, m := which == 1 }

/-- GeneratorEvents: each event of a generator in the first tick in which it may happen. -/
theorem witness_generator_events :
    (let s := gating 1 1 64 { per := 64 } 63
     s.gateShut 0 = false ∧ s.genRuns 0 3 = true ∧ (s.gen 0 3).per ≤ s.genCount 0 3 + 1 ∧ bit (s.gen 0 3).matched 4 = false) ∧
    (∀ which < 4, let s := gating 3 3 64 (aGen which) 10
      s.gateShut 0 = false ∧ s.genRuns 0 3 = true ∧ bit (s.gen 0 3).matched which = false ∧
      (s.gen 0 3).cmpAt (s.genState 0 3 == 3) which / 32 < (s.gen 0 3).per ∧
      (s.gen 0 3).cmpAt (s.genState 0 3 == 3) which / 32 ≤ s.genCount 0 3 ∧ s.genState 0 3 = 3 ∧ s.bindMode 0 3 ≠ 2 ∧
      (s.gen 0 3).pulse = true ∧ (s.gen 0 3).m = (which == 1) ∧ (s.gen 0 3).catchAt = none ∧
      (s.setF (pgPWMG 0 3) (F.PWMG_BIND_MODE 3) 2).bindMode 0 3 = 2 ∧ (s.setF (pgPWMG 0 3) (F.PWMG_BIND_MODE 3) 2).genState 0 3 = 3) ∧
    (let s := gating 3 3 64 { per := 64, hRise := some 320, lRise := some 320 } 10
     s.gateShut 0 = false ∧ s.bindMode 0 3 ≠ 2 ∧ 320 / 32 ≤ s.tick ∧ (s.gen 0 3).hRise = some 320 ∧ (s.gen 0 3).lRise = some 320) ∧
    (let s := live.setLanes 0 { live.lanesOf 0 with delayed := [⟨3, true, true, 320⟩] }
     s.gateShut 0 = false ∧ (s.lanesOf 0).delayed = [⟨3, true, true, 320⟩] ∧ 3 ≤ (s.freeLanes 0).length) ∧
    (∀ k < 5, (gating 1 1 64 { shPend := [(10, k, 80, 5)] } 10).gen 0 3 = { shPend := [(10, k, 80, 5)] }) := by decide

/-- No loop commit and no higher requester has written the shadow in the cycle. -/
theorem witness_shadow_first : live.loopEntered 0 3 = [] ∧ ∀ f, live.softUnder (pgPWMG 0 3) f 0 0 = false :=
  ⟨by decide, fun _ => rfl⟩

theorem witness_shadow_writes : let p := pagePWMG 0 3
    let imm := (live.setFlag (pgPWMG 0 3) (F.PWMG_CFG_EVA_IMM 3) true).setFlag (pgPWMG 0 3) (F.PWMG_CFG_EVB_IMM 3) true
    (∀ reg ∈ [0, 1, 2, 3, 4, 5], live.Writes p (0x88 + 0x60 * (3 % 16) + 4 * reg) 0 80) ∧ live.unstaged p ∧
    live.flag (pgPWMG 0 3) (F.PWMG_CFG_EVA_IMM 3) = false ∧ live.flag (pgPWMG 0 3) (F.PWMG_CFG_EVB_IMM 3) = false ∧
    imm.Writes p (0x88 + 0x60 * (3 % 16) + 4 * 4) 0 80 ∧ imm.Writes p (0x88 + 0x60 * (3 % 16) + 4 * 5) 0 80 ∧ imm.unstaged p ∧
    imm.flag (pgPWMG 0 3) (F.PWMG_CFG_EVA_IMM (3 % 16)) = true ∧ imm.flag (pgPWMG 0 3) (F.PWMG_CFG_EVB_IMM (3 % 16)) = true := by
  refine ⟨?_, fun _ => by decide, by decide, by decide, writes_of (by decide), writes_of (by decide), fun _ => by decide, by decide, by decide⟩
  intro reg h
  simp only [List.mem_cons, List.not_mem_nil, or_false] at h
  rcases h with rfl | rfl | rfl | rfl | rfl | rfl <;> exact writes_of (by decide)

theorem witness_phase_load : ∀ which < 2, let s := arrived live (lathTile 0) (80 + which)
    let t := s.updLath 0 fun L => { L with tookAt := SMap.put [] (80 + which) 0 }
    s.headTok (lathTile 0) (80 + 2 * 0 + which) ≠ none ∧ s.tookNow (lathTile 0) (80 + 2 * 0 + which) = false ∧
    t.headTok (lathTile 0) (80 + 2 * 0 + which) ≠ none ∧ t.tookNow (lathTile 0) (80 + 2 * 0 + which) = true := by
  decide

theorem witness_bind : let p := pagePWMG 0 3
    let s := unlocked live p
    let armed := unlocked (live.setGenState 0 3 2) p
    s.lockOpen p 0 = true ∧ armed.lockOpen p 0 = true ∧ s.unstaged p ∧ armed.unstaged p ∧
    (s.Writes p (0x80 + 0x60 * (3 % 16) + 0x2C) 0 0x3035 ∧ s.rwlSame p (0x80 + 0x60 * (3 % 16) + 0x2C) ⟨0, 4, 0x3035, true⟩ = false ∧
      s.genState 0 3 ∈ [0, 1, 5] ∧ s.bindCause 0 3 0x3035 = 0) ∧
    (s.Writes p (0x80 + 0x60 * (3 % 16) + 0x2C) 0 3 ∧ s.rwlSame p (0x80 + 0x60 * (3 % 16) + 0x2C) ⟨0, 4, 3, true⟩ = false ∧ s.bindCause 0 3 3 ≠ 0) ∧
    (armed.Writes p (0x80 + 0x60 * (3 % 16) + 0x2C) 0 0x3035 ∧ armed.rwlSame p (0x80 + 0x60 * (3 % 16) + 0x2C) ⟨0, 4, 0x3035, true⟩ = false ∧
      armed.genState 0 3 ∉ [0, 1, 5]) :=
  ⟨unlocked_open _ _, unlocked_open _ _, fun _ => by decide, fun _ => by decide, ⟨writes_of (by decide), by decide⟩,
    ⟨writes_of (by decide), by decide⟩, ⟨writes_of (by decide), by decide⟩⟩

theorem witness_trips : let s := (gating 3 3 64 { per := 64 } 10).setF (pgPWMG 0 3) (F.PWMG_TRIPSEL_PIN 3) 2
    let s : State := { s with edge.active := [17] }
    let on := (live.setFlag (pgTRIP 0) (F.TRIP_CTRL_EN 1) true).setFlag (pgTRIP 0) (F.TRIP_CTRL_POL 1) false
    let low : State := { on with samp.inp := SMap.put on.samp.inp 17 0 }
    let high : State := { on with samp.inp := SMap.put on.samp.inp 17 1 }
    (low.sourceActive 0 17 = low.edge.active.contains 17) ≠ (high.sourceActive 0 17 = high.edge.active.contains 17) ∧
    s.gateShut 0 = false ∧ s.genState 0 3 = 3 ∧ s.blanked 0 3 = false ∧ s.tripSource 0 3 = some 17 := by decide

/-! ### Cell links and nodes -/

/-- A header with its check bits. -/
def headed (n : Nat) : Nat := n + 2 ^ 48 * crc8 (natBytes n 6)

/-- Ring 0 runs with four nodes and locked receivers, in a tick. -/
def ringing (x : RingSt) (tick : Nat) : State :=
  let b := pgRING 0
  let s := ((((live.setFlag b F.RING_CTRL_EN true).setF b F.RING_CTRL_NODES 4).setFlag b F.RING_STAT_RX_CW true).setFlag b
    F.RING_STAT_RX_CCW true).setFlag b F.RING_CTRL_EDGE_EN true
  { s.setRing 0 x with tick := tick }

/-- The line of a frame that a scrambler sends first after its reset: each block behind the bits of the one before. -/
def wired (sof : Nat) (blocks : List Nat) : List LineBlock :=
  let z := onLines 0 (frameLine sof blocks (frameCrc sof blocks))
  lineOf (z.headD (0, 0)) (z.tail.dropLast) (z.getLastD (0, 0))

/-- What State.Hears asks for, as a truth value. -/
def hearsB (s : State) (d sof : Nat) (blocks : List Nat) (ty : Nat) : Bool :=
  decide ((wired sof blocks).map (s.linePlain (rxLane 0 d)) = frameLine sof blocks (frameCrc sof blocks)) && s.rxOpen 0 d && decide ((s.ring 0).rx d = none) && decide (crc8 (natBytes sof 6) = bits sof 48 8) &&
    decide (blocks.length = bits sof 32 4) && decide (frameCrc sof blocks < 2 ^ 32) && decide (bits sof 0 4 = ty) && typeBlocks ty blocks.length

theorem hears_of {s : State} {d sof ty : Nat} {blocks : List Nat} (h : hearsB s d sof blocks ty = true) :
    s.Hears 0 d (wired sof blocks) sof blocks (frameCrc sof blocks) ty := by
  simp only [hearsB, Bool.and_eq_true, decide_eq_true_eq] at h
  obtain ⟨⟨⟨⟨⟨⟨⟨h0, h1⟩, h2⟩, h3⟩, h4⟩, h5⟩, h6⟩, h7⟩ := h
  exact ⟨h0, h1, h2, h3, h4, h5, rfl, h6, h7⟩

/-- RingLinks: a MEAS frame of position 3, the highest, a first one, one that is not newer, and one with FLAGS 1; an answer to a
request in flight; the return of a calibration and of an enumeration. -/
theorem witness_frames : let meas := headed (2 + 64 * 3 + 2 ^ 16 * 7 + 2 ^ 32 * 4)
    let flagged := headed (2 + 64 * 3 + 2 ^ 16 * 7 + 2 ^ 32 * 4 + 2 ^ 40)
    let s := ringing {} 9
    let q : MOut := ⟨7, ⟨8, 3, false, 0, 0, 0⟩, 0⟩
    let asked := ringing { out := [q] } 9
    let cal := (ringing { pos := SMap.put [] 3 { cal := [0, 1] } } 9).setFbit (pgRING 0) F.RING_UP_UP 3 true
    s.Hears 0 0 (wired meas [0, 0, 0, 0]) meas [0, 0, 0, 0] (frameCrc meas [0, 0, 0, 0]) 2 ∧ s.Hears 0 0 (wired flagged [0, 0, 0, 0]) flagged [0, 0, 0, 0] (frameCrc flagged [0, 0, 0, 0]) 2 ∧
    (Frame.ofHead meas [0, 0, 0, 0]).pos < s.getF (pgRING 0) F.RING_CTRL_NODES ∧ (Frame.ofHead meas [0, 0, 0, 0]).flags % 2 = 0 ∧
    (Frame.ofHead flagged [0, 0, 0, 0]).flags % 2 = 1 ∧ newer none 7 = true ∧ newer (some 7) 7 = false ∧
    (Frame.ofHead (headed (4 + 64 * 3)) []).pos < asked.getF (pgRING 0) F.RING_CTRL_NODES ∧ q.req.kind = 0 ∧ q.req.addr ≠ 4 ∧
    (let f := headed (4 + 64 * 3 + 2 ^ 16 * 7 + 2 ^ 32)
     asked.Hears 0 1 (wired f [8]) f [8] (frameCrc f [8]) 4 ∧
     ((asked.heardUp 0 3).ring 0).out.find? (fun e => e.req.pos == 3 && e.seq == 7) = some q) ∧
    (let f := headed (7 + 64 * 3 + 2 ^ 16 * 7 + 2 ^ 32 * 2)
     cal.Hears 0 0 (wired f [0, 0]) f [0, 0] (frameCrc f [0, 0]) 7 ∧ (((cal.heardUp 0 3).ring 0).place 3).cal.contains (1 - 0) = true) ∧
    (let f := headed (8 + 2 ^ 32)
     s.Hears 0 0 (wired f [3]) f [3] (frameCrc f [3]) 8 ∧ bit (bits f 40 8) 1 = false) :=
  ⟨hears_of (by decide), hears_of (by decide), by decide, by decide, by decide, by decide, by decide, by decide, by decide, by decide,
    ⟨hears_of (by decide), by decide⟩,
    ⟨hears_of (by decide), by decide⟩, hears_of (by decide), by decide⟩

theorem witness_breaks : let blk := 0x4B + 256 * (3 + 2 ^ 5)
    let blk := blk + 2 ^ 56 * crc8 (natBytes (blk / 256) 6)
    let told := fun (tick : Nat) => { (ringing {} 0).setFlag (pgRING 0) F.RING_BRK_CW_VALID true with tick := tick }
    let bad := headed 2 + 2 ^ 48
    ((ringing {} 0).rxOpen 0 0 = true ∧ ((ringing {} 0).ring 0).rx 0 = none ∧ (ringing {} 0).rxOpen 0 1 = true) ∧
    blk % 256 = 0x4B ∧ crc8 (natBytes (blk / 256) 6) = bits (blk / 256) 48 8 ∧ bits (blk / 256) 6 42 = 0 ∧ bit blk 13 = true ∧
    (ringing {} 0).linePlain (rxLane 0 0) (onLine 0 (2, blk)) = (2, blk) ∧
    ((told 20000).flag (pgRING 0) F.RING_BRK_CW_VALID = true ∧ ((told 20000).ring 0).brkCw + 20000 ≤ (told 20000).tick) ∧
    crc8 (natBytes bad 6) ≠ bits bad 48 8 ∧ ([] : List Nat).length = bits (headed 2) 32 4 ∧ frameCrc (headed 2) [] ≠ 0 ∧
    (∀ x ∈ [bad, headed 2], (onLines 0 (frameLine x [] 0)).map ((ringing {} 0).linePlain (rxLane 0 0)) = frameLine x [] 0) ∧
    (live.setFlag (pgSERD 0) (F.SERD_LSTAT_LOCK (0 % 32)) true).flag (pgSERD 0) (F.SERD_LSTAT_LOCK (0 % 32)) = true ∧
    live.laneReset 0 = false ∧ 5 * (SMap.getD live.link.lanes 0 {}).goodAt + 64 * 132 ≤ 5 * 1690 := by decide

theorem witness_transmitters : let f : Frame := ⟨3, false, 3, 0, 7, 0, [0]⟩
    let i : QItem := ⟨3, 9, f, false⟩
    (let s := ringing { cw := [i] } 26
     s.flag (pgRING 0) F.RING_CTRL_EN = true ∧ s.laneReset (2 * 0) = false ∧ (s.ring 0).busyCw ≤ 5 * s.tick + (s.ring 0).toBoundary s.tick ∧
     (s.ring 0).mayStart s.tick i.frame.ty = true ∧
     ((s.ring 0).cw.find? fun j => s.flag (pgRING 0) F.RING_CTRL_EDGE_EN || j.frame.ty != 1) = some i ∧ i.cls ≠ 1) ∧
    (let s := ringing { again := [(9, f)] } 9
     (s.ring 0).again = [(9, f)] ∧ 9 ≤ s.tick) ∧
    (let q : Mreq := ⟨4, 3, false, 0, 0, 0⟩
     let s := ringing { reqs := [q] } 9
     (s.ring 0).own.find? (s.hasCredit 0) = none ∧ (s.ring 0).reqs = [q] ∧ s.lost 0 q.pos = false ∧
     q.pos < s.getF (pgRING 0) F.RING_CTRL_NODES ∧ s.hasCredit 0 q = true ∧
     (s.ring 0).rsp.length + ((s.ring 0).out.filter fun o => o.req.kind == 0).length < 16) ∧
    (let o : MOut := ⟨7, ⟨8, 3, false, 0, 0, 0⟩, 0⟩
     let s := (ringing { out := [o] } (2000 * 50)).setF (pgRING 0) F.RING_TMO_MGMT_TMO 50
     ((s.ring 0).out.find? fun e => e.at_ + 2000 * s.getF (pgRING 0) F.RING_TMO_MGMT_TMO ≤ s.tick) = some o ∧ o.req.kind = 0) ∧
    (let s := (ringing {} 9).setFlag (pgRING 0) F.RING_CTRL_TIME_EN true
     s.flag (pgRING 0) F.RING_CTRL_EN = true ∧ s.flag (pgRING 0) F.RING_CTRL_TIME_EN = true ∧ (s.ring 0).timeAt = none) := by decide

theorem witness_requests : let q : Mreq := ⟨4, 3, false, 0, 0, 0⟩
    let p := pageRING 0
    let full := ringing { reqs := List.replicate 16 q } 9
    live.Writes p 0x78 0 7 ∧ (live.Writes p 0x7C 0 7 ∧ (live.ring 0).reqs.length < 16) ∧
    (full.Writes p 0x7C 0 7 ∧ 16 ≤ (full.ring 0).reqs.length) ∧
    (let s := ringing { rsp := [(5, 6)] } 9
     s.Reaches p 0x80 ⟨0, pgRING 0 + 0x80, 8, false, 0⟩ ∧ (s.ring 0).rsp = [(5, 6)]) :=
  ⟨writes_of (by decide), ⟨writes_of (by decide), by decide⟩, ⟨writes_of (by decide), by decide⟩, reaches_of (by decide), by decide⟩

theorem witness_ring_commands : let p := pageRING 0
    let s := (ringing {} 9).setFlag (pgRING 0) F.RING_CTRL_EDGE_EN false
    let old := s.wordAt (pgRING 0 + 0x40)
    ∀ k ∈ [0x10, 0x20, 0x60], let v := old - (old &&& 0x70) + k
      s.Writes p 0x40 0 v ∧ bit v 0 = s.flag (pgRING 0) F.RING_CTRL_EN ∧ bit v 1 = s.flag (pgRING 0) F.RING_CTRL_EDGE_EN ∧
      bits v 8 6 = s.getF (pgRING 0) F.RING_CTRL_NODES ∧ bits v 8 6 ≤ 32 ∧
      (s.put p (s.wrOf p 0 v) 0x40 [F.RING_CTRL_CAL, F.RING_CTRL_ENUM] []).2 = 0 ∧ bits v 4 3 = k / 16 ∧
      s.flag (pgRING 0) F.RING_CTRL_CAL = false ∧ s.flag (pgRING 0) F.RING_CTRL_ENUM = false := by
  intro p s old k hk
  simp only [List.mem_cons, List.not_mem_nil, or_false] at hk
  rcases hk with rfl | rfl | rfl <;> exact ⟨writes_of (by decide), by decide⟩

theorem witness_positions : let b := pgRING 0
    (let s := { (ringing {} 0).setFlag b F.RING_CTRL_CAL true with tick := 2000000 }
     s.flag b F.RING_CTRL_CAL = true ∧ (s.ring 0).calAt + 2000000 ≤ s.tick) ∧
    (let s := { ((ringing {} 0).setFbit b F.RING_UP_UP 3 true).setF b F.RING_TMO_LOSS_TMO 50 with tick := 100000 }
     s.fbit b F.RING_UP_UP 3 = true ∧ ((s.ring 0).place 3).upAt + 2000 * s.getF b F.RING_TMO_LOSS_TMO ≤ s.tick) ∧
    (let s := (ringing {} 0).setFlag b F.RING_CTRL_AUTO_JOIN true
     s.flag b F.RING_CTRL_EN = true ∧ s.flag b F.RING_CTRL_AUTO_JOIN = true ∧ 3 < s.getF b F.RING_CTRL_NODES ∧
     s.fbit b F.RING_UP_UP 3 = false ∧ (s.ring 0).autoAt = none) ∧
    (let s := (ringing { pos := SMap.put [] 3 { caps := true } } 0).setFbit b F.RING_JOIN_JOIN 3 true
     s.fbit b F.RING_JOIN_JOIN 3 = true ∧ ((s.ring 0).place 3).caps = true ∧ ((s.ring 0).place 3).cal = [] ∧
     ((s.ring 0).place 3).writes = 0) := by decide

theorem witness_lane_reset : let p := pageSERD 0
    let v := (live.wordAt (p.base + 0x80)) - (live.wordAt (p.base + 0x80) &&& 1) + 1
    live.Writes p 0x80 0 v ∧ bit v 0 = true ∧ live.flag (pgSERD 0) (F.SERD_LCTRL_RST (0 % 32)) = false ∧
    (live.put p (live.wrOf p 0 v) 0x80).2 = 0 :=
  ⟨writes_of (by decide), by decide⟩

/-- The node at place 3 of ring 0, in the tick given; its time is the tick's. -/
def noding (x : NodeSt) (tick : Nat) : State := { live.setNode 3 x with tick := tick }

/-- What State.NodeHears asks for, as a truth value. -/
def nodeHearsB (s : State) (sof : Nat) (blocks : List Nat) (ty : Nat) : Bool :=
  decide ((wired sof blocks).map plainBlock = frameLine sof blocks (frameCrc sof blocks)) && decide (crc8 (natBytes sof 6) = bits sof 48 8) && decide (bits sof 0 4 = ty) && decide (blocks.length = bits sof 32 4) &&
    (bit sof 5 || ((s.node 3).assigned && bits sof 6 5 == (s.node 3).pos)) && decide (frameCrc sof blocks < 2 ^ 32)

theorem node_hears_of {s : State} {sof ty : Nat} {blocks : List Nat} (h : nodeHearsB s sof blocks ty = true) :
    s.NodeHears 3 (wired sof blocks) sof blocks (frameCrc sof blocks) ty := by
  simp only [nodeHearsB, Bool.and_eq_true, Bool.or_eq_true, decide_eq_true_eq, beq_iff_eq] at h
  exact ⟨h.1.1.1.1.1, h.1.1.1.1.2, h.1.1.1.2, h.1.1.2, h.1.2, h.2, rfl⟩

/-- CellNodes: a frame for another node; a set that is current, pending and past; a block command; TIME, ECHO and MREQ; ENUM with the
highest position that may be taken, and the next. -/
theorem witness_node_frames : let x : NodeSt := { assigned := true, pos := 3 }
    let s := noding x 100
    let set := headed (1 + 64 * 3 + 2 ^ 16 * 7 + 2 ^ 32 * 3)
    let entry := [90, 64, 5]
    (let f := headed (3 + 64 * 2 + 2 ^ 32)
     crc8 (natBytes f 6) = bits f 48 8 ∧ [0].length = bits f 32 4 ∧ (Frame.ofHead f [0]).ty ∉ [8] ∧ (Frame.ofHead f [0]).ty ∈ [1, 3, 6] ∧
     (Frame.ofHead f [0]).pos ≠ (s.node 3).pos) ∧
    s.NodeHears 3 (wired set entry) set entry (frameCrc set entry) 1 ∧ bit (Frame.ofHead set entry).flags 0 = false ∧ 3 ≤ entry.length ∧
    (Frame.ofHead set entry).leg < nodeLegs 3 ∧ newer ((s.node 3).leg 0).seq 7 = true ∧
    (32 * (setOf entry).base ≤ s.nodeNow 3 ∧ s.nodeNow 3 < 32 * ((setOf entry).base + (setOf entry).per)) ∧
    (noding x 89).nodeNow 3 < 32 * (setOf entry).base ∧ 32 * ((setOf entry).base + (setOf entry).per) ≤ (noding x 154).nodeNow 3 ∧
    ((s.node 3).leg 0).block = 2 ∧ (({ x with legs := SMap.put [] 0 { block := 1 } } : NodeSt).leg 0).block < 2 ∧
    (let f := headed (1 + 64 * 3 + 2 ^ 16 * 7 + 2 ^ 32 + 2 ^ 40)
     s.NodeHears 3 (wired f [0]) f [0] (frameCrc f [0]) 1 ∧ bit (Frame.ofHead f [0]).flags 0 = true) ∧
    (let f := headed (5 + 32 + 2 ^ 16 * 7 + 2 ^ 32 * 2)
     s.NodeHears 3 (wired f [0, 0]) f [0, 0] (frameCrc f [0, 0]) 5 ∧ (s.node 3).cwSeq ≠ some 7) ∧
    (let f := headed (6 + 64 * 3 + 2 ^ 16 * 7 + 2 ^ 32 * 2)
     s.NodeHears 3 (wired f [0, 0]) f [0, 0] (frameCrc f [0, 0]) 6) ∧
    (let f := headed (3 + 64 * 3 + 2 ^ 16 * 7 + 2 ^ 32)
     s.NodeHears 3 (wired f [4]) f [4] (frameCrc f [4]) 3 ∧ newer (s.node 3).mseq 7 = true ∧ bit 4 12 = false ∧ bit (4 + 2 ^ 12) 12 = true ∧
     s.NodeHears 3 (wired f [4 + 2 ^ 12]) f [4 + 2 ^ 12] (frameCrc f [4 + 2 ^ 12]) 3) ∧ s.nodeRead 3 4 ≠ none ∧ s.nodeRead 3 0x2C = none :=
  ⟨by decide, node_hears_of (by decide), by decide, by decide, Nat.lt_of_lt_of_le (by decide : _ < 1)
    (Nat.succ_le_succ (Nat.zero_le _)), by decide, by decide, by decide, by decide, by decide,
    by decide, ⟨node_hears_of (by decide), by decide⟩, ⟨node_hears_of (by decide), by decide⟩,
    node_hears_of (by decide), ⟨node_hears_of (by decide), by decide, by decide, by decide, node_hears_of (by decide)⟩, by decide, by decide⟩

theorem witness_enumeration : let f := headed (8 + 2 ^ 32)
    let taken : NodeSt := { assigned := true, took := some 0 }
    crc8 (natBytes f 6) = bits f 48 8 ∧ bits f 32 4 = 1 ∧ (Frame.ofHead f [31]).ty = 8 ∧ bit (Frame.ofHead f [31]).flags 0 = false ∧
    (noding {} 9).node 3 = {} ∧ ({} : NodeSt).took = none ∧ ({} : NodeSt).assigned = false ∧ bits 31 0 6 ≤ 31 ∧ 31 < bits 32 0 6 ∧
    ((noding taken 2000000).node 3 = taken ∧ 0 + 2000000 ≤ (noding taken 2000000).tick) ∧
    ((noding taken 1999999).node 3 = taken ∧ (noding taken 1999999).tick < 0 + 2000000) := by
  decide

theorem witness_node_events :
    (let c : NSet := ⟨90, 64, [(0, 0, true)]⟩
     let s := noding { legs := SMap.put [] 0 { cur := some c, todo := [(0, 0, true)], block := 0, repeating := true } } 154
     ((s.node 3).leg 0).cur = some c ∧ ((s.node 3).leg 0).todo = [(0, 0, true)] ∧ ((s.node 3).leg 0).block = 0 ∧
     entryAt c.base (nodeRes 3) 0 ≤ s.nodeNow 3 + 31 ∧
     ((s.node 3).leg 0).pend = none ∧ 32 * (c.base + c.per) ≤ s.nodeNow 3 + 31 ∧ ((s.node 3).leg 0).repeating = true ∧
     ((s.node 3).leg 0).reps + 1 < bits (s.node 3).ctrl 4 4) ∧
    (let s := noding { legs := SMap.put [] 0 { reps := 7 } } 153
     bits (s.node 3).ctrl 4 4 ≤ ((s.node 3).leg 0).reps + 1) ∧
    (let s := noding {} 20000
     (s.node 3).darkAt = some 0 ∧ 0 + 2000 * (s.node 3).lol ≤ s.tick) ∧
    (let s := noding { timeOk := true } 2000000
     (s.node 3).timeOk = true ∧ (s.node 3).timeAt + 2000000 ≤ s.tick ∧ (s.node 3).measAt + 100000 ≤ s.tick) ∧
    (let s := noding { ctrl := 2, mper := 100 } 153
     bit (s.node 3).ctrl 1 = true ∧ (s.node 3).mper ≠ 0 ∧ (s.node 3).sampled = none) := by
  refine ⟨⟨by decide, by decide, by decide, ?_, by decide⟩, by decide⟩
  simp only [entryAt, Nat.zero_div, Nat.mul_zero, Nat.add_zero]
  decide

/-! ### Forecast engines and the kiln log -/

/-- Job 2 of cluster 0: two cells of logical tile 0, one look-ahead step, one candidate; a bank of that form lies in memory. -/
def casting (x : FcstSt) : State :=
  let b := pgJOB 0 2
  let s := (((live.setF b (F.JOB_RUN_COUNT 0) 2).setF b F.JOB_DIM_HM1 0).setF b F.JOB_DIM_JM1 0).setF b F.JOB_LIB_COUNT 1
  let s := (s.setF b (F.JOB_BASE_BASE 0) 0x1000000000).setF b (F.JOB_BASE_BASE 1) 0x1000001000
  (s.writeMem 0x1000000000 [1, 0, 0, 0, 2, 0, 1, 1]).setFc 0 x

/-- A launch of the job, for the boundary at tick 1000 of a period of 500. -/
def aLaunch : Launch := ⟨2, 0, 1000, 500, 0, 0, true, 0⟩

/-- ForecastLaunches: a launch point by an event and by the reference generator, and each stage of a launch with what it needs. -/
theorem witness_launch_points : let b := pgJOB 0 2
    (let s := (arrived (casting {}) (lathClu 0) 162).setFlag b F.JOB_CTRL_EN true
     let s := s.setFlag b F.JOB_CTRL_LAUNCH_SRC true
     s.flag b F.JOB_CTRL_LAUNCH_SRC = true ∧ s.headTok (lathClu 0) (160 + 2) ≠ none ∧
     (s.tookOne (lathClu 0) (160 + 2)).flag b F.JOB_CTRL_EN = true) ∧
    (let s := ((casting { due := [(2, 7)] }).setFlag b F.JOB_CTRL_EN true).setFlag b F.JOB_CTRL_LAUNCH_SRC false
     let s : State := { s with tick := 7 }
     let u : State := { s with fcst := SMap.put s.fcst 0 { s.fc 0 with due := (s.fc 0).due.erase (2, 7) } }
     s.flag b F.JOB_CTRL_LAUNCH_SRC = false ∧ (s.fc 0).due.find? (fun e => e.1 == 2 && decide (e.2 ≤ s.tick)) = some (2, 7) ∧
     u.flag b F.JOB_CTRL_EN = true) ∧
    (let s := (((gating 3 3 64 { per := 64 } 10).setF b F.JOB_REFGEN_GEN 3).setFlag b F.JOB_CTRL_EN true).setFlag b F.JOB_CTRL_LAUNCH_SRC
      false
     s.genState 0 3 = 3 ∧ s.flag b F.JOB_CTRL_EN = true ∧ s.flag b F.JOB_CTRL_LAUNCH_SRC = false ∧ s.jobRef 0 2 = (0, 3) ∧
     (∀ i, i < 15 → i ≠ 2 → s.flag (pgJOB 0 i) F.JOB_CTRL_EN = false) ∧ s.getF b F.JOB_OFS_OFS < (s.gen 0 3).per ∧
     (s.gen 0 3).per ≤ (s.setF b F.JOB_OFS_OFS 64).getF b F.JOB_OFS_OFS) := by decide

theorem witness_launch_stages :
    (((casting { queue := [aLaunch] }).fc 0).run = none ∧ ((casting { queue := [aLaunch] }).fc 0).queue = [aLaunch]) ∧
    (let s := casting { run := some { launch := aLaunch } }
     let bank := Memory.readN s.mem (s.bankAddr 0 aLaunch) (bankSize (s.jobN 0 2) (s.jobH 0 2) (s.jobJ 0 2))
     let w := bytesLE bank 4 4
     (s.fc 0).run = some { launch := aLaunch } ∧ (s.jobCells 0 2).all (fun m => !s.moving m.1) = true ∧ bytesLE bank 0 2 = 1 ∧
     bits w 0 10 = s.jobN 0 2 ∧ bits w 16 5 = s.jobH 0 2 ∧ bits w 24 7 = s.jobJ 0 2 ∧ bits w 0 10 ≠ 3 ∧
     s.ueIn (s.bankAddr 0 aLaunch) (bankSize (s.jobN 0 2) (s.jobH 0 2) (s.jobJ 0 2)) = false ∧
     ({ s with mm.ue := [0x1000000000] } : State).ueIn (s.bankAddr 0 aLaunch) (bankSize (s.jobN 0 2) (s.jobH 0 2) (s.jobJ 0 2)) = true) ∧
    (let r : FRun := { launch := aLaunch, x0 := some [0, 0], ranks := some [0, 1], bank := some [], costs := some [0] }
     let s := casting { run := some r }
     let a := s.tick + ((2 + 16) * 5 + 2) / 3 + 40
     (s.fc 0).run = some r ∧ r.outcome = 0 ∧ a < aLaunch.target ∧
     ({ aLaunch with target := a } : Launch).target ≤ a ∧ a < ({ aLaunch with target := a } : Launch).target + aLaunch.per) ∧
    (let s := casting { plans := [(0, 5, 1, 2)] }
     let st := ({ s with
       loop.stage := SMap.put [] 0 { plans := [⟨5, 3, 4, 0⟩] }, loop.ctx := SMap.put [] (ctxKey 0 5 1) 0x100 } : State).setGenState 0 0 3
     (s.fc 0).plans = [(0, 5, 1, 2)] ∧ (∀ p ∈ (s.stageOf (s.phys 0)).plans, p.ctx ≠ 5) ∧ s.ctxArmed (s.phys 0) 5 = false ∧
     s.dep.refires = [] ∧ (st.fc 0).plans = [(0, 5, 1, 2)] ∧ st.ctxArmed (st.phys 0) 5 = true ∧
     ∃ p ∈ (st.stageOf (st.phys 0)).plans, p.ctx = 5) ∧
    (∀ out ∈ [1, 2], let r : FRun := { launch := aLaunch, outcome := out }
      ((casting { run := some r }).fc 0).run = some r ∧ ((casting { run := some r }).fc 0).plans = [] ∧ r.outcome = out) := by
  decide

theorem witness_job_enable : let p := pageJOB 0 2
    let s := casting {}
    let v := s.wordAt (pgJOB 0 2 + 0x40) - (s.wordAt (pgJOB 0 2 + 0x40) &&& 1) + 1
    let u := s.put p (s.wrOf p 0 v) 0x40 [F.JOB_CTRL_EN]
    (s.Writes p 0x40 0 v ∧ s.flag (pgJOB 0 2) F.JOB_CTRL_EN = false ∧ bit v 0 = true ∧ u.2 = 0 ∧ u.1.jobCause 0 2 = 0) ∧
    (live.Writes p 0x40 0 v ∧ live.flag (pgJOB 0 2) F.JOB_CTRL_EN = false ∧ (live.put p (live.wrOf p 0 v) 0x40 [F.JOB_CTRL_EN]).2 = 0 ∧
      (live.put p (live.wrOf p 0 v) 0x40 [F.JOB_CTRL_EN]).1.jobCause 0 2 ≠ 0) :=
  ⟨⟨writes_of (by decide), by decide⟩, writes_of (by decide), by decide⟩

/-- RankAndWinner: two states that are equal, and two that differ; two costs. -/
theorem witness_ranks : let x := fun (xs : List Nat) (i : Nat) => sgn 16 (xs.getD i 0)
    x [5, 5] 0 ≤ x [5, 5] 1 ∧ x [5, 0xFFFF] 1 < x [5, 0xFFFF] 0 ∧ 1 < [5, 5].length ∧ 1 < ([3, -2] : List Int).length := by decide

/-- KilnLog: the last record that fits, in both modes, and a full area; a stop event; the end of POST; a drained buffer; CLEAR. -/
theorem witness_kiln_log : let b := pgKLOG 0
    let r : KRec := ⟨1, 0, 0, 0, 0, [], 1⟩
    let s := fun (mode : Bool) (w : Nat) => ((live.setFlag b F.KLOG_CTRL_MODE mode).setF b F.KLOG_WPTR_WPTR w).setKl 0 { buf := [r] }
    let cap := live.klogCap 0
    (r.cyc ≠ fcstCycle live.tick ∧ ((s false (cap - 1)).kl 0).buf = [r] ∧ (s false (cap - 1)).flag b F.KLOG_CTRL_MODE = false) ∧
    ((s true (cap - 1)).flag b F.KLOG_CTRL_MODE = true ∧ (s true (cap - 1)).getF b F.KLOG_WPTR_WPTR + 1 = (s true (cap - 1)).klogCap 0) ∧
    ((s true 0).getF b F.KLOG_WPTR_WPTR + 1 < (s true 0).klogCap 0) ∧ (s true cap).klogCap 0 ≤ (s true cap).getF b F.KLOG_WPTR_WPTR ∧
    (let u := (arrived (live.setFlag b F.KLOG_CTRL_STOP_EN true) (lathClu 0) 175).setF b F.KLOG_STAT_STATE 1
     u.headTok (lathClu 0) 175 ≠ none ∧ (u.tookOne (lathClu 0) 175).flag b F.KLOG_CTRL_STOP_EN = true ∧
     (u.tookOne (lathClu 0) 175).getF b F.KLOG_STAT_STATE = 1 ∧ ((u.tookOne (lathClu 0) 175).kl 0).ended = false) ∧
    ((live.setF b F.KLOG_STAT_STATE 2).getF b F.KLOG_STAT_STATE = 2 ∧ ((live.setF b F.KLOG_STAT_STATE 2).kl 0).post = 0) ∧
    (let u := (live.setKl 0 { ended := true }).setF b F.KLOG_STAT_STATE 1
     (u.kl 0).ended = true ∧ (u.kl 0).buf = [] ∧ u.getF b F.KLOG_STAT_STATE = 1) ∧
    (let u := (live.setKl 0 { ended := true }).setF b F.KLOG_STAT_STATE 3
     (u.kl 0).ended = true ∧ (u.kl 0).buf = [] ∧ u.getF b F.KLOG_STAT_STATE = 3 ∧ u.flag b F.KLOG_CTRL_EN = false) := by decide

theorem witness_kiln_clear : ∀ st ∈ [1, 3], let p := pageKLOG 0
    let b := pgKLOG 0
    let s := live.setF b F.KLOG_STAT_STATE st
    let v := s.wordAt (b + 0x40) - (s.wordAt (b + 0x40) &&& 8) + 8
    let u := s.put p (s.wrOf p 0 v) 0x40 [F.KLOG_CTRL_EN, F.KLOG_CTRL_CLEAR]
    s.Writes p 0x40 0 v ∧ u.2 = 0 ∧ bit v 3 = true ∧ bit v 0 = u.1.flag b F.KLOG_CTRL_EN ∧
    bits v F.KLOG_CTRL_MODE.lo 1 = s.getF b F.KLOG_CTRL_MODE ∧ u.1.getF b F.KLOG_STAT_STATE = st := by
  intro st h
  simp only [List.mem_cons, List.not_mem_nil, or_false] at h
  rcases h with rfl | rfl <;> exact ⟨writes_of (by decide), by decide⟩

/-! ### Laths, GPIO and interrupts -/

/-- LathsAndGpio: a production that waits, at the tick in which the lath may take it; an arrival at inputs of every kind. -/
theorem witness_lath_take : let tok : Tok := ⟨2, 0, 600, 0, false, 9⟩
    let s : State := { live.updLath 0 (fun L => { L with waiting := [(600, tok)] }) with tick := 9 }
    takeFirst 600 s.tick (s.lathOf 0).waiting = some (tok, []) ∧
    (∀ i ∈ [0, 63, 64, 79, 80, 111, 112, 143, 144, 159, 176, 191], (arrived live 0 i).headTok (lathTile 0) i ≠ none ∧
      (arrived live 0 i).tookNow (lathTile 0) i = false) ∧
    (∀ i ∈ [0, 127, 128, 143, 144, 159, 160, 174, 176, 191, 192, 199, 200, 215], (arrived live 64 i).headTok (lathClu 0) i ≠ none ∧
      (arrived live 64 i).tookNow (lathClu 0) i = false) ∧
    (∀ i ∈ [0, 31, 32, 39, 40, 47], (arrived live 72 i).headTok lathDev i ≠ none ∧ (arrived live 72 i).tookNow lathDev i = false) ∧
    (live.lathStill 0 = false ∧ live.lathStill 64 = false ∧ live.lathStill 72 = false ∧ live.linkBusy 72 0 = false) ∧
    (live.doorbellWaits (512 * 0 + 384) = false ∧ live.doorbellWaits (20480 + 88) = false ∧ live.doorbellWaits 21248 = false) ∧
    live.flag (pgJOB 0 0) F.JOB_CTRL_LAUNCH_SRC = false ∧
    (let g := (live.setFlag pgGRPL F.GRP_CTRL_EN true).tookOne lathDev 32
     g.grpOn = true) ∧
    live.flag (pgTIMR 0) (F.TMR_CTRL_EN 15) = false ∧ (timing 0 4 {}).flag (pgTIMR 0) (F.TMR_CTRL_EN 3) = true ∧
    (let again := (arrived live 0 80).updLath 0 fun L => { L with tookAt := SMap.put [] 80 live.tick }
     again.headTok (lathTile 0) 80 ≠ none ∧ again.tookNow (lathTile 0) 80 = true) ∧ (live.dmaStart 0 0).2 = 0 ∧ (live.dmaStart 0 31).2 = 0 ∧
    live.linkBusy 0 144 = false ∧ live.linkBusy 64 0 = false := by decide

/-- A row that a COMMIT of the present cycle has replaced; COMMIT and LOAD in one write; a software firing that waits. -/
theorem witness_commit_cycle : let p := pageLATH 64 0
    (SMap.get? ((live.routeCommit 64 0).lathOf 64).was 0 = some (live.tick / 2, 0)) ∧
    (unlocked live p).Writes p 0x54 0 3 ∧ (unlocked live p).lockOpen p 0 = true ∧ live.Writes p 0x54 0 3 ∧
    live.lockOpen p 0 = false ∧
    (let s := live.updLath 64 fun L => { L with swAt := some live.tick }
     (s.updLath 64 fun L => { L with swAt := none }).Writes p 0x4C 0 0 ∧ (s.lathOf 64).swAt = some s.tick) :=
  ⟨by decide, writes_of (by decide), unlocked_open _ _, writes_of (by decide), by decide, writes_of (by decide), by decide⟩

/-- The route registers of a tile's, a cluster's and the device's lath, at both ends of their ranges. -/
theorem witness_routes : ∀ l ∈ [0, 64, 72], let p := pageLATH l 0
    (unlocked live p).lockOpen p 0 = true ∧ (unlocked live p).Writes p 0x54 0 1 ∧ (live.Writes p 0x54 0 1 ∧ live.lockOpen p 0 = false) ∧
    live.Writes p 0x54 0 2 ∧
    (let v := lathP l - 1 + 2 ^ 16 * (lathC l - 1)
     live.Writes p 0x50 0 v ∧ bits v 0 10 < lathP l ∧ bits v 16 8 < lathC l) ∧
    (live.Writes p 0x4C 0 (swCount l - 1) ∧ swCount l - 1 < swCount l) := by
  intro l h
  simp only [List.mem_cons, List.not_mem_nil, or_false] at h
  rcases h with rfl | rfl | rfl <;>
    exact ⟨unlocked_open _ _, writes_of (by decide), ⟨writes_of (by decide), by decide⟩, writes_of (by decide),
      ⟨writes_of (by decide), by decide⟩, writes_of (by decide), by decide⟩

theorem witness_routes_beyond : live.Writes (pageLATH 64 0) 0x50 0 256 ∧ lathP 64 ≤ bits 256 0 10 ∧
    live.Writes (pageLATH 64 0) 0x4C 0 16 ∧ swCount 64 ≤ 16 ∧ live.Writes (pageLATH 72 0) 0x4C 0 63 ∧ swCount 72 ≤ 63 :=
  ⟨writes_of (by decide), by decide, writes_of (by decide), by decide, writes_of (by decide), by decide⟩

/-- A pin's edge once its level has stood for FILT + 1 samples, selected and not, and before; a latched edge of a stopped island, below
the latch's end and at it; the three actions. -/
theorem witness_gpio : let b := pgGPIO 0
    let high (tick : Nat) : State := { live with lath.gpio.raw := SMap.put [] 3 true, tick := tick }
    let both (s : State) := s.setF b (F.GPIO_CTRL_EDGE 3) 2
    let asleep (n : Nat) : State := { live with pwr.asleep := [cluIsland 0 0], lath.gpio.alat := SMap.put [] 3 n }
    (let s := high 2000
     let x := s.gpioAt 3 true
     let u := x.setFbit b F.GPIO_IN_IN 3 true
     x.gpioRuns 3 = true ∧ x.gpioLevel 3 = true ∧ x.fbit b F.GPIO_IN_IN 3 ≠ true ∧ x.gpioSettled 3 = true ∧
     (both u).gpioSelects 3 true = true ∧ (u.setF b (F.GPIO_CTRL_EDGE 3) 1).gpioSelects 3 true = false) ∧
    (((live.setF b (F.GPIO_CTRL_FILT 3) 3).gpioAt 3 true).gpioSettled 3 = false) ∧
    (∀ n ∈ [14, 15], let x := (both (asleep n)).gpioAt 3 true
      x.isleStopped (cluIsland 0 0) = true ∧ x.domOn 89 = true ∧ x.gpioSelects 3 (x.gpioLevel 3) = true ∧ SMap.getD x.lath.gpio.alat 3 0 = n) ∧
    (∀ act < 3, let s := arrived (live.setF b (F.GPIO_CTRL_ACT 3) act) (lathClu 0) 179
      s.headTok (lathClu 0) (176 + 3) ≠ none ∧ s.lathStill (lathClu 0) = false ∧ s.tookNow (lathClu 0) (176 + 3) = false ∧
      (s.tookOne (lathClu 0) (176 + 3)).getF b (F.GPIO_CTRL_ACT 3) = act) := by decide

theorem witness_doorbells : live.Writes (pageINTC 0) 0x40 0 256 ∧ doorbellSrc 0 0 256 = some 256 ∧ live.Writes (pageINTC 0) 0x40 0 400 ∧
    doorbellSrc 0 0 400 = none ∧ live.Writes (pageINTC 40) 0x40 0x1F0 20480 ∧
    (let s : State := { live with lath.int.holdEnd := [(0, 0), (320, 0)] }
     SMap.get? s.lath.int.holdEnd 0 = some 0 ∧ SMap.get? s.lath.int.holdEnd 320 = some 0) ∧
    live.Writes (pageINTC 0) (0x80 + 4 * 15) 0 1 ∧ live.Writes (pageINTC 0) (0xC0 + 4 * 15) 0 1 ∧ live.Reads (pageINTC 40) 0x44 0 :=
  ⟨writes_of (by decide), by decide, writes_of (by decide), by decide, writes_of (by decide), by decide, writes_of (by decide),
    writes_of (by decide), reaches_of (by decide)⟩

/-- InterruptAcceptance: source 5 of tile 0 with a count of 1 at level 0, the highest. -/
def ringed (s : State) : State :=
  let b := pgINTC 0
  ((s.setFbit b (F.INTC_EN_EN 0) 5 true).setF b (F.intcCount 5) 1).setF b (F.intcLevel 5) 0

theorem witness_acceptance : let s := ringed (coreR fun r => { r with psw := r.psw + 4 })
    let x := s.pair 0
    x.replay = [] ∧ s.presented 0 0 = some (0, 5) ∧ 0 < x.r.ipl ∧ x.r.ie = true ∧ x.r.exl = false ∧ x.r.mcl = false ∧
    s.pairAlive 0 = true ∧ s.atBoundary 0 = true ∧ s.halted 0 = false ∧ x.brkDue = false ∧
    s.flag (pgCORE 0) F.CORE_DCTL_HALT_REQ = false ∧ x.dbgDue = none := by decide

theorem witness_wait_ends : let s := (ringed core0).setFlag (pgCORE 0) F.CORE_STAT_WAITING true
    s.presented 0 0 = some (0, 5) ∧ (s.pair 0).r.ie = false ∧ s.flag (pgCORE 0) F.CORE_STAT_WAITING = true := by decide

theorem witness_claim :
    let s := (live.setFlag pgDINTC (F.dintcRouteEN 0) true).setFbit pgDINTC (F.DINTC_EN_EN 0) 3 true
    let s := s.setF pgDINTC (F.dintcCount 3) 1
    s.dintcCandidate 0 ≠ none := by decide

/-! ### The events of a core pair -/

/-- PairEvents: a first mismatch, and a second within 10 ms; a rollback in progress; both kinds of checkpoint; a long unit's result. -/
theorem witness_lockstep :
    (core0.pairAlive 0 = true ∧ (core0.pair 0).replay = [] ∧ (core0.pair 0).lastMis = none) ∧
    (let s := { core0.setPair 0 { core0.pair 0 with lastMis := some 0 } with tick := 20000000 }
     s.pairAlive 0 = true ∧ (s.pair 0).lastMis = some 0 ∧ s.tick ≤ 0 + 20000000) ∧
    ((core0.setPair 0 { core0.pair 0 with rolling := some 0 }).pair 0).rolling = some 0 ∧
    (let s : State := { core0 with tick := 100000 }
     let g := s.setPair 0 { s.pair 0 with grp := some ⟨0, false, false, [], false⟩ }
     s.pairAlive 0 = true ∧ (s.pair 0).r.mcl = false ∧ s.atBoundary 0 = true ∧ (s.pair 0).replay = [] ∧ (s.pair 0).grp = none ∧
     s.flag (pgCORE 0) F.CORE_CKPT_GVALID = false ∧ (s.pair 0).ckAt + 100000 ≤ s.tick ∧ (g.pair 0).grp ≠ none ∧ g.atBoundary 0 = true) ∧
    (let s := core0.setPair 0 { core0.pair 0 with log := List.replicate 1008 ⟨0, 0, 4, 0, 0, false⟩ }
     s.pairAlive 0 = true ∧ (s.pair 0).r.mcl = false ∧ s.atBoundary 0 = true ∧ (s.pair 0).replay = [] ∧ (s.pair 0).grp = none ∧
     s.flag (pgCORE 0) F.CORE_CKPT_GVALID = false ∧ s.tick < (s.pair 0).ckAt + 100000 ∧ 1008 ≤ (s.pair 0).log.length) ∧
    (let s := ((gating 1 1 64 { per := 64, origin := 10 } 20).setFlag (pgCORE 0) F.CORE_CTRL_HOLD false).setFlag (pgCORE 0)
      F.CORE_CKPT_GVALID true
     let s := s.setF (pgCORE 0) F.CORE_CKPT_GEN 3
     s.pairAlive 0 = true ∧ s.flag (pgCORE 0) F.CORE_CKPT_GVALID = true ∧ s.genRuns (0 / 2) (s.getF (pgCORE 0) F.CORE_CKPT_GEN) = true ∧
     (s.pair 0).ckAt < (s.gen (0 / 2) (s.getF (pgCORE 0) F.CORE_CKPT_GEN)).origin) := by decide

theorem witness_long_result : let o : LongOp := ⟨0, [(1, 7)], 0, false⟩
    ((core0.setPair 0 { core0.pair 0 with longs := [o] }).pair 0).longs = [o] ∧ o.ready ≤ core0.coreCycle 0 :=
  ⟨by decide, Nat.zero_le _⟩

/-- A load of a word that pair 0 waits for, with its response. -/
def aLoad (dest : Nat) (resp : BusResp) : Unb :=
  { next := 4, len := 4, slot := false, addr := 0x08000000, va := 0x40, size := 4, write := false, data := 0, dest := dest, signed := false,
    lock := 0, cmp := 0, base := none, resp := some resp }

def waiting (dest : Nat) (resp : BusResp) : State := core0.setPair 0 { core0.pair 0 with unb := some (aLoad dest resp) }

/-- The lower half of a load that crosses 16 bytes has come: its upper half is sent, and in a replay that logged another access it is
not. -/
theorem witness_upper_half : let u : Unb := { aLoad 3 ⟨false, 9⟩ with addr := 0x0800000C, va := 0x0C, more := some (0x08000010, 4) }
    let other := core0.setPair 0 { core0.pair 0 with replay := [⟨1, 0, 4, 0, 0, false⟩] }
    u.upper 9 ≠ none ∧ (∀ h, u.upper 9 = some h → (core0.sendUnb 0 h).2 ≠ none ∧ (other.sendUnb 0 h).2 = none) := by
  refine ⟨by decide, ?_⟩
  intro h e
  cases e
  exact ⟨by decide, by decide⟩

theorem witness_responses :
    (let e : SbE := ⟨0x10000040, 4, 7⟩
     let s := core0.setPair 0 { core0.pair 0 with sb := [e] }
     (s.pair 0).sb = [e] ∧ s.memFrozen e.addr = false ∧ s.gateShut 0 = false ∧ s.memOn e.addr = true ∧ imageStore e.addr = false ∧ s.role ((e.addr - 0x10000000) / 0x200000) = 0) ∧
    (let e : LogE := ⟨0, 0x08000000, 4, 0, 0, false⟩
     let s : State := { core0.setPair 0 { core0.pair 0 with lrs := { sent := some e } } with bus.resp := SMap.put [] 0 ⟨false, 9⟩ }
     (s.pair 0).inFlight = some e ∧ SMap.get? s.bus.resp 0 = some ⟨false, 9⟩ ∧ (s.pair 0).logFrozen = false ∧ (s.pair 0).replay = [] ∧
     (s.pair 0).log.length < 1024) ∧
    (∀ d ∈ [31, 32], ∀ r ∈ [(⟨true, 9⟩ : BusResp), ⟨false, 9⟩], (((waiting d r).pair 0).unb.map fun u => (u.resp, u.dest, u.lock)) =
      some (some r, d, 0)) ∧
    (let s := core0.setPair 0 { core0.pair 0 with brkDue := true }
     (s.pair 0).brkDue = true ∧ (s.pair 0).r.exl = false ∧ s.pairAlive 0 = true ∧ s.atBoundary 0 = true ∧ s.halted 0 = false ∧
     (s.pair 0).stepping = false) ∧
    (core0.pairRuns 0 = true ∧ (core0.pair 0).unb = none) ∧
    (match core0.translate 0 (core0.pair 0).r.pc 0 ((core0.pair 0).r.mode == 0) with | (_, .inr pa) => isMemory pa | _ => false) = true := by
  decide

theorem witness_hold : let p := pageCORE 0
    let s := unlocked core0 p 1
    let old := s.wordAt (pgCORE 0 + 0x40)
    s.lockOpen p 1 = true ∧ (s.Writes p 0x40 1 (old - (old &&& 1) + 1) ∧ bit (old - (old &&& 1) + 1) 0 = true ∧
      bit (old - (old &&& 1) + 1) 1 = false ∧ s.flag (pgCORE 0) F.CORE_CTRL_HOLD ≠ true) ∧
    (s.Writes p 0x40 1 (old - (old &&& 2) + 2) ∧ bit (old - (old &&& 2) + 2) 0 = s.flag (pgCORE 0) F.CORE_CTRL_HOLD ∧
      bit (old - (old &&& 2) + 2) 1 = true) :=
  ⟨unlocked_open _ _ _, ⟨writes_of (by decide), by decide⟩, writes_of (by decide), by decide⟩

/-! ### Memories, DMA, queues and locks -/

/-- MemoriesAndDma: a scrubbed word of a tile and of a stack; HBM_SPARE in its two cases; the arbiters; IOMMU_TLBI. -/
theorem witness_memory_events : let b := pgHBMC 0 0
    isMemory 0x10000000 = true ∧ 0x10000000 < 0x1A000000 ∧ isMemory 0x1000000000 = true ∧ 0x1000000000 ≥ 0x1A000000 ∧
    live.flag b F.HBM_SPARE_VALID = false ∧ live.flag b F.HBM_SPARE_COPYING = false ∧
    (live.setFlag b F.HBM_SPARE_COPYING true).flag b F.HBM_SPARE_COPYING = true ∧
    (live.setFlag (pgTSRAM 0) F.TSRAM_ARB_FRZ_FREEZE true).flag (arbOf 0 0 8).base F.TSRAM_ARB_FRZ_FREEZE = true ∧
    live.flag (pgTSRAM 0) F.TSRAM_ARB_FRZ_FREEZE = false ∧ live.arbPick (arbOf 0 0 8) 5 = some 0 ∧
    live.arbPick (arbOf 2 0 0x100) 0x2000 = some 13 ∧ (arbOf 0 0 8).bus = false ∧ (arbOf 3 44 0).bus = true ∧
    live.emergencyDue (arbOf 0 0 8) = true ∧
    ({ live with tick := 9, mm.arbEmer := SMap.put [] (arbOf 0 0 8).key 9 } : State).emergencyDue (arbOf 0 0 8) = false := by decide

theorem witness_memory_writes : let p := pageHBMC 0 0
    let s := unlocked live p
    let busy := unlocked (live.setFlag (pgHBMC 0 0) F.HBM_SPARE_COPYING true) p
    s.lockOpen p 0 = true ∧ s.Writes p 0x48 0 (31 + 2 ^ 31) ∧ busy.lockOpen p 0 = true ∧ busy.Writes p 0x48 0 (31 + 2 ^ 31) ∧
    live.Writes (pageIOMMU 0) 0x140 0 1 :=
  ⟨unlocked_open _ _, writes_of (by decide), unlocked_open _ _, writes_of (by decide), writes_of (by decide)⟩

/-- Channel 31 of tile 0 in a state. -/
def moving (st : Nat) (rt : Bool) (x : DmaCh) : State :=
  let s := (live.setChan 0 31 x).setFlag (pgDMAC 0 31) (F.CH_CTRL_RT 7) rt
  (s.setF (pgDMAC 0 31) (F.CH_DESC_DESC 7) 0x10000000).setChState 0 31 st

/-- A copy of 8 bytes from 0x10000100 to 0x10000200. -/
def aDesc : Desc := ⟨0, false, false, false, false, false, true, 0, 8, 0x10000100, 0x10000200, 0⟩

/-- Every command of a channel, in each state in which it acts or is refused; ARM with one descriptor of zeros. -/
theorem witness_channel_commands : let p := pageDMAC 0 31
    let off := 0x104 + 0x80 * (31 % 8)
    let burst : DmaCh := { burst := some ⟨0, 4, [], 0⟩ }
    let d := parseDesc (Memory.readN (moving 0 true {}).mem 0x10000000 32)
    (∀ e ∈ [(0, 1), (5, 1), (1, 1), (3, 2), (0, 2), (1, 3), (3, 3), (4, 3), (0, 4), (4, 5), (5, 5)],
      (moving e.1 false {}).Writes p off 0 e.2 ∧ (moving e.1 false {}).chState 0 31 = e.1 ∧ (moving e.1 false {}).dmaHeld 0 31 = false) ∧
    ((moving 1 false burst).Writes p off 0 3 ∧ ((moving 1 false burst).chan 0 31).burst.isSome = true) ∧
    (let s := moving 0 true {}
     s.Writes p off 0 4 ∧ s.chState 0 31 = 0 ∧ s.chRT 0 31 = true ∧ s.getF (pgDMAC 0 31) (F.CH_CTRL_RT_COUNT 7) = 0 ∧
     s.memFrozen 0x10000000 = false ∧ ((s.setChan 0 31 { s.chan 0 31 with arming := false }).armPins 0 31 0 [d.1]).2.2 = 0 ∧
     d.2 = true ∧ s.descAt 0x10000000 = true ∧ s.ueIn 0x10000000 32 = false) ∧
    (let s := (moving 0 true {}).setFlag (pgTSRAM 0) F.TSRAM_ARB_FRZ_FREEZE true
     s.Writes p off 0 4 ∧ s.chState 0 31 = 0 ∧ s.chRT 0 31 = true ∧ s.memFrozen 0x10000000 = true) := by
  refine ⟨?_, ⟨writes_of (by decide), by decide⟩, ⟨writes_of (by decide), by decide⟩, writes_of (by decide), by decide⟩
  intro e h
  simp only [List.mem_cons, List.not_mem_nil, or_false] at h
  rcases h with rfl | rfl | rfl | rfl | rfl | rfl | rfl | rfl | rfl | rfl | rfl <;> exact ⟨writes_of (by decide), by decide⟩

theorem witness_channel_runs : let q : State := moving 2 false { toStart := some 0x10000000 }
    let full := (q.setFlag (pgDMAC 0 0) F.DMAC_FQ_EN true).setQueue 0 0 { en := true, log2n := 0, level := 1 }
    let bad := q.writeMem 0x10000000 [2]
    (full.dmaHeld 0 31 = false ∧ full.chState 0 31 = 2 ∧ (full.chan 0 31).abort = false ∧ full.dmaQ 0 true = some 0 ∧
      (full.chan 0 31).fq = none ∧ (full.chan 0 31).arming = false ∧ (full.queueOf 0 0).en = true ∧ (full.queueOf 0 0).free = 0) ∧
    (let z := q.setFlag (pgTSRAM 0) F.TSRAM_ARB_FRZ_FREEZE true
     z.dmaHeld 0 31 = false ∧ z.chState 0 31 = 2 ∧ (z.chan 0 31).toStart = some 0x10000000 ∧ z.dmaQ 0 true = none ∧
     z.chRT 0 31 = false ∧ z.descAt 0x10000000 = true ∧ z.memFrozen 0x10000000 = true) ∧
    (q.dmaHeld 0 31 = false ∧ q.memFrozen 0x10000000 = false ∧ q.chState 0 31 = 2 ∧ (q.chan 0 31).toStart = some 0x10000000 ∧ q.dmaQ 0 true = none ∧ q.chRT 0 31 = false ∧
      q.descAt 0x10000000 = true ∧ q.ueIn 0x10000000 32 = false ∧ (parseDesc (Memory.readN q.mem 0x10000000 32)).2 = true ∧
      q.dmaQ 0 false = none ∧ (parseDesc (Memory.readN bad.mem 0x10000000 32)).2 = false) ∧
    (0 < aDesc.len ∧ aDesc.len < 2 ^ 32 ∧ aDesc.src < 2 ^ 48 ∧ aDesc.dst < 2 ^ 48) ∧
    (let s := (((moving 1 false { desc := some aDesc }).setF (pgDMAC 0 31) (F.CH_SRC_SRC 7) aDesc.src).setF (pgDMAC 0 31) (F.CH_DST_DST 7)
      aDesc.dst).setF (pgDMAC 0 31) (F.CH_RESID_RESID 7) 8
     ((List.range 32).filter fun k => (s.chan 0 k).burst.isSome).length < 4 ∧ s.isleStopped (2 * 0) = false ∧ s.moverPick 0 = some 31 ∧
     s.gateShut 0 = false ∧ (s.chan 0 31).desc = some aDesc ∧ fixOk aDesc aDesc.src aDesc.dst = true ∧ aDesc.op = 0 ∧
     s.ioWaits 0 0 aDesc.src false = false ∧ s.ioWaits 0 0 aDesc.dst false = false ∧
     (match s.chPage 0 31 aDesc.src 1 none with | (_, .inr _) => true | _ => false) = true ∧
     (match s.chPage 0 31 aDesc.dst 2 none with | (_, .inr _) => true | _ => false) = true ∧
     s.stillHeld ⟨reqDma 0, aDesc.src, 4, false, 0⟩ = false ∧
     (match s.burstRead 0 aDesc 0 aDesc.src 8 with | (_, .inr _) => true | _ => false) = true) ∧
    (let s := moving 1 false { desc := some aDesc, burst := some ⟨0x10000200, 8, [1, 2, 3, 4, 5, 6, 7, 8], 0⟩ }
     (s.chan 0 31).burst = some ⟨0x10000200, 8, [1, 2, 3, 4, 5, 6, 7, 8], 0⟩ ∧ (s.chan 0 31).desc = some aDesc ∧
     isMemory 0x10000200 = true ∧ s.gateShut 0 = false ∧ s.ueParts 0x10000200 8 = [] ∧
     ({ s with mm.ue := [0x10000200] } : State).ueParts 0x10000204 4 = [0x10000200] ∧ s.stillHeld ⟨reqDma 0, 0x10000200, 4, true, 0⟩ = false ∧
     s.moverBar ⟨reqDma 0, 0x10000200, 4, true, 0⟩ = none) := by decide

/-- A channel of a context whose translation is on, with nothing mapped, meets a translation fault. -/
theorem witness_channel_fault :
    let s := (moving 1 false { desc := some aDesc }).setFlag (pgIOMMU 0) (F.IOCTX_CTL_EN 0) true
    (match s.chPage 0 31 aDesc.src 1 none with | (u, .inl _) => !u.chRT 0 31 | _ => false) = true := by decide

/-- QueuesAndLocks: QM_CFG with each kind of value at its ends; pushes and pops of an empty, a full and a disabled queue. -/
theorem witness_queue_config : let p := pageQMGR 0 0
    let free := live.setQueue 0 0 { base := 0x18000000 }
    let on := live.setQueue 0 0 { en := true, log2n := 4, esize := 0, base := 0x18000000 }
    (∀ v ∈ [9, 1, 3, 43, 0xC1], free.Writes p 0x44 0 v) ∧ (free.qreq 0 0).sel = 0 ∧ (free.queueOf 0 0).en = false ∧
    (bits 9 1 5 = 4 ∧ bits 9 6 2 = 0 ∧ bit 9 0 = true ∧ ringOk (0 / 10) (free.queueOf 0 0).base (2 ^ 4 * (16 * 2 ^ 0)) = true) ∧
    (bits 1 1 5 = 0 ∧ bit 1 0 = true) ∧ bits 3 1 5 = 1 ∧ 20 < bits 43 1 5 ∧ bits 0xC1 6 2 = 3 ∧
    (on.Writes p 0x44 0 8 ∧ bits 8 1 5 = (on.queueOf 0 0).log2n ∧ bit 8 0 = false ∧ (on.queueOf 0 0).level = 0 ∧ (on.queueOf 0 0).rsvd = 0) ∧
    (on.Writes p 0x44 0 10 ∧ bits 10 1 5 ≠ (on.queueOf 0 0).log2n) ∧ live.Writes p 0x40 0 2047 := by
  refine ⟨?_, by decide, by decide, by decide, by decide, by decide, by decide, by decide, ⟨writes_of (by decide), by decide⟩,
    ⟨writes_of (by decide), by decide⟩, writes_of (by decide)⟩
  intro v h
  simp only [List.mem_cons, List.not_mem_nil, or_false] at h
  rcases h with rfl | rfl | rfl | rfl | rfl <;> exact writes_of (by decide)

theorem witness_queues : let p := pageQMGR 0 1
    let q := fun (n : Nat) (ue : List Nat) => { (live.setQueue 0 0 { en := true, log2n := 4, base := 0x18000000, level := n, pushed := n }) with
      mm.ue := ue }
    (∀ n ∈ [0, 16], (q n []).Writes p 0x40 0 0 ∧ (q n []).Reads p 0x4C 0 ∧ ((q n []).queueOf 0 0).en = true ∧
      ((q n []).queueOf 0 0).free = 16 - n ∧ ((q n []).queueOf 0 0).level = n ∧ ((q n []).queueOf 0 0).Adds) ∧
    ((q 1 []).Reads p 0x4C 0 ∧ ((q 1 []).queueOf 0 0).level ≠ 0 ∧ (q 1 []).ueIn 0x18000000 16 = false ∧
      (q 1 [0x18000008]).ueIn 0x18000000 16 = true ∧ (q 1 [0x18000008]).Reads p 0x4C 0) ∧
    (live.Writes p 0x40 0 0 ∧ live.Reads p 0x4C 0 ∧ (live.queueOf 0 0).en = false) := by
  refine ⟨?_, ⟨reaches_of (by decide), by decide, by decide, by decide, reaches_of (by decide)⟩, writes_of (by decide), reaches_of (by decide),
    by decide⟩
  intro n h
  simp only [List.mem_cons, List.not_mem_nil, or_false] at h
  rcases h with rfl | rfl <;> exact ⟨writes_of (by decide), reaches_of (by decide), by decide, by decide, by decide, by decide, by decide⟩

theorem witness_reservations : let s := live.setQueue 0 0 { en := true, log2n := 4, base := 0x18000000, rsvd := 1 }
    (s.queueOf 0 0).Adds ∧ 0 < (s.queueOf 0 0).rsvd := ⟨⟨by decide, by decide⟩, by decide⟩

theorem witness_locks : let p := pageHLCK 0
    let own := fun (r : Nat) => (live.setF (pgHLCK 0) F.HLCK_LEASE_LEASE 5).setLock 0 63 (some ⟨r, 0, 0, false⟩)
    (∀ r ∈ [0xFF, 0x1F0], live.Reads p (0x100 + 4 * 63) r ∧ live.lockOf 0 63 = none) ∧
    ((own 3).Reads p (0x100 + 4 * 63) 3 ∧ (own 3).Reads p (0x100 + 4 * 63) 4 ∧ (own 3).lockOf 0 63 = some ⟨3, 0, 0, false⟩) ∧
    (own 3).Writes p (0x100 + 4 * 63) 3 1 ∧ (own 3).Writes p (0x100 + 4 * 63) 4 1 ∧ live.Writes p (0x100 + 4 * 63) 3 1 ∧
    (own 3).Writes p (0x300 + 4 * 63) 0x1F0 1 ∧
    ((own 3).getF (pgHLCK 0) F.HLCK_LEASE_LEASE ≠ 0 ∧ 2000 * 5 ≤ (⟨3, 0, 0, false⟩ : LockOwn).ticks 10000) := by
  refine ⟨?_, ⟨reaches_of (by decide), reaches_of (by decide), by decide⟩, writes_of (by decide), writes_of (by decide), writes_of (by decide),
    writes_of (by decide), by decide⟩
  intro r h
  simp only [List.mem_cons, List.not_mem_nil, or_false] at h
  rcases h with rfl | rfl <;> exact ⟨reaches_of (by decide), by decide⟩

/-! ### Takeover, kept pins and refiring -/

/-- TakeoverAndRefiring: a trigger of each kind; the takeover command for any saggar tile, for one of the cluster's, and for none. -/
theorem witness_triggers_hold : let wd := live.setF (pgWDOG 3) F.WDOG_STAT_STAGE 2
    let dead := live.setPair 6 { live.pair 6 with dead := true }
    let few := live.setF (pgLENG 3) F.LENG_STAT_IN_SERVICE 0
    let few := (few.setF (pgEDGE 3) F.EDGE_STAT_IN_SERVICE 0).setF pgDROLE F.TKO_CFG_SMIN 1
    let few := few.setF pgDROLE F.TKO_CFG_EMIN 1
    wd.triggerHolds 3 1 = true ∧ dead.triggerHolds 3 2 = true ∧ few.triggerHolds 3 3 = true ∧ few.triggerHolds 3 4 = true ∧
    wd.ltOf 3 = some 3 ∧ (wd.dep.waiting.any fun w => w.2.1 == 3) = false ∧ (wd.dep.moves.any fun m => m.2.from_ == 3) = false ∧
    wd.refireOf 0 = none ∧ SMap.has wd.edge.gates 3 = false ∧
    (∀ n ∈ [6, 7], let s : State := { live with edge.gates := [(3, { d := 5 })], tick := n }
      s.edge.gates = [(3, { d := 5 })] ∧ (5 + 1 = s.tick ↔ n = 6)) := by decide

theorem witness_takeover_command : let p := pageDROLE
    let s := unlocked live p
    s.lockOpen p 0 = true ∧ s.Writes p 0x204 0 (3 + 63 * 256 + 2 ^ 31) ∧ s.Writes p 0x204 0 (3 + 8 * 256 + 2 ^ 31) ∧
    s.Writes p 0x204 0 (3 + 7 * 256 + 2 ^ 31) ∧ bit (3 + 7 * 256 + 2 ^ 31) 31 = true ∧
    bits (3 + 8 * 256 + 2 ^ 31) 8 6 ∈ (s.put p (s.wrOf p 0 (3 + 8 * 256 + 2 ^ 31)) 0x204 [F.TKO_CMD_GO]).1.saggars 0 ∧
    bits (3 + 7 * 256 + 2 ^ 31) 8 6 ∉ (s.put p (s.wrOf p 0 (3 + 7 * 256 + 2 ^ 31)) 0x204 [F.TKO_CMD_GO]).1.saggars 0 :=
  ⟨unlocked_open _ _, writes_of (by decide), writes_of (by decide), writes_of (by decide), by decide,
    by rw [wrOf_unlocked]; decide, by rw [wrOf_unlocked]; decide⟩

/-- Moves: one that starts, one for which no saggar tile is left 8 ticks on, the new tile ready, and the release of its pairs. -/
theorem witness_moves_of_tiles : let w : Nat × Nat × Nat × Nat × Nat := (3, 3, 1, 0, 63)
    let s : State := { live with dep.waiting := [w], tick := 1 }
    let none_ := { ((s.setF pgDROLE (F.ROLE_PHYS_ROLE 8) 3).setF pgDROLE (F.ROLE_PHYS_ROLE 9) 3) with tick := 8 }
    let m : Move := ⟨3, 3, 8, 1, 0, true⟩
    (SMap.has s.dep.moves 0 = false ∧ (s.dep.waiting.find? fun e => e.1 / 8 == 0) = some w ∧ 0 < s.tick ∧
      (if (s.saggars 0).contains 63 then some 63 else (s.saggars 0).head?) = some 8) ∧
    (none_.saggars 0 = [] ∧ (none_.dep.waiting.find? fun e => e.1 / 8 == 0) = some w ∧ 0 + 8 ≤ none_.tick) ∧
    (let t : State := { live with dep.moves := SMap.put [] 0 m, dep.release := SMap.put [] 3 8 }
     SMap.get? t.dep.moves 0 = some m ∧ SMap.get? t.dep.release 3 = some 8) := by decide

/-- Generator 3 of tile 0, bound to pin 5 alone, which the pin keeper holds. -/
def kept (r : PeriodRec) (tick : Nat) : State :=
  let b := pgPWMG 0 3
  let s := ((live.setF b (F.PWMG_BIND_MODE 3) 1).setF b (F.PWMG_BIND_H_PIN 3) 5).setFlag b (F.PWMG_BIND_L_EN 3) false
  let s := (s.setF (pgPKEEP (s.bindPin 0 3 true)) (F.PK_PIN_STAT_STATE 5) 2).setF (pgPKEEP (s.bindPin 0 3 true)) (F.PK_PIN_CTRL_REPEAT_MAX 5) 4
  { s.setRec 0 3 r with tick := tick }

theorem witness_kept_pins : let tr : Trans := ⟨true, true, 320⟩
    (let s := kept { reload := 0, per := 64, repeating := true } 64
     (s.rec_ 0 3).repeating = true ∧ s.gateShut 0 = false ∧ (s.rec_ 0 3).dust = false ∧ (s.rec_ 0 3).tripped = none ∧ (s.rec_ 0 3).per ≠ 0 ∧ (s.rec_ 0 3).reload + 1 * (s.rec_ 0 3).per ≤ s.tick ∧
     s.keeperPins 0 3 = [5] ∧ s.getF (pgPKEEP 5) (F.PK_PIN_STAT_REPEATS (5 % 16)) < s.getF (pgPKEEP 5) (F.PK_PIN_CTRL_REPEAT_MAX (5 % 16))) ∧
    (∀ dt ∈ [320, 321], let s := kept { todo := [tr], repeating := true, dt := dt } 10
      (s.rec_ 0 3).todo = [tr] ∧ (s.rec_ 0 3).repeating = true ∧ tr.at_ / 32 ≤ s.tick ∧ s.bindPin 0 3 tr.isH ∈ s.keeperPins 0 3 ∧
      (SMap.getD s.edge.pins (s.bindPin 0 3 tr.isH) {}).level ≠ tr.rise ∧ ((s.rec_ 0 3).lFall + (s.rec_ 0 3).dt ≤ tr.at_ ↔ dt = 320)) := by
  decide

theorem witness_return_to_service : let p := pageDROLE
    let s := unlocked (live.setF pgDROLE (F.ROLE_PHYS_ROLE 39) 3) p
    s.lockOpen p 0 = true ∧ s.Writes p 0x210 0 (39 + 2 ^ 31) ∧ bit (39 + 2 ^ 31) 31 = true ∧ bits (39 + 2 ^ 31) 0 6 = 39 ∧ s.role 39 = 3 ∧
    (s.put p (s.wrOf p 0 (39 + 2 ^ 31)) 0x210 [F.DROLE_SVC_GO]).1.getF pgDROLE F.DROLE_SVC_PHYS = 39 ∧
    (let m : State := { live.setF pgDROLE (F.ROLE_PHYS_ROLE 9) 2 with dep.refill := [9] }
     m.role 9 = 2 ∧ 9 ∈ m.dep.refill) :=
  ⟨unlocked_open _ _, writes_of (by decide), by decide, by decide, by decide, by rw [wrOf_unlocked]; decide, by decide⟩

/-- A refiring of logical tile 3 on physical tile 8. -/
def refiring (shadow : Bool) (done : Option (Nat × Nat)) : State :=
  let s := ((live.setF pgDROLE F.RF_CTRL_LT 3).setF pgDROLE F.RF_CTRL_PHYS 8).setF pgDROLE F.RF_PNUM_P 2
  { s with dep.refires := SMap.put [] 0 { lt := 3, phys := 8, policy := true, refGen := 0, img := 0, shadow := shadow, done := done } }

theorem witness_refiring : let p := pageDROLE
    let v := fun (s : State) (cmd : Nat) => s.wordAt (pgDROLE + 0x240) - (s.wordAt (pgDROLE + 0x240) &&& 0x7000000) + cmd * 0x1000000
    let idle := (refiring false none)
    let idle : State := { idle with dep.refires := [] }
    (idle.Writes p 0x240 0 (v idle 1) ∧ bits (v idle 1) 24 3 = 1 ∧ (idle.put p (idle.wrOf p 0 (v idle 1)) 0x240).2 = 0 ∧
      8 ∈ idle.saggars 0 ∧ 2 ≤ (idle.saggars 0).length ∧ idle.refireOf 0 = none ∧ SMap.has idle.dep.moves 0 = false ∧
      (idle.dep.waiting.any fun w => w.1 / 8 == 0) = false ∧ 7 ∉ idle.saggars 0) ∧
    ((refiring true none).Writes p 0x240 0 (v (refiring true none) 2) ∧ bits (v (refiring true none) 2) 24 3 = 2 ∧
      ((refiring true none).getF (pgPWMG 3 0) (F.PWMG_PNUM_PNUM 0)) + 2 ≤ (refiring true none).getF pgDROLE F.RF_PNUM_P) ∧
    ((refiring false none).Writes p 0x240 0 (v (refiring false none) 2) ∧ (refiring false none).Writes p 0x240 0 (v (refiring false none) 3) ∧
      bits (v (refiring false none) 3) 24 3 = 3) ∧
    (let s : State := { refiring true (some (3, 0)) with tick := 16 }
     ∃ r, s.dep.refires = [(0, r)] ∧ s.refireOf 0 = some r ∧ r.done = some (3, 0) ∧ 0 + 16 ≤ s.tick) ∧
    (∃ r, (refiring false none).dep.refires = (0, r) :: [] ∧ r.shadow = false ∧ r.done = none ∧
      (refiring false none).memFrozen r.img = false ∧ (refiring false none).refireOf (3 / 8) = some r) :=
  ⟨⟨writes_of (by decide), by decide⟩, ⟨writes_of (by decide), by decide⟩, ⟨writes_of (by decide), writes_of (by decide), by decide⟩,
    ⟨_, rfl, rfl, by decide⟩, _, rfl, by decide⟩

/-- An image that holds nothing is no bundle: its header fails R410. -/
theorem witness_no_bundle : (refiring false none).bundle { lt := 3, phys := 8, policy := true, refGen := 0, img := 0 } = none := by
  have h : (refiring false none).hdrCause (Memory.readN (refiring false none).mem 0 512) true ≠ 0 := by decide
  simp only [State.bundle]
  exact if_neg fun e => h e.1

/-! ### Power, clocks and resets -/

/-- Feeds: both inside their windows since tick 0, with the OK bits given; feed A is active. -/
def fed (a b : Bool) (tick : Nat) : State :=
  let s := (live.setFlag pgKEEL F.FEED_STAT_A_OK a).setFlag pgKEEL F.FEED_STAT_B_OK b
  { s with tick := tick, pwr.feedA := { inWin := true }, pwr.feedB := { inWin := true } }

/-- PowerClocksAndResets: crossings with a good and a bad other feed, and of the feed that is not active; windows; brown-out; return. -/
theorem witness_feeds :
    ((fed true true 0).feed 0).inWin = true ∧ (fed true true 0).activeFeed = 0 ∧
    (∀ b, let u := ((fed true b 0).setFeed 0 { (fed true b 0).feed 0 with inWin := false }).setFlag pgKEEL (F.feedOk 0) false
      let u := u.setFlag pgKEEL F.FEED_STAT_A_UV true
      u.activeFeed = 0 ∧ u.flag pgKEEL (F.feedOk (1 - 0)) = b ∧ u.stillConducts = false ∧
      ({ u with pwr.switching := some 0 } : State).stillConducts = true) ∧
    (fed true true 0).activeFeed ≠ 1 ∧ (live.feed 0).inWin = false ∧
    (((fed false true 2000000).feed 0).inWin = true ∧ ((fed false true 2000000).feed 0).since + 2000000 ≤ (fed false true 2000000).tick ∧
      (fed false true 2000000).flag pgKEEL (F.feedOk 0) = false) ∧
    ((fed false false 0).flag pgKEEL F.FEED_STAT_A_OK = false ∧ (fed false false 0).flag pgKEEL F.FEED_STAT_B_OK = false) ∧
    (let s := ((fed true true 2000000).setFlag pgKEEL F.FEED_CTRL_AUTO_RET true).setF pgKEEL F.FEED_STAT_ACTIVE 1
     let s := s.setF pgKEEL F.FEED_CTRL_RET_DLY 1
     s.flag pgKEEL F.FEED_CTRL_AUTO_RET = true ∧ s.activeFeed = 1 ∧ s.flag pgKEEL F.FEED_STAT_A_OK = true ∧
     s.pwr.feedA.okAt + 2000000 * s.getF pgKEEL F.FEED_CTRL_RET_DLY ≤ s.tick) := by decide

theorem witness_phases : (live.draw 8).1 ∉ live.pwr.onSpare ∧
    (let s : State := { live with pwr.onSpare := [(live.draw 8).1] }
     (s.draw 8).1 ∈ s.pwr.onSpare) := ⟨List.not_mem_nil, List.mem_singleton.mpr rfl⟩

theorem witness_feed_command : let p := pageKEEL
    let s := unlocked (fed true true 0) p
    let t := unlocked (fed true false 0) p
    s.lockOpen p 0 = true ∧ t.lockOpen p 0 = true ∧ s.Writes p 0x48 0 (2 ^ 31) ∧ s.activeFeed = 0 ∧
    (s.Writes p 0x48 0 (2 ^ 31 + 1) ∧ s.activeFeed ≠ 1 ∧ s.flag pgKEEL (F.feedOk 1) = true) ∧
    (t.Writes p 0x48 0 (2 ^ 31 + 1) ∧ t.flag pgKEEL (F.feedOk 1) = false) :=
  ⟨unlocked_open _ _, unlocked_open _ _, writes_of (by decide), by decide, ⟨writes_of (by decide), by decide⟩, writes_of (by decide),
    by decide⟩

/-- Domains: a command while one is switching, one that is barred (a domain in use switched off; 89 on with 80 off), one that switches on,
one that switches off, and one that changes nothing. -/
theorem witness_domains : let p := pagePWRD
    let s := unlocked live p
    let off := fun (d : Nat) => unlocked (live.setFbit pgPWRD (F.PWRD_ON_ON (d / 32)) (d % 32) false) p
    let busy := unlocked (live.setFlag pgPWRD F.PWRD_STAT_BUSY true) p
    s.lockOpen p 0 = true ∧ (busy.Writes p 0x40 0 (2 ^ 31) ∧ busy.flag pgPWRD F.PWRD_STAT_BUSY = true) ∧
    (s.Writes p 0x40 0 (2 ^ 31) ∧ s.flag pgPWRD F.PWRD_STAT_BUSY = false ∧ s.inUse 0 = true) ∧
    ((off 80).Writes p 0x40 0 (2 ^ 31 + 256 + 89) ∧ (off 80).domOn 80 = false) ∧
    ((off 120).Writes p 0x40 0 (2 ^ 31 + 256 + 120) ∧ (off 120).domOn 120 = false ∧ ¬ 120 < 120) ∧
    (s.Writes p 0x40 0 (2 ^ 31 + 18) ∧ s.inUse 19 = false ∧ s.domOn 19 = true) ∧
    (s.Writes p 0x40 0 (2 ^ 31 + 256 + 127) ∧ s.domOn 127 = true) ∧
    live.pwr.brown = false ∧
    (let t : State := { live with pwr.busy := some (5, true, 0) }
     t.pwr.busy = some (5, true, 0)) :=
  ⟨unlocked_open _ _, ⟨writes_of (by decide), by decide⟩, ⟨writes_of (by decide), by decide⟩, ⟨writes_of (by decide), by decide⟩,
    ⟨writes_of (by decide), by decide⟩, ⟨writes_of (by decide), by decide⟩, ⟨writes_of (by decide), by decide⟩, by decide, rfl⟩

/-- The references with the validities given; A is selected. -/
def refs (a b : Bool) : State := (live.setFlag pgCLKG F.REF_STAT_A_VALID a).setFlag pgCLKG F.REF_STAT_B_VALID b

theorem witness_references :
    (∀ b, (refs true b).flag pgCLKG (F.refValid (refs true b).selRef) = true ∧
      ((((refs true b).setValid 0 false).satF pgCLKG F.REF_STAT_REF_LOSS).flag pgCLKG (F.refValid (1 - 0)) = b)) ∧
    ((refs false false).flag pgCLKG F.REF_STAT_A_VALID = false ∧ (refs false false).flag pgCLKG F.REF_STAT_B_VALID = false) ∧
    ((refs true true).selRef ≠ 1 ∧ (refs true true).flag pgCLKG (F.refValid 1) ≠ false ∧
      (refs true true).flag pgCLKG (F.refValid (refs true true).selRef) = true) ∧
    (let s := { (((refs true true).setFlag pgCLKG F.REF_CTRL_REVERT true).setF pgCLKG F.REF_STAT_SEL 1) with tick := 20000000000 }
     let s := s.setF pgCLKG F.REF_CTRL_PREF 0
     s.flag pgCLKG F.REF_CTRL_REVERT = true ∧ s.selRef ≠ 0 ∧ s.getF pgCLKG F.REF_CTRL_PREF = 0 ∧ s.flag pgCLKG (F.refValid 0) = true ∧
     s.refSince 0 + 20000000000 ≤ s.tick) ∧
    live.flag pgCLKG F.REF_STAT_TB_SEC = false ∧ live.getF pgCLKG F.PLL_STAT_SPARE_FOR = 0 ∧ live.pwr.spareLocking = none ∧
    (let all := (List.range 12).foldl (fun (s : State) k => s.setFlag pgCLKG (F.pllLock k) true) live
     let sec := all.setFlag pgCLKG F.REF_STAT_TB_SEC true
     (∀ k < 12, all.flag pgCLKG (F.pllLock k) = true) ∧ State.reset.flag pgCLKG (F.pllLock 9) = false ∧
     (all.setFlag pgCLKG (F.pllLock 9) false).flag pgCLKG (F.pllLock 10) = true ∧
     (sec.setFlag pgCLKG (F.pllLock 10) false).flag pgCLKG (F.pllLock 9) = true ∧
     (sec.setFlag pgCLKG (F.pllLock 10) false).flag pgCLKG F.REF_STAT_TB_SEC = true ∧
     ((all.setFlag pgCLKG (F.pllLock 10) false).setFlag pgCLKG (F.pllLock 9) false).flag pgCLKG (F.pllLock 10) = false) ∧
    (let s : State := { live with pwr.spareLocking := some (3, 0) }
     s.pwr.spareLocking = some (3, 0)) := by decide

theorem witness_reference_command : let p := pageCLKG
    let s := unlocked (refs true false) p
    s.lockOpen p 0 = true ∧ (s.Writes p 0x48 0 (2 ^ 31) ∧ s.flag pgCLKG (F.refValid 0) = true) ∧
    (s.Writes p 0x48 0 (2 ^ 31 + 1) ∧ s.flag pgCLKG (F.refValid 1) = false) :=
  ⟨unlocked_open _ _, ⟨writes_of (by decide), by decide⟩, writes_of (by decide), by decide⟩

theorem witness_sleep :
    (let s := (live.setFlag (pgCORE 0) F.CORE_CTRL_HOLD true).setFlag (pgCORE 1) F.CORE_CTRL_HOLD true
     s.maySleep 0 = true) ∧
    (let s : State := { live with pwr.asleep := [0, cluIsland 1 0], pwr.wakeReq := [0, cluIsland 1 0] }
     2 * 0 ∈ s.pwr.asleep ∧ 2 * 0 ∈ s.pwr.wakeReq ∧ cluIsland 1 0 ∈ s.pwr.asleep ∧ cluIsland 1 0 ∈ s.pwr.wakeReq) ∧
    (let out := (List.range 10).foldl (fun (s : State) j => s.setF pgDROLE (F.ROLE_PHYS_ROLE (10 + j)) 3) live
     (out.flag (pgCLU 1) F.CLU_PWR_LATH_SLP && !out.clusterActive 1 true) = true ∧
     (live.flag (pgCLU 1) F.CLU_PWR_AFE_SLP && !live.analogInUse 1) = true ∧
     (live.flag (pgCLU 1) F.CLU_PWR_FCST_SLP && !live.forecastInUse 1) = true ∧
     ∀ k < 3, live.isleStopped (cluIsland 1 k) = false ∧ live.islandOn (cluIsland 1 k) = true) := by decide

theorem witness_resets : let p := pageRSTC
    live.Writes p 0x40 reqMonitor (2 ^ 31 + 1) ∧ live.Writes p 0x40 reqKeeper (2 ^ 31 + 2) ∧ live.Writes p 0x40 reqKeeper (2 ^ 31 + 3) ∧
    live.role 0 ≤ 1 ∧ live.Writes p 0x40 reqKeeper (2 ^ 31 + 3 + 39 * 256) ∧
    (live.setF pgDROLE (F.ROLE_PHYS_ROLE 39) 3).Writes p 0x40 reqKeeper (2 ^ 31 + 3 + 39 * 256) ∧
    2 ≤ (live.setF pgDROLE (F.ROLE_PHYS_ROLE 39) 3).role 39 ∧ State.reset.pwr.resetN = false ∧ State.reset.pwr.brown = false ∧
    ({ State.reset with pwr.brown := true } : State).pwr.resetN = false ∧
    (let s : State := { fed true false 20000000 with pwr.brown := true }
     s.pwr.brown = true ∧ s.flag pgKEEL F.FEED_STAT_A_OK = true ∧ s.pwr.feedA.okAt + 20000000 ≤ s.tick) ∧
    live.pwr.tjAt + 2000000000 > live.tick :=
  ⟨writes_of (by decide), writes_of (by decide), writes_of (by decide), by decide, writes_of (by decide), writes_of (by decide), by decide⟩

/-! ### Firing, the keeper's commands and attestation

What Config leaves free (digests, signatures, sealed datagrams) has no closed witness: a hypothesis that such a check holds is met by the
values that pass it, whatever they are. -/

/-- FiringAndKeep: both flashes fail; the retry; each KEEP command; MEAS_EXT with a log that has room, and a full one. -/
theorem witness_firing : let s : State := { live with fire.phase := 1, fire.started := true }
    s.fire.phase = 1 ∧ s.fire.started = true ∧ ({ s with fire.started := false } : State).fire.started = false ∧
    bit 14 0 = false ∧ bits 14 0 4 ≠ 0 ∧ bits 16 0 4 = 0 ∧ s.hdrCause (s.flash 0 0 512) false = 1 ∧ hdrForm (s.flash 0 0 512) false = false ∧
    (let t : State := { live with fire.phase := 4, fire.retryAt := 5, tick := 5 }
     t.fire.phase = 4 ∧ t.fire.retryAt ≤ t.tick) ∧
    ({ live with fire.phase := 2 } : State).fire.phase = 2 := by decide

theorem witness_keep_commands : let p := pageKEEP
    let s := unlocked live p
    let busy := unlocked (live.setFlag pgKEEP F.KEEP_STAT_BUSY true) p
    s.lockOpen p 0 = true ∧ busy.lockOpen p 0 = true ∧ (∀ c ∈ [1, 2, 3, 4, 5, 6], s.Writes p 0x40 0 c) ∧
    s.flag pgKEEP F.KEEP_STAT_BUSY = false ∧ busy.flag pgKEEP F.KEEP_STAT_BUSY = true := by
  refine ⟨unlocked_open _ _, unlocked_open _ _, ?_, by decide⟩
  intro c h
  simp only [List.mem_cons, List.not_mem_nil, or_false] at h
  rcases h with rfl | rfl | rfl | rfl | rfl | rfl <;> exact writes_of (by decide)

theorem witness_keep_done :
    (let k : KeepCmd := ⟨3, [0, 0, 1, 0]⟩
     let s : State := { live with fire.keep := some k, fire.version := 1 }
     s.fire.keep = some k ∧ s.keepRefused k = false ∧ ({ s with fire.version := 0 } : State).keepRefused k = true ∧
     s.memFrozen k.ptr = false) ∧
    (let k : KeepCmd := ⟨6, [0x18000000, 0, 0, 0]⟩
     let s : State := { live.setFlag (eccPage k.ptr) F.TSRAM_ARB_FRZ_FREEZE true with fire.keep := some k }
     s.fire.keep = some k ∧ s.memFrozen k.ptr = true) ∧
    (∀ n ∈ [1, 3], let k : KeepCmd := ⟨5, [0, 0, n, 0]⟩
      let s : State := { live with fire.keep := some k, fire.otp.keys := [(0, []), (1, [])] }
      s.fire.keep = some k ∧ s.keepRefused k = false) ∧
    (let k : KeepCmd := ⟨6, [0, 0, 0, 0]⟩
     let s : State := { live with fire.keep := some k }
     s.keepRefused k = false) ∧
    (let k : KeepCmd := ⟨1, [0x18000000, 0, 1, 0]⟩
     let s := (live.flashWrite 0 0x28 [0, 0, 2, 0]).writeMem 0x18000000 (JItem.bytes ⟨3, 5, 1, 1⟩)
     s.keepRefused k = false ∧ s.memFrozen k.ptr = false) := by decide

theorem witness_measurement : live.Writes pageMEAS 0x440 0 1 ∧ live.logFull = false :=
  ⟨writes_of (by decide), by decide⟩

theorem witness_log_full (log : List MRec) (h : 65536 ≤ log.length) : let s : State := { live with fire.log := log }
    s.logFull = true ∧ s.Writes pageMEAS 0x440 0 1 :=
  ⟨decide_eq_true h, writes_of ((by decide : (reachesB live pageMEAS 0x440 ⟨0, pageMEAS.base + 0x440, 4, true, 1⟩ && decide (1 < 2 ^ 32) &&
    !live.wordUnder pageMEAS 0x440 4 0) = true))⟩

theorem witness_log_length : 65536 ≤ (List.replicate 65536 (⟨0, 0, 0, 0, 0, []⟩ : MRec)).length := by
  rw [List.length_replicate]

/-- Attestation: a fragment that is a whole request, from a connection with none, with one that waits, and with that one answered;
malformed fragments; both time-outs; a request of each kind. -/
theorem witness_fragments : let b := [1, 3, 0, 7, 0, 0, 0, 4, 0x12, 0x84, 0, 0].map (BitVec.ofNat 8 ·)
    let c : Conn := ⟨0, 5, 6, 0, none, [], none, none, [], [], false, [], []⟩
    let s := fun (c : Conn) => ({ live with fire.spdm := true, fire.conns := [c] } : State)
    (s c).fire.spdm = true ∧ 9 ≤ b.length ∧ b.length ≤ 1400 ∧ leAt b 0 1 = 1 ∧ leAt b 1 1 < 4 ∧ beAt b 4 2 = 0 ∧
    beAt b 6 2 = (b.drop 8).length ∧ ((s c).openConn 0 5 6).2.req = none ∧ ((s c).openConn 0 5 6).2.asm = none ∧
    ((s c).openConn 0 5 6).2.done ≠ some (beAt b 2 2) ∧ ((s { c with done := some 7 }).openConn 0 5 6).2.done = some (beAt b 2 2) ∧
    ((s { c with req := some (7, []) }).openConn 0 5 6).2.req = some (7, []) ∧ live.fire.spdm = false ∧
    (let t : State := { s { c with asm := some (7, 9, 0) } with tick := 200000000 }
     ∃ x, t.conn 0 5 6 = some x ∧ x.asm = some (7, 9, 0) ∧ 0 + 200000000 ≤ t.tick) ∧
    (let t : State := { s c with tick := 120000000000 }
     ∃ x, t.conn 0 5 6 = some x ∧ x.last + 120000000000 ≤ t.tick) ∧
    (∀ k ∈ [0x84, 0xE1, 0xE3, 0x81, 0x82, 0x83, 0xE0, 0x99], leAt [0x12, BitVec.ofNat 8 k, 0, 0] 1 1 = k) :=
  ⟨by decide, by decide, by decide, by decide, by decide, by decide, by decide, by decide, by decide, by decide, by decide, by decide,
    by decide, ⟨_, rfl, by decide, by decide⟩, ⟨_, rfl, by decide⟩, by decide⟩

/-! ### Device groups -/

/-- Member 0 of a group, in a state of GRP_STAT, with the members of `present` there, in a tick. -/
def grouped (st present tick : Nat) : State :=
  let s := ((live.setFlag pgGRPL F.GRP_CTRL_EN true).setF pgGRPL F.GRP_CTRL_ID 0).setF pgGRPL F.GRP_STAT_STATE st
  { s.setF pgGRPL F.GRP_STAT_PRESENT present with tick := tick }

/-- DeviceGroups: STATUS after exactly 10 microseconds; a frame that is newer, one that is not, and one that skips; a member lost. -/
theorem witness_group_fragments :
    (grouped 2 3 0).grpTake 0 8 1 = none ∧ ((grouped 2 3 0).grpTake 1 8 1).isSome = true ∧
    ({ grouped 2 3 0 with fire.spdm := true } : State).fire.spdm = true ∧
    fragOk ([1, 3, 0, 7, 0, 0, 0, 4, 0x12, 0x84, 0, 0].map (BitVec.ofNat 8 ·)) = true ∧
    (1 : Nat) < ((List.replicate 1393 (0 : Byte)).length + 1391) / 1392 := by
  refine ⟨by decide, by decide, by decide, by decide, ?_⟩
  rw [List.length_replicate]
  decide

theorem witness_group_frames :
    ((grouped 2 3 20000).grpOn = true ∧ (grouped 2 3 20000).grp.statusAt + 20000 ≤ (grouped 2 3 20000).tick) ∧
    (let s := (grouped 2 3 0).setPeer 1 { seqs := SMap.put [] 1 7 }
     s.grpOn = true ∧ 1 ≠ s.ownId ∧ newer (SMap.get? (s.peer 1).seqs 1) 8 = true ∧ newer (SMap.get? (s.peer 1).seqs 1) 7 = false ∧
     (s.grpTake 1 1 8).isSome = true ∧ live.grpOn = false ∧ (∀ ty ∈ [3, 4, 5, 6, 7, 9], (s.grpTake 1 ty 1).isSome = true)) ∧
    (∀ seen ∈ [some 0, none], let s := ((grouped 2 3 100000).setPeer 1 { seen := seen }).setF pgGRPL F.GRP_CTRL_LOSS_TMO 50
      s.laneUsed 1 = true ∧ (s.peer 1).lost = false ∧
      (s.peer 1).seen.getD s.grp.onAt + 2000 * s.getF pgGRPL F.GRP_CTRL_LOSS_TMO ≤ s.tick ∧
      ({ s with tick := 99999 } : State).tick < (s.peer 1).seen.getD s.grp.onAt + 2000 * s.getF pgGRPL F.GRP_CTRL_LOSS_TMO) ∧
    (grouped 2 3 0).laneUsed 0 = false ∧ (((grouped 2 3 0).setPeer 1 { lost := true }).peer 1).lost = true ∧
    (grouped 2 3 0).getF pgGRPL (F.grpOwner 7) = 0 := by decide

/-- A peer that may be admitted: with a lower EPOCH, with the same EPOCH and the digest of the set that is in force, and one that may not. -/
theorem witness_admission : let s := (grouped 1 0 0).setFbit pgGRPL F.GRP_CTRL_EXPECT 1 true
    let low := (s.setF pgGRPL F.GRP_EPOCH_EPOCH 5).setPeer 1 { id := 1, seen := some 0, epoch := 4 }
    (low.laneUsed 1 = true ∧ low.grpState = 1 ∧ (low.peer 1).seen.isSome = true ∧ low.present 1 = false ∧ low.grp.commit = none ∧
      low.admitCause 1 true = 0 ∧ (low.peer 1).epoch < low.epoch ∧ (low.peer 1).challenged = false ∧
      ((low.setPeer 1 { low.peer 1 with ask := { result := some (some 0) }, answered := true }).peer 1).challenged = true) ∧
    (low.admitCause 1 false ≠ 0) ∧ ({ grouped 3 0 5 with grp.retryAt := 5 } : State).grpState = 3 := by decide

theorem witness_admission_agreed (d : Byte) (ds : List Byte) (h : (grouped 1 0 0).activeDigest = d :: ds) :
    let s := (grouped 1 0 0).setPeer 1 { id := 1, seen := some 0, digest := (grouped 1 0 0).activeDigest }
    (s.peer 1).epoch = s.epoch ∧ (s.peer 1).digest ≠ [] := by
  intro s
  have hd : (s.peer 1).digest = (grouped 1 0 0).activeDigest := by
    simp only [s, State.peer, State.setPeer]
    rfl
  exact ⟨by rfl, by rw [hd, h]; exact List.cons_ne_nil _ _⟩

theorem witness_group_sets : let s := grouped 2 3 0
    (s.epoch = 0 ∧ ((List.range 8).any fun q => s.tilesOf q != [] && s.grpClocked q) = false) ∧
    (let t := (s.setFbit pgGRPL (F.GRP_PART_TILES_V 0) 0 true).setFlag (pgPWMG 0 0) (F.PWMG_CTRL_RUN 0) true
     ((List.range 8).any fun q => t.tilesOf q != [] && t.grpClocked q) = true) ∧
    (let t := (s.setF pgGRPL (F.grpOwner 2) 1).setFbit pgGRPL (F.GRP_PART_CFG_MEMBERS 2) 0 true
     t.getF pgGRPL (F.grpOwner 2) = 1 ∧ t.fbit pgGRPL (F.GRP_PART_CFG_MEMBERS 2) t.ownId = true) := by decide

theorem witness_ownership : let s := grouped 2 3 0
    (s.grpOn = true ∧ s.grp.frame = none ∧ s.count % 100000 = 0 ∧ s.grp.accepted < 2 ∧
      2 ≤ ({ s with grp.accepted := 2 } : State).grp.accepted) ∧
    (∀ steady, let f : OwnFrame := ⟨0, true, 4, 3, steady, [0, 1, 2, 3, 4, 5, 6, 7]⟩
      let t : State := { s with grp.frame := some f, tick := 68000 }
      t.grpOn = true ∧ t.grp.frame = some f ∧ f.at_ + 68000 ≤ t.tick ∧ 67999 < f.at_ + 68000) ∧
    (let f : OwnFrame := ⟨0, true, 4, 3, true, [0, 1, 2, 3, 4, 5, 6, 7]⟩
     ownAccepted (f.levels (2 ^ 34 - 1)) (f.levels (2 ^ 34 - 1)) = true ∧ ownAccepted (f.levels (2 ^ 34 - 1)) (f.levels 3) = false) ∧
    ownAccepted 2 2 = true ∧ ownAccepted 3 2 = false ∧
    (s.getF pgGRPL (F.grpOwner 7) ≠ 7 ∧ s.ownId ≠ 7) := by decide

theorem witness_claims : let p := pageGRPL
    let v := 2 ^ 31 + 2
    let s := unlocked (grouped 2 3 0) p
    let m := unlocked ((grouped 2 3 0).setFbit pgGRPL (F.GRP_PART_CFG_MEMBERS 2) 0 true) p
    s.lockOpen p 0 = true ∧ m.lockOpen p 0 = true ∧ s.Writes p 0x54 0 v ∧ m.Writes p 0x54 0 v ∧
    (m.put p (m.wrOf p 0 v) 0x54 [F.GRP_CLAIM_GO]).2 = 0 ∧ (s.put p (s.wrOf p 0 v) 0x54 [F.GRP_CLAIM_GO]).2 = 0 ∧
    (m.put p (m.wrOf p 0 v) 0x54 [F.GRP_CLAIM_GO]).1.fbit pgGRPL (F.GRP_PART_CFG_MEMBERS 2) 0 = true ∧
    (s.put p (s.wrOf p 0 v) 0x54 [F.GRP_CLAIM_GO]).1.fbit pgGRPL (F.GRP_PART_CFG_MEMBERS 2) 0 = false := by
  intro p v s m
  refine ⟨unlocked_open _ _, unlocked_open _ _, writes_of (by decide), writes_of (by decide), ?_, ?_, ?_, ?_⟩ <;>
    rw [wrOf_unlocked] <;> decide

/-- The commit: a proposal at the first period that may be proposed, and one before it; a member's and the proposer's own. -/
theorem witness_commit : let p := pageGRPL
    let at_ := fun (n : Nat) => (grouped 2 3 0).setF pgGRPL F.GRP_CPNUM_P n
    let com := fun (mine : Bool) (d : Option Bool) => ({ grouped 2 3 0 with grp.commit := some ⟨mine, 1, [], 1, 3, d, false⟩ } : State)
    ((at_ 4).Writes p 0x5C 0 1 ∧ (at_ 4).grp.commit = none ∧ (at_ 4).flag pgGRPL F.GRP_STAT_HELD = false ∧
      (at_ 4).grpPnum + 4 ≤ (at_ 4).getF pgGRPL F.GRP_CPNUM_P) ∧
    ((at_ 3).Writes p 0x5C 0 1 ∧ (at_ 3).getF pgGRPL F.GRP_CPNUM_P < (at_ 3).grpPnum + 4) ∧
    ((com true none).Writes p 0x5C 0 1 ∧ (com true none).grp.commit.isSome = true) ∧
    (((at_ 4).setFlag pgGRPL F.GRP_STAT_HELD true).Writes p 0x5C 0 1 ∧
      ((at_ 4).setFlag pgGRPL F.GRP_STAT_HELD true).flag pgGRPL F.GRP_STAT_HELD = true) ∧
    (∀ mine, ((com mine none).grpTake 1 4 1).isSome = true ∧ ((com mine none).grpTake 1 5 1).isSome = true) ∧
    (1 ≤ (com true none).grpPnum + 1 ∧ (com true none).getF pgGRPL F.GRP_STAT_PRESENT &&& 3 = (com true none).getF pgGRPL F.GRP_STAT_PRESENT ∧
      (com true none).getF pgGRPL F.GRP_STAT_PRESENT &&& 1 ≠ (com true none).getF pgGRPL F.GRP_STAT_PRESENT) ∧
    (let s := (com false none).setF (pgPWMG 0 0) (F.PWMG_PNUM_PNUM 0) 9
     1 + 8 ≤ s.grpPnum) :=
  ⟨⟨writes_of (by decide), by decide⟩, ⟨writes_of (by decide), by decide⟩, ⟨writes_of (by decide), by decide⟩,
    ⟨writes_of (by decide), by decide⟩, by decide, by decide, by decide⟩

theorem witness_prepare : let s := grouped 2 3 0
    let c : Commit := ⟨false, 1, [], 1, 0, none, true⟩
    let t : State := { s with grp.commit := some c }
    (∃ u g, s.grpTake 1 4 1 = some (u, g) ∧ u.grp.commit = none ∧ u.flag pgGRPL F.GRP_STAT_HELD = false ∧ 1 = (u.epoch + 1) % 2 ^ 64) ∧
    (∃ u g, t.grpTake 1 4 1 = some (u, g) ∧ u.grp.commit = some c ∧ c.mine = false ∧ c.refused = true) ∧
    (∃ u g, t.grpTake 1 5 1 = some (u, g) ∧ u.grp.commit = some c ∧ c.decide_ = none) :=
  ⟨⟨_, _, rfl, by decide⟩, ⟨_, _, rfl, by decide⟩, _, _, rfl, by decide⟩

/-- The exchange of time of a master and of a follower, at the offsets where the cases meet. -/
theorem witness_group_time : let s := grouped 2 3 0
    let f := s.setPeer 0 { healthy := false }
    let f := (f.setFlag pgGRPL F.GRP_TIME_ELIG false).setPeer 1 { state := 2, healthy := true }
    (s.chooseMaster.grpOn = true ∧ s.chooseMaster.grpState = 2 ∧ s.chooseMaster.isMaster = true) ∧
    (f.chooseMaster.grpOn = true ∧ f.chooseMaster.grpState = 2 ∧ f.chooseMaster.isMaster = false ∧
      (f.chooseMaster.grpSend 1 2 [0]).getF pgTBAS F.TBAS_CTRL_SRC ≠ 4) ∧
    ((1600 : Int) < 1601 ∧ (-1601 : Int) < -1600 ∧ (-800 : Int) < 799 ∧ (799 : Int) < 800) := by decide

theorem witness_group_config : let s := grouped 2 3 0
    let c : Commit := ⟨false, 0, [1], 5, 0, none, false⟩
    let t : State := { s with grp.commit := some c }
    (∃ u g, s.grpTake 1 3 1 = some (u, g) ∧ u.present 1 = true ∧ u.grpState = 2 ∧ 0 = u.epoch) ∧
    (∃ u g, (grouped 1 0 0).grpTake 1 3 1 = some (u, g) ∧ u.present 1 = false) ∧
    (∃ u g, t.grpTake 1 3 1 = some (u, g) ∧ u.present 1 = true ∧ u.grpState = 2 ∧ 5 ≠ u.epoch ∧ u.grp.commit = some c ∧ c.p ≤ u.grpPnum) ∧
    (s.setFlag pgGRPL F.GRP_STAT_HELD true).flag pgGRPL F.GRP_STAT_HELD = true ∧ s.flag pgGRPL F.GRP_STAT_HELD = false ∧
    ((s.grpSendAll 3 s.configWords).grpState = 2 ∧ ((grouped 1 0 0).grpSendAll 3 (grouped 1 0 0).configWords).grpState ≠ 2) :=
  ⟨⟨_, _, rfl, by decide⟩, ⟨_, _, rfl, by decide⟩, ⟨_, _, rfl, by decide⟩, by decide, by decide, by decide⟩

/-! ### The debug monitor and the test access port -/

/-- Both ports accept Derevo datagrams, and port 0 frames. -/
def monOn (en : Bool := true) : State :=
  let s := (live.setFlag (pgMGMT 0) F.MGMT_CTRL_EN true).setFbit pgDBG F.DBG_CTRL_PORTS 0 true
  s.setFlag pgDBG F.DBG_CTRL_EN en

/-- Fourteen bytes of a frame: to an address, from a station, with a type; then a payload. -/
def frame (dst : Byte) (ty : List Byte) (p : List Byte) : List Byte := List.replicate 6 dst ++ [2, 0, 0, 0, 0, 9] ++ ty ++ p

/-- DerevoSessions: a port that is off; a PRP duplicate and a frame seen first; a frame for another station, an IPv4 packet, an
ARP request. -/
theorem witness_mgmt_frames :
    live.flag (pgMGMT 0) F.MGMT_CTRL_EN = false ∧ (monOn.flag (pgMGMT 0) F.MGMT_CTRL_EN = true) ∧
    (let f := frame 0xFF [8, 0] (List.replicate 40 0 ++ [0, 7, 0xA0, 46, 0x88, 0xFB])
     let s := monOn.setFlag (pgMGMT 0) F.MGMT_CTRL_PRP true
     (s.prpDup f).2 = false ∧ (((s.prpDup f).1).prpDup f).2 = true) ∧
    (let f := frame 1 [8, 0] []
     monOn.prpDup f = (monOn, false) ∧ 14 ≤ f.length ∧ beAt f 12 2 ≠ 0x8100 ∧ beAt f 12 2 ≠ 0x88F7 ∧ f.take 6 ≠ monOn.ownMac 0 ∧
     f.take 6 ≠ List.replicate 6 0xFF#8) ∧
    (let f := frame 0 [8, 0] []
     monOn.prpDup f = (monOn, false) ∧ 14 ≤ f.length ∧ beAt f 12 2 = 0x0800 ∧ f.take 6 = monOn.ownMac 0) ∧
    (let f := frame 0xFF [8, 6] ([0, 1, 8, 0, 6, 4, 0, 1] ++ List.replicate 20 0)
     monOn.prpDup f = (monOn, false) ∧ beAt f 12 2 = 0x0806 ∧ f.take 6 = List.replicate 6 0xFF#8 ∧ 28 ≤ (f.drop 14).length ∧
     beAt (f.drop 14) 0 8 = 0x0001080006040001 ∧ beAt (f.drop 14) 24 4 = monOn.getF (monOn.addrPage 0) F.MGMT_IP_V) := by decide

theorem witness_prp_supervision : let s : State := { monOn.setFlag (pgMGMT 0) F.MGMT_CTRL_PRP true with tick := 4000000000 }
    s.flag (pgMGMT 0) F.MGMT_CTRL_PRP = true ∧ s.mon.prpAt + 4000000000 ≤ s.tick := by decide

/-- A session with id 1, and a state that holds it. -/
def session (control : Bool) (tag : Option Nat) (halt : Option HaltReq) : Session :=
  { id := 1, port := 0, addr := 5, udp := 6, control := control, kIn := [], kOut := [], last := 0, cstat := [], tag := tag, halt := halt }

def inSession (x : Session) (tick : Nat := 0) : State := { monOn with mon.sessions := [x], tick := tick }

/-- A HELLO where sessions are accepted, where they are off, and where none is free. -/
theorem witness_hello :
    let b := [0x44, 0x56, 1, 1].map (BitVec.ofNat 8 ·) ++ List.replicate 12 0 ++ List.replicate 32 1 ++ [4] ++ List.replicate 96 2 ++
      [4] ++ List.replicate 96 3 ++ [1, 0]
    let full : State := { monOn with mon.sessions := List.replicate 4 (session false none none) }
    monOn.drvPort 0 = true ∧ drvOk b 1 244 = true ∧ beAt b 4 12 = 0 ∧ beAt (slice (b.drop 16) 32 97) 0 1 = 4 ∧
    beAt (slice (b.drop 16) 129 97) 0 1 = 4 ∧ beAt (b.drop 16) 226 1 ≤ 1 ∧ beAt (b.drop 16) 227 1 = 0 ∧
    (monOn.flag pgDBG F.DBG_CTRL_EN = true ∧ monOn.mon.sessions.length + monOn.mon.hands.length < 4) ∧
    ((monOn false).drvPort 0 = true ∧ (monOn false).flag pgDBG F.DBG_CTRL_EN = false) ∧
    (full.drvPort 0 = true ∧ 4 ≤ full.mon.sessions.length + full.mon.hands.length) := by decide

/-- A PROVE datagram of a handshake in progress. Whether its signature holds is not evaluated here: Config.ecdsaVerify has no body. -/
theorem witness_prove : let b := [0x44, 0x56, 1, 3, 0, 0, 0, 1].map (BitVec.ofNat 8 ·) ++ List.replicate 104 0
    let h : Hand := ⟨1, 0, 5, 6, 0, true, [], [], [], [], [], []⟩
    let s : State := { monOn with mon.hands := [h] }
    s.drvPort 0 = true ∧ drvOk b 3 112 = true ∧ beAt b 8 8 = 0 ∧
    (s.mon.hands.find? fun y => y.id == beAt b 4 4 && y.port == 0 && y.addr == 5 && y.udp == 6) = some h := by decide

/-- A SEALED datagram of an open session, with a SEQ that is new. What it opens to is not evaluated here: Config.gcmOpen has no body. -/
theorem witness_sealed : let b := [0x44, 0x56, 1, 0x10, 0, 0, 0, 1, 0, 0, 0, 0, 0, 0, 0, 1].map (BitVec.ofNat 8 ·) ++ List.replicate 24 0
    let x := session true none none
    let s := inSession x
    let m : List Byte := [1, 0, 0, 7, 0, 0, 0, 0]
    s.drvPort 0 = true ∧ drvOk b 0x10 b.length = true ∧ 40 ≤ b.length ∧
    (s.mon.sessions.find? fun y => y.id == beAt b 4 4 && y.port == 0 && y.addr == 5 && y.udp == 6) = some x ∧
    beAt b 8 8 ≤ { x with seqIn := 1 }.seqIn ∧ x.seqIn < beAt b 8 8 ∧ beAt b 8 8 ≠ 2 ^ 64 - 1 ∧
    8 ≤ m.length ∧ m.length ≤ 1352 ∧ beAt m 1 1 = 0 ∧ beAt m 4 2 = m.length - 8 ∧ beAt m 6 2 = 0 := by decide

/-- Sessions idle for 10 s, with and without control; requests that meet BUSY, the last TAG, and no control; a HALT after 1 ms. -/
theorem witness_sessions :
    (let x := session true none none
     (inSession x 20000000000).session 1 = some x ∧ x.last + 20000000000 ≤ 20000000000 ∧
     ((inSession x).setFlag pgDBG F.DBG_CTRL_REL_LOSS false).flag pgDBG F.DBG_CTRL_REL_LOSS = false ∧ (session false none none).control = false) ∧
    (let x := session true none (some ⟨7, [0], 0, false⟩)
     (inSession x).session 1 = some x ∧ x.halt.isSome = true) ∧
    (let x := session true (some 7) none
     (inSession x).session 1 = some x ∧ x.halt = none ∧ x.tag = some 7) ∧
    (let x := session false none none
     (inSession x).session 1 = some x ∧ x.halt = none ∧ x.tag ≠ some 7 ∧ x.control = false ∧ 0x10 ∉ [1, 2, 3, 0x20, 0x22]) ∧
    (let h : HaltReq := ⟨7, [0], 0, false⟩
     let x := session true none (some h)
     (inSession x 2000000).session 1 = some x ∧ x.halt = some h ∧ h.step = false ∧ h.at_ + 2000000 ≤ (inSession x 2000000).tick) := by
  decide

/-- A session with control, and unit 0 halted. -/
def debugging : State :=
  let s := (inSession (session true none none)).setFlag (pgCORE 0) F.CORE_STAT_HALTED true
  s.setFlag (pgCORE 0) F.CORE_CTRL_HOLD false

/-- DerevoDebugAndTap: bodies of the operations that a controller may send. -/
theorem witness_operations : let s := debugging
    let x := session true none none
    s.session 1 = some x ∧ x.id = 1 ∧ x.halt = none ∧ x.tag ≠ some 7 ∧ x.control = true ∧ (s.monAlter x).2 = true ∧ s.fire.otp.life ≠ 1 ∧
    (s.unitHalted 0 = true ∧ s.unitHalted 2 = false) ∧ ([0] : List Byte).length = 1 ∧
    (let b : List Byte := [0, 0, 0, 0x20]
     b.length = 4 ∧ beAt b 0 1 ≤ 80 ∧ beAt b 1 1 = 0 ∧ dbgListed (beAt b 2 2) = true) ∧
    (let b : List Byte := [0] ++ List.replicate 19 0
     b.length = 20 ∧ beAt b 0 1 < 80 ∧ beAt b 1 1 = 0 ∧ dbgListed (beAt b 2 2) = true ∧ beAt b 2 2 ≠ 0x21 ∧ beAt b 2 2 ≠ 0x142) ∧
    (let b : List Byte := List.replicate 24 0
     b.length = 24 ∧ beAt b 0 1 < 80 ∧ beAt b 1 1 ≤ 3 ∧ beAt b 2 2 ≤ 15 ∧ beAt b 4 2 ≤ 4095 ∧ beAt b 6 2 = 0 ∧ beAt b 8 8 < 2 ^ 48 ∧
     beAt b 20 4 = 0) ∧
    (let b : List Byte := [0, 1]
     b.length = 2 ∧ beAt b 0 1 < 80 ∧ beAt b 1 1 ≤ 1) ∧
    (List.replicate 12 (0 : Byte)).length = 12 ∧ 80 ∉ maskUnits (List.replicate 12 0) := by decide

/-- A READ of four bytes at virtual address 0 of unit 0, and a WRITE of four bytes at physical address 0x10000000. -/
theorem witness_read_write : let s := debugging
    (let b : List Byte := [1] ++ List.replicate 11 0 ++ [0, 4, 0, 0]
     let r := s.monRead 1 0 (pieces 4 0 4)
     b.length = 16 ∧ 0 < beAt b 12 2 ∧ beAt b 12 2 ≤ 1024 ∧ beAt b 2 2 = 0 ∧ beAt b 14 2 = 0 ∧ beAt b 4 8 + beAt b 12 2 ≤ 2 ^ 48 ∧
     beAt b 0 1 = 1 ∧ beAt b 1 1 < 80 ∧ s.unitHalted (beAt b 1 1) = true ∧ beAt b 4 8 = 0 ∧ beAt b 12 2 = 4 ∧ r.2 = .inl [0, 0, 0, 0]) ∧
    (let b : List Byte := [0, 0, 0, 0, 0, 0, 0, 0, 0x10, 0, 0, 0, 0, 4, 0, 0, 1, 2, 3, 4]
     let a := beAt b 4 8
     let n := beAt b 12 2
     b.length = 16 + n ∧ beAt b 0 1 = 0 ∧ 0 < n ∧ n ≤ 1024 ∧ beAt b 2 2 = 0 ∧ beAt b 14 2 = 0 ∧ a + n ≤ 2 ^ 48 ∧ State.inRegs a n = false ∧
     deniedRange a n = false ∧ (s.monAlter (session true none none)).2 = true) := by decide

theorem witness_write_done : let s := debugging
    let m := s.monAlter (session true none none)
    (m.1.monWrite 0 0 0x10000000 [1, 2, 3, 4] (pieces 4 0x10000000 4)).2 = none := by rfl

/-- CORE_DCTL written by the monitor: HALT_REQ of a pair that runs, RESUME and STEP of one that is halted. -/
theorem witness_run_control : let p := pageCORE 0
    let s := unlocked core0 p 0x1F1
    let h := unlocked debugging p 0x1F1
    s.lockOpen p 0x1F1 = true ∧ h.lockOpen p 0x1F1 = true ∧
    (s.Writes p 0x80 0x1F1 1 ∧ s.wordAt (pgCORE 0 + 0x80) = 0 ∧ (s.put p (s.wrOf p 0x1F1 1) 0x80).2 = 0 ∧ bits 1 0 3 = 1 ∧
      s.halted 0 = false ∧ s.pairStopped 0 = false) ∧
    (∀ v ∈ [2, 4], h.Writes p 0x80 0x1F1 v ∧ h.wordAt (pgCORE 0 + 0x80) = 0 ∧ (h.put p (h.wrOf p 0x1F1 v) 0x80).2 = 0 ∧ bits v 0 3 = v ∧
      ((h.put p (h.wrOf p 0x1F1 v) 0x80).1).halted 0 = true ∧
      (((h.put p (h.wrOf p 0x1F1 v) 0x80).1).pair 0).stepping = false) := by
  intro p s h
  refine ⟨unlocked_open _ _ _, unlocked_open _ _ _, ⟨writes_of (by decide), by decide, ?_, by decide⟩, ?_⟩
  · rw [wrOf_unlocked]; decide
  · intro v m
    simp only [List.mem_cons, List.not_mem_nil, or_false] at m
    rcases m with rfl | rfl <;> refine ⟨writes_of (by decide), by decide, ?_, by decide, ?_, ?_⟩ <;> rw [wrOf_unlocked] <;> decide

theorem witness_debug_entry : let s := core0.setFlag (pgCORE 0) F.CORE_DCTL_HALT_REQ true
    let t := core0.setPair 0 { core0.pair 0 with dbgDue := some (4, 1, true) }
    s.pairAlive 0 = true ∧ s.halted 0 = false ∧ s.atBoundary 0 = true ∧ (s.pair 0).replay = [] ∧ (s.pair 0).dbgDue = none ∧
    s.flag (pgCORE 0) F.CORE_DCTL_HALT_REQ = true ∧
    t.pairAlive 0 = true ∧ t.halted 0 = false ∧ t.atBoundary 0 = true ∧ (t.pair 0).replay = [] ∧
    (t.pair 0).dbgDue = some (4, 1, true) := by decide

/-- Pages that freeze and that run again: a generator page, a timer page and a PKEEP page of tile 0, whose pair 0 is halted. -/
def freezing (p : Page) (mode : Nat) : State :=
  ((debugging.setFlag pgDBG (F.DBG_CFOWN_VALID 0) true).setFlag p.base (F.hdrFrzEn p.ty) true).setF p.base (F.hdrFrzMode p.ty) mode

/-- Each form of FREEZE_BEGIN: a generator page in mode hold, a timer page in modes continue and hold, and a generator page and a
PKEEP page in mode dust sheet. -/
theorem witness_freezes : ∀ e ∈ [(pagePWMG 0 0, 1), (pageTIMR 0, 0), (pageTIMR 0, 1), (pagePWMG 0 0, 2), (⟨.pkeep, pgPKEEP 0, 0, 0⟩, 2)],
    let p : Page := e.1
    let s := freezing p e.2
    pageAt p.base = some p ∧ p.ty.freezable = true ∧ s.flag p.base (F.hdrFrzEn p.ty) = true ∧ s.ownerHalted p = true ∧
      SMap.has s.bus.frozen p.base = false ∧ s.getF p.base (F.hdrFrzMode p.ty) = e.2 := by decide

/-- Both forms of FREEZE_END: a generator page, and a timer page held in modes continue and hold. -/
theorem witness_freeze_ends : ∀ e ∈ [(pagePWMG 0 0, 1), (pageTIMR 0, 0), (pageTIMR 0, 1)],
    let p : Page := e.1
    let s : State := { core0 with bus.frozen := SMap.put [] p.base e.2 }
    pageAt p.base = some p ∧ SMap.has s.bus.frozen p.base = true ∧ s.ownerHalted p = false ∧
      SMap.getD s.bus.frozen p.base 0 = e.2 := by decide

theorem witness_tap : live.pwr.resetN = true ∧ State.reset.pwr.resetN = false := by decide

/-! ### The worked examples of the manual -/

/-- Chapter 2, worked example: the PAGE_ID of the page, and the record of a byte write of core pair 26. -/
theorem test_example_page : (live.busAccess ⟨0x1A, 0x0CB22000, 4, false, 0⟩).2 = some ⟨false, 0x8D0248⟩ ∧
    (let s := live.busAccess ⟨0x1A, 0x0CB22040, 1, true, 5⟩
     s.2.map (·.err) = some true ∧ s.1.wordAt 0x08D22028 = 0x1A911 ∧ s.1.wordAt 0x08D2202C = 0x0CB22040 ∧
     s.1.wordAt 0x08D22014 = 2 ^ 31) ∧
    target State.reset.phys 0x0CBC0940 = .ctx 13 (37 * 64) := by decide

/-- Chapter 3, R68: timer 3 over a sleep of 6,400,000 ticks. -/
theorem test_example_timer : timerAdvance { val := 250, ph := 400 } 2 1999 999 6400000 = ({ val := 450, ph := 400 }, 3, 0) := by decide

/-- Chapter 4, worked example: two corrected codes. -/
theorem test_example_sample : correct 12000 8203 0x4100 = (15425, false) ∧ correct 4000 8203 0x4100 = (-17075, false) := by decide

/-- Chapter 5, worked example: the word of the PI step, its result and its integrator, and the duty of cell 237. -/
def exampleRun (v w : List Nat) : Run := { aRun with v := v, w := w }

theorem test_example_pi : let v := [0x3C410000, 0, 0, 966367642 + 2 ^ 32 - 1010892800, 0x1999999A, 0x0083126F, 0, 0x26666666]
    let r := exampleRun v [0, 0, 0, 0, 0, 0, 0, 0, 0, 0, 0x1EB851EC, 0, 0, 0, 0, 0]
    (r.pi 0x0000007000011E28).st 0 = 515217975 ∧ (r.pi 0x0000007000011E28).reg 6 = 506312943 ∧
    ((exampleRun [0, 0, 0, 0, 1557888934, 0, 3200000, 0] []).duty (0x30 + 2 ^ 8 * 7 + 2 ^ 11 * 4 + 2 ^ 14 * 6)).reg 7 = 2321435 := by decide

/-- Chapter 6, example under R155: the set of generator 2,853; and the two policies of the bench leg. -/
theorem test_example_edges :
    (let x : Gen := { origin := 48300000, per := 100000, on_ := 439282, off_ := 2760717, l := true }
     let p : Dead := ⟨192000, 256000, true⟩
     let f := (x.mainPulse p 0 false).1.form p false false (32 * 48400000 + 439282)
     (transSort f.trans).map (fun t => (t.isH, t.rise, t.at_ / 32, t.at_ % 32)) =
       [(false, false, 48313727, 18), (true, true, 48319727, 18), (true, false, 48386272, 13), (false, true, 48392272, 13)]) ∧
    (let x : Gen := { per := 400000, on_ := 6368000, off_ := 6656000, l := true }
     let p : Dead := ⟨128000, 192000, true⟩
     (x.mainPulse p 0 false).2 = 1 ∧ (x.mainPulse p 0 false).1.pulse = false ∧
     ((x.mainPulse p 1 false).1.form p false false (32 * 800000)).trans.map (fun t => (t.isH, t.rise, t.at_ / 32)) =
       [(false, false, 199000), (true, true, 203000), (true, false, 209000), (false, true, 213000)]) := by decide

/-- Chapter 7, worked example: the headers and the blocks of the set of cell 237. -/
theorem test_example_set :
    let f : Frame := { ty := 1, pos := 12, seq := 0x2A41, blocks := setBlocks 48300000 100000 483 [(439282, 1, false), (631282, 0, true), (2760717, 0, false), (2952717, 1, true)] }
    f.head 0 = 0x00062A410301 ∧ f.head 1 = 0x00062A410311 ∧ f.blocks = [0x0000000002E0FFE0, 0x000001E3000186A0, 0x000000010006B3F2,
      0x000000020009A1F2, 0x00000000002A200D, 0x00000003002D0E0D] := by decide

/-- Chapter 8, worked example: the sizes of a bank, and step 0 of cell 237 under candidate 17. -/
theorem test_example_forecast : bankRB 400 = 832 ∧ bankRC 400 = 1600 ∧ bankCB 400 8 = 0x1AC0 ∧ bankSize 400 8 64 = 109248 ∧
    q15 (-8589935) = -131 ∧ rnd15 70291456 = 2145 ∧
    (let bank := List.replicate 0x40 0 ++ toBytes 0x0000200040004000 8 ++ List.replicate (0x29A - 0x48) 0 ++ toBytes 147 2
     evalStep bank (bankRB 400) 237 (-131) 2145 24904 6 (25067, 0) 0 = (25140, 131637248)) := by decide

/-- Chapter 11, worked example: ASRI A0, A0, 8 and MOVR G5, A0 after the loop: the writes on their way. -/
theorem test_example_sum :
    let s := fun (a : Nat) => coreR fun r => { r with a := [a, 0, 0, 0] }
    let pw := fun (o : Out) => match o with
      | .next t => (t.pair 0).pw.map fun (e : PWrite) => (e.target, e.value)
      | _ => []
    (16, 0x3840000000000000) ∈ pw (exec (.iAsri ⟨0, [0xE7]⟩ 0 8) (s 0x384000000000000000)) ∧
    (5, 0x38400000) ∈ pw (exec (.iMovr w0 5) (s 0x3840000000000000)) ∧
    (5, 0x7FFFFFFF) ∈ pw (exec (.iMovr w0 5) (s 0x384000000000000000)) := by decide

/-- Chapter 12, worked example: the bursts, and word 0 of the fault record. -/
theorem test_example_dma :
    let d : Desc := ⟨0, false, false, false, false, true, true, 0x37, 1600, 0x20000080, 0x40000F40, 0⟩
    burstLen d 0x20000080 0x40000F40 1600 = 128 ∧ burstLen d 0x20000100 0x40000FC0 1472 = 64 ∧
    ofBytes ((dmaRecord 2 5 0x37 0x640 0x580 0x71 0x40001000 0).take 4) = 0x00370502 := by decide

/-- Chapter 13, example under R373: IQ of ledger arm 1 of cluster 1. -/
theorem test_example_ledger :
    let s := ((live.setFlag pgDROLE (F.LARM_CFG_EN (armIx 1 1)) true).setFlag pgDROLE (F.LARM_CFG_SRCK (armIx 1 1)) true).setF pgDROLE
      (F.LARM_CFG_SRC (armIx 1 1)) 2
    let s := s.setF pgDROLE (F.LARM_SCALE_LSCALE (armIx 1 1)) 17592186
    (s.setIQ 1 true 2 (15425 * 2 ^ 16)).getF pgDROLE (F.LARM_IQ_IQ (armIx 1 1)) = 8281233 := by decide

/-- Chapter 17, worked example: the outer header, the inner message, and core pair 24 in a mask. -/
theorem test_example_derevo : drvHeader 0x10 3 17 = ([0x44, 0x56, 1, 0x10, 0, 0, 0, 3, 0, 0, 0, 0, 0, 0, 0, 0x11] : List Byte) ∧
    drvInner 0x10 0x42 0 [0, 0, 0, 1, 0, 0, 0, 0, 0, 0, 0, 0] =
      ([0x10, 0, 0, 0x42, 0, 0x0C, 0, 0, 0, 0, 0, 1, 0, 0, 0, 0, 0, 0, 0, 0] : List Byte) ∧
    maskUnits [0, 0, 0, 1, 0, 0, 0, 0, 0, 0, 0, 0] = [24] := by decide
end Sys2Proof.Tests
end

section
/-! SUPPORT. What a step comes to: every command completes and keeps what Laws/Keep.lean says, and an idle step lets one tick pass. -/

namespace Sys2Proof.Machine

/-- Every command of the table completes and keeps what Laws/Keep.lean says. The laws about a frame at a cell node (R171) speak of
numbers in place of its line blocks, so those commands cite the law of the operation itself. -/
theorem exec_goes (i : Instr) (s : State) : ∃ t, exec i s = .next t ∧ Keep s t := by
  cases i with
  | registerWrite req addr size data => exact execRegisterWrite_goes req addr size data s
  | blkRst req addr => exact execBlkRst_goes req addr s
  | blkEnWrite req addr en => exact execBlkEnWrite_goes req addr en s
  | lockKeyWrite req addr key => exact execLockKeyWrite_goes req addr key s
  | lockWindowExpire addr => exact execLockWindowExpire_goes addr s
  | counterLoRead req addr => exact execCounterLoRead_goes req addr s
  | counterHiRead req addr => exact execCounterHiRead_goes req addr s
  | contextWrite req addr size data => exact execContextWrite_goes req addr size data s
  | stagedWriteRelease tile => exact execStagedWriteRelease_goes tile s
  | aliasAccessRelease lt => exact execAliasAccessRelease_goes lt s
  | slewWrite req data => exact execSlewWrite_goes req data s
  | slewComplete => exact execSlewComplete_goes s
  | timeStep req data => exact execTimeStep_goes req data s
  | timeMeasurement ofs => exact execTimeMeasurement_goes ofs s
  | holdoverTimeout => exact execHoldoverTimeout_goes s
  | ppsInEdge frac => exact execPpsInEdge_goes frac s
  | ppsOutPulse => exact execPpsOutPulse_goes s
  | timerMatch tile n => exact execTimerMatch_goes tile n s
  | timerOverflow tile n => exact execTimerOverflow_goes tile n s
  | timerCmpWrite req tile n hi size data => exact execTimerCmpWrite_goes req tile n hi size data s
  | timerCntWrite req tile n hi size data => exact execTimerCntWrite_goes req tile n hi size data s
  | timerStartEvent tile n => exact execTimerStartEvent_goes tile n s
  | watchdogService req tile data => exact execWatchdogService_goes req tile data s
  | watchdogTimeout tile => exact execWatchdogTimeout_goes tile s
  | wdogTimeoutWrite req tile data => exact execWdogTimeoutWrite_goes req tile data s
  | wdogStage2Write req tile data => exact execWdogStage2Write_goes req tile data s
  | wdogEnWrite req tile en => exact execWdogEnWrite_goes req tile en s
  | watchdogStage2 tile => exact execWatchdogStage2_goes tile s
  | keeperWdogStage2 => exact execKeeperWdogStage2_goes s
  | refSelWrite req cluster data => exact execRefSelWrite_goes req cluster data s
  | refSettled cluster nv => exact execRefSettled_goes cluster nv s
  | refFault ref => exact execRefFault_goes ref s
  | adcCtrlWrite req conv data => exact execAdcCtrlWrite_goes req conv data s
  | adcPowered conv => exact execAdcPowered_goes conv s
  | adcStartWrite req conv hi size data => exact execAdcStartWrite_goes req conv hi size data s
  | adcStartEvent conv => exact execAdcStartEvent_goes conv s
  | adcTimeInstant conv => exact execAdcTimeInstant_goes conv s
  | conversionDone conv x => exact execConversionDone_goes conv x s
  | sampleDelivery cluster => exact execSampleDelivery_goes cluster s
  | adcResultRead req conv ch => exact execAdcResultRead_goes req conv ch s
  | cmpEnWrite req cmp data => exact execCmpEnWrite_goes req cmp data s
  | comparatorReady cmp => exact execComparatorReady_goes cmp s
  | thresholdWrite req cmp data => exact execThresholdWrite_goes req cmp data s
  | thresholdLoadEvent cmp => exact execThresholdLoadEvent_goes cmp s
  | comparatorActivation cmp => exact execComparatorActivation_goes cmp s
  | tripActivation trip => exact execTripActivation_goes trip s
  | capture capin level => exact execCapture_goes capin level s
  | captureFifoRead req capin size => exact execCaptureFifoRead_goes req capin size s
  | softwareTrigger req tile ctx => exact execSoftwareTrigger_goes req tile ctx s
  | dispatch tile badWord => exact execDispatch_goes tile badWord s
  | runCommit tile slice lanes nomaj => exact execRunCommit_goes tile slice lanes nomaj s
  | sharedValueWrite req tile idx data => exact execSharedValueWrite_goes req tile idx data s
  | sharedValueApply cluster => exact execSharedValueApply_goes cluster s
  | contextScrub tile ctx word copies => exact execContextScrub_goes tile ctx word copies s
  | programScrub tile stepAddr bad => exact execProgramScrub_goes tile stepAddr bad s
  | programStepWrite req addr size data => exact execProgramStepWrite_goes req addr size data s
  | heldStepWriteApply tile => exact execHeldStepWriteApply_goes tile s
  | lstepNop tile slice => exact execLstepNop_goes tile slice s
  | lstepEnd tile slice => exact execLstepEnd_goes tile slice s
  | lstepBr tile slice => exact execLstepBr_goes tile slice s
  | lstepJmp tile slice => exact execLstepJmp_goes tile slice s
  | lstepLdc tile slice => exact execLstepLdc_goes tile slice s
  | lstepLdi tile slice => exact execLstepLdi_goes tile slice s
  | lstepLdw tile slice => exact execLstepLdw_goes tile slice s
  | lstepLdg tile slice => exact execLstepLdg_goes tile slice s
  | lstepLdp tile slice => exact execLstepLdp_goes tile slice s
  | lstepAdd tile slice => exact execLstepAdd_goes tile slice s
  | lstepSub tile slice => exact execLstepSub_goes tile slice s
  | lstepMul tile slice => exact execLstepMul_goes tile slice s
  | lstepMac tile slice => exact execLstepMac_goes tile slice s
  | lstepMsu tile slice => exact execLstepMsu_goes tile slice s
  | lstepLdy tile slice => exact execLstepLdy_goes tile slice s
  | lstepMovy tile slice => exact execLstepMovy_goes tile slice s
  | lstepAbs tile slice => exact execLstepAbs_goes tile slice s
  | lstepNeg tile slice => exact execLstepNeg_goes tile slice s
  | lstepShr tile slice => exact execLstepShr_goes tile slice s
  | lstepShl tile slice => exact execLstepShl_goes tile slice s
  | lstepMin tile slice => exact execLstepMin_goes tile slice s
  | lstepMax tile slice => exact execLstepMax_goes tile slice s
  | lstepLim tile slice => exact execLstepLim_goes tile slice s
  | lstepLimi tile slice => exact execLstepLimi_goes tile slice s
  | lstepPi tile slice => exact execLstepPi_goes tile slice s
  | lstepFil1 tile slice => exact execLstepFil1_goes tile slice s
  | lstepRes tile slice => exact execLstepRes_goes tile slice s
  | lstepDuty tile slice => exact execLstepDuty_goes tile slice s
  | lstepCmpw tile slice => exact execLstepCmpw_goes tile slice s
  | lstepSts tile slice => exact execLstepSts_goes tile slice s
  | lstepStw tile slice => exact execLstepStw_goes tile slice s
  | lstepWake tile slice => exact execLstepWake_goes tile slice s
  | lstepEvt tile slice => exact execLstepEvt_goes tile slice s
  | generatorRun req tile gen => exact execGeneratorRun_goes req tile gen s
  | generatorStop req tile gen => exact execGeneratorStop_goes req tile gen s
  | generatorArm req tile gen => exact execGeneratorArm_goes req tile gen s
  | generatorDisarm req tile gen => exact execGeneratorDisarm_goes req tile gen s
  | tripClearRequest req tile gen => exact execTripClearRequest_goes req tile gen s
  | generatorReload tile gen nomaj ledErr => exact execGeneratorReload_goes tile gen nomaj ledErr s
  | pendEvent tile gen => exact execPendEvent_goes tile gen s
  | compareMatch tile gen which upset => exact execCompareMatch_goes tile gen which upset s
  | deadTimeExpiry tile gen isH upset => exact execDeadTimeExpiry_goes tile gen isH upset s
  | laneRelease tile => exact execLaneRelease_goes tile s
  | delayedEdgePlace tile upset => exact execDelayedEdgePlace_goes tile upset s
  | shadowWrite req tile gen reg data => exact execShadowWrite_goes req tile gen reg data s
  | shadowCommitEntry tile gen => exact execShadowCommitEntry_goes tile gen s
  | phaseLoad tile page which => exact execPhaseLoad_goes tile page which s
  | bindWrite req tile gen data => exact execBindWrite_goes req tile gen data s
  | tripSourceActive cluster x => exact execTripSourceActive_goes cluster x s
  | blankingClose tile gen => exact execBlankingClose_goes tile gen s
  | laneLockLoss kind group lane => exact execLaneLockLoss_goes kind group lane s
  | laneReset req lane => exact execLaneReset_goes req lane s
  | measReceive ring dir sof blocks eof more => exact execMeasReceive_goes ring dir sof blocks eof more s
  | mrspReceive ring dir sof blocks eof more => exact execMrspReceive_goes ring dir sof blocks eof more s
  | echorReceive ring dir sof blocks eof more frac => exact execEchorReceive_goes ring dir sof blocks eof more frac s
  | enumReturn ring dir sof blocks eof more => exact execEnumReturn_goes ring dir sof blocks eof more s
  | brkStatusReceive ring dir line => exact execBrkStatusReceive_goes ring dir line s
  | brkReportTimeout ring dir => exact execBrkReportTimeout_goes ring dir s
  | frameTransmit ring dir => exact execFrameTransmit_goes ring dir s
  | blockCommandRepeat ring => exact execBlockCommandRepeat_goes ring s
  | mreqEnqueue req ring hi size data => exact execMreqEnqueue_goes req ring hi size data s
  | mreqIssue ring => exact execMreqIssue_goes ring s
  | mreqTimeout ring => exact execMreqTimeout_goes ring s
  | mrspRead req ring => exact execMrspRead_goes req ring s
  | timeFrameSend ring => exact execTimeFrameSend_goes ring s
  | calibration req ring => exact execCalibration_goes req ring s
  | calibrationDone ring => exact execCalibrationDone_goes ring s
  | enumeration req ring force => exact execEnumeration_goes req ring force s
  | positionLost ring pos => exact execPositionLost_goes ring pos s
  | autoJoinEnum ring => exact execAutoJoinEnum_goes ring s
  | joinComplete ring pos => exact execJoinComplete_goes ring pos s
  | nodeForward ring place dir sof blocks eof held => exact ⟨_, rfl, State.nodeForward_keep (Keep.refl s)⟩
  | nodeEdgeSetReceive ring place sof blocks eof => exact ⟨_, rfl, State.nodeTake_keep (Keep.refl s) fun _ _ => State.nodeSet_keep⟩
  | nodeEntryApply ring place leg => exact execNodeEntryApply_goes ring place leg s
  | nodePeriodEnd ring place leg => exact execNodePeriodEnd_goes ring place leg s
  | nodeBlockCommand ring place sof blocks eof => exact ⟨_, rfl, State.nodeTake_keep (Keep.refl s) fun _ _ => State.nodeBlock_keep⟩
  | nodeLossOfLink ring place => exact execNodeLossOfLink_goes ring place s
  | nodeTimeFrame ring place dir sof blocks eof frac => exact ⟨_, rfl, State.nodeTake_keep (Keep.refl s) fun _ _ => State.nodeTime_keep⟩
  | nodeTimeOkTimeout ring place => exact execNodeTimeOkTimeout_goes ring place s
  | nodeEcho ring place dir sof blocks eof turn => exact ⟨_, rfl, State.nodeTake_keep (Keep.refl s) fun _ _ => State.nodeEcho_keep⟩
  | nodeEnum ring place dir sof blocks eof => exact ⟨_, rfl, State.nodeEnum_keep (Keep.refl s)⟩
  | nodeMreq ring place sof blocks eof => exact ⟨_, rfl, State.nodeTake_keep (Keep.refl s) fun _ _ => State.nodeMreq_keep⟩
  | nodeMeasSample ring place words => exact execNodeMeasSample_goes ring place words s
  | nodeHeartbeat ring place words => exact execNodeHeartbeat_goes ring place words s
  | forecastLaunch cluster job => exact execForecastLaunch_goes cluster job s
  | launchStart cluster => exact execLaunchStart_goes cluster s
  | gatherDone cluster bad => exact execGatherDone_goes cluster bad s
  | fetchDone cluster ue => exact execFetchDone_goes cluster ue s
  | rankDone cluster => exact execRankDone_goes cluster s
  | evaluateDone cluster => exact execEvaluateDone_goes cluster s
  | selectDone cluster => exact execSelectDone_goes cluster s
  | planCommitArrival cluster => exact execPlanCommitArrival_goes cluster s
  | launchEnd cluster => exact execLaunchEnd_goes cluster s
  | jobEnable req cluster job => exact execJobEnable_goes req cluster job s
  | klogWrite cluster => exact execKlogWrite_goes cluster s
  | klogStopEvent cluster => exact execKlogStopEvent_goes cluster s
  | klogPostDone cluster => exact execKlogPostDone_goes cluster s
  | klogDrained cluster => exact execKlogDrained_goes cluster s
  | klogClear req cluster => exact execKlogClear_goes req cluster s
  | lathTake lath prod => exact execLathTake_goes lath prod s
  | consumerTake lath input => exact execConsumerTake_goes lath input s
  | routeCommit req lath => exact execRouteCommit_goes req lath s
  | routeLoad req lath => exact execRouteLoad_goes req lath s
  | lathSelect req lath data => exact execLathSelect_goes req lath data s
  | softwareEvent req lath n => exact execSoftwareEvent_goes req lath n s
  | gpioEdge pin level => exact execGpioEdge_goes pin level s
  | gpioLatchedEdge pin level => exact execGpioLatchedEdge_goes pin level s
  | gpioOutputAction pin => exact execGpioOutputAction_goes pin s
  | doorbell req tile data => exact execDoorbell_goes req tile data s
  | interruptAccept pair => exact execInterruptAccept_goes pair s
  | holdoffExpiry group => exact execHoldoffExpiry_goes group s
  | intcEnWrite req tile isPair w data => exact execIntcEnWrite_goes req tile isPair w data s
  | dintcClaim req => exact execDintcClaim_goes req s
  | lockstepMismatch pair whr => exact execLockstepMismatch_goes pair whr s
  | rollbackComplete pair => exact execRollbackComplete_goes pair s
  | checkpoint pair => exact execCheckpoint_goes pair s
  | longUnitResult pair => exact execLongUnitResult_goes pair s
  | storeDrain pair => exact execStoreDrain_goes pair s
  | dataResponse pair => exact execDataResponse_goes pair s
  | lockBrokenEntry pair => exact execLockBrokenEntry_goes pair s
  | coreHold req pair hold => exact execCoreHold_goes req pair hold s
  | corePairReset req pair => exact execCorePairReset_goes req pair s
  | undefinedOpcode w esc op => exact execUndefinedOpcode_goes w esc op s
  | iNop w => exact execINop_goes w s
  | iMov w x => exact execIMov_goes w x s
  | iMovi w x imm => exact execIMovi_goes w x imm s
  | iMovl w x => exact execIMovl_goes w x s
  | iMtl w x => exact execIMtl_goes w x s
  | iMvfl w x => exact execIMvfl_goes w x s
  | iMtfl w x => exact execIMtfl_goes w x s
  | iClrsat w => exact execIClrsat_goes w s
  | iSel w x y c => exact execISel_goes w x y c s
  | iRdfeat w x k => exact execIRdfeat_goes w x k s
  | iLoop w x disp => exact execILoop_goes w x disp s
  | iLoopi w k disp => exact execILoopi_goes w k disp s
  | iMtlc w x k => exact execIMtlc_goes w x k s
  | iMflc w x k => exact execIMflc_goes w x k s
  | iAdd w x y => exact execIAdd_goes w x y s
  | iSub w x y => exact execISub_goes w x y s
  | iAdc w x y => exact execIAdc_goes w x y s
  | iSbc w x y => exact execISbc_goes w x y s
  | iAnd w x y => exact execIAnd_goes w x y s
  | iOr w x y => exact execIOr_goes w x y s
  | iXor w x y => exact execIXor_goes w x y s
  | iAndn w x y => exact execIAndn_goes w x y s
  | iMin w x y => exact execIMin_goes w x y s
  | iMax w x y => exact execIMax_goes w x y s
  | iMinu w x y => exact execIMinu_goes w x y s
  | iMaxu w x y => exact execIMaxu_goes w x y s
  | iCmp w x y => exact execICmp_goes w x y s
  | iTst w x y => exact execITst_goes w x y s
  | iAddi w x imm => exact execIAddi_goes w x imm s
  | iAndi w x imm => exact execIAndi_goes w x imm s
  | iOri w x imm => exact execIOri_goes w x imm s
  | iXori w x imm => exact execIXori_goes w x imm s
  | iCmpi w x imm => exact execICmpi_goes w x imm s
  | iNeg w x => exact execINeg_goes w x s
  | iAbs w x => exact execIAbs_goes w x s
  | iNot w x => exact execINot_goes w x s
  | iClz w x => exact execIClz_goes w x s
  | iCls w x => exact execICls_goes w x s
  | iSexth w x => exact execISexth_goes w x s
  | iZexth w x => exact execIZexth_goes w x s
  | iSextb w x => exact execISextb_goes w x s
  | iZextb w x => exact execIZextb_goes w x s
  | iShl w x y => exact execIShl_goes w x y s
  | iShr w x y => exact execIShr_goes w x y s
  | iAsr w x y => exact execIAsr_goes w x y s
  | iRor w x y => exact execIRor_goes w x y s
  | iShli w x k => exact execIShli_goes w x k s
  | iShri w x k => exact execIShri_goes w x k s
  | iAsri w x k => exact execIAsri_goes w x k s
  | iRori w x k => exact execIRori_goes w x k s
  | iMul w x y => exact execIMul_goes w x y s
  | iMulhs w x y => exact execIMulhs_goes w x y s
  | iMulhu w x y => exact execIMulhu_goes w x y s
  | iMulq w x y => exact execIMulq_goes w x y s
  | iMac w x y => exact execIMac_goes w x y s
  | iMsu w x y => exact execIMsu_goes w x y s
  | iMpy w x y => exact execIMpy_goes w x y s
  | iMovr w x => exact execIMovr_goes w x s
  | iMova w x => exact execIMova_goes w x s
  | iClra w x => exact execIClra_goes w x s
  | iMta w x => exact execIMta_goes w x s
  | iMfag w x => exact execIMfag_goes w x s
  | iMtag w x => exact execIMtag_goes w x s
  | iNorm w x => exact execINorm_goes w x s
  | iLdW w x m disp => exact execILdW_goes w x m disp s
  | iLdH w x m disp => exact execILdH_goes w x m disp s
  | iLdHu w x m disp => exact execILdHu_goes w x m disp s
  | iLdB w x m disp => exact execILdB_goes w x m disp s
  | iLdBu w x m disp => exact execILdBu_goes w x m disp s
  | iLdD w x m disp => exact execILdD_goes w x m disp s
  | iLda w x m disp => exact execILda_goes w x m disp s
  | iLea w x m disp => exact execILea_goes w x m disp s
  | iStW w x m disp => exact execIStW_goes w x m disp s
  | iStH w x m disp => exact execIStH_goes w x m disp s
  | iStB w x m disp => exact execIStB_goes w x m disp s
  | iStD w x m disp => exact execIStD_goes w x m disp s
  | iSta w x m disp => exact execISta_goes w x m disp s
  | iBcc w cc disp => exact execIBcc_goes w cc disp s
  | iBra w disp => exact execIBra_goes w disp s
  | iCall w disp => exact execICall_goes w disp s
  | iJr w x => exact execIJr_goes w x s
  | iCallr w x => exact execICallr_goes w x s
  | iJmpf w x => exact execIJmpf_goes w x s
  | iBlc1 w disp => exact execIBlc1_goes w disp s
  | iXchg w wide x m disp => exact execIXchg_goes w wide x m disp s
  | iCas w wide x m disp y => exact execICas_goes w wide x m disp y s
  | iFadd w wide x m disp => exact execIFadd_goes w wide x m disp s
  | iFand w wide x m disp => exact execIFand_goes w wide x m disp s
  | iFor w wide x m disp => exact execIFor_goes w wide x m disp s
  | iDiv w x y => exact execIDiv_goes w x y s
  | iDivu w x y => exact execIDivu_goes w x y s
  | iDivq w x y => exact execIDivq_goes w x y s
  | iSqrt w x => exact execISqrt_goes w x s
  | iRecip w x => exact execIRecip_goes w x s
  | iSincos w x => exact execISincos_goes w x s
  | iMv3 w x y => exact execIMv3_goes w x y s
  | iBmov w x n => exact execIBmov_goes w x n s
  | iBfill w x n => exact execIBfill_goes w x n s
  | iTsrch w x n => exact execITsrch_goes w x n s
  | iMvm w x n => exact execIMvm_goes w x n s
  | iSortk w x n => exact execISortk_goes w x n s
  | iTrap w k => exact execITrap_goes w k s
  | iRett w => exact execIRett_goes w s
  | iWait w => exact execIWait_goes w s
  | iMfs w x k => exact execIMfs_goes w x k s
  | iMts w x k => exact execIMts_goes w x k s
  | iDi w => exact execIDi_goes w s
  | iEi w => exact execIEi_goes w s
  | iFence w => exact execIFence_goes w s
  | iBrk w => exact execIBrk_goes w s
  | iIll w => exact execIIll_goes w s
  | memoryScrub addr kind => exact execMemoryScrub_goes addr kind s
  | hbmSpare req cluster pc => exact execHbmSpare_goes req cluster pc s
  | spareCopyDone cluster => exact execSpareCopyDone_goes cluster s
  | arbiterGrant kind unit ofs reqs emergency => exact execArbiterGrant_goes kind unit ofs reqs emergency s
  | iommuTlbi req tile data => exact execIommuTlbi_goes req tile data s
  | dmaStart req tile ch => exact execDmaStart_goes req tile ch s
  | dmaResume req tile ch => exact execDmaResume_goes req tile ch s
  | dmaAbort req tile ch => exact execDmaAbort_goes req tile ch s
  | dmaArm req tile ch => exact execDmaArm_goes req tile ch s
  | dmaDisarm req tile ch => exact execDmaDisarm_goes req tile ch s
  | descriptorStart tile ch => exact execDescriptorStart_goes tile ch s
  | burstIssue tile => exact execBurstIssue_goes tile s
  | burstComplete tile ch => exact execBurstComplete_goes tile ch s
  | queueConfig req tile data => exact execQueueConfig_goes req tile data s
  | queueSelect req tile data => exact execQueueSelect_goes req tile data s
  | queuePush req tile data => exact execQueuePush_goes req tile data s
  | queuePop req tile => exact execQueuePop_goes req tile s
  | lockAcquire req tile lock => exact execLockAcquire_goes req tile lock s
  | lockRelease req tile lock data => exact execLockRelease_goes req tile lock data s
  | lockBreak req tile lock => exact execLockBreak_goes req tile lock s
  | leaseExpiry tile lock => exact execLeaseExpiry_goes tile lock s
  | takeoverTrigger tile trig => exact execTakeoverTrigger_goes tile trig s
  | takeoverCommand req data => exact execTakeoverCommand_goes req data s
  | moveStart cluster => exact execMoveStart_goes cluster s
  | tileReady cluster => exact execTileReady_goes cluster s
  | tileCoreRelease lt => exact execTileCoreRelease_goes lt s
  | pinRepeatPeriod tile gen => exact execPinRepeatPeriod_goes tile gen s
  | returnToService req data ok => exact execReturnToService_goes req data ok s
  | mirrorInStep tile => exact execMirrorInStep_goes tile s
  | refiringStage req => exact execRefiringStage_goes req s
  | refiringVerified => exact execRefiringVerified_goes s
  | refiringSwitch req => exact execRefiringSwitch_goes req s
  | refiringDone => exact execRefiringDone_goes s
  | refiringAbort req => exact execRefiringAbort_goes req s
  | feedCrossing feed ovr => exact execFeedCrossing_goes feed ovr s
  | feedInRegulation feed => exact execFeedInRegulation_goes feed s
  | feedReturn => exact execFeedReturn_goes s
  | feedCommand req data => exact execFeedCommand_goes req data s
  | brownOut => exact execBrownOut_goes s
  | phaseFail => exact execPhaseFail_goes s
  | auxFeedLoss k => exact execAuxFeedLoss_goes k s
  | powerDomainCommand req data => exact execPowerDomainCommand_goes req data s
  | domainReady => exact execDomainReady_goes s
  | refclkLoss => exact execRefclkLoss_goes s
  | refclkRecover ref => exact execRefclkRecover_goes ref s
  | refclkCommand req data => exact execRefclkCommand_goes req data s
  | refclkRevert => exact execRefclkRevert_goes s
  | pllFailure pll => exact execPllFailure_goes pll s
  | sparePllLocked => exact execSparePllLocked_goes s
  | coreIslandSleep tile => exact execCoreIslandSleep_goes tile s
  | coreIslandWake tile => exact execCoreIslandWake_goes tile s
  | resetCommand req data => exact execResetCommand_goes req data s
  | resetNAssert ns => exact execResetNAssert_goes ns s
  | resetNRelease => exact execResetNRelease_goes s
  | powerOnReset => exact execPowerOnReset_goes s
  | bisqueFiring => exact execBisqueFiring_goes s
  | glazeFiring started => exact execGlazeFiring_goes started s
  | bootRetry => exact execBootRetry_goes s
  | journalWrite req => exact execJournalWrite_goes req s
  | flashWrite req => exact execFlashWrite_goes req s
  | minVersion req => exact execMinVersion_goes req s
  | lifecycle req => exact execLifecycle_goes req s
  | revoke req => exact execRevoke_goes req s
  | logRead req => exact execLogRead_goes req s
  | keepCommandDone err => exact execKeepCommandDone_goes err s
  | measurementExtend req => exact execMeasurementExtend_goes req s
  | spdmFragment port addr udp payload => exact execSpdmFragment_goes port addr udp payload s
  | spdmReassemblyTimeout port addr udp => exact execSpdmReassemblyTimeout_goes port addr udp s
  | spdmConnectionIdle port addr udp => exact execSpdmConnectionIdle_goes port addr udp s
  | getVersion port addr udp => exact execGetVersion_goes port addr udp s
  | getCapabilities port addr udp => exact execGetCapabilities_goes port addr udp s
  | negotiateAlgorithms port addr udp => exact execNegotiateAlgorithms_goes port addr udp s
  | getDigests port addr udp => exact execGetDigests_goes port addr udp s
  | getCertificate port addr udp => exact execGetCertificate_goes port addr udp s
  | challenge port addr udp => exact execChallenge_goes port addr udp s
  | getMeasurements port addr udp => exact execGetMeasurements_goes port addr udp s
  | spdmUnsupported port addr udp => exact execSpdmUnsupported_goes port addr udp s
  | groupStatusSend => exact execGroupStatusSend_goes s
  | groupStatusReceive lane src seq st => exact execGroupStatusReceive_goes lane src seq st s
  | memberLost peer => exact execMemberLost_goes peer s
  | groupEventReceive lane seq n => exact execGroupEventReceive_goes lane seq n s
  | peerAdmission peer auth => exact execPeerAdmission_goes peer auth s
  | admissionRetry => exact execAdmissionRetry_goes s
  | configTransfer lane seq epoch words => exact execConfigTransfer_goes lane seq epoch words s
  | mirrorReceive lane seq part period writes => exact execMirrorReceive_goes lane seq part period writes s
  | ownershipFrameStart => exact execOwnershipFrameStart_goes s
  | ownershipFrameEnd line0 line1 => exact execOwnershipFrameEnd_goes line0 line1 s
  | groupClaim req data => exact execGroupClaim_goes req data s
  | configDigestCheck => exact execConfigDigestCheck_goes s
  | commitPropose req data => exact execCommitPropose_goes req data s
  | prepareReceive lane seq epoch digest p => exact execPrepareReceive_goes lane seq epoch digest p s
  | decideReceive lane seq commit => exact execDecideReceive_goes lane seq commit s
  | commitDeadline => exact execCommitDeadline_goes s
  | timeExchange ofs => exact execTimeExchange_goes ofs s
  | mgmtFrameReceive port frame => exact execMgmtFrameReceive_goes port frame s
  | sessionHello port addr udp datagram => exact execSessionHello_goes port addr udp datagram s
  | sessionProve port addr udp datagram => exact execSessionProve_goes port addr udp datagram s
  | handshakeTimeout sess => exact execHandshakeTimeout_goes sess s
  | sealedReceive port addr udp datagram => exact execSealedReceive_goes port addr udp datagram s
  | sessionTimeout sess => exact execSessionTimeout_goes sess s
  | derevoPing sess tag body => exact execDerevoPing_goes sess tag body s
  | derevoClose sess tag body => exact execDerevoClose_goes sess tag body s
  | derevoStatus sess tag body => exact execDerevoStatus_goes sess tag body s
  | derevoHalt sess tag body => exact execDerevoHalt_goes sess tag body s
  | derevoResume sess tag body => exact execDerevoResume_goes sess tag body s
  | derevoStep sess tag body => exact execDerevoStep_goes sess tag body s
  | derevoRead sess tag body => exact execDerevoRead_goes sess tag body s
  | derevoWrite sess tag body => exact execDerevoWrite_goes sess tag body s
  | derevoRegrd sess tag body => exact execDerevoRegrd_goes sess tag body s
  | derevoRegwr sess tag body => exact execDerevoRegwr_goes sess tag body s
  | derevoBpset sess tag body => exact execDerevoBpset_goes sess tag body s
  | derevoSwbp sess tag body => exact execDerevoSwbp_goes sess tag body s
  | haltRequest req pair => exact execHaltRequest_goes req pair s
  | debugResume req pair => exact execDebugResume_goes req pair s
  | debugStep req pair => exact execDebugStep_goes req pair s
  | debugEntry pair => exact execDebugEntry_goes pair s
  | freezeBegin page => exact execFreezeBegin_goes page s
  | freezeEnd page => exact execFreezeEnd_goes page s
  | tapBypass => exact execTapBypass_goes s
  | tapIdcode => exact execTapIdcode_goes s
  | tapSamplePreload pads preload => exact execTapSamplePreload_goes pads preload s
  | tapExtest preload => exact execTapExtest_goes preload s
  | tapClamp => exact execTapClamp_goes s
  | tapHighz => exact execTapHighz_goes s
  | refWindowReturn ref => exact execRefWindowReturn_goes ref s
  | feedWindowEntry feed => exact execFeedWindowEntry_goes feed s
  | refclkValidityChange ref valid => exact execRefclkValidityChange_goes ref valid s
  | blockLockGain kind lane => exact execBlockLockGain_goes kind lane s
  | nodeBlockLockChange ring place port lock => exact execNodeBlockLockChange_goes ring place port lock s
  | nodeProtection ring place acts => exact execNodeProtection_goes ring place acts s
  | auxFeedReturn k => exact execAuxFeedReturn_goes k s
  | clusterIslandSleep cluster k => exact execClusterIslandSleep_goes cluster k s
  | clusterIslandWake cluster k => exact execClusterIslandWake_goes cluster k s
  | eventPathDeactivation cluster src => exact execEventPathDeactivation_goes cluster src s
  | pinKeeperEdge tile gen => exact execPinKeeperEdge_goes tile gen s
  | fetchResponse pair err => exact execFetchResponse_goes pair err s
  | queueStateScrub tile queue bad => exact execQueueStateScrub_goes tile queue bad s
  | prpSupervisionFrame => exact execPrpSupervisionFrame_goes s
  | derevoHaltTimeout sess => exact execDerevoHaltTimeout_goes sess s
  | tapReset => exact execTapReset_goes s
  | tjUpdate temps => exact execTjUpdate_goes temps s
  | preparedReceive lane seq ok => exact execPreparedReceive_goes lane seq ok s
  | groupConfigReceive lane seq epoch digest => exact execGroupConfigReceive_goes lane seq epoch digest s

theorem step_pending_cons {s : State} {c : Instr} {q : List Instr} (h : s.pending = c :: q) :
    step s = exec c { s with pending := q } := by
  simp [step, h]

theorem step_pending_nil {s : State} (h : s.pending = []) : step s = .next s.idle := by
  simp [step, h]

theorem Keep.canon {s t : State} (h : Keep s t) (hs : s.Canon) : t.Canon :=
  ⟨h.mem hs.1, h.regs hs.2⟩

/-- Settles O57: a step is an idle step or a command, and both keep the canonical form. -/
theorem canonKept : Obligations.CanonKept := by
  unfold Obligations.CanonKept
  intro s t hs ht
  cases hq : s.pending with
  | nil =>
    obtain rfl : s.idle = t := by simpa [step_pending_nil hq] using ht
    exact s.idle_keep.canon hs
  | cons c q =>
    obtain ⟨u, hu, hk⟩ := exec_goes c { s with pending := q }
    obtain rfl : u = t := by simpa [step_pending_cons hq, hu] using ht
    exact hk.canon hs

/-- Settles O55: by the two cases of the queue; an idle step keeps the queue and the advanced tick count. -/
theorem stepTakesTheFrontCommand : Obligations.StepTakesTheFrontCommand := by
  unfold Obligations.StepTakesTheFrontCommand
  refine ⟨fun s c q h => step_pending_cons h, fun s h => ⟨s.idle, step_pending_nil h, s.idle_keep.tick, ?_⟩⟩
  exact s.idle_keep.pending.trans h

end Sys2Proof.Machine
end

section
/-! SUPPORT. A word written field by field: what each access code leaves (R13, R41, R46). -/

namespace Sys2Proof.Machine

/-! ### Bits of a word after they are replaced -/

theorem bits_setBits (x lo w v : Nat) : bits (setBits x lo w v) lo w = v % 2 ^ w := by
  have hq : 2 ^ lo * (x / 2 ^ lo) + x % 2 ^ lo = x := Nat.div_add_mod x (2 ^ lo)
  have hk : 2 ^ w * (x / 2 ^ lo / 2 ^ w) + x / 2 ^ lo % 2 ^ w = x / 2 ^ lo := Nat.div_add_mod _ _
  have hx : setBits x lo w v = x % 2 ^ lo + 2 ^ lo * (v % 2 ^ w + 2 ^ w * (x / 2 ^ lo / 2 ^ w)) := by
    have : x = x % 2 ^ lo + 2 ^ lo * (2 ^ w * (x / 2 ^ lo / 2 ^ w)) + 2 ^ lo * (x / 2 ^ lo % 2 ^ w) := by
      rw [Nat.add_assoc, ← Nat.mul_add, hk, Nat.add_comm, hq]
    unfold setBits bits
    rw [Nat.mul_add]
    omega
  rw [bits, hx, Nat.add_mul_div_left _ _ (Nat.two_pow_pos lo), Nat.div_eq_of_lt (Nat.mod_lt _ (Nat.two_pow_pos lo)), Nat.zero_add,
    Nat.add_mul_mod_self_left, Nat.mod_mod]

theorem bits_mod {lo w n : Nat} (x : Nat) (h : lo + w ≤ n) : bits (x % 2 ^ n) lo w = bits x lo w := by
  obtain ⟨k, rfl⟩ := Nat.exists_eq_add_of_le h
  rw [bits, Nat.add_assoc, Nat.pow_add, Nat.mod_mul_right_div_self, Nat.mod_mod_of_dvd _ (Nat.pow_dvd_pow 2 (Nat.le_add_right w k)), bits]

theorem bits_lt (x lo w : Nat) : bits x lo w < 2 ^ w := Nat.mod_lt _ (Nat.two_pow_pos w)

/-! ### One slot -/

theorem State.getSlot_setSlot (s : State) (b : Nat) {x : Slot} {v : Nat} (h : x.part + x.w ≤ x.fld.w) (hv : v < 2 ^ x.w) :
    (s.setSlot b x v).getSlot b x = v := by
  rw [State.getSlot, State.setSlot, State.getF_setF, bits_mod _ h, bits_setBits, Nat.mod_eq_of_lt hv]

/-- A write of `v` over a word at slot `x`, by the access code of its field (R13, R41, R46). -/
def State.writeSlot (s : State) (p : Page) (w : Wr) (v : Nat) (x : Slot) : State :=
  let new := bits v x.pos x.w
  let old := s.getSlot p.base x
  match x.fld.acc with
  | .rw => s.softSlot p.base x w.req new
  | .rwl => if new = old ∨ w.opn = false then s else s.softSlot p.base x w.req new
  | .w1c => s.setSlot p.base x (old - (old &&& (new - (new &&& bits (s.hwBits p.base x.fld) x.part x.w))))
  | _ => s

/-- The closed lock keeps the field of slot `x` from changing (R46). -/
def State.lockedOut (s : State) (p : Page) (w : Wr) (v : Nat) (x : Slot) : Bool :=
  x.fld.acc == .rwl && !w.opn && bits v x.pos x.w != s.getSlot p.base x

theorem State.getSlot_softSlot (s : State) (b : Nat) {x : Slot} (req : Nat) {v : Nat} (h : x.part + x.w ≤ x.fld.w) (hv : v < 2 ^ x.w) :
    (s.softSlot b x req v).getSlot b x = if s.softUnder b x.fld x.part req then s.getSlot b x else v := by
  unfold State.softSlot
  split
  · rfl
  · exact State.getSlot_setSlot _ b h hv

/-- What a slot shows after it is written. -/
theorem State.getSlot_writeSlot (s : State) (p : Page) (w : Wr) (v : Nat) {x : Slot} (h : x.part + x.w ≤ x.fld.w) :
    (s.writeSlot p w v x).getSlot p.base x = writtenSlot x.fld.acc w.opn (s.softUnder p.base x.fld x.part w.req)
      (bits (s.hwBits p.base x.fld) x.part x.w) (s.getSlot p.base x) (bits v x.pos x.w) := by
  have hnew := bits_lt v x.pos x.w
  have hold : s.getSlot p.base x < 2 ^ x.w := bits_lt _ _ _
  unfold State.writeSlot writtenSlot
  dsimp only
  cases x.fld.acc with
  | rw => exact State.getSlot_softSlot s p.base w.req h hnew
  | rwl =>
    dsimp only
    split
    · next hs =>
      rcases hs with hs | hs
      · simp [hs]
      · simp [hs]
    · next hs =>
      obtain ⟨-, ho⟩ := not_or.mp hs
      rw [State.getSlot_softSlot s p.base w.req h hnew]
      cases s.softUnder p.base x.fld x.part w.req <;> simp [ho]
  | w1c => exact State.getSlot_setSlot s p.base h (by omega)
  | _ => rfl

/-! ### What the write of a slot leaves -/

/-- Two slots of different fields, whose writes are noted apart. -/
def Slot.Apart (x y : Slot) : Prop :=
  64 * x.fld.off + x.fld.lo ≠ 64 * y.fld.off + y.fld.lo ∧
    64 * (x.fld.off + x.part / 8) + x.fld.lo ≠ 64 * (y.fld.off + y.part / 8) + y.fld.lo

/-- Slot `x` of the page at `b` stands in `u` as in `s`: its value, the writer noted for it, and the bits that hardware set (R41). -/
structure SlotKept (s u : State) (b : Nat) (x : Slot) : Prop where
  shows : u.getSlot b x = s.getSlot b x
  notes : u.softBy b x.fld x.part = s.softBy b x.fld x.part
  hwSet : u.hwBits b x.fld = s.hwBits b x.fld

theorem SlotKept.refl (s : State) (b : Nat) (x : Slot) : SlotKept s s b x := ⟨rfl, rfl, rfl⟩

theorem SlotKept.trans {s u v : State} {b : Nat} {x : Slot} (h : SlotKept s u b x) (k : SlotKept u v b x) : SlotKept s v b x :=
  ⟨k.shows.trans h.shows, k.notes.trans h.notes, k.hwSet.trans h.hwSet⟩

theorem State.setSlot_kept (s : State) (b v : Nat) {x y : Slot} (h : x.Apart y) : SlotKept s (s.setSlot b x v) b y := by
  refine ⟨?_, rfl, rfl⟩
  rw [State.getSlot, State.setSlot, State.getF_setF_fld _ _ h.1.symm, State.getSlot]

theorem State.noteSoft_kept (s : State) (b req : Nat) {x y : Slot} (h : x.Apart y) :
    SlotKept s (s.noteSoft b x.fld x.part req) b y := by
  refine ⟨rfl, ?_, rfl⟩
  have hk : partKey b y.fld y.part ≠ partKey b x.fld x.part := by
    have := h.2
    simp only [partKey]
    omega
  have hc : (s.noteSoft b x.fld x.part req).pageCycle b = s.pageCycle b := rfl
  rw [State.softBy, State.softBy, hc]
  simp [State.noteSoft, hk]

theorem State.softSlot_kept (s : State) (b req v : Nat) {x y : Slot} (h : x.Apart y) : SlotKept s (s.softSlot b x req v) b y := by
  unfold State.softSlot
  split
  · exact .refl s b y
  · exact (s.noteSoft_kept b req h).trans (State.setSlot_kept _ b v h)

theorem State.writeSlot_kept (s : State) (p : Page) (w : Wr) (v : Nat) {x y : Slot} (h : x.Apart y) :
    SlotKept s (s.writeSlot p w v x) p.base y := by
  unfold State.writeSlot
  dsimp only
  cases x.fld.acc with
  | rw => exact s.softSlot_kept _ _ _ h
  | rwl =>
    dsimp only
    split
    · exact .refl s _ y
    · exact s.softSlot_kept _ _ _ h
  | w1c => exact s.setSlot_kept _ _ h
  | _ => exact .refl s _ y

/-- The write of a slot changes nothing but registers and the notes of the cycle's writes. -/
theorem State.writeSlot_frame (s : State) (p : Page) (w : Wr) (v : Nat) (x : Slot) :
    (s.writeSlot p w v x).mem = s.mem ∧ (s.writeSlot p w v x).bus = s.bus := by
  have hsoft : ∀ n, (s.softSlot p.base x w.req n).mem = s.mem ∧ (s.softSlot p.base x w.req n).bus = s.bus := by
    intro n
    unfold State.softSlot
    split <;> exact ⟨rfl, rfl⟩
  unfold State.writeSlot
  dsimp only
  cases x.fld.acc with
  | rw => exact hsoft _
  | rwl =>
    dsimp only
    split
    · exact ⟨rfl, rfl⟩
    · exact hsoft _
  | _ => exact ⟨rfl, rfl⟩

/-! ### All slots of a word -/

theorem Slot.Apart.symm {x y : Slot} (h : x.Apart y) : y.Apart x := ⟨h.1.symm, h.2.symm⟩

/-- The slots of a list written, first to last. -/
def State.writeSlots (s : State) (p : Page) (w : Wr) (v : Nat) (xs : List Slot) : State := xs.foldl (State.writeSlot · p w v) s

theorem State.writeSlots_frame (s : State) (p : Page) (w : Wr) (v : Nat) (xs : List Slot) :
    (s.writeSlots p w v xs).mem = s.mem ∧ (s.writeSlots p w v xs).bus = s.bus := by
  induction xs generalizing s with
  | nil => exact ⟨rfl, rfl⟩
  | cons x xs ih => exact ⟨(ih _).1.trans (s.writeSlot_frame p w v x).1, (ih _).2.trans (s.writeSlot_frame p w v x).2⟩

theorem State.writeSlots_kept (s : State) (p : Page) (w : Wr) (v : Nat) {xs : List Slot} {y : Slot} (h : ∀ x ∈ xs, x.Apart y) :
    SlotKept s (s.writeSlots p w v xs) p.base y := by
  induction xs generalizing s with
  | nil => exact .refl s _ y
  | cons x xs ih => exact (s.writeSlot_kept p w v (h x List.mem_cons_self)).trans (ih _ fun z hz => h z (List.mem_cons_of_mem x hz))

/-- Each of a list of slots that lie apart shows what its own write leaves. -/
theorem State.getSlot_writeSlots (s : State) (p : Page) (w : Wr) (v : Nat) {xs : List Slot} (hap : xs.Pairwise Slot.Apart)
    (hfit : ∀ x ∈ xs, x.part + x.w ≤ x.fld.w) : ∀ x ∈ xs, (s.writeSlots p w v xs).getSlot p.base x =
      writtenSlot x.fld.acc w.opn (s.softUnder p.base x.fld x.part w.req) (bits (s.hwBits p.base x.fld) x.part x.w)
        (s.getSlot p.base x) (bits v x.pos x.w) := by
  induction xs generalizing s with
  | nil => simp
  | cons z xs ih =>
    obtain ⟨hz, hxs⟩ := List.pairwise_cons.mp hap
    intro x hx
    rcases List.mem_cons.mp hx with rfl | hx
    · have hk := State.writeSlots_kept (s.writeSlot p w v x) p w v fun y hy => (hz y hy).symm
      exact hk.shows.trans (s.getSlot_writeSlot p w v (hfit x List.mem_cons_self))
    · have hk := s.writeSlot_kept p w v (hz x hx)
      refine (ih _ hxs (fun y hy => hfit y (List.mem_cons_of_mem z hy)) x hx).trans ?_
      rw [hk.shows, hk.hwSet, State.softUnder, hk.notes, State.softUnder]

/-- A fold that writes slot after slot and raises LOCKED where the lock keeps one from changing. -/
theorem foldl_writeSlot {p : Page} {w : Wr} {v : Nat} {f : State × Nat → Slot → State × Nat}
    (hf : ∀ s c x, c = 0 ∨ c = causeLOCKED →
      f (s, c) x = (s.writeSlot p w v x, if s.lockedOut p w v x then causeLOCKED else c))
    {xs : List Slot} (hap : xs.Pairwise Slot.Apart) (s : State) (c : Nat) (hc : c = 0 ∨ c = causeLOCKED) :
    xs.foldl f (s, c) = (s.writeSlots p w v xs, if xs.any (s.lockedOut p w v) then causeLOCKED else c) := by
  induction xs generalizing s c with
  | nil => rfl
  | cons z xs ih =>
    obtain ⟨hz, hxs⟩ := List.pairwise_cons.mp hap
    have hany : xs.any ((s.writeSlot p w v z).lockedOut p w v) = xs.any (s.lockedOut p w v) := by
      refine Bool.eq_iff_iff.mpr ?_
      simp only [List.any_eq_true]
      refine exists_congr fun x => and_congr_right fun hx => ?_
      rw [State.lockedOut, (s.writeSlot_kept p w v (hz x hx)).shows, State.lockedOut]
    rw [List.foldl_cons, hf s c z hc, ih hxs _ _ (by split <;> simp [hc]), hany, List.any_cons]
    cases s.lockedOut p w v z <;> simp [State.writeSlots]

/-- A word of which no field is set apart or given a bad value. -/
theorem State.putWord_eq {s : State} {p : Page} {off : Nat} {xs : List Slot} (hs : p.slots off = some xs) (w : Wr) (v : Nat)
    (hap : xs.Pairwise Slot.Apart) :
    s.putWord p w off v [] [] = (s.writeSlots p w v xs, if xs.any (s.lockedOut p w v) then causeLOCKED else 0) := by
  rw [State.putWord, hs]
  refine foldl_writeSlot (fun u c x hc => ?_) hap s 0 (.inl rfl)
  have hlock : firstCause c causeLOCKED = causeLOCKED := by rcases hc with rfl | rfl <;> rfl
  unfold State.writeSlot State.lockedOut
  cases x.fld.acc with
  | rwl =>
    by_cases hsame : bits v x.pos x.w = u.getSlot p.base x
    · simp [hsame]
    · cases w.opn <;> simp [hsame, hlock]
  | _ => simp

/-! ### Pages of fields only -/

/-- A register shows one field, or fields of 32 bits at most. -/
def RegDef.narrow (r : RegDef) : Bool := decide (r.fields.length ≤ 1) || r.fields.all fun f => decide (f.w ≤ 32)

theorem plainPage_narrow {p : Page} (h : plainPage p.ty = true) : p.table.all RegDef.narrow = true := by
  obtain ⟨ty, base, inst, owner⟩ := p
  cases ty with
  | dev | otp | mgmt | xspi | dnoc | clu | cnoc | csram | tile | csto | lprg | mmu | tsram => rfl
  | _ => cases h

/-- A word shows the fields of one register of the page. -/
theorem slotsIn_mem {rs : List RegDef} {off : Nat} {xs : List Slot} (h : slotsIn rs off = some xs) :
    ∃ r ∈ rs, r.slots off = some xs := by
  induction rs with
  | nil => cases h
  | cons r rs ih =>
    unfold slotsIn at h
    split at h
    · next hr => exact ⟨r, List.mem_cons_self, hr.trans h⟩
    · obtain ⟨q, hq, hs⟩ := ih h
      exact ⟨q, List.mem_cons_of_mem r hq, hs⟩

/-- A word of such a register shows one field, or whole fields. -/
theorem RegDef.narrow_slots {r : RegDef} {off : Nat} {xs : List Slot} (hr : r.narrow = true) (h : r.slots off = some xs) :
    xs.length ≤ 1 ∨ ∀ x ∈ xs, x.part = 0 := by
  unfold RegDef.slots at h
  split at h
  · cases h
  · split at h
    · cases h
    · next d hi _ =>
      obtain rfl := Option.some.inj h
      rcases Bool.or_eq_true_iff.mp hr with hlen | hw
      · exact .inl (Nat.le_trans (List.length_filterMap_le _ _) (of_decide_eq_true hlen))
      · refine .inr fun x hx => ?_
        obtain ⟨f, hf, hx⟩ := List.mem_filterMap.mp hx
        have hf : (f.shift d).w ≤ 32 := of_decide_eq_true (List.all_eq_true.mp hw f hf)
        dsimp only at hx
        rw [if_pos hf] at hx
        split at hx
        · obtain rfl := Option.some.inj hx
          rfl
        · cases hx

theorem slots_apart {p : Page} {off : Nat} {xs : List Slot} (hp : plainPage p.ty = true) (hs : p.slots off = some xs)
    (hnd : (xs.map fun x => 64 * x.fld.off + x.fld.lo).Nodup) : xs.Pairwise Slot.Apart := by
  obtain ⟨r, hr, hx⟩ := slotsIn_mem hs
  have hkeys : xs.Pairwise fun x y => 64 * x.fld.off + x.fld.lo ≠ 64 * y.fld.off + y.fld.lo := List.pairwise_map.mp hnd
  rcases RegDef.narrow_slots (List.all_eq_true.mp (plainPage_narrow hp) r hr) hx with hlen | hpart
  · match xs, hlen with
    | [], _ => exact .nil
    | [x], _ => exact List.pairwise_singleton _ x
  · refine hkeys.imp_of_mem fun {x y} hx hy h => ⟨h, ?_⟩
    simpa [hpart x hx, hpart y hy] using h

/-- A page of fields only derives nothing before a write, starts nothing with it, and ends nothing after it. -/
theorem State.plainPage_write {p : Page} (h : plainPage p.ty = true) (s : State) (off : Nat) (w : Wr) :
    s.pageSync p off = s ∧ s.writeBlock p off w = s.put p w off ∧ s.afterWrite p = s := by
  obtain ⟨ty, base, inst, owner⟩ := p
  cases ty with
  | dev | otp | mgmt | xspi | dnoc | clu | cnoc | csram | tile | csto | lprg | mmu | tsram => exact ⟨rfl, rfl, rfl⟩
  | _ => cases h

theorem orderOf_plain {p : Page} (h : plainPage p.ty = true) {off : Nat} (hlo : 0x40 ≤ off) : orderOf p off = 0 := by
  rw [orderOf, if_neg (by omega), if_neg (by omega)]
  split
  · rfl
  · obtain ⟨ty, base, inst, owner⟩ := p
    cases ty with
    | dev | otp | mgmt | xspi | dnoc | clu | cnoc | csram | tile | csto | lprg | mmu | tsram => rfl
    | _ => cases h

theorem unstaged_plain {s : State} {p : Page} (h : plainPage p.ty = true) : s.unstaged p := by
  intro hty
  rw [hty] at h
  cases h

/-- A word written to a page of fields only is written field by field. -/
theorem State.writeWord_plain {s : State} {p : Page} {off req data : Nat} {xs : List Slot} (hp : plainPage p.ty = true)
    (hr : s.pageReady p = true) (hlo : 0x40 ≤ off) (hs : p.slots off = some xs) :
    s.writeWord p off (s.wrOf p req data) = s.putWord p (s.wrOf p req data) off data [] [] := by
  obtain ⟨hsync, hblock, -⟩ := State.plainPage_write hp s off (s.wrOf p req data)
  have halone : s.writeAlone p off (s.wrOf p req data) = s.putWord p (s.wrOf p req data) off data [] [] := by
    rw [State.writeAlone, if_neg (by omega), if_neg (by simp [hr, hs]), hsync, hblock]
    rfl
  simp [State.writeWord, State.wordUnder, State.noteWord, orderOf_plain hp hlo, halone]

/-- Settles O18: the word is written slot by slot, no slot's write touches another slot, and each slot shows what its own access
code leaves. -/
theorem accessCodes : Obligations.AccessCodes := by
  unfold Obligations.AccessCodes
  intro s p off req addr data xs wr hreach ha hlo hhi hd hp hs hnd hfit
  have hap := slots_apart hp hs hnd
  have hw := (State.writeWord_plain (req := req) (data := data) hp hreach.ready hlo hs).trans (State.putWord_eq hs _ data hap)
  refine ⟨_, _, ?_, rfl, s.getSlot_writeSlots p (s.wrOf p req data) data hap hfit, s.writeSlots_frame p _ data xs⟩
  have hb := State.busWrite_finish hreach ha hhi (unstaged_plain hp) hd hw (by split <;> decide)
  rw [(State.plainPage_write hp _ off (s.wrOf p req data)).2.2] at hb
  exact congrArg Host.Outcome.next hb

end Sys2Proof.Machine
end

section
/-! SUPPORT. Arrivals, productions and log records leave the loop engines' state, and a commit rewrites no context word but its own. -/

namespace Sys2Proof.Machine

/-! ### What an event leaves of the loop engines -/

/-- What every element of a list leaves, the fold over the list leaves. -/
theorem foldl_keeps {σ α β : Type} {f : σ → α → σ} (g : σ → β) (h : ∀ s x, g (f s x) = g s) (l : List α) (s : σ) :
    g (l.foldl f s) = g s := by
  induction l generalizing s with
  | nil => rfl
  | cons x l ih => rw [List.foldl_cons, ih, h]

@[simp] theorem State.incF_loop (s : State) (b : Nat) (f : Fld) (n : Nat) : (s.incF b f n).loop = s.loop := rfl

@[simp] theorem State.requestWake_loop (s : State) (i : Nat) : (s.requestWake i).loop = s.loop := by
  unfold State.requestWake
  split <;> rfl

@[simp] theorem State.countArrivals_loop (s : State) (base : Nat) (arriv satlost cnt satw : Fld) (b n : Nat) :
    (s.countArrivals base arriv satlost cnt satw b n).1.loop = s.loop := by
  unfold State.countArrivals
  dsimp only
  split <;> rfl

@[simp] theorem State.cascadeWake_loop (s was : State) : (s.cascadeWake was).loop = s.loop := by
  refine foldl_keeps State.loop (fun u g => ?_) _ _
  dsimp only
  split <;> simp

@[simp] theorem State.enterIntc_loop (s : State) (t l n : Nat) : (s.enterIntc t l n).1.loop = s.loop := by
  unfold State.enterIntc
  dsimp only
  split
  · dsimp only
    split <;> split <;> simp
  · simp [State.noteFresh]

@[simp] theorem State.arriveOnce_loop (s : State) (src n : Nat) : (s.arriveOnce src n).1.loop = s.loop := by
  unfold State.arriveOnce
  dsimp only
  split
  · split
    · rfl
    · split
      · split <;> simp
      · simp
  · simp

@[simp] theorem State.arriveF_loop (fuel : Nat) (s : State) (src n : Nat) : (State.arriveF fuel s src n).loop = s.loop := by
  induction fuel generalizing s src n with
  | zero => rfl
  | succ k ih =>
    unfold State.arriveF
    split
    · rfl
    · dsimp only
      split
      · simp
      · split <;> simp [ih]

@[simp] theorem State.arrive_loop (s : State) (src n : Nat) : (s.arrive src n).loop = s.loop := State.arriveF_loop 3 s src n

@[simp] theorem State.occur_loop (s : State) (base b n : Nat) : (s.occur base b n).loop = s.loop := by
  unfold State.occur
  split
  · rfl
  · split <;> simp

@[simp] theorem State.pulse_loop (s : State) (base b n : Nat) : (s.pulse base b n).loop = s.loop := by
  unfold State.pulse
  split <;> simp

@[simp] theorem State.klogRecord_loop (s : State) (c ty flags src tick : Nat) (payload : List Nat) :
    (s.klogRecord c ty flags src tick payload).loop = s.loop := by
  unfold State.klogRecord
  dsimp only
  split
  · rfl
  · split <;> split <;> simp

@[simp] theorem State.klogEvents_loop (s : State) (c prod : Nat) : (s.klogEvents c prod).loop = s.loop := by
  refine foldl_keeps State.loop (fun u k => ?_) _ _
  split <;> simp

@[simp] theorem State.produce_loop (s : State) (l prod : Nat) (aligned : Bool) (srcPer : Nat) (mark : Bool) :
    (s.produce l prod aligned srcPer mark).loop = s.loop := by
  unfold State.produce State.produceTok
  dsimp only
  split
  · rfl
  · split <;> simp

/-! ### What the parts of a commit leave of the context store (R119 to R122) -/

@[simp] theorem State.commitCmp_loop (s : State) (t n : Nat) (c : Nat × Nat × Nat) : (s.commitCmp t n c).loop = s.loop := by
  unfold State.commitCmp
  dsimp only
  split
  · split <;> simp
  · simp

@[simp] theorem State.sendShared_ctx (s : State) (c idx val ord : Nat) : (s.sendShared c idx val ord).loop.ctx = s.loop.ctx := rfl

@[simp] theorem State.countMerged_loop (s : State) (t : Nat) : (s.countMerged t).loop = s.loop := by
  unfold State.countMerged
  split
  · split <;> simp
  · simp

@[simp] theorem State.trigger_ctx (s : State) (t n : Nat) (vals : List Nat) (arr : Nat) :
    (s.trigger t n vals arr).loop.ctx = s.loop.ctx := by
  unfold State.trigger
  split
  · simp
  · dsimp only
    split <;> simp

@[simp] theorem State.wake_ctx (s : State) (t m n val : Nat) : (s.wake t m n val).loop.ctx = s.loop.ctx := by
  unfold State.wake
  dsimp only
  generalize hc : (_ && SMap.has s.loop.pend (2048 * t + n)) = merged
  cases merged <;> simp

@[simp] theorem State.presetLost_ctx (s : State) (t : Nat) (r : Run) (wrote : Nat) :
    (s.presetLost t r wrote).loop.ctx = s.loop.ctx := by
  unfold State.presetLost
  dsimp only
  split <;> simp [State.setStage]

/-! ### Context words written -/

theorem State.ctxWord_congr {s u : State} (h : u.loop.ctx = s.loop.ctx) (t n w : Nat) : u.ctxWord t n w = s.ctxWord t n w := by
  simp [State.ctxWord, h]

theorem State.setCtxWord_ctx (s : State) (t n w v : Nat) :
    (s.setCtxWord t n w v).loop.ctx = SMap.put s.loop.ctx (ctxKey t n w) (v &&& ctxBits w) := by
  unfold State.setCtxWord
  dsimp only
  split <;> simp

@[simp] theorem State.ctxWord_setCtxWord (s : State) (t n w v : Nat) : (s.setCtxWord t n w v).ctxWord t n w = v &&& ctxBits w := by
  simp [State.ctxWord, State.setCtxWord_ctx]

theorem State.ctxWord_setCtxWord_ne (s : State) {t n w n' w' : Nat} (v : Nat) (hw : w < 16) (hw' : w' < 16)
    (h : n' ≠ n ∨ w' ≠ w) : (s.setCtxWord t n w v).ctxWord t n' w' = s.ctxWord t n' w' := by
  have hk : ctxKey t n' w' ≠ ctxKey t n w := by
    unfold ctxKey
    omega
  simp [State.ctxWord, State.setCtxWord_ctx, hk]

/-! ### A commit (R119, R121) -/

/-- The first `m` states of a run's context written back, where the run wrote them (R119). -/
def State.writeStates (s : State) (t : Nat) (r : Run) (m : Nat) : State :=
  (List.range m).foldl (fun s k => if bit r.wrote (10 + k) then s.setCtxWord t r.ctx (10 + k) (r.w.getD (10 + k) 0) else s) s

theorem State.writeStates_succ (s : State) (t : Nat) (r : Run) (m : Nat) :
    s.writeStates t r (m + 1) = if bit r.wrote (10 + m)
      then (s.writeStates t r m).setCtxWord t r.ctx (10 + m) (r.w.getD (10 + m) 0) else s.writeStates t r m := by
  simp [State.writeStates, List.range_succ]

/-- A state word has no reserved bits. -/
theorem and_ctxBits_state {w : Nat} (v : Nat) (h : 10 ≤ w) (h' : w < 15) : v &&& ctxBits w = v % 2 ^ 32 := by
  have hw : ctxBits w = 2 ^ 32 - 1 := by
    interval_cases w <;> rfl
  rw [hw, Nat.and_two_pow_sub_one_eq_mod]

theorem State.writeStates_ctxWord_other (s : State) {t n w : Nat} {r : Run} (hw : w < 16) {m : Nat} (hm : m ≤ 5)
    (h : n ≠ r.ctx ∨ w < 10 ∨ 10 + m ≤ w) : (s.writeStates t r m).ctxWord t n w = s.ctxWord t n w := by
  induction m with
  | zero => rfl
  | succ m ih =>
    rw [State.writeStates_succ, apply_ite (State.ctxWord · t n w), State.ctxWord_setCtxWord_ne _ _ (by omega) hw (by omega), ite_self]
    exact ih (by omega) (by omega)

theorem State.writeStates_ctxWord_state (s : State) {t w : Nat} {r : Run} {m : Nat} (hm : m ≤ 5) (h : 10 ≤ w) (h' : w < 10 + m) :
    (s.writeStates t r m).ctxWord t r.ctx w = if bit r.wrote w then r.w.getD w 0 % 2 ^ 32 else s.ctxWord t r.ctx w := by
  induction m with
  | zero => omega
  | succ m ih =>
    rw [State.writeStates_succ, apply_ite (State.ctxWord · t r.ctx w)]
    by_cases hw : w = 10 + m
    · subst hw
      rw [State.ctxWord_setCtxWord, and_ctxBits_state _ h (by omega), State.writeStates_ctxWord_other s (by omega) (by omega) (by omega)]
    · rw [State.ctxWord_setCtxWord_ne _ _ (by omega) (by omega) (by omega), ite_self]
      exact ih (by omega) (by omega)

/-! The compares, shared values, wake-ups and events that a commit sends, each list as a whole. -/

theorem State.commitCmps_ctx (s : State) (t n : Nat) (l : List (Nat × Nat × Nat)) :
    (l.foldl (fun s c => s.commitCmp t n c) s).loop.ctx = s.loop.ctx :=
  foldl_keeps (·.loop.ctx) (fun s c => congrArg LoopSt.ctx (s.commitCmp_loop t n c)) l s

theorem State.sendShareds_ctx (s : State) (c ord : Nat) (l : List (Nat × Nat)) :
    (l.foldl (fun s x => s.sendShared c x.1 x.2 ord) s).loop.ctx = s.loop.ctx :=
  foldl_keeps (·.loop.ctx) (fun s x => s.sendShared_ctx c x.1 x.2 ord) l s

theorem State.wakes_ctx (s : State) (t m : Nat) (l : List (Nat × Nat)) :
    (l.foldl (fun s x => s.wake t m x.1 x.2) s).loop.ctx = s.loop.ctx :=
  foldl_keeps (·.loop.ctx) (fun s x => s.wake_ctx t m x.1 x.2) l s

theorem State.produces_ctx (s : State) (l base : Nat) (ns : List Nat) :
    (ns.foldl (fun s n => s.produce l (base + n)) s).loop.ctx = s.loop.ctx :=
  foldl_keeps (·.loop.ctx) (fun s n => congrArg LoopSt.ctx (s.produce_loop l (base + n) true 1 false)) ns s

/-- A commit writes states and CTX_STAT from a state whose context store is the one before it. -/
theorem State.commitRun_eq (s : State) (t : Nat) (r : Run) : ∃ u : State, u.loop.ctx = s.loop.ctx ∧
    s.commitRun t r = (u.writeStates t r 5).setCtxWord t r.ctx 15
      (ctxStat ((u.writeStates t r 5).ctxWord t r.ctx 15) (r.cmpw.find? fun c => s.missed t c.1 r.start).isSome r.sat r.lim false) := by
  unfold State.commitRun
  dsimp only
  rw [Option.isSome_map]
  refine ⟨_, ?_, rfl⟩
  rw [State.presetLost_ctx]
  split <;> split <;>
    simp only [State.pulse_loop, State.setFlag_loop, State.setF_loop, State.satF_loop, State.produces_ctx, State.wakes_ctx,
      State.sendShareds_ctx, State.commitCmps_ctx]

/-- Settles O33: up to the write-back a commit leaves the context store, and the write-back puts the run's states and then CTX_STAT. -/
theorem commitWritesBack : Obligations.CommitWritesBack := by
  unfold Obligations.CommitWritesBack
  intro s t n w r hr hn hw
  obtain ⟨v, hv, hu⟩ := s.commitRun_eq t r
  dsimp only
  rw [hu, ← State.ctxWord_congr hv t n w, ← State.ctxWord_congr hv t n 15]
  by_cases h : n ≠ r.ctx ∨ w < 10
  · rw [if_pos h, State.ctxWord_setCtxWord_ne _ _ (by omega) hw (by omega), State.writeStates_ctxWord_other v hw (by omega) (by omega)]
  · obtain ⟨hn', hw'⟩ := not_or.mp h
    obtain rfl : n = r.ctx := not_not.mp hn'
    rw [if_neg h]
    split
    · next h15 =>
      subst h15
      rw [State.ctxWord_setCtxWord, State.writeStates_ctxWord_other v (by omega) (by omega) (by omega)]
      rfl
    · rw [State.ctxWord_setCtxWord_ne _ _ (by omega) hw (by omega), State.writeStates_ctxWord_state v (by omega) (by omega) (by omega)]
end Sys2Proof.Machine
end

section
/-! SUPPORT. The block after a power-on reset. -/

namespace Sys2Proof.Machine

theorem SMap.get?_eq_none {α : Type} {m : SMap α} {a : Nat} (h : ∀ x ∈ m, x.1 ≠ a) : SMap.get? m a = none := by
  induction m with
  | nil => rfl
  | cons x m ih =>
    rw [SMap.get?, if_neg (h x List.mem_cons_self)]
    exact ih fun y hy => h y (List.mem_cons_of_mem x hy)

/-- The role tables lie in page DROLE. -/
theorem resetRoles_page : ∀ x ∈ resetRoles, x.1 / 64 / 0x1000 = pgDROLE / 0x1000 := by decide

theorem resetRoles_wf : SMap.wf resetRoles = true := by decide

/-- A register field outside page DROLE reads its reset value. -/
theorem State.getF_reset {b : Nat} {f : Fld} (hb : b % 0x1000 = 0) (ho : f.off < 0x1000) (hl : f.lo < 64) (h : b ≠ pgDROLE) :
    State.reset.getF b f = f.reset % 2 ^ f.w := by
  have hd : pgDROLE = 0x1000 := rfl
  have hnone : SMap.get? resetRoles (fkey b f) = none := by
    refine SMap.get?_eq_none fun x hx he => ?_
    have hx := resetRoles_page x hx
    rw [he, fkey] at hx
    omega
  simp [State.getF, State.reset, SMap.getD, hnone, State.resetOf, SMap.get?]

theorem State.domOn_reset {d : Nat} (h : d < 128) : State.reset.domOn d = false := by
  have hz : State.reset.getF pgPWRD (F.PWRD_ON_ON (d / 32)) = 0 := by
    rw [State.getF_reset (by decide) (by simp [F.PWRD_ON_ON]; omega) (by simp [F.PWRD_ON_ON]) (by decide)]
    simp [F.PWRD_ON_ON]
  simp [State.domOn, State.fbit, hz, bit]

/-- R22: the placement of the logical tiles and the roles of the physical ones. -/
theorem State.phys_reset : ∀ lt < 32, State.reset.phys lt = 10 * (lt / 8) + lt % 8 := by decide

theorem State.role_reset : ∀ t < 40, State.reset.role t = if t % 10 < 8 then 0 else 1 := by decide

/-- Settles O58: the register map lists the role tables alone, so that every field of another page reads its reset value. -/
theorem resetState : Obligations.ResetState := by
  unfold Obligations.ResetState
  exact ⟨⟨rfl, resetRoles_wf⟩, rfl, rfl, rfl, fun _ => State.domOn_reset, fun _ => rfl, State.phys_reset, State.role_reset,
    fun _ _ => ⟨rfl, rfl, rfl, rfl⟩, fun _ _ => State.getF_reset⟩
end Sys2Proof.Machine
end

section
/-! SUPPORT. A buffered store to frozen memory. -/

namespace Sys2Proof.Machine

/-- Tile 0 has power and ARB_FRZ of its SRAM set, and pair 0 holds a buffered store of the word 1 at the first address of that SRAM. -/
def frozenStore : State :=
  ((State.reset.setFbit pgPWRD F.PWRD_ON_ON 0 true).setFlag (pgTSRAM 0) F.TSRAM_ARB_FRZ_FREEZE true).setPair 0
    { sb := [⟨0x10000000, 4, 1⟩] }

/-- The store waits while its memory is frozen (R321). -/
theorem frozenStore_waits : frozenStore.drainOne 0 = frozenStore := by
  have hsb : (frozenStore.pair 0).sb = [⟨0x10000000, 4, 1⟩] := by decide
  have hfrz : frozenStore.memFrozen 0x10000000 = true := by decide
  simp [State.drainOne, hsb, hfrz]

/-- Refutes O59: its last clause has the oldest buffered store go to memory whenever that memory has power and belongs to an active
tile, but a store to frozen memory stays in the buffer (R321), as `frozenStore` shows. -/
theorem not_memoryAccesses : ¬ Obligations.MemoryAccesses := by
  unfold Obligations.MemoryAccesses
  rintro ⟨-, -, drains⟩
  have h := drains frozenStore 0 ⟨0x10000000, 4, 1⟩ [] (by decide) (by decide) (by decide) (by decide) (by decide)
  rw [frozenStore_waits] at h
  exact absurd (congrArg (fun s => Memory.read s.mem 0x10000000) h) (by decide)
end Sys2Proof.Machine
end

section
/-! SUPPORT. A staged core write that the owner of a partition mirrors. -/

namespace Sys2Proof.Machine

/-- A core write that arrives at a context window is made there. -/
theorem contextWrite_arrives {s : State} {req addr size data t off : Nat} (h : s.Arrives (.ctx t off) ⟨req, addr, size, true, data⟩) :
    exec (.contextWrite req addr size data) s = .next (s.ctxAccess t off ⟨req, addr, size, true, data⟩).1 :=
  congrArg (fun r : State × Option BusResp => Host.Outcome.next r.1) (State.busAccess_made h (by simp) (by simp) false)

theorem State.bothTiles_lone {s : State} {t : Nat} (h : s.lone t) (f : State → Nat → State) : s.bothTiles t f = f s t := by
  unfold State.bothTiles
  cases hr : s.refireOf (t / 10) with
  | none => rfl
  | some r => simpa using fun hs hp => absurd ⟨hs, hp⟩ (h r hr)

/-- A core write at the end of a tile's core stage. -/
def State.enterStage (s : State) (t : Nat) (c : CoreWrite) : State :=
  s.setStage t { s.stageOf t with core := (s.stageOf t).core ++ [c] }

theorem State.putCore_armed {s : State} {t : Nat} {c : CoreWrite} (h : s.ctxArmed t c.ctx = true) :
    s.putCore t c = (s.enterStage t c).noteMirror t c := if_pos h

theorem State.takeCore_room {s : State} {t : Nat} {c : CoreWrite} (h : (s.stageOf t).core.length < 256) :
    s.takeCore t c = (s.bothTiles t fun z t => z.putCore t c, false) := if_neg fun hfull => absurd hfull.2 (Nat.not_le.mpr h)

/-- A valid write to an armed context of a tile that nothing mirrors enters the stage, and is noted for the MIRROR frames (R27, R448). -/
theorem contextWrite_staged {s : State} {req addr size data t off : Nat} {c : CoreWrite}
    (hc : c = ⟨req, off / 64, off % 64, size, data % 2 ^ (8 * size), addr⟩) (h : s.Arrives (.ctx t off) ⟨req, addr, size, true, data⟩)
    (hz : okSize ⟨req, addr, size, true, data⟩ = true) (hok : c.ok = true) (harmed : s.ctxArmed t c.ctx = true)
    (hroom : (s.stageOf t).core.length < 256) (hlone : s.lone t) :
    exec (.contextWrite req addr size data) s = .next (((s.enterStage t c).noteMirror t c).respond req false 0) := by
  have htake := State.takeCore_room (t := t) (c := c) hroom
  rw [State.bothTiles_lone hlone, State.putCore_armed harmed] at htake
  subst hc
  rw [contextWrite_arrives h]
  simp [State.ctxAccess, State.complete, hz, hok, htake]

/-- R448: the owner of a partition notes a write to a context of it. -/
theorem State.noteMirror_mout {s : State} {t lt g : Nat} {c : CoreWrite} (ht : s.ltOf t = some lt) (hg : s.ctxGen t c.ctx = some g)
    (hmember : s.getF pgGRPL F.GRP_STAT_STATE = 2)
    (howner : ((s.partsOf lt).any fun q => s.getF pgGRPL (F.grpOwner q) == s.getF pgGRPL F.GRP_CTRL_ID) = true) :
    (s.noteMirror t c).grp.mout =
      s.grp.mout ++ [⟨lt, c.ctx, c.off, c.size, c.data, s.getF (pgPWMG t g) (F.PWMG_PNUM_PNUM (g % 16)) + 1⟩] := by
  simp [State.noteMirror, ht, hg, hmember, howner]

/-- Tile 0 has power and its generator 0 is ARMED, with context 5 bound to it. The device is a MEMBER of its group, and partition 0, which
it owns, holds logical tile 0. -/
def mirroredTile : State :=
  { (((((State.reset.setFbit pgPWRD F.PWRD_ON_ON 0 true).setGenState 0 0 3).setFlag pgGRPL F.GRP_CTRL_EN true).setF pgGRPL
      F.GRP_STAT_STATE 2).setFbit pgGRPL (F.GRP_PART_TILES_V 0) 0 true) with
    loop.ctx := [(ctxKey 0 5 1, 0x100)] }

/-- Requester 0 writes 3 to word 2 of context 5 of `mirroredTile`. -/
def mirroredWrite : CoreWrite := ⟨0, 5, 8, 4, 3, 0x080C0148⟩

theorem mirroredTile_arrives : mirroredTile.Arrives (.ctx 0 0x148) ⟨0, 0x080C0148, 4, true, 3⟩ :=
  ⟨by decide, by decide, by decide, by decide, by decide, by decide, by decide⟩

theorem mirroredTile_lone : mirroredTile.lone 0 := fun _ h => nomatch h

/-- The write is noted for the MIRROR frames. -/
theorem mirroredTile_notes : let z := mirroredTile.enterStage 0 mirroredWrite
    (z.noteMirror 0 mirroredWrite).grp.mout = z.grp.mout ++ [⟨0, 5, 8, 4, 3, 1⟩] :=
  State.noteMirror_mout (g := 0) (by decide) (by decide) (by decide) (by decide)

/-- Refutes O24: its fourth clause has a write to an armed context enter the stage and change nothing else, but the owner of the
context's partition also notes the write for its MIRROR frames (R448), as `mirroredTile` shows. -/
theorem not_contextWrites : ¬ Obligations.ContextWrites := by
  unfold Obligations.ContextWrites
  rintro ⟨writes, -, -⟩
  obtain ⟨-, -, -, staged, -⟩ := writes mirroredTile 0 0x080C0148 4 3 0 0x148 mirroredTile_arrives (.inl ⟨rfl, by decide⟩)
  have hok : mirroredWrite.ok = true := by decide
  have harmed : mirroredTile.ctxArmed 0 mirroredWrite.ctx = true := by decide
  have hroom : (mirroredTile.stageOf 0).core.length < 256 := by decide
  have hstated := staged hok harmed hroom mirroredTile_lone
  have hmade := contextWrite_staged (c := mirroredWrite) rfl mirroredTile_arrives (by decide) hok harmed hroom mirroredTile_lone
  have hmout : ((mirroredTile.enterStage 0 mirroredWrite).noteMirror 0 mirroredWrite).grp.mout =
      (mirroredTile.enterStage 0 mirroredWrite).grp.mout :=
    congrArg (fun s => s.grp.mout) (Host.Outcome.next.inj (hmade.symm.trans hstated))
  exact absurd (mirroredTile_notes.symm.trans hmout) (by simp)
end Sys2Proof.Machine
end

section
/-! SUPPORT. Accesses that the decoder or the size check refuses, writes to the quiet view, and accesses to offsets without a register
(R37 to R39, R48, R498). -/

namespace Sys2Proof.Machine

/-! ### Accesses refused -/

/-- R38, as a check and as a statement. -/
theorem okSize_iff (a : Access) : okSize a = true ↔ (a.size = 4 ∧ a.addr % 4 = 0) ∨ (a.size = 8 ∧ a.addr % 8 = 0) := by
  simp [okSize]

theorem State.busAccess_unmapped {s : State} {a : Access} (h : target s.phys a.addr = .unmapped) (force : Bool) :
    s.busAccess a force = s.refuse a causeUNMAPPED := by
  simp only [State.busAccess, h]

theorem State.busAccess_noPage {s : State} {a : Access} (h : target s.phys a.addr = .noPage) (force : Bool) :
    s.busAccess a force = s.refuse a causeNO_PAGE := by
  simp only [State.busAccess, h]

/-- R38: an access of another size or alignment is refused whatever else it breaks (R498). -/
theorem State.pageAccess_badSize (s : State) (p : Page) (off : Nat) {a : Access} (h : okSize a = false) (force : Bool) :
    (s.pageAccess p off a force).1 = (s.recordErr p.base causeSIZE a).respond a.req true 0 := by
  rw [State.pageAccess, h]
  rfl

/-- R48. -/
theorem State.pageAccess_quietWrite (s : State) (p : Page) {off : Nat} {a : Access} (hz : okSize a = true) (hq : 0x800 ≤ off)
    (hw : a.write = true) (force : Bool) :
    (s.pageAccess p off a force).1 = (s.recordErr p.base causeQUIET_WRITE a).respond a.req true 0 := by
  simp only [State.pageAccess, hz, hq, hw, decide_true, Bool.not_true, if_true, if_false, Bool.false_eq_true]
  rfl

/-- A register write that arrives at a page is made there. -/
theorem registerWrite_arrives {s : State} {p : Page} {off req addr size data : Nat}
    (h : s.Arrives (.page p off) ⟨req, addr, size, true, data⟩) :
    exec (.registerWrite req addr size data) s = .next (s.pageAccess p off ⟨req, addr, size, true, data⟩ false).1 :=
  congrArg (fun r : State × Option BusResp => Host.Outcome.next r.1) (State.busAccess_made h (by simp) (by simp) false)

/-- Settles O15: a wrong size is refused where the access arrives, and the decoder refuses what leads nowhere. -/
theorem decoderRefuses : Obligations.DecoderRefuses := by
  unfold Obligations.DecoderRefuses
  refine ⟨?_, ?_⟩
  · intro s p off req addr size data wr h hz
    have hz : okSize wr = false := Bool.eq_false_iff.mpr (mt (okSize_iff wr).mp hz)
    rw [registerWrite_arrives h, State.pageAccess_badSize s p off hz]
    rfl
  · intro s req addr size data wr rd
    refine ⟨fun h => ⟨?_, ?_⟩, fun h => ⟨?_, ?_⟩⟩
    · exact congrArg (Host.Outcome.next ·.1) (State.busAccess_unmapped (a := wr) h false)
    · exact congrArg (Host.Outcome.next ·.1) (State.busAccess_unmapped (a := rd) h false)
    · exact congrArg (Host.Outcome.next ·.1) (State.busAccess_noPage (a := wr) h false)
    · exact congrArg (Host.Outcome.next ·.1) (State.busAccess_noPage (a := rd) h false)

/-- Settles O16: the quiet view refuses a write that the size check lets through. -/
theorem quietWrites : Obligations.QuietWrites := by
  unfold Obligations.QuietWrites
  intro s p off req addr size data wr h hq hz
  rw [registerWrite_arrives h, State.pageAccess_quietWrite s p ((okSize_iff wr).mpr hz) hq rfl]
  rfl

/-! ### Offsets without a register -/

/-- The words of a page whose read does more than clear RC fields and load the reader's latch. -/
def Page.actsOnRead (p : Page) : List Nat :=
  match p.ty with
  | .adc => [0x68, 0x6C]
  | .capt => (List.range 16).map fun m => 0x48 + 0x10 * m
  | .ring => [0x80]
  | .dintc => [0x44]
  | .hlck => 0x44 :: 0x48 :: (List.range 64).map fun n => 0x100 + 4 * n
  | .qmgr => if p.inst = 1 then [0x4C] else []
  | .keel => [0x58, 0x64]
  | .core => [0x88, 0x8C, 0x90]
  | _ => []

/-- Each of them shows a register. -/
theorem Page.slots_actsOnRead (p : Page) : ∀ off ∈ p.actsOnRead, (p.slots off).isSome = true := by
  obtain ⟨ty, base, inst, owner⟩ := p
  refine List.all_eq_true.mp (?_ : (Page.actsOnRead _).all (fun off => (Page.slots _ off).isSome) = true)
  cases ty with
  | adc | capt | ring | dintc | hlck | keel | core => rfl
  | qmgr =>
    by_cases hi : inst = 1
    · subst hi
      rfl
    · simp [Page.actsOnRead, hi]
  | _ => rfl

theorem State.pageSync_header (s : State) (p : Page) {off : Nat} (h : off < 0x40) : s.pageSync p off = s := by
  unfold State.pageSync
  split
  · exact if_neg (by omega)
  · exact if_neg (by omega)
  · exact if_neg (by omega)
  · rfl

section
variable {p : Page} {off : Nat} (hs : p.slots off = none)
include hs

theorem not_mem_actsOnRead : off ∉ p.actsOnRead := fun h => by simpa [hs] using p.slots_actsOnRead off h

theorem State.clearRead_hole (s : State) : s.clearRead p off = s := by simp [State.clearRead, hs]

theorem wordCounter_hole : wordCounter p off = none := by simp [wordCounter, hs]

theorem orderOf_hole (hlo : 0x30 ≤ off) : orderOf p off = 0 := by
  rw [orderOf, if_neg (by omega), if_neg (by omega), if_pos (by simp [hs])]

/-- R39: a write at an offset without a register changes nothing and records HOLE. -/
theorem State.writeWord_hole (s : State) (w : Wr) (hlo : 0x30 ≤ off) : s.writeWord p off w = (s, causeHOLE) := by
  have halone : s.writeAlone p off w = (s, causeHOLE) := by
    unfold State.writeAlone
    split
    · have hne : ∀ m < 0x30, off ≠ m := fun m hm => by omega
      simp [State.wHeader, hne, hlo]
    · exact if_pos (by simp [hs])
  simp [State.writeWord, State.wordUnder, State.noteWord, orderOf_hole hs hlo, halone]

/-- R39: a read there returns zero and records HOLE. -/
theorem State.read32_hole (s : State) (req : Nat) (quiet : Bool) (hlo : 0x30 ≤ off) : s.read32 p off req quiet = (0, causeHOLE) := by
  unfold State.read32
  split
  · have hne : ∀ m < 0x30, off ≠ m := fun m hm => by omega
    simp [State.hdrWord, hne]
  · split
    · rfl
    · rw [hs]

/-- A read there has no effect but to bring the page up to date. -/
theorem State.readEffect_hole {s : State} (req : Nat) (hr : s.pageReady p = true) (hhi : off < 0x800) (ha : off % 4 = 0) :
    s.readEffect p off 4 req = (s.pageSync p off, none, 0) := by
  by_cases h40 : off < 0x40
  · rw [State.readEffect, if_pos (.inl h40), State.pageSync_header s p h40]
  have hacts := not_mem_actsOnRead hs
  simp only [State.readEffect, Nat.reduceEqDiff, if_false, List.foldl_cons, List.foldl_nil, State.clearRead_hole hs,
    wordCounter_hole hs, h40, hr, Bool.not_true, Bool.false_eq_true, or_self]
  split
  case h_1 hty =>
    simp only [Page.actsOnRead, hty, List.mem_cons, List.not_mem_nil, or_false, not_or] at hacts
    rw [if_neg hacts.1, if_neg hacts.2]
  case h_2 hty =>
    simp only [Page.actsOnRead, hty, List.mem_map, List.mem_range, not_exists, not_and] at hacts
    exact if_neg fun h => hacts ((off - 0x48) / 0x10) (by omega) (by omega)
  case h_3 hty =>
    simp only [Page.actsOnRead, hty, List.mem_singleton] at hacts
    exact if_neg hacts
  case h_4 hty =>
    simp only [Page.actsOnRead, hty, List.mem_singleton] at hacts
    exact if_neg (by simpa using Ne.symm hacts)
  case h_5 hty =>
    simp only [Page.actsOnRead, hty, List.mem_cons, List.mem_map, List.mem_range, not_or, not_exists, not_and] at hacts
    obtain ⟨h44, h48, hacq⟩ := hacts
    rw [if_neg fun h => hacq ((off - 0x100) / 4) (by omega) (by omega), if_neg (by simp [h44, h48])]
  case h_6 hty =>
    refine if_neg fun h => ?_
    simp [Page.actsOnRead, hty, h.1] at hacts
    exact hacts (by simpa [eq_comm] using h.2)
  case h_7 hty =>
    simp only [Page.actsOnRead, hty, List.mem_cons, List.not_mem_nil, or_false, not_or] at hacts
    rw [if_neg (by simpa using Ne.symm hacts.1), if_neg (by simpa using Ne.symm hacts.2)]
  case h_8 hty =>
    simp only [Page.actsOnRead, hty, List.mem_cons, List.not_mem_nil, or_false, not_or] at hacts
    obtain ⟨h88, h8C, h90⟩ := hacts
    exact if_neg fun h => by simp [Ne.symm h88, Ne.symm h8C, Ne.symm h90] at h
  case h_9 => rfl

/-- R39: a read access there. -/
theorem State.pageAccess_readHole {s : State} {a : Access} (hsize : a.size = 4) (haddr : a.addr % 4 = 0) (hw : a.write = false)
    (hr : s.pageReady p = true) (hlo : 0x30 ≤ off) (hhi : off < 0x800) (ha : off % 4 = 0) (force : Bool) :
    (s.pageAccess p off a force).1 = (s.pageSync p off).finish p causeHOLE a 0 := by
  have hz : okSize a = true := (okSize_iff a).mpr (.inl ⟨hsize, haddr⟩)
  have hv : s.readPage p off 4 a.req false = (0, causeHOLE) := State.read32_hole hs _ _ _ hlo
  simp only [State.pageAccess, hz, hw, hsize, hv, State.readEffect_hole hs a.req hr hhi ha, Nat.not_le.mpr hhi, decide_false,
    Bool.not_true, Bool.false_eq_true, if_false]
  rfl

end

/-- Settles O17: no register at the offset means no effect of the write, of the read, and no value. -/
theorem undefinedOffsets : Obligations.UndefinedOffsets := by
  unfold Obligations.UndefinedOffsets
  intro s p off req addr data wr rd hlo hhi hs ha ho
  refine ⟨fun h hd hst => ?_, fun h => ?_⟩
  · exact congrArg Host.Outcome.next (State.busWrite_finish h ha hhi hst hd (State.writeWord_hole hs s _ hlo) (by decide))
  · have hread := State.pageAccess_readHole hs (a := rd) rfl ha rfl h.ready hlo hhi ho false
    exact congrArg Host.Outcome.next ((congrArg Prod.fst (State.busAccess_page h false)).trans hread)

end Sys2Proof.Machine
end

section
/-! SUPPORT. The lock of a page: when its window is open, and what each write of LOCK_KEY makes of it (R45, R46). -/

namespace Sys2Proof.Machine

/-! ### The window -/

theorem openIn_open {c r w : Nat} (h : w + 1 ≤ c) (h' : c ≤ w + 256) : openIn c (some (r, w)) = some (r, 257 - (c - w)) :=
  if_pos (by omega)

theorem openIn_shut {c r w : Nat} (h : c ≤ w ∨ w + 257 ≤ c) : openIn c (some (r, w)) = none := if_neg (by omega)

theorem openIn_for {c req : Nat} {x : Option (Nat × Nat)} :
    (∃ n, openIn c x = some (req, n)) ↔ ∃ w, x = some (req, w) ∧ w + 1 ≤ c ∧ c ≤ w + 256 := by
  match x with
  | none => simp [openIn]
  | some (r, w) =>
    by_cases h : w + 1 ≤ c ∧ c ≤ w + 256
    · rw [openIn_open h.1 h.2]
      refine ⟨fun ⟨_, he⟩ => ?_, fun ⟨_, he, _⟩ => ?_⟩
      · cases he
        exact ⟨w, rfl, h⟩
      · cases he
        exact ⟨_, rfl⟩
    · rw [openIn_shut (by omega)]
      simp only [reduceCtorEq, exists_false, false_iff]
      rintro ⟨w', he, hin⟩
      cases he
      exact h hin

section
variable {s : State} {p : Page} {r w : Nat}

theorem State.window_of_none (h : (s.lockSt p.base).win = none) : s.window p = none := by
  simp only [State.window, h]

/-- Up to cycle W the window that stood before counts. -/
theorem State.window_before (h : (s.lockSt p.base).win = some (r, w)) (hc : s.cycle p.island ≤ w) :
    s.window p = openIn (s.cycle p.island) (s.lockSt p.base).was := by
  simp only [State.window, h, hc, if_true]

theorem State.window_after (h : (s.lockSt p.base).win = some (r, w)) (hc : w < s.cycle p.island) :
    s.window p = openIn (s.cycle p.island) (some (r, w)) := by
  simp only [State.window, h, Nat.not_le.mpr hc, if_false]

theorem State.lockOpen_iff {req : Nat} : s.lockOpen p req = true ↔ ∃ n, s.window p = some (req, n) := by
  unfold State.lockOpen
  cases s.window p with
  | none => simp
  | some x => simp [Prod.ext_iff]

theorem State.remain_eq {n : Nat} (h : s.window p = some (r, n)) : s.remain p = n := by simp only [State.remain, h]

theorem State.remain_zero (h : s.window p = none) : s.remain p = 0 := by simp only [State.remain, h]

end

/-- Settles O20: by the cycle in which the last second write fell, at or before which the earlier window counts. -/
theorem lockWindow : Obligations.LockWindow := by
  unfold Obligations.LockWindow
  intro s p req
  refine ⟨?_, fun r w k hw hc h1 h2 => ?_, fun r w hw hc => ?_, fun r w r' w' k hw hc hwas hk h1 h2 => ?_, fun r w hw hc hwas => ?_⟩
  · rw [State.lockOpen_iff]
    match hw : (s.lockSt p.base).win with
    | none => simp [State.window_of_none hw]
    | some (r, w) =>
      by_cases hc : s.cycle p.island ≤ w
      · rw [State.window_before hw hc, openIn_for]
        refine ⟨fun h => .inr ⟨⟨r, w, rfl, hc⟩, h⟩, fun h => h.elim ?_ And.right⟩
        rintro ⟨w', he, hlo, -⟩
        simp only [Option.some.injEq, Prod.mk.injEq] at he
        omega
      · rw [State.window_after hw (Nat.not_le.mp hc), openIn_for]
        refine ⟨.inl, fun h => h.elim id ?_⟩
        rintro ⟨⟨r', w', he, hle⟩, -⟩
        simp only [Option.some.injEq, Prod.mk.injEq] at he
        omega
  · rw [State.remain_eq ((State.window_after hw (by omega)).trans (openIn_open (by omega) (by omega)))]
    omega
  · exact State.remain_zero ((State.window_after hw (by omega)).trans (openIn_shut (.inr hc)))
  · rw [State.remain_eq ((State.window_before hw hc).trans (hwas.symm ▸ openIn_open (by omega) (by omega)))]
    omega
  · exact State.remain_zero ((State.window_before hw hc).trans (by rw [hwas]; rfl))

/-! ### Writes of LOCK_KEY -/

/-- The lock of a page becomes `x`. -/
def State.lockBecomes (s : State) (p : Page) (x : LockSt) : State := { s with bus.locks := SMap.put s.bus.locks p.base x }

/-- What a write records where the sequence in progress is another requester's (R46). -/
def State.seqErr (s : State) (p : Page) (req : Nat) : Nat :=
  match (s.lockSt p.base).seq with
  | some (r, _) => if r != req then causeKEY_SEQ else 0
  | none => 0

section
variable {s : State} {p : Page}

theorem State.seqErr_other {req r f : Nat} (h : (s.lockSt p.base).seq = some (r, f)) (hr : r ≠ req) : s.seqErr p req = causeKEY_SEQ := by
  simp [State.seqErr, h, hr]

theorem State.seqErr_none {req : Nat} (h : ¬∃ r f, (s.lockSt p.base).seq = some (r, f) ∧ r ≠ req) : s.seqErr p req = 0 := by
  unfold State.seqErr
  split
  · next r f hs => exact if_neg fun hr => h ⟨r, f, hs, by simpa using hr⟩
  · rfl

variable {w : Wr}

theorem State.wLockKey_zero (hk : bits w.v 0 16 = 0) : s.wLockKey p w = (s.lockBecomes p {}, s.seqErr p w.req) := by
  unfold State.wLockKey State.seqErr
  cases hs : (s.lockSt p.base).seq <;> simp [hk, hs, State.lockBecomes]

/-- The first write of a sequence. -/
theorem State.wLockKey_first (hk : bits w.v 0 16 = 0xA5C3) :
    s.wLockKey p w = (s.lockBecomes p { s.lockSt p.base with seq := some (w.req, s.cycle p.island) }, s.seqErr p w.req) := by
  unfold State.wLockKey State.seqErr
  cases hs : (s.lockSt p.base).seq <;> simp [hk, hs, State.lockBecomes]

/-- The window that counts in cycle `c`, in which a second write comes: up to cycle W of the last one opened, the one before it (R45). -/
def LockSt.standing (l : LockSt) (c : Nat) : Option (Nat × Nat) :=
  match l.win with
  | some (_, w) => if c ≤ w then l.was else l.win
  | none => none

/-- A second write in time. -/
theorem State.wLockKey_second {f : Nat} (hk : bits w.v 0 16 = 0x3C5A) (hf : (s.lockSt p.base).seq = some (w.req, f))
    (hc : s.cycle p.island ≤ f + 256) :
    s.wLockKey p w = (s.lockBecomes p ⟨none, some (w.req, max (s.cycle p.island) (f + 1)), (s.lockSt p.base).standing (s.cycle p.island)⟩, 0) := by
  have hmax : max (s.cycle p.island) (f + 1) ≤ f + 256 := by omega
  unfold State.wLockKey LockSt.standing
  cases hw : (s.lockSt p.base).win <;> simp [hk, hf, hmax, hw, State.lockBecomes]

/-- A second write that comes late, or without a first one of its requester. -/
theorem State.wLockKey_refused (hk : bits w.v 0 16 = 0x3C5A)
    (hf : ∀ f, (s.lockSt p.base).seq = some (w.req, f) → f + 256 < s.cycle p.island) :
    s.wLockKey p w = (s.lockBecomes p { s.lockSt p.base with seq := none }, causeKEY_SEQ) := by
  unfold State.wLockKey
  match hs : (s.lockSt p.base).seq with
  | none => simp [hk, hs, State.lockBecomes]
  | some (r, f) =>
    by_cases hr : r = w.req
    · subst hr
      simp [hk, hs, Nat.not_le.mpr (hf f hs), State.lockBecomes]
    · simp [hk, hs, hr, State.lockBecomes]

/-- Any other value. -/
theorem State.wLockKey_stray (h0 : bits w.v 0 16 ≠ 0) (h1 : bits w.v 0 16 ≠ 0xA5C3) (h2 : bits w.v 0 16 ≠ 0x3C5A) :
    s.wLockKey p w = (s.lockBecomes p { s.lockSt p.base with seq := none }, causeKEY_SEQ) := by
  simp only [State.wLockKey, h0, h1, h2, if_false]
  rfl

/-- A word that reaches LOCK_KEY is a write of the key. -/
theorem lockKeyWrite_reaches {req addr key : Nat} {u : State} {cause : Nat}
    (h : s.Reaches p 0x24 ⟨req, addr - addr % 0x1000 + 0x024, 4, true, key⟩) (hk : key < 2 ^ 16) (hst : s.unstaged p)
    (hw : s.wLockKey p (s.wrOf p req key) = (u, cause)) (hc : cause ≠ causePRIV) :
    exec (.lockKeyWrite req addr key) s =
      .next ((u.afterWrite p).finish p cause ⟨req, addr - addr % 0x1000 + 0x024, 4, true, key⟩ 0) := by
  have hword : s.writeWord p 0x24 (s.wrOf p req key) = (u, cause) := by
    simp [State.writeWord, State.writeAlone, State.wHeader, State.wordUnder, State.noteWord, orderOf, hw]
  exact congrArg Host.Outcome.next (State.busWrite_finish h (by omega) (by decide) hst (by omega) hword hc)

end

theorem State.seqErr_ne_priv (s : State) (p : Page) (req : Nat) : s.seqErr p req ≠ causePRIV := by
  unfold State.seqErr
  split
  · split <;> decide
  · decide

/-- Settles O19: each value of the key has its own law, and a window that has run out is cleared. -/
theorem lockSequence : Obligations.LockSequence := by
  unfold Obligations.LockSequence
  refine ⟨?_, fun s addr off r w p ht hw hc => ?_⟩
  · intro s p req addr key wr c l becomes others h hk hst
    have hv : bits (s.wrOf p req key).v 0 16 = key := by
      simp only [State.wrOf, bits, Nat.pow_zero, Nat.div_one, Nat.mod_eq_of_lt hk]
    have hset : ∀ (x : LockSt) (cause : Nat), cause ≠ causePRIV → s.wLockKey p (s.wrOf p req key) = (s.lockBecomes p x, cause) →
        becomes x cause := fun x cause hc hw => lockKeyWrite_reaches h hk hst hw hc
    have hseq : ∀ x : LockSt, s.wLockKey p (s.wrOf p req key) = (s.lockBecomes p x, s.seqErr p req) →
        (¬others → becomes x 0) ∧ (others → becomes x 0x07) := by
      intro x hx
      have hb := hset x _ (s.seqErr_ne_priv p req) hx
      refine ⟨fun ho => State.seqErr_none ho ▸ hb, ?_⟩
      rintro ⟨r, f, hs, hr⟩
      rwa [State.seqErr_other hs hr] at hb
    refine ⟨?_, ?_, ?_, ?_⟩
    · intro he
      exact hseq _ (State.wLockKey_first (hv.trans he))
    · intro he
      refine ⟨fun f hf hin => ?_, fun f hf hlate => ?_, fun hf => ?_⟩
      · refine ⟨_, hset _ 0 (by decide) (State.wLockKey_second (hv.trans he) hf hin), fun r w hw hlt => ?_⟩
        rw [LockSt.standing, hw]
        exact if_neg (Nat.not_le.mpr hlt)
      · refine hset _ _ (by decide) (State.wLockKey_refused (hv.trans he) fun g hg => ?_)
        cases hf.symm.trans hg
        exact hlate
      · exact hset _ _ (by decide) (State.wLockKey_refused (hv.trans he) fun g hg => absurd hg (hf g))
    · intro he
      exact hseq _ (State.wLockKey_zero (hv.trans he))
    · intro h1 h2 h0
      rw [← hv] at h0 h1 h2
      exact hset _ _ (by decide) (State.wLockKey_stray h0 h1 h2)
  · show Host.Outcome.next _ = Host.Outcome.next _
    simp only [ht, hw, hc, if_true]

end Sys2Proof.Machine
end

section
/-! SUPPORT. Error records: what an arrival leaves of them, what a filled record shows, and how one is emptied (R51, R52). -/

namespace Sys2Proof.Machine

/-! ### Other fields of a page -/

theorem State.getF_setFlag_fld (s : State) {b : Nat} {f f' : Fld} (v : Bool) (h : 64 * f'.off + f'.lo ≠ 64 * f.off + f.lo) :
    (s.setFlag b f v).getF b f' = s.getF b f' := State.getF_setF_fld (s.noteSet b f v.toNat) _ h

theorem State.flag_setFlag_fld (s : State) {b : Nat} {f f' : Fld} (v : Bool) (h : 64 * f'.off + f'.lo ≠ 64 * f.off + f.lo) :
    (s.setFlag b f v).flag b f' = s.flag b f' := congrArg (· == 1) (s.getF_setFlag_fld v h)

theorem State.flag_setF_fld (s : State) {b : Nat} {f f' : Fld} (v : Nat) (h : 64 * f'.off + f'.lo ≠ 64 * f.off + f.lo) :
    (s.setF b f v).flag b f' = s.flag b f' := congrArg (· == 1) (s.getF_setF_fld v h)

/-! ### What an arrival leaves of the records -/

/-- A field outside the two words of the error record. -/
structure Fld.OffRecord (f : Fld) : Prop where
  page : f.off < 0x1000
  word : f.lo < 64
  apart : f.off < 0x28 ∨ 0x30 ≤ f.off

/-- The error record of every page reads in `t` as in `s`. -/
def RecordKept (s t : State) : Prop :=
  ∀ (b : Nat) (f : Fld), b % 0x1000 = 0 → 0x28 ≤ f.off → f.off < 0x30 → f.lo < 64 → t.getF b f = s.getF b f

theorem RecordKept.refl (s : State) : RecordKept s s := fun _ _ _ _ _ _ => rfl

section
variable {s u : State} (h : RecordKept s u) {b : Nat} (hb : b % 0x1000 = 0)
include h

theorem RecordKept.foldl {β : Type} {f : State → β → State} (hf : ∀ u x, RecordKept s u → RecordKept s (f u x)) (l : List β) :
    RecordKept s (l.foldl f u) := by
  induction l generalizing u with
  | nil => exact h
  | cons x l ih => exact ih (hf u x h)

theorem RecordKept.ite {v : State} (hv : RecordKept s v) {c : Prop} [Decidable c] : RecordKept s (if c then u else v) := by
  split
  · exact h
  · exact hv

theorem RecordKept.requestWake (i : Nat) : RecordKept s (u.requestWake i) := by
  unfold State.requestWake
  split <;> exact h

theorem RecordKept.cascadeWake (was : State) : RecordKept s (u.cascadeWake was) := by
  refine h.foldl (fun v g hv => ?_) _
  dsimp only
  split
  · exact hv.requestWake _
  · exact hv

include hb

theorem RecordKept.setF {f : Fld} (hf : f.OffRecord) (v : Nat) : RecordKept s (u.setF b f v) := by
  intro b' f' hb' hlo hhi hl
  obtain ⟨hpage, hword, hapart⟩ := hf
  rw [State.getF_setF_ne u v (by simp only [fkey]; omega)]
  exact h b' f' hb' hlo hhi hl

theorem RecordKept.incF {f : Fld} (hf : f.OffRecord) (n : Nat) : RecordKept s (u.incF b f n) :=
  RecordKept.setF (u := u.noteInc b f n) h hb hf _

theorem RecordKept.satF {f : Fld} (hf : f.OffRecord) (n : Nat) : RecordKept s (u.satF b f n) :=
  RecordKept.setF (u := u.noteInc b f n) h hb hf _

theorem RecordKept.setFbit {f : Fld} (hf : f.OffRecord) (i : Nat) (v : Bool) : RecordKept s (u.setFbit b f i v) :=
  RecordKept.setF (u := u.noteSet b f _) h hb hf _

theorem RecordKept.countArrivals {arriv satlost cnt satw : Fld} (ha : arriv.OffRecord) (hl : satlost.OffRecord) (hc : cnt.OffRecord)
    (hw : satw.OffRecord) (i n : Nat) : RecordKept s (u.countArrivals b arriv satlost cnt satw i n).1 := by
  have hcnt := (h.incF hb ha n).setF hb hc (min 255 (u.getF b cnt + n))
  unfold State.countArrivals
  dsimp only
  split
  · exact hcnt
  · exact (hcnt.setFbit hb hw i true).incF hb hl _

end

theorem pgINTC_aligned (t : Nat) : pgINTC t % 0x1000 = 0 := by
  unfold pgINTC tileBase
  omega

section
variable {s u : State} (h : RecordKept s u)
include h

theorem RecordKept.enterIntc {l : Nat} (hl : l < 512) (t n : Nat) : RecordKept s (u.enterIntc t l n).1 := by
  have hb := pgINTC_aligned t
  unfold State.enterIntc
  dsimp only
  split
  · generalize hv : State.setF _ _ _ _ = v
    have hv : RecordKept s v := by
      rw [← hv]
      exact RecordKept.setF (by exact h) hb ⟨by decide, by decide, by decide⟩ _
    have hw : ∀ k, RecordKept s (if n ≤ k then v else v.satF (pgINTC t) F.INTC_WAKE_WAITS (n - k)) := fun k =>
      hv.ite (hv.satF hb ⟨by decide, by decide, by decide⟩ _)
    exact RecordKept.ite ((hw _).requestWake _) (hw _)
  · refine RecordKept.countArrivals (u := u.noteFresh t l n) h hb ⟨by decide, by decide, by decide⟩ ⟨by decide, by decide, by decide⟩
      ⟨?_, ?_, .inr ?_⟩ ⟨?_, ?_, .inr ?_⟩ _ _ <;> simp only [F.intcCount, F.INTC_SAT_SAT] <;> omega

theorem RecordKept.arriveOnce {src : Nat} (hs : src < 21504) (n : Nat) : RecordKept s (u.arriveOnce src n).1 := by
  have hl : src % 512 < 512 := Nat.mod_lt _ (by decide)
  unfold State.arriveOnce
  dsimp only
  split
  · split
    · exact h
    · split
      · split
        · exact h
        · exact h.enterIntc hl _ n
      · exact h.enterIntc hl _ n
  · dsimp only
    refine RecordKept.cascadeWake ?_ _
    refine h.countArrivals (by decide) ⟨by decide, by decide, by decide⟩ ⟨by decide, by decide, by decide⟩
      ⟨?_, ?_, .inr ?_⟩ ⟨?_, ?_, .inr ?_⟩ _ _ <;> simp only [F.dintcCount, F.DINTC_SAT_SAT] <;> omega

end

/-- The page whose IRQ_RAW an arrival pulses is that of a controller, and its summary is again a source of one. -/
theorem State.arriveOnce_page (s : State) {src : Nat} (hs : src < 21504) (n : Nat) (h : (s.arriveOnce src n).2.2 ≠ 0) :
    (s.arriveOnce src n).2.1 % 0x1000 = 0 ∧ summarySrc (s.arriveOnce src n).2.1 < 21504 := by
  have hintc : src < 20480 → pgINTC (src / 512) % 0x1000 = 0 ∧ summarySrc (pgINTC (src / 512)) < 21504 := by
    intro hlt
    refine ⟨pgINTC_aligned _, ?_⟩
    unfold summarySrc pgINTC tileBase
    rw [if_neg (by omega), if_neg (by omega)]
    omega
  revert h
  unfold State.arriveOnce
  dsimp only
  split
  · next hlt =>
    split
    · exact fun h => absurd rfl h
    · split
      · split
        · exact fun h => absurd rfl h
        · exact fun _ => hintc hlt
      · exact fun _ => hintc hlt
  · exact fun _ => show pgDINTC % 0x1000 = 0 ∧ summarySrc pgDINTC < 21504 from by decide

section
variable {s : State}

theorem RecordKept.arriveF {src : Nat} (hs : src < 21504) (fuel n : Nat) {u : State} (h : RecordKept s u) :
    RecordKept s (State.arriveF fuel u src n) := by
  induction fuel generalizing u src n with
  | zero => exact h
  | succ k ih =>
    have honce := h.arriveOnce hs n
    unfold State.arriveF
    split
    · exact h
    · dsimp only
      split
      · exact honce
      · next hsat =>
        obtain ⟨hb, hsrc⟩ := u.arriveOnce_page hs n hsat
        split
        · refine ih hsrc 1 (RecordKept.setFbit ?_ hb ⟨by decide, by decide, by decide⟩ 0 true)
          exact honce
        · exact honce

theorem RecordKept.occur {u : State} (h : RecordKept s u) {b : Nat} (hb : b % 0x1000 = 0) (hs : summarySrc b < 21504) (i n : Nat) :
    RecordKept s (u.occur b i n) := by
  unfold State.occur
  split
  · exact h
  · split
    · exact RecordKept.arriveF hs 3 n (h.setFbit hb ⟨by decide, by decide, by decide⟩ i true)
    · exact h

end

/-! ### A record filled -/

/-- The error record of the page at `base` shows the error of access `a` (R51). -/
def State.ErrShows (t : State) (base cause : Nat) (a : Access) : Prop :=
  t.getF base F.HDR_ERR_CAUSE = cause ∧ t.flag base F.HDR_ERR_WRITE = a.write ∧ t.getF base F.HDR_ERR_SIZE = sizeCode a.size ∧
    t.getF base F.HDR_ERR_REQ = a.req ∧ t.getF base F.HDR_ERR_ADDR + 2 ^ 32 * t.getF base F.HDR_ERR_ADDR_HI = a.addr % 2 ^ 40

theorem State.fillErr_shows (s : State) (base : Nat) {cause : Nat} {a : Access} (hc : cause < 64) (hr : a.req < 4096) :
    (s.fillErr base cause a).ErrShows base cause a := by
  have hz : sizeCode a.size < 4 := by
    unfold sizeCode
    split
    · decide
    · split <;> decide
  unfold State.ErrShows State.fillErr
  simp (disch := decide) only [State.getF_setF_fld, State.getF_setFlag_fld, State.flag_setF_fld, State.flag_setFlag_fld,
    State.getF_setF, State.flag_setFlag]
  simp only [F.HDR_ERR_CAUSE, F.HDR_ERR_SIZE, F.HDR_ERR_REQ, F.HDR_ERR_ADDR, F.HDR_ERR_ADDR_HI]
  refine ⟨Nat.mod_eq_of_lt hc, trivial, Nat.mod_eq_of_lt hz, Nat.mod_eq_of_lt hr, by omega⟩

/-- Filling a record leaves VALID and OVF. -/
theorem State.fillErr_flag (s : State) (base cause : Nat) (a : Access) {f : Fld} (hf : f = F.HDR_ERR_VALID ∨ f = F.HDR_ERR_OVF) :
    (s.fillErr base cause a).flag base f = s.flag base f := by
  rcases hf with rfl | rfl <;> simp (disch := decide) only [State.fillErr, State.flag_setF_fld, State.flag_setFlag_fld]

theorem RecordKept.flag {s t : State} (h : RecordKept s t) {base : Nat} (hb : base % 0x1000 = 0) {f : Fld} (hlo : 0x28 ≤ f.off)
    (hhi : f.off < 0x30) (hl : f.lo < 64) : t.flag base f = s.flag base f := congrArg (· == 1) (h base f hb hlo hhi hl)

theorem RecordKept.errShows {s t : State} (h : RecordKept s t) {base cause : Nat} {a : Access} (hb : base % 0x1000 = 0)
    (hs : s.ErrShows base cause a) : t.ErrShows base cause a := by
  obtain ⟨hcause, hwrite, hsize, hreq, haddr⟩ := hs
  refine ⟨(h _ _ hb ?_ ?_ ?_).trans hcause, (h.flag hb ?_ ?_ ?_).trans hwrite, (h _ _ hb ?_ ?_ ?_).trans hsize,
    (h _ _ hb ?_ ?_ ?_).trans hreq, ?_⟩
  case refine_13 =>
    rw [h _ F.HDR_ERR_ADDR hb (by decide) (by decide) (by decide), h _ F.HDR_ERR_ADDR_HI hb (by decide) (by decide) (by decide)]
    exact haddr
  all_goals decide

/-! ### An error recorded -/

section
variable {s : State} {base cause : Nat} {a : Access}

/-- An error fills an empty record. -/
theorem State.recordErr_fills (h : s.flag base F.HDR_ERR_VALID = false) (hb : base % 0x1000 = 0) (hs : summarySrc base < 21504)
    (hc : cause < 64) (hr : a.req < 4096) :
    (s.recordErr base cause a).flag base F.HDR_ERR_VALID = true ∧ (s.recordErr base cause a).flag base F.HDR_ERR_OVF = false ∧
      (s.recordErr base cause a).ErrShows base cause a := by
  generalize he : s.recordErr base cause a = t
  simp only [State.recordErr, h, Bool.false_eq_true, if_false] at he
  generalize hv : State.fillErr _ base cause a = v at he
  have hkept : RecordKept v t := he ▸ (RecordKept.refl v).occur hb hs 31 1
  rw [hkept.flag hb (by decide) (by decide) (by decide), hkept.flag hb (by decide) (by decide) (by decide), ← hv,
    State.fillErr_flag _ _ _ _ (.inl rfl), State.fillErr_flag _ _ _ _ (.inr rfl)]
  refine ⟨?_, State.flag_setFlag _ _ _ _ rfl, hkept.errShows hb (hv ▸ State.fillErr_shows _ base hc hr)⟩
  rw [State.flag_setFlag_fld _ _ (by decide), State.flag_setFlag _ _ _ _ rfl]

theorem State.errWith_of_none (h : s.errNow base = none) :
    s.errWith base cause a = ⟨s.pageCycle base, cause, a, !s.flag base F.HDR_ERR_VALID⟩ := by
  simp only [State.errWith, h]

/-- Of the errors of one cycle that of the lowest requester stands. -/
theorem State.errWith_of_some {e : ErrSt} (h : s.errNow base = some e) :
    s.errWith base cause a = if a.req < e.acc.req then { e with cause := cause, acc := a } else e := by
  simp only [State.errWith, h]

/-- A further error leaves the record of an earlier cycle. -/
theorem State.recordErr_keeps (h : s.flag base F.HDR_ERR_VALID = true) (hn : s.errNow base = none) :
    s.recordErr base cause a =
      ({ s with bus.errs := SMap.put s.bus.errs base ⟨s.pageCycle base, cause, a, false⟩ } : State).setFlag base F.HDR_ERR_OVF true := by
  simp [State.recordErr, State.errWith_of_none hn, h]

/-- A further error of the cycle that filled the record. -/
theorem State.recordErr_again {e : ErrSt} (h : s.flag base F.HDR_ERR_VALID = true) (he : s.errWith base cause a = e)
    (hf : e.fills = true) (hc : e.cause < 64) (hr : e.acc.req < 4096) :
    (s.recordErr base cause a).flag base F.HDR_ERR_VALID = true ∧ (s.recordErr base cause a).flag base F.HDR_ERR_OVF = true ∧
      (s.recordErr base cause a).ErrShows base e.cause e.acc := by
  simp only [State.recordErr, he, h, hf, if_true]
  refine ⟨?_, ?_, State.fillErr_shows _ base hc hr⟩
  · rw [State.fillErr_flag _ _ _ _ (.inl rfl), State.flag_setFlag_fld _ _ (by decide)]
    exact h
  · rw [State.fillErr_flag _ _ _ _ (.inr rfl)]
    exact State.flag_setFlag _ _ _ _ rfl

/-! ### A record emptied -/

/-- A W1C of VALID without a new error. -/
theorem State.clearErr_empties (h : s.errNow base = none) :
    (s.clearErr base).flag base F.HDR_ERR_VALID = false ∧ (s.clearErr base).flag base F.HDR_ERR_OVF = false := by
  simp only [State.clearErr, h]
  refine ⟨?_, State.flag_setFlag _ _ _ _ rfl⟩
  rw [State.flag_setFlag_fld _ _ (by decide), State.flag_setFlag _ _ _ _ rfl]

/-- A W1C of VALID in the cycle of a new error. -/
theorem State.clearErr_refills {e : ErrSt} (h : s.errNow base = some e) (hv : s.flag base F.HDR_ERR_VALID = true) (hc : e.cause < 64)
    (hr : e.acc.req < 4096) :
    (s.clearErr base).flag base F.HDR_ERR_VALID = true ∧ (s.clearErr base).flag base F.HDR_ERR_OVF = false ∧
      (s.clearErr base).ErrShows base e.cause e.acc := by
  simp only [State.clearErr, h]
  refine ⟨?_, ?_, State.fillErr_shows _ base hc hr⟩
  · rw [State.fillErr_flag _ _ _ _ (.inl rfl), State.flag_setFlag_fld _ _ (by decide)]
    exact hv
  · rw [State.fillErr_flag _ _ _ _ (.inr rfl)]
    exact State.flag_setFlag _ _ _ _ rfl

end

/-- A write of ERR_INFO with VALID. -/
theorem errInfoWrite_clears {s : State} {p : Page} {req data : Nat} (hb : p.base % 0x1000 = 0) (hst : s.unstaged p)
    (hd : bit data 0 = true) (h : s.Writes p 0x28 req data) :
    exec (.registerWrite req (p.base + 0x28) 4 data) s = .next ((s.clearErr p.base).wrote p 0x28 req data) := by
  obtain ⟨hreach, hlt, -⟩ := h
  have hword : s.writeWord p 0x28 (s.wrOf p req data) = (s.clearErr p.base, 0) := by
    simp [State.writeWord, State.writeAlone, State.wHeader, State.wordUnder, State.noteWord, orderOf, State.wrOf, hd]
  have hnote : (s.clearErr p.base).noteWord p 0x28 4 req = s.clearErr p.base := by
    simp [State.noteWord, orderOf]
  rw [State.wrote, hnote]
  exact congrArg Host.Outcome.next (State.busWrite_finish hreach (by omega) (by decide) hst hlt hword (by decide))

/-- Settles O21: by whether the record is empty, was filled in an earlier cycle, or in this one. -/
theorem errorRecord : Obligations.ErrorRecord := by
  unfold Obligations.ErrorRecord
  refine ⟨fun s base cause a hb hs hc hr ha => ⟨fun h => ?_, fun h hn => ?_, fun e h he hf hec her hea => ?_⟩,
    fun s p req data hb hst hd h => ⟨errInfoWrite_clears hb hst hd h, fun hn => State.clearErr_empties hn, fun e he hv hc hr => ?_⟩⟩
  · exact State.recordErr_fills h hb hs hc hr
  · exact State.recordErr_keeps h hn
  · have hwith := State.errWith_of_some (cause := cause) (a := a) he
    by_cases hlow : a.req < e.acc.req
    · rw [if_pos hlow] at hwith
      obtain ⟨hvalid, hovf, hshows⟩ := State.recordErr_again h hwith hf hc hr
      exact ⟨hvalid, hovf, fun _ => hshows, fun hle => absurd hlow (Nat.not_lt.mpr hle)⟩
    · rw [if_neg hlow] at hwith
      obtain ⟨hvalid, hovf, hshows⟩ := State.recordErr_again h hwith hf hec her
      exact ⟨hvalid, hovf, fun hlt => absurd hlt hlow, fun _ => hshows⟩
  · obtain ⟨hvalid, hovf, hcause, -, -, hreq, -⟩ := State.clearErr_refills he hv hc hr
    exact ⟨hvalid, hovf, hcause, hreq⟩

end Sys2Proof.Machine
end

section
/-! SUPPORT. Timers: their matches in each mode, the writes of their counts and compares, and their start inputs (R63 to R66). -/

namespace Sys2Proof.Machine

/-! ### Matches -/

@[simp] theorem State.incF_tick (s : State) (b : Nat) (f : Fld) (n : Nat) : (s.incF b f n).tick = s.tick := rfl

section
variable {s : State} {t n : Nat}

/-- Advances from the count `val` to a match at `cmp`; `zeroNext` tells that the first advance gives 0. -/
def matchUp (zeroNext : Bool) (val cmp : Nat) : Nat :=
  if zeroNext then cmp + 1 else if val < cmp then cmp - val else 2 ^ 64 - val + cmp

/-- Where a match without a catch-up is due, the count rises to CMP, in PERIODIC mode through the wrap as well. -/
theorem State.timerUp_due (h : s.timerDue t n = true) (hc : (s.timer t n).catchup = false)
    (hm : s.getF (pgTIMR t) (F.TMR_CTRL_MODE n) ≠ 3) :
    timerUp (s.timer t n) (s.getF (pgTIMR t) (F.TMR_CTRL_MODE n)) (s.getF (pgTIMR t) (F.TMR_CMP_CMP n)) =
      some (matchUp (s.timer t n).zeroNext (s.timer t n).val (s.getF (pgTIMR t) (F.TMR_CMP_CMP n))) := by
  have hsome : (timerUp (s.timer t n) (s.getF (pgTIMR t) (F.TMR_CTRL_MODE n)) (s.getF (pgTIMR t) (F.TMR_CMP_CMP n))).isSome = true := by
    revert h
    unfold State.timerDue
    simp only [hm, if_false]
    split
    · next hu => simp [hu]
    · simp
  revert hsome
  unfold timerUp matchUp
  rw [hc]
  split_ifs <;> simp_all

theorem timerMatch_due {u : State} (h : s.timerDue t n = true) (hu : s.timerMatch t n = u) : exec (.timerMatch t n) s = .next u :=
  congrArg Host.Outcome.next ((if_pos h).trans hu)

/-- A match of a FREE or PERIODIC timer. -/
theorem State.timerMatch_runs {m : Nat} (h : s.timerDue t n = true) (hc : (s.timer t n).catchup = false)
    (hm : s.getF (pgTIMR t) (F.TMR_CTRL_MODE n) = m) (hmode : m = 0 ∨ m = 2) :
    s.timerMatch t n = ((s.incF (pgTIMR t) (F.TMR_MATCH_MATCH_CNT n)).setTimer t n { s.timer t n with
      val := s.getF (pgTIMR t) (F.TMR_CMP_CMP n)
      ph := 0
      at_ := (s.timer t n).at_ + (matchUp (s.timer t n).zeroNext (s.timer t n).val (s.getF (pgTIMR t) (F.TMR_CMP_CMP n)) *
        (s.getF (pgTIMR t) (F.TMR_CTRL_PRE n) + 1) - (s.timer t n).phase (s.getF (pgTIMR t) (F.TMR_CTRL_PRE n)))
      zeroNext := m == 2
      catchup := false }).timerEvent t n := by
  have hup := State.timerUp_due h hc (by omega)
  unfold State.timerMatch
  rw [hm] at hup
  rcases hmode with rfl | rfl <;> simp [hm, hc, hup]

/-- A match of a ONESHOT timer: with PRE = 0 the count that it keeps may be one higher. -/
theorem State.timerMatch_oneshot (hc : (s.timer t n).catchup = false) (hm : s.getF (pgTIMR t) (F.TMR_CTRL_MODE n) = 1) :
    ∃ k ≤ 1, (s.getF (pgTIMR t) (F.TMR_CTRL_PRE n) ≠ 0 → k = 0) ∧ s.timerMatch t n =
      (((({ s with free := s.free + (if s.getF (pgTIMR t) (F.TMR_CTRL_PRE n) = 0 then 1 else 0) } : State).incF (pgTIMR t)
        (F.TMR_MATCH_MATCH_CNT n)).setTimer t n { s.timer t n with
          val := s.getF (pgTIMR t) (F.TMR_CMP_CMP n) + k
          ph := 0
          at_ := s.tick
          zeroNext := false
          catchup := false }).timerStops t n).timerEvent t n := by
  by_cases hp : s.getF (pgTIMR t) (F.TMR_CTRL_PRE n) = 0
  · refine ⟨(s.draw 1).1, Nat.le_of_lt_succ (Nat.mod_lt _ (by decide)), fun h => absurd hp h, ?_⟩
    simp [State.timerMatch, hm, hc, hp, State.draw]
  · refine ⟨0, Nat.zero_le 1, fun _ => rfl, ?_⟩
    simp [State.timerMatch, hm, hc, hp]

/-- A match of an ABS timer. -/
theorem State.timerMatch_abs (hc : (s.timer t n).catchup = false) (hm : s.getF (pgTIMR t) (F.TMR_CTRL_MODE n) = 3) :
    s.timerMatch t n = ((s.incF (pgTIMR t) (F.TMR_MATCH_MATCH_CNT n)).setTimer t n { s.timer t n with
      done := true, catchup := false, at_ := s.tick }).timerEvent t n := by
  simp [State.timerMatch, hm, hc]

/-! ### The end of a ONESHOT timer (R41, R63) -/

theorem State.timerStops_clears (h : s.softBy (pgTIMR t) (F.TMR_CTRL_EN n) = none) :
    (s.timerStops t n).flag (pgTIMR t) (F.TMR_CTRL_EN n) = false ∧ (s.timerStops t n).flag (pgTIMR t) (F.TMR_STAT_RUN n) = false := by
  have hstop : s.timerStops t n =
      (s.setFlag (pgTIMR t) (F.TMR_CTRL_EN n) false).setFlag (pgTIMR t) (F.TMR_STAT_RUN n) false :=
    if_neg (by simp [State.timerHeldEn, h])
  rw [hstop]
  refine ⟨?_, State.flag_setFlag _ _ _ _ rfl⟩
  rw [State.flag_setFlag_fld _ _ (by simp only [F.TMR_CTRL_EN, F.TMR_STAT_RUN]; omega), State.flag_setFlag _ _ _ _ rfl]

theorem State.timerStops_held (h : s.softBy (pgTIMR t) (F.TMR_CTRL_EN n) ≠ none) : s.timerStops t n = s :=
  if_pos (by simpa [State.timerHeldEn, Option.isSome_iff_ne_none] using h)

/-- It leaves the page's other fields and the timers. -/
theorem State.timerStops_getF (s : State) (t n : Nat) {f : Fld} (hen : 64 * f.off + f.lo ≠ 64 * (F.TMR_CTRL_EN n).off + (F.TMR_CTRL_EN n).lo)
    (hrun : 64 * f.off + f.lo ≠ 64 * (F.TMR_STAT_RUN n).off + (F.TMR_STAT_RUN n).lo) :
    (s.timerStops t n).getF (pgTIMR t) f = s.getF (pgTIMR t) f := by
  unfold State.timerStops
  split
  · rfl
  · rw [State.getF_setFlag_fld _ _ hrun, State.getF_setFlag_fld _ _ hen]

theorem State.timerStops_timer (s : State) (t n : Nat) : (s.timerStops t n).timer t n = s.timer t n := by
  unfold State.timerStops
  split <;> rfl

end

/-! ### A match that is a catch-up (R64) -/

/-- The match and the catch-up counted. -/
def State.timerCaught (s : State) (t n : Nat) : State :=
  (s.setFlag (pgTIMR t) (F.TMR_STAT_CATCHUP n) true).incF (pgTIMR t) (F.TMR_MATCH_MATCH_CNT n)

section
variable {s : State} {t n : Nat}

theorem State.timerCaught_shows (s : State) (t n : Nat) :
    (s.timerCaught t n).getF (pgTIMR t) (F.TMR_MATCH_MATCH_CNT n) = (s.getF (pgTIMR t) (F.TMR_MATCH_MATCH_CNT n) + 1) % 2 ^ 32 ∧
      (s.timerCaught t n).flag (pgTIMR t) (F.TMR_STAT_CATCHUP n) = true := by
  have hne : 64 * (F.TMR_MATCH_MATCH_CNT n).off + (F.TMR_MATCH_MATCH_CNT n).lo ≠
      64 * (F.TMR_STAT_CATCHUP n).off + (F.TMR_STAT_CATCHUP n).lo := by
    simp only [F.TMR_MATCH_MATCH_CNT, F.TMR_STAT_CATCHUP]
    omega
  unfold State.timerCaught State.incF
  refine ⟨?_, ?_⟩
  · rw [State.getF_setF, State.getF_setFlag_fld _ _ hne]
    rfl
  · rw [State.flag_setF_fld _ _ hne.symm]
    exact State.flag_setFlag _ _ _ _ rfl

/-- A match that is a catch-up is counted, sets CATCHUP, and ends the catch-up. -/
theorem State.timerMatch_caught (hc : (s.timer t n).catchup = true) :
    ∃ u : State, s.timerMatch t n = u.timerEvent t n ∧
      u.getF (pgTIMR t) (F.TMR_MATCH_MATCH_CNT n) = (s.getF (pgTIMR t) (F.TMR_MATCH_MATCH_CNT n) + 1) % 2 ^ 32 ∧
      u.flag (pgTIMR t) (F.TMR_STAT_CATCHUP n) = true ∧ (u.timer t n).catchup = false := by
  generalize hd : (if s.getF (pgTIMR t) (F.TMR_CTRL_MODE n) = 1 ∧ s.getF (pgTIMR t) (F.TMR_CTRL_PRE n) = 0 then s.draw 1 else (0, s)) = d
  have hregs : ∀ f, d.2.getF (pgTIMR t) f = s.getF (pgTIMR t) f := by
    intro f
    rw [← hd]
    split <;> rfl
  obtain ⟨hcnt, hcaught⟩ := State.timerCaught_shows d.2 t n
  rw [hregs] at hcnt
  unfold State.timerMatch
  simp only [hd, hc, if_true]
  split
  · exact ⟨_, rfl, hcnt, hcaught, by simp⟩
  · split
    · refine ⟨_, rfl, ?_, ?_, by simp [State.timerStops_timer]⟩
      · rw [State.timerStops_getF _ _ _ (by simp only [F.TMR_MATCH_MATCH_CNT, F.TMR_CTRL_EN]; omega)
          (by simp only [F.TMR_MATCH_MATCH_CNT, F.TMR_STAT_RUN]; omega)]
        exact hcnt
      · rw [State.flag, State.timerStops_getF _ _ _ (by simp only [F.TMR_STAT_CATCHUP, F.TMR_CTRL_EN]; omega)
          (by simp only [F.TMR_STAT_CATCHUP, F.TMR_STAT_RUN]; omega)]
        exact hcaught
    · exact ⟨_, rfl, hcnt, hcaught, by simp⟩

end

/-! ### Writes of the count and the compare (R65, R66) -/

section
variable {s : State} {t n : Nat}

/-- The words of a timer's count and compare are registers. -/
theorem timrSlots (t : Nat) {n r : Nat} (hn : n < 16) (hr : r = 8 ∨ r = 0xC ∨ r = 0x10 ∨ r = 0x14) :
    ((pageTIMR t).slots (0x40 + r + 0x20 * n)).isSome = true := by
  rw [Page.slots_kind]
  rcases hr with rfl | rfl | rfl | rfl
  · exact all_below (m := 16) (f := fun n => ((⟨.timr, 0, 0, 0⟩ : Page).slots (0x48 + 0x20 * n)).isSome) rfl hn
  · exact all_below (m := 16) (f := fun n => ((⟨.timr, 0, 0, 0⟩ : Page).slots (0x4C + 0x20 * n)).isSome) rfl hn
  · exact all_below (m := 16) (f := fun n => ((⟨.timr, 0, 0, 0⟩ : Page).slots (0x50 + 0x20 * n)).isSome) rfl hn
  · exact all_below (m := 16) (f := fun n => ((⟨.timr, 0, 0, 0⟩ : Page).slots (0x54 + 0x20 * n)).isSome) rfl hn

/-- A write of one of these words, by what the page makes of it. -/
theorem State.Writes.timer {r req data cause addr : Nat} {u : State} (h : s.Writes (pageTIMR t) (0x40 + r + 0x20 * n) req data)
    (hn : n < 16) (hr : r = 8 ∨ r = 0xC ∨ r = 0x10 ∨ r = 0x14) (he : addr = pgTIMR t + (0x40 + r + 0x20 * n))
    (hw : s.writeBlock (pageTIMR t) (0x40 + r + 0x20 * n) (s.wrOf (pageTIMR t) req data) = (u, cause)) (hc : cause ≠ causePRIV) :
    s.busWrite req addr 4 data = u.wrote (pageTIMR t) (0x40 + r + 0x20 * n) req data cause := by
  have haddr : addr % 4 = 0 := by
    rw [he]
    unfold pgTIMR tileBase
    omega
  exact h.plain he haddr (by omega) (by omega) (timrSlots t hn hr) rfl hw hc

theorem State.writeBlock_timrCnt (w : Wr) (hi : Bool) :
    s.writeBlock (pageTIMR t) (0x40 + (if hi then 0xC else 8) + 0x20 * n) w = s.timerCntWrite t n hi w.size w.v := by
  cases hi
  · have hq : (0x40 + 8 + 0x20 * n - 0x40) / 0x20 = n := by omega
    have hr : (0x40 + 8 + 0x20 * n) % 0x20 = 8 := by omega
    simp [State.writeBlock, pageTIMR, hq, hr]
  · have hq : (0x40 + 0xC + 0x20 * n - 0x40) / 0x20 = n := by omega
    have hr : (0x40 + 0xC + 0x20 * n) % 0x20 = 0xC := by omega
    simp [State.writeBlock, pageTIMR, hq, hr]

theorem State.writeBlock_timrCmp (w : Wr) (hi : Bool) :
    s.writeBlock (pageTIMR t) (0x40 + (if hi then 0x14 else 0x10) + 0x20 * n) w = (s.timerCmpWrite t n hi w.size w.v, 0) := by
  cases hi
  · have hq : (0x40 + 0x10 + 0x20 * n - 0x40) / 0x20 = n := by omega
    have hr : (0x40 + 0x10 + 0x20 * n) % 0x20 = 0x10 := by omega
    simp [State.writeBlock, pageTIMR, hq, hr]
  · have hq : (0x40 + 0x14 + 0x20 * n - 0x40) / 0x20 = n := by omega
    have hr : (0x40 + 0x14 + 0x20 * n) % 0x20 = 0x14 := by omega
    simp [State.writeBlock, pageTIMR, hq, hr]

theorem timerCmpWrite_reaches {req data : Nat} {hi : Bool} (hn : n < 16)
    (h : s.Writes (pageTIMR t) (0x40 + (if hi then 0x14 else 0x10) + 0x20 * n) req data) :
    exec (.timerCmpWrite req t n hi 4 data) s =
      .next ((s.timerCmpWrite t n hi 4 data).wrote (pageTIMR t) (0x40 + (if hi then 0x14 else 0x10) + 0x20 * n) req data) :=
  congrArg Host.Outcome.next
    (h.timer hn (by cases hi <;> simp) (by cases hi <;> simp <;> omega) (State.writeBlock_timrCmp _ hi) (by decide))

theorem timerCntWrite_reaches {req data cause : Nat} {hi : Bool} {u : State} (hn : n < 16)
    (h : s.Writes (pageTIMR t) (0x40 + (if hi then 0xC else 8) + 0x20 * n) req data)
    (hw : s.timerCntWrite t n hi 4 data = (u, cause)) (hc : cause ≠ causePRIV) :
    exec (.timerCntWrite req t n hi 4 data) s =
      .next (u.wrote (pageTIMR t) (0x40 + (if hi then 0xC else 8) + 0x20 * n) req data cause) :=
  congrArg Host.Outcome.next
    (h.timer hn (by cases hi <;> simp) (by cases hi <;> simp <;> omega) ((State.writeBlock_timrCnt _ hi).trans hw) hc)

section
variable {v : Nat} (hv : v < 2 ^ 32)
include hv

theorem State.timerCmpWrite_lo : s.timerCmpWrite t n false 4 v = s.setTimer t n { s.timer t n with cmpLo := some v } := by
  simp [State.timerCmpWrite, Nat.mod_eq_of_lt (show v < 4294967296 from hv)]

theorem State.timerCmpWrite_hi : s.timerCmpWrite t n true 4 v = s.timerSetCmp t n
    (2 ^ 32 * v + (s.timer t n).cmpLo.getD (s.getF (pgTIMR t) (F.TMR_CMP_CMP n) % 2 ^ 32)) := by
  simp [State.timerCmpWrite, Nat.mod_eq_of_lt (show v < 4294967296 from hv)]

variable (hen : s.flag (pgTIMR t) (F.TMR_CTRL_EN n) = false)
include hen

theorem State.timerCntWrite_lo :
    s.timerCntWrite t n false 4 v = (s.setTimer t n { s.timer t n with cntLo := some v }, 0) := by
  simp [State.timerCntWrite, hen, Nat.mod_eq_of_lt (show v < 4294967296 from hv)]

theorem State.timerCntWrite_hi : s.timerCntWrite t n true 4 v =
    (s.timerSetCnt t n (2 ^ 32 * v + (s.timer t n).cntLo.getD ((s.timer t n).val % 2 ^ 32)), 0) := by
  simp [State.timerCntWrite, hen, Nat.mod_eq_of_lt (show v < 4294967296 from hv)]

end

/-- A running timer's count is not written (R66). -/
theorem State.timerCntWrite_running {hi : Bool} {size v : Nat} (h : s.flag (pgTIMR t) (F.TMR_CTRL_EN n) = true) :
    s.timerCntWrite t n hi size v = (s, 0x20) := if_pos h

/-- A new compare and a new count, read back. -/
theorem State.timerSet_shows (s : State) (t n : Nat) {v : Nat} (hv : v < 2 ^ 64) :
    (s.timerSetCmp t n v).getF (pgTIMR t) (F.TMR_CMP_CMP n) = v ∧
    ((s.timerSetCmp t n v).timer t n).catchup = decide (v ≤ s.timerRaw t n % 2 ^ 64) ∧
    ((s.timerSetCnt t n v).timer t n).val = v ∧ ((s.timerSetCnt t n v).timer t n).ph = 0 := by
  refine ⟨?_, ?_, ?_, ?_⟩
  · rw [State.timerSetCmp, State.getF_setTimer, State.getF_setF]
    exact Nat.mod_eq_of_lt hv
  · rw [State.timerSetCmp, State.timer_setTimer]
  · rw [State.timerSetCnt, State.timer_setTimer]
  · rw [State.timerSetCnt, State.timer_setTimer]

/-! ### The start input (R66) -/

theorem State.timerEnable_runs (s : State) (t n : Nat) :
    (s.timerEnable t n).flag (pgTIMR t) (F.TMR_CTRL_EN n) = true ∧ (s.timerEnable t n).flag (pgTIMR t) (F.TMR_STAT_RUN n) = true := by
  have hset : ∀ f, (s.timerEnable t n).flag (pgTIMR t) f =
      ((s.setFlag (pgTIMR t) (F.TMR_CTRL_EN n) true).setFlag (pgTIMR t) (F.TMR_STAT_RUN n) true).flag (pgTIMR t) f := fun _ => rfl
  rw [hset, hset, State.flag_setFlag_fld _ _ (by simp only [F.TMR_CTRL_EN, F.TMR_STAT_RUN]; omega)]
  exact ⟨State.flag_setFlag _ _ _ _ rfl, State.flag_setFlag _ _ _ _ rfl⟩

theorem timerStartEvent_input {k : Tok} {u : State} (h : s.headTok (lathTile t) (64 + n) = some k) (hu : s.timerInput t n = u) :
    exec (.timerStartEvent t n) s = .next u := by
  show execTimerStartEvent t n s = _
  simp only [execTimerStartEvent, h, hu]

theorem State.softBy_updLath (s : State) (l : Nat) (g : Lath → Lath) (b : Nat) (f : Fld) (part : Nat) :
    (s.updLath l g).softBy b f part = s.softBy b f part := rfl

theorem State.timerInput_busy (h : s.flag (pgTIMR t) (F.TMR_CTRL_EN n) = true ∨ s.tookNow (lathTile t) (64 + n) = true) :
    s.timerInput t n = s.overranOne (lathTile t) (64 + n) := if_pos (by simpa using h)

theorem State.timerInput_free (hen : s.flag (pgTIMR t) (F.TMR_CTRL_EN n) = false) (htook : s.tookNow (lathTile t) (64 + n) = false)
    (hsoft : s.softBy (pgTIMR t) (F.TMR_CTRL_EN n) = none) (hstart : s.flag (pgTIMR t) (F.TMR_CTRL_START_EVT n) = true) :
    s.timerInput t n = (s.tookOne (lathTile t) (64 + n)).timerEnable t n := by
  rw [State.timerInput, if_neg (by simp [hen, htook]), State.timerStart]
  have hsoft' : (s.tookOne (lathTile t) (64 + n)).softBy (pgTIMR t) (F.TMR_CTRL_EN n) = none := by
    rw [State.tookOne, State.softBy_updLath, State.setCin, State.softBy_updLath]
    exact hsoft
  have hstart' : (s.tookOne (lathTile t) (64 + n)).flag (pgTIMR t) (F.TMR_CTRL_START_EVT n) = true := hstart
  exact if_pos (by simp [State.timerHeldEn, hsoft', hstart'])

/-! ### The wrap (R63) -/

theorem timerOverflow_wraps (hm : s.getF (pgTIMR t) (F.TMR_CTRL_MODE n) < 2) (hr : s.timerRuns t n = true)
    (hg : s.gateShut t = false) (hd : s.timerDue t n = false) (hv : 2 ^ 64 ≤ (s.timerSync t n).val) :
    exec (.timerOverflow t n) s =
      .next (((s.setTimer t n { s.timerSync t n with val := (s.timerSync t n).val - 2 ^ 64 }).setFlag (pgTIMR t) (F.TMR_STAT_OVF n)
        true).pulse (pgTIMR t) 16) := by
  show execTimerOverflow t n s = _
  unfold execTimerOverflow
  dsimp only
  rw [if_pos ⟨hm, hr, by simp [hg], by simp [hd], hv⟩]

end

/-- Settles O26: each match by its mode, each write by its half, and the wrap and the start input by their conditions. -/
theorem timers : Obligations.Timers := by
  unfold Obligations.Timers
  refine ⟨?_, fun s t n => ⟨State.timerStops_clears, State.timerStops_held⟩, fun s t n hd hc => ?_, fun s t n => rfl, ?_, ?_, ?_,
    fun s t n v hv => State.timerSet_shows s t n hv, fun s t n k hk => ⟨fun h => ?_, fun hen htook hsoft hstart => ?_⟩⟩
  · intro s t n
    dsimp only
    intro hd hc
    refine ⟨fun hm => ?_, fun hm => ?_, fun hm => ?_, fun hm => ?_⟩
    · rw [timerMatch_due hd (State.timerMatch_runs hd hc hm (.inl rfl)), matchUp]
      rfl
    · rw [timerMatch_due hd (State.timerMatch_runs hd hc hm (.inr rfl)), matchUp]
      rfl
    · obtain ⟨k, hk, hpre, hmatch⟩ := State.timerMatch_oneshot hc hm
      exact ⟨k, hk, hpre, timerMatch_due hd hmatch⟩
    · exact timerMatch_due hd (State.timerMatch_abs hc hm)
  · obtain ⟨u, hmatch, hshows⟩ := State.timerMatch_caught hc
    exact ⟨u, timerMatch_due hd hmatch, hshows⟩
  · intro s t n tm hm hr hg hd hv
    exact timerOverflow_wraps hm hr hg hd hv
  · intro s req t n data hn p lo
    refine ⟨fun h => ?_, fun h => ?_⟩
    · exact (timerCmpWrite_reaches (hi := false) hn h).trans (by rw [State.timerCmpWrite_lo h.2.1]; rfl)
    · exact (timerCmpWrite_reaches (hi := true) hn h).trans (by rw [State.timerCmpWrite_hi h.2.1]; rfl)
  · intro s req t n data hn p lo
    refine ⟨fun h hen => ?_, fun h hen => ?_, fun h hen => ?_⟩
    · exact timerCntWrite_reaches (hi := false) hn h (State.timerCntWrite_lo h.2.1 hen) (by decide)
    · exact timerCntWrite_reaches (hi := true) hn h (State.timerCntWrite_hi h.2.1 hen) (by decide)
    · exact timerCntWrite_reaches (hi := true) hn h (State.timerCntWrite_running hen) (by decide)
  · exact timerStartEvent_input hk (State.timerInput_busy h)
  · refine ⟨_, timerStartEvent_input hk (State.timerInput_free hen htook hsoft hstart), ?_⟩
    exact State.timerEnable_runs _ t n

end Sys2Proof.Machine
end

section
/-! SUPPORT. Reads of the halves of a 64-bit counter: the word, the reader's latch, and the end of the access (R57, R58). -/

namespace Sys2Proof.Machine

/-- The kinds of pages whose 64-bit counters are not the data of a FIFO. -/
def latchPages : List PageT := [.drole, .tbas, .keel, .fcst, .klog, .leng, .timr, .pwmg, .dmac, .core]

/-- The word at `off` of page `p` shows a half of counter `x` and nothing else. -/
structure Page.ShowsCounter (p : Page) (off : Nat) (x : Slot) : Prop where
  page : p.ty ∈ latchPages
  alone : p.slots off = some [x]
  counter : wordCounter p off = some x
  pos : x.pos = 0
  acc : x.fld.acc = .rs ∨ x.fld.acc = .rwl ∨ x.fld.acc = .ro

/-- The words of a KEEL page whose read acts by itself show no counter. -/
theorem wordCounter_keel {p : Page} {off : Nat} (hp : p.ty = .keel) (ho : off = 0x58 ∨ off = 0x64) : wordCounter p off = none := by
  obtain ⟨ty, base, inst, owner⟩ := p
  obtain rfl : ty = .keel := hp
  rcases ho with rfl | rfl <;> rfl

/-- The debug data of a CORE page are no counter. -/
theorem wordCounter_core {p : Page} {off : Nat} (hp : p.ty = .core) (ho : off = 0x88 ∨ off = 0x8C ∨ off = 0x90) :
    wordCounter p off = none := by
  obtain ⟨ty, base, inst, owner⟩ := p
  obtain rfl : ty = .core := hp
  rcases ho with rfl | rfl | rfl <;> rfl

section
variable {p : Page} {off : Nat} {x : Slot} (hx : p.ShowsCounter off x)
include hx

theorem Page.ShowsCounter.clearRead (s : State) : s.clearRead p off = s := by
  have hrc : x.fld.acc ≠ .rc := by rcases hx.acc with h | h | h <;> simp [h]
  simp [State.clearRead, hx.alone, hrc]

/-- The only effect of the read is that a low half loads the reader's latch (R57). -/
theorem Page.ShowsCounter.readEffect {s : State} (req : Nat) (hr : s.pageReady p = true) (hlo : 0x40 ≤ off) :
    s.readEffect p off 4 req = (if x.part = 0 then (s.pageSync p off).latch p req x ((s.pageSync p off).liveField p x.fld req)
      else s.pageSync p off, none, 0) := by
  have hpage := hx.page
  have hkeel : p.ty = .keel → off ≠ 0x58 ∧ off ≠ 0x64 := fun hp => not_or.mp fun ho => by
    simpa [wordCounter_keel hp ho] using hx.counter
  have hcore : p.ty = .core → ¬(off = 0x88 ∨ off = 0x8C ∨ off = 0x90) := fun hp ho => by
    simpa [wordCounter_core hp ho] using hx.counter
  simp only [State.readEffect, Nat.reduceEqDiff, if_false, List.foldl_cons, List.foldl_nil, hx.clearRead, hx.counter, hr,
    Nat.not_lt.mpr hlo, Bool.not_true, Bool.false_eq_true, or_self, true_and]
  split
  case h_7 hty =>
    obtain ⟨h58, h64⟩ := hkeel hty
    simp [h58.symm, h64.symm]
  case h_8 hty =>
    refine if_neg fun h => hcore hty ?_
    simpa [eq_comm] using h.1
  case h_9 => rfl
  all_goals
    rename_i hty
    simp [latchPages, hty] at hpage

/-- No word of these pages is computed as a whole. -/
theorem Page.ShowsCounter.liveWord (s : State) (o req : Nat) : s.liveWord p o req = none := by
  have hpage := hx.page
  unfold State.liveWord
  split
  case h_9 => rfl
  all_goals
    rename_i hty
    simp [latchPages, hty] at hpage

theorem Page.ShowsCounter.wordNow (s : State) (req : Nat) : s.wordNow p off req = bits (s.liveField p x.fld req) x.part x.w := by
  unfold State.wordNow
  rw [hx.liveWord, hx.alone]
  rcases hx.acc with h | h | h <;> simp [State.shown, h, hx.pos]

section
variable {s : State} (hr : s.pageReady p = true) (hlo : 0x40 ≤ off) (req : Nat)
include hr hlo

theorem Page.ShowsCounter.readLow (hp : x.part = 0) :
    s.read32 p off req false = (bits (s.liveField p x.fld req) 0 x.w, 0) := by
  simp [State.read32, Nat.not_lt.mpr hlo, hr, hx.alone, hx.counter, hx.wordNow, hp]

/-! A high half, by what the reader's latch records (R57, R58). -/

section
variable (hp : x.part ≠ 0)
include hp

theorem Page.ShowsCounter.readHigh_unread (hl : SMap.get? s.bus.latches (1024 * p.base + req) = none) :
    s.read32 p off req false = (0, 0) := by
  simp [State.read32, Nat.not_lt.mpr hlo, hr, hx.alone, hx.counter, hp, hl]

variable {l : HiLatch} (hl : SMap.get? s.bus.latches (1024 * p.base + req) = some l)
include hl

theorem Page.ShowsCounter.readHigh_latched (hc : l.counter = x.fld.off) : s.read32 p off req false = (l.hi, 0) := by
  simp [State.read32, Nat.not_lt.mpr hlo, hr, hx.alone, hx.counter, hp, hl, hc]

theorem Page.ShowsCounter.readHigh_mismatch (hc : l.counter ≠ x.fld.off) :
    s.read32 p off req false = (bits (s.liveField p x.fld req) x.part x.w, causeLATCH_MISMATCH) := by
  simp [State.read32, Nat.not_lt.mpr hlo, hr, hx.alone, hx.counter, hx.wordNow, hp, hl, hc]

end

end

/-- The read access, by the word that the page answers. -/
theorem Page.ShowsCounter.busRead {s : State} {req addr v cause : Nat} (h : s.Reaches p off ⟨req, addr, 4, false, 0⟩)
    (ha : addr % 4 = 0) (hlo : 0x40 ≤ off) (hhi : off < 0x800) (hv : (s.pageSync p off).read32 p off req false = (v, cause)) :
    s.busRead req addr 4 = (if x.part = 0 then (s.pageSync p off).latch p req x ((s.pageSync p off).liveField p x.fld req)
      else s.pageSync p off).finish p cause ⟨req, addr, 4, false, 0⟩ v := by
  have hz : okSize ⟨req, addr, 4, false, 0⟩ = true := (okSize_iff _).mpr (.inl ⟨rfl, ha⟩)
  have hread : s.readPage p off 4 req false = (v, cause) := hv
  have hcause : firstCause cause 0 = cause := by
    unfold firstCause
    split
    · next h0 => exact h0.symm
    · rfl
  rw [State.busRead, State.busAccess_page h]
  simp only [State.pageAccess, hz, Nat.not_le.mpr hhi, hread, hx.readEffect req h.ready hlo, hcause, decide_false, Bool.not_true,
    Bool.false_eq_true, if_false]
  rfl

end

/-- Settles O23: a low half is the live one, and a high half is read by what the reader's latch records. -/
theorem counterLatches : Obligations.CounterLatches := by
  unfold Obligations.CounterLatches
  intro s p off req addr x rd s' v hreach hready ha hlo hhi hpage hslots hcounter hpos hacc
  have hx : p.ShowsCounter off x := ⟨hpage, hslots, hcounter, hpos, hacc⟩
  refine ⟨fun hp hw => ?_, fun hp hw => ?_⟩
  · have hend := hx.busRead hreach ha hlo hhi (hx.readLow hready hlo req hp)
    rw [if_pos hp, hw, bits, Nat.pow_zero, Nat.div_one] at hend
    exact congrArg Host.Outcome.next hend
  · have hpart : x.part ≠ 0 := by omega
    have hends : ∀ {u c : Nat}, s'.read32 p off req false = (u, c) →
        exec (.counterHiRead req addr) s = .next (s'.finish p c rd u) := fun hr =>
      congrArg Host.Outcome.next ((hx.busRead hreach ha hlo hhi hr).trans (by rw [if_neg hpart]))
    refine ⟨fun hl => hends (hx.readHigh_unread hready hlo req hpart hl), fun l hl =>
      ⟨fun hc => hends (hx.readHigh_latched hready hlo req hpart hl hc), fun hc => hends ?_⟩⟩
    rw [hx.readHigh_mismatch hready hlo req hpart hl hc, hp, hw]
    rfl

end Sys2Proof.Machine
end

section
/-! SUPPORT. The time-base root: writes of SLEW and STEP, and measurements (R59 to R61). -/

namespace Sys2Proof.Machine

/-! ### Writes of SLEW and STEP -/

/-- What R60 refuses a step for: an armed generator, or a ring that is enabled for edge commands. -/
def State.edgesArmed (s : State) : Bool :=
  (s.edge.gens.any fun kv => s.genArmed (kv.1 / 256) (kv.1 % 256)) ||
    (List.range 128).any fun r => s.flag (pgRING r) F.RING_CTRL_EDGE_EN

section
variable {s : State} {req data : Nat}

/-- A write of one of these words, by what the page makes of it. -/
theorem State.Writes.tbas {off cause : Nat} {u : State} (h : s.Writes pageTBAS off req data) (ho : off = 0x5C ∨ off = 0x74)
    (hw : s.wTBAS pageTBAS off (s.wrOf pageTBAS req data) = (u, cause)) (hc : cause ≠ causePRIV) :
    s.busWrite req (pgTBAS + off) 4 data = u.wrote pageTBAS off req data cause := by
  rcases ho with rfl | rfl
  · exact h.plain rfl rfl (by decide) (by decide) rfl rfl hw hc
  · exact h.plain rfl rfl (by decide) (by decide) rfl rfl hw hc

/-- A slew that software may write, with a SLEW_PPM that the field accepts (R59). -/
theorem State.wTBAS_slew (hs : s.servoOwns = false) (h1 : 1 ≤ bits data 24 4) (h10 : bits data 24 4 ≤ 10) :
    s.wTBAS pageTBAS 0x5C (s.wrOf pageTBAS req data) =
      ((s.slewSync.softF pgTBAS F.TBAS_SLEW_SLEW_PPM req (bits data 24 4)).slewStart (sgn 24 data), 0) := by
  have hbad : badIf [(bits data 24 4 == 0 || 10 < bits data 24 4, F.TBAS_SLEW_SLEW_PPM)] = [] := by
    have hok : (bits data 24 4 == 0 || decide (10 < bits data 24 4)) = false := by
      simp [Nat.not_lt.mpr h10, Nat.one_le_iff_ne_zero.mp h1]
    rw [hok]
    rfl
  have hput : s.slewSync.put pageTBAS (s.wrOf pageTBAS req data) 0x5C [F.TBAS_SLEW_SLEW] [] =
      (s.slewSync.softF pgTBAS F.TBAS_SLEW_SLEW_PPM req (bits data 24 4), 0) := rfl
  have hslew : s.wTBAS pageTBAS 0x5C (s.wrOf pageTBAS req data) =
      let r := s.slewSync.put pageTBAS (s.wrOf pageTBAS req data) 0x5C [F.TBAS_SLEW_SLEW]
        (badIf [(bits data 24 4 == 0 || 10 < bits data 24 4, F.TBAS_SLEW_SLEW_PPM)])
      if s.servoOwns then (r.1, firstCause r.2 0x22) else (r.1.slewStart (sgn 24 data), r.2) := rfl
  rw [hslew, hbad, hput, hs]
  rfl

theorem State.softF_tick (s : State) (b : Nat) (f : Fld) (req v : Nat) : (s.softF b f req v).tick = s.tick := by
  unfold State.softF State.softSlot
  split <;> rfl

/-- A step that nothing armed forbids (R60). -/
theorem State.wTBAS_step (w : Wr) (h : s.edgesArmed = false) : s.wTBAS pageTBAS 0x74 w =
    (({ s with time.ofs := (s.time.ofs + wrap 64 (sgn 32 w.v)) % 2 ^ 64 } : State).timersStepped, 0) :=
  if_neg (Bool.eq_false_iff.mp h)

theorem State.wTBAS_stepRefused (w : Wr) (h : s.edgesArmed = true) : s.wTBAS pageTBAS 0x74 w =
    (s.setFlag pgTBAS F.TBAS_STAT_STEP_REFUSED true, 0x20) := if_pos h

end

/-! ### Measurements (R61) -/

/-- The magnitude of a phase error. -/
def offsetMag (x : Int) : Int := if x < 0 then -x else x

/-- What a measurement of the phase error `x` notes: OFFSET, the end of holdover, and the count of good measurements, which are those
of a magnitude below LOCK_THR. -/
def State.noteMeasure (s : State) (x : Int) : State :=
  let thr : Int := ((32 * s.getF pgTBAS F.TBAS_CTRL_LOCK_THR : Nat) : Int)
  let u := (s.slewSync.setF pgTBAS F.TBAS_OFFSET_OFFSET (wrap 24 (satS 24 x))).setFlag pgTBAS F.TBAS_STAT_HOLDOVER false
  { u with time.good := if offsetMag x < thr then s.time.good + 1 else 0, time.lastMeas := s.tick }

/-- What it leaves before the servo steers: LOCKED is set after eight good ones and cleared after one above LOCK_THR. -/
def State.measured (s : State) (x : Int) : State :=
  let v := s.noteMeasure x
  let thr : Int := ((32 * s.getF pgTBAS F.TBAS_CTRL_LOCK_THR : Nat) : Int)
  if v.time.good ≥ 8 then v.setFlag pgTBAS F.TBAS_STAT_LOCKED true
  else if offsetMag x > thr then v.setFlag pgTBAS F.TBAS_STAT_LOCKED false else v

section
variable (s : State) (x : Int)

theorem State.timeMeasure_eq : s.timeMeasure x =
    if (s.measured x).servoOwns then
      let r := (s.measured x).draw 28
      let v := r.2.draw 24
      (v.2.setF pgTBAS F.TBAS_RATE_RATE r.1).slewStart (sgn 24 v.1)
    else s.measured x := rfl

theorem State.measured_cases :
    s.measured x = s.noteMeasure x ∨ ∃ b, s.measured x = (s.noteMeasure x).setFlag pgTBAS F.TBAS_STAT_LOCKED b := by
  unfold State.measured
  dsimp only
  split
  · exact .inr ⟨true, rfl⟩
  · split
    · exact .inr ⟨false, rfl⟩
    · exact .inl rfl

theorem State.noteMeasure_free : (s.noteMeasure x).free = s.free := by
  simp [State.noteMeasure, State.slewSync]

theorem State.measured_free : (s.measured x).free = s.free := by
  rcases s.measured_cases x with h | ⟨b, h⟩
  · rw [h, State.noteMeasure_free]
  · rw [h, State.setFlag_free, State.noteMeasure_free]

/-- A measurement leaves the control register. -/
theorem State.noteMeasure_ctrl {f : Fld} (ho : f.off = 0x40) (hl : f.lo < 64) :
    (s.noteMeasure x).getF pgTBAS f = s.getF pgTBAS f := by
  have hnote : (s.noteMeasure x).getF pgTBAS f = ((s.slewSync.setF pgTBAS F.TBAS_OFFSET_OFFSET (wrap 24 (satS 24 x))).setFlag pgTBAS
      F.TBAS_STAT_HOLDOVER false).getF pgTBAS f := rfl
  rw [hnote, State.getF_setFlag_fld _ _ (by simp only [F.TBAS_STAT_HOLDOVER]; omega),
    State.getF_setF_fld _ _ (by simp only [F.TBAS_OFFSET_OFFSET]; omega)]
  rfl

theorem State.measured_ctrl {f : Fld} (ho : f.off = 0x40) (hl : f.lo < 64) :
    (s.measured x).getF pgTBAS f = s.getF pgTBAS f := by
  rcases s.measured_cases x with h | ⟨b, h⟩
  · rw [h, State.noteMeasure_ctrl s x ho hl]
  · rw [h, State.getF_setFlag_fld _ _ (by simp only [F.TBAS_STAT_LOCKED]; omega), State.noteMeasure_ctrl s x ho hl]

theorem State.measured_servoOwns : (s.measured x).servoOwns = s.servoOwns := by
  simp only [State.servoOwns, State.flag, State.measured_ctrl s x (f := F.TBAS_CTRL_SERVO) rfl (by decide),
    State.measured_ctrl s x (f := F.TBAS_CTRL_SRC) rfl (by decide)]

variable {s x}

theorem State.timeMeasure_soft (h : s.servoOwns = false) : s.timeMeasure x = s.measured x := by
  rw [State.timeMeasure_eq, State.measured_servoOwns, h, if_neg Bool.false_ne_true]

/-- The servo that owns RATE and SLEW sets both to free values (log entry 3). -/
theorem State.timeMeasure_servo (h : s.servoOwns = true) : ∃ rate : Nat, ∃ slew : Int,
    s.timeMeasure x = ((({ s.measured x with free := s.free + 2 } : State).setF pgTBAS F.TBAS_RATE_RATE rate).slewStart slew) := by
  rw [State.timeMeasure_eq, State.measured_servoOwns, if_pos h, ← State.measured_free s x]
  exact ⟨_, _, rfl⟩

end

/-- Settles O25: the writes by what the page makes of them, and each event by its condition. -/
theorem timeBase : Obligations.TimeBase := by
  unfold Obligations.TimeBase
  refine ⟨fun s req data => ?_, fun s hz => ?_, fun s req data => ?_, fun s ofs => ?_, fun s hsrc hhold hlate => ?_,
    fun s frac => rfl, fun s hen hsec => congrArg Host.Outcome.next (if_pos ⟨hen, hsec⟩)⟩
  · intro ppm u h hs h1 h10
    refine ⟨congrArg Host.Outcome.next (h.tbas (.inl rfl) (State.wTBAS_slew hs h1 h10) (by decide)), rfl, ?_⟩
    exact State.softF_tick s.slewSync pgTBAS F.TBAS_SLEW_SLEW_PPM req ppm
  · refine congrArg Host.Outcome.next ((if_pos hz).trans ?_)
    rw [State.slewSync, hz]
  · intro armed h
    exact ⟨fun ha => congrArg Host.Outcome.next (h.tbas (.inr rfl) (State.wTBAS_step _ ha) (by decide)),
      fun ha => congrArg Host.Outcome.next (h.tbas (.inr rfl) (State.wTBAS_stepRefused _ ha) (by decide))⟩
  · intro x mag thr u n v w hsrc
    have hexec : exec (.timeMeasurement ofs) s = .next (s.timeMeasure x) := congrArg Host.Outcome.next (if_neg hsrc)
    have hw : s.measured x = w := rfl
    refine ⟨fun hs => ?_, fun hs => ?_⟩
    · rw [hexec, State.timeMeasure_soft hs, hw]
    · obtain ⟨rate, slew, hm⟩ := State.timeMeasure_servo (x := x) hs
      rw [hw] at hm
      exact ⟨rate, slew, hexec.trans (congrArg Host.Outcome.next hm)⟩
  · refine congrArg Host.Outcome.next (if_neg ?_)
    simp [hsrc, hhold, hlate]

end Sys2Proof.Machine
end

section
/-! SUPPORT. Watchdogs: what a service, a write of a register and the two stages make of one (R71 to R74, R77). -/

namespace Sys2Proof.Machine

theorem bits_zero (x w : Nat) : bits x 0 w = x % 2 ^ w := by rw [bits, Nat.pow_zero, Nat.div_one]

/-- A requester's write of a field leaves the page's other fields. -/
theorem State.getF_softF_fld (s : State) {b : Nat} {f f' : Fld} (req v : Nat) (h : 64 * f'.off + f'.lo ≠ 64 * f.off + f.lo) :
    (s.softF b f req v).getF b f' = s.getF b f' := by
  unfold State.softF State.softSlot
  split
  · rfl
  · exact State.getF_setF_fld (s.noteSoft b f 0 req) _ h

/-! ### Services (R71, R72) -/

/-- A valid service, up to the end of stage one: ELAPSED starts again and the other key comes next (R71). -/
def State.wdServed (s : State) (t : Nat) : State :=
  (s.wdZero t).setFlag (wdBase t) F.WDOG_STAT_NEXT_KEY (!s.flag (wdBase t) F.WDOG_STAT_NEXT_KEY)

/-- What a service makes of an enabled watchdog in the stage it finds (R71, R72). -/
def State.wdAnswer (s : State) (t v : Nat) : State :=
  if v % 2 ^ 16 ≠ s.wdKey t then s.wdViolation t
  else if s.getF (wdBase t) F.WDOG_STAT_STAGE ≠ 1 ∧ s.wdElapsed t < s.getF (wdBase t) F.WDOG_WINDOW_WINDOW then s.wdViolation t
  else if (s.wdServed t).getF (wdBase t) F.WDOG_STAT_STAGE = 1 then (s.wdServed t).setF (wdBase t) F.WDOG_STAT_STAGE 0
  else s.wdServed t

section
variable {s : State} {t v : Nat}

theorem State.wdLate_iff : s.wdLate t = true ↔ s.flag (wdBase t) F.WDOG_CTRL_EN = true ∧
    s.getF (wdBase t) F.WDOG_STAT_STAGE ≠ 1 ∧ s.getF (wdBase t) F.WDOG_TIMEOUT_TIMEOUT ≤ s.wdElapsed t := by
  simp [State.wdLate, and_assoc]

theorem State.wdService_disabled (h : s.flag (wdBase t) F.WDOG_CTRL_EN = false) : s.wdService t v = s := if_pos (by simp [h])

/-- A service that finds ELAPSED at TIMEOUT falls in the stage one that begins there. -/
theorem State.wdService_enabled (h : s.flag (wdBase t) F.WDOG_CTRL_EN = true) :
    s.wdService t v = (if s.wdLate t then s.wdStage1 t else s).wdAnswer t v := if_neg (by simp [h])

theorem State.wdServed_stage : (s.wdServed t).getF (wdBase t) F.WDOG_STAT_STAGE = s.getF (wdBase t) F.WDOG_STAT_STAGE :=
  State.getF_setFlag_fld (s.wdZero t) _ (by decide)

theorem State.wdAnswer_wrongKey (h : v % 2 ^ 16 ≠ s.wdKey t) : s.wdAnswer t v = s.wdViolation t := if_pos h

section
variable (hkey : v % 2 ^ 16 = s.wdKey t)
include hkey

/-- A valid service in stage one ends it. -/
theorem State.wdAnswer_stageOne (h : s.getF (wdBase t) F.WDOG_STAT_STAGE = 1) :
    s.wdAnswer t v = (s.wdServed t).setF (wdBase t) F.WDOG_STAT_STAGE 0 := by
  rw [State.wdAnswer, if_neg (not_not.mpr hkey), if_neg fun hw => hw.1 h, if_pos (State.wdServed_stage.trans h)]

variable (h : s.getF (wdBase t) F.WDOG_STAT_STAGE ≠ 1)
include h

theorem State.wdAnswer_early (hw : s.wdElapsed t < s.getF (wdBase t) F.WDOG_WINDOW_WINDOW) : s.wdAnswer t v = s.wdViolation t := by
  rw [State.wdAnswer, if_neg (not_not.mpr hkey), if_pos ⟨h, hw⟩]

theorem State.wdAnswer_valid (hw : s.getF (wdBase t) F.WDOG_WINDOW_WINDOW ≤ s.wdElapsed t) : s.wdAnswer t v = s.wdServed t := by
  rw [State.wdAnswer, if_neg (not_not.mpr hkey), if_neg fun hn => Nat.not_lt.mpr hw hn.2,
    if_neg fun hs => h (State.wdServed_stage.symm.trans hs)]

end

/-! ### TIMEOUT (R72) -/

/-- A TIMEOUT that is not above WINDOW is refused. -/
theorem State.wdSetTimeout_refused (h : v % 2 ^ 24 ≤ s.getF (wdBase t) F.WDOG_WINDOW_WINDOW) :
    s.wdSetTimeout t v = (s, causeBAD_VALUE) := if_pos (.inr h)

/-- A TIMEOUT above WINDOW takes effect, and one at or below ELAPSED begins stage one. -/
theorem State.wdSetTimeout_accepted (h : s.getF (wdBase t) F.WDOG_WINDOW_WINDOW < v % 2 ^ 24) :
    s.wdSetTimeout t v = (if s.flag (wdBase t) F.WDOG_CTRL_EN = true ∧ s.getF (wdBase t) F.WDOG_STAT_STAGE ≠ 1 ∧
      v % 2 ^ 24 ≤ s.wdElapsed t then (s.setF (wdBase t) F.WDOG_TIMEOUT_TIMEOUT (v % 2 ^ 24)).wdStage1 t
      else s.setF (wdBase t) F.WDOG_TIMEOUT_TIMEOUT (v % 2 ^ 24), 0) := by
  have hlate : (s.setF (wdBase t) F.WDOG_TIMEOUT_TIMEOUT (v % 2 ^ 24)).wdLate t = true ↔
      s.flag (wdBase t) F.WDOG_CTRL_EN = true ∧ s.getF (wdBase t) F.WDOG_STAT_STAGE ≠ 1 ∧ v % 2 ^ 24 ≤ s.wdElapsed t := by
    have hread : (s.setF (wdBase t) F.WDOG_TIMEOUT_TIMEOUT (v % 2 ^ 24)).getF (wdBase t) F.WDOG_TIMEOUT_TIMEOUT = v % 2 ^ 24 :=
      (State.getF_setF _ _ _ _).trans (Nat.mod_mod _ _)
    rw [State.wdLate_iff, State.flag_setF_fld _ _ (by decide), State.getF_setF_fld _ _ (by decide), hread]
    rfl
  have hset : s.wdSetTimeout t v = (if (s.setF (wdBase t) F.WDOG_TIMEOUT_TIMEOUT (v % 2 ^ 24)).wdLate t then
      (s.setF (wdBase t) F.WDOG_TIMEOUT_TIMEOUT (v % 2 ^ 24)).wdStage1 t
      else s.setF (wdBase t) F.WDOG_TIMEOUT_TIMEOUT (v % 2 ^ 24), 0) := if_neg (by omega)
  simp only [hset, hlate]

/-! ### EN (R71, R74) -/

/-- The fields of a tile's watchdog leave the power domains as they are. -/
theorem State.domOn_setF_wdog (ht : t < 40) (f : Fld) (x : Nat) {d : Nat} (hd : d < 128) :
    (s.setF (wdBase t) f x).domOn d = s.domOn d := by
  have hkey : fkey pgPWRD (F.PWRD_ON_ON (d / 32)) ≠ fkey (wdBase t) f := by
    rw [wdBase, if_pos ht]
    simp only [fkey, pgPWRD, devBase, F.PWRD_ON_ON, pgWDOG, tileBase]
    omega
  simp only [State.domOn, State.fbit, State.getF_setF_ne _ _ hkey]

theorem State.isleStopped_setF_wdog (ht : t < 40) (f : Fld) (x : Nat) {i : Nat} (hi : i < 80) :
    (s.setF (wdBase t) f x).isleStopped i = s.isleStopped i := by
  have hon : (s.setF (wdBase t) f x).islandOn i = s.islandOn i := by
    simp only [State.islandOn, islandDomain, if_pos hi]
    exact State.domOn_setF_wdog ht f x (by omega)
  rw [State.isleStopped, hon]
  rfl

theorem State.isleStopped_setFlag_wdog (ht : t < 40) (f : Fld) (x : Bool) {i : Nat} (hi : i < 80) :
    (s.setFlag (wdBase t) f x).isleStopped i = s.isleStopped i := by
  rw [State.setFlag, State.isleStopped_setF_wdog ht f _ hi]
  rfl

/-- The registers of a watchdog as EN is set: no stage stands, and the first key comes next (R71). -/
def State.wdStarted (s : State) (t : Nat) : State :=
  ((s.setFlag (wdBase t) F.WDOG_CTRL_EN true).setFlag (wdBase t) F.WDOG_STAT_NEXT_KEY false).setF (wdBase t) F.WDOG_STAT_STAGE 0

theorem State.wdStarted_stands : (s.wdStarted t).wdStands t =
    (s.flag (wdBase t) F.WDOG_STAT_FROZEN || (decide (t < 40) && s.isleStopped (2 * t))) := by
  have hen : (s.wdStarted t).flag (wdBase t) F.WDOG_CTRL_EN = true := by
    rw [State.wdStarted, State.flag_setF_fld _ _ (by decide), State.flag_setFlag_fld _ _ (by decide), State.flag_setFlag _ _ _ _ rfl]
  have hfrozen : (s.wdStarted t).flag (wdBase t) F.WDOG_STAT_FROZEN = s.flag (wdBase t) F.WDOG_STAT_FROZEN := by
    rw [State.wdStarted, State.flag_setF_fld _ _ (by decide), State.flag_setFlag_fld _ _ (by decide),
      State.flag_setFlag_fld _ _ (by decide)]
  have hisle : t < 40 → (s.wdStarted t).isleStopped (2 * t) = s.isleStopped (2 * t) := fun ht => by
    have hi : 2 * t < 80 := by omega
    rw [State.wdStarted, State.isleStopped_setF_wdog ht _ _ hi, State.isleStopped_setFlag_wdog ht _ _ hi,
      State.isleStopped_setFlag_wdog ht _ _ hi]
  rw [State.wdStands, hen, hfrozen]
  by_cases ht : t < 40
  · simp [ht, hisle ht]
  · simp [ht]

theorem State.wdEnable_starts (h : s.flag (wdBase t) F.WDOG_CTRL_EN = false) : s.wdEnable t = (s.wdStarted t).setWdog t
    { acc := 0, at_ := s.tick,
      stopped := s.flag (wdBase t) F.WDOG_STAT_FROZEN || (decide (t < 40) && s.isleStopped (2 * t)) } := by
  rw [← State.wdStarted_stands]
  exact if_neg (by simp [h])

/-! ### Writes of its registers -/

variable {req data cause : Nat} {u : State}

/-- A write of a register of a watchdog, in the page of its tile or of the keeper (R77), by what it makes of the watchdog. -/
theorem State.Writes.wdog {o : Nat} (h : s.Writes (pageWDOG t) (offWDOG t o) req data) (ht : t ≤ 40)
    (ho : o = 0x40 ∨ o = 0x44 ∨ o = 0x4C ∨ o = 0x50)
    (hw : s.wWDOG (pageWDOG t) t o (s.wrOf (pageWDOG t) req data) = (u, cause)) (hc : cause ≠ causePRIV) :
    s.busWrite req (wdBase t + o) 4 data = u.wrote (pageWDOG t) (offWDOG t o) req data cause := by
  rcases Nat.lt_or_eq_of_le ht with hlt | rfl
  · have hpage : pageWDOG t = ⟨.wdog, pgWDOG t, 0, t⟩ := if_pos hlt
    have hoff : offWDOG t o = o := if_pos hlt
    have halign : (pgWDOG t + o) % 4 = 0 := by
      simp only [pgWDOG, tileBase]
      omega
    have hslots : ((pageWDOG t).slots (offWDOG t o)).isSome = true := by
      rw [hoff, hpage, Page.slots_kind]
      rcases ho with rfl | rfl | rfl | rfl <;> rfl
    rw [wdBase, if_pos hlt]
    refine h.plain (by rw [hpage, hoff]) halign (by omega) (by omega) hslots (by rw [hpage]; rfl) ?_ hc
    rw [hoff, ← hw, hpage]
    rfl
  · rcases ho with rfl | rfl | rfl | rfl
    · exact h.plain rfl rfl (by decide) (by decide) rfl rfl hw hc
    · exact h.plain rfl rfl (by decide) (by decide) rfl rfl hw hc
    · exact h.plain rfl rfl (by decide) (by decide) rfl rfl hw hc
    · exact h.plain rfl rfl (by decide) (by decide) rfl rfl hw hc

variable {p : Page} {w : Wr}

/-- A service, by what it makes of the watchdog. -/
theorem watchdogService_reaches (h : s.Writes (pageWDOG t) (offWDOG t 0x50) req data) (ht : t ≤ 40) (hu : s.wdService t data = u) :
    exec (.watchdogService req t data) s = .next (u.wrote (pageWDOG t) (offWDOG t 0x50) req data) :=
  congrArg Host.Outcome.next (h.wdog ht (by decide) (congrArg (·, 0) hu) (by decide))

section
variable (hopen : w.opn = true)
include hopen

/-- A TIMEOUT that differs, with the lock open. -/
theorem State.wWDOG_timeout (h : bits w.v 0 24 ≠ s.getF (wdBase t) F.WDOG_TIMEOUT_TIMEOUT) :
    s.wWDOG p t 0x44 w = s.wdSetTimeout t w.v := by
  refine (if_neg h : s.wWDOG p t 0x44 w = w.act s fun s => s.wdSetTimeout t w.v).trans ?_
  exact if_pos hopen

/-- A STAGE2 that differs and is not 0, with the lock open and outside stage one. -/
theorem State.wWDOG_stage2 (h : bits w.v 0 24 ≠ s.getF (wdBase t) F.WDOG_STAGE2_STAGE2) (h0 : bits w.v 0 24 ≠ 0) (hsize : w.size = 4)
    (hstage : s.getF (wdBase t) F.WDOG_STAT_STAGE ≠ 1) :
    s.wWDOG p t 0x4C w = (s.softF (wdBase t) F.WDOG_STAGE2_STAGE2 w.req (bits w.v 0 24), 0) := by
  have hput : s.put { p with ty := .wdog, base := wdBase t } w 0x4C []
      (badIf [(bits w.v 0 24 == 0, F.WDOG_STAGE2_STAGE2)]) = (s.softF (wdBase t) F.WDOG_STAGE2_STAGE2 w.req (bits w.v 0 24), 0) := by
    have hslots : ({ p with ty := .wdog, base := wdBase t } : Page).slots 0x4C = some [⟨F.WDOG_STAGE2_STAGE2, 0, 24, 0⟩] := rfl
    have hold : s.getSlot (wdBase t) ⟨F.WDOG_STAGE2_STAGE2, 0, 24, 0⟩ = s.getF (wdBase t) F.WDOG_STAGE2_STAGE2 :=
      (bits_zero _ _).trans (Nat.mod_eq_of_lt (s.getF_lt _ _))
    have hbad : badIf [(bits w.v 0 24 == 0, F.WDOG_STAGE2_STAGE2)] = [] := by simp [badIf, h0]
    rw [State.put, if_neg (by omega), State.putWord, hslots, hbad]
    simp only [Option.getD_some, List.foldl_cons, List.foldl_nil, hold, h, hopen]
    rfl
  have hkept : (s.softF (wdBase t) F.WDOG_STAGE2_STAGE2 w.req (bits w.v 0 24)).getF (wdBase t) F.WDOG_STAT_STAGE =
      s.getF (wdBase t) F.WDOG_STAT_STAGE := State.getF_softF_fld s _ _ (by decide)
  have hwrite : s.wWDOG p t 0x4C w =
      let r := s.put { p with ty := .wdog, base := wdBase t } w 0x4C [] (badIf [(bits w.v 0 24 == 0, F.WDOG_STAGE2_STAGE2)])
      if r.1.getF (wdBase t) F.WDOG_STAT_STAGE = 1 ∧ r.1.getF (wdBase t) F.WDOG_STAGE2_STAGE2 ≤ r.1.wdElapsed t ∧ r.2 = 0
      then (r.1.wdStage2 t, 0) else r := rfl
  rw [hwrite, hput]
  exact if_neg fun hs => hstage (hkept.symm.trans hs.1)

theorem State.wWDOG_enable (hv : bit w.v 0 = true) (h : s.flag (wdBase t) F.WDOG_CTRL_EN = false) :
    s.wWDOG p t 0x40 w = (s.wdEnable t, 0) := by
  simp [State.wWDOG, Wr.act, hopen, hv, h]

theorem State.wWDOG_disable (hv : bit w.v 0 = false) (h : s.flag (wdBase t) F.WDOG_CTRL_EN = true) :
    s.wWDOG p t 0x40 w = (s, causeBAD_VALUE) := by
  simp [State.wWDOG, Wr.act, hopen, hv, h]

end

/-- A write of a TIMEOUT that differs, with the lock open, by what it makes of the watchdog. -/
theorem wdogTimeoutWrite_reaches (hlock : s.lockOpen (pageWDOG t) req = true)
    (h : s.Writes (pageWDOG t) (offWDOG t 0x44) req data) (ht : t ≤ 40)
    (hne : bits data 0 24 ≠ s.getF (wdBase t) F.WDOG_TIMEOUT_TIMEOUT) (hu : s.wdSetTimeout t data = (u, cause))
    (hc : cause ≠ causePRIV) :
    exec (.wdogTimeoutWrite req t data) s = .next (u.wrote (pageWDOG t) (offWDOG t 0x44) req data cause) :=
  congrArg Host.Outcome.next (h.wdog ht (by decide) ((State.wWDOG_timeout hlock hne).trans hu) hc)

end

/-- Settles O27: a service by the stage and the key that it finds, a write by its register, and each stage by its condition. -/
theorem watchdogs : Obligations.Watchdogs := by
  unfold Obligations.Watchdogs
  refine ⟨?_, ?_, ?_, ?_⟩
  · intro s req t data b p off late served h ht
    have hserve : ∀ {u}, s.wdService t data = u → exec (.watchdogService req t data) s = .next (u.wrote p off req data) :=
      fun hu => watchdogService_reaches h ht hu
    have hearly : s.flag b F.WDOG_CTRL_EN = true → ¬late → s.wdService t data = s.wdAnswer t data := fun hen hl => by
      rw [State.wdService_enabled hen, if_neg fun hw => hl (State.wdLate_iff.mp hw).2]
    have hlate : s.flag b F.WDOG_CTRL_EN = true → late → s.wdService t data = (s.wdStage1 t).wdAnswer t data := fun hen hl => by
      rw [State.wdService_enabled hen, if_pos (State.wdLate_iff.mpr ⟨hen, hl⟩)]
    refine ⟨fun hen => hserve (State.wdService_disabled hen), fun hen hl hkey hstage hwin => ?_, fun hen hkey hstage => ?_,
      fun hen hl hbad => ?_, fun hen hl => ⟨fun hkey hstage => ?_, fun hkey => ?_⟩⟩
    · exact hserve ((hearly hen hl).trans (State.wdAnswer_valid hkey hstage hwin))
    · exact hserve ((hearly hen fun hl => hl.1 hstage).trans (State.wdAnswer_stageOne hkey hstage))
    · refine hserve ((hearly hen hl).trans ?_)
      by_cases hkey : data % 2 ^ 16 = s.wdKey t
      · obtain ⟨hstage, hwin⟩ := hbad.resolve_left (not_not.mpr hkey)
        exact State.wdAnswer_early hkey hstage hwin
      · exact State.wdAnswer_wrongKey hkey
    · exact hserve ((hlate hen hl).trans (State.wdAnswer_stageOne hkey hstage))
    · exact hserve ((hlate hen hl).trans (State.wdAnswer_wrongKey hkey))
  · intro s t b u hen hstage helapsed hgate
    exact congrArg Host.Outcome.next (if_pos ⟨State.wdLate_iff.mpr ⟨hen, hstage, helapsed⟩, by simp [hgate]⟩)
  · intro s req t data b p v hopen ht
    have hv : v = data % 2 ^ 24 := bits_zero data 24
    refine ⟨fun h hne hwin hin => ?_, fun h hne hwin hen hstage hel => ?_, fun h hne hwin => ?_, fun h hne h0 hstage => ?_,
      fun h hen => ?_, fun h hen => ?_⟩
    · rw [hv] at hwin hin ⊢
      refine wdogTimeoutWrite_reaches hopen h ht hne
        ((State.wdSetTimeout_accepted hwin).trans (congrArg (·, 0) (if_neg ?_))) (by decide)
      rintro ⟨hen, hstage, hel⟩
      rcases hin with hoff | hone | hlt
      · exact absurd hen (by rw [hoff]; decide)
      · exact hstage hone
      · omega
    · rw [hv] at hwin hel ⊢
      exact wdogTimeoutWrite_reaches hopen h ht hne
        ((State.wdSetTimeout_accepted hwin).trans (congrArg (·, 0) (if_pos ⟨hen, hstage, hel⟩))) (by decide)
    · rw [hv] at hwin
      exact wdogTimeoutWrite_reaches hopen h ht hne (State.wdSetTimeout_refused hwin) (by decide)
    · exact congrArg Host.Outcome.next
        (h.wdog ht (by decide) (State.wWDOG_stage2 hopen hne h0 rfl hstage) (by decide))
    · have hset := (State.wWDOG_enable (p := p) (w := s.wrOf p req 1) hopen (by decide : bit 1 0 = true) hen).trans
        (congrArg (·, 0) (State.wdEnable_starts hen))
      exact congrArg Host.Outcome.next (h.wdog ht (by decide) hset (by decide))
    · exact congrArg Host.Outcome.next
        (h.wdog ht (by decide) (State.wWDOG_disable (w := s.wrOf p req 0) hopen (by decide : bit 0 0 = false) hen) (by decide))
  · intro s t hstage hel
    refine ⟨fun ht hgate => congrArg Host.Outcome.next ((if_pos ⟨hstage, hel, by simp [hgate]⟩).trans (if_pos ht)), ?_⟩
    rintro rfl
    exact congrArg Host.Outcome.next (if_pos ⟨hstage, hel⟩)

end Sys2Proof.Machine
end

section
/-! SUPPORT. What events leave: arrivals, pulses, log records and productions change registers, the notes of the cycle, buses,
laths, wake requests and log buffers alone. -/

namespace Sys2Proof.Machine

/-- The state without what an event can change. -/
def State.eventFrame (s : State) : State := { s with regs := [], hw := {}, bus := {}, lath := {}, pwr := {}, klog := [] }

@[simp] theorem State.setF_eventFrame (s : State) (b : Nat) (f : Fld) (v : Nat) : (s.setF b f v).eventFrame = s.eventFrame := rfl

@[simp] theorem State.setFlag_eventFrame (s : State) (b : Nat) (f : Fld) (v : Bool) : (s.setFlag b f v).eventFrame = s.eventFrame := rfl

@[simp] theorem State.setFbit_eventFrame (s : State) (b : Nat) (f : Fld) (i : Nat) (v : Bool) :
    (s.setFbit b f i v).eventFrame = s.eventFrame := rfl

@[simp] theorem State.incF_eventFrame (s : State) (b : Nat) (f : Fld) (n : Nat) : (s.incF b f n).eventFrame = s.eventFrame := rfl

@[simp] theorem State.satF_eventFrame (s : State) (b : Nat) (f : Fld) (n : Nat) : (s.satF b f n).eventFrame = s.eventFrame := rfl

@[simp] theorem State.requestWake_eventFrame (s : State) (i : Nat) : (s.requestWake i).eventFrame = s.eventFrame := by
  unfold State.requestWake
  split <;> rfl

@[simp] theorem State.countArrivals_eventFrame (s : State) (base : Nat) (arriv satlost cnt satw : Fld) (b n : Nat) :
    (s.countArrivals base arriv satlost cnt satw b n).1.eventFrame = s.eventFrame := by
  unfold State.countArrivals
  dsimp only
  split <;> simp

@[simp] theorem State.cascadeWake_eventFrame (s was : State) : (s.cascadeWake was).eventFrame = s.eventFrame := by
  refine foldl_keeps State.eventFrame (fun u g => ?_) _ _
  dsimp only
  split <;> simp

@[simp] theorem State.enterIntc_eventFrame (s : State) (t l n : Nat) : (s.enterIntc t l n).1.eventFrame = s.eventFrame := by
  unfold State.enterIntc
  dsimp only
  split
  · simp only [apply_ite State.eventFrame, State.requestWake_eventFrame, State.satF_eventFrame, State.setF_eventFrame, ite_self]
    rfl
  · rw [State.countArrivals_eventFrame]
    rfl

@[simp] theorem State.arriveOnce_eventFrame (s : State) (src n : Nat) : (s.arriveOnce src n).1.eventFrame = s.eventFrame := by
  unfold State.arriveOnce
  dsimp only
  split
  · split
    · rfl
    · split
      · split
        · rfl
        · simp
      · simp
  · simp

@[simp] theorem State.arriveF_eventFrame (fuel : Nat) (s : State) (src n : Nat) :
    (State.arriveF fuel s src n).eventFrame = s.eventFrame := by
  induction fuel generalizing s src n with
  | zero => rfl
  | succ k ih =>
    have honce := s.arriveOnce_eventFrame src n
    unfold State.arriveF
    split
    · rfl
    · dsimp only
      split
      · exact honce
      · split
        · exact (ih _ _ _).trans honce
        · exact honce

@[simp] theorem State.occur_eventFrame (s : State) (base b n : Nat) : (s.occur base b n).eventFrame = s.eventFrame := by
  unfold State.occur State.arrive
  split
  · rfl
  · split <;> simp

@[simp] theorem State.pulse_eventFrame (s : State) (base b n : Nat) : (s.pulse base b n).eventFrame = s.eventFrame := by
  unfold State.pulse
  split
  · rfl
  · exact State.occur_eventFrame _ _ _ _

@[simp] theorem State.klogRecord_eventFrame (s : State) (c ty flags src tick : Nat) (payload : List Nat) :
    (s.klogRecord c ty flags src tick payload).eventFrame = s.eventFrame := by
  unfold State.klogRecord
  dsimp only
  split
  · rfl
  · simp only [apply_ite State.eventFrame, State.pulse_eventFrame, State.incF_eventFrame, ite_self]
    rfl

@[simp] theorem State.klogEvents_eventFrame (s : State) (c prod : Nat) : (s.klogEvents c prod).eventFrame = s.eventFrame := by
  refine foldl_keeps State.eventFrame (fun u k => ?_) _ _
  split <;> simp

@[simp] theorem State.produce_eventFrame (s : State) (l prod : Nat) (aligned : Bool) (srcPer : Nat) (mark : Bool) :
    (s.produce l prod aligned srcPer mark).eventFrame = s.eventFrame := by
  unfold State.produce State.produceTok
  dsimp only
  split
  · rfl
  · split
    · rw [State.klogEvents_eventFrame]
      rfl
    · rfl

end Sys2Proof.Machine
end

section
/-! SUPPORT. Converters: the writes of their pages, the starts, a conversion and its record (R79 to R94, R496). -/

namespace Sys2Proof.Machine

theorem cluBase_aligned (c slot : Nat) : cluBase c slot % 4 = 0 := by
  unfold cluBase
  omega

section
variable {s u : State} {req data cause : Nat}

/-! ### The reference (R80, R81) -/

/-- A write of AFE_REF_CTRL with the lock open and a new SEL, by what it makes of the reference. -/
theorem refSelWrite_reaches {c : Nat} (h : s.Writes (pageAFE c) 0x40 req data) (hopen : s.lockOpen (pageAFE c) req = true)
    (hne : bits data 0 2 ≠ s.getF (pgAFE c) F.AFE_REF_CTRL_SEL)
    (hu : (if bits data 0 2 = 3 then (s, causeBAD_VALUE) else if s.anyAdcOn c then (s, 0x20)
      else ((s.setF (pgAFE c) F.AFE_REF_CTRL_SEL (bits data 0 2)).refSettle c, 0)) = (u, cause)) (hc : cause ≠ causePRIV) :
    exec (.refSelWrite req c data) s = .next (u.wrote (pageAFE c) 0x40 req data cause) := by
  have hw : s.writeBlock (pageAFE c) 0x40 (s.wrOf (pageAFE c) req data) = (u, cause) :=
    ((if_neg hne).trans (if_pos hopen)).trans hu
  have haddr : (pgAFE c + 0x40) % 4 = 0 := by
    have := cluBase_aligned c 0x040
    unfold pgAFE
    omega
  exact congrArg Host.Outcome.next (h.plain rfl haddr (by decide) (by decide) rfl rfl hw hc)

/-- An end of settling that has come, by what it makes of the reference. -/
theorem refSettled_due {c nv t : Nat} (h : (SMap.getD s.samp.refs c {}).settle = some t) (ht : t ≤ s.tick) :
    exec (.refSettled c nv) s = .next ((if s.refInside c nv then
      ((s.refTo c ⟨none, nv⟩).setFlag (pgAFE c) F.AFE_REF_STAT_REF_READY true).pulse (pgAFE c) 0
      else s.refDeparture c nv).fcstAbort c) := by
  refine (show exec (.refSettled c nv) s = execRefSettled c nv s from rfl).trans ?_
  simp only [execRefSettled, h, if_pos ht]

/-- A new voltage of a settled reference. -/
theorem refFault_ready {c nv : Nat} (h : s.flag (pgAFE c) F.AFE_REF_STAT_REF_READY = true) :
    exec (.refFault ⟨c, nv⟩) s = .next ((if s.refInside c nv then s.refTo c ⟨none, nv⟩ else s.refDeparture c nv).fcstAbort c) :=
  congrArg (fun z => Host.Outcome.next (State.fcstAbort z c)) (if_pos h)

/-! ### The registers of a converter (R84, R87, R499) -/

/-- A write of ADC_CTRL or of a half of ADC_START, by what the page makes of it. -/
theorem State.Writes.adc {n off : Nat} (h : s.Writes (pageADC n) off req data) (ho : off = 0x40 ∨ off = 0x48 ∨ off = 0x4C)
    (hw : s.wADC (pageADC n) off (s.wrOf (pageADC n) req data) = (u, cause)) (hc : cause ≠ causePRIV) :
    s.busWrite req (pgADC n + off) 4 data = u.wrote (pageADC n) off req data cause := by
  have haddr : (pgADC n + off) % 4 = 0 := by
    have := cluBase_aligned (n / 16) (0x041 + n % 16)
    unfold pgADC
    omega
  have hslots : ((pageADC n).slots off).isSome = true := by
    rw [Page.slots_kind]
    rcases ho with rfl | rfl | rfl <;> rfl
  exact h.plain rfl haddr (by omega) (by omega) hslots rfl hw hc

/-- The converter of a page. -/
theorem pageADC_conv (n : Nat) : 16 * (pageADC n).owner + (pageADC n).inst = n := Nat.div_add_mod n 16

theorem pageADC_base (n : Nat) : (pageADC n).base = pgADC n := rfl

/-- A write of ADC_CTRL with good values, by EN as it was and as it is written. -/
theorem State.wADC_ctrl {n : Nat} {w : Wr} (hcause : s.adcCause n 0x40 w.v = 0) (hmode : bits w.v 2 2 < 2) (hlen : bits w.v 4 5 ≤ 16) :
    s.wADC (pageADC n) 0x40 w =
      let v := ((s.setFlag (pgADC n) F.ADC_CTRL_LP (bit w.v 1)).setF (pgADC n) F.ADC_CTRL_TRIG_MODE (bits w.v 2 2)).setF (pgADC n)
        F.ADC_CTRL_LEN (bits w.v 4 5)
      (if bit w.v 0 = s.flag (pgADC n) F.ADC_CTRL_EN then v else if bit w.v 0 then v.adcEnable n else v.adcDisable n, 0) := by
  have hm : ¬2 ≤ bits w.v 2 2 := by omega
  have hl : ¬16 < bits w.v 4 5 := by omega
  simp only [State.wADC, pageADC_conv, pageADC_base, hcause, hm, hl, if_true, if_false, ne_eq, not_true]
  cases bit w.v 0 <;> cases s.flag (pgADC n) F.ADC_CTRL_EN <;> rfl

/-- A write of a half of ADC_START. -/
theorem State.wADC_start {n off : Nat} (w : Wr) (ho : off = 0x48 ∨ off = 0x4C) :
    s.wADC (pageADC n) off w = s.adcStartWrite n off w.size w.v := by
  rcases ho with rfl | rfl <;> simp [State.wADC, pageADC_conv]

/-- The low half of START waits. -/
theorem State.adcStartWrite_low (n v : Nat) :
    s.adcStartWrite n 0x48 4 v = (s.setAdc n { s.adc n with startLo := some v }, 0) := by
  simp [State.adcStartWrite]

/-- BUSY alone of a converter's fields follows its state. -/
theorem State.getF_setAdc (s : State) (n : Nat) (x : AdcSt) {f : Fld}
    (h : 64 * f.off + f.lo ≠ 64 * F.ADC_STAT_BUSY.off + F.ADC_STAT_BUSY.lo) :
    (s.setAdc n x).getF (pgADC n) f = s.getF (pgADC n) f :=
  State.getF_setFlag_fld { s with samp.adcs := SMap.put s.samp.adcs n x } _ h

theorem State.flag_setAdc (s : State) (n : Nat) (x : AdcSt) {f : Fld}
    (h : 64 * f.off + f.lo ≠ 64 * F.ADC_STAT_BUSY.off + F.ADC_STAT_BUSY.lo) :
    (s.setAdc n x).flag (pgADC n) f = s.flag (pgADC n) f := congrArg (· == 1) (s.getF_setAdc n x h)

@[simp] theorem State.adc_setAdc (s : State) (n : Nat) (x : AdcSt) : (s.setAdc n x).adc n = x := SMap.getD_put_same _ _ _ _

/-- The high half brings an even START into force; a converter that is off sets no series up. -/
theorem State.adcStartWrite_high {n v full : Nat}
    (hfull : 2 ^ 32 * v + (s.adc n).startLo.getD (s.getF (pgADC n) F.ADC_START_START % 2 ^ 32) = full) (heven : full % 2 = 0)
    (hen : s.flag (pgADC n) F.ADC_CTRL_EN = false) : s.adcStartWrite n 0x4C 4 v =
      ((s.setAdc n { s.adc n with startLo := none }).setF (pgADC n) F.ADC_START_START full, 0) := by
  have hoff : ((s.setAdc n { s.adc n with startLo := none }).setF (pgADC n) F.ADC_START_START full).flag (pgADC n) F.ADC_CTRL_EN = false := by
    rw [State.flag_setF_fld _ _ (by decide), State.flag_setAdc _ _ _ (by decide), hen]
  unfold State.adcStartWrite
  rw [if_neg (by decide)]
  dsimp only
  rw [if_neg (by decide : ¬(4 : Nat) = 8), hfull, if_neg (by omega), if_neg (by simp [hoff])]

/-! ### Starts (R84, R85, R88) -/

section
variable {n : Nat}

/-- An event start that is taken: the state in which its converter is asked. -/
def State.startTaken (s : State) (n : Nat) : State :=
  (s.tookOne (lathClu (n / 16)) (128 + n % 16)).setAdc n { s.adc n with evAt := some (s.tick / 2) }

variable {k : Tok} (htok : s.headTok (lathClu (n / 16)) (128 + n % 16) = some k)
include htok

theorem State.adcEvent_running (hmode : s.getF (pgADC n) F.ADC_CTRL_TRIG_MODE ≠ 1) (hseq : (s.adc n).seqs ≠ []) :
    s.adcEvent n = ((s.overranOne (lathClu (n / 16)) (128 + n % 16)).satF (pgADC n) F.ADC_STAT_TRIG_OVR).pulse (pgADC n) 1 := by
  simp [State.adcEvent, htok, hmode, hseq]

variable (hev : (s.adc n).evAt ≠ some (s.tick / 2))
include hev

theorem State.adcEvent_timed (hmode : s.getF (pgADC n) F.ADC_CTRL_TRIG_MODE = 1) :
    s.adcEvent n = (s.startTaken n).satF (pgADC n) F.ADC_STAT_IDLE_TRIG := by
  simp [State.adcEvent, htok, hmode, hev, State.startTaken]

theorem State.adcEvent_starts (hmode : s.getF (pgADC n) F.ADC_CTRL_TRIG_MODE ≠ 1) (hseq : (s.adc n).seqs = [])
    (hheld : s.adcHeld n = false) (hbar : (s.startTaken n).startBar n = 0) : s.adcEvent n = (s.startTaken n).startSeq n
      (((s.startTaken n).count / 2 + 1) * 2 + acqTicks ((s.startTaken n).flag (pgADC n) F.ADC_CTRL_LP)) := by
  have hfree : (s.startTaken n).adcHeld n = false := hheld
  unfold State.adcEvent
  simp only [htok]
  rw [if_neg (by simp [hseq]), if_neg hev, if_neg (by simp [hmode]), ← State.startTaken, hbar]
  exact if_neg (by simp [hfree])

end

/-- What bars a start does not depend on the TIME series. -/
theorem State.startBar_next (s : State) (n : Nat) (x : Option Nat) :
    (s.setAdc n { s.adc n with next := x }).startBar n = s.startBar n := by
  have hready : (s.setAdc n { s.adc n with next := x }).flag (pgAFE (n / 16)) F.AFE_REF_STAT_REF_READY =
      s.flag (pgAFE (n / 16)) F.AFE_REF_STAT_REF_READY := by
    have hkey : fkey (pgAFE (n / 16)) F.AFE_REF_STAT_REF_READY ≠ fkey (pgADC n) F.ADC_STAT_BUSY := by
      simp only [fkey, pgAFE, pgADC, cluBase, F.AFE_REF_STAT_REF_READY, F.ADC_STAT_BUSY]
      omega
    exact congrArg (· == 1) (State.getF_setF_ne _ _ hkey)
  unfold State.startBar
  dsimp only
  rw [State.adc_setAdc, State.flag_setAdc _ _ _ (by decide), State.flag_setAdc _ _ _ (by decide), State.getF_setAdc _ _ _ (by decide),
    hready]

theorem State.adcHeld_setAdc (s : State) (n : Nat) (x : AdcSt) : (s.setAdc n x).adcHeld n = s.adcHeld n := rfl

/-- A TIME instant that has come, at a converter that may start (R85). -/
theorem State.timeInstant_starts {n i : Nat} (hnext : (s.adc n).next = some i)
    (hdue : i ≤ s.count + acqTicks (s.flag (pgADC n) F.ADC_CTRL_LP)) (hheld : s.adcHeld n = false) (hbar : s.startBar n = 0) :
    s.timeInstant n = (s.setAdc n { s.adc n with
      next := if s.getF (pgADC n) F.ADC_REPEAT_REPEAT = 0 then none else some (i + s.getF (pgADC n) F.ADC_REPEAT_REPEAT) }).startSeq n i := by
  unfold State.timeInstant
  simp only [hnext]
  rw [if_neg (by omega), State.startBar_next, hbar]
  exact if_neg (by simp [State.adcHeld_setAdc, hheld])

/-! ### A conversion and its record (R91, R496) -/

/-- What R496 says of the ideal transfer: a code lies within half an LSB of the voltage, and the ends clamp. -/
theorem adcCode_transfer (vin : Int) {ref : Nat} (href : 0 < ref) :
    adcCode vin ref 0 ≤ 16383 ∧ (0 < adcCode vin ref 0 → (2 * (adcCode vin ref 0 : Int) - 1) * ref ≤ 32768 * vin) ∧
      (adcCode vin ref 0 < 16383 → 32768 * vin < (2 * (adcCode vin ref 0 : Int) + 1) * ref) := by
  have hpos : (0 : Int) < 2000 * ref := by omega
  have hcode : adcCode vin ref 0 = (max 0 (min 16383 ((32768000 * vin + 1000 * ref) / (2000 * ref)))).toNat := by
    simp [adcCode]
  generalize hq : (32768000 * vin + 1000 * (ref : Int)) / (2000 * ref) = q at hcode
  have hlow : q * (2000 * ref) ≤ 32768000 * vin + 1000 * ref := hq ▸ Int.ediv_mul_le _ hpos.ne'
  have hhigh : 32768000 * vin + 1000 * ref < (q + 1) * (2000 * ref) := hq ▸ Int.lt_ediv_add_one_mul_self _ hpos
  refine ⟨by omega, fun h => ?_, fun h => ?_⟩
  · have hk : (adcCode vin ref 0 : Int) ≤ q := by omega
    nlinarith [mul_le_mul_of_nonneg_right hk hpos.le]
  · have hk : q ≤ (adcCode vin ref 0 : Int) := by omega
    nlinarith [mul_le_mul_of_nonneg_right hk hpos.le]

/-- Memory and the records on the sample buses. -/
def State.records (s : State) : Memory × SMap (List SRec) := (s.mem, s.samp.bus)

/-- No event changes them. -/
theorem State.records_of_eventFrame {s t : State} (h : t.eventFrame = s.eventFrame) : t.records = s.records :=
  (congrArg State.records h :)

@[simp] theorem State.records_pulse (s : State) (b i n : Nat) : (s.pulse b i n).records = s.records :=
  State.records_of_eventFrame (s.pulse_eventFrame b i n)

@[simp] theorem State.records_produce (s : State) (l prod : Nat) (aligned : Bool) (srcPer : Nat) (mark : Bool) :
    (s.produce l prod aligned srcPer mark).records = s.records :=
  State.records_of_eventFrame (s.produce_eventFrame l prod aligned srcPer mark)

@[simp] theorem State.records_klogRecord (s : State) (c ty flags src tick : Nat) (payload : List Nat) :
    (s.klogRecord c ty flags src tick payload).records = s.records :=
  State.records_of_eventFrame (s.klogRecord_eventFrame c ty flags src tick payload)

@[simp] theorem State.records_setAdc (s : State) (n : Nat) (x : AdcSt) : (s.setAdc n x).records = s.records := rfl

@[simp] theorem State.records_setF (s : State) (b : Nat) (f : Fld) (v : Nat) : (s.setF b f v).records = s.records := rfl

@[simp] theorem State.records_incF (s : State) (b : Nat) (f : Fld) (n : Nat) : (s.incF b f n).records = s.records := rfl

@[simp] theorem State.records_satF (s : State) (b : Nat) (f : Fld) (n : Nat) : (s.satF b f n).records = s.records := rfl

theorem State.records_seqDone (s : State) (n : Nat) : (s.seqDone n).records = s.records := by
  rw [State.seqDone, State.records_pulse, State.records_produce]

theorem State.records_adcDown (s : State) (n : Nat) : (s.adcDown n).records = s.records := by
  unfold State.adcDown State.resetPageAt
  dsimp only
  split
  · rfl
  · split
    · split <;> rfl
    · rfl

/-- The end of sequences puts nothing on a sample bus. -/
theorem State.records_endSeqs (s : State) (n : Nat) : (s.endSeqs n).records = s.records := by
  rw [State.endSeqs, State.records_adcDown, foldl_keeps State.records fun u _ => State.records_seqDone u n]
  rfl

/-- The record of the conversion in progress (R91). -/
def State.convRecord (s : State) (n : Nat) (vin dev : Int) (q : SeqSt) : SRec :=
  let ch := (bit q.chan q.done).toNat
  let b := pgADC n
  let y := correct (adcCode vin (s.refNv (n / 16)) dev) (sgn 16 (s.getF b (F.ADC_CORR_OFS ch))) (s.getF b (F.ADC_CORR_GAIN ch))
  ⟨2 * (n % 16) + ch, wrap 16 y.1, q.refBad, q.inst q.done⟩

/-- A record put on a sample bus. -/
theorem State.records_push (s : State) (c : Nat) (f : List SRec → List SRec) :
    ({ s with samp.bus := SMap.upd s.samp.bus c [] f } : State).records = (s.records.1, SMap.upd s.records.2 c [] f) := rfl

/-- A conversion that completes puts its record on the cluster's sample bus, and leaves the other buses and memory. -/
theorem State.records_convDone {n : Nat} {vin dev : Int} {q : SeqSt} {rest : List SeqSt} (hseq : (s.adc n).seqs = q :: rest)
    (hdue : q.inst q.done + convTicks q.lp ≤ s.count) (hgo : q.done < q.stopAt) :
    (s.convDone n vin dev).records = (s.mem, SMap.upd s.samp.bus (n / 16) [] (· ++ [s.convRecord n vin dev q])) := by
  unfold State.convDone
  simp only [hseq]
  rw [if_neg (by omega), State.records_endSeqs]
  simp only [apply_ite State.records, State.records_pulse, ite_self, State.records_produce, State.records_klogRecord,
    State.records_push, State.records_satF, State.records_incF, State.records_setF, State.records_setAdc]
  rfl

/-- The delivery of the oldest record of a sample bus (R92). -/
theorem State.sampleDelivery_cons {c : Nat} {r : SRec} {rest : List SRec} (h : SMap.getD s.samp.bus c [] = r :: rest) :
    s.sampleDelivery c =
      let v : State := { s with samp.bus := SMap.put s.samp.bus c rest }
      if r.refBad then v else (List.range 10).foldl (fun z j =>
        z.triggerAll (10 * c + j) 1 r.ain [65536 * r.value, r.stamp % 2 ^ 32] z.tick) (v.setIQ c true r.ain (65536 * sgn 16 r.value)) := by
  unfold State.sampleDelivery
  simp only [h]

/-! ### A result read (R94) -/

/-- The read of a word that reaches its page, by the value that the page answers and the effect of the read. -/
theorem State.Reads.busRead {p : Page} {off v : Nat} (h : s.Reads p off req) (ha : (p.base + off) % 4 = 0) (hhi : off < 0x800)
    (hv : s.readPage p off 4 req false = (v, 0)) (he : s.readEffect p off 4 req = (u, none, 0)) :
    s.busRead req (p.base + off) 4 = u.finish p 0 ⟨req, p.base + off, 4, false, 0⟩ v := by
  have hz : okSize ⟨req, p.base + off, 4, false, 0⟩ = true := (okSize_iff _).mpr (.inl ⟨rfl, ha⟩)
  rw [State.busRead, State.busAccess_page h]
  simp only [State.pageAccess, hz, Nat.not_le.mpr hhi, hv, he, decide_false, Bool.not_true, Bool.false_eq_true, if_false]
  rfl

/-- A word that shows a part of one field, which only hardware writes. -/
theorem State.wordNow_alone {p : Page} {off : Nat} {x : Slot} (hlive : s.liveWord p off req = none) (hslots : p.slots off = some [x])
    (hacc : x.fld.acc = .rs) (hpos : x.pos = 0) : s.wordNow p off req = bits (s.liveField p x.fld req) x.part x.w := by
  rw [State.wordNow, hlive, hslots]
  simp [State.shown, hacc, hpos]

/-- What a read of ADC_RESn finds. -/
theorem State.read32_result {n ch : Nat} (hr : s.pageReady (pageADC n) = true) (hch : ch < 2) (quiet : Bool) :
    s.read32 (pageADC n) (0x68 + 4 * ch) req quiet = (s.getF (pgADC n) (F.ADC_RES_RESULT ch), 0) := by
  have hslots : (pageADC n).slots (0x68 + 4 * ch) = some [⟨F.ADC_RES_RESULT ch, 0, 32, 0⟩] := by
    rw [Page.slots_kind]
    obtain rfl | rfl : ch = 0 ∨ ch = 1 := by omega
    all_goals rfl
  have hcounter : wordCounter (pageADC n) (0x68 + 4 * ch) = none := by
    rw [wordCounter, hslots]
    rfl
  have hlive : s.liveField (pageADC n) (F.ADC_RES_RESULT ch) req = s.getF (pgADC n) (F.ADC_RES_RESULT ch) :=
    if_neg (by simp only [F.ADC_RES_RESULT]; omega)
  have hword : s.wordNow (pageADC n) (0x68 + 4 * ch) req = s.getF (pgADC n) (F.ADC_RES_RESULT ch) := by
    refine (State.wordNow_alone rfl hslots rfl rfl).trans ?_
    rw [bits_zero, hlive]
    exact Nat.mod_eq_of_lt (s.getF_lt _ _)
  rw [State.read32, if_neg (by omega), if_neg (by simp [hr]), hslots]
  simp only [hcounter, hword]

/-- A read of ADC_RESn returns the result, and the reader's tick latch takes its record's tick. -/
theorem adcResultRead_latches {n ch : Nat} (h : s.Reads (pageADC n) (0x68 + 4 * ch) req) (hch : ch < 2) :
    exec (.adcResultRead req n ch) s = .next ((s.readRes n ch req).finish (pageADC n) 0
      ⟨req, pgADC n + (0x68 + 4 * ch), 4, false, 0⟩ (s.getF (pgADC n) (F.ADC_RES_RESULT ch))) := by
  have haddr : (pgADC n + (0x68 + 4 * ch)) % 4 = 0 := by
    have := cluBase_aligned (n / 16) (0x041 + n % 16)
    unfold pgADC
    omega
  have hconv : 16 * (n / 16) + n % 16 = n := Nat.div_add_mod n 16
  have heffect : s.readEffect (pageADC n) (0x68 + 4 * ch) 4 req = (s.readRes n ch req, none, 0) := by
    unfold State.readEffect
    rw [if_neg (by simp [h.ready]; omega)]
    obtain rfl | rfl : ch = 0 ∨ ch = 1 := by omega
    · simp [pageADC, hconv]
    · simp [pageADC, hconv]
  exact congrArg Host.Outcome.next (h.busRead haddr (by omega) (State.read32_result h.ready hch false) heffect)

end

/-- Settles O28: each write by what its page makes of it, each start by what bars it, and a conversion by the record it leaves. -/
theorem converters : Obligations.Converters := by
  unfold Obligations.Converters
  refine ⟨?_, ?_, ?_, ?_, ?_, ?_, ?_, ?_, ?_, ?_, ?_, ?_, ?_, ?_⟩
  · intro s req c data p b v h hopen hne
    refine ⟨fun h3 hon => ?_, fun h3 => ?_, fun h3 hon => ?_⟩
    · exact refSelWrite_reaches h hopen hne ((if_neg h3).trans (if_neg (by simp [hon]))) (by decide)
    · exact refSelWrite_reaches h hopen hne (if_pos h3) (by decide)
    · exact refSelWrite_reaches h hopen hne ((if_neg h3).trans (if_pos hon)) (by decide)
  · intro s c nv t h ht
    exact ⟨fun hin => by rw [refSettled_due h ht, if_pos hin], fun hout => by rw [refSettled_due h ht, if_neg (by simp [hout])]⟩
  · intro s c nv h
    refine ⟨fun hin => by rw [refFault_ready h, if_pos hin], fun hout => ?_⟩
    rw [refFault_ready h, if_neg (by simp [hout])]
    rfl
  · exact fun s c h => if_pos h
  · intro s c nv hsettle hready hin
    exact congrArg Host.Outcome.next (if_pos (by simp [hsettle, hready, hin]))
  · intro s req n data p b u h hn hcause hmode hlen
    exact congrArg Host.Outcome.next (h.adc (.inl rfl) (State.wADC_ctrl (w := s.wrOf p req data) hcause hmode hlen) (by decide))
  · intro s n t hp ht
    refine (show exec (.adcPowered n) s = execAdcPowered n s from rfl).trans ?_
    simp only [execAdcPowered, hp, if_pos ht]
  · intro s req n data p full hn
    refine ⟨fun h => ?_, fun h heven hen => ?_⟩
    · exact congrArg Host.Outcome.next
        (h.adc (.inr (.inl rfl)) ((State.wADC_start _ (.inl rfl)).trans (State.adcStartWrite_low n data)) (by decide))
    · exact congrArg Host.Outcome.next
        (h.adc (.inr (.inr rfl)) ((State.wADC_start _ (.inr rfl)).trans (State.adcStartWrite_high rfl heven hen)) (by decide))
  · intro s n k b l u htok
    exact ⟨fun hmode hseq hev hheld hbar => congrArg Host.Outcome.next (State.adcEvent_starts htok hev hmode hseq hheld hbar),
      fun hmode hseq => congrArg Host.Outcome.next (State.adcEvent_running htok hmode hseq),
      fun hmode hev => congrArg Host.Outcome.next (State.adcEvent_timed htok hev hmode)⟩
  · intro s n i b rep hnext hdue hheld hbar
    exact congrArg Host.Outcome.next (State.timeInstant_starts hnext hdue hheld hbar)
  · intro s n v q rest b inst ch y hseq hdue hgo hn
    have hrec := State.records_convDone (vin := v.vin) (dev := v.dev) hseq hdue (by omega)
    refine ⟨s.convDone n v.vin v.dev, rfl, ?_, congrArg Prod.fst hrec⟩
    exact (congrArg (fun z => SMap.getD z.2 (n / 16) []) hrec).trans (SMap.getD_put_same _ _ _ _)
  · exact fun vin ref href => adcCode_transfer vin href
  · intro s c r rest hbus u
    exact ⟨fun hbad => congrArg Host.Outcome.next ((State.sampleDelivery_cons hbus).trans (if_pos hbad)),
      fun hgood => congrArg Host.Outcome.next ((State.sampleDelivery_cons hbus).trans (if_neg (by simp [hgood])))⟩
  · intro s req n ch p off x h hn hch
    exact adcResultRead_latches h hch

end Sys2Proof.Machine
end

section
/-! SUPPORT. Comparators and event paths: the writes of a comparator's registers, its output, and the samples of an event path (R96 to R100,
R160). -/

namespace Sys2Proof.Machine

section
variable {s u : State} {req data cause k : Nat}

/-! ### The registers of a comparator (R98, R99) -/

/-- The words of CMP_CTRL and CMP_THR are registers. -/
theorem cmprSlots (k : Nat) {m r : Nat} (hm : m < 4) (hr : r = 0 ∨ r = 4) : ((pageCMPR k).slots (0x40 + r + 0x10 * m)).isSome = true := by
  rw [Page.slots_kind]
  rcases hr with rfl | rfl
  · exact all_below (m := 4) (f := fun m => ((⟨.cmpr, 0, 0, 0⟩ : Page).slots (0x40 + 0x10 * m)).isSome) rfl hm
  · exact all_below (m := 4) (f := fun m => ((⟨.cmpr, 0, 0, 0⟩ : Page).slots (0x44 + 0x10 * m)).isSome) rfl hm

/-- A write of one of these words, by what the page makes of it. -/
theorem State.Writes.cmpr {r : Nat} (h : s.Writes (pageCMPR k) (0x40 + r + 0x10 * (k % 4)) req data) (hr : r = 0 ∨ r = 4)
    (hw : s.wCMPR (pageCMPR k) (0x40 + r + 0x10 * (k % 4)) (s.wrOf (pageCMPR k) req data) = (u, cause)) (hc : cause ≠ causePRIV) :
    s.busWrite req (pgCMPR k + (0x40 + r + 0x10 * (k % 4))) 4 data = u.wrote (pageCMPR k) (0x40 + r + 0x10 * (k % 4)) req data cause := by
  have haddr : (pgCMPR k + (0x40 + r + 0x10 * (k % 4))) % 4 = 0 := by
    have := cluBase_aligned (k / 16) (0x058 + k % 16 / 4)
    unfold pgCMPR
    omega
  exact h.plain rfl haddr (by omega) (by omega) (cmprSlots k (Nat.mod_lt _ (by decide)) hr) rfl hw hc

/-- A write of CMP_CTRL at the comparator that the offset names. -/
theorem State.wCMPR_ctrl (w : Wr) : s.wCMPR (pageCMPR k) (0x40 + 0x10 * (k % 4)) w =
    let en := s.flag (pgCMPR k) (F.CMP_CTRL_EN (k % 4))
    if en && !bit w.v 0 && w.opn && s.sourceArmed (k / 16) (k % 16) then (s, 0x20)
    else
      let a := s.put (pageCMPR k) w (0x40 + 0x10 * (k % 4)) [F.CMP_CTRL_EN (k % 4)]
      if bit w.v 0 = en then (a.1.sourceLook (k / 16) (k % 16), a.2)
      else andThen a fun s => w.act s fun s => ((s.setFlag (pgCMPR k) (F.CMP_CTRL_EN (k % 4)) (!en)).cmpEnable k (!en), 0) := by
  have hm : (0x40 + 0x10 * (k % 4) - 0x40) / 0x10 = k % 4 := by omega
  have hr : (0x40 + 0x10 * (k % 4)) % 0x10 = 0 := by omega
  have hk : 16 * (k / 16) + k % 16 / 4 * 4 + k % 4 = k := by omega
  simp only [State.wCMPR, pageCMPR, hm, hr, hk, if_true]

/-- A write of CMP_THR at the comparator that the offset names. -/
theorem State.wCMPR_thr (w : Wr) : s.wCMPR (pageCMPR k) (0x44 + 0x10 * (k % 4)) w = (s.thrWrite k (bits w.v 0 10), 0) := by
  have hm : (0x44 + 0x10 * (k % 4) - 0x40) / 0x10 = k % 4 := by omega
  have hr : (0x44 + 0x10 * (k % 4)) % 0x10 = 4 := by omega
  have hk : 16 * (k / 16) + k % 16 / 4 * 4 + k % 4 = k := by omega
  simp [State.wCMPR, pageCMPR, hm, hr, hk]

/-- A write of EN that leaves it: the other fields take effect at once. -/
theorem State.wCMPR_enSame {w : Wr} (hput : (s.put (pageCMPR k) w (0x40 + 0x10 * (k % 4)) [F.CMP_CTRL_EN (k % 4)]).2 = 0)
    (hen : bit w.v 0 = s.flag (pgCMPR k) (F.CMP_CTRL_EN (k % 4))) : s.wCMPR (pageCMPR k) (0x40 + 0x10 * (k % 4)) w =
      ((s.put (pageCMPR k) w (0x40 + 0x10 * (k % 4)) [F.CMP_CTRL_EN (k % 4)]).1.sourceLook (k / 16) (k % 16), 0) := by
  rw [State.wCMPR_ctrl]
  simp [hen, hput]

/-- A write of EN that changes it, with the lock open: refused only where it would switch off an armed source. -/
theorem State.wCMPR_enChanges {w : Wr} (hput : (s.put (pageCMPR k) w (0x40 + 0x10 * (k % 4)) [F.CMP_CTRL_EN (k % 4)]).2 = 0)
    (hen : bit w.v 0 ≠ s.flag (pgCMPR k) (F.CMP_CTRL_EN (k % 4))) (hopen : w.opn = true)
    (harm : s.flag (pgCMPR k) (F.CMP_CTRL_EN (k % 4)) = true → s.sourceArmed (k / 16) (k % 16) = false) :
    s.wCMPR (pageCMPR k) (0x40 + 0x10 * (k % 4)) w =
      (((s.put (pageCMPR k) w (0x40 + 0x10 * (k % 4)) [F.CMP_CTRL_EN (k % 4)]).1.setFlag (pgCMPR k) (F.CMP_CTRL_EN (k % 4))
        (!s.flag (pgCMPR k) (F.CMP_CTRL_EN (k % 4)))).cmpEnable k (!s.flag (pgCMPR k) (F.CMP_CTRL_EN (k % 4))), 0) := by
  have hfree : (s.flag (pgCMPR k) (F.CMP_CTRL_EN (k % 4)) && !bit w.v 0 && w.opn && s.sourceArmed (k / 16) (k % 16)) = false := by
    cases hon : s.flag (pgCMPR k) (F.CMP_CTRL_EN (k % 4)) with
    | false => rfl
    | true => rw [harm hon, Bool.and_false]
  rw [State.wCMPR_ctrl]
  dsimp only
  rw [if_neg (by simp [hfree]), if_neg hen]
  simp [andThen, Wr.act, hopen, hput, firstCause]

theorem State.wCMPR_enRefused {w : Wr} (hon : s.flag (pgCMPR k) (F.CMP_CTRL_EN (k % 4)) = true) (hoff : bit w.v 0 = false)
    (hopen : w.opn = true) (harm : s.sourceArmed (k / 16) (k % 16) = true) :
    s.wCMPR (pageCMPR k) (0x40 + 0x10 * (k % 4)) w = (s, 0x20) :=
  (State.wCMPR_ctrl w).trans (if_pos (by simp [hon, hoff, hopen, harm]))

/-! ### Thresholds (R98) -/

/-- No field of CMP_THR and CMP_STAT is LOAD. -/
theorem State.flag_setF_load (s : State) (k : Nat) {f : Fld} (v : Nat) (hf : f.off ≠ 0x40 + 0x10 * (k % 4)) (hlo : f.lo < 64) :
    (s.setF (pgCMPR k) f v).flag (pgCMPR k) (F.CMP_CTRL_LOAD (k % 4)) = s.flag (pgCMPR k) (F.CMP_CTRL_LOAD (k % 4)) :=
  State.flag_setF_fld s v (by simp only [F.CMP_CTRL_LOAD]; omega)

/-- Without LOAD a threshold comes into use at once. -/
theorem State.thrWrite_now {v : Nat} (hload : s.flag (pgCMPR k) (F.CMP_CTRL_LOAD (k % 4)) = false) (hw : (s.cmp k).waits = false) :
    s.thrWrite k v = (s.setF (pgCMPR k) (F.CMP_THR_THR_SH (k % 4)) v).thrTo k v (s.cmp k) := by
  have hkept := (s.flag_setF_load k (f := F.CMP_THR_THR_SH (k % 4)) v (by simp only [F.CMP_THR_THR_SH]; omega) (by decide : 0 < 64)).trans hload
  unfold State.thrWrite
  simp only [hw, Bool.false_eq_true, if_false]
  exact if_neg (by simp [hkept])

/-- With LOAD it waits for the load event, and a threshold that waits already is lost. -/
theorem State.thrWrite_waits {v : Nat} (hload : s.flag (pgCMPR k) (F.CMP_CTRL_LOAD (k % 4)) = true) : s.thrWrite k v =
    ((if (s.cmp k).waits then s.satF (pgCMPR k) (F.CMP_STAT_LOADS_LOST (k % 4)) else s).setF (pgCMPR k) (F.CMP_THR_THR_SH (k % 4)) v).setCmp k
      { s.cmp k with waits := true } := by
  refine if_pos ?_
  rw [State.flag_setF_load _ _ _ (by simp only [F.CMP_THR_THR_SH]; omega) (by decide : 0 < 64)]
  split
  · exact (State.flag_setF_load (s.noteInc _ _ _) _ _ (by simp only [F.CMP_STAT_LOADS_LOST]; omega) (by decide : 8 < 64)).trans hload
  · exact hload

/-- The load event brings the waiting threshold into use. -/
theorem thresholdLoadEvent_loads {tok : Tok} (htok : s.headTok (lathClu (k / 16)) (144 + k % 16) = some tok)
    (hload : s.flag (pgCMPR k) (F.CMP_CTRL_LOAD (k % 4)) = true) (hw : (s.cmp k).waits = true) :
    exec (.thresholdLoadEvent k) s =
      let v := s.tookOne (lathClu (k / 16)) (144 + k % 16)
      .next ((v.thrTo k (v.getF (pgCMPR k) (F.CMP_THR_THR_SH (k % 4))) (v.cmp k)).fcstAbort (k / 16)) := by
  refine (show exec (.thresholdLoadEvent k) s = execThresholdLoadEvent k s from rfl).trans ?_
  unfold execThresholdLoadEvent
  simp only [htok]
  exact congrArg (fun z => Host.Outcome.next (State.fcstAbort z (k / 16))) (if_pos ⟨hload, hw⟩)

end

/-! ### The comparison (R96) -/

/-- The output of a comparator with POL = 0, for the three places of the input: above the threshold, below it by more than the
hysteresis, and between; with POL = 1 the same upside down. -/
theorem cmpOut_levels (was : Bool) (v : Int) (thr ref hyst : Nat) :
    let x := 1024 * v
    let t : Int := ((thr * ref : Nat) : Int)
    let h : Int := ((1024 * hyst : Nat) : Int)
    (t < x → cmpOut false was v thr ref hyst = true) ∧ (x < t - h → cmpOut false was v thr ref hyst = false) ∧
    (t - h ≤ x → x ≤ t → cmpOut false was v thr ref hyst = was) ∧
    (x < t → cmpOut true was v thr ref hyst = true) ∧ (t + h < x → cmpOut true was v thr ref hyst = false) ∧
    (t ≤ x → x ≤ t + h → cmpOut true was v thr ref hyst = was) := by
  intro x t h
  have hpos : 0 ≤ h := Int.natCast_nonneg _
  have hlow : cmpOut false was v thr ref hyst = if t < x then true else if x < t - h then false else was := rfl
  have hhigh : cmpOut true was v thr ref hyst = if x < t then true else if t + h < x then false else was := rfl
  rw [hlow, hhigh]
  refine ⟨fun h1 => if_pos h1, fun h1 => ?_, fun h1 h2 => ?_, fun h1 => if_pos h1, fun h1 => ?_, fun h1 h2 => ?_⟩
  · rw [if_neg (by omega), if_pos h1]
  · rw [if_neg (by omega), if_neg (by omega)]
  · rw [if_neg (by omega), if_pos h1]
  · rw [if_neg (by omega), if_neg (by omega)]

/-! ### The samples of an event path (R100, R160) -/

/-- Where the samples from number `a` to number `n` show `lv'`, and the one before them does not, the last `filt` + 1 samples show `lv`
just when the run is of that level and long enough. -/
theorem run_settled {sample : Nat → Bool} {a n filt : Nat} {lv' lv : Bool} (ha : a ≤ n) (hrun : ∀ i, a ≤ i → i ≤ n → sample i = lv')
    (hstart : a = 0 ∨ sample (a - 1) ≠ lv') :
    (lv' = lv ∧ filt + 1 + a ≤ n + 1) ↔ filt ≤ n ∧ ∀ j ≤ filt, sample (n - j) = lv := by
  constructor
  · rintro ⟨rfl, hlen⟩
    exact ⟨by omega, fun j hj => hrun _ (by omega) (by omega)⟩
  · rintro ⟨hfilt, hall⟩
    have hlv : lv' = lv := (hrun n ha (Nat.le_refl n)).symm.trans (hall 0 (Nat.zero_le _))
    refine ⟨hlv, ?_⟩
    by_contra hshort
    have hbefore := hall (n - (a - 1)) (by omega)
    rw [show n - (n - (a - 1)) = a - 1 by omega] at hbefore
    exact hstart.elim (by omega) fun hne => hne (hbefore.trans hlv.symm)

/-- The number of the first sample at or after a tick: samples before it come before the tick. -/
theorem firstSample_le_iff {at_ per : Nat} (hper : 0 < per) (i : Nat) : (at_ + per - 1) / per ≤ i ↔ at_ ≤ per * i := by
  rw [Nat.div_le_iff_le_mul_add_pred hper]
  omega

/-- The filter's account of a path agrees with its history: the level since `at_` is the present one, and the samples before are those
that it has noted. -/
theorem PathSt.settled_iff {level : Nat → Bool} {x : PathSt} {per filt now : Nat} {lv : Bool} (hper : 0 < per) (hat : x.at_ ≤ now)
    (hnow : ∀ u, x.at_ ≤ u → u ≤ now → level u = level now)
    (hsince : x.since < (x.at_ + per - 1) / per ∨ ((x.at_ + per - 1) / per = 0 ∧ x.since = 0))
    (hold : ∀ j, x.since ≤ j → j < (x.at_ + per - 1) / per → level (per * j) = x.lv)
    (hbefore : x.since = 0 ∨ level (per * (x.since - 1)) ≠ x.lv) :
    x.settled per filt (level now) lv now = true ↔ filt ≤ now / per ∧ ∀ j ≤ filt, level (per * (now / per - j)) = lv := by
  generalize hf : (x.at_ + per - 1) / per = first at hsince hold
  have hnew : ∀ i, first ≤ i → i ≤ now / per → level (per * i) = level now := fun i hi hi' =>
    hnow _ ((firstSample_le_iff hper i).mp (hf ▸ hi)) (Nat.mul_comm i per ▸ (Nat.le_div_iff_mul_le hper).mp hi')
  have hfirst : first ≤ now / per + 1 := by
    rw [← hf, firstSample_le_iff hper]
    exact hat.trans (Nat.lt_mul_div_succ now hper).le
  unfold PathSt.settled PathSt.upTo
  simp only [hf, Bool.and_eq_true, beq_iff_eq, decide_eq_true_eq]
  generalize now / per = n at hnew hfirst ⊢
  split
  · next hcase =>
    refine run_settled (sample := fun i => level (per * i)) (by omega) (fun i hi hi' => ?_) hbefore
    rcases Nat.lt_or_ge i first with hlt | hge
    · exact hold i hi hlt
    · exact (hnew i hge hi').trans (hcase.resolve_left (by omega)).symm
  · next hcase =>
    obtain ⟨hlen, hne⟩ := not_or.mp hcase
    refine run_settled (sample := fun i => level (per * i)) (by omega) hnew ?_
    rcases Nat.eq_zero_or_pos first with h0 | hpos
    · exact .inl h0
    · exact .inr (by rw [hold (first - 1) (by omega) (by omega)]; exact hne)

/-! ### Activations (R100, R160) -/

section
variable {s : State} {k : Nat}

/-- A comparator's event path accepts the active level. -/
theorem State.pathActive_cmp (hout : s.flag (pgCMPR k) (F.CMP_STAT_OUT (k % 4)) = false)
    (hset : s.pathSettled (k / 16) (k % 16) true = true) : s.pathActive (k / 16) (k % 16) =
      (((s.setFlag (pgCMPR k) (F.CMP_STAT_OUT (k % 4)) true).produce (lathClu (k / 16)) (160 + k % 16) true 2).satF (pgCMPR k)
        (F.CMP_STAT_ACT_CNT (k % 4))).pulse (pgCMPR k) (k % 4) := by
  have hk : 16 * (k / 16) + k % 16 = k := Nat.div_add_mod k 16
  have hm : k % 16 % 4 = k % 4 := by omega
  have hlt : k % 16 < 16 := Nat.mod_lt k (by decide)
  simp [State.pathActive, State.pathLevel, State.setPathLevel, hlt, hk, hm, hout, hset]

/-- A TRIP pin's event path accepts the active level. -/
theorem State.pathActive_trip {c m : Nat} (hlevel : s.flag (pgTRIP c) (F.TRIP_STAT_LEVEL m) = false)
    (hset : s.pathSettled c (16 + m) true = true) : s.pathActive c (16 + m) =
      (((s.setFlag (pgTRIP c) (F.TRIP_STAT_LEVEL m) true).produce (lathClu c) (176 + m) true 2).satF (pgTRIP c)
        (F.TRIP_STAT_ACT_CNT m)).pulse (pgTRIP c) m := by
  have hprod : 160 + (16 + m) = 176 + m := by omega
  simp [State.pathActive, State.pathLevel, State.setPathLevel, hlevel, hset, hprod]

end

end Sys2Proof.Machine
end

section
/-! SUPPORT. Captures: what is captured, the entries of a capture FIFO and what a read finds (R101 to R104). -/

namespace Sys2Proof.Machine

section
variable {s : State} {k : Nat}

/-! ### An accepted level (R101, R102) -/

/-- A level is accepted where it is new and has held for FILT ticks since the last one was accepted. -/
theorem State.capAccepts_iff {level lv : Bool} {t : Nat} (h : SMap.get? s.samp.capIn k = some (lv, t)) :
    s.capAccepts k level = true ↔ level ≠ lv ∧ t + 1 + s.getF (pgCAPT (k / 16)) (F.CAP_CTRL_FILT (k % 16)) ≤ s.tick := by
  simp [State.capAccepts, h]

/-- The state that holds the accepted level, with the FIFO brought up to date. -/
def State.capTaken (s : State) (k : Nat) (level : Bool) : State :=
  ({ s with samp.capIn := SMap.put s.samp.capIn k (level, s.tick) } : State).capSettle k

/-- An accepted change of the edge that EDGE selects is captured. -/
theorem State.capture_takes {level : Bool} (hacc : s.capAccepts k level = true)
    (hen : s.flag (pgCAPT (k / 16)) (F.CAP_CTRL_EN (k % 16)) = true)
    (hedge : s.getF (pgCAPT (k / 16)) (F.CAP_CTRL_EDGE (k % 16)) = 2 ∨
      (level = true ∧ s.getF (pgCAPT (k / 16)) (F.CAP_CTRL_EDGE (k % 16)) = 0) ∨
      (level = false ∧ s.getF (pgCAPT (k / 16)) (F.CAP_CTRL_EDGE (k % 16)) = 1)) :
    s.capture k level =
      let b := pgCAPT (k / 16)
      let m := k % 16
      let v := s.capTaken k level
      let e := (s.count - s.getF b (F.CAP_CTRL_FILT m)) % 2 ^ 62 + 2 ^ 62 * level.toNat + 2 ^ 63
      (((v.setCap k { v.cap k with new := (v.cap k).new ++ [e], cyc := v.pageCycle b }).incF b (F.CAP_COUNT m)).pulse b m).produce
        (lathClu (k / 16)) (192 + m) true 2 := by
  have htakes : (s.flag (pgCAPT (k / 16)) (F.CAP_CTRL_EN (k % 16)) && (s.getF (pgCAPT (k / 16)) (F.CAP_CTRL_EDGE (k % 16)) == 2 ||
      (level && s.getF (pgCAPT (k / 16)) (F.CAP_CTRL_EDGE (k % 16)) == 0) ||
      (!level && s.getF (pgCAPT (k / 16)) (F.CAP_CTRL_EDGE (k % 16)) == 1))) = true := by
    simpa [hen, or_assoc] using hedge
  unfold State.capture
  dsimp only
  rw [htakes, if_neg (by simp [hacc]), if_neg (by decide)]
  rfl

/-! ### Entries (R104) -/

theorem State.cap_setCap_other (s : State) {j : Nat} (x : CapSt) (h : j ≠ k) : (s.setCap j x).cap k = s.cap k :=
  SMap.getD_put_other _ _ _ h.symm

/-- An entry enters a FIFO with room. -/
theorem State.capPush_room {e : Nat} (h : (s.cap k).q.length < 2) :
    s.capPush k e = s.setCap k { s.cap k with q := (s.cap k).q ++ [e] } := by
  unfold State.capPush
  dsimp only
  split
  · next hq => simp [hq] at h
  · rfl

/-- An entry overwrites the newest of two. -/
theorem State.capPush_full {a d e : Nat} (h : (s.cap k).q = [a, d]) : s.capPush k e =
    ((s.setCap k { s.cap k with q := [a, e] }).setFlag (pgCAPT (k / 16)) (F.CAP_STAT_CAP_OVR (k % 16)) true).satF (pgCAPT (k / 16))
      (F.CAP_STAT_LOST (k % 16)) := by
  unfold State.capPush
  simp only [h]

theorem State.setCap_setCap (s : State) (k : Nat) (x y : CapSt) : (s.setCap k x).setCap k y = s.setCap k y := by
  simp [State.setCap, SMap.put_put]

section
variable {e : Nat} (hnew : (s.cap k).new = [e]) (hcyc : (s.cap k).cyc ≠ s.pageCycle (pgCAPT (k / 16)))
include hnew hcyc

/-- What was captured in a cycle that has ended enters the FIFO. -/
theorem State.capSettle_enters : s.capSettle k = (s.setCap k { s.cap k with new := [] }).capPush k e := by
  refine (if_neg (by simp [hnew, hcyc])).trans ?_
  rw [hnew]
  rfl

theorem State.capSettle_room (h : (s.cap k).q.length < 2) :
    s.capSettle k = s.setCap k { s.cap k with q := (s.cap k).q ++ [e], new := [] } := by
  rw [State.capSettle_enters hnew hcyc, State.capPush_room (by rw [State.cap_setCap]; exact h), State.cap_setCap, State.setCap_setCap]

theorem State.capSettle_full {a d : Nat} (h : (s.cap k).q = [a, d]) : s.capSettle k =
    ((s.setCap k { s.cap k with q := [a, e], new := [] }).setFlag (pgCAPT (k / 16)) (F.CAP_STAT_CAP_OVR (k % 16)) true).satF
      (pgCAPT (k / 16)) (F.CAP_STAT_LOST (k % 16)) := by
  rw [State.capSettle_enters hnew hcyc, State.capPush_full (a := a) (d := d) (by rw [State.cap_setCap]; exact h), State.cap_setCap,
    State.setCap_setCap]

end

/-- The loss of an entry shows in CAP_OVR and in LOST. -/
theorem State.capLoss_shows (s : State) (b m : Nat) :
    let u := (s.setFlag b (F.CAP_STAT_CAP_OVR m) true).satF b (F.CAP_STAT_LOST m)
    u.flag b (F.CAP_STAT_CAP_OVR m) = true ∧ (s.getF b (F.CAP_STAT_LOST m) < 2 ^ (F.CAP_STAT_LOST m).w - 1 →
      u.getF b (F.CAP_STAT_LOST m) = s.getF b (F.CAP_STAT_LOST m) + 1) := by
  have hapart : 64 * (F.CAP_STAT_LOST m).off + (F.CAP_STAT_LOST m).lo ≠ 64 * (F.CAP_STAT_CAP_OVR m).off + (F.CAP_STAT_CAP_OVR m).lo := by
    simp only [F.CAP_STAT_LOST, F.CAP_STAT_CAP_OVR]
    omega
  refine ⟨?_, fun hlt => ?_⟩
  · exact (State.flag_setF_fld (State.noteInc _ b _ 1) _ hapart.symm).trans (State.flag_setFlag s b _ true rfl)
  · refine (State.getF_setF _ _ _ _).trans ?_
    rw [State.getF_setFlag_fld s true hapart, satInc, Nat.min_eq_right (by omega), Nat.mod_eq_of_lt (by omega)]

/-! ### A FIFO that is up to date -/

/-- Nothing captured in an earlier cycle waits outside the FIFO. -/
def State.CapSettled (s : State) (k : Nat) : Prop := (s.cap k).new = [] ∨ (s.cap k).cyc = s.pageCycle (pgCAPT (k / 16))

theorem State.capSettle_of_settled (h : s.CapSettled k) : s.capSettle k = s := if_pos h

theorem State.capPush_new (s : State) (k e : Nat) : ((s.capPush k e).cap k).new = (s.cap k).new := by
  unfold State.capPush
  dsimp only
  split
  · show (State.cap (s.setCap k _) k).new = _
    rw [State.cap_setCap]
  · rw [State.cap_setCap]

theorem State.capPush_cap_other (s : State) {j : Nat} (e : Nat) (h : j ≠ k) : (s.capPush j e).cap k = s.cap k := by
  unfold State.capPush
  dsimp only
  split
  · exact s.cap_setCap_other _ h
  · exact s.cap_setCap_other _ h

theorem State.capSettle_settled (s : State) (k : Nat) : (s.capSettle k).CapSettled k := by
  unfold State.capSettle
  dsimp only
  split
  · next h => exact h
  · left
    rw [foldl_keeps (fun u : State => (u.cap k).new) fun u e => u.capPush_new k e, State.cap_setCap]

theorem State.capSettle_cap_other (s : State) {j : Nat} (h : j ≠ k) : (s.capSettle j).cap k = s.cap k := by
  unfold State.capSettle
  dsimp only
  split
  · rfl
  · rw [foldl_keeps (fun u : State => u.cap k) fun u e => u.capPush_cap_other e h, State.cap_setCap_other _ _ h]

/-- The cycle of an island depends on the tick alone. -/
theorem State.pageCycle_congr {s t : State} (h : t.tick = s.tick) (b : Nat) : t.pageCycle b = s.pageCycle b := by
  unfold State.pageCycle State.cycle
  rw [h]

theorem State.CapSettled.capSettle (h : s.CapSettled k) (j : Nat) : (s.capSettle j).CapSettled k := by
  by_cases hj : j = k
  · subst hj
    exact s.capSettle_settled j
  · unfold State.CapSettled
    rw [s.capSettle_cap_other hj, State.pageCycle_congr (State.capSettle_keep (Keep.refl s)).tick]
    exact h

theorem State.CapSettled.latch (h : s.CapSettled k) (p : Page) (req : Nat) (x : Slot) (v : Nat) : (s.latch p req x v).CapSettled k := by
  unfold State.CapSettled
  rw [State.pageCycle_congr (s := s) (t := s.latch p req x v) rfl]
  exact h

/-- A CAPT page brought up to date holds no FIFO that is not. -/
theorem State.pageSync_settled (s : State) (k : Nat) {off : Nat} (ho : 0x40 ≤ off) :
    (s.pageSync (pageCAPT (k / 16)) off).CapSettled k := by
  have hfold : ∀ (l : List Nat) (u : State), u.CapSettled k ∨ k % 16 ∈ l →
      (l.foldl (fun u m => u.capSettle (16 * (k / 16) + m)) u).CapSettled k := by
    intro l
    induction l with
    | nil => exact fun u h => h.resolve_right (by simp)
    | cons m l ih =>
      intro u h
      refine ih _ ?_
      rcases h with h | h
      · exact .inl (h.capSettle _)
      · rcases List.mem_cons.mp h with rfl | h
        · dsimp only
          rw [Nat.div_add_mod]
          exact .inl (u.capSettle_settled k)
        · exact .inr h
  have hsync : s.pageSync (pageCAPT (k / 16)) off = (List.range 16).foldl (fun u m => u.capSettle (16 * (k / 16) + m)) s := if_pos ho
  rw [hsync]
  exact hfold _ _ (.inr (List.mem_range.mpr (Nat.mod_lt k (by decide))))

/-- The registers of the CAPT pages have no part in the power of one. -/
theorem State.pageReady_setF_capt (s : State) {c : Nat} (hc : c < 4) (c' : Nat) (f : Fld) (v : Nat) :
    (s.setF (pgCAPT c') f v).pageReady (pageCAPT c) = s.pageReady (pageCAPT c) := by
  have hkey : fkey pgPWRD (F.PWRD_ON_ON ((89 + 10 * c) / 32)) ≠ fkey (pgCAPT c') f := by
    simp only [fkey, pgPWRD, devBase, F.PWRD_ON_ON, pgCAPT, cluBase]
    omega
  have hon : (s.setF (pgCAPT c') f v).domOn (89 + 10 * c) = s.domOn (89 + 10 * c) := by
    simp only [State.domOn, State.fbit, State.getF_setF_ne _ _ hkey]
  exact congrArg (· && s.pwr.ready.contains (89 + 10 * c)) hon

theorem State.capPush_ready (s : State) {c : Nat} (hc : c < 4) (j e : Nat) :
    (s.capPush j e).pageReady (pageCAPT c) = s.pageReady (pageCAPT c) := by
  unfold State.capPush
  dsimp only
  split
  · exact (State.pageReady_setF_capt _ hc _ _ _).trans (State.pageReady_setF_capt _ hc _ _ _)
  · rfl

theorem State.capSettle_ready (s : State) {c : Nat} (hc : c < 4) (j : Nat) :
    (s.capSettle j).pageReady (pageCAPT c) = s.pageReady (pageCAPT c) := by
  unfold State.capSettle
  dsimp only
  split
  · rfl
  · exact (foldl_keeps (fun u : State => u.pageReady (pageCAPT c)) (fun u e => u.capPush_ready hc j e) _ _).trans rfl

theorem State.pageSync_ready (s : State) {c off : Nat} (hc : c < 4) (ho : 0x40 ≤ off) :
    (s.pageSync (pageCAPT c) off).pageReady (pageCAPT c) = s.pageReady (pageCAPT c) :=
  (congrArg (State.pageReady · (pageCAPT c)) (if_pos ho)).trans
    (foldl_keeps (fun u : State => u.pageReady (pageCAPT c)) (fun u _ => u.capSettle_ready hc _) _ _)

/-! ### The FIFO read (R103) -/

/-- CAP_DATA as the low word of its register shows it. -/
def captSlot (m : Nat) : Slot := ⟨F.CAP_DATA_DATA m, 0, 32, 0⟩

theorem captSlots (c : Nat) {m : Nat} (hm : m < 16) : (pageCAPT c).slots (0x48 + 0x10 * m) = some [captSlot m] := by
  rw [Page.slots_kind]
  exact of_decide_eq_true
    (all_below (m := 16) (f := fun m => decide ((⟨.capt, 0, 0, 0⟩ : Page).slots (0x48 + 0x10 * m) = some [captSlot m])) rfl hm)

theorem captCounter (c : Nat) {m : Nat} (hm : m < 16) : wordCounter (pageCAPT c) (0x48 + 0x10 * m) = some (captSlot m) := by
  rw [wordCounter, captSlots c hm]
  rfl

/-- The head entry leaves a FIFO that is up to date. -/
theorem State.capPop_settled {e : Nat} {q : List Nat} (h : s.CapSettled k) (hq : s.capFifo k = e :: q) :
    s.capPop k = (e, s.setCap k { s.cap k with q := q }) := by
  unfold State.capPop
  rw [State.capSettle_of_settled h]
  simp only [hq]

/-- The head entry is what CAP_DATA shows. -/
theorem State.liveField_capData {req e : Nat} {q : List Nat} (hq : s.capFifo k = e :: q) :
    s.liveField (pageCAPT (k / 16)) (captSlot (k % 16)).fld req = e := by
  have hm : (0x48 + 0x10 * (k % 16) - 0x40) / 0x10 = k % 16 := by omega
  have hdata : s.liveField (pageCAPT (k / 16)) (captSlot (k % 16)).fld req =
      (s.capFifo (16 * (k / 16) + (0x48 + 0x10 * (k % 16) - 0x40) / 0x10)).headD 0 :=
    if_pos (by simp only [captSlot, F.CAP_DATA_DATA]; omega)
  rw [hdata, hm, Nat.div_add_mod, hq]
  rfl

section
variable {req e : Nat} {q : List Nat} (hr : s.pageReady (pageCAPT (k / 16)) = true)
  (hq : (s.pageSync (pageCAPT (k / 16)) (0x48 + 0x10 * (k % 16))).capFifo k = e :: q)
include hr hq

/-- The read takes the head entry, and the reader's latch its high half. -/
theorem State.readEffect_capData : s.readEffect (pageCAPT (k / 16)) (0x48 + 0x10 * (k % 16)) 4 req =
    let u := s.pageSync (pageCAPT (k / 16)) (0x48 + 0x10 * (k % 16))
    ((u.latch (pageCAPT (k / 16)) req (captSlot (k % 16)) e).setCap k { u.cap k with q := q }, none, 0) := by
  have hm : k % 16 < 16 := Nat.mod_lt k (by decide)
  have hcap : 16 * (pageCAPT (k / 16)).owner + (0x48 + 0x10 * (k % 16) - 0x40) / 0x10 = k := by
    simp only [pageCAPT]
    omega
  have hset := s.pageSync_settled k (off := 0x48 + 0x10 * (k % 16)) (by omega)
  generalize hu : s.pageSync (pageCAPT (k / 16)) (0x48 + 0x10 * (k % 16)) = u at hq hset
  have hclear : u.clearRead (pageCAPT (k / 16)) (0x48 + 0x10 * (k % 16)) = u := by
    rw [State.clearRead, captSlots _ hm]
    rfl
  have hpop : (u.latch (pageCAPT (k / 16)) req (captSlot (k % 16)) e).capPop k =
      (e, (u.latch (pageCAPT (k / 16)) req (captSlot (k % 16)) e).setCap k { u.cap k with q := q }) := State.capPop_settled (hset.latch _ _ _ _) hq
  have hpart : (captSlot (k % 16)).part = 0 := rfl
  simp only [State.readEffect, Nat.reduceEqDiff, if_false, List.foldl_cons, List.foldl_nil, hu, hclear, captCounter _ hm,
    State.liveField_capData hq, hpart, and_self, if_true]
  rw [if_neg (by simp [hr]; omega)]
  refine (if_pos (by omega)).trans ?_
  rw [hcap, hpop]

/-- It returns the low half. -/
theorem State.readPage_capData (hk : k < 64) :
    s.readPage (pageCAPT (k / 16)) (0x48 + 0x10 * (k % 16)) 4 req false = (e % 2 ^ 32, 0) := by
  have hm : k % 16 < 16 := Nat.mod_lt k (by decide)
  have hready := (s.pageSync_ready (off := 0x48 + 0x10 * (k % 16)) (by omega : k / 16 < 4) (by omega)).trans hr
  have hword : (s.pageSync (pageCAPT (k / 16)) (0x48 + 0x10 * (k % 16))).wordNow (pageCAPT (k / 16)) (0x48 + 0x10 * (k % 16)) req =
      e % 2 ^ 32 := by
    refine (State.wordNow_alone rfl (captSlots _ hm) rfl rfl).trans ?_
    rw [State.liveField_capData hq]
    exact bits_zero e 32
  unfold State.readPage
  rw [if_pos rfl, State.read32, if_neg (by omega), if_neg (by simp [hready]), captSlots _ hm]
  simp only [captCounter _ hm, hword]
  exact if_pos rfl

end

/-- A read of CAP_DATA takes the head entry, and the reader's latch takes its high half. -/
theorem captureFifoRead_pops {req e : Nat} {q : List Nat} (h : s.Reads (pageCAPT (k / 16)) (0x48 + 0x10 * (k % 16)) req) (hk : k < 64)
    (hq : (s.pageSync (pageCAPT (k / 16)) (0x48 + 0x10 * (k % 16))).capFifo k = e :: q) :
    exec (.captureFifoRead req k 4) s =
      let u := s.pageSync (pageCAPT (k / 16)) (0x48 + 0x10 * (k % 16))
      .next (((u.latch (pageCAPT (k / 16)) req (captSlot (k % 16)) e).setCap k { u.cap k with q := q }).finish (pageCAPT (k / 16)) 0
        ⟨req, pgCAPT (k / 16) + (0x48 + 0x10 * (k % 16)), 4, false, 0⟩ (e % 2 ^ 32)) := by
  have haddr : (pgCAPT (k / 16) + (0x48 + 0x10 * (k % 16))) % 4 = 0 := by
    have := cluBase_aligned (k / 16) 0x060
    unfold pgCAPT
    omega
  exact congrArg Host.Outcome.next
    (h.busRead haddr (by omega) (State.readPage_capData h.ready hq hk) (State.readEffect_capData h.ready hq))

end

/-- Settles O29: each write by what its page makes of it, each path by its samples, and the FIFO by the cycle of what it captured. -/
theorem comparatorsAndCaptures : Obligations.ComparatorsAndCaptures := by
  unfold Obligations.ComparatorsAndCaptures
  refine ⟨?_, ?_, ?_, ?_, ?_, ?_, ?_, ?_, ?_, ?_, ?_, ?_, ?_⟩
  · intro s req k data p m off b on r armed h hk
    have hwrite : ∀ {u : State} {cause : Nat}, s.wCMPR p off (s.wrOf p req data) = (u, cause) → cause ≠ causePRIV →
        exec (.cmpEnWrite req k data) s = .next (u.wrote p off req data cause) :=
      fun hw hc => congrArg Host.Outcome.next (State.Writes.cmpr (r := 0) h (.inl rfl) hw hc)
    refine ⟨fun hput hen => ?_, fun hput hen hopen harm => ?_, fun hon hoff hopen harm => ?_⟩
    · exact hwrite (State.wCMPR_enSame (w := s.wrOf p req data) hput hen) (by decide)
    · exact hwrite (State.wCMPR_enChanges (w := s.wrOf p req data) hput hen hopen harm) (by decide)
    · exact hwrite (State.wCMPR_enRefused (w := s.wrOf p req data) hon hoff hopen harm) (by decide)
  · intro s k t hen ht
    refine congrArg (fun z => Host.Outcome.next (State.fcstAbort z (k / 16))) ?_
    unfold State.cmpReady
    simp only [hen, if_pos ht]
  · intro s req k data p b m v x h hk
    have hwrite : ∀ {u : State}, s.thrWrite k v = u → exec (.thresholdWrite req k data) s = .next (u.wrote p (0x44 + 0x10 * m) req data) :=
      fun hu => congrArg Host.Outcome.next (State.Writes.cmpr (r := 4) h (.inr rfl)
        ((State.wCMPR_thr _).trans (congrArg (·, 0) hu)) (by decide))
    exact ⟨fun hload hw => hwrite (State.thrWrite_now hload hw), fun hload => hwrite (State.thrWrite_waits hload)⟩
  · intro s k tok l b m u htok hload hw
    exact thresholdLoadEvent_loads htok hload hw
  · exact cmpOut_levels
  · intro s k b m c hk hout hset
    exact congrArg Host.Outcome.next (State.pathActive_cmp hout hset)
  · intro s k c m hlevel hset
    exact congrArg Host.Outcome.next (State.pathActive_trip hlevel hset)
  · intro s c k hset
    exact ⟨fun hk => congrArg Host.Outcome.next ((if_pos hset).trans (if_pos hk)),
      fun hk => congrArg Host.Outcome.next ((if_pos hset).trans (if_neg (Nat.not_lt.mpr hk)))⟩
  · intro s c k lv x now
    refine ⟨fun hk => ?_, fun hk => ?_⟩
    · rw [State.pathSettled, pathPer, State.pathFilt, if_pos hk, if_pos hk]
    · rw [State.pathSettled, pathPer, State.pathFilt, if_neg (Nat.not_lt.mpr hk), if_neg (Nat.not_lt.mpr hk)]
  · intro level x per filt now lv first hper hat hnow hsince hold hbefore
    exact PathSt.settled_iff hper hat hnow hsince hold hbefore
  · intro s k level b m edge e u z
    refine ⟨fun lv t hin hne ht hen hedge => ?_, fun lv t hin hstay => ?_⟩
    · exact congrArg Host.Outcome.next (State.capture_takes ((State.capAccepts_iff hin).mpr ⟨hne, ht⟩) hen hedge)
    · have hnot : s.capAccepts k level = false := by
        rw [Bool.eq_false_iff, Ne, State.capAccepts_iff hin]
        rintro ⟨hne, ht⟩
        exact hstay.elim hne (Nat.not_lt.mpr ht)
      exact congrArg Host.Outcome.next (if_pos (by simp [hnot]))
  · intro s k e b m x u hnew
    refine ⟨fun hcyc => State.capSettle_of_settled (.inr hcyc), fun hcyc hroom => ?_, fun a d hcyc hq => ?_⟩
    · have hu : u = _ := State.capSettle_room hnew hcyc hroom
      rw [hu]
      exact ⟨congrArg CapSt.q (s.cap_setCap k _), rfl⟩
    · have hu : u = _ := State.capSettle_full hnew hcyc hq
      rw [hu]
      exact ⟨congrArg CapSt.q (s.cap_setCap k _), State.capLoss_shows (s.setCap k _) b m⟩
  · intro s req k e q p off x u h hk hq
    exact captureFifoRead_pops h hk hq

end Sys2Proof.Machine
end

section
/-! SUPPORT. The loop steps: what an executed step makes of its run (R110 to R116). -/

namespace Sys2Proof.Machine

/-! ### A step that its slice executes (R110, R127) -/

section
variable {s : State} {t k : Nat}

theorem State.stepRead_none (h : SMap.get? s.loop.progBad (4096 * t + k) = none) : s.stepRead t k = (s, false) := by
  simp only [State.stepRead, h]

theorem State.stepRead_single (h : SMap.get? s.loop.progBad (4096 * t + k) = some 2) : s.stepRead t k = (s.stepRepair t k, false) := by
  simp only [State.stepRead, h, if_true]

theorem State.stepRead_double {e : Nat} (h : SMap.get? s.loop.progBad (4096 * t + k) = some e) (he : e ≠ 2) :
    s.stepRead t k = (s.stepUncorr t k, true) := by
  simp only [State.stepRead, h, if_neg he]

end

/-- A slice executes the step at which its run stands: the word is good, so that the step's effect is the run's. -/
theorem State.AtStep.runStep {s : State} {t k op : Nat} {r : Run} {rest : List Run} (h : s.AtStep t k op r rest)
    (f : Run → Nat → Run) : s.runStep t k op f = s.stepDone t k r rest (f r (s.stepAt t r.pc)) := by
  have hread : s.stepRead t r.pc = (s, false) := State.stepRead_none (by simpa [SMap.has] using h.good)
  have hdue : ¬(s.tick < r.enter + r.pairs ∨ bits (s.stepAt t r.pc) 0 8 ≠ op) := by
    simpa [h.code] using h.due
  simp only [State.runStep, h.runs, if_neg hdue, hread]
  rfl

/-- A step command that makes `f` of the run and the step word makes of them what agrees with `f`. -/
theorem rowStep_of_runStep {i : Nat → Nat → Instr} {op : Nat} {f g : Run → Nat → Run}
    (hexec : ∀ t k s, exec (i t k) s = .next (s.runStep t k op f)) (hfg : ∀ r w, f r w = g r w) : RowStep i op g := by
  intro s t k r rest h
  rw [hexec, h.runStep, hfg]

/-! ### What the model's steps compute, in the terms of R113 to R116 -/

theorem bits_bits (x a v : Nat) {b w : Nat} (h : b + w ≤ v) : bits (bits x a v) b w = bits x (a + b) w := by
  rw [show bits x a v = x / 2 ^ a % 2 ^ v from rfl, bits_mod _ h, bits, bits, Nat.div_div_eq_div_mul, ← Nat.pow_add]

/-- A BR's conditions: the four flags, each as it stands and negated (R113). -/
theorem Run.cond_eq (r : Run) {c : Nat} (h : c < 8) :
    r.cond c = [r.z, !r.z, r.n, !r.n, r.limf, !r.limf, r.stale, !r.stale].getD c false := by
  interval_cases c <;> rfl

theorem Run.stage_eq (r r' : Run) {p : Prop} [Decidable p] : r.stage (decide p) r' = if p then r'.next else r.fail 2 := by
  by_cases h : p <;> simp [Run.stage, h]

theorem Run.clampTo_next (r : Run) (d : Nat) (x lo hi : Int) : (r.clampTo d x lo hi).next =
    if lo > hi ∨ x < lo then (r.limit d lo true).next
    else if x > hi then (r.limit d hi true).next else (r.limit d x false).next := by
  simp only [Run.clampTo, apply_ite Run.next]

/-- A value chosen by a condition, with STALE where it fails. -/
theorem Run.choose_eq (r : Run) (d a b : Nat) {ok : Bool} {p : Prop} [Decidable p] (h : ok = true ↔ p) :
    ({ r.setV d (if ok then a else b) with stale := !ok } : Run) = { r.setV d (if p then a else b) with stale := !decide p } := by
  cases ok <;> simp_all

theorem natAbs_eq_ite (a : Int) : (if a < 0 then -a else a) = a.natAbs := by
  split <;> omega

theorem ite_gt_eq_min (t b : Int) : (if t > b then b else t) = min t b := by
  split <;> omega

theorem asr_eq (x : Int) (n : Nat) : asr x n = x / 2 ^ n := by
  rw [asr, Nat.cast_pow, Nat.cast_ofNat]

/-- Settles O30: each step by its row of R113, once its slice executes it. -/
theorem loopSteps : Obligations.LoopSteps := by
  unfold Obligations.LoopSteps
  refine ⟨?nop, ?stop, ?br, ?jmp, ?ldc, ?ldi, ?ldw, ?ldg, ?ldp, ?add, ?sub, ?mul, ?mac, ?msu, ?ldy, ?movy, ?abs, ?neg, ?shr, ?shl, ?min,
    ?max, ?lim, ?limi, ?pi, ?fil1, ?res, ?duty, ?cmpw, ?sts, ?stw, ?wake, ?evt⟩
  case nop | stop | jmp | ldc | ldi | add | sub | mul | mac | msu | ldy | movy | shl | min | max | pi | fil1 | res | sts =>
    exact rowStep_of_runStep (fun _ _ _ => rfl) fun _ _ => rfl
  case br => exact rowStep_of_runStep (fun _ _ _ => rfl) fun r w => by rw [r.cond_eq (bits_lt _ 12 3)]
  case ldw =>
    intro s t k r rest w h
    exact congrArg Host.Outcome.next (h.runStep _)
  case ldg =>
    refine rowStep_of_runStep (fun _ _ _ => rfl) fun r w => ?_
    have hfield : bits (stIMM w) 8 2 < 4 := bits_lt _ 8 2
    dsimp only
    generalize bits (stIMM w) 8 2 = c at hfield ⊢
    interval_cases c <;> rfl
  case ldp =>
    refine rowStep_of_runStep (fun _ _ _ => rfl) fun r w => ?_
    exact congrArg Run.next (r.choose_eq (stD w) _ _ (by simp [and_assoc]))
  case abs => exact rowStep_of_runStep (fun _ _ _ => rfl) fun r w => by simp only [natAbs_eq_ite]
  case neg => exact rowStep_of_runStep (fun _ _ _ => rfl) fun r w => by simp only [Int.zero_sub]
  case shr => exact rowStep_of_runStep (fun _ _ _ => rfl) fun r w => by simp only [asr_eq]
  case lim => exact rowStep_of_runStep (fun _ _ _ => rfl) fun r w => r.clampTo_next _ _ _ _
  case limi =>
    refine rowStep_of_runStep (fun _ _ _ => rfl) fun r w => ?_
    rw [r.clampTo_next, stIMM, bits_bits w 32 32 (by decide), bits_bits w 32 32 (by decide)]
    rfl
  case duty => exact rowStep_of_runStep (fun _ _ _ => rfl) fun r w => by simp only [Run.duty, ite_gt_eq_min]
  case cmpw | stw | wake | evt => exact rowStep_of_runStep (fun _ _ _ => rfl) fun r w => r.stage_eq _

end Sys2Proof.Machine
end

section
/-! SUPPORT. The filter steps PI, FIL1 and RES in the values of a run's working copy (R114, R115). -/

namespace Sys2Proof.Machine

/-! ### Q31 values -/

/-- A Q31 value is the reading of its own code. -/
theorem sgn_wrap {x : Int} (hlo : -(2 ^ 31) ≤ x) (hhi : x < 2 ^ 31) : sgn 32 (wrap 32 x) = x := by
  have hw : wrap 32 x % 2 ^ 32 = (x % 2 ^ 32).toNat := by
    simp only [wrap]
    omega
  simp only [sgn, hw]
  split <;> omega

theorem sgn_range (x : Nat) : -(2 ^ 31) ≤ sgn 32 x ∧ sgn 32 x < 2 ^ 31 := by
  simp only [sgn]
  split <;> omega

theorem satS_range (x : Int) : -(2 ^ 31) ≤ satS 32 x ∧ satS 32 x < 2 ^ 31 := by
  have hmax : maxS 32 = 2 ^ 31 - 1 := rfl
  have hmin : minS 32 = -(2 ^ 31) := rfl
  rw [satS, hmax, hmin]
  split
  · omega
  · split <;> omega

theorem sgn_wrap_sgn (x : Nat) : sgn 32 (wrap 32 (sgn 32 x)) = sgn 32 x := sgn_wrap (sgn_range x).1 (sgn_range x).2

theorem sgn_wrap_satS (x : Int) : sgn 32 (wrap 32 (satS 32 x)) = satS 32 x := sgn_wrap (satS_range x).1 (satS_range x).2

/-- rnd() of a step with NOSAT = 0 (R114). -/
theorem stRnd_saturates {w : Nat} (h : stNOSAT w = false) (x : Int) : (stRnd w x).1 = satS 32 (rnd31 (stRND w) x) := by
  simp only [stRnd, q31, h]
  rfl

/-! ### States and registers read after they are written -/

section
variable {r : Run} {w : Nat}

theorem Run.st_of_set {u : Run} {l : List Nat} {k x : Nat} (h : u.w = l.set (10 + k) x) (hk : 10 + k < l.length) : u.st k = sgn 32 x := by
  simp [Run.st, h, List.getD_eq_getElem?_getD, hk]

theorem Run.sreg_of_set {u : Run} {l : List Nat} {d x : Nat} (h : u.v = l.set d x) (hd : d < l.length) : u.sreg d = sgn 32 x := by
  simp [Run.sreg, Run.reg, h, List.getD_eq_getElem?_getD, hd]

theorem stD_lt (hv : r.v.length = 8) : stD w < r.v.length := hv ▸ bits_lt w 8 3

/-! ### PI -/

/-- PI's limit: abs V[L], held to Q31. -/
def Run.piLimit (r : Run) (w : Nat) : Int := min ((r.sreg (bits w 36 3)).natAbs : Int) (2 ^ 31 - 1)

/-- The exact sum that PI clamps, of a step that saturates. -/
def Run.piSum (r : Run) (w : Nat) : Int :=
  r.st (bits w 32 3) + satS 32 (rnd31 (stRND w) (r.sreg (stB w + 1) * r.sreg (stA w) * 2 ^ stSH w))

/-- PI's new integrator. -/
def Run.piState (r : Run) (w : Nat) : Int := max (-r.piLimit w) (min (r.piLimit w) (r.piSum w))

/-- PI's output, of a step that saturates. -/
def Run.piOut (r : Run) (w : Nat) : Int :=
  satS 32 (rnd31 (stRND w) (r.sreg (stB w) * r.sreg (stA w) * 2 ^ stSH w)) + r.piState w

theorem Run.piLimit_range (r : Run) (w : Nat) : 0 ≤ r.piLimit w ∧ r.piLimit w < 2 ^ 31 := by
  unfold Run.piLimit
  omega

theorem Run.piState_range (r : Run) (w : Nat) : -(2 ^ 31) ≤ r.piState w ∧ r.piState w < 2 ^ 31 := by
  have := r.piLimit_range w
  unfold Run.piState
  omega

theorem Run.piLimit_eq (r : Run) (w : Nat) : r.piLimit w =
    let vl := r.sreg (bits w 36 3)
    if vl = -(2 ^ 31) then 2 ^ 31 - 1 else if vl < 0 then -vl else vl := by
  have := sgn_range (r.reg (bits w 36 3))
  unfold Run.piLimit Run.sreg
  dsimp only
  split
  · omega
  · split <;> omega

theorem clamp_eq {x lim : Int} (h : 0 ≤ lim) : (if x > lim then lim else if x < -lim then -lim else x) = max (-lim) (min lim x) := by
  split
  · omega
  · split <;> omega

theorem clamps_iff {x lim : Int} (h : 0 ≤ lim) : (decide (x > lim) || decide (x < -lim)) = decide (x ≠ max (-lim) (min lim x)) := by
  rw [← Bool.decide_or, decide_eq_decide]
  omega

/-- What PI writes: its integrator, its output and LIMF. -/
theorem Run.pi_writes (hsat : stNOSAT w = false) : (r.pi w).w = r.w.set (10 + bits w 32 3) (wrap 32 (r.piState w)) ∧
    (r.pi w).v = r.v.set (stD w) (wrap 32 (satS 32 (r.piOut w))) ∧ (r.pi w).limf = decide (r.piSum w ≠ r.piState w) ∧
    (r.pi w).y0 = r.y0 ∧ (r.pi w).y1 = r.y1 := by
  have hlim := (r.piLimit_range w).1
  have hk : bits (stIMM w) 0 3 = bits w 32 3 := bits_bits w 32 32 (by decide)
  have hl : bits (stIMM w) 4 3 = bits w 36 3 := bits_bits w 32 32 (by decide)
  simp only [Run.pi, hk, hl, stRnd_saturates hsat, ← r.piLimit_eq w]
  rw [← Run.piSum, clamp_eq hlim, clamps_iff hlim, ← Run.piState, ← Run.piOut]
  simp only [Run.put, Run.setV, Run.orSat, Run.setSt, and_self]

/-! ### FIL1 and RES -/

/-- FIL1's new state, of a step that saturates. -/
def Run.fil1Out (r : Run) (w : Nat) : Int :=
  satS 32 (r.st (bits w 32 3) + satS 32 (rnd31 (stRND w) (r.sreg (stB w) * (r.sreg (stA w) - r.st (bits w 32 3)))))

theorem Run.fil1_writes (hsat : stNOSAT w = false) : (r.fil1 w).w = r.w.set (10 + bits w 32 3) (wrap 32 (r.fil1Out w)) ∧
    (r.fil1 w).v = r.v.set (stD w) (wrap 32 (r.fil1Out w)) := by
  have hk : bits (stIMM w) 0 3 = bits w 32 3 := bits_bits w 32 32 (by decide)
  simp only [Run.fil1, hk, stRnd_saturates hsat]
  exact ⟨rfl, rfl⟩

/-- RES's new state, of a step that saturates. -/
def Run.resOut (r : Run) (w : Nat) : Int :=
  satS 32 (satS 32 (rnd31 (stRND w) (2 * r.sreg (stB w) * r.st (bits w 32 3))) - r.st (bits w 32 3 + 1) +
    satS 32 (rnd31 (stRND w) (r.sreg (stB w + 1) * r.sreg (stA w) * 2 ^ stSH w)))

theorem Run.res_writes (hsat : stNOSAT w = false) :
    (r.res w).w = (r.w.set (10 + (bits w 32 3 + 1)) (wrap 32 (r.st (bits w 32 3)))).set (10 + bits w 32 3) (wrap 32 (r.resOut w)) ∧
    (r.res w).v = r.v.set (stD w) (wrap 32 (r.resOut w)) := by
  have hk : bits (stIMM w) 0 3 = bits w 32 3 := bits_bits w 32 32 (by decide)
  simp only [Run.res, hk, stRnd_saturates hsat]
  exact ⟨rfl, rfl⟩

end

/-- Settles O31: each step by the states and the register that it writes, all of them Q31 values. -/
theorem loopFilters : Obligations.LoopFilters := by
  unfold Obligations.LoopFilters
  intro r w hw hv hsat e k q
  have hd : stD w < r.v.length := stD_lt hv
  refine ⟨?_, ?_, ?_⟩
  · intro vl lim i y hk
    obtain ⟨hstate, hout, hlimf, hacc⟩ := Run.pi_writes (r := r) hsat
    exact ⟨(Run.st_of_set hstate (by omega)).trans (sgn_wrap (r.piState_range w).1 (r.piState_range w).2),
      (Run.sreg_of_set hout hd).trans (sgn_wrap_satS (r.piOut w)), hlimf, hacc⟩
  · intro y hk
    obtain ⟨hstate, hout⟩ := Run.fil1_writes (r := r) hsat
    exact ⟨(Run.st_of_set hstate (by omega)).trans (sgn_wrap_satS _), (Run.sreg_of_set hout hd).trans (sgn_wrap_satS _), rfl⟩
  · intro y hk
    obtain ⟨hstates, hout⟩ := Run.res_writes (r := r) hsat
    have hold : (r.res w).w = (r.w.set (10 + k) (wrap 32 (r.resOut w))).set (10 + (k + 1)) (wrap 32 (r.st k)) :=
      hstates.trans (List.set_comm _ _ (by omega))
    exact ⟨(Run.st_of_set hstates (by rw [List.length_set]; omega)).trans (sgn_wrap_satS _),
      (Run.st_of_set hold (by rw [List.length_set]; omega)).trans (sgn_wrap_sgn (r.w.getD (10 + k) 0)),
      (Run.sreg_of_set hout hd).trans (sgn_wrap_satS _)⟩

end Sys2Proof.Machine
end

section
/-! SUPPORT. Triggers, dispatch, commits, shared values, the scrubbers and the writes of program steps (R108 to R132). -/

namespace Sys2Proof.Machine

section
variable {s : State} {t n : Nat}

/-! ### Triggers (R108, R109) -/

theorem State.countMerged_open (h : s.gateShut t = false) : s.countMerged t = s.satF (pgLENG t) F.LENG_CNT1_MERGED := by
  unfold State.gateShut at h
  unfold State.countMerged
  cases hg : SMap.get? s.edge.gates t with
  | none => rfl
  | some g => exact if_neg (by simpa [hg] using h)

section
variable {vals : List Nat} {arr : Nat}

/-- A context that is not enabled ignores its trigger. -/
theorem State.trigger_disabled (h : s.ctxEN t n = false) : s.trigger t n vals arr = s.satF (pgLENG t) F.LENG_CNT3_IDLE_TRIG :=
  if_pos (by simp [h])

theorem State.trigger_enabled (h : s.ctxEN t n = true) : s.trigger t n vals arr =
    let u := if SMap.has s.loop.pend (2048 * t + n) then s.countMerged t else s
    { u with loop.pend := SMap.put u.loop.pend (2048 * t + n) ⟨vals, arr, false⟩ } :=
  if_neg (by simp [h])

/-- A trigger of a context with none pending becomes pending. -/
theorem State.trigger_pends (h : s.ctxEN t n = true) (hp : SMap.has s.loop.pend (2048 * t + n) = false) :
    s.trigger t n vals arr = { s with loop.pend := SMap.put s.loop.pend (2048 * t + n) ⟨vals, arr, false⟩ } := by
  rw [State.trigger_enabled h, hp]
  rfl

/-- A newer trigger replaces the pending one, and is counted. -/
theorem State.trigger_merges (h : s.ctxEN t n = true) (hp : SMap.has s.loop.pend (2048 * t + n) = true) : s.trigger t n vals arr =
    { s.countMerged t with loop.pend := SMap.put s.loop.pend (2048 * t + n) ⟨vals, arr, false⟩ } := by
  rw [State.trigger_enabled h, hp]
  simp only [if_true, State.countMerged_loop]

end

/-! ### Writes of LENG_SWTRIG and LENG_SHVn (R108, R122) -/

/-- A write of a register of a LENG page, by what the page makes of it. -/
theorem State.Writes.leng {u : State} {off req data : Nat} (h : s.Writes (pageLENG t) off req data) (ha : off % 4 = 0) (hlo : 0x40 ≤ off)
    (hhi : off < 0x800) (hslots : ((pageLENG t).slots off).isSome = true)
    (hw : s.wLENG (pageLENG t) off (s.wrOf (pageLENG t) req data) = (u, 0)) :
    s.busWrite req (pgLENG t + off) 4 data = u.wrote (pageLENG t) off req data := by
  have haddr : (pgLENG t + off) % 4 = 0 := by
    unfold pgLENG tileBase
    omega
  exact h.plain rfl haddr hlo hhi hslots rfl hw (by decide)

theorem softwareTrigger_triggers {req : Nat} (h : s.Writes (pageLENG t) 0x4C req n) (hn : n < 2048) :
    exec (.softwareTrigger req t n) s = .next ((s.triggerBoth t n [0] s.tick).wrote (pageLENG t) 0x4C req n) := by
  have hlocal : bits n 0 11 = n := (bits_zero n 11).trans (Nat.mod_eq_of_lt hn)
  have hw : s.wLENG (pageLENG t) 0x4C (s.wrOf (pageLENG t) req n) = (s.triggerBoth t n [0] s.tick, 0) := by
    rw [State.wLENG, if_pos rfl, State.wrOf, hlocal]
    rfl
  have hslots : ((pageLENG t).slots 0x4C).isSome = true := by rfl
  exact congrArg Host.Outcome.next (h.leng (by decide) (by decide) (by decide) hslots hw)

theorem shvSlots (t : Nat) {idx : Nat} (h : idx < 256) : ((pageLENG t).slots (0x400 + 4 * idx)).isSome = true := by
  have hrow : ((List.range 16).all fun i => ((⟨.leng, 0, 0, 0⟩ : Page).slots (0x400 + 4 * (16 * (idx / 16) + i))).isSome) = true :=
    all_below (m := 16) (f := fun k => (List.range 16).all fun i => ((⟨.leng, 0, 0, 0⟩ : Page).slots (0x400 + 4 * (16 * k + i))).isSome)
      rfl (by omega)
  have hidx := all_below hrow (Nat.mod_lt idx (by decide))
  rw [Nat.div_add_mod] at hidx
  rwa [Page.slots_kind]

theorem sharedValueWrite_sends {req idx data : Nat} (h : s.Writes (pageLENG t) (0x400 + 4 * idx) req data) (hi : idx < 256) :
    exec (.sharedValueWrite req t idx data) s =
      .next ((s.sendShared (t / 10) idx data 0).wrote (pageLENG t) (0x400 + 4 * idx) req data) := by
  have hidx : (0x400 + 4 * idx - 0x400) / 4 = idx := by omega
  have hw : s.wLENG (pageLENG t) (0x400 + 4 * idx) (s.wrOf (pageLENG t) req data) = (s.sendShared (t / 10) idx data 0, 0) := by
    rw [State.wLENG, if_neg (by omega), if_pos (by omega), hidx]
    rfl
  exact congrArg Host.Outcome.next (h.leng (by omega) (by omega) (by omega) (shvSlots t hi) hw)

theorem sharedValueApply_alone {c idx v tick ord : Nat} (h : s.loop.shv = [(c, idx, v, tick, ord)]) (ht : tick ≤ s.tick) :
    exec (.sharedValueApply c) s = .next (((List.range 10).foldl (fun (z : State) j =>
      z.setF (pgLENG (10 * c + j)) (F.LENG_SHV_VALUE idx) v) { s with loop.shv := [] }).setIQ c false idx (sgn 32 v)) := by
  have hdue : s.loop.shv.filter (fun e => e.1 == c && decide (e.2.2.2.1 ≤ s.tick)) = [(c, idx, v, tick, ord)] := by simp [h, ht]
  have hrest : s.loop.shv.filter (fun e => !(e.1 == c && decide (e.2.2.2.1 ≤ s.tick))) = [] := by simp [h, ht]
  show execSharedValueApply c s = _
  simp only [execSharedValueApply, State.applyShared, hdue, hrest]
  rfl

/-! ### Dispatch (R117, R124, R126) -/

theorem SMap.erase_absent {α : Type} {m : SMap α} {a : Nat} (h : SMap.get? m a = none) : SMap.erase m a = m := by
  induction m with
  | nil => rfl
  | cons x m ih =>
    obtain ⟨k, v⟩ := x
    rw [SMap.get?] at h
    split at h
    · cases h
    · next hk => rw [SMap.erase, if_neg hk, ih h]

/-- The scheduler picks no retired slice. -/
theorem State.pickSlice_serves {k : Nat} (h : s.pickSlice t = some k) : s.sliceState t k ≠ 2 := by
  unfold State.pickSlice at h
  split at h
  · next hidle =>
    cases h
    have := List.find?_some hidle
    simp_all
  · have := List.find?_some h
    simp_all [State.sliceFree]

/-- A slice with no lane to replace takes its dispatch as it stands. -/
theorem State.readySlice_serves {k : Nat} (fuel : Nat) (h : s.pickSlice t = some k)
    (hswap : SMap.get? s.loop.swapNext (16 * t + k) = none) : State.readySlice (fuel + 1) s t = (s, some k) := by
  have hspare : s.sliceSpare t k = (s, true) := by
    unfold State.sliceSpare
    rw [SMap.getD, hswap, SMap.erase_absent hswap]
    simpa using State.pickSlice_serves h
  rw [State.readySlice, h]
  simp only [hspare, if_true]

section
variable {tr : Trig} (hd : s.dispatches t = true) (hnext : s.nextTrig t = some (n, tr))
include hd hnext

theorem State.dispatch_badWord {word : Nat} (h : word < 16) : s.dispatch t word = s.ctxUncorr t n := by
  unfold State.dispatch
  simp [hd, hnext, h]

theorem State.dispatch_places {k : Nat} (h : s.pickSlice t = some k) (hswap : SMap.get? s.loop.swapNext (16 * t + k) = none) :
    s.dispatch t 16 = s.place t n tr k := by
  unfold State.dispatch
  simp [hd, hnext, State.readySlice_serves 16 h hswap]

end

/-! ### Commits (R119, R123 to R125) -/

/-- The run `r` leaves its slice's commit stage, and is counted. -/
def State.runLeaves (s : State) (t k : Nat) (r : Run) (rest : List Run) : State :=
  ({ s with
    loop.commits := SMap.put s.loop.commits (16 * t + k) rest
    loop.wroteAt := SMap.put s.loop.wroteAt (2048 * t + r.ctx) s.tick } : State).incF (pgLENG t) F.LENG_RUNS_RUNS

/-- A run that ended in a fault writes back CTX_STAT alone (R116). -/
def State.faultRun (s : State) (t : Nat) (r : Run) : State :=
  let v := ((s.lengFault t r.ctx r.fault r.faultStep).pulse (pgLENG t) 5).presetLost t r (2 ^ 15)
  v.setCtxWord t r.ctx 15 (ctxStat (v.ctxWord t r.ctx 15) false r.sat r.lim true)

/-- The lanes of a vote that were outvoted. -/
def State.outvotes (s : State) (t k lanes : Nat) : State :=
  (List.range 3).foldl (fun s l => if bit lanes l then s.outvoted t k l else s) s

theorem State.outvotes_one (s : State) (t k : Nat) {lane : Nat} (h : lane < 3) : s.outvotes t k (2 ^ lane) = s.outvoted t k lane := by
  interval_cases lane <;> rfl

section
variable {k : Nat} {r : Run} {rest : List Run} (h : SMap.getD s.loop.commits (16 * t + k) [] = r :: rest)
  (hdue : r.enter + r.pairs + 7 ≤ s.tick) (lanes : Nat)
include h hdue

/-- A run whose commit tick has come, by its vote and its fault. -/
theorem State.runCommit_due (nomaj : Bool) : s.runCommit t k lanes nomaj =
    let u := (s.runLeaves t k r rest).outvotes t k lanes
    if nomaj then ((u.satF (pgLENG t) F.LENG_CNT0_NOMAJ).lengFault t r.ctx 4 0).pulse (pgLENG t) 3
    else if r.fault ≠ 0 then u.faultRun t r else u.commitRun t r := by
  unfold State.runCommit
  rw [h]
  exact if_neg (Nat.not_lt.mpr hdue)

theorem State.runCommit_noMajority : s.runCommit t k lanes true =
    ((((s.runLeaves t k r rest).outvotes t k lanes).satF (pgLENG t) F.LENG_CNT0_NOMAJ).lengFault t r.ctx 4 0).pulse (pgLENG t) 3 :=
  State.runCommit_due h hdue lanes true

theorem State.runCommit_faults (hf : r.fault ≠ 0) :
    s.runCommit t k lanes false = ((s.runLeaves t k r rest).outvotes t k lanes).faultRun t r :=
  (State.runCommit_due h hdue lanes false).trans (if_pos hf)

theorem State.runCommit_commits (hf : r.fault = 0) :
    s.runCommit t k lanes false = ((s.runLeaves t k r rest).outvotes t k lanes).commitRun t r :=
  (State.runCommit_due h hdue lanes false).trans (if_neg (not_not.mpr hf))

end

end

/-! ### The scrubbers (R126, R127) -/

section
variable {t n word : Nat} (s : State)

/-- The end of a pass over the context store. -/
def State.ctxPassEnds (s : State) (t n word : Nat) : State :=
  if n = 2047 ∧ word = 15 then s.incF (pgCSTO t) F.CSTO_SCRUB_PASSES else s

/-- The copy of a word that differs from the two others is repaired, counted and recorded. -/
def State.ctxRepair (s : State) (t n word copy : Nat) : State :=
  let b := pgCSTO t
  ((((s.satF b F.CSTO_SCRUB_CORRECTED).setF b F.CSTO_SCRUB_LAST_LOCAL n).setF b F.CSTO_SCRUB_LAST_WORD word).setF b
    F.CSTO_SCRUB_LAST_COPY copy).setFlag b F.CSTO_SCRUB_LAST_VALID true

/-- Copies that agree, or that a write of this tick has made agree, are left. -/
theorem contextScrub_agrees {copies : Nat} (h : copies = 0 ∨ s.ctxWrittenNow t n word = true) :
    exec (.contextScrub t n word copies) s = .next (s.ctxPassEnds t n word) := by
  have hmaj : ¬(popCount copies 3 ≥ 2 ∧ (!s.ctxWrittenNow t n word) = true) := by
    rintro ⟨hpop, hnow⟩
    rcases h with rfl | h
    · exact absurd hpop (by decide)
    · simp [h] at hnow
  show execContextScrub t n word copies s = _
  simp only [execContextScrub, if_neg hmaj, if_pos h]
  rfl

/-- One copy is repaired. -/
theorem contextScrub_repairs {copies : Nat} (h : copies = 1 ∨ copies = 2 ∨ copies = 4) (hnow : s.ctxWrittenNow t n word = false) :
    exec (.contextScrub t n word copies) s = .next ((s.ctxRepair t n word (copies / 2)).ctxPassEnds t n word) := by
  have hmaj : ¬(popCount copies 3 ≥ 2 ∧ (!s.ctxWrittenNow t n word) = true) := by
    rcases h with rfl | rfl | rfl <;> exact fun h => absurd h.1 (by decide)
  have hbad : ¬(copies = 0 ∨ s.ctxWrittenNow t n word = true) := by
    rw [hnow]
    rintro (rfl | hfalse)
    · omega
    · cases hfalse
  show execContextScrub t n word copies s = _
  simp only [execContextScrub, if_neg hmaj, if_neg hbad]
  rfl

/-- Two copies or three leave no majority. -/
theorem contextScrub_loses {copies : Nat} (hlt : copies < 8) (h : copies = 3 ∨ 5 ≤ copies) (hnow : s.ctxWrittenNow t n word = false) :
    exec (.contextScrub t n word copies) s = .next ((s.ctxUncorr t n).ctxPassEnds t n word) := by
  have hpop : popCount copies 3 ≥ 2 := by
    obtain rfl | rfl | rfl | rfl : copies = 3 ∨ copies = 5 ∨ copies = 6 ∨ copies = 7 := by omega
    all_goals decide
  show execContextScrub t n word copies s = _
  simp only [execContextScrub, hpop, hnow]
  rfl

variable {k : Nat}

/-- A step with a double-bit error is marked found, and recorded. -/
def State.stepLost (s : State) (t k : Nat) : State :=
  (({ s with loop.progBad := SMap.put s.loop.progBad (4096 * t + k) 1 } : State).setF (pgLPRG t) F.LPRG_ERR_LAST_STEP k).setFlag (pgLPRG t)
    F.LPRG_ERR_LAST_VALID true

/-- An upset that no read has found yet. -/
def State.stepUpset (s : State) (t k e : Nat) : State := { s with loop.progBad := SMap.put s.loop.progBad (4096 * t + k) e }

/-- The end of a pass over the loop-program store. -/
def State.progPassEnds (s : State) (t k : Nat) : State := if k = 4095 then s.incF (pgLPRG t) F.LPRG_STAT_PASSES else s

section
variable {s}

theorem State.stepUncorr_found (h : SMap.get? s.loop.progBad (4096 * t + k) = some 1) : s.stepUncorr t k = s.stepLost t k := by
  have hfound : SMap.getD s.loop.progBad (4096 * t + k) 0 = 1 := by rw [SMap.getD, h]; rfl
  simp only [State.stepUncorr, hfound, if_true]
  rfl

theorem State.stepUncorr_new (h : SMap.get? s.loop.progBad (4096 * t + k) = some 3) :
    s.stepUncorr t k = (s.satF (pgLPRG t) F.LPRG_STAT_UNCORR).stepLost t k := by
  have hnew : SMap.getD s.loop.progBad (4096 * t + k) 0 = 3 := by rw [SMap.getD, h]; rfl
  simp only [State.stepUncorr, hnew, Nat.reduceEqDiff, if_false]
  rfl

end

/-- A step that is read as it stands. -/
theorem programScrub_reads {u : State} (hu : (s.stepRead t k).1 = u) :
    exec (.programScrub t k 0) s = .next (u.progPassEnds t k) := hu ▸ rfl

/-- A single-bit error met by the scrubber, in a word with none or one. -/
theorem programScrub_single (h : SMap.get? s.loop.progBad (4096 * t + k) = none ∨ SMap.get? s.loop.progBad (4096 * t + k) = some 2) :
    exec (.programScrub t k 1) s = .next ((s.stepRepair t k).progPassEnds t k) := by
  have hsingle : SMap.getD s.loop.progBad (4096 * t + k) 2 = 2 := by
    rcases h with h | h <;> rw [SMap.getD, h] <;> rfl
  show execProgramScrub t k 1 s = _
  simp only [execProgramScrub, hsingle]
  rfl

/-- The same in a word with a double-bit error. -/
theorem programScrub_second {e : Nat} {u : State} (h : SMap.get? s.loop.progBad (4096 * t + k) = some e) (he : e ≠ 2)
    (hu : s.stepUncorr t k = u) : exec (.programScrub t k 1) s = .next (u.progPassEnds t k) := by
  have hdouble : SMap.getD s.loop.progBad (4096 * t + k) 2 = e := by rw [SMap.getD, h]; rfl
  show execProgramScrub t k 1 s = _
  simp only [execProgramScrub, hdouble, if_neg he, hu]
  rfl

theorem programScrub_double {u : State} (hu : (s.stepUpset t k 3).stepUncorr t k = u) :
    exec (.programScrub t k 2) s = .next (u.progPassEnds t k) := hu ▸ rfl

/-! Upsets behind the scrubber: a second one of a word leaves it with a double-bit error, and a word in double error stays so. -/

theorem programScrub_upset_none (h : SMap.get? s.loop.progBad (4096 * t + k) = none) :
    exec (.programScrub t k 3) s = .next (s.stepUpset t k 2) := by
  show execProgramScrub t k 3 s = _
  simp only [execProgramScrub, h]
  rfl

theorem programScrub_upset_single (h : SMap.get? s.loop.progBad (4096 * t + k) = some 2) :
    exec (.programScrub t k 3) s = .next (s.stepUpset t k 3) := by
  show execProgramScrub t k 3 s = _
  simp only [execProgramScrub, h]
  rfl

theorem programScrub_upset_double {e : Nat} (h : SMap.get? s.loop.progBad (4096 * t + k) = some e) (he : e ≠ 2) :
    exec (.programScrub t k 3) s = .next s := by
  show execProgramScrub t k 3 s = _
  simp only [execProgramScrub, h, if_true]
  split <;> simp_all

theorem programScrub_upsetsTwo : exec (.programScrub t k 4) s = .next
    (if SMap.get? s.loop.progBad (4096 * t + k) = some 1 then s else s.stepUpset t k 3) := rfl

end

/-! ### Writes of program steps (R113, R132) -/

section
variable {s : State} {t : Nat}

/-- Whether a step write is held back: by a run with the step in its window, or by an earlier write of it (R132). -/
def State.stepWaits (s : State) (h : HeldStep) : Prop :=
  s.stepInUse h.tile h.step = true ∨ ∃ e ∈ s.loop.heldSteps, e.tile = h.tile ∧ e.step = h.step

theorem State.stepWaits_iff {h : HeldStep} :
    (s.stepInUse h.tile h.step || s.loop.heldSteps.any fun e => e.tile == h.tile && e.step == h.step) = true ↔ s.stepWaits h := by
  simp [State.stepWaits]

section
variable {h : HeldStep}

theorem State.stepWrite_refused (hbad : stepOk (h.merge (s.stepDue h.tile h.step)) = false) : s.stepWrite h = (s, 0x20, false) :=
  if_pos (by simp [hbad])

theorem State.stepWrite_waits (hok : stepOk (h.merge (s.stepDue h.tile h.step)) = true) (hwait : s.stepWaits h) :
    s.stepWrite h = ({ s with loop.heldSteps := s.loop.heldSteps ++ [h] }, 0, true) :=
  (if_neg (by simp [hok])).trans (if_pos (State.stepWaits_iff.mpr hwait))

theorem State.stepWrite_applies (hok : stepOk (h.merge (s.stepDue h.tile h.step)) = true) (hwait : ¬s.stepWaits h) :
    s.stepWrite h = (s.setStep h.tile h.step (h.merge (s.stepDue h.tile h.step)), 0, false) :=
  (if_neg (by simp [hok])).trans (if_neg fun hw => hwait (State.stepWaits_iff.mp hw))

/-- The first held write of a tile applies where no run has its step in the window. -/
theorem State.heldStepApply_first {rest : List HeldStep} (hheld : s.loop.heldSteps = h :: rest) (ht : h.tile = t)
    (hfree : s.stepInUse t h.step = false) : s.heldStepApply t =
      ((({ s with loop.heldSteps := rest } : State).setStep t h.step (h.merge (s.stepAt t h.step))).satF (pgLPRG t)
        F.LPRG_HELD_HELD).respond h.req false 0 := by
  have hfind : s.loop.heldSteps.find? (fun e => e.tile == t && !s.stepInUse t e.step) = some h := by simp [hheld, ht, hfree]
  have herase : s.loop.heldSteps.erase h = rest := by simp [hheld]
  simp only [State.heldStepApply, hfind, herase]

end

/-- A write that arrives at a loop-program window is made there. -/
theorem programStepWrite_arrives {req addr size data off : Nat} (h : s.Arrives (.prog t off) ⟨req, addr, size, true, data⟩) :
    exec (.programStepWrite req addr size data) s = .next (s.progAccess t off ⟨req, addr, size, true, data⟩).1 :=
  congrArg (fun r : State × Option BusResp => Host.Outcome.next r.1) (State.busAccess_made h (by simp) (by simp) false)

section
variable {req addr size data off : Nat} (h : s.Arrives (.prog t off) ⟨req, addr, size, true, data⟩)
  (hsize : (size = 4 ∧ addr % 4 = 0) ∨ (size = 8 ∧ addr % 8 = 0))
include h hsize

/-- A step write that arrives at its store, by what the store makes of it. -/
theorem programStepWrite_taken {u : State} {cause : Nat} (hw : s.stepWrite ⟨t, off, size, data, req, addr⟩ = (u, cause, false)) :
    exec (.programStepWrite req addr size data) s =
      .next ((if cause = 0 then u else u.recordErr (pgLPRG t) cause ⟨req, addr, size, true, data⟩).respond req false 0) := by
  have hz : okSize ⟨req, addr, size, true, data⟩ = true := (okSize_iff _).mpr hsize
  rw [programStepWrite_arrives h]
  simp [State.progAccess, State.complete, hz, hw]

theorem programStepWrite_held {u : State} {cause : Nat} (hw : s.stepWrite ⟨t, off, size, data, req, addr⟩ = (u, cause, true)) :
    exec (.programStepWrite req addr size data) s = .next u := by
  have hz : okSize ⟨req, addr, size, true, data⟩ = true := (okSize_iff _).mpr hsize
  rw [programStepWrite_arrives h]
  simp [State.progAccess, hz, hw]

end

end

/-- Settles O32: a trigger by whether its context is enabled and pending, a commit by its vote, a scrub by what the word holds, and a
step write by whether the store accepts it and a run holds it back. -/
theorem loopRuns : Obligations.LoopRuns := by
  unfold Obligations.LoopRuns
  refine ⟨?trigger, ?dispatch, ?commit, ?send, ?apply, ?ctxScrub, ?progScrub, ?stepWrite, ?heldWrite⟩
  case trigger =>
    intro s req t n p pend h hn
    refine ⟨softwareTrigger_triggers h hn, fun hlone => ?_⟩
    have hexec : ∀ {u : State}, s.trigger t n [0] s.tick = u → exec (.softwareTrigger req t n) s = .next (u.wrote p 0x4C req n) := by
      rintro _ rfl
      exact (softwareTrigger_triggers h hn).trans (by rw [State.triggerBoth, State.bothTiles_lone hlone])
    exact ⟨fun hen hp => hexec (State.trigger_pends hen hp), fun hen hp => hexec (State.trigger_merges hen hp),
      State.countMerged_open, fun hen => hexec (State.trigger_disabled hen)⟩
  case dispatch =>
    intro s t n k tr hd hnext
    exact ⟨fun word hword => congrArg Host.Outcome.next (State.dispatch_badWord hd hnext hword),
      fun hpick hswap => congrArg Host.Outcome.next (State.dispatch_places hd hnext hpick hswap)⟩
  case commit =>
    intro s t k lanes r rest b u h hdue
    have hone : ∀ lane < 3, u.outvotes t k (2 ^ lane) = u.outvoted t k lane := fun lane hlane => u.outvotes_one t k hlane
    refine ⟨congrArg Host.Outcome.next (State.runCommit_noMajority h hdue 0), fun hf => ?_, fun hf => ?_, fun lane hlane hf => ?_⟩
    · exact congrArg Host.Outcome.next (State.runCommit_faults h hdue 0 hf)
    · exact congrArg Host.Outcome.next (State.runCommit_commits h hdue 0 hf)
    · rw [← hone lane hlane]
      exact congrArg Host.Outcome.next (State.runCommit_commits h hdue (2 ^ lane) hf)
  case send =>
    intro s req t idx data p off h hidx
    have hdata : data % 2 ^ 32 = data := Nat.mod_eq_of_lt h.2.1
    rw [sharedValueWrite_sends h hidx, State.sendShared, hdata]
  case apply => exact fun s c idx v tick ord h ht => sharedValueApply_alone h ht
  case ctxScrub =>
    intro s t n word copies b ends hlt
    exact ⟨contextScrub_agrees s, contextScrub_repairs s, contextScrub_loses s hlt⟩
  case progScrub =>
    intro s t k b key ends upset repaired lost found
    refine ⟨fun h => ?_, fun h => programScrub_single s h, fun h => ?_, fun h => ?_, ?_, fun h => ?_, fun h => ?_, fun h => ?_,
      fun h => programScrub_upset_none s h, fun h => programScrub_upset_single s h, fun h => ?_,
      fun h => (programScrub_upsetsTwo s).trans (congrArg Host.Outcome.next (if_neg h)),
      fun h => (programScrub_upsetsTwo s).trans (congrArg Host.Outcome.next (if_pos h))⟩
    · exact programScrub_reads s (congrArg Prod.fst (State.stepRead_none h))
    · exact programScrub_second s h (by decide) (State.stepUncorr_new h)
    · exact programScrub_second s h (by decide) (State.stepUncorr_found h)
    · exact programScrub_double s (State.stepUncorr_new (SMap.get?_put_same _ _ _))
    · exact programScrub_reads s (congrArg Prod.fst (State.stepRead_single h))
    · exact programScrub_reads s ((congrArg Prod.fst (State.stepRead_double h (by decide))).trans (State.stepUncorr_new h))
    · exact programScrub_reads s ((congrArg Prod.fst (State.stepRead_double h (by decide))).trans (State.stepUncorr_found h))
    · exact h.elim (fun h => programScrub_upset_double s h (by decide)) fun h => programScrub_upset_double s h (by decide)
  case stepWrite =>
    intro s req addr size data t off a k h v waits harr hsize
    refine ⟨fun h8 hlt => ?_, fun hbad => ?_, fun hok hfree => ?_, fun hok hwait => ?_⟩
    · exact (if_pos h8).trans (Nat.mod_eq_of_lt hlt)
    · exact programStepWrite_taken harr hsize (State.stepWrite_refused hbad)
    · exact programStepWrite_taken harr hsize (State.stepWrite_applies hok hfree)
    · exact programStepWrite_held harr hsize (State.stepWrite_waits hok hwait)
  case heldWrite =>
    intro s t h rest k hheld ht hfree
    exact congrArg Host.Outcome.next (State.heldStepApply_first hheld ht hfree)

end Sys2Proof.Machine
end

section
/-! SUPPORT. What events leave of a generator's own registers (R44, R157, R218, R241). A number beyond a tile's 256 generators names a page
further up in the register map, which may be that of an interrupt controller. -/

namespace Sys2Proof.Machine

/-! ### Fields of other registers -/

theorem State.getF_setFlag_ne (s : State) {b b' : Nat} {f f' : Fld} (v : Bool) (h : fkey b' f' ≠ fkey b f) :
    (s.setFlag b f v).getF b' f' = s.getF b' f' := State.getF_setF_ne (s.noteSet b f v.toNat) _ h

theorem State.getF_setFbit_ne (s : State) {b b' : Nat} {f f' : Fld} (i : Nat) (v : Bool) (h : fkey b' f' ≠ fkey b f) :
    (s.setFbit b f i v).getF b' f' = s.getF b' f' := State.getF_setF_ne (s.noteSet b f _) _ h

theorem State.getF_incF_ne (s : State) {b b' : Nat} {f f' : Fld} (n : Nat) (h : fkey b' f' ≠ fkey b f) :
    (s.incF b f n).getF b' f' = s.getF b' f' := State.getF_setF_ne (s.noteInc b f n) _ h

theorem State.getF_satF_ne (s : State) {b b' : Nat} {f f' : Fld} (n : Nat) (h : fkey b' f' ≠ fkey b f) :
    (s.satF b f n).getF b' f' = s.getF b' f' := State.getF_setF_ne (s.noteInc b f n) _ h

theorem State.getF_setLed80_ne (s : State) {b b' : Nat} {f q e : Fld} (v : Int) (hq : fkey b' f ≠ fkey b q) (he : fkey b' f ≠ fkey b e) :
    (s.setLed80 b q e v).getF b' f = s.getF b' f := (State.getF_setF_ne _ _ he).trans (State.getF_setF_ne _ _ hq)

/-- A one-bit field at the place of a wider one is its bit 0, which the setting of bit 1 leaves. -/
theorem State.getF_setFbit_one (s : State) {b b' : Nat} {f f' : Fld} (v : Bool) (hk : fkey b' f' = fkey b f)
    (hw' : f'.w = 1) (hw : f.w = 32) (hr' : f'.journal = false ∧ f'.reset = 0) (hr : f.journal = false ∧ f.reset = 0) :
    (s.setFbit b f 1 v).getF b' f' = s.getF b' f' := by
  have hraw : ∀ u : State, u.getF b' f' = u.getF b f % 2 := by
    intro u
    simp [State.getF, State.resetOf, hk, hw, hw', hr, hr', Nat.mod_mod_of_dvd]
  rw [hraw, hraw, State.setFbit, State.getF_setF, hw]
  simp only [setBit, setBits, bits]
  have hset : (s.noteSet b f (if v = true then 2 ^ 1 else 0)).getF b f = s.getF b f := rfl
  omega

theorem State.getF_requestWake (s : State) (i b : Nat) (f : Fld) : (s.requestWake i).getF b f = s.getF b f := by
  unfold State.requestWake
  split <;> rfl

theorem State.getF_cascadeWake (s was : State) (b : Nat) (f : Fld) : (s.cascadeWake was).getF b f = s.getF b f := by
  refine foldl_keeps (fun z : State => z.getF b f) (fun v k => ?_) _ _
  dsimp only
  split
  · exact v.getF_requestWake _ b f
  · rfl

theorem State.getF_countArrivals (s : State) {b b' : Nat} {f arriv satlost cnt satw : Fld} {i : Nat} (n : Nat)
    (ha : fkey b' f ≠ fkey b arriv) (hs : fkey b' f ≠ fkey b satlost) (hc : fkey b' f ≠ fkey b cnt)
    (hw : ∀ u : State, (u.setFbit b satw i true).getF b' f = u.getF b' f) :
    (s.countArrivals b arriv satlost cnt satw i n).1.getF b' f = s.getF b' f := by
  unfold State.countArrivals
  dsimp only
  split
  · rw [State.getF_setF_ne _ _ hc, State.getF_incF_ne _ _ ha]
  · rw [State.getF_incF_ne _ _ hs, hw, State.getF_setF_ne _ _ hc, State.getF_incF_ne _ _ ha]

/-! ### The registers of a generator -/

/-- A field of the registers that a page holds for each of its generators, and where the page were an interrupt controller's, neither the
count nor the SAT bit of the source that stands for the controller's own page (R240, R242). -/
structure Fld.GenReg (f : Fld) : Prop where
  lo : f.lo < 64
  base : 0x80 ≤ f.off
  top : f.off < 0x680
  count : f.off = 0x400 → f.lo ≠ 8
  sat : f.off = 0x140 → f.lo = 0 → f.w = 1 ∧ f.journal = false ∧ f.reset = 0

/-- A source whose arrival counts nowhere in the registers of generator `g` of tile `t`: its controller has another page, or it is the
source of that controller's own page. -/
structure SrcApart (src t g : Nat) : Prop where
  tile : src < 20480 → pgINTC (src / 512) ≠ pgPWMG t g ∨ src % 512 = 1
  device : pgDINTC + src < pgPWMG t g

theorem pgPWMG_aligned (t g : Nat) : pgPWMG t g % 0x1000 = 0 := by
  unfold pgPWMG tileBase
  omega

theorem cluBase_page (c slot : Nat) : cluBase c slot % 0x1000 = 0 := by
  unfold cluBase
  omega

/-- The source of the page of a controller that an arrival set a SAT bit of. -/
theorem SrcApart.chained {src t g : Nat} (s : State) (n : Nat) (h : (s.arriveOnce src n).2.2 ≠ 0) :
    (s.arriveOnce src n).2.1 % 0x1000 = 0 ∧ SrcApart (summarySrc (s.arriveOnce src n).2.1) t g := by
  have hg : 0x08020000 ≤ pgPWMG t g := by
    unfold pgPWMG tileBase
    omega
  have hintc : src < 20480 → pgINTC (src / 512) % 0x1000 = 0 ∧ SrcApart (summarySrc (pgINTC (src / 512))) t g := by
    intro hlt
    have hsum : summarySrc (pgINTC (src / 512)) = 512 * (src / 512) + 1 := by
      unfold summarySrc pgINTC tileBase
      rw [if_neg (by omega), if_neg (by omega)]
      omega
    refine ⟨pgINTC_aligned _, fun _ => .inr (by omega), ?_⟩
    rw [hsum, pgDINTC, devBase]
    omega
  revert h
  unfold State.arriveOnce
  dsimp only
  split
  · next hlt =>
    split
    · exact fun h => absurd rfl h
    · split
      · split
        · exact fun h => absurd rfl h
        · exact fun _ => hintc hlt
      · exact fun _ => hintc hlt
  · refine fun _ => ⟨(by decide : pgDINTC % 0x1000 = 0), fun h => absurd h (by decide : ¬ summarySrc pgDINTC < 20480), ?_⟩
    have : pgDINTC + summarySrc pgDINTC < 0x08020000 := by decide
    exact Nat.lt_of_lt_of_le this hg

/-- A generator's own page reports to its own tile. -/
theorem srcApart_own (t g : Nat) : SrcApart (summarySrc (pgPWMG t g)) t g := by
  have hp := pgPWMG_aligned t g
  have hg : 0x08020000 ≤ pgPWMG t g := by
    unfold pgPWMG tileBase
    omega
  have hsum : summarySrc (pgPWMG t g) =
      512 * ((pgPWMG t g - 0x08000000) / 0x00100000) + pgPWMG t g % 0x00100000 / 0x1000 := by
    unfold summarySrc
    rw [if_neg (by omega), if_neg (by omega)]
  refine ⟨fun _ => ?_, ?_⟩
  · unfold pgINTC tileBase
    omega
  · rw [hsum, pgDINTC, devBase]
    omega

theorem cluSummary_le (slot : Nat) : cluSummary slot ≤ slot + 86 := by
  have hite : ∀ (c : Prop) [Decidable c] (x y : Nat), x ≤ slot + 86 → y ≤ slot + 86 → (if c then x else y) ≤ slot + 86 := by
    intro c _ x y hx hy
    split <;> assumption
  unfold cluSummary
  repeat' refine hite _ _ _ ?_ ?_
  all_goals omega

/-- A page of the generator's cluster. -/
theorem srcApart_cluster (t g : Nat) {slot : Nat} (h : slot < 0x200) : SrcApart (summarySrc (cluBase (t / 10) slot)) t g := by
  have hg : 0x08020000 + 0x00100000 * t ≤ pgPWMG t g := by
    unfold pgPWMG tileBase
    omega
  unfold summarySrc
  split
  · next hdev =>
    unfold cluBase at hdev
    omega
  · split
    · next hclu =>
      have hslot := cluSummary_le (cluBase (t / 10) slot % 0x01000000 / 0x1000)
      refine ⟨fun hlt => by omega, ?_⟩
      generalize cluSummary _ = k at hslot
      unfold cluBase at hclu hslot ⊢
      unfold pgDINTC devBase
      omega
    · next hclu =>
      unfold cluBase at hclu ⊢
      refine ⟨fun hlt => .inl ?_, ?_⟩
      · unfold pgINTC tileBase
        omega
      · unfold pgDINTC devBase
        omega

section
variable {s : State} {t g : Nat} {f : Fld} (hf : f.GenReg)
include hf

/-- A field of another page, or of the page's header and common registers, or of its ledgers. -/
theorem Fld.GenReg.apart {b : Nat} {f' : Fld} (hb : b % 0x1000 = 0) (ho : f'.off < 0x1000) (hl : f'.lo < 64)
    (h : b ≠ pgPWMG t g ∨ f'.off < 0x80 ∨ 0x680 ≤ f'.off) : fkey (pgPWMG t g) f ≠ fkey b f' := by
  obtain ⟨hlo, hfrom, hto, -, -⟩ := hf
  have hp := pgPWMG_aligned t g
  simp only [fkey]
  omega

/-- An arrival at a tile's controller. -/
theorem Fld.GenReg.enterIntc {t' l : Nat} (hl : l < 512) (h : pgINTC t' ≠ pgPWMG t g ∨ l = 1) (n : Nat) :
    (s.enterIntc t' l n).1.getF (pgPWMG t g) f = s.getF (pgPWMG t g) f := by
  have hb := pgINTC_aligned t'
  unfold State.enterIntc
  dsimp only
  split
  · simp only [apply_ite (fun z : State => z.getF (pgPWMG t g) f), State.getF_requestWake,
      State.getF_satF_ne _ _ (hf.apart hb (f' := F.INTC_WAKE_WAITS) (by decide) (by decide) (.inr (.inl (by decide)))),
      State.getF_setF_ne _ _ (hf.apart hb (f' := F.INTC_WAKE_LEVEL) (by decide) (by decide) (.inr (.inl (by decide)))), ite_self]
    rfl
  · refine State.getF_countArrivals (s.noteFresh t' l n) n (hf.apart hb (by decide) (by decide) (.inr (.inl (by decide))))
      (hf.apart hb (by decide) (by decide) (.inr (.inl (by decide)))) ?_ fun v => ?_
    · rcases h with h | rfl
      · exact hf.apart hb (by simp only [F.intcCount]; omega) (by simp only [F.intcCount]; omega) (.inl h)
      · have hcount := hf.count
        have hlo := hf.lo
        have htop := hf.top
        have hp := pgPWMG_aligned t g
        simp only [fkey, F.intcCount]
        omega
    · by_cases hk : fkey (pgPWMG t g) f = fkey (pgINTC t') (F.INTC_SAT_SAT (l / 32))
      · rcases h with h | rfl
        · exact absurd hk (hf.apart hb (by simp only [F.INTC_SAT_SAT]; omega) (by simp [F.INTC_SAT_SAT]) (.inl h))
        · have hplace : f.off = 0x140 ∧ f.lo = 0 := by
            obtain ⟨hlo, hfrom, hto, -, -⟩ := hf
            have hp := pgPWMG_aligned t g
            simp only [fkey, F.INTC_SAT_SAT] at hk
            omega
          obtain ⟨hw, hreset⟩ := hf.sat hplace.1 hplace.2
          exact State.getF_setFbit_one v true hk hw rfl hreset ⟨rfl, rfl⟩
      · exact State.getF_setFbit_ne _ _ _ hk

/-- An arrival at the controller that holds its source. -/
theorem Fld.GenReg.arriveOnce {src : Nat} (h : SrcApart src t g) (n : Nat) :
    (s.arriveOnce src n).1.getF (pgPWMG t g) f = s.getF (pgPWMG t g) f := by
  obtain ⟨htile, hdev⟩ := h
  unfold State.arriveOnce
  dsimp only
  split
  · next hsrc =>
    have hint := hf.enterIntc (s := s) (Nat.mod_lt src (by decide)) (htile hsrc) n
    split
    · rfl
    · split
      · split
        · rfl
        · exact hint
      · exact hint
  · dsimp only
    rw [State.getF_cascadeWake]
    have hbase := hf.base
    have hlo := hf.lo
    refine State.getF_countArrivals s n ?_ ?_ ?_ fun v => State.getF_setFbit_ne v _ true ?_ <;>
      simp only [fkey, F.DINTC_ARRIV_ARRIV, F.DINTC_SATLOST_SATLOST, F.dintcCount, F.DINTC_SAT_SAT] <;> omega

theorem Fld.GenReg.arriveF (fuel : Nat) {src : Nat} (h : SrcApart src t g) (n : Nat) :
    (State.arriveF fuel s src n).getF (pgPWMG t g) f = s.getF (pgPWMG t g) f := by
  induction fuel generalizing s src n with
  | zero => rfl
  | succ k ih =>
    have honce := hf.arriveOnce (s := s) h n
    unfold State.arriveF
    split
    · rfl
    · dsimp only
      split
      · exact honce
      · next hsat =>
        obtain ⟨hb, hnext⟩ := SrcApart.chained s n hsat (t := t) (g := g)
        split
        · refine (ih hnext 1).trans ((State.getF_setFbit_ne _ _ _ ?_).trans honce)
          exact hf.apart hb (by decide) (by decide) (.inr (.inl (by decide)))
        · exact honce

/-- An occurrence of an interrupt condition of a page whose summary lies apart. -/
theorem Fld.GenReg.occur {b : Nat} (hb : b % 0x1000 = 0) (h : SrcApart (summarySrc b) t g) (i n : Nat) :
    (s.occur b i n).getF (pgPWMG t g) f = s.getF (pgPWMG t g) f := by
  unfold State.occur
  split
  · rfl
  · split
    · refine (hf.arriveF 3 h n).trans (State.getF_setFbit_ne _ _ _ ?_)
      exact hf.apart hb (by decide) (by decide) (.inr (.inl (by decide)))
    · rfl

theorem Fld.GenReg.pulse {b : Nat} (hb : b % 0x1000 = 0) (h : SrcApart (summarySrc b) t g) (i n : Nat) :
    (s.pulse b i n).getF (pgPWMG t g) f = s.getF (pgPWMG t g) f := by
  unfold State.pulse
  split
  · rfl
  · exact hf.occur hb h i n

/-- A pulse of the generator's own page. -/
theorem Fld.GenReg.pulse_own (i n : Nat) : (s.pulse (pgPWMG t g) i n).getF (pgPWMG t g) f = s.getF (pgPWMG t g) f :=
  hf.pulse (pgPWMG_aligned t g) (srcApart_own t g) i n

/-- A kiln log record of the generator's cluster. -/
theorem Fld.GenReg.klogRecord (ty flags src tick : Nat) (payload : List Nat) :
    (s.klogRecord (t / 10) ty flags src tick payload).getF (pgPWMG t g) f = s.getF (pgPWMG t g) f := by
  have hb : pgKLOG (t / 10) % 0x1000 = 0 := cluBase_page _ _
  have hapart : ∀ f' : Fld, f'.off < 0x80 → f'.lo < 64 → fkey (pgPWMG t g) f ≠ fkey (pgKLOG (t / 10)) f' :=
    fun f' ho hl => hf.apart hb (by omega) hl (.inr (.inl ho))
  unfold State.klogRecord
  dsimp only
  split
  · rfl
  · simp only [apply_ite (fun z : State => z.getF (pgPWMG t g) f), hf.pulse hb (srcApart_cluster t g (by decide)),
      State.getF_incF_ne _ _ (hapart F.KLOG_DROP_DROP (by decide) (by decide)), ite_self]
    exact (State.getF_setF_ne _ _ (hapart F.KLOG_STAT_LEVEL (by decide) (by decide))).trans
      (State.getF_incF_ne _ _ (hapart F.KLOG_PROD_PROD (by decide) (by decide)))


/-! ### Rings and pins of the generator's cluster -/

theorem Fld.GenReg.ring_apart (r : Nat) {f' : Fld} (ho : f'.off < 0x80) (hl : f'.lo < 64) :
    fkey (pgPWMG t g) f ≠ fkey (pgRING r) f' :=
  hf.apart (cluBase_page _ _) (by omega) hl (.inr (.inl ho))

theorem Fld.GenReg.purge (r pos leg : Nat) : (s.purge r pos leg).getF (pgPWMG t g) f = s.getF (pgPWMG t g) f :=
  State.getF_satF_ne _ _ (hf.ring_apart r (by decide) (by decide))

section
variable {r : Nat} (hr : r / 32 = t / 10)
include hr

theorem Fld.GenReg.enqueueFrame (d : Nat) (i : QItem) : (s.enqueueFrame r d i).getF (pgPWMG t g) f = s.getF (pgPWMG t g) f := by
  have hsrc : SrcApart (summarySrc (pgRING r)) t g := by
    rw [pgRING, hr]
    exact srcApart_cluster t g (by omega)
  unfold State.enqueueFrame
  dsimp only
  split
  · rfl
  · split
    · exact (hf.pulse (cluBase_page _ _) hsrc 7 1).trans (State.getF_satF_ne _ _ (hf.ring_apart r (by decide) (by decide)))
    · rfl

theorem Fld.GenReg.enqueueBoth (i : QItem) : (s.enqueueBoth r i).getF (pgPWMG t g) f = s.getF (pgPWMG t g) f :=
  (hf.enqueueFrame hr 1 i).trans (hf.enqueueFrame hr 0 i)

theorem Fld.GenReg.blockCommand (pos leg gen : Nat) :
    (s.blockCommand r pos leg gen).getF (pgPWMG t g) f = s.getF (pgPWMG t g) f := by
  have hpurge := hf.purge (s := s) (g := g) (t := t) r pos leg
  unfold State.blockCommand
  dsimp only
  generalize s.purge r pos leg = z at hpurge
  have hseq : (z.nextSeq r (pos * 4 + leg)).2.getF (pgPWMG t g) f = z.getF (pgPWMG t g) f := rfl
  generalize z.nextSeq r (pos * 4 + leg) = q at hseq
  rw [hr]
  refine (hf.klogRecord _ _ _ _ _).trans ?_
  rw [State.getF_setRing]
  exact (hf.enqueueBoth hr _).trans (hseq.trans hpurge)

end

/-- A pin of the generator's cluster in the dust sheet: STATE and LEVEL of the pin lie apart in a device's tile; else the field is at no
place where a pin has them. -/
theorem Fld.GenReg.pinDust {p : Nat} (hp : p / 64 = t / 10) (h : t < 40 ∨ (f.off % 8 = 4 → f.lo ≠ 0 ∧ f.lo ≠ 2)) :
    (s.pinDust p).getF (pgPWMG t g) f = s.getF (pgPWMG t g) f := by
  have hapart : ∀ f' : Fld, f'.off = 0x84 + 8 * (p % 16) → f'.lo = 0 ∨ f'.lo = 2 → fkey (pgPWMG t g) f ≠ fkey (pgPKEEP p) f' := by
    intro f' ho hl
    obtain ⟨hlo, hbase, htop, -, -⟩ := hf
    simp only [fkey, pgPKEEP, pgPWMG, cluBase, tileBase]
    omega
  unfold State.pinDust
  dsimp only
  rw [State.getF_setFlag_ne _ _ (hapart _ rfl (.inr rfl)), State.getF_setF_ne _ _ (hapart _ rfl (.inl rfl))]
  split
  · unfold State.pinLogged
    rw [hp]
    exact hf.klogRecord _ _ _ _ _
  · rfl

/-! ### The ledger (R372, R374) -/

theorem Fld.GenReg.larm_apart {f' : Fld} {a : Nat} (ha : a < 16) (ho : f'.off < 0x420 + 0x20 * armIx (t / 10) a) (hl : f'.lo < 64) :
    fkey (pgPWMG t g) f ≠ fkey pgDROLE f' := by
  obtain ⟨hlo, hbase, htop, -, -⟩ := hf
  unfold armIx at ho
  simp only [fkey, pgDROLE, devBase, pgPWMG, tileBase]
  omega

/-- A field of the generator's ledger, on its own page. -/
theorem Fld.GenReg.ledg_apart {f' : Fld} (ho : 0x680 ≤ f'.off ∧ f'.off < 0x1000) (hl : f'.lo < 64) :
    fkey (pgPWMG t g) f ≠ fkey (pgPWMG t g) f' :=
  hf.apart (pgPWMG_aligned t g) ho.2 hl (.inr (.inr ho.1))

theorem Fld.GenReg.ledUpto (k : Nat) : (s.ledUpto t g k).getF (pgPWMG t g) f = s.getF (pgPWMG t g) f := by
  have hq : fkey (pgPWMG t g) f ≠ fkey (pgPWMG t g) (F.LEDG_Q_Q (g % 16)) :=
    hf.ledg_apart (by simp only [F.LEDG_Q_Q]; omega) (by simp [F.LEDG_Q_Q])
  have hfrac : fkey (pgPWMG t g) f ≠ fkey (pgPWMG t g) (F.LEDG_FRAC_FRAC (g % 16)) :=
    hf.ledg_apart (by simp only [F.LEDG_FRAC_FRAC]; omega) (by simp [F.LEDG_FRAC_FRAC])
  have ha := bits_lt (s.ledCfg t g (k - 1)) 0 4
  have harm : ∀ f' : Fld, f'.off < 0x420 + 0x20 * armIx (t / 10) (bits (s.ledCfg t g (k - 1)) 0 4) → f'.lo < 64 →
      fkey (pgPWMG t g) f ≠ fkey pgDROLE f' := fun f' => hf.larm_apart ha
  unfold State.ledUpto
  dsimp only
  generalize armIx (t / 10) (bits (s.ledCfg t g (k - 1)) 0 4) = ix at harm
  generalize (Gen.ledRun 10 (s.gen t g) (32 * k) (bits (s.ledCfg t g (k - 1)) 6 4)) = run
  generalize (if bit (s.ledCfg t g (k - 1)) 5 = true then (-1 : Int) else 1) * _ * _ = d
  split
  · rfl
  · split
    · rfl
    · have hled := fun v => State.getF_setLed80_ne (s.setGen t g { run.2 with ledPerQ := run.2.ledPerQ + d }) v hq hfrac
      split
      · exact hled _
      · have hq' : fkey (pgPWMG t g) f ≠ fkey pgDROLE (F.LARM_Q_Q ix) := harm _ (by simp only [F.LARM_Q_Q]; omega) (by simp [F.LARM_Q_Q])
        have hfrac' : fkey (pgPWMG t g) f ≠ fkey pgDROLE (F.LARM_FRAC_FRAC ix) :=
          harm _ (by simp only [F.LARM_FRAC_FRAC]; omega) (by simp [F.LARM_FRAC_FRAC])
        have hwrap : fkey (pgPWMG t g) f ≠ fkey pgDROLE (F.LARM_STAT_WRAP ix) :=
          harm _ (by simp only [F.LARM_STAT_WRAP]; omega) (by simp [F.LARM_STAT_WRAP])
        have hflag : ∀ (c : Bool) (z : State), (if c then z.setFlag pgDROLE (F.LARM_STAT_WRAP ix) true else z).getF (pgPWMG t g) f =
            z.getF (pgPWMG t g) f := by
          intro c z
          split
          · exact State.getF_setFlag_ne _ _ hwrap
          · rfl
        exact (hflag _ _).trans ((State.getF_setLed80_ne _ _ hq' hfrac').trans (hled _))

end
end Sys2Proof.Machine
end

section
/-! SUPPORT. The dust sheet, STATE and a period boundary of a generator: what they set, and what they leave of its registers and of its
entry among the generators (R134, R156, R157, R162). -/

namespace Sys2Proof.Machine

/-! ### Fields of a generator's block of registers -/

/-- A field of the block of registers of generator `m` of a page, behind a word other than DT. -/
theorem Fld.genReg {f : Fld} {o m : Nat} (hm : m < 16) (hoff : f.off = o + 0x60 * m) (ho : 0x80 ≤ o ∧ o < 0xE0 ∧ o ≠ 0xA0) (hlo : f.lo < 64)
    (hctrl : o = 0x80 → f.w = 1 ∧ f.journal = false ∧ f.reset = 0) : f.GenReg where
  lo := hlo
  base := by omega
  top := by omega
  count := by omega
  sat h _ := hctrl (by omega)

section
variable {s : State} {t g : Nat} {f : Fld} (hf : f.GenReg)
include hf

theorem Fld.GenReg.ledSync : (s.ledSync t g).getF (pgPWMG t g) f = s.getF (pgPWMG t g) f :=
  (hf.ledUpto _).trans (foldl_keeps (fun z : State => z.getF (pgPWMG t g) f) (fun _ k => hf.ledUpto k) _ _)

theorem Fld.GenReg.ledOff : (s.ledOff t g).getF (pgPWMG t g) f = s.getF (pgPWMG t g) f := hf.ledSync

end

/-! ### The dust sheet -/

/-- A generator's entry in the dust sheet: no level, no plan. -/
def Gen.dusted (x : Gen) : Gen :=
  { x with
    m := false, om := false, h := false, l := false, hRise := none, lRise := none, lSupp := false, plan := [], pulse := false
    catchAt := none }

/-- The dust sheet at the generator itself: its levels, its plan and its lanes. -/
def State.dustLevels (s : State) (t g : Nat) : State :=
  let b := pgPWMG t g
  let m := g % 16
  let s := s.ledOff t g
  let s := ((s.setFlag b (F.PWMG_STAT_H m) false).setFlag b (F.PWMG_STAT_L m) false).setFlag b (F.PWMG_STAT_DS m) true
  let s := s.setGen t g (s.gen t g).dusted
  let l := s.lanesOf t
  s.setLanes t { l with
    delayed := l.delayed.filter fun e => e.gen != g
    sets := l.sets.filter fun e => e.1 != g }

/-- The dust sheet at the pins of a local generator and at the node of a remote one. -/
def State.dustPins (s : State) (t g : Nat) (was : Bool) : State :=
  if s.role t ≠ 0 then s
  else match s.bindMode t g with
    | 1 =>
      let s := s.pinDust (s.bindPin t g true)
      if s.flag (pgPWMG t g) (F.PWMG_BIND_L_EN (g % 16)) then s.pinDust (s.bindPin t g false) else s
    | 2 => if was || !s.drives t then s else s.blockCommand (s.bindRing t g) (s.bindPos t g) (s.bindLeg t g) (s.genNo t g)
    | _ => s

theorem State.dust_eq (s : State) (t g : Nat) :
    s.dust t g = (s.dustLevels t g).dustPins t g (s.flag (pgPWMG t g) (F.PWMG_STAT_DS (g % 16))) := rfl

theorem State.bindPin_page (s : State) (t g : Nat) (isH : Bool) : s.bindPin t g isH / 64 = t / 10 := by
  have h := s.getF_lt (pgPWMG t g) (if isH then F.PWMG_BIND_H_PIN (g % 16) else F.PWMG_BIND_L_PIN (g % 16))
  unfold State.bindPin
  have hw : (if isH then F.PWMG_BIND_H_PIN (g % 16) else F.PWMG_BIND_L_PIN (g % 16)).w = 6 := by cases isH <;> rfl
  rw [hw] at h
  omega

theorem State.bindRing_page (s : State) (t g : Nat) : s.bindRing t g / 32 = t / 10 := by
  have h : s.getF (pgPWMG t g) (F.PWMG_BIND_NODE (g % 16)) < 2 ^ 10 := s.getF_lt _ _
  unfold State.bindRing
  omega

section
variable {s : State} {t g : Nat} {f : Fld} (hf : f.GenReg)
include hf

theorem Fld.GenReg.dustLevels (hH : fkey (pgPWMG t g) f ≠ fkey (pgPWMG t g) (F.PWMG_STAT_H (g % 16)))
    (hL : fkey (pgPWMG t g) f ≠ fkey (pgPWMG t g) (F.PWMG_STAT_L (g % 16)))
    (hDS : fkey (pgPWMG t g) f ≠ fkey (pgPWMG t g) (F.PWMG_STAT_DS (g % 16))) :
    (s.dustLevels t g).getF (pgPWMG t g) f = s.getF (pgPWMG t g) f :=
  (State.getF_setFlag_ne _ _ hDS).trans ((State.getF_setFlag_ne _ _ hL).trans ((State.getF_setFlag_ne _ _ hH).trans hf.ledOff))

theorem Fld.GenReg.dustPins (h : t < 40 ∨ (f.off % 8 = 4 → f.lo ≠ 0 ∧ f.lo ≠ 2)) (was : Bool) :
    (s.dustPins t g was).getF (pgPWMG t g) f = s.getF (pgPWMG t g) f := by
  unfold State.dustPins
  split
  · rfl
  · split
    · have hH := hf.pinDust (s := s) (g := g) (s.bindPin_page t g true) h
      dsimp only
      split
      · exact (hf.pinDust (State.bindPin_page _ t g false) h).trans hH
      · exact hH
    · split
      · rfl
      · exact hf.blockCommand (s.bindRing_page t g) _ _ _
    · rfl

/-- The dust sheet leaves every register of the generator but H, L and DS. -/
theorem Fld.GenReg.dust (hpin : t < 40 ∨ (f.off % 8 = 4 → f.lo ≠ 0 ∧ f.lo ≠ 2))
    (hH : fkey (pgPWMG t g) f ≠ fkey (pgPWMG t g) (F.PWMG_STAT_H (g % 16)))
    (hL : fkey (pgPWMG t g) f ≠ fkey (pgPWMG t g) (F.PWMG_STAT_L (g % 16)))
    (hDS : fkey (pgPWMG t g) f ≠ fkey (pgPWMG t g) (F.PWMG_STAT_DS (g % 16))) :
    (s.dust t g).getF (pgPWMG t g) f = s.getF (pgPWMG t g) f :=
  (hf.dustPins hpin _).trans (hf.dustLevels hH hL hDS)

/-- STATE and the page's summary of it are what a change of STATE writes. -/
theorem Fld.GenReg.setGenState {st : Nat} (h : fkey (pgPWMG t g) f ≠ fkey (pgPWMG t g) (F.PWMG_STAT_STATE (g % 16))) :
    (s.setGenState t g st).getF (pgPWMG t g) f = s.getF (pgPWMG t g) f := by
  have hsum : ∀ f' : Fld, f'.off = 0x40 → f'.lo < 64 → fkey (pgPWMG t g) f ≠ fkey (pgPWMG t g) f' :=
    fun f' ho hl => hf.apart (pgPWMG_aligned t g) (by omega) hl (.inr (.inl (by omega)))
  have hset : ∀ a t' : Bool, (((s.setF (pgPWMG t g) (F.PWMG_STAT_STATE (g % 16)) st).setFbit (pgPWMG t g) F.PWMG_PSTAT_ARMED (g % 16) a).setFbit
      (pgPWMG t g) F.PWMG_PSTAT_TRIPPED (g % 16) t').getF (pgPWMG t g) f = s.getF (pgPWMG t g) f := fun a t' =>
    (State.getF_setFbit_ne _ _ _ (hsum _ rfl (by decide))).trans ((State.getF_setFbit_ne _ _ _ (hsum _ rfl (by decide))).trans
      (State.getF_setF_ne _ _ h))
  unfold State.setGenState
  dsimp only
  split
  · exact (hf.pulse_own 18 1).trans (hset _ _)
  · exact hset _ _

/-! ### A boundary -/

theorem Fld.GenReg.setStage (x : TileStage) : (s.setStage t x).getF (pgPWMG t g) f = s.getF (pgPWMG t g) f := by
  refine State.getF_setF_ne _ _ (hf.apart (b := pgCSTO t) ?_ (by decide) (by decide) (.inl ?_)) <;>
    simp only [pgCSTO, pgPWMG, tileBase] <;> omega

theorem Fld.GenReg.setCtxWord (n w v : Nat) : (s.setCtxWord t n w v).getF (pgPWMG t g) f = s.getF (pgPWMG t g) f := by
  unfold State.setCtxWord
  dsimp only
  split
  · refine State.getF_satF_ne _ _ (hf.apart (b := pgLENG t) ?_ (by decide) (by decide) (.inl ?_)) <;>
      simp only [pgLENG, pgPWMG, tileBase] <;> omega
  · rfl

theorem Fld.GenReg.applyCore (c : CoreWrite) : (s.applyCore t c).getF (pgPWMG t g) f = s.getF (pgPWMG t g) f := by
  unfold State.applyCore
  dsimp only
  split
  · exact (hf.setCtxWord _ _ _).trans (hf.setCtxWord _ _ _)
  · exact hf.setCtxWord _ _ _

theorem Fld.GenReg.applyPlan (p : PlanCommit) : (s.applyPlan t p).getF (pgPWMG t g) f = s.getF (pgPWMG t g) f :=
  (hf.setCtxWord _ _ _).trans (hf.setCtxWord _ _ _)

/-- A boundary writes contexts and the registers of the store and the loop engine. -/
theorem Fld.GenReg.boundary : (s.boundary t g).getF (pgPWMG t g) f = s.getF (pgPWMG t g) f :=
  (foldl_keeps (fun z : State => z.getF (pgPWMG t g) f) (fun _ c => hf.applyCore c) _ _).trans
    ((foldl_keeps (fun z : State => z.getF (pgPWMG t g) f) (fun _ p => hf.applyPlan p) _ _).trans (hf.setStage _))

theorem Fld.GenReg.leaveArmed {st : Nat} (h : fkey (pgPWMG t g) f ≠ fkey (pgPWMG t g) (F.PWMG_STAT_STATE (g % 16))) :
    (s.leaveArmed t g st).getF (pgPWMG t g) f = s.getF (pgPWMG t g) f := by
  have hset := hf.setGenState (s := s) (st := st) h
  unfold State.leaveArmed
  dsimp only
  split
  · exact hf.boundary.trans hset
  · exact hset

end

/-! ### The registers of one generator -/

section
variable (g : Nat)

theorem F.genReg_run : (F.PWMG_CTRL_RUN (g % 16)).GenReg :=
  Fld.genReg (o := 0x80) (Nat.mod_lt g (by decide)) rfl (by decide) (by decide : 0 < 64) fun _ => ⟨rfl, rfl, rfl⟩

theorem F.genReg_arm : (F.PWMG_CTRL_ARM (g % 16)).GenReg :=
  Fld.genReg (o := 0x80) (Nat.mod_lt g (by decide)) rfl (by decide) (by decide : 1 < 64) fun _ => ⟨rfl, rfl, rfl⟩

theorem F.genReg_state : (F.PWMG_STAT_STATE (g % 16)).GenReg :=
  Fld.genReg (o := 0xB4) (Nat.mod_lt g (by decide)) rfl (by decide) (by decide : 0 < 64) fun h => absurd h (by decide)

theorem F.genReg_cfgErr : (F.PWMG_STAT_CFG_ERR (g % 16)).GenReg :=
  Fld.genReg (o := 0xB4) (Nat.mod_lt g (by decide)) rfl (by decide) (by decide : 4 < 64) fun h => absurd h (by decide)

theorem F.genReg_h : (F.PWMG_STAT_H (g % 16)).GenReg :=
  Fld.genReg (o := 0xB4) (Nat.mod_lt g (by decide)) rfl (by decide) (by decide : 8 < 64) fun h => absurd h (by decide)

theorem F.genReg_l : (F.PWMG_STAT_L (g % 16)).GenReg :=
  Fld.genReg (o := 0xB4) (Nat.mod_lt g (by decide)) rfl (by decide) (by decide : 9 < 64) fun h => absurd h (by decide)

theorem F.genReg_ds : (F.PWMG_STAT_DS (g % 16)).GenReg :=
  Fld.genReg (o := 0xB4) (Nat.mod_lt g (by decide)) rfl (by decide) (by decide : 10 < 64) fun h => absurd h (by decide)

theorem F.genReg_src : (F.PWMG_TRIPREC_SRC (g % 16)).GenReg :=
  Fld.genReg (o := 0xC4) (Nat.mod_lt g (by decide)) rfl (by decide) (by decide : 8 < 64) fun h => absurd h (by decide)

theorem F.genReg_srcValid : (F.PWMG_TRIPREC_SRC_VALID (g % 16)).GenReg :=
  Fld.genReg (o := 0xC4) (Nat.mod_lt g (by decide)) rfl (by decide) (by decide : 13 < 64) fun h => absurd h (by decide)

theorem F.genReg_evaImm : (F.PWMG_CFG_EVA_IMM (g % 16)).GenReg :=
  Fld.genReg (o := 0x84) (Nat.mod_lt g (by decide)) rfl (by decide) (by decide : 3 < 64) fun h => absurd h (by decide)

theorem F.genReg_evbImm : (F.PWMG_CFG_EVB_IMM (g % 16)).GenReg :=
  Fld.genReg (o := 0x84) (Nat.mod_lt g (by decide)) rfl (by decide) (by decide : 4 < 64) fun h => absurd h (by decide)

end

/-! ### STATE, H, L and DS -/

theorem Fld.key_ne {b : Nat} {f f' : Fld} (h : 64 * f.off + f.lo ≠ 64 * f'.off + f'.lo) : fkey b f ≠ fkey b f' := by
  simp only [fkey]
  omega

theorem State.genState_setGenState (s : State) (t g : Nat) {st : Nat} (h : st < 8) : (s.setGenState t g st).genState t g = st := by
  have hsum : ∀ f' : Fld, f'.off = 0x40 → f'.lo < 64 → fkey (pgPWMG t g) (F.PWMG_STAT_STATE (g % 16)) ≠ fkey (pgPWMG t g) f' :=
    fun f' ho hl => (F.genReg_state g).apart (pgPWMG_aligned t g) (by omega) hl (.inr (.inl (by omega)))
  have hset : ∀ a t' : Bool, (((s.setF (pgPWMG t g) (F.PWMG_STAT_STATE (g % 16)) st).setFbit (pgPWMG t g) F.PWMG_PSTAT_ARMED (g % 16) a).setFbit
      (pgPWMG t g) F.PWMG_PSTAT_TRIPPED (g % 16) t').getF (pgPWMG t g) (F.PWMG_STAT_STATE (g % 16)) = st := fun a t' => by
    rw [State.getF_setFbit_ne _ _ _ (hsum _ rfl (by decide)), State.getF_setFbit_ne _ _ _ (hsum _ rfl (by decide)), State.getF_setF]
    exact Nat.mod_eq_of_lt h
  unfold State.setGenState State.genState
  dsimp only
  split
  · exact ((F.genReg_state g).pulse_own 18 1).trans (hset _ _)
  · exact hset _ _

theorem State.genState_leaveArmed (s : State) (t g : Nat) {st : Nat} (h : st < 8) : (s.leaveArmed t g st).genState t g = st := by
  have hset := s.genState_setGenState t g h
  unfold State.leaveArmed
  dsimp only
  split
  · exact (F.genReg_state g).boundary.trans hset
  · exact hset

theorem State.flag_eq_of_getF {s u : State} {b : Nat} {f : Fld} (h : s.getF b f = u.getF b f) : s.flag b f = u.flag b f :=
  congrArg (· == 1) h

/-- In the dust sheet H and L read 0 and DS reads 1. -/
theorem State.dust_levels (s : State) (t g : Nat) :
    (s.dust t g).flag (pgPWMG t g) (F.PWMG_STAT_H (g % 16)) = false ∧ (s.dust t g).flag (pgPWMG t g) (F.PWMG_STAT_L (g % 16)) = false ∧
      (s.dust t g).flag (pgPWMG t g) (F.PWMG_STAT_DS (g % 16)) = true := by
  rw [State.dust_eq]
  refine ⟨(State.flag_eq_of_getF ((F.genReg_h g).dustPins (.inr fun _ => ⟨(by decide : 8 ≠ 0), (by decide : 8 ≠ 2)⟩) _)).trans ?_,
    (State.flag_eq_of_getF ((F.genReg_l g).dustPins (.inr fun _ => ⟨(by decide : 9 ≠ 0), (by decide : 9 ≠ 2)⟩) _)).trans ?_,
    (State.flag_eq_of_getF ((F.genReg_ds g).dustPins (.inr fun _ => ⟨(by decide : 10 ≠ 0), (by decide : 10 ≠ 2)⟩) _)).trans ?_⟩
  · refine (State.flag_setFlag_fld _ _ ?_).trans ((State.flag_setFlag_fld _ _ ?_).trans (State.flag_setFlag _ _ _ _ rfl)) <;>
      simp [F.PWMG_STAT_H, F.PWMG_STAT_L, F.PWMG_STAT_DS]
  · refine (State.flag_setFlag_fld _ _ ?_).trans (State.flag_setFlag _ _ _ _ rfl)
    simp [F.PWMG_STAT_L, F.PWMG_STAT_DS]
  · exact State.flag_setFlag _ _ _ _ rfl

/-! ### The entry of a generator -/

theorem State.edge_of_eventFrame {s u : State} (h : s.eventFrame = u.eventFrame) : s.edge = u.edge := (congrArg State.edge h :)

theorem State.pulse_edge (s : State) (b i n : Nat) : (s.pulse b i n).edge = s.edge := State.edge_of_eventFrame (s.pulse_eventFrame b i n)

theorem State.klogRecord_edge (s : State) (c ty flags src tick : Nat) (payload : List Nat) :
    (s.klogRecord c ty flags src tick payload).edge = s.edge :=
  State.edge_of_eventFrame (s.klogRecord_eventFrame c ty flags src tick payload)

theorem State.gens_pinDust (s : State) (p : Nat) : (s.pinDust p).edge.gens = s.edge.gens := by
  unfold State.pinDust
  dsimp only
  split
  · exact (congrArg EdgeSt.gens (s.klogRecord_edge ..) :)
  · rfl

theorem State.edge_enqueueFrame (s : State) (r d : Nat) (i : QItem) : (s.enqueueFrame r d i).edge = s.edge := by
  unfold State.enqueueFrame
  dsimp only
  split
  · rfl
  · split
    · exact State.pulse_edge _ _ _ _
    · rfl

theorem State.edge_setRing (s : State) (r : Nat) (x : RingSt) : (s.setRing r x).edge = s.edge := rfl

theorem State.edge_blockCommand (s : State) (r pos leg gen : Nat) : (s.blockCommand r pos leg gen).edge = s.edge := by
  have hseq : ((s.purge r pos leg).nextSeq r (pos * 4 + leg)).2.edge = s.edge := rfl
  unfold State.blockCommand
  dsimp only
  generalize (s.purge r pos leg).nextSeq r (pos * 4 + leg) = q at hseq
  rw [State.klogRecord_edge, State.edge_setRing, State.enqueueBoth, State.edge_enqueueFrame, State.edge_enqueueFrame, hseq]

theorem State.gens_dustPins (s : State) (t g : Nat) (was : Bool) : (s.dustPins t g was).edge.gens = s.edge.gens := by
  unfold State.dustPins
  split
  · rfl
  · split
    · dsimp only
      split
      · exact (State.gens_pinDust _ _).trans (State.gens_pinDust _ _)
      · exact State.gens_pinDust _ _
    · split
      · rfl
      · exact congrArg EdgeSt.gens (State.edge_blockCommand ..)
    · rfl

theorem State.edge_setGenState (s : State) (t g st : Nat) : (s.setGenState t g st).edge = s.edge := by
  unfold State.setGenState
  dsimp only
  split
  · exact State.pulse_edge _ _ _ _
  · rfl

theorem State.gen_of_gens {s u : State} {t g : Nat} (h : s.edge.gens = u.edge.gens) : s.gen t g = u.gen t g := by
  rw [State.gen, State.gen, h]

theorem State.gen_setLanes (s : State) (t : Nat) (x : Lanes) (t' g : Nat) : (s.setLanes t x).gen t' g = s.gen t' g := rfl

theorem State.gen_dustLevels (s : State) (t g : Nat) : ∃ x : Gen, (s.dustLevels t g).gen t g = x.dusted := by
  unfold State.dustLevels
  dsimp only
  rw [State.gen_setLanes, State.gen_setGen]
  exact ⟨_, rfl⟩

/-- In the dust sheet a generator's outputs are low, and no transition is planned. -/
theorem State.gen_dust (s : State) (t g : Nat) : ∃ x : Gen, (s.dust t g).gen t g = x.dusted := by
  rw [State.dust_eq, State.gen_of_gens (State.gens_dustPins _ t g _)]
  exact s.gen_dustLevels t g

end Sys2Proof.Machine
end

section
/-! SUPPORT. A trip, the end of arming and of running, and a wrong period (R134, R138, R159, R162): the outcome at the generator. -/

namespace Sys2Proof.Machine

/-! ### A trip -/

theorem Fld.GenReg.tripLogged {s : State} {t g : Nat} {f : Fld} (hf : f.GenReg) (src : Nat) :
    (s.tripLogged t g src).getF (pgPWMG t g) f = s.getF (pgPWMG t g) f := by
  unfold State.tripLogged
  split
  · rfl
  · exact hf.klogRecord _ _ _ _ _

theorem State.edge_tripLogged (s : State) (t g src : Nat) : (s.tripLogged t g src).edge = s.edge := by
  unfold State.tripLogged
  split
  · rfl
  · exact s.klogRecord_edge ..

/-- The registers of a trip's record come after the dust sheet and STATE. -/
theorem Fld.GenReg.trip {s : State} {t g : Nat} {f : Fld} (hf : f.GenReg) (src : Nat) (hoff : f.off < 0xC4 + 0x60 * (g % 16)) :
    (s.trip t g src).getF (pgPWMG t g) f = ((s.dust t g).setGenState t g 4).getF (pgPWMG t g) f := by
  have hne : ∀ f' : Fld, 0xC4 + 0x60 * (g % 16) ≤ f'.off → fkey (pgPWMG t g) f ≠ fkey (pgPWMG t g) f' := by
    intro f' ho
    have hlo := hf.lo
    exact Fld.key_ne (by omega)
  refine (hf.pulse_own _ _).trans ((hf.tripLogged src).trans ((State.getF_setF_ne _ _ (hne _ ?_)).trans
    ((State.getF_setFlag_ne _ _ (hne _ ?_)).trans ((State.getF_setF_ne _ _ (hne _ ?_)).trans (State.getF_satF_ne _ _ (hne _ ?_))))))
  all_goals simp [F.PWMG_TRIP_TICK_TICK, F.PWMG_TRIPREC_SRC_VALID, F.PWMG_TRIPREC_SRC, F.PWMG_TRIPREC_TRIPS]

/-- STATE and the levels after a trip. -/
theorem State.trip_levels (s : State) (t g src : Nat) :
    (s.trip t g src).genState t g = 4 ∧ (s.trip t g src).flag (pgPWMG t g) (F.PWMG_STAT_DS (g % 16)) = true ∧
      (s.trip t g src).flag (pgPWMG t g) (F.PWMG_STAT_H (g % 16)) = false ∧
      (s.trip t g src).flag (pgPWMG t g) (F.PWMG_STAT_L (g % 16)) = false := by
  obtain ⟨hh, hl, hds⟩ := s.dust_levels t g
  refine ⟨((F.genReg_state g).trip src ?_).trans (State.genState_setGenState _ t g (by decide)),
    (State.flag_eq_of_getF (((F.genReg_ds g).trip src ?_).trans ((F.genReg_ds g).setGenState (Fld.key_ne ?_)))).trans hds,
    (State.flag_eq_of_getF (((F.genReg_h g).trip src ?_).trans ((F.genReg_h g).setGenState (Fld.key_ne ?_)))).trans hh,
    (State.flag_eq_of_getF (((F.genReg_l g).trip src ?_).trans ((F.genReg_l g).setGenState (Fld.key_ne ?_)))).trans hl⟩
  all_goals simp [F.PWMG_STAT_STATE, F.PWMG_STAT_DS, F.PWMG_STAT_H, F.PWMG_STAT_L]

/-- The record of a trip names its source. -/
theorem State.trip_record (s : State) (t g : Nat) {src : Nat} (hsrc : src < 32) :
    (s.trip t g src).getF (pgPWMG t g) (F.PWMG_TRIPREC_SRC (g % 16)) = src ∧
      (s.trip t g src).flag (pgPWMG t g) (F.PWMG_TRIPREC_SRC_VALID (g % 16)) = true := by
  have htick : ∀ f : Fld, f.off = 0xC4 + 0x60 * (g % 16) → f.lo < 64 →
      fkey (pgPWMG t g) f ≠ fkey (pgPWMG t g) (F.PWMG_TRIP_TICK_TICK (g % 16)) := by
    intro f ho hl
    refine Fld.key_ne ?_
    simp only [F.PWMG_TRIP_TICK_TICK]
    omega
  constructor
  · refine ((F.genReg_src g).pulse_own _ _).trans (((F.genReg_src g).tripLogged src).trans
      ((State.getF_setF_ne _ _ (htick _ rfl (F.genReg_src g).lo)).trans ((State.getF_setFlag_ne _ _ (Fld.key_ne ?_)).trans
        ((State.getF_setF _ _ _ _).trans (Nat.mod_eq_of_lt hsrc)))))
    simp [F.PWMG_TRIPREC_SRC, F.PWMG_TRIPREC_SRC_VALID]
  · exact (State.flag_eq_of_getF (((F.genReg_srcValid g).pulse_own _ _).trans (((F.genReg_srcValid g).tripLogged src).trans
      (State.getF_setF_ne _ _ (htick _ rfl (F.genReg_srcValid g).lo))))).trans (State.flag_setFlag _ _ _ _ rfl)

theorem State.edge_trip (s : State) (t g src : Nat) : (s.trip t g src).edge = (s.dust t g).edge := by
  rw [State.trip, State.pulse_edge, State.edge_tripLogged, State.tripNoted, State.setF_edge, State.setFlag_edge, State.setF_edge,
    State.satF_edge, State.edge_setGenState]

theorem State.gen_trip (s : State) (t g src : Nat) : ∃ x : Gen, (s.trip t g src).gen t g = x.dusted := by
  rw [State.gen_of_gens (congrArg EdgeSt.gens (s.edge_trip t g src))]
  exact s.gen_dust t g

/-! ### RUN and ARM cleared -/

section
variable (s : State) (t g : Nat)

/-- RUN, ARM and CLR_REQ cleared. -/
def State.clearCtrl : State :=
  ((s.setFlag (pgPWMG t g) (F.PWMG_CTRL_RUN (g % 16)) false).setFlag (pgPWMG t g) (F.PWMG_CTRL_ARM (g % 16)) false).setFlag
    (pgPWMG t g) (F.PWMG_CTRL_CLR_REQ (g % 16)) false

theorem State.clearCtrl_run : (s.clearCtrl t g).flag (pgPWMG t g) (F.PWMG_CTRL_RUN (g % 16)) = false := by
  refine (State.flag_setFlag_fld _ _ ?_).trans ((State.flag_setFlag_fld _ _ ?_).trans (State.flag_setFlag _ _ _ _ rfl)) <;>
    simp [F.PWMG_CTRL_RUN, F.PWMG_CTRL_ARM, F.PWMG_CTRL_CLR_REQ]

theorem State.clearCtrl_arm : (s.clearCtrl t g).flag (pgPWMG t g) (F.PWMG_CTRL_ARM (g % 16)) = false := by
  refine (State.flag_setFlag_fld _ _ ?_).trans (State.flag_setFlag _ _ _ _ rfl)
  simp [F.PWMG_CTRL_ARM, F.PWMG_CTRL_CLR_REQ]

/-- A generator whose counter stops: it enters the dust sheet, and its entry `y` and STATE `st` are set. -/
def State.stopped (y : State → Gen) (st : State → Nat) : State :=
  let z := (s.clearCtrl t g).dust t g
  (z.setGen t g (y z)).leaveArmed t g (st z)

end

/-- A register that the dust sheet, STATE and a boundary leave. -/
theorem Fld.GenReg.stopped {s : State} {t g : Nat} {f : Fld} (hf : f.GenReg) (hpin : t < 40 ∨ (f.off % 8 = 4 → f.lo ≠ 0 ∧ f.lo ≠ 2))
    (hstat : f.off ≠ 0xB4 + 0x60 * (g % 16)) (y : State → Gen) (st : State → Nat) :
    (s.stopped t g y st).getF (pgPWMG t g) f = (s.clearCtrl t g).getF (pgPWMG t g) f := by
  have hlo := hf.lo
  have hne : ∀ f' : Fld, f'.off = 0xB4 + 0x60 * (g % 16) → f'.lo < 64 → fkey (pgPWMG t g) f ≠ fkey (pgPWMG t g) f' := by
    intro f' ho hl
    exact Fld.key_ne (by omega)
  rw [State.stopped, hf.leaveArmed (hne _ rfl (F.genReg_state g).lo), State.getF_setGen]
  exact hf.dust hpin (hne _ rfl (F.genReg_h g).lo) (hne _ rfl (F.genReg_l g).lo) (hne _ rfl (F.genReg_ds g).lo)

theorem State.genState_stopped (s : State) (t g : Nat) (y : State → Gen) {st : State → Nat} (h : st ((s.clearCtrl t g).dust t g) < 8) :
    (s.stopped t g y st).genState t g = st ((s.clearCtrl t g).dust t g) := State.genState_leaveArmed _ t g h

theorem State.genStop_eq (s : State) (t g : Nat) :
    s.genStop t g = s.stopped t g (fun z => { z.gen t g with first := none, loadNext := false })
      (fun z => if z.genState t g = 5 then 5 else 0) := rfl

theorem State.genCfgErr_eq (s : State) (t g : Nat) :
    s.genCfgErr t g = ((s.stopped t g (fun z => { z.gen t g with first := none, loadNext := false }) (fun _ => 5)).setFlag (pgPWMG t g)
      (F.PWMG_STAT_CFG_ERR (g % 16)) true).pulse (pgPWMG t g) 16 := rfl

end Sys2Proof.Machine
end

section
/-! SUPPORT. A write of a register of a generator: where it leads and what PWMG_CTRL makes of it (R134, R138, R158, R159, R163). -/

namespace Sys2Proof.Machine

/-! ### The page of a generator -/

/-- The words of a generator's registers that commands write, each within its block. -/
def genWords : List Nat := [0x80, 0x88, 0x8C, 0x90, 0x94, 0x98, 0x9C, 0xAC]

theorem genWords_slots : (List.range 16).all (fun m => genWords.all fun o => (slotsIn regsPWMG (o + 0x60 * m)).isSome) = true :=
  rfl

/-- A word of a generator's registers is no hole. -/
theorem genSlots_isSome (t g : Nat) {o m : Nat} (ho : o ∈ genWords) (hm : m < 16) : ((pagePWMG t g).slots (o + 0x60 * m)).isSome = true :=
  List.all_eq_true.mp (all_below genWords_slots hm) o ho

theorem genWords_range {o : Nat} (h : o ∈ genWords) : 0x80 ≤ o ∧ o ≤ 0xAC ∧ o % 4 = 0 := by
  revert o
  decide

theorem pageSync_pwmg (s : State) (t g : Nat) {off : Nat} (h : off < 0x680) : s.pageSync (pagePWMG t g) off = s :=
  if_neg (by omega)

/-- A write of a register of a generator is what the page's write rule makes of it. -/
theorem State.Writes.generator {s u : State} {t g req data o c : Nat} (h : s.Writes (pagePWMG t g) (o + 0x60 * (g % 16)) req data)
    (ho : o ∈ genWords) (hst : s.unstaged (pagePWMG t g))
    (hw : s.wPWMG (pagePWMG t g) (o + 0x60 * (g % 16)) (s.wrOf (pagePWMG t g) req data) = (u, c)) (hc : c ≠ causePRIV) :
    s.busWrite req (pgPWMG t g + (o + 0x60 * (g % 16))) 4 data = u.genWrote t g (o + 0x60 * (g % 16)) req data c := by
  have hm : g % 16 < 16 := Nat.mod_lt g (by decide)
  obtain ⟨hlo, hhi, h4⟩ := genWords_range ho
  have hp := pgPWMG_aligned t g
  refine h.busWrite ?_ (by omega) (by omega) (genSlots_isSome t g ho hm) hst ?_ hc
  · simp only [pagePWMG]
    omega
  · rw [pageSync_pwmg s t g (by omega)]
    exact hw

theorem State.phys_lt (s : State) (lt : Nat) : s.phys lt < 64 := s.getF_lt pgDROLE (F.ROLE_MAP_PHYS lt)

theorem ite_ne {α : Sort _} {c : Prop} [Decidable c] {x y z : α} (hx : x ≠ z) (hy : y ≠ z) : (if c then x else y) ≠ z := by
  split <;> assumption

/-- A page of a tile that an offset of its window leads to. -/
theorem tileTarget_page {t o off : Nat} {p : Page} (h : tileTarget t o = .page p off) : p.owner = t := by
  unfold tileTarget at h
  split at h
  · exact absurd h (by simp)
  · split at h
    · exact absurd h (by simp)
    · split at h
      · cases h
        rfl
      · exact absurd h (by simp)

/-- Above the tiles' own windows, pages lie in those of logical tiles alone (R23). -/
theorem target_logical {phys : Nat → Nat} {a off : Nat} {p : Page} (h : target phys a = .page p off) (ha : 0x0A800000 ≤ a) :
    0x0C000000 ≤ a ∧ p.owner = phys ((a - 0x0C000000) / 0x00100000) := by
  rw [target, if_neg (by omega), if_neg (by omega), if_neg (by omega), if_neg (by omega)] at h
  by_cases hlow : a < 0x0C000000
  · rw [if_pos hlow] at h
    cases h
  · rw [if_neg hlow] at h
    by_cases hwin : a < 0x0E000000
    · rw [if_pos hwin] at h
      exact ⟨Nat.le_of_not_lt hlow, tileTarget_page h⟩
    · rw [if_neg hwin] at h
      refine absurd h ?_
      repeat' refine ite_ne ?_ ?_
      all_goals exact Target.noConfusion

/-- An address that leads to a generator's page lies in a tile's own window, or in that of a logical tile. -/
theorem tile_of_target {phys : Nat → Nat} (hphys : ∀ lt, phys lt < 64) {t g off : Nat} (hg : g < 256) (hoff : off < 0x800)
    (h : target phys (pgPWMG t g + off) = .page (pagePWMG t g) off) : t < 40 := by
  have ha : pgPWMG t g + off = 0x08000000 + 0x00100000 * t + 0x1000 * (0x20 + g / 16) + off := rfl
  by_contra ht
  obtain ⟨hlow, howner⟩ := target_logical h (by omega)
  have hphys := hphys ((pgPWMG t g + off - 0x0C000000) / 0x00100000)
  have howner : t = _ := howner
  omega

/-- A write that reaches a generator's page reaches a tile of the device. -/
theorem State.Writes.tile_lt {s : State} {t g off req data : Nat} (h : s.Writes (pagePWMG t g) off req data) (hg : g < 256)
    (hoff : off < 0x800) : t < 40 := tile_of_target s.phys_lt hg hoff h.1.leads

/-! ### PWMG_CTRL -/

theorem wPWMG_ctrl (s : State) (t : Nat) {g : Nat} (w : Wr) :
    s.wPWMG (pagePWMG t g) (0x80 + 0x60 * (g % 16)) w = s.wGenCtrl (pagePWMG t g) t g w := by
  have hr : (0x80 + 0x60 * (g % 16) - 0x80) % 0x60 = 0 := by omega
  have hg : 16 * (g / 16) + (0x80 + 0x60 * (g % 16) - 0x80) / 0x60 = g := by omega
  unfold State.wPWMG
  dsimp only [pagePWMG]
  rw [if_neg (by omega), if_neg (by omega), if_pos hr, hg]

/-- A write of some bits of PWMG_CTRL is what the register's rule makes of the whole word. -/
theorem State.WritesCtrl.bits {s u : State} {t g req old v mask new c : Nat} (h : s.WritesCtrl t g req old v)
    (hv : old - (old &&& mask) + new = v)
    (hw : s.wGenCtrl (pagePWMG t g) t g (s.wrOf (pagePWMG t g) req v) = (u, c)) (hc : c ≠ causePRIV) :
    s.busWriteBits req (genCtrl t g) mask new = u.genWrote t g (0x80 + 0x60 * (g % 16)) req v c := by
  obtain ⟨hshows, hwrites, -, hst⟩ := h
  have ha : genCtrl t g = pgPWMG t g + (0x80 + 0x60 * (g % 16)) := Nat.add_assoc _ _ _
  have hword := hshows.word
  have hbus := hwrites.generator (o := 0x80) (by decide) hst ((wPWMG_ctrl s t _).trans hw) hc
  rw [State.busWriteBits, ha, hword, hv]
  exact hbus

section
variable {s : State} {t g req : Nat} (v : Nat)

/-- What a write `v` of PWMG_CTRL leaves of the generator before ARM and CLR_REQ: SH_HOLD and RUN are written. -/
def State.ctrlWritten (s : State) (t g v : Nat) : State :=
  (s.setFlag (pgPWMG t g) (F.PWMG_CTRL_SH_HOLD (g % 16)) (bit v 3)).ctrlRun t g (bit v 0)

/-- RUN is written over a PER that allows it. -/
def State.runGood (s : State) (t g v : Nat) : Prop :=
  (bit v 0 && !s.flag (pgPWMG t g) (F.PWMG_CTRL_RUN (g % 16)) && decide (s.shadowPer t g < 64)) = false

/-- CLR_REQ is not written 1 where it reads 0. -/
def State.clrStill (s : State) (t g v : Nat) : Prop := (bit v 2 && !s.flag (pgPWMG t g) (F.PWMG_CTRL_CLR_REQ (g % 16))) = false

theorem pagePWMG_base (t g : Nat) : (pagePWMG t g).base = pgPWMG t g := rfl

theorem State.wrOf_v (s : State) (p : Page) (req v : Nat) : (s.wrOf p req v).v = v := rfl

theorem State.wrOf_opn (s : State) (p : Page) (req v : Nat) : (s.wrOf p req v).opn = s.lockOpen p req := rfl

/-- A write that sets RUN over a PER below 64 changes nothing. -/
theorem wGenCtrl_runBad (hrun : bit v 0 = true) (hold : s.flag (pgPWMG t g) (F.PWMG_CTRL_RUN (g % 16)) = false)
    (hper : s.shadowPer t g < 64) : s.wGenCtrl (pagePWMG t g) t g (s.wrOf (pagePWMG t g) req v) = (s, 0x0C) := by
  simp only [State.wGenCtrl, pagePWMG_base, State.wrOf_v, hrun, hold, hper]
  rfl

/-- A write that does not arm the generator. -/
theorem wGenCtrl_still (hrun : s.runGood t g v) (harm : bit v 1 = true → s.flag (pgPWMG t g) (F.PWMG_CTRL_ARM (g % 16)) = true)
    (hclr : s.clrStill t g v) :
    s.wGenCtrl (pagePWMG t g) t g (s.wrOf (pagePWMG t g) req v) =
      (if bit v 1 then s.ctrlWritten t g v else (s.ctrlWritten t g v).leavesArm t g, 0) := by
  have harms : (bit v 1 && !s.genArmed t g && !s.flag (pgPWMG t g) (F.PWMG_CTRL_ARM (g % 16))) = false := by
    cases hv : bit v 1
    · rfl
    · simp [harm hv]
  unfold State.runGood at hrun
  unfold State.clrStill at hclr
  simp only [State.wGenCtrl, pagePWMG_base, State.wrOf_v, harms, hrun, hclr, Bool.false_and, Bool.or_self, Bool.false_eq_true, if_false]
  rfl

section
variable (hrun : s.runGood t g v) (hv : bit v 1 = true)
  (harm : s.flag (pgPWMG t g) (F.PWMG_CTRL_ARM (g % 16)) = false) (hst : s.genArmed t g = false) (hclr : s.clrStill t g v)
include hrun hv harm hst

/-- A write that would arm the generator where arming is refused changes nothing. -/
theorem wGenCtrl_refused (hopn : s.lockOpen (pagePWMG t g) req = true) (href : s.armRefused t g = true) :
    s.wGenCtrl (pagePWMG t g) t g (s.wrOf (pagePWMG t g) req v) = (s, 0x23) := by
  unfold State.runGood at hrun
  simp only [State.wGenCtrl, pagePWMG_base, State.wrOf_v, State.wrOf_opn, hrun, hv, harm, hst, hopn, href]
  rfl

include hclr

/-- A write that arms the generator. -/
theorem wGenCtrl_arms (hopn : s.lockOpen (pagePWMG t g) req = true) (href : s.armRefused t g = false) :
    s.wGenCtrl (pagePWMG t g) t g (s.wrOf (pagePWMG t g) req v) = ((s.ctrlWritten t g v).genArm t g, 0) := by
  unfold State.runGood at hrun
  unfold State.clrStill at hclr
  simp only [State.wGenCtrl, pagePWMG_base, State.wrOf_v, State.wrOf_opn, hrun, hclr, hv, harm, hst, hopn, href, Wr.act]
  rfl

/-- One that would arm it under a closed lock leaves ARM. -/
theorem wGenCtrl_armLocked (hopn : s.lockOpen (pagePWMG t g) req = false) :
    s.wGenCtrl (pagePWMG t g) t g (s.wrOf (pagePWMG t g) req v) = (s.ctrlWritten t g v, 0x06) := by
  unfold State.runGood at hrun
  unfold State.clrStill at hclr
  simp only [State.wGenCtrl, pagePWMG_base, State.wrOf_v, State.wrOf_opn, hrun, hclr, hv, harm, hst, hopn, Wr.act]
  rfl

end

/-- A write of CLR_REQ while ARM stands. -/
theorem wGenCtrl_clears (hrun : s.runGood t g v) (hv : bit v 1 = true) (harm : s.flag (pgPWMG t g) (F.PWMG_CTRL_ARM (g % 16)) = true)
    (hv' : bit v 2 = true) (hclr : s.flag (pgPWMG t g) (F.PWMG_CTRL_CLR_REQ (g % 16)) = false)
    (hopn : s.lockOpen (pagePWMG t g) req = true) :
    s.wGenCtrl (pagePWMG t g) t g (s.wrOf (pagePWMG t g) req v) =
      (if (s.ctrlWritten t g v).genState t g = 4 then (s.ctrlWritten t g v).setFlag (pgPWMG t g) (F.PWMG_CTRL_CLR_REQ (g % 16)) true
        else s.ctrlWritten t g v, 0) := by
  unfold State.runGood at hrun
  simp only [State.wGenCtrl, pagePWMG_base, State.wrOf_v, State.wrOf_opn, hrun, hv, hv', harm, hclr, hopn, Wr.act, andThen, Bool.not_true,
    Bool.and_false]
  rfl

/-- One under a closed lock leaves CLR_REQ. -/
theorem wGenCtrl_clearLocked (hrun : s.runGood t g v) (hv : bit v 1 = true)
    (harm : s.flag (pgPWMG t g) (F.PWMG_CTRL_ARM (g % 16)) = true)
    (hv' : bit v 2 = true) (hclr : s.flag (pgPWMG t g) (F.PWMG_CTRL_CLR_REQ (g % 16)) = false)
    (hopn : s.lockOpen (pagePWMG t g) req = false) :
    s.wGenCtrl (pagePWMG t g) t g (s.wrOf (pagePWMG t g) req v) = (s.ctrlWritten t g v, 0x06) := by
  unfold State.runGood at hrun
  simp only [State.wGenCtrl, pagePWMG_base, State.wrOf_v, State.wrOf_opn, hrun, hv, hv', harm, hclr, hopn, Wr.act, andThen, Bool.not_true,
    Bool.and_false]
  rfl

end

/-! ### RUN and SH_HOLD -/

section
variable {s : State} {t g v : Nat}

/-- A write that leaves RUN writes SH_HOLD. -/
theorem State.ctrlWritten_still (h : bit v 0 = s.flag (pgPWMG t g) (F.PWMG_CTRL_RUN (g % 16))) :
    s.ctrlWritten t g v = s.setFlag (pgPWMG t g) (F.PWMG_CTRL_SH_HOLD (g % 16)) (bit v 3) := by
  have hold := s.flag_setFlag_fld (b := pgPWMG t g) (f := F.PWMG_CTRL_SH_HOLD (g % 16)) (f' := F.PWMG_CTRL_RUN (g % 16)) (bit v 3)
    (by simp [F.PWMG_CTRL_SH_HOLD, F.PWMG_CTRL_RUN])
  exact if_pos (h.trans hold.symm)

theorem State.ctrlWritten_run (hv : bit v 0 = true) (h : s.flag (pgPWMG t g) (F.PWMG_CTRL_RUN (g % 16)) = false) :
    s.ctrlWritten t g v = (s.setFlag (pgPWMG t g) (F.PWMG_CTRL_SH_HOLD (g % 16)) (bit v 3)).genRun t g := by
  have hold := s.flag_setFlag_fld (b := pgPWMG t g) (f := F.PWMG_CTRL_SH_HOLD (g % 16)) (f' := F.PWMG_CTRL_RUN (g % 16)) (bit v 3)
    (by simp [F.PWMG_CTRL_SH_HOLD, F.PWMG_CTRL_RUN])
  rw [State.ctrlWritten, State.ctrlRun, hold, h, hv]
  rfl

theorem State.ctrlWritten_stop (hv : bit v 0 = false) (h : s.flag (pgPWMG t g) (F.PWMG_CTRL_RUN (g % 16)) = true) :
    s.ctrlWritten t g v = (s.setFlag (pgPWMG t g) (F.PWMG_CTRL_SH_HOLD (g % 16)) (bit v 3)).genStop t g := by
  have hold := s.flag_setFlag_fld (b := pgPWMG t g) (f := F.PWMG_CTRL_SH_HOLD (g % 16)) (f' := F.PWMG_CTRL_RUN (g % 16)) (bit v 3)
    (by simp [F.PWMG_CTRL_SH_HOLD, F.PWMG_CTRL_RUN])
  rw [State.ctrlWritten, State.ctrlRun, hold, h, hv]
  rfl

/-- SH_HOLD written as it stands leaves STATE and ARM. -/
theorem State.hold_state (v : Bool) : (s.setFlag (pgPWMG t g) (F.PWMG_CTRL_SH_HOLD (g % 16)) v).genState t g = s.genState t g :=
  State.getF_setFlag_fld s v (by simp only [F.PWMG_CTRL_SH_HOLD, F.PWMG_STAT_STATE]; omega)

theorem State.hold_arm (v : Bool) : (s.setFlag (pgPWMG t g) (F.PWMG_CTRL_SH_HOLD (g % 16)) v).flag (pgPWMG t g) (F.PWMG_CTRL_ARM (g % 16)) =
    s.flag (pgPWMG t g) (F.PWMG_CTRL_ARM (g % 16)) :=
  State.flag_setFlag_fld s v (by simp [F.PWMG_CTRL_SH_HOLD, F.PWMG_CTRL_ARM])

/-- ARM = 0 leaves a generator that is STOPPED or DISARMED with ARM = 0 as it is. -/
theorem State.leavesArm_of_free (hst : s.genState t g < 2) (harm : s.flag (pgPWMG t g) (F.PWMG_CTRL_ARM (g % 16)) = false) :
    s.leavesArm t g = s := if_pos (by simp [hst, harm])

theorem State.leavesArm_of_arm (harm : s.flag (pgPWMG t g) (F.PWMG_CTRL_ARM (g % 16)) = true) : s.leavesArm t g = s.genDisarm t g :=
  if_neg (by simp [harm])

theorem State.genArm_of_free (hst : s.genState t g < 2) :
    s.genArm t g = (((s.setFlag (pgPWMG t g) (F.PWMG_CTRL_ARM (g % 16)) true).setGenState t g 2).setGen t g
      { s.gen t g with armAt := s.tick }).tripCheck t g := if_pos hst

/-- RUN set in STOPPED, DISARMED or the error state leaves the generator STOPPED or DISARMED. -/
theorem State.genState_genRun (h : s.genState t g < 2 ∨ s.genState t g = 5) : (s.genRun t g).genState t g < 2 := by
  have hset : (s.genRun t g).genState t g = (if s.genState t g = 5 then s.setGenState t g 0 else s).genState t g :=
    State.getF_setFlag_fld _ _ (by simp only [F.PWMG_CTRL_RUN, F.PWMG_STAT_STATE]; omega)
  rw [hset]
  split
  · rw [State.genState_setGenState _ _ _ (by decide)]
    decide
  · omega

theorem State.genRun_arm : (s.genRun t g).flag (pgPWMG t g) (F.PWMG_CTRL_ARM (g % 16)) =
    s.flag (pgPWMG t g) (F.PWMG_CTRL_ARM (g % 16)) := by
  have hset : (s.genRun t g).flag (pgPWMG t g) (F.PWMG_CTRL_ARM (g % 16)) =
      (if s.genState t g = 5 then s.setGenState t g 0 else s).flag (pgPWMG t g) (F.PWMG_CTRL_ARM (g % 16)) :=
    State.flag_setFlag_fld _ _ (by simp [F.PWMG_CTRL_RUN, F.PWMG_CTRL_ARM])
  rw [hset]
  split
  · exact State.flag_eq_of_getF ((F.genReg_arm g).setGenState (Fld.key_ne (by simp only [F.PWMG_CTRL_ARM, F.PWMG_STAT_STATE]; omega)))
  · rfl

/-- STATE while a generator stops: only the error state stays. -/
theorem State.genState_genStop (ht : t < 40) (h : s.genState t g ≠ 5) : (s.genStop t g).genState t g = 0 := by
  have hclear : (s.clearCtrl t g).genState t g = s.genState t g := by
    refine (State.getF_setFlag_fld _ _ ?_).trans ((State.getF_setFlag_fld _ _ ?_).trans (State.getF_setFlag_fld _ _ ?_)) <;>
      simp only [F.PWMG_STAT_STATE, F.PWMG_CTRL_RUN, F.PWMG_CTRL_ARM, F.PWMG_CTRL_CLR_REQ] <;> omega
  have hdust : ((s.clearCtrl t g).dust t g).genState t g = s.genState t g := by
    refine ((F.genReg_state g).dust (.inl ht) (Fld.key_ne ?_) (Fld.key_ne ?_) (Fld.key_ne ?_)).trans hclear <;>
      simp [F.PWMG_STAT_STATE, F.PWMG_STAT_H, F.PWMG_STAT_L, F.PWMG_STAT_DS]
  have hst : (if ((s.clearCtrl t g).dust t g).genState t g = 5 then 5 else 0) = 0 := by rw [hdust, if_neg h]
  rw [State.genStop_eq, State.genState_stopped]
  · exact hst
  · rw [hst]
    decide

theorem State.genStop_arm : (s.genStop t g).flag (pgPWMG t g) (F.PWMG_CTRL_ARM (g % 16)) = false := by
  rw [State.genStop_eq, ← s.clearCtrl_arm t g]
  exact State.flag_eq_of_getF ((F.genReg_arm g).stopped (.inr fun h => absurd h (by simp only [F.PWMG_CTRL_ARM]; omega))
    (by simp only [F.PWMG_CTRL_ARM]; omega) _ _)

/-- RUN written with ARM = 0: nothing is left to disarm. -/
theorem State.leavesArm_genRun (h : s.genState t g < 2 ∨ s.genState t g = 5)
    (harm : s.flag (pgPWMG t g) (F.PWMG_CTRL_ARM (g % 16)) = false) : (s.genRun t g).leavesArm t g = s.genRun t g :=
  State.leavesArm_of_free (State.genState_genRun h) (State.genRun_arm.trans harm)

theorem State.leavesArm_genStop (ht : t < 40) (h : s.genState t g ≠ 5) : (s.genStop t g).leavesArm t g = s.genStop t g := by
  have hst := State.genState_genStop ht h
  have harm := State.genStop_arm (s := s) (t := t) (g := g)
  generalize s.genStop t g = z at hst harm
  exact State.leavesArm_of_free (by omega) harm

end

end Sys2Proof.Machine
end

section
/-! SUPPORT. O34: RUN, ARM and CLR_REQ written to a generator (R134, R138, R158, R159, R163). -/

namespace Sys2Proof.Machine

/-! ### The bits of PWMG_CTRL -/

theorem ctrl_set_table : ∀ (old : Fin 16) (k : Fin 4), bit old k = false →
    (old : Nat) - (old &&& 2 ^ (k : Nat)) + 2 ^ (k : Nat) = old + 2 ^ (k : Nat) ∧ bit (old + 2 ^ (k : Nat)) k = true ∧
      ∀ j : Fin 4, j ≠ k → bit (old + 2 ^ (k : Nat)) j = bit old j := by decide

theorem ctrl_clear_table : ∀ (old : Fin 16) (k : Fin 4), bit old k = true →
    (old : Nat) - (old &&& 2 ^ (k : Nat)) + 0 = old - 2 ^ (k : Nat) ∧ bit (old - 2 ^ (k : Nat)) k = false ∧
      ∀ j : Fin 4, j ≠ k → bit (old - 2 ^ (k : Nat)) j = bit old j := by decide

section
variable {old k mask : Nat} (hold : old < 16) (hk : k < 4) (hm : mask = 2 ^ k)
include hold hk hm

/-- A bit of PWMG_CTRL that reads 0, set. -/
theorem ctrl_set (h : bit old k = false) :
    old - (old &&& mask) + mask = old + mask ∧ bit (old + mask) k = true ∧ ∀ j < 4, j ≠ k → bit (old + mask) j = bit old j := by
  subst hm
  obtain ⟨hv, hbit, hrest⟩ := ctrl_set_table ⟨old, hold⟩ ⟨k, hk⟩ h
  exact ⟨hv, hbit, fun j hj hne => hrest ⟨j, hj⟩ fun h => hne (congrArg Fin.val h)⟩

/-- A bit of PWMG_CTRL that reads 1, cleared. -/
theorem ctrl_clear (h : bit old k = true) :
    old - (old &&& mask) + 0 = old - mask ∧ bit (old - mask) k = false ∧ ∀ j < 4, j ≠ k → bit (old - mask) j = bit old j := by
  subst hm
  obtain ⟨hv, hbit, hrest⟩ := ctrl_clear_table ⟨old, hold⟩ ⟨k, hk⟩ h
  exact ⟨hv, hbit, fun j hj hne => hrest ⟨j, hj⟩ fun h => hne (congrArg Fin.val h)⟩

end

/-- Neither ARMING, ARMED nor TRIPPED. -/
theorem State.genArmed_of_free {s : State} {t g : Nat} (h : s.genState t g < 2 ∨ s.genState t g = 5) : s.genArmed t g = false := by
  unfold State.genArmed
  simp only [Bool.or_eq_false_iff, beq_eq_false_iff_ne]
  omega

theorem State.genState_ne_of_allowed {s : State} {t g : Nat} (h : s.armRefused t g = false) : s.genState t g ≠ 5 := by
  intro h5
  simp [State.armRefused, h5] at h

/-! ### The writes -/

/-- SH_HOLD of a generator written as it stands. -/
def State.shHoldWritten (s : State) (t g old : Nat) : State :=
  s.setFlag (pgPWMG t g) (F.PWMG_CTRL_SH_HOLD (g % 16)) (bit old 3)

section
variable {s : State} {t g req old v : Nat}

theorem State.CtrlShows.clrStill (h : s.CtrlShows t g old) (hv : bit v 2 = bit old 2) : s.clrStill t g v := by
  rw [State.clrStill, hv, ← h.clr]
  simp

theorem State.CtrlShows.runGood (h : s.CtrlShows t g old) (hv : bit v 0 = true → bit old 0 = false → 64 ≤ s.shadowPer t g) :
    s.runGood t g v := by
  rw [State.runGood, ← h.run]
  cases hv0 : bit v 0 <;> cases ho : bit old 0 <;> simp
  exact hv hv0 ho

theorem State.CtrlShows.written (h : s.CtrlShows t g old) (hv : bit v 0 = bit old 0) (hv3 : bit v 3 = bit old 3) :
    s.ctrlWritten t g v = s.shHoldWritten t g old := by
  rw [State.ctrlWritten_still (hv.trans h.run), hv3]
  rfl

/-- RUN written 1 (R134, R138). -/
theorem exec_generatorRun_good (h0 : bit old 0 = false) (h : s.WritesCtrl t g req old (old + 1)) (hper : 64 ≤ s.shadowPer t g)
    (harm : bit old 1 = true ∨ s.genState t g < 2 ∨ s.genState t g = 5) :
    exec (.generatorRun req t g) s = .next (((s.shHoldWritten t g old).genRun t g).genWrote t g (0x80 + 0x60 * (g % 16)) req (old + 1)) := by
  have hs := h.1
  obtain ⟨hv, hv0, hrest⟩ := ctrl_set (mask := 1) hs.small (by decide) rfl h0
  have hz : s.ctrlWritten t g (old + 1) = (s.shHoldWritten t g old).genRun t g := by
    rw [State.ctrlWritten_run hv0 (hs.run.symm.trans h0), hrest 3 (by decide) (by decide)]
    rfl
  have hstay : (if bit (old + 1) 1 then s.ctrlWritten t g (old + 1) else (s.ctrlWritten t g (old + 1)).leavesArm t g) =
      s.ctrlWritten t g (old + 1) := by
    rw [hrest 1 (by decide) (by decide)]
    cases h1 : bit old 1
    · rw [if_neg Bool.false_ne_true, hz]
      refine State.leavesArm_genRun ?_ ((State.hold_arm _).trans (hs.arm.symm.trans h1))
      rw [State.shHoldWritten, State.hold_state]
      exact harm.resolve_left (by simp [h1])
    · rfl
  have hw := wGenCtrl_still (s := s) (t := t) (g := g) (req := req) (old + 1) (hs.runGood fun _ _ => hper)
    (fun h1 => hs.arm.symm.trans ((hrest 1 (by decide) (by decide)).symm.trans h1)) (hs.clrStill (hrest 2 (by decide) (by decide)))
  rw [hstay, hz] at hw
  exact congrArg Host.Outcome.next (h.bits hv hw (by decide))

/-- RUN written 1 over a PER below 64 (R138). -/
theorem exec_generatorRun_bad (h0 : bit old 0 = false) (h : s.WritesCtrl t g req old (old + 1)) (hper : s.shadowPer t g < 64) :
    exec (.generatorRun req t g) s = .next (s.genWrote t g (0x80 + 0x60 * (g % 16)) req (old + 1) 0x0C) := by
  obtain ⟨hv, hv0, -⟩ := ctrl_set (mask := 1) h.1.small (by decide) rfl h0
  exact congrArg Host.Outcome.next (h.bits hv (wGenCtrl_runBad (old + 1) hv0 (h.1.run.symm.trans h0) hper) (by decide))

/-- RUN written 0 (R134). -/
theorem exec_generatorStop (h0 : bit old 0 = true) (h : s.WritesCtrl t g req old (old - 1))
    (harm : bit old 1 = true ∨ s.genState t g ≠ 5) :
    exec (.generatorStop req t g) s = .next (((s.shHoldWritten t g old).genStop t g).genWrote t g (0x80 + 0x60 * (g % 16)) req (old - 1)) := by
  have hs := h.1
  have ht := h.2.1.tile_lt h.2.2.1 (by omega)
  obtain ⟨hv, hv0, hrest⟩ := ctrl_clear (mask := 1) hs.small (by decide) rfl h0
  have hz : s.ctrlWritten t g (old - 1) = (s.shHoldWritten t g old).genStop t g := by
    rw [State.ctrlWritten_stop hv0 (hs.run.symm.trans h0), hrest 3 (by decide) (by decide)]
    rfl
  have hstay : (if bit (old - 1) 1 then s.ctrlWritten t g (old - 1) else (s.ctrlWritten t g (old - 1)).leavesArm t g) =
      s.ctrlWritten t g (old - 1) := by
    rw [hrest 1 (by decide) (by decide)]
    cases h1 : bit old 1
    · have hne : (s.shHoldWritten t g old).genState t g ≠ 5 := by
        rw [State.shHoldWritten, State.hold_state]
        exact harm.resolve_left (by simp [h1])
      rw [if_neg Bool.false_ne_true, hz]
      exact State.leavesArm_genStop ht hne
    · rfl
  have hw := wGenCtrl_still (s := s) (t := t) (g := g) (req := req) (old - 1) (hs.runGood fun h1 => by simp [hv0] at h1)
    (fun h1 => hs.arm.symm.trans ((hrest 1 (by decide) (by decide)).symm.trans h1)) (hs.clrStill (hrest 2 (by decide) (by decide)))
  rw [hstay, hz] at hw
  exact congrArg Host.Outcome.next (h.bits hv hw (by decide))

section
variable (h1 : bit old 1 = false) (h : s.WritesCtrl t g req old (old + 2)) (hfree : s.genState t g < 2 ∨ s.genState t g = 5)
include h1 h hfree

/-- ARM written 1 (R158). -/
theorem exec_generatorArm (hopn : s.lockOpen (pagePWMG t g) req = true) (href : s.armRefused t g = false) :
    exec (.generatorArm req t g) s =
      .next ((((((s.shHoldWritten t g old).setFlag (pgPWMG t g) (F.PWMG_CTRL_ARM (g % 16)) true).setGenState t g 2).setGen t g
        { s.gen t g with armAt := s.tick }).tripCheck t g).genWrote t g (0x80 + 0x60 * (g % 16)) req (old + 2)) := by
  have hs := h.1
  obtain ⟨hv, hv1, hrest⟩ := ctrl_set (mask := 2) hs.small (by decide) rfl h1
  have hv0 := hrest 0 (by decide) (by decide)
  have hst : (s.shHoldWritten t g old).genState t g < 2 := by
    rw [State.shHoldWritten, State.hold_state]
    exact hfree.resolve_right (State.genState_ne_of_allowed href)
  have hw := wGenCtrl_arms (req := req) (old + 2) (hs.runGood fun h1 h2 => by simp [hv0, h2] at h1) hv1 (hs.arm.symm.trans h1)
    (State.genArmed_of_free hfree) (hs.clrStill (hrest 2 (by decide) (by decide))) hopn href
  rw [hs.written hv0 (hrest 3 (by decide) (by decide)), State.genArm_of_free hst] at hw
  exact congrArg Host.Outcome.next (h.bits hv hw (by decide))

/-- ARM written 1 where arming is refused (R158). -/
theorem exec_generatorArm_refused (hopn : s.lockOpen (pagePWMG t g) req = true) (href : s.armRefused t g = true) :
    exec (.generatorArm req t g) s = .next (s.genWrote t g (0x80 + 0x60 * (g % 16)) req (old + 2) 0x23) := by
  have hs := h.1
  obtain ⟨hv, hv1, hrest⟩ := ctrl_set (mask := 2) hs.small (by decide) rfl h1
  have hv0 := hrest 0 (by decide) (by decide)
  have hw := wGenCtrl_refused (req := req) (old + 2) (hs.runGood fun h1 h2 => by simp [hv0, h2] at h1) hv1 (hs.arm.symm.trans h1)
    (State.genArmed_of_free hfree) hopn href
  exact congrArg Host.Outcome.next (h.bits hv hw (by decide))

/-- ARM written 1 under a closed lock (R46). -/
theorem exec_generatorArm_locked (hopn : s.lockOpen (pagePWMG t g) req = false) :
    exec (.generatorArm req t g) s = .next ((s.shHoldWritten t g old).genWrote t g (0x80 + 0x60 * (g % 16)) req (old + 2) 0x06) := by
  have hs := h.1
  obtain ⟨hv, hv1, hrest⟩ := ctrl_set (mask := 2) hs.small (by decide) rfl h1
  have hv0 := hrest 0 (by decide) (by decide)
  have hw := wGenCtrl_armLocked (req := req) (old + 2) (hs.runGood fun h1 h2 => by simp [hv0, h2] at h1) hv1 (hs.arm.symm.trans h1)
    (State.genArmed_of_free hfree) (hs.clrStill (hrest 2 (by decide) (by decide))) hopn
  rw [hs.written hv0 (hrest 3 (by decide) (by decide))] at hw
  exact congrArg Host.Outcome.next (h.bits hv hw (by decide))

end

/-- ARM written 0 (R159). -/
theorem exec_generatorDisarm (h1 : bit old 1 = true) (h : s.WritesCtrl t g req old (old - 2)) :
    exec (.generatorDisarm req t g) s = .next (((s.shHoldWritten t g old).genDisarm t g).genWrote t g (0x80 + 0x60 * (g % 16)) req (old - 2)) := by
  have hs := h.1
  obtain ⟨hv, hv1, hrest⟩ := ctrl_clear (mask := 2) hs.small (by decide) rfl h1
  have hv0 := hrest 0 (by decide) (by decide)
  have hw := wGenCtrl_still (s := s) (t := t) (g := g) (req := req) (old - 2) (hs.runGood fun h1 h2 => by simp [hv0, h2] at h1)
    (fun h1 => by simp [hv1] at h1) (hs.clrStill (hrest 2 (by decide) (by decide)))
  rw [hs.written hv0 (hrest 3 (by decide) (by decide)), hv1, if_neg (by decide),
    State.leavesArm_of_arm (s := s.shHoldWritten t g old) ((State.hold_arm _).trans (hs.arm.symm.trans h1))] at hw
  exact congrArg Host.Outcome.next (h.bits hv hw (by decide))

section
variable (h2 : bit old 2 = false) (h1 : bit old 1 = true) (h : s.WritesCtrl t g req old (old + 4))
include h2 h1 h

/-- CLR_REQ written 1 (R163): only a TRIPPED generator takes it. -/
theorem exec_tripClearRequest (hopn : s.lockOpen (pagePWMG t g) req = true) :
    exec (.tripClearRequest req t g) s = .next ((if s.genState t g = 4 then
      (s.shHoldWritten t g old).setFlag (pgPWMG t g) (F.PWMG_CTRL_CLR_REQ (g % 16)) true else s.shHoldWritten t g old).genWrote t g
        (0x80 + 0x60 * (g % 16)) req (old + 4)) := by
  have hs := h.1
  obtain ⟨hv, hv2, hrest⟩ := ctrl_set (mask := 4) hs.small (by decide) rfl h2
  have hv0 := hrest 0 (by decide) (by decide)
  have hw := wGenCtrl_clears (req := req) (old + 4) (hs.runGood fun h1 h2 => by simp [hv0, h2] at h1)
    ((hrest 1 (by decide) (by decide)).trans h1) (hs.arm.symm.trans h1) hv2 (hs.clr.symm.trans h2) hopn
  have hst : (s.shHoldWritten t g old).genState t g = s.genState t g := State.hold_state _
  rw [hs.written hv0 (hrest 3 (by decide) (by decide)), hst] at hw
  exact congrArg Host.Outcome.next (h.bits hv hw (by decide))

/-- CLR_REQ written 1 under a closed lock (R46). -/
theorem exec_tripClearRequest_locked (hopn : s.lockOpen (pagePWMG t g) req = false) :
    exec (.tripClearRequest req t g) s = .next ((s.shHoldWritten t g old).genWrote t g (0x80 + 0x60 * (g % 16)) req (old + 4) 0x06) := by
  have hs := h.1
  obtain ⟨hv, hv2, hrest⟩ := ctrl_set (mask := 4) hs.small (by decide) rfl h2
  have hv0 := hrest 0 (by decide) (by decide)
  have hw := wGenCtrl_clearLocked (req := req) (old + 4) (hs.runGood fun h1 h2 => by simp [hv0, h2] at h1)
    ((hrest 1 (by decide) (by decide)).trans h1) (hs.arm.symm.trans h1) hv2 (hs.clr.symm.trans h2) hopn
  rw [hs.written hv0 (hrest 3 (by decide) (by decide))] at hw
  exact congrArg Host.Outcome.next (h.bits hv hw (by decide))

end

end

/-- Settles O34: each write is the whole word written through the rule of PWMG_CTRL, and that rule goes by the bit that changes. -/
theorem generatorControl : Obligations.GeneratorControl := by
  intro s t g req old b m off u st free opn
  have hclosed : ¬opn → s.lockOpen (pagePWMG t g) req = false := Bool.eq_false_of_not_eq_true
  refine ⟨fun h0 h => ⟨fun hper harm => exec_generatorRun_good h0 h hper harm, exec_generatorRun_bad h0 h⟩,
    fun h0 h harm => exec_generatorStop h0 h harm,
    fun h1 h hfree => ⟨exec_generatorArm h1 h hfree, exec_generatorArm_refused h1 h hfree,
      fun hno => exec_generatorArm_locked h1 h hfree (hclosed hno)⟩,
    fun h1 h => exec_generatorDisarm h1 h,
    fun h2 h1 h => ⟨fun hopn hst => ?_, fun hopn hst => ?_, fun hno => exec_tripClearRequest_locked h2 h1 h (hclosed hno)⟩⟩
  · rw [exec_tripClearRequest h2 h1 h hopn, if_pos hst]
    rfl
  · rw [exec_tripClearRequest h2 h1 h hopn, if_neg hst]
    rfl

end Sys2Proof.Machine
end

section
/-! SUPPORT. O35: what the ledgers, the events and a boundary leave of a generator's entry (R372 to R374), and the reload (R133, R134, R138,
R139). -/

namespace Sys2Proof.Machine

/-! ### A generator's entry but for its ledger -/

/-- A generator's entry with the running state of its ledger cleared. -/
def Gen.unled (x : Gen) : Gen :=
  { x with ledAt := 0, ledH := false, ledTodo := [], ledBase := 0, ledPer := 0, ledReps := 0, ledPerQ := 0 }

theorem Gen.unled_ledRun (fuel : Nat) (x : Gen) (b rmax : Nat) : (Gen.ledRun fuel x b rmax).2.unled = x.unled := by
  induction fuel generalizing x with
  | zero => rfl
  | succ n ih =>
    unfold Gen.ledRun
    dsimp only
    split
    · rfl
    · refine (ih _).trans ?_
      split <;> rfl

theorem State.gen_setGen_ne (s : State) {t g t' g' : Nat} (y : Gen) (h : 256 * t' + g' ≠ 256 * t + g) :
    (s.setGen t g y).gen t' g' = s.gen t' g' := by
  simp [State.gen, State.setGen, SMap.getD, h]

/-- The entry of generator `g` of tile `t`, its ledger apart. -/
def State.unled (s : State) (t g : Nat) : Gen := (s.gen t g).unled

section
variable {s : State} {t g : Nat}

theorem State.unled_setGen {u h : Nat} {y : Gen} (hy : y.unled = (s.gen u h).unled) : (s.setGen u h y).unled t g = s.unled t g := by
  by_cases hk : 256 * t + g = 256 * u + h
  · have hgen : ∀ z : State, z.gen t g = z.gen u h := fun z => by rw [State.gen, State.gen, hk]
    rw [State.unled, State.unled, hgen, hgen, State.gen_setGen, hy]
  · rw [State.unled, State.unled, State.gen_setGen_ne s y hk]

theorem State.unled_of_edge {z : State} (h : z.edge = s.edge) : z.unled t g = s.unled t g :=
  congrArg Gen.unled (State.gen_of_gens (congrArg EdgeSt.gens h))

theorem State.unled_ledUpto (u h k : Nat) : (s.ledUpto u h k).unled t g = s.unled t g := by
  have hrun : ∀ b rmax, (Gen.ledRun 10 (s.gen u h) b rmax).2.unled = (s.gen u h).unled := Gen.unled_ledRun 10 (s.gen u h)
  unfold State.ledUpto
  dsimp only
  generalize hq : Gen.ledRun 10 (s.gen u h) (32 * k) (bits (s.ledCfg u h (k - 1)) 6 4) = q
  have hq2 : q.2.unled = (s.gen u h).unled := hq ▸ hrun _ _
  generalize (if bit (s.ledCfg u h (k - 1)) 5 = true then (-1 : Int) else 1) * _ * _ = d
  split
  · rfl
  · split
    · exact State.unled_setGen hq2
    · have hled : (s.setGen u h { q.2 with ledPerQ := q.2.ledPerQ + d }).unled t g = s.unled t g := State.unled_setGen hq2
      split
      · exact hled
      · rw [← hled]
        split <;> rfl

theorem State.unled_ledSync (u h : Nat) : (s.ledSync u h).unled t g = s.unled t g :=
  (State.unled_ledUpto u h _).trans (foldl_keeps (fun z : State => z.unled t g) (fun _ k => State.unled_ledUpto u h k) _ _)

theorem State.unled_ledSyncArm (c : Nat) : (s.ledSyncArm c).unled t g = s.unled t g := by
  refine foldl_keeps (fun z : State => z.unled t g) (fun z kv => ?_) _ _
  split
  · exact State.unled_ledSync _ _
  · rfl

theorem State.unled_ledPeriod (u h : Nat) : (s.ledPeriod u h).unled t g = s.unled t g := by
  have hsync := State.unled_ledSync (s := s) (t := t) (g := g) u h
  rw [← hsync]
  exact State.unled_setGen (s := (s.ledSync u h).setF (pgPWMG u h) (F.LEDG_PERQ_PERQ (h % 16)) _) rfl

/-- Closure takes ledgers to the present tick, and writes registers of the arms. -/
theorem State.unled_closure (u h : Nat) (err : Int) : (s.closure u h err).unled t g = s.unled t g := by
  unfold State.closure
  split
  · rfl
  · refine foldl_keeps (fun z : State => z.unled t g) (fun z a => ?_) _ _
    dsimp only
    split
    · have hsync := State.unled_ledSyncArm (s := z) (t := t) (g := g) (u / 10)
      split
      · exact hsync
      · exact (State.unled_of_edge (State.pulse_edge _ _ _ _)).trans hsync
    · rfl

/-! ### An event and a boundary -/

theorem State.edge_produce (s : State) (l i : Nat) : (s.produce l i).edge = s.edge := State.edge_of_eventFrame (s.produce_eventFrame l i _ _ _)

theorem State.edge_genEvent (s : State) (t g e : Nat) : (s.genEvent t g e).edge = s.edge := by
  have hif : ∀ (c : Bool) (z : State) (i : Nat), (if c then z.produce (lathTile t) i else z).edge = z.edge := by
    intro c z i
    split
    · exact z.edge_produce _ _
    · rfl
  unfold State.genEvent
  dsimp only
  split
  · rfl
  · exact (hif _ _ _).trans (hif _ _ _)

theorem State.edge_setCtxWord (s : State) (t n w v : Nat) : (s.setCtxWord t n w v).edge = s.edge := by
  unfold State.setCtxWord
  dsimp only
  split <;> rfl

theorem State.edge_applyCore (s : State) (t : Nat) (c : CoreWrite) : (s.applyCore t c).edge = s.edge := by
  unfold State.applyCore
  dsimp only
  split
  · exact (State.edge_setCtxWord _ _ _ _ _).trans (State.edge_setCtxWord _ _ _ _ _)
  · exact State.edge_setCtxWord _ _ _ _ _

theorem State.edge_boundary (s : State) (t g : Nat) : (s.boundary t g).edge = s.edge :=
  (foldl_keeps State.edge (fun z c => z.edge_applyCore t c) _ _).trans
    ((foldl_keeps State.edge (fun z _ => (State.edge_setCtxWord _ _ _ _ _).trans (z.edge_setCtxWord _ _ _ _)) _ _).trans
      (s.setStage_edge t _))

end

/-! ### The reload -/

/-- With no loop commit pending and no pin at the keeper, what comes before a reload changes the entry alone. -/
theorem State.reloadBegin_quiet {s : State} {t g r : Nat} (hst : s.genState t g < 2) (hpend : (s.gen t g).shPend = [])
    (hrec : (s.rec_ t g).repeating = false) : ∃ y : Gen, s.reloadBegin t g r = s.setGen t g y := by
  have hcatch : ∃ u : State, s.catchUp t g = u ∧ (u.gen t g).shPend = [] ∧ ∀ y, u.setGen t g y = s.setGen t g y := by
    unfold State.catchUp
    split
    · exact ⟨s, rfl, hpend, fun _ => rfl⟩
    · split
      · exact ⟨s, rfl, hpend, fun _ => rfl⟩
      · refine ⟨s.setGen t g { s.gen t g with catchAt := none }, ?_, ?_, fun y => ?_⟩
        · refine if_neg fun h => ?_
          have h3 : s.genState t g = 3 := h.1
          omega
        · rw [State.gen_setGen]
          exact hpend
        · simp only [State.setGen, SMap.put_put]
  obtain ⟨u, hu, hupend, hset⟩ := hcatch
  have hshadow : ∃ y, u.shadowEntry t g (r - 1) = s.setGen t g y := by
    unfold State.shadowEntry
    dsimp only
    rw [hupend]
    exact ⟨_, hset _⟩
  obtain ⟨y, hy⟩ := hshadow
  refine ⟨y, ?_⟩
  have hback : (s.setGen t g y).keeperBack t g = s.setGen t g y := if_pos (by
    have : ((s.setGen t g y).rec_ t g).repeating = false := hrec
    simp [this])
  unfold State.reloadBegin
  dsimp only
  rw [hu, hy, hback, ite_self]

/-- The shadow enters in force with the reload, unless it is held (R133, R475). -/
theorem State.reloaded_takes {s : State} {t g r : Nat} (hhold : s.flag (pgPWMG t g) (F.PWMG_CTRL_SH_HOLD (g % 16)) = false)
    (hfrozen : SMap.get? s.bus.frozen (pgPWMG t g) ≠ some 1) (y : Gen) :
    ∃ x : Gen, (s.setGen t g y).reloaded t g r = { x with
      origin := r, load := none, first := none, per := s.shadowPer t g, on_ := s.shadowCmp t g 0, off_ := s.shadowCmp t g 1
      eva := s.shadowCmp t g 2, evb := s.shadowCmp t g 3 } := by
  refine ⟨_, if_neg fun h => ?_⟩
  rcases h with h | h
  · exact absurd (h.symm.trans hhold) (by decide)
  · exact hfrozen h

/-- STOPPED or DISARMED with ARM = 0, a generator keeps its period number at a reload. -/
theorem State.reloadNumber_unarmed (s : State) (t g : Nat) {st : Nat} (h : st < 2) : s.reloadNumber t g st false = s := by
  unfold State.reloadNumber
  dsimp only
  rw [if_neg Bool.false_ne_true, if_neg (by omega)]

theorem State.reloadState_unarmed (s : State) (t g st : Nat) :
    s.reloadState t g st false = if st = 0 then s.setGenState t g 1 else s := rfl

section
variable {s : State} {t g : Nat} {nomaj : Bool} {err : Int}
  (hrun : s.flag (pgPWMG t g) (F.PWMG_CTRL_RUN (g % 16)) = true) (hdue : s.nextReload t g ≤ s.tick) (hst : s.genState t g < 2)
  (hpend : (s.gen t g).shPend = []) (hrec : (s.rec_ t g).repeating = false)
  (hhold : s.flag (pgPWMG t g) (F.PWMG_CTRL_SH_HOLD (g % 16)) = false) (hfrozen : SMap.get? s.bus.frozen (pgPWMG t g) ≠ some 1)
include hrun hdue hst hpend hrec hhold hfrozen

/-- A generator that is not armed at its reload: the error state where PER is too small, else its new period, with no outputs formed. -/
theorem State.genReload_unarmed : ∃ x : Gen,
    let y : Gen := { x with
      origin := s.nextReload t g, load := none, first := none, per := s.shadowPer t g, on_ := s.shadowCmp t g 0, off_ := s.shadowCmp t g 1
      eva := s.shadowCmp t g 2, evb := s.shadowCmp t g 3 }
    (s.shadowPer t g < 64 → s.genReload t g nomaj err = (s.setGen t g y).genCfgErr t g) ∧
    (64 ≤ s.shadowPer t g → s.genReload t g nomaj err =
      ((((if s.genState t g = 0 then (s.setGen t g y).setGenState t g 1 else s.setGen t g y).genEvent t g 0).boundary t g).ledPeriod t
        g).closure t g err) := by
  obtain ⟨y, hbegin⟩ := State.reloadBegin_quiet (r := s.nextReload t g) hst hpend hrec
  obtain ⟨x, hx⟩ := State.reloaded_takes (r := s.nextReload t g) hhold hfrozen y
  have hset : ∀ z : Gen, (s.setGen t g y).setGen t g z = s.setGen t g z := fun z => by simp only [State.setGen, SMap.put_put]
  have hgo : ¬(!s.flag (pgPWMG t g) (F.PWMG_CTRL_RUN (g % 16)) ∨ s.tick < s.nextReload t g) := by
    simp only [hrun, Bool.not_true, Bool.false_eq_true, false_or]
    omega
  refine ⟨x, ?_⟩
  unfold State.genReload
  dsimp only
  rw [if_neg hgo, hbegin, hx, hset]
  generalize hz : s.setGen t g _ = z
  have hzst : z.genState t g = s.genState t g := hz ▸ rfl
  have h2 : (s.genState t g == 2) = false := beq_false_of_ne (by omega)
  have h4 : (s.genState t g == 4) = false := beq_false_of_ne (by omega)
  refine ⟨fun hlow => if_pos hlow, fun hper => ?_⟩
  refine (if_neg (Nat.not_lt.mpr hper)).trans ?_
  rw [hzst, h2, h4, Bool.false_and, Bool.false_and, Bool.false_and, Bool.or_self, State.reloadNumber_unarmed z t g hst,
    State.reloadState_unarmed]
  have hne : (if s.genState t g = 0 then z.setGenState t g 1 else z).genState t g ≠ 3 := by
    split
    · rw [State.genState_setGenState _ _ _ (by decide)]
      decide
    · omega
  rw [if_neg hne]

/-- A reload brings the shadow into force and restarts the counter (R133, R139). -/
theorem State.genReload_takes (hper : 64 ≤ s.shadowPer t g) :
    let z := s.genReload t g nomaj err
    (z.gen t g).origin = s.nextReload t g ∧ (z.gen t g).load = none ∧ (z.gen t g).first = none ∧ (z.gen t g).per = s.shadowPer t g ∧
      (z.gen t g).on_ = s.shadowCmp t g 0 ∧ (z.gen t g).off_ = s.shadowCmp t g 1 ∧ (z.gen t g).eva = s.shadowCmp t g 2 ∧
      (z.gen t g).evb = s.shadowCmp t g 3 := by
  obtain ⟨x, -, hz⟩ := State.genReload_unarmed (nomaj := nomaj) (err := err) hrun hdue hst hpend hrec hhold hfrozen
  have hz := hz hper
  generalize hy : ({ x with
      origin := s.nextReload t g, load := none, first := none, per := s.shadowPer t g, on_ := s.shadowCmp t g 0, off_ := s.shadowCmp t g 1
      eva := s.shadowCmp t g 2, evb := s.shadowCmp t g 3 } : Gen) = y at hz
  have hstate : (if s.genState t g = 0 then (s.setGen t g y).setGenState t g 1 else s.setGen t g y).unled t g = y.unled := by
    have hset : (s.setGen t g y).unled t g = y.unled := congrArg Gen.unled (State.gen_setGen _ _ _ _)
    split
    · exact (State.unled_of_edge (State.edge_setGenState _ _ _ _)).trans hset
    · exact hset
  have hgen : ((s.genReload t g nomaj err).gen t g).unled = y.unled := by
    rw [hz]
    exact (State.unled_closure _ _ _).trans ((State.unled_ledPeriod _ _).trans
      ((State.unled_of_edge ((State.edge_boundary _ _ _).trans (State.edge_genEvent _ _ _ _))).trans hstate))
  subst hy
  exact ⟨congrArg Gen.origin hgen, congrArg Gen.load hgen, congrArg Gen.first hgen, congrArg Gen.per hgen, congrArg Gen.on_ hgen,
    congrArg Gen.off_ hgen, congrArg Gen.eva hgen, congrArg Gen.evb hgen⟩

/-- With a PER below 64 the generator stops (R138). -/
theorem State.genReload_stops (hper : s.shadowPer t g < 64) : ∃ y : Gen, s.genReload t g nomaj err = (s.setGen t g y).genCfgErr t g := by
  obtain ⟨x, hz, -⟩ := State.genReload_unarmed (nomaj := nomaj) (err := err) hrun hdue hst hpend hrec hhold hfrozen
  exact ⟨_, hz hper⟩

end

/-! ### The error state -/

/-- The error state: STATE, RUN and ARM, CFG_ERR, and the outputs in the dust sheet (R134, R138). -/
theorem State.genCfgErr_registers (s : State) (t g : Nat) :
    (s.genCfgErr t g).genState t g = 5 ∧ (s.genCfgErr t g).flag (pgPWMG t g) (F.PWMG_CTRL_RUN (g % 16)) = false ∧
      (s.genCfgErr t g).flag (pgPWMG t g) (F.PWMG_CTRL_ARM (g % 16)) = false ∧
      (s.genCfgErr t g).flag (pgPWMG t g) (F.PWMG_STAT_CFG_ERR (g % 16)) = true ∧
      (s.genCfgErr t g).flag (pgPWMG t g) (F.PWMG_STAT_DS (g % 16)) = true := by
  have hctrl : ∀ {f : Fld}, f.GenReg → f.off = 0x80 + 0x60 * (g % 16) →
      (s.genCfgErr t g).getF (pgPWMG t g) f = (s.clearCtrl t g).getF (pgPWMG t g) f := by
    intro f hf ho
    have hlo := hf.lo
    rw [State.genCfgErr_eq, hf.pulse_own,
      State.getF_setFlag_ne _ _ (Fld.key_ne (by simp only [F.PWMG_STAT_CFG_ERR]; omega))]
    exact hf.stopped (.inr fun h => absurd h (by omega)) (by omega) _ _
  have hds : (s.genCfgErr t g).getF (pgPWMG t g) (F.PWMG_STAT_DS (g % 16)) =
      ((s.clearCtrl t g).dust t g).getF (pgPWMG t g) (F.PWMG_STAT_DS (g % 16)) := by
    rw [State.genCfgErr_eq, (F.genReg_ds g).pulse_own,
      State.getF_setFlag_ne _ _ (Fld.key_ne (by simp [F.PWMG_STAT_CFG_ERR, F.PWMG_STAT_DS])), State.stopped,
      (F.genReg_ds g).leaveArmed (Fld.key_ne (by simp [F.PWMG_STAT_STATE, F.PWMG_STAT_DS])), State.getF_setGen]
  refine ⟨?_, (State.flag_eq_of_getF (hctrl (F.genReg_run g) rfl)).trans (s.clearCtrl_run t g),
    (State.flag_eq_of_getF (hctrl (F.genReg_arm g) rfl)).trans (s.clearCtrl_arm t g), ?_,
    (State.flag_eq_of_getF hds).trans ((s.clearCtrl t g).dust_levels t g).2.2⟩
  · rw [State.genCfgErr_eq, State.genState, (F.genReg_state g).pulse_own,
      State.getF_setFlag_ne _ _ (Fld.key_ne (by simp [F.PWMG_STAT_CFG_ERR, F.PWMG_STAT_STATE]))]
    exact State.genState_stopped s t g _ (by decide)
  · rw [State.genCfgErr_eq, State.flag_eq_of_getF ((F.genReg_cfgErr g).pulse_own 16 1)]
    exact State.flag_setFlag _ _ _ _ rfl

/-! ### The commands -/

section
variable {s : State} {t g : Nat} {nomaj : Bool} {err : Int}

/-- A reload of a tile whose gate is open; where the counter restarts it sets the launches of R209. -/
theorem exec_generatorReload (hgate : s.gateShut t = false) :
    exec (.generatorReload t g nomaj err) s =
      (let u := (s.refireDue t g).groupReload t g
       let z := (u.genReload t g nomaj err).refireCompare t g
       .next (((if (z.gen t g).origin = (u.gen t g).origin then z else z.launchesSet t g).fcstAbort (t / 10)).strength s t)) :=
  congrArg Host.Outcome.next (if_neg (by simp [hgate]))

/-- One behind a shut gate goes on in the ledgers alone (R375). -/
theorem exec_generatorReload_shut (hgate : s.gateShut t = true) :
    exec (.generatorReload t g nomaj err) s = .next (s.mirrorReload t g err) := congrArg Host.Outcome.next (if_pos hgate)

end

/-- Settles O35: what comes before the reload changes the generator's entry alone, what comes behind it the ledger part of it; and a PER
below 64 goes the way of a stop. -/
theorem reload : Obligations.Reload := by
  refine ⟨?_, ?_, fun s t g nomaj err hgate => exec_generatorReload_shut hgate⟩
  · intro s t g nomaj err b m x r z hrun hdue hst hpend hrec hhold hfrozen
    refine ⟨fun hper => State.genReload_takes hrun hdue hst hpend hrec hhold hfrozen hper, fun hper => ?_⟩
    obtain ⟨y, hz⟩ := State.genReload_stops (nomaj := nomaj) (err := err) hrun hdue hst hpend hrec hhold hfrozen hper
    have hz : z = _ := hz
    rw [hz]
    exact State.genCfgErr_registers _ t g
  · intro s t g nomaj err u z hgate
    refine ⟨fun h => (exec_generatorReload hgate).trans ?_, fun h => (exec_generatorReload hgate).trans ?_⟩
    · exact congrArg (fun y : State => Host.Outcome.next ((y.fcstAbort (t / 10)).strength s t)) (if_pos h)
    · exact congrArg (fun y : State => Host.Outcome.next ((y.fcstAbort (t / 10)).strength s t)) (if_neg h)

end Sys2Proof.Machine
end

section
/-! SUPPORT. O36: compare matches, delayed rises, lanes, loop commits, phase loads and trip sources (R135, R142 to R146, R150, R160 to R165). -/

namespace Sys2Proof.Machine

/-! ### Compare matches -/

section
variable {s : State} {t g : Nat}

/-- The counter holds PER - 1 (R146). -/
theorem exec_pendEvent (hgate : s.gateShut t = false) (hruns : s.genRuns t g = true) (hper : (s.gen t g).per ≤ s.genCount t g + 1)
    (hm : bit (s.gen t g).matched 4 = false) :
    exec (.pendEvent t g) s = .next ((s.setGen t g { s.gen t g with matched := setBit (s.gen t g).matched 4 true }).genEvent t g 1) := by
  have hp : s.pendEvent t g = (s.setGen t g { s.gen t g with matched := setBit (s.gen t g).matched 4 true }).genEvent t g 1 :=
    if_pos ⟨hruns, hper, by simp [hm]⟩
  rw [← hp]
  exact congrArg Host.Outcome.next (if_neg (by simp [hgate]))

/-- What a match of compare `k` at an instant means to a generator whose entry `x` notes it. -/
def State.compareTaken (s : State) (t g k at_ upset : Nat) (armed remote : Bool) (x : Gen) : State :=
  match k with
  | 0 =>
    if !armed ∨ !x.pulse ∨ x.m then s
    else (if remote then s.setGen t g { x with m := true } else s.mRise t g at_ upset).genEvent t g 2
  | 1 =>
    if !armed ∨ !x.m then s
    else (if remote then s.setGen t g { x with m := false } else s.mFalls t g at_ upset).genEvent t g 3
  | 2 => s.genEvent t g 4
  | _ => s.genEvent t g 5

/-- No catch-up is due. -/
theorem State.catchUp_none (h : (s.gen t g).catchAt = none) : s.catchUp t g = s := by
  unfold State.catchUp
  rw [h]

section
variable {k upset : Nat} (hcatch : k = 1 → (s.gen t g).catchAt = none) (hruns : s.genRuns t g = true) (hm : bit (s.gen t g).matched k = false)
  (hper : (s.gen t g).cmpAt (s.genState t g == 3) k / 32 < (s.gen t g).per)
  (hcount : (s.gen t g).cmpAt (s.genState t g == 3) k / 32 ≤ s.genCount t g)
include hcatch hruns hm hper hcount

/-- A compare matches once its count has come; OFF with no catch-up that is due. -/
theorem State.compareMatch_due : s.compareMatch t g k upset =
    (s.setGen t g { s.gen t g with matched := setBit (s.gen t g).matched k true }).compareTaken t g k
      (32 * (s.gen t g).enters ((s.gen t g).cmpAt (s.genState t g == 3) k / 32) + (s.gen t g).cmpAt (s.genState t g == 3) k % 32) upset
      (s.genState t g == 3) (s.bindMode t g == 2) { s.gen t g with matched := setBit (s.gen t g).matched k true } := by
  have hfirst : (if k = 1 then s.catchUp t g else s) = s := by
    split
    · next h => exact State.catchUp_none (hcatch h)
    · rfl
  unfold State.compareMatch
  rw [hfirst]
  dsimp only
  rw [if_neg (by simp [hruns, hm]; omega)]
  rfl

theorem exec_compareMatch (hgate : s.gateShut t = false) : exec (.compareMatch t g k upset) s =
    .next (((s.setGen t g { s.gen t g with matched := setBit (s.gen t g).matched k true }).compareTaken t g k
      (32 * (s.gen t g).enters ((s.gen t g).cmpAt (s.genState t g == 3) k / 32) + (s.gen t g).cmpAt (s.genState t g == 3) k % 32) upset
      (s.genState t g == 3) (s.bindMode t g == 2) { s.gen t g with matched := setBit (s.gen t g).matched k true }).strength s t) := by
  rw [← State.compareMatch_due hcatch hruns hm hper hcount]
  exact congrArg Host.Outcome.next (if_neg (by simp [hgate]))

end

/-- EVA and EVB are events, whatever STATE reads. -/
theorem State.compareTaken_event (s : State) (t g : Nat) {k : Nat} (hk : 2 ≤ k) (hk' : k < 4) (at_ upset : Nat) (armed remote : Bool)
    (x : Gen) : s.compareTaken t g k at_ upset armed remote x = s.genEvent t g (k + 2) := by
  obtain rfl | rfl : k = 2 ∨ k = 3 := by omega
  · rfl
  · rfl

end

/-- M rises at a match of ON, and falls at one of OFF: local outputs follow it, remote ones have their plan. -/
theorem State.compareTaken_on (s : State) (t g at_ upset : Nat) (remote : Bool) {x : Gen} (hp : x.pulse = true) (hm : x.m = false) :
    s.compareTaken t g 0 at_ upset true remote x =
      (if remote then s.setGen t g { x with m := true } else s.mRise t g at_ upset).genEvent t g 2 := if_neg (by simp [hp, hm])

theorem State.compareTaken_off (s : State) (t g at_ upset : Nat) (remote : Bool) {x : Gen} (hm : x.m = true) :
    s.compareTaken t g 1 at_ upset true remote x =
      (if remote then s.setGen t g { x with m := false } else s.mFalls t g at_ upset).genEvent t g 3 := if_neg (by simp [hm])

/-! ### Delayed rises and lanes -/

section
variable {s : State} {t g r upset : Nat} (hgate : s.gateShut t = false) (hmode : s.bindMode t g ≠ 2) (hr : r / 32 ≤ s.tick)
include hgate hmode hr

/-- The delayed rise of H takes place (R150). -/
theorem exec_deadTimeExpiry_h (h : (s.gen t g).hRise = some r) : exec (.deadTimeExpiry t g true upset) s =
    .next (((s.setGen t g { s.gen t g with h := true, hRise := none }).outputs t g [⟨true, true, r⟩] upset).strength s t) := by
  have hd : s.deadTime t g true upset = (s.setGen t g { s.gen t g with h := true, hRise := none }).outputs t g [⟨true, true, r⟩] upset := by
    simp only [State.deadTime, if_true, h]
    exact if_neg (by omega)
  rw [← hd]
  exact congrArg Host.Outcome.next (if_neg (by simp [hgate]))

/-- The delayed rise of L takes place (R150). -/
theorem exec_deadTimeExpiry_l (h : (s.gen t g).lRise = some r) : exec (.deadTimeExpiry t g false upset) s =
    .next (((s.setGen t g { s.gen t g with l := true, lRise := none, lRose := r }).outputs t g [⟨false, true, r⟩] upset).strength s t) := by
  have hd : s.deadTime t g false upset =
      (s.setGen t g { s.gen t g with l := true, lRise := none, lRose := r }).outputs t g [⟨false, true, r⟩] upset := by
    simp only [State.deadTime, Bool.false_eq_true, if_false, h]
    exact if_neg (by omega)
  rw [← hd]
  exact congrArg Host.Outcome.next (if_neg (by simp [hgate]))

end

/-- The first edge that waits is placed when three lanes are free (R165). -/
theorem exec_delayedEdgePlace {s : State} {t upset : Nat} {e : WaitEdge} {rest : List WaitEdge} (hgate : s.gateShut t = false)
    (he : (s.lanesOf t).delayed = e :: rest) (hfree : 3 ≤ (s.freeLanes t).length) :
    exec (.delayedEdgePlace t upset) s =
      (let at_ := max (32 * s.tick + e.want % 32) ((s.gen t e.gen).placeAt e.want)
       let q := (s.setLanes t { s.lanesOf t with delayed := rest }).claim t
       .next ((((q.1.setGen t e.gen { s.gen t e.gen with lastWant := e.want, lastPlaced := at_ }).driveEdge t e.gen e.isH e.rise at_ true q.2
        upset).maxF (pgEDGE t) F.EDGE_WAIT_LWAIT_MAX (at_ / 32 - e.want / 32)).strength s t)) := by
  refine (congrArg Host.Outcome.next (if_neg (by simp [hgate]))).trans ?_
  unfold State.placeDelayed
  dsimp only
  rw [he]
  dsimp only
  rw [if_neg (by omega)]

/-! ### Loop commits, phase loads and trip sources -/

/-- The one loop commit that has reached the shadow enters it (R139, R140). -/
theorem exec_shadowCommitEntry {s : State} {t g k v n tick : Nat} (hp : (s.gen t g).shPend = [(tick, k, v, n)]) (hle : tick ≤ s.tick) :
    exec (.shadowCommitEntry t g) s =
      (let u := s.setGen t g { s.gen t g with
         shPend := []
         entered := ((s.gen t g).entered.filter fun e => e.1 == s.tick) ++ (if tick = s.tick then [(tick, k)] else []) }
       .next (if k = 4 then u.setF (pgPWMG t g) (F.PWMG_PER_PER (g % 16)) v else (u.setShadowCmp t g k v).immediateIf t g k)) := by
  refine congrArg Host.Outcome.next ?_
  have hnow : (([(tick, k, v, n)].filter fun e => e.1 == s.tick).map fun e => (e.1, e.2.1)) = if tick = s.tick then [(tick, k)] else [] := by
    by_cases h : tick = s.tick <;> simp [h]
  have hdue : (([(tick, k, v, n)] : List (Nat × Nat × Nat × Nat)).filter fun e => decide (e.1 ≤ s.tick)) = [(tick, k, v, n)] := by simp [hle]
  have hrest : (([(tick, k, v, n)] : List (Nat × Nat × Nat × Nat)).filter fun e => !decide (e.1 ≤ s.tick)) = [] := by simp [hle]
  unfold State.shadowEntry
  dsimp only
  rw [hp, hdue, hrest, hnow]
  rfl

/-- An event at a SYNC input: the loads that waited come first (R143, R228). -/
theorem exec_phaseLoad {s : State} {t page which : Nat} {tok : Tok} (hw : which < 2)
    (htok : s.headTok (lathTile t) (80 + 2 * page + which) = some tok) :
    exec (.phaseLoad t page which) s =
      (let u := s.lateLoads t page
       .next (if u.syncBusy t page || u.tookNow (lathTile t) (80 + 2 * page + which) then u.overranOne (lathTile t) (80 + 2 * page + which)
        else (u.tookOne (lathTile t) (80 + 2 * page + which)).syncEvent t page which)) := by
  have hj : (80 + 2 * page + which - 80) / 2 = page := by omega
  have hi : (80 + 2 * page + which) % 2 = which := by omega
  have hin : exec (.phaseLoad t page which) s = .next (s.syncInput t (80 + 2 * page + which)) := by
    show Host.Outcome.next (match s.headTok (lathTile t) (80 + 2 * page + which) with
      | some _ => s.syncInput t (80 + 2 * page + which)
      | none => s.lateLoads t page) = _
    rw [htok]
  rw [hin, State.syncInput, hj, hi]

/-- The SYNC inputs of a page are busy in a tick of a load (R143, R228). -/
theorem syncBusy_iff (s : State) (t page : Nat) :
    s.syncBusy t page = true ↔ ∃ m < 16, ∃ c, (s.gen t (16 * page + m)).load = some (s.tick, c) := by
  have hload : ∀ o : Option (Nat × Nat), (o.map Prod.fst == some s.tick) = true ↔ ∃ c, o = some (s.tick, c) := by
    intro o
    cases o with
    | none => simp
    | some e => obtain ⟨k, c⟩ := e; simp
  simp only [State.syncBusy, List.any_eq_true, List.mem_range, hload]

/-- The input of a trip source takes a level (R96, R160, R162). -/
theorem exec_tripSourceActive (s : State) (c k : Nat) (v : Int) : exec (.tripSourceActive c ⟨k, v⟩) s =
    .next ((({ s with samp.inp := SMap.put s.samp.inp (32 * c + k) v } : State).sourceLook c k).fcstAbort c) := rfl

/-- A blanking window closes over an active source (R161, R162). -/
theorem exec_blankingClose {s : State} {t g src : Nat} (hgate : s.gateShut t = false) (hst : s.genState t g = 2 ∨ s.genState t g = 3)
    (hb : s.blanked t g = false) (hsrc : s.tripSource t g = some src) :
    exec (.blankingClose t g) s = .next ((s.trip t g src).fcstAbort (t / 10)) := by
  have ht : s.tripCheck t g = s.trip t g src := by
    unfold State.tripCheck
    dsimp only
    rw [if_pos ⟨hst, by simp [hb]⟩, hsrc]
  rw [← ht]
  exact congrArg Host.Outcome.next (if_neg (by simp [hgate]))

end Sys2Proof.Machine
end

section
/-! SUPPORT. O36: writes of the shadow registers and of BIND (R139 to R142, R154). -/

namespace Sys2Proof.Machine

/-! ### Words of plain fields -/

/-- What a write `v` by `req` over plain fields leaves, those in `skip` not written. -/
def State.softWord (s : State) (b req v : Nat) (skip : List Fld) (xs : List Slot) : State :=
  (xs.filter fun x => !skip.contains x.fld).foldl (fun u x => u.softSlot b x req (bits v x.pos x.w)) s

/-- A write of a word of plain fields records no cause (R13). -/
theorem State.put_plain {s : State} {p : Page} {off req v : Nat} {opn : Bool} {xs : List Slot} (hs : p.slots off = some xs)
    (hacc : ∀ x ∈ xs, x.fld.acc = .rw) (skip : List Fld) :
    s.put p ⟨req, 4, v, opn⟩ off skip = (s.softWord p.base req v skip xs, 0) := by
  have hfold : ∀ (ys : List Slot) (u : State), (∀ x ∈ ys, x.fld.acc = .rw) →
      ys.foldl (fun (r : State × Nat) x =>
        if skip.contains x.fld then r else (r.1.softSlot p.base x req (bits v x.pos x.w), r.2)) (u, 0) =
        (u.softWord p.base req v skip ys, 0) := by
    intro ys
    induction ys with
    | nil => intro u _; rfl
    | cons y ys ih =>
      intro u h
      obtain ⟨-, hys⟩ := List.forall_mem_cons.mp h
      rw [List.foldl_cons]
      by_cases hy : skip.contains y.fld
      · rw [if_pos hy, ih u hys, State.softWord, State.softWord, List.filter_cons_of_neg (by simpa using hy)]
      · rw [if_neg hy, ih _ hys, State.softWord, State.softWord, List.filter_cons_of_pos (by simpa using hy), List.foldl_cons]
  have hword : s.put p ⟨req, 4, v, opn⟩ off skip = s.putWord p ⟨req, 4, v, opn⟩ off v skip [] := rfl
  rw [hword, State.putWord, hs, ← hfold xs s hacc]
  refine List.foldl_ext _ _ _ fun r x hx => ?_
  dsimp only
  rw [hacc x hx]
  split
  · rfl
  · rw [if_neg (by simp)]

/-- A field at another place than those of a word's. -/
theorem State.getF_softWord (s : State) (b req v : Nat) (skip : List Fld) {xs : List Slot} {f : Fld}
    (h : ∀ x ∈ xs, fkey b f ≠ fkey b x.fld) : (s.softWord b req v skip xs).getF b f = s.getF b f := by
  have hstep : ∀ (u : State) (x : Slot), fkey b f ≠ fkey b x.fld → (u.softSlot b x req (bits v x.pos x.w)).getF b f = u.getF b f := by
    intro u x hx
    unfold State.softSlot
    split
    · rfl
    · exact State.getF_setF_ne _ _ hx
  have hfold : ∀ (ys : List Slot) (u : State), (∀ x ∈ ys, fkey b f ≠ fkey b x.fld) →
      (ys.foldl (fun u x => u.softSlot b x req (bits v x.pos x.w)) u).getF b f = u.getF b f := by
    intro ys
    induction ys with
    | nil => intro u _; rfl
    | cons y ys ih =>
      intro u h
      obtain ⟨hy, hys⟩ := List.forall_mem_cons.mp h
      exact (ih _ hys).trans (hstep u y hy)
  exact hfold _ s fun x hx => h x (List.mem_of_mem_filter hx)

/-- The value a requester writes at a slot counts modulo the slot's width. -/
theorem State.softSlot_bits (s : State) (b : Nat) (x : Slot) (req v : Nat) (hpos : x.pos = 0) :
    s.softSlot b x req (bits v x.pos x.w) = s.softSlot b x req v := by
  have hset : ∀ u : State, u.setSlot b x (bits v x.pos x.w) = u.setSlot b x v := by
    intro u
    simp only [State.setSlot, setBits, bits, hpos, Nat.pow_zero, Nat.div_one, Nat.mod_mod]
  unfold State.softSlot
  rw [hset]

/-! ### The words of the shadow -/

/-- The tick part of compare `k` of generator `m` of a page: 0 ON, 1 OFF, 2 EVA, 3 EVB. -/
def cmpTick (k m : Nat) : Fld := ⟨0x90 + 4 * k + 0x60 * m, 5, 27, .rw, 0x7ffffff, false⟩

/-- Its fraction. -/
def cmpFrac (k m : Nat) : Fld := ⟨0x90 + 4 * k + 0x60 * m, 0, 5, .rw, 0x0, false⟩

theorem State.shadowCmp_eq (s : State) (t g : Nat) {k : Nat} (hk : k < 4) :
    s.shadowCmp t g k = 32 * s.getF (pgPWMG t g) (cmpTick k (g % 16)) + s.getF (pgPWMG t g) (cmpFrac k (g % 16)) := by
  obtain rfl | rfl | rfl | rfl : k = 0 ∨ k = 1 ∨ k = 2 ∨ k = 3 := by omega
  all_goals rfl

def perSlot (m : Nat) : Slot := ⟨F.PWMG_PER_PER m, 0, 27, 0⟩
def phaseSlot (m : Nat) : Slot := ⟨F.PWMG_PHASE_PHASE m, 0, 27, 0⟩
def cmpSlots (k m : Nat) : List Slot := [⟨cmpTick k m, 5, 27, 0⟩, ⟨cmpFrac k m, 0, 5, 0⟩]

theorem shadowSlots_table : (List.range 16).all (fun m =>
    decide (slotsIn regsPWMG (0x88 + 0x60 * m) = some [perSlot m]) && decide (slotsIn regsPWMG (0x8C + 0x60 * m) = some [phaseSlot m]) &&
      (List.range 4).all fun k => decide (slotsIn regsPWMG (0x90 + 4 * k + 0x60 * m) = some (cmpSlots k m))) = true := rfl

theorem perSlots (t g : Nat) : (pagePWMG t g).slots (0x88 + 0x60 * (g % 16)) = some [perSlot (g % 16)] := by
  have h := all_below shadowSlots_table (Nat.mod_lt g (by decide))
  simp only [Bool.and_eq_true, decide_eq_true_eq] at h
  exact h.1.1

theorem phaseSlots (t g : Nat) : (pagePWMG t g).slots (0x8C + 0x60 * (g % 16)) = some [phaseSlot (g % 16)] := by
  have h := all_below shadowSlots_table (Nat.mod_lt g (by decide))
  simp only [Bool.and_eq_true, decide_eq_true_eq] at h
  exact h.1.2

theorem cmpSlots_eq (t g : Nat) {k : Nat} (hk : k < 4) :
    (pagePWMG t g).slots (0x90 + 4 * k + 0x60 * (g % 16)) = some (cmpSlots k (g % 16)) := by
  have h := all_below shadowSlots_table (Nat.mod_lt g (by decide))
  simp only [Bool.and_eq_true, decide_eq_true_eq] at h
  exact of_decide_eq_true (all_below h.2 hk)

/-! ### The rules of the words -/

section
variable (s : State) (t : Nat) {g : Nat} (w : Wr)

theorem wPWMG_per : s.wPWMG (pagePWMG t g) (0x88 + 0x60 * (g % 16)) w =
    ((s.put (pagePWMG t g) w (0x88 + 0x60 * (g % 16)) (s.loopEntered t g)).1.lateWrite t g,
      (s.put (pagePWMG t g) w (0x88 + 0x60 * (g % 16)) (s.loopEntered t g)).2) := by
  have hr : (0x88 + 0x60 * (g % 16) - 0x80) % 0x60 = 8 := by omega
  have hg : 16 * (g / 16) + (0x88 + 0x60 * (g % 16) - 0x80) / 0x60 = g := by omega
  unfold State.wPWMG
  dsimp only [pagePWMG]
  rw [if_neg (by omega), if_neg (by omega), hr, if_neg (by decide), if_neg (by decide), if_pos rfl, hg]

theorem wPWMG_phase : s.wPWMG (pagePWMG t g) (0x8C + 0x60 * (g % 16)) w = s.put (pagePWMG t g) w (0x8C + 0x60 * (g % 16)) := by
  have hr : (0x8C + 0x60 * (g % 16) - 0x80) % 0x60 = 0xC := by omega
  unfold State.wPWMG
  dsimp only [pagePWMG]
  rw [if_neg (by omega), if_neg (by omega), hr, if_neg (by decide), if_neg (by decide), if_neg (by decide), if_neg (by decide),
    if_neg (by decide), if_neg (by decide)]

theorem wPWMG_cmp {k : Nat} (hk : k < 4) (hw : w.size = 4) : s.wPWMG (pagePWMG t g) (0x90 + 4 * k + 0x60 * (g % 16)) w =
    (((s.put (pagePWMG t g) w (0x90 + 4 * k + 0x60 * (g % 16)) (s.loopEntered t g)).1.lateWrite t g).immediateIf t g k,
      (s.put (pagePWMG t g) w (0x90 + 4 * k + 0x60 * (g % 16)) (s.loopEntered t g)).2) := by
  have hr : (0x90 + 4 * k + 0x60 * (g % 16) - 0x80) % 0x60 = 0x10 + 4 * k := by omega
  have hg : 16 * (g / 16) + (0x90 + 4 * k + 0x60 * (g % 16) - 0x80) / 0x60 = g := by omega
  have hk' : (0x10 + 4 * k - 0x10) / 4 = k := by omega
  unfold State.wPWMG
  dsimp only [pagePWMG]
  rw [if_neg (by omega), if_neg (by omega), hr, if_neg (by omega), if_neg (by omega), if_neg (by omega), if_pos (by omega), hg, hk', hw,
    if_neg (by decide)]

theorem wPWMG_bind : s.wPWMG (pagePWMG t g) (0xAC + 0x60 * (g % 16)) w =
    s.wGenStill (pagePWMG t g) t g (0xAC + 0x60 * (g % 16)) w := by
  have hr : (0xAC + 0x60 * (g % 16) - 0x80) % 0x60 = 0x2C := by omega
  have hg : 16 * (g / 16) + (0xAC + 0x60 * (g % 16) - 0x80) / 0x60 = g := by omega
  unfold State.wPWMG
  dsimp only [pagePWMG]
  rw [if_neg (by omega), if_neg (by omega), hr, if_neg (by decide), if_neg (by decide), if_neg (by decide), if_neg (by decide),
    if_pos (by decide), hg]

end

end Sys2Proof.Machine
end

section
/-! SUPPORT. O36: the writes of PER, PHASE, the compares and BIND (R139 to R142, R154). -/

namespace Sys2Proof.Machine

/-! ### What the fields of a word read after a write of this tick's first requester -/

/-- Each field of a word of whole plain fields takes its bits, where no higher requester has written it in this cycle (R41). -/
theorem State.getF_put_first {s : State} {p : Page} {off req v : Nat} {opn : Bool} {xs : List Slot} (hs : p.slots off = some xs)
    (hap : xs.Pairwise Slot.Apart) (hwhole : ∀ x ∈ xs, x.fld.acc = .rw ∧ x.part = 0 ∧ x.w = x.fld.w)
    (hfree : ∀ f, s.softUnder p.base f 0 req = false) :
    ∀ x ∈ xs, (s.put p ⟨req, 4, v, opn⟩ off).1.getF p.base x.fld = bits v x.pos x.w := by
  intro x hx
  obtain ⟨hacc, hpart, hw⟩ := hwhole x hx
  have hword : (s.put p ⟨req, 4, v, opn⟩ off).1 = s.writeSlots p ⟨req, 4, v, opn⟩ v xs :=
    congrArg Prod.fst (State.putWord_eq hs ⟨req, 4, v, opn⟩ v hap)
  have hslot := s.getSlot_writeSlots p ⟨req, 4, v, opn⟩ v hap (fun y hy => by
    obtain ⟨-, hpart, hw⟩ := hwhole y hy
    omega) x hx
  have hwritten : writtenSlot x.fld.acc opn (s.softUnder p.base x.fld x.part req) (bits (s.hwBits p.base x.fld) x.part x.w)
      (s.getSlot p.base x) (bits v x.pos x.w) = bits v x.pos x.w := by
    rw [hacc, hpart, hfree]
    rfl
  have hshown : ∀ u : State, u.getSlot p.base x = u.getF p.base x.fld := by
    intro u
    rw [State.getSlot, bits, hpart, hw, Nat.pow_zero, Nat.div_one]
    exact Nat.mod_eq_of_lt (u.getF_lt p.base x.fld)
  rw [hword, ← hshown, hslot, hwritten]

section
variable {s : State} {t g req data : Nat} {opn : Bool} (hfree : ∀ f, s.softUnder (pgPWMG t g) f 0 req = false)
include hfree

theorem State.shadowPer_put : (s.put (pagePWMG t g) ⟨req, 4, data, opn⟩ (0x88 + 0x60 * (g % 16))).1.shadowPer t g = data % 2 ^ 27 := by
  have h := State.getF_put_first (v := data) (opn := opn) (perSlots t g) (List.pairwise_singleton _ _)
    (fun x hx => by rw [List.mem_singleton.mp hx]; exact ⟨rfl, rfl, rfl⟩) hfree (perSlot (g % 16)) (List.mem_singleton.mpr rfl)
  refine Eq.trans h ?_
  simp only [perSlot, bits, Nat.pow_zero, Nat.div_one]

theorem State.shadowCmp_put {k : Nat} (hk : k < 4) (hdata : data < 2 ^ 32) :
    (s.put (pagePWMG t g) ⟨req, 4, data, opn⟩ (0x88 + 0x60 * (g % 16) + 4 * (k + 2))).1.shadowCmp t g k = data := by
  have hoff : 0x88 + 0x60 * (g % 16) + 4 * (k + 2) = 0x90 + 4 * k + 0x60 * (g % 16) := by omega
  have hap : (cmpSlots k (g % 16)).Pairwise Slot.Apart :=
    List.pairwise_cons.mpr ⟨fun y hy => by rw [List.mem_singleton.mp hy]; simp [Slot.Apart, cmpTick, cmpFrac], List.pairwise_singleton _ _⟩
  have hwhole : ∀ x ∈ cmpSlots k (g % 16), x.fld.acc = .rw ∧ x.part = 0 ∧ x.w = x.fld.w := by
    intro x hx
    rcases List.mem_pair.mp hx with rfl | rfl <;> exact ⟨rfl, rfl, rfl⟩
  have h := State.getF_put_first (v := data) (opn := opn) (cmpSlots_eq t g hk) hap hwhole hfree
  have htick := h ⟨cmpTick k (g % 16), 5, 27, 0⟩ List.mem_cons_self
  have hfrac := h ⟨cmpFrac k (g % 16), 0, 5, 0⟩ (List.mem_cons_of_mem _ (List.mem_singleton.mpr rfl))
  rw [hoff, State.shadowCmp_eq _ t g hk]
  simp only [pagePWMG_base, bits] at htick hfrac
  rw [htick, hfrac]
  omega

end

/-! ### A late write and the immediate modes -/

theorem Fld.GenReg.lateWrite {s : State} {t g : Nat} {f : Fld} (hf : f.GenReg) (hoff : f.off ≠ 0xB4 + 0x60 * (g % 16)) :
    (s.lateWrite t g).getF (pgPWMG t g) f = s.getF (pgPWMG t g) f := by
  have hlo := hf.lo
  unfold State.lateWrite
  dsimp only
  split
  · refine (hf.pulse_own _ _).trans ((State.getF_satF_ne _ _ (Fld.key_ne ?_)).trans (State.getF_setFlag_ne _ _ (Fld.key_ne ?_)))
    · simp only [F.PWMG_STAT_LATE_CNT]
      omega
    · simp only [F.PWMG_STAT_LATE]
      omega
  · rfl

/-- The immediate modes stand through a write of a compare. -/
theorem State.immediate_modes {s : State} {t g req data k : Nat} (skip : List Fld) :
    (((s.softWord (pgPWMG t g) req data skip (cmpSlots k (g % 16))).lateWrite t g).flag (pgPWMG t g) (F.PWMG_CFG_EVA_IMM (g % 16)) =
      s.flag (pgPWMG t g) (F.PWMG_CFG_EVA_IMM (g % 16))) ∧
    (((s.softWord (pgPWMG t g) req data skip (cmpSlots k (g % 16))).lateWrite t g).flag (pgPWMG t g) (F.PWMG_CFG_EVB_IMM (g % 16)) =
      s.flag (pgPWMG t g) (F.PWMG_CFG_EVB_IMM (g % 16))) := by
  have hcfg : ∀ f : Fld, f.off = 0x84 + 0x60 * (g % 16) → f.lo < 64 →
      ∀ x ∈ cmpSlots k (g % 16), fkey (pgPWMG t g) f ≠ fkey (pgPWMG t g) x.fld := by
    intro f ho hl x hx
    refine Fld.key_ne ?_
    rcases List.mem_pair.mp hx with rfl | rfl <;> simp only [cmpTick, cmpFrac] <;> omega
  refine ⟨State.flag_eq_of_getF (((F.genReg_evaImm g).lateWrite ?_).trans (State.getF_softWord _ _ _ _ _ (hcfg _ rfl (F.genReg_evaImm g).lo))),
    State.flag_eq_of_getF (((F.genReg_evbImm g).lateWrite ?_).trans (State.getF_softWord _ _ _ _ _ (hcfg _ rfl (F.genReg_evbImm g).lo)))⟩ <;>
    simp [F.PWMG_CFG_EVA_IMM, F.PWMG_CFG_EVB_IMM]

/-! ### The commands -/

theorem shadow_genWords : ∀ reg < 6, 0x88 + 4 * reg ∈ genWords := by decide

section
variable {s : State} {t g req data : Nat} (hst : s.unstaged (pagePWMG t g))
include hst

/-- A write of PER, PHASE or a compare is what the page's rule makes of the word. -/
theorem exec_shadowWrite {u : State} {reg : Nat} (hreg : reg < 6)
    (h : s.Writes (pagePWMG t g) (0x88 + 0x60 * (g % 16) + 4 * reg) req data)
    (hw : s.wPWMG (pagePWMG t g) (0x88 + 4 * reg + 0x60 * (g % 16)) (s.wrOf (pagePWMG t g) req data) = (u, 0)) :
    exec (.shadowWrite req t g reg data) s = .next (u.genWrote t g (0x88 + 0x60 * (g % 16) + 4 * reg) req data) := by
  have hoff : 0x88 + 0x60 * (g % 16) + 4 * reg = 0x88 + 4 * reg + 0x60 * (g % 16) := by omega
  have ha : genCtrl t g + 8 + 4 * reg = pgPWMG t g + (0x88 + 4 * reg + 0x60 * (g % 16)) := by
    unfold genCtrl
    omega
  rw [hoff] at h ⊢
  refine congrArg Host.Outcome.next ?_
  rw [ha]
  exact h.generator (shadow_genWords reg hreg) hst hw (by decide)

theorem exec_shadowWrite_per (h : s.Writes (pagePWMG t g) (0x88 + 0x60 * (g % 16)) req data) :
    exec (.shadowWrite req t g 0 data) s =
      .next (((s.put (pagePWMG t g) (s.wrOf (pagePWMG t g) req data) (0x88 + 0x60 * (g % 16)) (s.loopEntered t g)).1.lateWrite t g).genWrote
        t g (0x88 + 0x60 * (g % 16)) req data) := by
  have hput : (s.put (pagePWMG t g) (s.wrOf (pagePWMG t g) req data) (0x88 + 0x60 * (g % 16)) (s.loopEntered t g)).2 = 0 :=
    congrArg Prod.snd (State.put_plain (perSlots t g) (fun x hx => by rw [List.mem_singleton.mp hx]; rfl) _)
  refine exec_shadowWrite hst (reg := 0) (by decide) h ((wPWMG_per s t _).trans ?_)
  rw [hput]

theorem exec_shadowWrite_phase (h : s.Writes (pagePWMG t g) (0x88 + 0x60 * (g % 16) + 4) req data) :
    exec (.shadowWrite req t g 1 data) s =
      .next ((s.softF (pgPWMG t g) (F.PWMG_PHASE_PHASE (g % 16)) req data).genWrote t g (0x88 + 0x60 * (g % 16) + 4) req data) := by
  have hput : s.put (pagePWMG t g) (s.wrOf (pagePWMG t g) req data) (0x8C + 0x60 * (g % 16)) =
      (s.softF (pgPWMG t g) (F.PWMG_PHASE_PHASE (g % 16)) req data, 0) := by
    refine (State.put_plain (phaseSlots t g) (fun x hx => by rw [List.mem_singleton.mp hx]; rfl) []).trans ?_
    refine congrArg (·, 0) ?_
    exact s.softSlot_bits (pgPWMG t g) (phaseSlot (g % 16)) req data rfl
  exact exec_shadowWrite hst (reg := 1) (by decide) h ((wPWMG_phase s t _).trans hput)

section
variable {k : Nat} (hk : k < 4) (h : s.Writes (pagePWMG t g) (0x88 + 0x60 * (g % 16) + 4 * (k + 2)) req data)
include hk h

/-- A write of a compare; `imm` tells whether its immediate mode is selected (R142). -/
theorem exec_shadowWrite_cmp (imm : Bool)
    (himm : imm = true ↔ (k = 2 ∧ s.flag (pgPWMG t g) (F.PWMG_CFG_EVA_IMM (g % 16)) = true) ∨
      (k = 3 ∧ s.flag (pgPWMG t g) (F.PWMG_CFG_EVB_IMM (g % 16)) = true)) :
    exec (.shadowWrite req t g (k + 2) data) s =
      (let u := (s.put (pagePWMG t g) (s.wrOf (pagePWMG t g) req data) (0x88 + 0x60 * (g % 16) + 4 * (k + 2)) (s.loopEntered t g)).1.lateWrite
         t g
       .next ((if imm then u.immediate t g k else u).genWrote t g (0x88 + 0x60 * (g % 16) + 4 * (k + 2)) req data)) := by
  have hput := State.put_plain (s := s) (req := req) (v := data) (opn := s.lockOpen (pagePWMG t g) req) (cmpSlots_eq t g hk)
    (fun x hx => by rcases List.mem_pair.mp hx with rfl | rfl <;> rfl) (s.loopEntered t g)
  obtain ⟨heva, hevb⟩ := s.immediate_modes (t := t) (g := g) (req := req) (data := data) (k := k) (s.loopEntered t g)
  have hoff : 0x88 + 4 * (k + 2) + 0x60 * (g % 16) = 0x90 + 4 * k + 0x60 * (g % 16) := by omega
  have hoff' : 0x88 + 0x60 * (g % 16) + 4 * (k + 2) = 0x90 + 4 * k + 0x60 * (g % 16) := by omega
  refine exec_shadowWrite hst (reg := k + 2) (by omega) h ?_
  rw [hoff, hoff', wPWMG_cmp s t _ hk rfl, State.wrOf, hput, State.immediateIf]
  dsimp only
  rw [pagePWMG_base, heva, hevb]
  cases imm
  · rw [if_neg fun hc => absurd (himm.mpr hc) Bool.false_ne_true]
    rfl
  · rw [if_pos (himm.mp rfl)]
    rfl

end

end

end Sys2Proof.Machine
end

section
/-! SUPPORT. O36: BIND written (R154), and the statement. -/

namespace Sys2Proof.Machine

/-! ### BIND -/

def bindSlots (m : Nat) : List Slot :=
  [⟨F.PWMG_BIND_MODE m, 0, 2, 0⟩, ⟨F.PWMG_BIND_L_EN m, 2, 1, 0⟩, ⟨F.PWMG_BIND_H_PIN m, 4, 6, 0⟩, ⟨F.PWMG_BIND_L_PIN m, 10, 6, 0⟩,
    ⟨F.PWMG_BIND_NODE m, 16, 10, 0⟩, ⟨F.PWMG_BIND_LEG m, 26, 2, 0⟩]

theorem bindSlots_table : (List.range 16).all (fun m => decide (slotsIn regsPWMG (0xAC + 0x60 * m) = some (bindSlots m))) = true := rfl

theorem bindSlots_eq (t g : Nat) : (pagePWMG t g).slots (0xAC + 0x60 * (g % 16)) = some (bindSlots (g % 16)) :=
  of_decide_eq_true (all_below bindSlots_table (Nat.mod_lt g (by decide)))

theorem bindSlots_apart (m : Nat) : (bindSlots m).Pairwise Slot.Apart := by
  simp [bindSlots, Slot.Apart, F.PWMG_BIND_MODE, F.PWMG_BIND_L_EN, F.PWMG_BIND_H_PIN, F.PWMG_BIND_L_PIN, F.PWMG_BIND_NODE, F.PWMG_BIND_LEG]

/-- With the lock open BIND takes the word. -/
theorem put_bind (s : State) (t g req data : Nat) : (s.put (pagePWMG t g) ⟨req, 4, data, true⟩ (0xAC + 0x60 * (g % 16))).2 = 0 := by
  have hnone : (bindSlots (g % 16)).any (s.lockedOut (pagePWMG t g) ⟨req, 4, data, true⟩ data) = false := by
    rw [List.any_eq_false]
    intro x _
    simp [State.lockedOut]
  have h : s.put (pagePWMG t g) ⟨req, 4, data, true⟩ (0xAC + 0x60 * (g % 16)) = _ :=
    State.putWord_eq (bindSlots_eq t g) ⟨req, 4, data, true⟩ data (bindSlots_apart _)
  rw [h, hnone]
  rfl

/-- The causes of a BIND word that breaks R154. -/
theorem bindCause_values (s : State) (t g v : Nat) : s.bindCause t g v ∈ [0, 0x0C, 0x21, 0x22] := by
  unfold State.bindCause
  dsimp only
  repeat' split
  all_goals decide

/-- RUNNING comes before the causes of R154 but BAD_VALUE (R498). -/
theorem firstCause_running : ∀ c ∈ [0, 0x0C, 0x21, 0x22], firstCause 0x20 c = if c = 0x0C then 0x0C else 0x20 := by decide

section
variable {s : State} {t g req data : Nat} (hsame : s.rwlSame (pagePWMG t g) (0xAC + 0x60 * (g % 16)) ⟨req, 4, data, true⟩ = false)
include hsame

/-- A new binding, with the lock open. -/
theorem wGenStill_bind :
    s.wGenStill (pagePWMG t g) t g (0xAC + 0x60 * (g % 16)) ⟨req, 4, data, true⟩ =
      (let c := firstCause (if s.genState t g = 0 ∨ s.genState t g = 1 ∨ s.genState t g = 5 then 0 else 0x20) (s.bindCause t g data)
       if c ≠ 0 then (s, c)
       else (((s.showBind t g false).put (pagePWMG t g) ⟨req, 4, data, true⟩ (0xAC + 0x60 * (g % 16))).1.showBind t g true, 0)) := by
  have hput := put_bind (s.showBind t g false) t g req data
  unfold State.wGenStill
  dsimp only
  rw [hsame, if_neg Bool.false_ne_true, Wr.act, if_pos rfl, decide_eq_true rfl, if_pos rfl, if_pos rfl, hput]

theorem wGenStill_bind_free (hst : s.genState t g ∈ [0, 1, 5]) (hc : s.bindCause t g data = 0) :
    s.wGenStill (pagePWMG t g) t g (0xAC + 0x60 * (g % 16)) ⟨req, 4, data, true⟩ =
      (((s.showBind t g false).put (pagePWMG t g) ⟨req, 4, data, true⟩ (0xAC + 0x60 * (g % 16))).1.showBind t g true, 0) := by
  have hrun : (if s.genState t g = 0 ∨ s.genState t g = 1 ∨ s.genState t g = 5 then 0 else 0x20) = 0 := if_pos (by simpa using hst)
  rw [wGenStill_bind hsame, hrun, hc]
  rfl

theorem wGenStill_bind_bad (hst : s.genState t g ∈ [0, 1, 5]) (hc : s.bindCause t g data ≠ 0) :
    s.wGenStill (pagePWMG t g) t g (0xAC + 0x60 * (g % 16)) ⟨req, 4, data, true⟩ = (s, s.bindCause t g data) := by
  have hrun : (if s.genState t g = 0 ∨ s.genState t g = 1 ∨ s.genState t g = 5 then 0 else 0x20) = 0 := if_pos (by simpa using hst)
  rw [wGenStill_bind hsame, hrun]
  exact if_pos hc

theorem wGenStill_bind_running (hst : s.genState t g ∉ [0, 1, 5]) :
    s.wGenStill (pagePWMG t g) t g (0xAC + 0x60 * (g % 16)) ⟨req, 4, data, true⟩ =
      (s, if s.bindCause t g data = 0x0C then 0x0C else 0x20) := by
  have hrun : (if s.genState t g = 0 ∨ s.genState t g = 1 ∨ s.genState t g = 5 then 0 else 0x20) = 0x20 := if_neg (by simpa using hst)
  rw [wGenStill_bind hsame, hrun, firstCause_running _ (bindCause_values s t g data)]
  refine if_pos ?_
  split <;> decide

end

/-- A write of BIND is what the page's rule makes of the word. -/
theorem exec_bindWrite {s u : State} {t g req data c : Nat} (h : s.Writes (pagePWMG t g) (0x80 + 0x60 * (g % 16) + 0x2C) req data)
    (hst : s.unstaged (pagePWMG t g)) (hopn : s.lockOpen (pagePWMG t g) req = true)
    (hw : s.wGenStill (pagePWMG t g) t g (0xAC + 0x60 * (g % 16)) ⟨req, 4, data, true⟩ = (u, c)) (hc : c ≠ causePRIV) :
    exec (.bindWrite req t g data) s = .next (u.genWrote t g (0x80 + 0x60 * (g % 16) + 0x2C) req data c) := by
  have hoff : 0x80 + 0x60 * (g % 16) + 0x2C = 0xAC + 0x60 * (g % 16) := by omega
  have ha : genCtrl t g + 0x2C = pgPWMG t g + (0xAC + 0x60 * (g % 16)) := by
    unfold genCtrl
    omega
  have hwr : s.wrOf (pagePWMG t g) req data = ⟨req, 4, data, true⟩ := by rw [State.wrOf, hopn]
  rw [hoff] at h ⊢
  refine congrArg Host.Outcome.next ?_
  rw [ha]
  exact h.generator (by decide) hst ((wPWMG_bind s t _).trans (hwr ▸ hw)) hc

/-! ### The statement -/

/-- M rises at a match of ON: L falls, and what rises behind it in the same tick (R150). -/
theorem State.mRise_eq (u : State) (t g at_ upset : Nat) {y : Gen} (hy : u.gen t g = y) {p : Dead} (hp : u.dead t g = p) :
    u.mRise t g at_ upset =
      (let q := ({ y with m := true } : Gen).mUp p at_
       let f := q.1.flush (32 * (at_ / 32 + 1))
       ((u.setGen t g f.1).countFormed t g 0 q.2.2.toNat).outputs t g (q.2.1 ++ f.2) upset) := by
  subst hy hp
  rfl

theorem State.mFalls_eq (u : State) (t g at_ upset : Nat) {y : Gen} (hy : u.gen t g = y) {p : Dead} (hp : u.dead t g = p) :
    u.mFalls t g at_ upset =
      (let q := ({ y with m := false } : Gen).mDown p at_ (u.riseAfter t g) (32 * (at_ / 32))
       let f := q.1.flush (32 * (at_ / 32 + 1))
       ((u.setGen t g f.1).countFormed t g q.2.2.toNat 0).outputs t g (q.2.1 ++ f.2) upset) := by
  subst hy hp
  rfl

/-- Settles O36: the matches and the delayed rises by their branch, the writes by the rule of their word, and a trip by what the dust
sheet, STATE and the trip's record leave of each other. -/
theorem generatorEvents : Obligations.GeneratorEvents := by
  refine ⟨?pend, ?compare, ?deadTime, fun s t => rfl, ?delayed, ?shadow, ?commit, ?phase, fun s t page => syncBusy_iff s t page, ?bind, ?source,
    ?blanking, ?trip⟩
  case pend => exact fun s t g hgate hruns hper hm => exec_pendEvent hgate hruns hper hm
  case compare =>
    intro s t g which upset x v y u a hw hcatch hgate hruns hm hper hcount
    have hexec := exec_compareMatch (upset := upset) hcatch hruns hm hper hcount hgate
    have hgen : u.gen t g = y := State.gen_setGen _ _ _ _
    have hstep : ∀ {z : State}, u.compareTaken t g which a upset (s.genState t g == 3) (s.bindMode t g == 2) y = z →
        exec (.compareMatch t g which upset) s = .next (z.strength s t) :=
      fun h => hexec.trans (congrArg (fun z : State => Host.Outcome.next (z.strength s t)) h)
    refine ⟨fun hge => hstep (State.compareTaken_event _ _ _ hge hw _ _ _ _ _), fun hst hmode => ⟨?on, ?off⟩,
      fun hst hmode => ⟨?remoteOn, ?remoteOff⟩⟩
    case on =>
      intro h0 hp hxm
      subst h0
      refine hstep ?_
      rw [hst, beq_false_of_ne hmode]
      refine (State.compareTaken_on u t g a upset false hp hxm).trans ?_
      rw [if_neg Bool.false_ne_true, u.mRise_eq t g a upset hgen rfl]
      rfl
    case off =>
      intro h1 hxm
      subst h1
      refine hstep ?_
      rw [hst, beq_false_of_ne hmode]
      refine (State.compareTaken_off u t g a upset false hxm).trans ?_
      rw [if_neg Bool.false_ne_true, u.mFalls_eq t g a upset hgen rfl]
      rfl
    case remoteOn =>
      intro h0 hp hxm
      subst h0
      refine hstep ?_
      rw [hst, hmode]
      exact State.compareTaken_on u t g a upset true hp hxm
    case remoteOff =>
      intro h1 hxm
      subst h1
      refine hstep ?_
      rw [hst, hmode]
      exact State.compareTaken_off u t g a upset true hxm
  case deadTime => exact fun s t g r upset hgate hmode hr =>
    ⟨fun h => exec_deadTimeExpiry_h hgate hmode hr h, fun h => exec_deadTimeExpiry_l hgate hmode hr h⟩
  case delayed => exact fun s t upset e rest hgate he hfree => exec_delayedEdgePlace hgate he hfree
  case shadow =>
    intro s req t g reg data off k p a first h hg hst
    have hdata : data < 2 ^ 32 := h.2.1
    refine ⟨fun hreg => ?_, fun hreg => ?_, fun hlo hhi => ?_⟩
    · subst hreg
      refine ⟨exec_shadowWrite_per hst h, fun hfirst => ?_⟩
      have ha : a = (s.put p (s.wrOf p req data) off []).1 := congrArg (fun l => (s.put p (s.wrOf p req data) off l).1) hfirst.1
      rw [ha]
      exact State.shadowPer_put hfirst.2
    · subst hreg
      exact exec_shadowWrite_phase hst h
    · obtain ⟨k', rfl⟩ : ∃ k', reg = k' + 2 := ⟨reg - 2, by omega⟩
      have hk : k' < 4 := by omega
      intro imm u
      have himm : imm ↔ (k' = 2 ∧ s.flag (pgPWMG t g) (F.PWMG_CFG_EVA_IMM (g % 16)) = true) ∨
          (k' = 3 ∧ s.flag (pgPWMG t g) (F.PWMG_CFG_EVB_IMM (g % 16)) = true) := by
        simp only [imm, Nat.reduceEqDiff]
      refine ⟨fun hfirst => ?_, fun hno => exec_shadowWrite_cmp hst hk h false (by simpa using fun hc => hno (himm.mpr hc)),
        fun hyes => exec_shadowWrite_cmp hst hk h true (by simpa using himm.mp hyes)⟩
      have ha : a = (s.put p (s.wrOf p req data) off []).1 := congrArg (fun l => (s.put p (s.wrOf p req data) off l).1) hfirst.1
      rw [ha]
      exact State.shadowCmp_put hfirst.2 hk hdata
  case commit =>
    intro s t g k v n tick x u hp hle
    have hexec := exec_shadowCommitEntry hp hle
    refine ⟨fun hk => hexec.trans ?_, fun hk => hexec.trans ?_⟩
    · exact congrArg Host.Outcome.next (if_neg (by omega))
    · exact congrArg Host.Outcome.next (if_pos hk)
  case phase =>
    intro s t page which tok i l u hw htok
    have hexec := exec_phaseLoad hw htok
    refine ⟨fun hbusy htook => hexec.trans ?_, fun h => hexec.trans ?_⟩
    · exact congrArg Host.Outcome.next (if_neg (by simp [u, l, i, hbusy, htook]))
    · exact congrArg Host.Outcome.next (if_pos (by simpa using h))
  case bind =>
    intro s req t g data p off w h hg hst hopn hsame
    have hoff : off = 0xAC + 0x60 * (g % 16) := by omega
    rw [hoff] at hsame
    refine ⟨fun hfree hc => ?_, fun hfree hc => ?_, fun hfree => ?_⟩
    · have hexec := exec_bindWrite h hst hopn (wGenStill_bind_free hsame hfree hc) (by decide)
      rw [hexec, ← hoff]
    · refine exec_bindWrite h hst hopn (wGenStill_bind_bad hsame hfree hc) fun hpriv => ?_
      exact absurd (hpriv ▸ bindCause_values s t g data) (by decide)
    · refine exec_bindWrite h hst hopn (wGenStill_bind_running hsame hfree) ?_
      split <;> decide
  case source =>
    intro s c k v u
    refine ⟨fun h => (exec_tripSourceActive s c k v).trans ?_, fun h => (exec_tripSourceActive s c k v).trans ?_⟩
    · exact congrArg (fun z : State => Host.Outcome.next (z.fcstAbort c)) (if_pos h)
    · exact congrArg (fun z : State => Host.Outcome.next (z.fcstAbort c)) (if_neg h)
  case blanking => exact fun s t g src hgate hst hb hsrc => exec_blankingClose hgate hst hb hsrc
  case trip =>
    intro s t g src ht hg hsrc b m z
    obtain ⟨hst, hds, hh, hl⟩ := s.trip_levels t g src
    obtain ⟨hrec, hvalid⟩ := s.trip_record t g hsrc
    obtain ⟨x, hx⟩ := s.gen_trip t g src
    exact ⟨hst, hds, hh, hl, hrec, hvalid, congrArg Gen.h hx, congrArg Gen.l hx, congrArg Gen.plan hx⟩

end Sys2Proof.Machine
end

section
/-! SUPPORT. O37: a lane that wins its block lock a second time (R171). -/

namespace Sys2Proof.Machine

/-- A lane that has its block lock wins none. -/
theorem exec_blockLockGain_locked {s : State} {lane : Nat} (h : s.flag (pgSERD lane) (F.SERD_LSTAT_LOCK (lane % 32)) = true) :
    exec (.blockLockGain 0 lane) s = .next s := by
  have hstay : s.laneGain lane = s := by simp [State.laneGain, h]
  exact congrArg Host.Outcome.next hstay

/-- Lane 0 has won its block lock in tick 2000 after a reset; one tick later. -/
def lockedLane : State := { { State.reset with tick := 2000 }.laneLock 0 true with tick := 2001 }

/-- Refutes O37: its clause of the block lock won does not ask that the lane has none. `lockedLane` meets the clause's hypotheses, but its
lock stays that of tick 2000, where the clause has it begin in tick 2001. -/
theorem not_ringLinks : ¬ Obligations.RingLinks := by
  unfold Obligations.RingLinks
  rintro ⟨-, -, -, -, -, -, locks, -⟩
  obtain ⟨-, -, -, won, -⟩ := locks lockedLane 0 0
  have hlock : lockedLane.flag (pgSERD 0) (F.SERD_LSTAT_LOCK (0 % 32)) = true := by decide
  have hstated := won (by decide) (by decide)
  have hsame : lockedLane = lockedLane.laneLock 0 true :=
    Host.Outcome.next.inj ((exec_blockLockGain_locked hlock).symm.trans hstated)
  have hold : (SMap.getD lockedLane.link.lanes 0 {}).lockAt = 2000 := by decide
  have hnew : (SMap.getD (lockedLane.laneLock 0 true).link.lanes 0 {}).lockAt = 2001 := by decide
  rw [← hsame, hold] at hnew
  exact absurd hnew (by decide)

end Sys2Proof.Machine
end

section
/-! SUPPORT. O38: what a cell node makes of frames, of a leg's entries and periods, and of time (R170, R185 to R188, R191, R196 to R201). -/

namespace Sys2Proof.Machine

/-! ### Legs -/

@[simp] theorem NodeSt.leg_setLeg (x : NodeSt) (l : Nat) (g : NLeg) : (x.setLeg l g).leg l = g := by
  simp [NodeSt.leg, NodeSt.setLeg]

theorem NodeSt.leg_setLeg_ne (x : NodeSt) {l m : Nat} (g : NLeg) (h : m ≠ l) : (x.setLeg l g).leg m = x.leg m := by
  simp [NodeSt.leg, NodeSt.setLeg, h]

@[simp] theorem NLeg.off_todo (g : NLeg) (n : Nat) : (g.off n).todo = [] := rfl

@[simp] theorem NLeg.off_hOn (g : NLeg) (n : Nat) : (g.off n).hOn = false := by
  cases hh : g.hOn <;> cases hl : g.lOn <;> simp [NLeg.off, NLeg.move, hh, hl]

@[simp] theorem NLeg.off_lOn (g : NLeg) (n : Nat) : (g.off n).lOn = false := by
  cases hh : g.hOn <;> cases hl : g.lOn <;> simp [NLeg.off, NLeg.move, hh, hl]

/-- What a self-block leaves of a leg (R199). -/
structure NLeg.Dead (g : NLeg) : Prop where
  block : g.block = 2
  h : g.hOn = false
  l : g.lOn = false
  cur : g.cur = none

theorem NLeg.selfBlock_dead (g : NLeg) (n : Nat) : (g.selfBlock n).Dead := ⟨rfl, g.off_hOn n, g.off_lOn n, rfl⟩

/-- Self-blocks of some legs, one after the other: each of them stays dead. -/
theorem NodeSt.leg_selfBlocks (n : Nat) {m : Nat} : ∀ (ls : List Nat) (x : NodeSt), m ∈ ls ∨ (x.leg m).Dead →
    ((ls.foldl (fun x l => x.setLeg l ((x.leg l).selfBlock n)) x).leg m).Dead
  | [], _, h => h.resolve_left List.not_mem_nil
  | l :: ls, x, h => by
    refine NodeSt.leg_selfBlocks n ls _ ?_
    by_cases e : m = l
    · subst e
      exact .inr (by simpa using NLeg.selfBlock_dead _ n)
    · rcases h with h | h
      · exact .inl ((List.mem_cons.mp h).resolve_left e)
      · exact .inr (by rwa [NodeSt.leg_setLeg_ne _ _ e])

/-- Every leg self-blocks (R199). -/
theorem State.nodeBlockAll_dead (s : State) {k cause leg : Nat} (h : leg < nodeLegs k) :
    (((s.nodeBlockAll k cause).node k).leg leg).Dead := by
  have := NodeSt.leg_selfBlocks (s.nodeNow k) (List.range (nodeLegs k)) (s.node k) (.inl (List.mem_range.mpr h))
  rw [State.nodeBlockAll, State.node_setNode]
  exact this

/-! ### Frames sent on (R170, R176, R186, R188) -/

section
variable {s : State} {k d sof crc : Nat} {line : List LineBlock}
  (hc : crc < 2 ^ 32) (hh : crc8 (natBytes sof 6) = bits sof 48 8)
include hc hh

/-- A whole frame that is not for the node alone. -/
theorem State.nodeForward_frame {blocks : List Nat} (held : Nat) (hp : line.map plainBlock = frameLine sof blocks crc)
    (hl : blocks.length = bits sof 32 4) (hty : (Frame.ofHead sof blocks).ty ≠ 8)
    (hn : (Frame.ofHead sof blocks).bcast = true ∨ (Frame.ofHead sof blocks).ty ∉ [1, 3, 6] ∨ (s.node k).assigned = false ∨
      (Frame.ofHead sof blocks).pos ≠ (s.node k).pos) :
    s.nodeForward k d line held =
      let u := if frameCrc sof blocks = crc then s else s.nodeCrc k
      u.nodeSendOn k d sof blocks (if (Frame.ofHead sof blocks).ty ∈ [5, 6, 7] ∧ u.nodeHeld k d held ≠ 0 then
        ((Frame.ofHead sof blocks).delayed (u.nodeHeld k d held)).blocks else blocks) crc false := by
  have hmine : (((Frame.ofHead sof blocks).ty == 1 || (Frame.ofHead sof blocks).ty == 3 || (Frame.ofHead sof blocks).ty == 6) &&
      !(Frame.ofHead sof blocks).bcast && (s.node k).assigned && (Frame.ofHead sof blocks).pos == (s.node k).pos ||
      (Frame.ofHead sof blocks).ty == 8) = false := by
    simp only [List.mem_cons, List.not_mem_nil, or_false] at hn
    rcases hn with h | h | h | h
    · simp [h, hty]
    · have : ((Frame.ofHead sof blocks).ty == 1 || (Frame.ofHead sof blocks).ty == 3 || (Frame.ofHead sof blocks).ty == 6) = false := by
        simpa [and_assoc] using h
      simp [this, hty]
    · simp [h, hty]
    · simp [h, hty]
  unfold State.nodeForward
  rw [lineEvent_frame hp hc hh hl]
  simp only [hmine, Bool.false_eq_true, if_false]
  simp [or_assoc]

/-- An ENUM frame whose checks hold: sent on with its NEXT, and taken where it gives the node a position. -/
theorem State.nodeEnum_frame {blk : Nat} (hp : line.map plainBlock = frameLine sof [blk] crc) (hl : bits sof 32 4 = 1)
    (hb : frameCrc sof [blk] = crc) (hty : (Frame.ofHead sof [blk]).ty = 8) :
    s.nodeEnum k d line =
      let t := s.nodeSendOn k d sof [blk] [s.enumNext k (Frame.ofHead sof [blk])] crc false
      if s.enumTakes k (Frame.ofHead sof [blk]) ∧ bits blk 0 6 ≤ 31 then t.enumTake k (bits blk 0 6) else t := by
  unfold State.nodeEnum
  rw [lineEvent_frame hp hc hh hl.symm]
  simp [hty, hb]

end

/-- The position that follows `p` in the direction of an ENUM frame (R188). -/
def Frame.enumStep (f : Frame) (p : Nat) : Nat := if bit f.flags 1 then (p + 63) % 64 else (p + 1) % 64

section
variable {s : State} {k : Nat} {f : Frame}

theorem State.enumTakes_iff : s.enumTakes k f = true ↔
    (∀ t, (s.node k).took = some t → t + 2000000 ≤ s.tick) ∧ (bit f.flags 0 = true ∨ (s.node k).assigned = false) := by
  cases h : (s.node k).took <;> simp [State.enumTakes, h]

theorem State.enumNext_step (h : s.enumTakes k f = true) (hle : bits (f.blocks.getD 0 0) 0 6 ≤ 31) :
    s.enumNext k f = f.enumStep (bits (f.blocks.getD 0 0) 0 6) := (if_pos h).trans (if_pos hle)

theorem State.enumNext_past (h : s.enumTakes k f = true) (hgt : 31 < bits (f.blocks.getD 0 0) 0 6) :
    s.enumNext k f = bits (f.blocks.getD 0 0) 0 6 := (if_pos h).trans (if_neg (Nat.not_le.mpr hgt))

theorem State.enumNext_kept (h : ¬ s.enumTakes k f = true) : s.enumNext k f = f.enumStep (s.node k).pos := if_neg h

end

/-! ### What a node makes of the frames it takes -/

/-- A newer EDGE frame that is a set (R197). -/
theorem State.nodeSet_newer {s : State} {k : Nat} {f : Frame} (hf : bit f.flags 0 = false) (h3 : 3 ≤ f.blocks.length)
    (hl : f.leg < nodeLegs k) (hn : newer ((s.node k).leg f.leg).seq f.seq = true) :
    s.nodeSet k f =
      let x := s.node k
      let g := x.leg f.leg
      let st := setOf f.blocks
      let n := s.nodeNow k
      let h : NLeg := { g with seq := some f.seq, block := if g.block = 1 then 0 else g.block }
      let cur := h.makeCurrent (nodeRes k) st n true
      let q := cur.catchUp (nodeRes k) (s.nodeDt k) n st
      if 32 * (st.base + st.per) ≤ n then s.setNode k (x.setLeg f.leg h)
      else if 32 * st.base ≤ n then
        if cur.block ≠ 0 then s.setNode k (x.setLeg f.leg cur) else s.setNode k (x.put f.leg q.1 q.2.1 q.2.2)
      else s.setNode k (x.setLeg f.leg { h with pend := some st }) := by
  have h3' : ¬ f.blocks.length < 3 := by omega
  have hl' : ¬ nodeLegs k ≤ f.leg := by omega
  simp [State.nodeSet, hf, h3', hl', hn]

/-- A newer block command (R199). -/
theorem State.nodeBlock_newer {s : State} {k : Nat} {f : Frame} (hf : bit f.flags 0 = true) (hl : f.leg < nodeLegs k)
    (hn : newer ((s.node k).leg f.leg).seq f.seq = true) :
    s.nodeBlock k f = s.setNode k ((s.node k).setLeg f.leg { ((s.node k).leg f.leg).off (s.nodeNow k) with
      seq := some f.seq, cur := none, pend := none, reps := 0, repeating := false
      block := if ((s.node k).leg f.leg).block = 2 then 2 else 1 }) := by
  have hl' : ¬ nodeLegs k ≤ f.leg := by omega
  simp [State.nodeBlock, hf, hl', hn]

/-- The MRSP frame of a node at `pos` for an MREQ with block `w`: its address, WR and TAG come back with a STATUS and a DATA (R183). -/
def mrspFrame (pos seq w status data : Nat) : Frame :=
  ⟨4, false, pos, 0, seq, 0, [bits w 0 13 + 2 ^ 13 * status + 2 ^ 16 * bits w 16 8 + 2 ^ 32 * (data % 2 ^ 32)]⟩

section
variable {s : State} {k w : Nat} {f : Frame} (hf : f.blocks = [w]) (hn : newer (s.node k).mseq f.seq = true)
include hf hn

/-- A newer MREQ that writes a node register (R183, R201). -/
theorem State.nodeMreq_write (hw : bit w 12 = true) :
    let u := s.setNode k { s.node k with mseq := some f.seq }
    let q := u.nodeWrite k (bits w 0 12 / 4 * 4) (bits w 32 32)
    s.nodeMreq k f = (u.setNode k q.2).nodeUp k (mrspFrame (s.node k).pos f.seq w q.1 (bits w 32 32)) := by
  simp only [State.nodeMreq, hf, hn, List.getD_cons_zero, hw, Bool.not_true, Bool.false_eq_true, if_false, if_true, mrspFrame]

/-- A newer MREQ that reads a node register (R183, R201). -/
theorem State.nodeMreq_read (hw : bit w 12 = false) :
    let u := s.setNode k { s.node k with mseq := some f.seq }
    ∀ {v : Nat}, u.nodeRead k (bits w 0 12 / 4 * 4) = some v →
      s.nodeMreq k f = u.nodeUp k (mrspFrame (s.node k).pos f.seq w 0 v) := by
  intro u v hv
  simp only [State.nodeMreq, hf, hn, List.getD_cons_zero, hw, Bool.not_true, Bool.false_eq_true, if_false, mrspFrame, hv, u]

/-- A newer MREQ that reads where there is nothing to read: its DATA is a free value (R200, R201). -/
theorem State.nodeMreq_refused (hw : bit w 12 = false) :
    let u := s.setNode k { s.node k with mseq := some f.seq }
    let a := bits w 0 12 / 4 * 4
    u.nodeRead k a = none →
      s.nodeMreq k f = (u.draw 32).2.nodeUp k (mrspFrame (s.node k).pos f.seq w (if a < 0x100 then 2 else 1) (u.draw 32).1) := by
  intro u a hv
  simp only [State.nodeMreq, hf, hn, List.getD_cons_zero, hw, Bool.not_true, Bool.false_eq_true, if_false, mrspFrame, hv, u, a]

end

/-- An entry whose instant has come, at a leg that is not blocked (R197). -/
theorem State.nodeEntry_due {s : State} {k l off out : Nat} {lev : Bool} {st : NSet} {rest : List (Nat × Nat × Bool)}
    (hc : ((s.node k).leg l).cur = some st) (ht : ((s.node k).leg l).todo = (off, out, lev) :: rest)
    (hi : entryAt st.base (nodeRes k) off ≤ s.nodeNow k + 31) (hb : ((s.node k).leg l).block = 0) :
    s.nodeEntry k l =
      let i := entryAt st.base (nodeRes k) off
      let q := (((s.node k).leg l).release (s.nodeDt k) i).call out lev (s.nodeDt k) i
      s.setNode k ((s.node k).put l { q.1 with todo := rest } 0 q.2.toNat) := by
  simp [State.nodeEntry, hc, ht, hb, Nat.not_lt.mpr hi]

theorem NodeSt.repeated_reps {x : NodeSt} {l : Nat} (h : (x.leg l).repeating = true) : (x.repeated l).reps = (x.reps + 1) % 256 := by
  simp [NodeSt.repeated, h, NodeSt.setLeg]

theorem NodeSt.leg_repeated {x : NodeSt} {l : Nat} (h : (x.leg l).repeating = true) :
    (x.repeated l).leg l = { x.leg l with reps := (x.leg l).reps + 1 } := by
  simp [NodeSt.repeated, h]

section
variable {s : State} {k l : Nat} {c : NSet} (hp : ((s.node k).leg l).pend = none) (hc : ((s.node k).leg l).cur = some c)
  (he : 32 * (c.base + c.per) ≤ s.nodeNow k + 31) (hb : ((s.node k).leg l).block = 0) (hr : ((s.node k).leg l).repeating = true)
include hp hc he hb hr

/-- A repeated period below the limit comes to its end with no set pending: it counts, and the set repeats (R197, R198). -/
theorem State.nodePeriodEnd_repeats (hlt : ((s.node k).leg l).reps + 1 < bits (s.node k).ctrl 4 4) :
    let y := (s.node k).repeated l
    s.nodePeriodEnd k l = s.setNode k (y.setLeg l
      { (y.leg l).makeCurrent (nodeRes k) { c with base := c.base + c.per } 0 false with todo := c.ents }) := by
  have hbelow : ¬ max 1 (bits (s.node k).ctrl 4 4) ≤ ((s.node k).leg l).reps + 1 := by omega
  simp [State.nodePeriodEnd, NodeSt.leg_repeated hr, hp, hc, he, hb, hr, hbelow]

/-- A repeated period at the limit comes to its end: it counts, and the leg blocks itself (R198, R199). -/
theorem State.nodePeriodEnd_limit (hle : bits (s.node k).ctrl 4 4 ≤ ((s.node k).leg l).reps + 1) :
    let y := (s.node k).repeated l
    s.nodePeriodEnd k l = s.setNode k { y.setLeg l ((y.leg l).selfBlock (s.nodeNow k)) with cause := 1 } := by
  have hlimit : max 1 (bits (s.node k).ctrl 4 4) ≤ ((s.node k).leg l).reps + 1 := by omega
  simp [State.nodePeriodEnd, NodeSt.leg_repeated hr, hp, hc, he, hb, hr, hlimit]

end

/-- LOL_TMO has passed without block lock on both ports (R199). -/
theorem State.nodeLossOfLink_due {s : State} {k since : Nat} (hd : (s.node k).darkAt = some since)
    (ht : since + 2000 * (s.node k).lol ≤ s.tick) : s.nodeLossOfLink k = s.nodeBlockAll k 2 := by
  simp [State.nodeLossOfLink, hd, ht]

/-- A new measurement instant, with the measurements on (R200). -/
theorem State.nodeSample_due {s : State} {k : Nat} (words : List Nat) (hm : bit (s.node k).ctrl 1 = true) (hper : (s.node k).mper ≠ 0) :
    let n := s.nodeNow k / 32
    let t := n - (n + (s.node k).mper - (s.node k).mphase % (s.node k).mper) % (s.node k).mper
    (s.node k).sampled ≠ some t →
      s.nodeSample k words = (s.setNode k { s.node k with sampled := some t }).nodeMeas k words t true := by
  intro n t hnew
  exact if_neg (by simp [hm, hper, hnew, n, t])

/-- Block lock at port P (R191, R199). -/
theorem State.nodeLock_P (s : State) (k : Nat) (lock : Bool) :
    s.nodeLock k 0 lock = (s.setNode k { s.node k with
      lockP := lock
      darkAt := if lock = false ∧ (s.node k).lockQ = false then some ((s.node k).darkAt.getD s.tick) else none }).nodeServe k := by
  simp [State.nodeLock]

/-- Block lock at port Q (R191, R199). -/
theorem State.nodeLock_Q (s : State) (k : Nat) (lock : Bool) :
    s.nodeLock k 1 lock = (s.setNode k { s.node k with
      lockQ := lock
      darkAt := if lock = false ∧ (s.node k).lockP = false then some ((s.node k).darkAt.getD s.tick) else none }).nodeServe k := by
  simp [State.nodeLock, and_comm]

/-! ### The statement -/

/-- Settles O38: a frame by what the node's receiver makes of its line, the events of a leg by its current set, and the rest by their
condition. -/
theorem cellNodes : Obligations.CellNodes := by
  unfold Obligations.CellNodes
  refine ⟨?forward, ?set, ?command, ?entry, ?period, ?dark, ?protection, ?time, ?timeout, ?echo, ?enum, ?mreq, ?meas, ?lock⟩
  case forward =>
    intro s b0 b1 bs ring place dir sof blocks crc held k f x u wait new hp hh hl hc hty hn
    exact congrArg Host.Outcome.next (State.nodeForward_frame hc hh held hp hl hty hn)
  case set =>
    intro s b0 b1 bs ring place sof blocks crc k f x g st n h cur q hear hf h3 hleg hnew
    have hset := (State.nodeTake_frame hear fun s f => s.nodeSet k f).trans (State.nodeSet_newer hf h3 hleg hnew)
    refine ⟨fun hpast => congrArg Host.Outcome.next (hset.trans (if_pos hpast)), fun hcome => ?_, fun hbase hend => ?_⟩
    · have hahead : ¬ 32 * (st.base + st.per) ≤ n := by omega
      exact congrArg Host.Outcome.next (hset.trans ((if_neg hahead).trans (if_neg (Nat.not_le.mpr hcome))))
    · have hcurrent := hset.trans ((if_neg (Nat.not_le.mpr hend)).trans (if_pos hbase))
      refine ⟨fun hb => congrArg Host.Outcome.next (hcurrent.trans (if_pos (c := cur.block ≠ 0) ?_)),
        fun hb => congrArg Host.Outcome.next (hcurrent.trans (if_neg (c := cur.block ≠ 0) ?_))⟩
      · simp [cur, h, NLeg.makeCurrent, hb]
      · simp only [cur, h, NLeg.makeCurrent]
        split <;> omega
  case command =>
    intro s b0 b1 bs ring place sof blocks crc k f x g hear hf hleg hnew
    refine ⟨_, congrArg Host.Outcome.next ((State.nodeTake_frame hear fun s f => s.nodeBlock k f).trans
      (State.nodeBlock_newer hf hleg hnew)), ?_⟩
    simp [x, g, f]
  case entry =>
    intro s ring place leg off out lev st rest k x g i q hc ht hi hb
    exact congrArg Host.Outcome.next (State.nodeEntry_due hc ht hi hb)
  case period =>
    intro s ring place leg c k x g hp hc he hb hr
    refine ⟨fun hlt => ⟨_, congrArg Host.Outcome.next (State.nodePeriodEnd_repeats hp hc he hb hr hlt), ?_⟩,
      fun hle => ⟨_, congrArg Host.Outcome.next (State.nodePeriodEnd_limit hp hc he hb hr hle), ?_⟩⟩
    · rw [State.node_setNode, NodeSt.leg_setLeg, NodeSt.leg_repeated hr]
      exact ⟨NodeSt.repeated_reps hr, rfl, rfl, rfl⟩
    · have hdead := NLeg.selfBlock_dead ((x.repeated leg).leg leg) (s.nodeNow k)
      rw [← NodeSt.leg_setLeg (x.repeated leg) leg (NLeg.selfBlock ..)] at hdead
      rw [State.node_setNode]
      exact ⟨NodeSt.repeated_reps hr, rfl, hdead.block, hdead.h, hdead.l, hdead.cur⟩
  case dark =>
    intro s ring place since k hd ht
    exact congrArg Host.Outcome.next (State.nodeLossOfLink_due hd ht)
  case protection =>
    intro s ring place k u
    refine ⟨rfl, rfl, fun leg hleg => ?_⟩
    have hdead := s.nodeBlockAll_dead (cause := 3) hleg
    exact ⟨hdead.block, hdead.h, hdead.l⟩
  case time =>
    intro s b0 b1 bs ring place dir sof blocks crc frac k x seq t hear hd
    have hfresh : ¬ (dir = 1 ∧ x.cwSeq = some seq) := fun ⟨h1, h2⟩ => hd.elim (by omega) (fun h => h h2)
    exact congrArg Host.Outcome.next ((State.nodeTake_frame hear fun s f => s.nodeTime k dir frac f).trans (if_neg hfresh))
  case timeout =>
    intro s ring place k hok ht
    exact congrArg Host.Outcome.next (if_pos ⟨hok, ht⟩)
  case echo =>
    intro s b0 b1 bs ring place dir sof blocks crc turn k q hear hd
    exact congrArg Host.Outcome.next (State.nodeTake_frame hear fun s f => s.nodeEcho k dir turn f)
  case enum =>
    intro s b0 b1 bs ring place dir sof blk crc k x f next step sends runs hp hh hl hc hb hty
    have henum := State.nodeEnum_frame (s := s) (k := k) (d := dir) hc hh hp hl hb hty
    have hkept : ¬ s.enumTakes k f = true → runs (sends (step x.pos)) := fun hstay => by
      rw [State.enumNext_kept hstay, if_neg fun h => hstay h.1] at henum
      exact congrArg Host.Outcome.next henum
    refine ⟨fun hold hgives => ?_, fun hold hbit hass => hkept fun h => ?_, fun t ht hrecent => hkept fun h => ?_⟩
    · have htake : s.enumTakes k f = true := State.enumTakes_iff.mpr ⟨hold, hgives⟩
      refine ⟨fun hle => ?_, fun hgt => ?_⟩
      · rw [State.enumNext_step htake hle, if_pos ⟨htake, hle⟩] at henum
        exact congrArg Host.Outcome.next henum
      · rw [State.enumNext_past htake hgt, if_neg fun h => Nat.not_le.mpr hgt h.2] at henum
        exact congrArg Host.Outcome.next henum
    · obtain ⟨-, hforced | hfree⟩ := State.enumTakes_iff.mp h
      · exact absurd (hbit.symm.trans hforced) Bool.false_ne_true
      · exact absurd (hfree.symm.trans hass) Bool.false_ne_true
    · exact absurd ((State.enumTakes_iff.mp h).1 t ht) (Nat.not_le.mpr hrecent)
  case mreq =>
    intro s b0 b1 bs ring place sof blk crc k x f a u answer runs hear hnew
    have hmreq := State.nodeTake_frame hear fun s f => s.nodeMreq k f
    refine ⟨fun hw => congrArg Host.Outcome.next (hmreq.trans ?_), fun hr =>
      ⟨fun v hv => congrArg Host.Outcome.next (hmreq.trans ?_), fun hv => congrArg Host.Outcome.next (hmreq.trans ?_)⟩⟩
    · exact State.nodeMreq_write rfl hnew hw
    · exact State.nodeMreq_read rfl hnew hr hv
    · exact State.nodeMreq_refused rfl hnew hr hv
  case meas =>
    intro s ring place words k x n t
    refine ⟨fun hm hper hnew => congrArg Host.Outcome.next (State.nodeSample_due words hm hper hnew),
      fun ht => congrArg Host.Outcome.next (if_pos ht)⟩
  case lock =>
    intro s ring place lock k x
    exact ⟨congrArg Host.Outcome.next (s.nodeLock_P k lock), congrArg Host.Outcome.next (s.nodeLock_Q k lock)⟩

end Sys2Proof.Machine
end

section
/-! SUPPORT. O40: the ranks of a job's cells and the candidate that wins (R205, R207). -/

namespace Sys2Proof.Machine

/-! ### Ranks (R205) -/

/-- The cells with their states, each with its number. -/
def cellStates (xs : List Nat) : List (Int × Nat) := (xs.map (sgn 16)).zipIdx

/-- The order of the cells: by state, and equal states by number. -/
def cellBefore (a b : Int × Nat) : Bool := decide (a.1 < b.1 ∨ (a.1 = b.1 ∧ a.2 < b.2))

/-- The place of a cell in a list of cells: how many come before it. -/
def placeIn (ys : List (Int × Nat)) (a : Int × Nat) : Nat := (ys.filter (cellBefore · a)).length

theorem rankOf_eq (xs : List Nat) : rankOf xs = (cellStates xs).map (placeIn (cellStates xs)) := rfl

theorem cellBefore_iff {a b : Int × Nat} : cellBefore a b = true ↔ a.1 < b.1 ∨ (a.1 = b.1 ∧ a.2 < b.2) := decide_eq_true_iff

theorem cellBefore_irrefl (a : Int × Nat) : ¬ cellBefore a a = true := by
  rw [cellBefore_iff]
  omega

theorem cellBefore_trans {a b c : Int × Nat} (hab : cellBefore a b = true) (hbc : cellBefore b c = true) : cellBefore a c = true := by
  rw [cellBefore_iff] at hab hbc ⊢
  omega

theorem placeIn_lt_length {ys : List (Int × Nat)} {a : Int × Nat} (h : a ∈ ys) : placeIn ys a < ys.length :=
  List.length_filter_lt_length_iff_exists.mpr ⟨a, h, cellBefore_irrefl a⟩

/-- What comes before a cell comes before every later one, and the cell itself does too. -/
theorem placeIn_lt {ys : List (Int × Nat)} {a b : Int × Nat} (ha : a ∈ ys) (hab : cellBefore a b = true) : placeIn ys a < placeIn ys b := by
  have hsub : ys.filter (cellBefore · a) = (ys.filter (cellBefore · b)).filter (cellBefore · a) := by
    rw [List.filter_filter]
    refine List.filter_congr fun c _ => Bool.eq_iff_iff.mpr ?_
    rw [Bool.and_eq_true]
    exact ⟨fun hca => ⟨hca, cellBefore_trans hca hab⟩, And.left⟩
  rw [placeIn, hsub]
  exact placeIn_lt_length (ys := ys.filter (cellBefore · b)) (List.mem_filter.mpr ⟨ha, hab⟩)

section
variable {xs : List Nat} {n : Nat} (h : n < xs.length)
include h

theorem cellStates_mem : (sgn 16 (xs.getD n 0), n) ∈ cellStates xs := by
  rw [cellStates, List.mk_mem_zipIdx_iff_getElem?, List.getElem?_map, List.getElem?_eq_getElem h, List.getD_eq_getElem xs 0 h]
  rfl

theorem rankOf_getD : (rankOf xs).getD n 0 = placeIn (cellStates xs) (sgn 16 (xs.getD n 0), n) := by
  have hcell : (cellStates xs)[n]? = some (sgn 16 (xs.getD n 0), n) := by
    rw [cellStates, List.getElem?_zipIdx, List.getElem?_map, List.getElem?_eq_getElem h, List.getD_eq_getElem xs 0 h]
    simp
  rw [rankOf_eq, List.getD_eq_getElem?_getD, List.getElem?_map, hcell]
  rfl

end

theorem rankOf_length (xs : List Nat) : (rankOf xs).length = xs.length := by simp [rankOf_eq, cellStates]

theorem rankOf_lt_length {xs : List Nat} {n : Nat} (h : n < xs.length) : (rankOf xs).getD n 0 < xs.length := by
  have hlen : (cellStates xs).length = xs.length := by simp [cellStates]
  rw [rankOf_getD h, ← hlen]
  exact placeIn_lt_length (cellStates_mem h)

/-- The ranks of two cells stand in the order of the cells. -/
theorem rankOf_lt {xs : List Nat} {m n : Nat} (hm : m < xs.length) (hn : n < xs.length)
    (h : cellBefore (sgn 16 (xs.getD m 0), m) (sgn 16 (xs.getD n 0), n) = true) : (rankOf xs).getD m 0 < (rankOf xs).getD n 0 := by
  rw [rankOf_getD hm, rankOf_getD hn]
  exact placeIn_lt (cellStates_mem hm) h

/-! ### The winner (R207) -/

/-- The better of the best candidate so far and a further one, each its cost and its number. -/
def betterOf (best : Option (Int × Nat)) (c : Int × Nat) : Option (Int × Nat) :=
  match best with
  | none => some c
  | some b => if c.1 < b.1 then some c else some b

theorem winner_eq (costs : List Int) : winner costs = (costs.zipIdx.foldl betterOf none).elim 0 (·.2) := rfl

/-- Candidate `a` costs less than `b`, or as much and has no higher number. -/
def NoWorse (a b : Int × Nat) : Prop := a.1 < b.1 ∨ (a.1 = b.1 ∧ a.2 ≤ b.2)

theorem NoWorse.refl (a : Int × Nat) : NoWorse a a := .inr ⟨rfl, Nat.le_refl _⟩

theorem NoWorse.trans {a b c : Int × Nat} (hab : NoWorse a b) (hbc : NoWorse b c) : NoWorse a c := by
  unfold NoWorse at hab hbc ⊢
  omega

/-- Among candidates in the order of their numbers the fold finds one that is no worse than any. -/
theorem foldl_betterOf (l : List (Int × Nat)) (b : Int × Nat) (h : (b :: l).Pairwise fun x y => x.2 ≤ y.2) :
    ∃ w ∈ b :: l, l.foldl betterOf (some b) = some w ∧ ∀ c ∈ b :: l, NoWorse w c := by
  induction l generalizing b with
  | nil => exact ⟨b, List.mem_cons_self, rfl, fun c hc => by rw [List.mem_singleton.mp hc]; exact .refl b⟩
  | cons c l ih =>
    obtain ⟨hb, hcl⟩ := List.pairwise_cons.mp h
    obtain ⟨hbc, hbl⟩ := List.forall_mem_cons.mp hb
    rw [List.foldl_cons]
    by_cases hlow : c.1 < b.1
    · obtain ⟨w, hw, hfold, hall⟩ := ih c hcl
      have hwb : NoWorse w b := (hall c List.mem_cons_self).trans (.inl hlow)
      refine ⟨w, List.mem_cons_of_mem b hw, ?_, List.forall_mem_cons.mpr ⟨hwb, hall⟩⟩
      rw [betterOf, if_pos hlow]
      exact hfold
    · obtain ⟨w, hw, hfold, hall⟩ := ih b (List.pairwise_cons.mpr ⟨hbl, hcl.tail⟩)
      obtain ⟨hwb, hwl⟩ := List.forall_mem_cons.mp hall
      have hbc : NoWorse b c := by
        unfold NoWorse
        omega
      refine ⟨w, ?_, ?_, List.forall_mem_cons.mpr ⟨hwb, List.forall_mem_cons.mpr ⟨hwb.trans hbc, hwl⟩⟩⟩
      · rcases List.mem_cons.mp hw with rfl | hw
        · exact List.mem_cons_self
        · exact List.mem_cons_of_mem b (List.mem_cons_of_mem c hw)
      · rw [betterOf, if_neg hlow]
        exact hfold

/-- The winner of at least one candidate is one of them, and no worse than any. -/
theorem winner_noWorse {costs : List Int} {k : Nat} (h : k < costs.length) :
    winner costs < costs.length ∧ NoWorse (costs.getD (winner costs) 0, winner costs) (costs.getD k 0, k) := by
  have hnumbers : costs.zipIdx.Pairwise fun x y => x.2 ≤ y.2 := by
    rw [← List.pairwise_map (R := fun a b => a ≤ b), List.zipIdx_map_snd]
    exact List.pairwise_le_range'
  have hk : (costs.getD k 0, k) ∈ costs.zipIdx := by
    rw [List.mk_mem_zipIdx_iff_getElem?, List.getElem?_eq_getElem h, List.getD_eq_getElem costs 0 h]
  have hwin := winner_eq costs
  match hz : costs.zipIdx with
  | [] => simp [hz] at hk
  | b :: l =>
    rw [hz] at hnumbers hk hwin
    obtain ⟨w, hw, hfold, hall⟩ := foldl_betterOf l b hnumbers
    have hnum : winner costs = w.2 := by
      rw [hwin, List.foldl_cons, betterOf, hfold]
      rfl
    rw [← hz, List.mem_zipIdx_iff_getElem?] at hw
    obtain ⟨hlt, hcost⟩ := List.getElem?_eq_some_iff.mp hw
    rw [hnum]
    refine ⟨hlt, ?_⟩
    rw [List.getD_eq_getElem costs 0 hlt, hcost]
    exact hall _ hk

/-- Settles O40: a rank counts the cells before its own, and the fold that picks the winner keeps a candidate no worse than those it has
seen. -/
theorem rankAndWinner : Obligations.RankAndWinner := by
  unfold Obligations.RankAndWinner
  constructor
  · intro xs m n hmn hn x
    have hm : m < xs.length := Nat.lt_trans hmn hn
    refine ⟨rankOf_length xs, rankOf_lt_length hn, fun hle => rankOf_lt hm hn ?_, fun hlt => rankOf_lt hn hm ?_⟩
    · rcases Int.lt_or_eq_of_le hle with hlt | heq
      · exact cellBefore_iff.mpr (.inl hlt)
      · exact cellBefore_iff.mpr (.inr ⟨heq, hmn⟩)
    · exact cellBefore_iff.mpr (.inl hlt)
  · exact fun costs k hk => winner_noWorse hk

end Sys2Proof.Machine
end

section
/-! SUPPORT. O41: the recorder of the kiln log: the record it writes, its stop events, its buffer drained, and CLEAR (R217, R221). -/

namespace Sys2Proof.Machine

/-! ### A record written -/

/-- The recorder has written its oldest record `r`: the record lies in its area, and WPTR counts it. -/
def State.klogPut (s : State) (c : Nat) (r : KRec) (rest : List KRec) : State :=
  ((s.memBytes (s.getF (pgKLOG c) F.KLOG_BASE_BASE + 32 * (s.getF (pgKLOG c) F.KLOG_WPTR_WPTR % s.klogCap c)) r.bytes).setKl c
    { s.kl c with buf := rest }).incF (pgKLOG c) F.KLOG_WPTR_WPTR

/-- WRAPPED is set where `full` tells that the last record has reached the end of the area. -/
def State.klogWrap (s : State) (c : Nat) (full : Prop) [Decidable full] : State :=
  if full ∧ s.flag (pgKLOG c) F.KLOG_STAT_WRAPPED = false then (s.setFlag (pgKLOG c) F.KLOG_STAT_WRAPPED true).pulse (pgKLOG c) 2 else s

/-- Recording ends, and the recorder is STOPPED. -/
def State.klogEnds (s : State) (c : Nat) : State := (s.setKl c { s.kl c with ended := true }).klogState c 3

section
variable {s : State} {c : Nat} {r : KRec} {rest : List KRec} (hbuf : (s.kl c).buf = r :: rest) (hcyc : r.cyc ≠ fcstCycle s.tick)
  (hthaw : s.memFrozen (s.getF (pgKLOG c) F.KLOG_BASE_BASE) = false)
include hbuf hcyc hthaw

/-- The oldest record, its forecast cycle over and its stack not frozen: it is written unless the mode is FILL and the area full, and in
FILL the one that fills the area ends the recording. -/
theorem State.klogWrite_due :
    let fills := s.flag (pgKLOG c) F.KLOG_CTRL_MODE = true
    let full := s.klogCap c ≤ s.getF (pgKLOG c) F.KLOG_WPTR_WPTR + 1
    let z := (s.klogPut c r rest).klogWrap c full
    s.klogWrite c = if fills ∧ s.klogCap c ≤ s.getF (pgKLOG c) F.KLOG_WPTR_WPTR then s else if fills ∧ full then z.klogEnds c else z := by
  unfold State.klogWrite
  simp only [hbuf, hcyc, hthaw, Bool.false_eq_true, or_false, ge_iff_le, Bool.not_eq_true']
  rfl

/-- A record that does not fill the area of a recorder in FILL. -/
theorem State.klogWrite_goesOn
    (h : s.flag (pgKLOG c) F.KLOG_CTRL_MODE = true → s.getF (pgKLOG c) F.KLOG_WPTR_WPTR + 1 < s.klogCap c) :
    s.klogWrite c = (s.klogPut c r rest).klogWrap c (s.klogCap c ≤ s.getF (pgKLOG c) F.KLOG_WPTR_WPTR + 1) := by
  have hlast : ¬(s.flag (pgKLOG c) F.KLOG_CTRL_MODE = true ∧ s.klogCap c ≤ s.getF (pgKLOG c) F.KLOG_WPTR_WPTR + 1) :=
    fun ⟨hmode, hle⟩ => Nat.not_le.mpr (h hmode) hle
  rw [State.klogWrite_due hbuf hcyc hthaw, if_neg fun ⟨hmode, hle⟩ => hlast ⟨hmode, Nat.le_succ_of_le hle⟩, if_neg hlast]

variable (hmode : s.flag (pgKLOG c) F.KLOG_CTRL_MODE = true)
include hmode

theorem State.klogWrite_last (hlast : s.getF (pgKLOG c) F.KLOG_WPTR_WPTR + 1 = s.klogCap c) : s.klogWrite c =
    ((s.klogPut c r rest).klogWrap c (s.klogCap c ≤ s.getF (pgKLOG c) F.KLOG_WPTR_WPTR + 1)).klogEnds c := by
  rw [State.klogWrite_due hbuf hcyc hthaw, if_neg (by omega), if_pos ⟨hmode, by omega⟩]

theorem State.klogWrite_full (hfull : s.klogCap c ≤ s.getF (pgKLOG c) F.KLOG_WPTR_WPTR) : s.klogWrite c = s := by
  rw [State.klogWrite_due hbuf hcyc hthaw, if_pos ⟨hmode, hfull⟩]

end

/-! ### The end of a recording -/

/-- A stop event of a recorder that records. -/
theorem State.klogStop_recording {s : State} {c : Nat} {tok : Tok} (htok : s.headTok (lathClu c) 175 = some tok) :
    let u := s.tookOne (lathClu c) 175
    u.flag (pgKLOG c) F.KLOG_CTRL_STOP_EN = true → u.getF (pgKLOG c) F.KLOG_STAT_STATE = 1 → (u.kl c).ended = false →
    s.klogStop c = ((u.setF (pgKLOG c) F.KLOG_STOPSEQ_STOPSEQ (u.getF (pgKLOG c) F.KLOG_PROD_PROD)).setKl c
      { u.kl c with post := u.getF (pgKLOG c) F.KLOG_POST_POST }).klogState c 2 := by
  intro u hen hstate hended
  unfold State.klogStop
  simp only [htok]
  exact if_pos ⟨hen, hstate, by rw [hended]; rfl⟩

/-- Production has ended and the buffer is empty. -/
theorem State.klogDrained_due {s : State} {c : Nat} (hended : (s.kl c).ended = true) (hbuf : (s.kl c).buf = [])
    (hstate : s.getF (pgKLOG c) F.KLOG_STAT_STATE = 1 ∨ s.getF (pgKLOG c) F.KLOG_STAT_STATE = 2 ∨
      (s.getF (pgKLOG c) F.KLOG_STAT_STATE = 3 ∧ s.flag (pgKLOG c) F.KLOG_CTRL_EN = false)) :
    s.klogDrained c = s.klogState c (if s.flag (pgKLOG c) F.KLOG_CTRL_EN then 3 else 0) := by
  refine if_pos ⟨hended, hbuf, ?_⟩
  rcases hstate with h | h | ⟨h, hen⟩
  · exact .inl h
  · exact .inr (.inl h)
  · exact .inr (.inr ⟨h, by rw [hen]; rfl⟩)

/-! ### CLEAR -/

theorem firstCause_zero (c : Nat) : firstCause 0 c = c := if_pos rfl

theorem cluPage_off_aligned (c slot : Nat) : (cluBase c slot + 0x40) % 4 = 0 := by
  have := cluBase_aligned c slot
  omega

section
variable {s : State} {req c v : Nat}

/-- A write of KLOG_CTRL with CLEAR that leaves EN and MODE: the fields of the word are written, and then the recorder is cleared. -/
theorem State.wKLOG_clear {w : Wr} (hclear : bit w.v 3 = true) (hen : bit w.v 0 = s.flag (pgKLOG c) F.KLOG_CTRL_EN)
    (hmode : bits w.v F.KLOG_CTRL_MODE.lo 1 = s.getF (pgKLOG c) F.KLOG_CTRL_MODE) :
    s.wKLOG (pageKLOG c) 0x40 w =
      andThen (s.put (pageKLOG c) w 0x40 [F.KLOG_CTRL_EN, F.KLOG_CTRL_CLEAR]) fun s => s.klogClear c := by
  have hsame : ¬(s.getF (pgKLOG c) F.KLOG_STAT_STATE ≠ 0 ∧ w.fld F.KLOG_CTRL_MODE ≠ s.getF (pgKLOG c) F.KLOG_CTRL_MODE) :=
    fun h => h.2 hmode
  have hbase : (pageKLOG c).base = pgKLOG c := rfl
  unfold State.wKLOG
  simp only [hbase, if_neg hsame, hclear, hen, if_true, List.append_nil]
  rfl

/-- A recorder that records or stops refuses CLEAR. -/
theorem State.klogClear_busy (h : s.getF (pgKLOG c) F.KLOG_STAT_STATE = 1 ∨ s.getF (pgKLOG c) F.KLOG_STAT_STATE = 2) :
    s.klogClear c = (s, 0x20) := if_pos h

/-- What CLEAR leaves of a recorder that is OFF or STOPPED. -/
def State.klogCleared (s : State) (c : Nat) : State :=
  ((((((s.setF (pgKLOG c) F.KLOG_WPTR_WPTR 0).setF (pgKLOG c) F.KLOG_PROD_PROD 0).setF (pgKLOG c) F.KLOG_DROP_DROP 0).setF (pgKLOG c)
    F.KLOG_STOPSEQ_STOPSEQ 0).setFlag (pgKLOG c) F.KLOG_STAT_WRAPPED false).setKl c { s.kl c with buf := [] }).klogDrained c

theorem State.klogClear_idle (h1 : s.getF (pgKLOG c) F.KLOG_STAT_STATE ≠ 1) (h2 : s.getF (pgKLOG c) F.KLOG_STAT_STATE ≠ 2) :
    s.klogClear c = (s.klogCleared c, 0) := if_neg fun h => h.elim h1 h2

/-- CLEAR written to KLOG_CTRL is what the recorder makes of it once the word's other fields are written. -/
theorem exec_klogClear {x : State} {old cause : Nat} (hold : s.wordAt (pgKLOG c + 0x40) = old) (hv : old - (old &&& 8) + 8 = v)
    (h : s.Writes (pageKLOG c) 0x40 req v)
    (hput : (s.put (pageKLOG c) (s.wrOf (pageKLOG c) req v) 0x40 [F.KLOG_CTRL_EN, F.KLOG_CTRL_CLEAR]).2 = 0)
    (hclear : bit v 3 = true) (hen : bit v 0 = s.flag (pgKLOG c) F.KLOG_CTRL_EN)
    (hmode : bits v F.KLOG_CTRL_MODE.lo 1 = s.getF (pgKLOG c) F.KLOG_CTRL_MODE)
    (hx : (s.put (pageKLOG c) (s.wrOf (pageKLOG c) req v) 0x40 [F.KLOG_CTRL_EN, F.KLOG_CTRL_CLEAR]).1.klogClear c = (x, cause))
    (hc : cause ≠ causePRIV) : exec (.klogClear req c) s = .next (x.wrote (pageKLOG c) 0x40 req v cause) := by
  have hw : s.writeBlock (pageKLOG c) 0x40 (s.wrOf (pageKLOG c) req v) = (x, cause) := by
    refine (State.wKLOG_clear (w := s.wrOf (pageKLOG c) req v) hclear hen hmode).trans ?_
    simp only [andThen, hput, hx, firstCause_zero]
  have hslots : ((pageKLOG c).slots 0x40).isSome = true := by rfl
  have hbus := h.plain rfl (cluPage_off_aligned c 0x020) (by decide) (by decide) hslots rfl hw hc
  refine congrArg Host.Outcome.next (Eq.trans ?_ hbus)
  rw [State.busWriteBits, hold, hv]
  rfl

/-- CLEAR written to KLOG_CTRL, by the state in which it finds the recorder. -/
theorem exec_klogClear_states {old : Nat} (hold : s.wordAt (pgKLOG c + 0x40) = old) (hv : old - (old &&& 8) + 8 = v) :
    let u := s.put (pageKLOG c) (s.wrOf (pageKLOG c) req v) 0x40 [F.KLOG_CTRL_EN, F.KLOG_CTRL_CLEAR]
    let st := u.1.getF (pgKLOG c) F.KLOG_STAT_STATE
    s.Writes (pageKLOG c) 0x40 req v → u.2 = 0 → bit v 3 = true → bit v 0 = s.flag (pgKLOG c) F.KLOG_CTRL_EN →
    bits v F.KLOG_CTRL_MODE.lo 1 = s.getF (pgKLOG c) F.KLOG_CTRL_MODE →
    (st = 1 ∨ st = 2 → exec (.klogClear req c) s = .next (u.1.wrote (pageKLOG c) 0x40 req v 0x20)) ∧
    (st ≠ 1 → st ≠ 2 → exec (.klogClear req c) s = .next ((u.1.klogCleared c).wrote (pageKLOG c) 0x40 req v)) := by
  intro u st h hput hclear hen hmode
  exact ⟨fun hbusy => exec_klogClear hold hv h hput hclear hen hmode (State.klogClear_busy hbusy) (by decide),
    fun h1 h2 => exec_klogClear hold hv h hput hclear hen hmode (State.klogClear_idle h1 h2) (by decide)⟩

end

/-- Settles O41: a record by the mode and the room of the area, each end of a recording by its condition, and CLEAR by the state in which
it finds the recorder. -/
theorem kilnLog : Obligations.KilnLog := by
  unfold Obligations.KilnLog
  refine ⟨?write, ?stop, ?post, ?drained, ?clear⟩
  case write =>
    intro s c r rest b w cap u v z hbuf hcyc hthaw
    have hgoesOn : (s.flag b F.KLOG_CTRL_MODE = true → w + 1 < cap) → exec (.klogWrite c) s = .next z := fun h =>
      congrArg Host.Outcome.next (State.klogWrite_goesOn hbuf hcyc hthaw h)
    exact ⟨fun _ hroom => hgoesOn fun _ => hroom,
      fun hmode => hgoesOn fun h => absurd (hmode.symm.trans h) Bool.false_ne_true,
      fun hmode hlast => congrArg Host.Outcome.next (State.klogWrite_last hbuf hcyc hthaw hmode hlast),
      fun hmode hfull => congrArg Host.Outcome.next (State.klogWrite_full hbuf hcyc hthaw hmode hfull)⟩
  case stop =>
    intro s c tok b u htok hen hstate hended
    exact congrArg Host.Outcome.next (State.klogStop_recording htok hen hstate hended)
  case post =>
    intro s c hstate hpost
    exact congrArg Host.Outcome.next (if_pos ⟨hstate, hpost⟩)
  case drained =>
    intro s c st hended hbuf hstate
    exact congrArg Host.Outcome.next (State.klogDrained_due hended hbuf hstate)
  case clear =>
    intro s req c
    exact exec_klogClear_states rfl rfl

end Sys2Proof.Machine
end

section
/-! SUPPORT. O39: what an interrupt condition leaves of the block registers of a cluster's pages, and the launches that a reload sets (R44,
R209, R241 to R243). -/

namespace Sys2Proof.Machine

/-! ### Block registers of a cluster's pages -/

/-- A field of a block register of the page at `b`, below the tiles and above the device's own pages. -/
structure Fld.OfCluster (f : Fld) (b : Nat) : Prop where
  page : b % 0x1000 = 0
  above : 0x01000000 ≤ b
  below : b < 0x08000000
  block : 0x40 ≤ f.off
  top : f.off < 0x1000
  lo : f.lo < 64

section
variable {s : State} {b : Nat} {f : Fld} (hf : f.OfCluster b)
include hf

theorem Fld.OfCluster.intc_apart (t : Nat) (f' : Fld) : fkey b f ≠ fkey (pgINTC t) f' := by
  obtain ⟨hpage, -, hbelow, -, htop, hlo⟩ := hf
  simp only [fkey, pgINTC, tileBase]
  omega

theorem Fld.OfCluster.dintc_apart {f' : Fld} (ho : f'.off < 0x1000) (hl : f'.lo < 64) : fkey b f ≠ fkey pgDINTC f' := by
  have habove := hf.above
  simp only [fkey, pgDINTC, devBase]
  omega

theorem Fld.OfCluster.header_apart {b' : Nat} {f' : Fld} (hb : b' % 0x1000 = 0) (ho : f'.off < 0x40) (hl : f'.lo < 64) :
    fkey b f ≠ fkey b' f' := by
  obtain ⟨hpage, -, -, hblock, htop, hlo⟩ := hf
  simp only [fkey]
  omega

theorem Fld.OfCluster.enterIntc (t l n : Nat) : (s.enterIntc t l n).1.getF b f = s.getF b f := by
  unfold State.enterIntc
  dsimp only
  split
  · simp only [apply_ite (fun z : State => z.getF b f), State.getF_requestWake, State.getF_satF_ne _ _ (hf.intc_apart t _),
      State.getF_setF_ne _ _ (hf.intc_apart t _), ite_self]
    rfl
  · exact State.getF_countArrivals (s.noteFresh t l n) n (hf.intc_apart t _) (hf.intc_apart t _) (hf.intc_apart t _) fun v =>
      State.getF_setFbit_ne v _ true (hf.intc_apart t _)

theorem Fld.OfCluster.arriveOnce {src : Nat} (hs : src < 21504) (n : Nat) : (s.arriveOnce src n).1.getF b f = s.getF b f := by
  unfold State.arriveOnce
  dsimp only
  split
  · have hint := hf.enterIntc (s := s) (src / 512) (src % 512) n
    split
    · rfl
    · split
      · split
        · rfl
        · exact hint
      · exact hint
  · dsimp only
    rw [State.getF_cascadeWake]
    refine State.getF_countArrivals s n (hf.dintc_apart (by decide) (by decide)) (hf.dintc_apart (by decide) (by decide))
      (hf.dintc_apart ?_ ?_) fun v => State.getF_setFbit_ne v _ true (hf.dintc_apart ?_ ?_) <;>
      simp only [F.dintcCount, F.DINTC_SAT_SAT] <;> omega

theorem Fld.OfCluster.arriveF (fuel : Nat) {src : Nat} (hs : src < 21504) (n : Nat) :
    (State.arriveF fuel s src n).getF b f = s.getF b f := by
  induction fuel generalizing s src n with
  | zero => rfl
  | succ k ih =>
    have honce := hf.arriveOnce (s := s) hs n
    unfold State.arriveF
    split
    · rfl
    · dsimp only
      split
      · exact honce
      · next hsat =>
        obtain ⟨hb, hsrc⟩ := s.arriveOnce_page hs n hsat
        split
        · exact (ih hsrc 1).trans ((State.getF_setFbit_ne _ _ _ (hf.header_apart hb (by decide) (by decide))).trans honce)
        · exact honce

/-- A pulse of an interrupt condition of a page with a summary source. -/
theorem Fld.OfCluster.pulse {b' : Nat} (hb : b' % 0x1000 = 0) (hs : summarySrc b' < 21504) (i n : Nat) :
    (s.pulse b' i n).getF b f = s.getF b f := by
  unfold State.pulse State.occur
  split
  · rfl
  · split
    · exact (hf.arriveF 3 hs n).trans (State.getF_setFbit_ne _ _ _ (hf.header_apart hb (by decide) (by decide)))
    · rfl

end

/-! ### A launch point that is not taken -/

theorem F.JOB_CTRL_EN_ofCluster {c i : Nat} (hc : c < 7) (hi : i < 15) : F.JOB_CTRL_EN.OfCluster (pgJOB c i) := by
  refine ⟨cluBase_page _ _, ?_, ?_, by decide, by decide, by decide⟩ <;> simp only [pgJOB, pgFCST, cluBase] <;> omega

theorem summarySrc_fcst {c : Nat} (hc : c < 7) : summarySrc (pgFCST c 0) < 21504 := by
  revert c
  decide

/-- A launch point that is not taken leaves which jobs are enabled. -/
theorem State.flag_skipLaunch_enabled (s : State) {c i : Nat} (j : Nat) (hc : c < 7) (hi : i < 15) :
    (s.skipLaunch c j).flag (pgJOB c i) F.JOB_CTRL_EN = s.flag (pgJOB c i) F.JOB_CTRL_EN := by
  have hapart : fkey (pgJOB c i) F.JOB_CTRL_EN ≠ fkey (pgJOB c j) F.JOB_CNT1_SKIPPED := by
    simp only [fkey, F.JOB_CTRL_EN, F.JOB_CNT1_SKIPPED]
    omega
  exact congrArg (· == 1) (((F.JOB_CTRL_EN_ofCluster hc hi).pulse (cluBase_page _ _) (summarySrc_fcst hc) 18 1).trans
    (State.getF_satF_ne s 1 hapart))

/-! ### The launches that a reload sets (R209) -/

theorem foldl_still {α β : Type} {f : α → β → α} {a : α} {l : List β} (h : ∀ x ∈ l, f a x = a) : l.foldl f a = a := by
  induction l with
  | nil => rfl
  | cons x l ih =>
    obtain ⟨hx, hl⟩ := List.forall_mem_cons.mp h
    rw [List.foldl_cons, hx, ih hl]

/-- A fold in which one element alone moves the state. -/
theorem foldl_alone {α β : Type} {f : α → β → α} {a : α} {x : β} {l : List β} (hx : x ∈ l) (hnd : l.Nodup)
    (hbefore : ∀ y ∈ l, y ≠ x → f a y = a) (hafter : ∀ y ∈ l, y ≠ x → f (f a x) y = f a x) : l.foldl f a = f a x := by
  induction l with
  | nil => cases hx
  | cons z l ih =>
    obtain ⟨hz, hl⟩ := List.nodup_cons.mp hnd
    obtain ⟨hbz, hbl⟩ := List.forall_mem_cons.mp hbefore
    obtain ⟨-, hal⟩ := List.forall_mem_cons.mp hafter
    rw [List.foldl_cons]
    rcases List.mem_cons.mp hx with rfl | hmem
    · exact foldl_still fun y hy => hal y hy fun h => hz (h ▸ hy)
    · rw [hbz fun h => hz (h ▸ hmem)]
      exact ih hmem hl hbl hal

/-- What a reload of an ARMED generator sets for job `j` of its cluster. -/
def State.launchSet (s : State) (t g j : Nat) : State :=
  let b := pgJOB (t / 10) j
  if !s.flag b F.JOB_CTRL_EN || s.flag b F.JOB_CTRL_LAUNCH_SRC || s.jobRef (t / 10) j != (t, g) then s
  else if (s.gen t g).per ≤ s.getF b F.JOB_OFS_OFS then s.skipLaunch (t / 10) j
  else { s with fcst := SMap.put s.fcst (t / 10) { s.fc (t / 10) with
    due := (s.fc (t / 10)).due ++ [(j, (s.gen t g).origin + s.getF b F.JOB_OFS_OFS)] } }

section
variable {s : State} {t g j : Nat}

theorem State.launchesSet_armed (h : s.genState t g = 3) :
    s.launchesSet t g = (List.range 15).foldl (fun s j => s.launchSet t g j) s := if_neg (not_not.mpr h)

theorem State.launchSet_disabled (h : s.flag (pgJOB (t / 10) j) F.JOB_CTRL_EN = false) : s.launchSet t g j = s :=
  if_pos (by rw [h]; rfl)

theorem State.launchSet_enabled (hen : s.flag (pgJOB (t / 10) j) F.JOB_CTRL_EN = true)
    (hsrc : s.flag (pgJOB (t / 10) j) F.JOB_CTRL_LAUNCH_SRC = false) (href : s.jobRef (t / 10) j = (t, g)) :
    s.launchSet t g j =
      if (s.gen t g).per ≤ s.getF (pgJOB (t / 10) j) F.JOB_OFS_OFS then s.skipLaunch (t / 10) j
      else { s with fcst := SMap.put s.fcst (t / 10) { s.fc (t / 10) with
        due := (s.fc (t / 10)).due ++ [(j, (s.gen t g).origin + s.getF (pgJOB (t / 10) j) F.JOB_OFS_OFS)] } } :=
  if_neg (by simp [hen, hsrc, href])

/-- The reference generator of a job lies in a tile that the role table can name. -/
theorem State.jobRef_tile_lt {c : Nat} (href : s.jobRef c j = (t, g)) : t < 64 := by
  have ht : s.phys (8 * c + s.getF (pgJOB c j) F.JOB_REFGEN_LT) = t := congrArg Prod.fst href
  exact ht ▸ s.phys_lt _

/-- A reload sets the launch of the only enabled job that has the generator as its reference. -/
theorem State.launchesSet_alone (hst : s.genState t g = 3) (hj : j < 15) (hen : s.flag (pgJOB (t / 10) j) F.JOB_CTRL_EN = true)
    (hsrc : s.flag (pgJOB (t / 10) j) F.JOB_CTRL_LAUNCH_SRC = false) (href : s.jobRef (t / 10) j = (t, g))
    (hothers : ∀ i, i < 15 → i ≠ j → s.flag (pgJOB (t / 10) i) F.JOB_CTRL_EN = false) :
    s.launchesSet t g = s.launchSet t g j := by
  have hc : t / 10 < 7 := by
    have := State.jobRef_tile_lt href
    omega
  have hkept : ∀ i < 15, (s.launchSet t g j).flag (pgJOB (t / 10) i) F.JOB_CTRL_EN = s.flag (pgJOB (t / 10) i) F.JOB_CTRL_EN := by
    intro i hi
    rw [State.launchSet_enabled hen hsrc href]
    split
    · exact s.flag_skipLaunch_enabled j hc hi
    · rfl
  rw [State.launchesSet_armed hst]
  refine foldl_alone (List.mem_range.mpr hj) List.nodup_range (fun i hi hne => ?_) fun i hi hne => ?_
  · exact State.launchSet_disabled (hothers i (List.mem_range.mp hi) hne)
  · exact State.launchSet_disabled ((hkept i (List.mem_range.mp hi)).trans (hothers i (List.mem_range.mp hi) hne))

end

end Sys2Proof.Machine
end

section
/-! SUPPORT. O39: a forecast launch, stage by stage (R204 to R214), and the enabling of a job (R215, R216). -/

namespace Sys2Proof.Machine

/-! ### The engine's own state -/

@[simp] theorem State.fc_setFc (s : State) (c : Nat) (x : FcstSt) : (s.setFc c x).fc c = x := by
  unfold State.setFc
  split <;> exact SMap.getD_put_same _ _ _ _

theorem State.fcst_of_eventFrame {s u : State} (h : s.eventFrame = u.eventFrame) : s.fcst = u.fcst := (congrArg State.fcst h :)

@[simp] theorem State.pulse_fcst (s : State) (b i n : Nat) : (s.pulse b i n).fcst = s.fcst :=
  State.fcst_of_eventFrame (s.pulse_eventFrame b i n)

@[simp] theorem State.klogRecord_fcst (s : State) (c ty flags src tick : Nat) (payload : List Nat) :
    (s.klogRecord c ty flags src tick payload).fcst = s.fcst :=
  State.fcst_of_eventFrame (s.klogRecord_eventFrame c ty flags src tick payload)

/-- The end of a launch is told in registers, a log record and interrupts. -/
theorem State.endLaunch_fcst (s : State) (c : Nat) (l : Launch) (out cause win : Nat) (cost : Int) (period : Nat) :
    (s.endLaunch c l out cause win cost period).fcst = s.fcst := by
  unfold State.endLaunch
  simp only [State.pulse_fcst, State.klogRecord_fcst]
  split <;> simp

/-- No launch runs after the end of one. -/
theorem State.endRun_run (s : State) (c : Nat) (r : FRun) (out cause period : Nat) : ((s.endRun c r out cause period).fc c).run = none := by
  unfold State.endRun State.fc
  rw [State.endLaunch_fcst]
  exact congrArg FcstSt.run (State.fc_setFc _ _ _)

/-! ### The launch point (R209) and the start (R210) -/

section
variable {s : State} {c j : Nat}

theorem State.forecastLaunch_event {tok : Tok} (hsrc : s.flag (pgJOB c j) F.JOB_CTRL_LAUNCH_SRC = true)
    (htok : s.headTok (lathClu c) (160 + j) = some tok)
    (hen : (s.tookOne (lathClu c) (160 + j)).flag (pgJOB c j) F.JOB_CTRL_EN = true) :
    s.forecastLaunch c j = (s.tookOne (lathClu c) (160 + j)).launchPoint c j := by
  unfold State.forecastLaunch
  simp only [hsrc, htok, hen, if_true]

theorem State.forecastLaunch_reload {at_ : Nat} (hsrc : s.flag (pgJOB c j) F.JOB_CTRL_LAUNCH_SRC = false)
    (hdue : (s.fc c).due.find? (fun e => e.1 == j && decide (e.2 ≤ s.tick)) = some (j, at_)) :
    let u : State := { s with fcst := SMap.put s.fcst c { s.fc c with due := (s.fc c).due.erase (j, at_) } }
    u.flag (pgJOB c j) F.JOB_CTRL_EN = true → s.forecastLaunch c j = u.launchPoint c j := by
  intro u hen
  unfold State.forecastLaunch
  simp only [hsrc, Bool.false_eq_true, if_false, hdue]
  exact if_pos hen

end

theorem State.launchStart_idle {s : State} {c : Nat} {l : Launch} {rest : List Launch} (hrun : (s.fc c).run = none)
    (hqueue : (s.fc c).queue = l :: rest) :
    s.launchStart c = ((s.setFc c { s.fc c with queue := rest, run := some { launch := l } }).setF (pgFCST c 0)
      F.FCST_STAT_STAGE 1).setF (pgJOB c l.job) F.JOB_STAT_STATE 3 := by
  unfold State.launchStart
  simp only [hrun, hqueue]

/-! ### Gather, fetch, ranking and evaluation (R204 to R208) -/

section
variable {s : State} {c : Nat} {r : FRun} (hrun : (s.fc c).run = some r)
include hrun

theorem State.gatherDone_still (hout : r.outcome = 0) (hx : r.x0 = none) (hstill : ∀ m ∈ s.jobCells c r.launch.job, s.moving m.1 = false)
    (bad : Bool) : s.gatherDone c bad = if bad then s.endRun c r 4 3 r.launch.period else
      (s.setFc c { s.fc c with run := some { r with x0 := some ((s.jobCells c r.launch.job).map fun m =>
        bits (s.ctxWord (s.phys m.1) m.2 (s.getF (pgJOB c r.launch.job) F.JOB_DIM_GWORD)) 16 16) } }).setF (pgFCST c 0)
          F.FCST_STAT_STAGE 2 := by
  have hmove : (s.jobCells c r.launch.job).any (fun n => s.moving n.1) = false := by
    rw [List.any_eq_false]
    exact fun m hm => Bool.eq_false_iff.mp (hstill m hm)
  unfold State.gatherDone
  simp only [hrun]
  exact if_neg (by simp [hout, hx, hmove])

/-- The bank of a launch as memory has it. -/
def State.bankOf (s : State) (c : Nat) (l : Launch) : List Byte :=
  Memory.readN s.mem (s.bankAddr c l) (bankSize (s.jobN c l.job) (s.jobH c l.job) (s.jobJ c l.job))

/-- The header of a bank does not describe the launch's job (R208). -/
def State.bankBad (s : State) (c : Nat) (l : Launch) : Prop :=
  let w := bytesLE (s.bankOf c l) 4 4
  bytesLE (s.bankOf c l) 0 2 ≠ 1 ∨ bits w 0 10 ≠ s.jobN c l.job ∨ bits w 16 5 ≠ s.jobH c l.job ∨ bits w 24 7 ≠ s.jobJ c l.job

section
variable (hout : r.outcome = 0) (hbank : r.bank = none) (hthaw : s.memFrozen (s.bankAddr c r.launch) = false)
include hout hbank hthaw

theorem State.fetchDone_uncorrectable (hue : s.ueIn (s.bankAddr c r.launch)
      (bankSize (s.jobN c r.launch.job) (s.jobH c r.launch.job) (s.jobJ c r.launch.job)) = true) (ue : Bool) :
    s.fetchDone c ue = (s.countIn (s.bankAddr c r.launch)
      (bankSize (s.jobN c r.launch.job) (s.jobH c r.launch.job) (s.jobJ c r.launch.job))).endRun c r 4 2 r.launch.period := by
  unfold State.fetchDone
  simp only [hrun]
  rw [if_neg (by simp [hout, hbank, hthaw]), if_pos hue]

variable (hgood : s.ueIn (s.bankAddr c r.launch)
  (bankSize (s.jobN c r.launch.job) (s.jobH c r.launch.job) (s.jobJ c r.launch.job)) = false)
include hgood

theorem State.fetchDone_error : s.fetchDone c true = s.endRun c r 4 2 r.launch.period := by
  unfold State.fetchDone
  simp only [hrun]
  rw [if_neg (by simp [hout, hbank, hthaw]), if_neg (by simp [hgood])]
  rfl

theorem State.fetchDone_header (h : s.bankBad c r.launch) : s.fetchDone c false = s.endRun c r 4 1 r.launch.period := by
  unfold State.fetchDone
  simp only [hrun]
  rw [if_neg (by simp [hout, hbank, hthaw]), if_neg (by simp [hgood]), if_neg Bool.false_ne_true]
  exact if_pos h

theorem State.fetchDone_fetched (h : ¬ s.bankBad c r.launch) :
    s.fetchDone c false = s.setFc c { s.fc c with run := some { r with bank := some (s.bankOf c r.launch) } } := by
  unfold State.fetchDone
  simp only [hrun]
  rw [if_neg (by simp [hout, hbank, hthaw]), if_neg (by simp [hgood]), if_neg Bool.false_ne_true]
  exact if_neg h

end

theorem State.rankDone_gathered {xs : List Nat} (hx : r.x0 = some xs) (hranks : r.ranks = none) :
    s.rankDone c = (s.setFc c { s.fc c with run := some { r with ranks := some (rankOf xs) } }).setF (pgFCST c 0) F.FCST_STAT_STAGE 3 := by
  unfold State.rankDone
  simp only [hrun, hx, hranks]

theorem State.evaluateDone_fetched {xs ranks : List Nat} {bk : List Byte} (hx : r.x0 = some xs) (hranks : r.ranks = some ranks)
    (hbank : r.bank = some bk) (hcosts : r.costs = none) : s.evaluateDone c =
      ((s.setFc c { s.fc c with run := some { r with costs := some ((List.range (s.jobJ c r.launch.job)).map fun k =>
        evalCost bk xs.length (s.jobH c r.launch.job) k xs ranks (sgn 16 r.launch.ref)) } }).incF (pgFCST c 0) F.FCST_MACS_MACS
          (4 * s.jobJ c r.launch.job * xs.length * s.jobH c r.launch.job)).setF (pgFCST c 0) F.FCST_STAT_STAGE 4 := by
  unfold State.evaluateDone
  simp only [hrun, hx, hranks, hbank, hcosts]

/-! ### Selection and commit (R207, R211, R213, R214) -/

/-- Where the launches that wait stay, the running one goes if its generator has left ARMED or its job is disabled, and its commit has not
started. -/
theorem State.fcstAbort_queueStays (hqueue : ∀ l ∈ (s.fc c).queue, s.refArmed c l = true) :
    s.fcstAbort c = if r.outcome = 0 ∧ s.refArmed c r.launch = false then s.endRun c r 5 0 r.launch.period else s := by
  have hgone : ∀ l : Launch, (s.genState (s.jobRef c l.job).1 (s.jobRef c l.job).2 != 3 || !s.flag (pgJOB c l.job) F.JOB_CTRL_EN) =
      !s.refArmed c l := fun l => by
    rw [State.refArmed, Bool.not_and]
    rfl
  have hstays : (s.fc c).queue.filter (fun l => !s.refArmed c l) = [] :=
    List.filter_eq_nil_iff.mpr fun l hl => by simp [hqueue l hl]
  unfold State.fcstAbort
  simp only [hgone, hstays, List.isEmpty_nil, if_true, List.foldl_nil, hrun, Bool.not_eq_true']

theorem State.selectDone_aborted (hout : r.outcome = 0) (hqueue : (s.fc c).queue = []) (hgone : s.refArmed c r.launch = false) :
    s.selectDone c = s.endRun c r 5 0 r.launch.period := by
  have habort : s.fcstAbort c = s.endRun c r 5 0 r.launch.period := by
    rw [State.fcstAbort_queueStays hrun (by simp [hqueue]), if_pos ⟨hout, hgone⟩]
  unfold State.selectDone
  simp only [habort, State.endRun_run]

end

/-- The tick at which the plans of `n` cells have arrived, as the selection foresees it (R213). -/
def commitTick (tick n : Nat) : Nat := tick + ((n + 16) * 5 + 2) / 3 + 40

/-- The outcome of a launch whose plans arrive at tick `a`: 1 on time, 2 retargeted, 3 late. -/
def Launch.outcomeAt (l : Launch) (a : Nat) : Nat := if a < l.target then 1 else if l.retarget ∧ a < l.target + l.per then 2 else 3

/-- The launch `r` with its decision: the winner, the outcome, and its times up to tick `a`. -/
def FRun.decided (r : FRun) (costs : List Int) (a out : Nat) : FRun :=
  { r with win := winner costs, outcome := out, dur := a - r.launch.at_, margin := r.launch.target - a }

/-- The winner and its cost as the job's registers show them. -/
def State.winnerShown (s : State) (c j : Nat) (costs : List Int) : State :=
  (s.setF (pgJOB c j) F.JOB_STAT_WIN (winner costs)).setF (pgJOB c j) F.JOB_COST_COST (wrap 48 (costs.getD (winner costs) 0))

/-- The commit of the decided launch `r` starts: the winner's value for the rank of each cell goes on the plan path, tagged with the
period. -/
def State.commitStarts (u : State) (c : Nat) (r : FRun) (ranks : List Nat) (bk : List Byte) (period : Nat) : State :=
  ((u.setFc c { u.fc c with
    run := some r
    plans := (u.fc c).plans ++ ((u.jobCells c r.launch.job).zip ranks).map fun y =>
      (y.1.1, y.1.2, bytesLE bk (bankCB ranks.length (u.jobH c r.launch.job) + r.win * bankRC ranks.length + 4 * y.2) 4,
        0x80000000 + period % 65536) }).setF (pgFCST c 0) F.FCST_STAT_STAGE 5).setF (pgJOB c r.launch.job) F.JOB_STAT_STATE 4

section
variable {s : State} {c : Nat} {r : FRun} {ranks : List Nat} {bk : List Byte} {costs : List Int} (hrun : (s.fc c).run = some r)
  (hout : r.outcome = 0) (hranks : r.ranks = some ranks) (hbank : r.bank = some bk) (hcosts : r.costs = some costs)
  (harmed : ∀ l ∈ r.launch :: (s.fc c).queue, s.refArmed c l = true)
include hrun hout hranks hbank hcosts harmed

/-- A selection without an abort, by the outcome that the foreseen tick of the commit gives. -/
theorem State.selectDone_armed {out : Nat} (h : r.launch.outcomeAt (commitTick s.tick ranks.length) = out) :
    s.selectDone c = if out = 3 then
        (s.winnerShown c r.launch.job costs).endRun c (r.decided costs (commitTick s.tick ranks.length) out) 3 0 r.launch.period
      else (s.winnerShown c r.launch.job costs).commitStarts c (r.decided costs (commitTick s.tick ranks.length) out) ranks bk
        (if out = 2 then r.launch.period + 1 else r.launch.period) := by
  obtain ⟨hrunning, hqueue⟩ := List.forall_mem_cons.mp harmed
  have habort : s.fcstAbort c = s := by
    rw [State.fcstAbort_queueStays hrun hqueue, if_neg fun h => by simp [hrunning] at h]
  obtain ⟨l, x0, bank, ranks', costs', win, outcome, dur, margin⟩ := r
  obtain rfl : outcome = 0 := hout
  obtain rfl : ranks' = some ranks := hranks
  obtain rfl : bank = some bk := hbank
  obtain rfl : costs' = some costs := hcosts
  unfold Launch.outcomeAt commitTick at h
  unfold State.selectDone
  simp only [habort, hrun, h, ne_eq, not_true, if_false]
  rfl

theorem State.selectDone_onTime (h : commitTick s.tick ranks.length < r.launch.target) :
    s.selectDone c = (s.winnerShown c r.launch.job costs).commitStarts c (r.decided costs (commitTick s.tick ranks.length) 1) ranks bk
      r.launch.period :=
  State.selectDone_armed hrun hout hranks hbank hcosts harmed (if_pos h)

theorem State.selectDone_retargeted (h : r.launch.target ≤ commitTick s.tick ranks.length) (hre : r.launch.retarget = true)
    (hper : commitTick s.tick ranks.length < r.launch.target + r.launch.per) :
    s.selectDone c = (s.winnerShown c r.launch.job costs).commitStarts c (r.decided costs (commitTick s.tick ranks.length) 2) ranks bk
      (r.launch.period + 1) :=
  State.selectDone_armed hrun hout hranks hbank hcosts harmed ((if_neg (Nat.not_lt.mpr h)).trans (if_pos ⟨hre, hper⟩))

theorem State.selectDone_late (h : r.launch.target ≤ commitTick s.tick ranks.length)
    (hlate : r.launch.retarget = false ∨ r.launch.target + r.launch.per ≤ commitTick s.tick ranks.length) :
    s.selectDone c = (s.winnerShown c r.launch.job costs).endRun c (r.decided costs (commitTick s.tick ranks.length) 3) 3 0
      r.launch.period := by
  have hno : ¬(r.launch.retarget = true ∧ commitTick s.tick ranks.length < r.launch.target + r.launch.per) := by
    rintro ⟨hre, hper⟩
    rcases hlate with hoff | hle
    · exact Bool.false_ne_true (hoff.symm.trans hre)
    · exact Nat.not_le.mpr hper hle
  exact State.selectDone_armed hrun hout hranks hbank hcosts harmed ((if_neg (Nat.not_lt.mpr h)).trans (if_neg hno))

end

/-! ### Plan writes (R211) -/

theorem State.setCtxWord_tick (s : State) (t n w v : Nat) : (s.setCtxWord t n w v).tick = s.tick := by
  unfold State.setCtxWord
  dsimp only
  split <;> rfl

theorem State.takePlan_tick (s : State) (t : Nat) (p : PlanCommit) : (s.takePlan t p).tick = s.tick := by
  unfold State.takePlan State.applyPlan
  split
  · rfl
  · rw [State.setCtxWord_tick, State.setCtxWord_tick]

theorem State.takePlan_armed {s : State} {t : Nat} {p : PlanCommit} (h : s.ctxArmed t p.ctx = true) :
    s.takePlan t p = s.setStage t { s.stageOf t with plans := ((s.stageOf t).plans.filter fun q => q.ctx != p.ctx) ++ [p] } := if_pos h

theorem State.takePlan_free {s : State} {t : Nat} {p : PlanCommit} (h : s.ctxArmed t p.ctx = false) : s.takePlan t p = s.applyPlan t p :=
  if_neg (by simp [h])

section
variable {s : State} {c lt n v tag : Nat} {rest : List (Nat × Nat × Nat × Nat)} (h : (s.fc c).plans = (lt, n, v, tag) :: rest)
include h

/-- The first plan write on the path arrives; one that is staged for its context is counted as replaced. -/
theorem State.planArrival_first :
    let u : State := { s with fcst := SMap.put s.fcst c { s.fc c with plans := rest } }
    let both := u.bothTiles (s.phys lt) fun z i => z.takePlan i ⟨n, v, tag, s.tick⟩
    s.planArrival c = if u.ctxArmed (s.phys lt) n && (u.stageOf (s.phys lt)).plans.any fun p => p.ctx == n then
      both.satF (pgFCST c 0) F.FCST_CNT_REPLACED else both := by
  intro u both
  have hboth : u.bothTiles (s.phys lt) (fun z i => z.takePlan i ⟨n, v, tag, z.tick⟩) = both := by
    unfold both State.bothTiles
    simp only [State.takePlan_tick]
    rfl
  unfold State.planArrival
  simp only [h]
  rw [← hboth]
  rfl

theorem State.planArrival_new :
    let u : State := { s with fcst := SMap.put s.fcst c { s.fc c with plans := rest } }
    (∀ p ∈ (u.stageOf (s.phys lt)).plans, p.ctx ≠ n) ∨ u.ctxArmed (s.phys lt) n = false →
    s.planArrival c = u.bothTiles (s.phys lt) fun z i => z.takePlan i ⟨n, v, tag, s.tick⟩ := by
  intro u hnew
  refine (State.planArrival_first h).trans (if_neg ?_)
  rw [Bool.and_eq_true, List.any_eq_true]
  rintro ⟨harmed, p, hp, heq⟩
  rcases hnew with hnone | hfree
  · exact hnone p hp (beq_iff_eq.mp heq)
  · exact Bool.false_ne_true (hfree.symm.trans harmed)

theorem State.planArrival_replaces :
    let u : State := { s with fcst := SMap.put s.fcst c { s.fc c with plans := rest } }
    u.ctxArmed (s.phys lt) n = true → (∃ p ∈ (u.stageOf (s.phys lt)).plans, p.ctx = n) →
    s.planArrival c =
      (u.bothTiles (s.phys lt) fun z i => z.takePlan i ⟨n, v, tag, s.tick⟩).satF (pgFCST c 0) F.FCST_CNT_REPLACED := by
  intro u harmed hold
  obtain ⟨p, hp, heq⟩ := hold
  refine (State.planArrival_first h).trans (if_pos ?_)
  exact Bool.and_eq_true_iff.mpr ⟨harmed, List.any_eq_true.mpr ⟨p, hp, beq_iff_eq.mpr heq⟩⟩

end

/-! ### The end of the commit (R213) -/

/-- The last plan write has arrived: the launch ends with the outcome that its selection gave it, and MARGIN is that of one on time. -/
theorem State.launchEnd_committed {s : State} {c : Nat} {r : FRun} (hrun : (s.fc c).run = some r) (hplans : (s.fc c).plans = [])
    (hout : r.outcome = 1 ∨ r.outcome = 2) :
    let u := s.setF (pgJOB c r.launch.job) F.JOB_TIME_DUR (min 65535 r.dur)
    s.launchEnd c = (if r.outcome = 1 then u.setF (pgJOB c r.launch.job) F.JOB_TIME_MARGIN (min 65535 r.margin) else u).endRun c r
      r.outcome 0 r.launch.period := by
  intro u
  unfold State.launchEnd
  simp only [hrun]
  exact if_pos ⟨hout, hplans⟩

/-! ### The enabling of a job (R215, R216) -/

theorem State.jobCause_values (s : State) (c j : Nat) : s.jobCause c j ∈ [0, causeBAD_VALUE, 0x21] := by
  unfold State.jobCause
  dsimp only
  split
  · decide
  · split <;> decide

section
variable {s : State} {req c j v : Nat}

/-- A write of JOB_CTRL with EN over a job that is disabled: the other fields of the word are written, and then the job is enabled unless
there is a cause against it. -/
theorem State.wFCST_enable {w : Wr} {u : State} (hoff : s.flag (pgJOB c j) F.JOB_CTRL_EN = false) (hen : bit w.v 0 = true)
    (hput : s.put (pageJOB c j) w 0x40 [F.JOB_CTRL_EN] = (u, 0)) :
    s.wFCST (pageJOB c j) 0x40 w = if u.jobCause c j = 0 then ((u.setFlag (pgJOB c j) F.JOB_CTRL_EN true).jobIdle c j, 0)
      else (u, u.jobCause c j) := by
  have hbase : (pageJOB c j).base = pgJOB c j := rfl
  have hinst : (pageJOB c j).inst ≠ 0 := Nat.succ_ne_zero j
  unfold State.wFCST
  simp only [if_neg hinst, hbase, hoff, hen, hput, firstCause_zero, Bool.false_eq_true, if_false, if_true]
  rfl

/-- EN written to JOB_CTRL is what the page makes of it. -/
theorem exec_jobEnable {old cause : Nat} {x : State} (hold : s.wordAt (pgJOB c j + 0x40) = old) (hv : old - (old &&& 1) + 1 = v)
    (h : s.Writes (pageJOB c j) 0x40 req v)
    (hx : s.wFCST (pageJOB c j) 0x40 (s.wrOf (pageJOB c j) req v) = (x, cause)) (hc : cause ≠ causePRIV) :
    exec (.jobEnable req c j) s = .next (x.wrote (pageJOB c j) 0x40 req v cause) := by
  have hslots : ((pageJOB c j).slots 0x40).isSome = true := by rfl
  have hbus := h.plain rfl (cluPage_off_aligned c (0x010 + (j + 1))) (by decide) (by decide) hslots rfl hx hc
  refine congrArg Host.Outcome.next (Eq.trans ?_ hbus)
  rw [State.busWriteBits, hold, hv]
  rfl

/-- An effect that records no cause. -/
theorem eq_fst_zero {q : State × Nat} (h : q.2 = 0) : q = (q.1, 0) := Prod.ext rfl h

section
variable {u : State} {old : Nat} (hold : s.wordAt (pgJOB c j + 0x40) = old) (hv : old - (old &&& 1) + 1 = v)
  (h : s.Writes (pageJOB c j) 0x40 req v) (hoff : s.flag (pgJOB c j) F.JOB_CTRL_EN = false) (hen : bit v 0 = true)
  (hput : s.put (pageJOB c j) (s.wrOf (pageJOB c j) req v) 0x40 [F.JOB_CTRL_EN] = (u, 0))
include hold hv h hoff hen hput

theorem exec_jobEnable_enables (hnone : u.jobCause c j = 0) : exec (.jobEnable req c j) s =
    .next (((u.setFlag (pgJOB c j) F.JOB_CTRL_EN true).jobIdle c j).wrote (pageJOB c j) 0x40 req v) :=
  exec_jobEnable hold hv h ((State.wFCST_enable (w := s.wrOf (pageJOB c j) req v) hoff hen hput).trans (if_pos hnone)) (by decide)

theorem exec_jobEnable_refused (hsome : u.jobCause c j ≠ 0) :
    exec (.jobEnable req c j) s = .next (u.wrote (pageJOB c j) 0x40 req v (u.jobCause c j)) := by
  refine exec_jobEnable hold hv h ((State.wFCST_enable (w := s.wrOf (pageJOB c j) req v) hoff hen hput).trans (if_neg hsome)) fun hpriv => ?_
  have hvalues := u.jobCause_values c j
  rw [hpriv] at hvalues
  exact absurd hvalues (by decide)

end

end

end Sys2Proof.Machine
end

section
/-! SUPPORT. O39: the statement. -/

namespace Sys2Proof.Machine

/-- Settles O39: each stage of a launch by what it needs, a selection by the outcome that the foreseen tick of the commit gives, and the
enabling of a job by the cause against it. -/
theorem forecastLaunches : Obligations.ForecastLaunches := by
  unfold Obligations.ForecastLaunches
  refine ⟨?event, ?due, ?reload, ?start, ?stages, ?plans, ?ends, ?enable⟩
  case event =>
    intro s c j tok b u hsrc htok hen
    exact congrArg Host.Outcome.next (State.forecastLaunch_event hsrc htok hen)
  case due =>
    intro s c j at_ b u hsrc hdue hen
    exact congrArg Host.Outcome.next (State.forecastLaunch_reload hsrc hdue hen)
  case reload =>
    intro s t g j c b x ofs hst hj hen hsrc href hothers
    have hset := (State.launchesSet_alone hst hj hen hsrc href hothers).trans (State.launchSet_enabled hen hsrc href)
    exact ⟨fun hle => hset.trans (if_pos hle), fun hlt => hset.trans (if_neg (Nat.not_le.mpr hlt))⟩
  case start =>
    intro s c l rest hrun hqueue
    exact congrArg Host.Outcome.next (State.launchStart_idle hrun hqueue)
  case stages =>
    intro s c r x j cells runs n bank w hrun hout
    refine ⟨fun hx hstill => ?_, fun hbank hthaw => ⟨fun hgood => ?_, fun ue hue => ?_, fun hgood h1 hn hh hj => ?_, fun hgood hbad => ?_⟩,
      fun xs hx hranks => ?_, fun xs ranks bk hx hranks hbk hcosts => ?_, fun hqueue hgone => ?_,
      fun ranks bk costs hranks hbk hcosts harmed => ⟨fun h => ?_, fun h hre hper => ?_, fun h hlate => ?_⟩⟩
    · exact ⟨congrArg Host.Outcome.next (State.gatherDone_still hrun hout hx hstill true),
        congrArg Host.Outcome.next (State.gatherDone_still hrun hout hx hstill false)⟩
    · exact congrArg Host.Outcome.next (State.fetchDone_error hrun hout hbank hthaw hgood)
    · exact congrArg Host.Outcome.next (State.fetchDone_uncorrectable hrun hout hbank hthaw hue ue)
    · refine congrArg Host.Outcome.next (State.fetchDone_fetched hrun hout hbank hthaw hgood ?_)
      rintro (h | h | h | h)
      exacts [h h1, h hn, h hh, h hj]
    · exact congrArg Host.Outcome.next (State.fetchDone_header hrun hout hbank hthaw hgood hbad)
    · exact congrArg Host.Outcome.next (State.rankDone_gathered hrun hx hranks)
    · exact congrArg Host.Outcome.next (State.evaluateDone_fetched hrun hx hranks hbk hcosts)
    · exact congrArg Host.Outcome.next (State.selectDone_aborted hrun hout hqueue hgone)
    · exact congrArg Host.Outcome.next (State.selectDone_onTime hrun hout hranks hbk hcosts harmed h)
    · exact congrArg Host.Outcome.next (State.selectDone_retargeted hrun hout hranks hbk hcosts harmed h hre hper)
    · exact congrArg Host.Outcome.next (State.selectDone_late hrun hout hranks hbk hcosts harmed h hlate)
  case plans =>
    intro s c lt n v tag rest u t st both hplans
    exact ⟨fun hnone => congrArg Host.Outcome.next (State.planArrival_new hplans (.inl hnone)),
      fun hfree => congrArg Host.Outcome.next (State.planArrival_new hplans (.inr hfree)),
      fun harmed hold => congrArg Host.Outcome.next (State.planArrival_replaces hplans harmed hold),
      fun hlone harmed => (State.bothTiles_lone hlone _).trans (State.takePlan_armed harmed),
      fun hlone hfree => (State.bothTiles_lone hlone _).trans (State.takePlan_free hfree)⟩
  case ends =>
    intro s c r b u hrun hplans
    refine ⟨fun h1 => ?_, fun h2 => ?_⟩
    · have hend := State.launchEnd_committed hrun hplans (.inl h1)
      simp only [h1, if_true] at hend
      exact congrArg Host.Outcome.next hend
    · have hend := State.launchEnd_committed hrun hplans (.inr h2)
      simp only [h2] at hend
      exact congrArg Host.Outcome.next hend
  case enable =>
    intro s req c j
    exact fun h _ hoff hen hput => ⟨exec_jobEnable_enables rfl rfl h hoff hen (eq_fst_zero hput),
      exec_jobEnable_refused rfl rfl h hoff hen (eq_fst_zero hput)⟩

end Sys2Proof.Machine
end

section
/-! SUPPORT. O43: the source presented to a pair, what its acceptance takes from the controller, and the entry of the level's vector
(R244, R245, R278, R282). -/

namespace Sys2Proof.Machine

/-! ### The source presented (R244) -/

/-- A property of a fold over the numbers below `n`, from a step at each number. -/
theorem foldl_range {β : Type} {f : β → Nat → β} {P : Nat → β → Prop} {b : β} (hzero : P 0 b)
    (hstep : ∀ n b, P n b → P (n + 1) (f b n)) : ∀ n, P n ((List.range n).foldl f b)
  | 0 => hzero
  | n + 1 => by
    rw [List.range_succ, List.foldl_append]
    exact hstep n _ (foldl_range hzero hstep n)

/-- Source `l` has level `lv`, can be presented to pair `x`, and comes before each other such source below `n`, by its level or, at an equal
one, by its number. -/
structure State.LeadsBelow (s : State) (t x n lv l : Nat) : Prop where
  below : l < n
  presents : s.presentable t x l = true
  level : lv = s.getF (pgINTC t) (F.intcLevel l)
  least : ∀ m < n, s.presentable t x m = true →
    lv < s.getF (pgINTC t) (F.intcLevel m) ∨ (lv = s.getF (pgINTC t) (F.intcLevel m) ∧ l ≤ m)

/-- `best` is the first of the sources below `n` that can be presented to pair `x`, or there is none. -/
structure State.BestBelow (s : State) (t x n : Nat) (best : Option (Nat × Nat)) : Prop where
  absent : best = none → ∀ m < n, s.presentable t x m = false
  found : ∀ lv l, best = some (lv, l) → s.LeadsBelow t x n lv l

section
variable {s : State} {t x n : Nat}

/-- A source below `n + 1` that can be presented is `n` or lies below it. -/
theorem State.lt_of_presentable {m : Nat} (hm : m < n + 1) (hp : s.presentable t x m = true) (hn : s.presentable t x n = false) : m < n := by
  rcases Nat.lt_succ_iff_lt_or_eq.mp hm with hlt | rfl
  · exact hlt
  · exact absurd (hn.symm.trans hp) Bool.false_ne_true

theorem State.BestBelow.keep {best : Option (Nat × Nat)} (h : s.BestBelow t x n best) (hn : s.presentable t x n = false) :
    s.BestBelow t x (n + 1) best where
  absent hb m hm := Bool.eq_false_iff.mpr fun hp =>
    Bool.false_ne_true ((h.absent hb m (State.lt_of_presentable hm hp hn)).symm.trans hp)
  found lv l hb := by
    obtain ⟨hl, hpres, hlv, hmin⟩ := h.found lv l hb
    exact ⟨Nat.lt_succ_of_lt hl, hpres, hlv, fun m hm hp => hmin m (State.lt_of_presentable hm hp hn) hp⟩

/-- Source `n` leads where its level is below that of each earlier one. -/
theorem State.leadsBelow_last (hn : s.presentable t x n = true)
    (hmin : ∀ m < n, s.presentable t x m = true → s.getF (pgINTC t) (F.intcLevel n) < s.getF (pgINTC t) (F.intcLevel m)) :
    s.LeadsBelow t x (n + 1) (s.getF (pgINTC t) (F.intcLevel n)) n := by
  refine ⟨Nat.lt_succ_self n, hn, rfl, fun m hm hp => ?_⟩
  rcases Nat.lt_succ_iff_lt_or_eq.mp hm with hlt | rfl
  · exact .inl (hmin m hlt hp)
  · exact .inr ⟨rfl, Nat.le_refl m⟩

/-- A leading source stays before source `n` where that has no lower level. -/
theorem State.LeadsBelow.stays {lv l : Nat} (h : s.LeadsBelow t x n lv l) (hle : lv ≤ s.getF (pgINTC t) (F.intcLevel n)) :
    s.LeadsBelow t x (n + 1) lv l := by
  obtain ⟨hl, hpres, hlv, hmin⟩ := h
  refine ⟨Nat.lt_succ_of_lt hl, hpres, hlv, fun m hm hp => ?_⟩
  rcases Nat.lt_succ_iff_lt_or_eq.mp hm with hlt | rfl
  · exact hmin m hlt hp
  · omega

theorem State.LeadsBelow.best {lv l : Nat} (h : s.LeadsBelow t x n lv l) : s.BestBelow t x n (some (lv, l)) where
  absent hb := nomatch hb
  found _ _ hb := by
    cases hb
    exact h

end

/-- The better one of `best` and source `l`, if that can be presented. -/
def State.better (s : State) (t x : Nat) (best : Option (Nat × Nat)) (l : Nat) : Option (Nat × Nat) :=
  if s.presentable t x l then
    let lv := s.getF (pgINTC t) (F.intcLevel l)
    match best with
    | some (v, m) => if lv < v then some (lv, l) else some (v, m)
    | none => some (lv, l)
  else best

theorem State.presented_eq (s : State) (t x : Nat) : s.presented t x = (List.range 512).foldl (s.better t x) none := rfl

theorem State.BestBelow.better {s : State} {t x n : Nat} {best : Option (Nat × Nat)} (h : s.BestBelow t x n best) :
    s.BestBelow t x (n + 1) (s.better t x best n) := by
  unfold State.better
  split
  · next hn =>
    match best with
    | none => exact (State.leadsBelow_last hn fun m hm hp => absurd ((h.absent rfl m hm).symm.trans hp) Bool.false_ne_true).best
    | some (lv, l) =>
      have hlead := h.found lv l rfl
      dsimp only
      split
      · next hlt =>
        refine (State.leadsBelow_last hn fun m hm hp => ?_).best
        have := hlead.least m hm hp
        omega
      · next hge => exact (hlead.stays (Nat.not_lt.mp hge)).best
  · next hn => exact h.keep (Bool.eq_false_iff.mpr hn)

theorem State.foldl_better (s : State) (t x n : Nat) : s.BestBelow t x n ((List.range n).foldl (s.better t x) none) :=
  foldl_range (b := none) (P := s.BestBelow t x) ⟨fun _ m hm => absurd hm (Nat.not_lt_zero m), fun _ _ hb => nomatch hb⟩
    (fun _ _ h => h.better) n

theorem State.presented_best (s : State) (t x : Nat) : s.BestBelow t x 512 (s.presented t x) := by
  rw [State.presented_eq]
  exact s.foldl_better t x 512

/-! ### What an acceptance takes (R245, R249) -/

/-- INTC_TAKEN shows the source, and TAKESUM counts what is taken. -/
def State.takenShown (s : State) (t x lv l : Nat) : State :=
  let b := pgINTC t
  let f := s.freshOf t l
  ((((s.setF b (F.INTC_TAKEN_SRC x) l).setF b (F.INTC_TAKEN_LEVEL x) lv).setFlag b (F.INTC_TAKEN_SAT x) f.sat).setF b
    (F.INTC_TAKEN_COUNT x) f.cnt).incF b F.INTC_TAKESUM_TAKESUM f.cnt

/-- The note of a source's arrivals in this cycle is dropped. -/
def State.freshDropped (s : State) (t l : Nat) : State := { s with lath.int.fresh := SMap.erase s.lath.int.fresh (512 * t + l) }

theorem State.getF_freshDropped (s : State) (t l b : Nat) (f : Fld) : (s.freshDropped t l).getF b f = s.getF b f := rfl

/-- The count of a source that is no cascade is taken, and the arrivals of this cycle are counted as from 0. -/
def State.countTaken (s : State) (t x lv l : Nat) : State :=
  ((s.takenShown t x lv l).freshDropped t l).setF (pgINTC t) (F.intcCount l) (min 255 (s.freshOf t l).n)

/-- The arrivals lost in this cycle are those past the largest count that starts from 0. -/
def State.lossAgain (s : State) (t l : Nat) (f : Fresh) : State :=
  let b := pgINTC t
  if f.lost = f.n - 255 then s
  else (s.setF b F.INTC_SATLOST_SATLOST (s.getF b F.INTC_SATLOST_SATLOST + (f.n - 255) + 2 ^ 32 - f.lost)).setFbit b
    (F.INTC_SAT_SAT (l / 32)) (l % 32) (f.sat || decide (f.n - 255 ≠ 0))

theorem State.intcAccept_source {s : State} {t x lv l : Nat} (hl : l < 448 ∨ 464 ≤ l) :
    let u := (s.countTaken t x lv l).lossAgain t l (s.freshOf t l)
    s.intcAccept t x lv l = u.startHold (t * 8 + l / 64) (u.holdOf t (l / 64)) (pgINTC t) F.INTC_HSTAT_HOLDING (l / 64) := by
  have hcasc : (decide (448 ≤ l) && decide (l < 464)) = false := by
    rw [Bool.and_eq_false_iff, decide_eq_false_iff_not, decide_eq_false_iff_not]
    omega
  unfold State.intcAccept
  simp only [hcasc, Bool.false_eq_true, if_false]
  rfl

theorem State.getF_startHold_ne (s : State) {b b' : Nat} {f f' : Fld} (key units i : Nat) (h : fkey b' f' ≠ fkey b f) :
    (s.startHold key units b f i).getF b' f' = s.getF b' f' := by
  unfold State.startHold
  split
  · rfl
  · exact State.getF_setFbit_ne _ _ _ h

section
variable {s : State} {t x lv l : Nat}

theorem State.getF_lossAgain {f : Fld} (fr : Fresh) (hl : l < 512) (hlo : f.lo < 64) (hoff : f.off < 0x60 ∨ 0x400 ≤ f.off) :
    (s.lossAgain t l fr).getF (pgINTC t) f = s.getF (pgINTC t) f := by
  unfold State.lossAgain
  dsimp only
  split
  · rfl
  · rw [State.getF_setFbit_ne _ _ _ (Fld.key_ne (by simp only [F.INTC_SAT_SAT]; omega)),
      State.getF_setF_fld _ _ (by simp only [F.INTC_SATLOST_SATLOST]; omega)]

/-- The registers of INTC_TAKEN and the counts, after the acceptance of a source that is no cascade. -/
theorem State.getF_intcAccept {f : Fld} (hl : l < 512) (hsrc : l < 448 ∨ 464 ≤ l) (hlo : f.lo < 64)
    (hoff : f.off < 0x60 ∨ 0x400 ≤ f.off) : (s.intcAccept t x lv l).getF (pgINTC t) f = (s.countTaken t x lv l).getF (pgINTC t) f := by
  rw [State.intcAccept_source hsrc, State.getF_startHold_ne _ _ _ _ (Fld.key_ne (by simp only [F.INTC_HSTAT_HOLDING]; omega)),
    State.getF_lossAgain _ hl hlo hoff]

/-- A field of INTC_TAKEN is none of its neighbours and not TAKESUM. -/
theorem State.getF_takenShown (x : Nat) {f : Fld} (hoff : f.off = 0x48 + 4 * x) (hx : x < 2) (hlo : f.lo < 64) :
    (s.takenShown t x lv l).getF (pgINTC t) f =
      ((((s.setF (pgINTC t) (F.INTC_TAKEN_SRC x) l).setF (pgINTC t) (F.INTC_TAKEN_LEVEL x) lv).setFlag (pgINTC t) (F.INTC_TAKEN_SAT x)
        (s.freshOf t l).sat).setF (pgINTC t) (F.INTC_TAKEN_COUNT x) (s.freshOf t l).cnt).getF (pgINTC t) f :=
  State.getF_incF_ne _ _ (Fld.key_ne (by simp only [F.INTC_TAKESUM_TAKESUM]; omega))

theorem State.takenShown_shows (hx : x < 2) (hl : l < 512) (hlv : lv < 16) (hn : s.settledCount t l < 256) :
    let b := pgINTC t
    let u := s.takenShown t x lv l
    u.getF b (F.INTC_TAKEN_SRC x) = l ∧ u.getF b (F.INTC_TAKEN_LEVEL x) = lv ∧ u.getF b (F.INTC_TAKEN_COUNT x) = s.settledCount t l := by
  intro b u
  have hcount : ∀ (z : State) (f : Fld), f.off = 0x48 + 4 * x → f.lo < 16 → ∀ v,
      (z.setF b (F.INTC_TAKEN_COUNT x) v).getF b f = z.getF b f :=
    fun z f hoff hlo v => z.getF_setF_fld v (by simp only [F.INTC_TAKEN_COUNT]; omega)
  have hsat : ∀ (z : State) (f : Fld), f.off = 0x48 + 4 * x → f.lo < 13 → ∀ v,
      (z.setFlag b (F.INTC_TAKEN_SAT x) v).getF b f = z.getF b f :=
    fun z f hoff hlo v => z.getF_setFlag_fld v (by simp only [F.INTC_TAKEN_SAT]; omega)
  refine ⟨?_, ?_, ?_⟩
  · rw [State.getF_takenShown x rfl hx (by simp [F.INTC_TAKEN_SRC]), hcount _ (F.INTC_TAKEN_SRC x) rfl (by simp [F.INTC_TAKEN_SRC]),
      hsat _ (F.INTC_TAKEN_SRC x) rfl (by simp [F.INTC_TAKEN_SRC]),
      State.getF_setF_fld _ _ (by simp [F.INTC_TAKEN_SRC, F.INTC_TAKEN_LEVEL]), State.getF_setF]
    exact Nat.mod_eq_of_lt hl
  · rw [State.getF_takenShown x rfl hx (by simp [F.INTC_TAKEN_LEVEL]),
      hcount _ (F.INTC_TAKEN_LEVEL x) rfl (by simp [F.INTC_TAKEN_LEVEL]),
      hsat _ (F.INTC_TAKEN_LEVEL x) rfl (by simp [F.INTC_TAKEN_LEVEL]), State.getF_setF]
    exact Nat.mod_eq_of_lt hlv
  · rw [State.getF_takenShown x rfl hx (by simp [F.INTC_TAKEN_COUNT]), State.getF_setF]
    exact Nat.mod_eq_of_lt hn

theorem State.countTaken_shows (hx : x < 2) (hl : l < 512) (hlv : lv < 16) (hn : s.settledCount t l < 256) :
    let b := pgINTC t
    let u := s.countTaken t x lv l
    u.getF b (F.INTC_TAKEN_SRC x) = l ∧ u.getF b (F.INTC_TAKEN_LEVEL x) = lv ∧ u.getF b (F.INTC_TAKEN_COUNT x) = s.settledCount t l ∧
      u.getF b (F.intcCount l) = min 255 (s.freshOf t l).n := by
  intro b u
  have htaken : ∀ f : Fld, f.off = 0x48 + 4 * x → f.lo < 64 → u.getF b f = (s.takenShown t x lv l).getF b f := fun f hoff hlo =>
    (State.getF_setF_fld _ _ (by simp only [F.intcCount]; omega)).trans (State.getF_freshDropped ..)
  obtain ⟨hsrc, hlevel, hcount⟩ := s.takenShown_shows (t := t) hx hl hlv hn
  refine ⟨(htaken _ rfl (by simp [F.INTC_TAKEN_SRC])).trans hsrc, (htaken _ rfl (by simp [F.INTC_TAKEN_LEVEL])).trans hlevel,
    (htaken _ rfl (by simp [F.INTC_TAKEN_COUNT])).trans hcount, ?_⟩
  have hfits : min 255 (s.freshOf t l).n < 2 ^ 8 := (Nat.min_le_left _ _).trans_lt (by decide)
  exact (State.getF_setF _ _ _ _).trans (Nat.mod_eq_of_lt hfits)

end

/-- What INTC_TAKEN and the source's count show after the acceptance of a source that is no cascade. -/
theorem State.intcAccept_shows {s : State} {t x lv l : Nat} (hx : x < 2) (hl : l < 512) (hsrc : l < 448 ∨ 464 ≤ l) (hlv : lv < 16)
    (hn : s.settledCount t l < 256) :
    let b := pgINTC t
    let u := s.intcAccept t x lv l
    u.getF b (F.INTC_TAKEN_SRC x) = l ∧ u.getF b (F.INTC_TAKEN_LEVEL x) = lv ∧ u.getF b (F.INTC_TAKEN_COUNT x) = s.settledCount t l ∧
      u.getF b (F.intcCount l) = min 255 (s.freshOf t l).n := by
  intro b u
  have htaken : ∀ f : Fld, f.lo < 64 → f.off < 0x60 ∨ 0x400 ≤ f.off → u.getF b f = (s.countTaken t x lv l).getF b f :=
    fun f hlo hoff => State.getF_intcAccept hl hsrc hlo hoff
  rw [htaken (F.INTC_TAKEN_SRC x) (by simp [F.INTC_TAKEN_SRC]) (.inl (by simp only [F.INTC_TAKEN_SRC]; omega)),
    htaken (F.INTC_TAKEN_LEVEL x) (by simp [F.INTC_TAKEN_LEVEL]) (.inl (by simp only [F.INTC_TAKEN_LEVEL]; omega)),
    htaken (F.INTC_TAKEN_COUNT x) (by simp [F.INTC_TAKEN_COUNT]) (.inl (by simp only [F.INTC_TAKEN_COUNT]; omega)),
    htaken (F.intcCount l) (by simp only [F.intcCount]; omega) (.inr (Nat.le_add_right _ _))]
  exact State.countTaken_shows hx hl hlv hn

/-! ### The entry of a level's vector (R278, R282) -/

theorem setBits_mod (x lo w v : Nat) : setBits x lo w v % 2 ^ lo = x % 2 ^ lo := by
  have hle : 2 ^ lo * bits x lo w ≤ x :=
    (Nat.mul_le_mul_left _ (Nat.mod_le _ _)).trans (Nat.mul_div_le x (2 ^ lo))
  rw [setBits, Nat.add_mul_mod_self_left, Nat.sub_mul_mod hle]

/-- Bits below those that are replaced. -/
theorem bits_setBits_below {x lo w v a n : Nat} (h : a + n ≤ lo) : bits (setBits x lo w v) a n = bits x a n := by
  rw [← bits_mod _ h, setBits_mod, bits_mod _ h]

theorem bit_setBits_below {x lo w v a : Nat} (h : a + 1 ≤ lo) : bit (setBits x lo w v) a = bit x a :=
  congrArg (· == 1) (bits_setBits_below (n := 1) h)

theorem bit_setBit_true (x i : Nat) : bit (setBit x i true) i = true :=
  beq_iff_eq.mpr (bits_setBits x i 1 1)

/-- The PSW in the vector of level `lv`: supervisor mode, EXL, and the level as IPL. -/
def levelPsw (psw lv : Nat) : Nat := setBits (setBit (setBits psw 0 2 1) 3 true) 5 5 lv

theorem levelPsw_shows (psw : Nat) {lv : Nat} (h : lv < 32) :
    bit (levelPsw psw lv) 3 = true ∧ bits (levelPsw psw lv) 0 2 = 1 ∧ bits (levelPsw psw lv) 5 5 = lv := by
  refine ⟨?_, ?_, ?_⟩
  · rw [levelPsw, bit_setBits_below (by decide), bit_setBit_true]
  · rw [levelPsw, bits_setBits_below (by decide), setBit, bits_setBits_below (by decide), bits_setBits]
    rfl
  · exact (bits_setBits _ 5 5 lv).trans (Nat.mod_eq_of_lt h)

theorem Regs.sysr_setSys (r : Regs) (n v : Nat) : (r.setSys n v).sysr n = v % 2 ^ 32 := SMap.getD_put_same _ _ _ _

theorem Regs.sysr_setSys_ne (r : Regs) {n m : Nat} (v : Nat) (h : m ≠ n) : (r.setSys n v).sysr m = r.sysr m :=
  SMap.getD_put_other _ _ _ h

theorem Regs.sys48_setSys48 (r : Regs) (n v : Nat) : (r.setSys48 n v).sys48 n = v % 2 ^ 48 := by
  rw [Regs.sys48, Regs.setSys48, Regs.sysr_setSys, Regs.sysr_setSys_ne _ _ (Nat.succ_ne_self n).symm, Regs.sysr_setSys]
  simp only [bits]
  omega

/-- The registers of a pair that enters the vector of level `lv`: EPC, EPSW and CAUSE hold where it comes from. -/
def Regs.levelEntry (r : Regs) (lv : Nat) : Regs :=
  let saved := ((r.setSys48 0x00 r.pc).setSys 0x02 r.psw).setSys 0x03 { vec := 0x100 + 16 * lv : Cause }.word
  { saved with psw := levelPsw saved.psw lv, pc := 0x100 + 16 * lv }

theorem State.enterLevel_regs (s : State) (p lv : Nat) : ((s.enterLevel p lv).pair p).r = (s.pair p).drain.r.levelEntry lv := by
  have hpair : (s.enterLevel p lv).pair p =
      { (s.pair p).drain with r := (s.pair p).drain.r.levelEntry lv, inLr := false } := State.pair_setPair _ _ _
  rw [hpair]

theorem Regs.levelEntry_saves (r : Regs) {lv : Nat} (h : lv < 32) : (r.levelEntry lv).sys48 0x00 = r.pc % 2 ^ 48 ∧
    (r.levelEntry lv).sysr 0x02 = r.psw % 2 ^ 32 ∧ (r.levelEntry lv).sysr 0x03 = 16 + lv := by
  let saved := ((r.setSys48 0x00 r.pc).setSys 0x02 r.psw).setSys 0x03 { vec := 0x100 + 16 * lv : Cause }.word
  have hsys : ∀ n, (r.levelEntry lv).sysr n = saved.sysr n := fun _ => rfl
  have hlow : ∀ n < 2, saved.sysr n = (r.setSys48 0x00 r.pc).sysr n := fun n hn => by
    rw [Regs.sysr_setSys_ne _ _ (by omega), Regs.sysr_setSys_ne _ _ (by omega)]
  refine ⟨?_, ?_, ?_⟩
  · rw [← r.sys48_setSys48 0x00 r.pc, Regs.sys48, Regs.sys48, hsys, hsys, hlow _ (by decide), hlow _ (by decide)]
  · rw [hsys, Regs.sysr_setSys_ne _ _ (by decide), Regs.sysr_setSys]
  · rw [hsys, Regs.sysr_setSys]
    simp [Cause.word]
    omega

theorem Regs.levelEntry_shows (r : Regs) {lv : Nat} (h : lv < 32) :
    (r.levelEntry lv).exl = true ∧ (r.levelEntry lv).mode = 1 ∧ (r.levelEntry lv).ipl = lv := levelPsw_shows r.psw h

theorem Regs.levelEntry_general (r : Regs) (lv : Nat) : (r.levelEntry lv).g = r.g := rfl

/-! ### The acceptance (R282, R283) -/

section
variable {s : State} {p lv src : Nat} (hreplay : (s.pair p).replay = []) (hsrc : s.presented (p / 2) (p % 2) = some (lv, src))
  (hlv : lv < (s.pair p).r.ipl)
include hreplay hsrc hlv

theorem State.acceptInterrupt_takes (hie : (s.pair p).r.ie = true) (hexl : (s.pair p).r.exl = false) (hmcl : (s.pair p).r.mcl = false)
    (halive : s.pairAlive p = true) (hbound : s.atBoundary p = true) (hhalt : s.halted p = false) (hbrk : (s.pair p).brkDue = false)
    (hreq : s.flag (pgCORE p) F.CORE_DCTL_HALT_REQ = false) (hdbg : (s.pair p).dbgDue = none) :
    let u := s.intcAccept (p / 2) (p % 2) lv src
    let b := pgINTC (p / 2)
    s.acceptInterrupt p = (u.logAccess p ⟨3, (s.pair p).groups, 0, 512 * lv + src,
      u.getF b (F.INTC_TAKEN_COUNT (p % 2)) + 256 * u.getF b (F.INTC_TAKEN_SAT (p % 2)), false⟩).enterLevel p lv := by
  unfold State.acceptInterrupt
  simp only [hreplay, hsrc, ge_iff_le, if_neg (Nat.not_le.mpr hlv), hie, hexl, hmcl, halive, hbound, hhalt, hbrk, hreq, hdbg]
  rfl

theorem State.acceptInterrupt_endsWait (hie : (s.pair p).r.ie = false) (hwait : s.flag (pgCORE p) F.CORE_STAT_WAITING = true) :
    s.acceptInterrupt p = s.setFlag (pgCORE p) F.CORE_STAT_WAITING false := by
  unfold State.acceptInterrupt
  simp only [hreplay, hsrc, ge_iff_le, if_neg (Nat.not_le.mpr hlv), hie, hwait, Bool.false_and, Bool.false_eq_true, if_false, if_true]

end

/-- The acceptance command, where EXL is set by it and where it is not. -/
theorem exec_interruptAccept_entered {s u : State} {p : Nat} (hu : s.acceptInterrupt p = u) (hexl : (s.pair p).r.exl = false)
    (hset : (u.pair p).r.exl = true) : exec (.interruptAccept p) s = .next (u.stepped p) := by
  refine congrArg Host.Outcome.next ?_
  dsimp only
  rw [hu, hset, hexl]
  rfl

theorem exec_interruptAccept_same {s u : State} {p : Nat} (hu : s.acceptInterrupt p = u) (hpair : u.pair p = s.pair p) :
    exec (.interruptAccept p) s = .next u := by
  refine congrArg Host.Outcome.next ?_
  dsimp only
  rw [hu, hpair, Bool.and_not_self]
  rfl

/-- The claim of the source that DINTC gives a requester (R250). -/
theorem State.dintcClaim_candidate {s : State} {req k : Nat} (hreq : req < 80) (hk : s.dintcCandidate req = some k) :
    (s.dintcClaim req).1 = 20480 + k + 2 ^ 16 * s.getF pgDINTC (F.dintcCount k) +
      2 ^ 24 * (s.fbit pgDINTC (F.DINTC_SAT_SAT (k / 32)) (k % 32)).toNat + 2 ^ 31 := by
  unfold State.dintcClaim
  simp only [if_pos hreq, hk]

/-- Settles O43: the acceptance by what lets the pair accept, the vector's entry by its registers, the controller's part field by field,
the presented source by the fold that finds it, and the claim by its candidate. -/
theorem interruptAcceptance : Obligations.InterruptAcceptance := by
  unfold Obligations.InterruptAcceptance
  refine ⟨?accept, ?entry, ?claimed, ?presented, ?claim⟩
  case accept =>
    intro s p lv src x u b ret hreplay hsrc hlv
    refine ⟨fun hie hexl hmcl halive hbound hhalt hbrk hreq hdbg hlt => ?_, fun hie hwait => ?_⟩
    · refine exec_interruptAccept_entered (State.acceptInterrupt_takes hreplay hsrc hlv hie hexl hmcl halive hbound hhalt hbrk hreq hdbg)
        hexl ?_
      rw [State.enterLevel_regs]
      exact (Regs.levelEntry_shows _ hlt).1
    · exact exec_interruptAccept_same (State.acceptInterrupt_endsWait hreplay hsrc hlv hie hwait) rfl
  case entry =>
    intro s p lv hlt x r
    have hr : r = x.r.levelEntry lv := s.enterLevel_regs p lv
    obtain ⟨hexl, hmode, hipl⟩ := x.r.levelEntry_shows hlt
    obtain ⟨hepc, hepsw, hcause⟩ := x.r.levelEntry_saves hlt
    rw [hr]
    exact ⟨rfl, hexl, hmode, hipl, hepc, hepsw, hcause, x.r.levelEntry_general lv⟩
  case claimed =>
    intro s t x lv src _ hx hsrc hreal hlv b u n hn
    exact State.intcAccept_shows hx hsrc hreal hlv hn
  case presented =>
    intro s t x lv src hsrc
    obtain ⟨hlt, hpres, hlv, hmin⟩ := (s.presented_best t x).found lv src hsrc
    exact ⟨hlt, hpres, hlv, hmin⟩
  case claim =>
    intro s req k hreq hk
    exact State.dintcClaim_candidate hreq hk

end Sys2Proof.Machine
end

section
/-! SUPPORT. O42: a lath's production taken, and its consumers' inputs (R225, R228, R229). -/

namespace Sys2Proof.Machine

/-! ### Laths (R229, R230) -/

theorem State.lathTake_production {s : State} {l prod : Nat} {tok : Tok} {rest : List (Nat × Tok)} (hstill : s.lathStill l = false)
    (htake : takeFirst prod s.tick (s.lathOf l).waiting = some (tok, rest)) :
    s.lathTake l prod = (s.lathOf l).routes.foldl
      (fun (z : State) r => if bit (z.rowNow l r.1 r.2) prod then z.deliver l r.1 tok else z)
      (s.updLath l fun L => { L with waiting := rest }) := by
  unfold State.lathTake
  simp only [hstill, Bool.false_eq_true, if_false, htake]

/-- The row of an input behind a COMMIT: in the cycle of the COMMIT the lath uses the one before it. -/
theorem State.rowNow_committed {s : State} {l i c old : Nat} (h : SMap.get? (s.lathOf l).was i = some (c, old)) (row : Nat) :
    s.rowNow l i row = if s.tick / lathPeriod l = c then old else row := by
  unfold State.rowNow
  simp only [h, eq_comm]

/-! ### The consumer behind an input (R225, R228) -/

section
variable {s : State} {l i : Nat} {tok : Tok} (htok : s.headTok l i = some tok) (hstill : s.lathStill l = false)
include htok hstill

/-- An arrival that its consumer may take: a QUEUED input gives one in each cycle. -/
theorem State.consume_free (hkind : cinKind l i ≠ 3) (htook : cinKind l i = 0 → s.tookNow l i = false) :
    s.consume l i = if l < 64 then s.consumeTile l i tok else if l < 72 then s.consumeClu (l - 64) i tok else s.consumeDev i tok := by
  have hfree : (cinKind l i == 0 && s.tookNow l i) = false := by
    rw [Bool.and_eq_false_imp, beq_iff_eq]
    exact htook
  unfold State.consume
  simp only [htok]
  exact if_neg (by simp [hkind, hstill, hfree])

/-- The inputs of a tile's lath from 112 on are QUEUED. -/
theorem State.consume_tile (hl : l < 64) (hi : i < 160 ∨ (176 ≤ i ∧ i < 192)) (htook : 112 ≤ i → s.tookNow l i = false) :
    s.consume l i = s.consumeTile l i tok := by
  have hkind : cinKind l i ≠ 3 := by
    rw [cinKind, if_pos hl]
    split_ifs <;> omega
  have hqueued : cinKind l i = 0 → 112 ≤ i := fun h => by
    rw [cinKind, if_pos hl] at h
    split_ifs at h <;> omega
  rw [State.consume_free htok hstill hkind fun h => htook (hqueued h), if_pos hl]

/-- The inputs of a cluster's lath outside 128 to 175 are QUEUED. -/
theorem State.consume_cluster (hl : 64 ≤ l) (hl' : l < 72) (hi : i < 216) (htook : i < 128 ∨ 176 ≤ i → s.tookNow l i = false) :
    s.consume l i = s.consumeClu (l - 64) i tok := by
  have hkind : cinKind l i ≠ 3 := by
    rw [cinKind, if_neg (Nat.not_lt.mpr hl), if_pos hl']
    split_ifs <;> omega
  have hqueued : cinKind l i = 0 → i < 128 ∨ 176 ≤ i := fun h => by
    rw [cinKind, if_neg (Nat.not_lt.mpr hl), if_pos hl'] at h
    split_ifs at h <;> omega
  rw [State.consume_free htok hstill hkind fun h => htook (hqueued h), if_neg (Nat.not_lt.mpr hl), if_pos hl']

end

theorem State.consume_device {s : State} {i : Nat} {tok : Tok} (htok : s.headTok lathDev i = some tok)
    (hstill : s.lathStill lathDev = false) (hi : i < 48) (htook : s.tookNow lathDev i = false) :
    s.consume lathDev i = s.consumeDev i tok := by
  have hkind : cinKind lathDev i = 0 := by rw [cinKind, if_neg (by decide), if_neg (by decide), if_pos hi]
  rw [State.consume_free htok hstill (by rw [hkind]; decide) fun _ => htook, if_neg (by decide), if_neg (by decide)]

/-! ### Inputs that may find their consumer busy -/

section
variable {s : State} {l i t : Nat} {tok : Tok}

theorem State.linkInput_free (h : s.linkBusy l i = false) : s.linkInput l i tok = (s.tookOne l i).passLink l i tok :=
  if_neg (by simp [h])

theorem State.interruptInput_free {src : Nat} (h : s.doorbellWaits src = false) :
    s.interruptInput l i src = (s.tookOne l i).arrive src := if_neg (by simp [h])

/-- An event at the start input of a timer that is not enabled. -/
theorem State.timerInput_starts {n : Nat} (hi : 64 + n = i) (hen : s.flag (pgTIMR t) (F.TMR_CTRL_EN n) = false)
    (htook : s.tookNow (lathTile t) i = false) : s.timerInput t n = (s.tookOne (lathTile t) i).timerStart t n := by
  subst hi
  exact if_neg (by simp [hen, htook])

theorem State.timerInput_overruns {n : Nat} (hi : 64 + n = i)
    (h : s.flag (pgTIMR t) (F.TMR_CTRL_EN n) = true ∨ s.tookNow (lathTile t) i = true) :
    s.timerInput t n = s.overranOne (lathTile t) i := by
  subst hi
  exact State.timerInput_busy h

/-- A START event at a channel that is free. -/
theorem State.dmaInput_free {n : Nat} (hi : 112 + n = i) (hstate : s.chState t n = 0 ∨ s.chState t n = 5) (hheld : s.dmaHeld t n = false) :
    let r := (s.tookOne (lathTile t) i).dmaStart t n
    s.dmaInput t n = if r.2 = 0 then r.1
      else r.1.recordErr (pgDMAC t n) r.2 ⟨reqDma t, pgDMAC t n + (F.CH_CMD_CMD (n % 8)).off, 4, true, 1⟩ := by
  subst hi
  refine if_neg ?_
  rintro (⟨h0, h5⟩ | h)
  · exact hstate.elim h0 h5
  · exact Bool.false_ne_true (hheld.symm.trans h)

section
variable {j : Nat} (hj : (i - 80) / 2 = j)
include hj

/-- An event at a SYNC input, by what a load that waited has left. -/
theorem State.syncInput_free (hbusy : (s.lateLoads t j).syncBusy t j = false) (htook : (s.lateLoads t j).tookNow (lathTile t) i = false) :
    s.syncInput t i = ((s.lateLoads t j).tookOne (lathTile t) i).syncEvent t j (i % 2) := by
  subst hj
  unfold State.syncInput
  simp only [hbusy, htook, Bool.or_self, Bool.false_eq_true, if_false]

theorem State.syncInput_busy (h : (s.lateLoads t j).syncBusy t j = true ∨ (s.lateLoads t j).tookNow (lathTile t) i = true) :
    s.syncInput t i = (s.lateLoads t j).overranOne (lathTile t) i := by
  subst hj
  unfold State.syncInput
  simp only [Bool.or_eq_true, h, if_true]

end

end

end Sys2Proof.Machine
end

section
/-! SUPPORT. O42: the consumers of each lath by the number of the input (R225, R227, R228). -/

namespace Sys2Proof.Machine

/-! ### The inputs of a tile's lath -/

section
variable {s : State} {t i : Nat} {tok : Tok}

theorem State.consumeTile_trigger (hi : i < 64) :
    s.consumeTile t i tok = (s.tookOne (lathTile t) i).triggerAll t 3 i [0, s.count % 2 ^ 32] s.tick := if_pos hi

theorem State.consumeTile_timer (hlo : 64 ≤ i) (hhi : i < 80) : s.consumeTile t i tok = s.timerInput t (i - 64) := by
  rw [State.consumeTile, if_neg (by omega), if_pos hhi]

theorem State.consumeTile_sync (hlo : 80 ≤ i) (hhi : i < 112) : s.consumeTile t i tok = s.syncInput t i := by
  rw [State.consumeTile, if_neg (by omega), if_neg (by omega), if_pos hhi]

theorem State.consumeTile_dma (hlo : 112 ≤ i) (hhi : i < 144) : s.consumeTile t i tok = s.dmaInput t (i - 112) := by
  rw [State.consumeTile, if_neg (by omega), if_neg (by omega), if_neg (by omega), if_pos hhi]

theorem State.consumeTile_link (hlo : 144 ≤ i) (hhi : i < 160) : s.consumeTile t i tok = s.linkInput (lathTile t) i tok := by
  rw [State.consumeTile, if_neg (by omega), if_neg (by omega), if_neg (by omega), if_neg (by omega), if_pos hhi]

theorem State.consumeTile_interrupt (hlo : 176 ≤ i) :
    s.consumeTile t i tok = s.interruptInput (lathTile t) i (512 * t + 384 + (i - 176)) := by
  rw [State.consumeTile, if_neg (by omega), if_neg (by omega), if_neg (by omega), if_neg (by omega), if_neg (by omega)]

end

theorem exec_consumerTake_tile {s z : State} {l i : Nat} {tok : Tok} (htok : s.headTok l i = some tok) (hstill : s.lathStill l = false)
    (hl : l < 64) (hi : i < 160 ∨ (176 ≤ i ∧ i < 192)) (htook : 112 ≤ i → s.tookNow l i = false) (hz : s.consumeTile l i tok = z) :
    exec (.consumerTake l i) s = .next z :=
  congrArg Host.Outcome.next ((State.consume_tile htok hstill hl hi htook).trans hz)

/-! ### The inputs of a cluster's lath -/

section
variable {s : State} {c i : Nat} {tok : Tok}

theorem State.consumeClu_link (hi : i < 128 ∨ (192 ≤ i ∧ i < 200)) : s.consumeClu c i tok = s.linkInput (lathClu c) i tok := by
  rcases hi with hi | ⟨hlo, hhi⟩
  · exact if_pos hi
  · rw [State.consumeClu, if_neg (by omega), if_neg (by omega), if_neg (by omega), if_neg (by omega), if_neg (by omega),
      if_neg (by omega), if_pos hhi]

theorem State.consumeClu_adc (hlo : 128 ≤ i) (hhi : i < 144) : s.consumeClu c i tok = s.adcEvent (16 * c + (i - 128)) := by
  rw [State.consumeClu, if_neg (by omega), if_pos hhi]

theorem State.consumeClu_threshold (hlo : 144 ≤ i) (hhi : i < 160) :
    s.consumeClu c i tok = ((s.tookOne (lathClu c) i).thrLoad (16 * c + (i - 144))).fcstAbort c := by
  rw [State.consumeClu, if_neg (by omega), if_neg (by omega), if_pos hhi]

theorem State.consumeClu_launch (hlo : 160 ≤ i) (hhi : i < 175) (hsrc : s.flag (pgJOB c (i - 160)) F.JOB_CTRL_LAUNCH_SRC = false) :
    s.consumeClu c i tok = s.tookOne (lathClu c) i := by
  rw [State.consumeClu, if_neg (by omega), if_neg (by omega), if_neg (by omega), if_pos hhi, if_neg (by simp [hsrc])]

theorem State.consumeClu_gpio (hlo : 176 ≤ i) (hhi : i < 192) :
    s.consumeClu c i tok = (s.tookOne (lathClu c) i).gpioAction (16 * c + (i - 176)) := by
  rw [State.consumeClu, if_neg (by omega), if_neg (by omega), if_neg (by omega), if_neg (by omega), if_neg (by omega), if_pos hhi]

theorem State.consumeClu_interrupt (hlo : 200 ≤ i) :
    s.consumeClu c i tok = s.interruptInput (lathClu c) i (20480 + 128 * c + 88 + (i - 200)) := by
  rw [State.consumeClu, if_neg (by omega), if_neg (by omega), if_neg (by omega), if_neg (by omega), if_neg (by omega),
    if_neg (by omega), if_neg (by omega)]

end

theorem exec_consumerTake_cluster {s z : State} {c i : Nat} {tok : Tok} (htok : s.headTok (lathClu c) i = some tok)
    (hstill : s.lathStill (lathClu c) = false) (hlo : 64 ≤ lathClu c) (hhi : lathClu c < 72) (hi : i < 216)
    (htook : i < 128 ∨ 176 ≤ i → s.tookNow (lathClu c) i = false) (hz : s.consumeClu c i tok = z) :
    exec (.consumerTake (lathClu c) i) s = .next z := by
  have hclu : lathClu c - 64 = c := Nat.add_sub_cancel_left 64 c
  have hconsume := State.consume_cluster htok hstill hlo hhi hi htook
  rw [hclu, hz] at hconsume
  exact congrArg Host.Outcome.next hconsume

/-! ### The inputs of the device's lath -/

section
variable {s : State} {i : Nat} {tok : Tok}

theorem State.consumeDev_link (hi : i < 32) : s.consumeDev i tok = s.linkInput lathDev i tok := if_pos hi

/-- The group link's inputs: an event that came over the link is dropped, another is sent where the group is on (R235). -/
theorem State.consumeDev_group (hlo : 32 ≤ i) (hhi : i < 40) : let u := s.tookOne lathDev i
    s.consumeDev i tok = if tok.mark then u.dropEvent lathDev tok else if u.grpOn then u.grpSendAll 7 [i - 32] else u := by
  intro u
  rw [State.consumeDev, if_neg (by omega), if_pos hhi]

theorem State.consumeDev_interrupt (hlo : 40 ≤ i) : s.consumeDev i tok = s.interruptInput lathDev i (21248 + (i - 40)) := by
  rw [State.consumeDev, if_neg (by omega), if_neg (by omega)]

end

theorem exec_consumerTake_device {s z : State} {i : Nat} {tok : Tok} (htok : s.headTok lathDev i = some tok)
    (hstill : s.lathStill lathDev = false) (htook : s.tookNow lathDev i = false) (hi : i < 48) (hz : s.consumeDev i tok = z) :
    exec (.consumerTake lathDev i) s = .next z :=
  congrArg Host.Outcome.next ((State.consume_device htok hstill hi htook).trans hz)

/-! ### GPIO (R238, R239) -/

section
variable {x : State} {pin : Nat}

theorem State.gpioSample_unsettled (h : x.gpioSettled pin = false) : x.gpioSample pin = x := if_pos (by simp [h])

/-- The filter accepts a new level, and an edge that EDGE selects is produced. -/
theorem State.gpioSample_accepts (hruns : x.gpioRuns pin = true) (hnew : x.fbit (pgGPIO (pin / 16)) F.GPIO_IN_IN (pin % 16) ≠ x.gpioLevel pin)
    (hset : x.gpioSettled pin = true) :
    let u := x.setFbit (pgGPIO (pin / 16)) F.GPIO_IN_IN (pin % 16) (x.gpioLevel pin)
    x.gpioSample pin = if u.gpioSelects pin (x.gpioLevel pin) then u.gpioProduce pin else u :=
  if_neg (by simp [hruns, hnew, hset])

end

/-- An edge that EDGE selects, of a pin whose island is stopped and whose pads have their power, is latched and wakes the island. -/
theorem exec_gpioLatchedEdge {s : State} {pin : Nat} {level : Bool} :
    let x := s.gpioAt pin level
    let n := SMap.getD x.lath.gpio.alat pin 0
    let v := x.requestWake (cluIsland (pin / 16) 0)
    x.isleStopped (cluIsland (pin / 16) 0) = true → x.domOn (89 + 10 * (pin / 16)) = true →
    x.gpioSelects pin (x.gpioLevel pin) = true → exec (.gpioLatchedEdge pin level) s =
      .next (if n < 15 then { v with lath.gpio.alat := SMap.put v.lath.gpio.alat pin (n + 1) }
        else v.setFbit (pgGPIO (pin / 16)) F.GPIO_ALAT_ALAT_OVF (pin % 16) true) := by
  intro x n v hstop hon hsel
  exact congrArg Host.Outcome.next (if_neg (by simp [x, hstop, hon, hsel]))

/-- One run of a pin's action input. -/
theorem exec_gpioOutputAction {s : State} {pin : Nat} {tok : Tok} (hpin : pin < 128)
    (htok : s.headTok (lathClu (pin / 16)) (176 + pin % 16) = some tok) (hstill : s.lathStill (lathClu (pin / 16)) = false)
    (htook : s.tookNow (lathClu (pin / 16)) (176 + pin % 16) = false) :
    exec (.gpioOutputAction pin) s = .next ((s.tookOne (lathClu (pin / 16)) (176 + pin % 16)).gpioAction pin) := by
  have hpins : 16 * (pin / 16) + (176 + pin % 16 - 176) = pin := by omega
  have hz := State.consumeClu_gpio (s := s) (c := pin / 16) (i := 176 + pin % 16) (tok := tok) (by omega) (by omega)
  rw [hpins] at hz
  exact exec_consumerTake_cluster htok hstill (Nat.le_add_right 64 _) (by unfold lathClu; omega) (by omega) (fun _ => htook) hz

/-! The output of a pin by the action that ACT gives it. -/

section
variable {u : State} {pin : Nat}

theorem State.gpioAction_toggles (h : u.getF (pgGPIO (pin / 16)) (F.GPIO_CTRL_ACT (pin % 16)) = 0) : u.gpioAction pin =
    u.setFbit (pgGPIO (pin / 16)) F.GPIO_OUT_OUT (pin % 16) (!u.fbit (pgGPIO (pin / 16)) F.GPIO_OUT_OUT (pin % 16)) := by
  unfold State.gpioAction
  simp only [h]

theorem State.gpioAction_sets (h : u.getF (pgGPIO (pin / 16)) (F.GPIO_CTRL_ACT (pin % 16)) = 1) :
    u.gpioAction pin = u.setFbit (pgGPIO (pin / 16)) F.GPIO_OUT_OUT (pin % 16) true := by
  unfold State.gpioAction
  simp only [h]

theorem State.gpioAction_clears (h : u.getF (pgGPIO (pin / 16)) (F.GPIO_CTRL_ACT (pin % 16)) = 2) :
    u.gpioAction pin = u.setFbit (pgGPIO (pin / 16)) F.GPIO_OUT_OUT (pin % 16) false := by
  unfold State.gpioAction
  simp only [h]

end

end Sys2Proof.Machine
end

section
/-! SUPPORT. O42: the registers of the laths and of the interrupt controllers (R229 to R232, R241, R247, R250). -/

namespace Sys2Proof.Machine

/-! ### The page of a lath -/

theorem pageLATH_base (l k : Nat) : (pageLATH l k).base = lathPage l k := by
  unfold pageLATH lathPage
  split_ifs <;> rfl

theorem pageLATH_lath {l : Nat} (h : l < 73) (k : Nat) : (pageLATH l k).lath = l := by
  unfold pageLATH Page.lath
  split_ifs <;> dsimp only <;> omega

theorem pageLATH_inst (l k : Nat) : (pageLATH l k).inst = k := by
  unfold pageLATH
  split_ifs <;> rfl

theorem lathPage_aligned (l k : Nat) : lathPage l k % 4 = 0 := by
  unfold lathPage pgTLATH pgCLATH pgDLATH tileBase cluBase devBase
  split_ifs <;> omega

/-- The registers of a lath's page that a write acts on. -/
def lathActs : List Nat := [0x4C, 0x50, 0x54]

theorem pageLATH_slots {l off : Nat} (h : off ∈ lathActs) : ((pageLATH l 0).slots off).isSome = true := by
  have hall : ∀ ty ∈ [PageT.tlath, PageT.clath, PageT.dlath], ∀ off ∈ lathActs,
      ((⟨ty, 0, 0, 0⟩ : Page).slots off).isSome = true := by decide
  rw [Page.slots_kind, pageLATH_inst]
  refine hall _ ?_ off h
  unfold pageLATH
  split_ifs <;> simp

theorem State.writeBlock_lath (s : State) (l k off : Nat) (w : Wr) :
    s.writeBlock (pageLATH l k) off w = s.wLATH (pageLATH l k) off w := by
  unfold pageLATH
  split_ifs <;> rfl

section
variable {s u : State} {l req data cause : Nat}

/-- A write of such a register is what the page makes of it. -/
theorem State.Writes.lath {off : Nat} (h : s.Writes (pageLATH l 0) off req data) (ho : off ∈ lathActs)
    (hw : s.wLATH (pageLATH l 0) off (s.wrOf (pageLATH l 0) req data) = (u, cause)) (hc : cause ≠ causePRIV) :
    s.busWrite req (lathPage l 0 + off) 4 data = u.wrote (pageLATH l 0) off req data cause := by
  have hrange : 0x40 ≤ off ∧ off < 0x800 ∧ off % 4 = 0 :=
    (show ∀ o ∈ lathActs, 0x40 ≤ o ∧ o < 0x800 ∧ o % 4 = 0 by decide) off ho
  have halign : (lathPage l 0 + off) % 4 = 0 := by
    have := lathPage_aligned l 0
    omega
  refine h.plain (by rw [pageLATH_base]) halign hrange.1 hrange.2.1 (pageLATH_slots ho) ?_ ((s.writeBlock_lath ..).trans hw) hc
  unfold pageLATH
  split_ifs <;> rfl

theorem exec_registerWrite_lath {off : Nat} (h : s.Writes (pageLATH l 0) off req data) (ho : off ∈ lathActs)
    (hw : s.wLATH (pageLATH l 0) off (s.wrOf (pageLATH l 0) req data) = (u, cause)) (hc : cause ≠ causePRIV) :
    exec (.registerWrite req ((pageLATH l 0).base + off) 4 data) s = .next (u.wrote (pageLATH l 0) off req data cause) := by
  have hbus := h.lath ho hw hc
  rw [← pageLATH_base] at hbus
  exact congrArg Host.Outcome.next hbus

/-! ### LATH_COMMIT (R230) -/

theorem wLATH_commit (hl : l < 73) (w : Wr) :
    let r := if bit w.v 0 then w.act s fun s => (s.routeCommit l w.req, 0) else (s, 0)
    s.wLATH (pageLATH l 0) 0x54 w = (if bit w.v 1 then r.1.routeLoad l w.req else r.1, r.2) := by
  unfold State.wLATH
  simp only [pageLATH_inst, pageLATH_lath hl]
  rfl

/-- COMMIT alone: the lock of the page admits it or not. -/
theorem wLATH_commitOnly (hl : l < 73) : s.wLATH (pageLATH l 0) 0x54 (s.wrOf (pageLATH l 0) req 1) =
    if s.lockOpen (pageLATH l 0) req then (s.routeCommit l req, 0) else (s, causeLOCKED) := by
  rw [wLATH_commit hl]
  simp only [State.wrOf, show bit 1 0 = true by decide, show bit 1 1 = false by decide, Bool.false_eq_true, if_true, if_false]
  rfl

theorem wLATH_loadOnly (hl : l < 73) : s.wLATH (pageLATH l 0) 0x54 (s.wrOf (pageLATH l 0) req 2) = (s.routeLoad l req, 0) := by
  rw [wLATH_commit hl]
  simp only [State.wrOf, show bit 2 0 = false by decide, show bit 2 1 = true by decide, Bool.false_eq_true, if_true, if_false]

/-- COMMIT and LOAD together: the load takes the row that the commit has put in force. -/
theorem wLATH_commitAndLoad (hl : l < 73) : s.wLATH (pageLATH l 0) 0x54 (s.wrOf (pageLATH l 0) req 3) =
    if s.lockOpen (pageLATH l 0) req then ((s.routeCommit l req).routeLoad l req, 0) else (s.routeLoad l req, causeLOCKED) := by
  rw [wLATH_commit hl]
  simp only [State.wrOf, Wr.act, show bit 3 0 = true by decide, show bit 3 1 = true by decide, if_true]
  by_cases h : s.lockOpen (pageLATH l 0) req = true
  · simp only [h, if_true]
  · simp only [h, Bool.false_eq_true, if_false]

/-! ### LATH_SEL (R231) -/

theorem wLATH_select (hl : l < 73) (w : Wr) : s.wLATH (pageLATH l 0) 0x50 w = s.lathSelect l w.req w.v := by
  unfold State.wLATH
  simp only [pageLATH_inst, pageLATH_lath hl]
  rfl

/-- The image of a producer and an input that LATH_SEL takes. -/
def State.lathSnap (s : State) (l prod i : Nat) : LathSnap :=
  let x := (s.lathOf l).input i
  ⟨prod, i, s.pendOf l i, x.arriv % 2 ^ 64, x.taken % 2 ^ 64, x.ovr % 2 ^ 64, SMap.getD (s.lathOf l).prod prod 0 % 2 ^ 64⟩

theorem State.lathSelect_takes (hp : bits data 0 10 < lathP l) (hc : bits data 16 8 < lathC l) :
    s.lathSelect l req data =
      (s.updLath l fun L => { L with snaps := SMap.put L.snaps req (s.lathSnap l (bits data 0 10) (bits data 16 8)) }, 0) :=
  if_neg (by omega)

theorem State.lathSelect_refuses (h : lathP l ≤ bits data 0 10 ∨ lathC l ≤ bits data 16 8) :
    s.lathSelect l req data = (s, causeBAD_VALUE) := if_pos h

/-! ### LATH_SWEV (R232) -/

theorem wLATH_softEvent (hl : l < 73) (hn : data < 64) :
    s.wLATH (pageLATH l 0) 0x4C (s.wrOf (pageLATH l 0) req data) = s.softEvent l data := by
  have hbits : bits data 0 6 = data := (bits_zero data 6).trans (Nat.mod_eq_of_lt hn)
  unfold State.wLATH
  simp only [pageLATH_inst, pageLATH_lath hl, State.wrOf_v, hbits]
  rfl

/-- The production of software producer `n` enters the lath at the end of this cycle. -/
theorem State.softEvent_fires {n : Nat} (h : n < swCount l) :
    s.softEvent l n = ((s.produceTok l (swBase l + n) ⟨lathLevel l, lathInst l, swBase l + n, 0, false,
      stageTick true (lathIsle l) (s.tick / lathPeriod l * lathPeriod l + lathPeriod l)⟩ false).updLath l fun L =>
        { L with swAt := some s.tick }, 0) := if_neg (Nat.not_le.mpr h)

theorem swCount_le (l : Nat) : swCount l ≤ 64 := by
  unfold swCount
  split_ifs <;> decide

theorem State.softEvent_refuses {n : Nat} (h : swCount l ≤ n) : s.softEvent l n = (s, causeBAD_VALUE) := if_pos h

end

/-- An access that would reach its page if `s` had other laths, but has to wait in `s`, is held. -/
theorem State.busAccess_waits {s : State} {x : LathSt} {p : Page} {off : Nat} {a : Access}
    (h : ({ s with lath := x } : State).Arrives (.page p off) a) (hwait : s.waitsAt (.page p off) a = true) :
    s.busAccess a = s.holdAccess a := by
  have hleads : target s.phys a.addr = .page p off := h.leads
  have hon : s.targetOn (.page p off) = true := h.on
  have hrole : s.roleRefuses (.page p off) a = false := h.role
  have hclocked : s.isleStopped p.island = false := h.clocked _ rfl
  have hstill : ∀ lt, aliasOf a.addr = some lt → s.moving lt = false := h.still
  unfold State.busAccess
  simp only [hleads, hon, h.allowed, hrole, targetIsland, hclocked, hwait, Bool.not_true, Bool.false_eq_true, if_false, if_true]
  cases hx : aliasOf a.addr with
  | none => rfl
  | some lt => simp only [hstill lt hx, Bool.false_eq_true, if_false]

/-- In the cycle of a software firing, another write of LATH_SWEV waits. -/
theorem State.softEvent_waits {s : State} {l req data : Nat} (hl : l < 73) (hat : (s.lathOf l).swAt = some s.tick)
    (h : (s.updLath l fun L => { L with swAt := none }).Writes (pageLATH l 0) 0x4C req data) :
    s.busWrite req (lathPage l 0 + 0x4C) 4 data =
      { s with bus.held := s.bus.held ++ [⟨req, (pageLATH l 0).base + 0x4C, 4, true, data⟩] } := by
  have hheld : s.softHeld (.page (pageLATH l 0) 0x4C) ⟨req, (pageLATH l 0).base + 0x4C, 4, true, data⟩ = true := by
    unfold State.softHeld
    simp only [pageLATH_inst, pageLATH_lath hl, hat]
    unfold pageLATH
    split_ifs <;> simp
  rw [State.busWrite, ← pageLATH_base, State.busAccess_waits h.1.toArrives (by simp [State.waitsAt, hheld])]
  rfl

/-! ### Doorbells (R241) -/

theorem pageINTC_tile {t : Nat} (h : t < 40) : pageINTC t = ⟨.intc, pgINTC t, 0, t⟩ := if_pos h

theorem pageINTC_slots (t : Nat) : ((pageINTC t).slots 0x40).isSome = true := by
  rw [Page.slots_kind]
  unfold pageINTC
  split_ifs <;> rfl

/-- A write to a page of an interrupt controller is what the page makes of it. -/
theorem State.Writes.intc {s u : State} {t off req data cause : Nat} (h : s.Writes (pageINTC t) off req data)
    (halign : off % 4 = 0) (hlo : 0x40 ≤ off) (hhi : off < 0x800) (hslots : ((pageINTC t).slots off).isSome = true)
    (hw : s.writeBlock (pageINTC t) off (s.wrOf (pageINTC t) req data) = (u, cause)) (hc : cause ≠ causePRIV) :
    s.busWrite req ((pageINTC t).base + off) 4 data = u.wrote (pageINTC t) off req data cause := by
  refine h.plain rfl ?_ hlo hhi hslots ?_ hw hc
  · unfold pageINTC pgINTC pgDINTC tileBase devBase
    split_ifs <;> dsimp only <;> omega
  · unfold pageINTC
    split_ifs <;> rfl

theorem exec_doorbell {s u : State} {req t data cause : Nat} (ht : t < 41) (h : s.Writes (pageINTC t) 0x40 req data)
    (hu : s.doorbell req t data = (u, cause)) (hc : cause ≠ causePRIV) :
    exec (.doorbell req t data) s = .next (u.wrote (pageINTC t) 0x40 req data cause) := by
  have haddr : (if t < 40 then pgINTC t else pgDINTC) = (pageINTC t).base := by
    unfold pageINTC
    split_ifs <;> rfl
  have hw : s.writeBlock (pageINTC t) 0x40 (s.wrOf (pageINTC t) req data) = s.doorbell req t data := by
    unfold pageINTC
    split_ifs with hlt
    · rfl
    · obtain rfl : t = 40 := by omega
      rfl
  have hbus := h.intc rfl (by decide) (by decide) (pageINTC_slots t) (hw.trans hu) hc
  rw [← haddr] at hbus
  exact congrArg Host.Outcome.next hbus

/-! ### Hold-offs (R246) -/

/-- A hold-off that is due ends, and a cascade that is pending then requests a wake. -/
theorem exec_holdoffExpiry {s : State} {group tick : Nat} (h : SMap.get? s.lath.int.holdEnd group = some tick) (hdue : tick ≤ s.tick) :
    let u : State := { s with lath.int.holdEnd := SMap.erase s.lath.int.holdEnd group }
    let v := u.setFbit pgDINTC F.DINTC_HSTAT_HOLDING (group - 320) false
    let t := v.phys (v.getF pgDINTC (F.dintcRouteLT (group - 320)))
    exec (.holdoffExpiry group) s = .next (if group < 320 then u.setFbit (pgINTC (group / 8)) F.INTC_HSTAT_HOLDING (group % 8) false
      else if v.cascade t (group - 320) then v.requestWake (2 * t) else v) := by
  intro u v t
  show execHoldoffExpiry group s = _
  unfold execHoldoffExpiry
  simp only [h, if_pos hdue]
  rfl

/-! ### INTC_EN and INTC_PAIR (R247) -/

theorem intcWords_table : (List.range 16).all (fun w => decide (slotsIn regsINTC (0x80 + 4 * w) = some [⟨F.INTC_EN_EN w, 0, 32, 0⟩]) &&
    decide (slotsIn regsINTC (0xC0 + 4 * w) = some [⟨F.INTC_PAIR_PAIR w, 0, 32, 0⟩])) = true := rfl

section
variable {s : State} {t w req data : Nat}

theorem intcWords_slots (ht : t < 40) (hw : w < 16) : (pageINTC t).slots (0x80 + 4 * w) = some [⟨F.INTC_EN_EN w, 0, 32, 0⟩] ∧
    (pageINTC t).slots (0xC0 + 4 * w) = some [⟨F.INTC_PAIR_PAIR w, 0, 32, 0⟩] := by
  have h := all_below intcWords_table hw
  rw [Bool.and_eq_true, decide_eq_true_iff, decide_eq_true_iff] at h
  rw [pageINTC_tile ht]
  exact h

/-- A word that is one field, written as a plain field. -/
theorem State.put_word {p : Page} {off : Nat} {f : Fld} (hs : p.slots off = some [⟨f, 0, 32, 0⟩]) (hacc : f.acc = .rw) (hlo : f.lo = 0)
    (hwid : f.w = 32) (hdata : data < 2 ^ 32) : s.put p (s.wrOf p req data) off = (s.softF p.base f req data, 0) := by
  have hput := State.put_plain (s := s) (req := req) (v := data) (opn := s.lockOpen p req) hs (by simp [hacc]) []
  have hbits : bits data 0 32 = data := (bits_zero data 32).trans (Nat.mod_eq_of_lt hdata)
  refine hput.trans ?_
  rw [State.softWord, State.softF, hlo, hwid]
  simp [hbits]

/-- The words of a tile's controller at which a write only sets their fields. -/
theorem wINTC_put (ht : t < 40) {off : Nat} (hlo : 0x80 ≤ off) (hne : off ≠ 0xC0 + 4 * 14) (x : Wr) :
    s.writeBlock (pageINTC t) off x = s.put (pageINTC t) x off := by
  rw [pageINTC_tile ht]
  show State.wINTC s _ off x = _
  unfold State.wINTC
  rw [if_neg (by omega), if_neg (by omega), if_neg hne]

/-- Such a word of one field. -/
theorem State.Writes.intcWord {off : Nat} {f : Fld} (h : s.Writes (pageINTC t) off req data) (ht : t < 40)
    (hs : (pageINTC t).slots off = some [⟨f, 0, 32, 0⟩]) (hf : f.acc = .rw ∧ f.lo = 0 ∧ f.w = 32)
    (ho : 0x80 ≤ off ∧ off < 0x100 ∧ off % 4 = 0 ∧ off ≠ 0xC0 + 4 * 14) :
    s.busWrite req (pgINTC t + off) 4 data = (s.softF (pgINTC t) f req data).wrote (pageINTC t) off req data := by
  obtain ⟨hacc, hlo, hwid⟩ := hf
  obtain ⟨hge, hlt, halign, hne⟩ := ho
  have hbase : (pageINTC t).base = pgINTC t := by rw [pageINTC_tile ht]
  have hput := (wINTC_put ht hge hne (s.wrOf (pageINTC t) req data)).trans (State.put_word hs hacc hlo hwid h.2.1)
  rw [← hbase]
  exact h.intc halign (by omega) (by omega) (by rw [hs]; rfl) hput (by decide)

theorem exec_intcEnWrite_en (ht : t < 40) (hw : w < 16) (h : s.Writes (pageINTC t) (0x80 + 4 * w) req data) :
    exec (.intcEnWrite req t false w data) s =
      .next ((s.softF (pgINTC t) (F.INTC_EN_EN w) req data).wrote (pageINTC t) (0x80 + 4 * w) req data) := by
  have hbus := h.intcWord ht (intcWords_slots ht hw).1 ⟨rfl, rfl, rfl⟩ (by omega)
  rw [← Nat.add_assoc] at hbus
  exact congrArg Host.Outcome.next hbus

theorem exec_intcEnWrite_pair (ht : t < 40) (hw : w < 16) (h : s.Writes (pageINTC t) (0xC0 + 4 * w) req data) (hne : w ≠ 14) :
    exec (.intcEnWrite req t true w data) s =
      .next ((s.softF (pgINTC t) (F.INTC_PAIR_PAIR w) req data).wrote (pageINTC t) (0xC0 + 4 * w) req data) := by
  have hbus := h.intcWord ht (intcWords_slots ht hw).2 ⟨rfl, rfl, rfl⟩ (by omega)
  rw [← Nat.add_assoc] at hbus
  exact congrArg Host.Outcome.next hbus

end

/-! ### Claims (R250) -/

/-- The read of a word whose effect gives the value. -/
theorem State.Reads.busRead_effect {s u : State} {p : Page} {off req v : Nat} (h : s.Reads p off req) (ha : (p.base + off) % 4 = 0)
    (hhi : off < 0x800) (hv : (s.readPage p off 4 req false).2 = 0) (he : s.readEffect p off 4 req = (u, some v, 0)) :
    s.busRead req (p.base + off) 4 = u.finish p 0 ⟨req, p.base + off, 4, false, 0⟩ v := by
  have hz : okSize ⟨req, p.base + off, 4, false, 0⟩ = true := (okSize_iff _).mpr (.inl ⟨rfl, ha⟩)
  rw [State.busRead, State.busAccess_page h]
  simp only [State.pageAccess, hz, Nat.not_le.mpr hhi, hv, he, decide_false, Bool.not_true, Bool.false_eq_true, if_false]
  rfl

/-- A read of DINTC_CLAIM returns the claim and leaves what it leaves. -/
theorem exec_dintcClaim {s : State} {req : Nat} (h : s.Reads (pageINTC 40) 0x44 req) : exec (.dintcClaim req) s =
    .next ((s.dintcClaim req).2.finish (pageINTC 40) 0 ⟨req, pgDINTC + 0x44, 4, false, 0⟩ (s.dintcClaim req).1) := by
  have hready : s.pageReady (pageINTC 40) = true := h.ready
  have hslots : ((pageINTC 40).slots 0x44).isSome = true := rfl
  have hcounter : wordCounter (pageINTC 40) 0x44 = none := rfl
  have hv : (s.readPage (pageINTC 40) 0x44 4 req false).2 = 0 := by
    show (s.read32 (pageINTC 40) 0x44 req false).2 = 0
    rw [State.read32, if_neg (by decide), if_neg (by simp [hready])]
    split
    · next hnone => simp [hnone] at hslots
    · simp only [hcounter]
  have he : s.readEffect (pageINTC 40) 0x44 4 req = ((s.dintcClaim req).2, some (s.dintcClaim req).1, 0) := by
    unfold State.readEffect
    rw [if_neg (by simp [hready])]
    rfl
  exact congrArg Host.Outcome.next (h.busRead_effect rfl (by decide) hv he)

end Sys2Proof.Machine
end

section
/-! SUPPORT. O42: the statement. -/

namespace Sys2Proof.Machine

/-- Settles O42: each input of a lath by the consumer behind it, each write by what its page makes of it, and a pin by its filter. -/
theorem lathsAndGpio : Obligations.LathsAndGpio := by
  unfold Obligations.LathsAndGpio
  refine ⟨?take, ?row, ?tile, ?cluster, ?device, ?routes, ?gpio, ?action, ?doorbell, ?hold, ?words, ?claim⟩
  case take =>
    intro s l prod tok rest hstill htake
    exact congrArg Host.Outcome.next (State.lathTake_production hstill htake)
  case row =>
    intro s l i c old row hwas
    exact State.rowNow_committed hwas row
  case tile =>
    intro s t i tok l u hl htok hstill
    have htake := fun hi htook {z} hz => exec_consumerTake_tile (z := z) htok hstill hl hi htook hz
    refine ⟨fun hi => ?trigger, fun hlo hhi hen htook => ?timer, fun hlo hhi hbusy => ?timerBusy, fun hlo hhi => ?sync,
      fun hlo hhi htook hstate hheld => ?dma, fun hlo hhi htook hbusy => ?uplink, fun hlo hhi htook hwait => ?tileInterrupt⟩
    case trigger => exact htake (.inl (by omega)) (fun h => by omega) (State.consumeTile_trigger hi)
    case timer =>
      exact htake (.inl (by omega)) (fun h => by omega)
        ((State.consumeTile_timer hlo hhi).trans (State.timerInput_starts (by omega) hen htook))
    case timerBusy =>
      exact htake (.inl (by omega)) (fun h => by omega)
        ((State.consumeTile_timer hlo hhi).trans (State.timerInput_overruns (by omega) hbusy))
    case sync =>
      exact ⟨fun hfree htook => htake (.inl (by omega)) (fun h => by omega)
          ((State.consumeTile_sync hlo hhi).trans (State.syncInput_free rfl hfree htook)),
        fun hbusy => htake (.inl (by omega)) (fun h => by omega) ((State.consumeTile_sync hlo hhi).trans (State.syncInput_busy rfl hbusy))⟩
    case dma =>
      have hdma := (State.consumeTile_dma (tok := tok) hlo hhi).trans (State.dmaInput_free (i := i) (by omega) hstate hheld)
      exact ⟨fun hok => htake (.inl (by omega)) (fun _ => htook) (hdma.trans (if_pos hok)),
        fun hbad => htake (.inl (by omega)) (fun _ => htook) (hdma.trans (if_neg hbad))⟩
    case uplink =>
      exact htake (.inl hhi) (fun _ => htook) ((State.consumeTile_link hlo hhi).trans (State.linkInput_free hbusy))
    case tileInterrupt =>
      exact htake (.inr ⟨hlo, hhi⟩) (fun _ => htook) ((State.consumeTile_interrupt hlo).trans (State.interruptInput_free hwait))
  case cluster =>
    intro s c i tok l u hlo hhi htok hstill
    have htake := fun hi htook {z} hz => exec_consumerTake_cluster (z := z) htok hstill hlo hhi hi htook hz
    refine ⟨fun hi htook hbusy => ?clusterLink, fun hlo hhi => ?adc, fun hlo hhi => ?threshold, fun hlo hhi hsrc => ?launch,
      fun hlo hhi htook => ?pin, fun hlo hhi htook hwait => ?clusterInterrupt⟩
    case clusterLink => exact htake (by omega) (fun _ => htook) ((State.consumeClu_link hi).trans (State.linkInput_free hbusy))
    case adc => exact htake (by omega) (fun h => by omega) (State.consumeClu_adc hlo hhi)
    case threshold => exact htake (by omega) (fun h => by omega) (State.consumeClu_threshold hlo hhi)
    case launch => exact htake (by omega) (fun h => by omega) (State.consumeClu_launch hlo hhi hsrc)
    case pin => exact htake (by omega) (fun _ => htook) (State.consumeClu_gpio hlo hhi)
    case clusterInterrupt => exact htake hhi (fun _ => htook) ((State.consumeClu_interrupt hlo).trans (State.interruptInput_free hwait))
  case device =>
    intro s i tok u htok hstill htook
    have htake := fun hi {z} hz => exec_consumerTake_device (z := z) htok hstill htook hi hz
    refine ⟨fun hi hbusy => ?downlink, fun hlo hhi hmark => ?drop, fun hlo hhi hmark hon => ?send, fun hlo hhi hwait => ?deviceInterrupt⟩
    case downlink => exact htake (by omega) ((State.consumeDev_link hi).trans (State.linkInput_free hbusy))
    case drop => exact htake (by omega) ((State.consumeDev_group hlo hhi).trans (if_pos hmark))
    case send =>
      exact htake (by omega) ((State.consumeDev_group hlo hhi).trans ((if_neg (by simp [hmark])).trans (if_pos hon)))
    case deviceInterrupt => exact htake hhi ((State.consumeDev_interrupt hlo).trans (State.interruptInput_free hwait))
  case routes =>
    intro s req l data p L csel hl
    refine ⟨fun h hopen => ?commit, fun h hopen => ?both, fun h hshut => ?commitLocked, fun h hshut => ?bothLocked, fun h => ?load,
      fun h hp hc => ?select, fun h hbad => ?selectBad, fun h hn => ?fire, fun h hat => ?fireWaits, fun h hge hlt => ?fireBad⟩
    case commit => exact congrArg Host.Outcome.next (h.lath (by decide) ((wLATH_commitOnly hl).trans (if_pos hopen)) (by decide))
    case both =>
      exact exec_registerWrite_lath h (by decide) ((wLATH_commitAndLoad hl).trans (if_pos hopen)) (by decide)
    case commitLocked =>
      exact congrArg Host.Outcome.next (h.lath (by decide) ((wLATH_commitOnly hl).trans (if_neg (Bool.eq_false_iff.mp hshut))) (by decide))
    case bothLocked =>
      exact exec_registerWrite_lath h (by decide) ((wLATH_commitAndLoad hl).trans (if_neg (Bool.eq_false_iff.mp hshut))) (by decide)
    case load => exact congrArg Host.Outcome.next (h.lath (by decide) (wLATH_loadOnly hl) (by decide))
    case select =>
      exact congrArg Host.Outcome.next (h.lath (by decide) ((wLATH_select hl _).trans (State.lathSelect_takes hp hc)) (by decide))
    case selectBad =>
      exact congrArg Host.Outcome.next (h.lath (by decide) ((wLATH_select hl _).trans (State.lathSelect_refuses hbad)) (by decide))
    case fire =>
      exact congrArg Host.Outcome.next
        (h.lath (by decide) ((wLATH_softEvent hl (hn.trans_le (swCount_le l))).trans (State.softEvent_fires hn)) (by decide))
    case fireWaits => exact congrArg Host.Outcome.next (State.softEvent_waits hl hat h)
    case fireBad =>
      exact congrArg Host.Outcome.next (h.lath (by decide) ((wLATH_softEvent hl hlt).trans (State.softEvent_refuses hge)) (by decide))
  case gpio =>
    intro s pin level b k i x lev u
    refine ⟨fun hruns hnew hset => ?_, fun hset => ?_, fun hstop hon hsel => ?_⟩
    · have hsample := State.gpioSample_accepts hruns hnew hset
      exact ⟨fun hsel => congrArg Host.Outcome.next (hsample.trans (if_pos hsel)),
        fun hsel => congrArg Host.Outcome.next (hsample.trans (if_neg (Bool.eq_false_iff.mp hsel)))⟩
    · exact congrArg Host.Outcome.next (State.gpioSample_unsettled hset)
    · have hlatch := exec_gpioLatchedEdge hstop hon hsel
      exact ⟨fun hlt => hlatch.trans (congrArg Host.Outcome.next (if_pos hlt)),
        fun hle => hlatch.trans (congrArg Host.Outcome.next (if_neg (Nat.not_lt.mpr hle)))⟩
  case action =>
    intro s pin tok l b k u acts hpin htok hstill htook
    have hexec := exec_gpioOutputAction hpin htok hstill htook
    exact ⟨fun h => hexec.trans (congrArg Host.Outcome.next (State.gpioAction_toggles h)),
      fun h => hexec.trans (congrArg Host.Outcome.next (State.gpioAction_sets h)),
      fun h => hexec.trans (congrArg Host.Outcome.next (State.gpioAction_clears h))⟩
  case doorbell =>
    intro s req t data p h ht
    refine ⟨fun src hsrc => exec_doorbell ht h ?_ (by decide), fun hnone => exec_doorbell ht h ?_ (by decide)⟩
    · simp only [State.doorbell, hsrc]
    · simp only [State.doorbell, hnone]
      rfl
  case hold =>
    intro s group tick h hdue u
    have hend := exec_holdoffExpiry h hdue
    refine ⟨fun htile => hend.trans (congrArg Host.Outcome.next (if_pos htile)), fun hdev => ?_⟩
    intro v t
    have hdevice := hend.trans (congrArg Host.Outcome.next (if_neg (Nat.not_lt.mpr hdev)))
    exact ⟨fun hcasc => hdevice.trans (congrArg Host.Outcome.next (if_pos hcasc)),
      fun hcasc => hdevice.trans (congrArg Host.Outcome.next (if_neg (Bool.eq_false_iff.mp hcasc)))⟩
  case words =>
    intro s req t w data p ht hw
    exact ⟨exec_intcEnWrite_en ht hw, exec_intcEnWrite_pair ht hw⟩
  case claim =>
    intro s req h
    exact exec_dintcClaim h

end Sys2Proof.Machine
end

section
/-! SUPPORT. Instructions that write registers: their writes as one list, and what a form of the tables comes to once it issues (R258 to
R260, R303). -/

namespace Sys2Proof.Machine

/-! ### Writes at a distance, as one list -/

/-- The writes `ws` of an instruction, each its distance, target and value (R258). -/
def State.wrs (s : State) (c : Ctx) (ws : List (Nat × Nat × Nat)) : State := ws.foldl (fun u e => u.wr c e.1 e.2.1 e.2.2) s

@[simp] theorem State.wrs_nil (s : State) (c : Ctx) : s.wrs c [] = s := rfl

@[simp] theorem State.wrs_cons (s : State) (c : Ctx) (e : Nat × Nat × Nat) (ws : List (Nat × Nat × Nat)) :
    s.wrs c (e :: ws) = (s.wr c e.1 e.2.1 e.2.2).wrs c ws := rfl

@[simp] theorem State.wrs_append (s : State) (c : Ctx) (ws vs : List (Nat × Nat × Nat)) :
    s.wrs c (ws ++ vs) = (s.wrs c ws).wrs c vs := List.foldl_append

theorem State.wrA_eq_wrs (s : State) (c : Ctx) (k v : Nat) : s.wrA c k v = s.wrs c (accWrites k v) := rfl

theorem State.orSat_eq_wrs (s : State) (c : Ctx) (lam : Nat) (b : Bool) :
    s.orSat c lam b = s.wrs c (if b then [(lam, 25, 1)] else []) := by
  cases b <;> rfl

theorem State.baseInto_eq_wrs (s : State) (c : Ctx) (b : Option (Nat × Nat)) : s.baseInto c b = s.wrs c (baseWrites b) := by
  cases b <;> rfl

/-- What a load writes to its destination (R303). -/
theorem State.loadInto_eq_wrs (s : State) (c : Ctx) {size d : Nat} (signed toAcc : Bool) (v : Nat) (hd : d < 16)
    (hacc : toAcc = true → d < 4) :
    s.loadInto c size (if toAcc then 16 + d else d) signed v = s.wrs c (loadWrites size d signed toAcc v) := by
  cases toAcc with
  | true =>
    have hlt : 16 + d < 20 := by have := hacc rfl; omega
    simp only [State.loadInto, loadWrites, if_true, if_neg (show ¬16 + d < 16 by omega), if_pos hlt, Nat.add_sub_cancel_left]
    exact State.wrA_eq_wrs ..
  | false =>
    simp only [State.loadInto, loadWrites, Bool.false_eq_true, if_false, if_pos hd]
    split <;> rfl

theorem State.Quiet.wrs {u : State} {c : Ctx} (h : u.Quiet c.p) (ws : List (Nat × Nat × Nat)) : (u.wrs c ws).Quiet c.p := by
  induction ws generalizing u with
  | nil => exact h
  | cons e ws ih => exact ih (h.wr _ _ _)

theorem State.ends_wrs (s : State) (w : WOp) (o : IOp) (u : State) (ws vs : List (Nat × Nat × Nat)) :
    s.ends w o (u.wrs (s.ctxOf w o) ws) vs = s.ends w o u (ws ++ vs) := by
  induction ws generalizing u vs with
  | nil => rfl
  | cons e ws ih =>
    rw [State.wrs_cons, ih, State.ends_wr]
    rfl

theorem State.jumps_wrs (s : State) (w : WOp) (o : IOp) (u : State) (ws vs : List (Nat × Nat × Nat)) (a : Nat) :
    s.jumps w o (u.wrs (s.ctxOf w o) ws) vs a = s.jumps w o u (ws ++ vs) a := by
  induction ws generalizing u vs with
  | nil => rfl
  | cons e ws ih =>
    rw [State.wrs_cons, ih, State.jumps_wr]
    rfl

/-- Writes at a distance leave the watched addresses and the registers that a watch is checked by. -/
theorem State.watchHit_wrs (s : State) (c : Ctx) (ws : List (Nat × Nat × Nat)) (a size : Nat) (rd wr : Bool) :
    (s.wrs c ws).watchHit c.p a size rd wr = s.watchHit c.p a size rd wr := by
  induction ws generalizing s with
  | nil => rfl
  | cons e ws ih =>
    rw [State.wrs_cons, ih]
    simp only [State.watchHit, State.wr_eq, State.pair_setPair]
    rfl

/-! ### How an instruction that issues ends -/

section
variable {s u : State} {w : WOp} {o : IOp} {run : State → Ctx → State × Flow} {ws : List (Nat × Nat × Nat)}

theorem State.Issues.ok (h : s.Issues w o) : o.ok = true := by
  have hlegal := h.legal
  simp only [legalAt, Bool.and_eq_true] at hlegal
  exact hlegal.1.1.1

/-- An instruction that writes at distances, whatever else it leaves in `u`. -/
theorem State.issue_wrs (h : s.Issues w o) (hq : u.Quiet w.pair)
    (hr : run (s.atIssue w o) (s.ctxOf w o) = (u.wrs (s.ctxOf w o) ws, .next)) : s.issue w o run = s.ends w o u ws := by
  have hq' : (u.wrs (s.ctxOf w o) ws).Quiet w.pair := State.Quiet.wrs (c := s.ctxOf w o) hq ws
  rw [State.issue_next h hr hq'.steps hq'.watch, State.ends_wrs, List.append_nil]

/-- An instruction that changes nothing but registers, by its writes. -/
theorem State.wrs_done (h : s.Issues w o)
    (hr : run (s.atIssue w o) (s.ctxOf w o) = ((s.atIssue w o).wrs (s.ctxOf w o) ws, .next)) : s.issue w o run = s.done w o ws :=
  State.issue_wrs h h.quiet hr

/-- A jump with writes at distances. -/
theorem State.wrs_jump {a : Nat} (h : s.Issues w o)
    (hr : run (s.atIssue w o) (s.ctxOf w o) = ((s.atIssue w o).wrs (s.ctxOf w o) ws, .jump a)) :
    s.issue w o run = s.jumps w o (s.atIssue w o) ws a := by
  have hq : ((s.atIssue w o).wrs (s.ctxOf w o) ws).Quiet w.pair := State.Quiet.wrs (c := s.ctxOf w o) h.quiet ws
  rw [State.issue_jump h hr hq.steps hq.watch, State.jumps_wrs, List.append_nil]

/-- An instruction that freezes leaves the state but for a wait counter (log entry 27). -/
theorem State.issue_frozen {mem : Bool} (h : s.Issues w o) (hr : run (s.atIssue w o) (s.ctxOf w o) = (u, .frozen mem)) :
    s.issue w o run = s.satF (pgCORE w.pair) (if mem then F.CORE_PERF0_MEMWAIT else F.CORE_PERF0_LSTALL) := by
  obtain ⟨⟨hruns, hidle, hthawed, hfree, hfetch, -, -⟩, hlegal, hallowed⟩ := h
  have hf : s.fetched w o = (s.atIssue w o, none) := by rw [State.atIssue, ← hfetch]
  simp [State.issue, hruns, hidle, hthawed, hfree, hf, hlegal, hallowed, hr]

/-- An instruction that stands at one of its points (R284). -/
theorem State.issue_again (h : s.Issues w o) (hr : run (s.atIssue w o) (s.ctxOf w o) = (u, .again)) (hq : u.Quiet w.pair) :
    s.issue w o run = u.setPair w.pair { u.pair w.pair with inLr := true } := by
  obtain ⟨⟨hruns, hidle, hthawed, hfree, hfetch, -, -⟩, hlegal, hallowed⟩ := h
  have hf : s.fetched w o = (s.atIssue w o, none) := by rw [State.atIssue, ← hfetch]
  simp [State.issue, hruns, hidle, hthawed, hfree, hf, hlegal, hallowed, hr, State.dbgAfter, State.stepped, hq.steps, hq.watch]

end

/-! ### The forms of the tables -/

/-- A row of form XY is what `aluXY` makes of it. -/
theorem rowXY_of_aluXY {i : WOp → Nat → Nat → Instr} {acc : List Nat} {mayL flags isCount : Bool} {lam : WOp → Nat}
    {f : WOp → Regs → Nat → Nat → Alu}
    (hi : ∀ w x y s, exec (i w x y) s = .next (s.aluXY w x y acc mayL true flags isCount (lam w) (f w))) :
    RowXY i acc mayL flags isCount lam f :=
  fun s w x y h hw => (hi w x y s).trans (congrArg Host.Outcome.next (State.aluXY_done h hw))

section
variable {i : Instr} {w : WOp} {o : IOp}

/-- A row whose effect is the writes `f` of the registers it reads. -/
theorem rowWrites_of_issue {run : State → Ctx → State × Flow} {f : Regs → List (Nat × Nat × Nat)}
    (hi : ∀ s, exec i s = .next (s.issue w o run)) (hr : ∀ s c, run s c = (s.wrs c (f (c.regs s)), .next)) : RowWrites i w o f :=
  fun s h => (hi s).trans (congrArg Host.Outcome.next (State.wrs_done h (hr _ _)))

/-- A row with one G result. -/
theorem rowWrites_of_toG {d lam : Nat} {f : Regs → Nat} (hi : ∀ s, exec i s = .next (s.toG w o d lam f)) :
    RowWrites i w { o with dests := [d] } fun r => [(lam, d, f r)] :=
  rowWrites_of_issue hi fun _ _ => rfl

/-- A row with an accumulator as its result (R304). -/
theorem rowWrites_of_toA {d : Nat} {f : Regs → Nat} (hi : ∀ s, exec i s = .next (s.toA w o d f)) :
    RowWrites i w { o with dests := [16 + d], ok := o.ok && decide (d < 4) } fun r => accWrites d (f r) :=
  rowWrites_of_issue hi fun _ _ => rfl

/-- MAC, MSU and MPY (R299). -/
theorem rowWrites_of_accumulate {x y : Nat} {f : Int → Int → Int} (hi : ∀ s, exec i s = .next (s.accumulate w x y f)) :
    RowWrites i w (opMac x y) (macWrites w x y f) :=
  fun s h => by
    refine (hi s).trans (congrArg Host.Outcome.next ?_)
    unfold State.accumulate
    refine State.wrs_done h ?_
    simp only [macWrites, State.wrs_append, State.orSat_eq_wrs]
    rfl

end

end Sys2Proof.Machine
end

section
/-! SUPPORT. O4: products and accumulators. -/

namespace Sys2Proof.Machine

/-- MOVR: an accumulator rounded to a G register, with its flags (R299, R304). -/
theorem rowWrites_movr (w : WOp) (x : Nat) : RowWrites (.iMovr w x) w
    { bytes := 1, acc := accArith ++ pRnd, ok := decide (fA x < 4), dests := [fD x], flags := true }
    fun r => resultWrites false 3 (fD x) (movr (hasPfx w p16) (hasPfx w pNOSAT) (rndOf w 0) (r.ar (fA x))) :=
  fun _ h => congrArg Host.Outcome.next (State.give_done h rfl)

/-- Settles O4: each product by form XY, the accumulating rows by `accumulate`, the moves by their one result. -/
theorem multiplyAndAccumulate : Obligations.MultiplyAndAccumulate := by
  unfold Obligations.MultiplyAndAccumulate
  refine ⟨?mul, ?mulhs, ?mulhu, ?mulq, ?mac, ?msu, ?mpy, rowWrites_movr, ?mova, ?clra, ?mta, ?mfag, ?mtag, ?norm⟩
  case mul => exact rowXY_of_aluXY fun _ _ _ _ => rfl
  case mulhs => exact rowXY_of_aluXY fun _ _ _ _ => rfl
  case mulhu => exact rowXY_of_aluXY fun _ _ _ _ => rfl
  case mulq => exact rowXY_of_aluXY fun _ _ _ _ => rfl
  case mac => exact fun _ _ _ => rowWrites_of_accumulate fun _ => rfl
  case msu => exact fun _ _ _ => rowWrites_of_accumulate fun _ => rfl
  case mpy => exact fun _ _ _ => rowWrites_of_accumulate fun _ => rfl
  case mova => exact fun _ x => rowWrites_of_toA (o := { bytes := 1, ok := decide (fA x < 4) }) fun _ => rfl
  case clra => exact fun _ x => rowWrites_of_toA (o := { bytes := 1, ok := fA x == 0 }) fun _ => rfl
  case mta => exact fun _ _ => rowWrites_of_toA (o := { bytes := 1, acc := [p16] }) fun _ => rfl
  case mfag => exact fun _ x => rowWrites_of_toG (o := { bytes := 1, ok := decide (fA x < 4) }) fun _ => rfl
  case mtag => exact fun _ _ => rowWrites_of_toA (o := { bytes := 1 }) fun _ => rfl
  case norm => exact fun _ x => rowWrites_of_toG (o := { bytes := 1, ok := decide (fA x < 4) }) fun _ => rfl

end Sys2Proof.Machine
end

section
/-! SUPPORT. O5: moves, flags, loop control and RDFEAT (R263, R265, R303, R306, R311). -/

namespace Sys2Proof.Machine

/-- A register change outside the pair's step and watch leaves it quiet. -/
theorem State.Quiet.setPair {u : State} {p : Nat} {x : PairSt} (hs : x.stepping = false) (hd : x.dbgDue = none) :
    (u.setPair p x).Quiet p := by
  constructor <;> simpa

theorem State.Quiet.updR {u : State} {p : Nat} (h : u.Quiet p) (f : Regs → Regs) : (u.updR p f).Quiet p :=
  .setPair h.steps h.watch

theorem State.Quiet.startLoop {u : State} {c : Ctx} (h : u.Quiet c.p) (w : WOp) (disp n : Nat) : (u.startLoop w c disp n).1.Quiet c.p :=
  .setPair h.steps h.watch

section
variable {s u : State} {w : WOp} {o : IOp} {run : State → Ctx → State × Flow}

/-- An instruction that changes its pair at once, and writes nothing at a distance. -/
theorem State.issue_ends (h : s.Issues w o) (hq : u.Quiet w.pair) (hr : run (s.atIssue w o) (s.ctxOf w o) = (u, .next)) :
    s.issue w o run = s.ends w o u [] :=
  State.issue_next h hr hq.steps hq.watch

end

/-- Settles O5: the rows by the writes of their operands, MTL and the loops by the pair they leave. -/
theorem movesFlagsAndLoops : Obligations.MovesFlagsAndLoops := by
  unfold Obligations.MovesFlagsAndLoops
  refine ⟨?nop, ?mov, ?movi, ?movl, ?mtl, ?mvfl, ?mtfl, ?clrsat, ?sel, ?rdfeat, ?loop, ?loopi, ?mtlc, ?mflc⟩
  case nop => exact fun _ => rowWrites_of_issue (fun _ => rfl) fun _ _ => rfl
  case mov => exact fun _ _ => rowWrites_of_toG (o := { bytes := 1 }) fun _ => rfl
  case movi => exact fun w x _ => rowWrites_of_toG (o := { bytes := 1 + immLen w, acc := [pLONG], ok := fA x == 0 }) fun _ => rfl
  case movl =>
    intro s w x o h hfree
    exact congrArg Host.Outcome.next (State.wrs_done h (if_neg (ne_true_of_eq_false hfree)))
  case mtl =>
    intro s w x o h hfree
    exact congrArg Host.Outcome.next (State.issue_ends h (h.quiet.updR _) (if_neg (ne_true_of_eq_false hfree)))
  case mvfl => exact fun _ x => rowWrites_of_toG (o := { bytes := 1, ok := fA x == 0 }) fun _ => rfl
  case mtfl => exact fun _ _ => rowWrites_of_issue (fun _ => rfl) fun _ _ => rfl
  case clrsat => exact fun _ => rowWrites_of_issue (fun _ => rfl) fun _ _ => rfl
  case sel =>
    intro s w x y c o r h hfree
    exact congrArg Host.Outcome.next (State.wrs_done h (if_neg (ne_true_of_eq_false hfree)))
  case rdfeat => exact fun _ x k => rowWrites_of_toG (o := { bytes := 2, ok := fA x == 0 && decide (k < 8) }) fun _ => rfl
  case loop =>
    intro s w x disp o h
    exact congrArg Host.Outcome.next (State.issue_ends h (h.quiet.startLoop w disp _) rfl)
  case loopi =>
    intro s w k disp o h
    exact congrArg Host.Outcome.next (State.issue_ends h (h.quiet.startLoop w disp k) rfl)
  case mtlc =>
    intro w x k
    refine rowWrites_of_issue (fun _ => rfl) fun s c => ?_
    split <;> rfl
  case mflc => exact fun _ x k => rowWrites_of_toG (o := { bytes := 2, ok := fA x == 0 && decide (k < 2) }) fun _ => rfl

end Sys2Proof.Machine
end

section
/-! SUPPORT. O6: branches, jumps and calls (R264, R305, R306). -/

namespace Sys2Proof.Machine

section
variable {s : State} {w : WOp} {disp : Nat} {ok : Bool} {dests : List Nat} {act : State → Ctx → State} {ws : List (Nat × Nat × Nat)}

/-- A branch of form D whose condition holds jumps, and one whose condition fails goes on; both with the writes that `act` makes. -/
theorem State.branchD_taken {taken : Regs → Bool} (h : s.Issues w (opBrD w ok dests))
    (hact : act (s.atIssue w (opBrD w ok dests)) (s.ctxOf w (opBrD w ok dests)) =
      (s.atIssue w (opBrD w ok dests)).wrs (s.ctxOf w (opBrD w ok dests)) ws)
    (ht : taken (s.reads w (opBrD w ok dests)) = true) :
    s.branchD w disp ok dests act taken = s.jumps w (opBrD w ok dests) (s.atIssue w (opBrD w ok dests)) ws
      (target48 w (s.ctxOf w (opBrD w ok dests)) disp) :=
  State.wrs_jump h (Prod.ext hact (if_pos ht))

theorem State.branchD_passed {taken : Regs → Bool} (h : s.Issues w (opBrD w ok dests))
    (hact : act (s.atIssue w (opBrD w ok dests)) (s.ctxOf w (opBrD w ok dests)) =
      (s.atIssue w (opBrD w ok dests)).wrs (s.ctxOf w (opBrD w ok dests)) ws)
    (ht : taken (s.reads w (opBrD w ok dests)) = false) :
    s.branchD w disp ok dests act taken = s.done w (opBrD w ok dests) ws :=
  State.wrs_done h (Prod.ext hact (if_neg (ne_true_of_eq_false ht)))

/-- A jump to an address in registers. -/
theorem State.branchX_jumps {to_ : Ctx → Regs → Nat} (h : s.Issues w (opBrX ok dests))
    (hact : act (s.atIssue w (opBrX ok dests)) (s.ctxOf w (opBrX ok dests)) =
      (s.atIssue w (opBrX ok dests)).wrs (s.ctxOf w (opBrX ok dests)) ws) :
    s.branchX w ok dests act to_ = s.jumps w (opBrX ok dests) (s.atIssue w (opBrX ok dests)) ws
      (to_ (s.ctxOf w (opBrX ok dests)) (s.reads w (opBrX ok dests))) :=
  State.wrs_jump h (Prod.ext hact rfl)

end

/-- Settles O6: each branch by its condition, with the write of its return address or of LC1. -/
theorem branches : Obligations.Branches := by
  unfold Obligations.Branches
  refine ⟨?bcc, ?bra, ?call, ?jr, ?callr, ?jmpf, ?blc1⟩
  case bcc =>
    intro s w cc disp o h
    refine congrArg Host.Outcome.next ?_
    split
    · next ht => exact State.branchD_taken h rfl ht
    · next ht => exact State.branchD_passed h rfl (Bool.eq_false_iff.mpr ht)
  case bra =>
    intro s w disp o h
    exact congrArg Host.Outcome.next (State.branchD_taken h rfl rfl)
  case call =>
    intro s w disp o h
    exact congrArg Host.Outcome.next (State.branchD_taken h rfl rfl)
  case jr =>
    intro s w x o h
    exact congrArg Host.Outcome.next (State.branchX_jumps h rfl)
  case callr =>
    intro s w x o h
    exact congrArg Host.Outcome.next (State.branchX_jumps h rfl)
  case jmpf =>
    intro s w x o h
    exact congrArg Host.Outcome.next (State.branchX_jumps h rfl)
  case blc1 =>
    intro s w disp o n h
    refine congrArg Host.Outcome.next ?_
    have hwrite : n ≠ 0 → (if n = 0 then s.atIssue w o else (s.atIssue w o).wr (s.ctxOf w o) 1 29 (n - 1)) =
        (s.atIssue w o).wrs (s.ctxOf w o) [(1, 29, n - 1)] := fun hn => if_neg hn
    split
    · next hn => exact State.branchD_taken h (hwrite (by omega)) (decide_eq_true hn)
    · next hn =>
      have ht : decide (2 ≤ n) = false := decide_eq_false hn
      split
      · next hzero => exact State.branchD_passed h (if_pos hzero) ht
      · next hone => exact State.branchD_passed h (hwrite hone) ht

end Sys2Proof.Machine
end

section
/-! SUPPORT. O7 and O8: loads, and stores that the store buffer takes (R268, R295, R303). -/

namespace Sys2Proof.Machine

/-- An access that no watch meets notes nothing. -/
theorem State.noteWatch_none {s : State} {p va size : Nat} {rd wr : Bool} (h : s.watchHit p va size rd wr = none) :
    s.noteWatch p va size rd wr = s := by
  simp only [State.noteWatch, h]

section
variable {s u : State} {w : WOp} {o : IOp} {base va size v d : Nat} {signed toAcc : Bool} {upd : Option (Nat × Nat)}

/-- A load whose access gives `v` writes its destination and its base. -/
theorem State.Gives.doLoad (h : s.Gives w o base va size u v) (hd : d < 16) (hacc : toAcc = true → d < 4) :
    (s.atIssue w o).doLoad (s.ctxOf w o) base va size (if toAcc then 16 + d else d) signed upd =
      (u.wrs (s.ctxOf w o) (loadWrites size d signed toAcc v ++ baseWrites upd), .next) := by
  obtain ⟨hlimit, hload, -, -, hwatch⟩ := h
  have hnote : (u.wrs (s.ctxOf w o) (loadWrites size d signed toAcc v ++ baseWrites upd)).watchHit w.pair va size true false = none :=
    (u.watchHit_wrs (s.ctxOf w o) _ va size true false).trans hwatch
  simp only [State.doLoad, State.ctxOf_p, hlimit, hload, State.loadInto_eq_wrs _ _ _ _ _ hd hacc, State.baseInto_eq_wrs,
    ← State.wrs_append, Bool.false_eq_true, if_false]
  rw [State.noteWatch_none hnote]

/-- A store that the store buffer takes writes its base. -/
theorem State.Takes.doStore (h : s.Takes w o base va size v u) :
    (s.atIssue w o).doStore (s.ctxOf w o) base va size v upd = (u.wrs (s.ctxOf w o) (baseWrites upd), .next) := by
  obtain ⟨hlimit, ⟨q, hstore⟩, -, -, hwatch⟩ := h
  have hnote : (u.wrs (s.ctxOf w o) (baseWrites upd)).watchHit w.pair va size false true = none :=
    (u.watchHit_wrs (s.ctxOf w o) _ va size false true).trans hwatch
  simp only [State.doStore, State.ctxOf_p, hlimit, hstore, State.baseInto_eq_wrs, Bool.false_eq_true, if_false]
  rw [State.noteWatch_none hnote]

end

/-- A load into an accumulator names one of the four (R303). -/
theorem opLoad_acc {w : WOp} {x m size : Nat} (h : (opLoad w x m size true).ok = true) : fD x < 4 := by
  simp only [opLoad, Bool.and_eq_true, Bool.not_true, Bool.false_or, decide_eq_true_eq] at h
  exact h.1.1.2

/-- A row that loads by `loadI`. -/
theorem rowLoad_of_loadI {i : WOp → Nat → Nat → Nat → Instr} {size : Nat} {signed toAcc : Bool}
    (hi : ∀ w x m disp s, exec (i w x m disp) s = .next (s.loadI w x m disp size signed toAcc)) : RowLoad i size signed toAcc := by
  intro s w x m disp u v o e h hgives
  refine (hi w x m disp s).trans (congrArg Host.Outcome.next ?_)
  have hacc : toAcc = true → fD x < 4 := fun ht => by
    subst ht
    exact opLoad_acc h.ok
  exact State.issue_wrs h ⟨hgives.steps, hgives.watch⟩ (hgives.doLoad (Nat.mod_lt _ (by decide)) hacc)

/-- A row that stores by `storeI`. -/
theorem rowStore_of_storeI {i : WOp → Nat → Nat → Nat → Instr} {size : Nat}
    (hi : ∀ w x m disp s, exec (i w x m disp) s = .next (s.storeI w x m disp size)) : RowStore i size := by
  intro s w x m disp u o r e v h htakes
  refine (hi w x m disp s).trans (congrArg Host.Outcome.next ?_)
  unfold State.storeI
  exact State.issue_wrs h ⟨htakes.steps, htakes.watch⟩ htakes.doStore

/-- Settles O7: each load by the value its access gives, and LEA by its one write. -/
theorem loads : Obligations.Loads := by
  unfold Obligations.Loads
  refine ⟨?word, ?half, ?halfUnsigned, ?byte, ?byteUnsigned, ?double, ?accumulator, ?address⟩
  case word => exact rowLoad_of_loadI fun _ _ _ _ _ => rfl
  case half => exact rowLoad_of_loadI fun _ _ _ _ _ => rfl
  case halfUnsigned => exact rowLoad_of_loadI fun _ _ _ _ _ => rfl
  case byte => exact rowLoad_of_loadI fun _ _ _ _ _ => rfl
  case byteUnsigned => exact rowLoad_of_loadI fun _ _ _ _ _ => rfl
  case double => exact rowLoad_of_loadI fun _ _ _ _ _ => rfl
  case accumulator => exact rowLoad_of_loadI fun _ _ _ _ _ => rfl
  case address =>
    exact fun w x m disp => rowWrites_of_toG
      (o := { bytes := memLen w m, acc := if fMode m = 0 then [pLONG] else [], port := true, ok := memOk m 1 }) fun _ => rfl

/-- Settles O8: each store by what the store buffer takes; STA also ORs SAT where its body saturated. -/
theorem stores : Obligations.Stores := by
  unfold Obligations.Stores
  refine ⟨?word, ?half, ?byte, ?double, ?accumulator⟩
  case word => exact rowStore_of_storeI fun _ _ _ _ _ => rfl
  case half => exact rowStore_of_storeI fun _ _ _ _ _ => rfl
  case byte => exact rowStore_of_storeI fun _ _ _ _ _ => rfl
  case double => exact rowStore_of_storeI fun _ _ _ _ _ => rfl
  case accumulator =>
    intro s w x m disp u o r e q h htakes
    refine congrArg Host.Outcome.next ?_
    unfold State.storeA
    refine State.issue_wrs h ⟨htakes.steps, htakes.watch⟩ ?_
    have hstore : (s.atIssue w o).doStore (s.ctxOf w o) (fA x) e.1 8 q.1 e.2 = (u.wrs (s.ctxOf w o) (baseWrites e.2), .next) :=
      htakes.doStore
    rw [State.wrs_append, ← State.orSat_eq_wrs]
    dsimp only
    split
    · next hnext =>
      cases hnext.symm.trans hstore
      rfl
    · next hwaits => cases hwaits.symm.trans hstore
    · next hnot _ => exact absurd hstore (hnot _)

end Sys2Proof.Machine
end

section
/-! SUPPORT. O10: operations that start in a long unit (R267, R308). -/

namespace Sys2Proof.Machine

/-- A long unit that is free, with results that nothing waits for, takes the operation. -/
theorem State.startLong_free {s : State} {c : Ctx} {unit cycles : Nat} {results : List (Nat × Nat)}
    (hunit : ((s.pair c.p).longs.any fun e => e.unit == unit) = false) (hfree : (results.any fun e => s.lBusy c.p e.1) = false) :
    s.startLong c unit cycles results = (s.setPair c.p { s.pair c.p with
      longs := (s.pair c.p).longs ++ [⟨unit, results, s.coreCycle c.p + cycles, false⟩] }, .next) := by
  simp only [State.startLong, hunit, hfree, Bool.or_self, Bool.false_eq_true, if_false]

theorem State.Quiet.setLongs {u : State} {p : Nat} (h : u.Quiet p) (l : List LongOp) :
    (u.setPair p { u.pair p with longs := l }).Quiet p :=
  .setPair h.steps h.watch

/-- A row that starts the operation `res` of the registers it reads. -/
theorem rowLong_of_startLong {i : Instr} {w : WOp} {o : IOp} {unit cycles : Nat} {res : Regs → List (Nat × Nat)}
    {run : State → Ctx → State × Flow} (hi : ∀ s, exec i s = .next (s.issue w o run))
    (hr : ∀ s c, run s c = s.startLong c unit cycles (res (c.regs s))) : RowLong i w o unit cycles res := by
  intro s h u x hunit hfree
  refine (hi s).trans (congrArg Host.Outcome.next (State.issue_ends h (h.quiet.setLongs _) ?_))
  exact (hr u (s.ctxOf w o)).trans (State.startLong_free hunit hfree)

/-- MV3 where nothing keeps it from its nine words: it starts with its three rows (R308). -/
theorem State.startMv3_reads {s t u : State} {w : WOp} {c : Ctx} {x y : Nat} {m : List Nat}
    (hfree : (((s.pair c.p).longs.any fun e => e.unit == 4) || [fD x, fD x + 1, fD x + 2].any (s.lBusy c.p)) = false)
    (hlimit : s.belowLimit c.p (fA x) ((c.regs s).gr (fA x)) = false)
    (hbad : s.mv3Bad c ((c.regs s).gr (fA x)) = (t, none))
    (hwords : t.matrixAt c ((c.regs s).gr (fA x)) 9 t [] = (u, .inr m))
    (hwatch : u.watchHit c.p ((c.regs s).gr (fA x)) 36 true false = none) :
    let r := c.regs s
    let row := fun i => rowQ (rndOf w 0) ((m.drop (3 * i)).take 3) [r.gr (fB y), r.gr (fB y + 1), r.gr (fB y + 2)]
    s.startMv3 w c x y = u.startLong c 4 12 [(fD x, row 0), (fD x + 1, row 1), (fD x + 2, row 2)] := by
  unfold State.startMv3
  dsimp only
  rw [if_neg (ne_true_of_eq_false hfree), if_neg (ne_true_of_eq_false hlimit), hbad]
  dsimp only
  rw [hwords]
  dsimp only
  rw [State.noteWatch_none hwatch]

/-- Settles O10: each unit by the operation that it takes, MV3 once its nine words are read. -/
theorem longUnits : Obligations.LongUnits := by
  unfold Obligations.LongUnits
  refine ⟨?div, ?divu, ?divq, ?sqrt, ?recip, ?sincos, ?mv3⟩
  case div => exact fun _ _ _ => rowLong_of_startLong (fun _ => rfl) fun _ _ => rfl
  case divu => exact fun _ _ _ => rowLong_of_startLong (fun _ => rfl) fun _ _ => rfl
  case divq => exact fun _ _ _ => rowLong_of_startLong (fun _ => rfl) fun _ _ => rfl
  case sqrt => exact fun _ _ => rowLong_of_startLong (fun _ => rfl) fun _ _ => rfl
  case recip => exact fun _ _ => rowLong_of_startLong (fun _ => rfl) fun _ _ => rfl
  case sincos => exact fun _ _ => rowLong_of_startLong (fun _ => rfl) fun _ _ => rfl
  case mv3 =>
    intro s t u w x y m o r c va d v row free h hfree hlimit hbad hwords hwatch hstill hsteps hdbg
    obtain ⟨hunit, hregs⟩ := Bool.or_eq_false_iff.mp hstill
    have hquiet : u.Quiet w.pair := ⟨hsteps, hdbg⟩
    refine congrArg Host.Outcome.next (State.issue_ends h (hquiet.setLongs _) ?_)
    exact (State.startMv3_reads (c := c) hfree hlimit hbad hwords hwatch).trans (State.startLong_free (c := c) hunit hregs)

end Sys2Proof.Machine
end

section
/-! SUPPORT. O11: the long resumable instructions between their points (R284, R309). -/

namespace Sys2Proof.Machine

/-- What the portion leaves as its elements are counted: the cycles that they take. -/
theorem State.Quiet.lrResult {u : State} {c : Ctx} (h : u.Quiet c.p) (d v : Nat) : (u.lrResult c d v).Quiet c.p :=
  State.Quiet.wr (c := { c with d := (u.pair c.p).dist }) h 0 d v

/-- A count that is not 0 and within the limit lets the instruction go on from PROG. -/
theorem State.lrStart_goes {s : State} {c : Ctx} {n limit : Nat} {none_ : State → State} {go : State → Nat → State × Flow} (hn : n ≠ 0)
    (hlimit : n ≤ limit) : s.lrStart c n limit none_ go = go s (c.regs s).prog := by
  simp only [State.lrStart, if_neg (Nat.not_lt.mpr hlimit), if_neg hn]

section
variable {s u : State} {w : WOp} {o : IOp} {run : State → Ctx → State × Flow} {n k k₀ cyc : Nat} {progOf : Nat → Nat}
  {step : State → Nat → State × Elem} {fin : State → Option Nat → State}

/-- What `lrDone` leaves is quiet where its result is. -/
theorem State.Quiet.lrDone {f : State → State} (hq : u.Quiet w.pair) (hf : ∀ z : State, z.Quiet w.pair → (f z).Quiet w.pair) (m : Nat) :
    (s.lrDone w o u m cyc f).Quiet w.pair := by
  have hcycles : (u.setPair w.pair { u.pair w.pair with dist := (s.ctxOf w o).d + max 1 (m * cyc) - 1 }).Quiet w.pair :=
    .setPair hq.steps hq.watch
  have hprog := (hf _ hcycles).updR fun g => { g with prog := 0 }
  exact .setPair hprog.steps hprog.watch

/-- The instruction whose elements are all done completes. -/
theorem State.issue_runLr_done (h : s.Issues w o)
    (hr : run (s.atIssue w o) (s.ctxOf w o) = (s.atIssue w o).runLr (s.ctxOf w o) n k₀ cyc progOf step fin)
    (hloop : lrLoop (lrElem w.pair step) n ((s.atIssue w o).lrFuel w.pair) ((s.atIssue w o).lrResume w.pair) k₀ = (u, k, .more))
    (hq : u.Quiet w.pair) (hfin : ∀ z : State, z.Quiet w.pair → (fin z none).Quiet w.pair) (hk : n ≤ k) :
    s.issue w o run = s.ends w o (s.lrDone w o u (k - k₀) cyc fun z => fin z none) [] := by
  refine State.issue_ends h (hq.lrDone hfin _) (hr.trans ?_)
  simp only [State.runLr, State.ctxOf_p, hloop, if_neg (Nat.not_lt.mpr hk)]
  rfl

/-- The instruction that has found its result completes with it. -/
theorem State.issue_runLr_stop {v : Nat} (h : s.Issues w o)
    (hr : run (s.atIssue w o) (s.ctxOf w o) = (s.atIssue w o).runLr (s.ctxOf w o) n k₀ cyc progOf step fin)
    (hloop : lrLoop (lrElem w.pair step) n ((s.atIssue w o).lrFuel w.pair) ((s.atIssue w o).lrResume w.pair) k₀ = (u, k, .stop v))
    (hq : u.Quiet w.pair) (hfin : ∀ z : State, z.Quiet w.pair → (fin z (some v)).Quiet w.pair) :
    s.issue w o run = s.ends w o (s.lrDone w o u (k - k₀) cyc fun z => fin z (some v)) [] := by
  refine State.issue_ends h (hq.lrDone hfin _) (hr.trans ?_)
  simp only [State.runLr, State.ctxOf_p, hloop]
  rfl

/-- The instruction with elements left stands at its 16-element point. -/
theorem State.issue_runLr_point (h : s.Issues w o)
    (hr : run (s.atIssue w o) (s.ctxOf w o) = (s.atIssue w o).runLr (s.ctxOf w o) n k₀ cyc progOf step fin)
    (hloop : lrLoop (lrElem w.pair step) n ((s.atIssue w o).lrFuel w.pair) ((s.atIssue w o).lrResume w.pair) k₀ = (u, k, .more))
    (hq : u.Quiet w.pair) (hk : k < n) : s.issue w o run = s.lrStands w o u (k - k₀) cyc (progOf k) := by
  have hpoint : (s.atIssue w o).runLr (s.ctxOf w o) n k₀ cyc progOf step fin = (u.setPair w.pair { u.pair w.pair with
      dist := (s.ctxOf w o).d + max 1 ((k - k₀) * cyc) - 1
      r := { (u.pair w.pair).r with prog := progOf k }
      lrs := {} }, .again) := by
    simp only [State.runLr, State.ctxOf_p, hloop, if_pos hk, State.updR, State.setLrs, State.pair_setPair, State.setPair_setPair]
  rw [State.issue_again h (hr.trans hpoint) (.setPair hq.steps hq.watch), State.pair_setPair, State.setPair_setPair]
  rfl

end

/-- A row that does its elements by `runLr`. -/
theorem rowLr_of_runLr {i : Instr} {w : WOp} {o : IOp} {nOf : Regs → Nat} {limit cyc : Nat} {start : State → Prop}
    {elem : Ctx → Regs → State → Nat → State × Elem} {fin : Ctx → Nat → State → State} {run : State → Ctx → State × Flow}
    {result : Ctx → Nat → State → Option Nat → State} (hi : ∀ s, exec i s = .next (s.issue w o run))
    (hr : ∀ s : State, nOf (s.reads w o) ≠ 0 → nOf (s.reads w o) ≤ limit → start (s.atIssue w o) →
      run (s.atIssue w o) (s.ctxOf w o) = (s.atIssue w o).runLr (s.ctxOf w o) (nOf (s.reads w o)) (bits (s.reads w o).prog 0 24) cyc prog24
        (elem (s.ctxOf w o) (s.reads w o)) (result (s.ctxOf w o) (nOf (s.reads w o))))
    (hnone : ∀ c n z, result c n z none = fin c n z)
    (hfin : ∀ (c : Ctx) (n : Nat) (z : State), z.Quiet c.p → (fin c n z).Quiet c.p) : RowLr i w o nOf limit cyc start elem fin := by
  intro s u k r c n k₀ t h hn hlimit hstart hloop hsteps hwatch
  have hrun := hr s hn hlimit hstart
  refine ⟨fun hk => (hi s).trans (congrArg Host.Outcome.next ?_), fun hk => (hi s).trans (congrArg Host.Outcome.next ?_)⟩
  · rw [State.issue_runLr_done h hrun hloop ⟨hsteps, hwatch⟩ (fun z hz => hnone c n z ▸ hfin c n z hz) hk]
    simp only [hnone]
    rfl
  · exact State.issue_runLr_point h hrun hloop ⟨hsteps, hwatch⟩ hk

/-- Settles O11: each instruction by the portion of its elements that `runLr` does. -/
theorem longResumable : Obligations.LongResumable := by
  unfold Obligations.LongResumable
  refine ⟨?bmov, ?bfill, ?tsrch, ?found, ?mvm, ?sortk⟩
  case bmov =>
    exact fun w x n => rowLr_of_runLr (result := fun _ _ s _ => s) (fun _ => rfl) (fun s hn hlimit _ => State.lrStart_goes hn hlimit)
      (fun _ _ _ => rfl) fun _ _ _ hz => hz
  case bfill =>
    exact fun w x n => rowLr_of_runLr (result := fun _ _ s _ => s) (fun _ => rfl) (fun s hn hlimit _ => State.lrStart_goes hn hlimit)
      (fun _ _ _ => rfl) fun _ _ _ hz => hz
  case tsrch =>
    exact fun w x n => rowLr_of_runLr (result := fun c m s i => s.lrResult c (fD x) (i.getD m)) (fun _ => rfl)
      (fun s hn hlimit _ => State.lrStart_goes hn hlimit) (fun _ _ _ => rfl) fun _ _ _ hz => hz.lrResult _ _
  case found =>
    intro s u w x n k v o r c k₀ h hn hlimit hloop hsteps hwatch
    exact congrArg Host.Outcome.next (State.issue_runLr_stop (fin := fun z i => z.lrResult c (fD x) (i.getD (r.gr (fN n)))) h
      (State.lrStart_goes hn hlimit) hloop ⟨hsteps, hwatch⟩ fun z hz => State.Quiet.lrResult (c := c) hz _ _)
  case mvm =>
    exact fun w x n => rowLr_of_runLr (result := fun _ _ s _ => s) (fun _ => rfl)
      (fun s hn hlimit hstart => (State.lrStart_goes hn hlimit).trans (if_neg (ne_true_of_eq_false hstart)))
      (fun _ _ _ => rfl) fun _ _ _ hz => hz
  case sortk =>
    intro s u w x n k o r c m passes total k₀ h hn hlimit hloop hsteps hwatch
    have hrun : (s.atIssue w o).lrStart c m 65536 id (fun z j => z.lrSortk c (fD x) (fA x) m j) =
        (s.atIssue w o).runLr c total k₀ 2 (fun e => e % m + 2 ^ 24 * (e / m)) (fun z e => z.sortStep c (fD x) (fA x) m passes e)
          fun z _ => z := State.lrStart_goes hn hlimit
    refine ⟨fun hk => congrArg Host.Outcome.next ?_, fun hk => congrArg Host.Outcome.next ?_⟩
    · exact State.issue_runLr_done (fin := fun z _ => z) h hrun hloop ⟨hsteps, hwatch⟩ (fun z hz => hz) hk
    · exact State.issue_runLr_point (progOf := fun e => e % m + 2 ^ 24 * (e / m)) h hrun hloop ⟨hsteps, hwatch⟩ hk

end Sys2Proof.Machine
end

section
/-! SUPPORT. O13: the entry of an exception's vector, TRAP and RETT (R262, R278, R352). -/

namespace Sys2Proof.Machine

/-! ### Completed writes -/

/-- A completed write leaves the mode, EXL and MCL: it touches no bit of the PSW below bit 16 (R258). -/
theorem Regs.write_psw_low (r : Regs) (t v : Nat) {j : Nat} (h : j < 16) : bit (r.write t v).psw j = bit r.psw j := by
  unfold Regs.write
  split_ifs
  case _ => rfl
  case _ => rfl
  case _ => rfl
  case _ => exact bit_setBits_below h
  case _ => exact bit_setBits_below (by omega)
  case _ => exact bit_setBits_below (by omega)
  all_goals rfl

/-- What every completed write leaves, the drained pair leaves too. -/
theorem PairSt.drain_keeps {α : Type} (x : PairSt) {f : Regs → α} (h : ∀ (r : Regs) (t v : Nat), f (r.write t v) = f r) :
    f x.drain.r = f x.r := by
  suffices hfold : ∀ (l : List PWrite) (r : Regs), f (l.foldl (fun r w => r.write w.target w.value) r) = f r from hfold x.pw x.r
  intro l
  induction l with
  | nil => exact fun _ => rfl
  | cons e l ih => exact fun r => (ih _).trans (h _ _ _)

theorem PairSt.drain_exl (x : PairSt) : x.drain.r.exl = x.r.exl :=
  x.drain_keeps (f := Regs.exl) fun r t v => r.write_psw_low t v (by decide)

/-! ### The entry of a vector (R278) -/

/-- The PSW in the vector of an exception: supervisor mode and EXL. -/
def entryPsw (psw : Nat) : Nat := setBit (setBits psw 0 2 1) 3 true

theorem entryPsw_shows (psw : Nat) : bit (entryPsw psw) 3 = true ∧ bits (entryPsw psw) 0 2 = 1 := by
  refine ⟨bit_setBit_true _ _, ?_⟩
  rw [entryPsw, setBit, bits_setBits_below (by decide), bits_setBits]
  rfl

/-- The registers of a pair that enters the vector of cause `c`, with EPC `pc`. -/
def Regs.vectorEntry (r : Regs) (c : Cause) (pc : Nat) : Regs :=
  let saved := ((r.setSys48 0x00 pc).setSys 0x02 r.psw).setSys 0x03 c.word
  { saved with psw := entryPsw r.psw, pc := c.vec }

theorem Regs.vectorEntry_saves (r : Regs) (c : Cause) (pc : Nat) :
    (r.vectorEntry c pc).sys48 0x00 = pc % 2 ^ 48 ∧ (r.vectorEntry c pc).sysr 0x02 = r.psw % 2 ^ 32 := by
  let saved := ((r.setSys48 0x00 pc).setSys 0x02 r.psw).setSys 0x03 c.word
  have hsys : ∀ n, (r.vectorEntry c pc).sysr n = saved.sysr n := fun _ => rfl
  have hepc : ∀ n < 2, saved.sysr n = (r.setSys48 0x00 pc).sysr n := fun n hn => by
    rw [Regs.sysr_setSys_ne _ _ (by omega), Regs.sysr_setSys_ne _ _ (by omega)]
  refine ⟨?_, ?_⟩
  · rw [← r.sys48_setSys48 0x00 pc, Regs.sys48, Regs.sys48, hsys, hsys, hepc _ (by decide), hepc _ (by decide)]
  · rw [hsys, Regs.sysr_setSys_ne _ _ (by decide), Regs.sysr_setSys]

theorem Regs.vectorEntry_shows (r : Regs) (c : Cause) (pc : Nat) :
    (r.vectorEntry c pc).pc = c.vec ∧ (r.vectorEntry c pc).psw = entryPsw r.psw ∧ (r.vectorEntry c pc).g = r.g := ⟨rfl, rfl, rfl⟩

/-- A pair outside an exception enters the vector of a cause without an address. -/
theorem State.exception_enters {s : State} {p : Nat} {c : Cause} (pc : Nat) (h : (s.pair p).drain.r.exl = false) (hc : c.addr = none) :
    s.exception p c pc = s.setPair p { (s.pair p).drain with r := (s.pair p).drain.r.vectorEntry c pc, unb := none, inLr := false } := by
  simp only [State.exception, h, hc, Bool.false_eq_true, if_false]
  rfl

theorem State.exception_shows {s : State} {p : Nat} {c : Cause} (pc : Nat) (h : (s.pair p).drain.r.exl = false) (hc : c.addr = none) :
    let t := s.exception p c pc
    let r := (t.pair p).r
    let x := (s.pair p).drain
    r.pc = c.vec ∧ r.sys48 0x00 = pc % 2 ^ 48 ∧ r.sysr 0x02 = x.r.psw % 2 ^ 32 ∧ r.psw = entryPsw x.r.psw ∧ r.g = x.r.g ∧
      t.mem = s.mem := by
  obtain ⟨hepc, hepsw⟩ := (s.pair p).drain.r.vectorEntry_saves c pc
  obtain ⟨hpc, hpsw, hg⟩ := (s.pair p).drain.r.vectorEntry_shows c pc
  dsimp only
  rw [State.exception_enters pc h hc, State.pair_setPair]
  exact ⟨hpc, hepc, hepsw, hpsw, hg, rfl⟩

theorem State.Quiet.exception {u : State} {p : Nat} {c : Cause} (hq : u.Quiet p) (pc : Nat) (h : (u.pair p).drain.r.exl = false)
    (hc : c.addr = none) : (u.exception p c pc).Quiet p := by
  rw [State.exception_enters pc h hc]
  exact .setPair hq.steps hq.watch

/-- A quiet pair owes no debug entry at the end of an instruction. -/
theorem State.Quiet.dbgAfter {u : State} {p : Nat} (h : u.Quiet p) : u.dbgAfter p = u := by
  simp only [State.dbgAfter, h.watch, State.stepped, h.steps, Bool.false_eq_true, if_false]

/-! ### RETT (R262, R278, R352) -/

/-- A saved PSW whose mode exists is restored as it is. -/
theorem State.retPsw_mode (s : State) {w : Nat} (h : bits (pswFix w) 0 2 ≠ 3) : s.retPsw w = (pswFix w, s) := if_neg h

@[simp] theorem State.pair_setLog (s : State) (p : Nat) (x : PairSt) : (s.setLog p x).pair p = x := State.pair_setPair _ _ _

theorem State.Quiet.startReplay {u : State} {p : Nat} (h : u.Quiet p) : (u.startReplay p).Quiet p := by
  unfold State.startReplay
  dsimp only
  split
  · constructor <;> simp [h.steps, h.watch]
  · exact h

/-- The state from which RETT jumps: every earlier write complete, and the PSW restored from system register `n`. -/
def State.pswRestored (s : State) (p n : Nat) : State :=
  let x := (s.pair p).drain
  s.setPair p { x with r := { x.r with psw := pswFix (x.r.sysr n) } }

theorem State.Quiet.pswRestored {u : State} {p : Nat} (h : u.Quiet p) (n : Nat) : (u.pswRestored p n).Quiet p := .setPair h.steps h.watch

/-- The effect of RETT, by MCL. -/
def rettRun (s : State) (c : Ctx) : State × Flow :=
  let t := s.setPair c.p (s.pair c.p).drain
  let r := (t.pair c.p).r
  let q := t.retPsw (r.sysr (if r.mcl then 0x0A else 0x02))
  let u := q.2.updR c.p fun r => { r with psw := q.1 }
  (if r.mcl then u.startReplay c.p else u, .jump (r.sys48 (if r.mcl then 0x08 else 0x00)))

theorem rettRun_exception {s : State} {c : Ctx} (hmcl : (s.pair c.p).drain.r.mcl = false)
    (hmode : bits (pswFix ((s.pair c.p).drain.r.sysr 0x02)) 0 2 ≠ 3) :
    rettRun s c = (s.pswRestored c.p 0x02, .jump ((s.pair c.p).drain.r.sys48 0x00)) := by
  simp only [rettRun, State.pair_setPair, hmcl, Bool.false_eq_true, if_false, State.retPsw_mode _ hmode, State.updR,
    State.setPair_setPair]
  rfl

theorem rettRun_machineCheck {s : State} {c : Ctx} (hmcl : (s.pair c.p).drain.r.mcl = true)
    (hmode : bits (pswFix ((s.pair c.p).drain.r.sysr 0x0A)) 0 2 ≠ 3) :
    rettRun s c = ((s.pswRestored c.p 0x0A).startReplay c.p, .jump ((s.pair c.p).drain.r.sys48 0x08)) := by
  simp only [rettRun, State.pair_setPair, hmcl, if_true, State.retPsw_mode _ hmode, State.updR, State.setPair_setPair]
  rfl

/-- Settles O13: TRAP by the entry of its vector, RETT by what it restores. -/
theorem trapAndReturn : Obligations.TrapAndReturn := by
  unfold Obligations.TrapAndReturn
  refine ⟨?trap, ?exception, ?machineCheck⟩
  case trap =>
    intro s w k o x h hexl
    let c := s.ctxOf w o
    have hquiet := h.quiet.exception (c := { vec := 0x400 + 16 * k, slot := c.slot, len := c.len }) c.next hexl rfl
    exact ⟨_, congrArg Host.Outcome.next ((State.issue_entered h rfl).trans hquiet.dbgAfter), State.exception_shows _ hexl rfl⟩
  case exception =>
    intro s w o x h hmcl hmode
    have hquiet := h.quiet.pswRestored 0x02
    exact congrArg Host.Outcome.next (State.issue_jump h (rettRun_exception hmcl hmode) hquiet.steps hquiet.watch)
  case machineCheck =>
    intro s w o x h hmcl hmode
    have hquiet := (h.quiet.pswRestored 0x0A).startReplay
    exact congrArg Host.Outcome.next (State.issue_jump h (rettRun_machineCheck hmcl hmode) hquiet.steps hquiet.watch)

end Sys2Proof.Machine
end

section
/-! SUPPORT. O9, O12 and O14: a pair that runs beside a tile whose SRAM is frozen (R321). -/

namespace Sys2Proof.Machine

/-- Tiles 0 and 1 have power, and core pair 0, out of reset and released from HOLD, holds `x`; ARB_FRZ of tile 1's SRAM is set. -/
def besideFrozen (x : PairSt) : State :=
  { (((State.reset.setF pgPWRD (F.PWRD_ON_ON 0) 0xF).setFlag (pgCORE 0) F.CORE_CTRL_HOLD false).setFlag (pgTSRAM 1)
      F.TSRAM_ARB_FRZ_FREEZE true).setPair 0 x with pwr.ready := List.range 4 }

/-- A pair with translation on that goes on at `pc`, each register holding 0x1000: page 0 of its addresses lies in its own tile's SRAM,
and page 1 in tile 1's, both of them to be read, written and executed. -/
def twoPages (pc : Nat) : PairSt :=
  { r := { g := List.replicate 16 0x1000, pc := pc, sys := [(0x20, 1)] }
    tlb := [⟨0, true, 0, 12, 0x1000001F, 3⟩, ⟨0, true, 1, 12, 0x1020001F, 3⟩] }

/-! ### An atomic on frozen memory (R271, R321) -/

/-- An aligned atomic whose word lies in frozen memory freezes its pair. -/
theorem State.doAtomic_frozen {s t : State} {c : Ctx} {base va size kind dest v cmp pa : Nat} (halign : va % size = 0)
    (hlimit : s.belowLimit c.p base va = false) (hwalk : s.walkWaits c.p va = false)
    (htrans : s.translate c.p va 3 c.user = (t, .inr pa)) (hfrozen : t.memFrozen pa = true) :
    s.doAtomic c base va size kind dest v cmp = (t, .frozen true) := by
  simp [State.doAtomic, halign, hlimit, hwalk, htrans, hfrozen]

/-- XCHG of G2 with the word that G2 names, behind LOCK. -/
def lockedOp : WOp := ⟨0, [0xE8]⟩

def xchgOp : IOp := opAtomic lockedOp false 0x22 0 none

def beforeXchg : State := besideFrozen (twoPages 0)

theorem beforeXchg_issues : beforeXchg.Issues lockedOp xchgOp where
  runs := by decide
  idle := by decide
  thawed := by decide
  free := by decide
  fetch := by decide
  steps := by decide
  watch := by decide
  legal := by decide
  allowed := by decide

/-- What the translation of the exchange's address answers, and the state that it leaves. -/
def xchgTranslated : State × (Nat ⊕ Nat) := (beforeXchg.atIssue lockedOp xchgOp).translate 0 0x1000 3 false

theorem xchg_translates : xchgTranslated = (xchgTranslated.1, .inr 0x10200000) :=
  Prod.ext rfl (by decide)

theorem exec_xchg_frozen : exec (.iXchg lockedOp false 0x22 0 0) beforeXchg = .next (beforeXchg.satF (pgCORE 0) F.CORE_PERF0_MEMWAIT) := by
  refine congrArg Host.Outcome.next ?_
  unfold State.atomicI
  exact State.issue_frozen beforeXchg_issues (mem := true)
    (State.doAtomic_frozen (by decide) (by decide) (by decide) xchg_translates (by decide))

/-- Refutes O9: the statement asks nothing of the memory that the word lies in, but an atomic on frozen memory waits (R321), as
`beforeXchg` shows. -/
theorem not_atomics : ¬ Obligations.Atomics := by
  unfold Obligations.Atomics
  rintro ⟨xchg, -⟩
  let locked := xchgTranslated.1.lockedAccess 0 0x10200000 4 1 0x1000 0x1000
  have hlocked : locked = (locked.1, 0, 0) := Prod.ext rfl (by decide)
  obtain ⟨z, b, hexec, -, hunb, -⟩ := xchg lockedOp false 0x22 0 0 beforeXchg xchgTranslated.1 locked.1 0x10200000 0
    beforeXchg_issues (by decide) (by decide) xchg_translates (by decide) (by decide) hlocked
  rw [← Host.Outcome.next.inj (exec_xchg_frozen.symm.trans hexec)] at hunb
  have hidle : ((beforeXchg.satF (pgCORE 0) F.CORE_PERF0_MEMWAIT).pair 0).unb = none := by decide
  exact nomatch hidle.symm.trans hunb

/-! ### A TLBI behind a store to frozen memory (R273, R321, R327) -/

/-- An instruction of pair 0 without a prefix. -/
def plainOp : WOp := ⟨0, []⟩

/-- MTS of G1 to TLBI. -/
def tlbiOp : IOp :=
  { bytes := 2, esc := true, priv := true, mon := decide (0x40 ≤ 0x24), solo := true, ok := fD 0x10 == 0 && sysListed 0x24 }

/-- The pair's store buffer holds a word for tile 1's SRAM. -/
def beforeTlbi : State := besideFrozen { sb := [⟨0x10200000, 4, 1⟩] }

theorem beforeTlbi_issues : beforeTlbi.Issues plainOp tlbiOp where
  runs := by decide
  idle := by decide
  thawed := by decide
  free := by decide
  fetch := by decide
  steps := by decide
  watch := by decide
  legal := by decide
  allowed := by decide

/-- What TLBI invalidates its entries in: every earlier write is complete, and the store buffer has drained as far as it can. -/
def tlbiDrained : State :=
  let u := beforeTlbi.atIssue plainOp tlbiOp
  (u.setPair 0 (u.pair 0).drain).drainAll 0

theorem exec_tlbi_frozen : exec (.iMts plainOp 0x10 0x24) beforeTlbi = .next (beforeTlbi.satF (pgCORE 0) F.CORE_PERF0_MEMWAIT) := by
  have hkept : ¬(tlbiDrained.pair 0).sb.isEmpty = true := by decide
  have hrun : (if (tlbiDrained.pair 0).sb.isEmpty = true then (tlbiDrained.tlbi 0 0, Flow.next) else (tlbiDrained, Flow.frozen true)) =
      (tlbiDrained, .frozen true) := if_neg hkept
  exact congrArg Host.Outcome.next (State.issue_frozen (mem := true) beforeTlbi_issues hrun)

/-- Refutes O12: the statement has TLBI complete whatever the store buffer holds, but a store to frozen memory stays in the buffer, and
TLBI waits for it (R321, R327), as `beforeTlbi` shows. -/
theorem not_systemInstructions : ¬ Obligations.SystemInstructions := by
  unfold Obligations.SystemInstructions
  rintro ⟨-, mts, -⟩
  have hexec := (mts beforeTlbi plainOp 0x10 0x24 beforeTlbi_issues).2 rfl (by decide) (by decide)
  have hpc := congrArg (fun t => (State.pair t 0).r.pc) (Host.Outcome.next.inj (exec_tlbi_frozen.symm.trans hexec))
  exact absurd hpc (by decide)

/-! ### An opcode behind an escape (R289, R312, R321) -/

/-- The pair stands at the last byte of page 0. -/
def beforeEscape : State := besideFrozen (twoPages 0xFFF)

theorem beforeEscape_fetches : beforeEscape.Fetches plainOp { bytes := 0, ok := false, undef := true } where
  runs := by decide
  idle := by decide
  thawed := by decide
  free := by decide
  fetch := by decide
  steps := by decide
  watch := by decide

/-- A pair whose fetch waits stays as it is (R321). -/
theorem State.issue_waiting {s : State} {w : WOp} {o : IOp} {run : State → Ctx → State × Flow} (h : s.issueWaits w o = true) :
    s.issue w o run = s := if_pos (.inr (.inr h))

/-- The opcode byte behind escape 0xF0 lies in frozen memory: its fetch waits. -/
theorem exec_escape_frozen : exec (.undefinedOpcode plainOp 0xF0 0) beforeEscape = .next beforeEscape := by
  have hwaits : beforeEscape.issueWaits plainOp { bytes := 0, esc := true, ok := false, undef := true } = true := by decide
  exact congrArg Host.Outcome.next (State.issue_waiting hwaits)

/-- Refutes O14: the statement has an undefined opcode fetched as one byte, but behind the escapes 0xF0 to 0xF2 an opcode byte is fetched
too (R289, R312), and that fetch waits while its memory is frozen (R321), as `beforeEscape` shows. -/
theorem not_breakAndIllegal : ¬ Obligations.BreakAndIllegal := by
  unfold Obligations.BreakAndIllegal
  rintro ⟨-, -, -, undefined⟩
  obtain ⟨t, hexec, hpc, -⟩ := undefined beforeEscape plainOp 0xF0 0 beforeEscape_fetches (by decide)
  rw [← Host.Outcome.next.inj (exec_escape_frozen.symm.trans hexec)] at hpc
  exact absurd hpc (by decide)

end Sys2Proof.Machine
end

section
/-! SUPPORT. O60: what a completed write leaves of a pair's registers (R258). -/

namespace Sys2Proof.Machine

/-! ### Bits above those that are replaced -/

theorem div_setBits (x lo w v : Nat) : setBits x lo w v / 2 ^ lo = v % 2 ^ w + 2 ^ w * (x / 2 ^ lo / 2 ^ w) := by
  have hx : 2 ^ lo * (x / 2 ^ lo) + x % 2 ^ lo = x := Nat.div_add_mod x (2 ^ lo)
  have hq : 2 ^ w * (x / 2 ^ lo / 2 ^ w) + x / 2 ^ lo % 2 ^ w = x / 2 ^ lo := Nat.div_add_mod _ _
  have hsplit : setBits x lo w v = x % 2 ^ lo + 2 ^ lo * (v % 2 ^ w + 2 ^ w * (x / 2 ^ lo / 2 ^ w)) := by
    have : x = x % 2 ^ lo + 2 ^ lo * (2 ^ w * (x / 2 ^ lo / 2 ^ w)) + 2 ^ lo * (x / 2 ^ lo % 2 ^ w) := by
      rw [Nat.add_assoc, ← Nat.mul_add, hq, Nat.add_comm, hx]
    unfold setBits bits
    rw [Nat.mul_add]
    omega
  rw [hsplit, Nat.add_mul_div_left _ _ (Nat.two_pow_pos lo), Nat.div_eq_of_lt (Nat.mod_lt _ (Nat.two_pow_pos lo)), Nat.zero_add]

theorem bit_setBits_above {x lo w v j : Nat} (h : lo + w ≤ j) : bit (setBits x lo w v) j = bit x j := by
  obtain ⟨d, rfl⟩ := Nat.exists_eq_add_of_le h
  have hdiv : setBits x lo w v / 2 ^ (lo + w + d) = x / 2 ^ (lo + w + d) := by
    rw [Nat.add_assoc, Nat.pow_add, Nat.pow_add, ← Nat.div_div_eq_div_mul, ← Nat.div_div_eq_div_mul, div_setBits,
      Nat.add_mul_div_left _ _ (Nat.two_pow_pos w), Nat.div_eq_of_lt (Nat.mod_lt _ (Nat.two_pow_pos w)), Nat.zero_add,
      ← Nat.div_div_eq_div_mul, ← Nat.div_div_eq_div_mul]
  rw [bit, bit, hdiv]

/-! ### One part of the registers at a time -/

theorem getD_set_ne {l : List Nat} {i j v : Nat} (h : i ≠ j) : (l.set i v).getD j 0 = l.getD j 0 := by
  rw [List.getD_eq_getElem?_getD, List.getElem?_set_ne h, List.getD_eq_getElem?_getD]

section
variable (r : Regs) (k v : Nat)

theorem Regs.write_gr {j : Nat} (h : j ≠ k) : (r.write k v).gr j = r.gr j := by
  unfold Regs.write
  split
  · exact getD_set_ne h.symm
  · split_ifs <;> rfl

theorem Regs.write_ar {j : Nat} (h : 16 + j ≠ k) : (r.write k v).ar j = r.ar j := by
  unfold Regs.write
  split_ifs
  case _ => rfl
  case _ => exact getD_set_ne (by omega)
  all_goals rfl

theorem Regs.write_am {j : Nat} (h : 20 + j ≠ k) : (r.write k v).am.getD j 0 = r.am.getD j 0 := by
  unfold Regs.write
  split_ifs
  case _ => rfl
  case _ => rfl
  case _ => exact getD_set_ne (by omega)
  all_goals rfl

/-- A write of N Z C V changes bits 16 to 19 of the PSW, and one of SAT bit 20. -/
theorem Regs.write_psw (h : k ≠ 24) : (r.write k v).psw = r.psw ∨ ((k = 25 ∨ k = 26) ∧ ∃ b, (r.write k v).psw = setBit r.psw 20 b) := by
  unfold Regs.write
  split_ifs with _ _ _ h25 h26
  case _ => exact .inl rfl
  case _ => exact .inl rfl
  case _ => exact .inl rfl
  case _ => exact .inr ⟨.inl h25, _, rfl⟩
  case _ => exact .inr ⟨.inr h26, _, rfl⟩
  all_goals exact .inl rfl

theorem Regs.write_psw_bit {j : Nat} (h : j < 16 ∨ 20 < j) : bit (r.write k v).psw j = bit r.psw j := by
  have hsides : ∀ (lo w u : Nat), 16 ≤ lo → lo + w ≤ 21 → bit (setBits r.psw lo w u) j = bit r.psw j := fun lo w u hlo hhi =>
    h.elim (fun hj => bit_setBits_below (by omega)) fun hj => bit_setBits_above (by omega)
  by_cases h24 : k = 24
  · subst h24
    exact hsides 16 4 v (by decide) (by decide)
  · rcases r.write_psw k v h24 with hsame | ⟨-, b, hsat⟩
    · rw [hsame]
    · rw [hsat]
      exact hsides 20 1 _ (by decide) (by decide)

theorem Regs.write_nzcv (h : k ≠ 24) : bits (r.write k v).psw 16 4 = bits r.psw 16 4 := by
  rcases r.write_psw k v h with hsame | ⟨-, b, hsat⟩
  · rw [hsame]
  · rw [hsat]
    exact bits_setBits_below (by decide)

theorem Regs.write_sat (h25 : k ≠ 25) (h26 : k ≠ 26) : bit (r.write k v).psw 20 = bit r.psw 20 := by
  by_cases h24 : k = 24
  · subst h24
    exact bit_setBits_above (by decide)
  · rcases r.write_psw k v h24 with hsame | ⟨hk, -⟩
    · rw [hsame]
    · omega

theorem Regs.write_lc0 (h : k ≠ 27) : (r.write k v).lc0 = r.lc0 := by
  unfold Regs.write
  split_ifs <;> rfl

theorem Regs.write_lc0e (h : k ≠ 28) : (r.write k v).lc0e = r.lc0e := by
  unfold Regs.write
  split_ifs <;> rfl

theorem Regs.write_lc1 (hk : k < 30) (h : k ≠ 29) : (r.write k v).lc1 = r.lc1 := by
  have hlast : ¬(¬k < 16 ∧ ¬k < 20 ∧ ¬k < 24 ∧ k ≠ 24 ∧ k ≠ 25 ∧ k ≠ 26 ∧ k ≠ 27 ∧ k ≠ 28) := by omega
  unfold Regs.write
  split_ifs
  case _ => rfl
  case _ => rfl
  case _ => rfl
  case _ => rfl
  case _ => rfl
  case _ => rfl
  case _ => rfl
  case _ => rfl
  case _ h1 h2 h3 h4 h5 h6 h7 h8 => exact absurd ⟨h1, h2, h3, h4, h5, h6, h7, h8⟩ hlast

/-- No write at a distance reaches the L registers, the PC, the loop's bounds, PROG or a system register. -/
theorem Regs.write_rest : (r.write k v).l = r.l ∧ (r.write k v).pc = r.pc ∧ (r.write k v).ls = r.ls ∧ (r.write k v).le = r.le ∧
    (r.write k v).prog = r.prog ∧ (r.write k v).sys = r.sys := by
  unfold Regs.write
  split_ifs <;> exact ⟨rfl, rfl, rfl, rfl, rfl, rfl⟩

end

end Sys2Proof.Machine
end

section
/-! SUPPORT. O60: what issuing an instruction leaves of the block (R254, R255, R326). -/

namespace Sys2Proof.Machine

/-- The state without the registers, the notes of the cycle and the core pairs. -/
def State.pairFrame (s : State) : State := { s with regs := [], hw := {}, core := {} }

/-- `t` differs from `s` in pair `p`, in the pages of that pair and of its tile's MMU, and in the notes of the cycle alone; of the pair, the
store buffer is as it was, and the long operations but for what the last checkpoint found pending. -/
structure State.PairOnly (p : Nat) (s t : State) : Prop where
  rest : t.pairFrame = s.pairFrame
  others : ∀ q, q ≠ p → t.pair q = s.pair q
  regs : ∀ k, k / 0x40000 ≠ pgCORE p / 0x1000 → k / 0x40000 ≠ pgMMU (p / 2) / 0x1000 → SMap.get? t.regs k = SMap.get? s.regs k
  sb : (t.pair p).sb = (s.pair p).sb
  longs : ((t.pair p).longs.map fun e => { e with inCk := false }) = ((s.pair p).longs.map fun e => { e with inCk := false })

section
variable {p : Nat} {s t u : State}

theorem State.PairOnly.refl (p : Nat) (s : State) : State.PairOnly p s s := ⟨rfl, fun _ _ => rfl, fun _ _ _ => rfl, rfl, rfl⟩

theorem State.PairOnly.trans (h : State.PairOnly p s t) (k : State.PairOnly p t u) : State.PairOnly p s u :=
  ⟨k.rest.trans h.rest, fun q hq => (k.others q hq).trans (h.others q hq),
    fun n hc hm => (k.regs n hc hm).trans (h.regs n hc hm), k.sb.trans h.sb, k.longs.trans h.longs⟩

/-- The pair takes a state with the same store buffer and long operations. -/
theorem State.PairOnly.setPair {x : PairSt} (hsb : x.sb = (s.pair p).sb)
    (hlongs : (x.longs.map fun e => { e with inCk := false }) = ((s.pair p).longs.map fun e => { e with inCk := false })) :
    State.PairOnly p s (s.setPair p x) :=
  ⟨rfl, fun _ hq => s.pair_setPair_other x hq, fun _ _ _ => rfl, by rw [State.pair_setPair, hsb], by rw [State.pair_setPair, hlongs]⟩

theorem fkey_page {b : Nat} {f : Fld} (hb : b % 0x1000 = 0) (hoff : f.off < 0x1000) (hlo : f.lo < 64) : fkey b f / 0x40000 = b / 0x1000 := by
  unfold fkey
  omega

theorem pgCORE_aligned (p : Nat) : pgCORE p % 0x1000 = 0 := by
  unfold pgCORE tileBase
  omega

theorem pgMMU_aligned (t : Nat) : pgMMU t % 0x1000 = 0 := by
  unfold pgMMU tileBase
  omega

/-- A field of the pair's page is set. -/
theorem State.PairOnly.setCore {f : Fld} (v : Nat) (hoff : f.off < 0x1000) (hlo : f.lo < 64) :
    State.PairOnly p s (s.setF (pgCORE p) f v) :=
  ⟨rfl, fun _ _ => rfl, fun _ hc _ => SMap.get?_put_other _ _ fun hk => hc (by rw [hk, fkey_page (pgCORE_aligned p) hoff hlo]), rfl, rfl⟩

theorem State.PairOnly.setMmu {f : Fld} (v : Nat) (hoff : f.off < 0x1000) (hlo : f.lo < 64) :
    State.PairOnly p s (s.setF (pgMMU (p / 2)) f v) :=
  ⟨rfl, fun _ _ => rfl, fun _ _ hm => SMap.get?_put_other _ _ fun hk => hm (by rw [hk, fkey_page (pgMMU_aligned _) hoff hlo]), rfl, rfl⟩

theorem State.PairOnly.noteInc (p : Nat) (s : State) (b : Nat) (f : Fld) (n : Nat) : State.PairOnly p s (s.noteInc b f n) :=
  ⟨rfl, fun _ _ => rfl, fun _ _ _ => rfl, rfl, rfl⟩

theorem State.PairOnly.noteSet (p : Nat) (s : State) (b : Nat) (f : Fld) (m : Nat) : State.PairOnly p s (s.noteSet b f m) :=
  ⟨rfl, fun _ _ => rfl, fun _ _ _ => rfl, rfl, rfl⟩

end

/-! ### A checkpoint at the start of a group -/

theorem State.PairOnly.takeCheckpoint (p : Nat) (s : State) : State.PairOnly p s (s.takeCheckpoint p) := by
  have hlog : ∀ x : PairSt, State.PairOnly p (s.setPair p x) (s.setLog p x) := fun x =>
    (State.PairOnly.setCore (f := F.CORE_RLOG_LEVEL) _ (by decide) (by decide)).trans
      ((State.PairOnly.noteSet p _ _ _ _).trans (.setCore (f := F.CORE_RLOG_REPLAY) _ (by decide) (by decide)))
  unfold State.takeCheckpoint
  refine (State.PairOnly.trans (.setPair ?_ ?_) (hlog _)).trans (.setCore (f := F.CORE_CKPT_TICK_TICK) _ (by decide) (by decide))
  · rfl
  · simp

theorem State.PairOnly.checkpointNow (p : Nat) (s : State) : State.PairOnly p s (s.checkpointNow p) := by
  unfold State.checkpointNow
  dsimp only
  split_ifs
  · exact .setPair rfl rfl
  · exact .takeCheckpoint p s
  · exact .trans (.trans (.setPair (x := (s.pair p).drain) rfl rfl) (.takeCheckpoint p _))
      (.trans (.noteInc p _ _ _ _) (.setCore (f := F.CORE_RLOG_FORCED) _ (by decide) (by decide)))

/-- The pair as its group begins, with the writes complete that are due, or as it stands in a long resumable instruction. -/
theorem State.PairOnly.groupBegins (p : Nat) (s : State) (d groups : Nat) (fresh : Bool) :
    let x := s.pair p
    let t := s.setPair p { (if x.inLr then x else x.complete d) with dist := d, grp := none, groups := groups }
    State.PairOnly p s (if fresh then t.incF (pgCORE p) F.CORE_ISSUE_GROUPS else t) := by
  intro x t
  have hset : State.PairOnly p s t := by
    refine .setPair ?_ ?_
    · show (if x.inLr then x else x.complete d).sb = x.sb
      split <;> rfl
    · show (if x.inLr then x else x.complete d).longs.map _ = x.longs.map _
      split <;> rfl
  split
  · exact hset.trans (.trans (.noteInc p t _ _ _) (.setCore (f := F.CORE_ISSUE_GROUPS) _ (by decide) (by decide)))
  · exact hset

theorem State.PairOnly.toIssue (s : State) (w : WOp) (o : IOp) : State.PairOnly w.pair s (s.toIssue w o) := by
  have hck : State.PairOnly w.pair s
      (if (!(s.pair w.pair).joins o w && !(s.pair w.pair).inLr) && (s.pair w.pair).ckWait then s.checkpointNow w.pair else s) := by
    split
    · exact .checkpointNow w.pair s
    · exact .refl w.pair s
  exact hck.trans (.groupBegins w.pair _ _ _ _)

/-! ### A fetch without a fault -/

theorem State.PairOnly.tlbLook {s u : State} {p va asid : Nat} {e : TlbE} (h : s.tlbLook p va asid = (u, .inr e)) :
    State.PairOnly p s u := by
  unfold State.tlbLook at h
  split at h
  · cases h
    exact .setPair rfl rfl
  · have hcount : State.PairOnly p s (s.satF (pgMMU (p / 2)) (F.MMU_STAT_WALKS (p % 2))) :=
      .trans (.noteInc p _ _ _ _) (.setMmu _ (by simp only [F.MMU_STAT_WALKS]; omega) (by simp only [F.MMU_STAT_WALKS]; omega))
    refine hcount.trans ?_
    unfold State.tlbMiss at h
    dsimp only at h
    split at h
    · cases h
      exact .setPair rfl rfl
    · cases h
    · cases h

theorem State.PairOnly.translate {s u : State} {p va kind pa : Nat} {user : Bool} (h : s.translate p va kind user = (u, .inr pa)) :
    State.PairOnly p s u := by
  unfold State.translate at h
  split at h
  · unfold State.translateOn at h
    split at h
    · cases h
    · next hlook =>
      split at h
      · cases h
        exact .tlbLook hlook
      · cases h
  · unfold State.translateOff at h
    split at h
    · cases h
      exact .refl p s
    · cases h

theorem State.PairOnly.fetchAt {s u : State} {p pc len : Nat} {user : Bool} (h : s.fetchAt p pc len user = (u, none)) :
    State.PairOnly p s u := by
  unfold State.fetchAt at h
  split at h
  · cases h
  · next hfirst =>
    split at h
    · cases h
    · next hlast =>
      cases h
      exact (State.PairOnly.translate hfirst).trans (.translate hlast)

/-- What an instruction's effect starts from, by the state in which it is commanded. -/
theorem State.Issues.pairOnly {s : State} {w : WOp} {o : IOp} (h : s.Issues w o) : State.PairOnly w.pair s (s.atIssue w o) :=
  (State.PairOnly.toIssue s w o).trans (.fetchAt (Prod.ext rfl h.fetch))

/-! ### The end of an instruction -/

/-- The end of an instruction changes the PC, and LC0 at a loop end (R264, R265). -/
theorem State.advance_regs (s : State) (p pc next : Nat) (jump : Option Nat) :
    let t := s.advance p pc next jump
    let r := (s.pair p).r
    let r' := (t.pair p).r
    State.PairOnly p s t ∧ r' = { r with pc := r'.pc, lc0 := r'.lc0, lc0e := r'.lc0e } ∧ (t.pair p).pw = (s.pair p).pw := by
  refine ⟨.setPair rfl rfl, ?_, ?_⟩
  · unfold State.advance
    simp only [State.pair_setPair]
    split <;> rfl
  · simp only [State.advance, State.pair_setPair]

/-- Both ends of an instruction that changes nothing but registers. -/
theorem State.ends_register {s t : State} {w : WOp} {o : IOp} {ws : List (Nat × Nat × Nat)} {a : Nat}
    (ht : t ∈ [s.done w o ws, s.jumps w o (s.atIssue w o) ws a]) : ∃ (g : Option Grp) (jump : Option Nat),
      let c := s.ctxOf w o
      let x := (s.atIssue w o).pair w.pair
      t = ((s.atIssue w o).setPair w.pair { x with pw := addWrites c.d ws x.pw, grp := g }).advance w.pair c.pc c.next jump := by
  rcases List.mem_pair.mp ht with rfl | rfl
  · exact ⟨_, none, rfl⟩
  · exact ⟨((s.atIssue w o).pair w.pair).grp, some a, rfl⟩

/-- Settles O60: the frame by what issuing and the end of an instruction change, and the writes one part of the registers at a time. -/
theorem instructionFrame : Obligations.InstructionFrame := by
  unfold Obligations.InstructionFrame
  refine ⟨?frame, ?writes⟩
  case frame =>
    intro s w o ws a h t ht r r'
    obtain ⟨g, jump, rfl⟩ := State.ends_register ht
    let c := s.ctxOf w o
    let x := (s.atIssue w o).pair w.pair
    let u := (s.atIssue w o).setPair w.pair { x with pw := addWrites c.d ws x.pw, grp := g }
    have hset : State.PairOnly w.pair (s.atIssue w o) u := .setPair rfl rfl
    obtain ⟨hend, hr, hpw⟩ := u.advance_regs w.pair c.pc c.next jump
    obtain ⟨hrest, hothers, hregs, hsb, hlongs⟩ := h.pairOnly.trans (hset.trans hend)
    have hpart : ∀ {α : Type} (f : State → α), f (State.pairFrame _) = f (State.pairFrame _) := fun f => congrArg f hrest
    rw [State.pair_setPair] at hr hpw
    exact ⟨hpart State.mem, hothers, hregs, hr, hpw, hsb, hlongs, hpart State.bus, hpart State.time, hpart State.lath, hpart State.loop,
      hpart State.edge, hpart State.link, hpart State.samp, hpart State.pwr, hpart State.fcst, hpart State.klog, hpart State.mm,
      hpart State.dep, hpart State.fire, hpart State.grp, hpart State.mon, hpart State.tap, hpart State.pending, hpart State.tick⟩
  case writes =>
    intro r k v hk z
    exact ⟨fun j _ hj => r.write_gr k v hj, fun j _ hj => r.write_ar k v hj, fun j _ hj => r.write_am k v hj,
      fun j hj => r.write_psw_bit k v hj, r.write_nzcv k v, r.write_sat k v, r.write_lc0 k v, r.write_lc0e k v,
      r.write_lc1 k v hk, r.write_rest k v⟩

end Sys2Proof.Machine
end

section
/-! SUPPORT. O44: lockstep, rollback, checkpoints and the results of long units (R253, R254, R267, R351 to R354). -/

namespace Sys2Proof.Machine

/-! ### Mismatches (R253, R354) -/

/-- The mismatch as the checker records it: its count and place, its condition and its source. -/
def State.misRecorded (s : State) (p whr : Nat) : State :=
  let b := pgCORE p
  (((s.satF b F.CORE_LSTEP_MISMATCH).setF b F.CORE_LSTEP_WHERE whr).pulse b 0).pairSource p 0

/-- The state after the record, with the access in flight logged, and the mismatch noted in the pair. -/
def State.misNoted (s : State) (p whr : Nat) : State :=
  let u := s.misRecorded p whr
  (u.logMade p).setPair p { (u.logMade p).pair p with lastMis := some u.tick }

/-- Whether the last mismatch lies 10 ms back at most. -/
def PairSt.misAgain (x : PairSt) (now : Nat) : Bool :=
  match x.lastMis with
  | some t => decide (now ≤ t + 20000000)
  | none => false

theorem PairSt.misAgain_iff (x : PairSt) (now : Nat) : x.misAgain now = true ↔ ∃ t, x.lastMis = some t ∧ now ≤ t + 20000000 := by
  unfold PairSt.misAgain
  cases x.lastMis <;> simp

/-- The pair goes back to its checkpoint: what it holds on buses is dropped. -/
def State.rollBack (s : State) (p : Nat) : State :=
  let w : State := { s with bus.held := s.bus.held.filter fun a => a.req != reqPair p }
  w.setPair p { w.pair p with rolling := some w.tick, unb := none, inLr := false, lrs := {} }

theorem State.logMade_tick (s : State) (p : Nat) : (s.logMade p).tick = s.tick := by
  unfold State.logMade
  split
  · unfold State.logAccess
    dsimp only
    split <;> rfl
  · rfl

/-- A mismatch of a pair that is alive: a second one soon, or one in replay, hands the pair over. -/
theorem State.lockstepMismatch_alive {s : State} {p : Nat} (whr : Nat) (h : s.pairAlive p = true) :
    s.lockstepMismatch p whr =
      if (s.pair p).misAgain (s.misRecorded p whr).tick = true ∨ (!(s.pair p).replay.isEmpty) = true then (s.misNoted p whr).handOver p
      else (s.misNoted p whr).rollBack p := by
  have hnoted : s.misNoted p whr = ((s.misRecorded p whr).logMade p).setPair p { ((s.misRecorded p whr).logMade p).pair p with
      lastMis := some ((s.misRecorded p whr).logMade p).tick } := by
    rw [State.logMade_tick]
    rfl
  rw [hnoted]
  unfold State.lockstepMismatch
  rw [if_neg (by simp [h])]
  rfl

/-- The access in flight whose response has come enters the log (R351). -/
theorem State.logMade_appends {s : State} {p : Nat} {e : LogE} {q : BusResp} (hflight : (s.pair p).inFlight = some e)
    (hresp : SMap.get? s.bus.resp p = some q) (hthawed : (s.pair p).logFrozen = false) (hreplay : (s.pair p).replay = [])
    (hroom : (s.pair p).log.length < 1024) : ((s.logMade p).pair p).log = (s.pair p).log ++ [e.answer q] := by
  simp only [State.logMade, hflight, hresp, State.logAccess, hthawed, hreplay]
  rw [if_neg (by simp; omega), State.pair_setLog]

/-! ### Checkpoints (R254, R353) -/

/-- A checkpoint is due 50 us after the last, or at a boundary of the generator that the pair follows. -/
theorem State.ckptDue_iff (s : State) (p : Nat) :
    s.ckptDue p = true ↔
      (s.flag (pgCORE p) F.CORE_CKPT_GVALID = false ∧ (s.pair p).ckAt + 100000 ≤ s.tick) ∨
      (s.flag (pgCORE p) F.CORE_CKPT_GVALID = true ∧ s.genRuns (p / 2) (s.getF (pgCORE p) F.CORE_CKPT_GEN) = true ∧
        (s.pair p).ckAt < (s.gen (p / 2) (s.getF (pgCORE p) F.CORE_CKPT_GEN)).origin) := by
  unfold State.ckptDue
  dsimp only
  cases s.flag (pgCORE p) F.CORE_CKPT_GVALID <;> simp

section
variable {s : State} {p : Nat} (halive : s.pairAlive p = true) (hmcl : (s.pair p).r.mcl = false) (hbound : s.atBoundary p = true)
  (hreplay : (s.pair p).replay = [])
include halive hmcl hbound hreplay

theorem State.ckptWanted_iff : s.ckptWanted p = true ↔ s.ckptDue p = true ∨ 1008 ≤ (s.pair p).log.length := by
  simp [State.ckptWanted, halive, hmcl, hbound, hreplay]

theorem State.checkpoint_due (hdue : s.ckptDue p = true) (hgrp : (s.pair p).grp = none) : s.checkpoint p = s.takeCheckpoint p := by
  have hwanted := (State.ckptWanted_iff halive hmcl hbound hreplay).mpr (.inl hdue)
  simp [State.checkpoint, State.checkpointNow, hwanted, hdue, hgrp]

/-- Inside a group the checkpoint waits for the group's end (log entry 67). -/
theorem State.checkpoint_waits (hdue : s.ckptDue p = true) (hgrp : (s.pair p).grp ≠ none) :
    s.checkpoint p = s.setPair p { s.pair p with ckWait := true } := by
  have hwanted := (State.ckptWanted_iff halive hmcl hbound hreplay).mpr (.inl hdue)
  simp [State.checkpoint, hwanted, Option.isSome_iff_ne_none.mpr hgrp]

theorem State.checkpoint_forced (hdue : s.ckptDue p = false) (hlog : 1008 ≤ (s.pair p).log.length) (hgrp : (s.pair p).grp = none) :
    s.checkpoint p = ((s.setPair p (s.pair p).drain).takeCheckpoint p).satF (pgCORE p) F.CORE_RLOG_FORCED := by
  have hwanted := (State.ckptWanted_iff halive hmcl hbound hreplay).mpr (.inr hlog)
  simp [State.checkpoint, State.checkpointNow, hwanted, hdue, hgrp]

end

/-- The pair after a checkpoint: its registers as they will stand, and an empty log. -/
theorem State.takeCheckpoint_pair (s : State) (p : Nat) : (s.takeCheckpoint p).pair p = { s.pair p with
    ck := (s.pair p).drain.r, ckAt := s.tick, log := [], groups := 0, ckWait := false
    longs := (s.pair p).longs.map fun o => { o with inCk := true } } :=
  State.pair_setLog _ _ _

/-! ### Results of long units (R254, R267) -/

/-- The L registers with the results of operation `o`. -/
def LongOp.putTo (o : LongOp) (l : List Nat) : List Nat := o.results.foldl (fun l e => l.set e.1 (e.2 % 2 ^ 32)) l

/-- The first operation is ready, and no other: its results reach the L registers, and those of the checkpoint that found it pending. -/
theorem State.longResult_first {s : State} {p : Nat} {o : LongOp} {rest : List LongOp} (hlongs : (s.pair p).longs = o :: rest)
    (hready : o.ready ≤ s.coreCycle p) (hrest : ∀ q ∈ rest, s.coreCycle p < q.ready) :
    s.longResult p = s.setPair p { s.pair p with
      r := { (s.pair p).r with l := o.putTo (s.pair p).r.l }
      ck := if o.inCk then { (s.pair p).ck with l := o.putTo (s.pair p).ck.l } else (s.pair p).ck
      longs := rest } := by
  have hdue : (s.pair p).longs.filter (fun e => decide (e.ready ≤ s.coreCycle p)) = [o] := by
    have hnone : rest.filter (fun e => decide (e.ready ≤ s.coreCycle p)) = [] :=
      List.filter_eq_nil_iff.mpr fun q hq => by simpa using hrest q hq
    rw [hlongs, List.filter_cons_of_pos (by simpa using hready), hnone]
  have hleft : (s.pair p).longs.filter (fun e => !decide (e.ready ≤ s.coreCycle p)) = rest := by
    rw [hlongs, List.filter_cons_of_neg (by simpa using hready)]
    exact List.filter_eq_self.mpr fun q hq => by simpa using hrest q hq
  unfold State.longResult
  simp only [hdue, hleft]
  cases hck : o.inCk with
  | false =>
    simp only [List.filter_cons, hck, List.filter_nil]
    rfl
  | true =>
    simp only [List.filter_cons, hck, List.filter_nil]
    rfl

end Sys2Proof.Machine
end

section
/-! SUPPORT. O44: the store buffer, the response of an unbuffered access, a broken lock, HOLD and RST, and fetches that fail (R268, R279 to
R281, R285, R287, R402). -/

namespace Sys2Proof.Machine

/-! ### The store buffer (R268) -/

/-- The oldest buffered store goes to memory that takes it. -/
theorem State.drainOne_writes {s : State} {p : Nat} {e : SbE} {rest : List SbE} (hsb : (s.pair p).sb = e :: rest)
    (hthawed : s.memFrozen e.addr = false) (hgate : s.gateShut (p / 2) = false)
    (hon : (s.setPair p { s.pair p with sb := rest }).memOn e.addr = true) (himage : imageStore e.addr = false)
    (hrole : 0x15000000 ≤ e.addr ∨ (s.setPair p { s.pair p with sb := rest }).role ((e.addr - 0x10000000) / 0x200000) = 0) :
    s.drainOne p = (s.setPair p { s.pair p with sb := rest }).writeMem e.addr (toBytes e.data e.size) := by
  have hactive : ¬(e.addr < 0x15000000 ∧ (s.setPair p { s.pair p with sb := rest }).role ((e.addr - 0x10000000) / 0x200000) ≠ 0) := by
    rintro ⟨hlt, hne⟩
    exact hrole.elim (fun hle => absurd hlt (Nat.not_lt.mpr hle)) hne
  simp only [State.drainOne, hsb, hthawed, hgate, Bool.or_self, Bool.false_eq_true, if_false, State.drainStore, hon, Bool.not_true,
    if_neg hactive, himage]

/-! ### The response of an unbuffered access (R268, R270) -/

section
variable {s : State} {p v : Nat} {u : Unb} (hunb : (s.pair p).unb = some u)
include hunb

/-- A bus error raises the machine check of the access (R280). -/
theorem State.dataResponse_error (hresp : u.resp = some ⟨true, v⟩) :
    s.dataResponse p = ((s.setPair p { s.pair p with unb := none }).mchk ⟨p, (s.pair p).r.pc, u.next, u.len, u.slot, (s.pair p).dist, false⟩
      u.mcc u.va u.write (u.low.2 != 0)).1.stepped p := by
  simp only [State.dataResponse, hunb, hresp, Option.isSome_some, if_true]

/-- Behind the lower half of an access the upper one is sent. -/
theorem State.dataResponse_upper {h : Unb} (hresp : u.resp = some ⟨false, v⟩) (hupper : u.upper v = some h) :
    let z := s.setPair p { s.pair p with unb := none }
    (∀ g, (z.sendUnb p h).2 = some g → s.dataResponse p = (z.sendUnb p h).1.setPair p { (z.sendUnb p h).1.pair p with unb := some g }) ∧
    ((z.sendUnb p h).2 = none → s.dataResponse p = (z.sendUnb p h).1) := by
  intro z
  refine ⟨fun g hg => ?_, fun hn => ?_⟩
  · have hsent : z.sendUnb p h = ((z.sendUnb p h).1, some g) := Prod.ext rfl hg
    simp only [State.dataResponse, hunb, hresp, Option.isSome_some, if_true, hupper, Bool.false_eq_true, if_false]
    rw [hsent]
  · have hsent : z.sendUnb p h = ((z.sendUnb p h).1, none) := Prod.ext rfl hn
    simp only [State.dataResponse, hunb, hresp, Option.isSome_some, if_true, hupper, Bool.false_eq_true, if_false]
    rw [hsent]

/-- The last response of an access that is no CAS: a load writes its destination, and the instruction ends. -/
theorem State.dataResponse_ends (hresp : u.resp = some ⟨false, v⟩) (hupper : u.upper v = none) (hlock : u.lock ≠ 2) :
    let x := s.pair p
    let z := s.setPair p { x with unb := none }
    let c : Ctx := ⟨p, x.r.pc, u.next, u.len, u.slot, x.dist, false⟩
    let all := u.low.1 + 2 ^ (8 * u.low.2) * v
    let y := if u.dest < 32 then z.loadInto c u.whole.2 u.dest u.signed all else z
    s.dataResponse p =
      ((y.baseInto c u.base).noteWatch p u.whole.1 u.whole.2 (!u.write || u.lock != 0) u.write).finishPc p x.r.pc u.next none := by
  intro x z c all y
  simp only [State.dataResponse, hunb, hresp, Option.isSome_some, if_true, hupper, Bool.false_eq_true, if_false, if_neg hlock]
  rfl

end

/-! ### A broken lock (R281) -/

/-- The vector of a broken lock is entered at a boundary outside an exception. -/
theorem State.lockBrokenEntry_enters {s : State} {p : Nat} (hbrk : (s.pair p).brkDue = true) (hexl : (s.pair p).r.exl = false)
    (halive : s.pairAlive p = true) (hbound : s.atBoundary p = true) (hhalt : s.halted p = false) :
    let z := s.setPair p { s.pair p with brkDue := false }
    s.lockBrokenEntry p = (z.exception p { vec := 0x0A0 } (s.pair p).r.pc).setFlag (pgCORE p) F.CORE_STAT_WAITING false := by
  simp only [State.lockBrokenEntry, hbrk, hexl, halive, hbound, hhalt, Bool.not_false, Bool.and_self, Bool.true_or, if_true]

theorem State.pair_setFlag (s : State) (b : Nat) (f : Fld) (v : Bool) (p : Nat) : (s.setFlag b f v).pair p = s.pair p := rfl

/-- What the pair is in the vector of a broken lock (R278, R281). -/
theorem exec_lockBrokenEntry {s : State} {p : Nat} (hbrk : (s.pair p).brkDue = true) (hexl : (s.pair p).r.exl = false)
    (halive : s.pairAlive p = true) (hbound : s.atBoundary p = true) (hhalt : s.halted p = false) (hstep : (s.pair p).stepping = false) :
    ∃ t, exec (.lockBrokenEntry p) s = .next t ∧ (t.pair p).r.pc = 0x0A0 ∧ (t.pair p).r.exl = true ∧ (t.pair p).r.mode = 1 ∧
      (t.pair p).r.sys48 0x00 = (s.pair p).r.pc % 2 ^ 48 ∧ (t.pair p).brkDue = false := by
  let z := s.setPair p { s.pair p with brkDue := false }
  have hz : z.pair p = { s.pair p with brkDue := false } := State.pair_setPair _ _ _
  have hout : (z.pair p).drain.r.exl = false := by
    rw [PairSt.drain_exl, hz]
    exact hexl
  have hentry := State.lockBrokenEntry_enters hbrk hexl halive hbound hhalt
  have hpair : ((s.lockBrokenEntry p).pair p) = { (z.pair p).drain with
      r := (z.pair p).drain.r.vectorEntry { vec := 0x0A0 } (s.pair p).r.pc, unb := none, inLr := false } := by
    rw [hentry, State.pair_setFlag, State.exception_enters _ hout rfl, State.pair_setPair]
  have hbrk' : ((s.lockBrokenEntry p).pair p).brkDue = false := by
    rw [hpair, hz]
    rfl
  have hstep' : ((s.lockBrokenEntry p).pair p).stepping = false := by
    rw [hpair, hz]
    exact hstep
  refine ⟨s.lockBrokenEntry p, congrArg Host.Outcome.next ?_, ?_, ?_, ?_, ?_, hbrk'⟩
  · simp only [hbrk', State.stepped, hstep', Bool.false_eq_true, if_false, ite_self]
  · rw [hpair]
    rfl
  · rw [hpair]
    exact (entryPsw_shows _).1
  · rw [hpair]
    exact (entryPsw_shows _).2
  · rw [hpair]
    exact (Regs.vectorEntry_saves _ _ _).1

/-! ### HOLD and RST (R285, R287, R402) -/

theorem pageCORE_slots (p : Nat) : ((pageCORE p).slots 0x40).isSome = true := by
  rw [Page.slots_kind]
  exact all_below (f := fun i => ((⟨.core, 0, i, 0⟩ : Page).slots 0x40).isSome) (m := 2) (by decide) (Nat.mod_lt _ (by decide))

/-- CORE_CTRL written with what it changes: the write reaches the pair's page, whose lock is open. -/
theorem exec_coreCtrl {s u : State} {req p v : Nat} (h : s.Writes (pageCORE p) 0x40 req v)
    (hw : s.wCORE (pageCORE p) 0x40 (s.wrOf (pageCORE p) req v) = (u, 0)) :
    s.busWrite req (pgCORE p + 0x40) 4 v = u.wrote (pageCORE p) 0x40 req v :=
  h.plain rfl (by have := pgCORE_aligned p; omega) (by decide) (by decide) (pageCORE_slots p) rfl hw (by decide)

theorem pageCORE_pair (p : Nat) : 2 * (pageCORE p).owner + (pageCORE p).inst = p := Nat.div_add_mod p 2

/-- A write that changes HOLD, with RST 0. -/
theorem State.wCORE_hold {s : State} {req p v : Nat} {hold : Bool} (hopen : s.lockOpen (pageCORE p) req = true) (hv : bit v 0 = hold)
    (hrst : bit v 1 = false) (hchanged : s.flag (pgCORE p) F.CORE_CTRL_HOLD ≠ hold) :
    s.wCORE (pageCORE p) 0x40 (s.wrOf (pageCORE p) req v) = ((s.setFlag (pgCORE p) F.CORE_CTRL_HOLD hold).holdPair p hold, 0) := by
  simp only [State.wCORE, State.wrOf, Wr.act, hopen, hv, hrst, pageCORE_pair, if_true, Bool.false_eq_true, if_false]
  exact if_neg hchanged.symm

/-- A write that sets RST, with HOLD as it stands. -/
theorem State.wCORE_reset {s : State} {req p v : Nat} (hopen : s.lockOpen (pageCORE p) req = true)
    (hv : bit v 0 = s.flag (pgCORE p) F.CORE_CTRL_HOLD) (hrst : bit v 1 = true) :
    s.wCORE (pageCORE p) 0x40 (s.wrOf (pageCORE p) req v) = ((s.resetPair p).satF pgRSTC F.RSTC_CNT_PAIR, 0) := by
  have hkept : bit v 0 = s.flag (pageCORE p).base F.CORE_CTRL_HOLD := hv
  simp only [State.wCORE, State.wrOf, Wr.act, hopen, hrst, pageCORE_pair, if_true, andThen, if_pos hkept]
  rfl

/-! ### Fetches that fail (R279, R280, R314) -/

section
variable {s : State} {p : Nat} (hruns : s.pairRuns p = true) (hidle : (s.pair p).unb = none)
include hruns hidle

/-- A fetch block with a bus error. -/
theorem execFetchResponse_busError :
    execFetchResponse p 1 s = .next ((s.machineCheck p 2 { vec := 0x010 } (s.pair p).r.pc).stepped p) := by
  simp only [execFetchResponse, hruns, hidle, Option.isSome_none, Bool.not_true, Bool.false_eq_true, or_self, Nat.one_ne_zero,
    if_false, if_true]

/-- A fetch block with an uncorrectable word of memory. -/
theorem execFetchResponse_uncorrectable {u : State} {pa : Nat}
    (htrans : s.translate p (s.pair p).r.pc 0 ((s.pair p).r.mode == 0) = (u, .inr pa)) (hmem : isMemory pa = true) :
    execFetchResponse p 2 s = .next (((u.countUE pa).machineCheck p 4 { vec := 0x010 } (s.pair p).r.pc).stepped p) := by
  have hany : ¬(2 = 0 ∨ (!s.pairRuns p) = true ∨ (s.pair p).unb.isSome = true) := by simp [hruns, hidle]
  have htwo : ¬(2 = 1) := by decide
  simp only [execFetchResponse, if_neg hany, if_neg htwo, htrans, hmem, if_true]

end

/-- Settles O44: each event of a pair by what the model's operation makes of it. -/
theorem pairEvents : Obligations.PairEvents := by
  unfold Obligations.PairEvents
  refine ⟨?mismatch, ?inFlight, ?rollback, ?checkpoint, ?taken, ?result, ?drain, ?response, ?broken, ?hold, ?fetch⟩
  case mismatch =>
    intro s p whr b x u m v w halive
    have hmis := State.lockstepMismatch_alive whr halive
    refine ⟨fun hreplay hfirst => congrArg Host.Outcome.next (hmis.trans (if_neg ?_)),
      fun hagain => congrArg Host.Outcome.next (hmis.trans (if_pos ?_))⟩
    · rw [PairSt.misAgain_iff]
      rintro (⟨t, ht, hle⟩ | hlog)
      · exact absurd (hfirst t ht) (Nat.not_lt.mpr hle)
      · exact absurd hlog (by simp [x, hreplay])
    · rw [PairSt.misAgain_iff]
      exact hagain.elim (fun hreplay => .inr (by simpa using hreplay)) .inl
  case inFlight =>
    intro s p e q x hflight hresp hthawed hreplay hroom
    exact State.logMade_appends hflight hresp hthawed hreplay hroom
  case rollback =>
    intro s p since b x y hrolling
    refine congrArg Host.Outcome.next ?_
    simp only [State.rollbackComplete, x, hrolling]
    rfl
  case checkpoint =>
    intro s p b x g due halive hmcl hbound hreplay
    have hdue : s.ckptDue p = true ↔ due := s.ckptDue_iff p
    refine ⟨fun h hgrp => ?_, fun h hgrp => ?_, fun h hlog hgrp => ?_⟩
    · exact congrArg Host.Outcome.next (State.checkpoint_due halive hmcl hbound hreplay (hdue.mpr h) hgrp)
    · exact congrArg Host.Outcome.next (State.checkpoint_waits halive hmcl hbound hreplay (hdue.mpr h) hgrp)
    · have hnot : s.ckptDue p = false := Bool.eq_false_iff.mpr (mt hdue.mp h)
      exact congrArg Host.Outcome.next (State.checkpoint_forced halive hmcl hbound hreplay hnot hlog hgrp)
  case taken =>
    intro s p x y
    have hy : y = _ := s.takeCheckpoint_pair p
    rw [hy]
    exact ⟨rfl, rfl, rfl, rfl, rfl⟩
  case result =>
    intro s p o rest x put hlongs hready hrest
    exact congrArg Host.Outcome.next (State.longResult_first hlongs hready hrest)
  case drain =>
    intro s p e rest hsb u hthawed hgate hon himage hrole
    exact congrArg Host.Outcome.next (State.drainOne_writes hsb hthawed hgate hon himage hrole)
  case response =>
    intro s p u v x z c hunb
    refine ⟨fun hresp => ?_, fun hresp h hupper => ?_, fun hresp hupper hlock => ?_⟩
    · exact congrArg Host.Outcome.next (State.dataResponse_error hunb hresp)
    · obtain ⟨hsent, hdropped⟩ := State.dataResponse_upper hunb hresp hupper
      exact ⟨fun g hg => congrArg Host.Outcome.next (hsent g hg), fun hn => congrArg Host.Outcome.next (hdropped hn)⟩
    · intro all reads
      have hends := State.dataResponse_ends hunb hresp hupper hlock
      refine ⟨fun hdest => congrArg Host.Outcome.next (hends.trans ?_), fun hdest => congrArg Host.Outcome.next (hends.trans ?_)⟩
      · rw [if_pos hdest]
      · rw [if_neg (Nat.not_lt.mpr hdest)]
  case broken =>
    intro s p x hbrk hexl halive hbound hhalt hstep
    exact exec_lockBrokenEntry hbrk hexl halive hbound hhalt hstep
  case hold =>
    intro s req p v hold pg b old hwrites hopen
    refine ⟨fun hv hhold hrst hchanged => ?_, fun hv hhold hrst => ?_⟩
    · subst hv
      exact congrArg Host.Outcome.next (exec_coreCtrl hwrites (State.wCORE_hold hopen hhold hrst hchanged))
    · subst hv
      exact congrArg Host.Outcome.next (exec_coreCtrl hwrites (State.wCORE_reset hopen hhold hrst))
  case fetch =>
    intro s p hruns hidle x
    exact ⟨congrArg Host.Outcome.next (if_pos (.inl rfl)), execFetchResponse_busError hruns hidle,
      fun u pa htrans hmem => execFetchResponse_uncorrectable hruns hidle htrans hmem⟩

end Sys2Proof.Machine
end
